-- ==== Sys2Proof/Word.lean ====
section
/-! DEFINITION. The word types of the device: a 28-bit register value (R10), the 32-bit word of an in-memory format
(R13), a byte, a 16-bit Awl cell and the 56-bit time base, and the plainest readings of their bits. -/
namespace Sys2Proof

/-- The value of a register: every register is 28 bits wide (R10). -/
abbrev RegVal := BitVec 28
/-- A word of an in-memory format or of a command packet (R13, R383). -/
abbrev Word := BitVec 32
/-- One byte of memory. -/
abbrev Byte := BitVec 8

/-- Bits `hi` down to `lo` of a natural number. -/
def nbits (v hi lo : Nat) : Nat := v / 2 ^ lo % 2 ^ (hi + 1 - lo)

/-- Bit `b` of a natural number. -/
def nbit (v b : Nat) : Bool := v / 2 ^ b % 2 == 1

/-- 1 for true, 0 for false. -/
def b2n (b : Bool) : Nat := if b then 1 else 0

/-- The value of an `n`-bit two's complement number held in the low `n` bits. -/
def signed (n v : Nat) : Int := if v % 2 ^ n < 2 ^ (n - 1) then (v % 2 ^ n : Nat) else (v % 2 ^ n : Nat) - (2 ^ n : Nat)

/-- The low `n` bits of a two's complement number. -/
def unsignedOf (n : Nat) (i : Int) : Nat := (i % (2 ^ n : Nat)).toNat

/-- `i` limited to the range `lo` to `hi`. -/
def clampInt (lo hi i : Int) : Int := if i < lo then lo else if i > hi then hi else i

/-- `v` limited to the range `lo` to `hi`. -/
def clampNat (lo hi v : Nat) : Nat := if v < lo then lo else if v > hi then hi else v

/-- Division rounded up. -/
def ceilDiv (a b : Nat) : Nat := (a + b - 1) / b

end Sys2Proof
end

