-- ==== Sys2Proof/Syntax.lean ====
section
/-! DEFINITION. The commands the block takes from outside: accesses to its registers and memory, Tongue packets, debug
frames, the beam, fabric and pin events, and the Awl and Skiver instructions its own engines fetch. One constructor per
row of spec/opcode_table.json; its operands are what the spec's rules read of that command. -/
namespace Sys2Proof

/-- A source of Tongue packets (R394). -/
inductive Src where
  | pcie | serial
  | core (n : Fin 4)
  | welt (ctx : Fin 2048)
  deriving DecidableEq, Repr

/-- A command packet without its opcode (R380): the fields of words 0 and 1, and words 2 onward. -/
structure Packet where
  tag : BitVec 8
  loc : Bool
  target : BitVec 11
  ukind : BitVec 6
  uindex : BitVec 10
  body : List Word
  deriving DecidableEq, Repr

/-- LENGTH of a packet (R380): every word, words 0 and 1 included. -/
def Packet.len (p : Packet) : Nat := 2 + p.body.length

/-- Word `i` of a packet, for `i` of 2 and above; a word past its end reads as 0. -/
def Packet.w (p : Packet) (i : Nat) : Nat := ((p.body[i - 2]?).getD 0#32).toNat

/-- The unit selector of a packet, as word 1 carries it (R380). -/
def Packet.sel (p : Packet) : Nat := p.ukind.toNat * 1024 + p.uindex.toNat

/-- The sources that assert a reset of cold or warm reach (R423). -/
inductive ResetSrc where
  | por | supcold | fatalCold | cmdcold
  | fatalWarm | supwarm | devwdt | cmdwarm | pin
  deriving DecidableEq, Repr

/-- What wakes the device from NAP or STOW (R449). -/
inductive WakeSrc where
  | ewake | alarm | tcs | dbg | pcie
  deriving DecidableEq, Repr

/-- How a GDDR7 burst ends: clean, after a link retry, failed after its retries (R288), corrected, or uncorrectable (R292). -/
inductive BurstEnd where
  | clean | retried | failed | corrected | uncorrectable
  deriving DecidableEq, Repr

/-- What comes with a command that accesses memory or registers: how its GDDR7 bursts end, in order (each one not listed is
clean), and each head's beam position (x, y) of R8, HD0's first (arms and a debug resume need them, R181, R186). -/
structure Env where
  ends : List BurstEnd
  beam : List (Nat × Nat)
  deriving DecidableEq, Repr

/-- A Welt packet (R339): its header fields and payload words; LEN is the header's field. -/
structure WeltPkt where
  kind : BitVec 4
  hop : BitVec 5
  dest : BitVec 11
  dflow : BitVec 11
  src : BitVec 11
  first : Bool
  last : Bool
  seq : BitVec 12
  len : BitVec 7
  payload : List Word
  deriving DecidableEq, Repr

/-- Word `i` of a packet's payload; a word past its end reads as 0. -/
def WeltPkt.w (p : WeltPkt) (i : Nat) : Nat := ((p.payload[i]?).getD 0#32).toNat

/-- The commands of the block, one constructor per row of spec/opcode_table.json. -/
inductive Instr where
  /-- REG_READ (R389): Tongue command that reads one register by index and returns its value. -/
  | regRead (src : Src) (p : Packet) (e : Env)
  /-- REG_WRITE (R389): Tongue command that writes one register under the owner check. -/
  | regWrite (src : Src) (p : Packet) (e : Env)
  /-- REG_MODIFY (R390): Tongue command that reads a register and writes back a masked merge with no access in between. -/
  | regModify (src : Src) (p : Packet) (e : Env)
  /-- REG_BURST_READ (R389): Tongue command that reads COUNT registers at ascending or fixed indices. -/
  | regBurstRead (src : Src) (p : Packet) (e : Env)
  /-- REG_BURST_WRITE (R389): Tongue command that writes a run of registers at ascending or fixed indices. -/
  | regBurstWrite (src : Src) (p : Packet) (e : Env)
  /-- MEM_READ (R392): Tongue command that reads COUNT words of system memory as master 0x16. -/
  | memRead (src : Src) (p : Packet) (e : Env)
  /-- MEM_WRITE (R392): Tongue command that writes data words to system memory, register-window words under R391. -/
  | memWrite (src : Src) (p : Packet) (e : Env)
  /-- ECHO (R393): Tongue command that returns its own payload with status DONE. -/
  | echo (src : Src) (p : Packet) (e : Env)
  /-- IDLE_WORD (R383): A zero word where a packet would begin is consumed with no reply. -/
  | idleWord (src : Src) (w : Word) (e : Env)
  /-- BAD_OPCODE (R387): A complete packet whose OPCODE is not implemented is answered 0x10. -/
  | badOpcode (op : BitVec 8) (src : Src) (p : Packet) (e : Env)
  /-- COMMAND_FORWARD (R404): A packet for another device is forwarded on a transmitting COMMAND context or answered 0x15. -/
  | commandForward (op : BitVec 8) (src : Src) (p : Packet) (e : Env)
  /-- FORWARD_TIMEOUT (R404): A forwarded packet gets no first reply within FWDTMO and is answered 0x15 with word 2 set to 1. -/
  | forwardTimeout (src : Src)
  /-- COMMAND_REPLY_RECEIVE (R403): A Welt reply message is passed to the reply path of the source named by ORIGIN or discarded. -/
  | commandReplyReceive
  /-- COMMAND_MESSAGE_RECEIVE (R402): A Welt COMMAND message arrives on a receiving context and its packet enters Tongue as a source. -/
  | commandMessageReceive
  /-- REPLY_WRITE (R397): A waiting reply is written to a reply ring once room exists and RPROD advances. -/
  | replyWrite (src : Src) (e : Env)
  /-- RING_ENABLE (R398): A write of a ring EN bit enables the ring and zeroes its indices, or disables it and discards replies. -/
  | ringEnable (ring : Fin 5) (m : Fin 32) (v : BitVec 28) (e : Env)
  /-- RING_CPROD_WRITE (R398): A write of CPROD makes commands available or is refused when it overfills the ring. -/
  | ringCprodWrite (ring : Fin 5) (m : Fin 32) (v : BitVec 28) (e : Env)
  /-- RING_RCONS_WRITE (R398): A write of RCONS frees reply space or is refused. -/
  | ringRconsWrite (ring : Fin 5) (m : Fin 32) (v : BitVec 28) (e : Env)
  /-- SERIAL_PACKET_TIMEOUT (R400): A partial packet on the serial host port is discarded after TCS_N stays high 100 us. -/
  | serialPacketTimeout (n : Fin 4096)
  /-- OWNDATA_WRITE (R408): A write of TONGUE_OWNDATA sets a domain's OWNER and LOCK or is refused. -/
  | owndataWrite (m : Fin 32) (v : BitVec 28) (e : Env)
  /-- REGISTER_WRITE (R11): A write to a register that has no row of its own acts by its access type under the owner check. -/
  | registerWrite (i : BitVec 22) (m : Fin 32) (v : BitVec 28) (e : Env)
  /-- LAST_STAGE (R99): LAST_STAGE with MEM 0 writes packet data into a Last-store slot and answers DONE. -/
  | lastStage (src : Src) (p : Packet) (e : Env)
  /-- LAST_STAGE_COPY (R98): LAST_STAGE with MEM 1 accepts and starts a copy from system memory into a slot. -/
  | lastStageCopy (src : Src) (p : Packet) (e : Env)
  /-- LAST_STAGE_COPY_DONE (R98): A staging copy ends and its completion is sent with DONE, BAD_TARGET or FENCED. -/
  | lastStageCopyDone (slot : Fin 8) (e : Env)
  /-- LAST_RELEASE (R100): LAST_ADMIT with RELEASE 1 sets an ADMITTED slot to EMPTY or refuses. -/
  | lastRelease (src : Src) (p : Packet) (e : Env)
  /-- LAST_ADMIT (R101): LAST_ADMIT with RELEASE 0 accepts a STAGING slot and sets it CHECKING. -/
  | lastAdmit (src : Src) (p : Packet) (e : Env)
  /-- LAST_ADMIT_DONE (R102): The admission checks end and the completion reports status, slot becomes ADMITTED or STAGING. -/
  | lastAdmitDone
  /-- LAST_HD_SEL_WRITE (R111): A write of LAST_HDn_SEL sets NEXT and NEXTEN or is refused and sets ERR. -/
  | lastHdSelWrite (h : Fin 16) (m : Fin 32) (v : BitVec 28) (e : Env)
  /-- COMMIT_ARM (R180): Tongue command that arms a commit for a head set and sets PEND. -/
  | commitArm (src : Src) (p : Packet) (e : Env)
  /-- COMMIT_QUERY (R188): Tongue command that returns the frame of a head's last commit and PEND. -/
  | commitQuery (src : Src) (p : Packet) (e : Env)
  /-- CRC_EXPECT (R251): Tongue command that writes a shadow dynamic expectation for a check rectangle. -/
  | crcExpect (src : Src) (p : Packet) (e : Env)
  /-- CRC_EXPECT_CLEAR (R251): CRC_EXPECT with CLEAR 1 writes an invalid shadow expectation. -/
  | crcExpectClear (src : Src) (p : Packet) (e : Env)
  /-- PICTURE_REPORT (R254): Tongue command that returns the frozen report body of a head unsigned. -/
  | pictureReport (src : Src) (p : Packet) (e : Env)
  /-- PICTURE_REPORT_SIGNED (R254): PICTURE_REPORT with SIGN 1 accepts and starts signing the frozen report. -/
  | pictureReportSigned (src : Src) (p : Packet) (e : Env)
  /-- SIGNING_DONE (R256): The signing path finishes a report or attestation and sends its completion. -/
  | signingDone
  /-- IMAGE_VERIFY (R481): Tongue command that accepts verification of a signed image without loading. -/
  | imageVerify (src : Src) (p : Packet) (e : Env)
  /-- IMAGE_VERIFY_LOAD (R481): IMAGE_VERIFY with LOAD 1 on the boot path verifies a manifest and loads its entries. -/
  | imageVerifyLoad (src : Src) (p : Packet) (e : Env)
  /-- IMAGE_VERIFY_DONE (R481): A verification ends and its completion carries status, detail or identity. -/
  | imageVerifyDone (e : Env)
  /-- PROGRAM_START (R514): Tongue command that moves a STOPPED core to STARTING for image verification. -/
  | programStart (src : Src) (p : Packet) (e : Env)
  /-- PROGRAM_START_DONE (R515): Program verification ends; the core starts RUNNING from its header or returns to STOPPED. -/
  | programStartDone (n : Fin 4)
  /-- ATTEST (R484): Tongue command that snapshots the attestation body and starts signing it. -/
  | attest (src : Src) (p : Packet) (e : Env)
  /-- FAULT_READ (R695): Tongue command that returns FLT_SUM and a range of log entries. -/
  | faultRead (src : Src) (p : Packet) (e : Env)
  /-- FAULT_ACK (R696): Tongue command that clears UNACK bits, frees log entries and may lift fences. -/
  | faultAck (src : Src) (p : Packet) (e : Env)
  /-- FLT_ACK_WRITE (R696): A write of FLT_ACK acknowledges records as FAULT_ACK does. -/
  | fltAckWrite (m : Fin 32) (v : BitVec 28) (e : Env)
  /-- FAULT_FORCE (R694): A write of GO to FLT_FORCE1 makes a forced fault report. -/
  | faultForce (m : Fin 32) (v : BitVec 28) (e : Env)
  /-- CONTROLLED_STOP_END (R693): The controlled stop ends and the C4 reset source asserts. -/
  | controlledStopEnd
  /-- UNIT_RESET_PULSE (R430): UNIT_RESET with ACT 0b00 asserts a unit reset for 10 us and answers at release. -/
  | unitResetPulse (src : Src) (p : Packet) (e : Env)
  /-- UNIT_RESET_HOLD (R430): UNIT_RESET with ACT 0b01 asserts and keeps a unit reset. -/
  | unitResetHold (src : Src) (p : Packet) (e : Env)
  /-- UNIT_RESET_RELEASE (R430): UNIT_RESET with ACT 0b10 releases a held unit reset. -/
  | unitResetRelease (src : Src) (p : Packet) (e : Env)
  /-- UNIT_RESET_END (R431): A pulsed unit reset releases after 10 us and the unit restarts. -/
  | unitResetEnd (k : BitVec 6) (i : BitVec 10)
  /-- DEVICE_RESET_WARM (R432): DEVICE_RESET with REACH 0 replies and then asserts the CMDWARM source. -/
  | deviceResetWarm (src : Src) (p : Packet) (e : Env)
  /-- DEVICE_RESET_COLD (R432): DEVICE_RESET with REACH 1 replies and then asserts the CMDCOLD source. -/
  | deviceResetCold (src : Src) (p : Packet) (e : Env)
  /-- POWER_STATE_RUN (R447): POWER_STATE with TARGET RUN powers the role's SOLEG domains or leaves NAP. -/
  | powerStateRun (src : Src) (p : Packet) (e : Env)
  /-- POWER_STATE_DIM (R447): POWER_STATE with TARGET DIM powers off the SOLEG groups named in SGOFF. -/
  | powerStateDim (src : Src) (p : Packet) (e : Env)
  /-- POWER_STATE_NAP (R448): POWER_STATE with TARGET NAP starts entry to NAP. -/
  | powerStateNap (src : Src) (p : Packet) (e : Env)
  /-- POWER_STATE_STOW (R448): POWER_STATE with TARGET STOW starts entry to STOW through NAP. -/
  | powerStateStow (src : Src) (p : Packet) (e : Env)
  /-- POWER_STATE_OFF (R448): POWER_STATE with TARGET OFF enters STOW and drives PWROFF high. -/
  | powerStateOff (src : Src) (p : Packet) (e : Env)
  /-- POWER_STATE_DONE (R447): A power-state transition reaches its state, clears BUSY and sends its completion. -/
  | powerStateDone
  /-- PWR_DOMREQ_WRITE (R445): A write of PWR_DOMREQ powers domains off and on or is refused. -/
  | pwrDomreqWrite (m : Fin 32) (v : BitVec 28) (e : Env)
  /-- WAKE_EVENT (R449): An enabled wake input or PCIe L1 exit ends NAP or STOW. -/
  | wakeEvent (w : WakeSrc)
  /-- ALARM_WAKE (R449): The ALARM delay expires after NAP or STOW entry and wakes the device. -/
  | alarmWake
  /-- SYS_ROLE_WRITE (R22): A write of SYS_ROLE starts a role change or is refused with ROLEERR. -/
  | sysRoleWrite (m : Fin 32) (v : BitVec 28) (e : Env)
  /-- ROLE_CHANGE_DONE (R23): The domain changes of a role change end, BUSY clears and the interrupt is raised. -/
  | roleChangeDone
  /-- RESET_ASSERT (R425): A reset source asserts and begins or joins an episode, idling outputs and lanes. -/
  | resetAssert (r : ResetSrc)
  /-- RESET_RELEASE (R426): The last source of an episode drops and the release sequence runs. -/
  | resetRelease (r : ResetSrc) (straps : BitVec 6)
  /-- SUPPLY_WARNING (R438): A supply stays below its warning level for 200 ns and sets WARN with a C1 record. -/
  | supplyWarning (n : Fin 11)
  /-- SUPPLY_RESET_LEVEL (R438): A supply stays below its reset level for 1 us and asserts its reset source. -/
  | supplyResetLevel (n : Fin 11)
  /-- OSCFAIL (R440): No backup oscillator edge for 1 ms sets OSCFAIL and stops the slow counter. -/
  | oscfail
  /-- PERST_N (R320): A PERST_N level change resets or releases the PCI Express endpoint. -/
  | perstN (asserted : Bool)
  /-- PCIE_INBOUND_ACCESS (R320): An inbound PCIe request is decoded whole and served as one access or refused. -/
  | pcieInboundAccess (space : Fin 4) (wr : Bool) (off : BitVec 28) (n : Fin 1025) (data : List (BitVec 4 × Word)) (errs : List Nat) (e : Env)
  /-- PCIE_LINK_DOWN (R320): The PCIe link goes down, setting DLDOWN with a C1 record. -/
  | pcieLinkDown
  /-- PACE_WINDOW_END (R48): A pace gauge window of 256 ticks ends and PACE and MINPACE update. -/
  | paceWindowEnd (g : Fin 20) (v : Fin 16384)
  /-- PACE_MINCLR (R50): A write of MINCLR sets MINPACE to 0x1FFF. -/
  | paceMinclr (g : Fin 20) (m : Fin 32) (v : BitVec 28) (e : Env)
  /-- SLACK_MINCLR (R57): A write of SLn_SLACK.MINCLR sets MIN to +2047. -/
  | slackMinclr (n : Fin 16) (m : Fin 32) (v : BitVec 28) (e : Env)
  /-- LOOP_ENABLE (R63): EN going to 1 starts the supply loop with a VOUT_MODE read. -/
  | loopEnable (m : Fin 32) (v : BitVec 28) (e : Env)
  /-- LOOP_DISABLE (R71): EN cleared stops the supply loop after any transaction in flight. -/
  | loopDisable (m : Fin 32) (v : BitVec 28) (e : Env)
  /-- VSET_WRITE (R69): A write of VSET with EN 0 stores a clamped set point and sends it once. -/
  | vsetWrite (m : Fin 32) (v : BitVec 28) (e : Env)
  /-- LOOP_PERIOD_END (R66): A measurement period ends and the loop chooses and sends a new set point. -/
  | loopPeriodEnd
  /-- LOOP_SETTLE_END (R66): The settle wait after a send ends and measurement resumes. -/
  | loopSettleEnd
  /-- LOOP_HOLD_END (R67): The HOLD periods at VMAX end, EMERG clears and the loop resumes with a settle wait. -/
  | loopHoldEnd
  /-- PMBUS_TRANSACTION_DONE (R70): A loop PMBus transaction completes, NACKs and retries, or fails with PMBERR and C2. -/
  | pmbusTransactionDone (ack : Bool) (mode : Byte)
  /-- PMBUS_TIMEOUT (R70): A loop transaction does not complete within 1 ms and is retried or fails. -/
  | pmbusTimeout
  /-- LATCH_POINT (R183): At (0, 0) a head freezes its report, applies any commit, restores frame values and raises the frame number. -/
  | latchPoint (mask : BitVec 16) (e : Env)
  /-- SPRITE_SNAPSHOT_READ (R155): In the period of an empty line the snapshot reads up to C bytes of sprite entries. -/
  | spriteSnapshotRead (h : Fin 16) (y : Fin 16384) (e : Env)
  /-- LINE_RELEASE (R54): At a line's release point the Soles start it, read its line list and issue fetches and remote requests. -/
  | lineRelease (h : Fin 16) (y : Fin 16384) (e : Env)
  /-- LINE_LIST_EXECUTE (R169): The line's list has arrived and its entries are executed or counted as lost or dropped. -/
  | lineListExecute (h : Fin 16) (e : Env)
  /-- BEAM_ENTRY_ISSUE (R174): A beam-domain line-list entry is issued at its pixel period or late on arrival. -/
  | beamEntryIssue (h : Fin 16) (x : Fin 16384)
  /-- BEAM_ENTRY_LOST (R174): A beam-domain entry not arrived by the start of the next line is discarded and counted LOST. -/
  | beamEntryLost (h : Fin 16)
  /-- GRANULE_ANSWER (R267): A granule read answer is written into the fetch buffer entry its tack names. -/
  | granuleAnswer (sl : Fin 16) (num : Fin 16384) (lat : Fin 65536) (e : Env)
  /-- STITCH_RUN (R267): A stitch starts once every granule it needs is present or declared missing. -/
  | stitchRun (sl : Fin 16)
  /-- LINE_DONE (R55): A Sole writes its last block of a line and records the line's slack. -/
  | lineDone (sl : Fin 16) (d : Int)
  /-- SOLE_LINE_ABANDON (R56): The next line falls due with a line unfinished; the beam guard abandons it with slack −2048. -/
  | soleLineAbandon (sl : Fin 16)
  /-- HEAD_UNDERRUN (R243): A block is not written when the head needs it; background to line end, counted and recorded C1. -/
  | headUnderrun (h : Fin 16) (b : Fin 512)
  /-- RECT_CRC_COMPARE (R250): At a rectangle's last pixel the CRC is compared and a mismatch is flagged and recorded. -/
  | rectCrcCompare (h : Fin 16) (i : Fin 16)
  /-- WRITEBACK_DROP (R216): A writeback frame is abandoned from a line and DROP is set. -/
  | writebackDrop (h : Fin 16)
  /-- WRITEBACK_DONE (R217): The last row of a writeback frame is written, DONE is set and the interrupt raised. -/
  | writebackDone (h : Fin 16) (e : Env)
  /-- PICTURE_PACKET_SEND (R361): A picture packet is sent once its last pixel has passed the tap. -/
  | picturePacketSend (h : Fin 16) (n : Fin 32) (credit : Bool)
  /-- HEAD_RUN (R231): A write of RUN 1 checks the register timing and starts the head or sets CTLERR. -/
  | headRun (h : Fin 16) (m : Fin 32) (v : BitVec 28) (e : Env)
  /-- HEAD_STOP (R231): A write of RUN 0 stops the head at its next latch point. -/
  | headStop (h : Fin 16) (m : Fin 32) (v : BitVec 28) (e : Env)
  /-- REFERENCE_EVENT (R234): An FSYNC edge or fabric-time event gives the head a phase error that it slews out. -/
  | referenceEvent (h : Fin 16) (rising : Bool) (err : Int) (ival : Nat)
  /-- REFERENCE_ABSENT (R236): No reference event for 3 × P puts the head in HOLDOVER with LOSS and a C1 record. -/
  | referenceAbsent (h : Fin 16)
  /-- HEAD_FRAME_READ (R263): A read of HDn_FRAME returns low bits and latches the high bits. -/
  | headFrameRead (h : Fin 16) (m : Fin 32) (e : Env)
  /-- UNDERRUN_COUNT_CLEAR (R262): A write of URCLR sets URCNT to 0. -/
  | underrunCountClear (h : Fin 16) (m : Fin 32) (v : BitVec 28) (e : Env)
  /-- POOL_TACK_GRANT (R270): A waiting pool class is given a tack once the reservation rule allows. -/
  | poolTackGrant (k : Fin 8)
  /-- FETCH_POOL_WRITE (R271): A write of FETCH_POOLk sets RSV and LIMIT or is refused with ERR. -/
  | fetchPoolWrite (k : Fin 8) (m : Fin 32) (v : BitVec 28) (e : Env)
  /-- POOL_PEAK_CLEAR (R295): A write of PKCLR sets a pool class PEAK to HELD. -/
  | poolPeakClear (k : Fin 8) (m : Fin 32) (v : BitVec 28) (e : Env)
  /-- SOLE_TACK_PEAK_CLEAR (R296): A write of PKCLR sets a Sole's tack PEAK to HELD. -/
  | soleTackPeakClear (n : Fin 16) (m : Fin 32) (v : BitVec 28) (e : Env)
  /-- FETCH_LATENCY_MAX_CLEAR (R297): A write of MAXCLR sets a Sole's latency MAX to 0. -/
  | fetchLatencyMaxClear (n : Fin 16) (m : Fin 32) (v : BitVec 28) (e : Env)
  /-- LINE_GRANULE_PEAK_CLEAR (R298): A write of PKCLR sets PEAKG to 0. -/
  | lineGranulePeakClear (n : Fin 16) (m : Fin 32) (v : BitVec 28) (e : Env)
  /-- MEM_TRAIN (R282): A write of TRAIN, MEMPHY power-on or cold release starts a full GDDR7 training. -/
  | memTrain (m : Fin 32) (v : BitVec 28) (e : Env)
  /-- MEM_TRAINING_DONE (R282): A full training ends; channels enter READY or FAIL and CAP is written. -/
  | memTrainingDone (rate : Fin 4) (fail : BitVec 6) (eyes : List (Byte × Byte))
  /-- MEM_DEVICE_TEMP_READ (R285): Every 32 ms each GDDR7 device temperature is read and refresh adjusted. -/
  | memDeviceTempRead (hot : BitVec 6)
  /-- MEM_SHORT_RETRAIN (R285): Every RETRAIN ms a short retraining runs on each channel in turn. -/
  | memShortRetrain (c : Fin 6) (eye : Byte)
  /-- MEM_ECC_WRITE (R289): A write of MEM_ECCn enables or disables a region or is refused with CFGERR. -/
  | memEccWrite (n : Fin 8) (m : Fin 32) (v : BitVec 28) (e : Env)
  /-- ECC_INIT_DONE (R290): Zeroing of a newly enabled ECC region ends and BUSY clears. -/
  | eccInitDone (n : Fin 8)
  /-- PORT_MODE_WRITE (R309): A write of EYE_WPpCFG changes the port mode or is refused with ERR. -/
  | portModeWrite (p : Fin 8) (m : Fin 32) (v : BitVec 28) (e : Env)
  /-- PORT_RETRAIN (R312): A write of RETRAIN starts training of the port. -/
  | portRetrain (p : Fin 8) (m : Fin 32) (v : BitVec 28) (e : Env)
  /-- WELT_TRAINING_DONE (R312): Welt port training ends UP at some rate or DOWN with a C2 record. -/
  | weltTrainingDone (p : Fin 8) (ok : Bool) (rate : Fin 4) (rxBad : BitVec 4) (txBad : BitVec 4) (taps : List (Byte × Byte × Byte))
  /-- WELT_TRAINING_ATTEMPT (R312): Every 1 s a fenced port with AUTOREMAP makes a training attempt. -/
  | weltTrainingAttempt (p : Fin 8) (ok : Bool) (rate : Fin 4) (rxBad : BitVec 4) (txBad : BitVec 4) (taps : List (Byte × Byte × Byte))
  /-- LANE_FAIL (R314): A receive data lane loses lock or passes the error threshold and is remapped or the port goes DOWN. -/
  | laneFail (p : Fin 8) (lane : Fin 4) (rx : Bool) (busy : Bool)
  /-- MANREMAP (R315): A write of MANREMAP retires port lane MLANE or is refused. -/
  | manremap (p : Fin 8) (m : Fin 32) (v : BitVec 28) (e : Env)
  /-- SPARE_FAIL (R313): The spare's PRBS31 checker fails and SPAREBAD is set with a C1 record. -/
  | spareFail (p : Fin 8)
  /-- REFERENCE_LOST (R317): No WP0 lane is locked with CLKMODE 0b10; islands hold frequency and REFLOST is set. -/
  | referenceLost
  /-- REFERENCE_REGAINED (R317): A WP0 lane locks again and the reference returns to the recovered clock. -/
  | referenceRegained
  /-- DP_HPD_RISE (R322): HPD high for 2 ms starts DisplayPort or eDP link training. -/
  | dpHpdRise (p : Fin 8)
  /-- DP_HPD_LOW (R322): HPD low for 2 ms clears TRAINED. -/
  | dpHpdLow (p : Fin 8)
  /-- DP_IRQ_HPD (R322): An IRQ_HPD pulse sets IRQHPD and retrains when the sink lost lock. -/
  | dpIrqHpd (p : Fin 8) (lost : Bool)
  /-- DP_TRAINING_DONE (R322): DisplayPort training ends trained at a combination or with TRFAIL. -/
  | dpTrainingDone (p : Fin 8) (ok : Bool) (rate : Fin 8) (lanes : Fin 4) (ilr : Option (Fin 4 × Fin 8)) (taps : List (Byte × Byte × Byte))
  /-- EYE_SCAN_START (R327): A write of START begins an eye-margin scan point. -/
  | eyeScanStart (n : Fin 32) (m : Fin 32) (v : BitVec 28) (e : Env)
  /-- EYE_SCAN_DONE (R327): A scan point ends after its dwell or on loss of lock and RESULT is set. -/
  | eyeScanDone (n : Fin 32) (r : Nat) (lost : Bool)
  /-- WELT_FRAME_RECEIVE (R337): A Welt frame arrives, is CRC-checked and its packet routed, delivered or dropped. -/
  | weltFrameReceive (p : Fin 8) (crcOk : Bool) (lseq : BitVec 12) (pkt : WeltPkt) (frac : BitVec 16) (fec : List Nat)
  /-- WELT_REPLAY (R338): A replay request makes the transmitter resend frames from its replay buffer. -/
  | weltReplay (p : Fin 8) (lseq : BitVec 12)
  /-- WELT_PACKET_SEND (R337): A waiting packet is sent once its partner grants credit for its class. -/
  | weltPacketSend (p : Fin 8) (credit : BitVec 6) (frac : BitVec 16)
  /-- TILEREQ_READ (R350): A TILEREQ READ reads granules of the aperture and answers them. -/
  | tilereqRead (e : Env)
  /-- TILEREQ_WRITE (R350): A TILEREQ WRITE writes a 32-byte block or is answered REFUSED or ERROR. -/
  | tilereqWrite (e : Env)
  /-- TILEREQ_TILEREAD (R352): A TILEREQ TILEREAD reads map entries and tile rows and answers them in one message. -/
  | tilereqTileread (e : Env)
  /-- TILEANS_RECEIVE (R355): A TILEANS answer is delivered, or discarded when late, and ERROR makes data missing. -/
  | tileansReceive
  /-- REMOTE_TIMEOUT (R355): A remote access gets no answer within TIMEOUT and ends with bus error and C1. -/
  | remoteTimeout (tag : Fin 65536)
  /-- TIME_SYNC_SEND (R357): Every 2^14 ticks an upstream device sends SYNC on its DOWNEN ports. -/
  | timeSyncSend
  /-- TIME_DREQ_SEND (R357): Every 2^16 ticks a downstream device sends DREQ upstream. -/
  | timeDreqSend
  /-- TIME_SYNC_RECEIVE (R358): A SYNC arrives; OFFSET is measured and the time base slews or steps. -/
  | timeSyncReceive
  /-- TIME_DREQ_RECEIVE (R357): A DREQ arrives and is answered by DRESP with RES. -/
  | timeDreqReceive
  /-- TIME_DRESP_RECEIVE (R357): A DRESP arrives and the link delay is computed. -/
  | timeDrespReceive
  /-- TIME_SYNC_LOSS (R358): Four SYNC intervals pass without SYNC and fabric time enters HOLDOVER with C1. -/
  | timeSyncLoss
  /-- WELT_EPOCH_WRITE (R372): A write of WELT_EPOCHHI applies the held EPOCHLO and new EPOCHHI together. -/
  | weltEpochWrite (m : Fin 32) (v : BitVec 28) (e : Env)
  /-- PICTURE_PACKET_RECEIVE (R362): A picture packet is written into the receiver buffer and line completion tracked. -/
  | picturePacketReceive (e : Env)
  /-- AUDIO_MESSAGE_RECEIVE (R595): An AUDIO message is buffered in an audio receiver. -/
  | audioMessageReceive
  /-- SENSE_PACKET_RECEIVE (R619): A SENSE packet is written into a sense receiver ring or discarded as BAD. -/
  | sensePacketReceive (e : Env)
  /-- BOOT_FLASH_READ_DONE (R476): A manifest copy arrives from SPI NOR and is checked. -/
  | bootFlashReadDone (copy : Option (List Word))
  /-- BOOT_ENTRY_LOADED (R475): A manifest entry is read, digested and written, or fails with a detail. -/
  | bootEntryLoaded (flash : Option (List Byte)) (e : Env)
  /-- FUSE_ADVANCE_COUNTER (R466): SEC_FUSECMD with OP 0b01 advances the rollback counter or is refused. -/
  | fuseAdvanceCounter (m : Fin 32) (v : BitVec 28) (e : Env)
  /-- FUSE_REVOKE_SLOT (R466): SEC_FUSECMD with OP 0b10 revokes a key slot or is refused. -/
  | fuseRevokeSlot (m : Fin 32) (v : BitVec 28) (e : Env)
  /-- FUSE_PROGRAM_SLOT (R466): SEC_FUSECMD with OP 0b11 programs a key slot from a key record or is refused. -/
  | fuseProgramSlot (m : Fin 32) (v : BitVec 28) (e : Env)
  /-- FUSE_WRITE_DONE (R466): A fuse write completes, clears BUSY, sets DONE and updates the shadow. -/
  | fuseWriteDone
  /-- NOP (R527): Awl instruction that does nothing. -/
  | awlNop (n : Fin 4)
  /-- MOV (R527): Awl instruction that copies a cell. -/
  | awlMov (n : Fin 4)
  /-- LDI (R527): Awl instruction that loads an immediate with a given tag. -/
  | awlLdi (n : Fin 4)
  /-- LDHI (R527): Awl instruction that sets bits 13:10 of a cell. -/
  | awlLdhi (n : Fin 4)
  /-- RETAG (R527): Awl instruction that copies a value with a new tag. -/
  | awlRetag (n : Fin 4)
  /-- GETTAG (R527): Awl instruction that returns a cell's tag code as NUM. -/
  | awlGettag (n : Fin 4)
  /-- TTST (R527): Awl instruction that sets T from a tag test. -/
  | awlTtst (n : Fin 4)
  /-- ADD (R526): Awl instruction that adds two cells. -/
  | awlAdd (n : Fin 4)
  /-- SUB (R526): Awl instruction that subtracts two cells. -/
  | awlSub (n : Fin 4)
  /-- ADC (R526): Awl instruction that adds with carry. -/
  | awlAdc (n : Fin 4)
  /-- SBC (R526): Awl instruction that subtracts with borrow. -/
  | awlSbc (n : Fin 4)
  /-- CMP (R526): Awl instruction that sets flags of a subtraction. -/
  | awlCmp (n : Fin 4)
  /-- NEG (R526): Awl instruction that negates a cell. -/
  | awlNeg (n : Fin 4)
  /-- ADDI (R526): Awl instruction that adds a sign-extended immediate. -/
  | awlAddi (n : Fin 4)
  /-- CMPI (R526): Awl instruction that compares with an immediate. -/
  | awlCmpi (n : Fin 4)
  /-- MUL (R528): Awl instruction that multiplies NUM or FIX cells. -/
  | awlMul (n : Fin 4)
  /-- MULH (R527): Awl instruction that returns the high half of a signed product. -/
  | awlMulh (n : Fin 4)
  /-- DIV (R528): Awl instruction that divides, raising DIV on zero. -/
  | awlDiv (n : Fin 4)
  /-- REM (R528): Awl instruction that returns a remainder. -/
  | awlRem (n : Fin 4)
  /-- MIN (R527): Awl instruction that keeps the signed lesser value. -/
  | awlMin (n : Fin 4)
  /-- MAX (R527): Awl instruction that keeps the signed greater value. -/
  | awlMax (n : Fin 4)
  /-- AND (R527): Awl instruction for bitwise AND. -/
  | awlAnd (n : Fin 4)
  /-- OR (R527): Awl instruction for bitwise OR. -/
  | awlOr (n : Fin 4)
  /-- XOR (R527): Awl instruction for bitwise XOR. -/
  | awlXor (n : Fin 4)
  /-- NOT (R527): Awl instruction for bitwise NOT. -/
  | awlNot (n : Fin 4)
  /-- TST (R527): Awl instruction that sets flags of an AND. -/
  | awlTst (n : Fin 4)
  /-- SHL (R528): Awl instruction that shifts left. -/
  | awlShl (n : Fin 4)
  /-- SHR (R528): Awl instruction that shifts right logically. -/
  | awlShr (n : Fin 4)
  /-- SAR (R528): Awl instruction that shifts right arithmetically. -/
  | awlSar (n : Fin 4)
  /-- LD (R531): Awl instruction that loads one cell through an address form. -/
  | awlLd (n : Fin 4) (e : Env)
  /-- ST (R531): Awl instruction that stores one cell. -/
  | awlSt (n : Fin 4) (e : Env)
  /-- LD2 (R531): Awl instruction that loads two cells. -/
  | awlLd2 (n : Fin 4) (e : Env)
  /-- ST2 (R531): Awl instruction that stores two cells. -/
  | awlSt2 (n : Fin 4) (e : Env)
  /-- IN (R504): Awl instruction that reads one register into a cell pair. -/
  | awlIn (n : Fin 4) (e : Env)
  /-- OUT (R504): Awl instruction that writes one register from a cell pair. -/
  | awlOut (n : Fin 4) (e : Env)
  /-- BKSET (R527): Awl instruction that sets a bank register. -/
  | awlBkset (n : Fin 4)
  /-- BKGET (R527): Awl instruction that reads a bank register into a pair. -/
  | awlBkget (n : Fin 4)
  /-- B (R535): Awl instruction that branches by a relative offset. -/
  | awlB (n : Fin 4)
  /-- CALL (R535): Awl instruction that writes G15 and branches. -/
  | awlCall (n : Fin 4)
  /-- JMP (R535): Awl instruction that jumps to a CODE cell's index. -/
  | awlJmp (n : Fin 4)
  /-- CALLR (R535): Awl instruction that writes G15 and jumps through a cell. -/
  | awlCallr (n : Fin 4)
  /-- REP (R532): Awl instruction that repeats the next instruction a count of times. -/
  | awlRep (n : Fin 4)
  /-- LOCK (R510): Awl instruction that takes the shared-memory lock, waiting if held. -/
  | awlLock (n : Fin 4)
  /-- UNLOCK (R510): Awl instruction that releases the shared-memory lock. -/
  | awlUnlock (n : Fin 4)
  /-- SETIE (R536): Awl instruction that sets IE. -/
  | awlSetie (n : Fin 4)
  /-- WFI (R536): Awl instruction that waits for a deliverable interrupt. -/
  | awlWfi (n : Fin 4)
  /-- WFI_WAKE (R536): An interrupt becomes eligible and a waiting WFI ends. -/
  | awlWfiWake (n : Fin 4)
  /-- TRAP (R505): Awl instruction that enters vector 5. -/
  | awlTrap (n : Fin 4)
  /-- RETI (R508): Awl instruction that restores state from the frame. -/
  | awlReti (n : Fin 4)
  /-- LOCK_BREAK (R511): 4,096 instructions after LOCK without UNLOCK the lock breaks and LOCK is raised. -/
  | awlLockBreak (n : Fin 4)
  /-- IRQ_ACCEPT (R642): A core accepts the best eligible source, pushes it and enters vector 7. -/
  | irqAccept (n : Fin 4)
  /-- MSIX_ISSUE (R646): A host source becomes active and its MSI-X message is issued. -/
  | msixIssue (v : Fin 64)
  /-- EOI_WRITE (R643): A write of ICU_TGTn_EOI ends the innermost active source or sets ERR. -/
  | eoiWrite (n : Fin 5) (m : Fin 32) (v : BitVec 28) (e : Env)
  /-- CLAIM_READ (R644): A read of ICU_TGTn_CLAIM returns the active source and counts empty claims. -/
  | claimRead (n : Fin 5) (m : Fin 32) (e : Env)
  /-- HOLDOFF_EXPIRY (R647): A group's hold-off ends and its sources become eligible again. -/
  | holdoffExpiry (g : Fin 16)
  /-- SWSET_SET (R649): A write of ICU_SWSET with SET sets a software source pending. -/
  | swsetSet (m : Fin 32) (v : BitVec 28) (e : Env)
  /-- SWSET_CLR (R649): A write of ICU_SWSET with CLR clears a software source. -/
  | swsetClr (m : Fin 32) (v : BitVec 28) (e : Env)
  /-- TIME_LO_READ (R650): A read of TIME_LO latches the high bits into the master's TIME_HI copy. -/
  | timeLoRead (m : Fin 32) (e : Env)
  /-- TIME_LOAD (R651): A write of TIME_LDHI loads the time base as a step. -/
  | timeLoad (m : Fin 32) (v : BitVec 28) (e : Env)
  /-- COMPARE_WRITE (R652): A write of TIME_CMPHI applies both halves of a compare value. -/
  | compareWrite (m : Fin 32) (v : BitVec 28) (e : Env)
  /-- COMPARE_FIRE (R653): A compare channel matches or is crossed by a step, fires and reloads or disables. -/
  | compareFire (k : Fin 32)
  /-- CAPTURE_EDGE (R654): A selected trigger edge is stamped into a capture channel or sets OVF. -/
  | captureEdge (trig : BitVec 7) (rising : Bool)
  /-- CAPTURE_READ (R655): A read of TIME_CAPLO returns and removes the older entry. -/
  | captureRead (m : Fin 32) (e : Env)
  /-- WATCHDOG_START (R656): A write of EN 1 loads and starts a watchdog. -/
  | watchdogStart (n : Fin 5) (m : Fin 32) (v : BitVec 28) (e : Env)
  /-- WATCHDOG_KICK (R656): A write of KEY 0xA5C reloads a watchdog. -/
  | watchdogKick (n : Fin 5) (m : Fin 32) (v : BitVec 28) (e : Env)
  /-- WATCHDOG_FORCE_EXPIRE (R656): A write of another non-zero KEY expires the watchdog at once. -/
  | watchdogForceExpire (n : Fin 5) (m : Fin 32) (v : BitVec 28) (e : Env)
  /-- WATCHDOG_WARNING (R657): A watchdog count reaches its WARN fraction and raises its source. -/
  | watchdogWarning (n : Fin 5)
  /-- WATCHDOG_EXPIRY (R657): A watchdog reaches zero and resets its core or starts a DEVWDT warm episode. -/
  | watchdogExpiry (n : Fin 5)
  /-- EYELET_CONFIG_WRITE (R675): A write of SYS_EYCFG switches function or direction through a park step or is refused. -/
  | eyeletConfigWrite (m : Fin 32) (v : BitVec 28) (e : Env)
  /-- EYELET_SET (R680): A write of SYS_EYSET sets OUT of masked eyelets or is refused whole. -/
  | eyeletSet (m : Fin 32) (v : BitVec 28) (e : Env)
  /-- EYELET_CLEAR (R680): A write of SYS_EYCLR clears OUT of masked eyelets or is refused whole. -/
  | eyeletClear (m : Fin 32) (v : BitVec 28) (e : Env)
  /-- EYELET_EVENT (R672): A sampled eyelet input meets its IMODE condition and sets IEV. -/
  | eyeletEvent (n : Fin 128) (level : Bool)
  /-- I2C_GO (R677): A write of GO starts an I2C command or is refused with ERR. -/
  | i2cGo (m : Fin 32) (v : BitVec 28) (e : Env)
  /-- I2C_COMMAND_DONE (R677): An I2C command ends after its bytes, on NACK, or on stretch timeout. -/
  | i2cCommandDone (k : Fin 4) (n : Fin 65) (data : List Byte) (nack : Bool) (lost : Bool)
  /-- UART_RX_BYTE (R678): A UART byte is received into the FIFO or discarded with FERR or OVR. -/
  | uartRxByte (u : Fin 2) (b : Byte) (bad : Bool)
  /-- UART_TX_BYTE (R678): A UART byte is sent from the transmit FIFO when flow control allows. -/
  | uartTxByte (u : Fin 2) (cts : Bool)
  /-- PERDATA_READ (R681): A read of SYS_PERDATA DATA pops the receive FIFO. -/
  | perdataRead (m : Fin 32) (e : Env)
  /-- PERDATA_WRITE (R681): A write of SYS_PERDATA DATA pushes the transmit FIFO. -/
  | perdataWrite (m : Fin 32) (v : BitVec 28) (e : Env)
  /-- PALETTE_WRITE (R146): A palette word-0 write goes to the holding register; a word-1 write stores the entry. -/
  | paletteWrite (h : Fin 16) (i : Fin 32768) (m : Fin 32) (v : Word) (e : Env)
  /-- LUT_WRITE (R197): A LUT word write follows the holding-register rule. -/
  | lutWrite (h : Fin 16) (i : Fin 81920) (m : Fin 32) (v : Word) (e : Env)
  /-- LACE_GO (R546): A write of GO starts a Lace channel's chain. -/
  | laceGo (n : Fin 32) (m : Fin 32) (v : BitVec 28) (e : Env)
  /-- LACE_ABORT (R548): A write of ABORT halts a channel, discarding reads and its buffer. -/
  | laceAbort (n : Fin 32) (m : Fin 32) (v : BitVec 28) (e : Env)
  /-- LACE_DESCRIPTOR_READ (R540): A descriptor granule arrives and is checked or halts the channel as malformed or MAXDESC. -/
  | laceDescriptorRead (n : Fin 32) (e : Env)
  /-- LACE_BEAT (R545): The engine issues one granule read or write beat for the channel it serves. -/
  | laceBeat (write : Bool) (e : Env)
  /-- LACE_READ_ANSWER (R541): A source granule arrives into the channel buffer or ends it with BUS. -/
  | laceReadAnswer (n : Fin 32) (e : Env)
  /-- LACE_DESCRIPTOR_DONE (R547): All writes of a descriptor complete; the chain continues or ends DONE. -/
  | laceDescriptorDone (n : Fin 32)
  /-- LACE_TIMEOUT (R547): An access gets no answer within TMO and the channel halts with C1. -/
  | laceTimeout (n : Fin 32)
  /-- SKIVER_GO (R566): A write of GO starts a Skiver command list. -/
  | skiverGo (m : Fin 32) (v : BitVec 28) (e : Env)
  /-- SKIVER_ABORT (R567): A write of ABORT halts the Skiver list. -/
  | skiverAbort (m : Fin 32) (v : BitVec 28) (e : Env)
  /-- SKIVER_COMMAND_READ (R555): A command granule arrives and is checked or the list halts or fences. -/
  | skiverCommandRead (e : Env)
  /-- END (R555): Skiver command that ends the list with STATE DONE. -/
  | skEnd
  /-- COPY (R558): Skiver command that copies a source rectangle through a raster operation. -/
  | skCopy (e : Env)
  /-- FILL (R558): Skiver command that fills a rectangle with FG. -/
  | skFill (e : Env)
  /-- GLYPH (R558): Skiver command that expands a 1-bit source to FG and BG. -/
  | skGlyph (e : Env)
  /-- KEYCOPY (R558): Skiver command that copies leaving key-matching pixels unwritten. -/
  | skKeycopy (e : Env)
  /-- WAIT (R564): Skiver command that holds the list until a beam line. -/
  | skWait
  /-- JUMP (R555): Skiver command that continues at another command address. -/
  | skJump
  /-- SKIVER_WAIT_END (R564): The awaited line arrives or the head stops and the WAIT ends. -/
  | skiverWaitEnd
  /-- SKIVER_COMMAND_DONE (R563): All writes of a command complete and the next command is read. -/
  | skiverCommandDone
  /-- SKIVER_TIMEOUT (R566): A Skiver access gets no answer within TMO and the list halts with C1. -/
  | skiverTimeout
  /-- AUDIO_ENABLE (R583): A write of AUD_CTL.EN 1 starts every rate domain at a common block boundary. -/
  | audioEnable (m : Fin 32) (v : BitVec 28) (e : Env)
  /-- AUD_KEY (R581): A write of AUD_KEY enqueues a key event or drops it when the queue is full. -/
  | audKey (m : Fin 32) (v : BitVec 28) (e : Env)
  /-- VOICE_TABLE_WRITE (R574): A write to a voice entry word is taken and applied per its field kind. -/
  | voiceTableWrite (u : Fin 256) (i : Fin 16) (m : Fin 32) (v : Word) (e : Env)
  /-- KEY_EVENT_APPLY (R582): A queued key-on or key-off applies to a voice at its sample boundary. -/
  | keyEventApply (i : Nat) (k : Fin 32) (e : Env)
  /-- AUDIO_BLOCK_BOUNDARY (R589): At a block boundary pending route changes apply and the next block is played. -/
  | audioBlockBoundary (d : Fin 3) (e : Env)
  /-- AUDIO_BLOCK_LATE (R597): A block is not rendered by its first sample; sinks send 0 and LATE counts. -/
  | audioBlockLate (d : Fin 3)
  /-- GAIN_TIMEOUT (R590): ZCTMO passes without a crossing and the pending gain applies. -/
  | gainTimeout (u : Fin 292) (k : Fin 32) (e : Env)
  /-- DOMAIN_SOURCE_LOSS (R584): A port word clock gives no edge for four periods; the domain goes internal with DOMLOSS. -/
  | domainSourceLoss (d : Fin 2)
  /-- PORT_CLOCK_LOSS (R593): A slave port's clocks stop; it drives ADAT low and sets PLOSS. -/
  | portClockLoss (p : Fin 4)
  /-- INSOLE_STEP_SLOT (R610): A step slot on a blanking-window line runs the next scan step. -/
  | insoleStepSlot (n : Fin 2) (y : Fin 16384) (res : List (BitVec 16))
  /-- SCAN_FRAME_END (R616): The last step of a scan frame ends and the touch report is formed and sent. -/
  | scanFrameEnd (n : Fin 2) (e : Env)
  /-- INSOLE_RECAL (R612): A write of RECAL reloads baselines at the next scan frame. -/
  | insoleRecal (n : Fin 2) (m : Fin 32) (v : BitVec 28) (e : Env)
  /-- SENSOR_CONVERSION (R620): Every millisecond the ALS and thermistor inputs are converted into INS_SENS. -/
  | sensorConversion (als : List (BitVec 16)) (th : List (BitVec 16))
  /-- THERMISTOR_STALE (R621): A thermistor code becomes more than 100 ms old and counts as failed. -/
  | thermistorStale (t : Fin 8)
  /-- PWM_PERIOD_START (R623): A backlight PWM period starts and applied duty slews and is clamped. -/
  | pwmPeriodStart
  /-- HEATER_PERIOD_START (R625): A heater period starts and the gate turns on when in HEAT. -/
  | heaterPeriodStart (h : Fin 4)
  /-- HEATER_ON_END (R626): A heater on time ends and the open-load check runs. -/
  | heaterOnEnd (h : Fin 4) (imeas : BitVec 6)
  /-- HEATER_OVERCURRENT (R626): Current above HIMAX for 2 us gates the heater off and may latch it with C2. -/
  | heaterOvercurrent (h : Fin 4)
  /-- KEEPALIVE_EXPIRY (R626): No KEEP write for KEEPTMO ms turns every heater off with KEEPEXP and C1. -/
  | keepaliveExpiry
  /-- SHANK_KEEP (R633): A write of KEEP restarts the policy keep-alive. -/
  | shankKeep (m : Fin 32) (v : BitVec 28) (e : Env)
  /-- TJ_MAX_CLEAR (R744): A write of MAXCLR sets PWR_TJ.MAX to TJ. -/
  | tjMaxClear (m : Fin 32) (v : BitVec 28) (e : Env)
  /-- ID (R706): Debug operation that returns DBG_ID and the serial number. -/
  | dbgId (crc : BitVec 16) (pl : List Byte)
  /-- CHALLENGE (R708): Debug operation that draws a fresh unlock nonce. -/
  | dbgChallenge (crc : BitVec 16) (pl : List Byte)
  /-- UNLOCK_PUT (R709): Debug operation that writes bytes into the unlock buffer. -/
  | dbgUnlockPut (crc : BitVec 16) (pl : List Byte)
  /-- UNLOCK_CHECK (R710): Debug operation that verifies the unlock record and unlocks the port. -/
  | dbgUnlockCheck (crc : BitVec 16) (pl : List Byte)
  /-- READ (R707): Debug operation that reads words through the debug bus master. -/
  | dbgRead (crc : BitVec 16) (pl : List Byte) (e : Env)
  /-- WRITE (R707): Debug operation that writes words through the debug bus master. -/
  | dbgWrite (crc : BitVec 16) (pl : List Byte) (e : Env)
  /-- DEBUG_BREAK (R703): A low of 2 to 20 us ends any frame and resets the decoder. -/
  | debugBreak
  /-- DEBUG_FRAMING_ERROR (R703): A low of illegal length ends the frame and sets FRERR. -/
  | debugFramingError
  /-- DEBUG_FRAME_GAP (R705): A high gap over 100 us ends a frame as a framing error. -/
  | debugFrameGap
  /-- DBGRST_LONG_LOW (R703): DBGRST_N low reaching 50 us asserts the PIN warm reset source. -/
  | dbgrstLongLow
  /-- DEBUG_HALT (R713): A write of HALT requests a halt of the fabric. -/
  | debugHalt (m : Fin 32) (v : BitVec 28) (e : Env)
  /-- HALT_REACHED (R713): Every running core has stopped and the clockless fabric freezes with HALTED. -/
  | haltReached (e : Env)
  /-- DEBUG_RESUME (R715): A write of RESUME thaws every frozen unit. -/
  | debugResume (m : Fin 32) (v : BitVec 28) (e : Env)
  /-- DEBUG_STEP (R716): A write of STEP runs one instruction of a halted core or sets ERR. -/
  | debugStep (m : Fin 32) (v : BitVec 28) (e : Env)
  /-- STEP_DONE (R716): The stepped instruction completes and STEPDONE is set. -/
  | stepDone
  /-- STEP_STALL (R716): A step cannot complete within 10 us and is abandoned with STEPSTALL. -/
  | stepStall
  /-- DEBUG_RELOCK (R710): A write of RELOCK locks the port, resumes any halt and disarms watchpoints. -/
  | debugRelock (m : Fin 32) (v : BitVec 28) (e : Env)
  /-- SUPPLY_RECOVERY (R438): A supply rises back above its warning level; its LIVE bit and the LIVE of its record clear and its reset source may start its 2 ms hold. -/
  | supplyRecovery (n : Fin 11)
  /-- BACKUP_SUPPLY_LOSS (R439): VANA and VBAK both fall below 1.5 V and the backup block loses its contents, so BAKLOST is 1 at the next power-on. -/
  | backupSupplyLoss
  /-- PCIE_LINK_UP (R320): PCI Express link training completes and LINKUP, GEN and WIDTH are set with MAXGEN, MAXW and SRIS taking effect. -/
  | pcieLinkUp (gen : BitVec 3) (width : BitVec 2) (taps : List (Byte × Byte × Byte))
  /-- CHECKER_SYNC (R326): A lane pattern checker enters sync after 64 error-free bits or 8 correct square-wave periods and starts counting errors. -/
  | checkerSync (n : Fin 32) (errs : Nat)
  /-- CHECKER_SYNC_LOSS (R326): A lane pattern checker sees 16 errors in 64 bits, leaves sync and sets SYNCLOSS. -/
  | checkerSyncLoss (n : Fin 32) (errs : Nat)
  /-- SERIAL_PARTIAL_WORD (R400): TCS_N rises in the middle of a word, and the partial word is discarded with SHERR set. -/
  | serialPartialWord
  /-- DEBUG_UNKNOWN_OP (R706): A debug request frame with an unknown OP is answered 0x10. -/
  | debugUnknownOp (op : Byte) (crc : BitVec 16) (pl : List Byte)
  /-- AWL_RESERVED_ENCODING (R523): An Awl core fetches an instruction with a reserved encoding or a non-CODE cell and enters the FETCH exception. -/
  | awlReservedEncoding (n : Fin 4)
  /-- TJ_UPDATE (R744): Every 256 ticks PWR_TJ.TJ takes the junction sensor reading and MAX is raised when exceeded. -/
  | tjUpdate (tj : BitVec 12)
  deriving DecidableEq, Repr

end Sys2Proof
end

