-- ==== Sys2Proof/Machine/Hash.lean ====
section
/-! DEFINITION. The hash functions that the spec names by their standards (R96, R461, R473): SHA3-256 and SHAKE of FIPS
202, and SHA-512 of FIPS 180-4, over lists of bytes. PRESUMED, log entry 4: the spec does not repeat the standards. -/
namespace Sys2Proof.Machine

/-- A number's lowest `n` bytes, lowest first. -/
def leBytes (v : Nat) : Nat → List Nat
  | 0 => []
  | n + 1 => v % 256 :: leBytes (v / 256) n

/-- Bytes as a number, lowest first. -/
def leNat : List Nat → Nat
  | [] => 0
  | x :: t => x % 256 + 256 * leNat t

/-- Bytes as a number, highest first. -/
def beNat (l : List Nat) : Nat := l.foldl (fun a b => a * 256 + b % 256) 0

/-! ## Keccak (FIPS 202) -/

/-- A 64-bit lane turned left. -/
def rotl64 (v n : Nat) : Nat := v * 2 ^ n % 2 ^ 64 + v / 2 ^ (64 - n)

/-- Offsets of the step ρ, at lane x + 5 y. -/
def keccakOffsets : List Nat :=
  [0, 1, 62, 28, 27] ++ [36, 44, 6, 55, 20] ++ [3, 10, 43, 25, 39] ++ [41, 45, 15, 21, 8] ++ [18, 2, 61, 56, 14]

/-- Round constants of the step ι. -/
def keccakRounds : List Nat :=
  [0x0000000000000001, 0x0000000000008082, 0x800000000000808A, 0x8000000080008000] ++
  [0x000000000000808B, 0x0000000080000001, 0x8000000080008081, 0x8000000000008009] ++
  [0x000000000000008A, 0x0000000000000088, 0x0000000080008009, 0x000000008000000A] ++
  [0x000000008000808B, 0x800000000000008B, 0x8000000000008089, 0x8000000000008003] ++
  [0x8000000000008002, 0x8000000000000080, 0x000000000000800A, 0x800000008000000A] ++
  [0x8000000080008081, 0x8000000000008080, 0x0000000080000001, 0x8000000080008008]

/-- One round: θ, ρ with π, χ, ι. A state is its 25 lanes, lane x + 5 y. -/
def keccakRound (a : List Nat) (rc : Nat) : List Nat :=
  let c := (List.range 5).map (fun x => (List.range 5).foldl (fun v y => Nat.xor v (a.getD (x + 5 * y) 0)) 0)
  let d := (List.range 5).map (fun x => Nat.xor (c.getD ((x + 4) % 5) 0) (rotl64 (c.getD ((x + 1) % 5) 0) 1))
  let t := (List.range 25).map (fun i => rotl64 (Nat.xor (a.getD i 0) (d.getD (i % 5) 0)) (keccakOffsets.getD i 0))
  let b := (List.range 25).map (fun i => t.getD ((i % 5 + 3 * (i / 5)) % 5 + 5 * (i % 5)) 0)
  (List.range 25).map (fun i =>
    let row := fun (k : Nat) => b.getD ((i + k) % 5 + 5 * (i / 5)) 0
    let v := Nat.xor (row 0) (Nat.land (2 ^ 64 - 1 - row 1) (row 2))
    if i = 0 then Nat.xor v rc else v)

/-- Keccak-f[1600]. -/
def keccakF (a : List Nat) : List Nat := keccakRounds.foldl keccakRound a

/-- A block of bytes taken into the state. -/
def keccakAbsorb (a blk : List Nat) : List Nat :=
  keccakF ((List.range 25).map (fun i => Nat.xor (a.getD i 0) (leNat ((blk.drop (8 * i)).take 8))))

/-- The padded message: the suffix of the function, zeros, and the last bit of the block. -/
def keccakPad (rate suffix : Nat) (m : List Nat) : List Nat :=
  let n := rate - m.length % rate
  if n = 1 then m ++ [suffix + 0x80] else m ++ [suffix] ++ List.replicate (n - 2) 0 ++ [0x80]

/-- The sponge: `n` bytes out of a message, at a rate in bytes. -/
def sponge (rate suffix : Nat) (m : List Nat) (n : Nat) : List Nat :=
  let p := keccakPad rate suffix m
  let a := (List.range (p.length / rate)).foldl (fun a k => keccakAbsorb a ((p.drop (rate * k)).take rate))
    (List.replicate 25 0)
  let out := fun (a : List Nat) => ((a.map (fun v => leBytes v 8)).flatten).take rate
  let r := (List.range (n / rate)).foldl (fun (o : List Nat × List (List Nat)) _ =>
    let b := keccakF o.1
    (b, out b :: o.2)) (a, [out a])
  (r.2.reverse.flatten).take n

/-- SHA3-256 of a byte string, as a number with byte 0 lowest (R96, R473). -/
@[irreducible] def sha3 (m : List Nat) : Nat := leNat (sponge 136 0x06 m 32)

/-- SHAKE128. -/
def shake128 (m : List Nat) (n : Nat) : List Nat := sponge 168 0x1F m n

/-- SHAKE256. -/
def shake256 (m : List Nat) (n : Nat) : List Nat := sponge 136 0x1F m n

/-! ## SHA-512 (FIPS 180-4) -/

/-- The constants of the rounds. -/
def sha512Rounds : List Nat :=
  [0x428A2F98D728AE22, 0x7137449123EF65CD, 0xB5C0FBCFEC4D3B2F, 0xE9B5DBA58189DBBC] ++
  [0x3956C25BF348B538, 0x59F111F1B605D019, 0x923F82A4AF194F9B, 0xAB1C5ED5DA6D8118] ++
  [0xD807AA98A3030242, 0x12835B0145706FBE, 0x243185BE4EE4B28C, 0x550C7DC3D5FFB4E2] ++
  [0x72BE5D74F27B896F, 0x80DEB1FE3B1696B1, 0x9BDC06A725C71235, 0xC19BF174CF692694] ++
  [0xE49B69C19EF14AD2, 0xEFBE4786384F25E3, 0x0FC19DC68B8CD5B5, 0x240CA1CC77AC9C65] ++
  [0x2DE92C6F592B0275, 0x4A7484AA6EA6E483, 0x5CB0A9DCBD41FBD4, 0x76F988DA831153B5] ++
  [0x983E5152EE66DFAB, 0xA831C66D2DB43210, 0xB00327C898FB213F, 0xBF597FC7BEEF0EE4] ++
  [0xC6E00BF33DA88FC2, 0xD5A79147930AA725, 0x06CA6351E003826F, 0x142929670A0E6E70] ++
  [0x27B70A8546D22FFC, 0x2E1B21385C26C926, 0x4D2C6DFC5AC42AED, 0x53380D139D95B3DF] ++
  [0x650A73548BAF63DE, 0x766A0ABB3C77B2A8, 0x81C2C92E47EDAEE6, 0x92722C851482353B] ++
  [0xA2BFE8A14CF10364, 0xA81A664BBC423001, 0xC24B8B70D0F89791, 0xC76C51A30654BE30] ++
  [0xD192E819D6EF5218, 0xD69906245565A910, 0xF40E35855771202A, 0x106AA07032BBD1B8] ++
  [0x19A4C116B8D2D0C8, 0x1E376C085141AB53, 0x2748774CDF8EEB99, 0x34B0BCB5E19B48A8] ++
  [0x391C0CB3C5C95A63, 0x4ED8AA4AE3418ACB, 0x5B9CCA4F7763E373, 0x682E6FF3D6B2B8A3] ++
  [0x748F82EE5DEFB2FC, 0x78A5636F43172F60, 0x84C87814A1F0AB72, 0x8CC702081A6439EC] ++
  [0x90BEFFFA23631E28, 0xA4506CEBDE82BDE9, 0xBEF9A3F7B2C67915, 0xC67178F2E372532B] ++
  [0xCA273ECEEA26619C, 0xD186B8C721C0C207, 0xEADA7DD6CDE0EB1E, 0xF57D4F7FEE6ED178] ++
  [0x06F067AA72176FBA, 0x0A637DC5A2C898A6, 0x113F9804BEF90DAE, 0x1B710B35131C471B] ++
  [0x28DB77F523047D84, 0x32CAAB7B40C72493, 0x3C9EBE0A15C9BEBC, 0x431D67C49C100D4C] ++
  [0x4CC5D4BECB3E42B6, 0x597F299CFC657E2A, 0x5FCB6FAB3AD6FAEC, 0x6C44198C4A475817]

/-- The words that hashing starts from. -/
def sha512Start : List Nat :=
  [0x6A09E667F3BCC908, 0xBB67AE8584CAA73B, 0x3C6EF372FE94F82B, 0xA54FF53A5F1D36F1] ++
  [0x510E527FADE682D1, 0x9B05688C2B3E6C1F, 0x1F83D9ABFB41BD6B, 0x5BE0CD19137E2179]

/-- A 64-bit word turned right. -/
def rotr64 (v n : Nat) : Nat := v / 2 ^ n + v % 2 ^ n * 2 ^ (64 - n)

/-- The 80 words of the message schedule of a block. -/
def sha512Schedule (blk : List Nat) : List Nat :=
  let w0 := ((List.range 16).map (fun i => beNat ((blk.drop (8 * i)).take 8))).reverse
  ((List.range 64).foldl (fun w _ =>
    let x := w.getD 14 0
    let y := w.getD 1 0
    let s0 := Nat.xor (Nat.xor (rotr64 x 1) (rotr64 x 8)) (x / 2 ^ 7)
    let s1 := Nat.xor (Nat.xor (rotr64 y 19) (rotr64 y 61)) (y / 2 ^ 6)
    (w.getD 15 0 + s0 + w.getD 6 0 + s1) % 2 ^ 64 :: w) w0).reverse

/-- One round over the eight working words. -/
def sha512Round (v : List Nat) (kw : Nat) : List Nat :=
  let g := fun (i : Nat) => v.getD i 0
  let s1 := Nat.xor (Nat.xor (rotr64 (g 4) 14) (rotr64 (g 4) 18)) (rotr64 (g 4) 41)
  let ch := Nat.xor (Nat.land (g 4) (g 5)) (Nat.land (2 ^ 64 - 1 - g 4) (g 6))
  let t1 := g 7 + s1 + ch + kw
  let s0 := Nat.xor (Nat.xor (rotr64 (g 0) 28) (rotr64 (g 0) 34)) (rotr64 (g 0) 39)
  let mj := Nat.xor (Nat.xor (Nat.land (g 0) (g 1)) (Nat.land (g 0) (g 2))) (Nat.land (g 1) (g 2))
  [(t1 + s0 + mj) % 2 ^ 64, g 0, g 1, g 2, (g 3 + t1) % 2 ^ 64, g 4, g 5, g 6]

/-- A block taken into the eight hash words. -/
def sha512Block (h blk : List Nat) : List Nat :=
  let w := sha512Schedule blk
  let v := (List.range 80).foldl (fun v i => sha512Round v (sha512Rounds.getD i 0 + w.getD i 0)) h
  (List.range 8).map (fun i => (h.getD i 0 + v.getD i 0) % 2 ^ 64)

/-- SHA-512 of a byte string. -/
def sha512 (m : List Nat) : List Nat :=
  let p := m ++ [0x80] ++ List.replicate ((239 - m.length % 128) % 128) 0 ++ (leBytes (8 * m.length) 16).reverse
  let h := (List.range (p.length / 128)).foldl (fun h k => sha512Block h ((p.drop (128 * k)).take 128)) sha512Start
  (h.map (fun v => (leBytes v 8).reverse)).flatten

end Sys2Proof.Machine
end

