-- ==== Sys2Proof/Config.lean ====
section
/-! DEFINITION. What the spec leaves to the silicon or to nobody: opaque constants, so that no proof can see their values.
Log entries 5, 46 and 58 name each of them. -/
namespace Sys2Proof

/-- A free value: some number the spec does not state, drawn by a plain counter of the state. -/
opaque Config.freeValue : Nat → Nat

/-- What R587, R588 and R605 leave of a sample's dynamics: a draw and which of its open points. -/
opaque Config.audioFree : Nat → Nat → Nat

/-- What R616 leaves of a report: a draw and which of its open points. -/
opaque Config.panelFree : Nat → Nat → Nat

/-- What a rate bridge puts out at one sample (R585): its number and a fresh draw. -/
opaque Config.bridge : Nat → Nat → Int

/-- The 32-byte seeds of the identity keys (R482), in fuses that no master can read: Ed25519 and ML-DSA-65. -/
opaque Config.edSeed : Nat
opaque Config.mlSeed : Nat

/-- The status that goes with detail 0x18, 0x19 or 0x1B of R475, which the spec does not state. -/
opaque Config.loadStatus : Nat → Nat

/-- The order among touch points that R615 and R616 leave open: a rank by peak node. -/
opaque Config.pointRank : Nat → Nat

end Sys2Proof
end

