-- ==== Sys2Proof/Machine/Ed25519.lean ====
section
/-! DEFINITION. Ed25519 in pure mode (R461, R483), from RFC 8032. PRESUMED, log entry 4: the spec names the standard, the
cofactorless equation and the rejections, and does not repeat the curve. -/
namespace Sys2Proof.Machine

/-- The prime of the field. -/
def edP : Nat := 2 ^ 255 - 19

/-- The order of the group. -/
def edL : Nat := 2 ^ 252 + 27742317777372353535851937790883648493

/-- `b ^ e` in the field, for `e` below 2²⁵⁶. -/
def edPow (b e : Nat) : Nat :=
  (List.range 256).foldl (fun a i =>
    let q := a * a % edP
    if e / 2 ^ (255 - i) % 2 = 1 then q * b % edP else q) 1

/-- The inverse in the field. -/
def edInv (x : Nat) : Nat := edPow x (edP - 2)

/-- The difference in the field. -/
def edSub (a b : Nat) : Nat := (a + edP - b % edP) % edP

/-- d = −121665 / 121666. -/
def edD : Nat := edSub 0 (121665 * edInv 121666 % edP)

/-- A square root of −1. -/
def edI : Nat := edPow 2 ((edP - 1) / 4)

/-- A point in extended coordinates: x = X / Z, y = Y / Z, x y = T / Z. -/
structure EdPoint where
  X : Nat
  Y : Nat
  Z : Nat
  T : Nat
  deriving DecidableEq, Repr

/-- The neutral point. -/
def edZero : EdPoint := ⟨0, 1, 1, 0⟩

/-- The sum of two points, with d given. -/
def edAdd (d : Nat) (p q : EdPoint) : EdPoint :=
  let a := edSub p.Y p.X * edSub q.Y q.X % edP
  let b := (p.Y + p.X) * (q.Y + q.X) % edP
  let c := p.T * 2 * d % edP * q.T % edP
  let z := p.Z * 2 * q.Z % edP
  let e := edSub b a
  let f := edSub z c
  let g := z + c
  let h := b + a
  ⟨e * f % edP, g * h % edP, f * g % edP, e * h % edP⟩

/-- A multiple of a point, for a multiplier below 2²⁵⁶. -/
def edMul (k : Nat) (p : EdPoint) : EdPoint :=
  let d := edD
  (List.range 256).foldl (fun a i =>
    let q := edAdd d a a
    if k / 2 ^ (255 - i) % 2 = 1 then edAdd d q p else q) edZero

/-- The x of a y with a sign, where the point lies on the curve (RFC 8032, 5.1.3). -/
def edX (y sign : Nat) : Option Nat :=
  let u := edSub (y * y % edP) 1
  let v := (edD * y % edP * y + 1) % edP
  let r := u * edInv v % edP
  let c := edPow r ((edP + 3) / 8)
  let x := if c * c % edP = r then c else c * edI % edP
  if x * x % edP ≠ r then none
  else if x = 0 ∧ sign = 1 then none
  else some (if x % 2 = sign then x else edP - x)

/-- The point that 32 bytes encode, as a number with byte 0 lowest; none where they are no canonical encoding (R461). -/
def edPoint (n : Nat) : Option EdPoint :=
  let y := n % 2 ^ 255
  if edP ≤ y then none else (edX y (n / 2 ^ 255 % 2)).map (fun x => ⟨x, y, 1, x * y % edP⟩)

/-- The base point: y = 4 / 5, x even. -/
def edBase : EdPoint := (edPoint (4 * edInv 5 % edP)).getD edZero

/-- The encoding of a point. -/
def edEncode (p : EdPoint) : Nat :=
  let zi := edInv p.Z
  p.Y * zi % edP + p.X * zi % edP % 2 * 2 ^ 255

/-- Are two points the same? -/
def edSame (p q : EdPoint) : Bool := p.X * q.Z % edP == q.X * p.Z % edP && p.Y * q.Z % edP == q.Y * p.Z % edP

/-- Ed25519 verification (R461): public key, 64 bytes of signature, message. S below L, canonical points, and the
cofactorless equation S B = R + k A. -/
@[irreducible] def ed25519Ok (pub : Nat) (sig m : List Nat) : Bool :=
  let r := leNat (sig.take 32)
  let s := leNat ((sig.drop 32).take 32)
  match edPoint pub, edPoint r with
  | some a, some rp =>
    let k := leNat (sha512 (leBytes r 32 ++ leBytes pub 32 ++ m)) % edL
    decide (s < edL) && edSame (edMul s edBase) (edAdd edD rp (edMul k a))
  | _, _ => false

/-- The secret scalar and the prefix of a seed. -/
def edSecret (seed : Nat) : Nat × List Nat :=
  let h := sha512 (leBytes seed 32)
  (leNat (h.take 32) % 2 ^ 254 / 8 * 8 + 2 ^ 254, h.drop 32)

/-- The public key of a seed. -/
@[irreducible] def edPublic (seed : Nat) : Nat := edEncode (edMul (edSecret seed).1 edBase)

/-- The signature of a message under a seed, as a number with byte 0 lowest (R483). -/
@[irreducible] def edSign (seed : Nat) (m : List Nat) : Nat :=
  let r := leNat (sha512 ((edSecret seed).2 ++ m)) % edL
  let rp := edEncode (edMul r edBase)
  let k := leNat (sha512 (leBytes rp 32 ++ leBytes (edPublic seed) 32 ++ m)) % edL
  rp + (r + k * (edSecret seed).1) % edL * 2 ^ 256

end Sys2Proof.Machine
end

