-- ==== Sys2Proof/Machine/MlDsa.lean ====
section
/-! DEFINITION. ML-DSA-65 in pure mode with the empty context (R461, R482, R483), from FIPS 204. PRESUMED, log entry 4: the
spec names the standard and does not repeat it. A polynomial is the list of its 256 coefficients, each from 0 to q − 1;
its transform is the list of its values. -/
namespace Sys2Proof.Machine

/-- q, and the parameters γ1, γ2 and β of ML-DSA-65. -/
def mlQ : Nat := 8380417
def mlG1 : Nat := 2 ^ 19
def mlG2 : Nat := 261888
def mlBeta : Nat := 196

/-! ## Polynomials -/

/-- `b ^ e` modulo q, for `e` below 2²⁴. -/
def mlPow (b e : Nat) : Nat :=
  (List.range 24).foldl (fun a i =>
    let x := a * a % mlQ
    if e / 2 ^ (23 - i) % 2 = 1 then x * b % mlQ else x) 1

/-- The eight bits of a number in the other order. -/
def brv8 (n : Nat) : Nat := (List.range 8).foldl (fun a i => a * 2 + n / 2 ^ i % 2) 0

/-- The points at which a transform evaluates, in its order: powers of 1753, a 512th root of unity. -/
def mlPoints : List Nat := (List.range 256).map (fun i => mlPow 1753 (2 * brv8 i + 1))

/-- The transform of a polynomial. -/
def mlNtt (p : List Nat) : List Nat := mlPoints.map (fun x => p.foldr (fun c a => (c + x * a) % mlQ) 0)

/-- The polynomial of a transform. -/
def mlInv (v : List Nat) : List Nat :=
  let xs := mlPoints.map (fun x => mlPow x 511)
  let k := mlPow 256 (mlQ - 2)
  (((List.range 256).foldl (fun (a : List Nat × List Nat) _ =>
    (List.zipWith (fun t x => t * x % mlQ) a.1 xs, a.1.foldl (· + ·) 0 * k % mlQ :: a.2)) (v, [])).2).reverse

/-- Sum, difference and product coefficient by coefficient. -/
def mlAdd (a b : List Nat) : List Nat := List.zipWith (fun x y => (x + y) % mlQ) a b
def mlSub (a b : List Nat) : List Nat := List.zipWith (fun x y => (x + mlQ - y) % mlQ) a b
def mlMul (a b : List Nat) : List Nat := List.zipWith (fun x y => x * y % mlQ) a b

/-- A matrix of transforms times a vector of them. -/
def mlApply (m : List (List (List Nat))) (v : List (List Nat)) : List (List Nat) :=
  m.map (fun row => (List.zipWith mlMul row v).foldl mlAdd (List.replicate 256 0))

/-- The size of a coefficient as a number around 0. -/
def mlNorm (c : Nat) : Nat := min c (mlQ - c)

/-- Is every coefficient of a vector smaller than a bound? -/
def mlShort (v : List (List Nat)) (b : Nat) : Bool := v.all (fun p => p.all (fun c => decide (mlNorm c < b)))

/-! ## Packing -/

/-- Coefficients of `n` bits each as a number, the first lowest. -/
def mlPack (n : Nat) (p : List Nat) : Nat := p.foldr (fun c a => c + 2 ^ n * a) 0

/-- 256 fields of `n` bits out of bytes. -/
def mlUnpack (n : Nat) (b : List Nat) : List Nat :=
  let v := leNat b
  (List.range 256).map (fun i => v / 2 ^ (n * i) % 2 ^ n)

/-- Piece `i` of bytes cut into pieces of `n`, from offset `o`. -/
def mlPiece (b : List Nat) (o n i : Nat) : List Nat := (b.drop (o + n * i)).take n

/-! ## Sampling: more bytes are squeezed than a loop of FIPS 204, appendix C, may use -/

/-- Triples of bytes as candidates of 23 bits. -/
def mlTriples : List Nat → List Nat
  | a :: b :: c :: t => (a + 256 * b + 65536 * (c % 128)) :: mlTriples t
  | _ => []

/-- ExpandA: the matrix of transforms that a seed of 32 bytes gives. -/
def mlMatrix (rho : List Nat) : List (List (List Nat)) :=
  (List.range 6).map (fun r => (List.range 5).map (fun s =>
    ((mlTriples (shake128 (rho ++ [s, r]) (3 * 894))).filter (fun c => decide (c < mlQ))).take 256))

/-- RejBoundedPoly: coefficients from −4 to 4. -/
def mlSmall (seed : List Nat) : List Nat :=
  ((((shake256 seed 481).flatMap (fun b => [b % 16, b / 16])).filter (fun z => decide (z < 9))).take 256).map
    (fun z => (mlQ + 4 - z) % mlQ)

/-- ExpandMask: coefficients from −γ1 + 1 to γ1. -/
def mlMask (seed : List Nat) (k : Nat) : List (List Nat) :=
  (List.range 5).map (fun r =>
    (mlUnpack 20 (shake256 (seed ++ leBytes (k + r) 2) 640)).map (fun v => (mlQ + mlG1 - v) % mlQ))

/-- SampleInBall: 49 coefficients of 1 or −1. -/
def mlBall (seed : List Nat) : List Nat :=
  let b := shake256 seed (8 + 221)
  let h := leNat (b.take 8)
  ((List.range 49).foldl (fun (a : List Nat × List Nat) k =>
    let i := 207 + k
    let t := a.2.dropWhile (fun j => decide (i < j))
    let j := t.headD 0
    ((a.1.set i (a.1.getD j 0)).set j (if h / 2 ^ k % 2 = 1 then mlQ - 1 else 1), t.drop 1))
    (List.replicate 256 0, b.drop 8)).1

/-! ## Rounding and hints -/

/-- Decompose: the high part, and the low part around 0. -/
def mlHigh (r : Nat) : Nat := (r + mlG2 - 1) / (2 * mlG2) % 16
def mlLow (r : Nat) : Int :=
  let h := (r + mlG2 - 1) / (2 * mlG2)
  (r : Int) - h * (2 * mlG2) - (if h = 16 then 1 else 0)

/-- UseHint. -/
def mlUse (hint : Bool) (r : Nat) : Nat :=
  if !hint then mlHigh r else if 0 < mlLow r then (mlHigh r + 1) % 16 else (mlHigh r + 15) % 16

/-- Does a list rise strictly? -/
def mlRises : List Nat → Bool
  | a :: b :: t => decide (a < b) && mlRises (b :: t)
  | _ => true

/-- HintBitUnpack: the positions of the hints in each of six polynomials; none where the bytes are no encoding. -/
def mlHints (y : List Nat) : Option (List (List Nat)) :=
  let e := fun (i : Nat) => if i = 0 then 0 else y.getD (54 + i) 0
  let parts := (List.range 6).map (fun i => (y.drop (e i)).take (e (i + 1) - e i))
  if (List.range 6).all (fun i => decide (e i ≤ e (i + 1)) && decide (e (i + 1) ≤ 55)) && parts.all mlRises &&
      ((y.take 55).drop (e 6)).all (· == 0) then some parts
  else none

/-- HintBitPack. -/
def mlHintBytes (h : List (List Nat)) : List Nat :=
  h.flatten ++ List.replicate (55 - h.flatten.length) 0 ++
    (List.range 6).map (fun i => ((h.take (i + 1)).map List.length).sum)

/-! ## Keys, verification and signing -/

/-- The representative of a message under a public key: pure mode, empty context. -/
def mlMessage (pub m : List Nat) : List Nat := shake256 (shake256 pub 64 ++ [0, 0] ++ m) 64

/-- The challenge of a representative and a high part. -/
def mlChallenge (mu : List Nat) (w1 : List (List Nat)) : List Nat :=
  shake256 (mu ++ w1.flatMap (fun p => leBytes (mlPack 4 p) 128)) 48

/-- ML-DSA.Verify (R461): 1,952 bytes of public key, 3,309 bytes of signature, message. -/
@[irreducible] def mldsaOk (pub sig m : List Nat) : Bool :=
  let zs := (List.range 5).map (fun i => mlUnpack 20 (mlPiece sig 48 640 i))
  let z := zs.map (fun p => p.map (fun v => (mlQ + mlG1 - v) % mlQ))
  match mlHints (sig.drop 3248) with
  | none => false
  | some h =>
    let c := mlNtt (mlBall (sig.take 48))
    let t1 := (List.range 6).map (fun i => (mlUnpack 10 (mlPiece pub 32 320 i)).map (fun v => v * 2 ^ 13))
    let az := mlApply (mlMatrix (pub.take 32)) (z.map mlNtt)
    let w := List.zipWith (fun a t => mlInv (mlSub a (mlMul c (mlNtt t)))) az t1
    let w1 := List.zipWith (fun p hs => p.mapIdx (fun i r => mlUse (hs.contains i) r)) w h
    mlShort z (mlG1 - mlBeta) && mlChallenge (mlMessage pub m) w1 == sig.take 48

/-- The parts of a key pair. -/
structure MlKey where
  pub : List Nat
  secret : List Nat
  mat : List (List (List Nat))
  s1 : List (List Nat)
  s2 : List (List Nat)
  t0 : List (List Nat)

/-- ML-DSA.KeyGen of a seed (R482). -/
def mlKey (seed : Nat) : MlKey :=
  let x := shake256 (leBytes seed 32 ++ [6, 5]) 128
  let rho := x.take 32
  let mat := mlMatrix rho
  let small := fun (r : Nat) => mlSmall ((x.drop 32).take 64 ++ leBytes r 2)
  let s1 := (List.range 5).map small
  let s2 := (List.range 6).map (fun r => small (5 + r))
  let t := List.zipWith mlAdd ((mlApply mat (s1.map mlNtt)).map mlInv) s2
  let t1 := t.map (fun p => p.map (fun r => (r + 2 ^ 12 - 1) / 2 ^ 13))
  ⟨rho ++ t1.flatMap (fun p => leBytes (mlPack 10 p) 320), x.drop 96, mat, s1, s2,
    List.zipWith mlSub t (t1.map (fun p => p.map (fun v => v * 2 ^ 13)))⟩

/-- The ML-DSA-65 public key of a seed. -/
@[irreducible] def mlPublic (seed : Nat) : List Nat := (mlKey seed).pub

/-- One try of a signature; none where it is rejected. -/
def mlTry (k : MlKey) (mu mask : List Nat) (n : Nat) : Option (List Nat) :=
  let y := mlMask mask n
  let w := (mlApply k.mat (y.map mlNtt)).map mlInv
  let ch := mlChallenge mu (w.map (fun p => p.map mlHigh))
  let c := mlNtt (mlBall ch)
  let times := fun (v : List (List Nat)) => v.map (fun p => mlInv (mlMul c (mlNtt p)))
  let z := List.zipWith mlAdd y (times k.s1)
  let r := List.zipWith mlSub w (times k.s2)
  let ct := times k.t0
  let h := List.zipWith (fun rp cp => (List.zipWith (fun a b => mlHigh a != mlHigh ((a + b) % mlQ)) rp cp).mapIdx
    (fun i d => (i, d)) |>.filter (·.2) |>.map (·.1)) r ct
  if mlShort z (mlG1 - mlBeta) && r.all (fun p => p.all (fun a => decide ((mlLow a).natAbs < mlG2 - mlBeta))) &&
      mlShort ct mlG2 && decide (h.flatten.length ≤ 55) then
    some (ch ++ z.flatMap (fun p => leBytes (mlPack 20 (p.map (fun a => (mlG1 + mlQ - a) % mlQ))) 640) ++ mlHintBytes h)
  else none

/-- The first try that is not rejected. -/
def mlTries (k : MlKey) (mu mask : List Nat) (n : Nat) : Nat → List Nat
  | 0 => []
  | f + 1 =>
    match mlTry k mu mask n with
    | some b => b
    | none => mlTries k mu mask (n + 5) f

/-- ML-DSA.Sign in hedged mode (R483), with 32 bytes of randomness: the 3,309 bytes of a signature. -/
@[irreducible] def mlSign (seed rnd : Nat) (m : List Nat) : List Nat :=
  let k := mlKey seed
  let mu := mlMessage k.pub m
  mlTries k mu (shake256 (k.secret ++ leBytes rnd 32 ++ mu) 64) 0 814

end Sys2Proof.Machine
end

