-- ==== Sys2Proof/Machine/Pixels.lean ====
section
/-! DEFINITION. The arithmetic of pixels (04_layers.md R142–R144, 06_composition.md R193–R215, 07_heads.md R248): widening,
the pixel formats, mul14, the look-up tables, blending, background, narrowing and CRC-32. -/
namespace Sys2Proof.Machine

/-- A colour at 14 bits: alpha, red, green, blue. -/
structure Px where
  a : Nat
  r : Nat
  g : Nat
  b : Nat
  deriving DecidableEq, Repr

/-- A layer's pixel after stage 3 (R203): its position in the layer table, its stacking key (R201), whether its decoded
alpha is above 0 (R153), its effective alpha and its premultiplied colour. -/
structure LayPx where
  pos : Nat
  key : Nat
  solid : Bool
  ae : Nat
  r : Nat
  g : Nat
  b : Nat
  deriving DecidableEq, Repr

/-- 1.0 at 14 bits. -/
def one14 : Nat := 16383

/-- A pixel of colour 0 and alpha 0. -/
def pxZero : Px := ⟨0, 0, 0, 0⟩

/-- An `n`-bit channel widened to 14 bits by bit repetition (R144). -/
def widen (n v : Nat) : Nat :=
  let k := ceilDiv 14 n
  (List.range k).foldl (fun a _ => a * 2 ^ n + v) 0 / 2 ^ (n * k - 14)

/-- R193. -/
def mul14 (a b : Nat) : Nat := (a * b + 8191) / 16383

/-- A 14-bit value narrowed to `n` bits (R215). -/
def narrow (n v : Nat) : Nat := (v * (2 ^ n - 1) + 8191) / 16383

/-- Bits per pixel of a format (R142); 0 for a reserved one. -/
def fmtBpp (f : Nat) : Nat :=
  match f with
  | 0 => 1 | 1 => 2 | 2 => 4 | 3 => 8 | 4 => 16 | 5 => 16 | 6 => 16 | 7 => 24 | 8 => 32 | 9 => 32
  | _ => 0

/-- A format whose pixels are palette indices. -/
def fmtIndexed (f : Nat) : Bool := decide (f < 4)

/-- A direct-format pixel decoded to 14 bits (R142, R144). -/
def decodeDirect (f v : Nat) : Px :=
  match f with
  | 4 => ⟨one14, widen 5 (nbits v 15 11), widen 6 (nbits v 10 5), widen 5 (nbits v 4 0)⟩
  | 5 => ⟨widen 1 (nbits v 15 15), widen 5 (nbits v 14 10), widen 5 (nbits v 9 5), widen 5 (nbits v 4 0)⟩
  | 6 => ⟨widen 4 (nbits v 15 12), widen 4 (nbits v 11 8), widen 4 (nbits v 7 4), widen 4 (nbits v 3 0)⟩
  | 7 => ⟨one14, widen 8 (nbits v 23 16), widen 8 (nbits v 15 8), widen 8 (nbits v 7 0)⟩
  | 8 => ⟨widen 8 (nbits v 31 24), widen 8 (nbits v 23 16), widen 8 (nbits v 15 8), widen 8 (nbits v 7 0)⟩
  | 9 => ⟨widen 2 (nbits v 31 30), widen 10 (nbits v 29 20), widen 10 (nbits v 19 10), widen 10 (nbits v 9 0)⟩
  | _ => pxZero

/-- A pixel in a format's layout from 14-bit channels (R214): formats 0x8 and 0x9 of R142. -/
def encode8888 (p : Px) : Nat := narrow 8 p.a * 2 ^ 24 + narrow 8 p.r * 2 ^ 16 + narrow 8 p.g * 2 ^ 8 + narrow 8 p.b
def encode2101010 (p : Px) : Nat := narrow 2 p.a * 2 ^ 30 + narrow 10 p.r * 2 ^ 20 + narrow 10 p.g * 2 ^ 10 + narrow 10 p.b

/-- R198: the output for input `v`, with `l j` the channel's value in entry `j`. -/
def lutMap (l : Nat → Nat) (v : Nat) : Nat :=
  let i := v / 4
  let f := v % 4
  let li : Int := l i
  let next : Int := if i = 4095 then 2 * (l 4095 : Int) - l 4094 else l (i + 1)
  (clampInt 0 16383 (li + Int.fdiv ((next - li) * f + 2) 4)).toNat

/-- A colour whose channels pass through a LUT; alpha passes unchanged. -/
def lutPx (lr lg lb : Nat → Nat) (p : Px) : Px := ⟨p.a, lutMap lr p.r, lutMap lg p.g, lutMap lb p.b⟩

/-- Stage 3 (R203). -/
def layerAlpha (pos key alpha : Nat) (premul : Bool) (p : Px) : LayPx :=
  let a14 := widen 8 alpha
  let ae := mul14 p.a a14
  let m := if premul then a14 else ae
  ⟨pos, key, decide (0 < p.a), ae, mul14 p.r m, mul14 p.g m, mul14 p.b m⟩

/-- One step of stage 5 (R204). -/
def blend1 (c : Px) (l : LayPx) : Px :=
  let k := 16383 - l.ae
  ⟨l.ae + mul14 c.a k, min 16383 (l.r + mul14 c.r k), min 16383 (l.g + mul14 c.g k), min 16383 (l.b + mul14 c.b k)⟩

/-- A layer pixel put into a list ordered by key (R201). -/
def stackIn (l : LayPx) : List LayPx → List LayPx
  | [] => [l]
  | m :: t => if l.key < m.key then l :: m :: t else m :: stackIn l t

/-- Stages 4 and 5. -/
def blendAll (ls : List LayPx) : Px := (ls.foldl (fun a l => stackIn l a) []).foldl blend1 pxZero

/-- A layer pixel of a stitch joins those of the same position: the lowest sprite with alpha above 0, or the lowest that
covers (R153), since stitches arrive in evaluation order. -/
def joinPx (l : LayPx) : List LayPx → List LayPx
  | [] => [l]
  | m :: t => if m.pos = l.pos then (if !m.solid && l.solid then l :: t else m :: t) else m :: joinPx l t

/-- Stage 6 (R206): `bg` holds BGA and the background channels. -/
def background (bg c : Px) : Px :=
  let k := 16383 - c.a
  ⟨c.a + mul14 bg.a k, min 16383 (c.r + mul14 (mul14 bg.r bg.a) k), min 16383 (c.g + mul14 (mul14 bg.g bg.a) k),
   min 16383 (c.b + mul14 (mul14 bg.b bg.a) k)⟩

/-! ## CRC-32 of check rectangles (R248) -/

/-- One bit of the reflected CRC-32. -/
def crcBit (c : Nat) : Nat := if c % 2 = 1 then Nat.xor (c / 2) 0xEDB88320 else c / 2

/-- One byte. -/
def crcByte (c b : Nat) : Nat := (List.range 8).foldl (fun a _ => crcBit a) (Nat.xor c (b % 256))

/-- A 16-bit little-endian halfword. -/
def crcHalf (c v : Nat) : Nat := crcByte (crcByte c (v % 256)) (v / 256 % 256)

def crcStart : Nat := 0xFFFFFFFF
def crcEnd (c : Nat) : Nat := Nat.xor c 0xFFFFFFFF

/-- CRC-32 of a byte string. -/
def crc32 (bs : List Nat) : Nat := crcEnd (bs.foldl crcByte crcStart)

end Sys2Proof.Machine
end

