-- ==== Sys2Proof/Machine/Tab.lean ====
section
/-! DEFINITION. A sparse table: a list of key and value pairs in one canonical form, keys strictly rising, and no pair
whose value is what an unlisted key reads as. Memory (R30), the register file and every per-unit array use it. -/
namespace Sys2Proof.Machine

/-- The value listed at a key. -/
def tabFind {α : Type} : List (Nat × α) → Nat → Option α
  | [], _ => none
  | (j, v) :: t, k => if j = k then some v else tabFind t k

/-- The value at a key, `d` where the key is not listed. -/
def tabGet {α : Type} (d : α) (t : List (Nat × α)) (k : Nat) : α := (tabFind t k).getD d

/-- List a value at a key, keeping the keys in rising order. -/
def tabInsert {α : Type} : List (Nat × α) → Nat → α → List (Nat × α)
  | [], k, v => [(k, v)]
  | (j, w) :: t, k, v =>
    if k < j then (k, v) :: (j, w) :: t
    else if j = k then (k, v) :: t
    else (j, w) :: tabInsert t k v

/-- Unlist a key. -/
def tabErase {α : Type} : List (Nat × α) → Nat → List (Nat × α)
  | [], _ => []
  | (j, w) :: t, k => if j = k then tabErase t k else (j, w) :: tabErase t k

/-- Set the value at a key; a value equal to the unlisted one unlists the key. -/
def tabPut {α : Type} [DecidableEq α] (d : α) (t : List (Nat × α)) (k : Nat) (v : α) : List (Nat × α) :=
  if v = d then tabErase t k else tabInsert t k v

/-- Change the value at a key. -/
def tabMod {α : Type} [DecidableEq α] (d : α) (t : List (Nat × α)) (k : Nat) (f : α → α) : List (Nat × α) :=
  tabPut d t k (f (tabGet d t k))

/-- Keys strictly rising, all of them above `lo` where `lo` is given. -/
def tabRising {α : Type} : Option Nat → List (Nat × α) → Bool
  | _, [] => true
  | none, (k, _) :: t => tabRising (some k) t
  | some j, (k, _) :: t => decide (j < k) && tabRising (some k) t

/-- The canonical form against a default that depends on the key. -/
def tabWf {α : Type} [DecidableEq α] (d : Nat → α) (t : List (Nat × α)) : Bool :=
  tabRising none t && t.all (fun e => decide (e.2 ≠ d e.1))

/-- Unlist every key that satisfies `p`. -/
def tabDrop {α : Type} (p : Nat → Bool) (t : List (Nat × α)) : List (Nat × α) := t.filter (fun e => !p e.1)

end Sys2Proof.Machine
end

