-- ==== Sys2Proof/Machine/RegTable.lean ====
section
/-! DEFINITION. The register table of the register window: one entry per register (or register array) that the
spec lists, with each field's bits, access type and reset columns (R10-R12), taken from the register tables of the
chapters. A window array (routing entries, flow contexts, ownership domains and so on) has a key of its own above
0x100_0000, because the register window shows it only through an index register. -/
namespace Sys2Proof.Machine

/-- The access types of R11. -/
inductive Access where
  | rw | ro | wo | w1c | w1s | rc
  deriving DecidableEq, Repr

/-- What a reset column holds (R12): a value, "kept" (also an em dash), or the fuse map. -/
inductive Rst where
  | val (n : Nat) | kept | fuse
  deriving DecidableEq, Repr

/-- One field of a register table. Reserved read-only fields are not listed: they read as zero (R10). -/
structure FieldSpec where
  hi : Nat
  lo : Nat
  acc : Access
  cold : Rst
  warm : Rst
  unit : Rst
  deriving DecidableEq, Repr

/-- One register, or an array of `n` registers `stride` apart, each repeated `n2` times `stride2` apart. -/
structure RegSpec where
  base : Nat
  n : Nat
  stride : Nat
  n2 : Nat
  stride2 : Nat
  fields : List FieldSpec
  deriving DecidableEq, Repr

/-- A named field of a register: the key of its register, its lowest bit and its width. -/
structure Fd where
  key : Nat
  lo : Nat
  w : Nat
  deriving DecidableEq, Repr

def specs0 : List RegSpec := [
  -- SYS_ROLE (01_architecture.md R26)
  .mk 0x8 1 0x10000000 1 4 [.mk 7 7 .ro (.val 0) (.val 0) (.kept),
    .mk 6 6 .w1c (.val 0) (.val 0) (.kept),
    .mk 5 5 .rw (.val 0) (.val 0) (.kept),
    .mk 2 0 .rw (.val 0) (.val 0) (.kept)],
  -- SYS_DECERR0 (01_architecture.md R40)
  .mk 0x10 1 0x10000000 1 4 [.mk 27 0 .ro (.val 0) (.val 0) (.kept)],
  -- SYS_DECERR1 (01_architecture.md R41)
  .mk 0x14 1 0x10000000 1 4 [.mk 21 21 .w1c (.val 0) (.val 0) (.kept),
    .mk 20 20 .ro (.val 0) (.val 0) (.kept),
    .mk 19 19 .ro (.val 0) (.val 0) (.kept),
    .mk 16 12 .ro (.val 0) (.val 0) (.kept),
    .mk 11 0 .ro (.val 0) (.val 0) (.kept)],
  -- SYS_PERIDX (21_eyelets.md R681)
  .mk 0x18 1 0x10000000 1 4 [.mk 6 4 .rw (.val 0) (.val 0) (.kept),
    .mk 1 0 .rw (.val 0) (.val 0) (.kept)],
  -- SYS_PERDATA (21_eyelets.md R681)
  .mk 0x1c 1 0x10000000 1 4 [.mk 27 0 .ro (.val 0) (.val 0) (.kept)],
  -- SYS_EYIDX (21_eyelets.md R679)
  .mk 0x20 1 0x10000000 1 4 [.mk 27 27 .w1c (.val 0) (.val 0) (.kept),
    .mk 6 0 .rw (.val 0) (.val 0) (.kept)],
  -- SYS_EYCFG (21_eyelets.md R679)
  .mk 0x24 1 0x10000000 1 4 [.mk 27 0 .ro (.val 0) (.val 0) (.kept)],
  -- SYS_EYSET (21_eyelets.md R680)
  .mk 0x28 1 0x10000000 1 4 [.mk 27 25 .wo (.val 0) (.val 0) (.kept),
    .mk 15 0 .wo (.val 0) (.val 0) (.kept)],
  -- SYS_EYCLR (21_eyelets.md R680)
  .mk 0x2c 1 0x10000000 1 4 [.mk 27 25 .wo (.val 0) (.val 0) (.kept),
    .mk 15 0 .wo (.val 0) (.val 0) (.kept)],
  -- SYS_EYIN (21_eyelets.md R680)
  .mk 0x30 1 0x10000000 1 4 [.mk 27 25 .ro (.val 0) (.val 0) (.kept),
    .mk 15 0 .ro (.val 0) (.val 0) (.kept)],
  -- SYS_EYBANK (21_eyelets.md R680)
  .mk 0x34 1 0x10000000 1 4 [.mk 15 8 .ro (.fuse) (.fuse) (.kept),
    .mk 7 0 .ro (.val 0) (.val 0) (.kept)]
]

def specs1 : List RegSpec := [
  -- TONGUE_CFG (11_tongue_commands.md R413)
  .mk 0x10000 1 0x10000000 1 4 [.mk 27 20 .rw (.val 0xa) (.kept) (.kept)],
  -- TONGUE_STAT (11_tongue_commands.md R414)
  .mk 0x10004 1 0x10000000 1 4 [.mk 27 27 .w1c (.val 0) (.val 0) (.kept),
    .mk 26 26 .ro (.val 0) (.val 0) (.kept),
    .mk 25 25 .w1c (.val 0) (.val 0) (.kept),
    .mk 24 17 .ro (.val 0) (.val 0) (.kept),
    .mk 16 13 .ro (.val 0) (.val 0) (.kept),
    .mk 7 0 .rc (.val 0) (.val 0) (.kept)],
  -- TONGUE_OWNIDX (11_tongue_commands.md R415)
  .mk 0x10008 1 0x10000000 1 4 [.mk 27 27 .w1c (.val 0) (.val 0) (.kept),
    .mk 7 0 .rw (.val 0) (.val 0) (.kept)],
  -- TONGUE_OWNDATA (11_tongue_commands.md R416)
  .mk 0x1000c 1 0x10000000 1 4 [.mk 27 0 .ro (.val 0) (.val 0) (.kept)],
  -- TONGUE_AnRING (11_tongue_commands.md R417)
  .mk 0x10010 4 0x10 1 4 [.mk 27 27 .rw (.val 0) (.val 0) (.val 0),
    .mk 24 0 .rw (.val 0) (.val 0) (.val 0)],
  -- TONGUE_AnCPTR (11_tongue_commands.md R418)
  .mk 0x10014 4 0x10 1 4 [.mk 27 27 .w1c (.val 0) (.val 0) (.val 0),
    .mk 25 13 .ro (.val 0) (.val 0) (.val 0),
    .mk 12 0 .rw (.val 0) (.val 0) (.val 0)],
  -- TONGUE_AnRPTR (11_tongue_commands.md R419)
  .mk 0x10018 4 0x10 1 4 [.mk 27 27 .ro (.val 0) (.val 0) (.val 0),
    .mk 26 26 .ro (.val 0) (.val 0) (.val 0),
    .mk 25 13 .ro (.val 0) (.val 0) (.val 0),
    .mk 12 0 .rw (.val 0) (.val 0) (.val 0)]
]

def specs2 : List RegSpec := [
  -- SEC_BOOT (13_trust.md R487)
  .mk 0x20000 1 0x10000000 1 4 [.mk 27 25 .ro (.val 0) (.val 0) (.kept),
    .mk 24 23 .ro (.val 0) (.val 0) (.kept),
    .mk 22 22 .ro (.val 0) (.val 0) (.kept),
    .mk 21 21 .ro (.val 0) (.val 0) (.kept),
    .mk 20 19 .ro (.val 0) (.val 0) (.kept),
    .mk 18 13 .ro (.val 0) (.val 0) (.kept)],
  -- SEC_BOOTERR (13_trust.md R488)
  .mk 0x20004 1 0x10000000 1 4 [.mk 27 20 .ro (.val 0) (.val 0) (.kept),
    .mk 19 12 .ro (.val 0) (.val 0) (.kept),
    .mk 11 7 .ro (.val 0) (.val 0) (.kept)],
  -- SEC_BOOTNAME (13_trust.md R488)
  .mk 0x20008 1 0x10000000 1 4 [.mk 27 0 .ro (.val 0) (.val 0) (.kept)],
  -- SEC_KEYSTAT (13_trust.md R489)
  .mk 0x2000c 1 0x10000000 1 4 [.mk 27 27 .ro (.fuse) (.kept) (.kept),
    .mk 26 21 .ro (.fuse) (.kept) (.kept),
    .mk 19 16 .ro (.fuse) (.kept) (.kept),
    .mk 15 12 .ro (.fuse) (.kept) (.kept),
    .mk 11 8 .ro (.fuse) (.kept) (.kept)],
  -- SEC_CFG (13_trust.md R490)
  .mk 0x20010 1 0x10000000 1 4 [.mk 27 26 .ro (.fuse) (.kept) (.kept),
    .mk 25 25 .ro (.fuse) (.kept) (.kept),
    .mk 24 24 .ro (.fuse) (.kept) (.kept)],
  -- SEC_FUSECMD (13_trust.md R491)
  .mk 0x20014 1 0x10000000 1 4 [.mk 27 27 .wo (.val 0) (.val 0) (.kept),
    .mk 26 26 .ro (.val 0) (.val 0) (.kept),
    .mk 25 25 .w1c (.val 0) (.val 0) (.kept),
    .mk 24 24 .w1c (.val 0) (.val 0) (.kept),
    .mk 21 20 .rw (.val 0) (.val 0) (.kept),
    .mk 5 0 .rw (.val 0) (.val 0) (.kept)],
  -- SEC_FUSEADDR0 (13_trust.md R491)
  .mk 0x20018 1 0x10000000 1 4 [.mk 27 0 .rw (.val 0) (.val 0) (.kept)],
  -- SEC_FUSEADDR1 (13_trust.md R491)
  .mk 0x2001c 1 0x10000000 1 4 [.mk 11 0 .rw (.val 0) (.val 0) (.kept)],
  -- SEC_VSTAT (13_trust.md R492)
  .mk 0x20020 1 0x10000000 1 4 [.mk 27 27 .ro (.val 0) (.val 0) (.kept),
    .mk 26 25 .ro (.val 0) (.val 0) (.kept),
    .mk 24 17 .ro (.val 0) (.val 0) (.kept),
    .mk 16 9 .ro (.val 0) (.val 0) (.kept)],
  -- SEC_UIDLO (13_trust.md R492)
  .mk 0x20024 1 0x10000000 1 4 [.mk 27 0 .ro (.fuse) (.kept) (.kept)],
  -- SEC_UIDMID (13_trust.md R492)
  .mk 0x20028 1 0x10000000 1 4 [.mk 27 0 .ro (.fuse) (.kept) (.kept)],
  -- SEC_UIDHI (13_trust.md R492)
  .mk 0x2002c 1 0x10000000 1 4 [.mk 7 0 .ro (.fuse) (.kept) (.kept)]
]

def specs3 : List RegSpec := [
  -- RST_CAUSE (12_reset_power.md R452)
  .mk 0x30000 1 0x10000000 1 4 [.mk 27 27 .w1c (.kept) (.kept) (.kept),
    .mk 26 26 .w1c (.kept) (.kept) (.kept),
    .mk 11 11 .ro (.val 1) (.val 0) (.kept),
    .mk 10 10 .ro (.val 0) (.val 0) (.kept),
    .mk 9 9 .ro (.val 0) (.val 0) (.kept),
    .mk 8 8 .ro (.val 0) (.val 0) (.kept),
    .mk 7 7 .ro (.val 0) (.val 0) (.kept),
    .mk 6 6 .ro (.val 0) (.val 0) (.kept),
    .mk 5 5 .ro (.val 0) (.val 0) (.kept),
    .mk 4 4 .ro (.val 0) (.val 0) (.kept),
    .mk 3 3 .ro (.val 0) (.val 0) (.kept),
    .mk 2 2 .ro (.val 0) (.val 0) (.kept)],
  -- RST_STRAP (12_reset_power.md R453)
  .mk 0x30004 1 0x10000000 1 4 [.mk 6 6 .ro (.fuse) (.kept) (.kept),
    .mk 5 4 .ro (.val 0) (.kept) (.kept),
    .mk 3 2 .ro (.val 0) (.kept) (.kept),
    .mk 1 0 .ro (.val 0) (.kept) (.kept)],
  -- RST_BAKCNT (12_reset_power.md R454)
  .mk 0x30008 1 0x10000000 1 4 [.mk 27 21 .rw (.kept) (.kept) (.kept),
    .mk 20 14 .rw (.kept) (.kept) (.kept),
    .mk 13 7 .rw (.kept) (.kept) (.kept),
    .mk 6 0 .rw (.kept) (.kept) (.kept)],
  -- PWR_SUPSTAT (12_reset_power.md R455)
  .mk 0x3000c 1 0x10000000 1 4 [.mk 21 11 .ro (.val 0) (.val 0) (.kept),
    .mk 10 0 .w1c (.val 0) (.kept) (.kept)],
  -- PWR_STATE (12_reset_power.md R456)
  .mk 0x30010 1 0x10000000 1 4 [.mk 27 25 .ro (.val 0) (.val 0) (.kept),
    .mk 24 24 .ro (.val 0) (.val 0) (.kept),
    .mk 23 23 .w1c (.val 0) (.val 0) (.kept),
    .mk 22 20 .ro (.val 0) (.val 0) (.kept)],
  -- PWR_DOMREQ (12_reset_power.md R457)
  .mk 0x30014 1 0x10000000 1 4 [.mk 19 0 .rw (.val 0x3ffff) (.val 0x3ffff) (.kept)],
  -- PWR_DOMON (12_reset_power.md R457)
  .mk 0x30018 1 0x10000000 1 4 [.mk 19 0 .ro (.val 3) (.val 3) (.kept)],
  -- PWR_WAKE (12_reset_power.md R458)
  .mk 0x3001c 1 0x10000000 1 4 [.mk 27 27 .rw (.val 0) (.kept) (.kept),
    .mk 26 26 .rw (.val 0) (.kept) (.kept),
    .mk 25 25 .rw (.val 0) (.kept) (.kept),
    .mk 24 24 .rw (.val 0) (.kept) (.kept),
    .mk 23 0 .rw (.val 0) (.kept) (.kept)],
  -- PWR_PACECTL (02_pace.md R73)
  .mk 0x30040 1 0x10000000 1 4 [.mk 27 21 .rw (.val 0) (.kept) (.kept),
    .mk 20 19 .rw (.val 0) (.kept) (.kept),
    .mk 18 15 .rw (.val 4) (.kept) (.kept),
    .mk 14 8 .rw (.val 8) (.kept) (.kept),
    .mk 7 2 .rw (.val 3) (.kept) (.kept),
    .mk 1 1 .rw (.val 0) (.val 0) (.kept),
    .mk 0 0 .rw (.val 0) (.val 0) (.kept)],
  -- PWR_PACETGT (02_pace.md R74)
  .mk 0x30044 1 0x10000000 1 4 [.mk 27 22 .rw (.val 0x10) (.kept) (.kept),
    .mk 21 11 .rw (.val 0x29) (.kept) (.kept),
    .mk 10 0 .rw (.val 0x7b) (.kept) (.kept)],
  -- PWR_VLIMIT (02_pace.md R75)
  .mk 0x30048 1 0x10000000 1 4 [.mk 19 10 .rw (.val 0x352) (.kept) (.kept),
    .mk 9 0 .rw (.val 0x2d0) (.kept) (.kept)],
  -- PWR_VSET (02_pace.md R76)
  .mk 0x3004c 1 0x10000000 1 4 [.mk 19 10 .rw (.val 0x2d0) (.kept) (.kept),
    .mk 9 0 .rw (.val 0) (.kept) (.kept)],
  -- PWR_PACESTAT (02_pace.md R77)
  .mk 0x30050 1 0x10000000 1 4 [.mk 27 27 .w1c (.val 0) (.val 0) (.kept),
    .mk 26 26 .ro (.val 0) (.val 0) (.kept),
    .mk 25 25 .ro (.val 0) (.val 0) (.kept),
    .mk 24 24 .ro (.val 1) (.val 1) (.kept),
    .mk 19 16 .ro (.val 0) (.val 0) (.kept),
    .mk 11 0 .ro (.val 0) (.val 0) (.kept)],
  -- PWR_PACEFUSE (02_pace.md R47)
  .mk 0x30054 1 0x10000000 1 4 [.mk 25 16 .ro (.fuse) (.fuse) (.kept),
    .mk 15 8 .ro (.fuse) (.fuse) (.kept),
    .mk 7 0 .ro (.fuse) (.fuse) (.kept)],
  -- PWR_TJ (24_electrical.md R744)
  .mk 0x30058 1 0x10000000 1 4 [.mk 27 27 .wo (.val 0) (.val 0) (.kept),
    .mk 23 12 .ro (.val 0x800) (.kept) (.kept),
    .mk 11 0 .ro (.val 0x800) (.kept) (.kept)]
]

def specs4 : List RegSpec := [
  -- FLT_CTL (22_faults.md R697)
  .mk 0x40000 1 0x10000000 1 4 [.mk 27 27 .rw (.val 0) (.val 0) (.kept),
    .mk 26 26 .w1c (.val 0) (.val 0) (.kept)],
  -- FLT_SUM (22_faults.md R698)
  .mk 0x40004 1 0x10000000 1 4 [.mk 27 27 .ro (.val 0) (.val 0) (.kept),
    .mk 26 26 .ro (.val 0) (.kept) (.kept),
    .mk 25 19 .ro (.val 0) (.kept) (.kept),
    .mk 18 11 .ro (.val 0) (.kept) (.kept),
    .mk 4 0 .ro (.val 0) (.kept) (.kept)],
  -- FLT_LOST0 (22_faults.md R699)
  .mk 0x40008 1 0x10000000 1 4 [.mk 23 16 .rc (.val 0) (.kept) (.kept),
    .mk 15 8 .rc (.val 0) (.kept) (.kept),
    .mk 7 0 .rc (.val 0) (.kept) (.kept)],
  -- FLT_LOST1 (22_faults.md R699)
  .mk 0x4000c 1 0x10000000 1 4 [.mk 15 8 .rc (.val 0) (.kept) (.kept),
    .mk 7 0 .rc (.val 0) (.kept) (.kept)],
  -- FLT_UIDX (22_faults.md R700)
  .mk 0x40010 1 0x10000000 1 4 [.mk 15 0 .rw (.val 0) (.val 0) (.kept)],
  -- FLT_USTAT (22_faults.md R700)
  .mk 0x40014 1 0x10000000 1 4 [.mk 27 27 .ro (.val 0) (.kept) (.kept),
    .mk 26 26 .ro (.val 0) (.val 0) (.kept),
    .mk 25 25 .ro (.val 0) (.val 0) (.kept),
    .mk 24 24 .ro (.val 0) (.val 0) (.kept),
    .mk 23 19 .ro (.val 0) (.kept) (.kept),
    .mk 15 8 .ro (.val 0) (.kept) (.kept)],
  -- FLT_ACK (22_faults.md R701)
  .mk 0x40018 1 0x10000000 1 4 [.mk 19 19 .wo (.val 0) (.val 0) (.kept),
    .mk 18 16 .wo (.val 0) (.val 0) (.kept),
    .mk 15 0 .wo (.val 0) (.val 0) (.kept)],
  -- FLT_FORCE0 (22_faults.md R701)
  .mk 0x4001c 1 0x10000000 1 4 [.mk 23 16 .rw (.val 0) (.val 0) (.kept),
    .mk 15 0 .rw (.val 0) (.val 0) (.kept)],
  -- FLT_FORCE1 (22_faults.md R701)
  .mk 0x40020 1 0x10000000 1 4 [.mk 27 27 .wo (.val 0) (.val 0) (.kept),
    .mk 26 24 .rw (.val 0) (.val 0) (.kept),
    .mk 15 0 .rw (.val 0) (.val 0) (.kept)]
]

def specs5 : List RegSpec := [
  -- ICU_CTL (20_interrupts_timers.md R658)
  .mk 0x50000 1 0x10000000 1 4 [.mk 27 27 .rw (.val 0) (.val 0) (.kept)],
  -- ICU_GONECNT (20_interrupts_timers.md R658)
  .mk 0x50004 1 0x10000000 1 4 [.mk 27 0 .rc (.val 0) (.val 0) (.kept)],
  -- ICU_SRCIDX (20_interrupts_timers.md R659)
  .mk 0x50008 1 0x10000000 1 4 [.mk 27 27 .w1c (.val 0) (.val 0) (.kept),
    .mk 8 0 .rw (.val 0) (.val 0) (.kept)],
  -- ICU_SRCCFG (20_interrupts_timers.md R659)
  .mk 0x5000c 1 0x10000000 1 4 [.mk 27 0 .ro (.val 0) (.val 0) (.kept)],
  -- ICU_PENDg (20_interrupts_timers.md R660)
  .mk 0x50040 16 0x4 1 4 [.mk 23 0 .ro (.val 0) (.val 0) (.kept)],
  -- ICU_GRPg_HOLD (20_interrupts_timers.md R660)
  .mk 0x50080 16 0x4 1 4 [.mk 27 27 .ro (.val 0) (.val 0) (.kept),
    .mk 11 0 .rw (.val 0) (.val 0) (.kept)],
  -- ICU_SWSET (20_interrupts_timers.md R661)
  .mk 0x500c0 1 0x10000000 1 4 [.mk 27 27 .wo (.val 0) (.val 0) (.kept),
    .mk 26 26 .wo (.val 0) (.val 0) (.kept),
    .mk 5 0 .wo (.val 0) (.val 0) (.kept)],
  -- ICU_TGTt_CFG (20_interrupts_timers.md R662)
  .mk 0x50100 5 0x10 1 4 [.mk 21 16 .rw (.val 0) (.val 0) (.kept),
    .mk 2 0 .rw (.val 0) (.val 0) (.kept)],
  -- ICU_TGTt_CLAIM (20_interrupts_timers.md R662)
  .mk 0x50104 5 0x10 1 4 [.mk 27 27 .ro (.val 0) (.val 0) (.kept),
    .mk 8 0 .ro (.val 0) (.val 0) (.kept)],
  -- ICU_TGTt_EOI (20_interrupts_timers.md R662)
  .mk 0x50108 5 0x10 1 4 [.mk 8 0 .wo (.val 0) (.val 0) (.kept)],
  -- ICU_TGTt_STAT (20_interrupts_timers.md R662)
  .mk 0x5010c 5 0x10 1 4 [.mk 27 27 .w1c (.val 0) (.val 0) (.kept),
    .mk 12 8 .ro (.val 0) (.val 0) (.kept),
    .mk 7 0 .ro (.val 0xff) (.val 0xff) (.kept)]
]

def specs6 : List RegSpec := [
  -- TIME_LO (20_interrupts_timers.md R663)
  .mk 0x60000 1 0x10000000 1 4 [.mk 27 0 .ro (.val 0x0) (.kept) (.kept)],
  -- TIME_HI (20_interrupts_timers.md R663)
  .mk 0x60004 1 0x10000000 1 4 [.mk 27 0 .ro (.val 0x0) (.kept) (.kept)],
  -- TIME_LDLO (20_interrupts_timers.md R663)
  .mk 0x60008 1 0x10000000 1 4 [.mk 27 0 .rw (.val 0) (.val 0) (.kept)],
  -- TIME_LDHI (20_interrupts_timers.md R663)
  .mk 0x6000c 1 0x10000000 1 4 [.mk 27 0 .rw (.val 0) (.val 0) (.kept)],
  -- TIME_CMPIDX (20_interrupts_timers.md R664)
  .mk 0x60020 1 0x10000000 1 4 [.mk 4 0 .rw (.val 0) (.val 0) (.kept)],
  -- TIME_CMPCTL (20_interrupts_timers.md R664)
  .mk 0x60024 1 0x10000000 1 4 [.mk 27 0 .ro (.val 0) (.val 0) (.kept)],
  -- TIME_CMPLO (20_interrupts_timers.md R664)
  .mk 0x60028 1 0x10000000 1 4 [.mk 27 0 .ro (.val 0) (.val 0) (.kept)],
  -- TIME_CMPHI (20_interrupts_timers.md R664)
  .mk 0x6002c 1 0x10000000 1 4 [.mk 27 0 .ro (.val 0) (.val 0) (.kept)],
  -- TIME_CAPIDX (20_interrupts_timers.md R665)
  .mk 0x60030 1 0x10000000 1 4 [.mk 3 0 .rw (.val 0) (.val 0) (.kept)],
  -- TIME_CAPCTL (20_interrupts_timers.md R665)
  .mk 0x60034 1 0x10000000 1 4 [.mk 27 0 .ro (.val 0) (.val 0) (.kept)],
  -- TIME_CAPLO (20_interrupts_timers.md R665)
  .mk 0x60038 1 0x10000000 1 4 [.mk 27 0 .ro (.val 0) (.val 0) (.kept)],
  -- TIME_CAPHI (20_interrupts_timers.md R665)
  .mk 0x6003c 1 0x10000000 1 4 [.mk 27 0 .ro (.val 0) (.val 0) (.kept)],
  -- TIME_WDn_CTL (20_interrupts_timers.md R666)
  .mk 0x60040 5 0x8 1 4 [.mk 27 27 .w1s (.val 0) (.val 0) (.kept),
    .mk 26 26 .w1c (.val 0) (.val 0) (.kept),
    .mk 25 24 .rw (.val 0) (.val 0) (.kept),
    .mk 23 12 .rw (.val 0x3e8) (.val 0x3e8) (.kept),
    .mk 11 0 .wo (.val 0) (.val 0) (.kept)],
  -- TIME_WDn_CNT (20_interrupts_timers.md R666)
  .mk 0x60044 5 0x8 1 4 [.mk 27 0 .ro (.val 0) (.val 0) (.kept)]
]

def specs7 : List RegSpec := [
  -- EYE_WPpCFG (09_lanes.md R328)
  .mk 0x70000 8 0x8 1 4 [.mk 27 25 .rw (.val 0) (.kept) (.kept),
    .mk 24 23 .rw (.val 0) (.kept) (.kept),
    .mk 22 21 .rw (.val 2) (.kept) (.kept),
    .mk 20 20 .rw (.val 1) (.kept) (.kept),
    .mk 19 19 .rw (.val 1) (.kept) (.kept),
    .mk 18 15 .rw (.val 0xa) (.kept) (.kept),
    .mk 14 12 .rw (.val 6) (.kept) (.kept),
    .mk 11 11 .rw (.val 1) (.kept) (.kept),
    .mk 10 9 .rw (.val 2) (.kept) (.kept),
    .mk 8 8 .wo (.val 0) (.val 0) (.val 0),
    .mk 3 3 .wo (.val 0) (.val 0) (.val 0),
    .mk 2 1 .rw (.val 0) (.kept) (.kept),
    .mk 0 0 .rw (.val 0) (.kept) (.kept)],
  -- EYE_WPpSTAT (09_lanes.md R329)
  .mk 0x70004 8 0x8 1 4 [.mk 27 27 .w1c (.val 0) (.val 0) (.val 0),
    .mk 26 24 .ro (.val 0) (.val 0) (.val 0),
    .mk 23 22 .ro (.val 0) (.val 0) (.val 0),
    .mk 21 20 .ro (.val 3) (.val 3) (.val 3),
    .mk 19 18 .ro (.val 3) (.val 3) (.val 3),
    .mk 17 17 .ro (.val 0) (.val 0) (.val 0),
    .mk 16 16 .ro (.val 0) (.val 0) (.val 0),
    .mk 15 15 .ro (.val 0) (.val 0) (.val 0),
    .mk 14 14 .w1c (.val 0) (.val 0) (.val 0),
    .mk 13 13 .ro (.val 0) (.val 0) (.val 0)],
  -- EYE_LnCFG (09_lanes.md R330)
  .mk 0x70100 32 0x10 1 4 [.mk 27 25 .rw (.val 0) (.kept) (.kept),
    .mk 24 22 .rw (.val 0) (.kept) (.kept),
    .mk 21 19 .rw (.val 0) (.kept) (.kept),
    .mk 18 18 .rw (.fuse) (.kept) (.kept),
    .mk 17 17 .rw (.fuse) (.kept) (.kept),
    .mk 16 16 .rw (.val 0) (.kept) (.kept),
    .mk 15 10 .rw (.val 0) (.kept) (.kept),
    .mk 9 4 .rw (.val 0) (.kept) (.kept),
    .mk 3 0 .rw (.val 0xf) (.kept) (.kept)],
  -- EYE_LnSTAT (09_lanes.md R331)
  .mk 0x70104 32 0x10 1 4 [.mk 27 27 .ro (.val 0) (.val 0) (.val 0),
    .mk 26 26 .ro (.val 0) (.val 0) (.val 0),
    .mk 25 25 .w1c (.val 0) (.val 0) (.val 0),
    .mk 24 23 .ro (.val 0) (.val 0) (.val 0),
    .mk 22 17 .ro (.val 0) (.val 0) (.val 0),
    .mk 16 11 .ro (.val 0) (.val 0) (.val 0),
    .mk 10 7 .ro (.val 0) (.val 0) (.val 0)],
  -- EYE_LnERR (09_lanes.md R332)
  .mk 0x70108 32 0x10 1 4 [.mk 27 0 .rc (.val 0) (.val 0) (.val 0)],
  -- EYE_LnSCAN (09_lanes.md R333)
  .mk 0x7010c 32 0x10 1 4 [.mk 27 27 .wo (.val 0) (.val 0) (.val 0),
    .mk 26 26 .ro (.val 0) (.val 0) (.val 0),
    .mk 25 24 .rw (.val 1) (.val 1) (.val 1),
    .mk 23 18 .rw (.val 0) (.val 0) (.val 0),
    .mk 17 11 .rw (.val 0) (.val 0) (.val 0),
    .mk 10 8 .rw (.val 0) (.val 0) (.val 0),
    .mk 7 0 .ro (.val 0) (.val 0) (.val 0)]
]

def specs8 : List RegSpec := [
  -- DBG_CTL (23_debug.md R721)
  .mk 0x80000 1 0x10000000 1 4 [.mk 27 27 .wo (.val 0) (.val 0) (.kept),
    .mk 26 26 .rw (.val 0) (.val 0) (.kept),
    .mk 25 25 .rw (.val 0) (.val 0) (.kept)],
  -- DBG_STAT (23_debug.md R721)
  .mk 0x80004 1 0x10000000 1 4 [.mk 27 27 .ro (.val 0) (.val 0) (.kept),
    .mk 26 26 .ro (.fuse) (.fuse) (.kept),
    .mk 25 22 .ro (.fuse) (.fuse) (.kept),
    .mk 21 18 .ro (.val 0) (.val 0) (.kept),
    .mk 17 16 .ro (.val 0) (.val 0) (.kept),
    .mk 15 15 .w1c (.val 0) (.val 0) (.kept)],
  -- DBG_RUN (23_debug.md R722)
  .mk 0x80008 1 0x10000000 1 4 [.mk 27 27 .wo (.val 0) (.val 0) (.kept),
    .mk 26 26 .wo (.val 0) (.val 0) (.kept),
    .mk 25 25 .wo (.val 0) (.val 0) (.kept),
    .mk 24 23 .rw (.val 0) (.val 0) (.kept),
    .mk 22 22 .ro (.val 0) (.val 0) (.kept),
    .mk 21 21 .ro (.val 0) (.val 0) (.kept),
    .mk 20 20 .w1c (.val 0) (.val 0) (.kept),
    .mk 19 19 .w1c (.val 0) (.val 0) (.kept),
    .mk 18 18 .w1c (.val 0) (.val 0) (.kept),
    .mk 17 14 .ro (.val 0) (.val 0) (.kept),
    .mk 13 12 .ro (.val 0) (.val 0) (.kept),
    .mk 11 9 .ro (.val 0) (.val 0) (.kept),
    .mk 8 8 .w1c (.val 0) (.val 0) (.kept)],
  -- DBG_ID (23_debug.md R723)
  .mk 0x8000c 1 0x10000000 1 4 [.mk 27 12 .ro (.val 0x1420) (.val 0x1420) (.kept),
    .mk 11 4 .ro (.val 0xb0) (.val 0xb0) (.kept),
    .mk 3 0 .ro (.val 1) (.val 1) (.kept)],
  -- DBG_WPIDX (23_debug.md R724)
  .mk 0x80010 1 0x10000000 1 4 [.mk 5 5 .rw (.val 0) (.val 0) (.kept),
    .mk 4 3 .rw (.val 0) (.val 0) (.kept),
    .mk 2 0 .rw (.val 0) (.val 0) (.kept)],
  -- DBG_WPCTL (23_debug.md R724)
  .mk 0x80014 1 0x10000000 1 4 [.mk 27 0 .ro (.val 0) (.val 0) (.kept)],
  -- DBG_WPADDRLO (23_debug.md R724)
  .mk 0x80018 1 0x10000000 1 4 [.mk 27 0 .ro (.val 0) (.val 0) (.kept)],
  -- DBG_WPADDRHI (23_debug.md R724)
  .mk 0x8001c 1 0x10000000 1 4 [.mk 27 0 .ro (.val 0) (.val 0) (.kept)],
  -- DBG_WPVAL (23_debug.md R724)
  .mk 0x80020 1 0x10000000 1 4 [.mk 27 0 .ro (.val 0) (.val 0) (.kept)],
  -- DBG_HITLO (23_debug.md R725)
  .mk 0x80024 1 0x10000000 1 4 [.mk 27 0 .ro (.val 0) (.val 0) (.kept)],
  -- DBG_HITHI (23_debug.md R725)
  .mk 0x80028 1 0x10000000 1 4 [.mk 27 27 .ro (.val 0) (.val 0) (.kept),
    .mk 26 26 .ro (.val 0) (.val 0) (.kept),
    .mk 25 12 .ro (.val 0) (.val 0) (.kept),
    .mk 11 0 .ro (.val 0) (.val 0) (.kept)]
]

def specs10 : List RegSpec := [
  -- LAST_CTL (03_last_contract.md R120)
  .mk 0x100000 1 0x10000000 1 4 [.mk 9 0 .rw (.val 0x7b) (.kept) (.kept)],
  -- LAST_SLOTSTAT (03_last_contract.md R121)
  .mk 0x100004 1 0x10000000 1 4 [.mk 23 0 .ro (.val 0) (.val 0) (.kept)],
  -- LAST_ADMITSTAT (03_last_contract.md R122)
  .mk 0x100008 1 0x10000000 1 4 [.mk 27 25 .ro (.val 0) (.val 0) (.kept),
    .mk 24 17 .ro (.val 0) (.val 0) (.kept),
    .mk 16 12 .ro (.val 0) (.val 0) (.kept),
    .mk 11 8 .ro (.val 0) (.val 0) (.kept),
    .mk 7 4 .ro (.val 0) (.val 0) (.kept)],
  -- LAST_ADMITPOS (03_last_contract.md R123)
  .mk 0x10000c 1 0x10000000 1 4 [.mk 27 16 .ro (.val 0) (.val 0) (.kept),
    .mk 15 0 .ro (.val 0) (.val 0) (.kept)],
  -- LAST_ADMITVAL (03_last_contract.md R124)
  .mk 0x100010 1 0x10000000 1 4 [.mk 27 0 .ro (.val 0) (.val 0) (.kept)],
  -- LAST_ADMITLIM (03_last_contract.md R124)
  .mk 0x100014 1 0x10000000 1 4 [.mk 27 0 .ro (.val 0) (.val 0) (.kept)],
  -- LAST_SLOTCAP (03_last_contract.md R125)
  .mk 0x100018 1 0x10000000 1 4 [.mk 11 0 .ro (.val 0) (.val 0) (.kept)],
  -- LAST_REMCFG (03_last_contract.md R126)
  .mk 0x10001c 1 0x10000000 1 4 [.mk 27 16 .rw (.val 0x5dc) (.kept) (.kept),
    .mk 9 0 .rw (.val 0x28) (.kept) (.kept)],
  -- LAST_SLOTn_ID (03_last_contract.md R127)
  .mk 0x100020 8 0x4 1 4 [.mk 27 0 .ro (.val 0) (.val 0) (.kept)],
  -- LAST_HDn_SEL (03_last_contract.md R128)
  .mk 0x100040 16 0x4 1 4 [.mk 27 27 .w1c (.val 0) (.val 0) (.val 0),
    .mk 26 24 .ro (.val 0) (.val 0) (.val 0),
    .mk 23 23 .ro (.val 0) (.val 0) (.val 0),
    .mk 3 3 .rw (.val 0) (.val 0) (.kept),
    .mk 2 0 .rw (.val 0) (.val 0) (.kept)],
  -- LAST_HDn_CLIP (03_last_contract.md R129)
  .mk 0x100080 16 0x4 1 4 [.mk 27 21 .rc (.val 0) (.val 0) (.val 0),
    .mk 20 14 .rc (.val 0) (.val 0) (.val 0),
    .mk 13 7 .rc (.val 0) (.val 0) (.val 0),
    .mk 6 0 .rc (.val 0) (.val 0) (.val 0)]
]

def specs11 : List RegSpec := [
  -- FETCH_POOL0 (08_fetch_memory.md R294)
  .mk 0x110000 1 0x10000000 1 4 [.mk 21 11 .rw (.val 0x200) (.val 0x200) (.kept),
    .mk 10 0 .rw (.val 0x80) (.val 0x80) (.kept)],
  -- FETCH_POOL1 (08_fetch_memory.md R294)
  .mk 0x110004 1 0x10000000 1 4 [.mk 21 11 .rw (.val 0x100) (.val 0x100) (.kept),
    .mk 10 0 .rw (.val 0x40) (.val 0x40) (.kept)],
  -- FETCH_POOL2 (08_fetch_memory.md R294)
  .mk 0x110008 1 0x10000000 1 4 [.mk 21 11 .rw (.val 0x100) (.val 0x100) (.kept),
    .mk 10 0 .rw (.val 0x40) (.val 0x40) (.kept)],
  -- FETCH_POOL3 (08_fetch_memory.md R294)
  .mk 0x11000c 1 0x10000000 1 4 [.mk 21 11 .rw (.val 0x300) (.val 0x300) (.kept),
    .mk 10 0 .rw (.val 0x100) (.val 0x100) (.kept)],
  -- FETCH_POOL4 (08_fetch_memory.md R294)
  .mk 0x110010 1 0x10000000 1 4 [.mk 21 11 .rw (.val 0x80) (.val 0x80) (.kept),
    .mk 10 0 .rw (.val 0x40) (.val 0x40) (.kept)],
  -- FETCH_POOL5 (08_fetch_memory.md R294)
  .mk 0x110014 1 0x10000000 1 4 [.mk 21 11 .rw (.val 0x100) (.val 0x100) (.kept),
    .mk 10 0 .rw (.val 0x20) (.val 0x20) (.kept)],
  -- FETCH_POOL6 (08_fetch_memory.md R294)
  .mk 0x110018 1 0x10000000 1 4 [.mk 21 11 .rw (.val 0x40) (.val 0x40) (.kept),
    .mk 10 0 .rw (.val 0x10) (.val 0x10) (.kept)],
  -- FETCH_POOL7 (08_fetch_memory.md R294)
  .mk 0x11001c 1 0x10000000 1 4 [.mk 21 11 .rw (.val 0x40) (.val 0x40) (.kept),
    .mk 10 0 .rw (.val 8) (.val 8) (.kept)],
  -- FETCH_POOLkSTAT (08_fetch_memory.md R295)
  .mk 0x110020 8 0x4 1 4 [.mk 27 27 .w1c (.val 0) (.val 0) (.kept),
    .mk 26 26 .wo (.val 0) (.val 0) (.kept),
    .mk 21 11 .ro (.val 0) (.val 0) (.kept),
    .mk 10 0 .ro (.val 0) (.val 0) (.kept)],
  -- FETCH_SLnSTAT (08_fetch_memory.md R296)
  .mk 0x110040 16 0x4 1 4 [.mk 27 27 .wo (.val 0) (.val 0) (.val 0),
    .mk 26 18 .ro (.val 0) (.val 0) (.val 0),
    .mk 17 9 .ro (.val 0) (.val 0) (.val 0)],
  -- FETCH_SLnLAT (08_fetch_memory.md R297)
  .mk 0x110080 16 0x4 1 4 [.mk 27 27 .wo (.val 0) (.val 0) (.val 0),
    .mk 26 19 .ro (.val 0) (.val 0) (.val 0),
    .mk 18 0 .rc (.val 0) (.val 0) (.val 0)],
  -- FETCH_SLnLINE (08_fetch_memory.md R298)
  .mk 0x1100c0 16 0x4 1 4 [.mk 27 27 .wo (.val 0) (.val 0) (.val 0),
    .mk 19 0 .ro (.val 0) (.val 0) (.val 0)]
]

def specs12 : List RegSpec := [
  -- MEM_CFG (08_fetch_memory.md R299)
  .mk 0x120000 1 0x10000000 1 4 [.mk 27 22 .rw (.fuse) (.kept) (.kept),
    .mk 21 21 .rw (.fuse) (.kept) (.kept),
    .mk 20 20 .rw (.fuse) (.kept) (.kept),
    .mk 19 18 .rw (.fuse) (.kept) (.kept),
    .mk 17 16 .rw (.fuse) (.kept) (.kept),
    .mk 15 14 .rw (.fuse) (.kept) (.kept),
    .mk 13 6 .rw (.val 0x64) (.kept) (.kept)],
  -- MEM_CTL (08_fetch_memory.md R300)
  .mk 0x120004 1 0x10000000 1 4 [.mk 27 27 .wo (.val 0) (.val 0) (.kept)],
  -- MEM_STAT (08_fetch_memory.md R301)
  .mk 0x120008 1 0x10000000 1 4 [.mk 27 27 .ro (.val 0) (.val 0) (.kept),
    .mk 26 26 .w1c (.val 0) (.val 0) (.kept),
    .mk 25 25 .w1c (.val 0) (.val 0) (.kept),
    .mk 24 24 .ro (.val 0) (.val 0) (.kept),
    .mk 23 18 .ro (.val 0) (.val 0) (.kept),
    .mk 10 0 .ro (.val 0) (.val 0) (.kept)],
  -- MEM_ECCSTAT (08_fetch_memory.md R302)
  .mk 0x12000c 1 0x10000000 1 4 [.mk 27 17 .rc (.val 0) (.val 0) (.kept),
    .mk 16 6 .rc (.val 0) (.val 0) (.kept),
    .mk 5 5 .w1c (.val 0) (.val 0) (.kept),
    .mk 4 4 .ro (.val 0) (.val 0) (.kept),
    .mk 3 3 .ro (.val 0) (.val 0) (.kept)],
  -- MEM_ECCADDR0 (08_fetch_memory.md R303)
  .mk 0x120010 1 0x10000000 1 4 [.mk 27 0 .ro (.val 0) (.val 0) (.kept)],
  -- MEM_ECCADDR1 (08_fetch_memory.md R303)
  .mk 0x120014 1 0x10000000 1 4 [.mk 16 12 .ro (.val 0) (.val 0) (.kept),
    .mk 11 0 .ro (.val 0) (.val 0) (.kept)],
  -- MEM_CHnSTAT (08_fetch_memory.md R304)
  .mk 0x120020 6 0x4 1 4 [.mk 27 25 .ro (.val 0) (.kept) (.kept),
    .mk 24 23 .ro (.val 0) (.kept) (.kept),
    .mk 22 22 .ro (.val 0) (.val 0) (.kept)],
  -- MEM_CHnERR (08_fetch_memory.md R305)
  .mk 0x120040 6 0x4 1 4 [.mk 27 14 .rc (.val 0) (.val 0) (.kept),
    .mk 13 0 .rc (.val 0) (.val 0) (.kept)],
  -- MEM_CHnTRAIN (08_fetch_memory.md R306)
  .mk 0x120060 6 0x4 1 4 [.mk 27 20 .ro (.val 0) (.kept) (.kept),
    .mk 19 12 .ro (.val 0) (.kept) (.kept),
    .mk 11 8 .ro (.val 0) (.kept) (.kept)],
  -- MEM_ECCn (08_fetch_memory.md R307)
  .mk 0x120080 8 0x4 1 4 [.mk 27 27 .rw (.val 0) (.kept) (.kept),
    .mk 26 26 .ro (.val 0) (.val 0) (.kept),
    .mk 23 13 .rw (.val 0) (.kept) (.kept),
    .mk 10 0 .rw (.val 0) (.kept) (.kept)]
]

def specs14 : List RegSpec := [
  -- SLn_PACE (02_pace.md R53)
  .mk 0x140040 16 0x1000 1 4 [.mk 27 27 .wo (.val 0) (.val 0) (.val 0),
    .mk 26 14 .ro (.val 0x1fff) (.val 0x1fff) (.val 0x1fff),
    .mk 13 0 .ro (.val 0) (.val 0) (.val 0)],
  -- SLn_SLACK (02_pace.md R59)
  .mk 0x140044 16 0x1000 1 4 [.mk 27 27 .wo (.val 0) (.val 0) (.val 0),
    .mk 23 12 .ro (.val 0x7ff) (.val 0x7ff) (.val 0x7ff),
    .mk 11 0 .ro (.val 0) (.val 0) (.val 0)],
  -- SLn_SLACKCNT (02_pace.md R60)
  .mk 0x140048 16 0x1000 1 4 [.mk 27 0 .rc (.val 0) (.val 0) (.val 0)]
]

def specs18 : List RegSpec := [
  -- HDn_HTIME (07_heads.md R257)
  .mk 0x180000 16 0x1000 1 4 [.mk 27 14 .rw (.val 0x320) (.val 0x320) (.kept),
    .mk 13 0 .rw (.val 0x280) (.val 0x280) (.kept)],
  -- HDn_VTIME (07_heads.md R258)
  .mk 0x180004 16 0x1000 1 4 [.mk 27 14 .rw (.val 0x20d) (.val 0x20d) (.kept),
    .mk 13 0 .rw (.val 0x1e0) (.val 0x1e0) (.kept)],
  -- HDn_START (07_heads.md R259)
  .mk 0x180008 16 0x1000 1 4 [.mk 27 14 .rw (.val 0x90) (.val 0x90) (.kept),
    .mk 13 0 .rw (.val 0x23) (.val 0x23) (.kept)],
  -- HDn_PCLK (07_heads.md R260)
  .mk 0x18000c 16 0x1000 1 4 [.mk 27 22 .rw (.val 2) (.val 2) (.kept),
    .mk 21 0 .rw (.val 0x6257) (.val 0x6257) (.kept)],
  -- HDn_CTL (07_heads.md R261)
  .mk 0x180010 16 0x1000 1 4 [.mk 27 18 .rw (.val 0x60) (.val 0x60) (.kept),
    .mk 17 17 .rw (.val 0) (.val 0) (.kept),
    .mk 16 16 .rw (.val 0) (.val 0) (.kept),
    .mk 15 15 .rw (.val 0) (.val 0) (.kept),
    .mk 14 13 .rw (.val 0) (.val 0) (.kept),
    .mk 12 11 .rw (.val 0) (.val 0) (.kept),
    .mk 10 10 .rw (.val 0) (.val 0) (.kept),
    .mk 9 8 .rw (.val 0) (.val 0) (.kept),
    .mk 7 5 .rw (.val 0) (.val 0) (.kept),
    .mk 4 4 .rw (.val 1) (.val 1) (.kept),
    .mk 3 2 .rw (.val 1) (.val 1) (.kept)],
  -- HDn_STAT (07_heads.md R262)
  .mk 0x180014 16 0x1000 1 4 [.mk 27 26 .ro (.val 0) (.val 0) (.val 0),
    .mk 25 25 .w1c (.val 0) (.val 0) (.val 0),
    .mk 24 24 .wo (.val 0) (.val 0) (.val 0),
    .mk 23 23 .w1c (.val 0) (.val 0) (.val 0),
    .mk 22 16 .ro (.val 0) (.val 0) (.val 0),
    .mk 15 0 .w1c (.val 0) (.val 0) (.val 0)],
  -- HDn_FRAME (07_heads.md R263)
  .mk 0x180018 16 0x1000 1 4 [.mk 27 0 .ro (.val 0) (.val 0) (.kept)],
  -- HDn_FRAMEHI (07_heads.md R263)
  .mk 0x18001c 16 0x1000 1 4 [.mk 27 0 .ro (.val 0) (.val 0) (.kept)],
  -- HDn_BG0 (06_composition.md R218)
  .mk 0x180040 16 0x1000 1 4 [.mk 27 14 .rw (.val 0) (.val 0) (.kept),
    .mk 13 0 .rw (.val 0) (.val 0) (.kept)],
  -- HDn_BG1 (06_composition.md R219)
  .mk 0x180044 16 0x1000 1 4 [.mk 27 14 .rw (.val 0) (.val 0) (.kept),
    .mk 13 0 .rw (.val 0) (.val 0) (.kept)],
  -- HDn_OUTLUT (06_composition.md R220)
  .mk 0x180048 16 0x1000 1 4 [.mk 1 1 .rw (.val 0) (.val 0) (.kept),
    .mk 0 0 .rw (.val 0) (.val 0) (.kept)],
  -- HDn_MARK (07_heads.md R264)
  .mk 0x18004c 16 0x1000 1 4 [.mk 3 0 .rw (.val 0) (.val 0) (.kept)],
  -- HDn_LLSEL (05_line_lists_commit.md R189)
  .mk 0x180050 16 0x1000 1 4 [.mk 9 9 .ro (.val 0) (.val 0) (.val 0),
    .mk 8 5 .ro (.val 0) (.val 0) (.val 0),
    .mk 4 4 .rw (.val 0) (.val 0) (.kept),
    .mk 3 0 .rw (.val 0) (.val 0) (.kept)],
  -- HDn_LLSTAT (05_line_lists_commit.md R190)
  .mk 0x180054 16 0x1000 1 4 [.mk 20 14 .rc (.val 0) (.val 0) (.val 0),
    .mk 13 7 .rc (.val 0) (.val 0) (.val 0),
    .mk 6 0 .rc (.val 0) (.val 0) (.val 0)],
  -- HDn_COMMIT (05_line_lists_commit.md R191)
  .mk 0x180058 16 0x1000 1 4 [.mk 25 25 .w1c (.val 0) (.val 0) (.val 0),
    .mk 24 24 .ro (.val 0) (.val 0) (.val 0),
    .mk 23 0 .ro (.val 0) (.val 0) (.kept)],
  -- HDn_LAYATTRk (06_composition.md R221)
  .mk 0x180060 16 0x1000 6 4 [.mk 24 20 .rw (.val 0) (.val 0) (.kept),
    .mk 19 15 .rw (.val 0) (.val 0) (.kept),
    .mk 14 10 .rw (.val 0) (.val 0) (.kept),
    .mk 9 5 .rw (.val 0) (.val 0) (.kept),
    .mk 4 0 .rw (.val 0) (.val 0) (.kept)],
  -- HDn_LAYATTR6 (06_composition.md R222)
  .mk 0x180078 16 0x1000 1 4 [.mk 11 11 .rw (.val 0) (.val 0) (.kept),
    .mk 10 10 .rw (.val 0) (.val 0) (.kept),
    .mk 9 5 .rw (.val 0) (.val 0) (.kept),
    .mk 4 0 .rw (.val 0) (.val 0) (.kept)],
  -- HDn_WBBASE (06_composition.md R223)
  .mk 0x18007c 16 0x1000 1 4 [.mk 27 0 .rw (.val 0) (.val 0) (.kept)],
  -- HDn_WBCTL (06_composition.md R224)
  .mk 0x180080 16 0x1000 1 4 [.mk 27 27 .rw (.val 0) (.val 0) (.kept),
    .mk 26 26 .rw (.val 0) (.val 0) (.kept),
    .mk 25 24 .rw (.val 0) (.val 0) (.kept),
    .mk 23 21 .rw (.val 0) (.val 0) (.kept),
    .mk 20 20 .w1c (.val 0) (.val 0) (.val 0),
    .mk 19 19 .w1c (.val 0) (.val 0) (.val 0),
    .mk 18 18 .ro (.val 0) (.val 0) (.val 0),
    .mk 13 0 .rw (.val 0) (.val 0) (.kept)]
]

def specs20 : List RegSpec := [
  -- LCn_CTL (04_layers.md R132)
  .mk 0x200000 1024 0x10 1 4 [.mk 27 27 .rw (.val 0) (.val 0) (.kept),
    .mk 26 24 .rw (.val 0) (.val 0) (.kept),
    .mk 23 20 .rw (.val 0) (.val 0) (.kept),
    .mk 19 18 .rw (.val 0) (.val 0) (.kept),
    .mk 17 16 .rw (.val 0) (.val 0) (.kept),
    .mk 15 14 .rw (.val 0) (.val 0) (.kept),
    .mk 13 13 .rw (.val 0) (.val 0) (.kept),
    .mk 12 12 .rw (.val 0) (.val 0) (.kept),
    .mk 11 4 .rw (.val 0) (.val 0) (.kept),
    .mk 3 0 .rw (.val 0) (.val 0) (.kept)],
  -- LCn_BASE (04_layers.md R133)
  .mk 0x200004 1024 0x10 1 4 [.mk 27 0 .rw (.val 0) (.val 0) (.kept)],
  -- LCn_AUX (04_layers.md R133)
  .mk 0x200008 1024 0x10 1 4 [.mk 27 0 .rw (.val 0) (.val 0) (.kept)],
  -- LCn_POS (04_layers.md R133)
  .mk 0x20000c 1024 0x10 1 4 [.mk 27 14 .rw (.val 0) (.val 0) (.kept),
    .mk 13 0 .rw (.val 0) (.val 0) (.kept)]
]

def specs30 : List RegSpec := [
  -- WELT_ID (10_welt_fabric.md R367)
  .mk 0x300000 1 0x10000000 1 4 [.mk 10 0 .rw (.fuse) (.kept) (.kept)],
  -- WELT_TRUST (10_welt_fabric.md R368)
  .mk 0x300004 1 0x10000000 1 4 [.mk 23 16 .ro (.fuse) (.kept) (.kept),
    .mk 15 8 .ro (.fuse) (.fuse) (.kept),
    .mk 7 0 .w1s (.val 0) (.kept) (.kept)],
  -- WELT_APCFG (10_welt_fabric.md R369)
  .mk 0x300008 1 0x10000000 1 4 [.mk 27 27 .rw (.val 0) (.kept) (.kept),
    .mk 26 26 .rw (.val 0) (.kept) (.kept),
    .mk 11 0 .rw (.val 0) (.kept) (.kept)],
  -- WELT_TIMECTL (10_welt_fabric.md R370)
  .mk 0x30000c 1 0x10000000 1 4 [.mk 27 27 .rw (.val 0) (.kept) (.kept),
    .mk 26 26 .rw (.val 0) (.kept) (.kept),
    .mk 25 23 .rw (.val 0) (.kept) (.kept),
    .mk 22 15 .rw (.val 0) (.kept) (.kept)],
  -- WELT_TIMESTAT (10_welt_fabric.md R371)
  .mk 0x300010 1 0x10000000 1 4 [.mk 27 26 .ro (.val 0) (.val 0) (.kept),
    .mk 25 25 .w1c (.val 0) (.val 0) (.kept),
    .mk 24 24 .w1c (.val 0) (.val 0) (.kept),
    .mk 23 19 .ro (.val 0x1f) (.val 0x1f) (.kept),
    .mk 16 0 .ro (.val 0) (.val 0) (.kept)],
  -- WELT_EPOCHLO (10_welt_fabric.md R372)
  .mk 0x300014 1 0x10000000 1 4 [.mk 27 0 .rw (.val 0) (.kept) (.kept)],
  -- WELT_EPOCHHI (10_welt_fabric.md R372)
  .mk 0x300018 1 0x10000000 1 4 [.mk 27 0 .rw (.val 0) (.kept) (.kept)],
  -- WELT_RTIDX (10_welt_fabric.md R373)
  .mk 0x30001c 1 0x10000000 1 4 [.mk 10 0 .rw (.val 0) (.kept) (.kept)],
  -- WELT_RTDATA (10_welt_fabric.md R373)
  .mk 0x300020 1 0x10000000 1 4 [.mk 27 0 .ro (.val 0) (.val 0) (.kept)],
  -- WELT_FCIDX (10_welt_fabric.md R374)
  .mk 0x300024 1 0x10000000 1 4 [.mk 27 27 .w1c (.val 0) (.val 0) (.kept),
    .mk 10 0 .rw (.val 0) (.kept) (.kept)],
  -- WELT_FCW0 (10_welt_fabric.md R375)
  .mk 0x300028 1 0x10000000 1 4 [.mk 27 0 .ro (.val 0) (.val 0) (.kept)],
  -- WELT_FCW1 (10_welt_fabric.md R375)
  .mk 0x30002c 1 0x10000000 1 4 [.mk 27 0 .ro (.val 0) (.val 0) (.kept)],
  -- WELT_TSCFG (10_welt_fabric.md R376)
  .mk 0x300030 1 0x10000000 1 4 [.mk 11 0 .rw (.val 0x64) (.kept) (.kept)],
  -- WELT_HDnOFS (10_welt_fabric.md R377)
  .mk 0x300040 16 0x4 1 4 [.mk 27 0 .rw (.val 0) (.kept) (.kept)],
  -- WELT_PRXkBASE (10_welt_fabric.md R378)
  .mk 0x300080 4 0x10 1 4 [.mk 27 0 .rw (.val 0) (.kept) (.kept)],
  -- WELT_PRXkCFG (10_welt_fabric.md R378)
  .mk 0x300084 4 0x10 1 4 [.mk 27 27 .rw (.val 0) (.kept) (.kept),
    .mk 26 26 .rw (.val 0) (.kept) (.kept),
    .mk 25 22 .rw (.val 0) (.kept) (.kept),
    .mk 21 20 .rw (.val 1) (.kept) (.kept),
    .mk 13 0 .rw (.val 0) (.kept) (.kept)],
  -- WELT_PRXkLC (10_welt_fabric.md R378)
  .mk 0x300088 4 0x10 1 4 [.mk 27 27 .rw (.val 0) (.kept) (.kept),
    .mk 19 10 .rw (.val 0) (.kept) (.kept),
    .mk 9 0 .rw (.val 0) (.kept) (.kept)],
  -- WELT_PRXkSTAT (10_welt_fabric.md R378)
  .mk 0x30008c 4 0x10 1 4 [.mk 27 26 .ro (.val 0) (.val 0) (.kept),
    .mk 25 25 .ro (.val 0) (.val 0) (.kept),
    .mk 24 24 .w1c (.val 0) (.val 0) (.kept),
    .mk 23 16 .rc (.val 0) (.val 0) (.kept),
    .mk 15 0 .ro (.val 0) (.val 0) (.kept)],
  -- WELT_WPpCNTk (10_welt_fabric.md R379)
  .mk 0x300104 8 0x80 28 4 [.mk 27 0 .rc (.val 0) (.val 0) (.val 0)]
]

def specs38 : List RegSpec := [
  -- PCIE_CTL (09_lanes.md R334)
  .mk 0x380000 1 0x10000000 1 4 [.mk 27 16 .rw (.val 0) (.kept) (.kept),
    .mk 12 12 .rw (.val 0) (.kept) (.kept),
    .mk 11 9 .rw (.val 5) (.kept) (.kept),
    .mk 8 7 .rw (.val 2) (.kept) (.kept)],
  -- PCIE_STAT (09_lanes.md R335)
  .mk 0x380004 1 0x10000000 1 4 [.mk 27 27 .ro (.val 0) (.val 0) (.val 0),
    .mk 26 24 .ro (.val 0) (.val 0) (.val 0),
    .mk 23 22 .ro (.val 0) (.val 0) (.val 0),
    .mk 21 21 .ro (.val 0) (.val 0) (.val 0),
    .mk 20 20 .w1c (.val 0) (.val 0) (.kept)],
  -- PCIE_MBRING (11_tongue_commands.md R417)
  .mk 0x380008 1 0x10000000 1 4 [.mk 27 27 .rw (.val 0) (.val 0) (.val 0),
    .mk 24 0 .rw (.val 0) (.val 0) (.val 0)],
  -- PCIE_MBCPTR (11_tongue_commands.md R418)
  .mk 0x38000c 1 0x10000000 1 4 [.mk 27 27 .w1c (.val 0) (.val 0) (.val 0),
    .mk 25 13 .ro (.val 0) (.val 0) (.val 0),
    .mk 12 0 .rw (.val 0) (.val 0) (.val 0)],
  -- PCIE_MBRPTR (11_tongue_commands.md R419)
  .mk 0x380010 1 0x10000000 1 4 [.mk 27 27 .ro (.val 0) (.val 0) (.val 0),
    .mk 26 26 .ro (.val 0) (.val 0) (.val 0),
    .mk 25 13 .ro (.val 0) (.val 0) (.val 0),
    .mk 12 0 .rw (.val 0) (.val 0) (.val 0)],
  -- PCIE_MBCFG (11_tongue_commands.md R420)
  .mk 0x380014 1 0x10000000 1 4 [.mk 27 27 .rw (.val 0) (.val 0) (.val 0),
    .mk 5 0 .rw (.val 0) (.val 0) (.val 0)],
  -- PCIE_MBPKT (11_tongue_commands.md R421)
  .mk 0x380018 1 0x10000000 1 4 [.mk 27 0 .rc (.val 0) (.val 0) (.val 0)],
  -- PCIE_MBRPL (11_tongue_commands.md R421)
  .mk 0x38001c 1 0x10000000 1 4 [.mk 27 0 .rc (.val 0) (.val 0) (.val 0)],
  -- DP_WPpSTAT (09_lanes.md R336)
  .mk 0x380020 8 0x4 1 4 [.mk 27 27 .ro (.val 0) (.val 0) (.val 0),
    .mk 26 26 .ro (.val 0) (.val 0) (.val 0),
    .mk 25 23 .ro (.val 0) (.val 0) (.val 0),
    .mk 22 21 .ro (.val 0) (.val 0) (.val 0),
    .mk 20 20 .ro (.val 0) (.val 0) (.val 0),
    .mk 19 19 .w1c (.val 0) (.val 0) (.val 0),
    .mk 18 18 .w1c (.val 0) (.val 0) (.val 0),
    .mk 17 17 .ro (.val 0) (.val 0) (.val 0),
    .mk 16 14 .ro (.val 0) (.val 0) (.val 0)]
]

def specs40 : List RegSpec := [
  -- AWLn_CFG (14_awl_model.md R517)
  .mk 0x400000 4 0x40 1 4 [.mk 27 14 .rw (.val 0) (.val 0) (.val 0),
    .mk 13 8 .rw (.val 0) (.val 0) (.val 0),
    .mk 0 0 .rw (.val 0) (.val 0) (.val 0)],
  -- AWLn_STAT (14_awl_model.md R518)
  .mk 0x400004 4 0x40 1 4 [.mk 27 25 .ro (.val 0) (.val 0) (.val 0),
    .mk 24 24 .ro (.val 0) (.val 0) (.val 0),
    .mk 23 23 .ro (.val 0) (.val 0) (.val 0),
    .mk 22 22 .w1c (.val 0) (.val 0) (.val 0),
    .mk 4 0 .ro (.val 0) (.val 0) (.val 0)],
  -- AWLn_PC (14_awl_model.md R519)
  .mk 0x400008 4 0x40 1 4 [.mk 13 0 .ro (.val 0) (.val 0) (.val 0)],
  -- AWLn_ISP (14_awl_model.md R519)
  .mk 0x40000c 4 0x40 1 4 [.mk 16 0 .rw (.val 0) (.val 0) (.val 0)],
  -- AWLn_ISPLIM (14_awl_model.md R519)
  .mk 0x400010 4 0x40 1 4 [.mk 15 0 .rw (.val 0) (.val 0) (.val 0)],
  -- AWLn_EINFO (14_awl_model.md R520)
  .mk 0x400014 4 0x40 1 4 [.mk 27 25 .ro (.val 0) (.val 0) (.val 0),
    .mk 22 21 .ro (.val 0) (.val 0) (.val 0),
    .mk 20 17 .ro (.val 0) (.val 0) (.val 0),
    .mk 13 0 .ro (.val 0) (.val 0) (.val 0)],
  -- AWL_LOCK (14_awl_model.md R521)
  .mk 0x400100 1 0x10000000 1 4 [.mk 2 2 .ro (.val 0) (.val 0) (.kept),
    .mk 1 0 .ro (.val 0) (.val 0) (.kept)],
  -- AWLn_PACE (02_pace.md R53)
  .mk 0x400180 4 0x4 1 4 [.mk 27 27 .wo (.val 0) (.val 0) (.val 0),
    .mk 26 14 .ro (.val 0x1fff) (.val 0x1fff) (.val 0x1fff),
    .mk 13 0 .ro (.val 0) (.val 0) (.val 0)]
]

def specs48 : List RegSpec := [
  -- LACE_CHn_CTL (16_lace.md R551)
  .mk 0x480000 32 0x10 1 4 [.mk 27 27 .wo (.val 0) (.val 0) (.val 0),
    .mk 26 26 .wo (.val 0) (.val 0) (.val 0),
    .mk 25 25 .rw (.val 0) (.val 0) (.kept),
    .mk 24 24 .rw (.val 0) (.val 0) (.kept),
    .mk 23 12 .rw (.val 0x64) (.val 0x64) (.kept),
    .mk 11 0 .rw (.val 0) (.val 0) (.kept)],
  -- LACE_CHn_DESC (16_lace.md R552)
  .mk 0x480004 32 0x10 1 4 [.mk 27 6 .rw (.val 0) (.val 0) (.kept)],
  -- LACE_CHn_STAT (16_lace.md R553)
  .mk 0x480008 32 0x10 1 4 [.mk 27 25 .ro (.val 0) (.val 0) (.val 0),
    .mk 24 22 .ro (.val 0) (.val 0) (.val 0),
    .mk 21 21 .w1c (.val 0) (.val 0) (.val 0),
    .mk 20 20 .w1c (.val 0) (.val 0) (.val 0),
    .mk 15 0 .ro (.val 0) (.val 0) (.val 0)],
  -- LACE_CHn_MAXDESC (16_lace.md R554)
  .mk 0x48000c 32 0x10 1 4 [.mk 15 0 .rw (.val 0xffff) (.val 0xffff) (.kept)]
]

def specs49 : List RegSpec := [
  -- SKIVER_CTL (17_skiver.md R569)
  .mk 0x490000 1 0x10000000 1 4 [.mk 27 27 .wo (.val 0) (.val 0) (.val 0),
    .mk 26 26 .wo (.val 0) (.val 0) (.val 0),
    .mk 25 25 .rw (.val 0) (.val 0) (.kept),
    .mk 23 12 .rw (.val 0x64) (.val 0x64) (.kept),
    .mk 11 0 .rw (.val 0) (.val 0) (.kept)],
  -- SKIVER_LIST (17_skiver.md R570)
  .mk 0x490004 1 0x10000000 1 4 [.mk 27 6 .rw (.val 0) (.val 0) (.kept)],
  -- SKIVER_STAT (17_skiver.md R571)
  .mk 0x490008 1 0x10000000 1 4 [.mk 27 25 .ro (.val 0) (.val 0) (.val 0),
    .mk 24 22 .ro (.val 0) (.val 0) (.val 0),
    .mk 21 21 .w1c (.val 0) (.val 0) (.val 0),
    .mk 20 20 .w1c (.val 0) (.val 0) (.val 0),
    .mk 19 19 .w1c (.val 0) (.val 0) (.val 0),
    .mk 18 18 .w1c (.val 0) (.val 0) (.val 0),
    .mk 12 0 .ro (.val 0) (.val 0) (.val 0)],
  -- SKIVER_CMDCNT (17_skiver.md R572)
  .mk 0x49000c 1 0x10000000 1 4 [.mk 15 0 .ro (.val 0) (.val 0) (.val 0)],
  -- SKIVER_MAXCMD (17_skiver.md R572)
  .mk 0x490010 1 0x10000000 1 4 [.mk 15 0 .rw (.val 0xffff) (.val 0xffff) (.kept)],
  -- SKIVER_CURLO (17_skiver.md R573)
  .mk 0x490014 1 0x10000000 1 4 [.mk 27 0 .ro (.val 0) (.val 0) (.val 0)],
  -- SKIVER_CURHI (17_skiver.md R573)
  .mk 0x490018 1 0x10000000 1 4 [.mk 11 0 .ro (.val 0) (.val 0) (.val 0)]
]

def specs50 : List RegSpec := [
  -- AUD_CTL (18_audio.md R599)
  .mk 0x500000 1 0x10000000 1 4 [.mk 27 27 .rw (.val 0) (.val 0) (.val 0),
    .mk 26 24 .rw (.val 0) (.val 0) (.kept),
    .mk 23 21 .rw (.val 0) (.val 0) (.kept),
    .mk 20 20 .rw (.val 0) (.val 0) (.kept)],
  -- AUD_STAT (18_audio.md R600)
  .mk 0x500004 1 0x10000000 1 4 [.mk 27 25 .w1c (.val 0) (.val 0) (.val 0),
    .mk 24 21 .w1c (.val 0) (.val 0) (.val 0),
    .mk 20 20 .w1c (.val 0) (.val 0) (.val 0),
    .mk 19 14 .rc (.val 0) (.val 0) (.val 0),
    .mk 13 7 .rc (.val 0) (.val 0) (.val 0)],
  -- AUD_KEY (18_audio.md R601)
  .mk 0x500008 1 0x10000000 1 4 [.mk 8 8 .wo (.val 0) (.val 0) (.val 0),
    .mk 7 0 .wo (.val 0) (.val 0) (.val 0)],
  -- AUD_MBn (18_audio.md R602)
  .mk 0x500040 32 0x4 1 4 [.mk 27 27 .rw (.val 0) (.val 0) (.kept),
    .mk 26 25 .rw (.val 0) (.val 0) (.kept),
    .mk 24 22 .rw (.val 0) (.val 0) (.kept),
    .mk 21 16 .rw (.val 0x14) (.val 0x14) (.kept),
    .mk 13 0 .rw (.val 0x2000) (.val 0x2000) (.kept)],
  -- AUD_OBk_CFG (18_audio.md R603)
  .mk 0x5000c0 8 0x10 1 4 [.mk 27 27 .rw (.val 0) (.val 0) (.kept),
    .mk 26 25 .rw (.val 0) (.val 0) (.kept),
    .mk 24 24 .rw (.val 0) (.val 0) (.kept),
    .mk 23 23 .rw (.val 1) (.val 1) (.kept),
    .mk 22 22 .rw (.val 0) (.val 0) (.kept),
    .mk 21 19 .rw (.val 0) (.val 0) (.kept)],
  -- AUD_OBk_DYN0 (18_audio.md R604)
  .mk 0x5000c4 8 0x10 1 4 [.mk 27 20 .rw (.val 0x30) (.val 0x30) (.kept),
    .mk 19 15 .rw (.val 6) (.val 6) (.kept),
    .mk 14 10 .rw (.val 6) (.val 6) (.kept),
    .mk 9 4 .rw (.val 0) (.val 0) (.kept)],
  -- AUD_OBk_DYN1 (18_audio.md R604)
  .mk 0x5000c8 8 0x10 1 4 [.mk 27 18 .rw (.val 0x64) (.val 0x64) (.kept),
    .mk 17 8 .rw (.val 0x64) (.val 0x64) (.kept),
    .mk 7 0 .rw (.val 8) (.val 8) (.kept)],
  -- AUD_OBk_STAT (18_audio.md R605)
  .mk 0x5000cc 8 0x10 1 4 [.mk 27 20 .ro (.val 0) (.val 0) (.val 0),
    .mk 11 0 .rc (.val 0) (.val 0) (.val 0)],
  -- AUD_PTp_CFG (18_audio.md R606)
  .mk 0x500140 4 0x4 1 4 [.mk 27 27 .rw (.val 0) (.val 0) (.kept),
    .mk 26 26 .rw (.val 1) (.val 1) (.kept),
    .mk 25 24 .rw (.val 0) (.val 0) (.kept),
    .mk 23 22 .rw (.val 0) (.val 0) (.kept),
    .mk 21 19 .rw (.val 0) (.val 0) (.kept),
    .mk 18 18 .rw (.val 0) (.val 0) (.kept)],
  -- AUD_RXk_CFG (18_audio.md R607)
  .mk 0x500150 4 0x8 1 4 [.mk 27 27 .rw (.val 0) (.val 0) (.kept),
    .mk 26 22 .rw (.val 0) (.val 0) (.kept),
    .mk 21 18 .rw (.val 4) (.val 4) (.kept),
    .mk 13 0 .rw (.val 0x2000) (.val 0x2000) (.kept)],
  -- AUD_RXk_STAT (18_audio.md R607)
  .mk 0x500154 4 0x8 1 4 [.mk 27 26 .ro (.val 0) (.val 0) (.val 0),
    .mk 25 24 .ro (.val 0) (.val 0) (.val 0),
    .mk 23 19 .ro (.val 0) (.val 0) (.val 0),
    .mk 18 13 .rc (.val 0) (.val 0) (.val 0),
    .mk 12 7 .rc (.val 0) (.val 0) (.val 0),
    .mk 6 1 .rc (.val 0) (.val 0) (.val 0)]
]

def specs58 : List RegSpec := [
  -- INS_FEn_CTL (19_insole_shank.md R628)
  .mk 0x580000 2 0x20 1 4 [.mk 27 27 .rw (.val 0) (.val 0) (.kept),
    .mk 26 26 .rw (.val 1) (.val 1) (.kept),
    .mk 25 25 .rw (.val 0) (.val 0) (.kept),
    .mk 24 24 .rw (.val 0) (.val 0) (.kept),
    .mk 23 23 .wo (.val 0) (.val 0) (.val 0),
    .mk 22 22 .rw (.val 0) (.val 0) (.kept),
    .mk 21 21 .rw (.val 0) (.val 0) (.kept),
    .mk 20 16 .rw (.val 0x10) (.val 0x10) (.kept),
    .mk 15 8 .rw (.val 0x6e) (.val 0x6e) (.kept),
    .mk 7 5 .rw (.val 4) (.val 4) (.kept)],
  -- INS_FEn_THR (19_insole_shank.md R629)
  .mk 0x580004 2 0x20 1 4 [.mk 27 14 .rw (.val 0x28) (.val 0x28) (.kept),
    .mk 13 0 .rw (.val 0x78) (.val 0x78) (.kept)],
  -- INS_FEn_RING (19_insole_shank.md R629)
  .mk 0x580008 2 0x20 1 4 [.mk 27 0 .rw (.val 0) (.val 0) (.kept)],
  -- INS_FEn_STAT (19_insole_shank.md R630)
  .mk 0x58000c 2 0x20 1 4 [.mk 27 27 .w1c (.val 0) (.val 0) (.val 0),
    .mk 26 26 .ro (.val 0) (.val 0) (.val 0),
    .mk 25 25 .w1c (.val 0) (.val 0) (.val 0),
    .mk 24 17 .rc (.val 0) (.val 0) (.val 0),
    .mk 16 10 .ro (.val 0) (.val 0) (.val 0),
    .mk 9 0 .ro (.val 0) (.val 0) (.val 0)],
  -- INS_SENSi (19_insole_shank.md R631)
  .mk 0x580040 6 0x4 1 4 [.mk 27 14 .ro (.val 0) (.val 0) (.kept),
    .mk 13 0 .ro (.val 0) (.val 0) (.kept)],
  -- INS_SRXk_BASE (19_insole_shank.md R632)
  .mk 0x580060 2 0x8 1 4 [.mk 27 0 .rw (.val 0) (.val 0) (.kept)],
  -- INS_SRXk_STAT (19_insole_shank.md R632)
  .mk 0x580064 2 0x8 1 4 [.mk 27 27 .w1c (.val 0) (.val 0) (.kept),
    .mk 26 19 .rc (.val 0) (.val 0) (.kept)]
]

def specs59 : List RegSpec := [
  -- SHK_CTL (19_insole_shank.md R633)
  .mk 0x590000 1 0x10000000 1 4 [.mk 27 27 .rw (.val 0) (.val 0) (.val 0),
    .mk 26 26 .wo (.val 0) (.val 0) (.val 0),
    .mk 25 22 .rw (.val 0) (.val 0) (.kept),
    .mk 21 12 .rw (.val 0) (.val 0) (.kept)],
  -- SHK_FUSE0 (19_insole_shank.md R634)
  .mk 0x590004 1 0x10000000 1 4 [.mk 27 14 .ro (.fuse) (.fuse) (.fuse),
    .mk 13 0 .ro (.fuse) (.fuse) (.fuse)],
  -- SHK_FUSE1 (19_insole_shank.md R634)
  .mk 0x590008 1 0x10000000 1 4 [.mk 27 20 .ro (.fuse) (.fuse) (.fuse),
    .mk 19 14 .ro (.fuse) (.fuse) (.fuse),
    .mk 13 0 .ro (.fuse) (.fuse) (.fuse)],
  -- SHK_STAT (19_insole_shank.md R635)
  .mk 0x59000c 1 0x10000000 1 4 [.mk 27 27 .ro (.val 0) (.val 0) (.val 0),
    .mk 26 26 .ro (.val 0) (.val 0) (.val 0),
    .mk 25 25 .ro (.val 0) (.val 0) (.val 0),
    .mk 24 24 .ro (.val 0) (.val 0) (.val 0),
    .mk 23 23 .w1c (.val 0) (.val 0) (.val 0)],
  -- SHK_BLCFG (19_insole_shank.md R636)
  .mk 0x590010 1 0x10000000 1 4 [.mk 27 27 .rw (.val 0) (.val 0) (.kept),
    .mk 26 26 .rw (.val 1) (.val 1) (.kept),
    .mk 25 18 .rw (.val 0) (.val 0) (.kept),
    .mk 17 0 .rw (.val 0xf424) (.val 0xf424) (.kept)],
  -- SHK_LIMIT (19_insole_shank.md R635)
  .mk 0x590014 1 0x10000000 1 4 [.mk 15 0 .ro (.val 0) (.val 0) (.val 0)],
  -- SHK_BLn (19_insole_shank.md R637)
  .mk 0x590040 16 0x4 1 4 [.mk 27 27 .rw (.val 0) (.val 0) (.kept),
    .mk 26 26 .rw (.val 0) (.val 0) (.kept),
    .mk 25 24 .rw (.val 0) (.val 0) (.kept),
    .mk 23 16 .rw (.val 0) (.val 0) (.kept),
    .mk 13 0 .rw (.val 0) (.val 0) (.kept)],
  -- SHK_HThA (19_insole_shank.md R638)
  .mk 0x590080 4 0x10 1 4 [.mk 27 14 .rw (.val 0x3fff) (.val 0x3fff) (.kept),
    .mk 13 0 .rw (.val 0x3fff) (.val 0x3fff) (.kept)],
  -- SHK_HThB (19_insole_shank.md R638)
  .mk 0x590084 4 0x10 1 4 [.mk 27 27 .rw (.val 0) (.val 0) (.kept),
    .mk 26 24 .rw (.val 0) (.val 0) (.kept),
    .mk 19 14 .rw (.val 0) (.val 0) (.kept),
    .mk 13 0 .rw (.val 0) (.val 0) (.kept)],
  -- SHK_HThS (19_insole_shank.md R638)
  .mk 0x590088 4 0x10 1 4 [.mk 27 27 .ro (.val 0) (.val 0) (.val 0),
    .mk 26 26 .ro (.val 0) (.val 0) (.val 0),
    .mk 25 25 .ro (.val 0) (.val 0) (.val 0),
    .mk 24 17 .rc (.val 0) (.val 0) (.val 0),
    .mk 16 11 .ro (.val 0) (.val 0) (.val 0)]
]

def specs100 : List RegSpec := [
  -- RT (10_welt_fabric.md R373)
  .mk 0x1000000 2048 0x4 1 4 [.mk 27 27 .rw (.val 0) (.kept) (.kept),
    .mk 26 24 .rw (.val 0) (.kept) (.kept),
    .mk 23 23 .rw (.val 0) (.kept) (.kept),
    .mk 22 20 .rw (.val 0) (.kept) (.kept),
    .mk 19 19 .ro (.val 0) (.val 0) (.kept)]
]

def specs101 : List RegSpec := [
  -- FC0 (10_welt_fabric.md R375)
  .mk 0x1010000 2048 0x4 1 4 [.mk 27 27 .rw (.val 0) (.kept) (.kept),
    .mk 26 24 .rw (.val 0) (.kept) (.kept),
    .mk 23 23 .rw (.val 0) (.kept) (.kept),
    .mk 21 11 .rw (.val 0) (.kept) (.kept),
    .mk 10 0 .rw (.val 0) (.kept) (.kept)]
]

def specs102 : List RegSpec := [
  -- FC1 (10_welt_fabric.md R375)
  .mk 0x1020000 2048 0x4 1 4 [.mk 27 27 .ro (.val 0) (.val 0) (.kept),
    .mk 15 0 .rw (.val 0) (.kept) (.kept)]
]

def specs103 : List RegSpec := [
  -- OWN (11_tongue_commands.md R416)
  .mk 0x1030000 192 0x4 1 4 [.mk 4 4 .w1s (.val 0) (.val 0) (.kept),
    .mk 3 0 .rw (.val 0) (.val 0) (.kept)]
]

def specs104 : List RegSpec := [
  -- SRC (20_interrupts_timers.md R659)
  .mk 0x1040000 384 0x4 1 4 [.mk 27 27 .rw (.val 0) (.val 0) (.kept),
    .mk 26 26 .ro (.val 0) (.val 0) (.kept),
    .mk 25 25 .ro (.val 0) (.val 0) (.kept),
    .mk 24 24 .ro (.val 0x0) (.val 0x0) (.kept),
    .mk 23 21 .rw (.val 0) (.val 0) (.kept),
    .mk 20 15 .rw (.val 0) (.val 0) (.kept),
    .mk 7 0 .rw (.val 0x80) (.val 0x80) (.kept)]
]

def specs105 : List RegSpec := [
  -- CMPCTL (20_interrupts_timers.md R664)
  .mk 0x1050000 32 0x4 1 4 [.mk 27 27 .rw (.val 0) (.val 0) (.kept),
    .mk 26 26 .rw (.val 0) (.val 0) (.kept),
    .mk 25 25 .w1c (.val 0) (.val 0) (.kept),
    .mk 24 24 .w1c (.val 0) (.val 0) (.kept),
    .mk 23 0 .rw (.val 0) (.val 0) (.kept)]
]

def specs106 : List RegSpec := [
  -- CMPLO (20_interrupts_timers.md R664)
  .mk 0x1060000 32 0x4 1 4 [.mk 27 0 .rw (.val 0) (.val 0) (.kept)]
]

def specs107 : List RegSpec := [
  -- CMPHI (20_interrupts_timers.md R664)
  .mk 0x1070000 32 0x4 1 4 [.mk 27 0 .rw (.val 0) (.val 0) (.kept)]
]

def specs108 : List RegSpec := [
  -- CAPCTL (20_interrupts_timers.md R665)
  .mk 0x1080000 16 0x4 1 4 [.mk 27 27 .rw (.val 0) (.val 0) (.kept),
    .mk 26 25 .rw (.val 1) (.val 1) (.kept),
    .mk 24 24 .w1c (.val 0) (.val 0) (.kept),
    .mk 23 22 .ro (.val 0) (.val 0) (.kept),
    .mk 21 21 .ro (.val 0) (.val 0) (.kept),
    .mk 7 0 .rw (.val 0) (.val 0) (.kept)]
]

def specs109 : List RegSpec := [
  -- CAPLO (20_interrupts_timers.md R665)
  .mk 0x1090000 16 0x4 1 4 [.mk 27 0 .ro (.val 0) (.val 0) (.kept)]
]

def specs10a : List RegSpec := [
  -- CAPHI (20_interrupts_timers.md R665)
  .mk 0x10a0000 16 0x4 1 4 [.mk 27 0 .ro (.val 0) (.val 0) (.kept)]
]

def specs10b : List RegSpec := [
  -- EY (21_eyelets.md R679)
  .mk 0x10b0000 128 0x4 1 4 [.mk 27 25 .rw (.val 0) (.val 0) (.kept),
    .mk 24 24 .rw (.val 0) (.val 0) (.kept),
    .mk 23 23 .rw (.val 0) (.val 0) (.kept),
    .mk 22 22 .rw (.val 0) (.val 0) (.kept),
    .mk 21 20 .rw (.fuse) (.fuse) (.kept),
    .mk 19 18 .rw (.val 1) (.val 1) (.kept),
    .mk 17 17 .rw (.val 0) (.val 0) (.kept),
    .mk 16 16 .rw (.val 0) (.val 0) (.kept),
    .mk 15 13 .rw (.val 0) (.val 0) (.kept),
    .mk 12 12 .rw (.val 0) (.val 0) (.kept),
    .mk 11 11 .w1c (.val 0) (.val 0) (.kept),
    .mk 10 10 .ro (.val 0) (.val 0) (.kept)]
]

def specs10c : List RegSpec := [
  -- I2C_CFG (21_eyelets.md R681)
  .mk 0x10c0000 4 0x4 1 4 [.mk 27 27 .rw (.val 0) (.val 0) (.kept),
    .mk 26 25 .rw (.val 0) (.val 0) (.kept),
    .mk 7 0 .rw (.val 0x19) (.val 0x19) (.kept)]
]

def specs10d : List RegSpec := [
  -- I2C_CMD (21_eyelets.md R681)
  .mk 0x10d0000 4 0x4 1 4 [.mk 27 27 .wo (.val 0) (.val 0) (.kept),
    .mk 26 26 .rw (.val 1) (.val 1) (.kept),
    .mk 25 25 .rw (.val 0) (.val 0) (.kept),
    .mk 14 8 .rw (.val 0) (.val 0) (.kept),
    .mk 6 0 .rw (.val 1) (.val 1) (.kept)]
]

def specs10e : List RegSpec := [
  -- I2C_STAT (21_eyelets.md R681)
  .mk 0x10e0000 4 0x4 1 4 [.mk 27 27 .ro (.val 0) (.val 0) (.kept),
    .mk 26 26 .w1c (.val 0) (.val 0) (.kept),
    .mk 25 25 .w1c (.val 0) (.val 0) (.kept),
    .mk 24 24 .w1c (.val 0) (.val 0) (.kept),
    .mk 13 7 .ro (.val 0) (.val 0) (.kept),
    .mk 6 0 .ro (.val 0) (.val 0) (.kept)]
]

def specs10f : List RegSpec := [
  -- UART_CFG (21_eyelets.md R681)
  .mk 0x10f0000 2 0x4 1 4 [.mk 27 27 .rw (.val 0) (.val 0) (.kept),
    .mk 26 25 .rw (.val 0) (.val 0) (.kept),
    .mk 24 24 .rw (.val 0) (.val 0) (.kept),
    .mk 23 23 .rw (.val 0) (.val 0) (.kept),
    .mk 15 0 .rw (.val 0x6c8) (.val 0x6c8) (.kept)]
]

def specs110 : List RegSpec := [
  -- UART_STAT (21_eyelets.md R681)
  .mk 0x1100000 2 0x4 1 4 [.mk 27 27 .ro (.val 0) (.val 0) (.kept),
    .mk 26 26 .w1c (.val 0) (.val 0) (.kept),
    .mk 25 25 .w1c (.val 0) (.val 0) (.kept),
    .mk 24 24 .w1c (.val 0) (.val 0) (.kept),
    .mk 13 7 .ro (.val 0) (.val 0) (.kept),
    .mk 6 0 .ro (.val 0) (.val 0) (.kept)]
]

def specs111 : List RegSpec := [
  -- WPCTL (23_debug.md R724)
  .mk 0x1110000 36 0x4 1 4 [.mk 27 26 .rw (.val 0) (.val 0) (.kept),
    .mk 25 24 .rw (.val 0) (.val 0) (.kept),
    .mk 23 18 .rw (.val 0) (.val 0) (.kept),
    .mk 17 17 .w1c (.val 0) (.val 0) (.kept),
    .mk 15 0 .rw (.val 0) (.val 0) (.kept)]
]

def specs112 : List RegSpec := [
  -- WPLO (23_debug.md R724)
  .mk 0x1120000 36 0x4 1 4 [.mk 27 0 .rw (.val 0) (.val 0) (.kept)]
]

def specs113 : List RegSpec := [
  -- WPHI (23_debug.md R724)
  .mk 0x1130000 36 0x4 1 4 [.mk 11 0 .rw (.val 0) (.val 0) (.kept)]
]

def specs114 : List RegSpec := [
  -- WPVAL (23_debug.md R724)
  .mk 0x1140000 36 0x4 1 4 [.mk 15 0 .rw (.val 0) (.val 0) (.kept)]
]

def specs115 : List RegSpec := [
  -- SRCIDX_C (20_interrupts_timers.md R659)
  .mk 0x1150000 16 0x4 1 4 [.mk 27 27 .w1c (.val 0) (.val 0) (.kept),
    .mk 8 0 .rw (.val 0) (.val 0) (.kept)]
]

def specs116 : List RegSpec := [
  -- OWNIDX_C (11_tongue_commands.md R415)
  .mk 0x1160000 16 0x4 1 4 [.mk 27 27 .w1c (.val 0) (.val 0) (.kept),
    .mk 7 0 .rw (.val 0) (.val 0) (.kept)]
]

def specs117 : List RegSpec := [
  -- UIDX_C (22_faults.md R700)
  .mk 0x1170000 16 0x4 1 4 [.mk 15 0 .rw (.val 0) (.val 0) (.kept)]
]

def specs118 : List RegSpec := [
  -- EYIDX_C (21_eyelets.md R679)
  .mk 0x1180000 16 0x4 1 4 [.mk 27 27 .w1c (.val 0) (.val 0) (.kept),
    .mk 6 0 .rw (.val 0) (.val 0) (.kept)]
]

def specs119 : List RegSpec := [
  -- CMPIDX_C (20_interrupts_timers.md R664)
  .mk 0x1190000 16 0x4 1 4 [.mk 4 0 .rw (.val 0) (.val 0) (.kept)]
]

def specs11a : List RegSpec := [
  -- CAPIDX_C (20_interrupts_timers.md R665)
  .mk 0x11a0000 16 0x4 1 4 [.mk 3 0 .rw (.val 0) (.val 0) (.kept)]
]

def specs11b : List RegSpec := [
  -- WPIDX_C (23_debug.md R724)
  .mk 0x11b0000 16 0x4 1 4 [.mk 5 5 .rw (.val 0) (.val 0) (.kept),
    .mk 4 3 .rw (.val 0) (.val 0) (.kept),
    .mk 2 0 .rw (.val 0) (.val 0) (.kept)]
]

/-- The register entries whose keys lie in one 64 KiB block. -/
def specsOf (blk : Nat) : List RegSpec :=
  if blk = 0x0 then specs0
  else if blk = 0x1 then specs1
  else if blk = 0x2 then specs2
  else if blk = 0x3 then specs3
  else if blk = 0x4 then specs4
  else if blk = 0x5 then specs5
  else if blk = 0x6 then specs6
  else if blk = 0x7 then specs7
  else if blk = 0x8 then specs8
  else if blk = 0x10 then specs10
  else if blk = 0x11 then specs11
  else if blk = 0x12 then specs12
  else if blk = 0x14 then specs14
  else if blk = 0x18 then specs18
  else if blk = 0x20 then specs20
  else if blk = 0x30 then specs30
  else if blk = 0x38 then specs38
  else if blk = 0x40 then specs40
  else if blk = 0x48 then specs48
  else if blk = 0x49 then specs49
  else if blk = 0x50 then specs50
  else if blk = 0x58 then specs58
  else if blk = 0x59 then specs59
  else if blk = 0x100 then specs100
  else if blk = 0x101 then specs101
  else if blk = 0x102 then specs102
  else if blk = 0x103 then specs103
  else if blk = 0x104 then specs104
  else if blk = 0x105 then specs105
  else if blk = 0x106 then specs106
  else if blk = 0x107 then specs107
  else if blk = 0x108 then specs108
  else if blk = 0x109 then specs109
  else if blk = 0x10a then specs10a
  else if blk = 0x10b then specs10b
  else if blk = 0x10c then specs10c
  else if blk = 0x10d then specs10d
  else if blk = 0x10e then specs10e
  else if blk = 0x10f then specs10f
  else if blk = 0x110 then specs110
  else if blk = 0x111 then specs111
  else if blk = 0x112 then specs112
  else if blk = 0x113 then specs113
  else if blk = 0x114 then specs114
  else if blk = 0x115 then specs115
  else if blk = 0x116 then specs116
  else if blk = 0x117 then specs117
  else if blk = 0x118 then specs118
  else if blk = 0x119 then specs119
  else if blk = 0x11a then specs11a
  else if blk = 0x11b then specs11b
  else []

/-- Does a register of entry `r` sit at key `k`? -/
def RegSpec.covers (r : RegSpec) (k : Nat) : Bool :=
  let d := k - r.base
  let i := d / r.stride
  let e := d % r.stride
  decide (r.base ≤ k) && decide (i < r.n) && decide (e % r.stride2 = 0) && decide (e / r.stride2 < r.n2)

/-- Keys of the frame and active copies of a shadowed register (R175, R179). -/
def frameBase : Nat := 0x2000000
def activeBase : Nat := 0x4000000

/-- The register entry at a key; a frame or active copy has the entry of its register. -/
def specAt (k : Nat) : Option RegSpec :=
  let k := k % 0x2000000
  (specsOf (k / 0x10000)).find? (fun r => r.covers k)

/-! Keys of the registers, by the spec's names without the unit letter. -/
def Rg.SYS_ROLE : Nat := 0x8
def Rg.SYS_DECERR0 : Nat := 0x10
def Rg.SYS_DECERR1 : Nat := 0x14
def Rg.SYS_PERIDX : Nat := 0x18
def Rg.SYS_PERDATA : Nat := 0x1c
def Rg.SYS_EYIDX : Nat := 0x20
def Rg.SYS_EYCFG : Nat := 0x24
def Rg.SYS_EYSET : Nat := 0x28
def Rg.SYS_EYCLR : Nat := 0x2c
def Rg.SYS_EYIN : Nat := 0x30
def Rg.SYS_EYBANK : Nat := 0x34
def Rg.TONGUE_CFG : Nat := 0x10000
def Rg.TONGUE_STAT : Nat := 0x10004
def Rg.TONGUE_OWNIDX : Nat := 0x10008
def Rg.TONGUE_OWNDATA : Nat := 0x1000c
def Rg.TONGUE_A_RING (n : Nat) : Nat := 0x10010 + n * 0x10
def Rg.TONGUE_A_CPTR (n : Nat) : Nat := 0x10014 + n * 0x10
def Rg.TONGUE_A_RPTR (n : Nat) : Nat := 0x10018 + n * 0x10
def Rg.SEC_BOOT : Nat := 0x20000
def Rg.SEC_BOOTERR : Nat := 0x20004
def Rg.SEC_BOOTNAME : Nat := 0x20008
def Rg.SEC_KEYSTAT : Nat := 0x2000c
def Rg.SEC_CFG : Nat := 0x20010
def Rg.SEC_FUSECMD : Nat := 0x20014
def Rg.SEC_FUSEADDR0 : Nat := 0x20018
def Rg.SEC_FUSEADDR1 : Nat := 0x2001c
def Rg.SEC_VSTAT : Nat := 0x20020
def Rg.SEC_UIDLO : Nat := 0x20024
def Rg.SEC_UIDMID : Nat := 0x20028
def Rg.SEC_UIDHI : Nat := 0x2002c
def Rg.RST_CAUSE : Nat := 0x30000
def Rg.RST_STRAP : Nat := 0x30004
def Rg.RST_BAKCNT : Nat := 0x30008
def Rg.PWR_SUPSTAT : Nat := 0x3000c
def Rg.PWR_STATE : Nat := 0x30010
def Rg.PWR_DOMREQ : Nat := 0x30014
def Rg.PWR_DOMON : Nat := 0x30018
def Rg.PWR_WAKE : Nat := 0x3001c
def Rg.PWR_PACECTL : Nat := 0x30040
def Rg.PWR_PACETGT : Nat := 0x30044
def Rg.PWR_VLIMIT : Nat := 0x30048
def Rg.PWR_VSET : Nat := 0x3004c
def Rg.PWR_PACESTAT : Nat := 0x30050
def Rg.PWR_PACEFUSE : Nat := 0x30054
def Rg.PWR_TJ : Nat := 0x30058
def Rg.FLT_CTL : Nat := 0x40000
def Rg.FLT_SUM : Nat := 0x40004
def Rg.FLT_LOST0 : Nat := 0x40008
def Rg.FLT_LOST1 : Nat := 0x4000c
def Rg.FLT_UIDX : Nat := 0x40010
def Rg.FLT_USTAT : Nat := 0x40014
def Rg.FLT_ACK : Nat := 0x40018
def Rg.FLT_FORCE0 : Nat := 0x4001c
def Rg.FLT_FORCE1 : Nat := 0x40020
def Rg.ICU_CTL : Nat := 0x50000
def Rg.ICU_GONECNT : Nat := 0x50004
def Rg.ICU_SRCIDX : Nat := 0x50008
def Rg.ICU_SRCCFG : Nat := 0x5000c
def Rg.ICU_PEND (n : Nat) : Nat := 0x50040 + n * 4
def Rg.ICU_GRP_HOLD (n : Nat) : Nat := 0x50080 + n * 4
def Rg.ICU_SWSET : Nat := 0x500c0
def Rg.ICU_TGT_CFG (n : Nat) : Nat := 0x50100 + n * 0x10
def Rg.ICU_TGT_CLAIM (n : Nat) : Nat := 0x50104 + n * 0x10
def Rg.ICU_TGT_EOI (n : Nat) : Nat := 0x50108 + n * 0x10
def Rg.ICU_TGT_STAT (n : Nat) : Nat := 0x5010c + n * 0x10
def Rg.TIME_LO : Nat := 0x60000
def Rg.TIME_HI : Nat := 0x60004
def Rg.TIME_LDLO : Nat := 0x60008
def Rg.TIME_LDHI : Nat := 0x6000c
def Rg.TIME_CMPIDX : Nat := 0x60020
def Rg.TIME_CMPCTL : Nat := 0x60024
def Rg.TIME_CMPLO : Nat := 0x60028
def Rg.TIME_CMPHI : Nat := 0x6002c
def Rg.TIME_CAPIDX : Nat := 0x60030
def Rg.TIME_CAPCTL : Nat := 0x60034
def Rg.TIME_CAPLO : Nat := 0x60038
def Rg.TIME_CAPHI : Nat := 0x6003c
def Rg.TIME_WD_CTL (n : Nat) : Nat := 0x60040 + n * 8
def Rg.TIME_WD_CNT (n : Nat) : Nat := 0x60044 + n * 8
def Rg.EYE_WP_CFG (n : Nat) : Nat := 0x70000 + n * 8
def Rg.EYE_WP_STAT (n : Nat) : Nat := 0x70004 + n * 8
def Rg.EYE_L_CFG (n : Nat) : Nat := 0x70100 + n * 0x10
def Rg.EYE_L_STAT (n : Nat) : Nat := 0x70104 + n * 0x10
def Rg.EYE_L_ERR (n : Nat) : Nat := 0x70108 + n * 0x10
def Rg.EYE_L_SCAN (n : Nat) : Nat := 0x7010c + n * 0x10
def Rg.DBG_CTL : Nat := 0x80000
def Rg.DBG_STAT : Nat := 0x80004
def Rg.DBG_RUN : Nat := 0x80008
def Rg.DBG_ID : Nat := 0x8000c
def Rg.DBG_WPIDX : Nat := 0x80010
def Rg.DBG_WPCTL : Nat := 0x80014
def Rg.DBG_WPADDRLO : Nat := 0x80018
def Rg.DBG_WPADDRHI : Nat := 0x8001c
def Rg.DBG_WPVAL : Nat := 0x80020
def Rg.DBG_HITLO : Nat := 0x80024
def Rg.DBG_HITHI : Nat := 0x80028
def Rg.LAST_CTL : Nat := 0x100000
def Rg.LAST_SLOTSTAT : Nat := 0x100004
def Rg.LAST_ADMITSTAT : Nat := 0x100008
def Rg.LAST_ADMITPOS : Nat := 0x10000c
def Rg.LAST_ADMITVAL : Nat := 0x100010
def Rg.LAST_ADMITLIM : Nat := 0x100014
def Rg.LAST_SLOTCAP : Nat := 0x100018
def Rg.LAST_REMCFG : Nat := 0x10001c
def Rg.LAST_SLOT_ID (n : Nat) : Nat := 0x100020 + n * 4
def Rg.LAST_HD_SEL (n : Nat) : Nat := 0x100040 + n * 4
def Rg.LAST_HD_CLIP (n : Nat) : Nat := 0x100080 + n * 4
def Rg.FETCH_POOL (n : Nat) : Nat := 0x110000 + n * 4
def Rg.FETCH_POOL_STAT (n : Nat) : Nat := 0x110020 + n * 4
def Rg.FETCH_SL_STAT (n : Nat) : Nat := 0x110040 + n * 4
def Rg.FETCH_SL_LAT (n : Nat) : Nat := 0x110080 + n * 4
def Rg.FETCH_SL_LINE (n : Nat) : Nat := 0x1100c0 + n * 4
def Rg.MEM_CFG : Nat := 0x120000
def Rg.MEM_CTL : Nat := 0x120004
def Rg.MEM_STAT : Nat := 0x120008
def Rg.MEM_ECCSTAT : Nat := 0x12000c
def Rg.MEM_ECCADDR0 : Nat := 0x120010
def Rg.MEM_ECCADDR1 : Nat := 0x120014
def Rg.MEM_CH_STAT (n : Nat) : Nat := 0x120020 + n * 4
def Rg.MEM_CH_ERR (n : Nat) : Nat := 0x120040 + n * 4
def Rg.MEM_CH_TRAIN (n : Nat) : Nat := 0x120060 + n * 4
def Rg.MEM_ECC (n : Nat) : Nat := 0x120080 + n * 4
def Rg.SL_PACE (n : Nat) : Nat := 0x140040 + n * 0x1000
def Rg.SL_SLACK (n : Nat) : Nat := 0x140044 + n * 0x1000
def Rg.SL_SLACKCNT (n : Nat) : Nat := 0x140048 + n * 0x1000
def Rg.HD_HTIME (n : Nat) : Nat := 0x180000 + n * 0x1000
def Rg.HD_VTIME (n : Nat) : Nat := 0x180004 + n * 0x1000
def Rg.HD_START (n : Nat) : Nat := 0x180008 + n * 0x1000
def Rg.HD_PCLK (n : Nat) : Nat := 0x18000c + n * 0x1000
def Rg.HD_CTL (n : Nat) : Nat := 0x180010 + n * 0x1000
def Rg.HD_STAT (n : Nat) : Nat := 0x180014 + n * 0x1000
def Rg.HD_FRAME (n : Nat) : Nat := 0x180018 + n * 0x1000
def Rg.HD_FRAMEHI (n : Nat) : Nat := 0x18001c + n * 0x1000
def Rg.HD_BG0 (n : Nat) : Nat := 0x180040 + n * 0x1000
def Rg.HD_BG1 (n : Nat) : Nat := 0x180044 + n * 0x1000
def Rg.HD_OUTLUT (n : Nat) : Nat := 0x180048 + n * 0x1000
def Rg.HD_MARK (n : Nat) : Nat := 0x18004c + n * 0x1000
def Rg.HD_LLSEL (n : Nat) : Nat := 0x180050 + n * 0x1000
def Rg.HD_LLSTAT (n : Nat) : Nat := 0x180054 + n * 0x1000
def Rg.HD_COMMIT (n : Nat) : Nat := 0x180058 + n * 0x1000
def Rg.HD_LAYATTR (n : Nat) (k : Nat) : Nat := 0x180060 + n * 0x1000 + k * 4
def Rg.HD_LAYATTR6 (n : Nat) : Nat := 0x180078 + n * 0x1000
def Rg.HD_WBBASE (n : Nat) : Nat := 0x18007c + n * 0x1000
def Rg.HD_WBCTL (n : Nat) : Nat := 0x180080 + n * 0x1000
def Rg.LC_CTL (n : Nat) : Nat := 0x200000 + n * 0x10
def Rg.LC_BASE (n : Nat) : Nat := 0x200004 + n * 0x10
def Rg.LC_AUX (n : Nat) : Nat := 0x200008 + n * 0x10
def Rg.LC_POS (n : Nat) : Nat := 0x20000c + n * 0x10
def Rg.WELT_ID : Nat := 0x300000
def Rg.WELT_TRUST : Nat := 0x300004
def Rg.WELT_APCFG : Nat := 0x300008
def Rg.WELT_TIMECTL : Nat := 0x30000c
def Rg.WELT_TIMESTAT : Nat := 0x300010
def Rg.WELT_EPOCHLO : Nat := 0x300014
def Rg.WELT_EPOCHHI : Nat := 0x300018
def Rg.WELT_RTIDX : Nat := 0x30001c
def Rg.WELT_RTDATA : Nat := 0x300020
def Rg.WELT_FCIDX : Nat := 0x300024
def Rg.WELT_FCW0 : Nat := 0x300028
def Rg.WELT_FCW1 : Nat := 0x30002c
def Rg.WELT_TSCFG : Nat := 0x300030
def Rg.WELT_HD_OFS (n : Nat) : Nat := 0x300040 + n * 4
def Rg.WELT_PRX_BASE (n : Nat) : Nat := 0x300080 + n * 0x10
def Rg.WELT_PRX_CFG (n : Nat) : Nat := 0x300084 + n * 0x10
def Rg.WELT_PRX_LC (n : Nat) : Nat := 0x300088 + n * 0x10
def Rg.WELT_PRX_STAT (n : Nat) : Nat := 0x30008c + n * 0x10
def Rg.WELT_WP_CNT (n : Nat) (k : Nat) : Nat := 0x300104 + n * 0x80 + k * 4
def Rg.PCIE_CTL : Nat := 0x380000
def Rg.PCIE_STAT : Nat := 0x380004
def Rg.PCIE_MBRING : Nat := 0x380008
def Rg.PCIE_MBCPTR : Nat := 0x38000c
def Rg.PCIE_MBRPTR : Nat := 0x380010
def Rg.PCIE_MBCFG : Nat := 0x380014
def Rg.PCIE_MBPKT : Nat := 0x380018
def Rg.PCIE_MBRPL : Nat := 0x38001c
def Rg.DP_WP_STAT (n : Nat) : Nat := 0x380020 + n * 4
def Rg.AWL_CFG (n : Nat) : Nat := 0x400000 + n * 0x40
def Rg.AWL_STAT (n : Nat) : Nat := 0x400004 + n * 0x40
def Rg.AWL_PC (n : Nat) : Nat := 0x400008 + n * 0x40
def Rg.AWL_ISP (n : Nat) : Nat := 0x40000c + n * 0x40
def Rg.AWL_ISPLIM (n : Nat) : Nat := 0x400010 + n * 0x40
def Rg.AWL_EINFO (n : Nat) : Nat := 0x400014 + n * 0x40
def Rg.AWL_LOCK : Nat := 0x400100
def Rg.AWL_PACE (n : Nat) : Nat := 0x400180 + n * 4
def Rg.LACE_CH_CTL (n : Nat) : Nat := 0x480000 + n * 0x10
def Rg.LACE_CH_DESC (n : Nat) : Nat := 0x480004 + n * 0x10
def Rg.LACE_CH_STAT (n : Nat) : Nat := 0x480008 + n * 0x10
def Rg.LACE_CH_MAXDESC (n : Nat) : Nat := 0x48000c + n * 0x10
def Rg.SKIVER_CTL : Nat := 0x490000
def Rg.SKIVER_LIST : Nat := 0x490004
def Rg.SKIVER_STAT : Nat := 0x490008
def Rg.SKIVER_CMDCNT : Nat := 0x49000c
def Rg.SKIVER_MAXCMD : Nat := 0x490010
def Rg.SKIVER_CURLO : Nat := 0x490014
def Rg.SKIVER_CURHI : Nat := 0x490018
def Rg.AUD_CTL : Nat := 0x500000
def Rg.AUD_STAT : Nat := 0x500004
def Rg.AUD_KEY : Nat := 0x500008
def Rg.AUD_MB (n : Nat) : Nat := 0x500040 + n * 4
def Rg.AUD_OB_CFG (n : Nat) : Nat := 0x5000c0 + n * 0x10
def Rg.AUD_OB_DYN0 (n : Nat) : Nat := 0x5000c4 + n * 0x10
def Rg.AUD_OB_DYN1 (n : Nat) : Nat := 0x5000c8 + n * 0x10
def Rg.AUD_OB_STAT (n : Nat) : Nat := 0x5000cc + n * 0x10
def Rg.AUD_PT_CFG (n : Nat) : Nat := 0x500140 + n * 4
def Rg.AUD_RX_CFG (n : Nat) : Nat := 0x500150 + n * 8
def Rg.AUD_RX_STAT (n : Nat) : Nat := 0x500154 + n * 8
def Rg.INS_FE_CTL (n : Nat) : Nat := 0x580000 + n * 0x20
def Rg.INS_FE_THR (n : Nat) : Nat := 0x580004 + n * 0x20
def Rg.INS_FE_RING (n : Nat) : Nat := 0x580008 + n * 0x20
def Rg.INS_FE_STAT (n : Nat) : Nat := 0x58000c + n * 0x20
def Rg.INS_SENS (n : Nat) : Nat := 0x580040 + n * 4
def Rg.INS_SRX_BASE (n : Nat) : Nat := 0x580060 + n * 8
def Rg.INS_SRX_STAT (n : Nat) : Nat := 0x580064 + n * 8
def Rg.SHK_CTL : Nat := 0x590000
def Rg.SHK_FUSE0 : Nat := 0x590004
def Rg.SHK_FUSE1 : Nat := 0x590008
def Rg.SHK_STAT : Nat := 0x59000c
def Rg.SHK_BLCFG : Nat := 0x590010
def Rg.SHK_LIMIT : Nat := 0x590014
def Rg.SHK_BL (n : Nat) : Nat := 0x590040 + n * 4
def Rg.SHK_HT_A (n : Nat) : Nat := 0x590080 + n * 0x10
def Rg.SHK_HT_B (n : Nat) : Nat := 0x590084 + n * 0x10
def Rg.SHK_HT_S (n : Nat) : Nat := 0x590088 + n * 0x10
def Rg.RT (n : Nat) : Nat := 0x1000000 + n * 4
def Rg.FC0 (n : Nat) : Nat := 0x1010000 + n * 4
def Rg.FC1 (n : Nat) : Nat := 0x1020000 + n * 4
def Rg.OWN (n : Nat) : Nat := 0x1030000 + n * 4
def Rg.SRC (n : Nat) : Nat := 0x1040000 + n * 4
def Rg.CMPCTL (n : Nat) : Nat := 0x1050000 + n * 4
def Rg.CMPLO (n : Nat) : Nat := 0x1060000 + n * 4
def Rg.CMPHI (n : Nat) : Nat := 0x1070000 + n * 4
def Rg.CAPCTL (n : Nat) : Nat := 0x1080000 + n * 4
def Rg.CAPLO (n : Nat) : Nat := 0x1090000 + n * 4
def Rg.CAPHI (n : Nat) : Nat := 0x10a0000 + n * 4
def Rg.EY (n : Nat) : Nat := 0x10b0000 + n * 4
def Rg.I2C_CFG (n : Nat) : Nat := 0x10c0000 + n * 4
def Rg.I2C_CMD (n : Nat) : Nat := 0x10d0000 + n * 4
def Rg.I2C_STAT (n : Nat) : Nat := 0x10e0000 + n * 4
def Rg.UART_CFG (n : Nat) : Nat := 0x10f0000 + n * 4
def Rg.UART_STAT (n : Nat) : Nat := 0x1100000 + n * 4
def Rg.WPCTL (n : Nat) : Nat := 0x1110000 + n * 4
def Rg.WPLO (n : Nat) : Nat := 0x1120000 + n * 4
def Rg.WPHI (n : Nat) : Nat := 0x1130000 + n * 4
def Rg.WPVAL (n : Nat) : Nat := 0x1140000 + n * 4
def Rg.SRCIDX_C (n : Nat) : Nat := 0x1150000 + n * 4
def Rg.OWNIDX_C (n : Nat) : Nat := 0x1160000 + n * 4
def Rg.UIDX_C (n : Nat) : Nat := 0x1170000 + n * 4
def Rg.EYIDX_C (n : Nat) : Nat := 0x1180000 + n * 4
def Rg.CMPIDX_C (n : Nat) : Nat := 0x1190000 + n * 4
def Rg.CAPIDX_C (n : Nat) : Nat := 0x11a0000 + n * 4
def Rg.WPIDX_C (n : Nat) : Nat := 0x11b0000 + n * 4

/-! Fields of the registers. -/
def Fd.SYS_ROLE_BUSY : Fd := ⟨Rg.SYS_ROLE, 7, 1⟩
def Fd.SYS_ROLE_ROLEERR : Fd := ⟨Rg.SYS_ROLE, 6, 1⟩
def Fd.SYS_ROLE_HEELEN : Fd := ⟨Rg.SYS_ROLE, 5, 1⟩
def Fd.SYS_ROLE_OVR : Fd := ⟨Rg.SYS_ROLE, 0, 3⟩
def Fd.SYS_DECERR0_ADDRLO : Fd := ⟨Rg.SYS_DECERR0, 0, 28⟩
def Fd.SYS_DECERR1_VALID : Fd := ⟨Rg.SYS_DECERR1, 21, 1⟩
def Fd.SYS_DECERR1_OVF : Fd := ⟨Rg.SYS_DECERR1, 20, 1⟩
def Fd.SYS_DECERR1_WRITE : Fd := ⟨Rg.SYS_DECERR1, 19, 1⟩
def Fd.SYS_DECERR1_MASTER : Fd := ⟨Rg.SYS_DECERR1, 12, 5⟩
def Fd.SYS_DECERR1_ADDRHI : Fd := ⟨Rg.SYS_DECERR1, 0, 12⟩
def Fd.SYS_PERIDX_PER : Fd := ⟨Rg.SYS_PERIDX, 4, 3⟩
def Fd.SYS_PERIDX_REG : Fd := ⟨Rg.SYS_PERIDX, 0, 2⟩
def Fd.SYS_EYIDX_ERR : Fd := ⟨Rg.SYS_EYIDX, 27, 1⟩
def Fd.SYS_EYIDX_INDEX : Fd := ⟨Rg.SYS_EYIDX, 0, 7⟩
def Fd.SYS_EYSET_BANK : Fd := ⟨Rg.SYS_EYSET, 25, 3⟩
def Fd.SYS_EYSET_MASK : Fd := ⟨Rg.SYS_EYSET, 0, 16⟩
def Fd.SYS_EYCLR_BANK : Fd := ⟨Rg.SYS_EYCLR, 25, 3⟩
def Fd.SYS_EYCLR_MASK : Fd := ⟨Rg.SYS_EYCLR, 0, 16⟩
def Fd.SYS_EYIN_BANK : Fd := ⟨Rg.SYS_EYIN, 25, 3⟩
def Fd.SYS_EYIN_IN : Fd := ⟨Rg.SYS_EYIN, 0, 16⟩
def Fd.SYS_EYBANK_VSEL : Fd := ⟨Rg.SYS_EYBANK, 8, 8⟩
def Fd.SYS_EYBANK_IRQ : Fd := ⟨Rg.SYS_EYBANK, 0, 8⟩
def Fd.TONGUE_CFG_FWDTMO : Fd := ⟨Rg.TONGUE_CFG, 20, 8⟩
def Fd.TONGUE_STAT_VALID : Fd := ⟨Rg.TONGUE_STAT, 27, 1⟩
def Fd.TONGUE_STAT_OVF : Fd := ⟨Rg.TONGUE_STAT, 26, 1⟩
def Fd.TONGUE_STAT_SHERR : Fd := ⟨Rg.TONGUE_STAT, 25, 1⟩
def Fd.TONGUE_STAT_DOMAIN : Fd := ⟨Rg.TONGUE_STAT, 17, 8⟩
def Fd.TONGUE_STAT_OWNER : Fd := ⟨Rg.TONGUE_STAT, 13, 4⟩
def Fd.TONGUE_STAT_LATE : Fd := ⟨Rg.TONGUE_STAT, 0, 8⟩
def Fd.TONGUE_OWNIDX_ERR : Fd := ⟨Rg.TONGUE_OWNIDX, 27, 1⟩
def Fd.TONGUE_OWNIDX_INDEX : Fd := ⟨Rg.TONGUE_OWNIDX, 0, 8⟩
def Fd.TONGUE_A_RING_EN (n : Nat) : Fd := ⟨Rg.TONGUE_A_RING n, 27, 1⟩
def Fd.TONGUE_A_RING_BASE (n : Nat) : Fd := ⟨Rg.TONGUE_A_RING n, 0, 25⟩
def Fd.TONGUE_A_CPTR_ERR (n : Nat) : Fd := ⟨Rg.TONGUE_A_CPTR n, 27, 1⟩
def Fd.TONGUE_A_CPTR_CCONS (n : Nat) : Fd := ⟨Rg.TONGUE_A_CPTR n, 13, 13⟩
def Fd.TONGUE_A_CPTR_CPROD (n : Nat) : Fd := ⟨Rg.TONGUE_A_CPTR n, 0, 13⟩
def Fd.TONGUE_A_RPTR_BUSY (n : Nat) : Fd := ⟨Rg.TONGUE_A_RPTR n, 27, 1⟩
def Fd.TONGUE_A_RPTR_STALL (n : Nat) : Fd := ⟨Rg.TONGUE_A_RPTR n, 26, 1⟩
def Fd.TONGUE_A_RPTR_RPROD (n : Nat) : Fd := ⟨Rg.TONGUE_A_RPTR n, 13, 13⟩
def Fd.TONGUE_A_RPTR_RCONS (n : Nat) : Fd := ⟨Rg.TONGUE_A_RPTR n, 0, 13⟩
def Fd.SEC_BOOT_STATE : Fd := ⟨Rg.SEC_BOOT, 25, 3⟩
def Fd.SEC_BOOT_SRC : Fd := ⟨Rg.SEC_BOOT, 23, 2⟩
def Fd.SEC_BOOT_RECOVERY : Fd := ⟨Rg.SEC_BOOT, 22, 1⟩
def Fd.SEC_BOOT_SECONDARY : Fd := ⟨Rg.SEC_BOOT, 21, 1⟩
def Fd.SEC_BOOT_SLOT : Fd := ⟨Rg.SEC_BOOT, 19, 2⟩
def Fd.SEC_BOOT_RBVER : Fd := ⟨Rg.SEC_BOOT, 13, 6⟩
def Fd.SEC_BOOTERR_STATUS : Fd := ⟨Rg.SEC_BOOTERR, 20, 8⟩
def Fd.SEC_BOOTERR_DETAIL : Fd := ⟨Rg.SEC_BOOTERR, 12, 8⟩
def Fd.SEC_BOOTERR_ENTRY : Fd := ⟨Rg.SEC_BOOTERR, 7, 5⟩
def Fd.SEC_BOOTNAME_NAME : Fd := ⟨Rg.SEC_BOOTNAME, 0, 28⟩
def Fd.SEC_KEYSTAT_IDPROV : Fd := ⟨Rg.SEC_KEYSTAT, 27, 1⟩
def Fd.SEC_KEYSTAT_RBCOUNT : Fd := ⟨Rg.SEC_KEYSTAT, 21, 6⟩
def Fd.SEC_KEYSTAT_BAD : Fd := ⟨Rg.SEC_KEYSTAT, 16, 4⟩
def Fd.SEC_KEYSTAT_REVOKED : Fd := ⟨Rg.SEC_KEYSTAT, 12, 4⟩
def Fd.SEC_KEYSTAT_PROG : Fd := ⟨Rg.SEC_KEYSTAT, 8, 4⟩
def Fd.SEC_CFG_SPICLK : Fd := ⟨Rg.SEC_CFG, 26, 2⟩
def Fd.SEC_CFG_RECOV : Fd := ⟨Rg.SEC_CFG, 25, 1⟩
def Fd.SEC_CFG_SECOND : Fd := ⟨Rg.SEC_CFG, 24, 1⟩
def Fd.SEC_FUSECMD_GO : Fd := ⟨Rg.SEC_FUSECMD, 27, 1⟩
def Fd.SEC_FUSECMD_BUSY : Fd := ⟨Rg.SEC_FUSECMD, 26, 1⟩
def Fd.SEC_FUSECMD_ERR : Fd := ⟨Rg.SEC_FUSECMD, 25, 1⟩
def Fd.SEC_FUSECMD_DONE : Fd := ⟨Rg.SEC_FUSECMD, 24, 1⟩
def Fd.SEC_FUSECMD_OP : Fd := ⟨Rg.SEC_FUSECMD, 20, 2⟩
def Fd.SEC_FUSECMD_ARG : Fd := ⟨Rg.SEC_FUSECMD, 0, 6⟩
def Fd.SEC_FUSEADDR0_ADDRLO : Fd := ⟨Rg.SEC_FUSEADDR0, 0, 28⟩
def Fd.SEC_FUSEADDR1_ADDRHI : Fd := ⟨Rg.SEC_FUSEADDR1, 0, 12⟩
def Fd.SEC_VSTAT_BUSY : Fd := ⟨Rg.SEC_VSTAT, 27, 1⟩
def Fd.SEC_VSTAT_KIND : Fd := ⟨Rg.SEC_VSTAT, 25, 2⟩
def Fd.SEC_VSTAT_STATUS : Fd := ⟨Rg.SEC_VSTAT, 17, 8⟩
def Fd.SEC_VSTAT_DETAIL : Fd := ⟨Rg.SEC_VSTAT, 9, 8⟩
def Fd.SEC_UIDLO_UID : Fd := ⟨Rg.SEC_UIDLO, 0, 28⟩
def Fd.SEC_UIDMID_UID : Fd := ⟨Rg.SEC_UIDMID, 0, 28⟩
def Fd.SEC_UIDHI_UID : Fd := ⟨Rg.SEC_UIDHI, 0, 8⟩
def Fd.RST_CAUSE_BAKLOST : Fd := ⟨Rg.RST_CAUSE, 27, 1⟩
def Fd.RST_CAUSE_OSCFAIL : Fd := ⟨Rg.RST_CAUSE, 26, 1⟩
def Fd.RST_CAUSE_COLD : Fd := ⟨Rg.RST_CAUSE, 11, 1⟩
def Fd.RST_CAUSE_UNIT : Fd := ⟨Rg.RST_CAUSE, 10, 1⟩
def Fd.RST_CAUSE_PIN : Fd := ⟨Rg.RST_CAUSE, 9, 1⟩
def Fd.RST_CAUSE_CMDWARM : Fd := ⟨Rg.RST_CAUSE, 8, 1⟩
def Fd.RST_CAUSE_DEVWDT : Fd := ⟨Rg.RST_CAUSE, 7, 1⟩
def Fd.RST_CAUSE_SUPWARM : Fd := ⟨Rg.RST_CAUSE, 6, 1⟩
def Fd.RST_CAUSE_CMDCOLD : Fd := ⟨Rg.RST_CAUSE, 5, 1⟩
def Fd.RST_CAUSE_FATAL : Fd := ⟨Rg.RST_CAUSE, 4, 1⟩
def Fd.RST_CAUSE_SUPCOLD : Fd := ⟨Rg.RST_CAUSE, 3, 1⟩
def Fd.RST_CAUSE_POR : Fd := ⟨Rg.RST_CAUSE, 2, 1⟩
def Fd.RST_STRAP_FATALREACH : Fd := ⟨Rg.RST_STRAP, 6, 1⟩
def Fd.RST_STRAP_ROLE : Fd := ⟨Rg.RST_STRAP, 4, 2⟩
def Fd.RST_STRAP_CLKMODE : Fd := ⟨Rg.RST_STRAP, 2, 2⟩
def Fd.RST_STRAP_BOOTSRC : Fd := ⟨Rg.RST_STRAP, 0, 2⟩
def Fd.RST_BAKCNT_FATAL : Fd := ⟨Rg.RST_BAKCNT, 21, 7⟩
def Fd.RST_BAKCNT_WDT : Fd := ⟨Rg.RST_BAKCNT, 14, 7⟩
def Fd.RST_BAKCNT_POWER : Fd := ⟨Rg.RST_BAKCNT, 7, 7⟩
def Fd.RST_BAKCNT_EXT : Fd := ⟨Rg.RST_BAKCNT, 0, 7⟩
def Fd.PWR_SUPSTAT_LIVE : Fd := ⟨Rg.PWR_SUPSTAT, 11, 11⟩
def Fd.PWR_SUPSTAT_WARN : Fd := ⟨Rg.PWR_SUPSTAT, 0, 11⟩
def Fd.PWR_STATE_STATE : Fd := ⟨Rg.PWR_STATE, 25, 3⟩
def Fd.PWR_STATE_BUSY : Fd := ⟨Rg.PWR_STATE, 24, 1⟩
def Fd.PWR_STATE_ERR : Fd := ⟨Rg.PWR_STATE, 23, 1⟩
def Fd.PWR_STATE_WAKESRC : Fd := ⟨Rg.PWR_STATE, 20, 3⟩
def Fd.PWR_DOMREQ_REQ : Fd := ⟨Rg.PWR_DOMREQ, 0, 20⟩
def Fd.PWR_DOMON_ON : Fd := ⟨Rg.PWR_DOMON, 0, 20⟩
def Fd.PWR_WAKE_EWAKE : Fd := ⟨Rg.PWR_WAKE, 27, 1⟩
def Fd.PWR_WAKE_ALMEN : Fd := ⟨Rg.PWR_WAKE, 26, 1⟩
def Fd.PWR_WAKE_TCS : Fd := ⟨Rg.PWR_WAKE, 25, 1⟩
def Fd.PWR_WAKE_DBG : Fd := ⟨Rg.PWR_WAKE, 24, 1⟩
def Fd.PWR_WAKE_ALARM : Fd := ⟨Rg.PWR_WAKE, 0, 24⟩
def Fd.PWR_PACECTL_VREGADDR : Fd := ⟨Rg.PWR_PACECTL, 21, 7⟩
def Fd.PWR_PACECTL_I2CSEL : Fd := ⟨Rg.PWR_PACECTL, 19, 2⟩
def Fd.PWR_PACECTL_HOLD : Fd := ⟨Rg.PWR_PACECTL, 15, 4⟩
def Fd.PWR_PACECTL_SETTLE : Fd := ⟨Rg.PWR_PACECTL, 8, 7⟩
def Fd.PWR_PACECTL_PERIOD : Fd := ⟨Rg.PWR_PACECTL, 2, 6⟩
def Fd.PWR_PACECTL_SUBFLOOR : Fd := ⟨Rg.PWR_PACECTL, 1, 1⟩
def Fd.PWR_PACECTL_EN : Fd := ⟨Rg.PWR_PACECTL, 0, 1⟩
def Fd.PWR_PACETGT_DEADBAND : Fd := ⟨Rg.PWR_PACETGT, 22, 6⟩
def Fd.PWR_PACETGT_GUARD : Fd := ⟨Rg.PWR_PACETGT, 11, 11⟩
def Fd.PWR_PACETGT_TARGET : Fd := ⟨Rg.PWR_PACETGT, 0, 11⟩
def Fd.PWR_VLIMIT_VMAX : Fd := ⟨Rg.PWR_VLIMIT, 10, 10⟩
def Fd.PWR_VLIMIT_VMIN : Fd := ⟨Rg.PWR_VLIMIT, 0, 10⟩
def Fd.PWR_VSET_IDLE : Fd := ⟨Rg.PWR_VSET, 10, 10⟩
def Fd.PWR_VSET_VSET : Fd := ⟨Rg.PWR_VSET, 0, 10⟩
def Fd.PWR_PACESTAT_PMBERR : Fd := ⟨Rg.PWR_PACESTAT, 27, 1⟩
def Fd.PWR_PACESTAT_EMERG : Fd := ⟨Rg.PWR_PACESTAT, 26, 1⟩
def Fd.PWR_PACESTAT_BUSY : Fd := ⟨Rg.PWR_PACESTAT, 25, 1⟩
def Fd.PWR_PACESTAT_NOSRC : Fd := ⟨Rg.PWR_PACESTAT, 24, 1⟩
def Fd.PWR_PACESTAT_WSOLE : Fd := ⟨Rg.PWR_PACESTAT, 16, 4⟩
def Fd.PWR_PACESTAT_WORST : Fd := ⟨Rg.PWR_PACESTAT, 0, 12⟩
def Fd.PWR_PACEFUSE_DERATE : Fd := ⟨Rg.PWR_PACEFUSE, 16, 10⟩
def Fd.PWR_PACEFUSE_AWLFLOOR : Fd := ⟨Rg.PWR_PACEFUSE, 8, 8⟩
def Fd.PWR_PACEFUSE_FLOOR : Fd := ⟨Rg.PWR_PACEFUSE, 0, 8⟩
def Fd.PWR_TJ_MAXCLR : Fd := ⟨Rg.PWR_TJ, 27, 1⟩
def Fd.PWR_TJ_MAX : Fd := ⟨Rg.PWR_TJ, 12, 12⟩
def Fd.PWR_TJ_TJ : Fd := ⟨Rg.PWR_TJ, 0, 12⟩
def Fd.FLT_CTL_REPORTONLY : Fd := ⟨Rg.FLT_CTL, 27, 1⟩
def Fd.FLT_CTL_ERR : Fd := ⟨Rg.FLT_CTL, 26, 1⟩
def Fd.FLT_SUM_PIN : Fd := ⟨Rg.FLT_SUM, 27, 1⟩
def Fd.FLT_SUM_FULL : Fd := ⟨Rg.FLT_SUM, 26, 1⟩
def Fd.FLT_SUM_USED : Fd := ⟨Rg.FLT_SUM, 19, 7⟩
def Fd.FLT_SUM_SEQ : Fd := ⟨Rg.FLT_SUM, 11, 8⟩
def Fd.FLT_SUM_UNACK : Fd := ⟨Rg.FLT_SUM, 0, 5⟩
def Fd.FLT_LOST0_C2 : Fd := ⟨Rg.FLT_LOST0, 16, 8⟩
def Fd.FLT_LOST0_C1 : Fd := ⟨Rg.FLT_LOST0, 8, 8⟩
def Fd.FLT_LOST0_C0 : Fd := ⟨Rg.FLT_LOST0, 0, 8⟩
def Fd.FLT_LOST1_C4 : Fd := ⟨Rg.FLT_LOST1, 8, 8⟩
def Fd.FLT_LOST1_C3 : Fd := ⟨Rg.FLT_LOST1, 0, 8⟩
def Fd.FLT_UIDX_INDEX : Fd := ⟨Rg.FLT_UIDX, 0, 16⟩
def Fd.FLT_USTAT_STATUS : Fd := ⟨Rg.FLT_USTAT, 27, 1⟩
def Fd.FLT_USTAT_LIVE : Fd := ⟨Rg.FLT_USTAT, 26, 1⟩
def Fd.FLT_USTAT_FENCED : Fd := ⟨Rg.FLT_USTAT, 25, 1⟩
def Fd.FLT_USTAT_GRPFENCED : Fd := ⟨Rg.FLT_USTAT, 24, 1⟩
def Fd.FLT_USTAT_UNACK : Fd := ⟨Rg.FLT_USTAT, 19, 5⟩
def Fd.FLT_USTAT_LASTCODE : Fd := ⟨Rg.FLT_USTAT, 8, 8⟩
def Fd.FLT_ACK_ALL : Fd := ⟨Rg.FLT_ACK, 19, 1⟩
def Fd.FLT_ACK_CLASS : Fd := ⟨Rg.FLT_ACK, 16, 3⟩
def Fd.FLT_ACK_UNIT : Fd := ⟨Rg.FLT_ACK, 0, 16⟩
def Fd.FLT_FORCE0_CODE : Fd := ⟨Rg.FLT_FORCE0, 16, 8⟩
def Fd.FLT_FORCE0_UNIT : Fd := ⟨Rg.FLT_FORCE0, 0, 16⟩
def Fd.FLT_FORCE1_GO : Fd := ⟨Rg.FLT_FORCE1, 27, 1⟩
def Fd.FLT_FORCE1_CLASS : Fd := ⟨Rg.FLT_FORCE1, 24, 3⟩
def Fd.FLT_FORCE1_DETAIL : Fd := ⟨Rg.FLT_FORCE1, 0, 16⟩
def Fd.ICU_CTL_GDIS : Fd := ⟨Rg.ICU_CTL, 27, 1⟩
def Fd.ICU_GONECNT_COUNT : Fd := ⟨Rg.ICU_GONECNT, 0, 28⟩
def Fd.ICU_SRCIDX_ERR : Fd := ⟨Rg.ICU_SRCIDX, 27, 1⟩
def Fd.ICU_SRCIDX_INDEX : Fd := ⟨Rg.ICU_SRCIDX, 0, 9⟩
def Fd.ICU_PEND_PEND (n : Nat) : Fd := ⟨Rg.ICU_PEND n, 0, 24⟩
def Fd.ICU_GRP_HOLD_HELD (n : Nat) : Fd := ⟨Rg.ICU_GRP_HOLD n, 27, 1⟩
def Fd.ICU_GRP_HOLD_HOLD (n : Nat) : Fd := ⟨Rg.ICU_GRP_HOLD n, 0, 12⟩
def Fd.ICU_SWSET_SET : Fd := ⟨Rg.ICU_SWSET, 27, 1⟩
def Fd.ICU_SWSET_CLR : Fd := ⟨Rg.ICU_SWSET, 26, 1⟩
def Fd.ICU_SWSET_SRC : Fd := ⟨Rg.ICU_SWSET, 0, 6⟩
def Fd.ICU_TGT_CFG_VIDX (n : Nat) : Fd := ⟨Rg.ICU_TGT_CFG n, 16, 6⟩
def Fd.ICU_TGT_CFG_BP (n : Nat) : Fd := ⟨Rg.ICU_TGT_CFG n, 0, 3⟩
def Fd.ICU_TGT_CLAIM_VALID (n : Nat) : Fd := ⟨Rg.ICU_TGT_CLAIM n, 27, 1⟩
def Fd.ICU_TGT_CLAIM_SRC (n : Nat) : Fd := ⟨Rg.ICU_TGT_CLAIM n, 0, 9⟩
def Fd.ICU_TGT_EOI_SRC (n : Nat) : Fd := ⟨Rg.ICU_TGT_EOI n, 0, 9⟩
def Fd.ICU_TGT_STAT_ERR (n : Nat) : Fd := ⟨Rg.ICU_TGT_STAT n, 27, 1⟩
def Fd.ICU_TGT_STAT_DEPTH (n : Nat) : Fd := ⟨Rg.ICU_TGT_STAT n, 8, 5⟩
def Fd.ICU_TGT_STAT_RUNPRI (n : Nat) : Fd := ⟨Rg.ICU_TGT_STAT n, 0, 8⟩
def Fd.TIME_LO_COUNT : Fd := ⟨Rg.TIME_LO, 0, 28⟩
def Fd.TIME_HI_COUNT : Fd := ⟨Rg.TIME_HI, 0, 28⟩
def Fd.TIME_LDLO_LOAD : Fd := ⟨Rg.TIME_LDLO, 0, 28⟩
def Fd.TIME_LDHI_LOAD : Fd := ⟨Rg.TIME_LDHI, 0, 28⟩
def Fd.TIME_CMPIDX_INDEX : Fd := ⟨Rg.TIME_CMPIDX, 0, 5⟩
def Fd.TIME_CAPIDX_INDEX : Fd := ⟨Rg.TIME_CAPIDX, 0, 4⟩
def Fd.TIME_WD_CTL_EN (n : Nat) : Fd := ⟨Rg.TIME_WD_CTL n, 27, 1⟩
def Fd.TIME_WD_CTL_WARNEV (n : Nat) : Fd := ⟨Rg.TIME_WD_CTL n, 26, 1⟩
def Fd.TIME_WD_CTL_WARN (n : Nat) : Fd := ⟨Rg.TIME_WD_CTL n, 24, 2⟩
def Fd.TIME_WD_CTL_PERIOD (n : Nat) : Fd := ⟨Rg.TIME_WD_CTL n, 12, 12⟩
def Fd.TIME_WD_CTL_KEY (n : Nat) : Fd := ⟨Rg.TIME_WD_CTL n, 0, 12⟩
def Fd.TIME_WD_CNT_REMAIN (n : Nat) : Fd := ⟨Rg.TIME_WD_CNT n, 0, 28⟩
def Fd.EYE_WP_CFG_MODE (n : Nat) : Fd := ⟨Rg.EYE_WP_CFG n, 25, 3⟩
def Fd.EYE_WP_CFG_RATE (n : Nat) : Fd := ⟨Rg.EYE_WP_CFG n, 23, 2⟩
def Fd.EYE_WP_CFG_RATEMIN (n : Nat) : Fd := ⟨Rg.EYE_WP_CFG n, 21, 2⟩
def Fd.EYE_WP_CFG_SPARE (n : Nat) : Fd := ⟨Rg.EYE_WP_CFG n, 20, 1⟩
def Fd.EYE_WP_CFG_AUTOREMAP (n : Nat) : Fd := ⟨Rg.EYE_WP_CFG n, 19, 1⟩
def Fd.EYE_WP_CFG_FAILTHR (n : Nat) : Fd := ⟨Rg.EYE_WP_CFG n, 15, 4⟩
def Fd.EYE_WP_CFG_DPRATE (n : Nat) : Fd := ⟨Rg.EYE_WP_CFG n, 12, 3⟩
def Fd.EYE_WP_CFG_EDPILR (n : Nat) : Fd := ⟨Rg.EYE_WP_CFG n, 11, 1⟩
def Fd.EYE_WP_CFG_DPLANES (n : Nat) : Fd := ⟨Rg.EYE_WP_CFG n, 9, 2⟩
def Fd.EYE_WP_CFG_RETRAIN (n : Nat) : Fd := ⟨Rg.EYE_WP_CFG n, 8, 1⟩
def Fd.EYE_WP_CFG_MANREMAP (n : Nat) : Fd := ⟨Rg.EYE_WP_CFG n, 3, 1⟩
def Fd.EYE_WP_CFG_MLANE (n : Nat) : Fd := ⟨Rg.EYE_WP_CFG n, 1, 2⟩
def Fd.EYE_WP_CFG_LOOP (n : Nat) : Fd := ⟨Rg.EYE_WP_CFG n, 0, 1⟩
def Fd.EYE_WP_STAT_ERR (n : Nat) : Fd := ⟨Rg.EYE_WP_STAT n, 27, 1⟩
def Fd.EYE_WP_STAT_STATE (n : Nat) : Fd := ⟨Rg.EYE_WP_STAT n, 24, 3⟩
def Fd.EYE_WP_STAT_RATE (n : Nat) : Fd := ⟨Rg.EYE_WP_STAT n, 22, 2⟩
def Fd.EYE_WP_STAT_RXSPARE (n : Nat) : Fd := ⟨Rg.EYE_WP_STAT n, 20, 2⟩
def Fd.EYE_WP_STAT_TXSPARE (n : Nat) : Fd := ⟨Rg.EYE_WP_STAT n, 18, 2⟩
def Fd.EYE_WP_STAT_RXREMAP (n : Nat) : Fd := ⟨Rg.EYE_WP_STAT n, 17, 1⟩
def Fd.EYE_WP_STAT_TXREMAP (n : Nat) : Fd := ⟨Rg.EYE_WP_STAT n, 16, 1⟩
def Fd.EYE_WP_STAT_SPAREBAD (n : Nat) : Fd := ⟨Rg.EYE_WP_STAT n, 15, 1⟩
def Fd.EYE_WP_STAT_REFLOST (n : Nat) : Fd := ⟨Rg.EYE_WP_STAT n, 14, 1⟩
def Fd.EYE_WP_STAT_READY (n : Nat) : Fd := ⟨Rg.EYE_WP_STAT n, 13, 1⟩
def Fd.EYE_L_CFG_TXPAT (n : Nat) : Fd := ⟨Rg.EYE_L_CFG n, 25, 3⟩
def Fd.EYE_L_CFG_RXCHK (n : Nat) : Fd := ⟨Rg.EYE_L_CFG n, 22, 3⟩
def Fd.EYE_L_CFG_SQ (n : Nat) : Fd := ⟨Rg.EYE_L_CFG n, 19, 3⟩
def Fd.EYE_L_CFG_TXINV (n : Nat) : Fd := ⟨Rg.EYE_L_CFG n, 18, 1⟩
def Fd.EYE_L_CFG_RXINV (n : Nat) : Fd := ⟨Rg.EYE_L_CFG n, 17, 1⟩
def Fd.EYE_L_CFG_EQFRZ (n : Nat) : Fd := ⟨Rg.EYE_L_CFG n, 16, 1⟩
def Fd.EYE_L_CFG_TXPOST (n : Nat) : Fd := ⟨Rg.EYE_L_CFG n, 10, 6⟩
def Fd.EYE_L_CFG_TXPRE (n : Nat) : Fd := ⟨Rg.EYE_L_CFG n, 4, 6⟩
def Fd.EYE_L_CFG_TXAMP (n : Nat) : Fd := ⟨Rg.EYE_L_CFG n, 0, 4⟩
def Fd.EYE_L_STAT_LOCK (n : Nat) : Fd := ⟨Rg.EYE_L_STAT n, 27, 1⟩
def Fd.EYE_L_STAT_SYNC (n : Nat) : Fd := ⟨Rg.EYE_L_STAT n, 26, 1⟩
def Fd.EYE_L_STAT_SYNCLOSS (n : Nat) : Fd := ⟨Rg.EYE_L_STAT n, 25, 1⟩
def Fd.EYE_L_STAT_USE (n : Nat) : Fd := ⟨Rg.EYE_L_STAT n, 23, 2⟩
def Fd.EYE_L_STAT_CURPRE (n : Nat) : Fd := ⟨Rg.EYE_L_STAT n, 17, 6⟩
def Fd.EYE_L_STAT_CURPOST (n : Nat) : Fd := ⟨Rg.EYE_L_STAT n, 11, 6⟩
def Fd.EYE_L_STAT_CURAMP (n : Nat) : Fd := ⟨Rg.EYE_L_STAT n, 7, 4⟩
def Fd.EYE_L_ERR_ERRCNT (n : Nat) : Fd := ⟨Rg.EYE_L_ERR n, 0, 28⟩
def Fd.EYE_L_SCAN_START (n : Nat) : Fd := ⟨Rg.EYE_L_SCAN n, 27, 1⟩
def Fd.EYE_L_SCAN_BUSY (n : Nat) : Fd := ⟨Rg.EYE_L_SCAN n, 26, 1⟩
def Fd.EYE_L_SCAN_EYE (n : Nat) : Fd := ⟨Rg.EYE_L_SCAN n, 24, 2⟩
def Fd.EYE_L_SCAN_PHASE (n : Nat) : Fd := ⟨Rg.EYE_L_SCAN n, 18, 6⟩
def Fd.EYE_L_SCAN_VOFF (n : Nat) : Fd := ⟨Rg.EYE_L_SCAN n, 11, 7⟩
def Fd.EYE_L_SCAN_DWELL (n : Nat) : Fd := ⟨Rg.EYE_L_SCAN n, 8, 3⟩
def Fd.EYE_L_SCAN_RESULT (n : Nat) : Fd := ⟨Rg.EYE_L_SCAN n, 0, 8⟩
def Fd.DBG_CTL_RELOCK : Fd := ⟨Rg.DBG_CTL, 27, 1⟩
def Fd.DBG_CTL_SIDEFX : Fd := ⟨Rg.DBG_CTL, 26, 1⟩
def Fd.DBG_CTL_WELTRUN : Fd := ⟨Rg.DBG_CTL, 25, 1⟩
def Fd.DBG_STAT_UNLOCKED : Fd := ⟨Rg.DBG_STAT, 27, 1⟩
def Fd.DBG_STAT_DISABLED : Fd := ⟨Rg.DBG_STAT, 26, 1⟩
def Fd.DBG_STAT_DBGSLOTS : Fd := ⟨Rg.DBG_STAT, 22, 4⟩
def Fd.DBG_STAT_FAILS : Fd := ⟨Rg.DBG_STAT, 18, 4⟩
def Fd.DBG_STAT_USLOT : Fd := ⟨Rg.DBG_STAT, 16, 2⟩
def Fd.DBG_STAT_FRERR : Fd := ⟨Rg.DBG_STAT, 15, 1⟩
def Fd.DBG_RUN_HALT : Fd := ⟨Rg.DBG_RUN, 27, 1⟩
def Fd.DBG_RUN_RESUME : Fd := ⟨Rg.DBG_RUN, 26, 1⟩
def Fd.DBG_RUN_STEP : Fd := ⟨Rg.DBG_RUN, 25, 1⟩
def Fd.DBG_RUN_CORE : Fd := ⟨Rg.DBG_RUN, 23, 2⟩
def Fd.DBG_RUN_HALTREQ : Fd := ⟨Rg.DBG_RUN, 22, 1⟩
def Fd.DBG_RUN_HALTED : Fd := ⟨Rg.DBG_RUN, 21, 1⟩
def Fd.DBG_RUN_STEPDONE : Fd := ⟨Rg.DBG_RUN, 20, 1⟩
def Fd.DBG_RUN_STEPSTALL : Fd := ⟨Rg.DBG_RUN, 19, 1⟩
def Fd.DBG_RUN_HALTBRK : Fd := ⟨Rg.DBG_RUN, 18, 1⟩
def Fd.DBG_RUN_CAUSE : Fd := ⟨Rg.DBG_RUN, 14, 4⟩
def Fd.DBG_RUN_HCORE : Fd := ⟨Rg.DBG_RUN, 12, 2⟩
def Fd.DBG_RUN_HWP : Fd := ⟨Rg.DBG_RUN, 9, 3⟩
def Fd.DBG_RUN_ERR : Fd := ⟨Rg.DBG_RUN, 8, 1⟩
def Fd.DBG_ID_PART : Fd := ⟨Rg.DBG_ID, 12, 16⟩
def Fd.DBG_ID_STEPPING : Fd := ⟨Rg.DBG_ID, 4, 8⟩
def Fd.DBG_ID_VER : Fd := ⟨Rg.DBG_ID, 0, 4⟩
def Fd.DBG_WPIDX_KIND : Fd := ⟨Rg.DBG_WPIDX, 5, 1⟩
def Fd.DBG_WPIDX_CORE : Fd := ⟨Rg.DBG_WPIDX, 3, 2⟩
def Fd.DBG_WPIDX_NUM : Fd := ⟨Rg.DBG_WPIDX, 0, 3⟩
def Fd.DBG_HITLO_ADDRLO : Fd := ⟨Rg.DBG_HITLO, 0, 28⟩
def Fd.DBG_HITHI_BUS : Fd := ⟨Rg.DBG_HITHI, 27, 1⟩
def Fd.DBG_HITHI_WRITE : Fd := ⟨Rg.DBG_HITHI, 26, 1⟩
def Fd.DBG_HITHI_PCM : Fd := ⟨Rg.DBG_HITHI, 12, 14⟩
def Fd.DBG_HITHI_ADDRHI : Fd := ⟨Rg.DBG_HITHI, 0, 12⟩
def Fd.LAST_CTL_MINMARGIN : Fd := ⟨Rg.LAST_CTL, 0, 10⟩
def Fd.LAST_SLOTSTAT_STATE : Fd := ⟨Rg.LAST_SLOTSTAT, 0, 24⟩
def Fd.LAST_ADMITSTAT_SLOT : Fd := ⟨Rg.LAST_ADMITSTAT, 25, 3⟩
def Fd.LAST_ADMITSTAT_STATUS : Fd := ⟨Rg.LAST_ADMITSTAT, 17, 8⟩
def Fd.LAST_ADMITSTAT_DETAIL : Fd := ⟨Rg.LAST_ADMITSTAT, 12, 5⟩
def Fd.LAST_ADMITSTAT_HEAD : Fd := ⟨Rg.LAST_ADMITSTAT, 8, 4⟩
def Fd.LAST_ADMITSTAT_SOLE : Fd := ⟨Rg.LAST_ADMITSTAT, 4, 4⟩
def Fd.LAST_ADMITPOS_CLASS : Fd := ⟨Rg.LAST_ADMITPOS, 16, 12⟩
def Fd.LAST_ADMITPOS_INDEX : Fd := ⟨Rg.LAST_ADMITPOS, 0, 16⟩
def Fd.LAST_ADMITVAL_VALUE : Fd := ⟨Rg.LAST_ADMITVAL, 0, 28⟩
def Fd.LAST_ADMITLIM_VALUE : Fd := ⟨Rg.LAST_ADMITLIM, 0, 28⟩
def Fd.LAST_SLOTCAP_CAP : Fd := ⟨Rg.LAST_SLOTCAP, 0, 12⟩
def Fd.LAST_REMCFG_SVCNS : Fd := ⟨Rg.LAST_REMCFG, 16, 12⟩
def Fd.LAST_REMCFG_SERNS : Fd := ⟨Rg.LAST_REMCFG, 0, 10⟩
def Fd.LAST_SLOT_ID_NAME (n : Nat) : Fd := ⟨Rg.LAST_SLOT_ID n, 0, 28⟩
def Fd.LAST_HD_SEL_ERR (n : Nat) : Fd := ⟨Rg.LAST_HD_SEL n, 27, 1⟩
def Fd.LAST_HD_SEL_CUR (n : Nat) : Fd := ⟨Rg.LAST_HD_SEL n, 24, 3⟩
def Fd.LAST_HD_SEL_CURV (n : Nat) : Fd := ⟨Rg.LAST_HD_SEL n, 23, 1⟩
def Fd.LAST_HD_SEL_NEXTEN (n : Nat) : Fd := ⟨Rg.LAST_HD_SEL n, 3, 1⟩
def Fd.LAST_HD_SEL_NEXT (n : Nat) : Fd := ⟨Rg.LAST_HD_SEL n, 0, 3⟩
def Fd.LAST_HD_CLIP_SPRITE (n : Nat) : Fd := ⟨Rg.LAST_HD_CLIP n, 21, 7⟩
def Fd.LAST_HD_CLIP_LLIST (n : Nat) : Fd := ⟨Rg.LAST_HD_CLIP n, 14, 7⟩
def Fd.LAST_HD_CLIP_FETCH (n : Nat) : Fd := ⟨Rg.LAST_HD_CLIP n, 7, 7⟩
def Fd.LAST_HD_CLIP_REMOTE (n : Nat) : Fd := ⟨Rg.LAST_HD_CLIP n, 0, 7⟩
def Fd.FETCH_POOL_LIMIT (n : Nat) : Fd := ⟨Rg.FETCH_POOL n, 11, 11⟩
def Fd.FETCH_POOL_RSV (n : Nat) : Fd := ⟨Rg.FETCH_POOL n, 0, 11⟩
def Fd.FETCH_POOL_STAT_ERR (n : Nat) : Fd := ⟨Rg.FETCH_POOL_STAT n, 27, 1⟩
def Fd.FETCH_POOL_STAT_PKCLR (n : Nat) : Fd := ⟨Rg.FETCH_POOL_STAT n, 26, 1⟩
def Fd.FETCH_POOL_STAT_PEAK (n : Nat) : Fd := ⟨Rg.FETCH_POOL_STAT n, 11, 11⟩
def Fd.FETCH_POOL_STAT_HELD (n : Nat) : Fd := ⟨Rg.FETCH_POOL_STAT n, 0, 11⟩
def Fd.FETCH_SL_STAT_PKCLR (n : Nat) : Fd := ⟨Rg.FETCH_SL_STAT n, 27, 1⟩
def Fd.FETCH_SL_STAT_PEAK (n : Nat) : Fd := ⟨Rg.FETCH_SL_STAT n, 18, 9⟩
def Fd.FETCH_SL_STAT_HELD (n : Nat) : Fd := ⟨Rg.FETCH_SL_STAT n, 9, 9⟩
def Fd.FETCH_SL_LAT_MAXCLR (n : Nat) : Fd := ⟨Rg.FETCH_SL_LAT n, 27, 1⟩
def Fd.FETCH_SL_LAT_MAX (n : Nat) : Fd := ⟨Rg.FETCH_SL_LAT n, 19, 8⟩
def Fd.FETCH_SL_LAT_OVER (n : Nat) : Fd := ⟨Rg.FETCH_SL_LAT n, 0, 19⟩
def Fd.FETCH_SL_LINE_PKCLR (n : Nat) : Fd := ⟨Rg.FETCH_SL_LINE n, 27, 1⟩
def Fd.FETCH_SL_LINE_PEAKG (n : Nat) : Fd := ⟨Rg.FETCH_SL_LINE n, 0, 20⟩
def Fd.MEM_CFG_CHEN : Fd := ⟨Rg.MEM_CFG, 22, 6⟩
def Fd.MEM_CFG_MAP : Fd := ⟨Rg.MEM_CFG, 21, 1⟩
def Fd.MEM_CFG_CLAM : Fd := ⟨Rg.MEM_CFG, 20, 1⟩
def Fd.MEM_CFG_DENS : Fd := ⟨Rg.MEM_CFG, 18, 2⟩
def Fd.MEM_CFG_RATE : Fd := ⟨Rg.MEM_CFG, 16, 2⟩
def Fd.MEM_CFG_RATEMIN : Fd := ⟨Rg.MEM_CFG, 14, 2⟩
def Fd.MEM_CFG_RETRAIN : Fd := ⟨Rg.MEM_CFG, 6, 8⟩
def Fd.MEM_CTL_TRAIN : Fd := ⟨Rg.MEM_CTL, 27, 1⟩
def Fd.MEM_STAT_READY : Fd := ⟨Rg.MEM_STAT, 27, 1⟩
def Fd.MEM_STAT_CFGERR : Fd := ⟨Rg.MEM_STAT, 26, 1⟩
def Fd.MEM_STAT_TRAINFAIL : Fd := ⟨Rg.MEM_STAT, 25, 1⟩
def Fd.MEM_STAT_MAPLIN : Fd := ⟨Rg.MEM_STAT, 24, 1⟩
def Fd.MEM_STAT_CHEFF : Fd := ⟨Rg.MEM_STAT, 18, 6⟩
def Fd.MEM_STAT_CAPU : Fd := ⟨Rg.MEM_STAT, 0, 11⟩
def Fd.MEM_ECCSTAT_CECNT : Fd := ⟨Rg.MEM_ECCSTAT, 17, 11⟩
def Fd.MEM_ECCSTAT_UECNT : Fd := ⟨Rg.MEM_ECCSTAT, 6, 11⟩
def Fd.MEM_ECCSTAT_VALID : Fd := ⟨Rg.MEM_ECCSTAT, 5, 1⟩
def Fd.MEM_ECCSTAT_OVF : Fd := ⟨Rg.MEM_ECCSTAT, 4, 1⟩
def Fd.MEM_ECCSTAT_UE : Fd := ⟨Rg.MEM_ECCSTAT, 3, 1⟩
def Fd.MEM_ECCADDR0_ADDRLO : Fd := ⟨Rg.MEM_ECCADDR0, 0, 28⟩
def Fd.MEM_ECCADDR1_MASTER : Fd := ⟨Rg.MEM_ECCADDR1, 12, 5⟩
def Fd.MEM_ECCADDR1_ADDRHI : Fd := ⟨Rg.MEM_ECCADDR1, 0, 12⟩
def Fd.MEM_CH_STAT_STATE (n : Nat) : Fd := ⟨Rg.MEM_CH_STAT n, 25, 3⟩
def Fd.MEM_CH_STAT_RATE (n : Nat) : Fd := ⟨Rg.MEM_CH_STAT n, 23, 2⟩
def Fd.MEM_CH_STAT_HOT (n : Nat) : Fd := ⟨Rg.MEM_CH_STAT n, 22, 1⟩
def Fd.MEM_CH_ERR_RETRY (n : Nat) : Fd := ⟨Rg.MEM_CH_ERR n, 14, 14⟩
def Fd.MEM_CH_ERR_FAIL (n : Nat) : Fd := ⟨Rg.MEM_CH_ERR n, 0, 14⟩
def Fd.MEM_CH_TRAIN_RDEYE (n : Nat) : Fd := ⟨Rg.MEM_CH_TRAIN n, 20, 8⟩
def Fd.MEM_CH_TRAIN_WREYE (n : Nat) : Fd := ⟨Rg.MEM_CH_TRAIN n, 12, 8⟩
def Fd.MEM_CH_TRAIN_TRIES (n : Nat) : Fd := ⟨Rg.MEM_CH_TRAIN n, 8, 4⟩
def Fd.MEM_ECC_EN (n : Nat) : Fd := ⟨Rg.MEM_ECC n, 27, 1⟩
def Fd.MEM_ECC_BUSY (n : Nat) : Fd := ⟨Rg.MEM_ECC n, 26, 1⟩
def Fd.MEM_ECC_BASE (n : Nat) : Fd := ⟨Rg.MEM_ECC n, 13, 11⟩
def Fd.MEM_ECC_SIZE (n : Nat) : Fd := ⟨Rg.MEM_ECC n, 0, 11⟩
def Fd.SL_PACE_MINCLR (n : Nat) : Fd := ⟨Rg.SL_PACE n, 27, 1⟩
def Fd.SL_PACE_MINPACE (n : Nat) : Fd := ⟨Rg.SL_PACE n, 14, 13⟩
def Fd.SL_PACE_PACE (n : Nat) : Fd := ⟨Rg.SL_PACE n, 0, 14⟩
def Fd.SL_SLACK_MINCLR (n : Nat) : Fd := ⟨Rg.SL_SLACK n, 27, 1⟩
def Fd.SL_SLACK_MIN (n : Nat) : Fd := ⟨Rg.SL_SLACK n, 12, 12⟩
def Fd.SL_SLACK_LAST (n : Nat) : Fd := ⟨Rg.SL_SLACK n, 0, 12⟩
def Fd.SL_SLACKCNT_COUNT (n : Nat) : Fd := ⟨Rg.SL_SLACKCNT n, 0, 28⟩
def Fd.HD_HTIME_HTOTAL (n : Nat) : Fd := ⟨Rg.HD_HTIME n, 14, 14⟩
def Fd.HD_HTIME_HACTIVE (n : Nat) : Fd := ⟨Rg.HD_HTIME n, 0, 14⟩
def Fd.HD_VTIME_VTOTAL (n : Nat) : Fd := ⟨Rg.HD_VTIME n, 14, 14⟩
def Fd.HD_VTIME_VACTIVE (n : Nat) : Fd := ⟨Rg.HD_VTIME n, 0, 14⟩
def Fd.HD_START_HSTART (n : Nat) : Fd := ⟨Rg.HD_START n, 14, 14⟩
def Fd.HD_START_VSTART (n : Nat) : Fd := ⟨Rg.HD_START n, 0, 14⟩
def Fd.HD_PCLK_VSW (n : Nat) : Fd := ⟨Rg.HD_PCLK n, 22, 6⟩
def Fd.HD_PCLK_PCLK_KHZ (n : Nat) : Fd := ⟨Rg.HD_PCLK n, 0, 22⟩
def Fd.HD_CTL_HSW (n : Nat) : Fd := ⟨Rg.HD_CTL n, 18, 10⟩
def Fd.HD_CTL_HPOL (n : Nat) : Fd := ⟨Rg.HD_CTL n, 17, 1⟩
def Fd.HD_CTL_VPOL (n : Nat) : Fd := ⟨Rg.HD_CTL n, 16, 1⟩
def Fd.HD_CTL_RUN (n : Nat) : Fd := ⟨Rg.HD_CTL n, 15, 1⟩
def Fd.HD_CTL_SRC (n : Nat) : Fd := ⟨Rg.HD_CTL n, 13, 2⟩
def Fd.HD_CTL_FSEL (n : Nat) : Fd := ⟨Rg.HD_CTL n, 11, 2⟩
def Fd.HD_CTL_FEDGE (n : Nat) : Fd := ⟨Rg.HD_CTL n, 10, 1⟩
def Fd.HD_CTL_OUT (n : Nat) : Fd := ⟨Rg.HD_CTL n, 8, 2⟩
def Fd.HD_CTL_PORT (n : Nat) : Fd := ⟨Rg.HD_CTL n, 5, 3⟩
def Fd.HD_CTL_MISCLS (n : Nat) : Fd := ⟨Rg.HD_CTL n, 4, 1⟩
def Fd.HD_CTL_OBPC (n : Nat) : Fd := ⟨Rg.HD_CTL n, 2, 2⟩
def Fd.HD_STAT_LOCK (n : Nat) : Fd := ⟨Rg.HD_STAT n, 26, 2⟩
def Fd.HD_STAT_LOSS (n : Nat) : Fd := ⟨Rg.HD_STAT n, 25, 1⟩
def Fd.HD_STAT_URCLR (n : Nat) : Fd := ⟨Rg.HD_STAT n, 24, 1⟩
def Fd.HD_STAT_CTLERR (n : Nat) : Fd := ⟨Rg.HD_STAT n, 23, 1⟩
def Fd.HD_STAT_URCNT (n : Nat) : Fd := ⟨Rg.HD_STAT n, 16, 7⟩
def Fd.HD_STAT_MISMATCH (n : Nat) : Fd := ⟨Rg.HD_STAT n, 0, 16⟩
def Fd.HD_FRAME_FRAMELO (n : Nat) : Fd := ⟨Rg.HD_FRAME n, 0, 28⟩
def Fd.HD_FRAMEHI_FRAMEHI (n : Nat) : Fd := ⟨Rg.HD_FRAMEHI n, 0, 28⟩
def Fd.HD_BG0_R (n : Nat) : Fd := ⟨Rg.HD_BG0 n, 14, 14⟩
def Fd.HD_BG0_G (n : Nat) : Fd := ⟨Rg.HD_BG0 n, 0, 14⟩
def Fd.HD_BG1_A (n : Nat) : Fd := ⟨Rg.HD_BG1 n, 14, 14⟩
def Fd.HD_BG1_B (n : Nat) : Fd := ⟨Rg.HD_BG1 n, 0, 14⟩
def Fd.HD_OUTLUT_POSTBANK (n : Nat) : Fd := ⟨Rg.HD_OUTLUT n, 1, 1⟩
def Fd.HD_OUTLUT_POSTEN (n : Nat) : Fd := ⟨Rg.HD_OUTLUT n, 0, 1⟩
def Fd.HD_MARK_MARK (n : Nat) : Fd := ⟨Rg.HD_MARK n, 0, 4⟩
def Fd.HD_LLSEL_CEN (n : Nat) : Fd := ⟨Rg.HD_LLSEL n, 9, 1⟩
def Fd.HD_LLSEL_CBANK (n : Nat) : Fd := ⟨Rg.HD_LLSEL n, 5, 4⟩
def Fd.HD_LLSEL_EN (n : Nat) : Fd := ⟨Rg.HD_LLSEL n, 4, 1⟩
def Fd.HD_LLSEL_BANK (n : Nat) : Fd := ⟨Rg.HD_LLSEL n, 0, 4⟩
def Fd.HD_LLSTAT_LOST (n : Nat) : Fd := ⟨Rg.HD_LLSTAT n, 14, 7⟩
def Fd.HD_LLSTAT_LATE (n : Nat) : Fd := ⟨Rg.HD_LLSTAT n, 7, 7⟩
def Fd.HD_LLSTAT_BADENT (n : Nat) : Fd := ⟨Rg.HD_LLSTAT n, 0, 7⟩
def Fd.HD_COMMIT_LATEARM (n : Nat) : Fd := ⟨Rg.HD_COMMIT n, 25, 1⟩
def Fd.HD_COMMIT_PEND (n : Nat) : Fd := ⟨Rg.HD_COMMIT n, 24, 1⟩
def Fd.HD_COMMIT_APPFRAME (n : Nat) : Fd := ⟨Rg.HD_COMMIT n, 0, 24⟩
def Fd.HD_LAYATTR_ATTR4 (n : Nat) (k : Nat) : Fd := ⟨Rg.HD_LAYATTR n k, 20, 5⟩
def Fd.HD_LAYATTR_ATTR3 (n : Nat) (k : Nat) : Fd := ⟨Rg.HD_LAYATTR n k, 15, 5⟩
def Fd.HD_LAYATTR_ATTR2 (n : Nat) (k : Nat) : Fd := ⟨Rg.HD_LAYATTR n k, 10, 5⟩
def Fd.HD_LAYATTR_ATTR1 (n : Nat) (k : Nat) : Fd := ⟨Rg.HD_LAYATTR n k, 5, 5⟩
def Fd.HD_LAYATTR_ATTR0 (n : Nat) (k : Nat) : Fd := ⟨Rg.HD_LAYATTR n k, 0, 5⟩
def Fd.HD_LAYATTR6_OCCEN (n : Nat) : Fd := ⟨Rg.HD_LAYATTR6 n, 11, 1⟩
def Fd.HD_LAYATTR6_PRIMODE (n : Nat) : Fd := ⟨Rg.HD_LAYATTR6 n, 10, 1⟩
def Fd.HD_LAYATTR6_ATTR1 (n : Nat) : Fd := ⟨Rg.HD_LAYATTR6 n, 5, 5⟩
def Fd.HD_LAYATTR6_ATTR0 (n : Nat) : Fd := ⟨Rg.HD_LAYATTR6 n, 0, 5⟩
def Fd.HD_WBBASE_ADDR (n : Nat) : Fd := ⟨Rg.HD_WBBASE n, 0, 28⟩
def Fd.HD_WBCTL_EN (n : Nat) : Fd := ⟨Rg.HD_WBCTL n, 27, 1⟩
def Fd.HD_WBCTL_TAP (n : Nat) : Fd := ⟨Rg.HD_WBCTL n, 26, 1⟩
def Fd.HD_WBCTL_FMT (n : Nat) : Fd := ⟨Rg.HD_WBCTL n, 24, 2⟩
def Fd.HD_WBCTL_EVERY (n : Nat) : Fd := ⟨Rg.HD_WBCTL n, 21, 3⟩
def Fd.HD_WBCTL_DONE (n : Nat) : Fd := ⟨Rg.HD_WBCTL n, 20, 1⟩
def Fd.HD_WBCTL_DROP (n : Nat) : Fd := ⟨Rg.HD_WBCTL n, 19, 1⟩
def Fd.HD_WBCTL_BUSY (n : Nat) : Fd := ⟨Rg.HD_WBCTL n, 18, 1⟩
def Fd.HD_WBCTL_PITCH (n : Nat) : Fd := ⟨Rg.HD_WBCTL n, 0, 14⟩
def Fd.LC_CTL_EN (n : Nat) : Fd := ⟨Rg.LC_CTL n, 27, 1⟩
def Fd.LC_CTL_KIND (n : Nat) : Fd := ⟨Rg.LC_CTL n, 24, 3⟩
def Fd.LC_CTL_FMT (n : Nat) : Fd := ⟨Rg.LC_CTL n, 20, 4⟩
def Fd.LC_CTL_TSIZE (n : Nat) : Fd := ⟨Rg.LC_CTL n, 18, 2⟩
def Fd.LC_CTL_MAPW (n : Nat) : Fd := ⟨Rg.LC_CTL n, 16, 2⟩
def Fd.LC_CTL_MAPH (n : Nat) : Fd := ⟨Rg.LC_CTL n, 14, 2⟩
def Fd.LC_CTL_PREMUL (n : Nat) : Fd := ⟨Rg.LC_CTL n, 13, 1⟩
def Fd.LC_CTL_PRELUT (n : Nat) : Fd := ⟨Rg.LC_CTL n, 12, 1⟩
def Fd.LC_CTL_ALPHA (n : Nat) : Fd := ⟨Rg.LC_CTL n, 4, 8⟩
def Fd.LC_BASE_ADDR (n : Nat) : Fd := ⟨Rg.LC_BASE n, 0, 28⟩
def Fd.LC_AUX_TBASE (n : Nat) : Fd := ⟨Rg.LC_AUX n, 0, 28⟩
def Fd.LC_POS_SCROLLY (n : Nat) : Fd := ⟨Rg.LC_POS n, 14, 14⟩
def Fd.LC_POS_SCROLLX (n : Nat) : Fd := ⟨Rg.LC_POS n, 0, 14⟩
def Fd.WELT_ID_DEVID : Fd := ⟨Rg.WELT_ID, 0, 11⟩
def Fd.WELT_TRUST_EFF : Fd := ⟨Rg.WELT_TRUST, 16, 8⟩
def Fd.WELT_TRUST_FUSE : Fd := ⟨Rg.WELT_TRUST, 8, 8⟩
def Fd.WELT_TRUST_DISTRUST : Fd := ⟨Rg.WELT_TRUST, 0, 8⟩
def Fd.WELT_APCFG_EN : Fd := ⟨Rg.WELT_APCFG, 27, 1⟩
def Fd.WELT_APCFG_RO : Fd := ⟨Rg.WELT_APCFG, 26, 1⟩
def Fd.WELT_APCFG_BASE : Fd := ⟨Rg.WELT_APCFG, 0, 12⟩
def Fd.WELT_TIMECTL_MASTER : Fd := ⟨Rg.WELT_TIMECTL, 27, 1⟩
def Fd.WELT_TIMECTL_UPEN : Fd := ⟨Rg.WELT_TIMECTL, 26, 1⟩
def Fd.WELT_TIMECTL_UPPORT : Fd := ⟨Rg.WELT_TIMECTL, 23, 3⟩
def Fd.WELT_TIMECTL_DOWNEN : Fd := ⟨Rg.WELT_TIMECTL, 15, 8⟩
def Fd.WELT_TIMESTAT_STATE : Fd := ⟨Rg.WELT_TIMESTAT, 26, 2⟩
def Fd.WELT_TIMESTAT_STEP : Fd := ⟨Rg.WELT_TIMESTAT, 25, 1⟩
def Fd.WELT_TIMESTAT_TLOSS : Fd := ⟨Rg.WELT_TIMESTAT, 24, 1⟩
def Fd.WELT_TIMESTAT_HOPS : Fd := ⟨Rg.WELT_TIMESTAT, 19, 5⟩
def Fd.WELT_TIMESTAT_OFFSET : Fd := ⟨Rg.WELT_TIMESTAT, 0, 17⟩
def Fd.WELT_EPOCHLO_EPOCH : Fd := ⟨Rg.WELT_EPOCHLO, 0, 28⟩
def Fd.WELT_EPOCHHI_EPOCH : Fd := ⟨Rg.WELT_EPOCHHI, 0, 28⟩
def Fd.WELT_RTIDX_INDEX : Fd := ⟨Rg.WELT_RTIDX, 0, 11⟩
def Fd.WELT_FCIDX_ERR : Fd := ⟨Rg.WELT_FCIDX, 27, 1⟩
def Fd.WELT_FCIDX_INDEX : Fd := ⟨Rg.WELT_FCIDX, 0, 11⟩
def Fd.WELT_TSCFG_TIMEOUT : Fd := ⟨Rg.WELT_TSCFG, 0, 12⟩
def Fd.WELT_HD_OFS_OFS (n : Nat) : Fd := ⟨Rg.WELT_HD_OFS n, 0, 28⟩
def Fd.WELT_PRX_BASE_ADDR (n : Nat) : Fd := ⟨Rg.WELT_PRX_BASE n, 0, 28⟩
def Fd.WELT_PRX_CFG_EN (n : Nat) : Fd := ⟨Rg.WELT_PRX_CFG n, 27, 1⟩
def Fd.WELT_PRX_CFG_FMT (n : Nat) : Fd := ⟨Rg.WELT_PRX_CFG n, 26, 1⟩
def Fd.WELT_PRX_CFG_HEAD (n : Nat) : Fd := ⟨Rg.WELT_PRX_CFG n, 22, 4⟩
def Fd.WELT_PRX_CFG_MISS (n : Nat) : Fd := ⟨Rg.WELT_PRX_CFG n, 20, 2⟩
def Fd.WELT_PRX_CFG_PITCH (n : Nat) : Fd := ⟨Rg.WELT_PRX_CFG n, 0, 14⟩
def Fd.WELT_PRX_LC_BANEN (n : Nat) : Fd := ⟨Rg.WELT_PRX_LC n, 27, 1⟩
def Fd.WELT_PRX_LC_BANNER (n : Nat) : Fd := ⟨Rg.WELT_PRX_LC n, 10, 10⟩
def Fd.WELT_PRX_LC_PIC (n : Nat) : Fd := ⟨Rg.WELT_PRX_LC n, 0, 10⟩
def Fd.WELT_PRX_STAT_STATE (n : Nat) : Fd := ⟨Rg.WELT_PRX_STAT n, 26, 2⟩
def Fd.WELT_PRX_STAT_OVR (n : Nat) : Fd := ⟨Rg.WELT_PRX_STAT n, 25, 1⟩
def Fd.WELT_PRX_STAT_LOSTEV (n : Nat) : Fd := ⟨Rg.WELT_PRX_STAT n, 24, 1⟩
def Fd.WELT_PRX_STAT_MISSCNT (n : Nat) : Fd := ⟨Rg.WELT_PRX_STAT n, 16, 8⟩
def Fd.WELT_PRX_STAT_LINE (n : Nat) : Fd := ⟨Rg.WELT_PRX_STAT n, 0, 16⟩
def Fd.WELT_WP_CNT_COUNT (n : Nat) (k : Nat) : Fd := ⟨Rg.WELT_WP_CNT n k, 0, 28⟩
def Fd.PCIE_CTL_WINBASE : Fd := ⟨Rg.PCIE_CTL, 16, 12⟩
def Fd.PCIE_CTL_SRIS : Fd := ⟨Rg.PCIE_CTL, 12, 1⟩
def Fd.PCIE_CTL_MAXGEN : Fd := ⟨Rg.PCIE_CTL, 9, 3⟩
def Fd.PCIE_CTL_MAXW : Fd := ⟨Rg.PCIE_CTL, 7, 2⟩
def Fd.PCIE_STAT_LINKUP : Fd := ⟨Rg.PCIE_STAT, 27, 1⟩
def Fd.PCIE_STAT_GEN : Fd := ⟨Rg.PCIE_STAT, 24, 3⟩
def Fd.PCIE_STAT_WIDTH : Fd := ⟨Rg.PCIE_STAT, 22, 2⟩
def Fd.PCIE_STAT_PERST : Fd := ⟨Rg.PCIE_STAT, 21, 1⟩
def Fd.PCIE_STAT_DLDOWN : Fd := ⟨Rg.PCIE_STAT, 20, 1⟩
def Fd.PCIE_MBRING_EN : Fd := ⟨Rg.PCIE_MBRING, 27, 1⟩
def Fd.PCIE_MBRING_BASE : Fd := ⟨Rg.PCIE_MBRING, 0, 25⟩
def Fd.PCIE_MBCPTR_ERR : Fd := ⟨Rg.PCIE_MBCPTR, 27, 1⟩
def Fd.PCIE_MBCPTR_CCONS : Fd := ⟨Rg.PCIE_MBCPTR, 13, 13⟩
def Fd.PCIE_MBCPTR_CPROD : Fd := ⟨Rg.PCIE_MBCPTR, 0, 13⟩
def Fd.PCIE_MBRPTR_BUSY : Fd := ⟨Rg.PCIE_MBRPTR, 27, 1⟩
def Fd.PCIE_MBRPTR_STALL : Fd := ⟨Rg.PCIE_MBRPTR, 26, 1⟩
def Fd.PCIE_MBRPTR_RPROD : Fd := ⟨Rg.PCIE_MBRPTR, 13, 13⟩
def Fd.PCIE_MBRPTR_RCONS : Fd := ⟨Rg.PCIE_MBRPTR, 0, 13⟩
def Fd.PCIE_MBCFG_IRQEN : Fd := ⟨Rg.PCIE_MBCFG, 27, 1⟩
def Fd.PCIE_MBCFG_VEC : Fd := ⟨Rg.PCIE_MBCFG, 0, 6⟩
def Fd.PCIE_MBPKT_COUNT : Fd := ⟨Rg.PCIE_MBPKT, 0, 28⟩
def Fd.PCIE_MBRPL_COUNT : Fd := ⟨Rg.PCIE_MBRPL, 0, 28⟩
def Fd.DP_WP_STAT_HPD (n : Nat) : Fd := ⟨Rg.DP_WP_STAT n, 27, 1⟩
def Fd.DP_WP_STAT_TRAINED (n : Nat) : Fd := ⟨Rg.DP_WP_STAT n, 26, 1⟩
def Fd.DP_WP_STAT_RATE (n : Nat) : Fd := ⟨Rg.DP_WP_STAT n, 23, 3⟩
def Fd.DP_WP_STAT_LANES (n : Nat) : Fd := ⟨Rg.DP_WP_STAT n, 21, 2⟩
def Fd.DP_WP_STAT_NOFIT (n : Nat) : Fd := ⟨Rg.DP_WP_STAT n, 20, 1⟩
def Fd.DP_WP_STAT_TRFAIL (n : Nat) : Fd := ⟨Rg.DP_WP_STAT n, 19, 1⟩
def Fd.DP_WP_STAT_IRQHPD (n : Nat) : Fd := ⟨Rg.DP_WP_STAT n, 18, 1⟩
def Fd.DP_WP_STAT_ILRUSE (n : Nat) : Fd := ⟨Rg.DP_WP_STAT n, 17, 1⟩
def Fd.DP_WP_STAT_ILRIDX (n : Nat) : Fd := ⟨Rg.DP_WP_STAT n, 14, 3⟩
def Fd.AWL_CFG_VBASE (n : Nat) : Fd := ⟨Rg.AWL_CFG n, 14, 14⟩
def Fd.AWL_CFG_XB (n : Nat) : Fd := ⟨Rg.AWL_CFG n, 8, 6⟩
def Fd.AWL_CFG_AMODE (n : Nat) : Fd := ⟨Rg.AWL_CFG n, 0, 1⟩
def Fd.AWL_STAT_STATE (n : Nat) : Fd := ⟨Rg.AWL_STAT n, 25, 3⟩
def Fd.AWL_STAT_IE (n : Nat) : Fd := ⟨Rg.AWL_STAT n, 24, 1⟩
def Fd.AWL_STAT_LOCKED (n : Nat) : Fd := ⟨Rg.AWL_STAT n, 23, 1⟩
def Fd.AWL_STAT_LOCKBRK (n : Nat) : Fd := ⟨Rg.AWL_STAT n, 22, 1⟩
def Fd.AWL_STAT_FLAGS (n : Nat) : Fd := ⟨Rg.AWL_STAT n, 0, 5⟩
def Fd.AWL_PC_PC (n : Nat) : Fd := ⟨Rg.AWL_PC n, 0, 14⟩
def Fd.AWL_ISP_ISP (n : Nat) : Fd := ⟨Rg.AWL_ISP n, 0, 17⟩
def Fd.AWL_ISPLIM_ISPLIM (n : Nat) : Fd := ⟨Rg.AWL_ISPLIM n, 0, 16⟩
def Fd.AWL_EINFO_VEC (n : Nat) : Fd := ⟨Rg.AWL_EINFO n, 25, 3⟩
def Fd.AWL_EINFO_GOT (n : Nat) : Fd := ⟨Rg.AWL_EINFO n, 21, 2⟩
def Fd.AWL_EINFO_OPER (n : Nat) : Fd := ⟨Rg.AWL_EINFO n, 17, 4⟩
def Fd.AWL_EINFO_EPC (n : Nat) : Fd := ⟨Rg.AWL_EINFO n, 0, 14⟩
def Fd.AWL_LOCK_HELD : Fd := ⟨Rg.AWL_LOCK, 2, 1⟩
def Fd.AWL_LOCK_CORE : Fd := ⟨Rg.AWL_LOCK, 0, 2⟩
def Fd.AWL_PACE_MINCLR (n : Nat) : Fd := ⟨Rg.AWL_PACE n, 27, 1⟩
def Fd.AWL_PACE_MINPACE (n : Nat) : Fd := ⟨Rg.AWL_PACE n, 14, 13⟩
def Fd.AWL_PACE_PACE (n : Nat) : Fd := ⟨Rg.AWL_PACE n, 0, 14⟩
def Fd.LACE_CH_CTL_GO (n : Nat) : Fd := ⟨Rg.LACE_CH_CTL n, 27, 1⟩
def Fd.LACE_CH_CTL_ABORT (n : Nat) : Fd := ⟨Rg.LACE_CH_CTL n, 26, 1⟩
def Fd.LACE_CH_CTL_PRI (n : Nat) : Fd := ⟨Rg.LACE_CH_CTL n, 25, 1⟩
def Fd.LACE_CH_CTL_IRQEN (n : Nat) : Fd := ⟨Rg.LACE_CH_CTL n, 24, 1⟩
def Fd.LACE_CH_CTL_TMO (n : Nat) : Fd := ⟨Rg.LACE_CH_CTL n, 12, 12⟩
def Fd.LACE_CH_CTL_DESCHI (n : Nat) : Fd := ⟨Rg.LACE_CH_CTL n, 0, 12⟩
def Fd.LACE_CH_DESC_ADDR (n : Nat) : Fd := ⟨Rg.LACE_CH_DESC n, 6, 22⟩
def Fd.LACE_CH_STAT_STATE (n : Nat) : Fd := ⟨Rg.LACE_CH_STAT n, 25, 3⟩
def Fd.LACE_CH_STAT_ERR (n : Nat) : Fd := ⟨Rg.LACE_CH_STAT n, 22, 3⟩
def Fd.LACE_CH_STAT_DONEEV (n : Nat) : Fd := ⟨Rg.LACE_CH_STAT n, 21, 1⟩
def Fd.LACE_CH_STAT_ERREV (n : Nat) : Fd := ⟨Rg.LACE_CH_STAT n, 20, 1⟩
def Fd.LACE_CH_STAT_DCOUNT (n : Nat) : Fd := ⟨Rg.LACE_CH_STAT n, 0, 16⟩
def Fd.LACE_CH_MAXDESC_MAXDESC (n : Nat) : Fd := ⟨Rg.LACE_CH_MAXDESC n, 0, 16⟩
def Fd.SKIVER_CTL_GO : Fd := ⟨Rg.SKIVER_CTL, 27, 1⟩
def Fd.SKIVER_CTL_ABORT : Fd := ⟨Rg.SKIVER_CTL, 26, 1⟩
def Fd.SKIVER_CTL_IRQEN : Fd := ⟨Rg.SKIVER_CTL, 25, 1⟩
def Fd.SKIVER_CTL_TMO : Fd := ⟨Rg.SKIVER_CTL, 12, 12⟩
def Fd.SKIVER_CTL_LISTHI : Fd := ⟨Rg.SKIVER_CTL, 0, 12⟩
def Fd.SKIVER_LIST_ADDR : Fd := ⟨Rg.SKIVER_LIST, 6, 22⟩
def Fd.SKIVER_STAT_STATE : Fd := ⟨Rg.SKIVER_STAT, 25, 3⟩
def Fd.SKIVER_STAT_ERR : Fd := ⟨Rg.SKIVER_STAT, 22, 3⟩
def Fd.SKIVER_STAT_DONEEV : Fd := ⟨Rg.SKIVER_STAT, 21, 1⟩
def Fd.SKIVER_STAT_ERREV : Fd := ⟨Rg.SKIVER_STAT, 20, 1⟩
def Fd.SKIVER_STAT_WMEV : Fd := ⟨Rg.SKIVER_STAT, 19, 1⟩
def Fd.SKIVER_STAT_CMDEV : Fd := ⟨Rg.SKIVER_STAT, 18, 1⟩
def Fd.SKIVER_STAT_ROW : Fd := ⟨Rg.SKIVER_STAT, 0, 13⟩
def Fd.SKIVER_CMDCNT_COUNT : Fd := ⟨Rg.SKIVER_CMDCNT, 0, 16⟩
def Fd.SKIVER_MAXCMD_MAXCMD : Fd := ⟨Rg.SKIVER_MAXCMD, 0, 16⟩
def Fd.SKIVER_CURLO_ADDRLO : Fd := ⟨Rg.SKIVER_CURLO, 0, 28⟩
def Fd.SKIVER_CURHI_ADDRHI : Fd := ⟨Rg.SKIVER_CURHI, 0, 12⟩
def Fd.AUD_CTL_EN : Fd := ⟨Rg.AUD_CTL, 27, 1⟩
def Fd.AUD_CTL_D48SRC : Fd := ⟨Rg.AUD_CTL, 24, 3⟩
def Fd.AUD_CTL_D44SRC : Fd := ⟨Rg.AUD_CTL, 21, 3⟩
def Fd.AUD_CTL_VDRATE : Fd := ⟨Rg.AUD_CTL, 20, 1⟩
def Fd.AUD_STAT_DOMLOSS : Fd := ⟨Rg.AUD_STAT, 25, 3⟩
def Fd.AUD_STAT_PLOSS : Fd := ⟨Rg.AUD_STAT, 21, 4⟩
def Fd.AUD_STAT_ERR : Fd := ⟨Rg.AUD_STAT, 20, 1⟩
def Fd.AUD_STAT_KEYDROP : Fd := ⟨Rg.AUD_STAT, 14, 6⟩
def Fd.AUD_STAT_LATE : Fd := ⟨Rg.AUD_STAT, 7, 7⟩
def Fd.AUD_KEY_ON : Fd := ⟨Rg.AUD_KEY, 8, 1⟩
def Fd.AUD_KEY_VOICE : Fd := ⟨Rg.AUD_KEY, 0, 8⟩
def Fd.AUD_MB_EN (n : Nat) : Fd := ⟨Rg.AUD_MB n, 27, 1⟩
def Fd.AUD_MB_DOM (n : Nat) : Fd := ⟨Rg.AUD_MB n, 25, 2⟩
def Fd.AUD_MB_DEST (n : Nat) : Fd := ⟨Rg.AUD_MB n, 22, 3⟩
def Fd.AUD_MB_ZCTMO (n : Nat) : Fd := ⟨Rg.AUD_MB n, 16, 6⟩
def Fd.AUD_MB_GAIN (n : Nat) : Fd := ⟨Rg.AUD_MB n, 0, 14⟩
def Fd.AUD_OB_CFG_EN (n : Nat) : Fd := ⟨Rg.AUD_OB_CFG n, 27, 1⟩
def Fd.AUD_OB_CFG_DOM (n : Nat) : Fd := ⟨Rg.AUD_OB_CFG n, 25, 2⟩
def Fd.AUD_OB_CFG_COMPEN (n : Nat) : Fd := ⟨Rg.AUD_OB_CFG n, 24, 1⟩
def Fd.AUD_OB_CFG_LIMEN (n : Nat) : Fd := ⟨Rg.AUD_OB_CFG n, 23, 1⟩
def Fd.AUD_OB_CFG_DPEN (n : Nat) : Fd := ⟨Rg.AUD_OB_CFG n, 22, 1⟩
def Fd.AUD_OB_CFG_DPPORT (n : Nat) : Fd := ⟨Rg.AUD_OB_CFG n, 19, 3⟩
def Fd.AUD_OB_DYN0_THR (n : Nat) : Fd := ⟨Rg.AUD_OB_DYN0 n, 20, 8⟩
def Fd.AUD_OB_DYN0_RATIO (n : Nat) : Fd := ⟨Rg.AUD_OB_DYN0 n, 15, 5⟩
def Fd.AUD_OB_DYN0_KNEE (n : Nat) : Fd := ⟨Rg.AUD_OB_DYN0 n, 10, 5⟩
def Fd.AUD_OB_DYN0_MAKEUP (n : Nat) : Fd := ⟨Rg.AUD_OB_DYN0 n, 4, 6⟩
def Fd.AUD_OB_DYN1_ATT (n : Nat) : Fd := ⟨Rg.AUD_OB_DYN1 n, 18, 10⟩
def Fd.AUD_OB_DYN1_REL (n : Nat) : Fd := ⟨Rg.AUD_OB_DYN1 n, 8, 10⟩
def Fd.AUD_OB_DYN1_CEIL (n : Nat) : Fd := ⟨Rg.AUD_OB_DYN1 n, 0, 8⟩
def Fd.AUD_OB_STAT_GR (n : Nat) : Fd := ⟨Rg.AUD_OB_STAT n, 20, 8⟩
def Fd.AUD_OB_STAT_CLIPCNT (n : Nat) : Fd := ⟨Rg.AUD_OB_STAT n, 0, 12⟩
def Fd.AUD_PT_CFG_EN (n : Nat) : Fd := ⟨Rg.AUD_PT_CFG n, 27, 1⟩
def Fd.AUD_PT_CFG_MASTER (n : Nat) : Fd := ⟨Rg.AUD_PT_CFG n, 26, 1⟩
def Fd.AUD_PT_CFG_SLOTS (n : Nat) : Fd := ⟨Rg.AUD_PT_CFG n, 24, 2⟩
def Fd.AUD_PT_CFG_DOM (n : Nat) : Fd := ⟨Rg.AUD_PT_CFG n, 22, 2⟩
def Fd.AUD_PT_CFG_FIRST (n : Nat) : Fd := ⟨Rg.AUD_PT_CFG n, 19, 3⟩
def Fd.AUD_PT_CFG_MCLKEN (n : Nat) : Fd := ⟨Rg.AUD_PT_CFG n, 18, 1⟩
def Fd.AUD_RX_CFG_EN (n : Nat) : Fd := ⟨Rg.AUD_RX_CFG n, 27, 1⟩
def Fd.AUD_RX_CFG_MIXBUS (n : Nat) : Fd := ⟨Rg.AUD_RX_CFG n, 22, 5⟩
def Fd.AUD_RX_CFG_FILL (n : Nat) : Fd := ⟨Rg.AUD_RX_CFG n, 18, 4⟩
def Fd.AUD_RX_CFG_GAIN (n : Nat) : Fd := ⟨Rg.AUD_RX_CFG n, 0, 14⟩
def Fd.AUD_RX_STAT_STATE (n : Nat) : Fd := ⟨Rg.AUD_RX_STAT n, 26, 2⟩
def Fd.AUD_RX_STAT_DOM (n : Nat) : Fd := ⟨Rg.AUD_RX_STAT n, 24, 2⟩
def Fd.AUD_RX_STAT_LEVEL (n : Nat) : Fd := ⟨Rg.AUD_RX_STAT n, 19, 5⟩
def Fd.AUD_RX_STAT_UNDER (n : Nat) : Fd := ⟨Rg.AUD_RX_STAT n, 13, 6⟩
def Fd.AUD_RX_STAT_OVER (n : Nat) : Fd := ⟨Rg.AUD_RX_STAT n, 7, 6⟩
def Fd.AUD_RX_STAT_GAP (n : Nat) : Fd := ⟨Rg.AUD_RX_STAT n, 1, 6⟩
def Fd.INS_FE_CTL_EN (n : Nat) : Fd := ⟨Rg.INS_FE_CTL n, 27, 1⟩
def Fd.INS_FE_CTL_SELFEN (n : Nat) : Fd := ⟨Rg.INS_FE_CTL n, 26, 1⟩
def Fd.INS_FE_CTL_GLOVE (n : Nat) : Fd := ⟨Rg.INS_FE_CTL n, 25, 1⟩
def Fd.INS_FE_CTL_WATER (n : Nat) : Fd := ⟨Rg.INS_FE_CTL n, 24, 1⟩
def Fd.INS_FE_CTL_RECAL (n : Nat) : Fd := ⟨Rg.INS_FE_CTL n, 23, 1⟩
def Fd.INS_FE_CTL_IRQEN (n : Nat) : Fd := ⟨Rg.INS_FE_CTL n, 22, 1⟩
def Fd.INS_FE_CTL_RINGEN (n : Nat) : Fd := ⟨Rg.INS_FE_CTL n, 21, 1⟩
def Fd.INS_FE_CTL_NPULSE (n : Nat) : Fd := ⟨Rg.INS_FE_CTL n, 16, 5⟩
def Fd.INS_FE_CTL_DRVPER (n : Nat) : Fd := ⟨Rg.INS_FE_CTL n, 8, 8⟩
def Fd.INS_FE_CTL_BLRATE (n : Nat) : Fd := ⟨Rg.INS_FE_CTL n, 5, 3⟩
def Fd.INS_FE_THR_GTHR (n : Nat) : Fd := ⟨Rg.INS_FE_THR n, 14, 14⟩
def Fd.INS_FE_THR_THR (n : Nat) : Fd := ⟨Rg.INS_FE_THR n, 0, 14⟩
def Fd.INS_FE_RING_ADDR (n : Nat) : Fd := ⟨Rg.INS_FE_RING n, 0, 28⟩
def Fd.INS_FE_STAT_RPTEV (n : Nat) : Fd := ⟨Rg.INS_FE_STAT n, 27, 1⟩
def Fd.INS_FE_STAT_NOWIN (n : Nat) : Fd := ⟨Rg.INS_FE_STAT n, 26, 1⟩
def Fd.INS_FE_STAT_RECALEV (n : Nat) : Fd := ⟨Rg.INS_FE_STAT n, 25, 1⟩
def Fd.INS_FE_STAT_ABAND (n : Nat) : Fd := ⟨Rg.INS_FE_STAT n, 17, 8⟩
def Fd.INS_FE_STAT_STEP (n : Nat) : Fd := ⟨Rg.INS_FE_STAT n, 10, 7⟩
def Fd.INS_FE_STAT_SCAN (n : Nat) : Fd := ⟨Rg.INS_FE_STAT n, 0, 10⟩
def Fd.INS_SENS_HI (n : Nat) : Fd := ⟨Rg.INS_SENS n, 14, 14⟩
def Fd.INS_SENS_LO (n : Nat) : Fd := ⟨Rg.INS_SENS n, 0, 14⟩
def Fd.INS_SRX_BASE_ADDR (n : Nat) : Fd := ⟨Rg.INS_SRX_BASE n, 0, 28⟩
def Fd.INS_SRX_STAT_RPTEV (n : Nat) : Fd := ⟨Rg.INS_SRX_STAT n, 27, 1⟩
def Fd.INS_SRX_STAT_BAD (n : Nat) : Fd := ⟨Rg.INS_SRX_STAT n, 19, 8⟩
def Fd.SHK_CTL_EN : Fd := ⟨Rg.SHK_CTL, 27, 1⟩
def Fd.SHK_CTL_KEEP : Fd := ⟨Rg.SHK_CTL, 26, 1⟩
def Fd.SHK_CTL_HEAD : Fd := ⟨Rg.SHK_CTL, 22, 4⟩
def Fd.SHK_CTL_KEEPTMO : Fd := ⟨Rg.SHK_CTL, 12, 10⟩
def Fd.SHK_FUSE0_HOTDUTY : Fd := ⟨Rg.SHK_FUSE0, 14, 14⟩
def Fd.SHK_FUSE0_MAXDUTY : Fd := ⟨Rg.SHK_FUSE0, 0, 14⟩
def Fd.SHK_FUSE1_TMASK : Fd := ⟨Rg.SHK_FUSE1, 20, 8⟩
def Fd.SHK_FUSE1_HIMAX : Fd := ⟨Rg.SHK_FUSE1, 14, 6⟩
def Fd.SHK_FUSE1_TLIM : Fd := ⟨Rg.SHK_FUSE1, 0, 14⟩
def Fd.SHK_STAT_OVERT : Fd := ⟨Rg.SHK_STAT, 27, 1⟩
def Fd.SHK_STAT_SENSFAIL : Fd := ⟨Rg.SHK_STAT, 26, 1⟩
def Fd.SHK_STAT_KEEPEXP : Fd := ⟨Rg.SHK_STAT, 25, 1⟩
def Fd.SHK_STAT_NOCLK : Fd := ⟨Rg.SHK_STAT, 24, 1⟩
def Fd.SHK_STAT_PERERR : Fd := ⟨Rg.SHK_STAT, 23, 1⟩
def Fd.SHK_BLCFG_SYNC : Fd := ⟨Rg.SHK_BLCFG, 27, 1⟩
def Fd.SHK_BLCFG_STAG : Fd := ⟨Rg.SHK_BLCFG, 26, 1⟩
def Fd.SHK_BLCFG_SLEW : Fd := ⟨Rg.SHK_BLCFG, 18, 8⟩
def Fd.SHK_BLCFG_PERIOD : Fd := ⟨Rg.SHK_BLCFG, 0, 18⟩
def Fd.SHK_LIMIT_CLAMP : Fd := ⟨Rg.SHK_LIMIT, 0, 16⟩
def Fd.SHK_BL_EN (n : Nat) : Fd := ⟨Rg.SHK_BL n, 27, 1⟩
def Fd.SHK_BL_FOLLOW (n : Nat) : Fd := ⟨Rg.SHK_BL n, 26, 1⟩
def Fd.SHK_BL_ALSSEL (n : Nat) : Fd := ⟨Rg.SHK_BL n, 24, 2⟩
def Fd.SHK_BL_AGAIN (n : Nat) : Fd := ⟨Rg.SHK_BL n, 16, 8⟩
def Fd.SHK_BL_DUTY (n : Nat) : Fd := ⟨Rg.SHK_BL n, 0, 14⟩
def Fd.SHK_HT_A_ONCODE (n : Nat) : Fd := ⟨Rg.SHK_HT_A n, 14, 14⟩
def Fd.SHK_HT_A_OFFCODE (n : Nat) : Fd := ⟨Rg.SHK_HT_A n, 0, 14⟩
def Fd.SHK_HT_B_EN (n : Nat) : Fd := ⟨Rg.SHK_HT_B n, 27, 1⟩
def Fd.SHK_HT_B_TSEL (n : Nat) : Fd := ⟨Rg.SHK_HT_B n, 24, 3⟩
def Fd.SHK_HT_B_IMIN (n : Nat) : Fd := ⟨Rg.SHK_HT_B n, 14, 6⟩
def Fd.SHK_HT_B_HDUTY (n : Nat) : Fd := ⟨Rg.SHK_HT_B n, 0, 14⟩
def Fd.SHK_HT_S_HEAT (n : Nat) : Fd := ⟨Rg.SHK_HT_S n, 27, 1⟩
def Fd.SHK_HT_S_LATCH (n : Nat) : Fd := ⟨Rg.SHK_HT_S n, 26, 1⟩
def Fd.SHK_HT_S_OPEN (n : Nat) : Fd := ⟨Rg.SHK_HT_S n, 25, 1⟩
def Fd.SHK_HT_S_TRIPCNT (n : Nat) : Fd := ⟨Rg.SHK_HT_S n, 17, 8⟩
def Fd.SHK_HT_S_IMEAS (n : Nat) : Fd := ⟨Rg.SHK_HT_S n, 11, 6⟩
def Fd.RT_VALID (n : Nat) : Fd := ⟨Rg.RT n, 27, 1⟩
def Fd.RT_PORT (n : Nat) : Fd := ⟨Rg.RT n, 24, 3⟩
def Fd.RT_ALTEN (n : Nat) : Fd := ⟨Rg.RT n, 23, 1⟩
def Fd.RT_ALTPORT (n : Nat) : Fd := ⟨Rg.RT n, 20, 3⟩
def Fd.RT_ONALT (n : Nat) : Fd := ⟨Rg.RT n, 19, 1⟩
def Fd.FC0_EN (n : Nat) : Fd := ⟨Rg.FC0 n, 27, 1⟩
def Fd.FC0_KIND (n : Nat) : Fd := ⟨Rg.FC0 n, 24, 3⟩
def Fd.FC0_DIR (n : Nat) : Fd := ⟨Rg.FC0 n, 23, 1⟩
def Fd.FC0_PEER (n : Nat) : Fd := ⟨Rg.FC0 n, 11, 11⟩
def Fd.FC0_PFLOW (n : Nat) : Fd := ⟨Rg.FC0 n, 0, 11⟩
def Fd.FC1_FENCED (n : Nat) : Fd := ⟨Rg.FC1 n, 27, 1⟩
def Fd.FC1_BIND (n : Nat) : Fd := ⟨Rg.FC1 n, 0, 16⟩
def Fd.OWN_LOCK (n : Nat) : Fd := ⟨Rg.OWN n, 4, 1⟩
def Fd.OWN_OWNER (n : Nat) : Fd := ⟨Rg.OWN n, 0, 4⟩
def Fd.SRC_EN (n : Nat) : Fd := ⟨Rg.SRC n, 27, 1⟩
def Fd.SRC_PEND (n : Nat) : Fd := ⟨Rg.SRC n, 26, 1⟩
def Fd.SRC_ACT (n : Nat) : Fd := ⟨Rg.SRC n, 25, 1⟩
def Fd.SRC_LEVEL (n : Nat) : Fd := ⟨Rg.SRC n, 24, 1⟩
def Fd.SRC_TGT (n : Nat) : Fd := ⟨Rg.SRC n, 21, 3⟩
def Fd.SRC_VEC (n : Nat) : Fd := ⟨Rg.SRC n, 15, 6⟩
def Fd.SRC_PRI (n : Nat) : Fd := ⟨Rg.SRC n, 0, 8⟩
def Fd.CMPCTL_EN (n : Nat) : Fd := ⟨Rg.CMPCTL n, 27, 1⟩
def Fd.CMPCTL_PER (n : Nat) : Fd := ⟨Rg.CMPCTL n, 26, 1⟩
def Fd.CMPCTL_FIRED (n : Nat) : Fd := ⟨Rg.CMPCTL n, 25, 1⟩
def Fd.CMPCTL_STEPF (n : Nat) : Fd := ⟨Rg.CMPCTL n, 24, 1⟩
def Fd.CMPCTL_PERIOD (n : Nat) : Fd := ⟨Rg.CMPCTL n, 0, 24⟩
def Fd.CMPLO_CMP (n : Nat) : Fd := ⟨Rg.CMPLO n, 0, 28⟩
def Fd.CMPHI_CMP (n : Nat) : Fd := ⟨Rg.CMPHI n, 0, 28⟩
def Fd.CAPCTL_EN (n : Nat) : Fd := ⟨Rg.CAPCTL n, 27, 1⟩
def Fd.CAPCTL_EDGE (n : Nat) : Fd := ⟨Rg.CAPCTL n, 25, 2⟩
def Fd.CAPCTL_OVF (n : Nat) : Fd := ⟨Rg.CAPCTL n, 24, 1⟩
def Fd.CAPCTL_COUNT (n : Nat) : Fd := ⟨Rg.CAPCTL n, 22, 2⟩
def Fd.CAPCTL_PEND (n : Nat) : Fd := ⟨Rg.CAPCTL n, 21, 1⟩
def Fd.CAPCTL_TRIG (n : Nat) : Fd := ⟨Rg.CAPCTL n, 0, 8⟩
def Fd.CAPLO_TIME (n : Nat) : Fd := ⟨Rg.CAPLO n, 0, 28⟩
def Fd.CAPHI_TIME (n : Nat) : Fd := ⟨Rg.CAPHI n, 0, 28⟩
def Fd.EY_FUNC (n : Nat) : Fd := ⟨Rg.EY n, 25, 3⟩
def Fd.EY_DIR (n : Nat) : Fd := ⟨Rg.EY n, 24, 1⟩
def Fd.EY_OUT (n : Nat) : Fd := ⟨Rg.EY n, 23, 1⟩
def Fd.EY_OD (n : Nat) : Fd := ⟨Rg.EY n, 22, 1⟩
def Fd.EY_PULL (n : Nat) : Fd := ⟨Rg.EY n, 20, 2⟩
def Fd.EY_DRV (n : Nat) : Fd := ⟨Rg.EY n, 18, 2⟩
def Fd.EY_SLOW (n : Nat) : Fd := ⟨Rg.EY n, 17, 1⟩
def Fd.EY_FILT (n : Nat) : Fd := ⟨Rg.EY n, 16, 1⟩
def Fd.EY_IMODE (n : Nat) : Fd := ⟨Rg.EY n, 13, 3⟩
def Fd.EY_SLP (n : Nat) : Fd := ⟨Rg.EY n, 12, 1⟩
def Fd.EY_IEV (n : Nat) : Fd := ⟨Rg.EY n, 11, 1⟩
def Fd.EY_IN (n : Nat) : Fd := ⟨Rg.EY n, 10, 1⟩
def Fd.I2C_CFG_EN (n : Nat) : Fd := ⟨Rg.I2C_CFG n, 27, 1⟩
def Fd.I2C_CFG_SPEED (n : Nat) : Fd := ⟨Rg.I2C_CFG n, 25, 2⟩
def Fd.I2C_CFG_TMO (n : Nat) : Fd := ⟨Rg.I2C_CFG n, 0, 8⟩
def Fd.I2C_CMD_GO (n : Nat) : Fd := ⟨Rg.I2C_CMD n, 27, 1⟩
def Fd.I2C_CMD_STOP (n : Nat) : Fd := ⟨Rg.I2C_CMD n, 26, 1⟩
def Fd.I2C_CMD_RD (n : Nat) : Fd := ⟨Rg.I2C_CMD n, 25, 1⟩
def Fd.I2C_CMD_ADDR (n : Nat) : Fd := ⟨Rg.I2C_CMD n, 8, 7⟩
def Fd.I2C_CMD_COUNT (n : Nat) : Fd := ⟨Rg.I2C_CMD n, 0, 7⟩
def Fd.I2C_STAT_BUSY (n : Nat) : Fd := ⟨Rg.I2C_STAT n, 27, 1⟩
def Fd.I2C_STAT_NACK (n : Nat) : Fd := ⟨Rg.I2C_STAT n, 26, 1⟩
def Fd.I2C_STAT_LOST (n : Nat) : Fd := ⟨Rg.I2C_STAT n, 25, 1⟩
def Fd.I2C_STAT_ERR (n : Nat) : Fd := ⟨Rg.I2C_STAT n, 24, 1⟩
def Fd.I2C_STAT_RXLVL (n : Nat) : Fd := ⟨Rg.I2C_STAT n, 7, 7⟩
def Fd.I2C_STAT_TXLVL (n : Nat) : Fd := ⟨Rg.I2C_STAT n, 0, 7⟩
def Fd.UART_CFG_EN (n : Nat) : Fd := ⟨Rg.UART_CFG n, 27, 1⟩
def Fd.UART_CFG_PARITY (n : Nat) : Fd := ⟨Rg.UART_CFG n, 25, 2⟩
def Fd.UART_CFG_STOP2 (n : Nat) : Fd := ⟨Rg.UART_CFG n, 24, 1⟩
def Fd.UART_CFG_FLOW (n : Nat) : Fd := ⟨Rg.UART_CFG n, 23, 1⟩
def Fd.UART_CFG_DIV (n : Nat) : Fd := ⟨Rg.UART_CFG n, 0, 16⟩
def Fd.UART_STAT_TXBUSY (n : Nat) : Fd := ⟨Rg.UART_STAT n, 27, 1⟩
def Fd.UART_STAT_FERR (n : Nat) : Fd := ⟨Rg.UART_STAT n, 26, 1⟩
def Fd.UART_STAT_OVR (n : Nat) : Fd := ⟨Rg.UART_STAT n, 25, 1⟩
def Fd.UART_STAT_TXOVR (n : Nat) : Fd := ⟨Rg.UART_STAT n, 24, 1⟩
def Fd.UART_STAT_RXLVL (n : Nat) : Fd := ⟨Rg.UART_STAT n, 7, 7⟩
def Fd.UART_STAT_TXLVL (n : Nat) : Fd := ⟨Rg.UART_STAT n, 0, 7⟩
def Fd.WPCTL_ACT (n : Nat) : Fd := ⟨Rg.WPCTL n, 26, 2⟩
def Fd.WPCTL_ACC (n : Nat) : Fd := ⟨Rg.WPCTL n, 24, 2⟩
def Fd.WPCTL_IGN (n : Nat) : Fd := ⟨Rg.WPCTL n, 18, 6⟩
def Fd.WPCTL_HIT (n : Nat) : Fd := ⟨Rg.WPCTL n, 17, 1⟩
def Fd.WPCTL_VMASK (n : Nat) : Fd := ⟨Rg.WPCTL n, 0, 16⟩
def Fd.WPLO_ADDR (n : Nat) : Fd := ⟨Rg.WPLO n, 0, 28⟩
def Fd.WPHI_ADDR (n : Nat) : Fd := ⟨Rg.WPHI n, 0, 12⟩
def Fd.WPVAL_VALUE (n : Nat) : Fd := ⟨Rg.WPVAL n, 0, 16⟩
def Fd.SRCIDX_C_ERR (n : Nat) : Fd := ⟨Rg.SRCIDX_C n, 27, 1⟩
def Fd.SRCIDX_C_INDEX (n : Nat) : Fd := ⟨Rg.SRCIDX_C n, 0, 9⟩
def Fd.OWNIDX_C_ERR (n : Nat) : Fd := ⟨Rg.OWNIDX_C n, 27, 1⟩
def Fd.OWNIDX_C_INDEX (n : Nat) : Fd := ⟨Rg.OWNIDX_C n, 0, 8⟩
def Fd.UIDX_C_INDEX (n : Nat) : Fd := ⟨Rg.UIDX_C n, 0, 16⟩
def Fd.EYIDX_C_ERR (n : Nat) : Fd := ⟨Rg.EYIDX_C n, 27, 1⟩
def Fd.EYIDX_C_INDEX (n : Nat) : Fd := ⟨Rg.EYIDX_C n, 0, 7⟩
def Fd.CMPIDX_C_INDEX (n : Nat) : Fd := ⟨Rg.CMPIDX_C n, 0, 5⟩
def Fd.CAPIDX_C_INDEX (n : Nat) : Fd := ⟨Rg.CAPIDX_C n, 0, 4⟩
def Fd.WPIDX_C_KIND (n : Nat) : Fd := ⟨Rg.WPIDX_C n, 5, 1⟩
def Fd.WPIDX_C_CORE (n : Nat) : Fd := ⟨Rg.WPIDX_C n, 3, 2⟩
def Fd.WPIDX_C_NUM (n : Nat) : Fd := ⟨Rg.WPIDX_C n, 0, 3⟩
def Fd.LC_BASE_RTILE (n : Nat) : Fd := ⟨Rg.LC_BASE n, 27, 1⟩
def Fd.LC_BASE_OFS (n : Nat) : Fd := ⟨Rg.LC_BASE n, 0, 16⟩
def Fd.LC_AUX_PBANK (n : Nat) : Fd := ⟨Rg.LC_AUX n, 22, 6⟩
def Fd.LC_AUX_PITCH (n : Nat) : Fd := ⟨Rg.LC_AUX n, 8, 14⟩
def Fd.LC_AUX_PBASE (n : Nat) : Fd := ⟨Rg.LC_AUX n, 0, 28⟩
def Fd.LC_AUX_TOFS (n : Nat) : Fd := ⟨Rg.LC_AUX n, 0, 16⟩
def Fd.LC_AUX_A (n : Nat) : Fd := ⟨Rg.LC_AUX n, 14, 14⟩
def Fd.LC_AUX_R (n : Nat) : Fd := ⟨Rg.LC_AUX n, 0, 14⟩
def Fd.LC_POS_COUNTM1 (n : Nat) : Fd := ⟨Rg.LC_POS n, 14, 14⟩
def Fd.LC_POS_FIRST (n : Nat) : Fd := ⟨Rg.LC_POS n, 0, 14⟩
def Fd.LC_POS_G (n : Nat) : Fd := ⟨Rg.LC_POS n, 14, 14⟩
def Fd.LC_POS_B (n : Nat) : Fd := ⟨Rg.LC_POS n, 0, 14⟩

end Sys2Proof.Machine
end

