-- ==== Sys2Proof/Machine/State.lean ====
section
/-! DEFINITION. The state of the TFW1420 as plain data: the registers, the memories, the fuse map, the hidden state of
every block, the queue of waiting commands, and the state inside the power-on episode. -/
namespace Sys2Proof.Machine

/-- What the last direct access returned to its master (R35, R406). -/
inductive BusAns where
  | idle                    -- no access yet
  | done                    -- a write taken, or discarded without bus-error status (R406)
  | value (v : Nat)         -- a read
  | values (vs : List Nat)  -- a read of several words
  | error (v : Nat)         -- bus-error status; a read returns this value (R35: zero)
  | retry                   -- Configuration Request Retry Status (R320)
  | discarded               -- a write discarded because its power domain is off (R411)
  | frame (bytes : List Nat)  -- the response frame of a debug operation (R705), from its marker to its CRC
  deriving DecidableEq, Repr

/-- A record of the fault hub (R682, R684). -/
structure FaultRec where
  forced : Bool
  real : Bool
  noesc : Bool
  esc : Bool
  cls : Nat
  base : Nat
  unit : Nat
  code : Nat
  detail : Nat
  time : Nat
  seq : Nat
  deriving DecidableEq, Repr

/-- The fault hub beyond its registers (R682–R693). -/
structure Hub where
  /-- Log entries 0–63 in use (R684). -/
  log : List (Nat × FaultRec) := []
  /-- UNACK[4:0] of each unit (R687). -/
  unack : List (Nat × Nat) := []
  /-- Classes of a unit's unacknowledged NOESC records, which UNACK leaves out (R687, R700). -/
  noesc : List (Nat × Nat) := []
  /-- CODE of each unit's latest record (R700). -/
  last : List (Nat × Nat) := []
  /-- Reacting unacknowledged records of class C2 and C3, as unit and class (R690, R691). -/
  reacting : List (Nat × Nat) := []
  /-- SEQ that the next record takes, modulo 256. -/
  seq : Nat := 0
  /-- The controlled stop of R693 runs. -/
  stopping : Bool := false
  deriving DecidableEq, Repr

/-- The interrupt controller beyond its registers (R639–R649). -/
structure Icu where
  /-- Pulse sources with their pending bit set, in rising order. -/
  pend : List Nat := []
  /-- Active sources of each core, innermost first (R640). -/
  nested : List (Nat × List Nat) := []
  /-- Active source of each MSI-X vector (R646). -/
  host : List (Nat × Nat) := []
  /-- Ticks of hold-off left for each held group (R647). -/
  hold : List (Nat × Nat) := []
  /-- MSI-X vectors with the PCI Express pending bit set (R646). -/
  msixPend : List Nat := []
  deriving DecidableEq, Repr

/-- The time base, compare and capture channels and watchdogs beyond their registers (R650–R657). -/
structure TimeS where
  /-- The 56-bit time base. -/
  now : Nat := 0
  /-- Each master's copy of TIME_HI (R650). -/
  hi : List (Nat × Nat) := []
  /-- TIME_CMPLO values held until TIME_CMPHI is written, per channel (R652). -/
  cmpHold : List (Nat × Nat) := []
  /-- Compare channels whose match has come and which have not fired yet. -/
  cmpDue : List Nat := []
  /-- Capture entries, older first, at most two per channel (R655). -/
  caps : List (Nat × List Nat) := []
  /-- TIME_CAPHI as latched, per channel (R655). -/
  capHi : List (Nat × Nat) := []
  /-- Levels of the eyelet functions TCMP0–TCMP7 that are high (R653). -/
  tcmp : List Nat := []
  /-- Ticks each watchdog was loaded with (R657). -/
  wdLoad : List (Nat × Nat) := []
  /-- Watchdogs that have given their warning since their last load. -/
  wdWarned : List Nat := []
  deriving DecidableEq, Repr

/-- Reset and power state beyond the registers (R422–R451). -/
structure ResetS where
  /-- Reset sources of cold or warm reach asserted now (R424). -/
  asserted : List ResetSrc := []
  /-- Every source of the episode in progress, and whether a unit-reach source joined it. -/
  causes : List ResetSrc := []
  unitJoined : Bool := false
  /-- A VDDQ reset-level event fell in the episode (R429). -/
  vddq : Bool := false
  /-- Units held in reset (ACT 0b01), and units under a 10 µs pulse. -/
  held : List Nat := []
  pulsed : List Nat := []
  /-- The 48-bit slow counter of the backup block (R439), and the ticks gathered towards its next count. -/
  slow : Nat := 0
  frac : Nat := 0
  /-- BAK lost its contents; BAKLOST is set at the next power-on (R439). -/
  bakLost : Bool := false
  /-- A power-state transition in progress: its target (0 RUN to 4 OFF). -/
  target : Option Nat := none
  /-- A wake event that arrived during entry: WAKESRC (R449). -/
  wakeLatched : Option Nat := none
  /-- Slow counter at entry to NAP or STOW (R442, R449). -/
  slowAt : Nat := 0
  /-- The eyelet function PWROFF is driven high (R448). -/
  pwroff : Bool := false
  /-- Sources held back while a fuse write runs (R468). -/
  waiting : List ResetSrc := []
  /-- The domain changes of a role change in progress (R23). -/
  roleTo : Option Nat := none
  /-- A DEVICE_RESET that has been answered and has not asserted its source yet, and where its packet came from (R433). -/
  due : Option (ResetSrc × Src) := none
  /-- Supplies below their reset level that assert the warm source, by the bits of PWR_SUPSTAT (R423). -/
  supDown : Nat := 0
  /-- Entry to STOW or OFF has passed through NAP and sent its completion (R448). -/
  deep : Bool := false
  deriving DecidableEq, Repr

/-- What the supply loop does (R63–R72). -/
inductive LoopPhase where
  | off | readMode | measure | sending | settling | emergSend | holding | vsetSend | finalSend
  deriving DecidableEq, Repr

/-- A PMBus transaction of the supply loop (R62–R64): the I2C controller, the regulator's address, the command, its data word,
and whether it has taken a transaction boundary of the controller. -/
structure PmbTx where
  ctl : Nat
  addr : Nat
  code : Nat
  word : Nat
  started : Bool
  deriving DecidableEq, Repr

/-- The supply loop beyond its registers (R62–R72). -/
structure PaceS where
  phase : LoopPhase := .off
  /-- The transaction in flight, and its failed attempts (R62–R64, R70). -/
  tx : Option PmbTx := none
  tries : Nat := 0
  /-- Ticks left of the measurement period, the settle wait, the hold or the 1 ms of an attempt (R66, R67, R70). -/
  left : Nat := 0
  /-- EN was cleared while a transaction was in flight (R71); a guard event came then (R67). -/
  stop : Bool := false
  guardDue : Bool := false
  /-- Set points of VSET writes with EN 0 that are still to be sent (R69). -/
  again : List Nat := []
  /-- A debug halt ended while a transaction was in flight: a settle wait follows it (R72). -/
  wait : Bool := false
  /-- A warm reset arrived with EN 1 while a transaction was in flight (R71). -/
  final : Bool := false
  /-- VOUT_MODE was read since EN rose, and the exponent read last (R63). -/
  known : Bool := false
  expo : Option Nat := none
  /-- Worst slack of the measurement period so far, its Sole, and whether a Sole counted (R66). -/
  worst : Int := 2047
  wsole : Option Nat := none
  counted : Bool := false
  deriving DecidableEq, Repr

/-- Who asked: the source of a packet, its tag and unit selector, and the session of the source's ring (R382, R398). -/
structure Req where
  src : Src
  tag : Nat
  sel : Nat
  gen : Nat
  /-- ORIGIN of the command, for a Welt context (R402). -/
  origin : Nat := 0
  deriving DecidableEq, Repr

/-- A staging copy in progress (R98). -/
structure StageCopy where
  slot : Nat
  off : Nat
  src : Nat
  count : Nat
  req : Req
  deriving DecidableEq, Repr

/-- An admission in progress (R101): the slot, its request, and LAST_REMCFG as it stood when the admission began (R126). -/
structure Admitting where
  slot : Nat
  req : Req
  remcfg : Nat
  deriving DecidableEq, Repr

/-- The Last store and admission unit beyond the registers (R78–R116). -/
structure LastS where
  /-- Staged length of each slot (R98). -/
  staged : List (Nat × Nat) := []
  /-- Staging copies running (R98). -/
  copies : List StageCopy := []
  /-- The admission in progress (R101). -/
  admitting : Option Admitting := none
  /-- Last identity of each admitted slot (R96). -/
  ident : List (Nat × Nat) := []
  deriving DecidableEq, Repr

/-- The value that a register or palette entry held before a line-list write at position (line, pos) of the frame (R173,
R174): what pixels before that position still see. -/
structure Undo where
  line : Nat
  pos : Nat
  key : Nat
  old : Nat
  deriving DecidableEq, Repr

/-- A beam-domain entry that its head has not issued yet (R174): OP, TGT and VALUE of R165. -/
structure BeamEnt where
  line : Nat
  pos : Nat
  op : Nat
  tgt : Nat
  val : Nat
  deriving DecidableEq, Repr

/-- The sprite snapshot of a head's frame (R155, R156). -/
structure SnapS where
  /-- Entries of the frame's ranges, by address, as four words; an unlisted entry counts as EN = 0. -/
  vals : List (Nat × List Nat) := []
  /-- Addresses of the entries in the frame's ranges. -/
  range : List Nat := []
  /-- Granules still to read, in order. -/
  todo : List Nat := []
  /-- The line in whose period it read last. -/
  line : Option Nat := none
  deriving DecidableEq, Repr

/-- A check rectangle of the frame (R247–R250). -/
structure RectRun where
  index : Nat
  x0 : Nat
  y0 : Nat
  width : Nat
  height : Nat
  outfmt : Nat
  /-- The expected value, where the rectangle is checked. -/
  expect : Option Nat
  /-- CRC state over the rows taken so far, and how many. -/
  crc : Nat
  rows : Nat
  /-- The comparison was made, and whether it mismatched. -/
  compared : Bool
  mismatch : Bool
  deriving DecidableEq, Repr

/-- The report record of a frame (R255). -/
structure ReportRec where
  frame : Nat := 0
  time : Nat := 0
  curv : Bool := false
  slot : Nat := 0
  lock : Nat := 0
  halt : Bool := false
  loss : Bool := false
  urlines : Nat := 0
  lastId : Nat := 0
  mismatch : Nat := 0
  checked : Nat := 0
  crcs : List (Nat × Nat) := []
  used : List (Nat × Nat) := []
  miscnt : List (Nat × Nat) := []
  dev : Nat := 0
  deriving DecidableEq, Repr

/-- A writeback frame in progress (R213): the settings taken at its latch point and the rows written. -/
structure WbRun where
  tap : Bool
  fmt : Nat
  base : Nat
  pitch : Nat
  rows : Nat
  deriving DecidableEq, Repr

/-- A block of 16 layer pixels that a stitch composed, for line `y`. -/
structure LayBlk where
  y : Nat
  block : Nat
  px : List (List LayPx)
  deriving DecidableEq, Repr

/-- A head beyond its registers (R164–R264). -/
structure HeadS where
  /-- The 56-bit frame number (R187). -/
  frame : Nat := 0
  /-- The timing generator runs; `waitRef`: it waits for a reference event to start (R231). -/
  running : Bool := false
  waitRef : Bool := false
  /-- The line last released (R54); the head outputs the line before it. -/
  line : Nat := 0
  /-- The lines whose lists are being read, oldest first (R169, R170). -/
  listWait : List Nat := []
  undo : List Undo := []
  beam : List BeamEnt := []
  /-- Line-list palette holding register (R177): G in 27:14, B in 13:0. -/
  palHold : Nat := 0
  snap : SnapS := {}
  rects : List RectRun := []
  /-- The record in progress and the frozen record (R253). -/
  report : ReportRec := {}
  frozen : Option ReportRec := none
  /-- Shadow expectations written since the last commit, and valid active expectations (R252): `none` is an invalid one. -/
  expShadow : List (Nat × Option Nat) := []
  expActive : List (Nat × Nat) := []
  /-- Mismatch counts of the rectangles (R250). -/
  misCnt : List (Nat × Nat) := []
  /-- A mismatch record was made in this frame. -/
  misRec : Bool := false
  wb : Option WbRun := none
  /-- Lines of the frame that show background from a block on (R243, R246, R690). -/
  under : List (Nat × Nat) := []
  /-- Active lines of the frame whose output is complete. -/
  rowsDone : Nat := 0
  /-- A frame of the head is in progress, so a record of it exists (R253). -/
  inFrame : Bool := false
  /-- A halt record was made already (R246). -/
  haltRec : Bool := false
  /-- Consecutive events with a phase error of at most 20 ns in ACQUIRE (R236). -/
  good : Nat := 0
  /-- Intervals in picoseconds between the latest reference events, newest first, at most seven (R236). -/
  ivals : List Nat := []
  /-- What this line has been counted for already: the line and a code (R116, R172, R174). -/
  marks : List (Nat × Nat) := []
  /-- Frame number at which the last commit applied (R188), where one has. -/
  applied : Option Nat := none
  /-- The picture message of the line in output: the line, its context and the next pixel (R361). -/
  pic : Option (Nat × Nat × Nat) := none
  /-- Writeback rows that wait for the bus, oldest first: an address and the words from there (R214); how many of them belong to
  the frame before (R217). -/
  wbOut : List (Nat × List Nat) := []
  wbTail : Nat := 0
  /-- The line that was in progress when a debug halt began (R246). -/
  haltAt : Option Nat := none
  deriving DecidableEq, Repr

/-- A granule read of a Sole for line `y`: its number in issue order (R161), with the data where it arrived whole. -/
structure Gran where
  y : Nat
  num : Nat
  data : Option (List Nat)
  deriving DecidableEq, Repr

/-- Granules of a remote plane held in staging (R91): by plane, line and aperture offset. -/
structure Staged where
  lc : Nat
  y : Nat
  off : Nat
  data : List Nat
  deriving DecidableEq, Repr

/-- A Sole beyond its registers (R54–R56, R266). -/
structure SoleS where
  /-- The head and line it composes now, and released lines that wait for it. -/
  head : Nat := 0
  line : Option Nat := none
  next : List Nat := []
  /-- Stitches run for its latest lines. -/
  ran : List (Nat × Nat) := []
  /-- Granules read of the line lists of its latest lines (R169, R298). -/
  lists : List (Nat × Nat) := []
  /-- The line buffer: blocks composed for its latest lines. -/
  buf : List LayBlk := []
  /-- Blocks in which a layer's data is missing (R161): line, layer position and block. -/
  dead : List (Nat × Nat × Nat) := []
  got : List Gran := []
  staging : List Staged := []
  deriving DecidableEq, Repr

/-- A pending commit arm (R180–R185). -/
structure Arm where
  req : Req
  /-- The heads of the set. -/
  heads : List Nat
  /-- Frame number that begins at each head's eligible latch point (R181). -/
  elig : List (Nat × Nat)
  /-- Heads whose eligible latch point has come. -/
  reached : List Nat
  /-- At T (R182): the defining head and its frame number. -/
  defined : Option (Nat × Nat)
  applied : List Nat
  deriving DecidableEq, Repr

/-- A picture receiver beyond its registers (R362–R366). -/
structure PrxS where
  /-- Consecutive missing lines. -/
  miss : Nat := 0
  /-- Lines completed since the last release point of an active line of HEAD. -/
  lines : List Nat := []
  /-- The message in progress: YA, FTAG and the next pixel. -/
  msg : Option (Nat × Nat × Nat) := none
  /-- Lines 0 up of one message sequence completed so far: FTAG and the next line (R366). -/
  seq : Option (Nat × Nat) := none
  /-- The port that delivered its last packet. -/
  port : Option Nat := none
  /-- The first line of the frame that the override of R365 acts on. -/
  ovrFrom : Nat := 0
  deriving DecidableEq, Repr

/-- The picture path beyond its registers. -/
structure PictS where
  heads : List (Nat × HeadS) := []
  soles : List (Nat × SoleS) := []
  arms : List Arm := []
  /-- Holding registers of palette and LUT writes (R146, R197), by master × 64 + (LUT: 32) + head. -/
  hold : List (Nat × Nat) := []
  prx : List (Nat × PrxS) := []
  deriving DecidableEq, Repr

/-- The fetch engine and GDDR7 controller beyond their registers (R265–R293). -/
structure FetchS where
  /-- Pool tacks granted to a class ahead of the reads that will use them (R270). -/
  granted : List (Nat × Nat) := []
  /-- Classes with a request that waits for a tack, and the class that the round robin served last (R270). -/
  waiting : List Nat := []
  served : Nat := 7
  /-- Channels under a full training of the whole controller, or of one channel alone (R282, R431). -/
  training : List Nat := []
  /-- The training in progress covers every effective channel. -/
  full : Bool := false
  /-- What the last full training took of MEM_CFG (R299): RATE, RATEMIN, a reserved DENS, RETRAIN and the capacity. -/
  rate : Nat := 0
  rateMin : Nat := 0
  densBad : Bool := false
  retrain : Nat := 0
  capu : Nat := 0
  /-- The effective set and map that the GDDR7 contents belong to (R281): CHEFF × 2 + MAPLIN. -/
  mapKey : Option Nat := none
  /-- Channels that a fence has cut off and that have not become READY after a training since (R692). -/
  cut : List Nat := []
  deriving DecidableEq, Repr

/-- The PCI Express endpoint beyond its registers (R319, R320). -/
structure EpS where
  /-- Bits of its configuration words that were written or that it has set, by byte offset. -/
  conf : List (Nat × Nat) := []
  /-- Words of the MSI-X table, by index; a vector's control word is 1 at reset. -/
  table : List (Nat × Nat) := []
  /-- Vectors of mailbox messages that wait (R397). -/
  box : List Nat := []
  /-- The last MSI-X message sent: its address and data. -/
  sent : Option (Nat × Nat) := none
  /-- The time base when PERST_N was released. -/
  released : Option Nat := none
  deriving DecidableEq, Repr

/-- The lanes beyond their registers (R308–R327). -/
structure LanesS where
  /-- With CLKMODE 0b10, no WP0 lane is locked (R317). -/
  refLost : Bool := false
  /-- Ports whose DisplayPort or eDP training runs (R322). -/
  dpTrain : List Nat := []
  /-- Rate entry of the sink's link-rate table in use, per port (R321): its payload in kbit/s. -/
  ilrKbps : List (Nat × Nat) := []
  ep : EpS := {}
  deriving DecidableEq, Repr

/-- A packet waiting at an output port (R341): where it came from (ports 0–7; 8 and up: local blocks by kind), the packet,
whether its route is ALTPORT, and for a DRESP the arrival stamp t2 (R357). -/
structure OutP where
  src : Nat
  pkt : WeltPkt
  alt : Bool
  stamp : Nat
  deriving DecidableEq, Repr

/-- A packet delivered locally that its block has not taken yet: the port of arrival (none: this device), and the arrival
stamp in 1/65,536 of a tick (R357). -/
structure InP where
  port : Option Nat
  pkt : WeltPkt
  stamp : Nat
  deriving DecidableEq, Repr

/-- What an outstanding remote request serves (R91, R355): a Sole's plane, or an access of a requester: a master's number, or
256 + n for Lace channel n. -/
inductive RemWho where
  | plane (sole lc y : Nat)
  | bus (q : Nat)
  deriving DecidableEq, Repr

/-- An outstanding TILEREQ of this device (R351), and its answer once it has come: a status and bytes. -/
structure RemReq where
  tag : Nat
  who : RemWho
  dev : Nat
  op : Nat
  off : Nat
  count : Nat
  tile : Nat
  tofs : Nat
  ans : Option (Nat × List Nat) := none
  /-- The time base when it went out (R355). -/
  sent : Nat := 0
  deriving DecidableEq, Repr

/-- The Welt fabric block beyond its registers (R337–R366). -/
structure WeltS where
  /-- Packets waiting at each output port, oldest first. -/
  queue : List (Nat × List OutP) := []
  /-- Source last served, by port × 8 + class. -/
  served : List (Nat × Nat) := []
  /-- Next link sequence number to send and to receive; the frames kept for replay, and those to resend, oldest first: the
  sequence number, the stamp t2 of a DRESP, and the packet (R338). -/
  txSeq : List (Nat × Nat) := []
  rxSeq : List (Nat × Nat) := []
  replay : List (Nat × List (Nat × Nat × WeltPkt)) := []
  resend : List (Nat × List (Nat × Nat × WeltPkt)) := []
  /-- Packets delivered locally, oldest first. -/
  inbox : List InP := []
  /-- SEQ of the next packet of each flow this device sends, by context × 2,048 + destination. -/
  flowSeq : List (Nat × Nat) := []
  /-- Contexts in the middle of a message (2,048 + n: the answers of device n), and the configuration that stays in force there (R348): words 0 and 1. -/
  mid : List Nat := []
  old : List (Nat × Nat × Nat) := []
  /-- Ticks of the last drop record, by port × 8 + reason (R346). -/
  dropAt : List (Nat × Nat) := []
  reqs : List RemReq := []
  nextTag : Nat := 0
  /-- Link delay in 1/65,536 of a tick, the departure of the last DREQ, and consecutive good SYNCs (R357, R358). -/
  delay : Int := 0
  t1 : Option Nat := none
  good : Nat := 0
  /-- The time base at the last SYNC; the frequency correction, and the part of a tick it has gained so far, both in 2⁻²⁰ ticks
  (R358). -/
  syncAt : Option Nat := none
  corr : Int := 0
  phase : Nat := 0
  /-- EPOCHLO written and not applied yet (R360). -/
  epoch : Option Nat := none
  deriving DecidableEq, Repr

/-- A reply that waits on its source's path (R397, R399, R402). -/
structure Reply where
  src : Src
  words : List Nat
  /-- ORIGIN to copy, for a Welt context (R402). -/
  origin : Nat := 0
  /-- It is the first reply to its packet (R395, R419). -/
  first : Bool := false
  deriving DecidableEq, Repr

/-- A forwarded packet that awaits its first reply (R404). -/
structure Forwarded where
  req : Req
  dest : Nat
  sent : Nat
  deriving DecidableEq, Repr

/-- A first reply that will be discarded when it arrives late (R404); `compl` marks that only its completion is still out. -/
structure LateReply where
  origin : Nat
  tag : Nat
  dest : Nat
  compl : Bool
  deriving DecidableEq, Repr

/-- The packet that Tongue has taken and runs (R395). -/
structure Running where
  req : Req
  op : Nat
  pkt : Packet
  deriving DecidableEq, Repr

/-- Tongue beyond its registers (R380–R409). -/
structure TongueS where
  /-- Replies that wait, oldest first. -/
  replies : List Reply := []
  /-- Forwarded packets without a first reply, oldest first, at most 32. -/
  forwarded : List Forwarded := []
  /-- Forwarded packets answered ACCEPTED, whose completion is still out. -/
  accepted : List Forwarded := []
  late : List LateReply := []
  /-- Packets delivered by Welt COMMAND messages and not taken yet: the context and the ORIGIN to copy. -/
  inbox : List (Nat × Nat × List Nat) := []
  /-- ORIGIN of the command that each Welt context last delivered (R402). -/
  origins : List (Nat × Nat) := []
  /-- Sessions of each ring source: counts the times its EN was written to 0 (R398). -/
  ringGen : List (Nat × Nat) := []
  /-- The POWER_STATE that waits for its completion (R447), and the UNIT_RESETs that answer at release (R430), by unit. -/
  power : Option Req := none
  resets : List (Nat × Req) := []
  /-- The packet that Tongue has taken and still runs, its accesses being out (R395). -/
  running : Option Running := none
  /-- Words in the input buffer of the serial host port, oldest first (R399). -/
  serialIn : List Nat := []
  deriving DecidableEq, Repr

/-- A fused key slot (R464). -/
structure KeySlot where
  prog : Bool := false
  revoked : Bool := false
  bad : Bool := false
  edPub : Nat := 0
  mlHash : Nat := 0
  deriving DecidableEq, Repr

/-- The fuse map and its shadow (R451, R464–R466). -/
structure FuseS where
  /-- Key slots 0–3; an unlisted slot is unprogrammed and unrevoked. -/
  slots : List (Nat × KeySlot) := []
  /-- The rollback counter, 0–63. -/
  rollback : Nat := 0
  /-- Slots as a later cold load will find them where a fuse write stayed partial (R468). -/
  next : List (Nat × KeySlot) := []
  /-- Vendor and Device ID, and Subsystem IDs, of the PCI Express endpoint (R319). -/
  pcieId : Nat := 0
  pcieSub : Nat := 0
  /-- Fuse bits of the register fields whose Cold column says "fuse", by register key. -/
  regs : List (Nat × Nat) := []
  deriving DecidableEq, Repr

/-- An IMAGE_VERIFY accepted and not complete (R481). -/
structure VerJob where
  req : Req
  kind : Nat
  load : Bool
  addr : Nat
  deriving DecidableEq, Repr

/-- The signature pair in the making (R254, R463, R484): the request and the body to sign. -/
structure SignJob where
  req : Req
  body : List Nat
  deriving DecidableEq, Repr

/-- A request for the verification path (R463, R515). -/
inductive VerUser where
  | image | last
  | core (n : Nat)
  deriving DecidableEq, Repr

/-- The security engine beyond its registers (R463–R485). -/
structure SecS where
  /-- Words of the manifest buffer (R476). -/
  buf : List Nat := []
  /-- The next entry of the manifest to load (R475). -/
  entry : Nat := 0
  /-- A copy or an entry was rejected in this boot sequence (R480). -/
  rejected : Bool := false
  /-- The copy being read is the secondary one (R476). -/
  second : Bool := false
  /-- The IMAGE_VERIFY with LOAD at 1 that the loading completes (R481). -/
  loadReq : Option Req := none
  verify : Option VerJob := none
  /-- Requests for the verification path in the order in which they were accepted (R463). -/
  path : List VerUser := []
  sign : Option SignJob := none
  /-- Identity of the accepted boot manifest (R479). -/
  manId : Option Nat := none
  /-- Contexts 2 and 3 were set up (R478). -/
  ctxSet : Bool := false
  /-- The fuse write in progress: OP, ARG and the key record (R466). -/
  fuse : Option (Nat × Nat × List Nat) := none
  /-- Image identity of the program that each core runs (R516). -/
  progId : List (Nat × Nat) := []
  deriving DecidableEq, Repr

/-- An Awl core beyond its registers (R495, R510, R532–R536). -/
structure CoreS where
  /-- General cells G0–G15; an unlisted cell holds NUM 0. -/
  g : List (Nat × BitVec 16) := []
  /-- Bank registers BK0–BK3. -/
  bk : List (Nat × BitVec 20) := []
  /-- Iterations of the instruction at PC still to run under a REP, and whether that REP is uninterruptible. -/
  rep : Nat := 0
  repU : Bool := false
  /-- The core waits in a WFI. -/
  wfi : Bool := false
  /-- Instructions completed since the LOCK (R511). -/
  lockCnt : Nat := 0
  /-- A LOCK exception that is entered on resume (R714). -/
  lockExc : Bool := false
  /-- The PROGRAM_START in progress (R514). -/
  start : Option Req := none
  deriving DecidableEq, Repr

/-- A Lace channel beyond its registers (R538–R548). -/
structure LaceS where
  /-- Address of the descriptor to read, and the words of the one in progress: none while it is being read. -/
  next : Nat := 0
  desc : List Nat := []
  /-- Next element whose source is to be read. -/
  re : Nat := 0
  /-- Source reads issued and not answered, oldest first: address, and the clock count at which TMO has passed (R547). -/
  out : List (Nat × Nat) := []
  /-- Granules in the buffer, oldest first: address and bytes. -/
  buf : List (Nat × List Nat) := []
  /-- Next element to write, and the beat being gathered: its address and its bytes by offset. -/
  we : Nat := 0
  beat : Option (Nat × List (Nat × Nat)) := none
  /-- The clock count at which TMO has passed for the descriptor read or the write that waits (R547). -/
  limit : Option Nat := none
  deriving DecidableEq, Repr

/-- Skiver beyond its registers (R555–R567): the address of the next command, the command that was read, whether all its
writes have completed, and of the access that waits, how many answers came before it and the clock count at which TMO has
passed (R566). -/
structure SkivS where
  next : Nat := 0
  cmd : List Nat := []
  done : Bool := false
  due : Option (Nat × Nat) := none
  deriving DecidableEq, Repr

/-- Lace and Skiver: the channels, the channel the engine serves and its beats in a row (R545), Skiver, and the ticks outside
a halt that their timeouts count (R548, R567). -/
structure MoveS where
  lace : List (Nat × LaceS) := []
  cur : Nat := 0
  beats : Nat := 0
  skiver : SkivS := {}
  clock : Nat := 0
  deriving DecidableEq, Repr

/-- A key event in the queue (R581): a register event has no stamp. -/
structure KeyEv where
  voice : Nat
  on : Bool
  stamp : Option Nat
  deriving DecidableEq, Repr

/-- A pair of gains with their pending values (R590): when the first pending write of each channel came, and the previous
signals. -/
structure GainS where
  l : Nat := 0
  r : Nat := 0
  pl : Option Nat := none
  pr : Option Nat := none
  tl : Nat := 0
  tr : Nat := 0
  sl : Int := 0
  sr : Int := 0
  deriving DecidableEq, Repr

/-- A voice (R576–R582): STATE, E, P, phase, noise register, the mix bus in force and the gains; no gains are those of the voice
table. -/
structure VoiceS where
  st : Nat := 0
  env : Nat := 0
  pos : Nat := 0
  phase : Nat := 0
  noise : Nat := 0
  bus : Nat := 0
  gain : Option GainS := none
  deriving DecidableEq, Repr

/-- A rate domain (R583, R584): it runs, samples of the current block played, block number, port source lost, and the
current block is late (R597); a halt or a fence makes it wait for its next block boundary (R598, R692). -/
structure DomS where
  run : Bool := false
  smp : Nat := 0
  block : Nat := 0
  lost : Bool := false
  late : Bool := false
  wait : Bool := false
  deriving DecidableEq, Repr

/-- An audio receiver (R595): the blocks held by number, the next block to play, and a first half that waits. -/
structure AudRxS where
  blocks : List (Nat × List (Int × Int)) := []
  next : Option Nat := none
  half : Option (Nat × List (Int × Int)) := none
  playing : List (Int × Int) := []
  deriving DecidableEq, Repr

/-- The dynamics of an output bus (R587, R588): env in 2⁻⁴⁰ dB, −96 dB to begin with, and gl in 2⁻⁴⁰, 1 to begin with. -/
structure DynS where
  env : Int := -96 * 2 ^ 40
  gl : Nat := 2 ^ 40
  deriving DecidableEq, Repr

/-- The sound engine beyond its registers and the voice table. -/
structure AudioS where
  keys : List KeyEv := []
  /-- Ticks of the last key-drop and late-block records (R581, R597). -/
  dropAt : Option Nat := none
  lateAt : Option Nat := none
  voices : List (Nat × VoiceS) := []
  /-- Gains of the mix buses and the receivers since a write: one that is not listed is its register's. -/
  mixGain : List (Nat × GainS) := []
  rxGain : List (Nat × GainS) := []
  doms : List (Nat × DomS) := []
  rx : List (Nat × AudRxS) := []
  /-- Detector and limiter state of each output bus (R587, R588). -/
  dyn : List (Nat × DynS) := []
  /-- Samples of the current block of each output bus, and its last whole block. -/
  cur : List (Nat × List (Int × Int)) := []
  out : List (Nat × List (Int × Int)) := []
  /-- What the sinks send of the current block: the frames of each I2S/TDM port as slot words (R592, R593), and of each output
  bus that sends DisplayPort audio the port and the samples (R596). -/
  ports : List (Nat × List (List Nat)) := []
  dp : List (Nat × Nat × List (Int × Int)) := []
  /-- While samples are rendered: the ends of the bursts to come, a tack was taken, and a read waits. -/
  ends : List BurstEnd := []
  turn : Bool := false
  waits : Bool := false
  deriving DecidableEq, Repr

/-- A tracked touch point (R615). -/
structure TouchPt where
  id : Nat
  x : Nat
  y : Nat
  deriving DecidableEq, Repr

/-- An Insole front end beyond its registers (R608–R616). Nodes are numbered row × 64 + column; the self results follow,
S0–S63 from 6,144 and D0–D95 from 6,208. -/
structure FeS where
  /-- Number of the next report since EN went to 1. -/
  scan : Nat := 0
  /-- A scan frame is in progress, and the head and slot of the Last it runs under. -/
  active : Bool := false
  under : Nat × Nat := (0, 0)
  /-- The window line of the last slots, as frame and line, and the slots it has had. -/
  lineAt : Option (Nat × Nat) := none
  used : Nat := 0
  /-- Converter results of the scan frame, and the baselines. -/
  raw : List (Nat × Nat) := []
  base : List (Nat × Nat) := []
  /-- The next complete frame loads the baselines, and that load is automatic (RECALEV). -/
  load : Bool := true
  auto : Bool := false
  /-- Consecutive frames with more than 64 nodes below −THR, and frames since the last load. -/
  neg : Nat := 0
  since : Nat := 0
  /-- Points of the previous frame, and points whose up report is still due. -/
  prev : List TouchPt := []
  ups : List TouchPt := []
  /-- The last step has ended: the time base and OVERT then. -/
  done : Option (Nat × Bool) := none
  deriving DecidableEq, Repr

/-- A heater beyond its registers (R625, R626). -/
structure HeaterS where
  gate : Bool := false
  /-- Consecutive periods with a trip, and a trip in this period. -/
  trips : Nat := 0
  tripNow : Bool := false
  /-- Consecutive periods that ended below IMIN, and this one did. -/
  low : Nat := 0
  lowNow : Bool := false
  deriving DecidableEq, Repr

/-- Insole and Shank beyond their registers. -/
structure PanelS where
  fes : List (Nat × FeS) := []
  /-- The latest codes of TH0–TH7 and the time base when they came, and thermistors whose code is more than 100 ms old (R621). -/
  th : List (Nat × Nat) := []
  thAt : Nat := 0
  stale : List Nat := []
  als : List (Nat × Nat) := []
  /-- Applied duty of each backlight channel (R624), and the pulse it puts out in this PWM period: its delay and its length in pixel
  periods (R623). -/
  applied : List (Nat × Nat) := []
  pwm : List (Nat × Nat × Nat) := []
  /-- The time base at the last KEEP write (R626). -/
  keptAt : Nat := 0
  heaters : List (Nat × HeaterS) := []
  /-- The panel-temperature condition holds, with its hysteresis (R626). -/
  hot : Bool := false
  deriving DecidableEq, Repr

/-- An eyelet's input beyond its register (R672): consecutive samples that agree with the last one, and the level that
counts. -/
structure EyeS where
  run : Nat := 0
  lvl : Bool := false
  /-- The level at which the input of FUNC 1 froze when the eyelet left that function (R675). -/
  frozen : Option Bool := none
  deriving DecidableEq, Repr

/-- A service peripheral's FIFOs, oldest byte first (R677, R678), and an I2C bus held by a command without STOP. -/
structure PerS where
  tx : List Nat := []
  rx : List Nat := []
  held : Bool := false
  deriving DecidableEq, Repr

/-- The debug port and run control beyond their registers (R703–R716). -/
structure DebugS where
  /-- The outstanding nonce, byte 0 lowest (R708). -/
  nonce : Option Nat := none
  /-- Ticks for which CHALLENGE still answers BUSY (R708). -/
  busy : Nat := 0
  /-- Bytes of the unlock buffer (R709). -/
  buf : List (Nat × Nat) := []
  /-- The core that runs a step, and whether its instruction has completed (R716). -/
  step : Option Nat := none
  stepped : Bool := false
  deriving DecidableEq, Repr

/-- The state of the device. -/
structure State where
  /-- Registers by key; an unlisted register holds its Cold value (RegTable). -/
  regs : List (Nat × RegVal)
  /-- Bytes by 40-bit system address; an unlisted byte reads 0. -/
  mem : List Host.Cell
  /-- What the last direct access returned. -/
  bus : BusAns
  /-- Commands that are waiting, first in, first out. -/
  pending : List Instr
  /-- Free values drawn so far: the model's own counter. -/
  fresh : Nat
  hub : Hub
  icu : Icu
  time : TimeS
  rst : ResetS
  pace : PaceS
  last : LastS
  pict : PictS
  fetch : FetchS
  lanes : LanesS
  welt : WeltS
  tongue : TongueS
  fuses : FuseS
  sec : SecS
  cores : List (Nat × CoreS)
  move : MoveS
  audio : AudioS
  panel : PanelS
  eyes : List (Nat × EyeS)
  pers : List (Nat × PerS)
  dbg : DebugS
  deriving DecidableEq, Repr

/-- The device's faults all go to its fault hub (R682), so no step ends in a fault. -/
inductive Fault where
  /-- Raised by nothing: every fault of the spec is a record of the fault hub and the machine goes on. Safe. -/
  | unused
  deriving DecidableEq, Repr

/-- The reasons for which a step has no meaning. -/
inductive Refusal where
  /-- Raised by an arm of `exec` whose command has no meaning yet. Safe. -/
  | notModelled (mnemonic : String)
  deriving DecidableEq, Repr

/-- The machine inside the power-on episode (R423, R424): the power-on source is asserted, every register holds its Cold
value, nothing is stored, and the command RESET_RELEASE ends the episode (R426). -/
def State.reset : State where
  regs := []
  mem := []
  bus := .idle
  pending := []
  fresh := 0
  hub := {}
  icu := {}
  time := {}
  rst := { asserted := [.por], causes := [.por] }
  pace := {}
  last := {}
  pict := {}
  fetch := {}
  lanes := {}
  welt := {}
  tongue := {}
  -- PWR_PACEFUSE as R45 gives it for every B0 part (FLOOR 160, AWLFLOOR 250, DERATE 92); IDPROV of SEC_KEYSTAT
  fuses := { regs := [(0x2000C, 0x8000000), (0x30054, 92 * 2 ^ 16 + 250 * 2 ^ 8 + 160)] }
  sec := {}
  cores := []
  move := {}
  audio := {}
  panel := {}
  eyes := []
  pers := []
  dbg := {}

end Sys2Proof.Machine
end

