-- ==== Sys2Proof/Machine/Ops.lean ====
section
/-! DEFINITION. The named operations over the registers and the memories: the sparse register file with its fields,
bytes and words of memory, power domains, and raising an interrupt source. -/
namespace Sys2Proof.Machine

/-! ## Registers -/

/-- Value with the `w` bits from bit `lo` up replaced by `x`. -/
def putBits (v lo w x : Nat) : Nat := v - v / 2 ^ lo % 2 ^ w * 2 ^ lo + x % 2 ^ w * 2 ^ lo

/-- The value a reset column gives, where it gives one. -/
def Rst.nat : Rst → Nat
  | .val n => n
  | _ => 0

/-- The Cold value of a register (R12): the fuse map loads the fields marked "fuse" when the episode is released. -/
def coldNat (k : Nat) : Nat :=
  match specAt k with
  | none => 0
  | some r => r.fields.foldl (fun a f => a + f.cold.nat * 2 ^ f.lo) 0

/-- The value that an unlisted register holds. -/
def coldWord (k : Nat) : RegVal := BitVec.ofNat 28 (coldNat k)

/-- The value of the register at key `k`. -/
def State.reg (s : State) (k : Nat) : RegVal :=
  match tabFind s.regs k with
  | some v => v
  | none => coldWord k

/-- Set the register at key `k`. -/
def State.setReg (s : State) (k : Nat) (v : RegVal) : State :=
  { s with regs := tabPut (coldWord k) s.regs k v }

/-- The value of a register field. -/
def State.get (s : State) (f : Fd) : Nat := (s.reg f.key).toNat / 2 ^ f.lo % 2 ^ f.w

/-- A one-bit field as a Bool. -/
def State.flag (s : State) (f : Fd) : Bool := s.get f != 0

/-- Set a register field to the low bits of `x`. -/
def State.set (s : State) (f : Fd) (x : Nat) : State :=
  s.setReg f.key (BitVec.ofNat 28 (putBits (s.reg f.key).toNat f.lo f.w x))

/-- Set a one-bit field. -/
def State.setB (s : State) (f : Fd) (b : Bool) : State := s.set f (b2n b)

/-- Count one in a field that saturates at `top`. -/
def State.bump (s : State) (f : Fd) (top : Nat) : State :=
  if s.get f < top then s.set f (s.get f + 1) else s

/-- Raise a field to `x` where it is lower (a peak). -/
def State.raiseTo (s : State) (f : Fd) (x : Nat) : State := if s.get f < x then s.set f x else s

/-- The whole value of a register as a number. -/
def State.regN (s : State) (k : Nat) : Nat := (s.reg k).toNat

/-- Set a whole register from a number. -/
def State.setRegN (s : State) (k : Nat) (v : Nat) : State := s.setReg k (BitVec.ofNat 28 v)

/-- The field in the frame copy of its register (R175). -/
def Fd.frame (f : Fd) : Fd := { f with key := frameBase + f.key }
/-- The field in the active copy of its register (R131, R175). -/
def Fd.act (f : Fd) : Fd := { f with key := activeBase + f.key }

/-- What a write of `v` leaves in the bits of one field (R11). -/
def writeField (old v : Nat) (f : FieldSpec) : Nat :=
  let o := nbits old f.hi f.lo
  let x := nbits v f.hi f.lo
  let n := match f.acc with
    | .rw => x
    | .ro => o
    | .wo => 0
    | .w1c => Nat.land o (Nat.xor x (2 ^ (f.hi + 1 - f.lo) - 1))
    | .w1s => Nat.lor o x
    | .rc => o
  n * 2 ^ f.lo

/-- A write of `v` to a register by the access types of R11; reserved bits are ignored (R10). -/
def writeByAccess (k : Nat) (old v : Nat) : Nat :=
  match specAt k with
  | none => old
  | some r => r.fields.foldl (fun a f => a + writeField old v f) 0

/-- The plain write of a register. -/
def State.plainWrite (s : State) (k : Nat) (v : Nat) : State := s.setRegN k (writeByAccess k (s.regN k) v)

/-- What a read leaves: RC fields are cleared (R11). -/
def afterRead (k : Nat) (old : Nat) : Nat :=
  match specAt k with
  | none => old
  | some r => r.fields.foldl (fun a f => a + (if f.acc = .rc then 0 else nbits old f.hi f.lo * 2 ^ f.lo)) 0

/-- What a register read returns: WO fields read as zero (R11). -/
def readMask (k : Nat) (old : Nat) : Nat :=
  match specAt k with
  | none => 0
  | some r => r.fields.foldl (fun a f => a + (if f.acc = .wo then 0 else nbits old f.hi f.lo * 2 ^ f.lo)) 0

/-! ## Memory -/

/-- The canonical form of memory: addresses strictly rising, and no entry equal to what an unlisted address reads as. -/
def Memory.wf (m : List Host.Cell) : Bool := tabWf (fun _ => 0#8) m

/-- The canonical form of the register file: keys strictly rising, and no entry equal to the register's Cold value. -/
def Registers.wf (r : List (Nat × RegVal)) : Bool := tabWf coldWord r

/-- The byte at a system address; a byte nothing has written reads 0 (DESIGN CHOICE, log entry 2). -/
def State.byte (s : State) (a : Nat) : Nat := (tabGet 0#8 s.mem a).toNat

/-- Store a byte. -/
def State.setByte (s : State) (a : Nat) (v : Nat) : State := { s with mem := tabPut 0#8 s.mem a (BitVec.ofNat 8 v) }

/-- `n` bytes, little-endian, as a number (R13). -/
def State.bytesLE (s : State) (a : Nat) : Nat → Nat
  | 0 => 0
  | n + 1 => s.byte a + 256 * s.bytesLE (a + 1) n

/-- Store the low `n` bytes of a number, little-endian. -/
def State.putLE (s : State) (a : Nat) : Nat → Nat → State
  | 0, _ => s
  | n + 1, v => (s.setByte a (v % 256)).putLE (a + 1) n (v / 256)

/-- The 32-bit word at an address (R13). -/
def State.word (s : State) (a : Nat) : Nat := s.bytesLE a 4
/-- Store a 32-bit word. -/
def State.setWord (s : State) (a v : Nat) : State := s.putLE a 4 v

/-- Store words at ascending addresses. -/
def State.setWords (s : State) (a : Nat) : List Nat → State
  | [] => s
  | v :: t => (s.setWord a v).setWords (a + 4) t

/-- `n` words from ascending addresses. -/
def State.words (s : State) (a : Nat) : Nat → List Nat
  | 0 => []
  | n + 1 => s.word a :: s.words (a + 4) n

/-- `n` bytes from ascending addresses. -/
def State.byteList (s : State) (a : Nat) : Nat → List Nat
  | 0 => []
  | n + 1 => s.byte a :: s.byteList (a + 1) n

/-- Store bytes at ascending addresses. -/
def State.setBytes (s : State) (a : Nat) : List Nat → State
  | [] => s
  | v :: t => (s.setByte a v).setBytes (a + 1) t

/-- The memory from `lo` to below `hi` is lost: it reads as memory nothing has written (R451, log entry 3). -/
def State.loseMem (s : State) (lo hi : Nat) : State :=
  { s with mem := tabDrop (fun a => decide (lo ≤ a) && decide (a < hi)) s.mem }

/-! ## Power domains (R444) -/

/-- Is a power domain on? Domain numbers are those of R444. -/
def State.domOn (s : State) (d : Nat) : Bool := nbit (s.get Fd.PWR_DOMON_ON) d

/-- The SOLEG domain of a Sole or head. -/
def solegOf (n : Nat) : Nat := 7 + n / 4
/-- The LANEG domain of a port. -/
def lanegOf (p : Nat) : Nat := 12 + p / 2
/-- The AWL domain of a core. -/
def awlDomOf (n : Nat) : Nat := 4 + n / 2

/-- A reset episode of cold or warm reach is in progress (R424). -/
def State.inEpisode (s : State) : Bool := !s.rst.asserted.isEmpty

/-- Is a unit in reset: its unit reset is held or pulsed, or an episode runs? -/
def State.unitInReset (s : State) (u : Nat) : Bool := s.inEpisode || s.rst.held.contains u || s.rst.pulsed.contains u

/-- The fabric is frozen by a debug halt (R714). -/
def State.halted (s : State) : Bool := s.flag Fd.DBG_RUN_HALTED

/-! ## Interrupt sources (R639) -/

/-- Sources that are never pending. -/
def srcReserved (n : Nat) : Bool :=
  (decide (12 ≤ n) && decide (n ≤ 23)) || (decide (138 ≤ n) && decide (n ≤ 143)) ||
  (decide (179 ≤ n) && decide (n ≤ 191)) || (decide (214 ≤ n) && decide (n ≤ 215)) ||
  (decide (225 ≤ n) && decide (n ≤ 239)) || (decide (293 ≤ n) && decide (n ≤ 311)) || decide (384 ≤ n)

/-- Sources that are level sources. -/
def srcLevel (n : Nat) : Bool :=
  (decide (2 ≤ n) && decide (n ≤ 5)) || n == 10 || n == 11 || n == 136 || n == 137 || n == 177 || n == 178 ||
  (decide (200 ≤ n) && decide (n ≤ 205)) || (decide (216 ≤ n) && decide (n ≤ 219)) ||
  (decide (221 ≤ n) && decide (n ≤ 224)) || (decide (272 ≤ n) && decide (n ≤ 287)) ||
  (decide (312 ≤ n) && decide (n ≤ 319))

/-- The power domain of a source's unit. -/
def srcDomain (n : Nat) : Nat :=
  if 6 ≤ n ∧ n ≤ 11 then 3
  else if 24 ≤ n ∧ n ≤ 119 then solegOf ((n - 24) / 6)
  else if 120 ≤ n ∧ n ≤ 135 then solegOf (n - 120)
  else if 136 ≤ n ∧ n ≤ 137 then 6
  else if 144 ≤ n ∧ n ≤ 177 then 16
  else if n = 178 then 17
  else if 192 ≤ n ∧ n ≤ 199 then lanegOf (n - 192)
  else if 200 ≤ n ∧ n ≤ 205 then 12
  else if 206 ≤ n ∧ n ≤ 213 then lanegOf (n - 206)
  else if 216 ≤ n ∧ n ≤ 219 then 18
  else if 220 ≤ n ∧ n ≤ 224 then 19
  else 0

/-- A number put into a rising list without repeats. -/
def setAdd : List Nat → Nat → List Nat
  | [], n => [n]
  | m :: t, n => if n < m then n :: m :: t else if n = m then m :: t else m :: setAdd t n

/-- A pulse source's event occurs: its pending bit is set, whether or not the source is enabled (R639). -/
def State.raise (s : State) (n : Nat) : State :=
  if srcReserved n || !s.domOn (srcDomain n) then s
  else { s with icu := { s.icu with pend := setAdd s.icu.pend n } }

/-! ## Free values -/

/-- Draw a fresh number for an opaque free value of Config. -/
def State.draw (s : State) : State := { s with fresh := s.fresh + 1 }

/-! ## Units of the fault hub (R683) -/

def unitOf (kind idx : Nat) : Nat := kind * 1024 + idx
def uSole (n : Nat) : Nat := unitOf 0x01 n
def uHead (n : Nat) : Nat := unitOf 0x02 n
def uPort (n : Nat) : Nat := unitOf 0x03 n
def uCore (n : Nat) : Nat := unitOf 0x04 n
def uLace (n : Nat) : Nat := unitOf 0x05 n
def uSkiver : Nat := unitOf 0x06 0
def uSound : Nat := unitOf 0x07 0
def uFe (n : Nat) : Nat := unitOf 0x08 n
def uShank : Nat := unitOf 0x09 0
def uPrx (n : Nat) : Nat := unitOf 0x0A n
def uMemCh (n : Nat) : Nat := unitOf 0x0B n
def uMaster (n : Nat) : Nat := unitOf 0x10 n
def uSupply (n : Nat) : Nat := unitOf 0x11 n
def uLoop : Nat := unitOf 0x12 0
def uMem : Nat := unitOf 0x13 0
def uSec : Nat := unitOf 0x14 0
def uSwitch : Nat := unitOf 0x15 0
def uHeater (n : Nat) : Nat := unitOf 0x16 n

/-- How many indices a kind has (R384, R683). -/
def kindCount (k : Nat) : Nat :=
  match k with
  | 0x01 => 16 | 0x02 => 16 | 0x03 => 8 | 0x04 => 4 | 0x05 => 32 | 0x06 => 1 | 0x07 => 1 | 0x08 => 2 | 0x09 => 1
  | 0x0A => 4 | 0x0B => 6 | 0x10 => 30 | 0x11 => 11 | 0x12 => 1 | 0x13 => 1 | 0x14 => 1 | 0x15 => 1 | 0x16 => 4
  | _ => 0

/-- A UNIT value that names a unit; every other value is reserved (R683). -/
def unitValid (u : Nat) : Bool := decide (u % 1024 < kindCount (u / 1024))

end Sys2Proof.Machine
end

