-- ==== Sys2Proof/Machine/Faults.lean ====
section
/-! DEFINITION. The fault hub (22_faults.md): making a record from a report, escalation, fences and their lifting, the
controlled stop, acknowledging, and what the hub's registers and log show. -/
namespace Sys2Proof.Machine

/-! ## Fences (R690, R691) -/

/-- Does a fence on unit `v` hold unit `u`? A fenced master holds what uses its ID (R690). -/
def fenceCovers (v u : Nat) : Bool :=
  u == v ||
  (v / 1024 == 0x10 &&
    (let m := v % 1024
     (decide (m ≤ 0x0F) && u == uSole m) || (m == 0x10 && u / 1024 == 0x05) || (m == 0x11 && u == uSkiver) ||
     (decide (0x12 ≤ m) && decide (m ≤ 0x15) && u == uCore (m - 0x12)) || (m == 0x1A && u == uSound) ||
     (m == 0x1B && u == uSec)))

/-- Can a C2 or C3 record of a unit fence it (R690)? -/
def fenceable (u : Nat) : Bool :=
  let k := u / 1024
  let m := u % 1024
  (decide (1 ≤ k) && decide (k ≤ 0x0B)) || (decide (0x12 ≤ k) && decide (k ≤ 0x16)) ||
    (k == 0x10 && (decide (m ≤ 0x15) || m == 0x1A || m == 0x1B))

/-- The group of a unit under C3, where it has one (R690). -/
def fenceGroup (u : Nat) : Option Nat :=
  let i := u % 1024
  match u / 1024 with
  | 0x01 => some (i / 4)
  | 0x02 => some (i / 4)
  | 0x03 => some (10 + i / 2)
  | 0x04 => some (20 + i / 2)
  | 0x05 => some 30
  | 0x06 => some 30
  | 0x07 => some 31
  | 0x08 => some 32
  | 0x09 => some 33
  | 0x16 => some 33
  | 0x0A => some 34
  | 0x0B => some 35
  | 0x13 => some 35
  | 0x14 => some 36
  | 0x12 => some 37
  | 0x15 => some 38
  | 0x10 =>
    if i ≤ 0x0F then some (i / 4) else if i = 0x10 ∨ i = 0x11 then some 30
    else if 0x12 ≤ i ∧ i ≤ 0x15 then some (20 + (i - 0x12) / 2)
    else if i = 0x1A then some 31 else if i = 0x1B then some 36 else none
  | _ => none

/-- Is a unit fenced by a C3 record of its group (FLT_USTAT.GRPFENCED)? -/
def State.grpFenced (s : State) (u : Nat) : Bool :=
  s.hub.reacting.any (fun r => r.2 == 3 && (fenceGroup r.1).isSome && fenceGroup r.1 == fenceGroup u)

/-- Is a unit fenced (R691)? -/
def State.fenced (s : State) (u : Nat) : Bool :=
  s.hub.reacting.any (fun r => fenceCovers r.1 u) || s.grpFenced u

/-- Units whose state changes when a fence falls on them or lifts. -/
def fenceUnits : List Nat :=
  (List.range 16).map uHead ++ (List.range 8).map uPort ++ (List.range 4).map uCore ++ (List.range 32).map uLace ++
  [uSkiver, uSound, uLoop] ++ (List.range 4).map uHeater ++ (List.range 4).map uPrx ++ (List.range 6).map uMemCh ++ [uMem]

/-- Empty a core's stack of active sources (R645). -/
def State.emptyStack (s : State) (n : Nat) : State :=
  { s with icu := { s.icu with nested := tabErase s.icu.nested n } }

/-- A core stops in FAULTED (R507, R645), and a lock it holds breaks (R511). -/
def State.coreFaulted (s : State) (n : Nat) : State :=
  let s1 := if s.flag (Fd.AWL_STAT_LOCKED n) then
      (((s.set Fd.AWL_LOCK_HELD 0).set Fd.AWL_LOCK_CORE 0).set (Fd.AWL_STAT_LOCKED n) 0).set (Fd.AWL_STAT_LOCKBRK n) 1 else s
  (s1.set (Fd.AWL_STAT_STATE n) 4).emptyStack n

/-- Set a port's STATE; a change raises its source (R639). -/
def State.setPortState (s : State) (p st : Nat) : State :=
  if s.get (Fd.EYE_WP_STAT_STATE p) = st then s else (s.set (Fd.EYE_WP_STAT_STATE p) st).raise (192 + p)

/-! ## Lanes at rest (R308, R309, R316) -/

/-- Training in progress is abandoned (R309). -/
def State.dpAbandon (s : State) (p : Nat) : State :=
  { s with lanes := { s.lanes with dpTrain := s.lanes.dpTrain.filter (fun q => q != p) } }

/-- A lane's CDR loses lock: a scan ends with RESULT 255 (R327). -/
def State.lockLost (s : State) (n : Nat) : State :=
  let s1 := s.set (Fd.EYE_L_STAT_LOCK n) 0
  if s1.flag (Fd.EYE_L_SCAN_BUSY n) then (s1.set (Fd.EYE_L_SCAN_BUSY n) 0).set (Fd.EYE_L_SCAN_RESULT n) 255 else s1

/-- A lane's taps in use: as written with EQFRZ at 1, else as training set them (R318). -/
def State.setTaps (s : State) (n : Nat) (t : Nat × Nat × Nat) : State :=
  let (pre, post, amp) := if s.flag (Fd.EYE_L_CFG_EQFRZ n) then
      (s.get (Fd.EYE_L_CFG_TXPRE n), s.get (Fd.EYE_L_CFG_TXPOST n), s.get (Fd.EYE_L_CFG_TXAMP n)) else t
  ((s.set (Fd.EYE_L_STAT_CURPRE n) pre).set (Fd.EYE_L_STAT_CURPOST n) post).set (Fd.EYE_L_STAT_CURAMP n) amp

/-- The lanes of a port carry nothing: no lock, no checker in sync, no use, and no tap that a training set (R308, R309). -/
def State.lanesIdle (s : State) (p : Nat) : State :=
  [4 * p, 4 * p + 1, 4 * p + 2, 4 * p + 3].foldl (fun a n =>
    (((a.lockLost n).set (Fd.EYE_L_STAT_SYNC n) 0).set (Fd.EYE_L_STAT_USE n) 0).setTaps n (0, 0, 0)) s

/-- What a DisplayPort or eDP link had trained is gone (R322). -/
def State.dpForget (s : State) (p : Nat) : State :=
  [Fd.DP_WP_STAT_TRAINED p, Fd.DP_WP_STAT_RATE p, Fd.DP_WP_STAT_LANES p, Fd.DP_WP_STAT_NOFIT p, Fd.DP_WP_STAT_ILRUSE p,
    Fd.DP_WP_STAT_ILRIDX p].foldl (fun a f => a.set f 0) s

/-- A PCI Express link is no more (R320): its record is the caller's. -/
def State.pcieGone (s : State) : State :=
  if s.flag Fd.PCIE_STAT_LINKUP then
    ((((s.set Fd.PCIE_STAT_LINKUP 0).set Fd.PCIE_STAT_GEN 0).set Fd.PCIE_STAT_WIDTH 0).set Fd.PCIE_STAT_DLDOWN 1).lanesIdle 0
  else s

/-- A Lace channel enters HALTED (3) or FENCED (4): ERREV, and its interrupt where IRQEN asks for it (R550). -/
def State.laceStops (s : State) (ch st : Nat) : State :=
  let s1 := (s.set (Fd.LACE_CH_STAT_STATE ch) st).set (Fd.LACE_CH_STAT_ERREV ch) 1
  if s.flag (Fd.LACE_CH_CTL_IRQEN ch) then s1.raise (144 + ch) else s1

/-- Skiver enters HALTED (4) or FENCED (5): ERREV, and its interrupt where IRQEN asks for it (R568). -/
def State.skiverStops (s : State) (st : Nat) : State :=
  let s1 := (s.set Fd.SKIVER_STAT_STATE st).set Fd.SKIVER_STAT_ERREV 1
  if s.flag Fd.SKIVER_CTL_IRQEN then s1.raise 176 else s1

/-- Channels are cut off until they become READY after a training (R690, R692). -/
def State.cutChannels (s : State) (cs : List Nat) : State :=
  { s with fetch := { s.fetch with cut := cs.foldl setAdd s.fetch.cut } }

/-- A head's rectangles that are not compared yet stay unchecked up to its next latch point (R690, R692). -/
def State.uncheckRects (s : State) (h : Nat) : State :=
  let v := tabGet {} s.pict.heads h
  let rs := v.rects.map (fun r => if r.compared then r else { r with expect := none })
  { s with pict := { s.pict with heads := tabPut {} s.pict.heads h { v with rects := rs } } }

/-- The sinks send 0 (R598, R690). -/
def State.soundMute (s : State) : State := { s with audio := { s.audio with out := [], ports := [], dp := [] } }

/-- The engine stops within a block: its sinks send 0, and each domain renders again from its next block boundary (R598, R690,
R692). -/
def State.soundStops (s : State) : State :=
  { s.soundMute with audio := { s.soundMute.audio with doms := s.audio.doms.map (fun x => (x.1, { x.2 with wait := true })) } }

/-- What a unit does when a fence falls on it (R690). -/
def State.onFence (s : State) (u : Nat) : State :=
  let i := u % 1024
  match u / 1024 with
  | 0x02 => s.uncheckRects i
  | 0x03 =>
    if !s.domOn (lanegOf i) then s
    else
      let s1 := (((s.dpAbandon i).lanesIdle i).dpForget i).setPortState i 3
      if i = 0 then s1.pcieGone else s1
  | 0x04 => if s.domOn (awlDomOf i) then s.coreFaulted i else s
  | 0x05 => if s.domOn 16 then s.laceStops i 4 else s
  | 0x06 => if s.domOn 16 then s.skiverStops 5 else s
  | 0x07 => s.soundStops
  | 0x0B => s.cutChannels [i]
  | 0x12 => s.set Fd.PWR_PACECTL_EN 0
  | 0x13 => (s.set Fd.LAST_SLOTCAP_CAP 0).cutChannels (List.range 6)
  | _ => s

/-- A port begins in its mode (R309, R312, R692): Welt and PCI Express ports train, lane test runs its four lanes at RATE (R324), and
a DisplayPort or eDP port trains where a sink is there (R322). -/
def State.portEnters (s : State) (p : Nat) : State :=
  match s.get (Fd.EYE_WP_CFG_MODE p) with
  | 1 | 2 => s.setPortState p 1
  | 5 =>
    let s1 := (s.set (Fd.EYE_WP_STAT_RATE p) (s.get (Fd.EYE_WP_CFG_RATE p))).setPortState p 5
    [4 * p, 4 * p + 1, 4 * p + 2, 4 * p + 3].foldl (fun a n => a.set (Fd.EYE_L_STAT_USE n) 1) s1
  | 3 | 4 =>
    if s.flag (Fd.DP_WP_STAT_HPD p) then { s with lanes := { s.lanes with dpTrain := setAdd s.lanes.dpTrain p } }.setPortState p 1
    else s.setPortState p 0
  | _ => s.setPortState p 0

/-- What a unit does when its fence lifts (R692). -/
def State.onLift (s : State) (u : Nat) : State :=
  let i := u % 1024
  match u / 1024 with
  | 0x03 =>
    if !s.domOn (lanegOf i) then s
    else if s.unitInReset u then s.setPortState i 0
    else if s.flag (Fd.EYE_WP_STAT_READY i) then (s.set (Fd.EYE_WP_STAT_READY i) 0).setPortState i 2
    else s.portEnters i
  | 0x05 => if s.domOn 16 && s.get (Fd.LACE_CH_STAT_STATE i) == 4 then s.laceStops i 3 else s
  | 0x06 => if s.domOn 16 && s.get Fd.SKIVER_STAT_STATE == 5 then s.skiverStops 4 else s
  | 0x16 => s.set (Fd.SHK_HT_S_LATCH i) 0
  | 0x0A =>
    if s.flag (Fd.WELT_PRX_CFG_EN i) || s.get (Fd.WELT_PRX_STAT_STATE i) == 2 then
      { s.set (Fd.WELT_PRX_STAT_STATE i) 3 with pict := { s.pict with prx := tabErase s.pict.prx i } }
    else s
  | _ => s

/-- The effect of a change of the reacting records: fences fall and lift (R690–R692). -/
def State.withReacting (s : State) (r : List (Nat × Nat)) : State :=
  let t := { s with hub := { s.hub with reacting := r } }
  fenceUnits.foldl (fun a u =>
    if !s.fenced u && t.fenced u then a.onFence u else if s.fenced u && !t.fenced u then a.onLift u else a) t

/-! ## Records (R682–R688) -/

/-- UNACK[4:0] of a unit. -/
def State.unackOf (s : State) (u : Nat) : Nat := tabGet 0 s.hub.unack u

/-- Classes of a unit's unacknowledged NOESC records. -/
def State.noescOf (s : State) (u : Nat) : Nat := tabGet 0 s.hub.noesc u

/-- The lowest free log entry (R684). -/
def State.freeEntry (s : State) : Option Nat := (List.range 64).find? (fun e => (tabFind s.hub.log e).isNone)

/-- The lost counter of a class (R684, R699). -/
def lostField (cls : Nat) : Fd :=
  match cls with
  | 0 => Fd.FLT_LOST0_C0
  | 1 => Fd.FLT_LOST0_C1
  | 2 => Fd.FLT_LOST0_C2
  | 3 => Fd.FLT_LOST1_C3
  | _ => Fd.FLT_LOST1_C4

/-- The record that a report makes now (R682, R687). -/
def State.recordOf (s : State) (u code base detail : Nat) (forced real : Bool) : FaultRec :=
  let noesc := code == 0x11
  let esc := !noesc && decide (base < 4) && nbit (s.unackOf u) base
  { forced := forced, real := real, noesc := noesc, esc := esc, cls := base + b2n esc, base := base, unit := u,
    code := code, detail := detail % 65536, time := s.time.now, seq := s.hub.seq }

/-- Put a record into the log, or count it as lost (R684); set the unit's flags (R687). -/
def State.logRecord (s : State) (r : FaultRec) : State :=
  let h := { s.hub with
    seq := (s.hub.seq + 1) % 256,
    last := tabPut 0 s.hub.last r.unit r.code,
    unack := if r.noesc then s.hub.unack else tabPut 0 s.hub.unack r.unit (Nat.lor (s.unackOf r.unit) (2 ^ r.cls)),
    noesc := if r.noesc then tabPut 0 s.hub.noesc r.unit (Nat.lor (s.noescOf r.unit) (2 ^ r.cls)) else s.hub.noesc }
  match s.freeEntry with
  | some e => { s with hub := { h with log := tabInsert h.log e r } }
  | none => ({ s with hub := h }).bump (lostField r.cls) 255

/-- The reaction to a record (R690, R693). -/
def State.react (s : State) (r : FaultRec) : State :=
  if r.forced && !r.real && s.flag Fd.FLT_CTL_REPORTONLY then s
  else if r.cls = 2 ∨ r.cls = 3 then
    if !fenceable r.unit || s.hub.reacting.contains (r.unit, r.cls) then s else s.withReacting (s.hub.reacting ++ [(r.unit, r.cls)])
  else if r.cls = 4 then { s with hub := { s.hub with stopping := true } }
  else s

/-- A fault report: the hub makes one record in the same handshake (R682). -/
def State.reportG (s : State) (u code base detail : Nat) (forced real : Bool) : State :=
  let r := s.recordOf u code base detail forced real
  (s.logRecord r).react r

/-- A real report. -/
def State.report (s : State) (u code base detail : Nat) : State := s.reportG u code base detail false true

/-- Acknowledge class `cls` of a unit, or every class (R696), and lift what R691 lifts. -/
def State.ackUnit (s : State) (u cls : Nat) (all : Bool) : State :=
  let keep := if all then 0 else Nat.land (s.unackOf u) (Nat.xor 31 (2 ^ cls % 32))
  let quiet := if all then 0 else Nat.land (s.noescOf u) (Nat.xor 31 (2 ^ cls % 32))
  let log := s.hub.log.filter (fun e => !(e.2.unit == u && (all || e.2.cls == cls)))
  let h := { s.hub with unack := tabPut 0 s.hub.unack u keep, noesc := tabPut 0 s.hub.noesc u quiet, log := log }
  let s1 := { s with hub := h }
  s1.withReacting (s.hub.reacting.filter (fun r => !(r.1 == u && (all || r.2 == cls))))

/-- How many entries an acknowledgement frees (R696). -/
def State.ackCount (s : State) (u cls : Nat) (all : Bool) : Nat :=
  (s.hub.log.filter (fun e => e.2.unit == u && (all || e.2.cls == cls))).length

/-! ## What the hub shows -/

/-- Does the cause of a code marked "Yes" in R686 hold now for a unit (R685)? -/
def State.liveCause (s : State) (u code detail : Nat) : Bool :=
  let i := u % 1024
  match code with
  | 0x09 => u / 1024 == 0x11 && nbit (s.get Fd.PWR_SUPSTAT_LIVE) i
  | 0x15 => u / 1024 == 0x02 && s.get (Fd.HD_STAT_LOCK i) == 3
  | 0x20 =>
    let bad := fun (c : Nat) => s.get (Fd.MEM_CH_STAT_STATE c) == 4
    if s.flag Fd.MEM_STAT_MAPLIN then u / 1024 == 0x0B && bad i else u == uMem && (List.range 6).any bad
  | 0x28 => u / 1024 == 0x03 && s.get (Fd.EYE_WP_STAT_STATE i) == 3
  | 0x2A => u == uPort 0 && s.lanes.refLost
  | 0x2E => u == uSwitch && s.get Fd.WELT_TIMESTAT_STATE == 3
  | 0x2F => u / 1024 == 0x0A && s.get (Fd.WELT_PRX_STAT_STATE i) == 2
  | 0x40 => u == uShank &&
    (match detail with
     | 0 => s.flag Fd.SHK_STAT_OVERT
     | 1 => s.flag Fd.SHK_STAT_SENSFAIL
     | _ => s.flag Fd.SHK_STAT_KEEPEXP)
  | 0x42 => u / 1024 == 0x16 && s.flag (Fd.SHK_HT_S_OPEN i)
  | _ => false

/-- LIVE of a unit (FLT_USTAT, R700): some LIVE cause of it holds now. -/
def State.unitLive (s : State) (u : Nat) : Bool :=
  [0x09, 0x15, 0x20, 0x28, 0x2A, 0x2E, 0x2F, 0x42].any (fun c => s.liveCause u c 0) ||
  [0, 1, 2].any (fun d => s.liveCause u 0x40 d)

/-- Bit `c`: some unit has UNACK bit `c` set (FLT_SUM.UNACK). -/
def State.unackAll (s : State) : Nat := s.hub.unack.foldl (fun a e => Nat.lor a e.2) 0

/-- FAULT_N is driven low, and interrupt source 3 holds outside an episode (R689). -/
def State.faultPin (s : State) : Bool := decide (2 ≤ s.unackAll)

/-- FLT_SUM as it reads (R698). -/
def State.fltSum (s : State) : Nat :=
  b2n (s.faultPin || s.inEpisode) * 2 ^ 27 + b2n (s.freeEntry.isNone) * 2 ^ 26 + s.hub.log.length % 128 * 2 ^ 19 +
    s.hub.seq % 256 * 2 ^ 11 + s.unackAll % 32

/-- FLT_USTAT of a unit as it reads (R700). -/
def State.fltUstat (s : State) (u : Nat) : Nat :=
  if !unitValid u then 0
  else b2n (s.unackOf u != 0 || s.noescOf u != 0) * 2 ^ 27 + b2n (s.unitLive u) * 2 ^ 26 + b2n (s.fenced u) * 2 ^ 25 +
    b2n (s.grpFenced u) * 2 ^ 24 + s.unackOf u % 32 * 2 ^ 19 + tabGet 0 s.hub.last u % 256 * 2 ^ 8

/-- Word `w` (0–3) of log entry `e` (R684); a free entry reads as 0. -/
def State.logWord (s : State) (e w : Nat) : Nat :=
  match tabFind s.hub.log e with
  | none => 0
  | some r =>
    match w with
    | 0 => 2 ^ 31 + b2n (s.liveCause r.unit r.code r.detail) * 2 ^ 30 + b2n r.forced * 2 ^ 29 + b2n r.real * 2 ^ 28 +
        b2n r.noesc * 2 ^ 27 + r.cls % 8 * 2 ^ 24 + r.base % 8 * 2 ^ 21 + b2n r.esc * 2 ^ 20 + r.unit % 65536
    | 1 => r.code % 256 * 2 ^ 24 + r.detail % 65536
    | 2 => r.time % 2 ^ 32
    | _ => r.seq % 256 * 2 ^ 24 + r.time / 2 ^ 32 % 2 ^ 24

end Sys2Proof.Machine
end

