-- ==== Sys2Proof/Machine/Icu.lean ====
section
/-! DEFINITION. The interrupt controller and the time base (20_interrupts_timers.md): level conditions, eligibility,
acceptance, end of interrupt, hold-off, the compare and capture channels, the watchdogs and one 16 ns tick. -/
namespace Sys2Proof.Machine

/-! ## Pending sources -/

/-- SYS_EYCFG.IEV of eyelet `n` (R672): in the level modes it shows the condition on the filtered level. -/
def State.eyIev (s : State) (n : Nat) : Bool :=
  match s.get (Fd.EY_IMODE n) with
  | 4 => (tabGet {} s.eyes n).lvl
  | 5 => !(tabGet {} s.eyes n).lvl
  | _ => s.flag (Fd.EY_IEV n)

/-- The condition of a level source (R639). -/
def State.levelCond (s : State) (n : Nat) : Bool :=
  if n = 2 then s.get Fd.PWR_SUPSTAT_WARN != 0
  else if n = 3 then s.faultPin && !s.inEpisode
  else if n = 4 then s.flag Fd.SYS_DECERR1_VALID
  else if n = 5 then s.flag Fd.PWR_PACESTAT_PMBERR || s.flag Fd.PWR_PACESTAT_EMERG
  else if n = 10 then s.flag Fd.TONGUE_STAT_VALID
  else if n = 11 then s.flag Fd.TONGUE_STAT_SHERR
  else if n = 136 then s.flag Fd.MEM_ECCSTAT_VALID
  else if n = 137 then s.flag Fd.MEM_STAT_TRAINFAIL
  else if n = 177 then s.flag Fd.SKIVER_STAT_WMEV
  else if n = 178 then s.flag Fd.AUD_STAT_DOMLOSS || s.flag Fd.AUD_STAT_PLOSS || s.flag Fd.AUD_STAT_ERR
  else if n = 200 then s.flag Fd.WELT_TIMESTAT_STEP || s.flag Fd.WELT_TIMESTAT_TLOSS
  else if 201 ≤ n ∧ n ≤ 204 then s.flag (Fd.WELT_PRX_STAT_LOSTEV (n - 201))
  else if n = 205 then s.flag Fd.PCIE_STAT_DLDOWN
  else if 216 ≤ n ∧ n ≤ 217 then s.flag (Fd.INS_FE_STAT_RPTEV (n - 216)) && s.flag (Fd.INS_FE_CTL_IRQEN (n - 216))
  else if 218 ≤ n ∧ n ≤ 219 then s.flag (Fd.INS_SRX_STAT_RPTEV (n - 218))
  else if 221 ≤ n ∧ n ≤ 224 then s.flag (Fd.SHK_HT_S_LATCH (n - 221)) || s.flag (Fd.SHK_HT_S_OPEN (n - 221))
  else if 272 ≤ n ∧ n ≤ 287 then !(tabGet [] s.time.caps (n - 272)).isEmpty
  else if 312 ≤ n ∧ n ≤ 319 then (List.range 16).any (fun j => s.eyIev (16 * (n - 312) + j))
  else false

/-- Is a source pending (R639)? A level source follows its condition; a source of a domain that is off is not pending. -/
def State.srcPending (s : State) (n : Nat) : Bool :=
  !srcReserved n && s.domOn (srcDomain n) &&
    (if srcLevel n then s.levelCond n else s.icu.pend.contains n)

/-- The active sources of core `n`, innermost first. -/
def State.stackOf (s : State) (n : Nat) : List Nat := tabGet [] s.icu.nested n

/-- Is a source active on any target? -/
def State.srcActive (s : State) (n : Nat) : Bool :=
  s.icu.nested.any (fun e => e.2.contains n) || s.icu.host.any (fun e => e.2 == n)

/-- ICU_GRPg_HOLD.HELD: the group's hold-off runs. -/
def State.groupHeld (s : State) (g : Nat) : Bool := s.flag (Fd.ICU_GRP_HOLD_HELD g)

/-- Group priority of a source on core `c`: PRI >> BP (R640). -/
def State.groupPri (s : State) (c src : Nat) : Nat := s.get (Fd.SRC_PRI src) / 2 ^ s.get (Fd.ICU_TGT_CFG_BP c)

/-- What R641 and R646 ask of a source of target `t` whatever the target's own state. -/
def State.offered (s : State) (t src : Nat) : Bool :=
  s.srcPending src && s.flag (Fd.SRC_EN src) && s.get (Fd.SRC_TGT src) == t && !s.srcActive src &&
    !s.flag Fd.ICU_CTL_GDIS && !s.groupHeld (src / 24)

/-- Is a source eligible for core `c` (R641)? -/
def State.eligible (s : State) (c src : Nat) : Bool :=
  s.offered c src &&
    (match s.stackOf c with
     | [] => true
     | top :: rest => decide (rest.length + 1 < 16) && decide (s.groupPri c src < s.groupPri c top))

/-- The better of two sources: lower PRI, then lower number (R641). -/
def State.betterSrc (s : State) (a : Option Nat) (n : Nat) : Option Nat :=
  match a with
  | none => some n
  | some m => if s.get (Fd.SRC_PRI n) < s.get (Fd.SRC_PRI m) then some n else some m

/-- The best eligible source of core `c`. -/
def State.bestSrc (s : State) (c : Nat) : Option Nat :=
  ((List.range 384).filter (fun n => s.eligible c n)).foldl s.betterSrc none

/-- The best source of MSI-X vector `v` while the vector is idle (R646). -/
def State.bestHost (s : State) (v : Nat) : Option Nat :=
  if (tabFind s.icu.host v).isSome then none
  else ((List.range 384).filter (fun n => s.offered 4 n && s.get (Fd.SRC_VEC n) == v)).foldl s.betterSrc none

/-- Clear a pulse source's pending bit. -/
def State.clearPend (s : State) (n : Nat) : State :=
  if srcLevel n then s else { s with icu := { s.icu with pend := s.icu.pend.filter (fun m => m != n) } }

/-- Start the hold-off of a group (R647). HOLD 0 turns it off. -/
def State.startHold (s : State) (g : Nat) : State :=
  let h := s.get (Fd.ICU_GRP_HOLD_HOLD g)
  if h = 0 then s
  else { s.set (Fd.ICU_GRP_HOLD_HELD g) 1 with
          icu := { s.icu with hold := tabInsert s.icu.hold g (h * 64) } }

/-- A core accepts a source (R642). -/
def State.acceptSrc (s : State) (c src : Nat) : State :=
  ({ s with icu := { s.icu with nested := tabInsert s.icu.nested c (src :: s.stackOf c) } }.clearPend src).startHold (src / 24)

/-- The host accepts a source as its MSI-X message is issued (R646). -/
def State.acceptHost (s : State) (v src : Nat) : State :=
  ({ s with icu := { s.icu with host := tabInsert s.icu.host v src } }.clearPend src).startHold (src / 24)

/-- The end of an interrupt on target `t` (R643, R646). -/
def State.eoi (s : State) (t src : Nat) : State :=
  if t = 4 then
    match s.icu.host.find? (fun e => e.2 == src) with
    | some e => { s with icu := { s.icu with host := tabErase s.icu.host e.1 } }
    | none => s.set (Fd.ICU_TGT_STAT_ERR t) 1
  else
    match s.stackOf t with
    | top :: rest =>
      if top = src then { s with icu := { s.icu with nested := tabPut [] s.icu.nested t rest } }
      else s.set (Fd.ICU_TGT_STAT_ERR t) 1
    | [] => s.set (Fd.ICU_TGT_STAT_ERR t) 1

/-- The source a CLAIM register shows (R643, R646). -/
def State.claimed (s : State) (t : Nat) : Option Nat :=
  if t = 4 then tabFind s.icu.host (s.get (Fd.ICU_TGT_CFG_VIDX 4)) else (s.stackOf t).head?

/-- A CLAIM register as it reads (R662). -/
def State.claimVal (s : State) (t : Nat) : Nat :=
  match s.claimed t with
  | some n => 2 ^ 27 + n
  | none => 0

/-- A read of CLAIM that finds a level source's condition gone counts in ICU_GONECNT (R644). -/
def State.claimRead (s : State) (t : Nat) : State :=
  match s.claimed t with
  | some n => if srcLevel n && !s.levelCond n then s.bump Fd.ICU_GONECNT_COUNT 0xFFFFFFF else s
  | none => s

/-- ICU_TGTt_STAT as it reads (R662). -/
def State.tgtStat (s : State) (t : Nat) : Nat :=
  s.get (Fd.ICU_TGT_STAT_ERR t) * 2 ^ 27 +
    (if t = 4 then s.icu.host.length % 32 * 2 ^ 8 + 0xFF
     else (s.stackOf t).length % 32 * 2 ^ 8 +
      (match s.stackOf t with
       | top :: _ => s.get (Fd.SRC_PRI top)
       | [] => 0xFF))

/-- ICU_PENDg as it reads (R660). -/
def State.pendWord (s : State) (g : Nat) : Nat :=
  (List.range 24).foldl (fun a j => a + b2n (s.srcPending (24 * g + j)) * 2 ^ j) 0

/-- A source's configuration as ICU_SRCCFG shows it (R659). -/
def State.srcCfg (s : State) (n : Nat) : Nat :=
  s.get (Fd.SRC_EN n) * 2 ^ 27 + b2n (s.srcPending n) * 2 ^ 26 + b2n (s.srcActive n) * 2 ^ 25 +
    b2n (srcLevel n) * 2 ^ 24 + s.get (Fd.SRC_TGT n) * 2 ^ 21 + s.get (Fd.SRC_VEC n) * 2 ^ 15 + s.get (Fd.SRC_PRI n)

/-- Write ICU_SRCCFG for source `n` (R659); false when refused. -/
def State.srcCfgOk (s : State) (n v : Nat) : Bool :=
  !srcReserved n && decide (nbits v 23 21 ≤ 4) &&
    (!s.srcActive n || (nbits v 23 21 == s.get (Fd.SRC_TGT n) && nbits v 20 15 == s.get (Fd.SRC_VEC n)))

/-! ## Time base, compare and capture -/

def timeMod : Nat := 2 ^ 56

/-- CMP of a compare channel (R652). -/
def State.cmpOf (s : State) (k : Nat) : Nat := s.get (Fd.CMPHI_CMP k) * 2 ^ 28 + s.get (Fd.CMPLO_CMP k)

/-- Set CMP of a compare channel. -/
def State.setCmp (s : State) (k v : Nat) : State := (s.set (Fd.CMPLO_CMP k) (v % 2 ^ 28)).set (Fd.CMPHI_CMP k) (v / 2 ^ 28)

/-- A compare channel fires (R653). -/
def State.fireCmp (s : State) (k : Nat) (step : Bool) : State :=
  let s1 := ((s.set (Fd.CMPCTL_FIRED k) 1).raise (240 + k))
  let s2 := if step then s1.set (Fd.CMPCTL_STEPF k) 1 else s1
  let tc := s2.time.tcmp
  let s3 := if k < 8 then { s2 with time := { s2.time with
      tcmp := if tc.contains k then tc.filter (fun j => j != k) else setAdd tc k } } else s2
  let s4 := { s3 with time := { s3.time with cmpDue := s3.time.cmpDue.filter (fun j => j != k) } }
  if s.flag (Fd.CMPCTL_PER k) then
    let p := max 1 (s.get (Fd.CMPCTL_PERIOD k))
    let c := s.cmpOf k
    let c1 := if c ≤ s.time.now then c + ((s.time.now - c) / p + 1) * p else c
    s4.setCmp k (c1 % timeMod)
  else s4.set (Fd.CMPCTL_EN k) 0

/-- The time base takes a new value in one handshake: a step (R651, R653). -/
def State.stepTime (s : State) (t : Nat) : State :=
  let old := s.time.now
  let s1 := { s with time := { s.time with now := t % timeMod } }
  (List.range 32).foldl (fun a k =>
    if a.flag (Fd.CMPCTL_EN k) && decide (old < a.cmpOf k) && decide (a.cmpOf k ≤ t % timeMod) then a.fireCmp k true else a) s1

/-- Does a capture channel's EDGE select an edge (R665)? -/
def edgeSel (e : Nat) (rising : Bool) : Bool := if rising then nbit e 0 else nbit e 1

/-- Stamp one channel (R655). -/
def State.captureOn (s : State) (k : Nat) : State :=
  let c := tabGet [] s.time.caps k
  if c.length < 2 then { s with time := { s.time with caps := tabInsert s.time.caps k (c ++ [s.time.now]) } }
  else s.set (Fd.CAPCTL_OVF k) 1

/-- An edge of a trigger: every channel that selects it stamps the tick (R654). -/
def State.captureTrig (s : State) (trig : Nat) (rising : Bool) : State :=
  (List.range 16).foldl (fun a k =>
    if a.flag (Fd.CAPCTL_EN k) && a.get (Fd.CAPCTL_TRIG k) == trig && edgeSel (a.get (Fd.CAPCTL_EDGE k)) rising
    then a.captureOn k else a) s

/-- A read of TIME_CAPLO (R655): the value and the state after. -/
def State.captureRead (s : State) (k : Nat) : Nat × State :=
  match tabGet [] s.time.caps k with
  | [] => (0, s)
  | t :: rest =>
    (t % 2 ^ 28, { s with time := { s.time with caps := tabPut [] s.time.caps k rest,
                                                 capHi := tabPut 0 s.time.capHi k (t / 2 ^ 28) } })

/-- TIME_CAPCTL of a channel as it reads (R665). -/
def State.capCtl (s : State) (k : Nat) : Nat :=
  readMask (Rg.CAPCTL k) (s.regN (Rg.CAPCTL k)) - s.get (Fd.CAPCTL_COUNT k) * 2 ^ 22 +
    (tabGet [] s.time.caps k).length % 4 * 2 ^ 22

/-! ## Watchdogs -/

/-- Load a watchdog's count (R656). PERIOD 0 acts as 1. -/
def State.wdReload (s : State) (n : Nat) : State :=
  let l := max 1 (s.get (Fd.TIME_WD_CTL_PERIOD n)) * 65536
  { s.set (Fd.TIME_WD_CNT_REMAIN n) l with
      time := { s.time with wdLoad := tabPut 0 s.time.wdLoad n l, wdWarned := s.time.wdWarned.filter (fun m => m != n) } }

/-- The count at which a watchdog gives its warning, where WARN asks for one (R657, R666). -/
def State.wdWarnAt (s : State) (n : Nat) : Option Nat :=
  let l := tabGet 0 s.time.wdLoad n
  match s.get (Fd.TIME_WD_CTL_WARN n) with
  | 1 => some (l / 2)
  | 2 => some (l / 4)
  | 3 => some (l / 8)
  | _ => none

/-- A watchdog counts now (R657). -/
def State.wdCounts (s : State) (n : Nat) : Bool :=
  s.flag (Fd.TIME_WD_CTL_EN n) && !s.halted && decide (s.get Fd.PWR_STATE_STATE < 2) &&
    (n == 4 || s.get (Fd.AWL_STAT_STATE n) == 2)

/-! ## One tick -/

/-- The slow counter gathers one tick (R439): 1,024 slow cycles take 1,953,125 ticks (R441). -/
def State.slowTick (s : State) : State :=
  if s.flag Fd.RST_CAUSE_OSCFAIL then s
  else
    let f := s.rst.frac + 1024
    if f < 1953125 then { s with rst := { s.rst with frac := f } }
    else { s with rst := { s.rst with frac := f - 1953125, slow := (s.rst.slow + 1) % 2 ^ 48 } }

/-- What one tick adds to the time base, and the part of a tick gained after it: a time base that follows fabric time is slewed by
its frequency correction (R358). -/
def State.slewStep (s : State) : Nat × Nat :=
  let p : Int := (s.welt.phase : Int) + s.welt.corr
  if p < 0 then (0, (p + 2 ^ 20).toNat) else if 2 ^ 20 ≤ p then (2, (p - 2 ^ 20).toNat) else (1, p.toNat)

/-- One tick of the time base (R650), its compare matches, hold-offs and watchdog counts. -/
def State.timeTick (s : State) : State :=
  let (n, ph) := s.slewStep
  let passed := (List.range n).map (fun i => (s.time.now + 1 + i) % timeMod)
  let due := (List.range 32).filter (fun k => s.flag (Fd.CMPCTL_EN k) && passed.contains (s.cmpOf k))
  let s1 := { s with
    time := { s.time with now := (s.time.now + n) % timeMod, cmpDue := due.foldl setAdd s.time.cmpDue },
    welt := { s.welt with phase := ph },
    move := { s.move with clock := s.move.clock + (if s.halted then 0 else 1) },
    icu := { s.icu with hold := s.icu.hold.map (fun e => (e.1, e.2 - 1)) } }
  (List.range 5).foldl (fun a n =>
    if a.wdCounts n then a.set (Fd.TIME_WD_CNT_REMAIN n) (a.get (Fd.TIME_WD_CNT_REMAIN n) - 1) else a) s1

end Sys2Proof.Machine
end

