-- ==== Sys2Proof/Machine/Replies.lean ====
section
/-! DEFINITION. Owner IDs and the owner check (R394, R405), and replies to command packets (R382, R397, R398). -/
namespace Sys2Proof.Machine

/-- The owner ID of a source of packets (R394, R402). -/
def State.ownerOfSrc (s : State) (src : Src) : Nat :=
  match src with
  | .pcie => 1
  | .serial => 2
  | .core n => 3 + n.val
  | .welt ctx => s.get (Fd.FC1_BIND ctx.val) % 16

/-- The owner ID that a master's direct accesses carry (R394). -/
def ownerOfMaster (m : Nat) : Nat :=
  if 0x12 ≤ m ∧ m ≤ 0x15 then 3 + (m - 0x12) else if m = 0x17 then 1 else if m = 0x1C then 7 else 0

/-- May owner ID `o` write ownership domain `d` (R405)? -/
def State.mayWrite (s : State) (o d : Nat) : Bool :=
  s.get (Fd.OWN_OWNER d) == 0 || s.get (Fd.OWN_OWNER d) == o || o == 7

/-- A number for each source, for the sessions of its ring. -/
def srcKey : Src → Nat
  | .pcie => 0
  | .serial => 1
  | .core n => 2 + n.val
  | .welt ctx => 16 + ctx.val

/-- Key of a source's ring registers, where it has a ring: RING, CPTR, RPTR. -/
def ringKeys : Src → Option (Nat × Nat × Nat)
  | .pcie => some (Rg.PCIE_MBRING, Rg.PCIE_MBCPTR, Rg.PCIE_MBRPTR)
  | .core n => some (Rg.TONGUE_A_RING n.val, Rg.TONGUE_A_CPTR n.val, Rg.TONGUE_A_RPTR n.val)
  | _ => none

/-- Is a ring's EN 1? -/
def State.ringEn (s : State) (k : Nat) : Bool := nbit (s.regN k) 27

/-- The session of a source. -/
def State.genOf (s : State) (src : Src) : Nat := tabGet 0 s.tongue.ringGen (srcKey src)

/-- Is a source enabled to take replies (R398, R403)? -/
def State.srcEnabled (s : State) (src : Src) : Bool :=
  match ringKeys src with
  | some (r, _, _) => s.ringEn r
  | none =>
    match src with
    | .welt ctx => s.flag (Fd.FC0_EN ctx.val)
    | _ => true

/-- ORIGIN of the command that a Welt context delivered last (R402). -/
def State.originOf (s : State) (src : Src) : Nat :=
  match src with
  | .welt ctx => tabGet 0 s.tongue.origins ctx.val
  | _ => 0

/-- The request a packet makes. -/
def State.reqOf (s : State) (src : Src) (p : Packet) : Req :=
  { src := src, tag := p.tag.toNat, sel := p.sel, gen := s.genOf src, origin := s.originOf src }

/-- Words of a reply (R382). -/
def State.replyWords (s : State) (r : Req) (status : Nat) (body : List Nat) : List Nat :=
  (status * 2 ^ 24 + r.tag * 2 ^ 16 + (2 + body.length)) ::
    (s.get Fd.WELT_ID_DEVID * 2 ^ 16 + r.sel) :: body

/-- Reply words go on their source's path; a source whose session has ended gets none (R398). -/
def State.putReply (s : State) (r : Req) (ws : List Nat) (first : Bool) : State :=
  if s.srcEnabled r.src && s.genOf r.src == r.gen then
    { s with tongue := { s.tongue with replies := s.tongue.replies ++ [⟨r.src, ws, r.origin, first⟩] } }
  else s

/-- Send a reply. -/
def State.answer (s : State) (r : Req) (status : Nat) (body : List Nat) : State := s.putReply r (s.replyWords r status body) false

/-- Send the first reply to a packet that has run no accesses of its own for some time (R404, R430). -/
def State.answerFirst (s : State) (r : Req) (status : Nat) (body : List Nat) : State := s.putReply r (s.replyWords r status body) true

end Sys2Proof.Machine
end

