-- ==== Sys2Proof/Machine/Image.lean ====
section
/-! DEFINITION. Signed images (13_trust.md R459–R465): reading their words, and the checks of R460 in its order. -/
namespace Sys2Proof.Machine

/-- A reader of an image's words: byte offset from the start of the image to its 32-bit word. -/
abbrev Img := Nat → Nat

/-- The image that starts at a system address. -/
def State.img (s : State) (base : Nat) : Img := fun o => s.word (base + o)

/-- The 16-bit entry `i` of a table of half words (R84, R85). -/
def imgHalf (w : Img) (off i : Nat) : Nat := if i % 2 = 0 then w (off + i / 2 * 4) % 65536 else w (off + i / 2 * 4) / 65536

def imgLength (w : Img) : Nat := w 8
def imgRbver (w : Img) : Nat := nbits (w 16) 25 20
def imgSigoff (w : Img) : Nat := w 52
/-- KEYSLOT of the signature block (R95). -/
def imgKeyslot (w : Img) : Nat := w (imgSigoff w) % 4

/-- Byte `o` of an image. -/
def imgByte (w : Img) (o : Nat) : Nat := w (o / 4 * 4) / 256 ^ (o % 4) % 256

/-- Bytes of an image from offset `o`. -/
def imgBytes (w : Img) (o n : Nat) : List Nat := (List.range n).map (fun i => imgByte w (o + i))

/-- The signed message: bytes 0 to SIGOFF + 3 (R96). -/
def imgMessage (w : Img) : List Nat := imgBytes w 0 (imgSigoff w + 4)

/-- The image identity: the SHA3-256 digest of the signed message (R96). -/
def imgIdentity (w : Img) : Nat := sha3 (imgMessage w)

/-- Key slot `k` of the fuse-map shadow. -/
def State.keySlot (s : State) (k : Nat) : KeySlot := tabGet {} s.fuses.slots k

/-- A slot that verifies nothing: revoked, unprogrammed, or failing its fuse check (R460 check 3, R464). -/
def State.slotDead (s : State) (k : Nat) : Bool := let c := s.keySlot k; c.revoked || !c.prog || c.bad

/-- Check 4 of R460. -/
def State.edFails (s : State) (w : Img) : Bool :=
  !ed25519Ok (s.keySlot (imgKeyslot w)).edPub (imgBytes w (imgSigoff w + 4) 64) (imgMessage w)

/-- Check 5 of R460. -/
def State.mlFails (s : State) (w : Img) : Bool :=
  let pub := imgBytes w (imgSigoff w + 68) 1952
  sha3 pub != (s.keySlot (imgKeyslot w)).mlHash ||
    !mldsaOk pub (imgBytes w (imgSigoff w + 2020) 3309) (imgMessage w)

/-- Check 1 of R460 fails: MAGIC, VERSION or HDRWORDS. -/
def imgHeadBad (w : Img) (magic : Nat) : Bool := w 0 != magic || w 4 != 0x00010010

/-- Check 2 of R460 fails: LENGTH. -/
def imgLenBad (w : Img) (largest : Nat) : Bool :=
  imgLength w % 4 != 0 || decide (largest < imgLength w) || imgLength w != imgSigoff w + 5332

/-- Checks 1 to 6 of R460 for an image kind: the status and detail of the first failure. -/
def State.imageCheck (s : State) (w : Img) (magic largest : Nat) : Option (Nat × Nat) :=
  if imgHeadBad w magic then some (0x15, 0x01)
  else if imgLenBad w largest then some (0x15, 0x02)
  else if s.slotDead (imgKeyslot w) then some (0x23, 0x10)
  else if s.edFails w then some (0x20, 0x10)
  else if s.mlFails w then some (0x21, 0x10)
  else if imgRbver w < s.fuses.rollback then some (0x22, 0x10)
  else none

/-! ## The verification path (R463) -/

/-- Is a request for the path still open? -/
def State.pathLive (s : State) (u : VerUser) : Bool :=
  match u with
  | .image => s.sec.verify.isSome
  | .last => s.last.admitting.isSome
  | .core n => (tabGet {} s.cores n).start.isSome

/-- Change the security engine's own state. -/
def State.modSec (s : State) (f : SecS → SecS) : State := { s with sec := f s.sec }

/-- A request joins the path behind those accepted before it. -/
def State.joinPath (s : State) (u : VerUser) : State :=
  s.modSec (fun c => { c with path := c.path.filter (fun v => s.pathLive v && v != u) ++ [u] })

/-- Has a request the path: are those accepted before it done? -/
def State.hasPath (s : State) (u : VerUser) : Bool := ((s.sec.path.filter s.pathLive).head?.getD u) == u

end Sys2Proof.Machine
end

