-- ==== Sys2Proof/Machine/Memory.lean ====
section
/-! DEFINITION. The fetch engine's pool, and the GDDR7 controller: configuration, map, training, ECC regions and CAP
(08_fetch_memory.md), with the role sets of R19 and R277. -/
namespace Sys2Proof.Machine

/-! ## Roles (R19–R21) -/

/-- The effective role (R21): 0 console, 1 panel, 2 relay, 3 full. -/
def State.role (s : State) : Nat :=
  let o := s.get Fd.SYS_ROLE_OVR
  if o = 0 then s.get Fd.RST_STRAP_ROLE else o - 1

/-- Domains a role powers (R19), with the bit numbers of R444. -/
def roleDomains (role : Nat) (heel : Bool) : Nat :=
  match role with
  | 0 => 0x3FFFF
  | 1 => 2 ^ 0 + 2 ^ 1 + 2 ^ 2 + 2 ^ 3 + 2 ^ 4 + 2 ^ 6 + 2 ^ 7 + 2 ^ 11 + 2 ^ 12 + 2 ^ 16 + 2 ^ 17 + 2 ^ 18 + 2 ^ 19
  | 2 => 2 ^ 0 + 2 ^ 1 + 2 ^ 2 + 2 ^ 3 + 2 ^ 4 + 2 ^ 12 + 2 ^ 13 + 2 ^ 14 + 2 ^ 15 + 2 ^ 16 +
      (if heel then 2 ^ 6 + 2 ^ 7 + 2 ^ 11 + 2 ^ 17 + 2 ^ 18 + 2 ^ 19 else 0)
  | _ => 0xFFFFF

/-- The role's set of GDDR7 channels (R277). -/
def roleChannels (role : Nat) (heel : Bool) : Nat :=
  match role with
  | 0 => 0x3F
  | 1 => 0x01
  | 2 => if heel then 0x01 else 0x00
  | _ => 0x3F

/-! ## The pool (R269–R271) -/

/-- The pool class of a master (R269). -/
def poolClass (m : Nat) : Option Nat :=
  if m = 0x10 then some 0 else if m = 0x11 then some 1 else if 0x12 ≤ m ∧ m ≤ 0x15 then some 2
  else if m = 0x18 then some 3 else if m = 0x1A then some 4 else if m = 0x16 ∨ m = 0x17 then some 5
  else if m = 0x1B ∨ m = 0x1D then some 6 else if m = 0x1C then some 7 else none

def State.poolHeld (s : State) (k : Nat) : Nat := s.get (Fd.FETCH_POOL_STAT_HELD k)
def State.poolRsv (s : State) (k : Nat) : Nat := s.get (Fd.FETCH_POOL_RSV k)
def State.poolLimit (s : State) (k : Nat) : Nat := s.get (Fd.FETCH_POOL_LIMIT k)

/-- Pool tacks held by no class (R270): the pool holds 1,024. -/
def State.poolFree (s : State) : Nat := 1024 - ((List.range 8).map s.poolHeld).sum

/-- May class `k` take a tack (R270)? -/
def State.poolMay (s : State) (k : Nat) : Bool :=
  decide (s.poolHeld k < s.poolLimit k) && decide (0 < s.poolFree) &&
    (decide (s.poolHeld k < s.poolRsv k) ||
      decide ((((List.range 8).filter (fun j => j != k)).map (fun j => s.poolRsv j - s.poolHeld j)).sum < s.poolFree))

/-- Class `k` takes a tack. -/
def State.poolTake (s : State) (k : Nat) : State :=
  let h := s.poolHeld k + 1
  (s.set (Fd.FETCH_POOL_STAT_HELD k) h).raiseTo (Fd.FETCH_POOL_STAT_PEAK k) h

/-- A pool tack is freed when its answer has been delivered. -/
def State.poolFreeOne (s : State) (k : Nat) : State := s.set (Fd.FETCH_POOL_STAT_HELD k) (s.poolHeld k - 1)

/-- The class of a set that takes the next tack (R270): 3, 4, then round robin among the others, of those that may. -/
def State.poolNext (s : State) (l : List Nat) : Option Nat :=
  let able := l.filter s.poolMay
  if able.contains 3 then some 3
  else if able.contains 4 then some 4
  else ((List.range 8).map (fun i => (s.fetch.served + 1 + i) % 8)).find? (fun k => able.contains k)

/-- May a master start a GDDR7 read now (R270): its class was granted a tack, or may take one before every class that waits?
A command that has taken one (`turn`) keeps its turn. -/
def State.tackFree (s : State) (m : Nat) (turn : Bool) : Bool :=
  match poolClass m with
  | some k => tabGet 0 s.fetch.granted k != 0 || (if turn then s.poolMay k else s.poolNext (setAdd s.fetch.waiting k) == some k)
  | none => true

/-- A class waits for a tack. -/
def State.poolWait (s : State) (k : Nat) : State := { s with fetch := { s.fetch with waiting := setAdd s.fetch.waiting k } }

/-- A class that waits no longer: the round robin has served it. -/
def State.poolServed (s : State) (k : Nat) : State :=
  if s.fetch.waiting.contains k then
    { s with fetch := { s.fetch with waiting := s.fetch.waiting.filter (fun j => j != k),
                                      served := if k = 3 ∨ k = 4 then s.fetch.served else k } }
  else s

/-- A read takes a pool tack and frees it when its data is delivered (R270). -/
def State.tackUse (s : State) (m : Nat) : State :=
  match poolClass m with
  | some k =>
    if tabGet 0 s.fetch.granted k = 0 then ((s.poolServed k).poolTake k).poolFreeOne k
    else { s with fetch := { s.fetch with granted := tabMod 0 s.fetch.granted k (fun n => n - 1) } }.poolFreeOne k
  | none => s

/-- Does a write of FETCH_POOLk break R271? -/
def State.poolBad (s : State) (k v : Nat) : Bool :=
  let lim := nbits v 21 11
  let rsv := nbits v 10 0
  decide (lim < rsv) || decide (1024 < lim) ||
    decide (1024 < rsv + (((List.range 8).filter (fun j => j != k)).map s.poolRsv).sum)

/-- A write of FETCH_POOLk (R271). -/
def State.writePool (s : State) (k v : Nat) : State :=
  if s.poolBad k v then s.set (Fd.FETCH_POOL_STAT_ERR k) 1 else s.plainWrite (Rg.FETCH_POOL k) v

/-- A write of FETCH_POOLkSTAT (R295). -/
def State.writePoolStat (s : State) (k v : Nat) : State :=
  let s1 := s.plainWrite (Rg.FETCH_POOL_STAT k) v
  if nbit v 26 then s1.set (Fd.FETCH_POOL_STAT_PEAK k) (s1.poolHeld k) else s1

/-- A write of FETCH_SLnSTAT (R296). -/
def State.writeSlStat (s : State) (n v : Nat) : State :=
  if nbit v 27 then s.set (Fd.FETCH_SL_STAT_PEAK n) (s.get (Fd.FETCH_SL_STAT_HELD n)) else s

/-- A write of FETCH_SLnLAT (R297). -/
def State.writeSlLat (s : State) (n v : Nat) : State := if nbit v 27 then s.set (Fd.FETCH_SL_LAT_MAX n) 0 else s

/-- A write of FETCH_SLnLINE (R298). -/
def State.writeSlLine (s : State) (n v : Nat) : State := if nbit v 27 then s.set (Fd.FETCH_SL_LINE_PEAKG n) 0 else s

/-! ## GDDR7 configuration and map (R276–R281) -/

/-- Cch in units of 32 MiB (R276); none for a reserved density. -/
def State.channelUnits (s : State) : Option Nat :=
  let c := if s.flag Fd.MEM_CFG_CLAM then 2 else 1
  match s.get Fd.MEM_CFG_DENS with
  | 0 => some (2 * 32 * c)
  | 1 => some (3 * 32 * c)
  | _ => none

/-- The effective channel set (R277). -/
def State.effChannels (s : State) : Nat :=
  Nat.land (s.get Fd.MEM_CFG_CHEN) (roleChannels s.role (s.flag Fd.SYS_ROLE_HEELEN))

/-- Is the map linear (R277)? -/
def State.effLinear (s : State) : Bool := !(s.get Fd.MEM_CFG_MAP == 0 && s.effChannels == 0x3F)

/-- Highest effective channel plus one. -/
def topChannel (eff : Nat) : Nat := (List.range 6).foldl (fun a c => if nbit eff c then c + 1 else a) 0

/-- Installed capacity in units of 32 MiB (R278, R279). -/
def State.capacityUnits (s : State) : Nat :=
  match s.channelUnits with
  | none => 0
  | some u => if s.effLinear then topChannel s.effChannels * u else 6 * u

/-- Installed capacity in bytes, as the last training set it (MEM_STAT.CAPU). -/
def State.installed (s : State) : Nat := s.get Fd.MEM_STAT_CAPU * 2 ^ 25

/-- Cch in bytes under the map in effect. -/
def State.cchBytes (s : State) : Nat :=
  if s.flag Fd.MEM_STAT_MAPLIN then s.installed / max 1 (topChannel (s.get Fd.MEM_STAT_CHEFF)) else s.installed / 6

/-- The channel that serves a GDDR7 address (R278, R279). -/
def State.chanOf (s : State) (a : Nat) : Nat :=
  if s.flag Fd.MEM_STAT_MAPLIN then a / max 1 s.cchBytes else a / 256 % 6

/-- The ECC region that holds an address, where one is enabled there (R289). -/
def State.eccAt (s : State) (a : Nat) : Option Nat :=
  (List.range 8).find? (fun n => s.flag (Fd.MEM_ECC_EN n) &&
    decide (s.get (Fd.MEM_ECC_BASE n) * 2 ^ 25 ≤ a) &&
    decide (a < (s.get (Fd.MEM_ECC_BASE n) + s.get (Fd.MEM_ECC_SIZE n)) * 2 ^ 25))

/-- Is an address in the check area of an enabled region (R289)? -/
def State.eccCheck (s : State) (a : Nat) : Bool :=
  match s.eccAt a with
  | some n => decide (s.get (Fd.MEM_ECC_BASE n) * 2 ^ 25 + 31 * (s.get (Fd.MEM_ECC_SIZE n) * 2 ^ 25) / 32 ≤ a)
  | none => false

/-- How GDDR7 takes an access (R35, R279, R283, R284, R286, R290, R690, R692). -/
inductive GddrAcc where
  | ok | unmapped | wait
  deriving DecidableEq, Repr

def State.chState (s : State) (c : Nat) : Nat := s.get (Fd.MEM_CH_STAT_STATE c)

/-- Channels of a set as a list. -/
def chanList (eff : Nat) : List Nat := (List.range 6).filter (nbit eff)

/-- How an access to a GDDR7 address goes. -/
def State.gddrAcc (s : State) (a : Nat) : GddrAcc :=
  let eff := s.get Fd.MEM_STAT_CHEFF
  if !s.domOn 11 || decide (s.installed ≤ a) || s.fenced uMem || s.eccCheck a then .unmapped
  else
    let c := s.chanOf a
    if s.fenced (uMemCh c) || s.fetch.cut.contains c then .unmapped
    else if s.flag Fd.MEM_STAT_MAPLIN then
      if !nbit eff c || s.chState c == 4 then .unmapped
      else if s.chState c == 2 then
        (match s.eccAt a with
         | some n => if s.flag (Fd.MEM_ECC_BUSY n) then .wait else .ok
         | none => .ok)
      else .wait
    else
      if (chanList eff).any (fun k => s.chState k == 4) then .unmapped
      else if (chanList eff).all (fun k => s.chState k == 2) then
        (match s.eccAt a with
         | some n => if s.flag (Fd.MEM_ECC_BUSY n) then .wait else .ok
         | none => .ok)
      else .wait

/-! ## CAP (R280) -/

/-- Gbit/s per pin of a rate code (R276). -/
def gbitOf (code : Nat) : Nat := 20 + 4 * code

/-- Bytes per 16 ns that one channel moves: 4 × rate GB/s. -/
def chanBytes (code : Nat) : Nat := 64 * gbitOf code

/-- A channel's trained peak bandwidth: 0 before its first training (R280, R306). -/
def State.chanPeak (s : State) (c : Nat) : Nat :=
  if s.get (Fd.MEM_CH_TRAIN_TRIES c) = 0 then 0 else chanBytes (s.get (Fd.MEM_CH_STAT_RATE c))

/-- Trained peak bandwidth in bytes per 16 ns (R280), twice over so that halving is exact: the sum of the six channels in the
interleaved map, else the lowest among READY channels, those in self-refresh with them (R286). -/
def State.peak2 (s : State) : Nat :=
  let ready := (chanList (s.get Fd.MEM_STAT_CHEFF)).filter (fun c => s.chState c == 2 || s.chState c == 3)
  let ecc := (List.range 8).any (fun n => s.flag (Fd.MEM_ECC_EN n))
  let p := if !s.flag Fd.MEM_STAT_MAPLIN then ((List.range 6).map s.chanPeak).sum
    else if ready.isEmpty then 0 else ready.foldl (fun a c => min a (s.chanPeak c)) (chanBytes 3)
  if ecc then p else 2 * p

/-- The fetch engine rewrites CAP (R280, R283). -/
def State.writeCap (s : State) : State :=
  let fail := !s.flag Fd.MEM_STAT_MAPLIN && (chanList (s.get Fd.MEM_STAT_CHEFF)).any (fun c => s.chState c == 4)
  s.set Fd.LAST_SLOTCAP_CAP (if fail then 0 else s.peak2 / 2 / 24)

/-- CAP as it reads and as admission uses it (R125, R690). Between a power-on of MEMPHY and the end of its training it is the
value written before the power-off (DESIGN CHOICE, log entry 67). -/
def State.cap (s : State) : Nat := if !s.domOn 11 || s.fenced uMem then 0 else s.get Fd.LAST_SLOTCAP_CAP

/-! ## Training (R281–R286) -/

/-- All GDDR7 contents are lost (R281, R282). -/
def State.loseGddr (s : State) : State := s.loseMem 0 (0x9 * 2 ^ 32)

/-- Every effective channel is READY (MEM_STAT.READY). -/
def State.memReadyBit (s : State) : State :=
  let eff := chanList (s.get Fd.MEM_STAT_CHEFF)
  s.setB Fd.MEM_STAT_READY (!eff.isEmpty && eff.all (fun c => s.chState c == 2))

/-- A full training starts (R282): the configuration takes effect (R299) and contents are lost. -/
def State.startTraining (s : State) : State :=
  let eff := s.effChannels
  let u := s.capacityUnits
  let s1 := (((s.set Fd.MEM_STAT_CHEFF eff).setB Fd.MEM_STAT_MAPLIN s.effLinear).set Fd.MEM_STAT_CAPU u).loseGddr
  let s2 := (List.range 6).foldl (fun a c => a.set (Fd.MEM_CH_STAT_STATE c) (if nbit eff c then 1 else 5)) s1
  { s2 with fetch := { s2.fetch with training := chanList eff, full := true, rate := s.get Fd.MEM_CFG_RATE,
                                      rateMin := s.get Fd.MEM_CFG_RATEMIN, densBad := decide (2 ≤ s.get Fd.MEM_CFG_DENS),
                                      retrain := s.get Fd.MEM_CFG_RETRAIN, capu := u,
                                      mapKey := some (eff * 2 + b2n s.effLinear) } }.memReadyBit

/-- A write of MEM_CTL (R282): TRAIN starts a full training while MEMPHY is on. -/
def State.writeMemCtl (s : State) (v : Nat) : State := if nbit v 27 && s.domOn 11 then s.startTraining else s

/-- One channel trains again at the current rate (R431); its contents are lost, all of them when interleaved. -/
def State.trainChannel (s : State) (c : Nat) : State :=
  if !nbit (s.get Fd.MEM_STAT_CHEFF) c then s
  else
    let s1 := s.set (Fd.MEM_CH_STAT_STATE c) 1
    let s2 := if s.flag Fd.MEM_STAT_MAPLIN then s1.loseMem (c * s.cchBytes) ((c + 1) * s.cchBytes) else s1.loseGddr
    { s2 with fetch := { s2.fetch with training := setAdd s2.fetch.training c } }.memReadyBit

/-- The lowest rate code that a full training tries (R282). -/
def State.rateLow (s : State) : Nat := min s.fetch.rateMin s.fetch.rate

/-- Channels of the training in progress that fail: all of them with a reserved DENS (R299). -/
def State.trainBad (s : State) (fail : Nat) : List Nat := s.fetch.training.filter (fun c => nbit fail c || (s.fetch.full && s.fetch.densBad))

/-- The rate that channel `c` ends at, where `rate` is the one at which a full training passed: from RATE down to RATEMIN, and
RATEMIN where a channel fails (R282, R283). The training of one channel alone runs at its current rate (R431). -/
def State.trainRate (s : State) (rate fail c : Nat) : Nat :=
  if !s.fetch.full then s.get (Fd.MEM_CH_STAT_RATE c)
  else if (s.trainBad fail).isEmpty then max s.rateLow (min rate s.fetch.rate) else s.rateLow

/-- The end of a training, with the rate at which it passed, the channels that failed and each channel's eye results (R282,
R283). In NAP the channels enter self-refresh (R286). -/
def State.endTraining (s : State) (rate fail : Nat) (eyes : List (Nat × Nat)) : State :=
  let tr := s.fetch.training
  let bad := s.trainBad fail
  let up := if s.get Fd.PWR_STATE_STATE = 2 then 3 else 2
  let s1 := tr.foldl (fun a c =>
    let r := s.trainRate rate fail c
    let b := (a.set (Fd.MEM_CH_STAT_STATE c) (if bad.contains c then 4 else up)).set (Fd.MEM_CH_STAT_RATE c) r
    let e := (eyes[c]?).getD (0, 0)
    ((b.set (Fd.MEM_CH_TRAIN_RDEYE c) e.1).set (Fd.MEM_CH_TRAIN_WREYE c) e.2).set (Fd.MEM_CH_TRAIN_TRIES c)
      (if s.fetch.full then s.fetch.rate + 1 - r else 1)) s
  let cut := s1.fetch.cut.filter (fun c => !tr.contains c || bad.contains c || s.fenced (uMemCh c) || s.fenced uMem)
  let s2 := { s1 with fetch := { s1.fetch with training := [], full := false, cut := cut } }.memReadyBit
  let s3 := if bad.isEmpty then s2 else s2.set Fd.MEM_STAT_TRAINFAIL 1
  let s4 := if bad.isEmpty then s3
    else if s.flag Fd.MEM_STAT_MAPLIN then bad.foldl (fun a c => a.report (uMemCh c) 0x20 2 c) s3
    else s3.report uMem 0x20 3 (bad.headD 0)
  s4.writeCap

/-- READY channels enter self-refresh (R286, R287). -/
def State.selfRefresh (s : State) : State :=
  ((List.range 6).foldl (fun a c => if a.chState c = 2 then a.set (Fd.MEM_CH_STAT_STATE c) 3 else a) s).memReadyBit

/-- Self-refresh ends by a short retraining (R286), after which the channels are READY (R692). -/
def State.exitRefresh (s : State) : State :=
  let cut := s.fetch.cut.filter (fun c => s.chState c != 3 || s.fenced (uMemCh c) || s.fenced uMem)
  let s1 := { s with fetch := { s.fetch with cut := cut } }
  ((List.range 6).foldl (fun a c => if a.chState c = 3 then a.set (Fd.MEM_CH_STAT_STATE c) 2 else a) s1).memReadyBit

/-! ## ECC regions (R289–R293) -/

/-- Does a write that enables region `n` break R289? -/
def State.eccBad (s : State) (n v : Nat) : Bool :=
  let b := nbits v 23 13
  let z := nbits v 10 0
  nbit v 27 && (z == 0 || decide (s.get Fd.MEM_STAT_CAPU < b + z) ||
    ((List.range 8).filter (fun j => j != n && s.flag (Fd.MEM_ECC_EN j))).any (fun j =>
      decide (b < s.get (Fd.MEM_ECC_BASE j) + s.get (Fd.MEM_ECC_SIZE j)) && decide (s.get (Fd.MEM_ECC_BASE j) < b + z)))

/-- A write of MEM_ECCn (R289, R290). -/
def State.writeEcc (s : State) (n v : Nat) : State :=
  if s.eccBad n v then s.set Fd.MEM_STAT_CFGERR 1
  else
    let was := s.flag (Fd.MEM_ECC_EN n)
    let ob := s.get (Fd.MEM_ECC_BASE n)
    let oz := s.get (Fd.MEM_ECC_SIZE n)
    let same := ob == nbits v 23 13 && oz == nbits v 10 0
    let s1 := s.plainWrite (Rg.MEM_ECC n) v
    let chk := fun (a : State) => a.loseMem (ob * 2 ^ 25 + 31 * (oz * 2 ^ 25) / 32) ((ob + oz) * 2 ^ 25)
    if nbit v 27 then
      if was && same then s1
      else (s1.loseMem (nbits v 23 13 * 2 ^ 25) ((nbits v 23 13 + nbits v 10 0) * 2 ^ 25)).set (Fd.MEM_ECC_BUSY n) 1 |>.writeCap
    else if was then ((chk s1).set (Fd.MEM_ECC_BUSY n) 0).writeCap
    else s1

/-- An ECC error at a granule address, read for a master (R292, R293). -/
def State.eccError (s : State) (a m : Nat) (ue : Bool) : State :=
  let s1 := if ue then s.bump Fd.MEM_ECCSTAT_UECNT 2047 else s.bump Fd.MEM_ECCSTAT_CECNT 2047
  let capture := !s.flag Fd.MEM_ECCSTAT_VALID || (ue && !s.flag Fd.MEM_ECCSTAT_UE)
  let s2 := if capture then
      ((((s1.set Fd.MEM_ECCADDR0_ADDRLO (a / 64 * 64)).set Fd.MEM_ECCADDR1_ADDRHI (a / 2 ^ 28)).set
        Fd.MEM_ECCADDR1_MASTER m).setB Fd.MEM_ECCSTAT_UE ue).set Fd.MEM_ECCSTAT_VALID 1
    else s1.set Fd.MEM_ECCSTAT_OVF 1
  if ue then s2.report (uMaster m) 0x03 1 (s.chanOf a) else s2.report uMem 0x21 1 (s.chanOf a)

/-- How a GDDR7 burst for a master ends: link retries and failures (R288), and ECC errors where a region is enabled
(R289, R292). The Bool says whether the data arrived. -/
def State.burst (s : State) (a m : Nat) (e : BurstEnd) : State × Bool :=
  let c := s.chanOf a
  let ecc := (s.eccAt a).isSome
  match e with
  | .clean => (s, true)
  | .retried => (s.bump (Fd.MEM_CH_ERR_RETRY c) 0x3FFF, true)
  | .failed => (((s.bump (Fd.MEM_CH_ERR_RETRY c) 0x3FFF).bump (Fd.MEM_CH_ERR_FAIL c) 0x3FFF).eccError a m true, false)
  | .corrected => (if ecc then s.eccError a m false else s, true)
  | .uncorrectable => if ecc then (s.eccError a m true, false) else (s, true)

end Sys2Proof.Machine
end

