-- ==== Sys2Proof/Machine/LastImage.lean ====
section
/-! DEFINITION. The Last image (03_last_contract.md R81–R96): its header, head entries, line maps, class records,
remote planes, blanking windows and check rectangles, read from a Last-store slot. -/
namespace Sys2Proof.Machine

/-- First address of the Last store, and of slot `n` (R78). -/
def lastBase : Nat := 0x7FFF800000
def slotBase (n : Nat) : Nat := lastBase + n * 0x100000

/-- The image in slot `n`. -/
def State.slotImg (s : State) (n : Nat) : Img := s.img (slotBase n)

def lastMagic : Nat := 0x5453414C

/-! ## Header (R82) -/

def hdHeads (w : Img) : Nat := w 12 % 65536
def hdMargin (w : Img) : Nat := nbits (w 16) 19 10
def hdName (w : Img) : Nat := nbits (w 20) 27 0
def hdHeadOff (w : Img) : Nat := w 24
def hdRemOff (w : Img) : Nat := w 28
def hdRemCount (w : Img) : Nat := w 32 % 65536
def hdBlkOff (w : Img) : Nat := w 36
def hdBlkCount (w : Img) : Nat := w 40 % 65536
def hdRectOff (w : Img) : Nat := w 44
def hdRectCount (w : Img) : Nat := w 48 % 65536

/-- Heads of an image in ascending order, one for each bit of HEADS. -/
def imgHeads (w : Img) : List Nat := (List.range 16).filter (nbit (hdHeads w))

/-! ## Head entries (R83): `e` is the entry's byte offset -/

def entOff (w : Img) (i : Nat) : Nat := hdHeadOff w + 48 * i
def entHead (w : Img) (e : Nat) : Nat := nbits (w e) 31 28
def entSoles (w : Img) (e : Nat) : Nat := w e % 65536
def entHtotal (w : Img) (e : Nat) : Nat := w (e + 4) / 65536
def entVtotal (w : Img) (e : Nat) : Nat := w (e + 4) % 65536
def entPclk (w : Img) (e : Nat) : Nat := nbits (w (e + 8)) 27 0
def entHactive (w : Img) (e : Nat) : Nat := w (e + 12) / 65536
def entVactive (w : Img) (e : Nat) : Nat := w (e + 12) % 65536
def entHstart (w : Img) (e : Nat) : Nat := w (e + 16) / 65536
def entVstart (w : Img) (e : Nat) : Nat := w (e + 16) % 65536
def entMapOff (w : Img) (e : Nat) : Nat := w (e + 20)
def entClsOff (w : Img) (e : Nat) : Nat := w (e + 24)
def entClsCount (w : Img) (e : Nat) : Nat := w (e + 28) % 65536
def entLlBase (w : Img) (e : Nat) : Nat := w (e + 36) % 256 * 2 ^ 32 + w (e + 32)
def entLayOff (w : Img) (e : Nat) : Nat := w (e + 40)
def entLayCount (w : Img) (e : Nat) : Nat := w (e + 44) % 64

/-- Entry offsets with the head each stands for, in table order. -/
def imgEntries (w : Img) : List (Nat × Nat) := (imgHeads w).mapIdx (fun i h => (h, entOff w i))

/-- The entry of a head, where the image has one. -/
def imgEntryOf (w : Img) (h : Nat) : Option Nat := ((imgEntries w).find? (fun e => e.1 == h)).map (fun e => e.2)

/-- The layer table of an entry (R84). -/
def entLayers (w : Img) (e : Nat) : List Nat := (List.range (entLayCount w e)).map (fun i => imgHalf w (entLayOff w e) i % 1024)

/-- The line-map entry of line `y` (R85). -/
def entMap (w : Img) (e y : Nat) : Nat := imgHalf w (entMapOff w e) y

/-- Soles of an entry in ascending order. -/
def entSoleList (w : Img) (e : Nat) : List Nat := (List.range 16).filter (nbit (entSoles w e))

/-! ## Class records (R86–R88): `x` is a section's byte offset -/

def secSole (w : Img) (x : Nat) : Nat := nbits (w x) 31 28
def secEntries (w : Img) (x : Nat) : Nat := nbits (w x) 27 16
def secStitches (w : Img) (x : Nat) : Nat := w x % 65536
def secLbytes (w : Img) (x : Nat) : Nat := nbits (w (x + 4)) 27 0
def secLtacks (w : Img) (x : Nat) : Nat := w (x + 8) % 65536

/-- Offset of class record `c`. -/
def classOff (w : Img) (e c : Nat) : Nat := w (entClsOff w e + 4 * c)

/-- The sections of a record with the Sole each stands for. -/
def sectionsFrom (w : Img) : List Nat → Nat → List (Nat × Nat)
  | [], _ => []
  | sl :: t, x => (sl, x) :: sectionsFrom w t (x + 12 + 4 * secEntries w x)

def classSections (w : Img) (e c : Nat) : List (Nat × Nat) := sectionsFrom w (entSoleList w e) (classOff w e c)

/-- Bytes of a record from its first section. -/
def recordEnd (w : Img) : List Nat → Nat → Nat
  | [], x => x
  | _ :: t, x => recordEnd w t (x + 12 + 4 * secEntries w x)

/-- The stitch entries of a section. -/
def secWords (w : Img) (x : Nat) : List Nat := (List.range (secEntries w x)).map (fun i => w (x + 12 + 4 * i))

/-- A stitch entry (R88). -/
inductive Stitch where
  | run (lc start count : Nat)
  | sprites (lc spans blocks : Nat)
  | lineList (writes : Nat)
  | reserved
  deriving DecidableEq, Repr

def stitchOf (v : Nat) : Stitch :=
  match nbits v 31 30 with
  | 0 => .run (nbits v 29 20) (nbits v 19 10) (nbits v 9 0)
  | 1 => .sprites (nbits v 29 20) (nbits v 19 10) (nbits v 9 0)
  | 2 => .lineList (nbits v 6 0)
  | _ => .reserved

/-- The stitch cost of an entry (R88). -/
def Stitch.cost : Stitch → Nat
  | .run _ _ c => c
  | .sprites _ _ b => b
  | .lineList n => n
  | .reserved => 0

/-- The layer context an entry names. -/
def Stitch.lc : Stitch → Option Nat
  | .run l _ _ => some l
  | .sprites l _ _ => some l
  | _ => none

/-- The section of Sole `sl` in the class of line `y`, where the line carries stitches. -/
def lineSection (w : Img) (e y sl : Nat) : Option Nat :=
  let c := entMap w e y
  if c = 0xFFFF then none else ((classSections w e c).find? (fun x => x.1 == sl)).map (fun x => x.2)

/-! ## Remote planes (R90), blanking windows (R92), check rectangles (R94) -/

def remOff (w : Img) (i : Nat) : Nat := hdRemOff w + 16 * i
def remLc (w : Img) (r : Nat) : Nat := nbits (w r) 25 16
def remDev (w : Img) (r : Nat) : Nat := nbits (w r) 10 0
def remHops (w : Img) (r : Nat) : Nat := nbits (w (r + 4)) 20 16
def remLead (w : Img) (r : Nat) : Nat := nbits (w (r + 4)) 4 0
def remBytes (w : Img) (r : Nat) : Nat := nbits (w (r + 8)) 27 0
def remTacks (w : Img) (r : Nat) : Nat := w (r + 12) % 65536
def imgRemotes (w : Img) : List Nat := (List.range (hdRemCount w)).map (remOff w)

def blkOff (w : Img) (i : Nat) : Nat := hdBlkOff w + 8 * i
def blkHead (w : Img) (b : Nat) : Nat := nbits (w b) 31 28
def blkFe (w : Img) (b : Nat) : Nat := nbits (w b) 24 24
def blkFirst (w : Img) (b : Nat) : Nat := w b % 65536
def blkStitches (w : Img) (b : Nat) : Nat := nbits (w (b + 4)) 25 16
def blkLines (w : Img) (b : Nat) : Nat := w (b + 4) % 65536
def imgWindows (w : Img) : List Nat := (List.range (hdBlkCount w)).map (blkOff w)

def rectOff (w : Img) (i : Nat) : Nat := hdRectOff w + 16 * i
def rectHead (w : Img) (r : Nat) : Nat := nbits (w r) 31 28
def rectIndex (w : Img) (r : Nat) : Nat := nbits (w r) 27 24
def rectOutfmt (w : Img) (r : Nat) : Nat := nbits (w r) 2 2
def rectMode (w : Img) (r : Nat) : Nat := nbits (w r) 1 0
def rectX0 (w : Img) (r : Nat) : Nat := w (r + 4) / 65536
def rectY0 (w : Img) (r : Nat) : Nat := w (r + 4) % 65536
def rectW (w : Img) (r : Nat) : Nat := w (r + 8) / 65536
def rectH (w : Img) (r : Nat) : Nat := w (r + 8) % 65536
def rectExpect (w : Img) (r : Nat) : Nat := w (r + 12)
def imgRects (w : Img) : List Nat := (List.range (hdRectCount w)).map (rectOff w)

/-- Does a blanking window hold line `y` of head `h`? -/
def blkHolds (w : Img) (b h y : Nat) : Bool :=
  blkHead w b == h && decide (blkFirst w b ≤ y) && decide (y < blkFirst w b + blkLines w b)

/-- Stitches that blanking windows reserve on Sole `sl` at line `y` of head `h` (R93, R104). -/
def windowStitches (w : Img) (h e sl y : Nat) : Nat :=
  if (entSoleList w e).headD 99 = sl then (((imgWindows w).filter (fun b => blkHolds w b h y)).map (blkStitches w)).sum else 0

/-- First head, Sole and class record whose stitch entries name a layer context. -/
def planeOwner (w : Img) (lc : Nat) : Option (Nat × Nat) :=
  (imgEntries w).findSome? (fun he =>
    (List.range (entClsCount w he.2)).findSome? (fun c =>
      (classSections w he.2 c).findSome? (fun sx =>
        if (secWords w sx.2).any (fun v => (stitchOf v).lc == some lc) then some (he.1, sx.1) else none)))

/-- Every Sole, with its head, whose stitch entries name a layer context. -/
def planeSoles (w : Img) (lc : Nat) : List (Nat × Nat) :=
  ((imgEntries w).map (fun he =>
    (entSoleList w he.2).filterMap (fun sl =>
      if (List.range (entClsCount w he.2)).any (fun c =>
          (classSections w he.2 c).any (fun sx => sx.1 == sl && (secWords w sx.2).any (fun v => (stitchOf v).lc == some lc)))
      then some (he.1, sl) else none))).flatten

end Sys2Proof.Machine
end

