-- ==== Sys2Proof/Machine/Flags.lean ====
section
/-! DEFINITION. The arithmetic and the flags of the Awl instructions (15_awl_isa.md R526–R528), on 14-bit values. -/
namespace Sys2Proof.Machine

/-- The flags Z, N, C, V and T of a core (R495). -/
structure AwlFlags where
  z : Bool
  n : Bool
  c : Bool
  v : Bool
  t : Bool
  deriving DecidableEq, Repr

/-- FLAGS: T V C N Z with Z in bit 0 (R506, R518). -/
def AwlFlags.toNat (f : AwlFlags) : Nat := b2n f.z + 2 * b2n f.n + 4 * b2n f.c + 8 * b2n f.v + 16 * b2n f.t
/-- The flags that a FLAGS field shows. -/
def AwlFlags.ofNat (x : Nat) : AwlFlags := ⟨nbit x 0, nbit x 1, nbit x 2, nbit x 3, nbit x 4⟩

/-- Tags of a cell (R493). -/
def tNUM : Nat := 0
def tPTR : Nat := 1
def tFIX : Nat := 2
def tCODE : Nat := 3

/-- The tag of a cell. -/
def tagOf (x : Nat) : Nat := nbits x 15 14
/-- The value of a cell. -/
def valOf (x : Nat) : Nat := x % 2 ^ 14
/-- A cell of a tag and a value. -/
def mkCell (t v : Nat) : Nat := t % 4 * 2 ^ 14 + v % 2 ^ 14
/-- The value of a cell as a signed number. -/
def sval (x : Nat) : Int := signed 14 x

/-- Z and N of a 14-bit result (R502). -/
def AwlFlags.zn (f : AwlFlags) (r : Nat) : AwlFlags := { f with z := r % 2 ^ 14 == 0, n := nbit r 13 }

/-- A signed number fits 14 bits. -/
def fits14 (i : Int) : Bool := decide (-8192 ≤ i) && decide (i ≤ 8191)

/-- A sum a + b + cin: the 14-bit result, with Z, N, C and, for NUM and FIX results, V (R502, R526). `sub` marks a
subtraction, whose second operand is complemented. -/
def awlSum (f : AwlFlags) (a b cin tag : Nat) (sub : Bool) : Nat × AwlFlags :=
  let x := valOf a
  let y := if sub then 2 ^ 14 - 1 - valOf b else valOf b
  let r := x + y + cin
  let i := if sub then sval a - sval b - (1 - (cin : Int)) else sval a + sval b + (cin : Int)
  (r % 2 ^ 14, { f.zn r with c := decide (2 ^ 14 ≤ r), v := (tag == tNUM || tag == tFIX) && !fits14 i })

/-- Z and N of a result, with C and V cleared: logic, MULH, REM, MIN and MAX. -/
def AwlFlags.logic (f : AwlFlags) (r : Nat) : AwlFlags := { f.zn r with c := false, v := false }

/-- MUL (R528): the result and the flags. -/
def awlMul (f : AwlFlags) (a b tag : Nat) : Nat × AwlFlags :=
  let p := sval a * sval b
  let q := if tag = tFIX then (p + 4096) / 8192 else p
  let r := unsignedOf 14 q
  (r, { f.zn r with c := false, v := !fits14 q })

/-- MULH: bits 27:14 of the signed product. -/
def awlMulh (a b : Nat) : Nat := unsignedOf 28 (sval a * sval b) / 2 ^ 14

/-- DIV with a divisor other than 0 (R528): the quotient truncated towards zero. -/
def awlDiv (f : AwlFlags) (a b tag : Nat) : Nat × AwlFlags :=
  let q := if tag = tFIX then Int.tdiv (sval a * 8192) (sval b) else Int.tdiv (sval a) (sval b)
  let r := unsignedOf 14 q
  (r, { f.zn r with c := false, v := !fits14 q })

/-- REM with a divisor other than 0 (R528). -/
def awlRem (a b : Nat) : Nat := unsignedOf 14 (sval a - sval b * Int.tdiv (sval a) (sval b))

/-- SHL (R528). -/
def awlShl (f : AwlFlags) (a n tag : Nat) : Nat × AwlFlags :=
  let r := valOf a * 2 ^ n % 2 ^ 14
  (r, { f.zn r with
        c := if n = 0 then f.c else valOf a * 2 ^ n / 2 ^ 14 % 2 == 1
        v := (tag == tNUM || tag == tFIX) && signed 14 r != sval a * 2 ^ n })

/-- SHR (R528). -/
def awlShr (f : AwlFlags) (a n : Nat) : Nat × AwlFlags :=
  let r := valOf a / 2 ^ n
  (r, { f.zn r with c := if n = 0 then f.c else valOf a / 2 ^ (n - 1) % 2 == 1, v := false })

/-- SAR (R528). -/
def awlSar (f : AwlFlags) (a n : Nat) : Nat × AwlFlags :=
  let r := unsignedOf 14 (sval a / 2 ^ n)
  (r, { f.zn r with c := if n = 0 then f.c else sval a / 2 ^ (n - 1) % 2 == 1, v := false })

/-- A condition (R525). -/
def awlCond (f : AwlFlags) (c : Nat) : Bool :=
  match c with
  | 0 => true
  | 1 => f.z
  | 2 => !f.z
  | 3 => f.c
  | 4 => !f.c
  | 5 => f.n
  | 6 => !f.n
  | 7 => f.v
  | 8 => !f.v
  | 9 => f.c && !f.z
  | 10 => !f.c || f.z
  | 11 => f.n == f.v
  | 12 => f.n != f.v
  | 13 => !f.z && f.n == f.v
  | 14 => f.z || f.n != f.v
  | _ => f.t

end Sys2Proof.Machine
end

