-- ==== Sys2Proof/Machine/Operands.lean ====
section
/-! DEFINITION. The encoding and the operand forms of the Awl instructions (R522, R523, R527), the cell addresses they
form (R497, R499, R500, R530), and their tag rules (R501, R524, R527). -/
namespace Sys2Proof.Machine

/-- The fields of an instruction's two cells (R522). -/
structure Insn where
  cond : Nat
  op : Nat
  gd : Nat
  gs : Nat
  x : Nat
  deriving DecidableEq, Repr

/-- The fields of cells A and B. -/
def insnOf (a b : Nat) : Insn := ⟨nbits a 13 10, nbits a 9 4, a % 16, nbits b 13 10, b % 1024⟩

/-- How an opcode uses the fields GD, GS and OPND: the bits of each that it may set, and whether GD and GS name a pair. -/
structure OpUse where
  gd : Nat
  gs : Nat
  x : Nat
  pd : Bool := false
  ps : Bool := false
  deriving DecidableEq, Repr

/-- The fields an opcode uses (R527); `none` marks a reserved opcode. -/
def opUse (op : Nat) : Option OpUse :=
  match op with
  | 0x00 => some ⟨0, 0, 0, false, false⟩
  | 0x01 => some ⟨15, 15, 0, false, false⟩
  | 0x02 => some ⟨15, 3, 1023, false, false⟩
  | 0x03 => some ⟨15, 0, 15, false, false⟩
  | 0x04 => some ⟨15, 15, 3, false, false⟩
  | 0x05 => some ⟨15, 15, 0, false, false⟩
  | 0x06 => some ⟨15, 0, 3, false, false⟩
  | 0x08 | 0x09 | 0x0A | 0x0B | 0x0C | 0x0D => some ⟨15, 15, 0, false, false⟩
  | 0x0E | 0x0F => some ⟨15, 0, 1023, false, false⟩
  | 0x10 | 0x11 | 0x12 | 0x13 | 0x14 | 0x15 => some ⟨15, 15, 0, false, false⟩
  | 0x18 | 0x19 | 0x1A | 0x1B | 0x1C => some ⟨15, 15, 0, false, false⟩
  | 0x1D | 0x1E | 0x1F => some ⟨15, 0, 15, false, false⟩
  | 0x20 | 0x21 => some ⟨15, 15, 1023, false, false⟩
  | 0x22 | 0x23 => some ⟨15, 15, 1023, true, false⟩
  | 0x24 | 0x25 => some ⟨15, 15, 0, true, true⟩
  | 0x26 => some ⟨0, 15, 3, false, true⟩
  | 0x27 => some ⟨15, 0, 3, true, false⟩
  | 0x28 | 0x29 => some ⟨0, 0, 1023, false, false⟩
  | 0x2A | 0x2B => some ⟨0, 15, 0, false, false⟩
  | 0x30 => some ⟨3, 15, 1023, false, false⟩
  | 0x31 | 0x32 | 0x34 | 0x36 => some ⟨0, 0, 0, false, false⟩
  | 0x33 => some ⟨0, 0, 1, false, false⟩
  | 0x35 => some ⟨0, 0, 1023, false, false⟩
  | _ => none

/-- A REP encoding that R523 or its unused fields (R532) reserve: GD bit 0 is U and bit 1 is R. -/
def repReserved (i : Insn) : Bool :=
  if i.gd / 2 % 2 = 0 then i.gs != 0 || (i.gd % 2 == 1 && decide (63 < i.x)) else i.x != 0

/-- A reserved encoding (R523). -/
def insnReserved (amode : Nat) (i : Insn) : Bool :=
  match opUse i.op with
  | none => true
  | some u =>
    Nat.land i.gd u.gd != i.gd || Nat.land i.gs u.gs != i.gs || Nat.land i.x u.x != i.x ||
      (u.pd && i.gd % 2 == 1) || (u.ps && i.gs % 2 == 1) ||
      (amode == 1 && decide (0x20 ≤ i.op) && decide (i.op ≤ 0x23) && nbits i.x 7 6 != 3 && i.x % 64 != 0) ||
      (i.op == 0x30 && repReserved i)

/-- The immediate i10 as a 14-bit value. -/
def imm14 (x : Nat) : Nat := unsignedOf 14 (signed 10 x)

/-- The name an opcode has in spec/opcode_table.json is the row's; these are the codes. REP may not repeat these (R534). -/
def repBanned (op : Nat) : Bool :=
  op == 0x30 || (decide (0x28 ≤ op) && decide (op ≤ 0x2B)) || (decide (0x31 ≤ op) && decide (op ≤ 0x36))

/-! ## Address forms (R499, R530) -/

/-- The offset that a memory instruction forms, and what it leaves in Gb: the base and index values, AMODE, the mode field
and the cells accessed. -/
def formOffset (amode x gb gi n : Nat) : Nat × Option Nat :=
  if amode = 0 then ((gb + x % 256) % 2 ^ 14, none)
  else
    match nbits x 7 6 with
    | 0 => (gb, none)
    | 1 => (gb, some ((gb + n) % 2 ^ 14))
    | 2 => ((gb + 2 ^ 14 - n) % 2 ^ 14, some ((gb + 2 ^ 14 - n) % 2 ^ 14))
    | _ => ((gb + gi * 2 ^ (x % 4)) % 2 ^ 14, none)

/-- Does the mode field use an index cell? -/
def formIndexed (amode x : Nat) : Bool := amode == 1 && nbits x 7 6 == 3

/-- CA of cell `j` of an access: BKk × 2¹⁴ + offset, with the offset wrapping in its bank (R500). -/
def cellAddr (bk off j : Nat) : Nat := bk * 2 ^ 14 + (off + j) % 2 ^ 14

/-- Where a cell address leads (R497). -/
inductive CellAt where
  | system (a : Nat)   -- a system byte address
  | code (c : Nat)     -- a cell of the core's own code area
  | loc (c : Nat)      -- another cell of its own local memory
  | shared (c : Nat)   -- a cell of Awl shared memory
  | bad                -- unmapped
  deriving DecidableEq, Repr

/-- The decoding of R497 for XB. -/
def cellAt (xb ca : Nat) : CellAt :=
  let c := ca % 2 ^ 33
  if ca / 2 ^ 33 % 2 = 0 then .system (xb * 2 ^ 34 + 2 * c)
  else if c < 0x8000 then .code c
  else if c < 0x10000 then .loc c
  else if 0x100000 ≤ c ∧ c ≤ 0x1FFFFF then .shared (c - 0x100000)
  else .bad

/-! ## Tag rules (R501, R527) -/

/-- What a tag check finds: the cell that fails and its tag. -/
abbrev TagFail := Option (Nat × Nat)

/-- Check that cell `r`, holding `x`, has a tag in `ok`. -/
def tagIn (r x : Nat) (ok : List Nat) : TagFail := if ok.contains (tagOf x) then none else some (r, tagOf x)

/-- The first failure of a list of checks. -/
def tagFirst : List TagFail → TagFail
  | [] => none
  | some f :: _ => some f
  | none :: t => tagFirst t

/-- Tags that a two-operand instruction allows in Gd beside a tag of Gs (R501, R527). -/
def pairTags (op ts : Nat) : List Nat :=
  match op with
  | 0x08 => if ts = tNUM then [tNUM, tPTR] else if ts = tFIX then [tFIX] else if ts = tPTR then [tNUM] else []
  | 0x09 => if ts = tNUM then [tNUM, tPTR] else if ts = tFIX then [tFIX] else if ts = tPTR then [tPTR] else []
  | 0x11 | 0x13 => if ts = tNUM then [tNUM] else []
  | 0x18 | 0x19 | 0x1A | 0x1C => if ts = tCODE then [] else [ts]
  | _ => if ts = tNUM ∨ ts = tFIX then [ts] else []

/-- The tag check of a two-operand instruction, Gs before Gd (R524). -/
def pairCheck (op gs s gd d : Nat) : TagFail :=
  match pairTags op (tagOf s) with
  | [] => some (gs, tagOf s)
  | ok => tagIn gd d ok

/-- The tag of the sum or difference of two cells (R501). -/
def sumTag (op d s : Nat) : Nat :=
  if op = 0x08 then (if tagOf d = tPTR ∨ tagOf s = tPTR then tPTR else tagOf d)
  else if tagOf d = tPTR then (if tagOf s = tPTR then tNUM else tPTR)
  else tagOf d

end Sys2Proof.Machine
end

