-- ==== Sys2Proof/Machine/Admission.lean ====
section
/-! DEFINITION. Admission of a Last: the 25 checks of R102 in order, the arithmetic of R103–R109, and what each failure
reports under R748. -/
namespace Sys2Proof.Machine

/-- What a failed admission reports (R748): the default of CLASS is 0xFFF, of every other position field 0. -/
structure AdmitFail where
  status : Nat
  detail : Nat
  head : Nat := 0
  sole : Nat := 0
  cls : Nat := 0xFFF
  index : Nat := 0
  val : Nat := 0
  lim : Nat := 0
  deriving DecidableEq, Repr

/-- The failure of an admission that a fence or a power-off stops (R101, R748). -/
def admitStop : AdmitFail := { status := 0x13, detail := 0 }

/-- A failure of status `st` where `b` holds. -/
def failIf (b : Bool) (f : AdmitFail) : Option AdmitFail := if b then some f else none

/-- The first failure of a list of checks. -/
def firstFail : List (Option AdmitFail) → Option AdmitFail
  | [] => none
  | some f :: _ => some f
  | none :: t => firstFail t

/-- The first failure over the elements of a list. -/
def failOver {α : Type} (l : List α) (f : α → Option AdmitFail) : Option AdmitFail := l.findSome? f

/-- Every class of an entry. -/
def entClasses (w : Img) (e : Nat) : List Nat := List.range (entClsCount w e)

/-- Visit heads, then classes, then Soles (R102): the head, its entry, the class, the Sole and the section. -/
def overSections (w : Img) (f : Nat → Nat → Nat → Nat → Nat → Option AdmitFail) : Option AdmitFail :=
  failOver (imgEntries w) (fun he => failOver (entClasses w he.2) (fun c =>
    failOver (classSections w he.2 c) (fun sx => f he.1 he.2 c sx.1 sx.2)))

/-! ## Checks 1 to 6 (R460) -/

/-- Check 2: LENGTH, with the staged length (R102). -/
def admitLen (w : Img) (staged : Nat) : Option AdmitFail :=
  failIf (imgLenBad w 1048576 || imgLength w != staged) { status := 0x33, detail := 0x02, val := imgLength w, lim := staged }

/-- Checks 1 to 6. -/
def State.admitSigned (s : State) (w : Img) (staged : Nat) : Option AdmitFail :=
  firstFail [
    failIf (imgHeadBad w lastMagic) { status := 0x33, detail := 0x01 },
    admitLen w staged,
    failIf (s.slotDead (imgKeyslot w)) { status := 0x23, detail := 0x10 },
    failIf (s.edFails w) { status := 0x20, detail := 0x10 },
    failIf (s.mlFails w) { status := 0x21, detail := 0x10 },
    failIf (decide (imgRbver w < s.fuses.rollback))
      { status := 0x22, detail := 0x10, val := imgRbver w, lim := s.fuses.rollback }]

/-! ## Check 7: offsets and counts -/

/-- A table: its first byte, its length in bytes, and the word that locates it. -/
structure Table where
  start : Nat
  len : Nat
  loc : Nat
  deriving DecidableEq, Repr

/-- Bytes of a table of `n` half words, padded to a whole word. -/
def halfTable (n : Nat) : Nat := (n + 1) / 2 * 4

def fail7 (o : Nat) : AdmitFail := { status := 0x33, detail := 0x03, val := o }

/-- A table out of range: misaligned, reaching SIGOFF, or at another offset than 0 with a count of 0 (R81). -/
def tableBad (w : Img) (t : Table) : Bool :=
  if t.len = 0 then t.start != 0 else t.start % 4 != 0 || decide (imgSigoff w < t.start + t.len)

def tableCheck (w : Img) (t : Table) : Option AdmitFail := failIf (tableBad w t) (fail7 t.loc)

/-- The tables that the header locates. -/
def headerTables (w : Img) : List Table :=
  [⟨hdHeadOff w, 48 * (imgHeads w).length, 24⟩, ⟨hdRemOff w, 16 * hdRemCount w, 28⟩,
   ⟨hdBlkOff w, 8 * hdBlkCount w, 36⟩, ⟨hdRectOff w, 16 * hdRectCount w, 44⟩]

/-- The tables that a head entry locates, without its class records. -/
def entryTables (w : Img) (e : Nat) : List Table :=
  [⟨entMapOff w e, halfTable (entVtotal w e), e + 20⟩, ⟨entClsOff w e, 4 * entClsCount w e, e + 24⟩,
   ⟨entLayOff w e, halfTable (entLayCount w e), e + 40⟩]

/-- A class record as a table. -/
def recordTable (w : Img) (e c : Nat) : Table :=
  ⟨classOff w e c, recordEnd w (entSoleList w e) (classOff w e c) - classOff w e c, entClsOff w e + 4 * c⟩

/-- Ranges of the header's fields, in word order; a count before the table that it sizes. -/
def headerRanges (w : Img) : Option AdmitFail :=
  firstFail [
    failIf (hdHeads w == 0) (fail7 12),
    failIf (decide (hdMargin w < 123) || decide (511 < hdMargin w)) (fail7 16),
    failOver ((headerTables w).take 1) (tableCheck w),
    failIf (decide (64 < hdRemCount w)) (fail7 32),
    failOver (((headerTables w).drop 1).take 1) (tableCheck w),
    failIf (decide (64 < hdBlkCount w)) (fail7 40),
    failOver (((headerTables w).drop 2).take 1) (tableCheck w),
    failIf (decide (256 < hdRectCount w)) (fail7 48),
    failOver ((headerTables w).drop 3) (tableCheck w)]

/-- Ranges of a head entry's fields and of its class records; a count before the table that it sizes. -/
def entryRanges (w : Img) (e : Nat) : Option AdmitFail :=
  firstFail [
    failOver ((entryTables w e).take 1) (tableCheck w),
    failIf (entClsCount w e == 0 || decide (4094 < entClsCount w e)) (fail7 (e + 28)),
    failOver (((entryTables w e).drop 1).take 1) (tableCheck w),
    failIf (entLayCount w e == 0 || decide (32 < entLayCount w e)) (fail7 (e + 44)),
    failOver ((entryTables w e).drop 2) (tableCheck w),
    failOver (entClasses w e) (fun c => firstFail [
      failIf (classOff w e c % 4 != 0 || decide (imgSigoff w ≤ classOff w e c)) (fail7 (entClsOff w e + 4 * c)),
      failOver (classSections w e c) (fun sx => failIf (decide (1024 < secEntries w sx.2)) (fail7 sx.2)),
      tableCheck w (recordTable w e c)])]

/-- A table put into a list ordered by first byte. -/
def placeTable (t : Table) : List Table → List Table
  | [] => [t]
  | u :: r => if t.start < u.start then t :: u :: r else u :: placeTable t r

/-- Tables that are not empty, ordered by first byte. -/
def orderTables (l : List Table) : List Table :=
  (l.filter (fun t => t.len != 0)).foldl (fun a t => placeTable t a) []

/-- The header and the tables that it locates, ordered by first byte. -/
def frontTables (w : Img) : List Table := orderTables (⟨0, 64, 0⟩ :: headerTables w)

/-- Every table of the image and its header, ordered by first byte. -/
def imgTables (w : Img) : List Table :=
  orderTables (⟨0, 64, 0⟩ :: headerTables w ++
    ((imgEntries w).map (fun he => entryTables w he.2 ++ (entClasses w he.2).map (recordTable w he.2))).flatten)

/-- Overlaps of tables ordered by first byte: the later one fails. -/
def overlapFrom : Nat → List Table → Option AdmitFail
  | _, [] => none
  | hi, t :: r => if t.start < hi then some (fail7 t.loc) else overlapFrom (t.start + t.len) r

def admit7 (w : Img) : Option AdmitFail :=
  firstFail [headerRanges w, overlapFrom 0 (frontTables w), failOver (imgEntries w) (fun he => entryRanges w he.2), overlapFrom 0 (imgTables w)]

/-! ## Check 8: reserved fields -/

/-- A reserved field in the word at `o` that is not zero. -/
def resv (w : Img) (o hi lo : Nat) : Option AdmitFail :=
  failIf (nbits (w o) hi lo != 0) { status := 0x33, detail := 0x04, val := o }

/-- Padding and high bits of a half-word table. -/
def resvHalves (w : Img) (off n top : Nat) : Option AdmitFail :=
  failOver (List.range ((n + 1) / 2)) (fun i => firstFail [
    (if top < 16 then resv w (off + 4 * i) 15 top else none),
    (if 2 * i + 1 < n then (if top < 16 then resv w (off + 4 * i) 31 (16 + top) else none) else resv w (off + 4 * i) 31 16)])

def admit8 (w : Img) : Option AdmitFail :=
  firstFail [
    resv w 12 31 16, resv w 16 31 26, resv w 16 9 0, resv w 20 31 28, resv w 32 31 16, resv w 40 31 16, resv w 48 31 16,
    resv w 56 31 0, resv w 60 31 0,
    failOver (imgEntries w) (fun he =>
      let e := he.2
      firstFail [resv w e 27 16, resv w (e + 8) 31 28, resv w (e + 28) 31 16, resv w (e + 36) 31 8, resv w (e + 44) 31 6,
        resvHalves w (entLayOff w e) (entLayCount w e) 10, resvHalves w (entMapOff w e) (entVtotal w e) 16,
        failOver (entClasses w e) (fun c => failOver (classSections w e c) (fun sx =>
          firstFail [resv w (sx.2 + 4) 31 28, resv w (sx.2 + 8) 31 16,
            failOver (List.range (secEntries w sx.2)) (fun i =>
              let o := sx.2 + 12 + 4 * i
              if nbits (w o) 31 30 = 2 then firstFail [resv w o 29 10, resv w o 9 7] else none)]))]),
    failOver (imgRemotes w) (fun r => firstFail [resv w r 31 26, resv w r 15 11, resv w (r + 4) 31 21, resv w (r + 4) 15 5,
      resv w (r + 8) 31 28, resv w (r + 12) 31 16]),
    failOver (imgWindows w) (fun b => firstFail [resv w b 27 25, resv w b 23 16, resv w (b + 4) 31 26]),
    failOver (imgRects w) (fun r => resv w r 23 3),
    resv w (imgSigoff w) 31 2, resv w (imgSigoff w + 5328) 31 8]

/-! ## Checks 9 to 13 -/

/-- SOLES is one of the two allowed forms (R83): only bit HEAD, or the four bits of its SOLEG group. -/
def solesOk (h m : Nat) : Bool := m == 2 ^ h || m == 15 * 2 ^ (h / 4 * 4)

def admit9 (w : Img) : Option AdmitFail :=
  failOver (imgEntries w) (fun he => firstFail [
    failIf (entHead w he.2 != he.1 || !solesOk he.1 (entSoles w he.2)) { status := 0x33, detail := 0x05, head := he.1 },
    failOver (entClasses w he.2) (fun c => failOver (classSections w he.2 c) (fun sx =>
      failIf (secSole w sx.2 != sx.1) { status := 0x33, detail := 0x05, head := he.1, sole := sx.1, cls := c }))])

/-- A quantity outside `lo` to `hi` of R227. -/
def rangeFail (h v lo hi : Nat) : Option AdmitFail :=
  if v < lo then some { status := 0x33, detail := 0x06, head := h, val := v, lim := lo }
  else if hi < v then some { status := 0x33, detail := 0x06, head := h, val := v, lim := hi }
  else none

/-- Timing of a head entry against R227, with the one-Sole or the ganged limits. -/
def timingFail (h ht ha hs vt va vs pk : Nat) (ganged : Bool) : Option AdmitFail :=
  firstFail [
    rangeFail h ht 64 16383,
    rangeFail h ha 16 (if ganged then 8192 else 4096),
    rangeFail h hs 1 65535,
    failIf (decide (ht < hs + ha)) { status := 0x33, detail := 0x06, head := h, val := hs + ha, lim := ht },
    failIf (decide (ht < ha + 32)) { status := 0x33, detail := 0x06, head := h, val := ht - ha, lim := 32 },
    rangeFail h vt 16 16383,
    rangeFail h va 16 8192,
    rangeFail h vs 1 65535,
    failIf (decide (vt < vs + va)) { status := 0x33, detail := 0x06, head := h, val := vs + va, lim := vt },
    rangeFail h pk 25000 (if ganged then 2500000 else 1250000),
    failIf (decide (pk * 1000 < 23 * (ht * vt))) { status := 0x33, detail := 0x06, head := h, val := pk * 1000 / (ht * vt), lim := 23 },
    failIf (decide (240 * (ht * vt) < pk * 1000)) { status := 0x33, detail := 0x06, head := h, val := pk * 1000 / (ht * vt), lim := 240 }]

def entGanged (w : Img) (e : Nat) : Bool := decide (1 < (entSoleList w e).length)

def admit10 (w : Img) : Option AdmitFail :=
  failOver (imgEntries w) (fun he =>
    let e := he.2
    timingFail he.1 (entHtotal w e) (entHactive w e) (entHstart w e) (entVtotal w e) (entVactive w e) (entVstart w e)
      (entPclk w e) (entGanged w e))

def admit11 (w : Img) : Option AdmitFail :=
  failOver (imgEntries w) (fun he => failOver (List.range (entVtotal w he.2)) (fun y =>
    let m := entMap w he.2 y
    failIf (m != 0xFFFF && (decide (entClsCount w he.2 ≤ m) || y == 0))
      { status := 0x33, detail := 0x07, head := he.1, index := y, val := m, lim := entClsCount w he.2 }))

/-- A stitch entry that breaks R88 or R89. -/
def stitchBad (w : Img) (e : Nat) : Stitch → Bool
  | .run l st c => c == 0 || decide (1023 < c) || decide (ceilDiv (entHactive w e) 16 < st + c) || !(entLayers w e).contains l
  | .sprites l sp b => sp == 0 || decide (512 < sp) || b == 0 || decide (1023 < b) || !(entLayers w e).contains l
  | .lineList n => n == 0 || decide (64 < n)
  | .reserved => true

def admit12 (w : Img) : Option AdmitFail :=
  overSections w (fun h e c sl x => failOver ((secWords w x).mapIdx (fun i v => (i, v))) (fun iv =>
    failIf (stitchBad w e (stitchOf iv.2)) { status := 0x33, detail := 0x08, head := h, sole := sl, cls := c, index := iv.1 }))

/-- The recomputed sum of a section's stitch costs. -/
def secSum (w : Img) (x : Nat) : Nat := ((secWords w x).map (fun v => (stitchOf v).cost)).sum

def admit13 (w : Img) : Option AdmitFail :=
  firstFail [
    overSections w (fun h _ c sl x => firstFail [
      failIf (secStitches w x != secSum w x)
        { status := 0x33, detail := 0x09, head := h, sole := sl, cls := c, val := secStitches w x, lim := secSum w x },
      failIf (secLbytes w x % 64 != 0) { status := 0x33, detail := 0x09, head := h, sole := sl, cls := c, val := secLbytes w x }]),
    failOver ((imgRemotes w).mapIdx (fun i r => (i, r))) (fun ir =>
      let o := (planeOwner w (remLc w ir.2)).getD (0, 0)
      failIf (remBytes w ir.2 % 64 != 0)
        { status := 0x33, detail := 0x09, head := o.1, sole := o.2, index := ir.1, val := remBytes w ir.2 })]

/-! ## Checks 14 and 15: claims by two heads -/

def State.slotState (s : State) (n : Nat) : Nat := s.get Fd.LAST_SLOTSTAT_STATE / 8 ^ n % 8

/-- Images of the other slots that are neither EMPTY nor STAGING (R102). -/
def State.claimImages (s : State) (slot : Nat) : List Img :=
  ((List.range 8).filter (fun k => k != slot && decide (2 ≤ s.slotState k))).map s.slotImg

/-- The head whose claim by `f` stands when head `h` of image `w` is visited: another head of another slot's image, else
a head of `w` visited before `h` (DEDUCED from R102's visiting order; log entry 55). -/
def otherClaim (w : Img) (others : List Img) (h : Nat) (f : Img → Nat → Bool) : Option Nat :=
  match others.findSome? (fun v => (List.range 16).find? (fun g => g != h && f v g)) with
  | some g => some g
  | none => (List.range h).find? (f w)

/-- Does head `g` of an image use layer context `l` (R84)? -/
def claimsLc (l : Nat) (v : Img) (g : Nat) : Bool :=
  match imgEntryOf v g with
  | some e => (entLayers v e).contains l
  | none => false

/-- Does head `g` of an image use Sole `sl` (R83)? -/
def claimsSole (sl : Nat) (v : Img) (g : Nat) : Bool :=
  match imgEntryOf v g with
  | some e => nbit (entSoles v e) sl
  | none => false

/-- Does head `g` claim front end `f` in an image's blanking windows (R93)? -/
def claimsFe (f : Nat) (v : Img) (g : Nat) : Bool := (imgWindows v).any (fun b => blkHead v b == g && blkFe v b == f)

def State.admit14 (s : State) (slot : Nat) : Option AdmitFail :=
  let w := s.slotImg slot
  failOver (imgEntries w) (fun he => failOver ((entLayers w he.2).mapIdx (fun i l => (i, l))) (fun il =>
    match otherClaim w (s.claimImages slot) he.1 (claimsLc il.2) with
    | some g => some { status := 0x33, detail := 0x0A, head := he.1, index := il.1, val := il.2, lim := g }
    | none => none))

def State.admit15 (s : State) (slot : Nat) : Option AdmitFail :=
  let w := s.slotImg slot
  let imgs := s.claimImages slot
  failOver (List.range 16) (fun h => firstFail [
    failOver ((List.range 16).filter (fun sl => claimsSole sl w h)) (fun sl =>
      match otherClaim w imgs h (claimsSole sl) with
      | some g => some { status := 0x33, detail := 0x0B, head := h, sole := sl, val := sl, lim := g }
      | none => none),
    failOver ((List.range 2).filter (fun f => claimsFe f w h)) (fun f =>
      match otherClaim w imgs h (claimsFe f) with
      | some g => some { status := 0x33, detail := 0x0B, head := h, val := 16 + f, lim := g }
      | none => none)])

/-! ## Checks 16 to 19 -/

/-- A blanking window that breaks R92. -/
def windowBad (w : Img) (b : Nat) : Bool :=
  match imgEntryOf w (blkHead w b) with
  | none => true
  | some e =>
    let f := blkFirst w b
    let l := blkLines w b
    l == 0 || blkStitches w b == 0 || f == 0 || decide (entVtotal w e < f + l) ||
      (decide (f < entVstart w e + entVactive w e) && decide (entVstart w e < f + l))

def admit16 (w : Img) : Option AdmitFail :=
  failOver ((imgWindows w).mapIdx (fun i b => (i, b))) (fun ib =>
    failIf (windowBad w ib.2) { status := 0x33, detail := 0x0C, head := blkHead w ib.2, index := ib.1 })

/-- A remote plane that breaks R90; `earlier` holds the planes before it. -/
def State.remoteBad (s : State) (w : Img) (r : Nat) (earlier : List Nat) : Bool :=
  (planeSoles w (remLc w r)).length != 1 || earlier.any (fun q => remLc w q == remLc w r) ||
    remHops w r == 0 || decide (16 < remHops w r) ||
    (remDev w r == s.get Fd.WELT_ID_DEVID && remHops w r != 1) || decide (remLead w r < 2) || decide (16 < remLead w r)

def State.admit17 (s : State) (w : Img) : Option AdmitFail :=
  failOver ((imgRemotes w).mapIdx (fun i r => (i, r))) (fun ir =>
    failIf (s.remoteBad w ir.2 ((imgRemotes w).take ir.1)) { status := 0x33, detail := 0x0D, index := ir.1 })

/-- A check rectangle that breaks R94. -/
def rectBad (w : Img) (r : Nat) (earlier : List Nat) : Bool :=
  match imgEntryOf w (rectHead w r) with
  | none => true
  | some e =>
    earlier.any (fun q => rectHead w q == rectHead w r && rectIndex w q == rectIndex w r) || rectMode w r == 3 ||
      rectW w r == 0 || rectH w r == 0 || decide (entHactive w e < rectX0 w r + rectW w r) ||
      decide (entVactive w e < rectY0 w r + rectH w r) || (rectMode w r != 1 && rectExpect w r != 0)

def admit18 (w : Img) : Option AdmitFail :=
  failOver ((imgRects w).mapIdx (fun i r => (i, r))) (fun ir =>
    failIf (rectBad w ir.2 ((imgRects w).take ir.1)) { status := 0x33, detail := 0x0E, head := rectHead w ir.2, index := ir.1 })

/-- The line-list entries of a class: the position of each one's section and its Sole. -/
def classLists (w : Img) (e c : Nat) : List (Nat × Nat) :=
  (((classSections w e c).mapIdx (fun j sx => (j, sx))).map (fun t =>
    ((secWords w t.2.2).filter (fun v => nbits v 31 30 == 2)).map (fun _ => (t.1, t.2.1)))).flatten

def listFail (h c : Nat) : Bool → List (Nat × Nat) → Option AdmitFail
  | _, [] => none
  | seen, (j, sl) :: t =>
    if j ≠ 0 then some { status := 0x33, detail := 0x0F, head := h, sole := sl, cls := c }
    else if seen then some { status := 0x33, detail := 0x0F, head := h, cls := c }
    else listFail h c true t

def State.admit19 (s : State) (w : Img) : Option AdmitFail :=
  failOver (imgEntries w) (fun he => firstFail [
    failIf (decide (s.installed < entLlBase w he.2 / 512 * 512 + 16 * entVtotal w he.2 * 512)) { status := 0x33, detail := 0x0F, head := he.1 },
    failOver (entClasses w he.2) (fun c => listFail he.1 c false (classLists w he.2 c))])

/-! ## Checks 20 to 25: the arithmetic (R103–R109) -/

/-- M: the larger of MARGIN and MINMARGIN (R103). -/
def State.admitMargin (s : State) (w : Img) : Nat := max (hdMargin w) (s.get Fd.LAST_CTL_MINMARGIN)

/-- The stitch budget per Sole per line (R104). -/
def stitchBudget (ht floor m pk : Nat) : Nat := ht * floor * 1000 * (1024 - m) / (pk * 1024)

/-- The local fetch capacity per Sole per line (R105). -/
def fetchCapacity (cap ht pk : Nat) : Nat := cap * ht * 62500 / pk

/-- STITCHES of a Sole at a line (R104). -/
def lineStitches (w : Img) (e y sl : Nat) : Nat :=
  match lineSection w e y sl with
  | some x => secStitches w x
  | none => 0

def State.admit20 (s : State) (w : Img) : Option AdmitFail :=
  failOver (imgEntries w) (fun he =>
    let b := stitchBudget (entHtotal w he.2) (s.get Fd.PWR_PACEFUSE_FLOOR) (s.admitMargin w) (entPclk w he.2)
    failOver (List.range (entVtotal w he.2)) (fun y => failOver (entSoleList w he.2) (fun sl =>
      let v := lineStitches w he.2 y sl + windowStitches w he.1 he.2 sl y
      let m := entMap w he.2 y
      let f : AdmitFail :=
        { status := 0x30, detail := 0x11, head := he.1, sole := sl, cls := (if m = 0xFFFF then 0xFFF else m), index := y, val := v, lim := b }
      failIf (decide (b < v)) f)))

def State.admit21 (s : State) (w : Img) : Option AdmitFail :=
  overSections w (fun h e c sl x =>
    let cap := fetchCapacity s.cap (entHtotal w e) (entPclk w e)
    failIf (decide (cap < secLbytes w x)) { status := 0x31, detail := 0x12, head := h, sole := sl, cls := c, val := secLbytes w x, lim := cap })

/-- The round trip of a remote plane in ns (R106). -/
def State.roundTrip (s : State) (w : Img) (r : Nat) : Nat :=
  2 * remHops w r * (420 + s.get Fd.LAST_REMCFG_SERNS) + s.get Fd.LAST_REMCFG_SVCNS

def State.admit22 (s : State) (w : Img) : Option AdmitFail :=
  failOver ((imgRemotes w).mapIdx (fun i r => (i, r))) (fun ir =>
    let o := (planeOwner w (remLc w ir.2)).getD (0, 0)
    let e := (imgEntryOf w o.1).getD 0
    let lim := (remLead w ir.2 - 1) * entHtotal w e * 1000000
    failIf (decide (lim < s.roundTrip w ir.2 * entPclk w e))
      { status := 0x31, detail := 0x13, head := o.1, sole := o.2, index := ir.1, val := s.roundTrip w ir.2, lim := lim / entPclk w e })

/-- Planes of a Sole. -/
def solePlanes (w : Img) (sl : Nat) : List Nat :=
  (imgRemotes w).filter (fun r => ((planeOwner w (remLc w r)).map (fun o => o.2)) == some sl)

/-- The head that uses a Sole in an image. -/
def soleHead (w : Img) (sl : Nat) : Nat := (((imgEntries w).find? (fun he => nbit (entSoles w he.2) sl)).map (fun he => he.1)).getD 0

def admit23 (w : Img) : Option AdmitFail :=
  firstFail [
    failOver ((imgRemotes w).mapIdx (fun i r => (i, r))) (fun ir =>
      let o := (planeOwner w (remLc w ir.2)).getD (0, 0)
      let v := remBytes w ir.2 * remLead w ir.2
      failIf (decide (131072 < v)) { status := 0x31, detail := 0x14, head := o.1, sole := o.2, index := ir.1, val := v, lim := 131072 }),
    failOver (List.range 16) (fun sl =>
      let v := ((solePlanes w sl).map (fun r => remBytes w r * remLead w r)).sum
      failIf (decide (131072 < v))
        { status := 0x31, detail := 0x14, head := soleHead w sl, sole := sl, index := 0xFFFF, val := v, lim := 131072 })]

/-- LTACKS of a Sole in a class. -/
def classTacks (w : Img) (e c sl : Nat) : Nat :=
  (((classSections w e c).find? (fun sx => sx.1 == sl)).map (fun sx => secLtacks w sx.2)).getD 0

/-- The largest LTACKS of a Sole, with the lowest class that has it. -/
def maxTacks (w : Img) (e sl : Nat) : Nat × Nat :=
  (entClasses w e).foldl (fun a c => if a.1 < classTacks w e c sl then (classTacks w e c sl, c) else a) (classTacks w e 0 sl, 0)

def admit24 (w : Img) : Option AdmitFail :=
  failOver (imgEntries w) (fun he => failOver (entSoleList w he.2) (fun sl =>
    let m := maxTacks w he.2 sl
    let v := m.1 + ((solePlanes w sl).map (remTacks w)).sum
    failIf (decide (448 < v)) { status := 0x32, detail := 0x15, head := he.1, sole := sl, cls := m.2, val := v, lim := 448 }))

def admit25 (w : Img) : Option AdmitFail :=
  failOver ((imgRemotes w).mapIdx (fun i r => (i, r))) (fun ir =>
    let o := (planeOwner w (remLc w ir.2)).getD (0, 0)
    let lim := ceilDiv (remBytes w ir.2) 64 * remLead w ir.2
    failIf (decide (remTacks w ir.2 < lim))
      { status := 0x32, detail := 0x16, head := o.1, sole := o.2, index := ir.1, val := remTacks w ir.2, lim := lim })

/-- The first failure of R102, in the order of its table. -/
def State.admitFail (s : State) (slot : Nat) : Option AdmitFail :=
  let w := s.slotImg slot
  if s.fenced uSec then some admitStop
  else
    let checks : List (Unit → Option AdmitFail) := [
      fun _ => s.admitSigned w (tabGet 0 s.last.staged slot), fun _ => admit7 w, fun _ => admit8 w, fun _ => admit9 w,
      fun _ => admit10 w, fun _ => admit11 w, fun _ => admit12 w, fun _ => admit13 w, fun _ => s.admit14 slot,
      fun _ => s.admit15 slot, fun _ => admit16 w, fun _ => s.admit17 w, fun _ => admit18 w, fun _ => s.admit19 w,
      fun _ => s.admit20 w, fun _ => s.admit21 w, fun _ => s.admit22 w, fun _ => admit23 w, fun _ => admit24 w,
      fun _ => admit25 w]
    checks.findSome? (fun f => f ())

end Sys2Proof.Machine
end

