-- ==== Sys2Proof/Machine/Last.lean ====
section
/-! DEFINITION. The Last store: slot states, staging, release, admission and the choice of a head's next Last
(03_last_contract.md R78–R115). -/
namespace Sys2Proof.Machine

/-! ## Slots (R79, R121, R127) -/

/-- NAME shows while a slot is ADMITTED or RUNNING (R127). -/
def State.slotName (s : State) (n : Nat) : State :=
  s.set (Fd.LAST_SLOT_ID_NAME n) (if 3 ≤ s.slotState n then hdName (s.slotImg n) else 0)

/-- Set the state of slot `n`. -/
def State.setSlot (s : State) (n st : Nat) : State :=
  let v := s.get Fd.LAST_SLOTSTAT_STATE
  (s.set Fd.LAST_SLOTSTAT_STATE (putBits v (3 * n) 3 st)).slotName n

/-- CUR and CURV of a head. -/
def State.curv (s : State) (h : Nat) : Bool := s.flag (Fd.LAST_HD_SEL_CURV h)
def State.cur (s : State) (h : Nat) : Nat := s.get (Fd.LAST_HD_SEL_CUR h)

/-- Does some head run slot `n` (R79)? -/
def State.slotRun (s : State) (n : Nat) : Bool := (List.range 16).any (fun h => s.curv h && s.cur h == n)

/-- An admitted slot is RUNNING while a head runs it, ADMITTED otherwise (R79). -/
def State.refreshSlots (s : State) : State :=
  (List.range 8).foldl (fun a n =>
    if a.slotState n = 3 ∧ a.slotRun n then a.setSlot n 4
    else if a.slotState n = 4 ∧ !a.slotRun n then a.setSlot n 3 else a) s

/-- Stop a head's Last: CUR and CURV become 0 (R114). -/
def State.dropCur (s : State) (h : Nat) : State :=
  ((s.set (Fd.LAST_HD_SEL_CUR h) 0).set (Fd.LAST_HD_SEL_CURV h) 0).refreshSlots

/-- The running Last's head entry of a head: the image and the entry's offset. -/
def State.runEntry (s : State) (h : Nat) : Option (Img × Nat) :=
  if s.curv h then (imgEntryOf (s.slotImg (s.cur h)) h).map (fun e => (s.slotImg (s.cur h), e)) else none

/-- Soles of the Last a head runs. -/
def State.runSoles (s : State) (h : Nat) : List Nat :=
  match s.runEntry h with
  | some (w, e) => entSoleList w e
  | none => []

/-- The head whose running Last uses a Sole. -/
def State.headOfSole (s : State) (sl : Nat) : Option Nat := (List.range 16).find? (fun h => (s.runSoles h).contains sl)

/-- Does a running Last use a Sole of SOLEG group `g` (R115)? -/
def State.solegRunning (s : State) (g : Nat) : Bool :=
  (List.range 4).any (fun i => (s.headOfSole (4 * g + i)).isSome)

/-- The four result registers of an admission (R102, R748). -/
def State.admitRegs (s : State) (slot : Nat) (f : Option AdmitFail) : State :=
  let g := f.getD { status := 0, detail := 0, cls := 0 }
  ((((s.setRegN Rg.LAST_ADMITSTAT
      (slot * 2 ^ 25 + g.status % 256 * 2 ^ 17 + g.detail % 32 * 2 ^ 12 + g.head % 16 * 2 ^ 8 + g.sole % 16 * 2 ^ 4)).setRegN
    Rg.LAST_ADMITPOS (g.cls % 4096 * 2 ^ 16 + g.index % 65536)).setRegN
    Rg.LAST_ADMITVAL (min g.val 0xFFFFFFF)).setRegN Rg.LAST_ADMITLIM (min g.lim 0xFFFFFFF))

/-- The completion of an admission: its status, with words 2 and 3 copies of LAST_ADMITSTAT and LAST_ADMITVAL (R101). -/
def State.admitReply (s : State) (r : Req) (f : Option AdmitFail) : State :=
  s.answer r ((f.map (fun g => g.status)).getD 0) [s.regN Rg.LAST_ADMITSTAT, s.regN Rg.LAST_ADMITVAL]

/-- Every slot becomes EMPTY, the Last store is lost and no head runs a Last (R80). Staging copies and an admission end:
their completions carry 0x13 (R98, R382) unless a reset discards them (R425). -/
def State.loseLasts (s : State) (reply : Bool) : State :=
  let s1 := (List.range 8).foldl (fun a n => a.setSlot n 0) (s.loseMem lastBase (lastBase + 0x800000))
  let s2 := (List.range 16).foldl (fun a h => (a.set (Fd.LAST_HD_SEL_CUR h) 0).set (Fd.LAST_HD_SEL_CURV h) 0) s1
  let s3 := { s2 with last := {} }
  if reply then
    let s4 := s.last.copies.foldl (fun a c => a.answer c.req 0x13 []) s3
    match s.last.admitting with
    | some a => (s4.admitRegs a.slot (some admitStop)).admitReply a.req (some admitStop)
    | none => s4
  else s3

/-! ## Staging (R97–R99) -/

def State.copying (s : State) (slot : Nat) : Bool := s.last.copies.any (fun c => c.slot == slot)

/-- OPEN empties the slot, sets it to STAGING and resets its staged length (R97). -/
def State.openSlot (s : State) (slot : Nat) : State :=
  let s1 := (s.loseMem (slotBase slot) (slotBase slot + 0x100000)).setSlot slot 1
  { s1 with last := { s1.last with staged := tabErase s1.last.staged slot, ident := tabErase s1.last.ident slot } }

/-- Write image words into a slot and raise its staged length (R98); where no word is written it stays. -/
def State.stageWords (s : State) (slot off : Nat) (ws : List Nat) : State :=
  if ws.isEmpty then s else
  let s1 := s.setWords (slotBase slot + off) ws
  let n := max (tabGet 0 s1.last.staged slot) (off + 4 * ws.length)
  { s1 with last := { s1.last with staged := tabPut 0 s1.last.staged slot n } }

/-- LAST_STAGE of any form (R97–R99), after the length range of R99. -/
def State.lastStage (s : State) (r : Req) (o : Nat) (p : Packet) : State :=
  let opn := nbit (p.w 2) 27
  let mem := nbit (p.w 2) 26
  let slot := p.w 2 % 8
  let off := nbits (p.w 3) 19 0
  let size := if mem then nbits (p.w 6) 20 0 else 4 * (p.len - 4)
  if !s.mayWrite o 9 then s.answer r 0x12 []
  else if 1048576 < off + size ∨ (mem ∧ (size = 0 ∨ size % 4 ≠ 0)) then s.answer r 0x11 []
  else if off % 4 ≠ 0 then s.answer r 0x15 []
  else if !s.domOn 6 then s.answer r 0x13 []
  else if 2 ≤ s.slotState slot ∨ s.copying slot then s.answer r 0x14 []
  else if s.slotState slot = 0 ∧ !opn then s.answer r 0x15 []
  else
    let s1 := if opn then s.openSlot slot else s
    if mem then
      let c : StageCopy := ⟨slot, off, nbits (p.w 5) 11 0 * 2 ^ 28 + nbits (p.w 4) 27 0, size, r⟩
      { s1 with last := { s1.last with copies := s1.last.copies ++ [c] } }.answer r 0x01 []
    else (s1.stageWords slot off ((p.body.drop 2).map BitVec.toNat)).answer r 0x00 []

/-- The lengths LAST_STAGE allows (R99). -/
def lastStageLen (p : Packet) : Bool :=
  if nbit (p.w 2) 26 then p.len == 7 else decide (5 ≤ p.len) && decide (p.len ≤ 4095)

/-! ## Release and admission (R100–R102) -/

/-- LAST_ADMIT with RELEASE at 1 (R100). -/
def State.lastRelease (s : State) (r : Req) (o : Nat) (p : Packet) : State :=
  let slot := p.w 2 % 8
  if !s.mayWrite o 9 then s.answer r 0x12 []
  else if !s.domOn 6 then s.answer r 0x13 []
  else if s.flag Fd.SYS_ROLE_BUSY ∨ s.slotState slot = 4 ∨
      (List.range 16).any (fun h => s.flag (Fd.LAST_HD_SEL_NEXTEN h) && s.get (Fd.LAST_HD_SEL_NEXT h) == slot) then s.answer r 0x14 []
  else if s.slotState slot ≠ 3 then s.answer r 0x15 []
  else (s.setSlot slot 0).answer r 0x00 []

/-- A Sole that the image's SOLES fields name is fenced or off (R101). -/
def State.imageSolesDown (s : State) (slot : Nat) : Bool :=
  let w := s.slotImg slot
  (imgEntries w).any (fun he => (entSoleList w he.2).any (fun sl => s.fenced (uSole sl) || !s.domOn (solegOf sl)))

/-- LAST_ADMIT with RELEASE at 0 (R101). -/
def State.lastAdmit (s : State) (r : Req) (o : Nat) (p : Packet) : State :=
  let slot := p.w 2 % 8
  if !s.mayWrite o 9 then s.answer r 0x12 []
  else if !s.domOn 6 then s.answer r 0x13 []
  else if (List.range 8).any (fun n => s.slotState n == 2) || s.copying slot || s.flag Fd.SYS_ROLE_BUSY then s.answer r 0x14 []
  else if s.slotState slot ≠ 1 then s.answer r 0x15 []
  else if s.imageSolesDown slot || s.fenced uSec then s.answer r 0x13 []
  else
    let s1 := s.setSlot slot 2
    ({ s1 with last := { s1.last with admitting := some ⟨slot, r, s.regN Rg.LAST_REMCFG⟩ } }.joinPath .last).answer r 0x01 []

/-- Either form of LAST_ADMIT, by its RELEASE bit. -/
def State.lastAdmitAny (s : State) (r : Req) (o : Nat) (p : Packet) : State :=
  if nbit (p.w 2) 27 then s.lastRelease r o p else s.lastAdmit r o p

/-- The admission of a slot ends, with its first failure if it has one (R101, R102). -/
def State.admitWith (s : State) (slot : Nat) (r : Req) (f : Option AdmitFail) : State :=
  let s1 := { s with last := { s.last with admitting := none } }.admitRegs slot f
  let s2 := match f with
    | some _ => s1.setSlot slot 1
    | none =>
      let t := s1.setSlot slot 3
      { t with last := { t.last with ident := tabInsert t.last.ident slot (imgIdentity (s.slotImg slot)) } }
  s2.admitReply r f

/-- The checks of the slot under admission end (R101, R102), with LAST_REMCFG as it stood when the admission began (R126).
They wait for the verification path (R463). -/
def State.admitEnd (s : State) : State :=
  match s.last.admitting with
  | none => s
  | some a => if s.hasPath .last then s.admitWith a.slot a.req ((s.setRegN Rg.LAST_REMCFG a.remcfg).admitFail a.slot) else s

/-- A fence of the security engine stops the checks in progress (R101). -/
def State.lastSettle (s : State) : State :=
  match s.last.admitting with
  | some a => if s.fenced uSec then s.admitWith a.slot a.req (some admitStop) else s
  | none => s

/-! ## LAST block registers -/

/-- A write of LAST_CTL clamps MINMARGIN to 123–511 (R120). -/
def State.writeLastCtl (s : State) (v : Nat) : State := s.set Fd.LAST_CTL_MINMARGIN (clampNat 123 511 (nbits v 9 0))

/-- Does a write of LAST_HDn_SEL break R111? -/
def State.selBad (s : State) (h v : Nat) : Bool :=
  nbit v 3 && (decide (s.slotState (v % 8) < 3) || !nbit (hdHeads (s.slotImg (v % 8))) h)

/-- A write of LAST_HDn_SEL (R111). -/
def State.writeSel (s : State) (h v : Nat) : State :=
  let s1 := if nbit v 27 then s.set (Fd.LAST_HD_SEL_ERR h) 0 else s
  if s.selBad h v then s1.set (Fd.LAST_HD_SEL_ERR h) 1
  else (s1.set (Fd.LAST_HD_SEL_NEXTEN h) (v / 8)).set (Fd.LAST_HD_SEL_NEXT h) v

end Sys2Proof.Machine
end

