-- ==== Sys2Proof/Machine/Heads.lean ====
section
/-! DEFINITION. Access to the hidden state of heads and Soles, a head's timing, the values that a pixel sees (R173–R175),
bus errors (R35, R39), and the marks that keep a line's counts at one (R116). -/
namespace Sys2Proof.Machine

/-! ## Access -/

def State.headS (s : State) (h : Nat) : HeadS := tabGet {} s.pict.heads h
def State.setHead (s : State) (h : Nat) (v : HeadS) : State :=
  { s with pict := { s.pict with heads := tabPut {} s.pict.heads h v } }
def State.modHead (s : State) (h : Nat) (f : HeadS → HeadS) : State := s.setHead h (f (s.headS h))

def State.soleS (s : State) (n : Nat) : SoleS := tabGet {} s.pict.soles n
def State.setSole (s : State) (n : Nat) (v : SoleS) : State :=
  { s with pict := { s.pict with soles := tabPut {} s.pict.soles n v } }
def State.modSole (s : State) (n : Nat) (f : SoleS → SoleS) : State := s.setSole n (f (s.soleS n))

/-! ## Bus errors (R35, R39) -/

/-- The capture of a decode error (R39). -/
def State.captureDecerr (s : State) (m a : Nat) (wr : Bool) : State :=
  if s.flag Fd.SYS_DECERR1_VALID then s.set Fd.SYS_DECERR1_OVF 1
  else ((((s.setB Fd.SYS_DECERR1_WRITE wr).set Fd.SYS_DECERR0_ADDRLO a).set Fd.SYS_DECERR1_ADDRHI (a / 2 ^ 28)).set Fd.SYS_DECERR1_MASTER m).set
    Fd.SYS_DECERR1_VALID 1

/-- An unmapped access of a master: the capture and the C1 record (R35). -/
def State.unmapped (s : State) (m a : Nat) (wr : Bool) : State := (s.captureDecerr m a wr).report (uMaster m) 0x01 1 0

/-! ## Head timing as taken (R229, R230): the active copies of the timing registers -/

def State.hTotal (s : State) (h : Nat) : Nat := s.get (Fd.HD_HTIME_HTOTAL h).act
def State.hActive (s : State) (h : Nat) : Nat := s.get (Fd.HD_HTIME_HACTIVE h).act
def State.vTotal (s : State) (h : Nat) : Nat := s.get (Fd.HD_VTIME_VTOTAL h).act
def State.vActive (s : State) (h : Nat) : Nat := s.get (Fd.HD_VTIME_VACTIVE h).act
def State.hStart (s : State) (h : Nat) : Nat := s.get (Fd.HD_START_HSTART h).act
def State.vStart (s : State) (h : Nat) : Nat := s.get (Fd.HD_START_VSTART h).act
def State.pclk (s : State) (h : Nat) : Nat := s.get (Fd.HD_PCLK_PCLK_KHZ h).act

/-- Is line `y` in the active area (R228)? -/
def State.activeLine (s : State) (h y : Nat) : Bool := decide (s.vStart h ≤ y) && decide (y < s.vStart h + s.vActive h)

/-- The timing ranges of R227 over register values: HTIME, VTIME, START and PCLK, with the ganged limits. -/
def timingOk (ht vt st pc : Nat) : Bool :=
  let htot := ht / 16384
  let hact := ht % 16384
  let vtot := vt / 16384
  let vact := vt % 16384
  let hst := st / 16384
  let vst := st % 16384
  let khz := pc % 2 ^ 22
  decide (64 ≤ htot) && decide (16 ≤ hact) && decide (hact ≤ 8192) && decide (1 ≤ hst) && decide (hst + hact ≤ htot) &&
    decide (hact + 32 ≤ htot) && decide (16 ≤ vtot) && decide (16 ≤ vact) && decide (vact ≤ 8192) && decide (1 ≤ vst) &&
    decide (vst + vact ≤ vtot) && decide (25000 ≤ khz) && decide (khz ≤ 2500000) &&
    decide (23 * (htot * vtot) ≤ khz * 1000) && decide (khz * 1000 ≤ 240 * (htot * vtot))

/-- The head's registers meet R227. -/
def State.headTimingOk (s : State) (h : Nat) : Bool :=
  timingOk (s.regN (Rg.HD_HTIME h)) (s.regN (Rg.HD_VTIME h)) (s.regN (Rg.HD_START h)) (s.regN (Rg.HD_PCLK h))

/-- The head takes the whole register set (R230). -/
def State.takeTiming (s : State) (h : Nat) : State :=
  [Rg.HD_HTIME h, Rg.HD_VTIME h, Rg.HD_START h, Rg.HD_PCLK h, Rg.HD_CTL h].foldl
    (fun a k => a.setReg (activeBase + k) (a.reg k)) s

/-- The head takes its timing from the running Last's head entry, and the registers read it back (R112, R229). -/
def State.takeLastTiming (s : State) (h : Nat) (w : Img) (e : Nat) : State :=
  let s1 := ((s.setRegN (Rg.HD_HTIME h) (entHtotal w e * 16384 + entHactive w e)).setRegN (Rg.HD_VTIME h)
    (entVtotal w e * 16384 + entVactive w e)).setRegN (Rg.HD_START h) (entHstart w e * 16384 + entVstart w e)
  (s1.set (Fd.HD_PCLK_PCLK_KHZ h) (entPclk w e)).takeTiming h

/-! ## Values by beam position (R173–R175) -/

/-- Has a write at (line, pos) not taken effect yet at pixel (y, x)? -/
def Undo.after (u : Undo) (y x : Nat) : Bool := decide (y < u.line) || (u.line == y && decide (x < u.pos))

/-- The value a pixel at (y, x) of head `h` sees of the register at key `k`: the active value, or what it was before
line-list writes at later positions. -/
def State.actAt (s : State) (h k y x : Nat) : Nat :=
  match (s.headS h).undo.find? (fun u => u.key == k && u.after y x) with
  | some u => u.old
  | none => s.regN (activeBase + k)

/-- The palette entry at address `a` as a pixel at (y, x) sees it. -/
def State.palAt (s : State) (h a y x : Nat) : Nat :=
  match (s.headS h).undo.find? (fun u => u.key == a && u.after y x) with
  | some u => u.old
  | none => s.bytesLE a 8

/-- Addresses of palette and LUT entries (R145, R195). -/
def palAddr (h bank entry : Nat) : Nat := 0x7FF0000000 + h * 0x20000 + bank * 0x800 + entry * 8
def preLutAddr (h bank entry : Nat) : Nat := 0x7FF1000000 + h * 0x80000 + bank * 0x8000 + entry * 8
def postLutAddr (h bank entry : Nat) : Nat := 0x7FF1000000 + h * 0x80000 + 0x40000 + bank * 0x8000 + entry * 8

/-- The colour in a palette entry (R145). -/
def palPx (v : Nat) : Px :=
  let w1 := v / 2 ^ 32
  ⟨nbits w1 27 14, w1 % 16384, nbits v 27 14, v % 16384⟩

/-- A channel of a LUT entry (R196): 0 red, 1 green, 2 blue. -/
def State.lutEntry (s : State) (a c : Nat) : Nat :=
  match c with
  | 0 => s.word (a + 4) % 16384
  | 1 => nbits (s.word a) 27 14
  | _ => s.word a % 16384

/-- A colour through the LUT whose entry `j` is at `base + 8 j`. -/
def State.throughLut (s : State) (base : Nat) (p : Px) : Px :=
  lutPx (fun j => s.lutEntry (base + 8 * j) 0) (fun j => s.lutEntry (base + 8 * j) 1) (fun j => s.lutEntry (base + 8 * j) 2) p

/-! ## Counted once per line (R116, R159, R172, R174) -/

/-- Do something for head `h` and line `y` once, by a code of what it is. -/
def State.oncePerLine (s : State) (h y code : Nat) (f : State → State) : State :=
  if (s.headS h).marks.contains (y, code) then s
  else f (s.modHead h (fun v => { v with marks := (y, code) :: v.marks }))

/-- A clip of R116: 0 SPRITE, 1 LLIST, 2 FETCH, 3 REMOTE. -/
def clipField (h k : Nat) : Fd :=
  match k with
  | 0 => Fd.LAST_HD_CLIP_SPRITE h
  | 1 => Fd.LAST_HD_CLIP_LLIST h
  | 2 => Fd.LAST_HD_CLIP_FETCH h
  | _ => Fd.LAST_HD_CLIP_REMOTE h

/-- Count a line's clip and record it (R116). -/
def State.clip (s : State) (h y k : Nat) : State :=
  s.oncePerLine h y k (fun t => (t.bump (clipField h k) 127).report (uHead h) 0x12 (if k < 2 then 0 else 1) k)

/-- A layer-configuration fault (R159, R238): at most once per line for each LC. -/
def State.layerFault (s : State) (h y lc : Nat) : State :=
  s.oncePerLine h y (100 + lc) (fun t => t.report (uHead h) 0x14 0 lc)

/-- Count a line in a field of HDn_LLSTAT. -/
def State.llCount (s : State) (h y code : Nat) (f : Fd) : State := s.oncePerLine h y code (fun t => t.bump f 127)

/-- A refused or misplaced line-list entry's C0 record, at most once per line (R169, R172). -/
def State.llFault (s : State) (h y : Nat) : State := s.oncePerLine h y 10 (fun t => t.report (uHead h) 0x13 0 0)

/-! ## Which heads shadow a layer context (R131) -/

/-- The layer table of head `h`'s own entry in the Last of slot `n`. -/
def State.slotLayers (s : State) (n h : Nat) : List Nat :=
  match imgEntryOf (s.slotImg n) h with
  | some e => entLayers (s.slotImg n) e
  | none => []

/-- The layer table of the Last that CUR names. -/
def State.curLayers (s : State) (h : Nat) : List Nat := if s.curv h then s.slotLayers (s.cur h) h else []

/-- Layer contexts whose writes land in the shadow for head `h`. -/
def State.shadowed (s : State) (h lc : Nat) : Bool :=
  (s.curLayers h).contains lc ||
    (s.flag (Fd.LAST_HD_SEL_NEXTEN h) && (s.slotLayers (s.get (Fd.LAST_HD_SEL_NEXT h)) h).contains lc)

/-- A write of one of the registers of layer context `lc` (R131, R175). -/
def State.writeLc (s : State) (lc k v : Nat) : State :=
  let s1 := s.plainWrite k v
  if (List.range 16).any (fun h => s.shadowed h lc) then s1
  else (s1.setReg (activeBase + k) (s1.reg k)).setReg (frameBase + k) (s1.reg k)

/-- Keys of a layer context's registers, and of a head's line-writable group (R167, R226). -/
def lcKeys (lc : Nat) : List Nat := [Rg.LC_CTL lc, Rg.LC_BASE lc, Rg.LC_AUX lc, Rg.LC_POS lc]
def lineKeys (h : Nat) : List Nat := [Rg.HD_BG0 h, Rg.HD_BG1 h, Rg.HD_OUTLUT h, Rg.HD_MARK h]
/-- Keys of the other head settings of R179 (R226). -/
def settingKeys (h : Nat) : List Nat :=
  (List.range 6).map (fun k => Rg.HD_LAYATTR h k) ++ [Rg.HD_LAYATTR6 h, Rg.HD_WBBASE h, Rg.HD_WBCTL h]

end Sys2Proof.Machine
end

