-- ==== Sys2Proof/Machine/Layers.lean ====
section
/-! DEFINITION. What a layer's pixel is (04_layers.md R130–R162, 06_composition.md R199–R212): layer-context views by
beam position, tile, bitmap, solid, sprite and remote sources, the granule accesses of a line and their numbers, and
dynamic occlusion. -/
namespace Sys2Proof.Machine

/-! ## Layer contexts (R132–R135) -/

/-- The four registers of a layer context as a pixel sees them. -/
structure LcView where
  ctl : Nat
  base : Nat
  aux : Nat
  pos : Nat
  deriving DecidableEq, Repr

def LcView.en (v : LcView) : Bool := nbit v.ctl 27
def LcView.kind (v : LcView) : Nat := nbits v.ctl 26 24
def LcView.fmt (v : LcView) : Nat := nbits v.ctl 23 20
def LcView.tsize (v : LcView) : Nat := nbits v.ctl 19 18
def LcView.tileW (v : LcView) : Nat := 64 * 2 ^ nbits v.ctl 17 16
def LcView.tileH (v : LcView) : Nat := 64 * 2 ^ nbits v.ctl 15 14
def LcView.premul (v : LcView) : Bool := nbit v.ctl 13
def LcView.prelut (v : LcView) : Bool := nbit v.ctl 12
def LcView.alpha (v : LcView) : Nat := nbits v.ctl 11 4
def LcView.rtile (v : LcView) : Bool := nbit v.base 27
def LcView.ofs (v : LcView) : Nat := v.base % 65536 * 4096
def LcView.pbank (v : LcView) : Nat := nbits v.aux 27 22
def LcView.pitch (v : LcView) : Nat := nbits v.aux 21 8
def LcView.tofs (v : LcView) : Nat := v.aux % 65536 * 4096
def LcView.posHi (v : LcView) : Nat := nbits v.pos 27 14
def LcView.posLo (v : LcView) : Nat := v.pos % 16384
/-- T of R141. -/
def LcView.tile (v : LcView) : Nat := 8 * 2 ^ v.tsize

/-- The picture receivers whose override of R365 acts on line `y` of head `h`. -/
def State.overrides (s : State) (h y : Nat) : List Nat :=
  (List.range 4).filter (fun k => s.flag (Fd.WELT_PRX_STAT_OVR k) && s.get (Fd.WELT_PRX_CFG_HEAD k) == h &&
    decide ((tabGet {} s.pict.prx k : PrxS).ovrFrom ≤ y))

/-- EN of a layer context under the override of R365. -/
def State.overEn (s : State) (h lc y : Nat) (en : Bool) : Bool :=
  (s.overrides h y).foldl (fun a k =>
    if s.get (Fd.WELT_PRX_LC_PIC k) = lc then false
    else if s.flag (Fd.WELT_PRX_LC_BANEN k) && s.get (Fd.WELT_PRX_LC_BANNER k) == lc then true else a) en

/-- A layer context as the pixel at position `x` of line `y` of head `h` sees it. -/
def State.lcView (s : State) (h lc y x : Nat) : LcView :=
  let c := s.actAt h (Rg.LC_CTL lc) y x
  { ctl := c % 2 ^ 27 + b2n (s.overEn h lc y (nbit c 27)) * 2 ^ 27, base := s.actAt h (Rg.LC_BASE lc) y x,
    aux := s.actAt h (Rg.LC_AUX lc) y x, pos := s.actAt h (Rg.LC_POS lc) y x }

/-- The configurations of R159 that cannot compose, for a layer run or a sprite-budget entry. -/
def lcCase (v : LcView) (declared sprite : Bool) : Bool :=
  decide (5 ≤ v.kind) || (v.kind == 3) != sprite || (v.kind != 0 && decide (10 ≤ v.fmt)) ||
    (v.tsize == 3 && (v.kind == 1 || (v.kind == 4 && v.rtile))) || (v.kind == 4) != declared ||
    (v.pitch == 0 && (v.kind == 2 || (v.kind == 4 && !v.rtile))) || (v.kind == 3 && decide (16383 < v.posLo + v.posHi))

/-- Has the layer a PRI of its own at each pixel (R202)? -/
def LcView.pixelPri (v : LcView) : Bool := v.kind == 1 || v.kind == 3 || (v.kind == 4 && v.rtile)

/-! ## Stacking attributes (R201, R221) -/

/-- The five attribute bits of layer position `p`. -/
def State.layAttr (s : State) (h p : Nat) : Nat :=
  if p < 30 then s.regN (activeBase + Rg.HD_LAYATTR h (p / 5)) / 2 ^ (5 * (p % 5)) % 32
  else s.regN (activeBase + Rg.HD_LAYATTR6 h) / 2 ^ (5 * (p - 30)) % 32

def State.fpri (s : State) (h p : Nat) : Nat := s.layAttr h p / 8
def State.preBank (s : State) (h p : Nat) : Nat := s.layAttr h p % 8
def State.primode (s : State) (h : Nat) : Bool := s.flag (Fd.HD_LAYATTR6_PRIMODE h).act
def State.occen (s : State) (h : Nat) : Bool := s.flag (Fd.HD_LAYATTR6_OCCEN h).act

/-- The stacking key of R201. -/
def State.stackKey (s : State) (h p pri : Nat) : Nat := if s.primode h then pri * 32 + p else p

/-! ## The line that a Sole composes -/

/-- What a Sole needs of its line: the head, the line, the running Last's image and head entry, the Sole's section, and
the Sole's stripe of blocks (R238). -/
structure LineCtx where
  sole : Nat
  head : Nat
  y : Nat
  img : Img
  ent : Nat
  sec : Option Nat
  lo : Nat
  hi : Nat

/-- Blocks of a head's line, and the stripe of the `j`-th of `n` Soles (R238). -/
def lineBlocks (hactive : Nat) : Nat := ceilDiv hactive 16
def stripeOf (hactive n j : Nat) : Nat × Nat :=
  let nb := lineBlocks hactive
  if n ≤ 1 then (0, nb) else let q := ceilDiv nb 4; (min (j * q) nb, min ((j + 1) * q) nb)

/-- The context of line `y` of head `h` on Sole `sl`. -/
def State.lineCtx (s : State) (h sl y : Nat) : Option LineCtx :=
  match s.runEntry h with
  | none => none
  | some (w, e) =>
    let soles := entSoleList w e
    let st := stripeOf (entHactive w e) soles.length (soles.idxOf sl)
    some { sole := sl, head := h, y := y, img := w, ent := e, sec := lineSection w e y sl, lo := st.1, hi := st.2 }

def LineCtx.entries (c : LineCtx) : List Stitch :=
  match c.sec with
  | some x => (secWords c.img x).map stitchOf
  | none => []

def LineCtx.hactive (c : LineCtx) : Nat := entHactive c.img c.ent
def LineCtx.hstart (c : LineCtx) : Nat := entHstart c.img c.ent
/-- Is the line in the active area (R138)? -/
def LineCtx.active (c : LineCtx) : Bool :=
  decide (entVstart c.img c.ent ≤ c.y) && decide (c.y < entVstart c.img c.ent + entVactive c.img c.ent)
def LineCtx.ya (c : LineCtx) : Nat := c.y - entVstart c.img c.ent
/-- Position of an LC in the head's layer table (R84). A table that names an LC twice passes every check of R102; its first
place stands (DESIGN CHOICE, log entry 68). -/
def LineCtx.lcPos (c : LineCtx) (lc : Nat) : Nat := (entLayers c.img c.ent).idxOf lc
/-- Does the running Last declare a remote plane for the LC (R90)? -/
def LineCtx.declared (c : LineCtx) (lc : Nat) : Bool := (imgRemotes c.img).any (fun r => remLc c.img r == lc)
/-- Stitches of the section, and those that blanking windows reserve (R93). -/
def LineCtx.stitches (c : LineCtx) : Nat := (c.entries.map Stitch.cost).sum
def LineCtx.total (c : LineCtx) : Nat := c.stitches + windowStitches c.img c.head c.ent c.sole c.y
/-- WRITES of the line-list entry, where the section begins with one. -/
def LineCtx.listWrites (c : LineCtx) : Nat :=
  match c.entries with
  | .lineList n :: _ => n
  | _ => 0
/-- Granules of LBYTES. -/
def LineCtx.lbytes (c : LineCtx) : Nat :=
  match c.sec with
  | some x => secLbytes c.img x / 64
  | none => 0
/-- Local granules that the section's entries may read: LBYTES less the line list's part (R116, R169). -/
def LineCtx.limit (c : LineCtx) : Nat :=
  c.lbytes - (c.entries.map (fun e => match e with | .lineList n => ceilDiv n 8 | _ => 0)).sum
def LineCtx.ltacks (c : LineCtx) : Nat :=
  match c.sec with
  | some x => secLtacks c.img x
  | none => 0

/-- The view of an LC at active pixel `xa` of the line. -/
def LineCtx.view (c : LineCtx) (s : State) (lc xa : Nat) : LcView := s.lcView c.head lc c.y (c.hstart + xa)

/-! ## Sources of a layer run's pixels -/

/-- Where the pixel of a layer run comes from: addresses are system addresses, or aperture offsets of a remote plane. -/
inductive PixSrc where
  | nothing                                              -- fully transparent: EN 0
  | refused                                              -- fully transparent: a case of R159
  | solid (p : Px)                                       -- R149
  | tile (remote : Bool) (map bank tsize fmt tx ty : Nat) -- R141
  | bitmap (remote : Bool) (row u fmt pbank : Nat)       -- R148
  deriving DecidableEq, Repr

/-- An aperture offset is taken modulo 2²⁸ (R157). -/
def apOff (remote : Bool) (a : Nat) : Nat := if remote then a % 2 ^ 28 else a

/-- R141 up to the map entry's address. -/
def tileSrc (v : LcView) (remote : Bool) (map bank xa ya : Nat) : PixSrc :=
  let t := v.tile
  let u := (xa + v.posLo) % (v.tileW * t)
  let w := (ya + v.posHi) % (v.tileH * t)
  .tile remote (apOff remote (map + (w / t * v.tileW + u / t) * 4)) bank v.tsize v.fmt (u % t) (w % t)

/-- R148. -/
def bitmapSrc (v : LcView) (remote : Bool) (base xa ya : Nat) : PixSrc :=
  .bitmap remote (base + (ya + v.posHi) * v.pitch * 64) (xa + v.posLo) v.fmt v.pbank

/-- The source of a layer run's pixel. -/
def pixSrc (v : LcView) (declared : Bool) (xa ya : Nat) : PixSrc :=
  if !v.en then .nothing
  else if lcCase v declared false then .refused
  else match v.kind with
    | 0 => .solid ⟨nbits v.aux 27 14, v.aux % 16384, v.posHi, v.posLo⟩
    | 1 => tileSrc v false (v.base * 4096) (v.aux * 4096) xa ya
    | 2 => bitmapSrc v false (v.base * 4096) xa ya
    | _ => if v.rtile then tileSrc v true v.ofs v.tofs xa ya else bitmapSrc v true v.ofs xa ya

/-- The pixels of a layer run in the Sole's stripe (R137, R238). -/
def LineCtx.runPixels (c : LineCtx) (start count : Nat) : List Nat :=
  let a := 16 * max start c.lo
  let b := min (16 * min (start + count) c.hi) c.hactive
  (List.range (b - a)).map (fun i => a + i)

/-- Bytes of a tile's row, and of a tile (R141). -/
def tileRowBytes (tsize fmt : Nat) : Nat := 8 * 2 ^ tsize * fmtBpp fmt / 8
def tileBytes (tsize fmt : Nat) : Nat := 8 * 2 ^ tsize * tileRowBytes tsize fmt

/-- First byte of the tile row a pixel comes from, by its map entry (R141). -/
def tileRowAt (remote : Bool) (bank tsize fmt ty e : Nat) : Nat :=
  let t := 8 * 2 ^ tsize
  let r := if nbit e 27 then t - 1 - ty else ty
  apOff remote (bank + e % 2 ^ 20 * tileBytes tsize fmt + r * tileRowBytes tsize fmt)

/-- Addresses of the granules that hold bytes `a` to `b` (R160). -/
def granules (a b : Nat) : List Nat := (List.range (b / 64 + 1 - a / 64)).map (fun i => (a / 64 + i) * 64)

/-! ## Sprites (R150–R156) -/

/-- A span that a head found on a line (R152). -/
structure Span where
  lc : Nat
  addr : Nat
  first : Nat
  last : Nat
  x : Int
  zx : Nat
  hflip : Bool
  width : Nat
  pri : Nat
  pbank : Nat
  fmt : Nat
  row : Nat
  deriving DecidableEq, Repr

/-- The span of a sprite entry's four words on active line `ya` (R151, R152). -/
def spanOf (v : LcView) (lc hactive ya addr : Nat) (e : List Nat) : Option Span :=
  let w0 := e.getD 0 0
  let x := signed 16 (e.getD 1 0)
  let y := signed 16 (e.getD 1 0 / 65536)
  let hh := nbits (e.getD 2 0) 24 16 + 1
  let ww := e.getD 2 0 % 512 + 1
  let zx := nbits w0 20 18 + 1
  let zy := nbits w0 17 15 + 1
  let lo := max x 0
  let hi := min (x + (ww * zx : Nat)) (hactive : Int) - 1
  if nbit w0 31 && decide (y ≤ (ya : Int)) && decide ((ya : Int) < y + (hh * zy : Nat)) && decide (lo ≤ hi) then
    let r := ((ya : Int) - y).toNat / zy
    let r1 := if nbit w0 29 then hh - 1 - r else r
    let pitch := ceilDiv (ww * fmtBpp v.fmt) 512 * 64
    some { lc := lc, addr := addr, first := lo.toNat, last := hi.toNat, x := x, zx := zx, hflip := nbit w0 30, width := ww,
           pri := nbits w0 28 27, pbank := nbits w0 26 21, fmt := v.fmt,
           row := v.aux * 4096 + e.getD 3 0 % 2 ^ 28 * 64 + r1 * pitch }
  else none

/-- Source column of the pixel at `xa` (R152). -/
def Span.column (p : Span) (xa : Nat) : Nat :=
  let c := ((xa : Int) - p.x).toNat / p.zx
  if p.hflip then p.width - 1 - c else c

/-- Addresses of a bank's entries under its view (R150). -/
def bankEntries (v : LcView) : List Nat := (List.range (v.posHi + 1)).map (fun i => v.base * 4096 + (v.posLo + i) * 16)

/-- Sprite banks of a head's layer table that find spans, by the values at the line's first active pixel (R154, R749). -/
def LineCtx.banks (c : LineCtx) (s : State) : List (Nat × LcView) :=
  ((entLayers c.img c.ent).map (fun lc => (lc, c.view s lc 0))).filter (fun b =>
    b.2.kind == 3 && b.2.en && !lcCase b.2 (c.declared b.1) true)

/-- Every span on the line, in evaluation order (R154), before the limit of 512. -/
def LineCtx.allSpans (c : LineCtx) (s : State) : List Span :=
  if !c.active then [] else
  ((c.banks s).map (fun b => (bankEntries b.2).filterMap (fun a =>
    match tabFind (s.headS c.head).snap.vals a with
    | some e => spanOf b.2 b.1 c.hactive c.ya a e
    | none => none))).flatten

/-- Spans that the head shows, and whether some lie past the 512th (R154). -/
def LineCtx.spans (c : LineCtx) (s : State) : List Span := (c.allSpans s).take 512
def LineCtx.tooMany (c : LineCtx) (s : State) : Bool := decide (512 < (c.allSpans s).length)

/-- Blocks of a span in the Sole's stripe. -/
def LineCtx.spanBlocks (c : LineCtx) (p : Span) : List Nat :=
  (List.range (p.last / 16 + 1 - p.first / 16)).map (fun i => p.first / 16 + i) |>.filter (fun b => decide (c.lo ≤ b) && decide (b < c.hi))

/-- The longest run of spans that a budget takes (R116, R238). -/
def takeBudget (cost : Span → Nat) : Nat → Nat → List Span → List Span
  | _, _, [] => []
  | sp, bl, p :: t => if 0 < sp ∧ cost p ≤ bl then p :: takeBudget cost (sp - 1) (bl - cost p) t else []

/-- Spans of a bank that touch the Sole's stripe, and those that a sprite-budget entry takes. -/
def LineCtx.bankSpans (c : LineCtx) (s : State) (lc : Nat) : List Span :=
  (c.spans s).filter (fun p => p.lc == lc && !(c.spanBlocks p).isEmpty)
def LineCtx.shownSpans (c : LineCtx) (s : State) (lc spans blocks : Nat) : List Span :=
  takeBudget (fun p => (c.spanBlocks p).length) spans blocks (c.bankSpans s lc)

/-- The visible part of a span in the stripe. -/
def LineCtx.spanPixels (c : LineCtx) (p : Span) : Nat × Nat := (max p.first (16 * c.lo), min p.last (16 * c.hi - 1))

/-- The granules of a span's source row: the whole row (R160, R162). -/
def Span.granules (p : Span) : List Nat := Machine.granules p.row (p.row + (p.width * fmtBpp p.fmt - 1) / 8)

/-! ## Dynamic occlusion (R209–R211) -/

/-- Does a line-list write of the line to an LC take effect strictly inside block `b`, or at all? -/
def LineCtx.writtenIn (c : LineCtx) (s : State) (lc b : Nat) : Bool :=
  (s.headS c.head).undo.any (fun u => u.line == c.y && (lcKeys lc).contains u.key &&
    decide (c.hstart + 16 * b < u.pos) && decide (u.pos < c.hstart + 16 * b + 16))
def LineCtx.written (c : LineCtx) (s : State) (lc : Nat) : Bool :=
  (s.headS c.head).undo.any (fun u => u.line == c.y && (lcKeys lc).contains u.key)

/-- Layers whose runs on this Sole name them over block `b`. -/
def LineCtx.runsOver (c : LineCtx) (b : Nat) : List Nat :=
  c.entries.filterMap (fun e =>
    match e with
    | .run lc st n => if st ≤ b ∧ b < st + n ∧ c.lo ≤ b ∧ b < c.hi then some lc else none
    | _ => none)

/-- Is `lc` an occluder over block `b` (R209)? -/
def LineCtx.occludes (c : LineCtx) (s : State) (lc b : Nat) : Bool :=
  let v := c.view s lc (16 * b)
  v.en && v.alpha == 255 && !lcCase v (c.declared lc) false &&
    ((v.kind == 0 && nbits v.aux 27 14 == 0x3FFF) || (v.kind == 2 && (v.fmt == 4 || v.fmt == 7))) &&
    decide (16 * b + 15 < c.hactive) && !c.writtenIn s lc b

/-- Is layer `q` hidden over block `b` (R210)? -/
def LineCtx.hidden (c : LineCtx) (s : State) (q b : Nat) : Bool :=
  s.occen c.head && c.active &&
    (c.runsOver b).any (fun lc =>
      let p := c.lcPos lc
      let pq := c.lcPos q
      decide (pq < p) && c.occludes s lc b &&
        (!s.primode c.head || s.fpri c.head p == 3 ||
          (!c.written s q && !(s.lcView c.head q c.y c.hstart).pixelPri && decide (s.fpri c.head pq ≤ s.fpri c.head p))))

/-- Do all pixels `a` to `b` lie in blocks where the layer is hidden (R211)? -/
def LineCtx.allHidden (c : LineCtx) (s : State) (lc a b : Nat) : Bool :=
  (List.range (b / 16 + 1 - a / 16)).all (fun i => c.hidden s lc (a / 16 + i))

/-! ## Accesses of a line, in issue order (R160, R161) -/

/-- An access: the entry it serves and, in a sprite-budget entry, the place of its span; whether it reads map entries; the
pixels it serves; its granules and the number of the first in the line's issue order (R161). `uses` says when each granule
is last used: of a data granule the section's stitch that uses it last, of a map granule the last pixel that reads it. `map`
is the map granule that a tile row's access comes from (R266). -/
structure GranAcc where
  entry : Nat
  tag : Nat
  isMap : Bool
  first : Nat
  last : Nat
  gran : List Nat
  uses : List Nat
  map : Option Nat
  start : Nat
  deriving DecidableEq, Repr

/-- What is known of a granule: none, it is still out; some none, it is missing; some data. -/
def State.granData (s : State) (c : LineCtx) (num : Nat) : Option (Option (List Nat)) :=
  if c.limit ≤ num then some none
  else match (s.soleS c.sole).got.find? (fun g => g.y == c.y && g.num == num) with
    | some g => some g.data
    | none => none

/-- Data of the granule of an access that holds address `a`. -/
def State.accData (s : State) (c : LineCtx) (acc : GranAcc) (a : Nat) : Option (Option (List Nat)) :=
  s.granData c (acc.start + acc.gran.idxOf (a / 64 * 64))

/-- The 32-bit word at byte `o` of a granule's data. -/
def dataWord (d : List Nat) (o : Nat) : Nat :=
  d.getD o 0 + 256 * d.getD (o + 1) 0 + 65536 * d.getD (o + 2) 0 + 16777216 * d.getD (o + 3) 0

/-- Accesses found so far, the next granule number, and the entry and pixel whose map entry the Sole waits for. -/
structure Plan where
  acc : List GranAcc
  next : Nat
  stop : Option (Nat × Nat)
  deriving DecidableEq, Repr

/-- The Sole waits for map entries. -/
def Plan.waits (p : Plan) : Bool := p.stop.isSome

/-- Put an access at the end of a plan; its `start` is the plan's. -/
def Plan.add (p : Plan) (a : GranAcc) : Plan :=
  if p.waits then p else { p with acc := p.acc ++ [{ a with start := p.next }], next := p.next + a.gran.length }

/-- The last of the pixels `a` to `b` with a byte in the granule at `g`, where column `c` of the row at `row` shows at the
`z` pixels from `x0 + c × z`, or, of `n` columns, mirrored. -/
def lastPixel (row bpp : Nat) (x0 : Int) (z n : Nat) (flip : Bool) (a b g : Nat) : Nat :=
  let c := if flip then n - 1 - (g - row) * 8 / bpp else ((g + 63 - row) * 8 + 7) / bpp
  (max (a : Int) (min (b : Int) (x0 + ((c + 1) * z : Nat) - 1))).toNat

/-- Group a run's pixels: consecutive ones that `join` puts together, as first and last pixel with their sources. -/
def groupPixels (join : PixSrc → PixSrc → Bool) : List (Nat × PixSrc) → List (Nat × Nat × PixSrc × PixSrc)
  | [] => []
  | (x, p) :: t =>
    match groupPixels join t with
    | [] => [(x, x, p, p)]
    | (a, b, q, r) :: g => if a = x + 1 && join p q then (x, b, p, r) :: g else (x, x, p, p) :: (a, b, q, r) :: g

/-- Two neighbouring pixels in one contiguous run of local map entries. -/
def joinMap : PixSrc → PixSrc → Bool
  | .tile false a _ _ _ _ _, .tile false b _ _ _ _ _ => b == a || b == a + 4
  | _, _ => false

/-- Two neighbouring pixels in one access for data: one tile occurrence's row, or one bitmap run. -/
def joinData : PixSrc → PixSrc → Bool
  | .tile false a b c d e f, .tile false a' b' c' d' e' f' =>
    a == a' && b == b' && c == c' && d == d' && f == f' && e' == e + 1
  | .bitmap false r u f _, .bitmap false r' u' f' _ => r == r' && f == f' && u' == u + 1
  | _, _ => false

/-- The map access of an entry that covers pixel `x`. -/
def Plan.mapAccess (p : Plan) (entry x : Nat) : Option GranAcc :=
  p.acc.find? (fun a => a.entry == entry && a.isMap && decide (a.first ≤ x) && decide (x ≤ a.last))

/-- The map entry at an address, for pixel `x` of an entry. -/
def State.mapEntry (s : State) (c : LineCtx) (p : Plan) (entry x addr : Nat) : Option (Option Nat) :=
  match p.mapAccess entry x with
  | none => some none
  | some acc => (s.accData c acc addr).map (fun d => d.map (fun l => dataWord l (addr % 64)))

/-- The number of the map granule that holds the map entry at an address, for pixel `x` of an entry. -/
def Plan.mapNum (p : Plan) (entry x addr : Nat) : Option Nat :=
  (p.mapAccess entry x).map (fun a => a.start + a.gran.idxOf (addr / 64 * 64))

/-- The data access of a group of pixels of a layer run whose block 0 is stitch `base` (R160, R211). -/
def State.addData (s : State) (c : LineCtx) (entry lc : Nat) (base : Int) (p : Plan) (g : Nat × Nat × PixSrc × PixSrc) : Plan :=
  let (a, b, q, r) := g
  let use := fun (x : Nat) => (base + (x / 16 : Nat)).toNat
  match q, r with
  | .tile false map bank tsize fmt tx ty, .tile _ _ _ _ _ _ _ =>
    match s.mapEntry c p entry a map with
    | none => { p with stop := some (entry, a) }
    | some none => p
    | some (some e) =>
      if nbit e 29 || c.allHidden s lc a b then p
      else
        let row := tileRowAt false bank tsize fmt ty e
        let gs := granules row (row + tileRowBytes tsize fmt - 1)
        p.add ⟨entry, 0, false, a, b, gs, gs.map (fun g => use (lastPixel row (fmtBpp fmt) ((a : Int) - tx) 1 (8 * 2 ^ tsize) (nbit e 26) a b g)),
          p.mapNum entry a map, 0⟩
  | .bitmap false row u fmt _, .bitmap _ _ u' _ _ =>
    if c.allHidden s lc a b then p
    else
      let gs := granules (row + u * fmtBpp fmt / 8) (row + ((u' + 1) * fmtBpp fmt - 1) / 8)
      p.add ⟨entry, 0, false, a, b, gs, gs.map (fun g => use (lastPixel row (fmtBpp fmt) ((a : Int) - u) 1 0 false a b g)), none, 0⟩
  | _, _ => p

/-- The last of a run's pixels `a` to `b` whose map entry lies in the granule at `g`. -/
def lastMapPixel (px : List (Nat × PixSrc)) (a b g : Nat) : Nat :=
  px.foldl (fun l e =>
    match e.2 with
    | .tile _ m _ _ _ _ _ => if a ≤ e.1 ∧ e.1 ≤ b ∧ m / 64 * 64 = g then e.1 else l
    | _ => l) a

/-- The accesses of the spans that a sprite-budget entry takes, from span `k` on, whose first block is stitch `base`. -/
def State.planSpans (s : State) (c : LineCtx) (entry lc : Nat) : List Span → Nat → Nat → Plan → Plan
  | [], _, _, p => p
  | sn :: t, k, base, p =>
    let (a, b) := c.spanPixels sn
    let use := fun (x : Nat) => base + (x / 16 - a / 16)
    let gs := sn.granules
    let p1 := if c.allHidden s lc a b then p else
      p.add ⟨entry, k, false, a, b, gs, gs.map (fun g => use (lastPixel sn.row (fmtBpp sn.fmt) sn.x sn.zx sn.width sn.hflip a b g)), none, 0⟩
    s.planSpans c entry lc t (k + 1) (base + (c.spanBlocks sn).length) p1

/-- The accesses of one stitch entry whose first stitch is number `base` of the section. -/
def State.planEntry (s : State) (c : LineCtx) (p : Plan) (entry base : Nat) (e : Stitch) : Plan :=
  match e with
  | .run lc st n =>
    let px := (c.runPixels st n).map (fun xa => (xa, pixSrc (c.view s lc xa) (c.declared lc) xa c.ya))
    let maps := groupPixels joinMap px
    let p1 := maps.foldl (fun q g =>
      match g with
      | (a, b, .tile false m _ _ _ _ _, .tile _ m' _ _ _ _ _) =>
        let gs := granules m (m' + 3)
        q.add ⟨entry, 0, true, a, b, gs, gs.map (lastMapPixel px a b), none, 0⟩
      | _ => q) p
    (groupPixels joinData px).foldl (fun q g => if q.waits then q else s.addData c entry lc ((base : Int) - st) q g) p1
  | .sprites lc sp bl => s.planSpans c entry lc (c.shownSpans s lc sp bl) 0 base p
  | _ => p

/-- The accesses of a section's entries from number `j` on, the first of them being stitch `base`. -/
def State.planFrom (s : State) (c : LineCtx) : List Stitch → Nat → Nat → Plan → Plan
  | [], _, _, p => p
  | e :: t, j, base, p => s.planFrom c t (j + 1) (base + e.cost) (s.planEntry c p j base e)

/-- The accesses of a line as far as they are known. -/
def State.linePlan (s : State) (c : LineCtx) : Plan :=
  if !c.active then ⟨[], 0, none⟩ else s.planFrom c c.entries 0 0 ⟨[], 0, none⟩

/-! ## Issue and release of granule reads (R116, R160, R266) -/

/-- When a granule's tack is free again. -/
inductive Release where
  | stitch (n : Nat)     -- after stitch `n` of the section
  | reads (n : Nat)      -- when the reads before number `n` are issued
  | never                -- not before more map entries are known
  deriving DecidableEq, Repr

/-- The releases of an access's granules, by `uses` in order; `num` is the number of the first. -/
def Plan.releases (p : Plan) (limit : Nat) (a : GranAcc) : List Nat → Nat → List Release
  | [], _ => []
  | u :: t, num =>
    (if !a.isMap then Release.stitch u
     else
      let ends := (p.acc.filter (fun d => d.map == some num)).map (fun d => min limit (d.start + d.gran.length))
      match p.stop with
      | some (j, x) => if j < a.entry ∨ (j = a.entry ∧ x ≤ u) then .never else .reads (ends.foldl max 0)
      | none => .reads (ends.foldl max 0)) :: p.releases limit a t (num + 1)

/-- Reads issued, in order, and tacks held then: `ran` stitches have run, `held` tacks of data granules are held and `maps`
are the releases of map granules issued, all while fewer than `tacks` are held (R116). -/
def issueFrom (tacks ran : Nat) : List Release → Nat → Nat → List Release → Nat × Nat
  | gs, n, held, maps =>
    let m := maps.filter (fun r => match r with | .reads k => decide (n < k) | _ => true)
    match gs with
    | [] => (n, held + m.length)
    | g :: t =>
      if tacks ≤ held + m.length then (n, held + m.length)
      else match g with
        | .stitch u => issueFrom tacks ran t (n + 1) (if ran ≤ u then held + 1 else held) m
        | r => issueFrom tacks ran t (n + 1) held (m ++ [r])

/-- Granule reads of a line that the Sole has issued, and tacks they hold, when `held` tacks are held otherwise. -/
def Plan.issued (p : Plan) (limit tacks ran held : Nat) : Nat × Nat :=
  issueFrom tacks ran (((p.acc.map (fun a => p.releases limit a a.uses a.start)).flatten).take limit) 0 held []

/-- The address of granule number `num`. -/
def Plan.address (p : Plan) (num : Nat) : Option Nat :=
  (p.acc.find? (fun a => decide (a.start ≤ num) && decide (num < a.start + a.gran.length))).bind
    (fun a => a.gran[num - a.start]?)

/-! ## Decoding a pixel -/

/-- The pixel value at bit offset `k × bpp` of a row, by bytes that may be out or missing (R143). -/
def pixValue (rd : Nat → Option (Option Nat)) (row k bpp : Nat) : Option (Option Nat) :=
  let a := row + k * bpp / 8
  if bpp < 8 then (rd a).map (fun o => o.map (fun v => v / 2 ^ (k * bpp % 8) % 2 ^ bpp))
  else (List.range (bpp / 8)).foldr (fun i acc =>
    match rd (a + i), acc with
    | none, _ => none
    | _, none => none
    | some (some v), some (some w) => some (some (v + 256 * w))
    | _, _ => some none) (some (some 0))

/-- Decode a pixel value (R144). -/
def State.decodePix (s : State) (c : LineCtx) (xa fmt bank v : Nat) : Px :=
  if fmtIndexed fmt then palPx (s.palAt c.head (palAddr c.head bank v) c.y (c.hstart + xa)) else decodeDirect fmt v

/-- A byte of staged remote data (R91): aperture offset `o` for the plane's line; absent data is missing. -/
def State.stagedByte (s : State) (c : LineCtx) (lc o : Nat) : Option (Option Nat) :=
  some (((s.soleS c.sole).staging.find? (fun t => t.lc == lc && t.y == c.y && t.off == o / 64 * 64)).map
    (fun t => t.data.getD (o % 64) 0))

/-- A byte of the data access of an entry, and of the span at place `tag`, that serves pixel `xa`. -/
def State.localByte (s : State) (c : LineCtx) (p : Plan) (entry tag xa a : Nat) : Option (Option Nat) :=
  match p.acc.find? (fun x => x.entry == entry && x.tag == tag && !x.isMap && decide (x.first ≤ xa) && decide (xa ≤ x.last)) with
  | none => if p.waits then none else some none
  | some acc => (s.accData c acc a).map (fun d => d.map (fun l => l.getD (a % 64) 0))

/-- What a layer's pixel is: still waiting, missing, fully transparent, or a colour with its PRI where it has one. -/
inductive PixRes where
  | wait | missing | clear
  | colour (p : Px) (pri : Option Nat)
  deriving DecidableEq, Repr

/-- A pixel from its value. -/
def State.pixRes (s : State) (c : LineCtx) (xa fmt bank : Nat) (opaq : Bool) (pri : Option Nat) (r : Option (Option Nat)) : PixRes :=
  match r with
  | none => .wait
  | some none => .missing
  | some (some v) =>
    let q := s.decodePix c xa fmt bank v
    .colour (if opaq then { q with a := one14 } else q) pri

/-- The pixel of a layer run (R141, R148, R149, R157). -/
def State.runPixel (s : State) (c : LineCtx) (p : Plan) (entry lc xa : Nat) : PixRes :=
  match pixSrc (c.view s lc xa) (c.declared lc) xa c.ya with
  | .nothing => .clear
  | .refused => .clear
  | .solid q => .colour q none
  | .bitmap rem row u fmt bank =>
    let rd := if rem then fun a => s.stagedByte c lc (apOff true a) else s.localByte c p entry 0 xa
    s.pixRes c xa fmt bank false none (pixValue rd row u (fmtBpp fmt))
  | .tile rem map bank tsize fmt tx ty =>
    let e? := if rem then
        pixValue (fun a => s.stagedByte c lc (apOff true a)) map 0 32
      else s.mapEntry c p entry xa map
    match e? with
    | none => .wait
    | some none => .missing
    | some (some e) =>
      if nbit e 29 then .clear
      else
        let t := 8 * 2 ^ tsize
        let k := if nbit e 26 then t - 1 - tx else tx
        let row := tileRowAt rem bank tsize fmt ty e
        let rd := if rem then fun a => s.stagedByte c lc (apOff true a) else s.localByte c p entry 0 xa
        s.pixRes c xa fmt (nbits e 25 20) (nbit e 28) (some (nbits e 31 30)) (pixValue rd row k (fmtBpp fmt))

/-- The pixel of the sprite span at place `tag` of its entry (R152, R749): EN acts at its pixel. -/
def State.spanPixel (s : State) (c : LineCtx) (p : Plan) (entry tag : Nat) (sn : Span) (xa : Nat) : PixRes :=
  if !(c.view s sn.lc xa).en then .clear
  else s.pixRes c xa sn.fmt sn.pbank false (some sn.pri)
    (pixValue (s.localByte c p entry tag xa) sn.row (sn.column xa) (fmtBpp sn.fmt))

/-- Stages 2 and 3 for a layer's pixel (R199, R203), with its key. -/
def State.layerPx (s : State) (c : LineCtx) (lc xa : Nat) (q : Px) (pri : Option Nat) : LayPx :=
  let v := c.view s lc xa
  let p := c.lcPos lc
  let q1 := if v.prelut then s.throughLut (preLutAddr c.head (s.preBank c.head p) 0) q else q
  layerAlpha p (s.stackKey c.head p (pri.getD (s.fpri c.head p))) v.alpha v.premul q1

end Sys2Proof.Machine
end

