-- ==== Sys2Proof/Machine/Pace.lean ====
section
/-! DEFINITION. Pace gauges, line slack and the pace-governed supply loop (02_pace.md R42–R77). -/
namespace Sys2Proof.Machine

/-! ## Gauges (R48–R53) -/

/-- Gauge `g`: 0–15 the Soles, 16–19 the Awl cores. -/
def gaugeUnit (g : Nat) : Nat := if g < 16 then uSole g else uCore (g - 16)
def gaugeKey (g : Nat) : Nat := if g < 16 then Rg.SL_PACE g else Rg.AWL_PACE (g - 16)
def gaugePace (g : Nat) : Fd := ⟨gaugeKey g, 0, 14⟩
def gaugeMin (g : Nat) : Fd := ⟨gaugeKey g, 14, 13⟩

/-- Does a gauge run (R51)? -/
def State.gaugeRuns (s : State) (g : Nat) : Bool :=
  s.domOn (if g < 16 then solegOf g else awlDomOf (g - 16)) && !s.unitInReset (gaugeUnit g) && !s.halted

/-- The junction sensor reads at most 115 °C (R52, R744). -/
def State.tjCool (s : State) : Bool := decide (signed 12 (s.get Fd.PWR_TJ_TJ) ≤ 460)

/-- The end of a gauge window with pace `v` (R48, R50, R52). -/
def State.gaugeEnd (s : State) (g v : Nat) : State :=
  if !s.gaugeRuns g then s
  else
    let s1 := s.set (gaugePace g) v
    let s2 := if v < s.get (gaugeMin g) then s1.set (gaugeMin g) v else s1
    if v < 1024 ∧ 720 ≤ s.get Fd.PWR_VSET_VSET ∧ nbit (s.get Fd.PWR_SUPSTAT_WARN) 0 = false ∧ s.tjCool = true then
      s2.report (gaugeUnit g) 0x08 1 0
    else s2

/-- A write of SLn_PACE or AWLn_PACE (R50). -/
def State.writePace (s : State) (g v : Nat) : State := if nbit v 27 then s.set (gaugeMin g) 0x1FFF else s

/-- A read of SLn_PACE or AWLn_PACE (R51). -/
def State.readPace (s : State) (g : Nat) : Nat :=
  if s.domOn (if g < 16 then solegOf g else awlDomOf (g - 16)) && !s.unitInReset (gaugeUnit g) then s.regN (gaugeKey g)
  else s.get (gaugeMin g) * 2 ^ 14

/-! ## The supply loop (R62–R72) -/

def State.modPace (s : State) (f : PaceS → PaceS) : State := { s with pace := f s.pace }

/-- A transaction of the loop is in flight. -/
def PaceS.busy (p : PaceS) : Bool := p.tx.isSome

/-- The limits of R65. -/
def State.vUpper (s : State) : Nat := s.get Fd.PWR_VLIMIT_VMAX
def State.vLower (s : State) : Nat :=
  let l := if s.flag Fd.PWR_PACECTL_SUBFLOOR then s.get Fd.PWR_VLIMIT_VMIN else max (s.get Fd.PWR_VLIMIT_VMIN) 720
  min l s.vUpper

/-- Ticks of a measurement period, of a settle wait, of the hold at VMAX and of one attempt of a transaction (R66, R67, R70). -/
def State.periodTicks (s : State) : Nat := (s.get Fd.PWR_PACECTL_PERIOD + 1) * 1024
def State.settleTicks (s : State) : Nat := s.get Fd.PWR_PACECTL_SETTLE * 1024
def State.holdTicks (s : State) : Nat := s.get Fd.PWR_PACECTL_HOLD * s.periodTicks
def attemptTicks : Nat := 62500

/-- A tick of the loop's waits, which a debug halt freezes; an attempt of a transaction goes on in it (R72). -/
def State.paceTick (s : State) : State :=
  if s.halted && !s.pace.busy then s else s.modPace (fun p => { p with left := p.left - 1 })

/-- The hidden state of service peripheral `p`: I2C0–I2C3, UART0 and UART1 (R677, R678). -/
def State.perS (s : State) (p : Nat) : PerS := tabGet {} s.pers p

/-- A transaction of the loop is on the bus of I2C controller `k`. -/
def State.loopOnBus (s : State) (k : Nat) : Bool :=
  match s.pace.tx with
  | some t => t.started && t.ctl == k
  | none => false

/-- Controller `k` is at a transaction boundary for the loop: its own transaction ends there, or no command runs and the last
one ended with STOP (R64, R677). A command that waits behind a transaction of the loop goes on waiting (log entry 59). -/
def State.busBoundary (s : State) (k : Nat) : Bool :=
  s.loopOnBus k || (!s.flag (Fd.I2C_STAT_BUSY k) && !(s.perS k).held)

/-- The VOUT_COMMAND data word of a set point of `mv` millivolts in linear mode (R62, R63): the mantissa for the exponent read,
in 5-bit two's complement. The spec states no rounding, so a mantissa that is no whole number takes either neighbour by the
draw `r`; before any exponent was read the word is free (log entry 60). -/
def voutWord (expo : Option Nat) (mv r : Nat) : Nat :=
  match expo with
  | none => r % 65536
  | some e =>
    let n := if e < 16 then mv else mv * 2 ^ (32 - e)
    let d := if e < 16 then 1000 * 2 ^ e else 1000
    (n / d + (if n % d = 0 then 0 else r % 2)) % 65536

/-- A transaction is issued (R62–R64): it starts where the controller is at a boundary. -/
def State.loopStart (s : State) (ph : LoopPhase) (code word : Nat) : State :=
  let k := s.get Fd.PWR_PACECTL_I2CSEL
  (s.modPace (fun p => { p with
    phase := ph, tries := 0, left := attemptTicks,
    tx := some ⟨k, s.get Fd.PWR_PACECTL_VREGADDR, code, word, s.busBoundary k⟩ })).set Fd.PWR_PACESTAT_BUSY 1

/-- A set point of `v` millivolts goes out as one VOUT_COMMAND (R62). -/
def State.loopPut (s : State) (v : Nat) (ph : LoopPhase) : State :=
  s.draw.loopStart ph 0x21 (voutWord s.pace.expo v (Config.freeValue s.fresh))

/-- send() of R66: VSET is written and one VOUT_COMMAND is issued. -/
def State.loopSend (s : State) (v : Nat) (ph : LoopPhase) : State := (s.set Fd.PWR_VSET_VSET v).loopPut v ph

/-- The loop enters a phase without a transaction, for `n` ticks. -/
def State.loopIdle (s : State) (ph : LoopPhase) (n : Nat) : State :=
  (s.modPace (fun p => { p with phase := ph, tries := 0, tx := none, left := n })).set Fd.PWR_PACESTAT_BUSY 0

/-- A Sole counts towards the loop while it runs lines of an admitted Last (R66). -/
def State.soleCounts (s : State) (n : Nat) : Bool :=
  decide (s.get Fd.PWR_STATE_STATE < 2) && s.domOn (solegOf n) && !s.unitInReset (uSole n) && !s.fenced (uSole n) &&
    (List.range 16).any (fun h => (s.headS h).running && (s.runSoles h).contains n)

/-- A Sole counts now. -/
def State.anyCounts (s : State) : Bool := (List.range 16).any s.soleCounts

/-- A measurement period begins (R66). -/
def State.loopMeasure (s : State) : State :=
  (s.loopIdle .measure s.periodTicks).modPace (fun p => { p with worst := 2047, wsole := none, counted := s.anyCounts })

/-- A settle wait begins (R66, R67, R72). -/
def State.loopWait (s : State) : State :=
  ((s.loopIdle .settling s.settleTicks).set Fd.PWR_PACESTAT_EMERG 0).modPace (fun p => { p with wait := false })

/-- The loop stops (R71). -/
def State.loopOff (s : State) : State :=
  ((s.loopIdle .off 0).set Fd.PWR_PACESTAT_EMERG 0).modPace
    (fun p => { p with stop := false, guardDue := false, wait := false, final := false, known := false })

/-- A guard event's send of VMAX (R67). -/
def State.loopEmerg (s : State) : State :=
  ((s.loopSend s.vUpper .emergSend).set Fd.PWR_PACESTAT_EMERG 1).modPace (fun p => { p with guardDue := false })

/-- A guard event (R67): it waits for a transaction in flight and for a first read of VOUT_MODE, and restarts the hold. -/
def State.loopGuard (s : State) : State :=
  if !s.flag Fd.PWR_PACECTL_EN then s
  else match s.pace.phase with
    | .holding => s.modPace (fun p => { p with left := s.holdTicks })
    | .measure => s.loopEmerg
    | .settling => if s.pace.known then s.loopEmerg else s.modPace (fun p => { p with guardDue := true })
    | .emergSend => if s.pace.stop then s.modPace (fun p => { p with guardDue := true }) else s
    | .readMode | .sending | .vsetSend => s.modPace (fun p => { p with guardDue := true })
    | _ => s

/-- A recorded slack of Sole `n` (R55–R58, R66, R67). Of two Soles with the same worst slack WSOLE names the one that recorded
it first (DESIGN CHOICE, log entry 61). -/
def State.recordSlack (s : State) (n : Nat) (slack : Int) : State :=
  if s.halted then s
  else
    let s1 := s.set (Fd.SL_SLACK_LAST n) (unsignedOf 12 slack)
    let s2 := if slack < signed 12 (s.get (Fd.SL_SLACK_MIN n)) then s1.set (Fd.SL_SLACK_MIN n) (unsignedOf 12 slack) else s1
    let s3 := if s.pace.phase = .measure then
        s2.modPace (fun p => { p with counted := true, worst := min p.worst slack,
                                       wsole := if p.wsole.isNone || decide (slack < p.worst) then some n else p.wsole })
      else s2
    if slack < (s.get Fd.PWR_PACETGT_GUARD : Int) then
      ((s3.bump (Fd.SL_SLACKCNT_COUNT n) 0xFFFFFFF).raise (120 + n)).loopGuard
    else s3

/-- The set point that a period's end chooses (R66). -/
def State.loopChoice (s : State) : Nat :=
  let p := s.pace
  let vs : Int := s.get Fd.PWR_VSET_VSET
  let tgt : Int := s.get Fd.PWR_PACETGT_TARGET
  let v : Int :=
    if p.counted = false then (s.get Fd.PWR_VSET_IDLE : Int)
    else if p.worst < tgt then vs + 10
    else if p.worst > tgt + (s.get Fd.PWR_PACETGT_DEADBAND : Int) then vs - 5
    else vs
  (clampInt s.vLower s.vUpper v).toNat

/-- The end of a measurement period (R66). After a period that recorded no slack WSOLE keeps its value (DESIGN CHOICE, log
entry 61). -/
def State.loopPeriodEnd (s : State) : State :=
  if s.pace.phase ≠ .measure ∨ s.pace.left ≠ 0 ∨ s.halted = true then s
  else
    let p := s.pace
    let s1 := (s.setB Fd.PWR_PACESTAT_NOSRC (!p.counted)).set Fd.PWR_PACESTAT_WORST (unsignedOf 12 p.worst)
    let s2 := match p.wsole with
      | some n => s1.set Fd.PWR_PACESTAT_WSOLE n
      | none => s1
    if s.loopChoice = s.get Fd.PWR_VSET_VSET then s2.loopMeasure else s2.loopSend s.loopChoice .sending

/-- The loop starts with a read of VOUT_MODE (R63). -/
def State.loopBegin (s : State) : State :=
  (s.loopStart .readMode 0x20 0).modPace (fun p => { p with stop := false, wait := false, known := false })

/-- The end of a settle wait (R66): a loop that has not read VOUT_MODE begins (R63), and a guard event that waited for the
settle wait of a resume is served (R67, R72). -/
def State.loopSettleEnd (s : State) : State :=
  if s.pace.phase ≠ .settling ∨ s.pace.left ≠ 0 ∨ s.halted = true then s
  else if !s.pace.known then s.loopBegin
  else if s.pace.guardDue then s.loopEmerg
  else s.loopMeasure

/-- The end of the hold at VMAX (R67). -/
def State.loopHoldEnd (s : State) : State :=
  if s.pace.phase = .holding ∧ s.pace.left = 0 ∧ s.halted = false then s.loopWait else s

/-- No transaction is in flight any more: the loop stands still in a halt (R72), is off with EN 0 (R71), begins with EN newly 1
(R63), or goes on as `go` says; a VSET write that waited is sent first (R69). -/
def State.loopAfter (s : State) (go : State → State) : State :=
  let on := s.flag Fd.PWR_PACECTL_EN
  if s.halted then (if on then s.loopIdle .settling 0 else s.loopOff)
  else match s.pace.again with
    | v :: rest => (s.modPace (fun p => { p with again := rest, stop := false })).loopPut v .vsetSend
    | [] =>
      if !on then s.loopOff
      else if s.pace.wait then s.loopWait
      else if !s.pace.known then s.loopBegin
      else go s

/-- A failed transaction after its retries (R70). In a reset episode the fault hub is in reset (R425). -/
def State.loopFail (s : State) : State :=
  let s1 := (s.set Fd.PWR_PACESTAT_PMBERR 1).set Fd.PWR_PACECTL_EN 0
  let s2 := if s.inEpisode then (s.set Fd.PWR_PACECTL_SUBFLOOR 0).set Fd.PWR_PACECTL_EN 0 else s1.report uLoop 0x0A 2 0
  s2.loopAfter State.loopWait

/-- The last send before a warm reset clears EN and SUBFLOOR (R71): the larger of VSET and 720. -/
def State.loopFinal (s : State) : State :=
  (s.loopSend (max (s.get Fd.PWR_VSET_VSET) 720) .finalSend).modPace (fun p => { p with final := false, again := [] })

/-- A transaction of the loop is acknowledged, with the byte read (R63, R66, R67, R71). -/
def State.loopDone (s : State) (mode : Nat) : State :=
  if s.pace.final then s.loopFinal
  else if s.pace.stop then (s.modPace (fun p => { p with stop := false, known := false })).loopAfter State.loopWait
  else match s.pace.phase with
    | .readMode =>
      if mode / 32 % 8 ≠ 0 then
        ((s.set Fd.PWR_PACESTAT_PMBERR 1).set Fd.PWR_PACECTL_EN 0).loopAfter State.loopWait
      else (s.modPace (fun p => { p with expo := some (mode % 32), known := true })).loopAfter
        (fun a => if a.pace.guardDue then a.loopEmerg else a.loopMeasure)
    | .sending => s.loopAfter (fun a => if a.pace.guardDue then a.loopEmerg else a.loopWait)
    | .emergSend => s.loopAfter (fun a => a.loopIdle .holding a.holdTicks)
    | .finalSend => ((s.set Fd.PWR_PACECTL_EN 0).set Fd.PWR_PACECTL_SUBFLOOR 0).loopOff
    | _ => s.loopAfter State.loopWait

/-- A transaction of the loop that has started ends: acknowledged with the byte read, or in a NACK, which is tried again up to
three times (R70). -/
def State.loopTransaction (s : State) (ack : Bool) (mode : Nat) : State :=
  match s.pace.tx with
  | none => s
  | some t =>
    if !t.started then s
    else if ack then s.loopDone mode
    else if s.pace.tries < 3 then s.modPace (fun p => { p with tries := p.tries + 1, left := attemptTicks })
    else s.loopFail

/-- A transaction has not completed within 1 ms (R70): the attempt failed, whether or not it found a boundary. -/
def State.loopTimeout (s : State) : State :=
  if !s.pace.busy || s.pace.left != 0 then s
  else if s.pace.tries < 3 then s.modPace (fun p => { p with tries := p.tries + 1, left := attemptTicks })
  else s.loopFail

/-- A write of PWR_PACECTL (R63, R71, R690). -/
def State.writePacectl (s : State) (v : Nat) : State :=
  let held := s.fenced uLoop
  let s1 := s.plainWrite Rg.PWR_PACECTL (if held then v - v % 2 else v)
  let was := s.flag Fd.PWR_PACECTL_EN
  let on := s1.flag Fd.PWR_PACECTL_EN
  if was == on then s1
  else if on then
    (if s1.pace.busy then s1.modPace (fun p => { p with known := false })
     else if s1.halted then (s1.loopIdle .settling 0).modPace (fun p => { p with known := false })
     else s1.loopBegin)
  else if s1.pace.busy then s1.modPace (fun p => { p with stop := true, guardDue := false })
  else s1.loopOff

/-- What follows a command in the supply loop: EN cleared by a fence stops it (R71, R690), a transaction that waits takes the
boundary of its controller (R64), and a Sole that runs lines counts in the measurement period (R66). -/
def State.loopSettle (s : State) : State :=
  let s1 :=
    if s.flag Fd.PWR_PACECTL_EN || s.pace.phase == .off || s.pace.phase == .vsetSend || s.pace.phase == .finalSend then s
    else if s.pace.busy then s.modPace (fun p => { p with stop := true, guardDue := false })
    else s.loopOff
  let s2 := match s1.pace.tx with
    | some t => if !t.started && s1.busBoundary t.ctl then s1.modPace (fun p => { p with tx := some { t with started := true } }) else s1
    | none => s1
  if s2.pace.phase == .measure && !s2.pace.counted && s2.anyCounts then s2.modPace (fun p => { p with counted := true }) else s2

/-- A millivolt value clamped as R65 asks. -/
def mvClamp (v : Nat) : Nat := clampNat 550 850 v

/-- A write of PWR_VLIMIT (R65). -/
def State.writeVlimit (s : State) (v : Nat) : State :=
  (s.set Fd.PWR_VLIMIT_VMAX (mvClamp (nbits v 19 10))).set Fd.PWR_VLIMIT_VMIN (mvClamp (nbits v 9 0))

/-- A write of PWR_VSET (R65, R69): with EN at 0 the set point is clamped, stored and sent once, after a transaction in
flight and after a debug halt (R72). -/
def State.writeVset (s : State) (v : Nat) : State :=
  let s1 := s.set Fd.PWR_VSET_IDLE (mvClamp (nbits v 19 10))
  if s.flag Fd.PWR_PACECTL_EN then s1
  else
    let mv := clampNat s.vLower s.vUpper (v % 1024)
    let s2 := s1.set Fd.PWR_VSET_VSET mv
    if s2.pace.busy || s2.halted then s2.modPace (fun p => { p with again := p.again ++ [mv] })
    else s2.loopPut mv .vsetSend

/-- The loop after a debug halt (R72), the fabric running again: it starts with a settle wait, once a transaction in flight has
completed and once a VSET write made in the halt was sent (R69). -/
def State.loopResume (s : State) : State :=
  let s1 := s.modPace (fun p => { p with wait := s.flag Fd.PWR_PACECTL_EN && p.phase != .finalSend })
  if s1.pace.busy then s1 else s1.loopAfter State.loopWait

/-- What a warm reset leaves of the loop (R71), `s` being the state it found and `t` what its reset columns make of it: a
transaction in flight completes, and with EN 1 the last send follows before EN and SUBFLOOR clear. -/
def State.loopReset (t s : State) : State :=
  let p := s.pace
  let on := s.flag Fd.PWR_PACECTL_EN
  if !on && !p.busy then { t with pace := {} }
  else
    let t1 := (t.setB Fd.PWR_PACECTL_EN on).setB Fd.PWR_PACECTL_SUBFLOOR (on && s.flag Fd.PWR_PACECTL_SUBFLOOR)
    let t2 := { t1 with pace := { p with again := [], stop := !on, guardDue := false, wait := false, final := on && p.phase != LoopPhase.finalSend } }
    if p.busy then t2.set Fd.PWR_PACESTAT_BUSY 1 else t2.loopFinal

end Sys2Proof.Machine
end

