-- ==== Sys2Proof/Machine/Lanes.lean ====
section
/-! DEFINITION. The lanes (09_lanes.md R308–R327): port modes, Welt training, remap, the recovered reference, DisplayPort
and eDP training, the lane checkers and the eye scan, and the PCI Express endpoint's link state. -/
namespace Sys2Proof.Machine

/-! ## Ports -/

def State.portMode (s : State) (p : Nat) : Nat := s.get (Fd.EYE_WP_CFG_MODE p)
def State.portState (s : State) (p : Nat) : Nat := s.get (Fd.EYE_WP_STAT_STATE p)
/-- A port that is UP in Welt mode. -/
def State.weltUp (s : State) (p : Nat) : Bool := s.domOn (lanegOf p) && s.portMode p == 1 && s.portState p == 2

/-- A Welt port that keeps its frames: it is UP, or it trains again without having gone DOWN (R316, R338). -/
def State.weltHolds (s : State) (p : Nat) : Bool :=
  s.domOn (lanegOf p) && s.portMode p == 1 && (s.portState p == 2 || s.portState p == 1)

/-- Does EYE_WPpCFG `v` break R309, or its MANREMAP break R315? -/
def State.portCfgBad (s : State) (p v : Nat) : Bool :=
  let mode := nbits v 27 25
  let dpr := nbits v 14 12
  (mode == 2 && p != 0) || decide (6 ≤ mode) || (mode == 3 && !(decide (4 ≤ dpr) && decide (dpr ≤ 6))) ||
    (mode == 4 && decide (3 < dpr)) || decide (nbits v 22 21 < nbits v 24 23) || nbits v 10 9 == 3 ||
    (nbit v 3 && (!s.weltUp p || !s.flag (Fd.EYE_WP_CFG_SPARE p) || s.flag (Fd.EYE_WP_STAT_RXREMAP p) ||
      s.flag (Fd.EYE_WP_STAT_SPAREBAD p) || nbits v 2 1 == s.get (Fd.EYE_WP_STAT_RXSPARE p)))

/-- A port's training restores both remaps and forgets the last results (R313, R316). -/
def State.clearRemaps (s : State) (p : Nat) : State :=
  ((((s.set (Fd.EYE_WP_STAT_RXREMAP p) 0).set (Fd.EYE_WP_STAT_TXREMAP p) 0).set (Fd.EYE_WP_STAT_RXSPARE p) 3).set
    (Fd.EYE_WP_STAT_TXSPARE p) 3).set (Fd.EYE_WP_STAT_SPAREBAD p) 0

/-- DisplayPort or eDP training starts (R322); a fenced port stays DOWN (R690). -/
def State.dpStart (s : State) (p : Nat) : State :=
  if s.fenced (uPort p) then s
  else { s with lanes := { s.lanes with dpTrain := setAdd s.lanes.dpTrain p } }.setPortState p 1

/-- The PCI Express link goes down (R320). -/
def State.linkDown (s : State) : State :=
  if s.flag Fd.PCIE_STAT_LINKUP then
    s.pcieGone.report (uPort 0) 0x2B 1 0
  else s

/-- A port starts in its mode (R309, R312): Welt ports train unless they are fenced, and a port that a unit reset holds stays in
reset (R431). In lane test all four lanes run at RATE (R324). -/
def State.portStart (s : State) (p : Nat) : State :=
  let s1 := ((((s.clearRemaps p).dpAbandon p).lanesIdle p).dpForget p).set (Fd.EYE_WP_STAT_READY p) 0
  if !s1.domOn (lanegOf p) then s1.setPortState p 4
  else if s1.fenced (uPort p) then s1.setPortState p 3
  else if s1.unitInReset (uPort p) then s1.setPortState p 0
  else if s1.portMode p = 3 ∨ s1.portMode p = 4 then s1.setPortState p 0
  else s1.portEnters p

/-- A direction's remap (R314): RXREMAP or TXREMAP, the spare, the C1 record and the port's interrupt. -/
def State.remap (s : State) (p lane : Nat) (rx : Bool) : State :=
  let s1 := if rx then (s.set (Fd.EYE_WP_STAT_RXREMAP p) 1).set (Fd.EYE_WP_STAT_RXSPARE p) lane
    else (s.set (Fd.EYE_WP_STAT_TXREMAP p) 1).set (Fd.EYE_WP_STAT_TXSPARE p) lane
  let old := s.get (Fd.EYE_WP_STAT_RXSPARE p)
  let s2 := if rx then (s1.set (Fd.EYE_L_STAT_USE (4 * p + old)) 1).set (Fd.EYE_L_STAT_USE (4 * p + lane)) 2 else s1
  (s2.raise (192 + p)).report (uPort p) 0x29 1 lane

/-- A write of EYE_WPpCFG (R309, R312, R315). -/
def State.writePortCfg (s : State) (p v : Nat) : State :=
  if s.portCfgBad p v then s.set (Fd.EYE_WP_STAT_ERR p) 1
  else
    let old := s.portMode p
    let s1 := s.plainWrite (Rg.EYE_WP_CFG p) v
    if !s.domOn (lanegOf p) then s1
    else if nbits v 27 25 ≠ old then (if old = 2 then s1.linkDown else s1).portStart p
    else if s1.unitInReset (uPort p) then s1
    else if nbit v 8 then
      (if s1.fenced (uPort p) then s1
       else if old = 1 then ((s1.clearRemaps p).lanesIdle p).setPortState p 1
       else if old = 2 then s1.setPortState p 1
       else if old = 3 ∨ old = 4 then s1.dpStart p else s1)
    else if nbit v 3 then s1.remap p (nbits v 2 1) true
    else if old = 5 then s1.set (Fd.EYE_WP_STAT_RATE p) (nbits v 24 23)
    else s1

/-! ## Welt training and lane failures -/

/-- The results of a training in the lanes' registers: taps and use of the four lanes. -/
def State.laneResults (s : State) (p : Nat) (taps : List (Nat × Nat × Nat)) : State :=
  (List.range 4).foldl (fun a i =>
    let n := 4 * p + i
    ((a.set (Fd.EYE_L_STAT_LOCK n) 1).set (Fd.EYE_L_STAT_USE n)
      (if s.flag (Fd.EYE_WP_CFG_SPARE p) && a.get (Fd.EYE_WP_STAT_RXSPARE p) == i then 2 else 1)).setTaps n (taps.getD i (0, 0, 0))) s

/-- The first `n` lanes of a port run a standard mode with the taps its training set; `rx` says that they receive too (R318,
R321, R331). -/
def State.standardLanes (s : State) (p n : Nat) (rx : Bool) (taps : List (Nat × Nat × Nat)) : State :=
  (List.range n).foldl (fun a i =>
    let l := 4 * p + i
    ((a.setB (Fd.EYE_L_STAT_LOCK l) rx).set (Fd.EYE_L_STAT_USE l) 3).setTaps l (taps.getD i (0, 0, 0))) (s.lanesIdle p)

/-- May a Welt port train at a rate code: from RATE down to RATEMIN (R312)? -/
def State.weltRateOk (s : State) (p rate : Nat) : Bool :=
  decide (s.get (Fd.EYE_WP_CFG_RATE p) ≤ rate) && decide (rate ≤ s.get (Fd.EYE_WP_CFG_RATEMIN p)) && decide (rate < 3)

/-- A training passed at rate code `rate`; `rxBad` and `txBad` name a lane of that direction that failed (4 or more: none),
which becomes the spare (R312, R313). -/
def State.trained (s : State) (p rate rxBad txBad : Nat) (taps : List (Nat × Nat × Nat)) : State :=
  let s1 := (s.clearRemaps p).set (Fd.EYE_WP_STAT_RATE p) rate
  let spare := s.flag (Fd.EYE_WP_CFG_SPARE p)
  let s2 := if spare && decide (rxBad < 4) then
      ((s1.set (Fd.EYE_WP_STAT_RXREMAP p) 1).set (Fd.EYE_WP_STAT_RXSPARE p) rxBad).report (uPort p) 0x29 1 rxBad else s1
  let s3 := if spare && decide (txBad < 4) then
      ((s2.set (Fd.EYE_WP_STAT_TXREMAP p) 1).set (Fd.EYE_WP_STAT_TXSPARE p) txBad).report (uPort p) 0x29 1 txBad else s2
  s3.laneResults p taps

/-- The end of a Welt port's training (R312): UP first, so that a remap's record that escalates fences the port. -/
def State.weltTrained (s : State) (p : Nat) (ok : Bool) (rate rxBad txBad : Nat) (taps : List (Nat × Nat × Nat)) : State :=
  if !s.domOn (lanegOf p) || s.portMode p != 1 || s.portState p != 1 || (ok && !s.weltRateOk p rate) then s
  else if ok then (s.setPortState p 2).trained p rate rxBad txBad taps
  else ((s.setPortState p 3).lanesIdle p).report (uPort p) 0x28 2 0

/-- An attempt of a fenced port (R312). -/
def State.weltAttempt (s : State) (p : Nat) (ok : Bool) (rate rxBad txBad : Nat) (taps : List (Nat × Nat × Nat)) : State :=
  if s.domOn (lanegOf p) && s.portMode p == 1 && s.portState p == 3 && s.fenced (uPort p) &&
      s.flag (Fd.EYE_WP_CFG_AUTOREMAP p) && !s.flag (Fd.EYE_WP_STAT_READY p) && !s.unitInReset (uPort p) && ok && s.weltRateOk p rate then
    (s.trained p rate rxBad txBad taps).set (Fd.EYE_WP_STAT_READY p) 1
  else s

/-- A data lane of a direction fails (R314, R316); `busy` says that a remap of the direction is in progress. This end's receiver
asks for a remap with AUTOREMAP at 1 and a good spare; for the transmit direction the partner's receiver asks by its own. -/
def State.laneFail (s : State) (p lane : Nat) (rx busy : Bool) : State :=
  let used := if rx then s.flag (Fd.EYE_WP_STAT_RXREMAP p) else s.flag (Fd.EYE_WP_STAT_TXREMAP p)
  let spare := if rx then s.get (Fd.EYE_WP_STAT_RXSPARE p) else s.get (Fd.EYE_WP_STAT_TXSPARE p)
  let hasSpare := s.flag (Fd.EYE_WP_CFG_SPARE p)
  let asks := !rx || (s.flag (Fd.EYE_WP_CFG_AUTOREMAP p) && !s.flag (Fd.EYE_WP_STAT_SPAREBAD p))
  if !s.weltUp p || (hasSpare && spare == lane) then s
  else if hasSpare && asks && !used && !busy then s.remap p lane rx
  else ((s.setPortState p 3).lanesIdle p).report (uPort p) 0x28 2 0

/-- The spare's checker fails (R313). -/
def State.spareFail (s : State) (p : Nat) : State :=
  if s.weltUp p && s.flag (Fd.EYE_WP_CFG_SPARE p) && !s.flag (Fd.EYE_WP_STAT_SPAREBAD p) then
    ((s.set (Fd.EYE_WP_STAT_SPAREBAD p) 1).raise (192 + p)).report (uPort p) 0x29 1 (s.get (Fd.EYE_WP_STAT_RXSPARE p))
  else s

/-! ## The recovered reference (R317) -/

def State.refLost (s : State) : State :=
  if s.get Fd.RST_STRAP_CLKMODE = 2 && !s.lanes.refLost then
    (([0, 1, 2, 3].foldl (fun (a : State) (n : Nat) => a.lockLost n) { s with lanes := { s.lanes with refLost := true } }).set (Fd.EYE_WP_STAT_REFLOST 0) 1).report
      (uPort 0) 0x2A 1 0
  else s

def State.refBack (s : State) : State := { s with lanes := { s.lanes with refLost := false } }

/-! ## DisplayPort and eDP (R321–R323) -/

/-- Payload in kbit/s of one lane at a DPRATE code (R321). -/
def dpPayload (r : Nat) : Nat :=
  match r with
  | 0 => 1296000 | 1 => 2160000 | 2 => 4320000 | 3 => 6480000 | 4 => 9671000 | 5 => 13056000 | 6 => 19342000
  | _ => 0

/-- Payload of an intermediate rate: 0.8 × 2.16, 2.43, 3.24 and 4.32 Gbit/s. -/
def ilrPayload (i : Nat) : Nat := match i with | 0 => 1728000 | 1 => 1944000 | 2 => 2592000 | _ => 3456000

def State.isDp (s : State) (p : Nat) : Bool := s.domOn (lanegOf p) && (s.portMode p == 3 || s.portMode p == 4)

/-- Bits per channel of an OBPC code (R261). -/
def obpcBits (c : Nat) : Nat := match c with | 0 => 6 | 1 => 8 | 2 => 10 | _ => 12

/-- The head that sends on a port (R239), with the settings that it has taken (R230). -/
def State.headOnPort (s : State) (p : Nat) : Option Nat :=
  (List.range 16).find? (fun h => (s.headS h).running && s.domOn (solegOf h) && decide (2 ≤ s.get (Fd.HD_CTL_OUT h).act) &&
    s.get (Fd.HD_CTL_PORT h).act == p && s.portMode p == s.get (Fd.HD_CTL_OUT h).act + 1)

/-- NOFIT is evaluated (R323). -/
def State.evalFit (s : State) (p : Nat) : State :=
  match s.headOnPort p with
  | none => s.set (Fd.DP_WP_STAT_NOFIT p) 0
  | some h =>
    let lanes := 2 ^ s.get (Fd.DP_WP_STAT_LANES p)
    let pay := if s.flag (Fd.DP_WP_STAT_ILRUSE p) then tabGet 0 s.lanes.ilrKbps p else dpPayload (s.get (Fd.DP_WP_STAT_RATE p))
    s.setB (Fd.DP_WP_STAT_NOFIT p)
      (decide (99 * lanes * pay < 100 * (3 * obpcBits (s.get (Fd.HD_CTL_OBPC h).act) * s.pclk h)))

/-- NOFIT of every port is evaluated. -/
def State.evalFits (s : State) : State := (List.range 8).foldl (fun a p => if a.isDp p then a.evalFit p else a) s

/-- HPD has been high for 2 ms (R322): its level shows in any mode (R336). -/
def State.hpdRise (s : State) (p : Nat) : State :=
  if !s.domOn (lanegOf p) || s.unitInReset (uPort p) then s
  else
    let s1 := (s.set (Fd.DP_WP_STAT_HPD p) 1).raise (206 + p)
    if s.isDp p then s1.dpStart p else s1

/-- HPD has been low for 2 ms (R322). -/
def State.hpdLow (s : State) (p : Nat) : State :=
  if !s.domOn (lanegOf p) || s.unitInReset (uPort p) then s
  else
    let s1 := (s.set (Fd.DP_WP_STAT_HPD p) 0).raise (206 + p)
    if !s.isDp p then s1
    else
      let s2 := ((s1.set (Fd.DP_WP_STAT_TRAINED p) 0).dpAbandon p).lanesIdle p
      if s.fenced (uPort p) then s2 else s2.setPortState p 0

/-- An IRQ_HPD pulse; `lost`: the sink reports lost lock or alignment (R322). -/
def State.hpdIrq (s : State) (p : Nat) (lost : Bool) : State :=
  if s.isDp p && s.flag (Fd.DP_WP_STAT_HPD p) then
    let s1 := (s.set (Fd.DP_WP_STAT_IRQHPD p) 1).raise (206 + p)
    if lost then s1.dpStart p else s1
  else s

/-- The lowest DPRATE code whose line rate is at least an intermediate rate's: 2.16, 2.43, 3.24 and 4.32 Gbit/s (R321). -/
def ilrCode (i : Nat) : Nat := if i < 2 then 1 else 2

/-- May a port train at a rate and lane count (R321)? `ilr` names an intermediate rate. -/
def State.dpAllowed (s : State) (p rate lanes : Nat) (ilr : Option Nat) : Bool :=
  decide (lanes ≤ s.get (Fd.EYE_WP_CFG_DPLANES p)) && decide (rate ≤ s.get (Fd.EYE_WP_CFG_DPRATE p)) &&
    (if s.portMode p = 3 then decide (4 ≤ rate) && decide (rate ≤ 6) && ilr.isNone
     else decide (rate ≤ 3) && (match ilr with
       | none => true
       | some i => s.flag (Fd.EYE_WP_CFG_EDPILR p) && decide (ilrCode i ≤ s.get (Fd.EYE_WP_CFG_DPRATE p))))

/-- The end of a DisplayPort or eDP training (R322): `ilr` is an intermediate rate with its entry in the sink's table, `taps` what
the sink's requests set (R318). -/
def State.dpTrained (s : State) (p : Nat) (ok : Bool) (rate lanes : Nat) (ilr : Option (Nat × Nat)) (taps : List (Nat × Nat × Nat)) : State :=
  if !s.isDp p || !s.lanes.dpTrain.contains p then s
  else
    let s1 := s.dpAbandon p
    if ok then
      if s.dpAllowed p rate lanes (ilr.map (fun e => e.1)) then
        let s2 := ((s1.set (Fd.DP_WP_STAT_TRAINED p) 1).set (Fd.DP_WP_STAT_RATE p) rate).set (Fd.DP_WP_STAT_LANES p) lanes
        let s3 := match ilr with
          | some (i, ix) =>
            { (s2.set (Fd.DP_WP_STAT_ILRUSE p) 1).set (Fd.DP_WP_STAT_ILRIDX p) ix with
                lanes := { s2.lanes with ilrKbps := tabPut 0 s2.lanes.ilrKbps p (ilrPayload i) } }
          | none => (s2.set (Fd.DP_WP_STAT_ILRUSE p) 0).set (Fd.DP_WP_STAT_ILRIDX p) 0
        ((s3.setPortState p 2).standardLanes p (2 ^ lanes) false taps).evalFit p
      else s
    else
      let s2 := ((((s1.set (Fd.DP_WP_STAT_TRAINED p) 0).set (Fd.DP_WP_STAT_TRFAIL p) 1).raise (206 + p)).setPortState p 0).lanesIdle p
      (s2.evalFit p).report (uPort p) 0x2C 1 0

/-! ## Lane test (R324–R327) -/

/-- Does lane `n`'s checker run (R324)? -/
def State.checkerRuns (s : State) (n : Nat) : Bool :=
  let p := n / 4
  let c := s.get (Fd.EYE_L_CFG_RXCHK n)
  (s.portMode p == 5 && s.portState p == 5 && decide (1 ≤ c) && decide (c ≤ 5)) ||
    (s.weltUp p && s.flag (Fd.EYE_WP_CFG_SPARE p) && s.get (Fd.EYE_WP_STAT_RXSPARE p) == n % 4)

/-- Errors counted by a lane (R326). -/
def State.laneErrs (s : State) (n e : Nat) : State := s.set (Fd.EYE_L_ERR_ERRCNT n) (min 0xFFFFFFF (s.get (Fd.EYE_L_ERR_ERRCNT n) + e))

/-- A checker enters sync, its CDR being locked; one in sync counts the errors since its last report (R326). -/
def State.checkerSync (s : State) (n e : Nat) : State :=
  if !s.checkerRuns n then s
  else if s.flag (Fd.EYE_L_STAT_SYNC n) then s.laneErrs n e
  else (s.set (Fd.EYE_L_STAT_SYNC n) 1).set (Fd.EYE_L_STAT_LOCK n) 1

/-- Errors of port `p`'s lanes that come with its traffic (R326): corrected FEC symbols of a UP Welt port's data lanes with
RXCHK at 0, and the receiver errors of MODE 2. -/
def State.trafficErrs (s : State) (p : Nat) (errs : List Nat) : State :=
  (List.range 4).foldl (fun a i =>
    let n := 4 * p + i
    let e := errs.getD i 0
    if e = 0 then a
    else if a.portMode p = 2 ∨ (a.weltUp p = true ∧ a.get (Fd.EYE_L_STAT_USE n) = 1 ∧ a.get (Fd.EYE_L_CFG_RXCHK n) = 0) then a.laneErrs n e
    else a) s

/-- A checker leaves sync (R326), having counted `e` errors in sync. -/
def State.checkerLoss (s : State) (n e : Nat) : State :=
  if s.checkerRuns n && s.flag (Fd.EYE_L_STAT_SYNC n) then
    ((s.laneErrs n e).set (Fd.EYE_L_STAT_SYNC n) 0).set (Fd.EYE_L_STAT_SYNCLOSS n) 1
  else s

/-- A write of EYE_LnCFG: a write of RXCHK restarts the checker's sync (R324), and with EQFRZ at 1 the taps are in use as written
(R318). -/
def State.writeLaneCfg (s : State) (n v : Nat) : State :=
  let s1 := (s.plainWrite (Rg.EYE_L_CFG n) v).set (Fd.EYE_L_STAT_SYNC n) 0
  if nbit v 16 && s1.domOn (lanegOf (n / 4)) then s1.setTaps n (0, 0, 0) else s1

/-- PAM4 runs on a lane: Welt or lane test at RATE 0b00 (R311, R324). -/
def State.lanePam4 (s : State) (n : Nat) : Bool :=
  let p := n / 4
  (s.portMode p == 1 || s.portMode p == 5) && s.get (Fd.EYE_WP_STAT_RATE p) == 0

/-- A write of EYE_LnSCAN (R327). -/
def State.writeScan (s : State) (n v : Nat) : State :=
  let s1 := s.plainWrite (Rg.EYE_L_SCAN n) v
  if !nbit v 27 || s.flag (Fd.EYE_L_SCAN_BUSY n) then s1
  else if !s.flag (Fd.EYE_L_STAT_LOCK n) || (!s.lanePam4 n && nbits v 25 24 != 1) then s1.set (Fd.EYE_L_SCAN_RESULT n) 255
  else s1.set (Fd.EYE_L_SCAN_BUSY n) 1

/-- The end of a scan point with its disagreements, or on loss of lock (R327). -/
def State.scanDone (s : State) (n r : Nat) (lost : Bool) : State :=
  if !s.flag (Fd.EYE_L_SCAN_BUSY n) then s
  else
    if lost then s.lockLost n else (s.set (Fd.EYE_L_SCAN_BUSY n) 0).set (Fd.EYE_L_SCAN_RESULT n) (min 255 r)

/-! ## PCI Express (R319, R320, R334, R335) -/

def State.isPcie (s : State) : Bool := s.domOn 12 && s.portMode 0 == 2

/-- Lanes of a WIDTH code. -/
def pcieLanes (w : Nat) : Nat := match w with | 0 => 1 | 1 => 2 | _ => 4

/-- The link trains (R319): the generation and width are capped by MAXGEN and MAXW; `taps` are what equalisation set (R318). -/
def State.linkUp (s : State) (gen width : Nat) (taps : List (Nat × Nat × Nat)) : State :=
  if s.isPcie && !s.flag Fd.PCIE_STAT_PERST && !s.fenced (uPort 0) && !s.unitInReset (uPort 0) && decide (1 ≤ gen) &&
      decide (gen ≤ s.get Fd.PCIE_CTL_MAXGEN) && decide (width ≤ s.get Fd.PCIE_CTL_MAXW) then
    ((((s.set Fd.PCIE_STAT_LINKUP 1).set Fd.PCIE_STAT_GEN gen).set Fd.PCIE_STAT_WIDTH width).setPortState 0 2).standardLanes 0
      (pcieLanes width) true taps
  else s

/-- A link-down event (R320): the port trains again. -/
def State.pcieDown (s : State) : State :=
  if s.isPcie && s.flag Fd.PCIE_STAT_LINKUP then (s.setPortState 0 1).linkDown else s

/-- What a unit reset leaves of a register (R12, its Unit column). -/
def unitNat (k old : Nat) : Nat :=
  match specAt k with
  | none => old
  | some r => r.fields.foldl (fun a f => a + (match f.unit with
      | .val n => n * 2 ^ f.lo
      | _ => nbits old f.hi f.lo * 2 ^ f.lo)) 0

def State.unitReg (s : State) (k : Nat) : State := s.setRegN k (unitNat k (s.regN k))

end Sys2Proof.Machine
end

