-- ==== Sys2Proof/Machine/Dynamics.lean ====
section
/-! DEFINITION. The arithmetic of an output bus's dynamics (R587, R588) in fixed point: levels in 2⁻⁴⁰ dB, gains and
coefficients in 2⁻⁴⁰. What the spec leaves of the applied gain is drawn free within the bounds it states (log entry 46). -/
namespace Sys2Proof.Machine

/-- 1 in the units of this file. -/
def fxOne : Nat := 2 ^ 40

/-- `n` binary digits of the base-2 logarithm of `x / 2⁴⁰`, for `x` from 2⁴⁰ to below 2⁴¹. -/
def log2Digits : Nat → Nat → Nat → Nat
  | 0, _, acc => acc
  | n + 1, x, acc =>
    let y := x * x / fxOne
    if 2 * fxOne ≤ y then log2Digits n (y / 2) (2 * acc + 1) else log2Digits n y (2 * acc)

/-- The base-2 logarithm of `m ≥ 1`, in 2⁻²⁴. -/
def log2Fx (m : Nat) : Nat :=
  let e := Nat.log2 m
  e * 2 ^ 24 + log2Digits 24 (m * fxOne / 2 ^ e) 0

/-- 20 log10(`m` / 2ⁿ) in 2⁻⁴⁰ dB: one factor of 2 is 6.020599913 dB. -/
def decibels (m n : Nat) : Int := Int.fdiv (((log2Fx m : Int) - (n * 2 ^ 24 : Nat)) * 6020599913 * 65536) 1000000000

/-- e^z for `z` from 0 to below 1, by its series: `z` and the result in 2⁻⁴⁰. -/
def expFx (z : Nat) : Nat :=
  [16, 15, 14, 13, 12, 11, 10, 9, 8, 7, 6, 5, 4, 3, 2, 1].foldl (fun a k => fxOne + z * a / fxOne / k) fxOne

/-- 10^(`d` / 20) for `d` in 2⁻⁴⁰ dB, in 2⁻⁴⁰: as a power of 2, whole part by a shift and the rest by e^(f ln 2). -/
def gainOf (d : Int) : Nat :=
  let p := Int.fdiv (d * 166096404744) 1000000000000
  let i := Int.fdiv p fxOne
  let m := expFx ((Int.fmod p fxOne).toNat * 762123384786 / fxOne)
  if 0 ≤ i then m * 2 ^ i.toNat else m / 2 ^ (-i).toNat

/-- 1 − exp(−t) for `t` of 2⁻⁴⁰, by its series (R587). -/
def decayFx (t : Nat) : Nat :=
  let u : Int := [16, 15, 14, 13, 12, 11, 10, 9, 8, 7, 6, 5, 4, 3, 2].foldl
    (fun (a : Int) k => fxOne - Int.fdiv (Int.fdiv ((t : Int) * a) fxOne) k) fxOne
  (Int.fdiv ((t : Int) * u) fxOne).toNat

/-- The coefficient of an attack time `att` × 0.1 ms at `fs` samples a second; 0 acts as 1 (R604). -/
def attackFx (fs att : Nat) : Nat := decayFx (10000 * fxOne / (fs * max 1 att))

/-- The coefficient of a release time `rel` × 2 ms. -/
def releaseFx (fs rel : Nat) : Nat := decayFx (500 * fxOne / (fs * max 1 rel))

/-- The detector (R587): `x` with the attack time above it and the release time otherwise. -/
def detector (env x : Int) (att rel : Nat) : Int :=
  env + Int.fdiv ((x - env) * (if env < x then (att : Int) else rel)) fxOne

/-- The compressor's gain g in dB (R587, R604), from THR, RATIO, KNEE and env. -/
def compGain (thr ratio knee : Nat) (env : Int) : Int :=
  let d := env + (thr : Int) * 2 ^ 38
  let w := (knee : Int) * fxOne
  let slope := fun (a : Int) => if ratio = 31 then -a else -(Int.fdiv (a * (ratio : Int)) ((ratio : Int) + 2))
  if knee = 0 then (if d ≤ 0 then 0 else slope d)
  else if 2 * d < -w then 0
  else if w < 2 * d then slope d
  else slope (Int.fdiv ((2 * d + w) * (2 * d + w)) (8 * w))

/-- The gain applied for a defined gain `g`: any from 0.1 dB below it to 0.1 dB above it (R587), by the draw `r`. The two
bounds are 10^(∓0.005), a millionth wider. -/
def within01 (g r : Nat) : Nat :=
  let lo := g * 988552 / 1000000
  let hi := g * 1011581 / 1000000 + 1
  lo + r % (hi - lo + 1)

/-- A channel through a compressor gain: the rounding of the product is not stated, so the draw takes either neighbour. -/
def compressed (g r : Nat) (x : Int) : Int := Int.fdiv (x * (g : Int)) fxOne + ((r % 2 : Nat) : Int)

/-- The limiter's ceiling c (R604) in the buses' units, times 2⁴⁰. -/
def ceilingFx (ceil : Nat) : Nat := gainOf (-((ceil : Int) * 2 ^ 37)) * 2 ^ 23

/-- The limiter's gain after a sample of peak `p` (R588). -/
def limiterGain (gl c p rel : Nat) : Nat :=
  let target := if p = 0 then fxOne else min fxOne (c / p)
  if target < gl then target else min fxOne (gl + (fxOne - gl) * rel / fxOne)

/-- A channel through the limiter: the product within one unit, and never over the ceiling. -/
def limited (gl c r : Nat) (x : Int) : Int :=
  let m : Int := ((c / fxOne : Nat) : Int)
  max (-m) (min m (Int.fdiv (x * (gl : Int)) fxOne - 1 + ((r % 4 : Nat) : Int)))

/-- AUD_OBk_STAT.GR (R605): the reduction of both in 0.25 dB units, saturating; its rounding is drawn. -/
def reductionOf (g : Int) (gl r : Nat) : Nat :=
  let red := (-g) + (if gl = 0 then 255 * 2 ^ 38 else -(decibels gl 40))
  min 255 ((Int.fdiv red (2 ^ 38)).toNat + r % 2)

end Sys2Proof.Machine
end

