-- ==== Sys2Proof/Machine/Sound.lean ====
section
/-! DEFINITION. The sound engine (18_audio.md R574–R598): the voice table, key events, rendering a sample of a rate domain,
gains, mixing, dynamics, block boundaries and the refusals of R591. -/
namespace Sys2Proof.Machine

/-! ## Access -/

def State.voice (s : State) (v : Nat) : VoiceS := tabGet {} s.audio.voices v
def State.setVoice (s : State) (v : Nat) (x : VoiceS) : State :=
  { s with audio := { s.audio with voices := tabPut {} s.audio.voices v x } }
def State.dom (s : State) (d : Nat) : DomS := tabGet {} s.audio.doms d
def State.setDom (s : State) (d : Nat) (x : DomS) : State :=
  { s with audio := { s.audio with doms := tabPut {} s.audio.doms d x } }
def State.audRx (s : State) (k : Nat) : AudRxS := tabGet {} s.audio.rx k
def State.setAudRx (s : State) (k : Nat) (x : AudRxS) : State :=
  { s with audio := { s.audio with rx := tabPut {} s.audio.rx k x } }

/-- Gains that no write has changed since a reset: those of a register (R451, R602, R607). -/
def keptGain (g : Nat) : GainS := { l := g, r := g }
def State.mixGain (s : State) (n : Nat) : GainS := (tabFind s.audio.mixGain n).getD (keptGain (s.get (Fd.AUD_MB_GAIN n)))
def State.setMixGain (s : State) (n : Nat) (g : GainS) : State :=
  { s with audio := { s.audio with mixGain := tabInsert s.audio.mixGain n g } }
def State.rxGain (s : State) (k : Nat) : GainS := (tabFind s.audio.rxGain k).getD (keptGain (s.get (Fd.AUD_RX_CFG_GAIN k)))
def State.setRxGain (s : State) (k : Nat) (g : GainS) : State :=
  { s with audio := { s.audio with rxGain := tabInsert s.audio.rxGain k g } }

/-- Word `w` of voice entry `v` (R574). -/
def voiceAddr (v w : Nat) : Nat := 0x7FF3000000 + v * 0x40 + 4 * w
def State.vword (s : State) (v w : Nat) : Nat := s.word (voiceAddr v w)

/-- Gains of a voice: those of its table entry until a write changes them (R451). -/
def State.voiceGain (s : State) (v : Nat) : GainS :=
  (s.voice v).gain.getD { l := nbits (s.vword v 1) 29 16, r := s.vword v 1 % 16384 }

/-- A domain code; 3 acts as 0 (R602). -/
def domCode (d : Nat) : Nat := if d = 3 then 0 else d
def State.mbDom (s : State) (n : Nat) : Nat := domCode (s.get (Fd.AUD_MB_DOM n))
def State.obDom (s : State) (k : Nat) : Nat := domCode (s.get (Fd.AUD_OB_CFG_DOM k))

/-- Samples per second of a domain (R583). -/
def State.domRate (s : State) (d : Nat) : Nat :=
  match d with
  | 0 => 48000
  | 1 => 44100
  | _ => if s.flag Fd.AUD_CTL_VDRATE then 16000 else 8000

/-- Ticks of the time base in a millisecond. -/
def msTicks : Nat := 62500

/-- The engine renders: it is enabled, powered, in no reset, not fenced and not halted. -/
def State.soundOn (s : State) : Bool :=
  s.flag Fd.AUD_CTL_EN && s.domOn 17 && !s.fenced uSound && !s.halted && !s.rst.held.contains uSound && !s.rst.pulsed.contains uSound

/-! ## Key events (R581, R582) -/

/-- At most once per millisecond. -/
def State.msSince (s : State) (t : Option Nat) : Bool :=
  match t with
  | none => true
  | some a => decide (msTicks ≤ s.time.now - a)

/-- A key event arrives (R581). -/
def State.queueKey (s : State) (e : KeyEv) : State :=
  if !s.flag Fd.AUD_CTL_EN || !s.domOn 17 || s.rst.held.contains uSound || s.rst.pulsed.contains uSound then s
  else if s.audio.keys.length < 64 then { s with audio := { s.audio with keys := s.audio.keys ++ [e] } }
  else
    let s1 := s.bump Fd.AUD_STAT_KEYDROP 63
    if s.msSince s.audio.dropAt then
      { s1 with audio := { s1.audio with dropAt := some s.time.now } }.report uSound 0x3A 0 0
    else s1

/-- KIND of a voice (R575). -/
def State.vkind (s : State) (v : Nat) : Nat := s.vword v 0 / 2 ^ 30

/-- A key-on (R582, R577). -/
def State.keyOn (s : State) (v : Nat) : State :=
  if s.vkind v = 3 then s
  else
    let x := s.voice v
    let idle := s.vkind v == 0 && s.vword v 5 % 2 ^ 24 == 0
    s.setVoice v { x with pos := 0, phase := 0, noise := 0x1FFFF, env := 0, st := if idle then 0 else 1 }

/-- A key-off (R582). -/
def State.keyOff (s : State) (v : Nat) : State :=
  let x := s.voice v
  if x.st = 0 then s else s.setVoice v { x with st := 4 }

/-- The domain of a voice: that of its mix bus in force (R580). -/
def State.voiceDom (s : State) (v : Nat) : Nat := s.mbDom (s.voice v).bus

/-- Is event `i` of the queue the first of its voice, and due (R178, R581)? -/
def State.keyDue (s : State) (i : Nat) : Option KeyEv :=
  match s.audio.keys[i]? with
  | none => none
  | some e =>
    if (s.audio.keys.take i).any (fun k => k.voice == e.voice) then none
    else match e.stamp with
      | none => some e
      | some t => if 62500000 ≤ (s.time.now - t) * s.domRate (s.voiceDom e.voice) then some e else none

/-! ## Gains (R590) -/

/-- A gain write for both channels at time `t`. -/
def GainS.write (g : GainS) (t l r : Nat) : GainS :=
  { g with pl := some l, pr := some r, tl := if g.pl.isNone then t else g.tl, tr := if g.pr.isNone then t else g.tr }

/-- Opposite signs, or a signal of 0. -/
def crosses (prev cur : Int) : Bool := cur == 0 || (decide (prev < 0) && decide (0 < cur)) || (decide (0 < prev) && decide (cur < 0))

/-- At a sample boundary: pending gains apply at a crossing, or at once where `now` says so; the signals are kept. -/
def GainS.step (g : GainS) (now : Bool) (sl sr : Int) : GainS :=
  let l := match g.pl with | some x => if now || crosses g.sl sl then x else g.l | none => g.l
  let pl := match g.pl with | some _ => if now || crosses g.sl sl then none else g.pl | none => none
  let r := match g.pr with | some x => if now || crosses g.sr sr then x else g.r | none => g.r
  let pr := match g.pr with | some _ => if now || crosses g.sr sr then none else g.pr | none => none
  { g with l := l, r := r, pl := pl, pr := pr, sl := sl, sr := sr }

/-- The pending gains whose time `t` after the first write has passed apply (R590, timeout). -/
def GainS.expire (g : GainS) (now t : Nat) : GainS :=
  let l := decide (t ≤ now - g.tl)
  let r := decide (t ≤ now - g.tr)
  { g with l := if l then g.pl.getD g.l else g.l, pl := if l then none else g.pl,
           r := if r then g.pr.getD g.r else g.r, pr := if r then none else g.pr }

/-! ## A voice's sample (R576–R580) -/

/-- Saturation to `n` bits of two's complement. -/
def satBits (n : Nat) (i : Int) : Int := clampInt (-(2 ^ (n - 1) : Nat)) ((2 ^ (n - 1) : Nat) - 1) i

/-- Address of wavetable sample `i`. -/
def State.waveAddr (s : State) (v i : Nat) : Nat := s.vword v 4 % 256 * 2 ^ 32 + s.vword v 3 / 2 * 2 + 2 * i

/-- Wavetable sample `i` is read with a tack of class 4 (R269, R576): none where the read ends with bus-error status. A read that
waits for memory or for its tack (R270, R284) is noted. -/
def State.waveSample (s : State) (v i : Nat) : State × Option Int :=
  let a := s.waveAddr v i
  match s.gddrAcc a with
  | .unmapped => (s.unmapped 0x1A a false, none)
  | .wait => ({ s with audio := { s.audio with waits := true } }, some 0)
  | .ok =>
    if !s.tackFree 0x1A s.audio.turn then ({ s.poolWait 4 with audio := { s.audio with waits := true } }, some 0)
    else
      let (s1, got) := (s.tackUse 0x1A).burst (a / 64 * 64) 0x1A (s.audio.ends.headD .clean)
      ({ s1 with audio := { s1.audio with ends := s1.audio.ends.tail, turn := true } },
        if got then some (signed 14 (s.bytesLE a 2 / 4)) else none)

/-- Sample indices that a wavetable voice reads at its position (R577): the second one where the table goes on. -/
def State.waveReads (s : State) (v : Nat) : Nat × Option Nat :=
  let f := (s.voice v).pos / 65536
  let e := s.vword v 5 % 2 ^ 24
  let ls := s.vword v 6 % 2 ^ 24
  let loop := nbit (s.vword v 0) 29 && decide (ls < e)
  (f, if f + 1 < e then some (f + 1) else if loop then some ls else none)

/-- The waveform value w; none where a sample read failed. -/
def State.waveform (s : State) (v : Nat) : State × Option Int :=
  let x := s.voice v
  match s.vkind v with
  | 0 =>
    let (i, j) := s.waveReads v
    match s.waveSample v i with
    | (s1, none) => (s1, none)
    | (s1, some s0) =>
      if !nbit (s.vword v 0) 28 then (s1, some s0)
      else
        let f : Int := x.pos % 65536
        match j with
        | none => (s1, some (s0 + Int.fdiv ((0 - s0) * f + 32768) 65536))
        | some k => let (s2, r) := s1.waveSample v k; (s2, r.map (fun z => s0 + Int.fdiv ((z - s0) * f + 32768) 65536))
  | 1 => (s, some (if x.phase < s.vword v 4 / 65536 * 65536 then 8191 else -8192))
  | 2 => (s, some (if x.noise % 2 = 1 then 8191 else -8192))
  | _ => (s.draw, some (signed 14 (Config.freeValue s.fresh)))

/-- The position, phase and noise register after a sample (R577, R578); the Bool says the wavetable ended. -/
def State.advancePos (s : State) (v : Nat) (x : VoiceS) : VoiceS × Bool :=
  let inc := s.vword v 2
  if s.vkind v = 0 then
    let e := s.vword v 5 % 2 ^ 24
    let ls := s.vword v 6 % 2 ^ 24
    let p := x.pos + inc
    if p / 65536 < e then ({ x with pos := p }, false)
    else if nbit (s.vword v 0) 29 && decide (ls < e) then
      ({ x with pos := ls * 65536 + (p - e * 65536) % ((e - ls) * 65536) }, false)
    else ({ x with pos := p % 2 ^ 40 }, true)
  else
    let p := x.phase + inc
    let n := if 2 ^ 32 ≤ p then x.noise * 2 % 2 ^ 17 + (x.noise / 2 ^ 16 + x.noise / 2 ^ 13) % 2 else x.noise
    ({ x with phase := p % 2 ^ 32, noise := if s.vkind v = 2 then n else x.noise }, false)

/-- The envelope after a sample (R579). -/
def State.advanceEnv (s : State) (v : Nat) (x : VoiceS) : VoiceS :=
  let sus := min 8192 (nbits (s.vword v 8) 29 16)
  let att := nbits (s.vword v 7) 29 16
  let dec := s.vword v 7 % 16384
  let rel := s.vword v 8 % 16384
  let y := match x.st with
    | 1 => let e := if att = 0 then 8192 else min 8192 (x.env + att)
           { x with env := e, st := if e = 8192 then 2 else 1 }
    | 2 => let e := if dec = 0 then sus else max sus (x.env - dec)
           { x with env := e }
    | 4 => let e := if rel = 0 then 0 else x.env - rel
           { x with env := e, st := if e = 0 then 0 else 4 }
    | _ => x
  if y.st = 2 ∧ y.env = sus then { y with st := 3 } else y

/-- ZCTMO of a mix bus (R590). -/
def State.zct (s : State) (n : Nat) : Nat := s.get (Fd.AUD_MB_ZCTMO n)

/-- One sample of voice `v`: the state after it and its contributions (R580). -/
def State.voiceSample (s : State) (v : Nat) : State × Int × Int :=
  let x := s.voice v
  let g0 := s.voiceGain v
  if x.st = 0 then (if x.gain.isSome then s.setVoice v { x with gain := some (g0.step true 0 0) } else s, 0, 0)
  else match s.waveform v with
    | (s0, none) => (s0.setVoice v { x with st := 0 }, 0, 0)
    | (s0, some w) =>
      let sig := w * (x.env : Int)
      let g := g0.step (s.zct x.bus == 0) sig sig
      let cl := Int.fdiv (sig * (g.l : Int) + 32768) 65536
      let cr := Int.fdiv (sig * (g.r : Int) + 32768) 65536
      let (y, ended) := s.advancePos v { x with gain := some g }
      let z := s.advanceEnv v y
      (s0.setVoice v (if ended then { z with st := 0 } else z), cl, cr)

/-! ## Mixing (R586) -/

/-- A sum with gains applied: sat(floor((S × GAIN + 4096) / 8192)). -/
def gained (g : Nat) (x : Int) : Int := satBits 28 (Int.fdiv (x * (g : Int) + 4096) 8192)

/-- The sum of the voices that feed mix bus `n`. -/
def busSum (n : Nat) (ps : List (Nat × Int × Int)) : Int × Int :=
  ps.foldl (fun a p => if p.1 = n then (a.1 + p.2.1, a.2 + p.2.2) else a) (0, 0)

/-- What receiver `k` adds to its mix bus: its bridge's output, 0 while it does not play, through its gain (R585, R590, R595). -/
def State.rxSample (s : State) (k : Nat) : State × Int × Int :=
  let play := s.flag (Fd.AUD_RX_CFG_EN k).act && s.get (Fd.AUD_RX_STAT_STATE k) == 2
  let l := if play then satBits 28 (Config.bridge (32 + 2 * k) s.fresh) else 0
  let r := if play then satBits 28 (Config.bridge (33 + 2 * k) s.fresh) else 0
  let g := (s.rxGain k).step (s.zct (s.get (Fd.AUD_RX_CFG_MIXBUS k).act) == 0) l r
  let t := s.setRxGain k g
  (if play then t.draw else t, gained g.l l, gained g.r r)

/-- One sample of mix bus `n` of domain `d` (R586): its output, 0 where it is disabled. -/
def State.mixSample (s : State) (n : Nat) (ps : List (Nat × Int × Int)) : State × Int × Int :=
  let (s1, rs) := (List.range 4).foldl (fun (a : State × Int × Int) k =>
    if a.1.get (Fd.AUD_RX_CFG_MIXBUS k).act = n then
      let (t, l, r) := a.1.rxSample k
      (t, a.2.1 + l, a.2.2 + r)
    else a) (s, 0, 0)
  let v := busSum n ps
  let l := v.1 + rs.1
  let r := v.2 + rs.2
  let g := (s1.mixGain n).step (s.zct n == 0) l r
  let s2 := s1.setMixGain n g
  if s.flag (Fd.AUD_MB_EN n).act then (s2, gained g.l l, gained g.r r) else (s2, 0, 0)

/-- The output of a bridge into output bus `k` from domain `d` (R585): 0 where no enabled mix bus feeds it. -/
def State.bridgeSample (s : State) (k d : Nat) : State × Int × Int :=
  if s.obDom k ≠ d && (s.dom d).run &&
      (List.range 32).any (fun n => s.flag (Fd.AUD_MB_EN n).act && s.get (Fd.AUD_MB_DEST n).act == k && s.mbDom n == d) then
    (s.draw, satBits 28 (Config.bridge (64 + 6 * k + 2 * d) s.fresh), satBits 28 (Config.bridge (65 + 6 * k + 2 * d) s.fresh))
  else (s, 0, 0)

/-- The compressor's gain in dB at a sample, before make-up: 0 with COMPEN 0 (R587). -/
def State.obCompGain (s : State) (k : Nat) (env : Int) : Int :=
  if s.flag (Fd.AUD_OB_CFG_COMPEN k) then
    compGain (s.get (Fd.AUD_OB_DYN0_THR k)) (s.get (Fd.AUD_OB_DYN0_RATIO k)) (s.get (Fd.AUD_OB_DYN0_KNEE k)) env
  else 0

/-- Detector, gains, the channels out of the limiter and GR of one stereo sample of output bus `k` (R587, R588). A stage that
is off stands at its start values, so that each enable finds them. -/
def State.dynSample (s : State) (k : Nat) (l r : Int) : DynS × Int × Int × Nat :=
  let d := tabGet {} s.audio.dyn k
  let fs := s.domRate (s.obDom k)
  let rel := releaseFx fs (s.get (Fd.AUD_OB_DYN1_REL k))
  let comp := s.flag (Fd.AUD_OB_CFG_COMPEN k)
  let lim := s.flag (Fd.AUD_OB_CFG_LIMEN k)
  let free := Config.audioFree s.fresh
  let env := if comp then detector d.env (decibels (max (max l.natAbs r.natAbs) 1) 23)
    (attackFx fs (s.get (Fd.AUD_OB_DYN1_ATT k))) rel else ({} : DynS).env
  let g := s.obCompGain k env
  let gain := within01 (gainOf (g + (s.get (Fd.AUD_OB_DYN0_MAKEUP k) : Int) * 2 ^ 39)) (free 0)
  let l1 := if comp then compressed gain (free 1) l else l
  let r1 := if comp then compressed gain (free 2) r else r
  let c := ceilingFx (s.get (Fd.AUD_OB_DYN1_CEIL k))
  let gl := if lim then limiterGain d.gl c (max l1.natAbs r1.natAbs) rel else ({} : DynS).gl
  ({ env := env, gl := gl }, if lim then limited gl c (free 3) l1 else l1, if lim then limited gl c (free 4) r1 else r1,
    reductionOf g gl (free 5))

/-- The dynamics' state after a sample; the draw is spent. -/
def State.keepDyn (s : State) (k : Nat) (d : DynS) : State :=
  { s.draw with audio := { s.audio with dyn := tabPut {} s.audio.dyn k d } }

/-- A channel that its clamp changes counts in CLIPCNT (R587). -/
def State.countClip (s : State) (k : Nat) (x : Int) : State :=
  if satBits 24 x = x then s else s.bump (Fd.AUD_OB_STAT_CLIPCNT k) 4095

/-- Dynamics of output bus `k` on one stereo sample (R587). -/
def State.dynamics (s : State) (k : Nat) (l r : Int) : State × Int × Int :=
  let y := s.dynSample k l r
  ((((s.keepDyn k y.1).countClip k y.2.1).countClip k y.2.2.1).set (Fd.AUD_OB_STAT_GR k) y.2.2.2, satBits 24 y.2.1,
    satBits 24 y.2.2.1)

/-- One sample of output bus `k` from the mix buses' outputs. -/
def State.outSample (s : State) (k : Nat) (ms : List (Nat × Int × Int)) : State :=
  let m := ms.foldl (fun (a : Int × Int) p =>
    if s.get (Fd.AUD_MB_DEST p.1).act = k ∧ s.flag (Fd.AUD_MB_EN p.1).act then (a.1 + p.2.1, a.2 + p.2.2) else a) (0, 0)
  let (s1, b) := (List.range 3).foldl (fun (a : State × Int × Int) d =>
    let (t, l, r) := a.1.bridgeSample k d
    (t, a.2.1 + l, a.2.2 + r)) (s, 0, 0)
  let (s2, l, r) := if s.flag (Fd.AUD_OB_CFG_EN k).act
    then s1.dynamics k (satBits 28 (m.1 + b.1)) (satBits 28 (m.2 + b.2))
    else ({ s1 with audio := { s1.audio with dyn := tabErase s1.audio.dyn k } }, 0, 0)
  { s2 with audio := { s2.audio with cur := tabPut [] s2.audio.cur k (tabGet [] s2.audio.cur k ++ [(l, r)]) } }

/-- One sample of domain `d`: its voices, its mix buses and its output buses. -/
def State.domSample (s : State) (d : Nat) : State :=
  let (s1, ps) := (List.range 256).foldl (fun (a : State × List (Nat × Int × Int)) v =>
    if a.1.voiceDom v = d then
      let (t, l, r) := a.1.voiceSample v
      (t, ((s.voice v).bus, l, r) :: a.2)
    else a) (s, [])
  let (s2, ms) := (List.range 32).foldl (fun (a : State × List (Nat × Int × Int)) n =>
    if s.mbDom n = d then
      let (t, l, r) := a.1.mixSample n ps
      (t, (n, l, r) :: a.2)
    else a) (s1, [])
  let s3 := (List.range 8).foldl (fun a k => if s.obDom k = d then a.outSample k ms else a) s2
  s3.setDom d { s3.dom d with smp := (s3.dom d).smp + 1 }

/-- `n` samples of a domain. -/
def State.domSamples (s : State) (d : Nat) : Nat → State
  | 0 => s
  | n + 1 => (s.domSample d).domSamples d n

/-- Samples of the block in progress up to sample `k`; none while the domain waits for its next block boundary (R598, R692). -/
def State.domUpTo (s : State) (d k : Nat) : State :=
  if (s.dom d).wait then s else s.domSamples d (min 32 k - (s.dom d).smp)

/-- A block of zeros. -/
def silence : List (Int × Int) := List.replicate 32 (0, 0)

/-! ## Boundaries (R589) -/

/-- A route field takes its register's value. -/
def State.takeField (s : State) (f : Fd) : State := s.set f.act (s.get f)

/-- The route changes of domain `d` apply (R589). -/
def State.takeRoutes (s : State) (d : Nat) : State :=
  let s1 := (List.range 32).foldl (fun a n =>
    if a.mbDom n = d then (a.takeField (Fd.AUD_MB_EN n)).takeField (Fd.AUD_MB_DEST n) else a) s
  let s2 := (List.range 8).foldl (fun a k =>
    if a.obDom k = d then ((a.takeField (Fd.AUD_OB_CFG_EN k)).takeField (Fd.AUD_OB_CFG_DPEN k)).takeField (Fd.AUD_OB_CFG_DPPORT k)
    else a) s1
  let s3 := (List.range 4).foldl (fun a p =>
    if domCode (a.get (Fd.AUD_PT_CFG_DOM p)) = d then (a.takeField (Fd.AUD_PT_CFG_EN p)).takeField (Fd.AUD_PT_CFG_FIRST p)
    else a) s2
  let s4 := (List.range 4).foldl (fun a k =>
    if a.mbDom (a.get (Fd.AUD_RX_CFG_MIXBUS k)) = d then (a.takeField (Fd.AUD_RX_CFG_EN k)).takeField (Fd.AUD_RX_CFG_MIXBUS k)
    else a) s3
  (List.range 256).foldl (fun a v =>
    if a.voiceDom v = d then a.setVoice v { a.voice v with bus := nbits (a.vword v 0) 20 16 } else a) s4

/-- A receiver plays a block (R595). -/
def State.rxPlay (s : State) (k : Nat) : State :=
  if s.get (Fd.AUD_RX_STAT_STATE k) ≠ 2 then s
  else
    let x := s.audRx k
    match x.blocks with
    | [] => ((s.bump (Fd.AUD_RX_STAT_UNDER k) 63).set (Fd.AUD_RX_STAT_STATE k) 1).setAudRx k { x with next := none, playing := [] }
    | (b, fr) :: rest =>
      let n := x.next.getD b
      if b = n then (s.setAudRx k { x with blocks := rest, next := some ((n + 1) % 65536), playing := fr }).set
        (Fd.AUD_RX_STAT_LEVEL k) rest.length
      else (s.bump (Fd.AUD_RX_STAT_GAP k) 63).setAudRx k { x with next := some ((n + 1) % 65536), playing := [] }

/-- A block boundary of domain `d` (R589): the block in progress is whole, its samples go to the sinks, route changes
apply, and receivers of the domain play their next block. A late block, and one that a halt or a fence broke off, is silent (R597,
R598, R692). -/
def State.blockBoundary (s : State) (d : Nat) : State :=
  let s1 := s.domUpTo d 32
  let mute := (s.dom d).late || (s.dom d).wait
  let s2 := (List.range 8).foldl (fun a k =>
    if a.obDom k = d then
      { a with audio := { a.audio with
          out := tabPut [] a.audio.out k (if mute then silence else tabGet [] a.audio.cur k),
          cur := tabErase a.audio.cur k } }
    else a) s1
  let s3 := (List.range 4).foldl (fun a k => if a.mbDom (a.get (Fd.AUD_RX_CFG_MIXBUS k).act) = d then a.rxPlay k else a) s2
  (s3.takeRoutes d).setDom d { s3.dom d with smp := 0, block := ((s.dom d).block + 1) % 65536, late := false, wait := false }

/-- A block boundary comes to a domain that runs. -/
def State.boundaryDue (s : State) (d : Nat) : Bool := s.soundOn && (s.dom d).run

/-! ## What the ports send (R592, R593) -/

/-- A 24-bit sample in a 32-bit slot. -/
def slotWord (x : Int) : Nat := unsignedOf 24 x * 256

/-- Frame `i` of port `p`: slots 2j and 2j + 1 carry output bus FIRST + j, or 0. -/
def State.portFrame (s : State) (p i : Nat) : List Nat :=
  ((List.range (2 ^ s.get (Fd.AUD_PT_CFG_SLOTS p))).map (fun j =>
    let k := s.get (Fd.AUD_PT_CFG_FIRST p).act + j
    if k < 8 ∧ s.flag (Fd.AUD_OB_CFG_EN k).act = true ∧ s.obDom k = domCode (s.get (Fd.AUD_PT_CFG_DOM p)) then
      let x := (tabGet [] s.audio.out k).getD i (0, 0)
      [slotWord x.1, slotWord x.2]
    else [0, 0])).flatten

/-- The 32 frames that port `p` sends of a block; none where it is off, or a slave whose clocks have stopped. -/
def State.portBlock (s : State) (p : Nat) : List (List Nat) :=
  if s.flag (Fd.AUD_PT_CFG_EN p).act && (s.flag (Fd.AUD_PT_CFG_MASTER p) || !(s.dom (domCode (s.get (Fd.AUD_PT_CFG_DOM p)))).lost) then
    (List.range 32).map (s.portFrame p)
  else []

/-- The ports of domain `d` take its block. -/
def State.portsSend (s : State) (d : Nat) : State :=
  { s with audio := { s.audio with ports := (List.range 4).foldl (fun t p =>
      if domCode (s.get (Fd.AUD_PT_CFG_DOM p)) = d then tabPut [] t p (s.portBlock p) else t) s.audio.ports } }

/-- A block is not ready at its first sample (R597). -/
def State.blockLate (s : State) (d : Nat) : State :=
  if !s.soundOn || !(s.dom d).run || (s.dom d).late then s
  else
    let s1 := (s.setDom d { s.dom d with late := true }).bump Fd.AUD_STAT_LATE 127
    if s.msSince s.audio.lateAt then
      { s1 with audio := { s1.audio with lateAt := some s.time.now } }.report uSound 0x3A 1 2
    else s1

/-- A queued event applies at sample `k` of the current block of its voice's domain (R581). -/
def State.keyApply (s : State) (i k : Nat) : State :=
  if !s.soundOn then s
  else match s.keyDue i with
    | none => s
    | some e =>
      let s1 := s.domUpTo (s.voiceDom e.voice) k
      let s2 := { s1 with audio := { s1.audio with keys := s1.audio.keys.eraseIdx i } }
      if e.on then s2.keyOn e.voice else s2.keyOff e.voice

/-- ZCTMO of mix bus `n` in ticks, and the sample boundary that follows. -/
def State.zcTicks (s : State) (n : Nat) : Nat := s.zct n * msTicks

/-- A pending gain's timeout (R590): `u` is a voice 0–255, a mix bus 256 + n or a receiver 288 + k; `k` is the sample. -/
def State.gainTimeout (s : State) (u k : Nat) : State :=
  let n := if u < 256 then (s.voice u).bus else if u < 288 then u - 256 else s.get (Fd.AUD_RX_CFG_MIXBUS (u - 288)).act
  let up := fun (g : GainS) => g.expire s.time.now (s.zcTicks n)
  let g := if u < 256 then s.voiceGain u else if u < 288 then s.mixGain (u - 256) else s.rxGain (u - 288)
  if s.soundOn = false ∨ up g = g then s
  else
    let t := s.domUpTo (s.mbDom n) k
    if u < 256 then t.setVoice u { t.voice u with gain := (t.voice u).gain.map up }
    else if u < 288 then t.setMixGain (u - 256) (up (t.mixGain (u - 256)))
    else t.setRxGain (u - 288) (up (t.rxGain (u - 288)))

/-- A command that renders samples, with the ends of its bursts: while a read waits (R270, R284) it has no effect but to wait for
its tack, and is offered again. -/
def State.render (s : State) (e : Env) (f : State → State) : State :=
  let t := f { s with audio := { s.audio with ends := e.ends } }
  if t.audio.waits then { s with fetch := { s.fetch with waiting := t.fetch.waiting } }
  else { t with audio := { t.audio with ends := [], turn := false } }

/-! ## Writes (R589–R591) -/

/-- The sample processing of a bus whose engine does not run: gains and routes wait for its first boundary. -/
def State.setAudErr (s : State) : State := s.set Fd.AUD_STAT_ERR 1

/-- Is a domain source code that of port `p`? -/
def srcPort (c : Nat) : Option Nat := if 1 ≤ c ∧ c ≤ 4 then some (c - 1) else none

/-- Does AUD_CTL `v` break R591? -/
def State.audCtlBad (s : State) (v : Nat) : Bool :=
  let bad := fun (c d : Nat) => match srcPort c with
    | some p => s.flag (Fd.AUD_PT_CFG_MASTER p) || domCode (s.get (Fd.AUD_PT_CFG_DOM p)) != d
    | none => false
  (s.flag Fd.AUD_CTL_EN && (nbits v 26 24 != s.get Fd.AUD_CTL_D48SRC || nbits v 23 21 != s.get Fd.AUD_CTL_D44SRC ||
    nbits v 20 20 != s.get Fd.AUD_CTL_VDRATE)) || bad (nbits v 26 24) 0 || bad (nbits v 23 21) 1

/-- The domains start at a common block boundary (R583). -/
def State.audStart (s : State) : State :=
  (List.range 3).foldl (fun a d => (a.setDom d { run := true }).takeRoutes d)
    { s with audio := { s.audio with dyn := [], cur := [] } }

/-- A write of AUD_CTL (R583, R591). -/
def State.writeAudCtl (s : State) (v : Nat) : State :=
  if s.audCtlBad v then s.setAudErr
  else
    let s1 := s.plainWrite Rg.AUD_CTL v
    if nbit v 27 && !s.flag Fd.AUD_CTL_EN then s1.audStart
    else if !nbit v 27 then (List.range 3).foldl (fun a d => a.setDom d { a.dom d with run := false }) s1.soundMute
    else s1

/-- A write of AUD_MBn (R589–R591). -/
def State.writeMb (s : State) (n v : Nat) : State :=
  if s.flag (Fd.AUD_MB_EN n) && nbits v 26 25 != s.get (Fd.AUD_MB_DOM n) then s.setAudErr
  else
    let s1 := s.plainWrite (Rg.AUD_MB n) v
    s1.setMixGain n ((s.mixGain n).write s.time.now (v % 16384) (v % 16384))

/-- A write of AUD_OBk_CFG (R591). -/
def State.writeOb (s : State) (k v : Nat) : State :=
  let bad := (s.flag (Fd.AUD_OB_CFG_EN k) && nbits v 26 25 != s.get (Fd.AUD_OB_CFG_DOM k)) ||
    (nbit v 22 && (nbits v 26 25 == 2 || ((List.range 8).filter (fun j => j != k)).any (fun j =>
      s.flag (Fd.AUD_OB_CFG_DPEN j) && s.get (Fd.AUD_OB_CFG_DPPORT j) == nbits v 21 19)))
  if bad then s.setAudErr
  else s.plainWrite (Rg.AUD_OB_CFG k) v

/-- A write of AUD_PTp_CFG (R591). -/
def State.writePt (s : State) (p v : Nat) : State :=
  let d := domCode (nbits v 23 22)
  let src := if d = 0 then s.get Fd.AUD_CTL_D48SRC else s.get Fd.AUD_CTL_D44SRC
  let bad := (s.flag (Fd.AUD_PT_CFG_EN p) && nbits v 23 22 != s.get (Fd.AUD_PT_CFG_DOM p)) ||
    (!nbit v 26 && (d == 2 || srcPort src != some p))
  if bad then s.setAudErr else s.plainWrite (Rg.AUD_PT_CFG p) v

/-- A write of AUD_RXk_CFG (R589, R595). -/
def State.writeRx (s : State) (k v : Nat) : State :=
  let s1 := s.plainWrite (Rg.AUD_RX_CFG k) v
  let s2 := s1.setRxGain k ((s.rxGain k).write s.time.now (v % 16384) (v % 16384))
  if !nbit v 27 then (s2.setAudRx k {}).set (Fd.AUD_RX_STAT_STATE k) 0 |>.set (Fd.AUD_RX_STAT_LEVEL k) 0
  else if s.get (Fd.AUD_RX_STAT_STATE k) = 0 then s2.set (Fd.AUD_RX_STAT_STATE k) 1 else s2

/-- A write of AUD_KEY (R601). -/
def State.writeAudKey (s : State) (v : Nat) : State := s.queueKey { voice := v % 256, on := nbit v 8, stamp := none }

/-- A write to word `w` of voice entry `v` (R574, R589): words 14 and 15 are ignored, word 1 is a pending gain. -/
def State.writeVoice (s : State) (v w x : Nat) : State :=
  if 14 ≤ w then s
  else
    let s1 := s.setWord (voiceAddr v w) x
    if w = 1 then
      s1.setVoice v { s1.voice v with gain := some ((s.voiceGain v).write s.time.now (nbits x 29 16) (x % 16384)) }
    else if w = 0 && !(s1.dom (s1.voiceDom v)).run then s1.setVoice v { s1.voice v with bus := nbits x 20 16 }
    else s1

/-- A read of word `w` of voice entry `v` (R575). -/
def State.readVoice (s : State) (v w : Nat) : Nat :=
  match w with
  | 14 => (s.voice v).st * 2 ^ 29 + (s.voice v).env % 16384
  | 15 => if s.vkind v = 0 then (s.voice v).pos / 65536 % 2 ^ 24 else 0
  | _ => s.vword v w

/-! ## Losses (R584, R593), audio messages (R595) and reset (R598) -/

/-- The port that a domain follows, where it follows one (R583). -/
def State.domPort (s : State) (d : Nat) : Option Nat :=
  match d with
  | 0 => srcPort (s.get Fd.AUD_CTL_D48SRC)
  | 1 => srcPort (s.get Fd.AUD_CTL_D44SRC)
  | _ => none

/-- A port's word clock is lost (R584). -/
def State.domLoss (s : State) (d : Nat) : State :=
  if !s.soundOn || (s.domPort d).isNone || (s.dom d).lost then s
  else ((s.setDom d { s.dom d with lost := true }).set Fd.AUD_STAT_DOMLOSS
    (Nat.lor (s.get Fd.AUD_STAT_DOMLOSS) (2 ^ d))).report uSound 0x3A 1 1

/-- A slave port's clocks stop (R593). -/
def State.portLoss (s : State) (p : Nat) : State :=
  if s.domOn 17 && s.flag (Fd.AUD_PT_CFG_EN p) && !s.flag (Fd.AUD_PT_CFG_MASTER p) then
    { s.set Fd.AUD_STAT_PLOSS (Nat.lor (s.get Fd.AUD_STAT_PLOSS) (2 ^ p)) with
      audio := { s.audio with ports := tabErase s.audio.ports p } }
  else s

/-- A whole block arrives at receiver `k` (R595). -/
def State.rxBlock (s : State) (k b : Nat) (fr : List (Int × Int)) : State :=
  let x := s.audRx k
  let s1 := if 16 ≤ x.blocks.length then s.bump (Fd.AUD_RX_STAT_OVER k) 63 else s
  let bs := (if 16 ≤ x.blocks.length then x.blocks.drop 1 else x.blocks) ++ [(b, fr)]
  let s2 := (s1.setAudRx k { x with blocks := bs, half := none }).set (Fd.AUD_RX_STAT_LEVEL k) bs.length
  if s.get (Fd.AUD_RX_STAT_STATE k) = 1 ∧ max 1 (s.get (Fd.AUD_RX_CFG_FILL k)) ≤ bs.length then
    (s2.set (Fd.AUD_RX_STAT_STATE k) 2).setAudRx k { x with blocks := bs, half := none, next := none }
  else s2

/-- The 16 stereo frames of an AUDIO packet (R594). -/
def audioFrames (ws : List Nat) : List (Int × Int) :=
  (List.range 16).map (fun i => (signed 24 (ws.getD (1 + 2 * i) 0 / 256), signed 24 (ws.getD (2 + 2 * i) 0 / 256)))

/-- An AUDIO packet for receiver `k` (R595): two packets of one block number make a block. -/
def State.audioPacket (s : State) (k : Nat) (ws : List Nat) : State :=
  if s.get (Fd.AUD_RX_STAT_STATE k) = 0 || !s.domOn 17 || s.halted then s
  else
    let d := ws.getD 0 0 / 2 ^ 30
    let b := ws.getD 0 0 % 65536
    let chg := decide (d ≠ s.get (Fd.AUD_RX_STAT_DOM k))
    let s1 := if chg then
        (((s.setAudRx k {}).set (Fd.AUD_RX_STAT_DOM k) d).set (Fd.AUD_RX_STAT_STATE k) 1).set (Fd.AUD_RX_STAT_LEVEL k) 0
      else s
    match (s1.audRx k).half with
    | some (b', fr) => if b' = b then s1.rxBlock k b (fr ++ audioFrames ws)
        else s1.setAudRx k { s1.audRx k with half := some (b, audioFrames ws) }
    | none => s1.setAudRx k { s1.audRx k with half := some (b, audioFrames ws) }

end Sys2Proof.Machine
end

