-- ==== Sys2Proof/Machine/Welt.lean ====
section
/-! DEFINITION. The Welt fabric (10_welt_fabric.md R337–R379): packets, routing, drops, trust, flow contexts, the links'
replay, the remote tile service, the requests of this device, fabric time and picture receivers. -/
namespace Sys2Proof.Machine

def State.modWelt (s : State) (f : WeltS → WeltS) : State := { s with welt := f s.welt }

/-! ## Packets (R339, R340) -/

/-- Priority class of a kind code (R340). -/
def weltClass (k : Nat) : Nat := match k with | 1 => 0 | 2 => 1 | 3 => 1 | 4 => 2 | 5 => 3 | 6 => 4 | _ => 5

/-- This device's ID (R344). -/
def State.devId (s : State) : Nat := s.get Fd.WELT_ID_DEVID

/-- Is a port trusted (R347)? -/
def State.trusted (s : State) (p : Nat) : Bool :=
  nbit (s.get Fd.WELT_TRUST_FUSE) p && !nbit (s.get Fd.WELT_TRUST_DISTRUST) p &&
    (s.get Fd.RST_STRAP_ROLE != 1 || p == 0)

/-- WELT_TRUST.EFF (R368). -/
def State.trustEff (s : State) : Nat := ((List.range 8).map (fun p => b2n (s.trusted p) * 2 ^ p)).sum

/-- Count one in WELT_WPpCNTk (R379). -/
def State.weltCount (s : State) (p k : Nat) : State := s.bump (Fd.WELT_WP_CNT_COUNT p k) 0xFFFFFFF

/-- A drop for a reason, counted against a port and recorded at most once per millisecond (R346). A packet of this device
has no arrival port and is not counted. -/
def State.weltDrop (s : State) (p : Option Nat) (reason : Nat) : State :=
  match p with
  | none => s
  | some q =>
    let s1 := s.weltCount q (16 + reason)
    if s.msSince (tabFind s.welt.dropAt (8 * q + reason)) then
      (s1.modWelt (fun w => { w with dropAt := tabInsert w.dropAt (8 * q + reason) s.time.now })).report (uPort q) 0x2D
        (if reason = 2 ∨ reason = 5 then 1 else 0) reason
    else s1

/-! ## Flow contexts (R348, R349) -/

/-- Words 0 and 1 of a context as they act: a write to an enabled context acts from its next message boundary (R348). -/
def State.fcWords (s : State) (c : Nat) : Nat × Nat :=
  match tabFind s.welt.old c with
  | some w => w
  | none => (s.regN (Rg.FC0 c), s.regN (Rg.FC1 c))

def State.fcEn (s : State) (c : Nat) : Bool := nbit (s.fcWords c).1 27
def State.fcKind (s : State) (c : Nat) : Nat := nbits (s.fcWords c).1 26 24
def State.fcTx (s : State) (c : Nat) : Bool := nbit (s.fcWords c).1 23
def State.fcPeer (s : State) (c : Nat) : Nat := nbits (s.fcWords c).1 21 11
def State.fcPflow (s : State) (c : Nat) : Nat := nbits (s.fcWords c).1 10 0
def State.fcBind (s : State) (c : Nat) : Nat := (s.fcWords c).2 % 65536

/-- Contexts 2 to 2,047 whose words are not 0, in rising order: only these can be enabled. -/
def State.fcList (s : State) : List Nat :=
  ((s.regs.filter (fun e => decide (Rg.FC0 2 ≤ e.1) && decide (e.1 < Rg.FC0 2048))).map (fun e => (e.1 - Rg.FC0 0) / 4)) ++
    (s.welt.old.map (fun e => e.1)).filter (fun c => s.regN (Rg.FC0 c) == 0)

/-- Enabled contexts of a kind and direction, in rising order. -/
def State.fcOf (s : State) (kind : Nat) (tx : Bool) : List Nat :=
  s.fcList.filter (fun c => s.fcEn c && s.fcKind c == kind && s.fcTx c == tx)

/-- The unit whose fence fences a receiving context (R346). -/
def State.fcFenced (s : State) (c : Nat) : Bool :=
  match s.fcKind c with
  | 4 => s.fenced (uPrx (s.fcBind c % 4))
  | 5 => s.fenced uSound
  | _ => false

/-- The start of a message keeps its context's configuration; its end lets a write act (R348). -/
def State.fcMessage (s : State) (c : Nat) (first last : Bool) : State :=
  s.modWelt (fun w =>
    if last then { w with mid := w.mid.filter (fun d => d != c), old := tabErase w.old c }
    else if first then { w with mid := setAdd w.mid c } else w)

/-- A message's first packet from the peer that the context had or has now is a message boundary, the message before it having
been cut short (R348). -/
def State.fcBoundary (s : State) (pkt : WeltPkt) : State :=
  let c := pkt.dflow.toNat
  if pkt.first ∧ s.welt.mid.contains c = true ∧ (s.fcPeer c = pkt.src.toNat ∨ s.get (Fd.FC0_PEER c) = pkt.src.toNat) then s.fcMessage c false true
  else s

/-- A window write to a context (R374): contexts 0 and 1 and KIND outside 0b100–0b111 are refused. -/
def State.writeFc (s : State) (word1 : Bool) (v : Nat) : State :=
  let c := s.get Fd.WELT_FCIDX_INDEX
  if c < 2 ∨ (word1 = false ∧ nbits v 26 24 < 4) then s.set Fd.WELT_FCIDX_ERR 1
  else
    let s1 := if s.welt.mid.contains c && s.flag (Fd.FC0_EN c) && (tabFind s.welt.old c).isNone then
        s.modWelt (fun w => { w with old := tabInsert w.old c (s.regN (Rg.FC0 c), s.regN (Rg.FC1 c)) })
      else s
    s1.plainWrite (if word1 then Rg.FC1 c else Rg.FC0 c) v

/-- WELT_FCW0 and WELT_FCW1 as they read (R375). -/
def State.readFc (s : State) (word1 : Bool) : Nat :=
  let c := s.get Fd.WELT_FCIDX_INDEX
  if word1 then s.get (Fd.FC1_BIND c) + b2n (decide (2 ≤ c) && !s.flag (Fd.FC0_DIR c) && s.fcFenced c) * 2 ^ 27
  else if c < 2 then 2 ^ 27 else s.regN (Rg.FC0 c)

/-! ## Ports -/

/-- Put a packet at the end of a port's queue. -/
def State.weltQueue (s : State) (p : Nat) (o : OutP) : State :=
  s.modWelt (fun w => { w with queue := tabInsert w.queue p (tabGet [] w.queue p ++ [o]) })

/-- The output port of a destination, and whether it is ALTPORT (R345). -/
def State.weltRoute (s : State) (dest : Nat) : Option (Nat × Bool) :=
  if s.flag (Fd.RT_VALID dest) && s.weltUp (s.get (Fd.RT_PORT dest)) then some (s.get (Fd.RT_PORT dest), false)
  else if s.flag (Fd.RT_ALTEN dest) && s.weltUp (s.get (Fd.RT_ALTPORT dest)) then some (s.get (Fd.RT_ALTPORT dest), true)
  else none

/-- Route a packet that is not for this device (R345, R346). -/
def State.weltForward (s : State) (arr : Option Nat) (src : Nat) (pkt : WeltPkt) : State :=
  match s.weltRoute pkt.dest.toNat with
  | none => s.weltDrop arr 0
  | some (p, alt) => if 16 ≤ pkt.hop.toNat then s.weltDrop arr 1 else s.weltQueue p ⟨src, pkt, alt, 0⟩

/-- Does a packet's payload have the format of its kind (R346 reason 3)? -/
def weltFormatOk (pkt : WeltPkt) : Bool :=
  let n := pkt.payload.length
  match pkt.kind.toNat with
  | 1 => n == 4
  | 2 => (match pkt.w 0 / 2 ^ 30 with
      | 0 => n == 3
      | 1 => n == 11
      | 2 => n == 4
      | _ => false)
  | 3 => if pkt.first then n % 16 == 1 && decide (n ≤ 49) && decide (n / 16 ≤ pkt.w 0 % 65536) else n % 16 == 0 && decide (1 ≤ n)
  | 4 => let np := pkt.w 1 % 32; decide (1 ≤ np) && n == 2 + 2 * np
  | 5 => n == 33
  | _ => true

/-- The lowest-numbered enabled receiving PICTURE context that binds receiver `k` (R362). -/
def State.prxContext (s : State) (k : Nat) : Option Nat := (s.fcOf 4 false).find? (fun c => s.fcBind c % 4 == k)

/-- Does the context a packet names accept it? The answer is the drop reason where it does not (R346, R348). -/
def State.weltRefuse (s : State) (pkt : WeltPkt) : Option Nat :=
  let c := pkt.dflow.toNat
  let k := pkt.kind.toNat
  if s.fenced uSwitch then some 7
  else if k ≤ 3 then
    if c ≠ b2n (k == 1) then some 4
    else if pkt.first || (k == 3 && s.welt.mid.contains (2048 + pkt.src.toNat)) then none
    else some 3
  else if c < 2 then some 4
  else if !s.fcEn c || s.fcTx c || s.fcKind c != k then some 4
  else if k = 4 ∧ s.prxContext (s.fcBind c % 4) ≠ some c then some 4
  else if k = 6 ∧ s.domOn 18 = false then some 4
  else if k = 7 ∧ (s.domOn 3 = false ∨ s.inEpisode = true) then some 4
  else if s.fcPeer c ≠ pkt.src.toNat then some 5
  else if s.fcFenced c then some 7
  else if !pkt.first && !s.welt.mid.contains c then some 3
  else none

/-- Deliver a packet to its block's inbox (R344, R346). -/
def State.weltDeliver (s : State) (arr : Option Nat) (pkt : WeltPkt) (stamp : Nat) : State :=
  let s0 := s.fcBoundary pkt
  match s0.weltRefuse pkt with
  | some r => s0.weltDrop arr r
  | none =>
    if !weltFormatOk pkt then s0.weltDrop arr 3
    else
      let s1 := s0.modWelt (fun w => { w with inbox := w.inbox ++ [⟨arr, pkt, stamp⟩] })
      match pkt.kind.toNat with
      | 1 | 2 => s1
      | 3 => s1.fcMessage (2048 + pkt.src.toNat) pkt.first pkt.last
      | _ => s1.fcMessage pkt.dflow.toNat pkt.first pkt.last

/-- Send a packet of this device (R344, R345). Its sender is a local block, by kind. -/
def State.weltSend (s : State) (pkt : WeltPkt) : State :=
  if s.fenced uSwitch then s
  else if pkt.dest.toNat = s.devId then s.weltDeliver none pkt 0
  else s.weltForward none (8 + pkt.kind.toNat) pkt

/-- The next packet of a flow from local context `c` (R339): the header with SEQ counted. -/
def State.weltFlow (s : State) (c kind dest dflow : Nat) (first last : Bool) (ws : List Nat) : State :=
  let k := c * 2048 + dest
  let q := tabGet 0 s.welt.flowSeq k
  let pkt := WeltPkt.mk (BitVec.ofNat 4 kind) 0 (BitVec.ofNat 11 dest) (BitVec.ofNat 11 dflow) (BitVec.ofNat 11 s.devId)
    first last (BitVec.ofNat 12 q) (BitVec.ofNat 7 ws.length) (ws.map (fun v => BitVec.ofNat 32 v))
  ((s.modWelt (fun w => { w with flowSeq := tabPut 0 w.flowSeq k ((q + 1) % 4096) })).weltSend pkt).fcMessage c first last

/-- A message of words cut into packets of at most 64 payload words. -/
def cutWords : Nat → List Nat → List (List Nat)
  | 0, _ => []
  | _, [] => []
  | n + 1, ws => ws.take 64 :: cutWords n (ws.drop 64)

/-- Send packets of one message on a flow. -/
def State.weltMessage (s : State) (c kind dest dflow : Nat) (ps : List (List Nat)) : State :=
  (ps.zipIdx).foldl (fun a p => a.weltFlow c kind dest dflow (p.2 == 0) (p.2 + 1 == ps.length) p.1) s

/-- A message on a transmitting context (R348). -/
def State.weltOn (s : State) (c : Nat) (ps : List (List Nat)) : State :=
  s.weltMessage c (s.fcKind c) (s.fcPeer c) (s.fcPflow c) ps

/-! ## Links (R337, R338, R341) -/

/-- The first COMMAND packet on WP0 with DFLOW 2 sets up contexts 2 and 3 (R478), in WAIT and in UNKEYED. -/
def State.bootContexts (s : State) (p : Nat) (pkt : WeltPkt) : State :=
  let st := s.get Fd.SEC_BOOT_STATE
  if p = 0 ∧ pkt.kind = 7#4 ∧ pkt.dflow = 2#11 ∧ (st = 2 ∨ st = 7) ∧ s.get Fd.SEC_BOOT_SRC = 3 ∧ !s.sec.ctxSet then
    let w := fun (a : State) (c : Nat) (tx : Nat) (pflow bind : Nat) =>
      ((((((a.set (Fd.FC0_EN c) 1).set (Fd.FC0_KIND c) 7).set (Fd.FC0_DIR c) tx).set (Fd.FC0_PEER c) pkt.src.toNat).set
        (Fd.FC0_PFLOW c) pflow).set (Fd.FC1_BIND c) bind)
    let s1 := w (w s 2 0 0 (8 + 3 * 16)) 3 1 2 0
    (s1.modSec (fun c => { c with ctxSet := true }))
  else s

/-- A frame arrives (R338–R347): a CRC mismatch asks for a replay, a frame out of sequence waits for it. -/
def State.frameIn (s : State) (p : Nat) (crcOk : Bool) (lseq : Nat) (pkt : WeltPkt) (frac : Nat) : State :=
  if !s.weltUp p || (s.halted && !s.flag Fd.DBG_CTL_WELTRUN) then s
  else if !crcOk then s.weltCount p 25
  else if lseq ≠ tabGet 0 s.welt.rxSeq p then s
  else
    let k := pkt.kind.toNat
    let s1 := s.modWelt (fun w => { w with rxSeq := tabPut 0 w.rxSeq p ((lseq + 1) % 4096) })
    let s2 := if 1 ≤ k ∧ k ≤ 7 then s1.weltCount p (8 + k) else s1
    let stamp := (s.time.now * 65536 + frac % 65536) / 1024 * 1024
    if k = 0 ∨ 8 ≤ k ∨ 64 < pkt.len.toNat ∨ pkt.len.toNat ≠ pkt.payload.length then s2.weltDrop (some p) 3
    else if !s2.trusted p && (k == 1 || k == 7) then s2.weltDrop (some p) 2
    else if k = 1 ∨ pkt.dest.toNat = s.devId then (s2.bootContexts p pkt).weltDeliver (some p) pkt stamp
    else if s2.fenced uSwitch then s2.weltDrop (some p) 7
    else s2.weltForward (some p) p pkt

/-- The packet that a port sends next among classes with credit: the highest class, round robin over sources (R341). -/
def State.weltNext (s : State) (p credit : Nat) : Option OutP :=
  let q := (tabGet [] s.welt.queue p).filter (fun o => !s.halted || o.src < 8 || o.pkt.kind == 1#4)
  match (List.range 6).find? (fun c => nbit credit c && q.any (fun o => weltClass o.pkt.kind.toNat == c)) with
  | none => none
  | some c =>
    let l := q.filter (fun o => weltClass o.pkt.kind.toNat == c)
    let past := tabGet 15 s.welt.served (8 * p + c)
    match (List.range 16).findSome? (fun i => l.find? (fun o => o.src == (past + 1 + i) % 16)) with
    | some o => some o
    | none => l.head?

/-- Remove the first entry equal to `o`. -/
def dropOne {α : Type} [DecidableEq α] (o : α) : List α → List α
  | [] => []
  | x :: t => if x = o then t else x :: dropOne o t

/-- The stamps of a TIME packet as its first symbol leaves at `t`, in 1/65,536 of a tick (R357). -/
def timeStamp (pkt : WeltPkt) (t t2 : Nat) : WeltPkt :=
  match pkt.w 0 / 2 ^ 30 with
  | 0 => { pkt with payload := [BitVec.ofNat 32 (pkt.w 0 / 65536 * 65536 + t % 65536), BitVec.ofNat 32 (t / 65536 % 2 ^ 28),
            BitVec.ofNat 32 (t / 65536 / 2 ^ 28 % 2 ^ 28), 0#32] }
  | 2 => { pkt with payload := [BitVec.ofNat 32 (pkt.w 0), 0#32, 0#32, BitVec.ofNat 32 (t - t2)] }
  | _ => pkt

/-- A frame to resend leaves again (R338), its time stamped anew (R357). It is not counted again as sent. -/
def State.weltResend (s : State) (p t : Nat) (e : Nat × Nat × WeltPkt) (rest : List (Nat × Nat × WeltPkt)) : State :=
  s.modWelt (fun w => { w with
    resend := tabPut [] w.resend p rest,
    t1 := if e.2.2.kind = 1#4 ∧ e.2.2.w 0 / 2 ^ 30 = 1 then some t else w.t1 })

/-- A port sends its next packet (R337, R341, R345, R357); frames to resend go first, on the credit they had (R338). -/
def State.weltEmit (s : State) (p credit frac : Nat) : State :=
  let t := (s.time.now * 65536 + frac % 65536) / 1024 * 1024
  if !s.weltUp p || (s.halted && !s.flag Fd.DBG_CTL_WELTRUN) then s
  else match tabGet [] s.welt.resend p, s.weltNext p credit with
  | e :: rest, _ => s.weltResend p t e rest
  | [], none => s
  | [], some o =>
    let k := o.pkt.kind.toNat
    let p1 := if k = 1 then timeStamp o.pkt t o.stamp else o.pkt
    let p2 := { p1 with hop := p1.hop + 1#5 }
    let q := tabGet 0 s.welt.txSeq p
    let s1 := s.modWelt (fun w => { w with
      queue := tabPut [] w.queue p (dropOne o (tabGet [] w.queue p)),
      served := tabInsert w.served (8 * p + weltClass k) o.src, txSeq := tabPut 0 w.txSeq p ((q + 1) % 4096),
      replay := tabInsert w.replay p (((tabGet [] w.replay p ++ [(q, o.stamp, p2)]).reverse.take 64).reverse),
      t1 := if k = 1 ∧ o.pkt.w 0 / 2 ^ 30 = 1 then some t else w.t1 })
    let s2 := if k = 1 then s1 else s1.setB (Fd.RT_ONALT o.pkt.dest.toNat) o.alt
    let s3 := s2.weltCount p k
    if o.alt then s3.weltCount p 27 else s3

/-- A replay request: the frame `lseq` and every later one are resent (R338, R379). -/
def State.weltReplay (s : State) (p lseq : Nat) : State :=
  let l := (tabGet [] s.welt.replay p).dropWhile (fun e => e.1 != lseq)
  if s.weltUp p && !l.isEmpty then (s.modWelt (fun w => { w with resend := tabInsert w.resend p l })).weltCount p 24 else s

/-- A port that went DOWN or into reset holds nothing (R338): the packets it had to send or to resend are dropped for reason 6
(R346). A frame sent once and not asked for again counts as delivered (log entry 79). -/
def State.weltPortLost (s : State) (p : Nat) : State :=
  let n := (tabGet [] s.welt.queue p).length + (tabGet [] s.welt.resend p).length
  let s1 := (List.range n).foldl (fun a _ => a.weltDrop (some p) 6) s
  s1.modWelt (fun w => { w with queue := tabErase w.queue p, txSeq := tabErase w.txSeq p, rxSeq := tabErase w.rxSeq p,
                                 replay := tabErase w.replay p, resend := tabErase w.resend p,
                                 served := w.served.filter (fun e => e.1 / 8 != p) })

/-- Is anything of a port's link state held? -/
def State.weltPortHeld (s : State) (p : Nat) : Bool :=
  (tabFind s.welt.queue p).isSome || (tabFind s.welt.txSeq p).isSome || (tabFind s.welt.rxSeq p).isSome ||
    (tabFind s.welt.replay p).isSome || (tabFind s.welt.resend p).isSome

/-- The first waiting packet that satisfies `f`, and the state without it. -/
def State.takeIn (s : State) (f : InP → Bool) : Option (InP × State) :=
  match s.welt.inbox.find? f with
  | none => none
  | some i => some (i, s.modWelt (fun w => { w with inbox := dropOne i w.inbox }))

/-! ## Remote tile service (R350–R354) -/

/-- The GDDR7 address of an aperture offset (R350). -/
def State.apAddr (s : State) (o : Nat) : Nat := s.get Fd.WELT_APCFG_BASE * 2 ^ 28 + o % 2 ^ 28

/-- How the aperture takes an access at an offset. -/
def State.apAcc (s : State) (o : Nat) : GddrAcc := if s.flag Fd.WELT_APCFG_EN then s.gddrAcc (s.apAddr o) else .unmapped

/-- Read granules of the aperture for master `m`, each with a tack of the remote service's class and the end of its burst: none
where one waits for a tack or for memory (R270, R284); no bytes where one is unmapped or uncorrectable. -/
def State.apRead (s : State) (m : Nat) (turn : Bool) : List Nat → List BurstEnd → Option (State × Option (List Nat))
  | [], _ => some (s, some [])
  | o :: t, es =>
    match s.apAcc o with
    | .unmapped => some (s, none)
    | .wait => none
    | .ok =>
      if !s.tackFree 0x18 turn then none
      else
        let (s1, okd) := (s.tackUse 0x18).burst (s.apAddr o / 64 * 64) m (es.headD .clean)
        if !okd then some (s1, none)
        else (s1.apRead m true t es.tail).map (fun r => (r.1, r.2.map (fun d => s.byteList (s.apAddr o / 64 * 64) 64 ++ d)))

/-- Offsets of `n` granules from `o`. -/
def apGranules (o n : Nat) : List Nat := (List.range n).map (fun i => (o / 64 * 64 + 64 * i) % 2 ^ 28)

/-- Offsets of the map granules of a TILEREAD of `n` entries from `o`. -/
def mapGranules (o n : Nat) : List Nat := (granules' (o / 4 * 4) (o / 4 * 4 + 4 * n - 1)).map (fun a => a % 2 ^ 28)
where
  granules' (a b : Nat) : List Nat := (List.range (b / 64 + 1 - a / 64)).map (fun i => (a / 64 + i) * 64)

/-- Fields of TILEREAD's word 2 (R351): TY, TSIZE and FMT. -/
def tileTy (w : Nat) : Nat := nbits w 31 27
def tileTs (w : Nat) : Nat := nbits w 26 25
def tileFmt (w : Nat) : Nat := nbits w 24 21

/-- Bytes of a tile row, and the first byte of the row that a map entry names (R141, R352). -/
def tileRow (w2 tofs e : Nat) : Nat × Nat :=
  let t := 8 * 2 ^ tileTs w2
  let rb := t * fmtBpp (tileFmt w2) / 8
  let r := if nbit e 27 then t - 1 - tileTy w2 else tileTy w2
  (rb, (tofs * 4096 + e % 2 ^ 20 * (t * rb) + r * rb) % 2 ^ 28)

/-- Offsets of the granules that hold `n` bytes from `a`. -/
def rowGranules (a n : Nat) : List Nat :=
  (List.range ((a + n - 1) / 64 + 1 - a / 64)).map (fun i => ((a / 64 + i) * 64) % 2 ^ 28)

/-- Map entry `i` of a TILEREAD from its map granules' bytes. -/
def mapWord (d : List Nat) (off i : Nat) : Nat :=
  let o := off / 4 * 4 % 64 + 4 * i
  d.getD o 0 + 256 * d.getD (o + 1) 0 + 65536 * d.getD (o + 2) 0 + 16777216 * d.getD (o + 3) 0

/-- Offsets of the tile-row granules that map entries name (R352): none for an entry with TRANSP at 1. -/
def tileGranules (w2 tofs : Nat) (es : List Nat) : List Nat :=
  (es.map (fun e => if nbit e 29 then [] else
    let (rb, a) := tileRow w2 tofs e
    if rb = 0 then [] else rowGranules a rb)).flatten

/-- Serve a read request for master `m` (R350, R352): none where it waits, else the state and the answer's status and bytes. -/
def State.serveRead (s : State) (m op off count w2 tofs : Nat) (es : List BurstEnd) : Option (State × Nat × List Nat) :=
  let g := if op = 0 then apGranules off count else mapGranules off count
  match s.apRead m false g es with
  | none => none
  | some (s1, none) => some (s1, 1, [])
  | some (s1, some d) =>
    if op = 0 then some (s1, 0, d)
    else
      (s1.apRead m true (tileGranules w2 tofs ((List.range count).map (mapWord d off))) (es.drop g.length)).map (fun r =>
        match r.2 with
        | none => (r.1, 1, [])
        | some d2 => (r.1, 0, d ++ d2))

/-- Bytes of words, little-endian (R13). -/
def wordBytes (ws : List Nat) : List Nat :=
  (ws.map (fun w => [w % 256, w / 256 % 256, w / 65536 % 256, w / 16777216 % 256])).flatten

/-- Words of bytes, little-endian. -/
def bytesWords : List Nat → List Nat
  | a :: b :: c :: d :: t => (a + 256 * b + 65536 * c + 16777216 * d) :: bytesWords t
  | _ => []

/-- Store bytes under byte enables. -/
def State.putEnabled (s : State) (a be : Nat) (d : List Nat) : State :=
  (d.zipIdx).foldl (fun t x => if nbit be x.2 then t.setByte (a + x.2) x.1 else t) s

/-- Serve a WRITE of a 32-byte block for master `m` (R350): none where it waits, else the state and the status. A write that a
burst loses is answered ERROR (R292). -/
def State.serveWrite (s : State) (m off be : Nat) (d : List Nat) (trust : Bool) (e : BurstEnd) : Option (State × Nat) :=
  if s.flag Fd.WELT_APCFG_RO || !trust then
    (if s.apAcc off = .unmapped then some (s, 1) else some (s, 2))
  else match s.apAcc off with
  | .unmapped => some (s, 1)
  | .wait => none
  | .ok =>
    let (s1, took) := s.burst (s.apAddr off / 64 * 64) m e
    if took then some (s1.putEnabled (s.apAddr off / 32 * 32) be d, 0) else some (s1, 1)

/-- Granules of an answer in packets: three in the first, four in each later one (R352). -/
def answerPackets (hdr : Nat) (ws : List Nat) : List (List Nat) :=
  (hdr :: ws.take 48) :: cutWords (ws.length + 1) (ws.drop 48)

/-- Send a TILEANS to the requester (R352). -/
def State.tileAnswer (s : State) (dev tag status : Nat) (d : List Nat) : State :=
  s.weltMessage 0 3 dev 0 (answerPackets (status * 2 ^ 30 + tag * 65536 + d.length / 64) (bytesWords d))

/-! ## Requests of this device (R34, R91, R355) -/

/-- The request that a tag names. -/
def State.reqTag (s : State) (tag : Nat) : Option RemReq := s.welt.reqs.find? (fun r => r.tag == tag)
def State.dropReq (s : State) (tag : Nat) : State :=
  s.modWelt (fun w => { w with reqs := w.reqs.filter (fun r => r.tag != tag) })

/-- A requester's answers and outstanding requests are dropped: an answer that comes later finds no request. -/
def State.dropBus (s : State) (q : Nat) : State :=
  s.modWelt (fun w => { w with reqs := w.reqs.filter (fun r => r.who != .bus q) })

/-- Offsets of the granules an answer to a request brings, from its bytes (R352). -/
def RemReq.offsets (r : RemReq) (d : List Nat) : List Nat :=
  if r.op = 0 then apGranules r.off r.count
  else
    let g := mapGranules r.off r.count
    g ++ tileGranules r.tile r.tofs ((List.range r.count).map (mapWord d r.off))

/-- Cut bytes into granules. -/
def cutGranules : Nat → List Nat → List (List Nat)
  | 0, _ => []
  | n + 1, d => d.take 64 :: cutGranules n (d.drop 64)

/-- The answer to a Sole's request goes into its staging (R91, R355), up to the plane's declared bytes (R116): after the
line's due point it is late and counted in WELT_WPpCNT26 of the port it came on. -/
def State.planeAnswer (s : State) (port : Option Nat) (r : RemReq) (sl lc y status rbytes : Nat) (d : List Nat) : State :=
  if !s.welt.reqs.any (fun q => q.tag == r.tag) then
    (match port with | some p => s.weltCount p 26 | none => s)
  else if status ≠ 0 then s.dropReq r.tag
  else
    let new := (r.offsets d).zip (cutGranules (d.length / 64) d)
    let have_ := ((s.soleS sl).staging.filter (fun t => t.lc == lc && t.y == y)).length
    let room := rbytes / 64 - have_
    (s.modSole sl (fun v => { v with staging := v.staging ++ (new.take room).map (fun g => ⟨lc, y, g.1, g.2⟩) })).dropReq r.tag

/-- Declared bytes of the remote plane an LC is on a Sole's running Last (R90). -/
def State.planeBytes (s : State) (sl lc : Nat) : Nat :=
  match s.headOfSole sl with
  | none => 0
  | some h =>
    match s.runEntry h with
    | none => 0
    | some (w, _) => (((imgRemotes w).find? (fun r => remLc w r == lc)).map (remBytes w)).getD 0

/-- The master of a requester (R38): Lace's channels share one, 288 is the security engine reading a key record, 289–296 the
staging copies of the slots, 297 the ring side of Tongue and 304 on the writeback of each head. -/
def busMaster (q : Nat) : Nat := if q < 256 then q else if q < 288 then 0x10 else if q = 288 then 0x1B else if q < 304 then 0x16 else 0x19

/-- An answer reaches a request (R355): a Sole stages it; another master keeps it until it takes it, and a later answer to the
same request is discarded and counted. A bus error of a master other than a Sole is recorded with code 0x06. -/
def State.reqAnswer (s : State) (port : Option Nat) (r : RemReq) (status : Nat) (d : List Nat) : State :=
  match r.who with
  | .plane sl lc y => s.planeAnswer port r sl lc y status (s.planeBytes sl lc) d
  | .bus b =>
    if r.ans.isSome then (match port with | some p => s.weltCount p 26 | none => s)
    else
      let s1 := s.modWelt (fun v => { v with reqs := v.reqs.map (fun q => if q.tag = r.tag then { q with ans := some (status, d) } else q) })
      if status = 0 then s1 else s1.report (uMaster (busMaster b)) 0x06 1 status

/-- The master that a request of this device is for. -/
def RemReq.master (r : RemReq) : Nat := match r.who with | .plane sl _ _ => sl | .bus q => busMaster q

/-- The payload of a request (R351). -/
def reqWords (tag op off count w2 tofs be : Nat) (d : List Nat) : List Nat :=
  match op with
  | 0 => [tag * 65536, off, count]
  | 1 => [2 ^ 30 + tag * 65536, off, be] ++ bytesWords ((d ++ List.replicate 32 0).take 32)
  | _ => [2 * 2 ^ 30 + tag * 65536, off, w2 / 65536 * 65536 + count, tofs]

/-- Issue a request (R34, R351). One to this device uses no lane: it waits for the tile service as if it had arrived from the
fabric, on no port. -/
def State.remIssue (s : State) (who : RemWho) (dev op off count w2 tofs be : Nat) (d : List Nat) : State :=
  let tag := s.welt.nextTag
  let r : RemReq := { tag := tag, who := who, dev := dev, op := op, off := off, count := count, tile := w2, tofs := tofs, sent := s.time.now }
  let s1 := s.modWelt (fun w => { w with nextTag := (tag + 1) % 16384, reqs := w.reqs ++ [r] })
  let ws := reqWords tag op off count w2 tofs be d
  if dev = s.devId then
    let id := BitVec.ofNat 11 dev
    let pkt := WeltPkt.mk 2 0 id 0 id true true 0 (BitVec.ofNat 7 ws.length) (ws.map (fun v => BitVec.ofNat 32 v))
    s1.modWelt (fun w => { w with inbox := w.inbox ++ [⟨none, pkt, 0⟩] })
  else s1.weltFlow 0 2 dev 0 true true ws

/-- Serve the first waiting TILEREQ of an operation (R350–R352). One of this device is served for the master that asked, whose ID
its captures and records carry (DESIGN CHOICE, log entry 66); one whose request has ended is dropped. -/
def State.tileServe (s : State) (op : Nat) (es : List BurstEnd) : State :=
  if s.halted then s
  else match s.takeIn (fun i => i.pkt.kind == 2#4 && i.pkt.w 0 / 2 ^ 30 == op) with
  | none => s
  | some (i, s1) =>
    let tag := nbits (i.pkt.w 0) 29 16
    let own := i.port.isNone
    match s1.reqTag tag with
    | r =>
      let m := if own then (match r with | some q => q.master | none => 0x18) else 0x18
      let answer := fun (a : State) (st : Nat) (d : List Nat) =>
        if own then (match r with | some q => a.reqAnswer none q st d | none => a) else a.tileAnswer i.pkt.src.toNat tag st d
      let off := i.pkt.w 1 % 2 ^ 28
      let trust := match i.port with | none => true | some p => s.trusted p
      if own && r.isNone then s1
      else if op = 1 then
        match s1.serveWrite m off (i.pkt.w 2) (wordBytes ((List.range 8).map (fun j => i.pkt.w (3 + j)))) trust (es.headD .clean) with
        | none => s
        | some (s2, st) => answer s2 st []
      else
        match s1.serveRead m op off (i.pkt.w 2 % 65536) (i.pkt.w 2) (i.pkt.w 3 % 65536) es with
        | none => if s.tackFree 0x18 false then s else s.poolWait 3
        | some (s2, st, d) => answer s2 st d

/-- The packets up to the one with LAST. -/
def uptoLast : List InP → List InP
  | [] => []
  | i :: t => if i.pkt.last then [i] else i :: uptoLast t

/-- The packets of the first message of a source's waiting TILEANS packets: from FIRST to LAST, or to the packet before the next
FIRST, which cuts the message short. -/
def ansPackets : List InP → List InP
  | [] => []
  | i :: t => uptoLast (i :: t.takeWhile (fun j => !j.pkt.first))

/-- A whole TILEANS message that waits is delivered (R355); one cut short is dropped. -/
def State.tileAnsIn (s : State) : State :=
  match s.welt.inbox.find? (fun i => i.pkt.kind == 3#4 && i.pkt.first) with
  | none => s
  | some i =>
    let mine := s.welt.inbox.filter (fun j => j.pkt.kind == 3#4 && j.pkt.src == i.pkt.src)
    let run := mine.dropWhile (fun j => !j.pkt.first)
    let ps := ansPackets run
    let whole := ps.any (fun j => j.pkt.last)
    if s.halted || (!whole && ps.length == run.length) then s
    else
      let s1 := s.modWelt (fun w => { w with inbox := ps.foldl (fun l j => dropOne j l) w.inbox })
      let late := match i.port with | some p => s1.weltCount p 26 | none => s1
      let ws := (ps.map (fun j => j.pkt.payload.map (fun v => v.toNat))).flatten
      let hd := ws.headD 0
      if !whole then s1
      else match s1.reqTag (nbits hd 29 16) with
      | none => late
      | some r => if r.dev ≠ i.pkt.src.toNat then late else s1.reqAnswer i.port r (hd / 2 ^ 30) (wordBytes ws.tail)

/-- WELT_TSCFG.TIMEOUT microseconds have passed since a request went out (R355, R376): 0 acts as 1. -/
def State.remExpired (s : State) (r : RemReq) : Bool :=
  decide (125 * max 1 (s.get Fd.WELT_TSCFG_TIMEOUT) ≤ 2 * ((s.time.now + timeMod - r.sent) % timeMod))

/-- A remote access gets no answer within TIMEOUT (R355): bus error and a C1 record. Lace uses its channel timeout, a Sole its
due point. -/
def State.remTimeout (s : State) (tag : Nat) : State :=
  match s.reqTag tag with
  | some r =>
    match r.who with
    | .bus b =>
      if (b < 256 ∨ 288 ≤ b) ∧ r.ans = none ∧ s.remExpired r = true then
        (s.modWelt (fun v => { v with reqs := v.reqs.map (fun q => if q.tag = tag then { q with ans := some (3, []) } else q) })).report
          (uMaster (busMaster b)) 0x04 1 0
      else s
    | _ => s
  | none => s

/-! ## Fabric time (R356–R360) -/

def State.timeMaster (s : State) : Bool := s.flag Fd.WELT_TIMECTL_MASTER
def State.timeFollows (s : State) : Bool := !s.timeMaster && s.flag Fd.WELT_TIMECTL_UPEN

/-- WELT_TIMESTAT as it reads (R358, R371): the master always reads LOCKED with OFFSET 0. -/
def State.readTimestat (s : State) : Nat :=
  if s.timeMaster then
    2 * 2 ^ 26 + s.get Fd.WELT_TIMESTAT_STEP * 2 ^ 25 + s.get Fd.WELT_TIMESTAT_TLOSS * 2 ^ 24
  else s.regN Rg.WELT_TIMESTAT

/-- A TIME packet for a partner; DEST, which the spec does not state for TIME, is a free value. -/
def State.timePacket (s : State) (p w0 stamp : Nat) (dest : Option Nat) : State :=
  let d := dest.getD (Config.freeValue s.fresh)
  let pkt := WeltPkt.mk 1 0 (BitVec.ofNat 11 d) 1 (BitVec.ofNat 11 s.devId) true true
    (BitVec.ofNat 12 (tabGet 0 s.welt.flowSeq (2048 + p))) 4 [BitVec.ofNat 32 w0, 0#32, 0#32, 0#32]
  ((if dest.isNone then s.draw else s).modWelt (fun w => { w with
    flowSeq := tabPut 0 w.flowSeq (2048 + p) ((tabGet 0 w.flowSeq (2048 + p) + 1) % 4096) })).weltQueue p ⟨9, pkt, false, stamp⟩

/-- Links from the master (R371). -/
def State.timeHops (s : State) : Nat := if s.timeMaster then 0 else s.get Fd.WELT_TIMESTAT_HOPS

/-- SYNC on every DOWNEN port that is UP (R356, R357). -/
def State.syncSend (s : State) : State :=
  (List.range 8).foldl (fun a p =>
    if nbit (s.get Fd.WELT_TIMECTL_DOWNEN) p && s.weltUp p && !s.fenced uSwitch then a.timePacket p (s.timeHops * 2 ^ 25) 0 none else a) s

/-- DREQ to the upstream port (R357). -/
def State.dreqSend (s : State) : State :=
  let p := s.get Fd.WELT_TIMECTL_UPPORT
  if s.timeFollows && s.weltUp p && !s.fenced uSwitch then s.timePacket p (1 * 2 ^ 30) 0 none else s

/-- Fabric time enters HOLDOVER (R358). -/
def State.timeHoldover (s : State) : State :=
  if s.timeMaster || !(s.get Fd.WELT_TIMESTAT_STATE == 1 || s.get Fd.WELT_TIMESTAT_STATE == 2) then s
  else
    ((((s.set Fd.WELT_TIMESTAT_STATE 3).set Fd.WELT_TIMESTAT_TLOSS 1).set Fd.WELT_TIMESTAT_HOPS 31).modWelt
      (fun w => { w with good := 0 })).report uSwitch 0x2E 1 0

/-- An offset in 1/65,536 of a tick as nanoseconds, towards negative infinity. -/
def offsetNs (o : Int) : Int := Int.fdiv (o * 16) 65536

/-- The time base is slewed from a SYNC on: its frequency correction, at most ±100 ppm, is a free value (R358). -/
def State.slew (s : State) : State :=
  s.draw.modWelt (fun w => { w with corr := Int.ofNat (Config.freeValue s.fresh % 209) - 104 })

/-- A SYNC arrives (R358): beyond 1 µs in ACQUIRE the time base steps to fabric time, else it is slewed. -/
def State.syncIn (s : State) (i : InP) : State :=
  if !s.timeFollows || i.port != some (s.get Fd.WELT_TIMECTL_UPPORT) then s
  else
    let dep := (i.pkt.w 2 % 2 ^ 28 * 2 ^ 28 + i.pkt.w 1 % 2 ^ 28) * 65536 + i.pkt.w 0 % 65536
    let off : Int := (i.stamp : Int) - Int.ofNat dep - s.welt.delay
    let ns := offsetNs off
    let st := s.get Fd.WELT_TIMESTAT_STATE
    let s1 := s.set Fd.WELT_TIMESTAT_OFFSET (unsignedOf 17 (clampInt (-65536) 65535 ns))
    let acq := st ≠ 2
    let good := if acq ∧ -20480 ≤ off ∧ off ≤ 20480 then (if st = 1 then s.welt.good + 1 else 1) else 0
    let s2 := s1.modWelt (fun w => { w with good := good })
    let hops := fun (a : State) => a.set Fd.WELT_TIMESTAT_HOPS (min 31 (nbits (i.pkt.w 0) 29 25 + 1))
    let s3 :=
      if !acq then hops s2.slew
      else if 8 ≤ good then hops (s2.slew.set Fd.WELT_TIMESTAT_STATE 2)
      else
        let a := s2.set Fd.WELT_TIMESTAT_STATE 1
        if off < -4096000 ∨ 4096000 < off then
          (a.stepTime (unsignedOf 56 (Int.fdiv (Int.ofNat (s.time.now * 65536) - off) 65536))).set Fd.WELT_TIMESTAT_STEP 1
        else a.slew
    s3.modWelt (fun w => { w with syncAt := some s3.time.now })

/-- A DREQ arrives and is answered by a DRESP (R357). -/
def State.dreqIn (s : State) (i : InP) : State :=
  match i.port with
  | some p => if s.weltUp p then s.timePacket p (2 * 2 ^ 30) i.stamp (some i.pkt.src.toNat) else s
  | none => s

/-- A DRESP arrives: the link delay (R357). -/
def State.drespIn (s : State) (i : InP) : State :=
  match s.welt.t1 with
  | some t1 =>
    if s.timeFollows && i.port == some (s.get Fd.WELT_TIMECTL_UPPORT) then
      s.modWelt (fun w => { w with t1 := none, delay := Int.fdiv (Int.ofNat i.stamp - Int.ofNat t1 - Int.ofNat (i.pkt.w 3)) 2 })
    else s
  | none => s

/-- Take the first waiting TIME packet of a type. -/
def State.timeIn (s : State) (ty : Nat) : State :=
  if s.halted && !s.flag Fd.DBG_CTL_WELTRUN then s
  else match s.takeIn (fun i => i.pkt.kind == 1#4 && i.pkt.w 0 / 2 ^ 30 == ty) with
  | none => s
  | some (i, s1) => match ty with | 0 => s1.syncIn i | 1 => s1.dreqIn i | _ => s1.drespIn i

/-- A write of WELT_TIMECTL (R358): FREE from any state when UPEN is 0. -/
def State.writeTimectl (s : State) (v : Nat) : State :=
  let s1 := s.plainWrite Rg.WELT_TIMECTL v
  if nbit v 26 then s1
  else ((s1.set Fd.WELT_TIMESTAT_STATE 0).set Fd.WELT_TIMESTAT_HOPS 31).modWelt (fun w => { w with good := 0, corr := 0 })

/-- A write of WELT_EPOCHLO is held; one of WELT_EPOCHHI applies both (R360, R372). -/
def State.writeEpochLo (s : State) (v : Nat) : State := s.modWelt (fun w => { w with epoch := some (v % 2 ^ 28) })
def State.writeEpochHi (s : State) (v : Nat) : State :=
  let s1 := match s.welt.epoch with | some l => s.set Fd.WELT_EPOCHLO_EPOCH l | none => s
  (s1.set Fd.WELT_EPOCHHI_EPOCH v).modWelt (fun w => { w with epoch := none })

/-! ## Picture receivers (R362–R366) -/

def State.prxS (s : State) (k : Nat) : PrxS := tabGet {} s.pict.prx k
def State.setPrx (s : State) (k : Nat) (v : PrxS) : State := { s with pict := { s.pict with prx := tabPut {} s.pict.prx k v } }

/-- A receiver enters LOST (R364, R365); `from_` is the first line the override acts on. -/
def State.prxLost (s : State) (k from_ : Nat) : State :=
  if s.get (Fd.WELT_PRX_STAT_STATE k) ≠ 1 then s
  else
    ((((s.set (Fd.WELT_PRX_STAT_STATE k) 2).set (Fd.WELT_PRX_STAT_OVR k) 1).set (Fd.WELT_PRX_STAT_LOSTEV k) 1).setPrx k
      { s.prxS k with miss := 0, msg := none, seq := none, ovrFrom := from_ }).report (uPrx k) 0x2F 2 0

/-- Presence at the release point of active line `ya` (line `y`) of head `h` (R364). -/
def State.prxCheck (s : State) (h y ya : Nat) : State :=
  if !s.curv h then s
  else (List.range 4).foldl (fun a k =>
    if !a.flag (Fd.WELT_PRX_CFG_EN k) || a.get (Fd.WELT_PRX_CFG_HEAD k) != h then a
    else
      let p := a.prxS k
      if p.lines.contains ya then a.setPrx k { p with lines := [], miss := 0 }
      else
        let b := (a.bump (Fd.WELT_PRX_STAT_MISSCNT k) 255).setPrx k { p with lines := [], miss := p.miss + 1 }
        if a.get (Fd.WELT_PRX_CFG_MISS k) + 1 ≤ p.miss + 1 then b.prxLost k (y + 1) else b) s

/-- A release point of head `h` at which no line is checked: what was completed before it counts for no later line (R364). -/
def State.prxForget (s : State) (h : Nat) : State :=
  (List.range 4).foldl (fun a k =>
    if a.get (Fd.WELT_PRX_CFG_HEAD k) = h ∧ (a.prxS k).lines ≠ [] then a.setPrx k { a.prxS k with lines := [] } else a) s

/-- A pixel in a receiver's format (R362). -/
def prxPixel (fmt : Nat) (px : Px) : Nat := if fmt = 0 then encode8888 px else encode2101010 px

/-- The size of the picture a receiver takes: HACTIVE and VACTIVE of its head's running Last (R362). -/
def State.prxSize (s : State) (k : Nat) : Nat × Nat :=
  match s.runEntry (s.get (Fd.WELT_PRX_CFG_HEAD k)) with
  | some (w, e) => (entHactive w e, entVactive w e)
  | none => (0, 0)

/-- The words a picture packet writes (R362): address and value. -/
def State.prxWrites (s : State) (k : Nat) (pkt : WeltPkt) : List (Nat × Nat) :=
  let ya := pkt.w 0 / 65536
  let xa := pkt.w 1 / 65536
  let (w, v) := s.prxSize k
  ((List.range (pkt.w 1 % 32)).filter (fun i => decide (xa + i < w) && decide (ya < v))).map (fun i =>
    let p0 := pkt.w (2 + 2 * i)
    let p1 := pkt.w (3 + 2 * i)
    (s.get (Fd.WELT_PRX_BASE_ADDR k) * 4096 + ya * (s.get (Fd.WELT_PRX_CFG_PITCH k) * 64) + (xa + i) * 4,
      prxPixel (s.get (Fd.WELT_PRX_CFG_FMT k)) ⟨nbits p1 29 16, p1 % 16384, nbits p0 29 16, p0 % 16384⟩))

/-- A line of a receiver is complete (R362, R366): the receiver becomes ACTIVE with lines 0 to VACTIVE − 1 of one sequence. -/
def State.prxLine (s : State) (k ya ftag vact : Nat) : State :=
  let p := s.prxS k
  let seq := match p.seq with
    | some (f, n) => if ya = 0 then some (ftag, 1) else if f = ftag ∧ n = ya then some (f, n + 1) else none
    | none => if ya = 0 then some (ftag, 1) else none
  let s1 := (s.set (Fd.WELT_PRX_STAT_LINE k) ya).setPrx k { p with lines := ya :: p.lines, seq := seq, msg := none }
  let st := s.get (Fd.WELT_PRX_STAT_STATE k)
  if (st = 0 ∨ st = 3) ∧ seq = some (ftag, vact) then s1.set (Fd.WELT_PRX_STAT_STATE k) 1 else s1

/-- The progress of receiver `k`'s message after a packet whose pixels were written (R362). -/
def State.prxProgress (s : State) (k : Nat) (i : InP) : State :=
  let ya := i.pkt.w 0 / 65536
  let ftag := i.pkt.w 0 % 65536
  let xa := i.pkt.w 1 / 65536
  let n := i.pkt.w 1 % 32
  let (w, v) := s.prxSize k
  let p := { s.prxS k with port := i.port }
  let at_ := if i.pkt.first then (if xa = 0 then some 0 else none)
    else match p.msg with
      | some (y, f, x) => if y = ya ∧ f = ftag ∧ x = xa then some x else none
      | none => none
  match at_ with
  | none => s.setPrx k { p with msg := none }
  | some x =>
    let s1 := s.setPrx k { p with msg := some (ya, ftag, x + n) }
    if decide (x < w) && decide (w ≤ x + n) && decide (ya < v) then s1.prxLine k ya ftag v else s1

/-- Take the first waiting picture packet: its receiver and the packet. -/
def State.pictureTake (s : State) : Option (Nat × InP × State) :=
  if s.halted then none
  else (s.takeIn (fun i => i.pkt.kind == 4#4)).map (fun e => (s.fcBind e.1.pkt.dflow.toNat % 4, e.1, e.2))

/-- A write of WELT_PRXkCFG: a receiver that is switched off returns to IDLE (log entry 20). -/
def State.writePrxCfg (s : State) (k v : Nat) : State :=
  let s1 := s.plainWrite (Rg.WELT_PRX_CFG k) v
  if nbit v 27 || s.get (Fd.WELT_PRX_STAT_STATE k) == 2 then s1
  else (s1.set (Fd.WELT_PRX_STAT_STATE k) 0).setPrx k {}

/-- The delivering ports that went DOWN (R364): receivers in ACTIVE that took their last packet there are lost. -/
def State.prxPortLost (s : State) (p : Nat) : State :=
  (List.range 4).foldl (fun a k =>
    if (a.prxS k).port == some p then a.prxLost k ((a.headS (a.get (Fd.WELT_PRX_CFG_HEAD k))).line + 1) else a) s

/-- The fabric's reaction to ports that are DOWN or in reset: queues, receivers and fabric time (R338, R358, R364). A port that
trains again without having gone DOWN keeps its frames. -/
def State.weltSettle (s : State) : State :=
  let s1 := (List.range 8).foldl (fun a p =>
    if a.weltHolds p then a
    else
      let b := if a.weltPortHeld p then a.weltPortLost p else a
      b.prxPortLost p) s
  let up := s1.get Fd.WELT_TIMECTL_UPPORT
  if s1.timeFollows && !s1.weltHolds up then s1.timeHoldover else s1

/-- An AUDIO packet is handed to its audio receiver (R595). -/
def State.audioIn (s : State) : State :=
  if s.halted then s
  else match s.takeIn (fun i => i.pkt.kind == 5#4) with
  | none => s
  | some (i, s1) => s1.audioPacket (s.fcBind i.pkt.dflow.toNat % 4) (i.pkt.payload.map (fun w => w.toNat))

/-- Stereo frames of a block as words of R594. -/
def audioWords (fr : List (Int × Int)) : List Nat :=
  (fr.map (fun f => [unsignedOf 24 f.1 * 256, unsignedOf 24 f.2 * 256])).flatten

/-- The block of an output bus leaves on every enabled transmitting AUDIO context bound to it (R594): two packets. -/
def State.audioOut (s : State) (bus dom block : Nat) (fr : List (Int × Int)) : State :=
  (s.fcOf 5 true).foldl (fun a c =>
    if s.fcBind c % 8 = bus then
      let hd := dom * 2 ^ 30 + 16 * 65536 + block % 65536
      a.weltOn c [hd :: audioWords (fr.take 16), hd :: audioWords (fr.drop 16)]
    else a) s

end Sys2Proof.Machine
end

