-- ==== Sys2Proof/Machine/Lines.lean ====
section
/-! DEFINITION. A head's line by line work: what it outputs, the underrun rule, check rectangles and writeback rows
(06_composition.md R206–R217, 07_heads.md R243–R250), the release of a line, line lists (05_line_lists_commit.md
R164–R178), and a Sole's stitches, granule answers, slack and abandonment (02_pace.md R54–R58, 03_last_contract.md R116). -/
namespace Sys2Proof.Machine

/-! ## Stitches of a line -/

/-- The contexts in which the Soles of head `h` compose its line `y`. -/
def State.lineCtxs (s : State) (h y : Nat) : List LineCtx := (s.runSoles h).filterMap (fun sl => s.lineCtx h sl y)

/-- Stitches that Sole `sl` has run for line `y`. -/
def State.ranOf (s : State) (sl y : Nat) : Nat := tabGet 0 (s.soleS sl).ran y

/-- Stitch `k` of a section: its entry's index, the entry, and its number within the entry. -/
def stitchAt : List Stitch → Nat → Nat → Option (Nat × Stitch × Nat)
  | [], _, _ => none
  | e :: t, j, k => if k < e.cost then some (j, e, k) else stitchAt t (j + 1) (k - e.cost)

/-- The spans, with their places, and blocks that a sprite-budget entry's stitches compose, in order. -/
def LineCtx.spanStitches (c : LineCtx) (s : State) (lc sp bl : Nat) : List (Nat × Span × Nat) :=
  (((c.shownSpans s lc sp bl).zipIdx).map (fun p => (c.spanBlocks p.1).map (fun b => (p.2, p.1, b)))).flatten

/-- Blocks that the stitches of an entry from number `k` on still write in the Sole's stripe. -/
def LineCtx.entryBlocks (c : LineCtx) (s : State) (k : Nat) : Stitch → List Nat
  | .run _ st n => ((List.range n).drop k).map (fun i => st + i) |>.filter (fun b => decide (c.lo ≤ b) && decide (b < c.hi))
  | .sprites lc sp bl => ((c.spanStitches s lc sp bl).drop k).map (fun e => e.2.2)
  | _ => []

/-- Blocks that stitches after the first `ran` still write. -/
def LineCtx.leftFrom (c : LineCtx) (s : State) : List Stitch → Nat → List Nat
  | [], _ => []
  | e :: t, ran =>
    (if ran < e.cost then c.entryBlocks s ran e else []) ++ c.leftFrom s t (ran - e.cost)

/-- Blocks of the line that the context's Sole has not written whole. -/
def LineCtx.left (c : LineCtx) (s : State) : List Nat := c.leftFrom s c.entries (s.ranOf c.sole c.y)

/-- The smallest number of a list. -/
def minOf : List Nat → Option Nat
  | [] => none
  | a :: t => match minOf t with | none => some a | some b => some (min a b)

/-- The first block of head `h`'s line `y` that is not written. -/
def State.firstMissing (s : State) (h y : Nat) : Option Nat :=
  minOf (((s.lineCtxs h y).map (fun c => c.left s)).flatten)

/-- The Sole that owns block `b` of head `h`'s line `y` (R238). -/
def State.blockSole (s : State) (h y b : Nat) : Nat :=
  match (s.lineCtxs h y).find? (fun c => decide (c.lo ≤ b) && decide (b < c.hi)) with
  | some c => c.sole
  | none => h

/-! ## The underrun rule (R243–R246) -/

/-- The block from which line `y` shows background, where it does. -/
def State.darkFrom (s : State) (h y : Nat) : Option Nat :=
  minOf (((s.headS h).under.filter (fun e => e.1 == y)).map (fun e => e.2))

/-- Line `y` shows background from block `b` on, without an underrun (R246, R690, R693). -/
def State.dark (s : State) (h y b : Nat) : State :=
  match s.darkFrom h y with
  | some b' => if b' ≤ b then s else s.modHead h (fun v => { v with under := (y, b) :: v.under })
  | none => s.modHead h (fun v => { v with under := (y, b) :: v.under })

/-- Line `y` of head `h` counts no underrun: CURV is 0, the head outputs background because of a fence or a stop, or a debug halt
has touched the line (R244, R246, R690, R693). -/
def State.noUnderrun (s : State) (h y : Nat) : Bool :=
  !s.curv h || s.halted || s.fenced (uHead h) || s.hub.stopping || (s.headS h).marks.contains (y, 21)

/-- An underrun at block `b` of line `y` (R243, R244): nothing where the line shows background from there on already; the blocks
of a fenced Sole count none, and a line counts once. -/
def State.underrun (s : State) (h y b : Nat) : State :=
  if (match s.darkFrom h y with | some b' => decide (b' ≤ b) | none => false) then s
  else
    let s1 := s.dark h y b
    if s.noUnderrun h y || s.fenced (uSole (s.blockSole h y b)) then s1
    else s1.oncePerLine h y 20 (fun t =>
      (((t.bump (Fd.HD_STAT_URCNT h) 127).modHead h (fun v => { v with report := { v.report with
        urlines := min 65535 (v.report.urlines + 1) } })).raise (24 + 6 * h + 1)).report (uSole (s.blockSole h y b)) 0x10 1 h)

/-- A line that a debug halt leaves as background from block `b` on: one C0 record per head and halt (R246). -/
def State.haltLine (s : State) (h y b : Nat) : State :=
  let s1 := (s.dark h y b).oncePerLine h y 21 (fun t => t)
  if s.curv h && s.activeLine h y && !(s.headS h).haltRec then
    (s1.modHead h (fun v => { v with haltRec := true })).report (uHead h) 0x11 0 0
  else s1

/-! ## Output pixels (R206, R207, R192 stages 6 and 7) -/

/-- The background registers as the pixel at (y, x) sees them. -/
def State.bgPx (s : State) (h y x : Nat) : Px :=
  let g0 := s.actAt h (Rg.HD_BG0 h) y x
  let g1 := s.actAt h (Rg.HD_BG1 h) y x
  ⟨nbits g1 27 14, nbits g0 27 14, g0 % 16384, g1 % 16384⟩

/-- C and Ac of a pixel in the line buffers: 0 where no stitch wrote it or the head shows background. -/
def State.composed (s : State) (h y xa : Nat) : Px :=
  let hidden := match s.darkFrom h y with | some b => decide (b ≤ xa / 16) | none => false
  if !s.curv h || hidden then pxZero
  else
    match (s.runSoles h).findSome? (fun sl => (s.soleS sl).buf.find? (fun e => e.y == y && e.block == xa / 16)) with
    | some e => blendAll (e.px.getD (xa % 16) [])
    | none => pxZero

/-- The pixel before and after stage 7. -/
def State.outPx (s : State) (h y xa : Nat) : Px × Px :=
  let x := s.hStart h + xa
  let p := background (s.bgPx h y x) (s.composed h y xa)
  let o := s.actAt h (Rg.HD_OUTLUT h) y x
  (p, if nbit o 0 then s.throughLut (postLutAddr h (nbits o 1 1) 0) p else p)

/-- Pixels `a` to `a + n − 1` of a line. -/
def State.outRow (s : State) (h y a n : Nat) : List (Px × Px) := (List.range n).map (fun i => s.outPx h y (a + i))

/-! ## Check rectangles (R247–R250) -/

/-- The halfwords a pixel feeds (R248). -/
def crcPixel (outfmt out obpc c : Nat) (p : Px) : Nat :=
  if outfmt = 1 ∧ 2 ≤ out then
    let n := obpcBits obpc
    crcHalf (crcHalf (crcHalf c (narrow n p.r)) (narrow n p.g)) (narrow n p.b)
  else crcHalf (crcHalf (crcHalf (crcHalf c p.r) p.g) p.b) p.a

/-- Feed a rectangle's row. -/
def State.rectRow (s : State) (h y : Nat) (r : RectRun) : RectRun :=
  { r with rows := r.rows + 1, crc := (s.outRow h y r.x0 r.width).foldl (fun c p => crcPixel r.outfmt (s.get (Fd.HD_CTL_OUT h).act)
      (s.get (Fd.HD_CTL_OBPC h).act) c p.2) r.crc }

/-- Put a rectangle's run back. -/
def State.setRect (s : State) (h : Nat) (r : RectRun) : State :=
  s.modHead h (fun v => { v with rects := v.rects.map (fun q => if q.index = r.index then r else q) })

/-- A checked rectangle's comparison (R249, R250). -/
def State.rectEnd (s : State) (h : Nat) (r : RectRun) : State :=
  match r.expect with
  | none => s
  | some e =>
    if r.compared || (s.headS h).report.halt || s.halted || s.fenced (uHead h) then s
    else
      let bad := crcEnd r.crc ≠ e
      let s1 := s.setRect h { r with compared := true, mismatch := bad }
      if !bad then s1
      else
        let s2 := ((s1.set (Fd.HD_STAT_MISMATCH h) (Nat.lor (s1.get (Fd.HD_STAT_MISMATCH h)) (2 ^ r.index))).modHead h (fun v =>
          { v with misCnt := tabPut 0 v.misCnt r.index (min 65535 (tabGet 0 v.misCnt r.index + 1)), misRec := true })).raise
            (24 + 6 * h + 2)
        if (s.headS h).misRec then s2
        else s2.report (uHead h) 0x16 (s.get (Fd.HD_CTL_MISCLS h).act) r.index

/-- Put a rectangle among others in the order of their last pixels of a line, and of their indices at one pixel. -/
def rectInsert (r : RectRun) : List RectRun → List RectRun
  | [] => [r]
  | q :: t => if r.x0 + r.width < q.x0 + q.width ∨ (r.x0 + r.width = q.x0 + q.width ∧ r.index < q.index) then r :: q :: t
      else q :: rectInsert r t

/-- The rectangles whose last row is line `y` and whose last pixel lies before active position `x`, in the order of their last
pixels. -/
def State.rectsEnding (s : State) (h y x : Nat) : List RectRun :=
  ((s.headS h).rects.filter (fun r => decide (s.vStart h + r.y0 + r.height = y + 1) && decide (r.x0 + r.width ≤ x))).foldl
    (fun l r => rectInsert r l) []

/-- The comparisons of line `y` up to active position `x`: each rectangle's last row is taken where it has not been yet. -/
def State.rectsEnd (s : State) (h y x : Nat) : State :=
  (s.rectsEnding h y x).foldl (fun a r =>
    if r.rows + 1 = r.height then let r1 := a.rectRow h y r; (a.setRect h r1).rectEnd h r1
    else if r.rows = r.height then a.rectEnd h r
    else a) s

/-- The rectangle's last pixel is output now: it and every rectangle that ended at or before that pixel of the line in output
are compared (R250). -/
def State.rectCompare (s : State) (h i : Nat) : State :=
  match (s.headS h).rects.find? (fun r => r.index == i) with
  | none => s
  | some r => s.rectsEnd h ((s.headS h).line - 1) (r.x0 + r.width)

/-- A line's part in the rectangles. -/
def State.rectLine (s : State) (h y : Nat) : State :=
  let ya := y - s.vStart h
  let rows := (s.headS h).rects.map (fun r => if r.rows < r.height ∧ r.y0 + r.rows = ya then s.rectRow h y r else r)
  (s.modHead h (fun v => { v with rects := rows })).rectsEnd h y (s.hActive h)

/-! ## Writeback (R213–R217) -/

/-- How a frame's writeback ends: DONE or DROP with its interrupt; BUSY stays while another frame is being written (R216, R217). -/
def State.wbEnds (s : State) (h : Nat) (f : Fd) : State :=
  let v := s.headS h
  ((s.set f 1).setB (Fd.HD_WBCTL_BUSY h) (v.wb.isSome || v.wbTail != 0)).raise (24 + 6 * h + 3)

/-- The frame's writeback is abandoned (R216): its rows that still wait are not written. -/
def State.wbDrop (s : State) (h : Nat) : State :=
  if (s.headS h).wb.isNone then s
  else (s.modHead h (fun v => { v with wb := none, wbOut := v.wbOut.take v.wbTail })).wbEnds h (Fd.HD_WBCTL_DROP h)

/-- The same for the frame before, whose last rows still wait. -/
def State.wbDropTail (s : State) (h : Nat) : State :=
  if (s.headS h).wbTail = 0 then s
  else (s.modHead h (fun v => { v with wbOut := v.wbOut.drop v.wbTail, wbTail := 0 })).wbEnds h (Fd.HD_WBCTL_DROP h)

/-- The two lines that the head buffers still wait while a third is output: the frame of the older one is abandoned, with a
C0 record (R216). -/
def State.wbOverflow (s : State) (h : Nat) : State :=
  if (s.headS h).wbOut.length < 2 then s
  else (if (s.headS h).wbTail = 0 then s.wbDrop h else s.wbDropTail h).report (uHead h) 0x17 0 0

/-- WRITEBACK_DROP: the first active pixel of the line in output is output (R216). -/
def State.wbLate (s : State) (h : Nat) : State :=
  let v := s.headS h
  if v.running && decide (0 < v.line) && s.activeLine h (v.line - 1) then s.wbOverflow h else s

/-- All rows of a frame are formed and written (R217). -/
def State.wbDone (s : State) (h : Nat) : State :=
  match (s.headS h).wb with
  | none => s
  | some w =>
    if w.rows = s.vActive h ∧ (s.headS h).wbOut = [] then (s.modHead h (fun v => { v with wb := none })).wbEnds h (Fd.HD_WBCTL_DONE h)
    else s

/-- The oldest `n` rows that wait have been written, and the next one has failed where `bad`: the frame before is done with its
last row, and the frame of a row that failed is abandoned (R216, R217). -/
def State.wbWritten (s : State) (h n : Nat) (bad : Bool) : State :=
  let tail := (s.headS h).wbTail
  let s1 := s.modHead h (fun v => { v with wbOut := v.wbOut.drop n, wbTail := tail - n })
  let s2 := if tail ≠ 0 ∧ tail ≤ n then s1.wbEnds h (Fd.HD_WBCTL_DONE h) else s1
  if !bad then s2.wbDone h else if n < tail then s2.wbDropTail h else s2.wbDrop h

/-- The words of a written pixel (R214). -/
def wbWords (fmt : Nat) (p : Px) : List Nat :=
  match fmt with
  | 0 => [encode8888 p]
  | 1 => [encode2101010 p]
  | _ => [p.g * 65536 + p.b, p.a * 65536 + p.r]

/-- An active line becomes a row that waits for the bus, one of at most two. -/
def State.wbLine (s : State) (h y : Nat) : State :=
  let s0 := s.wbOverflow h
  match (s0.headS h).wb with
  | none => s0
  | some w =>
    let ya := y - s0.vStart h
    let px := (s0.outRow h y 0 (s0.hActive h)).map (fun p => if w.tap then p.2 else p.1)
    s0.modHead h (fun v => { v with wb := some { w with rows := w.rows + 1 },
                                    wbOut := v.wbOut ++ [(w.base * 4096 + ya * (w.pitch * 64), (px.map (wbWords w.fmt)).flatten)] })

/-- An active line has been output whole: missing blocks, rectangles, writeback. -/
def State.rowOut (s : State) (h y : Nat) : State :=
  let s1 := if s.curv h then (match s.firstMissing h y with | some b => s.underrun h y b | none => s) else s
  ((s1.rectLine h y).wbLine h y).modHead h (fun v => { v with rowsDone := v.rowsDone + 1 })

/-- Every active line below `top` has been output. -/
def State.rowsOut (s : State) (h top : Nat) : State :=
  let first := s.vStart h + (s.headS h).rowsDone
  (List.range (min top (s.vStart h + s.vActive h) - first)).foldl (fun a i => a.rowOut h (first + i)) s

/-! ## Line slack (R54–R58) -/

/-- The line time of a head in picoseconds, as numerator: slack is d × 1024 × PCLK_KHZ / (HTOTAL × 10⁹) (R55). -/
def State.slackOf (s : State) (h : Nat) (d : Int) : Int :=
  clampInt (-2047) 2047 (Int.fdiv (d * 1024 * s.pclk h) (s.hTotal h * 1000000000))

/-- The next line falls due with a Sole's line unfinished: the head outputs a line after it (R54, R56). -/
def State.pastDue (s : State) (sl : Nat) : Bool :=
  let v := s.soleS sl
  match v.line with
  | none => false
  | some y => decide (y + 2 ≤ (s.headS v.head).line) || (decide ((s.headS v.head).line < y) && decide (0 < (s.headS v.head).line))

/-! ## Tacks and granules (R160, R161, R265–R268) -/

/-- The line a Sole composes now, as a context: not while the head's list has not arrived (R170), nor under a fence,
a halt or a unit reset (R431). -/
def State.soleCtx (s : State) (sl : Nat) : Option LineCtx :=
  match (s.soleS sl).line with
  | none => none
  | some y =>
    let h := (s.soleS sl).head
    if s.halted || s.fenced (uSole sl) || s.unitInReset (uSole sl) || (s.headS h).listWait.contains y then none
    else s.lineCtx h sl y

/-- Remote tacks that Sole `sl` holds: granules asked for or staged for lines not yet used. -/
def State.remoteTacks (s : State) (sl : Nat) : Nat :=
  (s.soleS sl).staging.length +
    ((s.welt.reqs.filter (fun r => match r.who with | .plane n _ _ => n == sl | _ => false)).map (fun r =>
      if r.op = 0 then r.count else (mapGranules r.off r.count).length)).sum

/-- Tacks held for the line list of line `y`: its granules read whose entries' stitches have not all run (R266). -/
def State.listTacks (s : State) (sl y : Nat) : Nat := tabGet 0 (s.soleS sl).lists y - s.ranOf sl y / 8

/-- Granule reads issued for a Sole's line, and the tacks that they and its line list hold (R116, R265, R266). -/
def State.lineIssued (s : State) (c : LineCtx) (p : Plan) : Nat × Nat :=
  p.issued c.limit (min c.ltacks (448 - s.remoteTacks c.sole)) (s.ranOf c.sole c.y) (s.listTacks c.sole c.y)

/-- Local tacks that Sole `sl` holds: those of its line, and of the lists of the released lines behind it. -/
def State.localTacks (s : State) (sl : Nat) : Nat :=
  let v := s.soleS sl
  (match v.line with
    | none => 0
    | some y =>
      match s.soleCtx sl with
      | some c => (s.lineIssued c (s.linePlan c)).2
      | none => s.listTacks sl y) + (v.next.map (s.listTacks sl)).sum

/-- HELD and PEAK of a Sole's quota of 448 (R265, R296). -/
def State.soleTacks (s : State) (sl : Nat) : State :=
  let n := min 448 (s.localTacks sl + s.remoteTacks sl)
  if s.get (Fd.FETCH_SL_STAT_HELD sl) = n then s
  else (s.set (Fd.FETCH_SL_STAT_HELD sl) n).raiseTo (Fd.FETCH_SL_STAT_PEAK sl) n

/-- A Sole issues the reads that its line's plan and its tacks allow (R116, R160): PEAKG counts them with those of the line's
list (R169, R298), and a line that has more to read than LBYTES counts in FETCH. -/
def State.soleIssue (s : State) (sl : Nat) : State :=
  match s.soleCtx sl with
  | none => s.soleTacks sl
  | some c =>
    let p := s.linePlan c
    let n := (s.lineIssued c p).1
    let s1 := if n = c.limit ∧ c.limit < p.next then s.clip c.head c.y 2 else s
    (s1.raiseTo (Fd.FETCH_SL_LINE_PEAKG sl) (tabGet 0 (s.soleS sl).lists c.y + n)).soleTacks sl

/-- The granule numbered `num` of a Sole's current line that is issued and still out: its address. -/
def State.granuleDue (s : State) (sl num : Nat) : Option (LineCtx × Nat) :=
  match s.soleCtx sl with
  | none => none
  | some c =>
    let p := s.linePlan c
    if (s.lineIssued c p).1 ≤ num || (s.soleS sl).got.any (fun g => g.y == c.y && g.num == num) then none
    else (p.address num).map (fun a => (c, a))

/-- A granule answer goes into the fetch buffer (R267), with its latency in ticks (R297). -/
def State.granuleIn (s : State) (c : LineCtx) (num lat : Nat) (d : Option (List Nat)) : State :=
  let sl := c.sole
  let s1 := s.modSole sl (fun v => { v with got := v.got ++ [⟨c.y, num, d⟩] })
  let s2 := s1.raiseTo (Fd.FETCH_SL_LAT_MAX sl) (min 255 lat)
  (if 48 < lat then s2.bump (Fd.FETCH_SL_LAT_OVER sl) 0x7FFFF else s2).soleIssue sl

/-! ## A Sole's line ends (R55, R56) -/

/-- A Sole leaves its line and takes the next one. -/
def State.soleNext (s : State) (sl : Nat) : State :=
  let v := s.soleS sl
  (s.setSole sl { v with line := v.next.head?, next := v.next.tail, got := v.got.filter (fun g => v.next.head? == some g.y),
                          staging := v.staging.filter (fun g => v.line != some g.y) }).soleIssue sl

/-- Stitches of a Sole's line and those run (R55). -/
def State.soleTotal (s : State) (sl y : Nat) : Nat :=
  match s.lineCtx (s.soleS sl).head sl y with
  | some c => c.total
  | none => 0

/-- A line is done: all its stitches have run (R55). -/
def State.lineDone (s : State) (sl : Nat) (d : Int) : State :=
  match (s.soleS sl).line with
  | none => s
  | some y =>
    if s.ranOf sl y < s.soleTotal sl y || s.halted then s
    else
      let s1 := if s.soleTotal sl y = 0 then s else s.recordSlack sl (s.slackOf (s.soleS sl).head d)
      s1.soleNext sl

/-- The beam guard abandons an unfinished line (R56). -/
def State.soleAbandon (s : State) (sl : Nat) : State :=
  match (s.soleS sl).line with
  | none => s
  | some y =>
    let s1 := if s.ranOf sl y < s.soleTotal sl y then s.recordSlack sl (-2048) else s
    s1.soleNext sl

/-! ## Stitches (R116, R161, R199–R205, R267) -/

/-- An empty block. -/
def emptyBlk (y b : Nat) : LayBlk := ⟨y, b, List.replicate 16 []⟩

/-- The pixels of a block within the active line. -/
def LineCtx.blockPixels (c : LineCtx) (b : Nat) : List Nat :=
  ((List.range 16).map (fun i => 16 * b + i)).filter (fun x => decide (x < c.hactive))

/-- Change a Sole's block, made empty where it is new. -/
def State.modBlock (s : State) (sl y b : Nat) (f : LayBlk → LayBlk) : State :=
  s.modSole sl (fun v =>
    if v.buf.any (fun e => e.y == y && e.block == b) then
      { v with buf := v.buf.map (fun e => if e.y = y ∧ e.block = b then f e else e) }
    else { v with buf := v.buf ++ [f (emptyBlk y b)] })

/-- Write a layer's pixels into a block; missing data makes the whole block transparent for the layer (R161). -/
def State.writeBlock (s : State) (c : LineCtx) (lc b : Nat) (px : List (Nat × PixRes)) : State :=
  let pos := c.lcPos lc
  let lost := px.any (fun e => e.2 == .missing) || (s.soleS c.sole).dead.contains (c.y, pos, b)
  if lost then
    let s1 := s.modBlock c.sole c.y b (fun e => { e with px := e.px.map (fun l => l.filter (fun q => q.pos != pos)) })
    s1.modSole c.sole (fun v => { v with dead := if v.dead.contains (c.y, pos, b) then v.dead else (c.y, pos, b) :: v.dead })
  else
    s.modBlock c.sole c.y b (fun e => { e with px := (e.px.zipIdx).map (fun li =>
      match px.find? (fun p => p.1 == 16 * b + li.2) with
      | some (xa, .colour q pri) => joinPx (s.layerPx c lc xa q pri) li.1
      | _ => li.1) })

/-- The pixels of a run's block, or of the block of the span at place `tag` of its entry. -/
def State.runBlock (s : State) (c : LineCtx) (p : Plan) (j lc b : Nat) : List (Nat × PixRes) :=
  (c.blockPixels b).map (fun xa => (xa, s.runPixel c p j lc xa))
def State.spanBlock (s : State) (c : LineCtx) (p : Plan) (j tag : Nat) (sn : Span) (b : Nat) : List (Nat × PixRes) :=
  ((c.blockPixels b).filter (fun xa => decide (sn.first ≤ xa) && decide (xa ≤ sn.last))).map (fun xa => (xa, s.spanPixel c p j tag sn xa))

/-- One stitch has run. -/
def State.countStitch (s : State) (c : LineCtx) : State :=
  s.modSole c.sole (fun v => { v with ran := tabPut 0 v.ran c.y (tabGet 0 v.ran c.y + 1) })

/-- Compose a block's pixels for a layer and count the stitch; nothing while data is out (R267). A remote block with
missing data counts in REMOTE (R116). -/
def State.composeBlock (s : State) (c : LineCtx) (lc b : Nat) (remote : Bool) (px : List (Nat × PixRes)) : State :=
  if c.hidden s lc b then (s.modBlock c.sole c.y b (fun e => e)).countStitch c
  else if px.any (fun e => e.2 == .wait) then s
  else
    let s1 := if remote && px.any (fun e => e.2 == .missing) then s.clip c.head c.y 3 else s
    (s1.writeBlock c lc b px).countStitch c

/-- The next stitch of a Sole's line runs (R116, R267): window stitches come last and write nothing. -/
def State.stitchRun (s : State) (sl : Nat) : State :=
  match s.soleCtx sl with
  | none => s
  | some c =>
    let ran := s.ranOf sl c.y
    if c.total ≤ ran then s
    else match stitchAt c.entries 0 ran with
    | none => s.countStitch c
    | some (j, e, k) =>
      let p := s.linePlan c
      let s1 := match e with
        | .run lc st _ =>
          let b := st + k
          if !c.active || b < c.lo || c.hi ≤ b then s.countStitch c
          else s.composeBlock c lc b ((c.view s lc (16 * b)).kind == 4) (s.runBlock c p j lc b)
        | .sprites lc sp bl =>
          (match (c.spanStitches s lc sp bl)[k]? with
           | some (tag, sn, b) => s.composeBlock c lc b false (s.spanBlock c p j tag sn b)
           | none => s.countStitch c)
        | _ => s.countStitch c
      s1.soleIssue sl

/-! ## Line lists (R164–R178) -/

/-- Address of line `y`'s slot in the active bank (R164). -/
def State.slotAddr (s : State) (h y : Nat) : Nat :=
  match s.runEntry h with
  | none => 0
  | some (w, e) => entLlBase w e / 512 * 512 + (s.get (Fd.HD_LLSEL_CBANK h) * entVtotal w e + y) * 512

/-- The lowest Sole of a head's running Last. -/
def State.lowSole (s : State) (h : Nat) : Nat := (s.runSoles h).headD h

/-- WRITES of the line-list entry of line `y`'s class, and whether that entry stands first (R168, R169). -/
def State.listOf (s : State) (h y : Nat) : Option (Nat × Bool) :=
  match s.lineCtx h (s.lowSole h) y with
  | none => none
  | some c =>
    match c.entries with
    | .lineList n :: _ => some (n, true)
    | es => es.findSome? (fun e => match e with | .lineList n => some (n, false) | _ => none)

/-- Does the device read line `y`'s list (R168)? -/
def State.listRuns (s : State) (h y : Nat) : Bool := s.flag (Fd.HD_LLSEL_CEN h) && (s.listOf h y).isSome

/-- An entry's fields (R165). -/
structure LlEnt where
  op : Nat
  last : Bool
  tgt : Nat
  x : Nat
  val : Nat
  deriving DecidableEq, Repr

def llEnt (w0 w1 : Nat) : LlEnt := ⟨w0 / 2 ^ 30, nbit w0 29, nbits w0 28 14, w0 % 16384, w1 % 2 ^ 28⟩

/-- Is an entry refused under R172? -/
def State.llBad (s : State) (h : Nat) (e : LlEnt) : Bool :=
  decide (s.hTotal h ≤ e.x) || (match e.op with
    | 0 => if e.tgt = 0x7FFF then false
      else if nbit e.tgt 14 then nbits e.tgt 13 2 != 0
      else nbits e.tgt 13 12 != 0 || !(s.curLayers h).contains (nbits e.tgt 11 2)
    | 1 => e.tgt != 0
    | 2 => nbit e.tgt 14
    | _ => nbits e.tgt 14 9 != 0)

/-- A line-list write of an active value, with what earlier pixels still see (R173, R175). -/
def State.lineWrite (s : State) (h y p k v : Nat) : State :=
  let old := s.regN (activeBase + k)
  (s.modHead h (fun r => { r with undo := r.undo ++ [⟨y, p, k, old⟩] })).setRegN (activeBase + k) (writeByAccess k old v)

/-- A line-list write of a palette entry (R166, R176, R177): word 0 holds G and B, word 1 A and R. -/
def State.linePalette (s : State) (h y p tgt v : Nat) : State :=
  let a := palAddr h (nbits tgt 13 8) (tgt % 256)
  let old := s.bytesLE a 8
  (s.modHead h (fun r => { r with undo := r.undo ++ [⟨y, p, a, old⟩] })).setWords a [(s.headS h).palHold, v]

/-- A beam-domain entry goes to the head; it is discarded where line y + 1 has begun (`late`), and its line is LOST (R174). -/
def State.toHead (s : State) (h y p : Nat) (late : Bool) (e : LlEnt) : State :=
  if late then s.llCount h y 12 (Fd.HD_LLSTAT_LOST h)
  else s.modHead h (fun v => { v with beam := v.beam ++ [⟨y, p, e.op, e.tgt, e.val⟩] })

/-- Execute one entry at its position (R166, R173, R174). -/
def State.llExec (s : State) (h y p : Nat) (late : Bool) (e : LlEnt) : State :=
  match e.op with
  | 0 =>
    if e.tgt = 0x7FFF then s
    else if nbit e.tgt 14 then s.toHead h y p late e
    else s.lineWrite h y p ((lcKeys (nbits e.tgt 11 2)).getD (e.tgt % 4) 0) e.val
  | 1 => s.modHead h (fun v => { v with palHold := e.val })
  | 2 => s.linePalette h y p e.tgt e.val
  | _ => s.toHead h y p late e

/-- Execute entries in order (R171, R172). -/
def State.llEntries (s : State) (h y : Nat) (late : Bool) (p : Nat) : List LlEnt → State
  | [] => s
  | e :: t =>
    if s.llBad h e then ((s.llCount h y 11 (Fd.HD_LLSTAT_BADENT h)).llFault h y).llEntries h y late p t
    else (s.llExec h y (max p e.x) late e).llEntries h y late (max p e.x) t

/-- Entries up to and including the first with LAST at 1; the Bool says that one was found. -/
def llCut : List LlEnt → List LlEnt × Bool
  | [] => ([], false)
  | e :: t => if e.last then ([e], true) else let r := llCut t; (e :: r.1, r.2)

/-- The Sole's layer-configuration faults and sprite clips of a line, by the values in force (R116, R159, R238). A line outside
the active area makes no record of R159, whose entries compose nothing there (R138; DESIGN CHOICE, log entry 72). -/
def State.lineFaults (s : State) (c : LineCtx) : State :=
  c.entries.foldl (fun a e =>
    match e with
    | .run lc st n =>
      let bad := (List.range (min (16 * n) (c.hactive - 16 * st))).any (fun i =>
        let v := c.view s lc (16 * st + i)
        v.en && (lcCase v (c.declared lc) false || st + i / 16 < c.lo || c.hi ≤ st + i / 16))
      if c.active && bad then a.layerFault c.head c.y lc else a
    | .sprites lc sp bl =>
      let v := c.view s lc 0
      if !c.active || !v.en then a
      else if lcCase v (c.declared lc) true then a.layerFault c.head c.y lc
      else
        let mine := c.bankSpans s lc
        let b := if (c.shownSpans s lc sp bl).length < mine.length then a.clip c.head c.y 0 else a
        if mine.any (fun p => decide (p.first / 16 < c.lo) || decide (c.hi ≤ p.last / 16)) then b.layerFault c.head c.y lc else b
    | _ => a) s

/-- Every Sole of the head starts the line's other work: its list, where it has one, is in force (R170). Spans past the
512th of the line count in SPRITE (R154). -/
def State.lineReady (s : State) (h y : Nat) : State :=
  let cs := s.lineCtxs h y
  let s1 := s.modHead h (fun v => { v with listWait := v.listWait.filter (fun z => z != y) })
  let s2 := if cs.any (fun c => c.tooMany s1) then s1.clip h y 0 else s1
  let s3 := cs.foldl (fun a c => if a.fenced (uSole c.sole) then a else a.lineFaults c) s2
  cs.foldl (fun a c => a.soleIssue c.sole) s3

/-- The lowest Sole has read `n` granules of line `y`'s list (R169, R298). -/
def State.listNote (s : State) (h y n : Nat) : State :=
  s.modSole (s.lowSole h) (fun v => { v with lists := tabPut 0 v.lists y n })

/-- A line's list takes effect: `ents` are its entries in memory order, at most WRITES, `err` a bus error, `short` that LBYTES
left granules of it unread (R116, R169), `late` that line y + 1 has begun. -/
def State.listRun (s : State) (h y writes : Nat) (late short : Bool) (ents : List LlEnt) (err : Bool) : State :=
  if err then (s.llCount h y 12 (Fd.HD_LLSTAT_LOST h)).lineReady h y
  else
    let (es, found) := llCut (ents.take writes)
    let s1 := s.llEntries h y late 0 es
    let s2 := if found then s1 else if short then s1.clip h y 2 else if writes < 64 then s1.clip h y 1 else s1
    s2.lineReady h y

/-- A line's list has arrived, whole granules of entries, or up to the one that failed (R169). -/
def State.listIn (s : State) (h y writes : Nat) (late short : Bool) (ents : List LlEnt) (err : Bool) : State :=
  (s.listNote h y (ents.length / 8 + b2n err)).listRun h y writes late short ents err

/-- The line that head `h` outputs: the released line has begun where the beam is on it (R8, R54). -/
def State.lineNow (s : State) (h : Nat) (beam : List (Nat × Nat)) : Nat :=
  let v := s.headS h
  match beam[h]? with
  | some (_, y) => if y = v.line then v.line else v.line - 1
  | none => v.line - 1

/-- Edges of the marker signals HMARKn[3:0] since MARK was `old` reach the capture channels (R242, R654). -/
def State.markEdges (s : State) (h old : Nat) : State :=
  (List.range 4).foldl (fun a b =>
    let n := nbit (s.get (Fd.HD_MARK_MARK h).act) b
    if nbit old b = n then a else a.captureTrig (0x10 + 4 * h + b) n) s

/-- A beam-domain entry takes effect at (y, x) (R166, R174, R178, R242). -/
def State.beamExec (s : State) (h y x : Nat) (e : BeamEnt) : State :=
  if e.op = 3 then s.queueKey ⟨e.tgt % 256, nbit e.tgt 8, some s.time.now⟩
  else
    let k := (lineKeys h).getD (e.tgt % 4) 0
    (s.lineWrite h y x k e.val).markEdges h (s.get (Fd.HD_MARK_MARK h).act)

/-- Beam-domain entries of lines before `l` are discarded: line `l` has begun (R174). -/
def State.beamExpire (s : State) (h l : Nat) : State :=
  let old := (s.headS h).beam.filter (fun e => decide (e.line < l))
  if old.isEmpty then s
  else
    old.foldl (fun a e => a.llCount h e.line 12 (Fd.HD_LLSTAT_LOST h))
      (s.modHead h (fun v => { v with beam := v.beam.filter (fun e => decide (l ≤ e.line)) }))

/-- The head's oldest beam-domain entry is issued in pixel period `x` of the line in output (R174): left of HSTART that is the
line released last, otherwise the line before it. -/
def State.beamIssue (s : State) (h x : Nat) : State :=
  let v := s.headS h
  if s.halted || !v.running then s
  else
    let y := if x < s.hStart h then v.line else v.line - 1
    let s1 := s.beamExpire h y
    match (s1.headS h).beam with
    | [] => s1
    | e :: t =>
      if e.line ≠ y ∨ x < e.pos then s1
      else
        let s2 := (s1.modHead h (fun v => { v with beam := t })).beamExec h e.line x e
        if e.pos < x then s2.llCount h e.line 13 (Fd.HD_LLSTAT_LATE h) else s2

/-- Beam-domain entries that have not reached the head by the start of the line after theirs are discarded (R174): those of
the oldest entry's line, where that start can have come. -/
def State.beamLost (s : State) (h : Nat) : State :=
  match (s.headS h).beam with
  | [] => s
  | e :: _ => if e.line < (s.headS h).line then s.beamExpire h (e.line + 1) else s

/-! ## Remote requests of a line (R91, R157, R158) -/

/-- Neighbouring remote map entries or bitmap pixels that one request covers. -/
def joinRem : PixSrc → PixSrc → Bool
  | .tile true a _ _ _ _ v, .tile true b _ _ _ _ v' => (b == a || b == a + 4) && v == v'
  | .bitmap true r u f _, .bitmap true r' u' f' _ => r == r' && f == f' && u' == u + 1
  | _, _ => false

/-- The request for a group of remote pixels: operation, offset, count, TILEREAD's word 2 and TOFS (R351). -/
def remRequest : PixSrc → PixSrc → Option (Nat × Nat × Nat × Nat × Nat)
  | .tile _ m bank ts fmt _ ty, .tile _ m' _ _ _ _ _ =>
    some (2, m, (m' - m) / 4 + 1, ty * 2 ^ 27 + ts * 2 ^ 25 + fmt * 2 ^ 21, bank / 4096)
  | .bitmap _ row u fmt _, .bitmap _ _ u' _ _ =>
    let a := (row + u * fmtBpp fmt / 8) / 64
    let b := (row + ((u' + 1) * fmtBpp fmt - 1) / 8) / 64
    some (0, a * 64 % 2 ^ 28, b + 1 - a, 0, 0)
  | _, _ => none

/-- Granules that a request surely takes. -/
def remGranules (r : Nat × Nat × Nat × Nat × Nat) : Nat := if r.1 = 0 then r.2.2.1 else (mapGranules r.2.1 r.2.2.1).length

/-- Issue a plane's requests while RBYTES lasts (R116). -/
def State.issuePlane (s : State) (sl lc z dev : Nat) : Nat → List (Nat × Nat × Nat × Nat × Nat) → State
  | _, [] => s
  | room, r :: t =>
    let n := remGranules r
    if room = 0 then s
    else
      let cnt := if r.1 = 0 then min r.2.2.1 room else r.2.2.1
      (s.remIssue (.plane sl lc z) dev r.1 r.2.1 cnt r.2.2.2.1 r.2.2.2.2 0 []).issuePlane sl lc z dev (room - n) t

/-- At the release of line `y`, the remote requests of line y + LEAD − 1 (R91). -/
def State.remoteRequests (s : State) (h y : Nat) : State :=
  match s.runEntry h with
  | none => s
  | some (w, _) =>
    (imgRemotes w).foldl (fun a r =>
      let z := (y + remLead w r - 1) % max 1 (s.vTotal h)
      (entSoleList w (((imgEntryOf w h)).getD 0)).foldl (fun b sl =>
        match b.lineCtx h sl z with
        | none => b
        | some c =>
          if !c.active || b.fenced (uSole sl) then b
          else
            let reqs := (c.entries.map (fun e => match e with
              | .run lc st n =>
                if lc = remLc w r then
                  ((groupPixels joinRem ((c.runPixels st n).map (fun xa => (xa, pixSrc (c.view b lc xa) true xa c.ya)))).filterMap
                    (fun g => remRequest g.2.2.1 g.2.2.2))
                else []
              | _ => [])).flatten
            b.issuePlane sl (remLc w r) z (remDev w r) (remBytes w r / 64) reqs) a) s

/-- Line `y` of a Sole falls due: its remote requests hold no tack any more and their answers will be late (R355); staged
data stays for a line still in work (R266). -/
def State.remoteDue (s : State) (sl y : Nat) : State :=
  let v := s.soleS sl
  let s1 := s.modWelt (fun w => { w with reqs := w.reqs.filter (fun r => match r.who with
    | .plane n _ z => !(n == sl && z == y)
    | _ => true) })
  let s2 := if v.line == some y || v.next.contains y then s1
    else s1.modSole sl (fun v => { v with staging := v.staging.filter (fun g => g.y != y) })
  s2.soleTacks sl

/-- SOLE_LINE_ABANDON (R56): the beam guard abandons the rest of a line. -/
def State.abandonDue (s : State) (sl : Nat) : State :=
  if (s.soleS sl).line.isNone || s.halted || !s.pastDue sl then s else s.soleAbandon sl

/-! ## The release of a line (R54, R91, R155, R169, R364) -/

/-- Does line `y`'s class carry a sprite-budget entry (R155)? -/
def State.spriteLine (s : State) (h y : Nat) : Bool :=
  (s.lineCtxs h y).any (fun c => c.entries.any (fun e => match e with | .sprites _ _ _ => true | _ => false))

/-- A Sole takes line `y`. A line older than y − 2 is abandoned at the latest now (R56). -/
def State.soleTake (s : State) (h sl y : Nat) : State :=
  let s1 := match (s.soleS sl).line with
    | some z => if z + 1 = y ∨ z + 2 = y then s else s.soleAbandon sl
    | none => s
  let s2 := s1.modSole sl (fun v => { v with head := h })
  if s1.fenced (uSole sl) then s2.dark h y (match s1.lineCtx h sl y with | some c => c.lo | none => 0)
  else match (s2.soleS sl).line with
    | none => s2.modSole sl (fun v => { v with line := some y })
    | some _ => s2.modSole sl (fun v => { v with next := v.next ++ [y] })

/-- The sprite snapshot stops at the release point of the frame's first line with a sprite budget (R155). -/
def State.snapStop (s : State) (h y : Nat) : State :=
  if s.spriteLine h y then s.modHead h (fun v => { v with snap := { v.snap with todo := [] } }) else s

/-- The part of a line's release that a debug halt leaves out. -/
def State.releaseWork (s : State) (h y : Nat) : State :=
  let s1 := (s.runSoles h).foldl (fun a sl => a.soleTake h sl y) s
  let s3 := if s.fenced (uHead h) || s.hub.stopping then s1.dark h y 0 else s1
  let s4 := s3.remoteRequests h y
  let s5 := match s.listOf h y with
    | some (_, first) =>
      if !s.flag (Fd.HD_LLSEL_CEN h) then s4.lineReady h y
      else if first then s4.modHead h (fun v => { v with listWait := v.listWait ++ [y] })
      else ((s4.oncePerLine h y 1 (fun t => t.bump (clipField h 1) 127)).llFault h y).lineReady h y
    | none => s4.lineReady h y
  if s.activeLine h y then s5.prxCheck h y (y - s.vStart h) else s5.prxForget h

/-- The release point of line `y` of head `h` (R54); `y` of 0 is the release point of the next frame's empty line 0. -/
def State.lineRelease (s : State) (h y : Nat) : State :=
  let n := if y = 0 then s.vTotal h else y
  if !(s.headS h).running || n ≤ (s.headS h).line || s.vTotal h < n then s
  else
    let s0 := ((s.rowsOut h (n - 1)).modHead h (fun v => { v with line := n, pic := none })).beamExpire h (n - 1)
    let s1 := ((s.runSoles h).foldl (fun a sl => a.remoteDue sl (n - 1)) s0).snapStop h y
    if s.halted then
      let s2 := if s.activeLine h (n - 1) && (s.headS h).haltAt != some (n - 1) then (s1.prxForget h).haltLine h (n - 1) 0 else s1.prxForget h
      if y ≠ 0 && s.listRuns h y then s2.llCount h y 12 (Fd.HD_LLSTAT_LOST h) else s2
    else if y = 0 then (s1.prxForget h).remoteRequests h 0
    else if s.curv h then s1.releaseWork h y
    else s1.prxForget h

/-- A fenced head, and every head in a controlled stop, outputs background on the line in output and on the one released (R690,
R693). -/
def State.headSettle (s : State) (h : Nat) : State :=
  let v := s.headS h
  if v.running && v.inFrame && (s.fenced (uHead h) || s.hub.stopping) then (s.dark h (v.line - 1) 0).dark h v.line 0 else s

/-- Reaction of Soles to a fence that fell on them in the middle of a line (R690): background from the Sole's first block. -/
def State.soleSettle (s : State) (sl : Nat) : State :=
  let v := s.soleS sl
  if s.fenced (uSole sl) && (v.line.isSome || !v.next.isEmpty) then
    let lo := fun (a : State) (y : Nat) => match a.lineCtx v.head sl y with | some c => c.lo | none => 0
    let s1 := match v.line with | some y => s.dark v.head y (lo s y) | none => s
    let s2 := v.next.foldl (fun a y => a.dark v.head y (lo s y)) s1
    s2.modSole sl (fun w => { w with line := none, next := [], got := [] })
  else s

end Sys2Proof.Machine
end

