-- ==== Sys2Proof/Machine/Commit.lean ====
section
/-! DEFINITION. The latch point, commit arms, picture reports and head control (05_line_lists_commit.md R175–R191,
07_heads.md R229–R256), the sprite snapshot's frames (R155, R156) and what a debug halt does to heads (R246). -/
namespace Sys2Proof.Machine

/-- Is a head fenced or its power domain off (R180, R251, R254)? -/
def State.headDown (s : State) (h : Nat) : Bool := s.fenced (uHead h) || !s.domOn (solegOf h)

/-! ## Arms (R180–R185) -/

/-- Replace the pending arms. -/
def State.setArms (s : State) (l : List Arm) : State := { s with pict := { s.pict with arms := l } }

/-- An arm is cancelled because of head `h` (R185). Words 2 and 3 of the completion are 0 (DESIGN CHOICE, log entry 74). -/
def State.cancelArm (s : State) (a : Arm) (h : Nat) : State :=
  let s1 := a.heads.foldl (fun t k => t.set (Fd.HD_COMMIT_PEND k) 0) (s.setArms (dropOne a s.pict.arms))
  s1.answer a.req 0x13 [0, 0, h]

/-- Every arm that names head `h` is cancelled (R185). -/
def State.cancelArms (s : State) (h : Nat) : State :=
  (s.pict.arms.filter (fun a => a.heads.contains h)).foldl (fun t a => t.cancelArm a h) s

/-- The eligible latch points of an arm that reaches each head at the beam positions given (R181). -/
def State.eligAt (s : State) (hs : List Nat) (beam : List (Nat × Nat)) : List (Nat × Nat) :=
  hs.map (fun h =>
    let (x, y) := beam.getD h (0, 0)
    let late := decide (s.vTotal h - 2 < y) || (y == s.vTotal h - 2 && decide (0 < x))
    (h, (s.headS h).frame + (if late then 2 else 1)))

/-- The arm is entered: LATEARM where it is late (R181, R191). -/
def State.armHeads (s : State) (el : List (Nat × Nat)) : State :=
  el.foldl (fun t e => if e.2 = (t.headS e.1).frame + 2 then t.set (Fd.HD_COMMIT_LATEARM e.1) 1 else t) s

/-- COMMIT_ARM (R180), with the beam position (x, y) of every head at arrival. -/
def State.commitArm (s : State) (r : Req) (o : Nat) (p : Packet) (beam : List (Nat × Nat)) : State :=
  let hs := (List.range 16).filter (nbit (p.w 2))
  if hs.any (fun h => !s.mayWrite o (20 + h)) then s.answer r 0x12 []
  else if hs.isEmpty || hs.any (fun h => !(s.headS h).running) then s.answer r 0x15 []
  else if hs.any s.headDown then s.answer r 0x13 []
  else if hs.any (fun h => s.flag (Fd.HD_COMMIT_PEND h)) then s.answer r 0x14 []
  else
    let el := s.eligAt hs beam
    let s1 := hs.foldl (fun t h => t.set (Fd.HD_COMMIT_PEND h) 1) (s.armHeads el)
    (s1.setArms (s1.pict.arms ++ [⟨r, hs, el, [], none, []⟩])).answer r 0x01 []

/-- COMMIT_QUERY (R188). -/
def State.commitQuery (s : State) (r : Req) (p : Packet) : State :=
  let h := p.w 2 % 16
  let pend := s.get (Fd.HD_COMMIT_PEND h)
  match (s.headS h).applied with
  | some f => s.answer r 0 [f % 2 ^ 28, f / 2 ^ 28 % 2 ^ 28, pend]
  | none => s.answer r 0 [0, 0, pend + 2]

/-- The heads of an arm whose eligible latch point falls in this handshake of the latch points of `mask`. -/
def State.armNow (s : State) (mask : List Nat) (a : Arm) : List Nat :=
  mask.filter (fun h => (tabFind a.elig h) == some ((s.headS h).frame + 1) && !a.reached.contains h)

/-- An arm after the latch points of `mask` begin: heads reached, and T with its defining head once all are (R182). -/
def State.armReach (s : State) (mask : List Nat) (a : Arm) : Arm :=
  let now := s.armNow mask a
  let reached := a.reached ++ now
  let defd := match a.defined with
    | some d => some d
    | none => if a.heads.all (fun h => reached.contains h) then
        (minOf now).map (fun h => (h, (s.headS h).frame + 1)) else none
  { a with reached := reached, defined := defd }

/-- Does a commit apply to head `h` at this latch point (R182)? -/
def Arm.appliesTo (a : Arm) (h : Nat) : Bool := a.defined.isSome && a.heads.contains h && !a.applied.contains h

/-- Head `h` has applied: the completion leaves with the last head of the set (R184). -/
def State.armApplied (s : State) (h : Nat) : State :=
  match s.pict.arms.find? (fun a => a.appliesTo h) with
  | none => s
  | some a =>
    let b := { a with applied := h :: a.applied }
    if a.heads.all (fun k => b.applied.contains k) then
      let (d, f) := a.defined.getD (h, 0)
      (s.setArms (dropOne a s.pict.arms)).answer a.req 0 [f % 2 ^ 28, f / 2 ^ 28 % 2 ^ 28, d]
    else s.setArms (s.pict.arms.map (fun x => if x = a then b else x))

/-! ## Picture reports (R253, R255) -/

/-- Bits of the rectangles that satisfy `f`. -/
def rectBits (l : List RectRun) (f : RectRun → Bool) : Nat := ((l.filter f).map (fun r => 2 ^ r.index)).sum

/-- The record that a latch point freezes. -/
def State.endReport (s : State) (h : Nat) : ReportRec :=
  let v := s.headS h
  { v.report with
    lock := s.get (Fd.HD_STAT_LOCK h), mismatch := rectBits v.rects (fun r => r.mismatch),
    checked := rectBits v.rects (fun r => r.compared), crcs := v.rects.map (fun r => (r.index, crcEnd r.crc)),
    used := (v.rects.filter (fun r => r.compared)).map (fun r => (r.index, r.expect.getD 0)), miscnt := v.misCnt, dev := s.devId }

/-- The 60 words of a report body (R255): words 56–59 hold the nonce. -/
def reportBody (h : Nat) (r : ReportRec) (nonce : List Nat) : List Nat :=
  [0x50455250, 0x00010000 + h * 4096 + r.dev, r.frame % 2 ^ 32, r.frame / 2 ^ 32, r.time % 2 ^ 32, r.time / 2 ^ 32,
    b2n r.curv * 2 ^ 31 + r.slot * 2 ^ 28 + r.lock * 2 ^ 26 + b2n r.halt * 2 ^ 25 + b2n r.loss * 2 ^ 24 + r.urlines] ++
  (List.range 8).map (fun i => r.lastId / 2 ^ (32 * i) % 2 ^ 32) ++ [r.mismatch * 65536 + r.checked] ++
  (List.range 16).map (fun i => tabGet 0 r.crcs i) ++ (List.range 16).map (fun i => tabGet 0 r.used i) ++
  (List.range 8).map (fun k => tabGet 0 r.miscnt (2 * k) + tabGet 0 r.miscnt (2 * k + 1) * 65536) ++ nonce

/-! ## The lock (R236) -/

/-- Set LOCK; leaving LOCKED is noted in the frame's record (R255). -/
def State.setLock (s : State) (h st : Nat) : State :=
  let s1 := if s.get (Fd.HD_STAT_LOCK h) = 2 ∧ st ≠ 2 then
      s.modHead h (fun v => { v with report := { v.report with loss := true } }) else s
  s1.set (Fd.HD_STAT_LOCK h) st

/-- Entry to HOLDOVER. -/
def State.holdover (s : State) (h : Nat) : State :=
  (((s.setLock h 3).set (Fd.HD_STAT_LOSS h) 1).raise (24 + 6 * h)).report (uHead h) 0x15 1 0

/-- Does a head take a reference: SRC 0b01 or 0b10 (R233)? -/
def State.hasRef (s : State) (h : Nat) : Bool := let c := s.get (Fd.HD_CTL_SRC h).act; c == 1 || c == 2

/-! ## A frame ends, a frame begins (R183, R253) -/

/-- The writeback of a frame at the frame's end: done with all its rows written, left to finish where the last ones wait, and
abandoned where the frame was cut (R216, R217). -/
def State.wbFrameEnd (s : State) (h : Nat) : State :=
  match (s.headS h).wb with
  | none => s
  | some w =>
    if w.rows < s.vActive h then s.wbDrop h
    else if (s.headS h).wbOut = [] then s.wbDone h
    else s.modHead h (fun v => { v with wb := none, wbTail := v.wbOut.length })

/-- Line lists that have not arrived are given up; their lines count in LOST (R174, R186). -/
def State.dropLists (s : State) (h : Nat) : State :=
  (s.headS h).listWait.foldl (fun a y => a.llCount h y 12 (Fd.HD_LLSTAT_LOST h)) (s.modHead h (fun v => { v with listWait := [] }))

/-- Beam-domain entries that a frame leaves behind are discarded (R174). -/
def State.dropBeam (s : State) (h : Nat) : State :=
  (s.headS h).beam.foldl (fun a e => a.llCount h e.line 12 (Fd.HD_LLSTAT_LOST h)) (s.modHead h (fun v => { v with beam := [] }))

/-- The frame of head `h` ends with the lines below `top` output: what R253 freezes. -/
def State.frameEnd (s : State) (h top : Nat) : State :=
  if !(s.headS h).inFrame then s
  else
    let s1 := s.rowsOut h top
    let s2 := (s1.dropLists h).dropBeam h
    let s3 := s2.wbFrameEnd h
    s3.modHead h (fun v => { v with frozen := some (s3.endReport h) })

/-- Copy registers between their shadow, frame and active values. -/
def State.copyKeys (s : State) (src dst : Nat) (ks : List Nat) : State :=
  ks.foldl (fun a k => a.setReg (dst + k) (a.reg (src + k))) s

/-- Layer contexts whose shadow transfers for head `h` (R131, R179). -/
def State.shadowLcs (s : State) (h : Nat) : List Nat :=
  (s.curLayers h ++ (if s.flag (Fd.LAST_HD_SEL_NEXTEN h) then s.slotLayers (s.get (Fd.LAST_HD_SEL_NEXT h)) h else [])).eraseDups

/-- The expectations at a commit (R252). -/
def State.commitExpect (s : State) (h : Nat) (changed : Bool) : State :=
  let v := s.headS h
  let base := if changed then [] else v.expActive
  let act := v.expShadow.foldl (fun a e => match e.2 with | some x => tabInsert a e.1 x | none => tabErase a e.1) base
  s.modHead h (fun w => { w with expShadow := [], expActive := act })

/-- The transfer of R179 for head `h`; the Bool says that the running Last changed: CURV became 1 or CUR changed. -/
def State.transfer (s : State) (h : Nat) : State × Bool :=
  let was := s.curv h
  let on := s.flag (Fd.LAST_HD_SEL_NEXTEN h) && decide (3 ≤ s.slotState (s.get (Fd.LAST_HD_SEL_NEXT h)))
  let next := s.get (Fd.LAST_HD_SEL_NEXT h)
  let changed := on && (!was || next != s.cur h)
  let lk := ((s.shadowLcs h).map lcKeys).flatten ++ lineKeys h
  let s1 := (s.copyKeys 0 frameBase lk).copyKeys 0 activeBase (lk ++ settingKeys h)
  let s2 := ((s1.set (Fd.HD_LLSEL_CBANK h) (s.get (Fd.HD_LLSEL_BANK h))).set (Fd.HD_LLSEL_CEN h) (s.get (Fd.HD_LLSEL_EN h)))
  let s3 := ((s2.set (Fd.LAST_HD_SEL_CUR h) next).setB (Fd.LAST_HD_SEL_CURV h) on).refreshSlots
  let s4 := s3.commitExpect h (changed || (was && !on))
  let f := (s.headS h).frame + 1
  let s5 := ((s4.set (Fd.HD_COMMIT_APPFRAME h) f).set (Fd.HD_COMMIT_PEND h) 0).modHead h (fun v => { v with applied := some f })
  (s5.raise (24 + 6 * h + 4), changed)

/-- The restore of R175: active values take frame values. -/
def State.restore (s : State) (h : Nat) : State :=
  s.copyKeys frameBase activeBase (((s.curLayers h).map lcKeys).flatten ++ lineKeys h)

/-- Head timing at a latch point (R112, R229, R230). A new SRC or FSEL puts the lock in ACQUIRE or FREE (R236), and the fit of the
stream is evaluated again (R323). -/
def State.latchTiming (s : State) (h : Nat) (changed : Bool) : State :=
  let old := (s.get (Fd.HD_CTL_SRC h).act, s.get (Fd.HD_CTL_FSEL h).act)
  let s1 := match s.runEntry h with
    | some (w, e) => if changed then s.takeLastTiming h w e else s
    | none => if s.headTimingOk h then s.takeTiming h else s.set (Fd.HD_STAT_CTLERR h) 1
  if (s1.get (Fd.HD_CTL_SRC h).act, s1.get (Fd.HD_CTL_FSEL h).act) = old then s1.evalFits
  else (s1.evalFits.modHead h (fun v => { v with good := 0, ivals := [] })).setLock h (if s1.hasRef h then 1 else 0)

/-- The rectangle set of the frame that begins (R247, R249). -/
def State.takeRects (s : State) (h : Nat) : List RectRun :=
  match s.runEntry h with
  | none => []
  | some (w, _) =>
    ((imgRects w).filter (fun r => rectHead w r == h)).map (fun r =>
      { index := rectIndex w r, x0 := rectX0 w r, y0 := rectY0 w r, width := rectW w r, height := rectH w r,
        outfmt := rectOutfmt w r, crc := crcStart, rows := 0, compared := false, mismatch := false,
        expect := match rectMode w r with
          | 1 => some (rectExpect w r)
          | 2 => tabFind (s.headS h).expActive (rectIndex w r)
          | _ => none })

/-- Sprite banks of the head's table with their views at the latch point, without those R159 excludes (R155). -/
def State.snapBanks (s : State) (h : Nat) : List LcView :=
  (((s.curLayers h).map (fun lc => s.lcView h lc 0 0))).filter (fun v => v.kind == 3 && decide (v.posLo + v.posHi ≤ 16383))

/-- The snapshot of the frame that begins (R155, R156): at most 16,384 entries. Entries of a bank with EN at 0, or in another
case of R159 than that of its range, count like any other and are read; a granule that two ranges touch one after the other is
read once, and again where another range lies between (DESIGN CHOICE, log entry 71). -/
def State.takeSnap (s : State) (h : Nat) (changed : Bool) : SnapS :=
  let range := (((s.snapBanks h).map bankEntries).flatten).take 16384
  let old := if changed then [] else (s.headS h).snap.vals
  let grans := (range.map (fun a => a / 64 * 64)).foldl (fun l g => if l.getLast? == some g then l else l ++ [g]) []
  { vals := old.filter (fun e => range.contains e.1), range := range, todo := grans, line := none }

/-- The writeback of the frame that begins (R213, R214, R216). -/
def State.wbStart (s : State) (h : Nat) : State :=
  let en := s.flag (Fd.HD_WBCTL_EN h).act
  let f := (s.headS h).frame
  let fmt := s.get (Fd.HD_WBCTL_FMT h).act
  let pitch := s.get (Fd.HD_WBCTL_PITCH h).act
  if !en || f % (s.get (Fd.HD_WBCTL_EVERY h).act + 1) != 0 then s
  else
    let row := s.hActive h * (if fmt = 2 then 8 else 4)
    let s1 := (s.modHead h (fun v => { v with wb := some ⟨s.flag (Fd.HD_WBCTL_TAP h).act, fmt, s.get (Fd.HD_WBBASE_ADDR h).act, pitch, 0⟩ })).set
      (Fd.HD_WBCTL_BUSY h) 1
    if fmt = 3 ∨ pitch * 64 < row ∨ s.halted = true then s1.wbDrop h else s1

/-- The line buffers and fetch buffers of a head's Soles at its latch point: only the line in work stays. -/
def State.clearSoles (s : State) (h : Nat) : State :=
  (List.range 16).foldl (fun a sl =>
    let v := a.soleS sl
    if v.head = h then
      a.setSole sl { v with buf := [], dead := v.dead.filter (fun d => v.line == some d.1), got := v.got.filter (fun g => v.line == some g.y),
                             ran := v.ran.filter (fun e => v.line == some e.1), lists := v.lists.filter (fun e => v.line == some e.1), staging := v.staging.filter (fun g => g.y < 16) }
    else a) s

/-- The frame of head `h` begins (R183): frame number, record, rectangles, snapshot, writeback, interrupt and trigger. -/
def State.frameBegin (s : State) (h : Nat) (changed : Bool) : State :=
  let f := ((s.headS h).frame + 1) % 2 ^ 56
  let rec_ : ReportRec :=
    { frame := f, time := s.time.now, curv := s.curv h, slot := s.cur h, halt := s.halted,
      lastId := if s.curv h then tabGet 0 s.last.ident (s.cur h) else 0 }
  let s1 := (s.clearSoles h).modHead h (fun v => { v with
    frame := f, line := 0, listWait := [], undo := [], beam := [], misRec := false, under := [], haltAt := none,
    rowsDone := 0, inFrame := true, marks := [], report := rec_ })
  let s2 := s1.modHead h (fun v => { v with rects := s1.takeRects h, snap := if s.halted then v.snap else s1.takeSnap h changed })
  let s3 := s2.wbStart h
  let s4 := (List.range 4).foldl (fun a k =>
    if a.get (Fd.WELT_PRX_CFG_HEAD k) == h && a.flag (Fd.WELT_PRX_STAT_OVR k) then
      if a.get (Fd.WELT_PRX_STAT_STATE k) = 1 then a.set (Fd.WELT_PRX_STAT_OVR k) 0
      else a.setPrx k { a.prxS k with ovrFrom := 0 }
    else a) s3
  (s4.raise (24 + 6 * h + 5)).captureTrig (0x50 + h) true

/-- A head stops (R231): idle output, FREE, its arms cancelled (R185). -/
def State.headStopNow (s : State) (h : Nat) : State :=
  ((s.cancelArms h).modHead h (fun v => { v with
    running := false, waitRef := false, inFrame := false, rects := [], beam := [], listWait := [], under := [], marks := [], good := 0,
    ivals := [] })).setLock h 0

/-- The latch point of one head, its arms being counted: the transfer, the restore, the new frame (R183). At a latch point with
RUN at 0 the head stops first: its arms are cancelled (R185) and its frame number stays (R231; DESIGN CHOICE, log entries 74
and 75). -/
def State.latchOne (s : State) (h : Nat) : State :=
  if !s.flag (Fd.HD_CTL_RUN h) then (s.headStopNow h).evalFits
  else if s.halted then (s.latchTiming h false).frameBegin h false
  else
    let commit := s.pict.arms.any (fun a => a.appliesTo h)
    let (s1, changed) := if commit then s.transfer h else (s, false)
    let s2 := if commit then s1.armApplied h else s1
    (((s2.restore h).markEdges h (s.get (Fd.HD_MARK_MARK h).act)).latchTiming h changed).frameBegin h changed

/-- Latch points of several heads in one handshake (R182, R183, R253); each head's last frame ends at its line `top`. -/
def State.latchMany (s : State) (mask : List Nat) (top : Nat → Nat) : State :=
  let s1 := mask.foldl (fun a h => a.frameEnd h (top h)) s
  let s2 := if s.halted then s1 else s1.setArms (s1.pict.arms.map (fun a => s1.armReach mask a))
  mask.foldl (fun a h => a.latchOne h) s2

/-- The latch points of the running heads in a mask (R187). -/
def State.latchPoint (s : State) (mask : Nat) : State :=
  let hs := (List.range 16).filter (fun h => nbit mask h && (s.headS h).running)
  s.latchMany hs (fun h => (s.headS h).line)

/-! ## Starting and stopping a head (R230–R232, R241) -/

/-- The head starts line 0 at (0, 0), the start being a latch point (R231), at which R230 takes its registers where they are
valid. -/
def State.headStart (s : State) (h : Nat) : State :=
  let s1 := s.modHead h (fun v => { v with running := true, waitRef := false, inFrame := false, good := 0, ivals := [] })
  let s2 := s1.latchMany [h] (fun _ => 0)
  if (s2.headS h).running then s2.setLock h (if s2.hasRef h then 1 else 0) else s2

/-- RUN 1 reaches a stopped head whose registers are valid: it takes them and starts now, or waits for a reference event (R231). -/
def State.headGo (s : State) (h : Nat) : State :=
  let c := s.get (Fd.HD_CTL_SRC h)
  let s1 := s.takeTiming h
  if c = 1 ∨ c = 2 then (s1.modHead h (fun v => { v with waitRef := true, good := 0, ivals := [] })).setLock h 1
  else s1.headStart h

/-- Does a write of HDn_CTL break R241? -/
def State.ctlBad (s : State) (h v : Nat) : Bool :=
  let out := nbits v 9 8
  let obpc := nbits v 3 2
  decide (2 ≤ out) &&
    ((List.range 16).any (fun k => k != h && decide (2 ≤ s.get (Fd.HD_CTL_OUT k)) && s.get (Fd.HD_CTL_PORT k) == nbits v 7 5) ||
      (out == 2 && obpc == 0) || (out == 3 && obpc == 3))

/-- A write of HDn_CTL (R231, R241), where R112 does not refuse it. A head in reset stays stopped until the release (R232). -/
def State.writeHdCtl (s : State) (h v : Nat) : State :=
  if s.ctlBad h v then s.set (Fd.HD_STAT_CTLERR h) 1
  else
    let s1 := s.plainWrite (Rg.HD_CTL h) v
    let hs := s.headS h
    if nbit v 15 then
      if hs.running || hs.waitRef then s1
      else if !s1.headTimingOk h then (s1.set (Fd.HD_CTL_RUN h) 0).set (Fd.HD_STAT_CTLERR h) 1
      else if s1.unitInReset (uHead h) then s1
      else s1.headGo h
    else if hs.waitRef then s1.headStopNow h
    else s1

/-- A write of HDn_STAT (R262). -/
def State.writeHdStat (s : State) (h v : Nat) : State :=
  let s1 := s.plainWrite (Rg.HD_STAT h) v
  if nbit v 24 then s1.set (Fd.HD_STAT_URCNT h) 0 else s1

/-- A write of one of a head's registers that stand for frame and active values: only the shadow changes (R175). A write of
timing registers lands at once and acts at the next latch point (R230). -/
def State.writeWbctl (s : State) (h v : Nat) : State := s.plainWrite (Rg.HD_WBCTL h) v

/-- A read of HDn_FRAME: bits 27:0, and bits 55:28 go to HDn_FRAMEHI (R263). -/
def State.readFrame (s : State) (h : Nat) : Nat × State :=
  let f := (s.headS h).frame
  (f % 2 ^ 28, s.set (Fd.HD_FRAMEHI_FRAMEHI h) (f / 2 ^ 28))

/-! ## Reference events (R233–R236) -/

/-- The reference is out of range: the mean interval of the last eight events differs from P by more than 500 ppm. -/
def State.outOfRange (s : State) (h : Nat) (ivals : List Nat) : Bool :=
  if ivals.length < 7 then false
  else
    let p := 7 * (s.hTotal h * s.vTotal h * 1000000000)
    let m := (ivals.take 7).sum * s.pclk h
    decide (p < 2000 * (if m < p then p - m else m - p))

/-- A phase error in picoseconds reduced into −P/2 < e ≤ P/2 (R234), times PCLK_KHZ: P × PCLK_KHZ is HTOTAL × VTOTAL × 10⁹ ps. -/
def State.phaseErr (s : State) (h : Nat) (e : Int) : Int :=
  let q : Int := (s.hTotal h * s.vTotal h * 1000000000 : Nat)
  let r := (e * s.pclk h) % q
  if q < 2 * r then r - q else r

/-- Is a reduced phase error within `ps` picoseconds? -/
def State.errWithin (s : State) (h : Nat) (r : Int) (ps : Nat) : Bool := decide (r.natAbs ≤ ps * s.pclk h)

/-- A reference event with phase error `e` after an interval, both in picoseconds. A head that waits for it starts (R231);
otherwise LOCK moves (R236), and the single jump of R235 may happen. -/
def State.refEvent (s : State) (h : Nat) (e : Int) (ival : Nat) : State :=
  let hs := s.headS h
  if hs.waitRef then s.headStart h
  else if !hs.running || !s.hasRef h then s
  else
    let ivals := (ival :: hs.ivals).take 7
    let s1 := s.modHead h (fun v => { v with ivals := ivals })
    let bad := s.outOfRange h ivals
    let r := s.phaseErr h e
    let small := s.errWithin h r 20000
    match s.get (Fd.HD_STAT_LOCK h) with
    | 1 =>
      if bad then s1.holdover h
      else
        let good := if small then hs.good + 1 else 0
        let s2 := s1.modHead h (fun v => { v with good := good })
        let s3 := if 8 ≤ good then (s2.setLock h 2).raise (24 + 6 * h) else s2
        if !s.curv h && !s.errWithin h r 1000000 then s3.latchMany [h] (fun _ => hs.line - 1) else s3
    | 2 =>
      if bad then s1.holdover h
      else if s.errWithin h r 100000 then s1
      else (s1.modHead h (fun v => { v with good := 0 })).setLock h 1
    | 3 => if bad then s1 else (s1.modHead h (fun v => { v with good := b2n small })).setLock h 1
    | _ => s1

/-- No reference event has come for 3 × P (R236), to a head that runs or waits for its first one. -/
def State.refAbsent (s : State) (h : Nat) : State :=
  let l := s.get (Fd.HD_STAT_LOCK h)
  if ((s.headS h).running || (s.headS h).waitRef) && s.hasRef h && (l == 1 || l == 2) then
    (s.modHead h (fun v => { v with good := 0 })).holdover h
  else s

/-! ## CRC_EXPECT (R251) -/

def State.crcExpect (s : State) (r : Req) (o : Nat) (p : Packet) : State :=
  let h := p.w 2 % 16
  if !s.mayWrite o (20 + h) then s.answer r 0x12 []
  else if s.headDown h then s.answer r 0x13 []
  else
    let e := if nbit (p.w 2) 8 then none else some (p.w 3)
    (s.modHead h (fun v => { v with expShadow := tabInsert v.expShadow (nbits (p.w 2) 7 4) e })).answer r 0 []

/-! ## The sprite snapshot (R155, R156) -/

/-- Granules that the snapshot reads in the period of line `y`: nothing unless the line is empty and no period from it on was
read in; at most C bytes (R105). -/
def State.snapDue (s : State) (h y : Nat) : List Nat :=
  let v := s.headS h
  match s.runEntry h with
  | none => []
  | some (w, e) =>
    if s.halted || s.headDown h || !v.running || !(y == v.line || y + 1 == v.line) ||
        (match v.snap.line with | some z => decide (y ≤ z) | none => false) ||
        entMap w e y != 0xFFFF then []
    else v.snap.todo.take (fetchCapacity s.cap (entHtotal w e) (entPclk w e) / 64)

/-- A granule of entries has been read: each entry of the frame's ranges in it takes its four words. -/
def State.snapIn (s : State) (h y g : Nat) (d : List Nat) : State :=
  s.modHead h (fun v => { v with snap := { v.snap with
    line := some y, todo := v.snap.todo.drop 1,
    vals := (List.range 4).foldl (fun t i =>
      if v.snap.range.contains (g + 16 * i) then
        tabInsert t (g + 16 * i) ((List.range 4).map (fun j => dataWord d (16 * i + 4 * j)))
      else t) v.snap.vals } })

/-! ## Debug halt (R246, R186) -/

/-- The heads when a halt freezes the fabric, each beam being where `beam` says: the line in progress shows background from its
first missing block on, the frame's writeback is abandoned, and no rectangle is compared (R216, R246). -/
def State.headsHalt (s : State) (beam : List (Nat × Nat)) : State :=
  (List.range 16).foldl (fun a h =>
    let v := a.headS h
    if !v.running then a
    else
      let y := a.lineNow h beam
      let b := (a.dropLists h).modHead h (fun v => { v with haltRec := false, haltAt := some y, report := { v.report with halt := true } })
      let c := if b.curv h && b.activeLine h y && (decide (0 < v.line) || y == v.line) then
          (match b.firstMissing h y with | some m => b.haltLine h y m | none => b) else b
      c.wbDrop h) s

/-- The heads and arms when a halt ends (R186, R246): Soles abandon their lines, the line released last stays background unless it
was in progress as the halt began, and pending arms compute their eligible latch points afresh. -/
def State.headsResume (s : State) (beam : List (Nat × Nat)) : State :=
  let s1 := (List.range 16).foldl (fun a h =>
    let v := a.headS h
    if v.running && a.curv h && a.activeLine h v.line && v.haltAt != some v.line then a.haltLine h v.line 0 else a) s
  let s2 := (List.range 16).foldl (fun a sl => a.modSole sl (fun v => { v with line := none, next := [], got := [] })) s1
  s2.pict.arms.foldl (fun a m =>
    let el := a.eligAt m.heads beam
    (a.armHeads el).setArms (a.pict.arms.map (fun x => if x = m then { m with elig := el, reached := [], defined := none } else x))) s2

/-- Arms whose set holds a head that is fenced, off or stopped are cancelled (R185). -/
def State.armSettle (s : State) : State :=
  s.pict.arms.foldl (fun t a =>
    match a.heads.find? (fun h => t.headDown h || !(t.headS h).running) with
    | some h => if t.pict.arms.contains a then t.cancelArm a h else t
    | none => t) s

end Sys2Proof.Machine
end

