-- ==== Sys2Proof/Machine/RunCtl.lean ====
section
/-! DEFINITION. Halt, step, resume and watchpoints (23_debug.md R713–R720), over the cores' states. -/
namespace Sys2Proof.Machine

/-! ## Cores -/

/-- The hidden state of core `n`. -/
def State.core (s : State) (n : Nat) : CoreS := tabGet {} s.cores n
/-- Set the hidden state of core `n`. -/
def State.setCore (s : State) (n : Nat) (c : CoreS) : State := { s with cores := tabPut {} s.cores n c }

/-- STATE of core `n` (R518). -/
def State.coreState (s : State) (n : Nat) : Nat := s.get (Fd.AWL_STAT_STATE n)

/-- Is a core's lock bit 1? -/
def State.coreLocked (s : State) (n : Nat) : Bool := s.flag (Fd.AWL_STAT_LOCKED n)

/-! ## Halt requests (R713, R714) -/

/-- A running core stops at an instruction boundary. -/
def State.stopCore (s : State) (n : Nat) : State := if s.coreState n = 2 then s.set (Fd.AWL_STAT_STATE n) 3 else s

/-- A halt request with cause bit `c` (0 HALT write, 1 core watchpoint, 2 bus watchpoint, 3 step): every running core
whose lock bit is 0 stops. -/
def State.haltRequest (s : State) (c : Nat) : State :=
  if s.halted then s
  else
    let s1 := (s.set Fd.DBG_RUN_HALTREQ 1).set Fd.DBG_RUN_CAUSE
      (Nat.lor (if s.flag Fd.DBG_RUN_HALTREQ then s.get Fd.DBG_RUN_CAUSE else 0) (2 ^ c))
    (List.range 4).foldl (fun a n => if a.coreLocked n then a else a.stopCore n) s1

/-- HALTREQ or HALTED is 1 because of a watchpoint (R720). -/
def State.wpHalting (s : State) : Bool :=
  (s.flag Fd.DBG_RUN_HALTREQ || s.halted) && s.get Fd.DBG_RUN_CAUSE / 2 % 4 != 0

/-- Every running core has stopped: the fabric freezes, with each head's beam where `beam` says (R713). -/
def State.haltReached (s : State) (beam : List (Nat × Nat)) : State :=
  if s.flag Fd.DBG_RUN_HALTREQ && (List.range 4).all (fun n => s.coreState n != 2) then
    (((s.set Fd.DBG_RUN_HALTREQ 0).set Fd.DBG_RUN_HALTED 1).headsHalt beam).soundStops
  else s

/-! ## Watchpoints (R718–R720) -/

/-- ADDR of watchpoint `i`. -/
def State.wpAddr (s : State) (i : Nat) : Nat := s.get (Fd.WPHI_ADDR i) * 2 ^ 28 + s.get (Fd.WPLO_ADDR i)

/-- Is a watchpoint on, for an access of this kind? -/
def State.wpOn (s : State) (i : Nat) (wr : Bool) : Bool :=
  (s.get (Fd.WPCTL_ACT i) == 1 || s.get (Fd.WPCTL_ACT i) == 2) && nbit (s.get (Fd.WPCTL_ACC i)) (b2n wr)

/-- Record a match in DBG_HITLO and DBG_HITHI. -/
def State.wpRecord (s : State) (bus wr : Bool) (pcm addr : Nat) : State :=
  if s.wpHalting then s
  else ((((s.set Fd.DBG_HITLO_ADDRLO addr).setB Fd.DBG_HITHI_BUS bus).setB Fd.DBG_HITHI_WRITE wr).set
    Fd.DBG_HITHI_PCM pcm).set Fd.DBG_HITHI_ADDRHI (addr / 2 ^ 28)

/-- HCORE and HWP of a halt by watchpoint `i`; an earlier watchpoint's stand. -/
def State.wpHalt (s : State) (i : Nat) : State :=
  let s1 := if s.wpHalting then s else (s.set Fd.DBG_RUN_HCORE (if i < 32 then i / 8 else 0)).set Fd.DBG_RUN_HWP (i % 8)
  s1.haltRequest (if i < 32 then 1 else 2)

/-- One bus watchpoint sees an access of `n` bytes. -/
def State.wpBusOne (s : State) (m a n : Nat) (wr : Bool) (i : Nat) : State :=
  let k := 2 ^ min 39 (s.get (Fd.WPCTL_IGN i))
  let mas := s.get (Fd.WPVAL_VALUE i)
  let lo := s.wpAddr i / k * k
  if s.wpOn i wr && (nbit mas 5 || mas % 32 == m) && decide (a < lo + k) && decide (lo < a + n) then
    let s1 := (s.set (Fd.WPCTL_HIT i) 1).wpRecord true wr m a
    if s.get (Fd.WPCTL_ACT i) = 1 then s1.wpHalt i else s1
  else s

/-- The bus watchpoints see an access; the debug bus master never matches. -/
def State.wpBus (s : State) (m a n : Nat) (wr : Bool) : State :=
  if m = 0x1C then s else (List.range 4).foldl (fun t i => t.wpBusOne m a n wr (32 + i)) s

/-- One core watchpoint sees a cell that a load or store of core `c` accessed: the flag is whether the core stops. -/
def State.wpCoreOne (s : State) (c ca v pc : Nat) (wr : Bool) (i : Nat) : State :=
  let k := 2 ^ min 33 (s.get (Fd.WPCTL_IGN i))
  let mask := s.get (Fd.WPCTL_VMASK i)
  if s.wpOn i wr && ca / k == s.wpAddr i % 2 ^ 34 / k && Nat.land v mask == Nat.land (s.get (Fd.WPVAL_VALUE i)) mask then
    let s1 := (s.set (Fd.WPCTL_HIT i) 1).wpRecord false wr pc ca
    if s.get (Fd.WPCTL_ACT i) = 1 then (s1.wpHalt i).stopCore c else s1
  else s

/-- The watchpoints of core `c` see a cell. -/
def State.wpCore (s : State) (c ca v pc : Nat) (wr : Bool) : State :=
  (List.range 8).foldl (fun t i => t.wpCoreOne c ca v pc wr (8 * c + i)) s

end Sys2Proof.Machine
end

