-- ==== Sys2Proof/Machine/Awl.lean ====
section
/-! DEFINITION. The Awl cores (14_awl_model.md, 15_awl_isa.md): fetch and checks, the instructions that touch only the
core, exceptions, interrupts, REP, locked sequences, and starting a program. -/
namespace Sys2Proof.Machine

/-! ## Cells, flags and the program counter -/

/-- First byte of core `n`'s local memory (R30). -/
def localBase (n : Nat) : Nat := 0x7FFE000000 + n * 0x20000
/-- First byte of Awl shared memory. -/
def sharedBase : Nat := 0x7FFF000000

/-- A 16-bit cell of memory (R494). -/
def State.half (s : State) (a : Nat) : Nat := s.bytesLE a 2
def State.putHalf (s : State) (a v : Nat) : State := s.putLE a 2 v

/-- Cell G`r` of core `n`. -/
def State.gcell (s : State) (n r : Nat) : Nat := (tabGet 0#16 (s.core n).g r).toNat
/-- Write G`r`. -/
def State.setG (s : State) (n r v : Nat) : State :=
  let c := s.core n
  s.setCore n { c with g := tabPut 0#16 c.g r (BitVec.ofNat 16 v) }
/-- Bank register BK`k`. -/
def State.bankReg (s : State) (n k : Nat) : Nat := (tabGet 0#20 (s.core n).bk k).toNat
/-- Write BK`k`. -/
def State.setBank (s : State) (n k v : Nat) : State :=
  let c := s.core n
  s.setCore n { c with bk := tabPut 0#20 c.bk k (BitVec.ofNat 20 v) }

/-- The flags of a core. -/
def State.flagsOf (s : State) (n : Nat) : AwlFlags := AwlFlags.ofNat (s.get (Fd.AWL_STAT_FLAGS n))
/-- Write the flags. -/
def State.setFlags (s : State) (n : Nat) (f : AwlFlags) : State := s.set (Fd.AWL_STAT_FLAGS n) f.toNat

/-- PC, and writing it modulo 2¹⁴. -/
def State.pcOf (s : State) (n : Nat) : Nat := s.get (Fd.AWL_PC_PC n)
def State.setPc (s : State) (n v : Nat) : State := s.set (Fd.AWL_PC_PC n) (v % 2 ^ 14)

/-! ## Running (R509, R511, R713, R716) -/

/-- May core `n` run its next instruction now? -/
def State.coreRuns (s : State) (n : Nat) : Bool :=
  !s.inEpisode && s.domOn (awlDomOf n) && !s.hub.stopping && !(s.core n).wfi &&
    !(s.coreLocked n && decide (4096 ≤ (s.core n).lockCnt)) &&
    ((s.coreState n == 2 && !s.halted) || (s.dbg.step == some n && !s.dbg.stepped))

/-- Cells A and B of the instruction at an index (R496). -/
def State.insnCells (s : State) (n p : Nat) : Nat × Nat :=
  (s.half (localBase n + 4 * p), s.half (localBase n + 4 * p + 2))

/-- The instruction at an index, where it passes the fetch checks (R501, R523, R524). -/
def State.fetchAt (s : State) (n p : Nat) : Option Insn :=
  let c := s.insnCells n p
  if tagOf c.1 != tCODE || tagOf c.2 != tCODE || insnReserved (s.get (Fd.AWL_CFG_AMODE n)) (insnOf c.1 c.2) then none
  else some (insnOf c.1 c.2)

/-- The boundary after an instruction or an entry: the end of a step (R716), and the stop of a core whose halt waits for its UNLOCK
(R713, R714). -/
def State.boundary (s : State) (n : Nat) : State :=
  let s1 := if s.dbg.step = some n then { s with dbg := { s.dbg with stepped := true } } else s
  if s1.flag Fd.DBG_RUN_HALTREQ && !s1.coreLocked n then s1.stopCore n else s1

/-- After a completed instruction: the count of R511, and the boundary. -/
def State.retire (s : State) (n : Nat) : State :=
  let c := s.core n
  (if s.coreLocked n then s.setCore n { c with lockCnt := c.lockCnt + 1 } else s).boundary n

/-- An instruction completes and the next one follows: under a REP, the same one until its last iteration (R533). -/
def State.advance (s : State) (n : Nat) : State :=
  let c := s.core n
  let s1 := if c.rep ≤ 1 then (s.setCore n { c with rep := 0, repU := false }).setPc n (s.pcOf n + 1)
            else s.setCore n { c with rep := c.rep - 1 }
  s1.retire n

/-- An instruction completes and the core continues at index `p`; a repetition ends. -/
def State.jump (s : State) (n p : Nat) : State :=
  ((s.setCore n { s.core n with rep := 0, repU := false }).setPc n p).retire n

/-! ## Exceptions and interrupts (R505–R509) -/

/-- Break the lock of core `n` (R511). -/
def State.breakLock (s : State) (n : Nat) : State :=
  let s1 := if s.flag Fd.AWL_LOCK_HELD && s.get Fd.AWL_LOCK_CORE == n then (s.set Fd.AWL_LOCK_HELD 0).set Fd.AWL_LOCK_CORE 0 else s
  ((s1.setCore n { s.core n with lockCnt := 0 }).set (Fd.AWL_STAT_LOCKED n) 0).set (Fd.AWL_STAT_LOCKBRK n) 1

/-- Can the frame be written (R507)? Its four cells lie at or above ISPLIM, in local memory above the code area (R498). -/
def State.frameFits (s : State) (n : Nat) : Bool :=
  let isp := s.get (Fd.AWL_ISP_ISP n)
  decide (s.get (Fd.AWL_ISPLIM_ISPLIM n) + 4 ≤ isp) && decide (0x8004 ≤ isp) && decide (isp ≤ 0x10000)

/-- The four cells of a frame (R506): return index, vector, OPER and GOT. -/
def State.frameCells (s : State) (n ret vec got oper : Nat) : List Nat :=
  let c := s.core n
  [mkCell tCODE ret,
   mkCell tNUM (vec * 2 ^ 11 + s.get (Fd.AWL_STAT_IE n) * 2 ^ 10 + s.get (Fd.AWL_STAT_FLAGS n)),
   mkCell tNUM (b2n (c.repU && decide (0 < c.rep)) * 2 ^ 11 + c.rep),
   mkCell tNUM (got * 16 + oper)]

/-- Store cells at ascending addresses. -/
def State.putHalves (s : State) (a : Nat) : List Nat → State
  | [] => s
  | v :: t => (s.putHalf a v).putHalves (a + 2) t

/-- Write the frame and continue at a vector (R506). -/
def State.writeFrame (s : State) (n vec ret got oper : Nat) : State :=
  let isp := s.get (Fd.AWL_ISP_ISP n) - 4
  let s1 := (s.putHalves (localBase n + 2 * isp) (s.frameCells n ret vec got oper)).set (Fd.AWL_ISP_ISP n) isp
  (s1.setCore n { s.core n with rep := 0, repU := false, wfi := false }).setPc n (s.get (Fd.AWL_CFG_VBASE n) + vec)

/-- The core stops in FAULTED with a C2 record (R507); a lock it holds breaks (R511). -/
def State.frameFailure (s : State) (n : Nat) : State :=
  ((if s.coreLocked n then s.breakLock n else s).coreFaulted n).report (uCore n) 0x30 2 0

/-- EINFO of an entry for vectors 0–5 (R520). -/
def State.setEinfo (s : State) (n vec got oper epc : Nat) : State :=
  (((s.set (Fd.AWL_EINFO_VEC n) vec).set (Fd.AWL_EINFO_GOT n) got).set (Fd.AWL_EINFO_OPER n) oper).set (Fd.AWL_EINFO_EPC n) epc

/-- Enter the handler of an exception: the frame, then EINFO, then the vector; the step of a debugger ends with it. -/
def State.enter (s : State) (n vec ret got oper epc : Nat) : State :=
  if s.frameFits n then ((s.writeFrame n vec ret got oper).setEinfo n vec got oper epc).boundary n else s.frameFailure n

/-- An exception of the instruction at PC; inside a locked sequence the lock breaks first (R511). -/
def State.trap (s : State) (n vec got oper : Nat) : State :=
  (if s.coreLocked n then s.breakLock n else s).enter n vec (s.pcOf n) got oper (s.pcOf n)

/-- A TAG exception (R501). -/
def State.tagTrap (s : State) (n : Nat) (f : Nat × Nat) : State := s.trap n 0 f.2 f.1

/-- May core `n` accept an interrupt now (R509)? -/
def State.mayAccept (s : State) (n : Nat) : Bool :=
  !s.inEpisode && s.domOn (awlDomOf n) && !s.hub.stopping && s.coreState n == 2 && !s.halted &&
    !s.flag Fd.DBG_RUN_HALTREQ && s.flag (Fd.AWL_STAT_IE n) && !s.coreLocked n &&
    !((s.core n).repU && decide (0 < (s.core n).rep))

/-- Enter vector 7 with a return index, taking the best eligible source (R509, R642); the frame's failure leaves the source
pending. -/
def State.irqEnter (s : State) (n ret : Nat) : State :=
  match s.bestSrc n with
  | none => s
  | some src => if s.frameFits n then (s.acceptSrc n src).writeFrame n 7 ret 0 0 else s.frameFailure n

/-- An interrupt is accepted at an instruction boundary, or in a WFI, which it ends (R509, R536). -/
def State.irqAccept (s : State) (n : Nat) : State :=
  if s.mayAccept n && (s.bestSrc n).isSome then s.irqEnter n (if (s.core n).wfi then (s.pcOf n + 1) % 2 ^ 14 else s.pcOf n) else s

/-- A waiting WFI ends (R536): into vector 7 where R509 allows it, else at the next instruction. -/
def State.wfiWake (s : State) (n : Nat) : State :=
  if !(s.core n).wfi || (s.bestSrc n).isNone || s.inEpisode || !s.domOn (awlDomOf n) || s.hub.stopping || s.coreState n != 2 || s.halted then s
  else
    let s1 := (s.setCore n { s.core n with wfi := false }).advance n
    if s1.mayAccept n then s1.irqEnter n (s1.pcOf n) else s1

/-! ## Running one instruction (R524) -/

/-- Core `n` runs its next instruction where that is `op`: the condition, then the body. Another instruction, or a core
that does not run, is left alone: the row of the instruction that stands there applies. -/
def State.runOp (s : State) (n op : Nat) (body : Insn → State) : State :=
  if !s.coreRuns n then s
  else
    match s.fetchAt n (s.pcOf n) with
    | none => s
    | some i => if i.op != op then s else if awlCond (s.flagsOf n) i.cond then body i else s.advance n

/-- The FETCH exception of a cell that is not CODE or of a reserved encoding (R501, R523). -/
def State.reservedEnc (s : State) (n : Nat) : State :=
  if s.coreRuns n && (s.fetchAt n (s.pcOf n)).isNone then s.trap n 1 0 0 else s

/-- Write a result cell and the flags, and go on. -/
def State.result (s : State) (n r v : Nat) (f : AwlFlags) : State := ((s.setG n r v).setFlags n f).advance n

/-- Write a result cell only. -/
def State.resultG (s : State) (n r v : Nat) : State := (s.setG n r v).advance n

/-- A two-operand instruction with the tag rule of its opcode: the function gives the result, where one is written, and the
flags from Gd, Gs and the flags in force. -/
def State.run2 (s : State) (n op : Nat) (k : Nat → Nat → AwlFlags → Option Nat × AwlFlags) : State :=
  s.runOp n op fun i =>
    let d := s.gcell n i.gd
    let x := s.gcell n i.gs
    match pairCheck op i.gs x i.gd d with
    | some f => s.tagTrap n f
    | none =>
      match k d x (s.flagsOf n) with
      | (some v, f) => s.result n i.gd v f
      | (none, f) => (s.setFlags n f).advance n

/-- A sum or difference with the carry `cin` of the flags in force. -/
def sumOp (op : Nat) (sub write : Bool) (cin : AwlFlags → Nat) (d x : Nat) (f : AwlFlags) : Option Nat × AwlFlags :=
  let t := sumTag op d x
  let r := awlSum f d x (cin f) t sub
  (if write then some (mkCell t r.1) else none, r.2)

/-- A logic operation, or MIN, MAX, MULH or REM: its result takes Gd's tag and C and V become 0. -/
def logicOp (write : Bool) (k : Nat → Nat → Nat) (d x : Nat) (f : AwlFlags) : Option Nat × AwlFlags :=
  let r := k (valOf d) (valOf x)
  (if write then some (mkCell (tagOf d) r) else none, f.logic r)

/-- An instruction whose one operand is Gs: its tag must be in `ok`. -/
def State.run1 (s : State) (n op : Nat) (ok : List Nat) (k : Nat → AwlFlags → Nat × AwlFlags) : State :=
  s.runOp n op fun i =>
    let x := s.gcell n i.gs
    match tagIn i.gs x ok with
    | some f => s.tagTrap n f
    | none => let r := k x (s.flagsOf n); s.result n i.gd r.1 r.2

/-- An immediate form on Gd: its tag must be in `ok`. -/
def State.runImm (s : State) (n op : Nat) (ok : List Nat) (k : Nat → Nat → AwlFlags → Option Nat × AwlFlags) : State :=
  s.runOp n op fun i =>
    let d := s.gcell n i.gd
    match tagIn i.gd d ok with
    | some f => s.tagTrap n f
    | none =>
      match k d i.x (s.flagsOf n) with
      | (some v, f) => s.result n i.gd v f
      | (none, f) => (s.setFlags n f).advance n

/-- A division (R524 check 4, R528): a divisor of 0 raises DIV. -/
def State.runDiv (s : State) (n op : Nat) (k : Nat → Nat → AwlFlags → Nat × AwlFlags) : State :=
  s.runOp n op fun i =>
    let d := s.gcell n i.gd
    let x := s.gcell n i.gs
    match pairCheck op i.gs x i.gd d with
    | some f => s.tagTrap n f
    | none =>
      if valOf x = 0 then s.trap n 4 0 0
      else let r := k d x (s.flagsOf n); s.result n i.gd (mkCell (tagOf d) r.1) r.2

/-- Every tag but CODE. -/
def notCode : List Nat := [tNUM, tPTR, tFIX]

/-- LDI (R527). -/
def ldiCell (gs x : Nat) : Nat :=
  let t := gs % 4
  mkCell t (if t = tNUM ∨ t = tFIX then imm14 x else x)

/-- Index of the branch target (R535). -/
def branchTo (p x : Nat) : Nat := (p + 1 + imm14 x) % 2 ^ 14

/-- REP (R532–R534). -/
def State.runRep (s : State) (n : Nat) : State :=
  s.runOp n 0x30 fun i =>
    let p := s.pcOf n
    let isR := i.gd / 2 % 2 == 1
    let lim := if i.gd % 2 = 1 then 64 else 1024
    let x := s.gcell n i.gs
    let t := s.insnCells n ((p + 1) % 2 ^ 14)
    match (if isR then tagIn i.gs x [tNUM] else none) with
    | some f => s.tagTrap n f
    | none =>
      if tagOf t.1 = tCODE ∧ tagOf t.2 = tCODE ∧ repBanned (insnOf t.1 t.2).op = true then s.trap n 1 0 0
      else
        let cnt : Int := if isR then sval x else Int.ofNat (i.x + 1)
        if cnt < 1 then s.jump n (p + 2)
        else
          let s1 := (s.setPc n (p + 1)).setCore n { s.core n with rep := min lim cnt.toNat, repU := i.gd % 2 == 1 }
          s1.retire n

/-- LOCK (R510, R511): held by another core, it waits, and the core stays at it. -/
def State.runLock (s : State) (n : Nat) : State :=
  s.runOp n 0x31 fun _ =>
    if s.coreLocked n then s.enter n 3 (s.pcOf n) 0 0 (s.pcOf n)
    else if s.flag Fd.AWL_LOCK_HELD then s
    else
      let s1 := ((s.set Fd.AWL_LOCK_HELD 1).set Fd.AWL_LOCK_CORE n).advance n
      (s1.set (Fd.AWL_STAT_LOCKED n) 1).setCore n { s1.core n with lockCnt := 0 }

/-- UNLOCK (R510, R511). -/
def State.runUnlock (s : State) (n : Nat) : State :=
  s.runOp n 0x32 fun _ =>
    if !s.coreLocked n then s.trap n 3 0 0
    else
      (((s.set Fd.AWL_LOCK_HELD 0).set Fd.AWL_LOCK_CORE 0).set (Fd.AWL_STAT_LOCKED n) 0).advance n

/-- The 4,096-instruction limit of R511: the lock breaks and LOCK is raised before the next instruction; under a halt
request the core stops first (R714). -/
def State.lockBreak (s : State) (n : Nat) : State :=
  if !s.coreLocked n || decide ((s.core n).lockCnt < 4096) || s.coreState n != 2 || s.inEpisode || !s.domOn (awlDomOf n) ||
      s.halted || s.hub.stopping then s
  else if s.flag Fd.DBG_RUN_HALTREQ then
    let s1 := (s.breakLock n).set Fd.DBG_RUN_HALTBRK 1
    (s1.setCore n { s1.core n with lockExc := true }).stopCore n
  else (s.breakLock n).enter n 3 (s.pcOf n) 0 0 (s.pcOf n)

/-- WFI (R536): with an interrupt already waiting it ends at once. -/
def State.runWfi (s : State) (n : Nat) : State :=
  s.runOp n 0x34 fun _ =>
    let s1 := s.setCore n { s.core n with wfi := true }
    if s.dbg.step = some n then s else s1.wfiWake n

/-- RETI (R508): the frame at ISP. The cell that fails a tag check is no G cell, so OPER is a free value (log entry 41). -/
def State.runReti (s : State) (n : Nat) : State :=
  s.runOp n 0x36 fun _ =>
    let isp := s.get (Fd.AWL_ISP_ISP n)
    let a := localBase n + 2 * isp
    let c0 := s.half a
    let c1 := s.half (a + 2)
    let c2 := s.half (a + 4)
    let bad := fun (c : Nat) => (s.draw).trap n 0 (tagOf c) (Config.freeValue s.fresh % 16)
    if 0xFFFC < isp then s.trap n 2 0 0
    else if tagOf c0 ≠ tCODE then bad c0
    else if tagOf c1 ≠ tNUM then bad c1
    else if tagOf c2 ≠ tNUM then bad c2
    else
      let s1 := (((s.set (Fd.AWL_STAT_FLAGS n) (c1 % 32)).set (Fd.AWL_STAT_IE n) (nbits c1 10 10)).set (Fd.AWL_ISP_ISP n) (isp + 4)).setPc n (valOf c0)
      (s1.setCore n { s.core n with rep := c2 % 2 ^ 11, repU := nbit c2 11 }).retire n

/-! ## Programs (R512–R516) -/

/-- MAGIC of an Awl program and its largest LENGTH (R512). -/
def progMagic : Nat := 0x50574C41
def progLargest : Nat := 131072

/-- The image in a core's local memory. -/
def State.progImg (s : State) (n : Nat) : Img := s.img (localBase n)

/-- A header that breaks R512 or R513, for core `n`. -/
def progBad (w : Img) (n : Nat) : Bool :=
  let entry := w 12 % 2 ^ 14
  let vbase := nbits (w 32) 29 16
  let isp := w 24 % 2 ^ 17
  w 12 % 2 ^ 17 / 2 ^ 14 % 4 != 0 || w 12 / 2 ^ 17 != 0 || w 16 % 2 ^ 20 != 0 || w 16 / 2 ^ 26 != 0 || w 20 / 2 ^ 28 != 0 ||
    w 24 / 2 ^ 17 != 0 || w 28 / 2 ^ 16 != 0 || nbits (w 32) 15 4 != 0 || w 32 / 2 ^ 30 != 0 ||
    [36, 40, 44, 48].any (fun o => w o / 2 ^ 20 != 0) || w 56 != 0 || w 60 != 0 ||
    decide (entry < 16) || decide (vbase < 16) || decide (65536 < isp) || decide (isp < w 28 % 2 ^ 16 + 4) ||
    !nbit (w 32) n || decide (imgSigoff w < entry * 4 + 4) || decide (imgSigoff w < vbase * 4 + 32)

/-- The checks of R460 and then R512 and R513: status and detail of the first failure. -/
def State.progCheck (s : State) (n : Nat) : Option (Nat × Nat) :=
  let w := s.progImg n
  match s.imageCheck w progMagic progLargest with
  | some f => some f
  | none => if progBad w n then some (0x15, 0x03) else none

/-- The core starts from its header and becomes RUNNING (R516); attestation then reports the image (R485). -/
def State.startCore (s : State) (n : Nat) : State :=
  let w := s.progImg n
  let s1 := s.setCore n { bk := (List.range 4).foldl (fun t k => tabPut 0#20 t k (BitVec.ofNat 20 (w (36 + 4 * k)))) [] }
  let s2 := ((s1.set (Fd.AWL_CFG_VBASE n) (nbits (w 32) 29 16)).set (Fd.AWL_CFG_XB n) 0).set (Fd.AWL_CFG_AMODE n) (nbits (w 12) 16 16)
  let s3 := ((s2.set (Fd.AWL_ISP_ISP n) (w 24)).set (Fd.AWL_ISPLIM_ISPLIM n) (w 28)).setPc n (w 12)
  let s4 := ((s3.set (Fd.AWL_STAT_FLAGS n) 0).set (Fd.AWL_STAT_IE n) 0).set (Fd.AWL_STAT_LOCKED n) 0
  { s4.set (Fd.AWL_STAT_STATE n) (if s4.flag Fd.DBG_RUN_HALTREQ then 3 else 2) with
    sec := { s4.sec with progId := tabPut 0 s4.sec.progId n (imgIdentity w) } }

/-- PROGRAM_START (R514), after the length and unit checks of R387. -/
def State.programStart (s : State) (r : Req) (o : Nat) (p : Packet) : State :=
  let n := p.uindex.toNat
  if p.ukind.toNat ≠ 4 then s.answer r 0x15 []
  else if !s.mayWrite o 13 then s.answer r 0x12 []
  else if s.fenced (uCore n) || !s.domOn (awlDomOf n) then s.answer r 0x13 []
  else if s.coreState n ≠ 0 ∨ s.rst.held.contains (uCore n) = true then s.answer r 0x14 []
  else
    let s1 := s.set (Fd.AWL_STAT_STATE n) 1
    ((s1.setCore n { s1.core n with start := some r }).joinPath (.core n)).answer r 0x01 []

/-- Words of a 256-bit digest, byte 0 lowest (R485). -/
def digestWords (d : Nat) : List Nat := (List.range 8).map (fun i => d / 2 ^ (32 * i) % 2 ^ 32)

/-- The completion of R481 and R515: a failure carries its status and detail in 3 words, status 0x00 the image identity in
words 3 to 10. The spec states no word 2 for status 0x00 and no detail for 0x13: both are free values (log entry 41). -/
def State.verifyReply (s : State) (r : Req) (fail : Option (Nat × Option Nat)) (id : Nat) : State :=
  let x := Config.freeValue s.fresh
  match fail with
  | none => s.draw.answer r 0 (x % 2 ^ 32 :: digestWords id)
  | some (st, some d) => s.answer r st [d]
  | some (st, none) => s.draw.answer r st [x % 256]

/-- The verification of a PROGRAM_START ends (R515): the core runs, or is STOPPED again. A fenced security engine answers
0x13 (R690). -/
def State.programStarted (s : State) (n : Nat) : State :=
  match (s.core n).start with
  | none => s
  | some r =>
    if s.coreState n ≠ 1 ∨ s.halted = true ∨ s.unitInReset (uCore n) = true ∨ (s.fenced uSec = false ∧ s.hasPath (.core n) = false) then s
    else
      let f := if s.fenced uSec then some (0x13, none) else (s.progCheck n).map (fun x => (x.1, some x.2))
      let s1 := s.setCore n { s.core n with start := none }
      let s2 := if f.isSome then s1.set (Fd.AWL_STAT_STATE n) 0 else s1.startCore n
      s2.verifyReply r f (imgIdentity (s.progImg n))

/-- A PROGRAM_START in progress ends with 0x13: the core is reset (R515) or powered off (R382). -/
def State.endStart (s : State) (n : Nat) : State :=
  match (s.core n).start with
  | none => s
  | some r => (s.setCore n { s.core n with start := none }).verifyReply r (some (0x13, none)) 0

end Sys2Proof.Machine
end

