-- ==== Sys2Proof/Machine/Trust.lean ====
section
/-! DEFINITION. Image trust, identity and attestation (13_trust.md): the fuse map, the boot sequence's states, IMAGE_VERIFY,
the signing path and ATTEST. -/
namespace Sys2Proof.Machine

/-! ## The fuse map (R464–R466) -/

/-- Bits of a per-slot property. -/
def State.slotBits (s : State) (f : KeySlot → Bool) : Nat := (List.range 4).foldl (fun a k => a + b2n (f (s.keySlot k)) * 2 ^ k) 0

/-- SEC_KEYSTAT shows the fuse-map shadow (R464, R489): a bad slot reads as revoked. -/
def State.showKeys (s : State) : State :=
  (((s.set Fd.SEC_KEYSTAT_RBCOUNT s.fuses.rollback).set Fd.SEC_KEYSTAT_BAD (s.slotBits (fun k => k.bad))).set
    Fd.SEC_KEYSTAT_REVOKED (s.slotBits (fun k => k.revoked || k.bad))).set Fd.SEC_KEYSTAT_PROG (s.slotBits (fun k => k.prog))

/-- The fields of a register that the fuse map loads (R12). -/
def fuseMask (k : Nat) : Nat :=
  match specAt k with
  | none => 0
  | some r => r.fields.foldl (fun a f => if f.cold = .fuse then a + (2 ^ (f.hi + 1 - f.lo) - 1) * 2 ^ f.lo else a) 0

/-- Load the fuse map (R426 step 1, R464, R468). -/
def State.loadFuses (s : State) : State :=
  let s1 := s.fuses.regs.foldl (fun (a : State) (e : Nat × Nat) =>
    let m := fuseMask e.1
    a.setRegN e.1 (a.regN e.1 - Nat.land (a.regN e.1) m + Nat.land e.2 m)) s
  let s2 := { s1 with fuses := { s1.fuses with
    slots := s1.fuses.next.foldl (fun (t : List (Nat × KeySlot)) (e : Nat × KeySlot) => tabPut {} t e.1 e.2) s1.fuses.slots, next := [] } }
  s2.showKeys

/-- A slot that is programmed and not revoked. -/
def State.slotLive (s : State) (k : Nat) : Bool := !s.slotDead k

/-- Does a fuse command break its row of R466? The record is `none` where its read ended with bus-error status. -/
def State.fuseBad (s : State) (op arg : Nat) (rec_ : Option (List Nat)) : Bool :=
  let k := s.keySlot (arg % 4)
  match op with
  | 1 => decide (arg ≤ s.fuses.rollback) || s.sec.manId.isNone || decide (s.get Fd.SEC_BOOT_RBVER < arg)
  | 2 => !k.prog || k.revoked || k.bad || ((List.range 4).filter s.slotLive).length ≤ 1
  | 3 => k.prog || k.revoked || k.bad || rec_.isNone
  | _ => true

/-- A write of `v` to SEC_FUSECMD by an accepted writer (R466, R491), with the key record that OP 0b11 reads. -/
def State.writeFusecmd (s : State) (v : Nat) (rec_ : Option (List Nat)) : State :=
  let op := nbits v 21 20
  let arg := nbits v 5 0
  if s.flag Fd.SEC_FUSECMD_BUSY then s.set Fd.SEC_FUSECMD_ERR 1
  else if !nbit v 27 then s.plainWrite Rg.SEC_FUSECMD v
  else if s.fenced uSec || s.fuseBad op arg rec_ then s.set Fd.SEC_FUSECMD_ERR 1
  else
    let s1 := (s.plainWrite Rg.SEC_FUSECMD v).set Fd.SEC_FUSECMD_BUSY 1
    (s1.modSec (fun c => { c with fuse := some (op, arg, rec_.getD []) }))

/-- Number of a list of 32-bit words, the first lowest. -/
def wordsNat : List Nat → Nat
  | [] => 0
  | w :: t => w % 2 ^ 32 + 2 ^ 32 * wordsNat t

/-- The slot that a fuse write leaves. -/
def fusedSlot (op : Nat) (rc : List Nat) (k : KeySlot) : KeySlot :=
  if op = 2 then { k with revoked := true }
  else { k with prog := true, edPub := wordsNat (rc.take 8), mlHash := wordsNat (rc.drop 8) }

/-- A fuse write completes (R466). A supply that fell to its reset level meanwhile can leave it partial (R468): a free
value decides; the counter then reads as taken and a slot fails its check word at the next load (R464, R465). -/
def State.fuseDone (s : State) : State :=
  match s.sec.fuse with
  | none => s
  | some (op, arg, rc) =>
    let s1 := ((s.set Fd.SEC_FUSECMD_BUSY 0).set Fd.SEC_FUSECMD_DONE 1).modSec (fun c => { c with fuse := none })
    let cut := s.rst.waiting.any (fun x => x == .por || x == .supcold || x == .supwarm)
    let part := cut && Config.freeValue s.fresh % 2 == 1
    let s2 := if cut then s1.draw else s1
    let k := s.keySlot (arg % 4)
    let f := s2.fuses
    (if op = 1 then { s2 with fuses := { f with rollback := arg } }
     else if part then { s2 with fuses := { f with next := tabInsert f.next (arg % 4) { fusedSlot op rc k with bad := true } } }
     else { s2 with fuses := { f with slots := tabPut {} f.slots (arg % 4) (fusedSlot op rc k) } }).showKeys

/-! ## The boot path (R469, R470, R477–R480) -/

/-- STATE of the boot sequence. -/
def State.bootState (s : State) : Nat := s.get Fd.SEC_BOOT_STATE

/-- Until STATE reaches DONE, or while it is UNKEYED, R470 restricts Tongue. -/
def State.bootLimits (s : State) : Bool := s.bootState != 5

/-- Is a source the boot path? SRC codes it; SPI NOR is no source of packets. -/
def State.isBootPath (s : State) (src : Src) : Bool :=
  match src with
  | .serial => s.get Fd.SEC_BOOT_SRC == 1
  | .pcie => s.get Fd.SEC_BOOT_SRC == 2
  | .welt ctx => s.get Fd.SEC_BOOT_SRC == 3 && ctx.val == 2
  | .core _ => false

/-- Opcodes the boot path may send before DONE (R470). -/
def bootOpcode (op : Nat) : Bool := [0x3F, 0x01, 0x04, 0x02, 0x03, 0x08, 0x09, 0x20, 0x30, 0x39].contains op

/-- The eyelets of a boot path, by its code in BOOTSRC and SEC_BOOT.SRC (R670). -/
def bootEyelets (src : Nat) : List Nat :=
  match src with
  | 0 => [8, 9, 10, 11, 12, 13]
  | 1 => [16, 17, 18, 19, 20]
  | 2 => [14]
  | _ => []

/-- The boot path in use, its eyelets set to FUNC 1 (R469, R480, R670; log entry 93). -/
def State.bootPath (s : State) (src : Nat) : State := ((bootEyelets src).foldl (fun a e => a.set (Fd.EY_FUNC e) 1) s).set Fd.SEC_BOOT_SRC src

/-- SEC_BOOTERR of a rejection. -/
def State.bootErr (s : State) (status detail entry : Nat) : State :=
  ((s.set Fd.SEC_BOOTERR_STATUS status).set Fd.SEC_BOOTERR_DETAIL detail).set Fd.SEC_BOOTERR_ENTRY entry

/-- Start the boot sequence (R426 step 5, R469, R476–R478). -/
def State.bootStart (s : State) : State :=
  let b := s.get Fd.RST_STRAP_BOOTSRC
  let s1 := { s with sec := {} }.bootPath b
  if (List.range 4).all (fun k => s1.slotDead k) then (if b = 0 then s1.bootPath 1 else s1).set Fd.SEC_BOOT_STATE 7
  else if b = 0 then s1.set Fd.SEC_BOOT_STATE 1
  else if b = 3 ∧ !s1.trusted 0 then (s1.set Fd.SEC_BOOT_STATE 6).bootErr 0x15 0x1C 0
  else s1.set Fd.SEC_BOOT_STATE 2

/-- The manifest that is held in the buffer. -/
def State.manImg (s : State) : Img := fun o => if o % 4 = 0 then (s.sec.buf[o / 4]?).getD 0 else 0

/-! ## Manifests (R472–R474) -/

def manMagic : Nat := 0x4E414D42
def manCount (w : Img) : Nat := w 12 % 64
def manEnt (w : Img) (e : Nat) : Nat := w 24 + 64 * e
def entKind (w : Img) (e : Nat) : Nat := nbits (w (manEnt w e)) 31 30
def entCore (w : Img) (e : Nat) : Nat := nbits (w (manEnt w e)) 29 28
def entStart (w : Img) (e : Nat) : Bool := nbit (w (manEnt w e)) 27
def entSlot (w : Img) (e : Nat) : Nat := nbits (w (manEnt w e)) 26 24
def entSrc (w : Img) (e : Nat) : Nat := w (manEnt w e + 4) + w (manEnt w e + 8) % 256 * 2 ^ 32
def entDst (w : Img) (e : Nat) : Nat := w (manEnt w e + 12) + nbits (w (manEnt w e + 8)) 15 8 * 2 ^ 32
def entLen (w : Img) (e : Nat) : Nat := w (manEnt w e + 16)
def entDigest (w : Img) (e : Nat) : Nat := wordsNat ((List.range 8).map (fun i => w (manEnt w e + 20 + 4 * i)))
def manEnts (w : Img) : List Nat := List.range (manCount w)

/-- A range of bytes lies in GDDR7 or in Awl shared memory. -/
def State.inLoadable (s : State) (a n : Nat) : Bool :=
  decide (a + n ≤ s.installed) || (decide (sharedBase ≤ a) && decide (a + n ≤ sharedBase + 0x200000))

/-- Two ranges of bytes overlap. -/
def overlaps (a n b m : Nat) : Bool := decide (a < b + m) && decide (b < a + n)

/-- An entry that breaks R473 or R474; `flash`: the sources are offsets in the flash. -/
def State.entBad (s : State) (w : Img) (flash : Bool) (e : Nat) : Bool :=
  let k := entKind w e
  let o := manEnt w e
  k == 3 || w o % 2 ^ 24 != 0 || w (o + 8) / 65536 != 0 || [52, 56, 60].any (fun i => w (o + i) != 0) ||
    entLen w e % 4 != 0 || decide (entLen w e < 4) || (flash && w (o + 8) % 256 != 0) ||
    (k != 0 && (w (o + 12) != 0 || nbits (w (o + 8)) 15 8 != 0)) ||
    (k == 0 && (!s.inLoadable (entDst w e) (entLen w e) || (!flash && overlaps (entSrc w e) (entLen w e) (entDst w e) (entLen w e)))) ||
    (k == 1 && ((manEnts w).any (fun f => decide (f < e) && entKind w f == 1 && entCore w f == entCore w e) || decide (progLargest < entLen w e))) ||
    (k == 2 && ((manEnts w).any (fun f => decide (f < e) && entKind w f == 2 && entSlot w f == entSlot w e) || decide (0x100000 < entLen w e)))

/-- A manifest that breaks R474. -/
def State.manBad (s : State) (w : Img) (flash : Bool) : Bool :=
  !nbit (w 16) s.role || w 24 % 4 != 0 || decide (manCount w < 1) || decide (32 < manCount w) || decide (w 24 < 64) ||
    decide (imgSigoff w < w 24 + 64 * manCount w) || w 12 / 64 != 0 || w 16 / 2 ^ 26 != 0 || nbits (w 16) 19 4 != 0 ||
    w 20 / 2 ^ 28 != 0 || [28, 32, 36, 40, 44, 48, 56, 60].any (fun o => w o != 0) || (manEnts w).any (s.entBad w flash)

/-- The checks of R460 and R474 on the manifest in the buffer. -/
def State.manCheck (s : State) (flash : Bool) : Option (Nat × Nat) :=
  match s.imageCheck s.manImg manMagic 8192 with
  | some f => some f
  | none => if s.manBad s.manImg flash then some (0x15, 0x03) else none

/-- SEC_VSTAT of a completion (R481, R492). -/
def State.vstat (s : State) (kind status detail : Nat) : State :=
  (((s.set Fd.SEC_VSTAT_BUSY 0).set Fd.SEC_VSTAT_KIND kind).set Fd.SEC_VSTAT_STATUS status).set Fd.SEC_VSTAT_DETAIL detail

/-- The boot sequence starts a core as PROGRAM_START does (R479): a core that it could not start stays as it is, and one whose image
breaks R512 or R513 stays STOPPED. -/
def State.bootCore (s : State) (n : Nat) : State :=
  if s.fenced (uCore n) || !s.domOn (awlDomOf n) || s.coreState n != 0 || s.unitInReset (uCore n) || (s.progCheck n).isSome then s
  else s.startCore n

/-- The end of a boot sequence (R479): STATE DONE, the records, the starts, the interrupt and the C0 record of R480. -/
def State.bootDone (s : State) : State :=
  let w := s.manImg
  let s1 := ((((s.set Fd.SEC_BOOT_STATE 5).set Fd.SEC_BOOT_SLOT (imgKeyslot w)).set Fd.SEC_BOOT_RBVER (imgRbver w)).set
    Fd.SEC_BOOTNAME_NAME (w 20)).setB Fd.SEC_BOOT_SECONDARY s.sec.second
  let starts := (List.range 4).filter (fun n => (manEnts w).any (fun e => entKind w e == 1 && entCore w e == n && entStart w e))
  let s2 := starts.foldl (fun a n => a.bootCore n) (s1.modSec (fun c => { c with manId := some (imgIdentity w) }))
  let s3 := s2.raise 1
  let s4 := if s.sec.rejected then s3.report uSec 0x48 0 (s.get Fd.SEC_BOOTERR_DETAIL) else s3
  match s.sec.loadReq with
  | none => s4
  | some r => ((s4.modSec (fun c => { c with loadReq := none })).vstat 0 0 (Config.freeValue s4.fresh)).verifyReply r none (imgIdentity w)

/-- An SPI NOR boot ends in FAILED (R480): its record, and recovery where RECOV asks for it. -/
def State.bootFailed (s : State) : State :=
  let s1 := (s.set Fd.SEC_BOOT_STATE 6).report uSec 0x48 1 (s.get Fd.SEC_BOOTERR_DETAIL)
  let s2 := s1.modSec (fun c => { c with rejected := false, buf := [] })
  if s.flag Fd.SEC_CFG_RECOV then ((s2.bootPath 1).set Fd.SEC_BOOT_STATE 2).set Fd.SEC_BOOT_RECOVERY 1 else s2

/-- A loading fails at entry `e` (R475, R480, R481): in WAIT the completion reports it. -/
def State.loadFailed (s : State) (e status detail : Nat) : State :=
  let s1 := s.bootErr status detail e
  match s.sec.loadReq with
  | none => (s1.modSec (fun c => { c with rejected := true })).bootFailed
  | some r =>
    (((s1.modSec (fun c => { c with loadReq := none, buf := [] })).set Fd.SEC_BOOT_STATE 2).vstat 0 status detail).verifyReply
      r (some (status, some detail)) 0

/-- Loading of the manifest in the buffer begins (R475). -/
def State.loadBegin (s : State) : State := (s.set Fd.SEC_BOOT_STATE 4).modSec (fun c => { c with entry := 0 })

/-- A manifest copy arrives from the flash and is checked (R476, R480); `none`: the flash read failed. -/
def State.flashCopy (s : State) (copy : Option (List Nat)) : State :=
  if s.bootState ≠ 1 ∨ s.halted = true ∨ s.inEpisode = true ∨ s.fenced uSec = true then s
  else
    let s1 := s.modSec (fun c => { c with buf := (copy.getD []).take 2048 })
    let fail := match copy with
      | none => some (Config.loadStatus 0x18 % 256, 0x18)
      | some _ => s1.manCheck true
    match fail with
    | none => s1.loadBegin
    | some f =>
      let s2 := (s1.bootErr f.1 f.2 0).modSec (fun c => { c with rejected := true, buf := [] })
      if !s.sec.second && s.flag Fd.SEC_CFG_SECOND then (s2.modSec (fun c => { c with second := true })) else s2.bootFailed

/-! ## IMAGE_VERIFY (R481) -/

/-- IMAGE_VERIFY is accepted or answered (R481), after the checks of R387. -/
def State.imageVerify (s : State) (r : Req) (p : Packet) : State :=
  let kind := nbits (p.w 2) 27 26
  let load := nbit (p.w 2) 25
  let addr := p.w 3 % 2 ^ 28 + p.w 4 % 2 ^ 12 * 2 ^ 28
  if kind = 3 ∨ addr % 4 ≠ 0 ∨ (load = true ∧ (kind ≠ 0 ∨ s.bootState ≠ 2 ∨ s.isBootPath r.src = false)) then s.answer r 0x15 []
  else if s.fenced uSec then s.answer r 0x13 []
  else if s.sec.verify.isSome || s.sec.loadReq.isSome then s.answer r 0x14 []
  else
    let s1 := (s.modSec (fun c => { c with verify := some ⟨r, kind, load, addr⟩ })).set Fd.SEC_VSTAT_BUSY 1
    ((if load then s1.set Fd.SEC_BOOT_STATE 3 else s1).joinPath .image).answer r 0x01 []

/-- The status of checks 1 and 2 of R460: a Last reports R102's. -/
def formatStatus (k : Nat) : Nat := if k = 2 then 0x33 else 0x15

/-- MAGIC and the largest LENGTH of an image kind (R459). -/
def kindLimits (k : Nat) : Nat × Nat :=
  match k with
  | 0 => (manMagic, 8192)
  | 1 => (progMagic, progLargest)
  | _ => (lastMagic, 0x100000)

/-! ## Signing (R254, R463, R482–R486) -/

/-- Words of a signature block over a body (R256, R483, R486): EDSIG, MLSIG and 3 zero bytes. The randomness of the hedged
signature is a free value. -/
def signBlock (fresh : Nat) (body : List Nat) : List Nat :=
  let m := wordBytes body
  let ed := edSign Config.edSeed m
  let ml := leNat (mlSign Config.mlSeed (Config.freeValue fresh) m)
  (List.range 16).map (fun i => ed / 2 ^ (32 * i) % 2 ^ 32) ++ (List.range 828).map (fun i => ml / 2 ^ (32 * i) % 2 ^ 32)

/-- Begin a signature pair. -/
def State.beginSign (s : State) (r : Req) (body : List Nat) : State :=
  (s.modSec (fun c => { c with sign := some ⟨r, body⟩ })).answer r 0x01 []

/-- The signing path finishes (R254, R484). -/
def State.signDone (s : State) : State :=
  match s.sec.sign with
  | none => s
  | some j =>
    if s.halted || s.inEpisode then s
    else
      let s1 := s.modSec (fun c => { c with sign := none })
      if s.fenced uSec then s1.answer j.req 0x13 [] else s1.draw.answer j.req 0 (j.body ++ signBlock s.fresh j.body)

/-- PICTURE_REPORT (R254), after the length check. -/
def State.pictureReport (s : State) (r : Req) (p : Packet) : State :=
  let h := p.w 2 % 16
  let sign := nbit (p.w 2) 4
  if s.fenced (uHead h) || !s.domOn (solegOf h) then s.answer r 0x13 []
  else
    match (s.headS h).frozen with
    | none => s.answer r 0x15 []
    | some rc =>
      let body := reportBody h rc [p.w 3, p.w 4, p.w 5, p.w 6]
      if !sign then s.answer r 0 body
      else if !s.flag Fd.SEC_KEYSTAT_IDPROV then s.answer r 0x15 []
      else if s.sec.sign.isSome then s.answer r 0x14 []
      else s.beginSign r body

/-- The 134 words of an attestation body (R485). -/
def State.attestBody (s : State) (nonce : List Nat) : List Nat :=
  let uid := s.get Fd.SEC_UIDLO_UID + s.get Fd.SEC_UIDMID_UID * 2 ^ 28 + s.get Fd.SEC_UIDHI_UID * 2 ^ 56
  [0x54535441, 0x00010000 + s.devId, uid % 2 ^ 32, uid / 2 ^ 32,
    0xB0000000 + s.trustEff % 256 * 2 ^ 16 + s.get Fd.SEC_KEYSTAT_BAD * 2 ^ 8 + s.get Fd.SEC_KEYSTAT_REVOKED * 16 + s.get Fd.SEC_KEYSTAT_PROG,
    s.get Fd.SEC_KEYSTAT_RBCOUNT * 2 ^ 20 + s.get Fd.SEC_BOOT_SLOT * 2 ^ 18 + s.bootState * 2 ^ 15 + (s.role + 1) * 2 ^ 12 + s.regN Rg.RST_CAUSE % 2 ^ 12,
    s.time.now % 2 ^ 32, s.time.now / 2 ^ 32] ++
  digestWords (edPublic Config.edSeed) ++ digestWords (sha3 (mlPublic Config.mlSeed)) ++ digestWords (s.sec.manId.getD 0) ++ [s.get Fd.SEC_BOOTNAME_NAME] ++
  (List.range 4).flatMap (fun n => digestWords (if s.coreState n = 2 ∨ s.coreState n = 3 then tabGet 0 s.sec.progId n else 0)) ++
  (List.range 8).flatMap (fun k => digestWords (if 3 ≤ s.slotState k then tabGet 0 s.last.ident k else 0)) ++
  [s.get Fd.LAST_SLOTSTAT_STATE] ++ nonce

/-- ATTEST (R484), after the length check. -/
def State.attest (s : State) (r : Req) (p : Packet) : State :=
  if s.fenced uSec then s.answer r 0x13 []
  else if !s.flag Fd.SEC_KEYSTAT_IDPROV then s.answer r 0x15 []
  else if s.sec.sign.isSome then s.answer r 0x14 []
  else s.beginSign r (s.attestBody [p.w 2, p.w 3, p.w 4, p.w 5])

end Sys2Proof.Machine
end

