-- ==== Sys2Proof/Machine/Panel.lean ====
section
/-! DEFINITION. Insole and Shank (19_insole_shank.md): scan steps, touch processing and reports, the sensor codes, the
backlight and the heaters with their limits. -/
namespace Sys2Proof.Machine

def State.modPanel (s : State) (f : PanelS → PanelS) : State := { s with panel := f s.panel }
def State.feS (s : State) (n : Nat) : FeS := tabGet {} s.panel.fes n
def State.modFe (s : State) (n : Nat) (f : FeS → FeS) : State :=
  s.modPanel (fun p => { p with fes := tabPut {} p.fes n (f (tabGet {} p.fes n)) })

/-! ## Scan steps (R608–R611) -/

/-- A unit runs: it is in no reset and its domain is on. -/
def State.unitUp (s : State) (u d : Nat) : Bool := s.domOn d && !s.unitInReset u && !s.inEpisode

/-- The running Last's window for front end `n` that holds line `y`: the head and the window's stitches. -/
def State.feWindow (s : State) (n y : Nat) : Option (Nat × Nat) :=
  (List.range 16).findSome? (fun h =>
    if !s.curv h then none
    else
      let w := s.slotImg (s.cur h)
      ((imgWindows w).find? (fun b => blkFe w b == n && blkHolds w b h y)).map (fun b => (h, blkStitches w b)))

/-- Some running Last has a window for front end `n`. -/
def State.feHasWindow (s : State) (n : Nat) : Bool :=
  (List.range 16).any (fun h => s.curv h &&
    (let w := s.slotImg (s.cur h); (imgWindows w).any (fun b => blkFe w b == n && blkHead w b == h)))

/-- Pixel periods of a step (R609): NPULSE 0 acts as 32, DRVPER below 8 as 8. -/
def State.stepPeriods (s : State) (n : Nat) : Nat :=
  let np := s.get (Fd.INS_FE_CTL_NPULSE n)
  ((if np = 0 then 32 else np) + 2) * max 8 (s.get (Fd.INS_FE_CTL_DRVPER n))

/-- Abandon the scan frame in progress (R611). -/
def State.feAbandon (s : State) (n : Nat) : State :=
  if !(s.feS n).active then s
  else ((s.modFe n (fun f => { f with active := false })).set (Fd.INS_FE_STAT_STEP n) 0).bump (Fd.INS_FE_STAT_ABAND n) 255

/-- Node of converter result `i` of step `k` (R608). -/
def stepNode (k i : Nat) : Nat :=
  if k < 96 then k * 64 + i else if k = 96 then 6144 + i else if k = 97 then 6208 + i else 6272 + i

/-- A step slot passes on line `y` (R610): it runs the next step with these converter results, or none. -/
def State.stepSlot (s : State) (n y : Nat) (res : List Nat) : State :=
  if !s.unitUp (unitOf 8 n) 18 || s.halted || s.fenced (unitOf 8 n) || !s.flag (Fd.INS_FE_CTL_EN n) then s
  else
    match s.feWindow n y with
    | none => s
    | some (h, st) =>
      let v := s.headS h
      let f := s.feS n
      let used := if f.lineAt = some (v.frame, y) then f.used else 0
      let slots := min (st / 4) (s.hTotal h / s.stepPeriods n)
      if !v.running || !(y == v.line || y + 1 == v.line) || decide (slots ≤ used) then s
      else
        let s1 := s.modFe n (fun f => { f with lineAt := some (v.frame, y), used := used + 1 })
        let go := f.active || (used == 0 && f.done.isNone)
        if !go then s1
        else
          let k := if f.active then s.get (Fd.INS_FE_STAT_STEP n) else 0
          let last := if s.flag (Fd.INS_FE_CTL_SELFEN n) then 98 else 95
          let s2 := s1.modFe n (fun f => { f with
            active := true, under := (h, s.cur h),
            raw := (res.take (if k = 98 then 32 else 64)).zipIdx.foldl (fun t x => tabPut 0 t (stepNode k x.2) (x.1 % 2 ^ 14)) f.raw })
          if k < last then s2.set (Fd.INS_FE_STAT_STEP n) (k + 1)
          else (s2.modFe n (fun f => { f with active := false, done := some (s.time.now, s.flag Fd.SHK_STAT_OVERT) })).set
            (Fd.INS_FE_STAT_STEP n) 0

/-! ## Touch processing (R612–R615) -/

/-- Delta of a node: baseline − raw, saturated. -/
def FeS.delta (f : FeS) (k : Nat) : Int := clampInt (-8192) 8191 (Int.ofNat (tabGet 0 f.base k) - Int.ofNat (tabGet 0 f.raw k))

/-- Nodes of the mutual scan within `d` rows and columns of a node. -/
def nodesNear (k d : Nat) : List Nat :=
  ((List.range 96).filter (fun r => decide (r ≤ k / 64 + d) && decide (k / 64 ≤ r + d))).flatMap (fun r =>
    ((List.range 64).filter (fun c => decide (c ≤ k % 64 + d) && decide (k % 64 ≤ c + d))).map (fun c => r * 64 + c))

/-- The nodes reached from `set` in `n` rounds of joining by edges or corners. -/
def growBlob (hot : List Nat) : Nat → List Nat → List Nat
  | 0, set_ => set_
  | n + 1, set_ =>
    let more := hot.filter (fun k => !set_.contains k && (nodesNear k 1).any set_.contains)
    if more.isEmpty then set_ else growBlob hot n (set_ ++ more)

/-- The blobs of the nodes above the threshold (R613). -/
def blobsOf (hot : List Nat) : Nat → List Nat → List (List Nat)
  | 0, _ => []
  | _, [] => []
  | n + 1, k :: rest =>
    let b := growBlob hot hot.length [k]
    b :: blobsOf hot n (rest.filter (fun j => !b.contains j))

/-- A blob's peak: greatest delta, then lower row, then lower column. -/
def blobPeak (f : FeS) (b : List Nat) : Nat :=
  b.foldl (fun p k => if f.delta p < f.delta k ∨ (f.delta p = f.delta k ∧ k < p) then k else p) (b.headD 0)

/-- Position and strength of a blob (R613): X, Y, STRENGTH. -/
def blobPoint (f : FeS) (b : List Nat) : Nat × Nat × Nat :=
  let near := (nodesNear (blobPeak f b) 1).filter (fun k => decide (0 < f.delta k))
  let d := (near.map (fun k => (f.delta k).toNat)).sum
  let sx := (near.map (fun k => (f.delta k).toNat * (k % 64))).sum
  let sy := (near.map (fun k => (f.delta k).toNat * (k / 64))).sum
  (256 * sx / d + 128, 256 * sy / d + 128, min 16383 ((b.map (fun k => (f.delta k).toNat)).sum))

/-- Is a blob rejected (R614)? -/
def blobRejected (f : FeS) (thr : Nat) (water glove selfen : Bool) (b : List Nat) : Bool :=
  let p := blobPeak f b
  let ds := f.delta (6144 + p % 64)
  let dd := f.delta (6208 + p / 64)
  selfen && ((water && (decide (4 * ds ≤ Int.ofNat thr) || decide (4 * dd ≤ Int.ofNat thr))) ||
    (glove && (decide (8 * ds ≤ Int.ofNat thr) || decide (8 * dd ≤ Int.ofNat thr))))

/-- A list put in order by a key, lower first; equal keys keep their order. -/
def sortOn {α : Type} (key : α → Nat) (l : List α) : List α := l.foldl ins []
where
  ins (acc : List α) (x : α) : List α :=
    match acc with
    | [] => [x]
    | y :: t => if key x < key y then x :: y :: t else y :: ins t x

/-- |a − b|. -/
def absDiff (a b : Nat) : Nat := if a ≤ b then b - a else a - b

/-- Match new points with previous ones, nearest pair first (R615): the pairs of a new index and a previous point. -/
def matchPts : Nat → List (Nat × TouchPt) → List (Nat × TouchPt) → List (Nat × TouchPt)
  | 0, _, got => got
  | n + 1, pairs, got =>
    match pairs with
    | [] => got
    | (i, p) :: t => matchPts n (t.filter (fun q => q.1 != i && q.2.id != p.id)) (got ++ [(i, p)])

/-- One point entry of a report: words 4 + 2i and 5 + 2i. -/
def ptWords (ev id x y st : Nat) : List Nat := [2 ^ 31 + ev * 2 ^ 29 + id % 16 * 2 ^ 25 + x % 2 ^ 14, st * 2 ^ 16 + y % 2 ^ 15]

/-- The first `n` numbers from 0 to 15 that are not in use. -/
def freeIds (used : List Nat) : List Nat := (List.range 16).filter (fun i => !used.contains i)

/-- The end of a scan frame (R612–R616): the baselines, the tracking and the 32 words of the report. -/
def State.feReport (s : State) (n : Nat) (end_ : Nat × Bool) : State × List Nat :=
  let f0 := s.feS n
  let glove := s.flag (Fd.INS_FE_CTL_GLOVE n)
  let water := s.flag (Fd.INS_FE_CTL_WATER n)
  let selfen := s.flag (Fd.INS_FE_CTL_SELFEN n)
  let thr := if glove then s.get (Fd.INS_FE_THR_GTHR n) else s.get (Fd.INS_FE_THR_THR n)
  let f1 := if f0.load then { f0 with base := f0.raw, load := false, auto := false, since := 0, neg := 0 } else { f0 with since := f0.since + 1 }
  let s1 := if f0.load && f0.auto then s.set (Fd.INS_FE_STAT_RECALEV n) 1 else s
  let nodes := List.range 6144
  let hot := nodes.filter (fun k => decide (Int.ofNat thr < f1.delta k))
  let low := (nodes.filter (fun k => decide (f1.delta k < -Int.ofNat (s.get (Fd.INS_FE_THR_THR n))))).length
  let neg := if 64 < low then f1.neg + 1 else 0
  let move := decide (0 < f1.since) && f1.since % 2 ^ s.get (Fd.INS_FE_CTL_BLRATE n) == 0
  let base := if !move then f1.base
    else nodes.foldl (fun t k =>
      if (nodesNear k 2).any hot.contains then t
      else
        let b := tabGet 0 t k
        let r := tabGet 0 f1.raw k
        tabPut 0 t k (if b < r then b + 1 else if r < b then b - 1 else b)) f1.base
  let blobs := blobsOf hot hot.length hot
  let kept := blobs.filter (fun b => !blobRejected f1 thr water glove selfen b)
  let ranked := sortOn (fun b => Config.pointRank (blobPeak f1 b)) kept
  let best := (sortOn (fun b => 16383 - (blobPoint f1 b).2.2) ranked).take 10
  let pts := (ranked.filter (fun b => best.contains b)).map (blobPoint f1)
  let pairs := (pts.zipIdx).flatMap (fun (p : (Nat × Nat × Nat) × Nat) =>
    (f1.prev.filter (fun q => decide (absDiff p.1.1 q.x ≤ 1024) && decide (absDiff p.1.2.1 q.y ≤ 1024))).map (fun q => (p.2, q)))
  let dist := fun (e : Nat × TouchPt) => let p := pts.getD e.1 (0, 0, 0); absDiff p.1 e.2.x + absDiff p.2.1 e.2.y
  let got := matchPts (pairs.length + 1) (sortOn dist pairs) []
  let gone := f1.prev.filter (fun q => !got.any (fun g => g.2.id == q.id))
  let held := (f1.prev.map (fun q => q.id)) ++ f1.ups.map (fun q => q.id)
  let fresh := freeIds held
  let news := (List.range pts.length).filter (fun i => !got.any (fun g => g.1 == i))
  let idOf := fun (i : Nat) =>
    match got.find? (fun g => g.1 == i) with
    | some g => (1, g.2.id)
    | none => (0, (fresh[(news.filter (fun j => decide (j < i))).length]?).getD (Config.panelFree s.fresh i % 16))
  let ents := (pts.zipIdx).map (fun (p : (Nat × Nat × Nat) × Nat) => ((idOf p.2).1, (idOf p.2).2, p.1))
  let ups := f1.ups ++ gone
  let upNow := ups.take (10 - ents.length)
  let words := ents.flatMap (fun e => ptWords e.1 e.2.1 e.2.2.1 e.2.2.2.1 e.2.2.2.2) ++
    upNow.flatMap (fun q => ptWords 2 q.id q.x q.y (Config.panelFree s.fresh (16 + q.id) % 16384))
  let count := ents.length + upNow.length
  let hd := 0x5348 * 2 ^ 16 + n * 2 ^ 12 + count * 2 ^ 8 + b2n glove * 128 + b2n (kept.length != blobs.length) * 64 +
    b2n (decide (10 < kept.length)) * 32 + b2n end_.2 * 16
  let body := [hd, f1.scan % 2 ^ 32, end_.1 % 2 ^ 32, end_.1 / 2 ^ 32] ++ words ++ List.replicate (20 - words.length) 0 ++
    (List.range 6).map (fun i => s.regN (Rg.INS_SENS i)) ++ [0, 0]
  let s2 := s1.modFe n (fun _ => { f1 with
    base := base, neg := neg, load := decide (8 ≤ neg), auto := decide (8 ≤ neg), scan := f1.scan + 1, done := none,
    prev := ents.map (fun e => ⟨e.2.1, e.2.2.1, e.2.2.2.1⟩), ups := ups.drop (10 - ents.length) })
  ((s2.set (Fd.INS_FE_STAT_SCAN n) f1.scan).draw, body)

/-- Transmitting SENSE contexts of a front end send the report (R618). -/
def State.feSend (s : State) (n : Nat) (body : List Nat) : State :=
  ((s.fcOf 6 true).filter (fun c => s.fcBind c % 2 == n)).foldl (fun a c => a.weltOn c [body]) s

/-- Write INS_FEn_CTL (R611, R612, R616, R628). -/
def State.writeFeCtl (s : State) (n v : Nat) : State :=
  let was := s.flag (Fd.INS_FE_CTL_EN n)
  let s1 := s.plainWrite (Rg.INS_FE_CTL n) v
  let s2 := if nbit v 23 then s1.modFe n (fun f => { f with load := true, auto := false }) else s1
  if !was && nbit v 27 then s2.modFe n (fun f => { f with scan := 0, load := true, auto := false })
  else if was && !nbit v 27 then s2.feAbandon n else s2

/-- What holds of the front ends after every command (R611): NOWIN, and the frames that end early. -/
def State.feSettle (s : State) : State :=
  if !s.domOn 18 || s.inEpisode then s
  else (List.range 2).foldl (fun a n =>
    let any_ := (List.range 16).any a.curv
    let nowin := any_ && !a.feHasWindow n
    let f := a.feS n
    let stop := nowin || a.halted || a.fenced (unitOf 8 n) || !any_ || !a.curv f.under.1 || a.cur f.under.1 != f.under.2
    let b := a.setB (Fd.INS_FE_STAT_NOWIN n) nowin
    if f.active && stop then b.feAbandon n else b) s

/-! ## Sensors (R620, R621) -/

/-- Code of TH `t`, and whether it is failed (R621). -/
def State.thCode (s : State) (t : Nat) : Nat := tabGet 0 s.panel.th t
def State.thFailed (s : State) (t : Nat) : Bool :=
  decide (s.thCode t ≤ 64) || decide (16320 ≤ s.thCode t) || s.panel.stale.contains t

/-- Thermistors that guard the panel. -/
def State.guards (s : State) : List Nat := (List.range 8).filter (nbit (s.get Fd.SHK_FUSE1_TMASK))

/-- The Shank block runs its comparisons. -/
def State.shankUp (s : State) : Bool := s.unitUp uShank 19

/-- Every Shank output is off (R622, R693). -/
def State.shankOff (s : State) : Bool :=
  !s.shankUp || !s.flag Fd.SHK_CTL_EN || s.fenced uShank || s.hub.stopping || !s.domOn (solegOf (s.get Fd.SHK_CTL_HEAD))

/-- A record and the interrupt of an entry into a panel condition (R626, R639). -/
def State.panelEntry (s : State) (detail : Nat) : State := (s.raise 220).report uShank 0x40 1 detail

/-- The panel-temperature and sensor limits (R626). -/
def State.shankLimits (s : State) : State :=
  if !s.shankUp then s
  else
    let g := s.guards
    let tlim := s.get Fd.SHK_FUSE1_TLIM
    let low := g.any (fun t => decide (s.thCode t ≤ tlim))
    let fail := g.any s.thFailed
    let hot := if low then true else s.panel.hot && !g.all (fun t => decide (tlim + 256 ≤ s.thCode t))
    let sf := fail || (s.flag Fd.SHK_STAT_SENSFAIL && low)
    let s1 := s.modPanel (fun p => { p with hot := hot })
    let s2 := (s1.setB Fd.SHK_STAT_SENSFAIL sf).setB Fd.SHK_STAT_OVERT (hot || sf)
    let s3 := if hot && !s.panel.hot then s2.panelEntry 0 else s2
    if sf && !s.flag Fd.SHK_STAT_SENSFAIL then s3.panelEntry 1 else s3

def State.heaterS (s : State) (h : Nat) : HeaterS := tabGet {} s.panel.heaters h
def State.modHeater (s : State) (h : Nat) (f : HeaterS → HeaterS) : State :=
  s.modPanel (fun p => { p with heaters := tabPut {} p.heaters h (f (tabGet {} p.heaters h)) })

/-- A gate is held off (R622, R626). -/
def State.gateHeld (s : State) (h : Nat) : Bool :=
  s.shankOff || s.flag Fd.SHK_STAT_OVERT || s.flag Fd.SHK_STAT_KEEPEXP || s.flag (Fd.SHK_HT_S_LATCH h) || s.fenced (uHeater h)

/-- A heater's thermostat (R625). -/
def State.thermostat (s : State) (h : Nat) : State :=
  let t := s.get (Fd.SHK_HT_B_TSEL h)
  let c := s.thCode t
  if !s.flag (Fd.SHK_HT_B_EN h) || s.thFailed t || decide (c ≤ s.get (Fd.SHK_HT_A_OFFCODE h)) then s.set (Fd.SHK_HT_S_HEAT h) 0
  else if s.get (Fd.SHK_HT_A_ONCODE h) ≤ c then s.set (Fd.SHK_HT_S_HEAT h) 1 else s

/-- What holds of Shank after every command: NOCLK, the limits, the thermostats and the gates. -/
def State.shankSettle (s : State) : State :=
  if !s.shankUp then
    (if s.panel.heaters.isEmpty && s.panel.pwm.isEmpty then s else s.modPanel (fun p => { p with heaters := [], pwm := [] }))
  else
    let s0 := if s.shankOff && !s.panel.pwm.isEmpty then s.modPanel (fun p => { p with pwm := [] }) else s
    let s1 := (s0.setB Fd.SHK_STAT_NOCLK (!s.domOn (solegOf (s.get Fd.SHK_CTL_HEAD)))).shankLimits
    (List.range 4).foldl (fun a h =>
      let b := a.thermostat h
      if b.gateHeld h && (b.heaterS h).gate then b.modHeater h (fun x => { x with gate := false }) else b) s1

/-- The sensor converter measures (R620). -/
def State.sensorConvert (s : State) (als th : List Nat) : State :=
  if !s.domOn 18 || s.inEpisode then s
  else
    let put := fun (l : List Nat) (n : Nat) => (List.range n).foldl (fun t i => tabPut 0 t i (l.getD i 0 % 2 ^ 14)) []
    let s1 := s.modPanel (fun p => { p with als := put als 4, th := put th 8, thAt := s.time.now, stale := [] })
    (List.range 6).foldl (fun a i =>
      let code := fun (j : Nat) => if i < 2 then tabGet 0 a.panel.als (2 * i + j) else tabGet 0 a.panel.th (2 * (i - 2) + j)
      (a.set (Fd.INS_SENS_LO i) (code 0)).set (Fd.INS_SENS_HI i) (code 1)) s1

/-- A thermistor code becomes more than 100 ms old: the converter does not run (R621). -/
def State.thermStale (s : State) (t : Nat) : State :=
  if (s.domOn 18 && !s.inEpisode) || decide ((s.time.now + 2 ^ 56 - s.panel.thAt) % 2 ^ 56 ≤ 100 * msTicks) then s
  else s.modPanel (fun p => { p with stale := setAdd p.stale t })

/-! ## Backlight (R623, R624) -/

/-- The shortest PWM period (R623). -/
def State.minPeriod (s : State) : Nat := ceilDiv (s.pclk (s.get Fd.SHK_CTL_HEAD)) 40

/-- The PWM period in force. -/
def State.pwmPeriod (s : State) : Nat := max (s.get Fd.SHK_BLCFG_PERIOD) s.minPeriod

/-- A write of SHK_BLCFG (R623). -/
def State.writeBlcfg (s : State) (v : Nat) : State :=
  let s1 := s.plainWrite Rg.SHK_BLCFG v
  if s1.get Fd.SHK_BLCFG_PERIOD < s1.minPeriod then s1.set Fd.SHK_STAT_PERERR 1 else s1

/-- Target of a channel (R624). -/
def State.blTarget (s : State) (n : Nat) : Nat :=
  let d := s.get (Fd.SHK_BL_DUTY n)
  if s.flag (Fd.SHK_BL_FOLLOW n) then min 16383 (d + tabGet 0 s.panel.als (s.get (Fd.SHK_BL_ALSSEL n)) * s.get (Fd.SHK_BL_AGAIN n) / 256)
  else d

/-- The ceiling on applied duty (R624). -/
def State.blCeiling (s : State) : Nat :=
  if s.flag Fd.SHK_STAT_OVERT then min (s.get Fd.SHK_FUSE0_MAXDUTY) (s.get Fd.SHK_FUSE0_HOTDUTY) else s.get Fd.SHK_FUSE0_MAXDUTY

/-- Applied duty after one period's slew, before the clamps; a debug halt freezes target and slew (R627). -/
def State.blSlew (s : State) (n : Nat) : Nat :=
  let a := tabGet 0 s.panel.applied n
  let t := s.blTarget n
  let m := s.get Fd.SHK_BLCFG_SLEW * 16
  if s.halted then a
  else if m = 0 then t
  else if a ≤ t then min t (a + m) else max t (a - m)

/-- The pulse of channel `n` in a PWM period of applied duty `a` (R623): its delay and its length in pixel periods. -/
def State.blPulse (s : State) (n a : Nat) : Nat × Nat :=
  (if s.flag Fd.SHK_BLCFG_STAG then n * (s.pwmPeriod / 16) else 0, s.pwmPeriod * a / 16384)

/-- A PWM period starts (R623, R624): a channel with EN at 0 is held low. -/
def State.pwmStart (s : State) : State :=
  if s.shankOff then s
  else (List.range 16).foldl (fun a n =>
    let v := if a.flag (Fd.SHK_BL_EN n) then a.blSlew n else 0
    let c := min v a.blCeiling
    let bit := a.get Fd.SHK_LIMIT_CLAMP
    (a.modPanel (fun p => { p with
      applied := tabPut 0 p.applied n c,
      pwm := if a.flag (Fd.SHK_BL_EN n) then tabInsert p.pwm n (a.blPulse n c) else tabErase p.pwm n })).set Fd.SHK_LIMIT_CLAMP
      (putBits bit n 1 (b2n (decide (a.blCeiling < v))))) s

/-- With SYNC at 1 a PWM period starts at every latch point of the head (R623). -/
def State.pwmSynced (s : State) (mask : Nat) : Bool :=
  let h := s.get Fd.SHK_CTL_HEAD
  s.flag Fd.SHK_BLCFG_SYNC && nbit mask h && (s.headS h).running

/-! ## Heaters (R625, R626) -/

/-- On time of a heater in pixel periods (R625). -/
def State.heaterOn (s : State) (h : Nat) : Nat := 64 * s.pwmPeriod * s.get (Fd.SHK_HT_B_HDUTY h) / 16384

/-- A heater period starts (R625, R626). -/
def State.heaterStart (s : State) (h : Nat) : State :=
  if s.shankOff then s
  else
    let s1 := s.modHeater h (fun x => { x with
      trips := if x.tripNow then x.trips else 0, tripNow := false, low := if x.lowNow then x.low else 0, lowNow := false })
    s1.modHeater h (fun x => { x with gate := s1.flag (Fd.SHK_HT_S_HEAT h) && !s1.gateHeld h && decide (0 < s1.heaterOn h) })

/-- A heater's on time ends with a measured current (R626). -/
def State.heaterEnd (s : State) (h imeas : Nat) : State :=
  if !(s.heaterS h).gate || s.shankOff then s
  else
    let s1 := (s.modHeater h (fun x => { x with gate := false })).set (Fd.SHK_HT_S_IMEAS h) imeas
    let imin := s.get (Fd.SHK_HT_B_IMIN h)
    if s.heaterOn h * 100 < s.pclk (s.get Fd.SHK_CTL_HEAD) then s1
    else if imeas % 64 < imin then
      let s2 := s1.modHeater h (fun x => { x with low := x.low + 1, lowNow := true })
      if 8 ≤ (s2.heaterS h).low ∧ !s2.flag (Fd.SHK_HT_S_OPEN h) then (s2.set (Fd.SHK_HT_S_OPEN h) 1).report (uHeater h) 0x42 1 0 else s2
    else (s1.modHeater h (fun x => { x with low := 0 })).set (Fd.SHK_HT_S_OPEN h) 0

/-- Heater current above HIMAX during an on time (R626). -/
def State.heaterTrip (s : State) (h : Nat) : State :=
  if !(s.heaterS h).gate || s.shankOff then s
  else
    let s1 := (s.modHeater h (fun x => { x with gate := false, trips := x.trips + 1, tripNow := true })).bump (Fd.SHK_HT_S_TRIPCNT h) 255
    if (s1.heaterS h).trips = 3 then (s1.set (Fd.SHK_HT_S_LATCH h) 1).report (uHeater h) 0x41 2 0 else s1

/-- The policy keep-alive expires (R626): KEEPTMO ms without a KEEP write. -/
def State.keepExpire (s : State) : State :=
  let tmo := s.get Fd.SHK_CTL_KEEPTMO
  if !s.shankUp || tmo == 0 || s.flag Fd.SHK_STAT_KEEPEXP ||
      decide ((s.time.now + 2 ^ 56 - s.panel.keptAt) % 2 ^ 56 < tmo * msTicks) then s
  else (s.set Fd.SHK_STAT_KEEPEXP 1).panelEntry 2

/-- Write SHK_CTL (R626, R633): KEEP ends an expiry and restarts the keep-alive, which also starts when KEEPTMO leaves 0. -/
def State.writeShkCtl (s : State) (v : Nat) : State :=
  let s1 := s.plainWrite Rg.SHK_CTL v
  let s2 := if nbit v 26 || s.get Fd.SHK_CTL_KEEPTMO == 0 then s1.modPanel (fun p => { p with keptAt := s.time.now }) else s1
  if nbit v 26 then s2.set Fd.SHK_STAT_KEEPEXP 0 else s2

end Sys2Proof.Machine
end

