-- ==== Sys2Proof/Machine/Eyelets.lean ====
section
/-! DEFINITION. Eyelets and the service peripherals (21_eyelets.md): configuration, sampling and events, the I2C and UART
controllers and their window. -/
namespace Sys2Proof.Machine

/-! ## Functions (R668) -/

/-- A FUNC code that names a function of eyelet `n`. -/
def funcOk (n f : Nat) : Bool := f == 0 || (f == 1 && decide (6 ≤ n)) || (f == 2 && decide (80 ≤ n))

/-- An input function placed on eyelet `n` reaches its peripheral (R669, R675). -/
def State.eyeFn (s : State) (n f : Nat) : Bool := s.get (Fd.EY_FUNC n) == f

/-- Write SYS_EYCFG for eyelet `n`, as selected in the writer's copy `o` of SYS_EYIDX (R675, R676):
in the level modes IEV takes no write (R672), and the input of a function that leaves freezes. -/
def State.writeEycfg (s : State) (o n v : Nat) : State :=
  if !funcOk n (nbits v 27 25) || decide (6 ≤ nbits v 15 13) then s.setRegN (Rg.EYIDX_C o) (Nat.lor (s.regN (Rg.EYIDX_C o)) (2 ^ 27))
  else
    let w := if 4 ≤ s.get (Fd.EY_IMODE n) then putBits v 11 1 0 else v
    let s1 := s.plainWrite (Rg.EY n) w
    let was := s.get (Fd.EY_FUNC n) == 1
    let is := nbits v 27 25 == 1
    if was == is then s1
    else { s1 with eyes := tabMod {} s1.eyes n (fun e => { e with frozen := if was then some (s.flag (Fd.EY_IN n)) else none }) }

/-- The input of FUNC 1 as its peripheral sees it (R669, R675): `lv` on the pin while the function is placed, the frozen level after
it has left, and `idle` where it was never placed. -/
def State.inputLevel (s : State) (n : Nat) (lv idle : Bool) : Bool :=
  if s.eyeFn n 1 then lv else (tabGet {} s.eyes n).frozen.getD idle

/-- SYS_EYCFG of eyelet `n` as it reads: IEV shows the condition in the level modes (R672). -/
def State.readEycfg (s : State) (n : Nat) : Nat := putBits (s.regN (Rg.EY n)) 11 1 (b2n (s.eyIev n))

/-- Eyelets that a SYS_EYSET or SYS_EYCLR value names (R680). -/
def maskEyes (v : Nat) : List Nat := ((List.range 16).filter (nbit (v % 65536))).map (fun j => nbits v 27 25 * 16 + j)

/-- A sample of eyelet `n` (R671, R672): IN, the filtered level and the event. In STOW nothing is sampled (R673). -/
def State.eyeSample (s : State) (n : Nat) (lv : Bool) : State :=
  if s.inEpisode || s.get Fd.PWR_STATE_STATE == 3 then s
  else
    let e := tabGet {} s.eyes n
    let run := if s.flag (Fd.EY_IN n) == lv then min 4 (e.run + 1) else 1
    let lvl := if s.flag (Fd.EY_FILT n) then (if 4 ≤ run then lv else e.lvl) else lv
    let edge := lvl != e.lvl
    let m := s.get (Fd.EY_IMODE n)
    let hit := edge && ((m == 1 && lvl) || (m == 2 && !lvl) || m == 3)
    let s1 := { s.setB (Fd.EY_IN n) lv with eyes := tabPut {} s.eyes n { e with run := run, lvl := lvl } }
    if hit then s1.set (Fd.EY_IEV n) 1 else s1

/-- SYS_EYIN for the bank of an eyelet index (R680). -/
def State.readEyin (s : State) (i : Nat) : Nat :=
  let b := i % 128 / 16
  b * 2 ^ 25 + (List.range 16).foldl (fun a j => a + s.get (Fd.EY_IN (16 * b + j)) * 2 ^ j) 0

/-- SYS_EYBANK as it reads (R667, R680). -/
def State.readEybank (s : State) : Nat :=
  s.get Fd.SYS_EYBANK_VSEL * 256 + (List.range 8).foldl (fun a b => a + b2n (s.srcPending (312 + b)) * 2 ^ b) 0

/-! ## Service peripherals (R677, R678, R681) -/

def State.modPer (s : State) (p : Nat) (f : PerS → PerS) : State := { s with pers := tabPut {} s.pers p (f (s.perS p)) }

/-- A write of an I2C CMD register (R677). -/
def State.writeI2cCmd (s : State) (k v : Nat) : State :=
  if !nbit v 27 then s.plainWrite (Rg.I2C_CMD k) v
  else if s.flag (Fd.I2C_STAT_BUSY k) || v % 128 == 0 || decide (64 < v % 128) then s.set (Fd.I2C_STAT_ERR k) 1
  else
    let s1 := s.plainWrite (Rg.I2C_CMD k) v
    if s1.flag (Fd.I2C_CFG_EN k) then s1.set (Fd.I2C_STAT_BUSY k) 1 else s1

/-- SCL and SDA of I2C controller `k` are placed (R668): without them no target answers (R669). -/
def State.i2cPlaced (s : State) (k : Nat) : Bool :=
  let n := match k with | 0 => 6 | 1 => 22 | 2 => 40 | _ => 42
  s.eyeFn n 1 && s.eyeFn (n + 1) 1

/-- An I2C command ends (R677), unless it still waits behind a transaction of the supply loop (R64): `n` bytes went out or `data` came in; `nack` and `lost` name how it was cut. -/
def State.i2cDone (s : State) (k n : Nat) (data : List Nat) (nack lost : Bool) : State :=
  if !s.flag (Fd.I2C_STAT_BUSY k) || s.loopOnBus k || s.inEpisode then s
  else
    let c := s.get (Fd.I2C_CMD_COUNT k)
    let rd := s.flag (Fd.I2C_CMD_RD k)
    let whole := !nack && !lost
    let sent := if whole then c else min n c
    let got := (data.map (fun b => b % 256)).take c
    let p := s.perS k
    if whole && (!s.i2cPlaced k || if rd then got.length != c || decide (64 < p.rx.length + c) else decide (p.tx.length < c)) then s
    else
      let s1 := s.modPer k (fun q => { q with
        tx := if rd then q.tx else q.tx.drop sent, rx := if rd then (q.rx ++ got).take 64 else q.rx,
        held := whole && !s.flag (Fd.I2C_CMD_STOP k) })
      let s2 := s1.set (Fd.I2C_STAT_BUSY k) 0
      let s3 := if nack then s2.set (Fd.I2C_STAT_NACK k) 1 else s2
      if lost then s3.set (Fd.I2C_STAT_LOST k) 1 else s3

/-- A UART byte arrives; `bad`: with a parity or framing error (R678). -/
def State.uartRx (s : State) (u byte : Nat) (bad : Bool) : State :=
  if !s.flag (Fd.UART_CFG_EN u) || s.inEpisode || !s.eyeFn (25 + 4 * u) 1 then s
  else if bad then s.set (Fd.UART_STAT_FERR u) 1
  else if 64 ≤ (s.perS (4 + u)).rx.length then s.set (Fd.UART_STAT_OVR u) 1
  else s.modPer (4 + u) (fun p => { p with rx := p.rx ++ [byte % 256] })

/-- The next byte of a UART's transmit FIFO is sent, with CTS_N at a level (R678) where it is placed. -/
def State.uartTx (s : State) (u : Nat) (cts : Bool) : State :=
  if !s.flag (Fd.UART_CFG_EN u) || s.inEpisode ||
      (s.flag (Fd.UART_CFG_FLOW u) && s.inputLevel (27 + 4 * u) cts true) then s
  else s.modPer (4 + u) (fun p => { p with tx := p.tx.drop 1 })

/-- SYS_PERDATA as it reads (R681), and the state after a read with side effects: an empty receive FIFO gives a free value
(log entry 45). -/
def State.readPer (s : State) : Nat × State :=
  let p := s.get Fd.SYS_PERIDX_PER
  let r := s.get Fd.SYS_PERIDX_REG
  let q := s.perS p
  let lv := q.rx.length % 128 * 128 + q.tx.length % 128
  if 6 ≤ p then (0, s)
  else if r = 2 then
    (match q.rx with
     | b :: t => (b % 256, s.modPer p (fun x => { x with rx := t }))
     | [] => (Config.freeValue s.fresh % 256, s.draw))
  else if p < 4 then
    (if r = 0 then (s.regN (Rg.I2C_CFG p), s)
     else if r = 1 then (readMask (Rg.I2C_CMD p) (s.regN (Rg.I2C_CMD p)), s)
     else (s.regN (Rg.I2C_STAT p) / 2 ^ 14 * 2 ^ 14 + lv, s))
  else
    (if r = 0 then (s.regN (Rg.UART_CFG (p - 4)), s)
     else if r = 1 then (0, s)
     else (putBits (s.regN (Rg.UART_STAT (p - 4)) / 2 ^ 14 * 2 ^ 14 + lv) 27 1
            (b2n (s.flag (Fd.UART_CFG_EN (p - 4)) && !q.tx.isEmpty)), s))

/-- Write SYS_PERDATA (R677, R678, R681). -/
def State.writePer (s : State) (v : Nat) : State :=
  let p := s.get Fd.SYS_PERIDX_PER
  let r := s.get Fd.SYS_PERIDX_REG
  if 6 ≤ p then s
  else if r = 2 then
    (if 64 ≤ (s.perS p).tx.length then (if p < 4 then s else s.set (Fd.UART_STAT_TXOVR (p - 4)) 1)
     else s.modPer p (fun x => { x with tx := x.tx ++ [v % 256] }))
  else if p < 4 then
    (if r = 0 then s.plainWrite (Rg.I2C_CFG p) v else if r = 1 then s.writeI2cCmd p v else s.plainWrite (Rg.I2C_STAT p) v)
  else (if r = 0 then s.plainWrite (Rg.UART_CFG (p - 4)) v else if r = 1 then s else s.plainWrite (Rg.UART_STAT (p - 4)) v)

end Sys2Proof.Machine
end

