-- ==== Sys2Proof/Machine/Reset.lean ====
section
/-! DEFINITION. Reset and power (12_reset_power.md, with R19–R25): episodes and their release, unit resets, power domains,
power states, wake, supply monitors and the role change. -/
namespace Sys2Proof.Machine

/-! ## What resets leave of registers (R12, R450) -/

/-- A register's value by one of its reset columns: a value, its old bits, or the bits `fuse` of the fuse map. -/
def colNat (pick : FieldSpec → Rst) (k old fuse : Nat) : Nat :=
  match specAt k with
  | none => old
  | some r => r.fields.foldl (fun a f => a + (match pick f with
      | .val n => n * 2 ^ f.lo
      | .kept => nbits old f.hi f.lo * 2 ^ f.lo
      | .fuse => nbits fuse f.hi f.lo * 2 ^ f.lo)) 0

/-- Every register takes a reset column; frame and active copies return to their Cold values. -/
def State.regColumns (s : State) (pick : FieldSpec → Rst) (fuse : Nat → Nat) : State :=
  let own := s.regs.filter (fun e => decide (e.1 < frameBase))
  let keys := Rg.RST_CAUSE :: own.map (fun e => e.1) ++ s.fuses.regs.map (fun e => e.1)
  keys.foldl (fun (a : State) (k : Nat) => a.setRegN k (colNat pick k (s.regN k) (fuse k))) { s with regs := own }

/-- Cold reach of a source (R423). -/
def resetCold : ResetSrc → Bool
  | .por | .supcold | .fatalCold | .cmdcold => true
  | _ => false

/-- Rank of a source (R423). -/
def resetRank : ResetSrc → Nat
  | .fatalCold | .fatalWarm => 1
  | .por | .supcold | .supwarm => 2
  | .devwdt => 3
  | .cmdcold | .cmdwarm => 4
  | .pin => 5

/-- Cause bit of a source (R423, R452). -/
def resetCause : ResetSrc → Fd
  | .por => Fd.RST_CAUSE_POR
  | .supcold => Fd.RST_CAUSE_SUPCOLD
  | .fatalCold | .fatalWarm => Fd.RST_CAUSE_FATAL
  | .cmdcold => Fd.RST_CAUSE_CMDCOLD
  | .supwarm => Fd.RST_CAUSE_SUPWARM
  | .devwdt => Fd.RST_CAUSE_DEVWDT
  | .cmdwarm => Fd.RST_CAUSE_CMDWARM
  | .pin => Fd.RST_CAUSE_PIN

/-- Backup counter of a source (R423, R454). -/
def resetCounter : ResetSrc → Fd
  | .por | .supcold | .supwarm => Fd.RST_BAKCNT_POWER
  | .fatalCold | .fatalWarm => Fd.RST_BAKCNT_FATAL
  | .devwdt => Fd.RST_BAKCNT_WDT
  | _ => Fd.RST_BAKCNT_EXT

/-! ## Power domains (R444–R446, R450) -/

/-- Every source with a ring ends its session: waiting replies are discarded, and so are later completions (R398, R750). -/
def State.endSession (s : State) (src : Src) : State :=
  { s with tongue := { s.tongue with
      replies := s.tongue.replies.filter (fun r => r.src != src),
      ringGen := tabMod 0 s.tongue.ringGen (srcKey src) (fun g => g + 1) } }

/-- The power domain of a register (R410). -/
def regDomain (k : Nat) : Nat :=
  let k := k % 0x2000000
  match k / 0x10000 with
  | 0x01 | 0x103 | 0x116 => 3
  | 0x02 => 2
  | 0x07 => if k % 0x10000 < 0x100 then lanegOf (k % 0x10000 / 8) else lanegOf ((k % 0x10000 - 0x100) / 64)
  | 0x10 | 0x11 | 0x12 | 0x20 => 6
  | 0x14 | 0x18 => solegOf (k % 0x10000 / 0x1000)
  | 0x30 | 0x38 | 0x100 | 0x101 | 0x102 => 12
  | 0x48 | 0x49 => 16
  | 0x50 => 17
  | 0x58 => 18
  | 0x59 => 19
  | _ => 0

/-- EYE_WPpCFG and EYE_LnCFG keep an AON copy (R450). -/
def keptOff (k : Nat) : Bool :=
  k / 0x10000 == 0x07 && (if k % 0x10000 < 0x100 then k % 8 == 0 else k % 16 == 0)

/-- The registers of a domain are lost (R450). -/
def State.loseRegs (s : State) (d : Nat) : State :=
  { s with regs := tabDrop (fun k => regDomain k == d && !keptOff k) s.regs }

/-- The registers of a domain that powers on take their fuse values where their Cold column says so (R450). -/
def State.fuseRegs (s : State) (d : Nat) : State :=
  let s1 := s.fuses.regs.foldl (fun (a : State) (e : Nat × Nat) =>
    if regDomain e.1 = d ∧ !keptOff e.1 then
      let m := fuseMask e.1
      a.setRegN e.1 (a.regN e.1 - Nat.land (a.regN e.1) m + Nat.land e.2 m) else a) s
  if d = 2 then s1.showKeys else s1

/-- A Sole and its requests are lost. -/
def State.loseSole (s : State) (n : Nat) : State :=
  (s.setSole n {}).modWelt (fun w => { w with reqs := w.reqs.filter (fun r => match r.who with
    | .plane sl _ _ => sl != n
    | _ => true) })

/-- What the loss of a head's hidden state leaves (R451). -/
def State.loseHead (s : State) (h : Nat) (hs : HeadS) : State := s.setHead h hs

/-- The jobs of the security engine end with 0x13 (R382). -/
def State.endSec (s : State) : State :=
  let s1 := match s.sec.verify with
    | some j => s.verifyReply j.req (some (0x13, none)) 0
    | none => s
  let s2 := match s.sec.sign with
    | some j => s1.answer j.req 0x13 []
    | none => s1
  let s3 := match s.sec.loadReq with
    | some r => s2.verifyReply r (some (0x13, none)) 0
    | none => s2
  { s3 with sec := {} }

/-- An Awl core loses its cells and stops (R431, R451, R645). -/
def State.loseCore (s : State) (n : Nat) : State :=
  let s0 := s.endStart n
  let s1 := (((if s0.coreLocked n then s0.breakLock n else s0).setCore n {}).emptyStack n).dropBus (0x12 + n)
  s1.modSec (fun c => { c with progId := tabErase c.progId n })

/-- A head's palettes and LUTs are lost, and their holding registers hold 0 (R146, R197, R451). -/
def State.losePalettes (s : State) (h : Nat) : State :=
  let s1 := (s.loseMem (palAddr h 0 0) (palAddr (h + 1) 0 0)).loseMem (preLutAddr h 0 0) (preLutAddr (h + 1) 0 0)
  { s1 with pict := { s1.pict with hold := tabDrop (fun k => k % 32 == h) s1.pict.hold } }

/-- COMMAND messages that wait for Tongue as it powers off are dropped for reason 4 (R346, R750). -/
def State.loseCommands (s : State) : State :=
  let mine := s.welt.inbox.filter (fun i => i.pkt.kind == 7#4)
  mine.foldl (fun (a : State) (i : InP) => if i.pkt.first then a.weltDrop i.port 4 else a)
    (s.modWelt (fun w => { w with inbox := w.inbox.filter (fun i => i.pkt.kind != 7#4) }))

/-- MEMPHY powers off: every channel is OFF, and the contents and the training results are lost (R304, R451). -/
def State.memOff (s : State) : State :=
  let s1 := ((List.range 6).foldl (fun a c => (a.setRegN (Rg.MEM_CH_STAT c) 0).setRegN (Rg.MEM_CH_TRAIN c) 0) s).loseGddr
  { s1 with fetch := { s1.fetch with training := [], full := false, mapKey := none } }.memReadyBit

/-- What a domain's blocks lose when it powers off (R80, R382, R451, R549, R567, R645, R750), the domain's bit being clear. -/
def State.domainLost (s : State) (d : Nat) : State :=
  match d with
  | 2 => s.endSec.loseRegs 2
  | 3 =>
    let s1 := s.endSession .pcie
    let s2 := (List.finRange 4).foldl (fun (a : State) (n : Fin 4) => a.endSession (.core n)) s1
    (({ s2 with tongue := { ringGen := s2.tongue.ringGen } }.dropBus 0x16 |>.dropBus 297).loseCommands).loseRegs 3
  | 4 | 5 =>
    let one := fun (a : State) (n : Nat) =>
      ((((a.loseCore n).set (Fd.AWL_STAT_STATE n) 0).set (Fd.AWL_STAT_LOCKED n) 0).set (Fd.AWL_STAT_IE n) 0).loseMem
        (localBase n) (localBase (n + 1))
    let s1 := one (one s (2 * (d - 4))) (2 * (d - 4) + 1)
    if !s1.domOn 4 && !s1.domOn 5 then s1.loseMem sharedBase (sharedBase + 0x200000) else s1
  | 6 => { (s.loseLasts true).loseRegs 6 with fetch := {} }
  | 7 | 8 | 9 | 10 =>
    let hs := [0, 1, 2, 3].map (fun i => 4 * (d - 7) + i)
    let s1 := hs.foldl (fun (a : State) (h : Nat) =>
      (((((((a.wbDrop h).wbDropTail h).cancelArms h).loseHead h { applied := (a.headS h).applied }).dropCur h).losePalettes h).loseSole h)) s
    hs.foldl (fun (a : State) (h : Nat) =>
      if (s.headS h).wb.isSome || (s.headS h).wbTail != 0 then a.set (Fd.HD_WBCTL_DROP h) 1 else a) (s1.loseRegs d)
  | 11 => s.memOff
  | 12 | 13 | 14 | 15 =>
    let ps := [2 * (d - 12), 2 * (d - 12) + 1]
    let s1 := ps.foldl (fun (a : State) (p : Nat) => (a.weltPortLost p).dpAbandon p) s
    let s2 := s1.loseRegs d
    let s3 := ps.foldl (fun (a : State) (p : Nat) => a.setPortState p 4) s2
    if d = 12 then
      { s3.endSession .pcie with welt := {}, lanes := { s3.lanes with refLost := false, ep := {} }, pict := { s3.pict with prx := [] } }
    else s3
  | 16 => (List.range 32).foldl (fun (a : State) (n : Nat) => a.dropBus (256 + n)) { (s.loseRegs 16).dropBus 0x11 with move := {} }
  | 17 => { (s.loseRegs 17).loseMem 0x7FF3000000 0x7FF3004000 with audio := {} }
  | 18 => { s.loseRegs 18 with panel := { s.panel with fes := [] } }
  | 19 => { s.loseRegs 19 with panel := { s.panel with applied := [], pwm := [], heaters := [], hot := false } }
  | _ => s

/-- What starts when a domain powers on (R282, R308, R450), the domain's bit being set. -/
def State.domainStart (s : State) (d : Nat) : State :=
  let s1 := s.fuseRegs d
  match d with
  | 4 | 5 => s1.loseMem (localBase (2 * (d - 4))) (localBase (2 * (d - 4) + 2))
  | 7 | 8 | 9 | 10 => [0, 1, 2, 3].foldl (fun (a : State) (i : Nat) => a.losePalettes (4 * (d - 7) + i)) s1
  | 6 => if s1.domOn 11 then s1.startTraining else s1
  | 11 => if s1.domOn 6 then s1.startTraining else s1
  | 12 | 13 | 14 | 15 => [2 * (d - 12), 2 * (d - 12) + 1].foldl (fun (a : State) (p : Nat) => a.portStart p) s1
  | 17 => s1.loseMem 0x7FF3000000 0x7FF3004000
  | _ => s1

/-- Power one domain off. -/
def State.domainOff (s : State) (d : Nat) : State :=
  if !s.domOn d then s
  else (s.set Fd.PWR_DOMON_ON (s.get Fd.PWR_DOMON_ON - 2 ^ d)).domainLost d

/-- Power one domain on. -/
def State.domainOn (s : State) (d : Nat) : State :=
  if s.domOn d then s
  else (s.set Fd.PWR_DOMON_ON (s.get Fd.PWR_DOMON_ON + 2 ^ d)).domainStart d

/-- Power domains off in descending order and on in ascending order until the set `v` is on (R445). -/
def State.setDomains (s : State) (v : Nat) : State :=
  let offs := (List.range 20).reverse.filter (fun d => !nbit v d)
  let ons := (List.range 20).filter (nbit v)
  (ons.foldl (fun a d => a.domainOn d) (offs.foldl (fun a d => a.domainOff d) s)).evalFits

/-- SOLEG bits of the role's set (R19, R446). -/
def State.roleSet (s : State) : Nat := roleDomains s.role (s.flag Fd.SYS_ROLE_HEELEN)
def State.roleSolegs (s : State) : Nat := Nat.land (State.roleSet s) 0x780

/-- STATE is RUN while every SOLEG domain of the role's set is on, else DIM (R446). -/
def State.runState (s : State) : State :=
  s.set Fd.PWR_STATE_STATE (b2n (Nat.land (s.get Fd.PWR_DOMON_ON) s.roleSolegs != s.roleSolegs))

/-- Would PWR_DOMREQ `v` break R445? Bits 0 and 1 read 1. -/
def State.domreqBad (s : State) (v : Nat) : Bool :=
  let on := s.get Fd.PWR_DOMREQ_REQ
  let solegs := Nat.land v 0x780
  let lanes := Nat.land v 0xE000
  (solegs != 0 && !nbit v 6) || (lanes != 0 && !nbit v 12) ||
    (List.range 4).any (fun g => nbit on (7 + g) && !nbit v (7 + g) && s.solegRunning g) ||
    s.flag Fd.SYS_ROLE_BUSY || s.flag Fd.PWR_STATE_BUSY || decide (2 ≤ s.get Fd.PWR_STATE_STATE)

/-- A write of PWR_DOMREQ (R445). -/
def State.writeDomreq (s : State) (v : Nat) : State :=
  let w := Nat.lor (v % 2 ^ 20) 3
  if w ≠ s.get Fd.PWR_DOMREQ_REQ ∧ s.domreqBad w = true then s.set Fd.PWR_STATE_ERR 1
  else ((s.set Fd.PWR_DOMREQ_REQ w).setDomains w).runState

/-! ## Reset episodes (R424–R429) -/

/-- What the assertion of a cold or warm reach does (R425, R451): registers take their columns, hidden state is lost but for
what the retention table keeps, and the supply monitors' LIVE bits go on showing the supplies. -/
def State.enterReset (s : State) (cold : Bool) : State :=
  let live := s.get Fd.PWR_SUPSTAT_LIVE
  let rst : ResetS := { s.rst with held := [], pulsed := [], target := none, wakeLatched := none, pwroff := false, waiting := [],
                                   roleTo := none, due := none, deep := false }
  if cold then
    let pulls := fun (k : Nat) => if Rg.EY 6 ≤ k ∧ k < Rg.EY 128 then tabGet 0 s.fuses.regs k else 0
    let s1 := (s.regColumns (fun f => f.cold) pulls).set Fd.PWR_SUPSTAT_LIVE live
    { s1 with mem := [], hub := {}, icu := {}, time := {}, rst := rst, pace := {}, last := {}, pict := {}, fetch := {}, lanes := {},
              welt := {}, tongue := {}, sec := {}, cores := [], move := {}, audio := {}, panel := {}, eyes := [], pers := [], dbg := {} }
  else
    let keep := roleDomains (s.get Fd.RST_STRAP_ROLE) false
    let s0 := (List.range 20).foldl (fun (a : State) (d : Nat) => if nbit keep d then a else a.domainOff d) s
    let s1 := if s0.domOn 11 then s0.selfRefresh else s0
    let s2 := ((s1.regColumns (fun f => f.warm) (fun k => tabGet 0 s.fuses.regs k)).set Fd.PWR_SUPSTAT_LIVE live).loseLasts false
    let s3 := { s2 with
      hub := { s.hub with reacting := [], stopping := false }, icu := {}, time := { now := s.time.now }, rst := rst, last := {},
      pict := {}, fetch := { s1.fetch with granted := [], waiting := [], served := 7 }, lanes := {}, welt := {},
      tongue := {}, sec := {}, cores := [], move := {}, audio := {}, panel := {}, eyes := [], pers := [], dbg := {} }
    s3.loopReset s

/-- A source of cold or warm reach asserts: it begins or joins an episode (R424, R425). During a fuse write it waits (R468). -/
def State.assertReset (s : State) (r : ResetSrc) : State :=
  if s.sec.fuse.isSome then
    { s with rst := { s.rst with waiting := if s.rst.waiting.contains r then s.rst.waiting else s.rst.waiting ++ [r] } }
  else
    let first := !s.inEpisode
    let joined := s.rst.unitJoined || (first && (!s.rst.held.isEmpty || !s.rst.pulsed.isEmpty))
    let s1 := if first || (resetCold r && !s.rst.causes.any resetCold) then s.enterReset (resetCold r) else s
    let add := fun (l : List ResetSrc) => if l.contains r then l else l ++ [r]
    { s1 with rst := { s1.rst with asserted := add s.rst.asserted, causes := add s.rst.causes, unitJoined := joined } }

/-- Supplies of a mask are below their reset level (R423); VDDQ's loses the contents of GDDR7 (R429). -/
def State.supplyDown (s : State) (mask : Nat) : State :=
  { s with rst := { s.rst with supDown := Nat.lor s.rst.supDown mask, vddq := s.rst.vddq || nbit mask 2 } }

/-- The DONE of a DEVICE_RESET is not on its reply ring yet (R433). -/
def State.doneHeld (s : State) (src : Src) : Bool :=
  (ringKeys src).isSome && s.tongue.replies.any (fun r => r.src == src && r.first)

/-- The source that a DEVICE_RESET asserts, and every other one that a row of its own does not assert (R425, R433). -/
def State.resetEvent (s : State) (r : ResetSrc) : State :=
  match r with
  | .cmdcold | .cmdwarm =>
    (match s.rst.due with
     | some (q, src) => if q ≠ r ∨ s.doneHeld src = true then s else ({ s with rst := { s.rst with due := none } }).assertReset r
     | none => s)
  | .fatalCold => if s.hub.stopping && s.flag Fd.RST_STRAP_FATALREACH then s.assertReset r else s
  | .fatalWarm => if s.hub.stopping && !s.flag Fd.RST_STRAP_FATALREACH then s.assertReset r else s
  | .devwdt => if s.flag (Fd.TIME_WD_CTL_EN 4) && s.get (Fd.TIME_WD_CNT_REMAIN 4) == 0 then s.assertReset r else s
  | .por => s.assertReset r
  | .supcold => if s.get Fd.PWR_SUPSTAT_LIVE % 4 != 0 then s.assertReset r else s
  | .supwarm =>
    let low := s.get Fd.PWR_SUPSTAT_LIVE / 4 * 4
    if low = 0 then s else (s.assertReset r).supplyDown low
  | .pin => s.assertReset r

/-- The cause that the backup block counts (R428): of the widest reach, the lowest rank. -/
def countedCause (l : List ResetSrc) : Option ResetSrc :=
  let wide := if l.any resetCold then l.filter resetCold else l
  wide.foldl (fun a r => match a with
    | none => some r
    | some b => if resetRank r < resetRank b then some r else a) none

/-- Step 1 of R426 (R434): the fuse map loads and the straps E0–E5 are sampled. -/
def State.releaseCold (s : State) (straps : Nat) : State :=
  let s1 := ((s.loadFuses.set Fd.RST_STRAP_BOOTSRC straps).set Fd.RST_STRAP_CLKMODE (straps / 4)).set Fd.RST_STRAP_ROLE (straps / 16)
  if s.rst.bakLost && s.rst.causes.contains .por then
    { s1.set Fd.RST_CAUSE_BAKLOST 1 with rst := { s1.rst with bakLost := false } }
  else s1

/-- Step 2 of R426 (R427, R428, R441). -/
def State.releaseCause (s : State) (cold : Bool) : State :=
  let s1 := s.rst.causes.foldl (fun (a : State) (r : ResetSrc) => a.set (resetCause r) 1) (s.setRegN Rg.RST_CAUSE (s.regN Rg.RST_CAUSE / 2 ^ 12 * 2 ^ 12))
  let s2 := (s1.setB Fd.RST_CAUSE_UNIT s.rst.unitJoined).setB Fd.RST_CAUSE_COLD cold
  let s3 := match countedCause s.rst.causes with
    | some r => s2.bump (resetCounter r) 127
    | none => s2
  let base := if s3.flag Fd.RST_CAUSE_BAKLOST || s3.flag Fd.RST_CAUSE_OSCFAIL then 0 else s3.rst.slow * 1953125 / 1024 % timeMod
  if cold then { s3 with time := { s3.time with now := base } } else s3

/-- Step 4 of R426 for the memory (R282, R287, R429). -/
def State.releaseMem (s : State) (cold : Bool) : State :=
  let key := s.effChannels * 2 + b2n s.effLinear
  if !s.domOn 11 || !s.domOn 6 then s
  else if cold || s.rst.vddq || s.fetch.mapKey != some key || !s.fetch.training.isEmpty then s.startTraining
  else (((s.set Fd.MEM_STAT_CHEFF s.effChannels).setB Fd.MEM_STAT_MAPLIN s.effLinear).set Fd.MEM_STAT_CAPU s.fetch.capu).exitRefresh.writeCap

/-- Step 4 of R426 for the ports (R310): every port takes its mode and trains. -/
def State.releasePorts (s : State) (cold : Bool) : State :=
  let b := s.get Fd.RST_STRAP_BOOTSRC
  let s1 := if !cold then s
    else if b = 2 then s.set (Fd.EYE_WP_CFG_MODE 0) 2
    else if b = 3 ∨ s.get Fd.RST_STRAP_CLKMODE = 2 then s.set (Fd.EYE_WP_CFG_MODE 0) 1 else s
  (List.range 8).foldl (fun a p => a.portStart p) s1

/-- The release of an episode (R426). -/
def State.releaseReset (s : State) (straps : Nat) : State :=
  let cold := s.rst.causes.any resetCold
  let s1 := if cold then s.releaseCold straps else s
  let s2 := s1.releaseCause cold
  let set := s2.roleSet
  let s3 := ((s2.set Fd.PWR_DOMREQ_REQ set).set Fd.PWR_DOMON_ON set).runState
  let s4 := (s3.releaseMem cold).releasePorts cold
  ({ s4 with rst := { s4.rst with asserted := [], causes := [], unitJoined := false, vddq := false } }).bootStart

/-- May a source drop: a supply source, once the supplies that assert it are above their warning levels (R423)? -/
def State.mayDrop (s : State) (r : ResetSrc) : Bool :=
  match r with
  | .por | .supcold => s.get Fd.PWR_SUPSTAT_LIVE % 4 == 0
  | .supwarm => Nat.land (s.get Fd.PWR_SUPSTAT_LIVE) s.rst.supDown == 0
  | _ => true

/-- A source drops; with the last one the episode releases (R424). -/
def State.dropReset (s : State) (r : ResetSrc) (straps : Nat) : State :=
  if !s.rst.asserted.contains r || !s.mayDrop r then s
  else
    let left := s.rst.asserted.filter (fun x => x != r)
    let s1 := if r = .supwarm then { s with rst := { s.rst with supDown := 0 } } else s
    if left.isEmpty then s1.releaseReset straps else { s1 with rst := { s1.rst with asserted := left } }

/-! ## Supplies and the backup block (R437–R441) -/

/-- A supply is below its warning level for 200 ns (R438). In an episode the hub and the interrupt controller are in reset. -/
def State.supplyWarn (s : State) (n : Nat) : State :=
  let s1 := s.set Fd.PWR_SUPSTAT_LIVE (Nat.lor (s.get Fd.PWR_SUPSTAT_LIVE) (2 ^ n))
  let s2 := if s.rst.causes.any resetCold then s1 else s1.set Fd.PWR_SUPSTAT_WARN (Nat.lor (s.get Fd.PWR_SUPSTAT_WARN) (2 ^ n))
  if s.inEpisode then s2 else (s2.raise 2).report (uSupply n) 0x09 1 0

/-- A supply is below its reset level for 1 µs (R438): VCORE and VSRAM reset cold, the others warm. -/
def State.supplyReset (s : State) (n : Nat) : State :=
  if !nbit (s.get Fd.PWR_SUPSTAT_LIVE) n then s
  else
    if n < 2 then s.assertReset .supcold else (s.assertReset .supwarm).supplyDown (2 ^ n)

/-- A supply is above its warning level again. -/
def State.supplyBack (s : State) (n : Nat) : State :=
  s.set Fd.PWR_SUPSTAT_LIVE (putBits (s.get Fd.PWR_SUPSTAT_LIVE) n 1 0)

/-- VANA and VBAK fall below 1.5 V (R439): the backup block loses its contents. -/
def State.backupLost (s : State) : State :=
  let s1 := ((((s.set Fd.RST_BAKCNT_FATAL 0).set Fd.RST_BAKCNT_WDT 0).set Fd.RST_BAKCNT_POWER 0).set Fd.RST_BAKCNT_EXT 0)
  { s1.set Fd.RST_CAUSE_OSCFAIL 0 with rst := { s1.rst with slow := 0, frac := 0, bakLost := true } }

/-! ## Unit resets (R430, R431) -/

/-- The ownership domain of a unit (R410, R430). -/
def unitOwner (u : Nat) : Nat :=
  match u / 1024 with
  | 0x01 => 36 + u % 1024
  | 0x02 => 20 + u % 1024
  | 0x03 | 0x0A => 11
  | 0x04 => 13
  | 0x05 => 14
  | 0x06 => 15
  | 0x07 => 16
  | 0x08 => 17
  | 0x09 => 18
  | _ => 10

/-- The power domain of a unit (R15). -/
def unitDomain (u : Nat) : Nat :=
  match u / 1024 with
  | 0x01 | 0x02 => solegOf (u % 1024)
  | 0x03 => lanegOf (u % 1024)
  | 0x04 => awlDomOf (u % 1024)
  | 0x05 | 0x06 => 16
  | 0x07 => 17
  | 0x08 => 18
  | 0x09 => 19
  | 0x0A => 12
  | _ => 11

/-- The registers whose Unit column a unit reset applies (R431). -/
def unitKeys (u : Nat) : List Nat :=
  let n := u % 1024
  match u / 1024 with
  | 0x01 => [Rg.FETCH_SL_STAT n, Rg.FETCH_SL_LAT n, Rg.FETCH_SL_LINE n, Rg.SL_PACE n, Rg.SL_SLACK n, Rg.SL_SLACKCNT n]
  | 0x02 => [Rg.HD_STAT n, Rg.HD_LLSEL n, Rg.HD_LLSTAT n, Rg.HD_COMMIT n, Rg.HD_WBCTL n, Rg.LAST_HD_SEL n, Rg.LAST_HD_CLIP n]
  | 0x03 => [Rg.EYE_WP_CFG n, Rg.EYE_WP_STAT n, Rg.DP_WP_STAT n] ++
      ([0, 1, 2, 3].map (fun i => [Rg.EYE_L_CFG (4 * n + i), Rg.EYE_L_STAT (4 * n + i), Rg.EYE_L_ERR (4 * n + i), Rg.EYE_L_SCAN (4 * n + i)])).flatten ++
      (List.range 28).map (fun k => (Fd.WELT_WP_CNT_COUNT n k).key)
  | 0x04 => [Rg.AWL_CFG n, Rg.AWL_STAT n, Rg.AWL_PC n, Rg.AWL_ISP n, Rg.AWL_ISPLIM n, Rg.AWL_EINFO n, Rg.AWL_PACE n,
      Rg.TONGUE_A_RING n, Rg.TONGUE_A_CPTR n, Rg.TONGUE_A_RPTR n]
  | 0x05 => [Rg.LACE_CH_CTL n, Rg.LACE_CH_STAT n]
  | 0x06 => [Rg.SKIVER_CTL, Rg.SKIVER_STAT, Rg.SKIVER_CMDCNT, Rg.SKIVER_CURLO, Rg.SKIVER_CURHI]
  | 0x07 => [Rg.AUD_CTL, Rg.AUD_STAT, Rg.AUD_KEY] ++ (List.range 8).map Rg.AUD_OB_STAT ++ (List.range 4).map Rg.AUD_RX_STAT
  | 0x08 => [Rg.INS_FE_CTL n, Rg.INS_FE_STAT n]
  | 0x09 => [Rg.SHK_CTL, Rg.SHK_STAT, Rg.SHK_LIMIT] ++ (List.range 4).map Rg.SHK_HT_S
  | _ => []

/-- A fenced unit's state stays what its fence makes it (R690, R691): a unit reset does not lift a fence. -/
def State.refence (s : State) (u : Nat) : State :=
  if !s.fenced u then s
  else match u / 1024 with
    | 0x03 => s.set (Fd.EYE_WP_STAT_STATE (u % 1024)) 3
    | 0x04 => s.set (Fd.AWL_STAT_STATE (u % 1024)) 4
    | 0x05 => s.set (Fd.LACE_CH_STAT_STATE (u % 1024)) 4
    | 0x06 => s.set Fd.SKIVER_STAT_STATE 5
    | _ => s

/-- What the assertion of a unit reset does (R114, R185, R232, R242, R252, R431, R515, R549, R567, R645, R657). -/
def State.unitAssert (s : State) (u : Nat) : State :=
  let n := u % 1024
  let regs := fun (a : State) => (unitKeys u).foldl (fun (b : State) (k : Nat) => b.unitReg k) a
  (match u / 1024 with
  | 0x01 =>
    let hs := (List.range 16).filter (fun h => (s.runSoles h).contains n)
    hs.foldl (fun (a : State) (h : Nat) => a.dropCur h) ((regs s).loseSole n)
  | 0x02 =>
    let v := s.headS n
    let s1 := (regs (((s.wbDrop n).wbDropTail n).headStopNow n)).loseHead n { frame := v.frame, applied := v.applied }
    let s2 := (s1.copyKeys 0 frameBase (lineKeys n)).copyKeys 0 activeBase (lineKeys n ++ settingKeys n)
    let s3 := if v.wb.isSome || v.wbTail != 0 then s2.set (Fd.HD_WBCTL_DROP n) 1 else s2
    ((s3.markEdges n (s.get (Fd.HD_MARK_MARK n).act)).dropCur n).evalFits
  | 0x03 =>
    let s1 := if n = 0 ∧ s.flag Fd.PCIE_STAT_LINKUP = true then s.linkDown else s
    ((regs ((s1.weltPortLost n).lanesIdle n)).dpAbandon n).setPortState n 0
  | 0x04 => (regs ((s.loseCore n).endSession (.core (Fin.ofNat 4 n)))).set (Fd.TIME_WD_CTL_EN n) 0
  | 0x05 => { regs (s.dropBus (256 + n)) with move := { s.move with lace := tabErase s.move.lace n } }
  | 0x06 => { regs (s.dropBus 0x11) with move := { s.move with skiver := {} } }
  | 0x07 => { regs s with audio := {} }
  | 0x08 => { regs s with panel := { s.panel with fes := tabErase s.panel.fes n } }
  | 0x09 => { regs s with panel := { s.panel with applied := [], pwm := [], heaters := [], hot := false } }
  | 0x0A =>
    let s1 := { s with pict := { s.pict with prx := tabErase s.pict.prx n } }
    (s1.set (Fd.WELT_PRX_STAT_STATE n) 0).set (Fd.WELT_PRX_STAT_OVR n) 0
  | 0x0B => (s.trainChannel n)
  | _ => s).refence u

/-- What the release of a unit reset starts (R232, R431). -/
def State.unitRelease (s : State) (u : Nat) : State :=
  let n := u % 1024
  match u / 1024 with
  | 0x02 =>
    if !s.flag (Fd.HD_CTL_RUN n) then s
    else if s.headTimingOk n then s.headGo n
    else (s.set (Fd.HD_CTL_RUN n) 0).set (Fd.HD_STAT_CTLERR n) 1
  | 0x03 => s.portStart n
  | 0x0B => s.trainChannel n
  | _ => s

/-- UNIT_RESET (R430), after the length and unit checks of R387. -/
def State.unitReset (s : State) (r : Req) (o : Nat) (p : Packet) : State :=
  let u := p.sel
  let act := p.w 2 % 4
  if u / 1024 = 0 ∨ act = 3 ∨ (act = 2 ∧ s.rst.held.contains u = false) then s.answer r 0x15 []
  else if !s.mayWrite o (unitOwner u) then s.answer r 0x12 []
  else if !s.domOn (unitDomain u) then s.answer r 0x13 []
  else if act = 2 then
    let s1 := { s with rst := { s.rst with held := s.rst.held.filter (fun x => x != u) } }
    (if s1.rst.pulsed.contains u then s1 else s1.unitRelease u).answer r 0 []
  else
    let s1 := s.unitAssert u
    if act = 1 then ({ s1 with rst := { s1.rst with held := setAdd s1.rst.held u } }).answer r 0 []
    else { s1 with rst := { s1.rst with pulsed := setAdd s1.rst.pulsed u }, tongue := { s1.tongue with resets := s1.tongue.resets ++ [(u, r)] } }

/-- A pulsed unit reset ends after 10 µs (R430, R431). -/
def State.unitEnd (s : State) (u : Nat) : State :=
  if !s.rst.pulsed.contains u then s
  else
    let s1 := { s with rst := { s.rst with pulsed := s.rst.pulsed.filter (fun x => x != u) } }
    let s2 := if s1.rst.held.contains u then s1 else s1.unitRelease u
    let due := s2.tongue.resets.filter (fun e => e.1 == u)
    due.foldl (fun (a : State) (e : Nat × Req) => a.answerFirst e.2 0 [])
      { s2 with tongue := { s2.tongue with resets := s2.tongue.resets.filter (fun e => e.1 != u) } }

/-! ## DEVICE_RESET (R432, R433) -/

/-- DEVICE_RESET, after the length check of R387. -/
def State.deviceReset (s : State) (r : Req) (o : Nat) (p : Packet) : State :=
  let w := p.w 2
  if !s.mayWrite o 3 then s.answer r 0x12 []
  else if nbits w 15 4 ≠ 0x3E5 ∨ nbits w 3 1 ≠ 0 ∨ w / 65536 ≠ 0 then s.answer r 0x15 []
  else { s.answer r 0 [] with rst := { s.rst with due := some (if nbit w 0 then .cmdcold else .cmdwarm, r.src) } }

/-! ## Power states (R446–R449) -/

/-- A head holds or awaits a Last (R447). -/
def State.headsBusy (s : State) : Bool :=
  (List.range 16).any (fun h => s.curv h || s.flag (Fd.LAST_HD_SEL_NEXTEN h))

/-- POWER_STATE (R447), after the length check of R387. -/
def State.powerState (s : State) (r : Req) (o : Nat) (p : Packet) : State :=
  let t := p.w 2 % 8
  let sg := nbits (p.w 2) 7 4
  let st := s.get Fd.PWR_STATE_STATE
  let req := s.get Fd.PWR_DOMREQ_REQ
  let want := if t = 0 then Nat.lor req s.roleSolegs else req - Nat.land req (sg * 2 ^ 7)
  let begin_ := fun (a : State) => ({ a.set Fd.PWR_STATE_BUSY 1 with
    rst := { a.rst with target := some t, wakeLatched := none, deep := false },
    tongue := { a.tongue with power := some r } }).answer r 0x01 []
  if !s.mayWrite o 3 then s.answer r 0x12 []
  else if 4 < t ∨ (t = 1 ∧ sg = 0) then s.answer r 0x15 []
  else if s.flag Fd.SYS_ROLE_BUSY || s.flag Fd.PWR_STATE_BUSY then s.answer r 0x14 []
  else if (2 ≤ t ∧ s.headsBusy = true) ∨ (t = 1 ∧ (List.range 4).any (fun g => nbit sg g && s.solegRunning g) = true) then s.answer r 0x14 []
  else if t ≤ 1 then
    if st ≤ 1 then
      if want ≠ req ∧ s.domreqBad want = true then (s.set Fd.PWR_STATE_ERR 1).answer r 0x14 []
      else begin_ (((s.set Fd.PWR_DOMREQ_REQ want).setDomains want).runState)
    else begin_ (s.set Fd.PWR_DOMREQ_REQ want)
  else begin_ s

/-- Entry to NAP (R448): domains off, GDDR7 in self-refresh, ports idle but for a PCI Express link, time lock and picture
receivers lost (R451). -/
def State.enterNap (s : State) : State :=
  let s1 := s.setDomains (Nat.land (s.get Fd.PWR_DOMON_ON) 0x0F87F)
  let s2 := if s1.domOn 11 then s1.selfRefresh else s1
  let s3 := (List.range 8).foldl (fun (a : State) (p : Nat) =>
    if !a.domOn (lanegOf p) || a.portMode p == 2 then a
    else ((((a.weltPortLost p).dpAbandon p).clearRemaps p).lanesIdle p).setPortState p 0) s2
  let s4 := if s3.domOn 12 then
      let a := (((s3.set Fd.WELT_TIMESTAT_STATE 0).set Fd.WELT_TIMESTAT_HOPS 31).modWelt (fun w => { w with delay := 0, t1 := none, good := 0, corr := 0 }))
      (List.range 4).foldl (fun (b : State) (k : Nat) => b.set (Fd.WELT_PRX_STAT_STATE k) 0) { a with pict := { a.pict with prx := [] } }
    else s3
  { s4.set Fd.PWR_STATE_STATE 2 with rst := { s4.rst with slowAt := s4.rst.slow } }

/-- Exit from NAP (R449). -/
def State.exitNap (s : State) : State :=
  let s1 := (s.setDomains (s.get Fd.PWR_DOMREQ_REQ))
  let s2 := if s1.domOn 11 then s1.exitRefresh else s1
  ((List.range 8).foldl (fun (a : State) (p : Nat) => if a.portMode p = 2 then a else a.portStart p) s2).runState

/-- Entry to STOW after NAP (R442, R448). -/
def State.enterStow (s : State) (off : Bool) : State :=
  let s1 := (s.setDomains 3).set Fd.PWR_STATE_STATE 3
  { s1 with rst := { s1.rst with slowAt := s1.rst.slow, pwroff := off } }

/-- Exit from STOW (R442, R449): the time base steps by the slow cycles counted, and steps 3 to 5 of R426 run. -/
def State.exitStow (s : State) : State :=
  let n := (s.rst.slow + 2 ^ 48 - s.rst.slowAt) % 2 ^ 48
  let s1 := { s with rst := { s.rst with pwroff := false } }.stepTime (s.time.now + n * 1953125 / 1024)
  ((s1.setDomains (s1.get Fd.PWR_DOMREQ_REQ)).runState).bootStart

/-- The exit to RUN or DIM starts. -/
def State.wakeBegin (s : State) (code : Nat) : State :=
  { s.set Fd.PWR_STATE_BUSY 1 with rst := { s.rst with target := some 0, wakeLatched := some code, deep := false } }

/-- A transition reaches its state: BUSY clears and its completion is sent (R447); a wake that came during entry starts the
exit at once (R449). -/
def State.powerEnd (s : State) (deeper : Bool) : State :=
  let w := s.rst.wakeLatched
  let s1 := { s.set Fd.PWR_STATE_BUSY 0 with
    rst := { s.rst with target := if deeper then s.rst.target else none, wakeLatched := if deeper then w else none, deep := deeper },
    tongue := { s.tongue with power := none } }
  match s.tongue.power with
  | some r => s1.answer r 0 []
  | none => s1

/-- POWER_STATE_DONE: the transition in progress reaches its state (R447–R449). -/
def State.powerDone (s : State) : State :=
  let st := s.get Fd.PWR_STATE_STATE
  match s.rst.target with
  | none => s
  | some t =>
    let w := s.rst.wakeLatched
    let wake := fun (a : State) => match w with
      | some c => if c = 5 ∧ a.get Fd.PWR_STATE_STATE ≠ 2 then a else a.wakeBegin c
      | none => a
    if t ≤ 1 then
      let s1 := if st = 2 then s.exitNap else if st = 3 then s.exitStow else s
      (if 2 ≤ st then s1.set Fd.PWR_STATE_WAKESRC (w.getD 6) else s1).powerEnd false
    else if t = 2 then wake ((if st = 2 then s else s.enterNap).powerEnd false)
    else if !s.rst.deep then (if st = 2 then s else s.enterNap).powerEnd true
    else
      let s1 := s.enterStow (t == 4)
      wake { s1 with rst := { s1.rst with target := none, deep := false, wakeLatched := none } }

/-- The ALARM delay has passed (R449). -/
def State.alarmDue (s : State) : Bool :=
  let a := s.get Fd.PWR_WAKE_ALARM
  a != 0 && decide (a * 32 ≤ (s.rst.slow + 2 ^ 48 - s.rst.slowAt) % 2 ^ 48)

/-- Is a wake source enabled now (R449, R458)? -/
def State.wakeOn (s : State) (w : WakeSrc) : Bool :=
  match w with
  | .ewake => s.flag Fd.PWR_WAKE_EWAKE
  | .alarm => s.flag Fd.PWR_WAKE_ALMEN && decide (2 ≤ s.get Fd.PWR_STATE_STATE) && s.alarmDue
  | .tcs => s.flag Fd.PWR_WAKE_TCS
  | .dbg => s.flag Fd.PWR_WAKE_DBG
  | .pcie => s.isPcie && s.flag Fd.PCIE_STAT_LINKUP

/-- WAKESRC of a wake source (R456). -/
def wakeCode : WakeSrc → Nat
  | .ewake => 1 | .alarm => 2 | .tcs => 3 | .dbg => 4 | .pcie => 5

/-- A wake event (R449): during entry it is kept, in NAP or STOW the exit starts. PCI Express wakes from NAP alone. -/
def State.wake (s : State) (w : WakeSrc) : State :=
  if !s.wakeOn w then s
  else match s.rst.target with
    | some t => if 2 ≤ t ∧ s.rst.wakeLatched = none then { s with rst := { s.rst with wakeLatched := some (wakeCode w) } } else s
    | none =>
      let st := s.get Fd.PWR_STATE_STATE
      if st = 2 ∨ (st = 3 ∧ w ≠ .pcie) then s.wakeBegin (wakeCode w) else s

/-! ## Roles (R19–R25) -/

/-- Would a write of SYS_ROLE break R22? -/
def State.roleBad (s : State) : Bool :=
  s.headsBusy || (List.range 8).any (fun n => s.slotState n == 2) || !s.last.copies.isEmpty || s.flag Fd.SYS_ROLE_BUSY ||
    s.get Fd.PWR_STATE_STATE != 0

/-- A write of SYS_ROLE (R21–R25). -/
def State.writeRole (s : State) (v : Nat) : State :=
  let s0 := if nbit v 6 then s.set Fd.SYS_ROLE_ROLEERR 0 else s
  let ovr := v % 8
  let new := (s0.set Fd.SYS_ROLE_OVR ovr).set Fd.SYS_ROLE_HEELEN (nbits v 5 5)
  let same := new.role == s.role && (new.role != 2 || new.flag Fd.SYS_ROLE_HEELEN == s.flag Fd.SYS_ROLE_HEELEN)
  if 4 < ovr then s0.set Fd.SYS_ROLE_ROLEERR 1
  else if same then new
  else if s.roleBad then s0.set Fd.SYS_ROLE_ROLEERR 1
  else { new.set Fd.SYS_ROLE_BUSY 1 with rst := { new.rst with roleTo := some new.roleSet } }

/-- The role's channels are not those of the last training: the effective set or map has changed, and the memory trains
again (R19, R277, R281, R282; log entry 56). -/
def State.refit (s : State) : State :=
  if s.domOn 11 && s.domOn 6 && s.fetch.mapKey != some (s.effChannels * 2 + b2n s.effLinear) then s.startTraining else s

/-- The domain changes of a role change end (R23): added domains power on first, then dropped ones power off. -/
def State.roleDone (s : State) : State :=
  match s.rst.roleTo with
  | none => s
  | some v =>
    let s1 := s.set Fd.PWR_DOMREQ_REQ v
    let s2 := s1.setDomains (Nat.lor (s1.get Fd.PWR_DOMON_ON) v)
    let s3 := (s2.setDomains v).runState
    let s4 := s3.refit
    ({ s4.set Fd.SYS_ROLE_BUSY 0 with rst := { s4.rst with roleTo := none } }).raise 0

end Sys2Proof.Machine
end

