-- ==== Sys2Proof/Machine/Debug.lean ====
section
/-! DEFINITION. The debug port (23_debug.md R702–R716): frames, the unlock, and the run control that its registers command.
Halting and the watchpoints are in RunCtl. -/
namespace Sys2Proof.Machine

/-! ## Resume, step and relock (R713–R716) -/

/-- A core in HALTED runs again; a LOCK exception that waited is entered (R714, R715). -/
def State.resumeCore (s : State) (n : Nat) : State :=
  if s.coreState n ≠ 3 then s
  else
    let s1 := s.set (Fd.AWL_STAT_STATE n) 2
    if (s1.core n).lockExc then (s1.setCore n { s1.core n with lockExc := false }).enter n 3 (s1.pcOf n) 0 0 (s1.pcOf n) else s1

/-- On resume the count of a running watchdog is at least a quarter of its period (R657). -/
def State.wdThaw (s : State) : State :=
  (List.range 5).foldl (fun a n =>
    if a.flag (Fd.TIME_WD_CTL_EN n) then a.raiseTo (Fd.TIME_WD_CNT_REMAIN n) (max 1 (a.get (Fd.TIME_WD_CTL_PERIOD n)) * 65536 / 4) else a) s

/-- Every frozen unit thaws (R715); `beam` is each head's beam position then (R186). -/
def State.thaw (s : State) (beam : List (Nat × Nat)) : State :=
  let s1 := { ((s.set Fd.DBG_RUN_HALTED 0).set Fd.DBG_RUN_HALTREQ 0).set Fd.DBG_RUN_CAUSE 0 with dbg := { s.dbg with step := none, stepped := false } }
  let s2 := (List.range 4).foldl (fun a n => a.resumeCore n) s1
  if s.halted then (s2.headsResume beam).loopResume.wdThaw else s2

/-- A write of DBG_RUN (R713, R715, R716). -/
def State.writeRun (s : State) (v : Nat) (beam : List (Nat × Nat)) : State :=
  let s1 := s.plainWrite Rg.DBG_RUN v
  let s2 := if nbit v 27 then (if s1.flag Fd.DBG_RUN_HALTREQ then s1 else s1.haltRequest 0) else if nbit v 26 && s1.halted then s1.thaw beam else s1
  if nbit v 25 then
    let c := nbits v 24 23
    if s2.halted && s2.coreState c == 3 && s2.dbg.step.isNone then { s2 with dbg := { s2.dbg with step := some c, stepped := false } }
    else s2.set Fd.DBG_RUN_ERR 1
  else s2

/-- The stepped instruction completes (R713, R716). -/
def State.stepDone (s : State) : State :=
  if s.dbg.step.isSome && s.dbg.stepped then
    { (s.set Fd.DBG_RUN_STEPDONE 1).set Fd.DBG_RUN_CAUSE (Nat.lor (s.get Fd.DBG_RUN_CAUSE) 8) with
      dbg := { s.dbg with step := none, stepped := false } }
  else s

/-- A step that does not complete within 10 µs is abandoned without effect (R716). -/
def State.stepStall (s : State) : State :=
  if s.dbg.step.isSome && !s.dbg.stepped then
    { s.set Fd.DBG_RUN_STEPSTALL 1 with dbg := { s.dbg with step := none, stepped := false } }
  else s

/-- The port locks (R710): a halt ends as a resume, and every watchpoint is off. -/
def State.relock (s : State) (beam : List (Nat × Nat)) : State :=
  let s1 := s.set Fd.DBG_STAT_UNLOCKED 0
  let s2 := if s1.halted || s1.flag Fd.DBG_RUN_HALTREQ then s1.thaw beam else s1
  (List.range 36).foldl (fun (a : State) (i : Nat) => a.set (Fd.WPCTL_ACT i) 0) s2

/-- A write of DBG_CTL (R721). -/
def State.writeDbgCtl (s : State) (v : Nat) (beam : List (Nat × Nat)) : State :=
  let s1 := s.plainWrite Rg.DBG_CTL v
  if nbit v 27 then s1.relock beam else s1

/-- The watchpoint that an owner's DBG_WPIDX selects (R724): 8 × core + number, or 32 and up; none for a bus watchpoint 4–7. -/
def State.wpSel (s : State) (o : Nat) : Option Nat :=
  let num := s.get (Fd.WPIDX_C_NUM o)
  if s.get (Fd.WPIDX_C_KIND o) = 0 then some (8 * s.get (Fd.WPIDX_C_CORE o) + num)
  else if num < 4 then some (32 + num) else none

/-- Register `i` (0–3) of a watchpoint: DBG_WPCTL, DBG_WPADDRLO, DBG_WPADDRHI, DBG_WPVAL. -/
def wpKey (w i : Nat) : Nat :=
  match i with
  | 0 => Rg.WPCTL w | 1 => Rg.WPLO w | 2 => Rg.WPHI w | _ => Rg.WPVAL w

/-! ## Pulses on the pin (R703) -/

/-- A pulse shorter than 50 µs also wakes the device (R703, R449). -/
def State.dbgPulse (s : State) : State := s.wake .dbg

/-- A framing error (R703, R705). -/
def State.framingError (s : State) : State := s.set Fd.DBG_STAT_FRERR 1

/-! ## Frames (R705–R710) -/

/-- Can the decoder take a frame: outside an episode and STOW (R703)? -/
def State.dbgListens (s : State) : Bool := !s.inEpisode && s.get Fd.PWR_STATE_STATE != 3

/-- CRC-16 of R705: polynomial 0x1021, initial value 0xFFFF, no reflection, no final XOR. -/
def crc16 (bs : List Nat) : Nat :=
  bs.foldl (fun c b => (List.range 8).foldl (fun c i =>
    let d := c * 2 % 2 ^ 16
    if c / 2 ^ 15 = b / 2 ^ (7 - i) % 2 then d else Nat.xor d 0x1021) c) 0xFFFF

/-- Is the CRC of a request right for its OP and payload (R705)? -/
def dbgCrcOk (op : Nat) (pl : List Byte) (crc : BitVec 16) : Bool :=
  crc16 ([op, pl.length / 256 % 256, pl.length % 256] ++ pl.map BitVec.toNat) == crc.toNat

/-- The response frame of R705: marker, STATUS, LEN, the data and the CRC over all but the marker. -/
def dbgResponse (status : Nat) (data : List Nat) : BusAns :=
  let body := [status, data.length / 256 % 256, data.length % 256] ++ data
  .frame ([0xA5] ++ body ++ [crc16 body / 256, crc16 body % 256])

/-- A debug operation is answered. -/
def State.dbgAnswer (s : State) (status : Nat) (data : List Nat) : State := { s with bus := dbgResponse status data }

/-- What a request meets before its operation: a wrong CRC (R705), then a LEN outside its range (R706). -/
def State.dbgFrame (s : State) (crcOk lenOk : Bool) (f : State → State) : State :=
  let s1 := s.dbgPulse
  if !s.dbgListens then s1
  else if !crcOk then s1.framingError.dbgAnswer 0x11 []
  else if !lenOk then s1.dbgAnswer 0x11 []
  else f s1

/-- ID (R706): DBG_ID and the serial number. -/
def State.dbgIdOp (s : State) : State :=
  let uid := s.regN Rg.SEC_UIDLO + s.regN Rg.SEC_UIDMID * 2 ^ 28 + s.regN Rg.SEC_UIDHI % 256 * 2 ^ 56
  s.dbgAnswer 0 (leBytes 0x1420B01 4 ++ leBytes uid 8)

/-- CHALLENGE (R708): the nonce is a free value. -/
def State.dbgChallengeOp (s : State) : State :=
  if s.flag Fd.DBG_STAT_DISABLED then s.dbgAnswer 0x15 []
  else if 0 < s.dbg.busy then s.dbgAnswer 0x14 []
  else
    let n := Config.freeValue s.fresh % 2 ^ 256
    ({ s.draw with dbg := { s.dbg with nonce := some n } }).dbgAnswer 0 (leBytes n 32)

/-- UNLOCK_PUT (R709): the first two payload bytes are the offset. -/
def State.dbgPutOp (s : State) (pl : List Nat) : State :=
  let off := beNat (pl.take 2)
  let d := pl.drop 2
  if 5332 < off + d.length then s.dbgAnswer 0x11 []
  else
    let buf := (d.mapIdx (fun i b => (off + i, b % 256))).foldl (fun (t : List (Nat × Nat)) (e : Nat × Nat) => tabPut 0 t e.1 e.2) s.dbg.buf
    ({ s with dbg := { s.dbg with buf := buf } }).dbgAnswer 0 []

/-- The unlock record in the buffer, in the layout of R95. -/
def State.unlockBytes (s : State) (o n : Nat) : List Nat := (List.range n).map (fun i => tabGet 0 s.dbg.buf (o + i))

/-- The 48-byte signed message (R709). -/
def State.unlockMessage (s : State) (nonce : Nat) : List Nat :=
  let uid := s.regN Rg.SEC_UIDLO + s.regN Rg.SEC_UIDMID * 2 ^ 28 + s.regN Rg.SEC_UIDHI % 256 * 2 ^ 56
  [0x44, 0x42, 0x47, 0x55] ++ leBytes uid 8 ++ leBytes nonce 32 ++ s.unlockBytes 0 4

/-- Status of the checks of R710. -/
def State.unlockStatus (s : State) : Nat :=
  match s.dbg.nonce with
  | none => 0x15
  | some nonce =>
    let k := (s.unlockBytes 0 1).headD 0 % 4
    let msg := s.unlockMessage nonce
    let pub := s.unlockBytes 68 1952
    if s.flag Fd.DBG_STAT_DISABLED then 0x15
    else if !nbit (s.get Fd.DBG_STAT_DBGSLOTS) k || s.slotDead k then 0x23
    else if !ed25519Ok (s.keySlot k).edPub (s.unlockBytes 4 64) msg then 0x20
    else if sha3 pub != (s.keySlot k).mlHash || !mldsaOk pub (s.unlockBytes 2020 3309) msg then 0x21
    else 0

/-- UNLOCK_CHECK (R710); the nonce is used up whatever the result (R708). A fenced security engine answers 0x13 (R690). -/
def State.dbgCheckOp (s : State) : State :=
  let st := if s.fenced uSec then 0x13 else s.unlockStatus
  let s1 := { s with dbg := { s.dbg with nonce := none } }
  if st = 0 then ((s1.set Fd.DBG_STAT_UNLOCKED 1).set Fd.DBG_STAT_USLOT ((s.unlockBytes 0 1).headD 0)).dbgAnswer 0 []
  else ({ s1.bump Fd.DBG_STAT_FAILS 15 with dbg := { s1.dbg with busy := 62500000 } }).dbgAnswer st []

end Sys2Proof.Machine
end

