-- ==== Sys2Proof/Machine/MoveRegs.lean ====
section
/-! DEFINITION. What writes of the Lace and Skiver registers and of the watchdog registers do (16_lace.md, 17_skiver.md,
20_interrupts_timers.md). -/
namespace Sys2Proof.Machine

/-! ## Lace channels (R546–R549) -/

def State.lace (s : State) (n : Nat) : LaceS := tabGet {} s.move.lace n
def State.setLace (s : State) (n : Nat) (l : LaceS) : State :=
  { s with move := { s.move with lace := tabPut {} s.move.lace n l } }

/-- STATE of a channel (R553). -/
def State.laceState (s : State) (n : Nat) : Nat := s.get (Fd.LACE_CH_STAT_STATE n)

/-- The clock count at which an access issued now has had TMO × 64 ticks (R546, R547, R551, R566, R569). -/
def State.moveDue (s : State) (tmo : Nat) : Nat := s.move.clock + 64 * max 1 tmo

/-- The first descriptor or the next one is to be read, from `a` (R546, R547). -/
def State.laceChain (s : State) (n a : Nat) : State :=
  s.setLace n { next := a, limit := some (s.moveDue (s.get (Fd.LACE_CH_CTL_TMO n))) }

/-- A channel's hidden state goes: what it read and buffered is discarded (R548). -/
def State.laceClear (s : State) (n : Nat) : State := (s.setLace n {}).dropBus (256 + n)

/-- A channel ends with STATE `st` and end code `err` (R547). -/
def State.laceEnd (s : State) (n st err : Nat) : State :=
  let s1 := (s.set (Fd.LACE_CH_STAT_ERR n) err).laceClear n
  if st = 2 then
    let s2 := (s1.set (Fd.LACE_CH_STAT_STATE n) 2).set (Fd.LACE_CH_STAT_DONEEV n) 1
    if s2.flag (Fd.LACE_CH_CTL_IRQEN n) then s2.raise (144 + n) else s2
  else s1.laceStops n st

/-- A write of LACE_CHn_CTL (R546, R548): ABORT acts on a running channel, GO on one that is IDLE, DONE or HALTED. -/
def State.writeLaceCtl (s : State) (n v : Nat) : State :=
  let st := s.laceState n
  let s1 := s.plainWrite (Rg.LACE_CH_CTL n) v
  if st = 1 then (if nbit v 26 then s1.laceEnd n 3 4 else s1)
  else if nbit v 27 && (st == 0 || st == 2 || st == 3) && !s.fenced (uLace n) && !s.unitInReset (uLace n) then
    let a := s1.get (Fd.LACE_CH_CTL_DESCHI n) * 2 ^ 28 + s1.get (Fd.LACE_CH_DESC_ADDR n) * 64
    (((s1.set (Fd.LACE_CH_STAT_DCOUNT n) 0).set (Fd.LACE_CH_STAT_ERR n) 0).set (Fd.LACE_CH_STAT_STATE n) 1).laceChain n a
  else s1

/-! ## Skiver (R566, R567) -/

def State.skiver (s : State) : SkivS := s.move.skiver
def State.setSkiver (s : State) (k : SkivS) : State := { s with move := { s.move with skiver := k } }
def State.skiverState (s : State) : Nat := s.get Fd.SKIVER_STAT_STATE

/-- The command at `a` is to be read (R555, R566). -/
def State.skiverChain (s : State) (a : Nat) : State :=
  s.setSkiver { next := a, due := some (0, s.moveDue (s.get Fd.SKIVER_CTL_TMO)) }

/-- The list ends: its hidden state and its outstanding requests go. -/
def State.skiverClear (s : State) : State := (s.setSkiver {}).dropBus 0x11

/-- The list ends with STATE `st` and end code `err` (R566, R568). -/
def State.skiverEnd (s : State) (st err : Nat) : State :=
  let s1 := (s.set Fd.SKIVER_STAT_ERR err).skiverClear
  if st = 3 then
    let s2 := (s1.set Fd.SKIVER_STAT_STATE 3).set Fd.SKIVER_STAT_DONEEV 1
    if s2.flag Fd.SKIVER_CTL_IRQEN then s2.raise 176 else s2
  else s1.skiverStops st

/-- A write of SKIVER_CTL (R566, R567). -/
def State.writeSkiverCtl (s : State) (v : Nat) : State :=
  let st := s.skiverState
  let s1 := s.plainWrite Rg.SKIVER_CTL v
  if st = 1 ∨ st = 2 then (if nbit v 26 then s1.skiverEnd 4 4 else s1)
  else if nbit v 27 && (st == 0 || st == 3 || st == 4) && !s.fenced uSkiver && !s.unitInReset uSkiver then
    let a := s1.get Fd.SKIVER_CTL_LISTHI * 2 ^ 28 + s1.get Fd.SKIVER_LIST_ADDR * 64
    (((s1.set Fd.SKIVER_CMDCNT_COUNT 0).set Fd.SKIVER_STAT_ERR 0).set Fd.SKIVER_STAT_STATE 1).skiverChain a
  else s1

/-! ## Watchdogs (R656, R657, R666) -/

/-- Watchdog `n` expires: a core is reset by a 10 µs pulse and a C1 record names it; the device watchdog starts a warm
episode. -/
def State.wdExpire (s : State) (n : Nat) : State :=
  if n = 4 then s.assertReset .devwdt
  else
    let s1 := (s.report (uCore n) 0x31 1 0).unitAssert (uCore n)
    { s1 with rst := { s1.rst with pulsed := setAdd s1.rst.pulsed (uCore n) } }

/-- A write of TIME_WDn_CTL (R656): EN at 1 loads and starts; KEY 0xA5C reloads, another non-zero KEY expires a running
watchdog at once. -/
def State.writeWd (s : State) (n v : Nat) : State :=
  let s1 := s.plainWrite (Rg.TIME_WD_CTL n) v
  let s2 := if nbit v 27 then s1.wdReload n else s1
  let key := v % 4096
  if key = 0 then s2
  else if key = 0xA5C then s2.wdReload n
  else if s2.flag (Fd.TIME_WD_CTL_EN n) then s2.wdExpire n else s2

/-- The warning point of watchdog `n` (R657). -/
def State.wdWarning (s : State) (n : Nat) : State :=
  match s.wdWarnAt n with
  | some w =>
    if s.flag (Fd.TIME_WD_CTL_EN n) && decide (s.get (Fd.TIME_WD_CNT_REMAIN n) ≤ w) && !s.time.wdWarned.contains n && !s.inEpisode then
      let s1 := (s.set (Fd.TIME_WD_CTL_WARNEV n) 1).raise (288 + n)
      { s1 with time := { s1.time with wdWarned := setAdd s1.time.wdWarned n } }
    else s
  | none => s

/-- The expiry of watchdog `n` (R657): its count is zero. -/
def State.wdExpiry (s : State) (n : Nat) : State :=
  if s.flag (Fd.TIME_WD_CTL_EN n) && s.get (Fd.TIME_WD_CNT_REMAIN n) == 0 && !s.inEpisode then s.wdExpire n else s

end Sys2Proof.Machine
end

