-- ==== Sys2Proof/Machine/RegAccess.lean ====
section
/-! DEFINITION. One access of a register in the register window, whoever makes it: which offsets hold registers (R747), what
a read returns and leaves, the owner check (R405–R407) and what a write does. -/
namespace Sys2Proof.Machine

/-! ## Which offsets hold registers (R747) -/

/-- Does an offset of the register window hold a register? -/
def regExists (k : Nat) : Bool := decide (k < 0x1000000) && (specAt k).isSome

/-- Reserved slots: the rest of the allotment of the blocks that declare them (R410, R747). -/
def reservedSlot (k : Nat) : Bool :=
  !regExists k && k % 4 == 0 &&
    [(0x20000, 24), (0x30000, 24), (0x40000, 32), (0x80000, 16), (0x300000, 320), (0x490000, 32), (0x500000, 128), (0x580000, 96),
     (0x590000, 64)].any (fun e => decide (e.1 ≤ k) && decide (k < e.1 + 4 * e.2))

/-- Is `k` an entry of the array of `n` registers `stride` apart from `base`, and which. -/
def inArr (k base n stride : Nat) : Bool := decide (base ≤ k) && decide (k < base + n * stride) && (k - base) % stride == 0
def arrIx (k base stride : Nat) : Nat := (k - base) / stride

/-! ## Reads -/

/-- The channel, source and eyelet that an owner's copies of the index registers select (R409). -/
def State.srcIx (s : State) (o : Nat) : Nat := s.get (Fd.SRCIDX_C_INDEX o)
def State.ownIx (s : State) (o : Nat) : Nat := s.get (Fd.OWNIDX_C_INDEX o)
def State.eyIx (s : State) (o : Nat) : Nat := s.get (Fd.EYIDX_C_INDEX o)
def State.cmpIx (s : State) (o : Nat) : Nat := s.get (Fd.CMPIDX_C_INDEX o)
def State.capIx (s : State) (o : Nat) : Nat := s.get (Fd.CAPIDX_C_INDEX o)

/-- The key that stores an offset for a reader or writer with owner ID `o`: its own copy of an index register (R409), or
the entry that a plain window shows; an access to a window leaves its index as it is (R412). -/
def State.windowKey (s : State) (o k : Nat) : Nat :=
  if k = Rg.TONGUE_OWNIDX then Rg.OWNIDX_C o
  else if k = Rg.TONGUE_OWNDATA then Rg.OWN (s.ownIx o)
  else if k = Rg.ICU_SRCIDX then Rg.SRCIDX_C o
  else if k = Rg.FLT_UIDX then Rg.UIDX_C o
  else if k = Rg.SYS_EYIDX then Rg.EYIDX_C o
  else if k = Rg.TIME_CMPIDX then Rg.CMPIDX_C o
  else if k = Rg.TIME_CMPCTL then Rg.CMPCTL (s.cmpIx o)
  else if k = Rg.TIME_CMPLO then Rg.CMPLO (s.cmpIx o)
  else if k = Rg.TIME_CMPHI then Rg.CMPHI (s.cmpIx o)
  else if k = Rg.TIME_CAPIDX then Rg.CAPIDX_C o
  else if k = Rg.TIME_CAPCTL then Rg.CAPCTL (s.capIx o)
  else if k = Rg.DBG_WPIDX then Rg.WPIDX_C o
  else if k = Rg.WELT_RTDATA then Rg.RT (s.get Fd.WELT_RTIDX_INDEX)
  else k

/-- A register that stands as its fields do: WO fields read as zero (R11). -/
def State.plainRead (s : State) (k : Nat) : Nat := readMask k (s.regN k)

/-- A watchpoint window of the debug block (R724): registers 0 to 3 from DBG_WPCTL. -/
def State.wpRead (s : State) (o i : Nat) : Nat :=
  match s.wpSel o with
  | some w => s.plainRead (wpKey w i)
  | none => 0

/-- What a read of the SYS, FLT, ICU, TIME and DBG blocks returns to master `m` with owner ID `o`. -/
def State.aonRead (s : State) (m o k : Nat) : Nat :=
  if k = Rg.SYS_PERDATA then s.readPer.1
  else if k = Rg.SYS_EYCFG then s.readEycfg (s.eyIx o)
  else if k = Rg.SYS_EYIN then s.readEyin (s.eyIx o)
  else if k = Rg.SYS_EYBANK then s.readEybank
  else if k = Rg.FLT_SUM then s.fltSum
  else if k = Rg.FLT_USTAT then s.fltUstat (s.get (Fd.UIDX_C_INDEX o))
  else if k = Rg.ICU_SRCCFG then s.srcCfg (s.srcIx o)
  else if inArr k (Rg.ICU_PEND 0) 16 4 then s.pendWord (arrIx k (Rg.ICU_PEND 0) 4)
  else if inArr k (Rg.ICU_TGT_CLAIM 0) 5 16 then s.claimVal (arrIx k (Rg.ICU_TGT_CLAIM 0) 16)
  else if inArr k (Rg.ICU_TGT_STAT 0) 5 16 then s.tgtStat (arrIx k (Rg.ICU_TGT_STAT 0) 16)
  else if k = Rg.TIME_LO then s.time.now % 2 ^ 28
  else if k = Rg.TIME_HI then tabGet 0 s.time.hi m
  else if k = Rg.TIME_CAPCTL then s.capCtl (s.capIx o)
  else if k = Rg.TIME_CAPLO then (s.captureRead (s.capIx o)).1
  else if k = Rg.TIME_CAPHI then tabGet 0 s.time.capHi (s.capIx o)
  else if k = Rg.DBG_ID then 0x1420B01
  else if inArr k Rg.DBG_WPCTL 4 4 then s.wpRead o (arrIx k Rg.DBG_WPCTL 4)
  else s.plainRead (s.windowKey o k)

/-- What a read returns of a register whose power domain is off (R450): EYE_WPpCFG and EYE_LnCFG keep a copy,
EYE_WPpSTAT shows STATE OFF, and every other register reads as 0. -/
def State.offRead (s : State) (k : Nat) : Nat :=
  if keptOff k then s.plainRead k
  else if inArr k (Rg.EYE_WP_STAT 0) 8 8 then 4 * 2 ^ 24
  else 0

/-- What a read of register offset `k` returns (R11, R411). -/
def State.regValue (s : State) (m o k : Nat) : Nat :=
  if !s.domOn (regDomain k) then s.offRead k
  else if k < 0x10000 || (decide (0x40000 ≤ k) && decide (k < 0x70000)) || (decide (0x80000 ≤ k) && decide (k < 0x90000)) then s.aonRead m o k
  else if k = Rg.TONGUE_OWNDATA then (if s.ownIx o < 192 then s.plainRead (Rg.OWN (s.ownIx o)) else 0)
  else if k = Rg.LAST_SLOTCAP then s.cap
  else if inArr k (Rg.SL_PACE 0) 16 0x1000 then s.readPace (arrIx k (Rg.SL_PACE 0) 0x1000)
  else if inArr k (Rg.AWL_PACE 0) 4 4 then s.readPace (16 + arrIx k (Rg.AWL_PACE 0) 4)
  else if inArr k (Rg.HD_FRAME 0) 16 0x1000 then (s.readFrame (arrIx k (Rg.HD_FRAME 0) 0x1000)).1
  else if k = Rg.WELT_TRUST then s.plainRead k % 2 ^ 16 + s.trustEff * 2 ^ 16
  else if k = Rg.WELT_TIMESTAT then s.readTimestat
  else if k = Rg.WELT_FCW0 then s.readFc false
  else if k = Rg.WELT_FCW1 then s.readFc true
  else s.plainRead (s.windowKey o k)

/-- A read of TIME_LO latches the reading master's copy of TIME_HI (R650). -/
def State.latchTime (s : State) (m : Nat) : State :=
  { s with time := { s.time with hi := tabPut 0 s.time.hi m (s.time.now / 2 ^ 28) } }

/-- What a read leaves beyond TIME_HI (R11, R263, R644, R655, R681): RC fields clear, a FIFO pops, a capture goes. -/
def State.readEffect (s : State) (o k : Nat) : State :=
  if !s.domOn (regDomain k) then s
  else if k = Rg.SYS_PERDATA then s.readPer.2
  else if inArr k (Rg.ICU_TGT_CLAIM 0) 5 16 then s.claimRead (arrIx k (Rg.ICU_TGT_CLAIM 0) 16)
  else if k = Rg.TIME_CAPLO then (s.captureRead (s.capIx o)).2
  else if inArr k (Rg.HD_FRAME 0) 16 0x1000 then (s.readFrame (arrIx k (Rg.HD_FRAME 0) 0x1000)).2
  else s.setRegN k (afterRead k (s.regN k))

/-- One read of a register by master `m` with owner ID `o`. Without side effects (`side` false: a debug read while SIDEFX
is 0, R712) it leaves only the latch of TIME_HI. -/
def State.regRead (s : State) (m o : Nat) (side : Bool) (k : Nat) : Nat × State :=
  let s1 := if side then s.readEffect o k else s
  (s.regValue m o k, if k = Rg.TIME_LO then s1.latchTime m else s1)

/-! ## Ownership (R405–R410) -/

/-- Ownership domain of a register (R410). -/
def ownDomain (k : Nat) : Nat :=
  match k / 0x10000 with
  | 0x00 => 0 | 0x01 => 1 | 0x02 => 2 | 0x03 => 3 | 0x04 => 4 | 0x05 => 5 | 0x06 => 6 | 0x07 => 7 | 0x08 => 8
  | 0x10 => 9
  | 0x11 | 0x12 => 10
  | 0x14 => 36 + k % 0x10000 / 0x1000
  | 0x18 => 20 + k % 0x10000 / 0x1000
  | 0x20 => 19
  | 0x30 => 11
  | 0x38 => 12
  | 0x40 => 13
  | 0x48 => 14
  | 0x49 => 15
  | 0x50 => 16
  | 0x58 => 17
  | _ => 18

/-- The first eyelet in a SYS_EYSET or SYS_EYCLR mask that the writer may not write (R674). -/
def State.eyRefused (s : State) (o v : Nat) : Option Nat := (maskEyes v).find? (fun n => !s.mayWrite o (64 + n))

/-- Is register `k` a timing register (R225) of a head whose Last runs? -/
def State.timingTaken (s : State) (k : Nat) : Bool :=
  k / 0x10000 == 0x18 && decide (k % 0x1000 ≤ 0x10) && s.curv (k % 0x10000 / 0x1000)

/-- Is a register AWLn_CFG, AWLn_ISP or AWLn_ISPLIM of the core that writes (R517, R519)? -/
def ownAwl (o k : Nat) : Bool :=
  decide (3 ≤ o) && decide (o ≤ 6) && (k == Rg.AWL_CFG (o - 3) || k == Rg.AWL_ISP (o - 3) || k == Rg.AWL_ISPLIM (o - 3))

/-- The domain that refuses a write of `v` to a register by owner ID `o`, if one does (R405, R407, R517, R656, R674, R711). The
timing registers of a head whose Last runs refuse every writer (R112). -/
def State.writeRefused (s : State) (o k v : Nat) : Option Nat :=
  let no := fun (ok : Bool) (d : Nat) => if ok then none else some d
  if k = Rg.TONGUE_OWNIDX ∨ k = Rg.TONGUE_OWNDATA then none
  else if 0x10010 ≤ k ∧ k < 0x10050 then no (o == 3 + (k - 0x10010) / 16 || o == 7) 1
  else if 0x380008 ≤ k ∧ k < 0x380020 then no (o == 1 || o == 7) 12
  else if ownAwl o k then none
  else if k = Rg.SEC_FUSECMD then no (s.get (Fd.OWN_OWNER 2) != 0 && s.get (Fd.OWN_OWNER 2) == o) 2
  else if inArr k (Rg.TIME_WD_CTL 0) 10 4 then no (s.mayWrite o 6 || (k < Rg.TIME_WD_CTL 4 && o == 3 + arrIx k (Rg.TIME_WD_CTL 0) 8)) 6
  else if k = Rg.SYS_EYCFG then no (s.mayWrite o (64 + s.eyIx o)) (64 + s.eyIx o)
  else if k = Rg.SYS_EYSET ∨ k = Rg.SYS_EYCLR then
    (match s.eyRefused o v with
     | some n => some (64 + n)
     | none => no (s.mayWrite o 0) 0)
  else if k / 0x10000 = 0x08 then no (o == 7) 8
  else if s.timingTaken k then some (ownDomain k)
  else no (s.mayWrite o (ownDomain k)) (ownDomain k)

/-- The capture of a refused write in TONGUE_STAT (R406, R414). -/
def State.captureRefusal (s : State) (d o : Nat) : State :=
  if !s.domOn 3 then s
  else if s.flag Fd.TONGUE_STAT_VALID then s.set Fd.TONGUE_STAT_OVF 1
  else ((s.set Fd.TONGUE_STAT_DOMAIN d).set Fd.TONGUE_STAT_OWNER o).set Fd.TONGUE_STAT_VALID 1

/-- A write to TONGUE_OWNDATA by writer `w` (R408, R416). -/
def State.writeOwner (s : State) (w v : Nat) : State :=
  let d := s.ownIx w
  let o := s.get (Fd.OWN_OWNER d)
  let new := v % 16
  let used := decide (d < 192) && !(decide (52 ≤ d) && decide (d < 64))
  let ok := used && !s.flag (Fd.OWN_LOCK d) && new != 7 && w != 0 &&
    ((s.get (Fd.OWN_OWNER 1) == w && d != 1) || w == o || (o == 0 && new == w) || w == 7)
  if ok then s.plainWrite (Rg.OWN d) v else s.set (Fd.OWNIDX_C_ERR w) 1

/-! ## Writes with rules of their own -/

/-- A write of a ring's EN and BASE (R398). -/
def State.writeRing (s : State) (src : Src) (r c p v : Nat) : State :=
  let was := s.ringEn r
  let s1 := s.plainWrite r v
  if nbit v 27 then
    (if was then s1 else (s1.setRegN c (s1.regN c / 2 ^ 26 * 2 ^ 26)).setRegN p (s1.regN p / 2 ^ 26 * 2 ^ 26))
  else (s1.endSession src).setRegN p (s1.regN p % 2 ^ 26)

/-- A write of a ring's command or reply pointer (R398): `pr` is the pointer register, and the used count is taken from
its new low index and its high one. -/
def State.writePtr (s : State) (r c pr v : Nat) : State :=
  let hi := nbits (s.regN pr) 25 13
  let used := if pr = c then (v % 8192 + 8192 - hi) % 8192 else (hi + 8192 - v % 8192) % 8192
  if !s.ringEn r || decide (4096 < used) then s.setRegN c (Nat.lor (s.regN c) (2 ^ 27)) else s.plainWrite pr v

/-- A write of one of a ring's three registers. -/
def State.writeRingReg (s : State) (src : Src) (k v : Nat) : State :=
  match ringKeys src with
  | some (r, c, p) => if k = r then s.writeRing src r c p v else s.writePtr r c k v
  | none => s

/-- A write that clears a capture's VALID clears its OVF with it (R41, R304, R414). -/
def State.writeCapture (s : State) (k v : Nat) (valid ovf : Fd) : State :=
  let s1 := s.plainWrite k v
  if nbit v valid.lo then s1.set ovf 0 else s1

/-- SYS_EYSET and SYS_EYCLR (R680). -/
def State.writeEyOut (s : State) (v : Nat) (level : Bool) : State :=
  (maskEyes v).foldl (fun (a : State) (n : Nat) => a.setB (Fd.EY_OUT n) level) s

def State.writeSys (s : State) (o k v : Nat) : State :=
  if k = Rg.SYS_ROLE then s.writeRole v
  else if k = Rg.SYS_DECERR1 then s.writeCapture k v Fd.SYS_DECERR1_VALID Fd.SYS_DECERR1_OVF
  else if k = Rg.SYS_PERDATA then s.writePer v
  else if k = Rg.SYS_EYCFG then s.writeEycfg o (s.eyIx o) v
  else if k = Rg.SYS_EYSET then s.writeEyOut v true
  else if k = Rg.SYS_EYCLR then s.writeEyOut v false
  else s.plainWrite (s.windowKey o k) v

def State.writeTongue (s : State) (o k v : Nat) : State :=
  if k = Rg.TONGUE_STAT then s.writeCapture k v Fd.TONGUE_STAT_VALID Fd.TONGUE_STAT_OVF
  else if k = Rg.TONGUE_OWNDATA then s.writeOwner o v
  else if 0x10010 ≤ k then s.writeRingReg (.core (Fin.ofNat 4 ((k - 0x10010) / 16))) k v
  else s.plainWrite (s.windowKey o k) v

/-- The role of the writes of FLT_ACK and FLT_FORCE1 (R694, R696). -/
def State.writeFlt (s : State) (o k v : Nat) : State :=
  if k = Rg.FLT_ACK then
    (if !unitValid (v % 65536) || (!nbit v 19 && decide (4 < nbits v 18 16)) then s.set Fd.FLT_CTL_ERR 1
     else s.ackUnit (v % 65536) (nbits v 18 16) (nbit v 19))
  else if k = Rg.FLT_FORCE1 then
    let s1 := s.plainWrite k v
    let u := s1.get Fd.FLT_FORCE0_UNIT
    if !nbit v 27 then s1
    else if !unitValid u || decide (4 < nbits v 26 24) then s1.set Fd.FLT_CTL_ERR 1
    else s1.reportG u (s1.get Fd.FLT_FORCE0_CODE) (nbits v 26 24) (v % 65536) true false
  else s.plainWrite (s.windowKey o k) v

/-- A write of ICU_SRCCFG (R659). -/
def State.writeSrcCfg (s : State) (o v : Nat) : State :=
  if s.srcCfgOk (s.srcIx o) v then s.plainWrite (Rg.SRC (s.srcIx o)) v else s.set (Fd.SRCIDX_C_ERR o) 1

/-- A write of ICU_SWSET (R649). -/
def State.writeSwset (s : State) (v : Nat) : State :=
  let n := 320 + v % 64
  if nbit v 27 && !nbit v 26 then s.raise n else if nbit v 26 && !nbit v 27 then s.clearPend n else s

def State.writeIcu (s : State) (o k v : Nat) : State :=
  if k = Rg.ICU_SRCCFG then s.writeSrcCfg o v
  else if k = Rg.ICU_SWSET then s.writeSwset v
  else if inArr k (Rg.ICU_TGT_EOI 0) 5 16 then s.eoi (arrIx k (Rg.ICU_TGT_EOI 0) 16) (v % 512)
  else s.plainWrite (s.windowKey o k) v

/-- A write of TIME_CMPHI applies both halves (R652); a match of the old value in this tick no longer counts. -/
def State.writeCmpHi (s : State) (c v : Nat) : State :=
  let lo := (tabFind s.time.cmpHold c).getD (s.get (Fd.CMPLO_CMP c))
  let due := if s.cmpOf c = s.time.now then s.time.cmpDue.filter (fun j => j != c) else s.time.cmpDue
  ({ s with time := { s.time with cmpHold := tabErase s.time.cmpHold c, cmpDue := due } }).setCmp c (v % 2 ^ 28 * 2 ^ 28 + lo)

def State.writeTime (s : State) (o k v : Nat) : State :=
  if k = Rg.TIME_LDHI then (s.plainWrite k v).stepTime (v % 2 ^ 28 * 2 ^ 28 + s.get Fd.TIME_LDLO_LOAD)
  else if k = Rg.TIME_CMPLO then { s with time := { s.time with cmpHold := tabInsert s.time.cmpHold (s.cmpIx o) (v % 2 ^ 28) } }
  else if k = Rg.TIME_CMPHI then s.writeCmpHi (s.cmpIx o) v
  else if inArr k (Rg.TIME_WD_CTL 0) 5 8 then s.writeWd (arrIx k (Rg.TIME_WD_CTL 0) 8) v
  else s.plainWrite (s.windowKey o k) v

/-- The EYE block; while a port's domain is off its registers take the write and nothing follows (R308). -/
def State.writeEye (s : State) (k v : Nat) : State :=
  if inArr k (Rg.EYE_WP_CFG 0) 8 8 then
    let p := arrIx k (Rg.EYE_WP_CFG 0) 8
    if !s.domOn (lanegOf p) && s.portCfgBad p v then s else s.writePortCfg p v
  else if inArr k (Rg.EYE_L_CFG 0) 32 16 then
    let n := arrIx k (Rg.EYE_L_CFG 0) 16
    if s.domOn (lanegOf (n / 4)) then s.writeLaneCfg n v else s.plainWrite k v
  else if !s.domOn (regDomain k) then s
  else if inArr k (Rg.EYE_L_SCAN 0) 32 16 then s.writeScan (arrIx k (Rg.EYE_L_SCAN 0) 16) v
  else s.plainWrite k v

/-- The DBG block (R721–R724); `beam` is each head's beam position, for a resume. -/
def State.writeDbg (s : State) (o k v : Nat) (beam : List (Nat × Nat)) : State :=
  if k = Rg.DBG_CTL then s.writeDbgCtl v beam
  else if k = Rg.DBG_RUN then s.writeRun v beam
  else if inArr k Rg.DBG_WPCTL 4 4 then
    (match s.wpSel o with
     | some w => s.plainWrite (wpKey w (arrIx k Rg.DBG_WPCTL 4)) v
     | none => s)
  else s.plainWrite (s.windowKey o k) v

def State.writePwr (s : State) (k v : Nat) : State :=
  if k = Rg.PWR_DOMREQ then s.writeDomreq v
  else if k = Rg.PWR_PACECTL then s.writePacectl v
  else if k = Rg.PWR_VLIMIT then s.writeVlimit v
  else if k = Rg.PWR_VSET then s.writeVset v
  else if k = Rg.PWR_TJ then (if nbit v 27 then s.set Fd.PWR_TJ_MAX (s.get Fd.PWR_TJ_TJ) else s)
  else s.plainWrite k v

/-- The LAST, FETCH and MEM blocks. -/
def State.writeFetch (s : State) (k v : Nat) : State :=
  if k = Rg.LAST_CTL then s.writeLastCtl v
  else if inArr k (Rg.LAST_HD_SEL 0) 16 4 then s.writeSel (arrIx k (Rg.LAST_HD_SEL 0) 4) v
  else if inArr k (Rg.FETCH_POOL 0) 8 4 then s.writePool (arrIx k (Rg.FETCH_POOL 0) 4) v
  else if inArr k (Rg.FETCH_POOL_STAT 0) 8 4 then s.writePoolStat (arrIx k (Rg.FETCH_POOL_STAT 0) 4) v
  else if inArr k (Rg.FETCH_SL_STAT 0) 16 4 then s.writeSlStat (arrIx k (Rg.FETCH_SL_STAT 0) 4) v
  else if inArr k (Rg.FETCH_SL_LAT 0) 16 4 then s.writeSlLat (arrIx k (Rg.FETCH_SL_LAT 0) 4) v
  else if inArr k (Rg.FETCH_SL_LINE 0) 16 4 then s.writeSlLine (arrIx k (Rg.FETCH_SL_LINE 0) 4) v
  else if k = Rg.MEM_CTL then s.writeMemCtl v
  else if k = Rg.MEM_ECCSTAT then s.writeCapture k v Fd.MEM_ECCSTAT_VALID Fd.MEM_ECCSTAT_OVF
  else if inArr k (Rg.MEM_ECC 0) 8 4 then s.writeEcc (arrIx k (Rg.MEM_ECC 0) 4) v
  else s.plainWrite k v

/-- The SOLE and HEAD blocks. -/
def State.writePict (s : State) (k v : Nat) : State :=
  if inArr k (Rg.SL_PACE 0) 16 0x1000 then s.writePace (arrIx k (Rg.SL_PACE 0) 0x1000) v
  else if inArr k (Rg.SL_SLACK 0) 16 0x1000 then
    (if nbit v 27 then s.set (Fd.SL_SLACK_MIN (arrIx k (Rg.SL_SLACK 0) 0x1000)) 0x7FF else s)
  else if inArr k (Rg.HD_CTL 0) 16 0x1000 then s.writeHdCtl (arrIx k (Rg.HD_CTL 0) 0x1000) v
  else if inArr k (Rg.HD_STAT 0) 16 0x1000 then s.writeHdStat (arrIx k (Rg.HD_STAT 0) 0x1000) v
  else if inArr k (Rg.HD_WBCTL 0) 16 0x1000 then s.writeWbctl (arrIx k (Rg.HD_WBCTL 0) 0x1000) v
  else s.plainWrite k v

def State.writeWelt (s : State) (k v : Nat) : State :=
  if k = Rg.WELT_TIMECTL then s.writeTimectl v
  else if k = Rg.WELT_EPOCHLO then s.writeEpochLo v
  else if k = Rg.WELT_EPOCHHI then s.writeEpochHi v
  else if k = Rg.WELT_RTDATA then s.plainWrite (s.windowKey 0 k) v
  else if k = Rg.WELT_FCW0 then s.writeFc false v
  else if k = Rg.WELT_FCW1 then s.writeFc true v
  else if inArr k (Rg.WELT_PRX_CFG 0) 4 16 then s.writePrxCfg (arrIx k (Rg.WELT_PRX_CFG 0) 16) v
  else s.plainWrite k v

/-- The PCIE, AWL, LACE, SKIVER, AUDIO, INSOLE and SHANK blocks. -/
def State.writeUnits (s : State) (k v : Nat) : State :=
  if 0x380008 ≤ k ∧ k < 0x380014 then s.writeRingReg .pcie k v
  else if inArr k (Rg.AWL_PACE 0) 4 4 then s.writePace (16 + arrIx k (Rg.AWL_PACE 0) 4) v
  else if inArr k (Rg.LACE_CH_CTL 0) 32 16 then s.writeLaceCtl (arrIx k (Rg.LACE_CH_CTL 0) 16) v
  else if k = Rg.SKIVER_CTL then s.writeSkiverCtl v
  else if k = Rg.AUD_CTL then s.writeAudCtl v
  else if k = Rg.AUD_KEY then s.writeAudKey v
  else if inArr k (Rg.AUD_MB 0) 32 4 then s.writeMb (arrIx k (Rg.AUD_MB 0) 4) v
  else if inArr k (Rg.AUD_OB_CFG 0) 8 16 then s.writeOb (arrIx k (Rg.AUD_OB_CFG 0) 16) v
  else if inArr k (Rg.AUD_PT_CFG 0) 4 4 then s.writePt (arrIx k (Rg.AUD_PT_CFG 0) 4) v
  else if inArr k (Rg.AUD_RX_CFG 0) 4 8 then s.writeRx (arrIx k (Rg.AUD_RX_CFG 0) 8) v
  else if inArr k (Rg.INS_FE_CTL 0) 2 32 then s.writeFeCtl (arrIx k (Rg.INS_FE_CTL 0) 32) v
  else if k = Rg.SHK_CTL then s.writeShkCtl v
  else if k = Rg.SHK_BLCFG then s.writeBlcfg v
  else s.plainWrite k v

/-! ## One write -/

/-- What comes with a write beyond its value: each head's beam position (a resume needs it, R186, R715) and the key record
of a fuse write (R466). -/
structure WriteCtx where
  beam : List (Nat × Nat) := []
  key : Option (List Nat) := none
  deriving DecidableEq, Repr

/-- The effect of an accepted write. -/
def State.writeReg (s : State) (o k v : Nat) (c : WriteCtx) : State :=
  match k / 0x10000 with
  | 0x00 => s.writeSys o k v
  | 0x01 => s.writeTongue o k v
  | 0x02 => if k = Rg.SEC_FUSECMD then s.writeFusecmd v c.key else s.plainWrite k v
  | 0x03 => s.writePwr k v
  | 0x04 => s.writeFlt o k v
  | 0x05 => s.writeIcu o k v
  | 0x06 => s.writeTime o k v
  | 0x07 => s.writeEye k v
  | 0x08 => s.writeDbg o k v c.beam
  | 0x10 | 0x11 | 0x12 => s.writeFetch k v
  | 0x14 | 0x18 => s.writePict k v
  | 0x20 => s.writeLc (k % 0x10000 / 16) k v
  | 0x30 => s.writeWelt k v
  | _ => s.writeUnits k v

/-- How a write of a register went. -/
inductive WrRes where
  | ok | off | refused (dom : Nat)
  deriving DecidableEq, Repr

/-- One write of a register that exists, or of a reserved slot, with owner ID `o` (R391, R405, R411). The value is 28 bits
wide (R10). A refused write is captured (R406); the record of a refused direct write is the caller's. -/
def State.regWrite (s : State) (o k v : Nat) (c : WriteCtx) : State × WrRes :=
  if reservedSlot k then (s, .ok)
  else if !s.domOn (regDomain k) && k / 0x10000 != 7 then (s, .off)
  else match s.writeRefused o k (v % 2 ^ 28) with
    | some d => (s.captureRefusal d o, .refused d)
    | none => (s.writeReg o k (v % 2 ^ 28) c, .ok)

end Sys2Proof.Machine
end

