-- ==== Sys2Proof/Machine/Bus.lean ====
section
/-! DEFINITION. An access of the system address space by a master (01_architecture.md R30–R41): its decoding, the register
window, the on-chip arrays, GDDR7, the remote window with its answers, and the bus watchpoints. -/
namespace Sys2Proof.Machine

/-! ## Address decoding (R30, R31) -/

/-- Where a system address goes. -/
inductive Place where
  | reg (k : Nat)
  | remote (dev off : Nat)
  | palette (head off : Nat)
  | lut (head off : Nat)
  | voice (v w : Nat)
  | flog (e w : Nat)
  | awlLocal (n off : Nat)
  | shared (off : Nat)
  | lastStore
  | gddr
  | hole
  deriving DecidableEq, Repr

/-- Decode a 40-bit address (R31); what lies beyond an array in its span is a hole (R35). -/
def decodeAddr (a : Nat) : Place :=
  if 0xFF00000000 ≤ a ∧ a < 0xFF01000000 then .reg (a - 0xFF00000000)
  else if 2 ^ 39 ≤ a then .remote (a / 2 ^ 28 % 2048) (a % 2 ^ 28)
  else if 0x7FF0000000 ≤ a ∧ a < 0x7FF0200000 then .palette ((a - 0x7FF0000000) / 0x20000) ((a - 0x7FF0000000) % 0x20000)
  else if 0x7FF1000000 ≤ a ∧ a < 0x7FF1800000 ∧ (a - 0x7FF1000000) % 0x80000 < 0x50000 then
    .lut ((a - 0x7FF1000000) / 0x80000) ((a - 0x7FF1000000) % 0x80000)
  else if 0x7FF3000000 ≤ a ∧ a < 0x7FF3004000 then .voice ((a - 0x7FF3000000) / 64) ((a - 0x7FF3000000) % 64 / 4)
  else if 0x7FF4000000 ≤ a ∧ a < 0x7FF4000400 then .flog ((a - 0x7FF4000000) / 16) ((a - 0x7FF4000000) % 16 / 4)
  else if localBase 0 ≤ a ∧ a < localBase 4 then .awlLocal ((a - localBase 0) / 0x20000) ((a - localBase 0) % 0x20000)
  else if sharedBase ≤ a ∧ a < sharedBase + 0x200000 then .shared (a - sharedBase)
  else if 0x7FFF800000 ≤ a ∧ a < 2 ^ 39 then .lastStore
  else if a < 0x900000000 then .gddr
  else .hole

/-! ## Requesters -/

/-- Who makes an access: its master ID (R38), its owner ID (R394), its number among the requesters of the fabric (a Lace
channel n is 256 + n), whether its reads have side effects (R712), whether it reaches registers, and whether a refusal goes
back as a command's reply instead of a record (R406). -/
structure Who where
  m : Nat
  o : Nat
  q : Nat
  side : Bool := true
  regs : Bool := true
  cmd : Bool := false
  deriving DecidableEq, Repr

/-- A master that makes direct accesses. -/
def masterWho (m : Nat) : Who := { m := m, o := ownerOfMaster m, q := m }

/-- A remote request to issue: `fresh` when the requester's earlier ones must go first. -/
structure Issue where
  q : Nat
  fresh : Bool
  dev : Nat
  op : Nat
  off : Nat
  be : Nat
  data : List Nat
  deriving DecidableEq, Repr

/-- What an access that waits needs done: a request issued, or a class's turn at a tack (R270). -/
inductive Need where
  | issue (i : Issue)
  | tack (k : Nat)
  deriving DecidableEq, Repr

/-- A command's accesses so far: the state, the ends of the bursts to come, the remote accesses made, and whether it has taken a
pool tack. -/
structure Bus where
  s : State
  ends : List BurstEnd
  nth : Nat
  ctx : WriteCtx
  turn : Bool := false
  deriving DecidableEq, Repr

/-- How an access goes: bytes read (none for a write), bus-error status (R35), a refused register write with its status
(R391), or a wait — for GDDR7 training (R284), a locked sequence (R510), tacks (R270), or an answer of the fabric, whose
request is issued first where it is not yet out. A command that waits changes nothing but what it needs, and is offered again. -/
inductive BusOut where
  | ok (d : List Nat) (b : Bus)
  | err (b : Bus)
  | ref (st : Nat) (b : Bus)
  | wait (i : Option Need)
  deriving DecidableEq, Repr

/-! ## Local memory -/

/-- May a master write Awl local memory at byte offset `off` of core `n` (R471, R498)? -/
def State.localWritable (s : State) (m n off : Nat) : Bool :=
  m == 0x1B || m == 0x1C ||
    (s.get Fd.SEC_BOOT_STATE == 5 &&
      !((s.coreState n == 1 || s.coreState n == 2) && decide (off < 0x10000)))

/-- Does an access of shared memory by a master wait for a locked sequence of another core (R510)? -/
def State.sharedWaits (s : State) (m : Nat) : Bool :=
  s.flag Fd.AWL_LOCK_HELD && m != 0x12 + s.get Fd.AWL_LOCK_CORE

/-- The 32-bit word at a 4-aligned address of an on-chip array. -/
def State.chipWord (s : State) (a : Nat) : Nat :=
  match decodeAddr a with
  | .voice v w => s.readVoice v w
  | .flog e w => s.logWord e w
  | _ => s.word a

/-- Bytes of on-chip arrays from `a`. -/
def State.chipBytes (s : State) (a n : Nat) : List Nat :=
  (List.range n).map (fun i => s.chipWord ((a + i) / 4 * 4) / 256 ^ ((a + i) % 4) % 256)

/-- Key of a master's holding register of a head (R146, R197). -/
def holdKey (m head : Nat) (lut : Bool) : Nat := m * 64 + (if lut then 32 else 0) + head

/-- Bytes under enables over a word. -/
def mergeWord (old : Nat) (be : Nat) (d : List Nat) : Nat :=
  (List.range 4).foldl (fun a i => a + (if nbit be i then d.getD i 0 % 256 else old / 256 ^ i % 256) * 256 ^ i) 0

/-- A write of a word of a palette or LUT entry by master `m` (R145, R146, R196, R197). -/
def State.entryWrite (s : State) (m head a be : Nat) (d : List Nat) (lut : Bool) : State :=
  let k := holdKey m head lut
  let held := tabGet 0 s.pict.hold k
  if a / 4 % 2 = 0 then
    { s with pict := { s.pict with hold := tabPut 0 s.pict.hold k (mergeWord held be d % 2 ^ 28) } }
  else (s.setWord (a - 4) held).setWord a (mergeWord (s.word a) be d % (if lut then 2 ^ 14 else 2 ^ 28))

/-- A write of one word of an on-chip array under byte enables. -/
def State.chipWrite (s : State) (m a be : Nat) (d : List Nat) : State :=
  if be % 16 = 0 then s
  else match decodeAddr a with
  | .palette h _ => s.entryWrite m h a be d false
  | .lut h _ => s.entryWrite m h a be d true
  | .voice v w => s.writeVoice v w (mergeWord (s.readVoice v w) be d)
  | _ => s.setWord a (mergeWord (s.word a) be d)

/-- A write of bytes `d` at `a` under byte enables `be`, as 32-bit words in ascending order (R146): `n` counts the words. -/
def State.chipWrites (s : State) (m a be : Nat) (d : List Nat) : Nat → State
  | 0 => s
  | n + 1 =>
    let o := a % 4
    let w := (List.replicate o 0) ++ d.take (4 - o)
    (s.chipWrite m (a - o) (be * 2 ^ o) w).chipWrites m (a - o + 4) (be / 2 ^ (4 - o)) (d.drop (4 - o)) n

/-! ## Remote accesses (R34, R355) -/

/-- An outstanding request of a requester. -/
def State.busReqs (s : State) (q : Nat) : List RemReq := s.welt.reqs.filter (fun r => r.who == .bus q)

/-- The masters whose writes travel to another device (R16): Lace, Skiver, the Awl cores, Tongue and the debug bus master. -/
def remoteWriter (m : Nat) : Bool := (decide (0x10 ≤ m) && decide (m ≤ 0x16)) || m == 0x1C

/-- An access of the remote window: `op` 0 reads the granule at `off`, 1 writes the 32-byte block at `off`. One to this device goes
to its own aperture (R34) with the requester's master ID (DESIGN CHOICE, log entry 66). -/
def Bus.remote (b : Bus) (w : Who) (dev op off be : Nat) (d : List Nat) : BusOut :=
  let s := b.s
  if s.halted && !s.flag Fd.DBG_CTL_WELTRUN then (if w.m = 0x1C then .err b else .wait none)
  else if dev = s.devId then
    let fail := fun (t : State) (st : Nat) => BusOut.err { b with s := t.report (uMaster w.m) 0x06 1 st }
    if op = 1 then
      match s.serveWrite w.m off be d true (b.ends.headD .clean) with
      | none => .wait none
      | some (t, st) => if st = 0 then .ok [] { b with s := t, ends := b.ends.tail } else fail t st
    else match s.serveRead w.m 0 off 1 0 0 b.ends with
      | none => .wait (if s.tackFree 0x18 false then none else some (.tack 3))
      | some (t, st, r) => if st = 0 then .ok r { b with s := t, ends := b.ends.tail } else fail t st
  else
    let i : Issue := { q := w.q, fresh := false, dev := dev, op := op, off := off, be := be, data := d }
    match (s.busReqs w.q)[b.nth]? with
    | none => .wait (some (.issue i))
    | some r =>
      if r.dev ≠ dev ∨ r.op ≠ op ∨ r.off ≠ off then .wait (some (.issue { i with fresh := true }))
      else match r.ans with
        | none => .wait none
        | some (0, r) => .ok r { b with nth := b.nth + 1 }
        | some _ => .err { b with nth := b.nth + 1 }

/-! ## One access -/

/-- An unmapped access (R35). -/
def Bus.unmapped (b : Bus) (m a : Nat) (wr : Bool) : BusOut := .err { b with s := b.s.unmapped m a wr }

/-- During a halt GDDR7 serves only the debug bus master and a step (R716, R717). -/
def State.gddrFrozen (s : State) (m : Nat) : Bool :=
  s.halted && m != 0x1C && !(match s.dbg.step with | some c => m == 0x12 + c | none => false)

/-- A read of `n` bytes at `a`, inside one 64-byte granule. -/
def Bus.readAt (b : Bus) (w : Who) (a n : Nat) : BusOut :=
  let s := b.s
  match decodeAddr a with
  | .reg k =>
    if !w.regs then b.unmapped w.m a false
    else if regExists k then
      let r := s.regRead w.m w.o w.side k
      .ok [r.1 % 256, r.1 / 256 % 256, r.1 / 65536 % 256, r.1 / 16777216 % 256] { b with s := r.2 }
    else if reservedSlot k then .ok [0, 0, 0, 0] b
    else b.unmapped w.m a false
  | .remote dev off =>
    match b.remote w dev 0 (off / 64 * 64) 0 [] with
    | .ok d b1 => .ok ((d.drop (off % 64)).take n) b1
    | r => r
  | .gddr =>
    (match s.gddrAcc a with
    | .unmapped => b.unmapped w.m a false
    | .wait => .wait none
    | .ok =>
      if s.gddrFrozen w.m then .wait none
      else if !s.tackFree w.m b.turn then .wait ((poolClass w.m).map Need.tack)
      else
        let (t, arrived) := (s.tackUse w.m).burst (a / 64 * 64) w.m (b.ends.headD .clean)
        let b1 := { b with s := t, ends := b.ends.tail, turn := true }
        if arrived then .ok (s.byteList a n) b1 else .err b1)
  | .shared _ => if s.sharedWaits w.m then .wait none else .ok (s.chipBytes a n) b
  | .hole => b.unmapped w.m a false
  | _ => .ok (s.chipBytes a n) b

/-- A write of bytes `d` at `a` under byte enables `be` (bit j: byte j), inside one 32-byte block. A write to another device by
a master that R16 gives no remote writes is taken as unmapped (DESIGN CHOICE, log entry 65). -/
def Bus.writeAt (b : Bus) (w : Who) (a be : Nat) (d : List Nat) : BusOut :=
  let s := b.s
  let chip := BusOut.ok [] { b with s := s.chipWrites w.m a be d (d.length / 4 + 2) }
  match decodeAddr a with
  | .reg k =>
    if !w.regs || !(regExists k || reservedSlot k) then b.unmapped w.m a true
    else
      (match s.regWrite w.o k (mergeWord 0 15 d) b.ctx with
      | (t, .ok) => .ok [] { b with s := t }
      | (t, .off) => .ref 0x13 { b with s := t }
      | (t, .refused dom) => .ref 0x12 { b with s := if w.cmd then t else t.report (uMaster w.m) 0x02 0 dom })
  | .remote dev off =>
    if dev ≠ s.devId ∧ remoteWriter w.m = false then b.unmapped w.m a true
    else b.remote w dev 1 (off / 32 * 32) (be * 2 ^ (off % 32)) (List.replicate (off % 32) 0 ++ d)
  | .gddr =>
    (match s.gddrAcc a with
    | .unmapped => b.unmapped w.m a true
    | .wait => .wait none
    | .ok =>
      if s.gddrFrozen w.m then .wait none else
      let (t, took) := s.burst (a / 64 * 64) w.m (b.ends.headD .clean)
      let b1 := { b with s := t, ends := b.ends.tail }
      if took then .ok [] { b1 with s := t.putEnabled a be d } else .err b1)
  | .awlLocal n off => if s.localWritable w.m n off then chip else b.unmapped w.m a true
  | .shared _ => if s.sharedWaits w.m then .wait none else chip
  | .flog _ _ | .lastStore | .hole => b.unmapped w.m a true
  | _ => chip

/-- The bus watchpoints see an access when it completes (R719, R720). -/
def BusOut.seen (r : BusOut) (m a n : Nat) (wr : Bool) : BusOut :=
  match r with
  | .ok d b => .ok d { b with s := b.s.wpBus m a n wr }
  | .err b => .err { b with s := b.s.wpBus m a n wr }
  | .ref st b => .ref st { b with s := b.s.wpBus m a n wr }
  | .wait i => .wait i

/-- A read access of `n` bytes at `a`. -/
def Bus.read (b : Bus) (w : Who) (a n : Nat) : BusOut := (b.readAt w a n).seen w.m a n false

/-- A write access of the bytes `d` at `a`. -/
def Bus.write (b : Bus) (w : Who) (a be : Nat) (d : List Nat) : BusOut := (b.writeAt w a be d).seen w.m a d.length true

/-- A read of a 32-bit word. -/
def Bus.readW (b : Bus) (w : Who) (a : Nat) : BusOut := b.read w a 4

/-- The four bytes of a word. -/
def wordOf (v : Nat) : List Nat := [v % 256, v / 256 % 256, v / 65536 % 256, v / 16777216 % 256]

/-- Is a write to SEC_FUSECMD one whose key record is read first (R466): GO with OP 0b11, by the writer that may write it? -/
def State.needsKey (s : State) (w : Who) (a v : Nat) : Bool :=
  w.regs && decodeAddr a == .reg Rg.SEC_FUSECMD && nbit v 27 && nbits v 21 20 == 3 && s.domOn 2 &&
    (s.writeRefused w.o Rg.SEC_FUSECMD v).isNone && !s.flag Fd.SEC_FUSECMD_BUSY && !s.fenced uSec

/-- The security engine as the reader of a key record: a requester of its own beside the boot sequence. -/
def keyWho : Who := { masterWho 0x1B with q := 288 }

/-- The security engine reads the 64-byte key record (R466, R467), word by word. -/
def Bus.readKey (b : Bus) (a : Nat) : Nat → Nat → BusOut
  | _, 0 => .ok [] b
  | i, n + 1 =>
    match b.read keyWho (a + 4 * i) 4 with
    | .ok d b1 => (match b1.readKey a (i + 1) n with
      | .ok e b2 => .ok (d ++ e) b2
      | r => r)
    | r => r

/-- A write of a 32-bit word. A write to SEC_FUSECMD reads the key record it names first (R466). -/
def Bus.writeW (b : Bus) (w : Who) (a v : Nat) : BusOut :=
  if b.s.needsKey w a v then
    let ka := b.s.get Fd.SEC_FUSEADDR1_ADDRHI * 2 ^ 28 + b.s.get Fd.SEC_FUSEADDR0_ADDRLO
    let after := fun (b1 : Bus) (key : Option (List Nat)) =>
      { b1 with s := b1.s.dropBus 288, nth := b.nth, ctx := { b1.ctx with key := key } : Bus }
    match { b with nth := 0 }.readKey ka 0 16 with
    | .ok d b1 => (after b1 (some ((List.range 16).map (fun i => leNat ((d.drop (4 * i)).take 4))))).write w a 15 (wordOf v)
    | .wait i => .wait i
    | .err b1 => (after b1 none).write w a 15 (wordOf v)
    | .ref _ b1 => (after b1 none).write w a 15 (wordOf v)
  else b.write w a 15 (wordOf v)

/-! ## A command's accesses -/

/-- How a command with accesses ends: with its next state, or waiting. -/
inductive Fin' where
  | done (s : State)
  | wait (i : Option Need)
  deriving DecidableEq, Repr

/-- A requester's request goes out (R351). -/
def State.issueReq (s : State) (i : Issue) : State :=
  (if i.fresh then s.dropBus i.q else s).remIssue (.bus i.q) i.dev i.op i.off 1 0 0 i.be i.data

/-- What a waiting access needs. -/
def State.meetNeed (s : State) : Need → State
  | .issue i => s.issueReq i
  | .tack k => s.poolWait k

/-- The bus as a command finds it. -/
def State.busOf (s : State) (e : Env) : Bus := { s := s, ends := e.ends, nth := 0, ctx := { beam := e.beam } }

/-- Run accesses for requester `q`: when they are done, its answers are taken; while they wait, only what they need is done. -/
def Bus.finish (b : Bus) (q : Nat) (body : Bus → Fin') : State :=
  match body b with
  | .done t => t.dropBus q
  | .wait none => b.s
  | .wait (some n) => b.s.meetNeed n

/-- Run a command's accesses for requester `q`. -/
def State.busRow (s : State) (q : Nat) (e : Env) (body : Bus → Fin') : State := (s.busOf e).finish q body

/-- A direct write of a register by master `m` (R11, R391, R406, R411): its value is 28 bits wide. -/
def State.directWrite (s : State) (m k v : Nat) (e : Env) : State :=
  s.busRow m e (fun b =>
    match b.writeW (masterWho m) (0xFF00000000 + k) v with
    | .ok _ b1 => .done { b1.s with bus := .done }
    | .err b1 => .done { b1.s with bus := .error 0 }
    | .ref st b1 => .done { b1.s with bus := if st = 0x13 then .discarded else .done }
    | .wait i => .wait i)

/-- A direct read of a register by master `m`. -/
def State.directRead (s : State) (m k : Nat) (e : Env) : State :=
  s.busRow m e (fun b =>
    match b.readW { masterWho m with side := m != 0x1C || s.flag Fd.DBG_CTL_SIDEFX } (0xFF00000000 + k) with
    | .ok d b1 => .done { b1.s with bus := .value (leNat d) }
    | .err b1 => .done { b1.s with bus := .error 0 }
    | .ref _ b1 => .done b1.s
    | .wait i => .wait i)

end Sys2Proof.Machine
end

