-- ==== Sys2Proof/Machine/Lace.lean ====
section
/-! DEFINITION. The Lace engine (16_lace.md): descriptors, the elements they name, source reads, write beats, the choice of
a channel, and how a chain ends. -/
namespace Sys2Proof.Machine

/-! ## Descriptors (R538–R540) -/

/-- The 16 words of a granule. -/
def granuleWords (d : List Nat) : List Nat := (List.range 16).map (fun i => leNat ((d.drop (4 * i)).take 4))

/-- A field of a descriptor. -/
def LaceS.w (l : LaceS) (i : Nat) : Nat := l.desc.getD i 0

/-- The element size in bytes. -/
def LaceS.esize (l : LaceS) : Nat := 2 ^ nbits (l.w 1) 17 16
def LaceS.isFill (l : LaceS) : Bool := nbits (l.w 1) 19 18 == 1
def LaceS.c0 (l : LaceS) : Nat := l.w 3 % 65536
def LaceS.c1 (l : LaceS) : Nat := l.w 3 / 65536
def LaceS.c2 (l : LaceS) : Nat := l.w 4 % 65536
/-- The number of elements. -/
def LaceS.total (l : LaceS) : Nat := l.c0 * l.c1 * l.c2
def LaceS.srcBase (l : LaceS) : Nat := l.w 1 % 256 * 2 ^ 32 + l.w 0
def LaceS.dstBase (l : LaceS) : Nat := nbits (l.w 1) 15 8 * 2 ^ 32 + l.w 2

/-- A base moved by an element's loop indices and the steps in words `i`, `i + 2` and `i + 4` (R539). -/
def LaceS.walk (l : LaceS) (base i e : Nat) : Nat :=
  let i0 := e % max 1 l.c0
  let i1 := e / max 1 l.c0 % max 1 l.c1
  let i2 := e / (max 1 l.c0 * max 1 l.c1)
  let step := fun (k n : Nat) => signed 32 (l.w k) * Int.ofNat n
  unsignedOf 40 (Int.ofNat base + step i i0 + step (i + 2) i1 + step (i + 4) i2)

/-- Source and destination address of an element. -/
def LaceS.src (l : LaceS) (e : Nat) : Nat := l.walk l.srcBase 5 e
def LaceS.dst (l : LaceS) (e : Nat) : Nat := l.walk l.dstBase 6 e

/-- A malformed descriptor (R540). -/
def LaceS.bad (l : LaceS) : Bool :=
  let e := l.esize
  l.c0 == 0 || l.c1 == 0 || l.c2 == 0 || decide (1 < nbits (l.w 1) 19 18) || l.w 1 / 2 ^ 21 != 0 || l.w 4 / 65536 != 0 ||
    nbits (l.w 11) 5 1 != 0 || l.w 12 / 256 != 0 || l.w 13 != 0 ||
    (!l.isFill && l.srcBase % e != 0) || l.dstBase % e != 0 || (List.range 6).any (fun i => l.w (5 + i) % e != 0)

/-! ## Register window and granules (R541, R542) -/

/-- Does an address lie in the register window? -/
def inRegs (a : Nat) : Bool := match decodeAddr a with | .reg _ => true | _ => false

/-- What a source element is read as: its granule, or itself in the register window. -/
def LaceS.piece (l : LaceS) (e : Nat) : Nat := if inRegs (l.src e) then l.src e else l.src e / 64 * 64

/-- Does element `e` need a read of its own: another granule than the element before it, or a register? -/
def LaceS.needsRead (l : LaceS) (e : Nat) : Bool := e == 0 || inRegs (l.src e) || l.piece e != l.piece (e - 1)

/-- A channel as a master. -/
def laceWho (n : Nat) : Who := { masterWho 0x10 with q := 256 + n }

/-- Is the channel able to act now: running, powered, not frozen or stopped? -/
def State.laceRuns (s : State) (n : Nat) : Bool :=
  s.unitUp (uLace n) 16 && !s.halted && !s.hub.stopping && s.laceState n == 1

/-- A channel ends with an error; a fence that has fallen on it meanwhile keeps it FENCED (R547, R690). -/
def State.laceFail (s : State) (n err : Nat) : State :=
  if s.laceState n = 4 then (s.set (Fd.LACE_CH_STAT_ERR n) err).laceClear n else s.laceEnd n 3 err

/-- A descriptor read would pass MAXDESC: the C2 record fences the channel (R547). -/
def State.laceOver (s : State) (n : Nat) : State :=
  ((s.set (Fd.LACE_CH_STAT_ERR n) 5).laceClear n).report (uLace n) 0x38 2 5

/-- The descriptor has been read. -/
def State.laceTake (s : State) (n : Nat) (ws : List Nat) : State :=
  let l : LaceS := { next := (s.lace n).next, desc := ws }
  let s1 := s.set (Fd.LACE_CH_STAT_DCOUNT n) (s.get (Fd.LACE_CH_STAT_DCOUNT n) + 1)
  if l.bad then (s1.laceEnd n 3 3).report (uLace n) 0x38 1 3 else s1.setLace n l

/-- LACE_DESCRIPTOR_READ (R540, R546, R547). A descriptor in the register window is no single register access: bus error. -/
def State.laceDesc (s : State) (n : Nat) (e : Env) : State :=
  let l := s.lace n
  if !s.laceRuns n || !l.desc.isEmpty then s
  else if max 1 (s.get (Fd.LACE_CH_MAXDESC_MAXDESC n)) ≤ s.get (Fd.LACE_CH_STAT_DCOUNT n) then s.laceOver n
  else if inRegs l.next then s.laceFail n 1
  else s.busRow (256 + n) e (fun b =>
    match b.read (laceWho n) l.next 64 with
    | .wait i => .wait i
    | .err b1 | .ref _ b1 => .done (b1.s.laceFail n 1)
    | .ok d b1 => .done (b1.s.laceTake n (granuleWords d)))

/-! ## Beats (R541–R545) -/

/-- The channel's outstanding requests of the fabric are reads (0) or a write (1). -/
def State.laceOut (s : State) (n : Nat) : Option Nat := (s.busReqs (256 + n)).head?.map (fun r => r.op)

/-- The buffer has room for a granule, and source elements are left (R543). -/
def LaceS.canRead (l : LaceS) : Bool :=
  !l.desc.isEmpty && !l.isFill && decide (l.re < l.total) && decide (l.out.length + l.buf.length < 4)

/-- An element can be gathered, or the last beat of the descriptor written. -/
def LaceS.canWrite (l : LaceS) : Bool :=
  !l.desc.isEmpty && (if l.we < l.total then l.isFill || !l.buf.isEmpty else l.beat.isSome)

/-- Has the channel a beat to issue? -/
def State.laceReady (s : State) (n : Nat) : Bool :=
  s.laceRuns n && ((s.lace n).canRead || ((s.lace n).canWrite && s.laceOut n != some 0))

/-- The channel that the engine serves next (R545): high priority first, then round robin, 16 beats at a time. -/
def State.lacePick (s : State) : Option Nat :=
  let ready := (List.range 32).filter s.laceReady
  let high := ready.filter (fun n => s.flag (Fd.LACE_CH_CTL_PRI n))
  let c := if high.isEmpty then ready else high
  let m := s.move
  if c.contains m.cur && decide (m.beats < 16) then some m.cur
  else ((List.range 32).map (fun i => (m.cur + 1 + i) % 32)).find? c.contains

/-- The engine has issued a beat for channel `n`. -/
def State.laceServed (s : State) (n : Nat) : State :=
  { s with move := { s.move with cur := n, beats := if s.move.cur = n ∧ s.move.beats < 16 then s.move.beats + 1 else 1 } }

/-- The next source read, whose TMO passes at `due`: elements that need none are passed over, at most 64 of them in one step. -/
def LaceS.seek (l : LaceS) (due : Nat) : Nat → LaceS
  | 0 => l
  | k + 1 =>
    if l.total ≤ l.re then l
    else if l.needsRead l.re then { l with re := l.re + 1, out := l.out ++ [(l.piece l.re, due)] }
    else LaceS.seek { l with re := l.re + 1 } due k

/-- Bytes of element `we`. -/
def LaceS.bytes (l : LaceS) : List Nat :=
  let e := l.esize
  if l.isFill then (wordOf (l.w 14) ++ wordOf (l.w 15)).take e
  else match l.buf with
    | [] => []
    | (a, d) :: _ => (d.drop (l.src l.we - a)).take e

/-- Element `we` is done; its granule leaves the buffer unless the next element uses it too. -/
def LaceS.next1 (l : LaceS) : LaceS :=
  let e := l.we + 1
  let drop := !l.isFill && (decide (l.total ≤ e) || l.needsRead e)
  { l with we := e, buf := if drop then l.buf.tail else l.buf }

/-- Put bytes into a beat at offset `o`; a later element's byte replaces an earlier one's. -/
def beatPut (t : List (Nat × Nat)) (o : Nat) (d : List Nat) : List (Nat × Nat) :=
  (d.zipIdx).foldl (fun (a : List (Nat × Nat)) (x : Nat × Nat) => tabInsert a (o + x.2) x.1) t

/-- How gathering goes on: more elements may join, an element waits for its data, or a write is due. -/
inductive LaceDue where
  | more | beat | reg
  deriving DecidableEq, Repr

/-- What is due at element `we`: the beat, where the element falls outside it or the descriptor ends; or a register write. -/
def LaceS.due (l : LaceS) : LaceDue :=
  match l.beat with
  | some (a, _) => if l.we < l.total ∧ inRegs (l.dst l.we) = false ∧ l.dst l.we / 32 * 32 = a then .more else .beat
  | none => if l.we < l.total ∧ inRegs (l.dst l.we) = true then .reg else .more

/-- Gather elements into the beat, at most `k` in one step, until a write is due or data is missing. -/
def LaceS.gather (l : LaceS) : Nat → LaceS
  | 0 => l
  | k + 1 =>
    if l.total ≤ l.we ∨ l.due ≠ .more ∨ (l.isFill = false ∧ l.buf = []) then l
    else
      let a := l.dst l.we / 32 * 32
      let t := match l.beat with | some (_, t) => t | none => []
      LaceS.gather { l.next1 with beat := some (a, beatPut t (l.dst l.we - a) l.bytes) } k

/-- The enables and the bytes of a beat. -/
def beatBytes (t : List (Nat × Nat)) : Nat × List Nat :=
  (t.foldl (fun (a : Nat) (x : Nat × Nat) => a + 2 ^ x.1) 0, (List.range 32).map (fun i => tabGet 0 t i))

/-- A write that is due is made: the state after it, with the channel going on or ended by a bus error. A refused register
write has no bus error (R406). -/
def State.laceWrite (s : State) (n : Nat) (l : LaceS) (e : Env) (a be : Nat) (d : List Nat) (after : LaceS) : State :=
  let lim := some (l.limit.getD (s.moveDue (s.get (Fd.LACE_CH_CTL_TMO n))))
  (s.setLace n { l with limit := lim }).busRow (256 + n) e (fun b =>
    match b.write (laceWho n) a be d with
    | .wait i => .wait i
    | .err b1 => .done (b1.s.laceFail n 1)
    | .ok _ b1 | .ref _ b1 => .done ((b1.s.setLace n { after with limit := none }).laceServed n))

/-- The write side of a beat. -/
def State.laceWriteBeat (s : State) (n : Nat) (e : Env) : State :=
  let l := (s.lace n).gather 64
  match l.due, l.beat with
  | .beat, some (a, t) => s.laceWrite n l e a (beatBytes t).1 (beatBytes t).2 { l with beat := none }
  | .reg, _ =>
    if l.isFill = false ∧ l.buf = [] then s
    else if l.esize ≠ 4 then s.laceFail n 1
    else s.laceWrite n l e (l.dst l.we) 15 l.bytes l.next1
  | _, _ => (s.setLace n l).laceServed n

/-- LACE_BEAT: one granule read or one write beat for the channel that the engine serves. Where both are possible the spec
gives no order between them, and `w` says which comes. A source element of another size than 4 in the register window ends
with bus-error status (R542). -/
def State.laceBeat (s : State) (w : Bool) (e : Env) : State :=
  match s.lacePick with
  | none => s
  | some n =>
    let l := s.lace n
    let canW := l.canWrite && s.laceOut n != some 0
    if canW && (w || !l.canRead) then s.laceWriteBeat n e
    else if inRegs (l.src l.re) && l.esize != 4 then s.laceFail n 1
    else (s.setLace n (l.seek (s.moveDue (s.get (Fd.LACE_CH_CTL_TMO n))) 64)).laceServed n

/-- LACE_READ_ANSWER: the oldest source read issued arrives (R541). -/
def State.laceAnswer (s : State) (n : Nat) (e : Env) : State :=
  match (s.lace n).out with
  | [] => s
  | (a, _) :: rest =>
    if !s.laceRuns n || s.laceOut n == some 1 then s
    else s.busRow (256 + n) e (fun b =>
      match b.read (laceWho n) a (if inRegs a then 4 else 64) with
      | .wait i => .wait i
      | .err b1 | .ref _ b1 => .done (b1.s.laceFail n 1)
      | .ok d b1 => .done (b1.s.setLace n { s.lace n with out := rest, buf := (s.lace n).buf ++ [(a, d)] }))

/-! ## Ends (R547, R548, R550) -/

/-- Every write of the descriptor has completed. -/
def LaceS.finished (l : LaceS) : Bool := !l.desc.isEmpty && decide (l.total ≤ l.we) && l.beat.isNone

/-- LACE_DESCRIPTOR_DONE: the chain goes on, or the channel is DONE. -/
def State.laceDone (s : State) (n : Nat) : State :=
  let l := s.lace n
  if !s.laceRuns n || !l.finished then s
  else
    let s1 := if nbit (l.w 1) 20 && s.flag (Fd.LACE_CH_CTL_IRQEN n) then s.raise (144 + n) else s
    if nbit (l.w 11) 0 then s1.laceChain n (l.w 12 % 256 * 2 ^ 32 + l.w 11 / 64 * 64) else s1.laceEnd n 2 0

/-- Has an access of the channel gone without an answer for TMO × 64 ticks, not counting a halt (R547, R548)? -/
def State.lacePassed (s : State) (n : Nat) : Bool :=
  (s.lace n).limit.any (fun t => decide (t ≤ s.move.clock)) || (s.lace n).out.any (fun x => decide (x.2 ≤ s.move.clock))

/-- LACE_TIMEOUT: an access has had no answer within TMO × 64 ticks. -/
def State.laceTimeout (s : State) (n : Nat) : State :=
  if s.laceRuns n && s.lacePassed n then (s.laceEnd n 3 2).report (uLace n) 0x38 1 2 else s

/-- A channel that no longer runs has nothing in progress. -/
def State.laceSettle (s : State) : State :=
  s.move.lace.foldl (fun (a : State) (x : Nat × LaceS) => if a.laceState x.1 = 1 then a else a.laceClear x.1) s

end Sys2Proof.Machine
end

