-- ==== Sys2Proof/Machine/Skiver.lean ====
section
/-! DEFINITION. Skiver (17_skiver.md): its command list, rectangles and raster operations, beam coupling, and how a list
ends. -/
namespace Sys2Proof.Machine

/-! ## Commands (R555, R556) -/

/-- Fields of the command in progress. -/
def SkivS.w (k : SkivS) (i : Nat) : Nat := k.cmd.getD i 0
def SkivS.op (k : SkivS) : Nat := k.w 0 / 2 ^ 28
def SkivS.rop (k : SkivS) : Nat := nbits (k.w 0) 27 24
def SkivS.fmt (k : SkivS) : Nat := nbits (k.w 0) 23 20
def SkivS.bpp (k : SkivS) : Nat := fmtBpp k.fmt
def SkivS.irq (k : SkivS) : Bool := nbit (k.w 0) 19
def SkivS.wm (k : SkivS) : Bool := nbit (k.w 0) 18
def SkivS.bgtrans (k : SkivS) : Bool := nbit (k.w 0) 17
def SkivS.wmrow (k : SkivS) : Nat := k.w 0 % 2 ^ 13
def SkivS.dst (k : SkivS) : Nat := k.w 2 % 256 * 2 ^ 32 + k.w 1
def SkivS.srcA (k : SkivS) : Nat := nbits (k.w 2) 15 8 * 2 ^ 32 + k.w 3
def SkivS.dpitch (k : SkivS) : Nat := k.w 4 % 2 ^ 20
def SkivS.spitch (k : SkivS) : Nat := k.w 5 % 2 ^ 20
def SkivS.hm1 (k : SkivS) : Nat := nbits (k.w 6) 28 16
def SkivS.wm1 (k : SkivS) : Nat := k.w 6 % 2 ^ 13
def SkivS.dx (k : SkivS) : Nat := k.w 7 / 65536
def SkivS.sx (k : SkivS) : Nat := k.w 7 % 65536
def SkivS.line (k : SkivS) : Nat := nbits (k.w 12) 29 16
def SkivS.head (k : SkivS) : Nat := k.w 12 % 16
/-- Bits per source pixel. -/
def SkivS.sbpp (k : SkivS) : Nat := if k.op = 3 then 1 else k.bpp
/-- Has the command a source rectangle? -/
def SkivS.hasSrc (k : SkivS) : Bool := k.op == 1 || k.op == 3 || k.op == 4

/-- The bits of word `i` that an OP uses (R556); every other bit must be 0. -/
def skUse (op i : Nat) : Nat :=
  let rect := decide (1 ≤ op) && decide (op ≤ 4)
  let src := op == 1 || op == 3 || op == 4
  match i with
  | 0 => 0xF0080000 + (if rect then 0x0FF41FFF else 0) + (if op = 3 then 0x20000 else 0)
  | 1 => if rect || op == 6 then 0xFFFFFFFF else 0
  | 2 => (if rect || op == 6 then 0xFF else 0) + (if src then 0xFF00 else 0)
  | 3 => if src then 0xFFFFFFFF else 0
  | 4 => if rect then 0xFFFFF else 0
  | 5 => if src then 0xFFFFF else 0
  | 6 => if rect then 0x1FFF1FFF else 0
  | 7 => (if rect then 0xFFFF0000 else 0) + (if src then 0xFFFF else 0)
  | 8 => if op = 2 ∨ op = 3 then 0xFFFFFFFF else 0
  | 9 => if op = 3 then 0xFFFFFFFF else 0
  | 10 | 11 => if op = 4 then 0xFFFFFFFF else 0
  | 12 => if op = 5 then 0x3FFF000F else 0
  | _ => 0

/-- Base alignment of a format in bytes (R561). -/
def skAlign (fmt : Nat) : Nat := if 8 ≤ fmt then 4 else if 4 ≤ fmt ∧ fmt ≤ 6 then 2 else 1

/-- Bytes from a row's start to the end of pixel `x`. -/
def rowBytes (x bpp : Nat) : Nat := ceilDiv ((x + 1) * bpp) 8

/-- A rectangle that breaks the base and pitch rules of R561. -/
def skRectBad (base pitch align bytes : Nat) (tall : Bool) : Bool :=
  base % align != 0 || (tall && (pitch % 4 != 0 || decide (pitch < bytes)))

/-- VTOTAL of a head: as taken while it runs, else of its register. -/
def State.skVtotal (s : State) (h : Nat) : Nat := if (s.headS h).running then s.vTotal h else s.get (Fd.HD_VTIME_VTOTAL h)

/-- A malformed command (R561). -/
def State.skBad (s : State) (k : SkivS) : Bool :=
  let tall := k.hm1 != 0
  decide (6 < k.op) || (List.range 16).any (fun i => Nat.land (k.w i) (skUse k.op i) != k.w i) ||
    (decide (1 ≤ k.op) && decide (k.op ≤ 4) &&
      (decide (9 < k.fmt) || skRectBad k.dst k.dpitch (skAlign k.fmt) (rowBytes (k.dx + k.wm1) k.bpp) tall ||
        (k.hasSrc && skRectBad k.srcA k.spitch (if k.op = 3 then 1 else skAlign k.fmt) (rowBytes (k.sx + k.wm1) k.sbpp) tall))) ||
    (k.op == 6 && k.w 1 % 64 != 0) ||
    (k.op == 5 && s.domOn (solegOf k.head) && decide (s.skVtotal k.head ≤ k.line))

/-! ## The list (R555, R566) -/

/-- Skiver as a master: it reaches no register (R560). -/
def skiverWho : Who := { masterWho 0x11 with regs := false }

/-- Is Skiver able to act now? -/
def State.skiverRuns (s : State) : Bool :=
  s.unitUp uSkiver 16 && !s.halted && !s.hub.stopping && s.skiverState == 1

/-- The list ends with an error; a fence that has fallen meanwhile keeps it FENCED (R566, R690). -/
def State.skiverFail (s : State) (err : Nat) : State :=
  if s.skiverState = 5 then (s.set Fd.SKIVER_STAT_ERR err).skiverClear else s.skiverEnd 4 err

/-- A command has been read. -/
def State.skiverTake (s : State) (ws : List Nat) : State :=
  let a := s.skiver.next
  let k : SkivS := { next := a, cmd := ws }
  let s1 := ((s.set Fd.SKIVER_CMDCNT_COUNT (s.get Fd.SKIVER_CMDCNT_COUNT + 1)).set Fd.SKIVER_CURLO_ADDRLO a).set
    Fd.SKIVER_CURHI_ADDRHI (a / 2 ^ 28)
  if s1.skBad k then (s1.skiverEnd 4 3).report uSkiver 0x39 1 3 else s1.setSkiver k

/-- SKIVER_COMMAND_READ (R555, R566). -/
def State.skiverRead (s : State) (e : Env) : State :=
  if !s.skiverRuns || !s.skiver.cmd.isEmpty then s
  else if max 1 (s.get Fd.SKIVER_MAXCMD_MAXCMD) ≤ s.get Fd.SKIVER_CMDCNT_COUNT then
    ((s.set Fd.SKIVER_STAT_ERR 5).skiverClear).report uSkiver 0x39 2 5
  else s.busRow 0x11 e (fun b =>
    match b.read skiverWho s.skiver.next 64 with
    | .wait i => .wait i
    | .err b1 | .ref _ b1 => .done (b1.s.skiverFail 1)
    | .ok d b1 => .done (b1.s.skiverTake (granuleWords d)))

/-! ## Spans and overlap (R562, R563) -/

/-- First and last byte of a rectangle's span. -/
def skSpan (base pitch x0 wm1 hm1 bpp : Nat) : Nat × Nat :=
  (base + x0 * bpp / 8, base + hm1 * pitch + ((x0 + wm1 + 1) * bpp - 1) / 8)

def SkivS.dspan (k : SkivS) : Nat × Nat := skSpan k.dst k.dpitch k.dx k.wm1 k.hm1 k.bpp
def SkivS.sspan (k : SkivS) : Nat × Nat := skSpan k.srcA k.spitch k.sx k.wm1 k.hm1 k.sbpp

/-- The spans share a byte. -/
def SkivS.overlaps (k : SkivS) : Bool :=
  k.hasSrc && decide (k.dspan.1 ≤ k.sspan.2) && decide (k.sspan.1 ≤ k.dspan.2)

/-- An overlap that Skiver cannot resolve. -/
def SkivS.overlapBad (k : SkivS) : Bool := k.overlaps && (k.op == 3 || k.dpitch != k.spitch)

/-- Rows in processing order. -/
def SkivS.rows (k : SkivS) : List Nat :=
  let up := k.overlaps && decide (8 * k.srcA + k.sx * k.sbpp < 8 * k.dst + k.dx * k.bpp)
  if up then (List.range (k.hm1 + 1)).reverse else List.range (k.hm1 + 1)

/-! ## One row (R557–R560) -/

/-- The raster operation on one pixel of `n` bits (R559). -/
def ropPx (rop sv dv : Nat) : Nat → Nat
  | 0 => 0
  | n + 1 => rop / 2 ^ (2 * (sv % 2) + dv % 2) % 2 + 2 * ropPx rop (sv / 2) (dv / 2) n

/-- Does a raster operation depend on the destination? -/
def ropReads (rop : Nat) : Bool := !(rop == 0 || rop == 3 || rop == 12 || rop == 15)

/-- Pixel `x` of a row of which `bytes` are the bytes from byte `b0` on (R143). -/
def pixelAt (bytes : List Nat) (b0 bpp x : Nat) : Nat :=
  let o := x * bpp
  leNat ((bytes.drop (o / 8 - b0)).take 4) / 2 ^ (o % 8) % 2 ^ bpp

/-- The source value of pixel `x` of the rectangle; none leaves the pixel unwritten (R558). -/
def SkivS.value (k : SkivS) (src : List Nat) (x : Nat) : Option Nat :=
  let m := 2 ^ k.bpp
  let p := pixelAt src (k.sx * k.sbpp / 8) k.sbpp (k.sx + x)
  match k.op with
  | 2 => some (k.w 8 % m)
  | 3 => if p = 1 then some (k.w 8 % m) else if k.bgtrans then none else some (k.w 9 % m)
  | 4 => if Nat.land (Nat.xor p (k.w 10 % m)) (k.w 11 % m) = 0 then none else some p
  | _ => some p

/-- Put the low `n` bits of `v` at bit offset `o` of a table of bytes. -/
def putPixel (t : List (Nat × Nat)) (o n v : Nat) : List (Nat × Nat) :=
  (List.range ((o % 8 + n + 7) / 8)).foldl (fun (a : List (Nat × Nat)) (j : Nat) =>
    let lo := if j = 0 then o % 8 else 0
    let w := min (8 - lo) (o + n - (8 * (o / 8 + j) + lo))
    let bits := v / 2 ^ (8 * (o / 8 + j) + lo - o) % 2 ^ w
    tabInsert a (o / 8 + j) (putBits ((tabFind a (o / 8 + j)).getD 0) lo w bits)) t

/-- Which bits of each byte of the row are written, and their new values, with the destination's bytes in `old`. -/
def SkivS.rowOut (k : SkivS) (src old : List Nat) : List (Nat × Nat) × List (Nat × Nat) :=
  let n := k.bpp
  (List.range (k.wm1 + 1)).foldl (fun (a : List (Nat × Nat) × List (Nat × Nat)) (x : Nat) =>
    match k.value src x with
    | none => a
    | some v =>
      let o := (k.dx + x) * n
      let r := ropPx k.rop v (pixelAt old (k.dx * n / 8) n (k.dx + x)) n
      (putPixel a.1 o n (2 ^ n - 1), putPixel a.2 o n r)) ([], [])

/-- How a part of a row ends. -/
inductive SkOut where
  | ok (d : List Nat) (b : Bus)
  | err (b : Bus)
  | wait (i : Option Need)
  deriving DecidableEq, Repr

/-- Read the granules from `g` on, `n` of them. -/
def Bus.skGranules (b : Bus) (g : Nat) : Nat → SkOut
  | 0 => .ok [] b
  | n + 1 =>
    match b.read skiverWho (g % 2 ^ 40) 64 with
    | .wait i => .wait i
    | .err b1 | .ref _ b1 => .err b1
    | .ok d b1 =>
      match b1.skGranules (g + 64) n with
      | .ok r b2 => .ok (d ++ r) b2
      | r => r

/-- Read the bytes from `lo` to `hi`, rounded outward to granules. -/
def Bus.skRead (b : Bus) (lo hi : Nat) : SkOut :=
  match b.skGranules (lo / 64 * 64) (hi / 64 - lo / 64 + 1) with
  | .ok d b1 => .ok ((d.drop (lo % 64)).take (hi - lo + 1)) b1
  | r => r

/-- Read only the granules of a range that hold a byte of which bits are written and bits are kept; elsewhere 0. -/
def Bus.skPartial (b : Bus) (base : Nat) (mask : List (Nat × Nat)) (g : Nat) : Nat → SkOut
  | 0 => .ok [] b
  | n + 1 =>
    let used := mask.any (fun x => decide (0 < x.2) && decide (x.2 < 255) && decide ((base + x.1) / 64 * 64 = g))
    let r1 := if used then b.skGranules g 1 else .ok (List.replicate 64 0) b
    match r1 with
    | .ok d b1 =>
      (match b1.skPartial base mask (g + 64) n with
      | .ok r b2 => .ok (d ++ r) b2
      | r => r)
    | r => r

/-- The destination bytes that a row needs before its writes: all of them where ROP reads them, else those that are
merged. -/
def Bus.skOld (b : Bus) (k : SkivS) (row lo hi : Nat) (src : List Nat) : SkOut :=
  if ropReads k.rop then b.skRead lo hi
  else match b.skPartial row (k.rowOut src []).1 (lo / 64 * 64) (hi / 64 - lo / 64 + 1) with
    | .ok d b1 => .ok ((d.drop (lo % 64)).take (hi - lo + 1)) b1
    | r => r

/-- Write the beats of a row from address `g` on: whole bytes, with the kept bits of `old` merged in. -/
def Bus.skBeats (b : Bus) (row b0 : Nat) (out : List (Nat × Nat) × List (Nat × Nat)) (old : List Nat) (g : Nat) : Nat → SkOut
  | 0 => .ok [] b
  | n + 1 =>
    let byte := fun (i : Nat) =>
      let o := g + i - row
      let m := (tabFind out.1 o).getD 0
      let x := if g + i < row then 0 else Nat.lor ((tabFind out.2 o).getD 0) (Nat.land (old.getD (o - b0) 0) (Nat.xor 255 m))
      (decide (row ≤ g + i) && m != 0, x)
    let be := (List.range 32).foldl (fun (a i : Nat) => a + (if (byte i).1 then 2 ^ i else 0)) 0
    if be = 0 then b.skBeats row b0 out old (g + 32) n
    else match b.write skiverWho (g % 2 ^ 40) be ((List.range 32).map (fun i => (byte i).2)) with
      | .wait i => .wait i
      | .err b1 | .ref _ b1 => .err b1
      | .ok _ b1 => b1.skBeats row b0 out old (g + 32) n

/-- Row `y` of the rectangle: its source, the destination where it is needed, and its beats. -/
def Bus.skRow (b : Bus) (k : SkivS) (y : Nat) : SkOut :=
  let row := k.dst + y * k.dpitch
  let b0 := k.dx * k.bpp / 8
  let lo := row + b0
  let hi := row + ((k.dx + k.wm1 + 1) * k.bpp - 1) / 8
  let srow := k.srcA + y * k.spitch
  let s1 := if k.hasSrc then b.skRead (srow + k.sx * k.sbpp / 8) (srow + ((k.sx + k.wm1 + 1) * k.sbpp - 1) / 8) else .ok [] b
  match s1 with
  | .ok src b1 =>
    (match b1.skOld k row lo hi src with
    | .ok old b2 => b2.skBeats row b0 (k.rowOut src old) old (lo / 32 * 32) (hi / 32 - lo / 32 + 1)
    | r => r)
  | r => r

/-- Every write of row `y` has completed (R565): ROW, and the watermark. -/
def State.skRowDone (s : State) (k : SkivS) (y : Nat) : State :=
  let s1 := s.set Fd.SKIVER_STAT_ROW y
  if k.wm && y == k.wmrow then s1.set Fd.SKIVER_STAT_WMEV 1 else s1

/-- The rows of a command in processing order. -/
def Bus.skRows (b : Bus) (k : SkivS) : List Nat → SkOut
  | [] => .ok [] b
  | y :: t =>
    match b.skRow k y with
    | .ok _ b1 => { b1 with s := b1.s.skRowDone k y }.skRows k t
    | r => r

/-! ## The commands (R558, R562–R566) -/

/-- The command in progress has the code `op` and has not run yet. -/
def State.skiverAt (s : State) (op : Nat) : Bool :=
  s.skiverRuns && !s.skiver.cmd.isEmpty && s.skiver.op == op && !s.skiver.done

/-- Every write of the command has completed. -/
def State.skiverDone (s : State) : State := s.setSkiver { s.skiver with done := true, due := none }

/-- The access that waits: TMO runs from its issue, when the one before it was answered (R566). -/
def State.skiverIssue (s : State) : State :=
  let n := ((s.busReqs 0x11).filter (fun r => r.ans.isSome)).length
  let t := match s.skiver.due with | some (k, t) => if k = n then t else s.moveDue (s.get Fd.SKIVER_CTL_TMO) | none => s.moveDue (s.get Fd.SKIVER_CTL_TMO)
  s.setSkiver { s.skiver with due := some (n, t) }

/-- COPY, FILL, GLYPH and KEYCOPY. -/
def State.skRect (s : State) (op : Nat) (e : Env) : State :=
  if !s.skiverAt op then s
  else if s.skiver.overlapBad then (s.skiverEnd 4 6).report uSkiver 0x39 1 6
  else s.skiverIssue.busRow 0x11 e (fun b =>
    match b.skRows s.skiver s.skiver.rows with
    | .wait i => .wait i
    | .err b1 => .done (b1.s.skiverFail 1)
    | .ok _ b1 => .done (if b1.s.skiverState = 1 then b1.s.skiverDone else b1.s))

/-- What the completion of a command raises (R568). -/
def State.skiverIrq (s : State) : State :=
  if !s.skiver.irq then s
  else
    let s1 := s.set Fd.SKIVER_STAT_CMDEV 1
    if s.flag Fd.SKIVER_CTL_IRQEN then s1.raise 176 else s1

/-- END. -/
def State.skEnd (s : State) : State := if s.skiverAt 0 then s.skiverIrq.skiverEnd 3 0 else s

/-- JUMP. -/
def State.skJump (s : State) : State := if s.skiverAt 6 then s.skiverDone else s

/-- The head of a WAIT is stopped or has its power domain off (R564). -/
def State.skHeadDown (s : State) : Bool :=
  !s.domOn (solegOf s.skiver.head) || !(s.headS s.skiver.head).running

/-- A WAIT fails (R566): a C0 record. -/
def State.skHeadstop (s : State) : State := (s.skiverEnd 4 7).report uSkiver 0x39 0 7

/-- WAIT. -/
def State.skWait (s : State) : State :=
  if !s.skiverAt 5 then s
  else if s.skHeadDown then s.skHeadstop
  else s.set Fd.SKIVER_STAT_STATE 2

/-- SKIVER_WAIT_END: the awaited line arrives, or the head is down (R564). -/
def State.skWaitEnd (s : State) : State :=
  if s.skiverState ≠ 2 ∨ s.unitUp uSkiver 16 = false ∨ s.halted = true then s
  else if s.skHeadDown then s.skHeadstop
  else (s.set Fd.SKIVER_STAT_STATE 1).skiverDone

/-- SKIVER_COMMAND_DONE: the next command will be read (R555, R563). -/
def State.skiverNext (s : State) : State :=
  let k := s.skiver
  if !s.skiverRuns || k.cmd.isEmpty || !k.done then s
  else s.skiverIrq.skiverChain (if k.op = 6 then k.dst / 64 * 64 else (k.next + 64) % 2 ^ 40)

/-- SKIVER_TIMEOUT (R566, R567): the access that waits has had no answer for TMO × 64 ticks, not counting a halt. -/
def State.skiverTimeout (s : State) : State :=
  if s.skiverRuns && s.skiver.due.any (fun x => decide (x.2 ≤ s.move.clock)) then (s.skiverEnd 4 2).report uSkiver 0x39 1 2 else s

/-- A list that no longer runs has nothing in progress, and a WAIT whose head goes down fails at once. -/
def State.skiverSettle (s : State) : State :=
  if s.skiverState = 2 ∧ s.halted = false then (if s.skHeadDown then s.skHeadstop else s)
  else if s.skiverState = 1 ∨ s.skiverState = 2 ∨ s.skiver = {} then s
  else s.skiverClear

end Sys2Proof.Machine
end

