-- ==== Sys2Proof/Machine/AwlMem.lean ====
section
/-! DEFINITION. The Awl instructions that leave the core: loads and stores (R497–R500, R529–R531) and register access by IN
and OUT (R503, R504). -/
namespace Sys2Proof.Machine

/-! ## Where a cell's access goes -/

/-- Core `n` as a master of memory: it reaches no register this way (R497). -/
def coreWho (n : Nat) : Who := { masterWho (0x12 + n) with regs := false }

/-- The byte address of a cell, where it is not unmapped. -/
def CellAt.addr (n : Nat) : CellAt → Nat
  | .system a => a
  | .code c => localBase n + 2 * c
  | .loc c => localBase n + 2 * c
  | .shared c => sharedBase + 2 * c
  | .bad => 0

/-- Is an access of a system byte address by master `m`, which reaches no register, unmapped (R35, R36, R497, R498)? -/
def State.sysUnmapped (s : State) (m a : Nat) (wr : Bool) : Bool :=
  match decodeAddr a with
  | .reg _ | .hole => true
  | .gddr => s.gddrAcc a == .unmapped
  | .awlLocal n off => wr && !s.localWritable m n off
  | .flog _ _ | .lastStore => wr
  | _ => false

/-- What keeps core `n` from a cell (R531): nothing, its own code area (R498), or an unmapped address. -/
inductive CellStop where
  | go | code | unmapped (a : Nat)
  deriving DecidableEq, Repr

/-- The check of one cell. R497 states no byte address for an unmapped cell with bit 33 at 1: the address that R38 captures
is a free value (log entry 6). -/
def State.cellStop (s : State) (n : Nat) (wr : Bool) (c : CellAt) : CellStop :=
  match c with
  | .bad => .unmapped (Config.freeValue s.fresh % 2 ^ 40)
  | .code _ => if wr then .code else .go
  | .system a => if s.sysUnmapped (0x12 + n) a wr then .unmapped a else .go
  | _ => .go

/-- The first cell that stops the access. -/
def State.cellsStop (s : State) (n : Nat) (wr : Bool) (cs : List CellAt) : CellStop :=
  cs.foldl (fun (r : CellStop) (c : CellAt) => if r = .go then s.cellStop n wr c else r) .go

/-- A BUS exception (R505), unless a record has fenced the core meanwhile. -/
def State.busTrap (t : State) (n : Nat) : State := if t.coreState n = 4 then t else t.trap n 2 0 0

/-- The exception of a stopped access. -/
def State.cellTrap (s : State) (n : Nat) (wr : Bool) (k : CellStop) : State :=
  match k with
  | .go => s
  | .code => s.busTrap n
  | .unmapped a => (s.draw.unmapped (0x12 + n) a wr).busTrap n

/-- Two cells in one aligned 32-bit word of system memory are a single access (R531). -/
def oneWord : List CellAt → Bool
  | [.system a, .system b] => b == a + 2 && a % 4 == 0
  | _ => false

/-- Two system cells in different aligned 64-byte granules (R531). -/
def splitGranules : List CellAt → Bool
  | [.system a, .system b] => a / 64 != b / 64
  | _ => false

/-! ## Loads and stores -/

/-- How the cells of a load end: their values, a bus error, or a wait. -/
inductive CellsOut where
  | ok (vs : List Nat) (b : Bus)
  | err (b : Bus)
  | wait (i : Option Need)
  deriving DecidableEq, Repr

/-- Read cells, one access each. -/
def Bus.loadEach (b : Bus) (n : Nat) : List CellAt → CellsOut
  | [] => .ok [] b
  | c :: t =>
    match b.read (coreWho n) (c.addr n) 2 with
    | .wait i => .wait i
    | .err b1 | .ref _ b1 => .err b1
    | .ok d b1 =>
      match b1.loadEach n t with
      | .ok vs b2 => .ok (leNat d :: vs) b2
      | r => r

/-- Read the cells of a load. -/
def Bus.loadCells (b : Bus) (n : Nat) (cs : List CellAt) : CellsOut :=
  if oneWord cs then
    match b.read (coreWho n) ((cs.headD .bad).addr n) 4 with
    | .wait i => .wait i
    | .err b1 | .ref _ b1 => .err b1
    | .ok d b1 => .ok [leNat (d.take 2), leNat (d.drop 2)] b1
  else b.loadEach n cs

/-- The two bytes of a cell. -/
def halfOf (v : Nat) : List Nat := [v % 256, v / 256 % 256]

/-- Write one cell. A core writes its own local memory above the code area at any time (R498). -/
def Bus.storeCell (b : Bus) (n : Nat) (c : CellAt) (v : Nat) : BusOut :=
  match c with
  | .loc k => (BusOut.ok [] { b with s := b.s.putHalf (localBase n + 2 * k) v }).seen (0x12 + n) (localBase n + 2 * k) 2 true
  | _ => b.write (coreWho n) (c.addr n) 3 (halfOf v)

/-- Write cells, one access each. -/
def Bus.storeEach (b : Bus) (n : Nat) : List (CellAt × Nat) → CellsOut
  | [] => .ok [] b
  | (c, v) :: t =>
    match b.storeCell n c v with
    | .wait i => .wait i
    | .err b1 | .ref _ b1 => .err b1
    | .ok _ b1 => b1.storeEach n t

/-- Write the cells of a store. -/
def Bus.storeCells (b : Bus) (n : Nat) (cs : List CellAt) (vs : List Nat) : CellsOut :=
  if oneWord cs then
    match b.write (coreWho n) ((cs.headD .bad).addr n) 15 (halfOf (vs.getD 0 0) ++ halfOf (vs.getD 1 0)) with
    | .wait i => .wait i
    | .err b1 | .ref _ b1 => .err b1
    | .ok _ b1 => .ok [] b1
  else b.storeEach n (cs.zip vs)

/-- The core's value watchpoints see the cells accessed (R718). -/
def State.wpCells (s : State) (n pc : Nat) (wr : Bool) (cas vs : List Nat) : State :=
  (cas.zip vs).foldl (fun (a : State) (x : Nat × Nat) => a.wpCore n x.1 x.2 pc wr) s

/-- The tag check of a memory instruction: Gb, then Gi (R501, R524). -/
def State.memCheck (s : State) (n : Nat) (i : Insn) : TagFail :=
  let gi := i.x / 4 % 16
  tagFirst [tagIn i.gs (s.gcell n i.gs) [tPTR],
    if formIndexed (s.get (Fd.AWL_CFG_AMODE n)) i.x then tagIn gi (s.gcell n gi) [tNUM] else none]

/-- The offset and the new value of Gb of a memory instruction that accesses `cnt` cells. -/
def State.memForm (s : State) (n cnt : Nat) (i : Insn) : Nat × Option Nat :=
  formOffset (s.get (Fd.AWL_CFG_AMODE n)) i.x (valOf (s.gcell n i.gs)) (valOf (s.gcell n (i.x / 4 % 16))) cnt

/-- The cell addresses that a memory instruction accesses (R497, R500). -/
def State.memCells (s : State) (n cnt : Nat) (i : Insn) : List Nat :=
  (List.range cnt).map (cellAddr (s.bankReg n (nbits i.x 9 8)) (s.memForm n cnt i).1)

/-- Update Gb. -/
def State.putBase (s : State) (n r : Nat) : Option Nat → State
  | none => s
  | some v => s.setG n r (mkCell tPTR v)

/-- Write loaded cells into Gd and the cell after it. -/
def State.setGs (s : State) (n r : Nat) : List Nat → State
  | [] => s
  | v :: t => (s.setG n r v).setGs n (r + 1) t

/-- The access of a load. -/
def State.loadBody (s : State) (n cnt : Nat) (i : Insn) (b : Bus) : Fin' :=
  let cas := s.memCells n cnt i
  match b.loadCells n (cas.map (cellAt (s.get (Fd.AWL_CFG_XB n)))) with
  | .wait w => .wait w
  | .err b1 => .done (b1.s.busTrap n)
  | .ok vs b1 =>
    .done ((((b1.s.wpCells n (s.pcOf n) false cas vs).putBase n i.gs (s.memForm n cnt i).2).setGs n i.gd vs).advance n)

/-- The access of a store. -/
def State.storeBody (s : State) (n cnt : Nat) (i : Insn) (b : Bus) : Fin' :=
  let cas := s.memCells n cnt i
  let vs := (List.range cnt).map (fun j => s.gcell n (i.gd + j))
  match b.storeCells n (cas.map (cellAt (s.get (Fd.AWL_CFG_XB n)))) vs with
  | .wait w => .wait w
  | .err b1 => .done (b1.s.busTrap n)
  | .ok _ b1 => .done (((b1.s.wpCells n (s.pcOf n) true cas vs).putBase n i.gs (s.memForm n cnt i).2).advance n)

/-- LD, LD2, ST and ST2 (R524, R531). -/
def State.runMem (s : State) (n op cnt : Nat) (wr : Bool) (e : Env) : State :=
  s.runOp n op fun i =>
    match s.memCheck n i with
    | some f => s.tagTrap n f
    | none =>
      let cs := (s.memCells n cnt i).map (cellAt (s.get (Fd.AWL_CFG_XB n)))
      match s.cellsStop n wr cs with
      | .go =>
        if wr && splitGranules cs then s.busTrap n
        else s.busRow (0x12 + n) e (if wr then s.storeBody n cnt i else s.loadBody n cnt i)
      | k => s.cellTrap n wr k

/-! ## IN and OUT (R503, R504) -/

/-- The tag check of IN and OUT: Gs, Gs + 1, Gd, Gd + 1, all NUM. -/
def State.ioCheck (s : State) (n : Nat) (i : Insn) : TagFail :=
  tagFirst ([i.gs, i.gs + 1, i.gd, i.gd + 1].map (fun r => tagIn r (s.gcell n r) [tNUM]))

/-- Offset of the register that an index pair names; none where bits 13:8 of its second cell are not 0. -/
def State.ioReg (s : State) (n : Nat) (i : Insn) : Option Nat :=
  let hi := valOf (s.gcell n (i.gs + 1))
  if hi / 256 ≠ 0 then none else some (4 * (valOf (s.gcell n i.gs) + hi * 2 ^ 14))

/-- Does a register lie in a power domain that is off? -/
def State.ioOff (s : State) (k : Nat) : Bool := (regExists k || reservedSlot k) && !s.domOn (regDomain k)

/-- IN or OUT ends: C, and for IN the value read. -/
def State.ioEnd (s : State) (n : Nat) (i : Insn) (v : Option Nat) (c : Bool) : State :=
  let s1 := match v with
    | some x => (s.setG n i.gd (mkCell tNUM x)).setG n (i.gd + 1) (mkCell tNUM (x / 2 ^ 14))
    | none => s
  (s1.setFlags n { s1.flagsOf n with c := c }).advance n

/-- The access of an IN at a register offset. -/
def State.inBody (s : State) (n : Nat) (i : Insn) (k : Nat) (b : Bus) : Fin' :=
  match b.readW (masterWho (0x12 + n)) (0xFF00000000 + k) with
  | .wait w => .wait w
  | .err b1 | .ref _ b1 => .done (b1.s.ioEnd n i (some 0) true)
  | .ok d b1 => .done (b1.s.ioEnd n i (some (if s.ioOff k then 0 else leNat d)) (s.ioOff k))

/-- The access of an OUT at a register offset. -/
def State.outBody (s : State) (n : Nat) (i : Insn) (k : Nat) (b : Bus) : Fin' :=
  let v := valOf (s.gcell n i.gd) + valOf (s.gcell n (i.gd + 1)) * 2 ^ 14
  match b.writeW (masterWho (0x12 + n)) (0xFF00000000 + k) v with
  | .wait w => .wait w
  | .err b1 | .ref _ b1 => .done (b1.s.ioEnd n i none true)
  | .ok _ b1 => .done (b1.s.ioEnd n i none (s.ioOff k))

/-- IN and OUT. An index above the register window is unmapped; the address that R38 captures for it is a free value
(log entry 6). -/
def State.runIo (s : State) (n op : Nat) (wr : Bool) (e : Env) : State :=
  s.runOp n op fun i =>
    match s.ioCheck n i with
    | some f => s.tagTrap n f
    | none =>
      match s.ioReg n i with
      | none => (s.draw.unmapped (0x12 + n) (Config.freeValue s.fresh % 2 ^ 40) wr).ioEnd n i (if wr then none else some 0) true
      | some k => s.busRow (0x12 + n) e (if wr then s.outBody n i k else s.inBody n i k)

/-! ## Control flow (R535) -/

/-- The CODE cell that CALL and CALLR write into G15. -/
def State.linkCell (s : State) (n : Nat) : Nat := mkCell tCODE (s.pcOf n + 1)

/-- JMP and CALLR: to the index in Gs, which must be CODE. -/
def State.runJmp (s : State) (n op : Nat) (link : Bool) : State :=
  s.runOp n op fun i =>
    let x := s.gcell n i.gs
    match tagIn i.gs x [tCODE] with
    | some f => s.tagTrap n f
    | none => (if link then s.setG n 15 (s.linkCell n) else s).jump n (valOf x)

/-- TRAP: vector 5, with the next instruction as the frame's return index (R505, R536). -/
def State.runTrap (s : State) (n : Nat) : State :=
  s.runOp n 0x35 fun _ =>
    (if s.coreLocked n then s.breakLock n else s).enter n 5 ((s.pcOf n + 1) % 2 ^ 14) 0 0 (s.pcOf n)

end Sys2Proof.Machine
end

