-- ==== Sys2Proof/Machine/Endpoint.lean ====
section
/-! DEFINITION. The PCI Express endpoint beyond its link (09_lanes.md R319, R320): its configuration space and MSI-X table, whose
layout is the base specification's (PRESUMED, log entry 77), its messages to the host, and PERST_N. -/
namespace Sys2Proof.Machine

def State.modEp (s : State) (f : EpS → EpS) : State := { s with lanes := { s.lanes with ep := f s.lanes.ep } }

/-- The endpoint is in D0 (R319): bits 1:0 of its power-management register. -/
def State.epD0 (s : State) : Bool := tabGet 0 s.lanes.ep.conf 0x44 % 4 == 0

/-! ## Configuration space -/

/-- Writable and write-1-to-clear bits of a configuration word. -/
def confMask (o : Nat) : Nat × Nat :=
  match o with
  | 0x04 => (0x0547, 0)                 -- command: spaces, bus master, parity, SERR, interrupt disable
  | 0x10 => (0xFF000000, 0)             -- BAR0, 16 MiB
  | 0x14 => (0xFFFFFFFF, 0)
  | 0x18 => (0xF0000000, 0)             -- BAR2, 256 MiB
  | 0x1C => (0xFFFFFFFF, 0)
  | 0x20 => (0xFFFFF000, 0)             -- BAR4, 4 KiB
  | 0x3C => (0xFF, 0)
  | 0x44 => (0x0003, 0)                 -- power state
  | 0x50 => (0xC0000000, 0)             -- MSI-X enable, function mask
  | 0x68 => (0xE0 + 0x1F + 0x7000, 0x000F0000)  -- device control and status
  | 0x70 => (0x0003 + 0x0040, 0)        -- link control: ASPM, common clock
  | 0x104 => (0, 0x01FFF030)            -- AER: uncorrectable status
  | 0x108 => (0x01FFF030, 0)
  | 0x10C => (0x01FFF030, 0)
  | 0x110 => (0, 0x0000F1C1)            -- AER: correctable status
  | 0x114 => (0x0000F1C1, 0)
  | _ => (0, 0)

/-- The fixed bits of a configuration word: IDs from the fuses, class code 0x03_8000, BAR types, capabilities (R319). -/
def State.confFixed (s : State) (o : Nat) : Nat :=
  match o with
  | 0x00 => s.fuses.pcieId
  | 0x04 => 0x00100000
  | 0x08 => 0x03800000
  | 0x10 => 0x4
  | 0x18 => 0xC
  | 0x2C => s.fuses.pcieSub
  | 0x34 => 0x40
  | 0x40 => 0x00035001                  -- power management: D0 and D3hot
  | 0x50 => 63 * 65536 + 0x6011         -- MSI-X: 64 vectors
  | 0x54 => 0x4                         -- its table at BAR4 + 0
  | 0x58 => 0x804                       -- its pending-bit array at BAR4 + 0x800
  | 0x60 => 0x00020010                  -- PCI Express endpoint, version 2
  | 0x64 => 0x8002                      -- payloads up to 512 bytes, role-based error reporting
  | 0x6C => 0x00000800 + s.get Fd.PCIE_CTL_MAXGEN + pcieLanes (s.get Fd.PCIE_CTL_MAXW) * 16
  | 0x70 => (s.get Fd.PCIE_STAT_GEN + pcieLanes (s.get Fd.PCIE_STAT_WIDTH) * 16) * 65536
  | 0x100 => 0x00020001
  | _ => 0

/-- A configuration word as it reads. -/
def State.confRead (s : State) (o : Nat) : Nat := s.confFixed o + tabGet 0 s.lanes.ep.conf o

/-- A write of a configuration word under byte enables. -/
def State.confWrite (s : State) (o be v : Nat) : State :=
  let m := (List.range 4).foldl (fun a i => if nbit be i then a + 255 * 256 ^ i else a) 0
  let (rw, w1) := confMask o
  let old := tabGet 0 s.lanes.ep.conf o
  let set_ := Nat.land v (Nat.land rw m)
  let keep := Nat.land old (Nat.xor (2 ^ 32 - 1) (Nat.land rw m))
  let kept := Nat.land keep (Nat.xor (2 ^ 32 - 1) (Nat.land v (Nat.land w1 m)))
  s.modEp (fun e => { e with conf := tabPut 0 e.conf o (set_ + kept) })

/-- An Unsupported Request is noted in AER and in the device status (R319, R320). -/
def State.epUnsupported (s : State) : State :=
  s.modEp (fun e =>
    let note := fun c o b => tabPut 0 c o (Nat.lor (tabGet 0 c o) b)
    { e with conf := note (note e.conf 0x104 0x00100000) 0x68 0x00080000 })

/-- Up to 100 ms after PERST_N releases, configuration requests are answered with Configuration Request Retry Status (R320). -/
def State.confRetries (s : State) : Bool :=
  match s.lanes.ep.released with
  | some t => decide ((s.time.now + 2 ^ 56 - t) % 2 ^ 56 < 100 * msTicks)
  | none => false

/-! ## The MSI-X table and pending bits (R319, R646) -/

/-- Word `i` of the MSI-X table: vector i / 4; its control word masks the vector at reset. -/
def State.msixWord (s : State) (i : Nat) : Nat := tabGet (if i % 4 = 3 then 1 else 0) s.lanes.ep.table i

/-- A word of BAR4: the table, then the pending bits. -/
def State.bar4Read (s : State) (o : Nat) : Nat :=
  if o < 0x400 then s.msixWord (o / 4)
  else if o = 0x800 ∨ o = 0x804 then
    ((s.icu.msixPend.filter (fun v => v / 32 == (o - 0x800) / 4)).map (fun v => 2 ^ (v % 32))).sum
  else 0

/-- A write of a word of BAR4 under byte enables: the pending bits are read-only. -/
def State.bar4Write (s : State) (o be v : Nat) : State :=
  if 0x400 ≤ o then s
  else
    let i := o / 4
    let old := s.msixWord i
    let w := (List.range 4).foldl (fun a b => a + (if nbit be b then v / 256 ^ b % 256 else old / 256 ^ b % 256) * 256 ^ b) 0
    s.modEp (fun e => { e with table := tabPut (if i % 4 = 3 then 1 else 0) e.table i (match i % 4 with | 3 => w % 2 | 0 => w / 4 * 4 | _ => w) })

/-- Is the way to the host closed for vector `v` (R646, R648): MSI-X off, function or vector masked, no bus master, D3hot, the link
down, PERST_N asserted, or GDIS 1, which lets no MSI-X message be issued? -/
def State.msixShut (s : State) (v : Nat) : Bool :=
  let ctl := tabGet 0 s.lanes.ep.conf 0x50
  !nbit ctl 31 || nbit ctl 30 || nbit (s.msixWord (4 * v + 3)) 0 || !nbit (tabGet 0 s.lanes.ep.conf 0x04) 2 || !s.epD0 ||
    !s.flag Fd.PCIE_STAT_LINKUP || s.flag Fd.PCIE_STAT_PERST || s.flag Fd.ICU_CTL_GDIS

/-- The message of vector `v` leaves: a memory write of its data to its address. Its pending bit clears, but for a mailbox
message of the vector that still waits. -/
def State.msixSend (s : State) (v : Nat) : State :=
  let a := s.msixWord (4 * v + 1) * 2 ^ 32 + s.msixWord (4 * v)
  { s with icu := { s.icu with msixPend := if s.lanes.ep.box.contains v then s.icu.msixPend else s.icu.msixPend.filter (fun x => x != v) },
           lanes := { s.lanes with ep := { s.lanes.ep with sent := some (a, s.msixWord (4 * v + 2)) } } }

/-- Vector `v`'s pending bit is set. -/
def State.msixPending (s : State) (v : Nat) : State := { s with icu := { s.icu with msixPend := setAdd s.icu.msixPend v } }

/-- The mailbox's message of vector `v` (R397): it leaves now, or waits with the pending bit set. -/
def State.boxMessage (s : State) (v : Nat) : State :=
  if s.msixShut v then (s.msixPending v).modEp (fun e => { e with box := setAdd e.box v })
  else s.msixSend v

/-! ## PERST_N (R320) -/

/-- A level of PERST_N: asserted, it resets the endpoint and the PCIE registers as their Unit column says, and the link is
down; its release starts the time in which configuration requests are put off. -/
def State.perst (s : State) (asserted : Bool) : State :=
  if !s.domOn 12 then s
  else if asserted then
    let keys := [Rg.PCIE_CTL, Rg.PCIE_STAT, Rg.PCIE_MBRING, Rg.PCIE_MBCPTR, Rg.PCIE_MBRPTR, Rg.PCIE_MBCFG, Rg.PCIE_MBPKT, Rg.PCIE_MBRPL]
    let s0 := { s.endSession .pcie with icu := { s.icu with msixPend := [] } }.modEp (fun _ => {})
    let s1 := (keys.foldl (fun a k => a.unitReg k) s0).set Fd.PCIE_STAT_PERST 1
    if s.portMode 0 = 2 ∧ s.fenced (uPort 0) = false then (s1.lanesIdle 0).setPortState 0 1 else s1
  else if s.flag Fd.PCIE_STAT_PERST then (s.set Fd.PCIE_STAT_PERST 0).modEp (fun e => { e with released := some s.time.now })
  else s

end Sys2Proof.Machine
end

