-- ==== Sys2Proof/Machine/Jobs.lean ====
section
/-! DEFINITION. Work that goes on after its command has been answered or that a block does on its own, with accesses of the
system address space: staging copies (R98), image verification and boot loading (R475, R476, R481), and the report rings of
Insole (R617, R619). -/
namespace Sys2Proof.Machine

/-! ## Runs of words -/

/-- How a run of word accesses ends: the words read, whether a bus error met it, and the accesses so far. -/
inductive RunOut where
  | ok (ws : List Nat) (fail : Bool) (b : Bus)
  | wait (i : Option Need)
  deriving DecidableEq, Repr

/-- Read `n` words from `a`. At a bus error the run ends where `stop` says so; else the word is zero (R35) and it goes on. -/
def Bus.readRun (b : Bus) (w : Who) (stop : Bool) (a : Nat) : Nat → RunOut
  | 0 => .ok [] false b
  | n + 1 =>
    match b.readW w a with
    | .wait i => .wait i
    | .err b1 | .ref _ b1 =>
      if stop then .ok [] true b1
      else match b1.readRun w stop (a + 4) n with
        | .ok ws _ b2 => .ok (0 :: ws) true b2
        | .wait i => .wait i
    | .ok d b1 =>
      match b1.readRun w stop (a + 4) n with
      | .ok ws f b2 => .ok (leNat d :: ws) f b2
      | .wait i => .wait i

/-- Write words from `a`; the run ends at a bus error. A refused register write has none (R406). -/
def Bus.writeRun (b : Bus) (w : Who) (a : Nat) : List Nat → RunOut
  | [] => .ok [] false b
  | v :: t =>
    match b.write w a 15 (wordOf v) with
    | .wait i => .wait i
    | .err b1 => .ok [] true b1
    | .ok _ b1 | .ref _ b1 => b1.writeRun w (a + 4) t

/-- The image that a list of words holds. -/
def wordsImg (ws : List Nat) : Img := fun o => ws.getD (o / 4) 0

/-! ## LAST_STAGE with MEM at 1 (R98) -/

/-- A staging copy ends: its words are read as master 0x16 and written into the slot, up to the first bus error. -/
def State.copyDone (s : State) (slot : Nat) (e : Env) : State :=
  match s.last.copies.find? (fun c => c.slot == slot) with
  | none => s
  | some c =>
    if s.halted || s.inEpisode then s
    else s.busRow (289 + slot) e (fun b =>
      match b.readRun { masterWho 0x16 with q := 289 + slot } true c.src (c.count / 4) with
      | .wait i => .wait i
      | .ok ws fail b1 =>
        let s1 := b1.s.stageWords c.slot c.off ws
        let s2 := { s1 with last := { s1.last with copies := s1.last.copies.filter (fun d => d.slot != slot) } }
        .done (s2.answer c.req (if fail then 0x15 else 0) []))

/-! ## IMAGE_VERIFY (R481) -/

/-- An IMAGE_VERIFY ends with a status and, where the spec states one, a detail; with LOAD, STATE is WAIT again. -/
def State.verifyEnd (s : State) (j : VerJob) (fail : Option (Nat × Option Nat)) (id : Nat) : State :=
  let st := (fail.map (fun f => f.1)).getD 0
  let det := ((fail.bind (fun f => f.2))).getD (Config.freeValue s.fresh)
  let s1 := s.modSec (fun c => { c with verify := none })
  let s2 := if j.load then (s1.set Fd.SEC_BOOT_STATE 2).bootErr st det 0 else s1
  (s2.vstat j.kind st det).verifyReply j.req fail id

/-- The verification of the words of an image ends (R460, R474). With LOAD the manifest's entries follow. -/
def State.verifyWords (s : State) (j : VerJob) (ws : List Nat) : State :=
  let w := wordsImg ws
  let lim := kindLimits j.kind
  if j.load then
    let s1 := s.modSec (fun c => { c with buf := ws })
    match s1.manCheck false with
    | some f => (s1.modSec (fun c => { c with buf := [] })).verifyEnd j (some (f.1, some f.2)) 0
    | none => (s1.modSec (fun c => { c with verify := none, loadReq := some j.req })).loadBegin
  else match s.imageCheck w lim.1 lim.2 with
    | some f => s.verifyEnd j (some (f.1, some f.2)) 0
    | none => s.verifyEnd j none (imgIdentity w)

/-- IMAGE_VERIFY_DONE: the image is read as master 0x1B, each byte once (R461), and checked. A word whose read ends with
bus-error status reads zero (R35). -/
def State.verifyDone (s : State) (e : Env) : State :=
  match s.sec.verify with
  | none => s
  | some j =>
    if s.halted || s.inEpisode || !s.domOn 2 then s
    else if s.fenced uSec then s.verifyEnd j (some (0x13, none)) 0
    else if !s.hasPath .image then s
    else s.busRow 0x1B e (fun b =>
      match b.readRun (masterWho 0x1B) false j.addr 16 with
      | .wait i => .wait i
      | .ok hd _ b1 =>
        let w := wordsImg hd
        let lim := kindLimits j.kind
        if imgHeadBad w lim.1 then .done (b1.s.verifyEnd j (some (formatStatus j.kind, some 1)) 0)
        else if imgLenBad w lim.2 then .done (b1.s.verifyEnd j (some (formatStatus j.kind, some 2)) 0)
        else match b1.readRun (masterWho 0x1B) false (j.addr + 64) (imgLength w / 4 - 16) with
          | .wait i => .wait i
          | .ok ws _ b2 => .done (b2.s.verifyWords j (hd ++ ws)))

/-! ## Loading a manifest's entries (R475) -/

/-- Is a range of system addresses in GDDR7? -/
def inGddr (a : Nat) : Bool := decodeAddr a == .gddr

/-- Does a GDDR7 range lie in a FAIL channel? -/
def State.inFailChannel (s : State) (a n : Nat) : Bool :=
  if s.flag Fd.MEM_STAT_MAPLIN then
    (List.range 6).any (fun c => decide (s.chanOf a ≤ c) && decide (c ≤ s.chanOf (a + n - 1)) && s.chState c == 4)
  else (chanList (s.get Fd.MEM_STAT_CHEFF)).any (fun c => s.chState c == 4)

/-- The entry's target core is off, or one of its GDDR7 ranges is in a FAIL channel. -/
def State.entryDown (s : State) (w : Img) (e : Nat) (flash : Bool) : Bool :=
  (entKind w e == 1 && !s.domOn (awlDomOf (entCore w e))) ||
    (!flash && inGddr (entSrc w e) && s.inFailChannel (entSrc w e) (entLen w e)) ||
    (entKind w e == 0 && inGddr (entDst w e) && s.inFailChannel (entDst w e) (entLen w e))

/-- Does the entry read or write GDDR7, so that it waits for MEM_STAT.READY? -/
def entryGddr (w : Img) (e : Nat) (flash : Bool) : Bool :=
  (!flash && inGddr (entSrc w e)) || (entKind w e == 0 && inGddr (entDst w e))

/-- The words of an entry go to its destination; true when a write ended with bus-error status. -/
def Bus.entryStore (b : Bus) (w : Img) (e : Nat) (ws : List Nat) : RunOut :=
  match entKind w e with
  | 0 => b.writeRun (masterWho 0x1B) (entDst w e) ws
  | 1 => b.writeRun (masterWho 0x1B) (localBase (entCore w e)) ws
  | _ => .ok [] false { b with s := if b.s.domOn 6 then (b.s.openSlot (entSlot w e)).stageWords (entSlot w e) 0 ws else b.s }

/-- Detail 0x18, 0x19 or 0x1B of R475 with its status, which the spec does not state: a free value (log entry 5). -/
def State.entryFail (s : State) (e detail : Nat) : State := s.loadFailed e (Config.loadStatus detail % 256) detail

/-- An entry has been read and written: its digest, and a program's own checks (R475); the last entry ends the boot. -/
def State.entryEnd (s : State) (e : Nat) (ws : List Nat) (fail : Bool) : State :=
  let w := s.manImg
  let n := entCore w e
  if fail then s.entryFail e 0x18
  else if sha3 (wordBytes ws) ≠ entDigest w e then s.entryFail e 0x19
  else match (if entKind w e = 1 then s.imageCheck (s.progImg n) progMagic progLargest else none) with
    | some f => s.loadFailed e f.1 0x1A
    | none =>
      let s1 := s.modSec (fun c => { c with entry := e + 1 })
      if manCount w ≤ e + 1 then s1.bootDone else s1

/-- BOOT_ENTRY_LOADED: the next entry of the manifest is read, digested and written (R475). `flash` holds its bytes on an
SPI NOR boot; none: the flash read failed. -/
def State.bootEntry (s : State) (flash : Option (List Byte)) (e : Env) : State :=
  if s.bootState ≠ 4 ∨ s.halted = true ∨ s.inEpisode = true ∨ s.fenced uSec = true then s
  else
    let w := s.manImg
    let i := s.sec.entry
    let nor := s.sec.loadReq.isNone
    if s.entryDown w i nor then s.entryFail i 0x1B
    else if entryGddr w i nor && !s.flag Fd.MEM_STAT_READY then s
    else s.busRow 0x1B e (fun b =>
      let src := if nor then
          (match flash with
          | none => RunOut.ok [] true b
          | some bs => RunOut.ok (bytesWords ((List.range (entLen w i)).map (fun k => (bs.getD k 0).toNat))) false b)
        else b.readRun (masterWho 0x1B) true (entSrc w i) (entLen w i / 4)
      match src with
      | .wait k => .wait k
      | .ok ws f b1 =>
        match b1.entryStore w i ws with
        | .wait k => .wait k
        | .ok _ g b2 => .done (b2.s.entryEnd i ws (f || g)))

/-! ## Report rings (R616–R619) -/

/-- A report goes into slot SCAN mod 32 of a ring, as two granules in ascending order, each in two 32-byte beats. -/
def Bus.ringReport (b : Bus) (base : Nat) (ws : List Nat) : Nat → Nat → RunOut
  | _, 0 => .ok [] false b
  | i, n + 1 =>
    match b.write (masterWho 0x1D) (base + ws.getD 1 0 % 32 * 128 + 32 * i) (2 ^ 32 - 1) (wordBytes ((ws.drop (8 * i)).take 8)) with
    | .wait k => .wait k
    | .err b1 | .ref _ b1 | .ok _ b1 => b1.ringReport base ws (i + 1) n

/-- SCAN_FRAME_END: the touch report is formed, written into the ring and sent (R616–R618). -/
def State.scanEnd (s : State) (n : Nat) (e : Env) : State :=
  match (s.feS n).done with
  | none => s
  | some d =>
    if !s.unitUp (uFe n) 18 || s.halted || s.fenced (uFe n) then s
    else s.busRow 0x1D e (fun b =>
      let (s1, body) := s.feReport n d
      if s.flag (Fd.INS_FE_CTL_RINGEN n) then
        match { b with s := s1 }.ringReport (s.get (Fd.INS_FE_RING_ADDR n) * 4096) body 0 4 with
        | .wait i => .wait i
        | .ok _ _ b1 => .done ((b1.s.set (Fd.INS_FE_STAT_RPTEV n) 1).feSend n body)
      else .done (s1.feSend n body))

/-- SENSE_PACKET_RECEIVE: the first waiting SENSE packet goes into its receiver's ring, or counts as BAD (R619). -/
def State.senseIn (s : State) (e : Env) : State :=
  if s.halted then s
  else match s.takeIn (fun i => i.pkt.kind == 6#4) with
  | none => s
  | some (i, s1) =>
    let k := s.fcBind i.pkt.dflow.toNat % 2
    let ws : List Nat := i.pkt.payload.map (fun v => v.toNat)
    if i.pkt.len.toNat ≠ 32 ∨ ws.headD 0 / 65536 ≠ 0x5348 then s1.bump (Fd.INS_SRX_STAT_BAD k) 255
    else s.busRow 0x1D e (fun b =>
      match { b with s := s1 }.ringReport (s.get (Fd.INS_SRX_BASE_ADDR k) * 4096) ws 0 4 with
      | .wait w => .wait w
      | .ok _ _ b1 => .done (b1.s.set (Fd.INS_SRX_STAT_RPTEV k) 1))

end Sys2Proof.Machine
end

