-- ==== Sys2Proof/Machine/Tongue.lean ====
section
/-! DEFINITION. Tongue (11_tongue_commands.md): taking a packet from its source, the checks of R387, register, memory and
fault commands, forwarding, replies, rings and the serial host port. -/
namespace Sys2Proof.Machine

/-! ## Packets (R380, R384, R385) -/

/-- The words of a packet with an opcode. -/
def packetWords (p : Packet) (op : Nat) : List Nat :=
  [op * 2 ^ 24 + p.tag.toNat * 2 ^ 16 + p.len, b2n p.loc * 2 ^ 27 + p.target.toNat * 2 ^ 16 + p.sel] ++ p.body.map BitVec.toNat

/-- Do words found at a source spell this packet? Reserved bits are ignored (R381). -/
def packetSpelt (p : Packet) (op : Nat) (ws : List Nat) : Bool :=
  let v := packetWords p op
  ws.length == p.len && Nat.land (ws.getD 0 0) 0xFFFF0FFF == v.getD 0 0 && ws.getD 1 0 % 2 ^ 28 == v.getD 1 0 && ws.drop 2 == v.drop 2

/-- The opcodes of R385. -/
def opKnown (op : Nat) : Bool :=
  [0x01, 0x02, 0x03, 0x04, 0x05, 0x08, 0x09, 0x10, 0x11, 0x12, 0x13, 0x18, 0x20, 0x21, 0x28, 0x29, 0x30, 0x31, 0x38, 0x39, 0x3A,
    0x3F].contains op

/-- Does LENGTH fit the opcode (R385, and the chapters it names)? -/
def lenOk (op : Nat) (p : Packet) : Bool :=
  match op with
  | 0x02 | 0x04 | 0x18 => p.len == 4
  | 0x03 | 0x08 | 0x20 => p.len == 5
  | 0x05 => decide (4 ≤ p.len) && decide (p.len ≤ 4095)
  | 0x09 => decide (5 ≤ p.len) && decide (p.len ≤ 4095)
  | 0x10 => lastStageLen p
  | 0x28 => p.len == 6
  | 0x29 => p.len == 7
  | 0x3F => decide (p.len ≤ 4095)
  | _ => p.len == 3

/-- Does the selector name a unit of R384? -/
def selOk (p : Packet) : Bool :=
  if p.ukind = 0#6 then p.uindex == 0#10 else decide (p.ukind.toNat < 12) && decide (p.uindex.toNat < kindCount p.ukind.toNat)

/-! ## Sources (R394–R399, R750) -/

/-- Is Tongue to give a source's packet its first reply yet (R395)? -/
def State.unanswered (s : State) (src : Src) : Bool :=
  s.tongue.forwarded.any (fun f => f.req.src == src) || s.tongue.resets.any (fun e => e.2.src == src) ||
    s.tongue.running.any (fun r => r.req.src == src)

/-- A reply of a source waits on its path. -/
def State.replyWaits (s : State) (src : Src) : Bool := s.tongue.replies.any (fun r => r.src == src)

/-- Does a source await the first reply to a packet (R419)? One formed and not yet written is awaited still. -/
def State.awaitsReply (s : State) (src : Src) : Bool :=
  s.unanswered src || s.tongue.replies.any (fun r => r.src == src && r.first)

/-- TIRQ_N of the serial host port (R399): low while a reply word waits. -/
def State.tirqN (s : State) : Bool := !s.replyWaits .serial

/-- Does Tongue run (R693, R714, R750)? -/
def State.tongueUp (s : State) : Bool := !s.inEpisode && s.domOn 3 && !s.halted && !s.hub.stopping

/-- CPROD and CCONS, or RCONS and RPROD, of a ring's pointer register (R418, R419). -/
def ringProd (v : Nat) : Nat := v % 2 ^ 13
def ringCons (v : Nat) : Nat := nbits v 25 13

/-- May Tongue take a packet of a source now? -/
def State.tongueFree (s : State) (src : Src) : Bool :=
  s.tongueUp && s.tongue.running.isNone && !s.unanswered src &&
    (match src with
     | .serial | .welt _ => true
     | _ => s.srcEnabled src && !s.replyWaits src)

/-- Space in a reply ring. -/
def ringRoom (v : Nat) : Nat := 4096 - (ringCons v + 8192 - ringProd v) % 8192

/-- Words of the serial host port's reply buffer. -/
def State.serialReplyWords (s : State) : Nat :=
  ((s.tongue.replies.filter (fun r => r.src == .serial)).map (fun r => r.words.length)).sum

/-- Is there room for a first reply of `n` words (R395)? -/
def State.replyRoom (s : State) (src : Src) (n : Nat) : Bool :=
  match ringKeys src with
  | some (_, _, p) => decide (n ≤ ringRoom (s.regN p))
  | none => src != .serial || decide (s.serialReplyWords + n ≤ 4096)

/-- The most words that the first reply to a packet can have (log entry 88). -/
def firstReplyMax (op : Nat) (p : Packet) : Nat :=
  let reads := fun (n : Nat) => if n = 0 ∨ 4093 < n then 3 else 2 + n
  match op with
  | 0x04 => reads (p.w 3 % 2 ^ 12)
  | 0x08 => reads (p.w 4 % 2 ^ 12)
  | 0x13 => 5
  | 0x29 => if nbit (p.w 2) 4 then 3 else 62
  | 0x30 => if nbits (p.w 2) 12 6 = 0 ∨ 64 < p.w 2 % 64 + nbits (p.w 2) 12 6 then 2 else 3 + 4 * nbits (p.w 2) 12 6
  | 0x3F => p.len
  | _ => 3

/-- Tongue as the master of ring accesses. -/
def ringWho : Who := { masterWho 0x16 with q := 297, regs := false }

/-- The region of a source's ring (R396). -/
def State.ringBase (s : State) (r : Nat) : Nat := s.regN r % 2 ^ 25 * 2 ^ 15

/-- A ring access ends with bus-error status (R398): EN clears, ERR sets, and the hub records C1 against master 0x16. -/
def State.ringError (s : State) (src : Src) : State :=
  match ringKeys src with
  | none => s
  | some (r, c, _) =>
    let s1 := (s.setRegN r (s.regN r % 2 ^ 27)).setRegN c (Nat.lor (s.regN c) (2 ^ 27))
    (s1.endSession src).report (uMaster 0x16) 0x05 1 (s.ownerOfSrc src)

/-- Words of a ring's command side from index `i`. -/
def Bus.ringWords (b : Bus) (base i : Nat) : Nat → RunOut
  | 0 => .ok [] false b
  | n + 1 =>
    match b.read ringWho (base + i % 4096 * 4) 4 with
    | .wait w => .wait w
    | .err b1 | .ref _ b1 => .ok [] true b1
    | .ok d b1 =>
      match b1.ringWords base (i + 1) n with
      | .ok ws f b2 => .ok (leNat d :: ws) f b2
      | r => r

/-- What taking a packet gives: it, nothing (another packet or none stands there), a ring error, or a wait. -/
inductive TakeOut where
  | took (b : Bus)
  | none
  | err (b : Bus)
  | wait (i : Option Need)
  deriving DecidableEq, Repr

/-- `n` words at CCONS are consumed. -/
def State.ringTake (s : State) (c n : Nat) : State :=
  s.setRegN c (putBits (s.regN c) 13 13 (ringCons (s.regN c) + n))

/-- The words at CCONS of a ring, where it holds `n` of them and they pass `f`, are consumed. -/
def Bus.takeRing (b : Bus) (src : Src) (n : Nat) (f : List Nat → Bool) : TakeOut :=
  match ringKeys src with
  | none => .none
  | some (r, c, _) =>
    let v := b.s.regN c
    if (ringProd v + 8192 - ringCons v) % 8192 < n then .none
    else match b.ringWords (b.s.ringBase r) (ringCons v) n with
      | .wait i => .wait i
      | .ok ws bad b1 => if bad then .err b1 else if f ws then .took { b1 with s := b1.s.ringTake c n } else .none

/-- The first packet that a Welt context has delivered. -/
def State.inboxOf (s : State) (ctx : Nat) : Option (Nat × Nat × List Nat) := s.tongue.inbox.find? (fun x => x.1 == ctx)

/-- It leaves the inbox, and its ORIGIN is the one to copy. -/
def State.inboxTake (s : State) (x : Nat × Nat × List Nat) : State :=
  { s with tongue := { s.tongue with inbox := dropOne x s.tongue.inbox, origins := tabPut 0 s.tongue.origins x.1 x.2.1 } }

/-- Words of the serial host port's reply side that `n` word periods carry out (R399). -/
def serialOut : Nat → List Reply → List Nat × List Reply
  | 0, q => ([], q)
  | _, [] => ([], [])
  | n + 1, r :: t =>
    if r.src ≠ .serial then
      let (ws, q) := serialOut (n + 1) t
      (ws, r :: q)
    else
      let k := min (n + 1) r.words.length
      let left := r.words.drop k
      if left.isEmpty then (r.words, t) else (r.words.take k, { r with words := left } :: t)

/-- Word periods of the serial host port: the host reads waiting reply words while it sends `n` words; the rest read 0. -/
def State.serialSwap (s : State) : Nat → Nat → List Nat → State
  | 0, n, acc => { s with bus := .values (acc ++ List.replicate n 0) }
  | k + 1, n, acc =>
    if n = 0 ∨ s.replyWaits .serial = false then { s with bus := .values (acc ++ List.replicate n 0) }
    else
      let (ws, q) := serialOut n s.tongue.replies
      ({ s with tongue := { s.tongue with replies := q } }).serialSwap k (n - ws.length) (acc ++ ws)

/-- What is left of the input words behind their whole packets (R387): a packet that has not all arrived. -/
def serialRest : Nat → List Nat → List Nat
  | _, [] => []
  | 0, ws => ws
  | n + 1, w :: t =>
    if w = 0 then serialRest n t
    else if w % 4096 < 2 ∨ (w :: t).length < w % 4096 then w :: t
    else serialRest n ((w :: t).drop (w % 4096))

def State.serialPartial (s : State) : List Nat := serialRest 4096 s.tongue.serialIn

/-- Is the serial host port placed (R399), and does it take words (R750)? -/
def State.serialPlaced (s : State) : Bool := s.eyeFn 16 1 && s.eyeFn 17 1 && s.eyeFn 18 1
def State.serialTakes (s : State) : Bool := s.domOn 3 && !s.inEpisode

/-- A word arrives at the serial host port: an idle word is consumed where a packet would begin (R383), and a word that finds the
input buffer full is discarded (R400). -/
def State.serialWord (s : State) (w : Nat) : State :=
  if !s.serialTakes || (w == 0 && s.serialPartial.isEmpty) then s
  else if 4096 ≤ s.tongue.serialIn.length then s.set Fd.TONGUE_STAT_SHERR 1
  else { s with tongue := { s.tongue with serialIn := s.tongue.serialIn ++ [w] } }

/-- The host clocks words in, and waiting reply words out (R399). -/
def State.serialClock (s : State) (ws : List Nat) : State :=
  if s.serialPlaced then (ws.foldl State.serialWord s).serialSwap ws.length ws.length [] else s

/-- The serial input as Tongue reads it: idle words go (R383). -/
def State.serialFront (s : State) : List Nat := s.tongue.serialIn.dropWhile (fun w => w == 0)

/-- Does a packet stand at the front of the serial input? -/
def State.serialHas (s : State) (op : Nat) (p : Packet) : Bool := packetSpelt p op (s.serialFront.take p.len)

/-- The words of a serial packet arrive, unless they stand at the front already. -/
def State.serialArrive (s : State) (src : Src) (op : Nat) (p : Packet) : State :=
  if src = .serial ∧ s.serialHas op p = false then s.serialClock (packetWords p op) else s

/-- Tongue takes a packet from its source. -/
def Bus.takePacket (b : Bus) (src : Src) (op : Nat) (p : Packet) : TakeOut :=
  match src with
  | .serial =>
    if b.s.serialHas op p then
      .took { b with s := { b.s with tongue := { b.s.tongue with serialIn := b.s.serialFront.drop p.len } } }
    else .none
  | .welt ctx =>
    (match b.s.inboxOf ctx.val with
     | some x => if packetSpelt p op x.2.2 then .took { b with s := b.s.inboxTake x } else .none
     | none => .none)
  | .pcie =>
    (match b.takeRing .pcie p.len (packetSpelt p op) with
     | .took b1 => .took { b1 with s := b1.s.bump Fd.PCIE_MBPKT_COUNT (2 ^ 28 - 1) }
     | r => r)
  | .core n => b.takeRing (.core n) p.len (packetSpelt p op)

/-! ## The order of checks (R387, R470) -/

/-- May a packet of the boot path run before DONE (R470)? MEM_WRITE may target only GDDR7 and Awl shared memory; in UNKEYED every
opcode runs, on any target (DEDUCED, log entry 92). -/
def bootMemOk (op : Nat) (p : Packet) : Bool :=
  op != 0x09 || (List.range (p.len - 4)).all (fun i =>
    match decodeAddr (p.w 2 % 2 ^ 28 + p.w 3 % 2 ^ 12 * 2 ^ 28 + 4 * i) with
    | .gddr | .shared _ => true
    | _ => false)

/-- R470: does Tongue answer a packet 0x14? -/
def State.bootBars (s : State) (src : Src) (op : Nat) (p : Packet) (here : Bool) : Bool :=
  s.bootLimits &&
    (if s.isBootPath src then
      s.bootState != 7 && (!bootOpcode op || (here && !bootMemOk op p))
     else !(here && op == 0x3F))

/-- The lowest enabled transmitting COMMAND context whose PEER is a device. -/
def State.fwdContext (s : State) (dest : Nat) : Option Nat := (s.fcOf 7 true).find? (fun c => s.fcPeer c == dest)

/-- Forward a packet (R404). -/
def State.forward (s : State) (r : Req) (o op : Nat) (p : Packet) : State :=
  match s.fwdContext p.target.toNat with
  | none => s.answer r 0x15 [0]
  | some c =>
    let ws := (o % 16) :: packetWords p op
    let s1 := s.weltOn c (cutWords (ws.length + 1) ws)
    { s1 with tongue := { s1.tongue with forwarded := s1.tongue.forwarded ++ [⟨r, p.target.toNat, s1.time.now⟩] } }

/-- A packet is for this device. -/
def State.isHere (s : State) (p : Packet) : Bool := p.loc || p.target.toNat == s.devId

/-- The checks of R387 on a packet that Tongue has taken, and then its opcode's own rules. -/
def Bus.tongue (b : Bus) (r : Req) (op : Nat) (p : Packet) (body : Bus → Req → Nat → Fin') : Fin' :=
  let s := b.s
  let o := s.ownerOfSrc r.src
  let here := s.isHere p
  if s.bootBars r.src op p here then .done (s.answer r 0x14 [])
  else if !here then .done (s.forward r o op p)
  else if !opKnown op then .done (s.answer r 0x10 [])
  else if !lenOk op p then .done (s.answer r 0x11 [])
  else if (op == 0x21 || op == 0x38) && !selOk p then .done (s.answer r 0x15 [])
  else body b r o

/-- The last reply of a source behind the first `n` is its packet's first. -/
def State.markFirst (s : State) (src : Src) (n : Nat) : State :=
  match (s.tongue.replies.drop n).reverse with
  | [] => s
  | r :: t =>
    if r.src = src then
      { s with tongue := { s.tongue with replies := s.tongue.replies.take n ++ (t.reverse ++ [{ r with first := true }]) } }
    else s

/-- What Tongue runs. -/
def State.setRunning (s : State) (r : Option Running) : State := { s with tongue := { s.tongue with running := r } }

/-- Tongue runs the packet it has taken: when its accesses are done, so is the packet; while they are out, Tongue runs
nothing else (R395). -/
def Bus.runPacket (b : Bus) (x : Running) (body : Bus → Req → Nat → Fin') : State :=
  b.finish 0x16 (fun b1 =>
    match b1.tongue x.req x.op x.pkt body with
    | .done t => .done ((t.setRunning none).markFirst x.req.src b1.s.tongue.replies.length)
    | .wait i => .wait i)

/-- A packet of a source, of the form that its row names. One that Tongue runs already is offered again until its accesses are
done. -/
def State.tongueRow (s : State) (src : Src) (op : Nat) (p : Packet) (e : Env) (form : Bool) (body : Bus → Req → Nat → Fin') : State :=
  match s.tongue.running.filter (fun x => x.req.src == src && x.op == op && x.pkt == p) with
  | some x => if s.tongueUp then (s.busOf e).runPacket x body else s
  | none =>
    if !form then s
    else
      let s1 := s.serialArrive src op p
      if !s1.tongueFree src || !s1.replyRoom src (firstReplyMax op p) || (!s1.isHere p && decide (32 ≤ s1.tongue.forwarded.length)) then s1
      else match (s1.busOf e).takePacket src op p with
        | .none => s1
        | .wait none => s1
        | .wait (some n) => s1.meetNeed n
        | .err b => (b.s.ringError src).dropBus 297
        | .took b =>
          let x : Running := { req := b.s.reqOf src p, op := op, pkt := p }
          ({ b with s := (b.s.dropBus 297).setRunning (some x) }).runPacket x body

/-- A packet whose rules make no access of their own. -/
def plainBody (f : State → Req → Nat → State) : Bus → Req → Nat → Fin' := fun b r o => .done (f b.s r o)

/-! ## Register and memory commands (R388–R392) -/

/-- Tongue as a master under a packet's owner ID. -/
def tongueWho (o : Nat) : Who := { m := 0x16, o := o, q := 0x16, cmd := true }

/-- The system address of a register index (R388). -/
def regAddr (i : Nat) : Nat := 0xFF00000000 + 4 * i

/-- Read words of a command: the answer's values, or an error reply with the count (R391, R392). -/
def Bus.cmdRead (b : Bus) (r : Req) (o : Nat) (addr : Nat → Nat) (i : Nat) (acc : List Nat) : Nat → Fin'
  | 0 => .done (b.s.answer r 0 acc.reverse)
  | n + 1 =>
    match b.readW (tongueWho o) (addr i) with
    | .wait w => .wait w
    | .err b1 => .done (b1.s.answer r 0x15 [i])
    | .ref st b1 => .done (b1.s.answer r st [i])
    | .ok d b1 => b1.cmdRead r o addr (i + 1) (leNat d :: acc) n

/-- Write words of a command. -/
def Bus.cmdWrite (b : Bus) (r : Req) (o : Nat) (addr : Nat → Nat) (i : Nat) : List Nat → Fin'
  | [] => .done (b.s.answer r 0 [])
  | v :: t =>
    match b.writeW (tongueWho o) (addr i) v with
    | .wait w => .wait w
    | .err b1 => .done (b1.s.answer r 0x15 [i])
    | .ref st b1 => .done (b1.s.answer r st [i])
    | .ok _ b1 => b1.cmdWrite r o addr (i + 1) t

/-- Words of a packet from word `i` on. -/
def packetData (p : Packet) (i : Nat) : List Nat := (p.body.drop (i - 2)).map BitVec.toNat

/-- Addresses of a burst (R389). -/
def burstAddr (p : Packet) (i : Nat) : Nat := regAddr (p.w 2 % 2 ^ 22 + if nbit (p.w 2) 22 then 0 else i)

def regReadBody (p : Packet) : Bus → Req → Nat → Fin' := fun b r o => b.cmdRead r o (fun _ => regAddr (p.w 2 % 2 ^ 22)) 0 [] 1
def regWriteBody (p : Packet) : Bus → Req → Nat → Fin' :=
  fun b r o => b.cmdWrite r o (fun _ => regAddr (p.w 2 % 2 ^ 22)) 0 [p.w 3 % 2 ^ 28]
def burstReadBody (p : Packet) : Bus → Req → Nat → Fin' := fun b r o =>
  let n := p.w 3 % 2 ^ 12
  if n = 0 ∨ 4093 < n then .done (b.s.answer r 0x15 [0]) else b.cmdRead r o (burstAddr p) 0 [] n
def burstWriteBody (p : Packet) : Bus → Req → Nat → Fin' :=
  fun b r o => b.cmdWrite r o (burstAddr p) 0 ((packetData p 3).map (fun v => v % 2 ^ 28))

/-- The key whose fields a register shows to owner ID `o`: those of the entry that a window stands on (R412). -/
def State.fieldKey (s : State) (o k : Nat) : Nat :=
  let per := s.get Fd.SYS_PERIDX_PER
  if k = Rg.SYS_EYCFG then Rg.EY (s.eyIx o)
  else if k = Rg.ICU_SRCCFG then Rg.SRC (s.srcIx o)
  else if inArr k Rg.DBG_WPCTL 4 4 then
    (match s.wpSel o with
     | some w => wpKey w (arrIx k Rg.DBG_WPCTL 4)
     | none => k)
  else if k = Rg.SYS_PERDATA then
    (match s.get Fd.SYS_PERIDX_REG with
     | 0 => if per < 4 then Rg.I2C_CFG per else Rg.UART_CFG (per - 4)
     | 1 => Rg.I2C_CMD per
     | 3 => if per < 4 then Rg.I2C_STAT per else Rg.UART_STAT (per - 4)
     | _ => k)
  else s.windowKey o k

/-- The value that REG_MODIFY writes (R390): fields of access W1C, W1S and WO take 0 outside MASK. -/
def modifyValue (k old mask v : Nat) : Nat :=
  let clear := match specAt k with
    | none => 0
    | some r => r.fields.foldl (fun a f =>
        a + (if f.acc = .w1c ∨ f.acc = .w1s ∨ f.acc = .wo then nbits old f.hi f.lo * 2 ^ f.lo else 0)) 0
  Nat.lor (Nat.land (old - clear) (Nat.xor mask (2 ^ 28 - 1))) (Nat.land v mask)

/-- REG_MODIFY (R390): a target that its write would stop at is not read either. -/
def regModifyBody (p : Packet) : Bus → Req → Nat → Fin' := fun b r o =>
  let i := p.w 2 % 2 ^ 22
  let k := 4 * i
  let mask := p.w 3 % 2 ^ 28
  let v := p.w 4 % 2 ^ 28
  let s := b.s
  if !(regExists k || reservedSlot k) then .done (s.answer r 0x15 [0])
  else if !s.domOn (regDomain k) && k / 0x10000 != 7 then .done (s.answer r 0x13 [0])
  else match (if reservedSlot k then none else s.writeRefused o k (Nat.land v mask)) with
    | some d => .done ((s.captureRefusal d o).answer r 0x12 [0])
    | none =>
      match b.readW (tongueWho o) (regAddr i) with
      | .wait w => .wait w
      | .err b1 => .done (b1.s.answer r 0x15 [0])
      | .ref st b1 => .done (b1.s.answer r st [0])
      | .ok d b1 =>
        let old := leNat d
        match b1.writeW (tongueWho o) (regAddr i) (modifyValue (s.fieldKey o k) old mask v) with
        | .wait w => .wait w
        | .err b2 => .done (b2.s.answer r 0x15 [1])
        | .ref st b2 => .done (b2.s.answer r st [1])
        | .ok _ b2 => .done (b2.s.answer r 0 [old])

/-- The address of MEM_READ and MEM_WRITE (R392). -/
def memAddr (p : Packet) (i : Nat) : Nat := (p.w 2 % 2 ^ 28 + p.w 3 % 2 ^ 12 * 2 ^ 28 + 4 * i) % 2 ^ 40

def memReadBody (p : Packet) : Bus → Req → Nat → Fin' := fun b r o =>
  let n := p.w 4 % 2 ^ 12
  if memAddr p 0 % 4 ≠ 0 ∨ n = 0 ∨ 4093 < n then .done (b.s.answer r 0x15 [0]) else b.cmdRead r o (memAddr p) 0 [] n
def memWriteBody (p : Packet) : Bus → Req → Nat → Fin' := fun b r o =>
  if memAddr p 0 % 4 ≠ 0 then .done (b.s.answer r 0x15 [0]) else b.cmdWrite r o (memAddr p) 0 (packetData p 4)

/-- ECHO (R393). -/
def State.echo (s : State) (r : Req) (p : Packet) : State := s.answer r 0 (packetData p 2)

/-! ## Fault commands (R695, R696) -/

/-- FAULT_READ. -/
def State.faultRead (s : State) (r : Req) (p : Packet) : State :=
  let first := p.w 2 % 64
  let n := nbits (p.w 2) 12 6
  if n = 0 ∨ 64 < first + n then s.answer r 0x15 []
  else s.answer r 0 (s.fltSum :: (List.range n).flatMap (fun i => (List.range 4).map (s.logWord (first + i))))

/-- FAULT_ACK. -/
def State.faultAck (s : State) (r : Req) (o : Nat) (p : Packet) : State :=
  let u := p.w 2 % 65536
  let cls := nbits (p.w 2) 18 16
  let all := nbit (p.w 2) 19
  if !s.mayWrite o 4 then s.answer r 0x12 []
  else if !unitValid u || (!all && decide (4 < cls)) then s.answer r 0x15 []
  else (s.ackUnit u cls all).answer r 0 [s.ackCount u cls all]

/-! ## Idle words and short packets (R383, R397) -/

/-- A word as a packet of its own, for the checks of R470. -/
def wordPacket (ws : List Nat) : Packet :=
  let w0 := ws.headD 0
  let w1 := ws.getD 1 0
  { tag := BitVec.ofNat 8 (nbits w0 23 16), loc := nbit w1 27, target := BitVec.ofNat 11 (nbits w1 26 16),
    ukind := BitVec.ofNat 6 (nbits w1 15 10), uindex := BitVec.ofNat 10 (w1 % 1024), body := (ws.drop 2).map (BitVec.ofNat 32) }

/-- The answer to words that are no packet: 0x11, unless R470 answers 0x14 first (R387). -/
def State.badLength (s : State) (src : Src) (ws : List Nat) : Nat :=
  let p := wordPacket ws
  if s.bootBars src (ws.headD 0 / 2 ^ 24) p (decide (2 ≤ ws.length) && s.isHere p) then 0x14 else 0x11

/-- A word where a packet would begin: 0 is consumed with no reply; on a ring, any other word with LENGTH below 2 is
consumed alone and answered 0x11. -/
def State.idleWord (s : State) (src : Src) (w : Nat) (e : Env) : State :=
  let short := w != 0 && decide (w % 4096 < 2)
  let req : Req := { src := src, tag := nbits w 23 16, sel := 0, gen := s.genOf src }
  match src with
  | .serial => if w = 0 then s.serialClock [0] else s
  | .welt _ => s
  | _ =>
    if !s.tongueFree src || (w != 0 && (!short || !s.replyRoom src 2)) then s
    else s.busRow 297 e (fun b =>
      match b.takeRing src 1 (fun ws => ws == [w]) with
      | .none => .done s
      | .wait i => .wait i
      | .err b1 => .done (b1.s.ringError src)
      | .took b1 => .done (if short then b1.s.answerFirst req (b1.s.badLength src [w]) [] else b1.s))

/-- SERIAL_PACKET_TIMEOUT (R400): `n` more words of a packet arrive, which TCS_N then leaves partial: its words are discarded. -/
def State.serialTimeout (s : State) (n : Nat) : State :=
  if !s.serialTakes || !s.serialPlaced then s
  else
    let bad := n != 0 || !s.serialPartial.isEmpty
    let s1 := { s with tongue := { s.tongue with serialIn := s.tongue.serialIn.take (s.tongue.serialIn.length - s.serialPartial.length) } }
    let s2 := if n = 0 then s1 else s1.serialSwap n n []
    if bad then s2.set Fd.TONGUE_STAT_SHERR 1 else s2

/-- SERIAL_PARTIAL_WORD (R400): the partial word is discarded. -/
def State.serialCut (s : State) : State :=
  if s.serialTakes && s.serialPlaced then s.set Fd.TONGUE_STAT_SHERR 1 else s

/-! ## Replies (R382, R397, R403) -/

/-- The first reply of a source has gone. -/
def State.dropReply (s : State) (r : Reply) : State := { s with tongue := { s.tongue with replies := dropOne r s.tongue.replies } }

/-- Write reply words from ring index `i`. -/
def Bus.replyWords (b : Bus) (base i : Nat) : List Nat → RunOut
  | [] => .ok [] false b
  | v :: t =>
    match b.write ringWho (base + 0x4000 + i % 4096 * 4) 15 (wordOf v) with
    | .wait w => .wait w
    | .err b1 | .ref _ b1 => .ok [] true b1
    | .ok _ b1 => b1.replyWords base (i + 1) t

/-- What follows a written reply: the mailbox's MSI-X message, or the ring's interrupt (R397). -/
def State.replyNote (s : State) (src : Src) : State :=
  match src with
  | .pcie =>
    let s1 := s.bump Fd.PCIE_MBRPL_COUNT (2 ^ 28 - 1)
    if s1.flag Fd.PCIE_MBCFG_IRQEN then s1.boxMessage (s1.get Fd.PCIE_MBCFG_VEC) else s1
  | .core n => s.raise (6 + n.val)
  | _ => s

/-- REPLY_WRITE: the oldest waiting reply of a ring source is written once there is room (R397). -/
def State.replyWrite (s : State) (src : Src) (e : Env) : State :=
  match ringKeys src, s.tongue.replies.find? (fun r => r.src == src) with
  | some (r, _, p), some rep =>
    let v := s.regN p
    if !s.tongueUp || !s.ringEn r || decide (ringRoom v < rep.words.length) then s
    else s.busRow 297 e (fun b =>
      match b.replyWords (s.ringBase r) (ringCons v) rep.words with
      | .wait i => .wait i
      | .ok _ bad b1 =>
        if bad then .done (b1.s.ringError src)
        else
          let s1 := b1.s.dropReply rep
          .done ((s1.setRegN p (putBits (s1.regN p) 13 13 (ringCons v + rep.words.length))).replyNote src))
  | _, _ => s

/-- Replies of Welt contexts leave at once on REPLY with RPL at 1 and ORIGIN copied (R402). -/
def State.sendReplies (s : State) : State :=
  s.tongue.replies.foldl (fun (a : State) (r : Reply) =>
    match r.src with
    | .welt ctx =>
      let t := nbits (a.fcBind ctx.val) 14 4
      let ws := (2 ^ 31 + r.origin % 16) :: r.words
      let b := a.dropReply r
      if b.fcEn t && b.fcTx t && b.fcKind t == 7 then b.weltOn t (cutWords (ws.length + 1) ws) else b
    | _ => a) s

/-- BUSY and STALL of the rings (R419), and the Welt replies that wait. -/
def State.tongueSettle (s : State) : State :=
  if !s.tongueUp then s
  else
    let s1 := s.sendReplies
    ([Src.pcie] ++ (List.finRange 4).map Src.core).foldl (fun (a : State) (src : Src) =>
      match ringKeys src with
      | none => a
      | some (r, _, p) =>
        let v := a.regN p
        let full := a.tongue.replies.find? (fun x => x.src == src)
        let stall := a.ringEn r && (match full with | some x => decide (ringRoom v < x.words.length) | none => false)
        let new := putBits (putBits v 26 1 (b2n stall)) 27 1 (b2n (a.ringEn r && a.awaitsReply src))
        if new = v then a else a.setRegN p new) s1

/-! ## Forwarded packets and COMMAND messages (R401–R404) -/

/-- A late first reply or completion counts in LATE (R403, R404). -/
def State.countLate (s : State) : State := s.bump Fd.TONGUE_STAT_LATE 255

/-- FORWARD_TIMEOUT: no first reply within FWDTMO ms, 0 acting as 1 (R404, R413). -/
def State.forwardTimeout (s : State) (src : Src) : State :=
  match s.tongue.forwarded.find? (fun f => f.req.src == src) with
  | none => s
  | some f =>
    if !s.tongueUp || decide ((s.time.now + 2 ^ 56 - f.sent) % 2 ^ 56 < max 1 (s.get Fd.TONGUE_CFG_FWDTMO) * msTicks) then s
    else
      let l : LateReply := { origin := s.ownerOfSrc src, tag := f.req.tag, dest := f.dest, compl := false }
      ({ s with tongue := { s.tongue with forwarded := dropOne f s.tongue.forwarded, late := s.tongue.late ++ [l] } }).answerFirst f.req 0x15 [1]

/-- Pass reply words of another device to a request's source. A source that is not enabled gets none, which counts in LATE (R403);
a session that has ended gets none (R398). -/
def State.passReply (s : State) (r : Req) (ws : List Nat) (first : Bool) : State :=
  if s.srcEnabled r.src then s.putReply r ws first else s.countLate

/-- The local source that an owner ID names, of the enabled ones (R394, R403). -/
def State.sourceOf (s : State) (o : Nat) : Option Src :=
  let own : List Src := if o = 1 then [.pcie] else if o = 2 then [.serial]
    else if 3 ≤ o ∧ o ≤ 6 then [.core (Fin.ofNat 4 (o - 3))]
    else (s.fcOf 7 false).filterMap (fun c => if s.fcBind c % 16 = o then some (.welt (Fin.ofNat 2048 c)) else none)
  own.find? s.srcEnabled

/-- A reply message from device `dev` for owner ID `o` (R403, R404). -/
def State.replyIn (s : State) (o dev : Nat) (ws : List Nat) : State :=
  let tag := nbits (ws.headD 0) 23 16
  let acc := ws.headD 0 / 2 ^ 24 == 1
  let t := s.tongue
  let isFor := fun (f : Forwarded) => s.ownerOfSrc f.req.src == o && f.req.tag == tag && f.dest == dev
  let first : LateReply := { origin := o, tag := tag, dest := dev, compl := false }
  let compl : LateReply := { origin := o, tag := tag, dest := dev, compl := true }
  if t.late.contains first then
    ({ s with tongue := { t with late := dropOne first t.late ++ (if acc then [compl] else []) } }).countLate
  else match t.forwarded.find? isFor with
    | some f =>
      ({ s with tongue := { t with forwarded := dropOne f t.forwarded, accepted := if acc then t.accepted ++ [f] else t.accepted } }).passReply f.req ws true
    | none =>
      match t.accepted.find? isFor with
      | some f => ({ s with tongue := { t with accepted := dropOne f t.accepted } }).passReply f.req ws false
      | none =>
        if t.late.contains compl then ({ s with tongue := { t with late := dropOne compl t.late } }).countLate
        else match s.sourceOf o with
          | some src => s.passReply { src := src, tag := tag, sel := 0, gen := s.genOf src } ws false
          | none => s.countLate

/-- The packets of the first COMMAND message that waits whole, with RPL as `rpl` says. -/
def State.commandWaits (s : State) (rpl : Bool) : Option (List InP) :=
  let heads := s.welt.inbox.filter (fun i => i.pkt.kind == 7#4 && i.pkt.first && nbit (i.pkt.w 0) 31 == rpl)
  (heads.map (fun i =>
    let mine := s.welt.inbox.filter (fun j => j.pkt.kind == 7#4 && j.pkt.src == i.pkt.src && j.pkt.dflow == i.pkt.dflow)
    ansPackets (mine.dropWhile (fun j => j != i)))).find? (fun ps => ps.any (fun j => j.pkt.last))

/-- The message leaves the port's inbox. -/
def State.commandTake (s : State) (ps : List InP) : State :=
  s.modWelt (fun w => { w with inbox := ps.foldl (fun l j => dropOne j l) w.inbox })

/-- The words of a message after its prefix. -/
def messageWords (ps : List InP) : List Nat := ((ps.map (fun j => j.pkt.payload.map (fun v => v.toNat))).flatten).tail

/-- COMMAND_REPLY_RECEIVE. -/
def State.commandReply (s : State) : State :=
  match s.commandWaits true with
  | none => s
  | some ps =>
    if !s.tongueUp then s
    else match ps with
      | [] => s
      | i :: _ => (s.commandTake ps).replyIn (i.pkt.w 0 % 16) i.pkt.src.toNat (messageWords ps)

/-- A receiving context drops its commands (R402): OWNER below 0x8, or REPLY names no enabled transmitting COMMAND context. -/
def State.commandDrops (s : State) (c : Nat) : Bool :=
  let t := nbits (s.fcBind c) 14 4
  decide (s.fcBind c % 16 < 8) || !(s.fcEn t && s.fcTx t && s.fcKind t == 7)

/-- COMMAND_MESSAGE_RECEIVE: the packet waits at its context for Tongue; a message of another length than 1 + LENGTH is
answered 0x11 (R402), and a zero word is idle (R383). -/
def State.commandIn (s : State) : State :=
  match s.commandWaits false with
  | none => s
  | some ps =>
    match ps with
    | [] => s
    | i :: _ =>
      let c := i.pkt.dflow.toNat
      let s1 := s.commandTake ps
      let ws := messageWords ps
      let w0 := ws.headD 0
      let src : Src := .welt (Fin.ofNat 2048 c)
      let org := i.pkt.w 0 % 16
      let req : Req := { src := src, tag := nbits w0 23 16, sel := ws.getD 1 0 % 65536, gen := s.genOf src, origin := org }
      if s.halted || s.hub.stopping then s
      else if !s.domOn 3 || s.inEpisode || s.commandDrops c then s1.weltDrop i.port 4
      else if !ws.isEmpty && ws.all (fun w => w == 0) then s1
      else if ws.length ≠ w0 % 4096 ∨ ws.length < 2 then
        (if (s.inboxOf c).isSome || !s.tongueFree src then s else s1.answerFirst req (s.badLength src ws) [])
      else { s1 with tongue := { s1.tongue with inbox := s1.tongue.inbox ++ [(c, org, ws)] } }

end Sys2Proof.Machine
end

