-- ==== Sys2Proof/Machine/Ports.lean ====
section
/-! DEFINITION. Accesses that come from outside the chip's own engines: PCI Express requests (R320), the debug operations
READ and WRITE (R707), single words of the on-chip arrays, and the writeback of a head (R213–R217). -/
namespace Sys2Proof.Machine

/-! ## PCI Express (R319, R320) -/

/-- The system address of a word that a request covers: BAR0 is the register window, BAR2 a window at WINBASE. -/
def State.pcieAddr (s : State) (bar2 : Bool) (off i : Nat) : Nat :=
  if bar2 then (s.get Fd.PCIE_CTL_WINBASE * 2 ^ 28 + off % 2 ^ 28 + 4 * i) % 2 ^ 40 else 0xFF00000000 + (off % 2 ^ 24 + 4 * i)

/-- The endpoint as a master. -/
def pcieWho (bar2 : Bool) : Who := { masterWho 0x17 with regs := !bar2 }

/-- Is a word of a request unmapped (R35, R320)? -/
def State.pcieUnmapped (s : State) (bar2 : Bool) (wr : Bool) (a : Nat) : Bool :=
  match decodeAddr a with
  | .reg k => bar2 || !(regExists k || reservedSlot k)
  | _ => s.sysUnmapped 0x17 a wr

/-- Read the words of a request; none where one ends with bus-error status. -/
def Bus.pcieRead (b : Bus) (w : Who) (a : Nat → Nat) (i : Nat) : Nat → RunOut
  | 0 => .ok [] false b
  | n + 1 =>
    match b.readW w (a i) with
    | .wait k => .wait k
    | .err b1 | .ref _ b1 => .ok [] true b1
    | .ok d b1 =>
      match b1.pcieRead w a (i + 1) n with
      | .ok ws f b2 => .ok (leNat d :: ws) f b2
      | r => r

/-- Write the words of a request under their byte enables. -/
def Bus.pcieWrite (b : Bus) (w : Who) (a : Nat → Nat) (i : Nat) : List (Nat × Nat) → RunOut
  | [] => .ok [] false b
  | (be, v) :: t =>
    match (if be = 15 then b.writeW w (a i) v else b.write w (a i) be (wordOf v)) with
    | .wait k => .wait k
    | .err b1 => .ok [] true b1
    | .ok _ b1 | .ref _ b1 => b1.pcieWrite w a (i + 1) t

/-- Is the endpoint served now? -/
def State.pcieUp (s : State) : Bool :=
  s.isPcie && s.flag Fd.PCIE_STAT_LINKUP && !s.flag Fd.PCIE_STAT_PERST && !s.inEpisode && !s.hub.stopping

/-- A request that the endpoint does not support (R320): a write is discarded, a read completes with that status. -/
def State.pcieRefused (s : State) (wr : Bool) : State := { s.epUnsupported with bus := if wr then .done else .error 0 }

/-- A request to the endpoint's own words (BAR4 and the configuration space): one word after another, each within 4 KiB. -/
def State.pcieOwn (s : State) (rd : State → Nat → Nat) (wt : State → Nat → Nat → Nat → State) (wr : Bool) (off n : Nat)
    (data : List (Nat × Nat)) : State :=
  let o := fun i => (off + 4 * i) % 4096
  if wr then { data.zipIdx.foldl (fun (a : State) (x : (Nat × Nat) × Nat) => wt a (o x.2) x.1.1 x.1.2) s with bus := .done }
  else { s with bus := .values ((List.range n).map (fun i => rd s (o i))) }

/-- PCIE_INBOUND_ACCESS: `n` words read from offset `off` of a space, or the words of a write with their enables. Spaces 0 to 2
are BAR0, BAR2 and BAR4, and space 3 is the configuration space; in D3hot the endpoint serves the last alone. A request to a
BAR has matched one that the host enabled (log entry 77). -/
def State.pcieInbound (s : State) (space : Nat) (wr : Bool) (off n : Nat) (data : List (Nat × Nat)) (e : Env) : State :=
  let bar2 := space == 1
  let k := if wr then data.length else n
  let a := s.pcieAddr bar2 off
  if !s.pcieUp || off % 4 != 0 then s
  else if space = 3 then
    if s.confRetries then { s with bus := .retry } else s.pcieOwn State.confRead State.confWrite wr off n data
  else if !s.epD0 then s.pcieRefused wr
  else if space = 2 then s.pcieOwn State.bar4Read State.bar4Write wr off n data
  else match (List.range k).find? (fun i => s.pcieUnmapped bar2 wr (a i)) with
    | some i => (s.unmapped 0x17 (a i) wr).pcieRefused wr
    | none => s.busRow 0x17 e (fun b =>
      if wr then
        match b.pcieWrite (pcieWho bar2) a 0 data with
        | .wait w => .wait w
        | .ok _ _ b1 => .done { b1.s with bus := .done }
      else match b.pcieRead (pcieWho bar2) a 0 n with
        | .wait w => .wait w
        | .ok ws f b1 => .done (if f then b1.s.pcieRefused false else { b1.s with bus := .values ws }))

/-! ## Debug READ and WRITE (R706, R707, R711, R712) -/

/-- The debug bus master. -/
def State.dbgWho (s : State) : Who := { masterWho 0x1C with side := s.flag Fd.DBG_CTL_SIDEFX }

/-- Read words; false when one ended with bus-error status. -/
def Bus.dbgReads (b : Bus) (w : Who) (a : Nat) : Nat → RunOut
  | 0 => .ok [] false b
  | n + 1 =>
    match b.readW w a with
    | .wait i => .wait i
    | .err b1 | .ref _ b1 => .ok [] true b1
    | .ok d b1 =>
      match b1.dbgReads w ((a + 4) % 2 ^ 40) n with
      | .ok ws f b2 => .ok (leNat d :: ws) f b2
      | r => r

/-- Write words, up to the first bus error. A refused register write has none (R406). -/
def Bus.dbgWrites (b : Bus) (w : Who) (a : Nat) : List Nat → RunOut
  | [] => .ok [] false b
  | v :: t =>
    match b.writeW w a v with
    | .wait i => .wait i
    | .err b1 => .ok [] true b1
    | .ok _ b1 | .ref _ b1 => b1.dbgWrites w ((a + 4) % 2 ^ 40) t

/-- The words of a payload, each four bytes in ascending address order (R705). -/
def payloadWords (pl : List Nat) : List Nat := (List.range (pl.length / 4)).map (fun i => leNat ((pl.drop (4 * i)).take 4))

/-- Status of an address or a count that R706 and R707 do not allow, which the spec does not state: a free value (log
entry 42). -/
def State.dbgBadArg (s : State) : State := s.draw.dbgAnswer (Config.freeValue s.fresh % 256) []

/-- READ. A locked port answers 0x12. -/
def State.dbgReadOp (s : State) (pl : List Nat) (e : Env) : State :=
  let a := beNat (pl.take 5)
  let n := beNat ((pl.drop 5).take 2)
  if !s.flag Fd.DBG_STAT_UNLOCKED then s.dbgAnswer 0x12 []
  else if a % 4 ≠ 0 ∨ n = 0 ∨ 1024 < n then s.dbgBadArg
  else s.busRow 0x1C e (fun b =>
    match b.dbgReads s.dbgWho a n with
    | .wait i => .wait i
    | .ok ws f b1 => .done (if f then b1.s.dbgAnswer 0x15 [] else b1.s.dbgAnswer 0 (ws.flatMap wordOf)))

/-- WRITE. -/
def State.dbgWriteOp (s : State) (pl : List Nat) (e : Env) : State :=
  let a := beNat (pl.take 5)
  let ws := payloadWords (pl.drop 5)
  if !s.flag Fd.DBG_STAT_UNLOCKED then s.dbgAnswer 0x12 []
  else if a % 4 ≠ 0 ∨ pl.length % 4 ≠ 1 then s.dbgBadArg
  else s.busRow 0x1C e (fun b =>
    match b.dbgWrites s.dbgWho a ws with
    | .wait i => .wait i
    | .ok _ f b1 => .done (b1.s.dbgAnswer (if f then 0x15 else 0) []))

/-- A debug operation with accesses: during the controlled stop it is held (R693). -/
def State.dbgAccess (s : State) (crcOk lenOk : Bool) (f : State → State) : State :=
  if s.hub.stopping then s else s.dbgFrame crcOk lenOk f

/-! ## Who may access now -/

/-- A master makes no access: in an episode, in a controlled stop (R693), or frozen by a halt (R713, R717). -/
def State.masterFrozen (s : State) (m : Nat) : Bool :=
  s.inEpisode || s.hub.stopping ||
    (s.halted && m != 0x17 && m != 0x1C && !(match s.dbg.step with | some c => m == 0x12 + c | none => false))

/-- One word written by a master into an on-chip array (R146, R197, R574). -/
def State.arrayWrite (s : State) (m a v : Nat) (e : Env) : State :=
  if s.masterFrozen m then s
  else s.busRow m e (fun b =>
    match b.write (masterWho m) a 15 (wordOf v) with
    | .wait i => .wait i
    | .err b1 | .ref _ b1 => .done { b1.s with bus := .error 0 }
    | .ok _ b1 => .done { b1.s with bus := .done })

/-! ## Writeback (R213–R217) -/

/-- The words of a row from `a`, in beats of at most 32 bytes. -/
def Bus.wbRow (b : Bus) (w : Who) (a : Nat) (ws : List Nat) : Nat → RunOut
  | 0 => .ok [] false b
  | n + 1 =>
    if ws.isEmpty then .ok [] false b
    else
      let c := ws.take 8
      match b.write w (a % 2 ^ 40) (2 ^ (4 * c.length) - 1) (c.flatMap wordOf) with
      | .wait i => .wait i
      | .err b1 | .ref _ b1 => .ok [] true b1
      | .ok _ b1 => b1.wbRow w (a + 32) (ws.drop 8) n

/-- The rows that wait, one word for each row written. -/
def Bus.wbRows (b : Bus) (w : Who) : List (Nat × List Nat) → RunOut
  | [] => .ok [] false b
  | (a, ws) :: t =>
    match b.wbRow w a ws (ws.length + 1) with
    | .ok _ false b1 => (match b1.wbRows w t with | .ok l f b2 => .ok (0 :: l) f b2 | r => r)
    | r => r

/-- A head's finished rows are written; a bus error abandons the frame of its row (R216). -/
def State.wbDrain (s : State) (h : Nat) (e : Env) : State :=
  let rows := (s.headS h).wbOut
  if rows.isEmpty || s.masterFrozen 0x19 then s
  else s.busRow (304 + h) e (fun b =>
    match b.wbRows { masterWho 0x19 with q := 304 + h, regs := false } rows with
    | .wait i => .wait i
    | .ok l f b1 => .done (b1.s.wbWritten h l.length f))

/-! ## The junction sensor (R744) -/

/-- TJ_UPDATE. -/
def State.tjUpdate (s : State) (tj : Nat) : State :=
  if s.inEpisode || s.get Fd.PWR_STATE_STATE == 3 then s
  else
    let s1 := s.set Fd.PWR_TJ_TJ tj
    if signed 12 (s.get Fd.PWR_TJ_MAX) < signed 12 tj then s1.set Fd.PWR_TJ_MAX tj else s1

end Sys2Proof.Machine
end

