-- ==== Sys2Proof/Machine/Settle.lean ====
section
/-! DEFINITION. What follows a command in the same handshake: the units' reactions to fences, domains, stops and resets, and
the outcome of a command. -/
namespace Sys2Proof.Machine

/-- The reactions that hold after a command: an admission whose security engine is fenced (R101), arms whose heads are down (R185), ports that are not UP (R338, R358, R364),
fenced Soles (R690), the supply loop's EN (R71), front ends (R611), Shank (R622–R626), ended chains and lists, a WAIT whose
head is down (R564), and the rings' BUSY and STALL (R419). -/
def State.settle (s : State) : State :=
  let s1 := (List.range 16).foldl (fun (a : State) (n : Nat) => (a.soleSettle n).headSettle n) s.lastSettle.armSettle.weltSettle
  s1.loopSettle.feSettle.shankSettle.laceSettle.skiverSettle.tongueSettle

/-- What an idle block does in one 16 ns tick: the backup counter always counts, and so do the supply loop's waits; the time
base runs outside an episode and outside STOW (R442, R650). -/
def State.tick (s : State) : State :=
  let s1 := { s.slowTick with dbg := { s.dbg with busy := s.dbg.busy - 1 } }.paceTick
  if s1.inEpisode || s1.get Fd.PWR_STATE_STATE == 3 then s1 else s1.timeTick

/-- The outcome of a command. -/
abbrev Out := Host.Outcome State Fault Refusal

/-- A command's next state is `t`, with what follows it. -/
def settled (t : State) : Out := .next t.settle

/-- A command from `s` that touches nothing the reactions look at, but for the fences and the stop that a record of it may
start. -/
def calm (s t : State) : Out :=
  .next (if t.hub.reacting = s.hub.reacting ∧ t.hub.stopping = s.hub.stopping then t else t.settle)

/-- An event's next state: inside a reset episode of cold or warm reach it finds its block in reset (R424, R425). -/
def event (s t : State) : Out := if s.inEpisode then .next s else settled t

/-- An event's next state where its block outlasts a reset episode: there it reaches no reaction (R71, R425). -/
def outlast (s t : State) : Out := if s.inEpisode then .next t else settled t

/-- The same for an event that touches nothing the reactions look at. -/
def quiet (s t : State) : Out := if s.inEpisode then .next s else calm s t

/-- Registers whose writes the reactions do not look at. -/
def quietKey (k : Nat) : Bool :=
  match k / 0x10000 with
  | 0x00 => k != Rg.SYS_ROLE
  | 0x06 => !inArr k (Rg.TIME_WD_CTL 0) 10 4
  | 0x18 => !inArr k (Rg.HD_CTL 0) 16 0x1000
  | b => [0x02, 0x05, 0x10, 0x11, 0x12, 0x14, 0x20, 0x50].contains b

/-- A direct write of a register by master `m` as a command (R11, R406). -/
def wrote (s : State) (m : Fin 32) (k : Nat) (v : RegVal) (e : Env) : Out :=
  if s.masterFrozen m then .next s
  else if quietKey k then calm s (s.directWrite m k v.toNat e)
  else settled (s.directWrite m k v.toNat e)

/-- A direct read of a register by master `m` as a command. -/
def didRead (s : State) (m : Fin 32) (k : Nat) (e : Env) : Out :=
  if s.masterFrozen m then .next s else calm s (s.directRead m k e)

end Sys2Proof.Machine
end

