-- ==== Sys2Proof/Machine/Picture.lean ====
section
/-! DEFINITION. Reads and packets of the picture path: the sprite snapshot (R155), the line lists (R169), granule answers
(R267), picture packets (R361, R362), and the GDDR7 controller's, the pool's and the reset controller's remaining events. -/
namespace Sys2Proof.Machine

/-- A Sole as a master: it reaches memory, not the register window. -/
def soleWho (n : Nat) : Who := { masterWho n with regs := false }

/-- A Sole's read of a granule for a layer of a local kind. Elsewhere than in GDDR7 it is unmapped (R136), and an unmapped
granule is recorded and reads zero (R35). An address past 2⁴⁰ does not wrap and is unmapped (DESIGN CHOICE, log entry 73). -/
def Bus.layerRead (b : Bus) (w : Who) (a : Nat) : BusOut :=
  if decodeAddr a = .gddr ∧ b.s.gddrAcc a ≠ .unmapped then b.read w a 64
  else match (b.unmapped w.m a false).seen w.m a 64 false with
    | .err b1 => .ok (List.replicate 64 0) b1
    | r => r

/-! ## What the eyelets drive (R671, R673) -/

/-- RTS_N of UART `u` (R678): with FLOW at 1 it is high while 56 or more bytes wait. -/
def State.rtsN (s : State) (u : Nat) : Bool := s.flag (Fd.UART_CFG_FLOW u) && decide (56 ≤ (s.perS (4 + u)).rx.length)

/-- The level that a function other than GPIO puts on its eyelet, where it is a steady level of the device: TIRQ_N, PWROFF, RTS_N,
TCMP and HMARK (R242, R399, R448, R653, R668, R678). Inputs, open-drain lines at rest, data and clocks give none. -/
def State.fnDrive (s : State) (n f : Nat) : Option Bool :=
  if n = 15 then some s.rst.pwroff
  else if n = 20 then some s.tirqN
  else if n = 26 ∨ n = 30 then some (s.rtsN ((n - 26) / 4))
  else if 72 ≤ n ∧ n < 80 then some (s.time.tcmp.contains (n - 72))
  else if 80 ≤ n then some (nbit (s.get (Fd.HD_MARK_MARK ((n - 80) / 4 + 4 * (f - 1))).act) (n % 4))
  else none

/-- What eyelet `n` drives (R671): OUT with FUNC 0 and DIR 1, only low with OD 1; none where it drives nothing. In STOW an eyelet with
SLP 1 turns its driver off (R673); one with SLP 0 holds its level. The park step of R675 lasts one handshake, at the pin's present
level. -/
def State.eyeDrive (s : State) (n : Nat) : Option Bool :=
  if s.get Fd.PWR_STATE_STATE = 3 ∧ s.flag (Fd.EY_SLP n) = true then none
  else if s.get (Fd.EY_FUNC n) ≠ 0 then s.fnDrive n (s.get (Fd.EY_FUNC n))
  else if !s.flag (Fd.EY_DIR n) || (s.flag (Fd.EY_OD n) && s.flag (Fd.EY_OUT n)) then none
  else some (s.flag (Fd.EY_OUT n))

/-! ## The sound engine's sinks (R594, R596) -/

/-- DisplayPort audio (R596): an output bus with DPEN at 1 sends on its port while a head sends pixels there with OUT 0b10 and the
port is TRAINED with NOFIT at 0. -/
def State.dpAudio (s : State) (k : Nat) : State :=
  let p := s.get (Fd.AUD_OB_CFG_DPPORT k).act
  let sends := s.flag (Fd.AUD_OB_CFG_EN k).act && s.flag (Fd.AUD_OB_CFG_DPEN k).act && s.portMode p == 3 && (s.headOnPort p).isSome &&
    s.flag (Fd.DP_WP_STAT_TRAINED p) && !s.flag (Fd.DP_WP_STAT_NOFIT p)
  { s with audio := { s.audio with dp := if sends then tabInsert s.audio.dp k (p, tabGet [] s.audio.out k) else tabErase s.audio.dp k } }

/-- The output buses of domain `d` send block `b` to their sinks: the ports, DisplayPort and the Welt flows (R593, R594, R596). -/
def State.blockSinks (s : State) (d b : Nat) : State :=
  (List.range 8).foldl (fun a k =>
    if a.obDom k = d then (a.dpAudio k).audioOut k d b (tabGet [] a.audio.out k) else a) (s.portsSend d)

/-- AUDIO_BLOCK_BOUNDARY (R589, R597): the block just rendered goes out. -/
def State.blockTick (s : State) (d : Nat) : State :=
  if s.boundaryDue d then (s.blockBoundary d).blockSinks d (s.dom d).block else s

/-! ## The sprite snapshot (R155, R156, R268) -/

/-- Tacks of a Sole's quota that a reservation of a released line or a remote request covers (R108, R268): LTACKS of each
released line, and TACKS of the remote planes on the Sole while a line of it is released. -/
def State.tacksBound (s : State) (sl : Nat) : Nat :=
  let v := s.soleS sl
  let lines := v.line.toList ++ v.next
  let planes := match lines, s.runEntry v.head with
    | _ :: _, some (w, _) => ((imgRemotes w).filter (fun r => (planeSoles w (remLc w r)).any (fun e => e.2 == sl))).map (remTacks w)
    | _, _ => []
  (lines.map (fun y => match s.lineCtx v.head sl y with | some c => c.ltacks | none => 0)).sum + max planes.sum (s.remoteTacks sl)

/-- The tack of a snapshot granule is held while the read runs: PEAK counts it (R268, R296). -/
def State.snapTack (s : State) (sl : Nat) : State :=
  s.raiseTo (Fd.FETCH_SL_STAT_PEAK sl) (min 448 (s.get (Fd.FETCH_SL_STAT_HELD sl) + 1))

/-- A granule whose read failed: its entries count as not read (DEDUCED, log entry 8). -/
def State.snapMiss (s : State) (h y : Nat) : State :=
  s.modHead h (fun v => { v with snap := { v.snap with line := some y, todo := v.snap.todo.drop 1 } })

/-- Read the granules that are due. -/
def Bus.snapRead (b : Bus) (w : Who) (h y : Nat) : List Nat → Fin'
  | [] => .done b.s
  | g :: t =>
    match b.layerRead w g with
    | .wait i => .wait i
    | .ok d b1 => { b1 with s := (b1.s.snapIn h y g d).snapTack w.m }.snapRead w h y t
    | .err b1 | .ref _ b1 => { b1 with s := (b1.s.snapMiss h y).snapTack w.m }.snapRead w h y t

/-- SPRITE_SNAPSHOT_READ: the reads of the period of empty line `y`. -/
def State.snapshotRead (s : State) (h y : Nat) (e : Env) : State :=
  let sl := s.lowSole h
  if s.fenced (uSole sl) || s.hub.stopping || decide (448 ≤ s.tacksBound sl) then s
  else s.busRow sl e (fun b => b.snapRead (soleWho sl) h y (s.snapDue h y))

/-! ## Line lists (R164, R169) -/

/-- Entries of a slot's granules (R165), eight to a granule. -/
def granuleEnts (d : List Nat) : List LlEnt := (List.range 8).map (fun i => llEnt (dataWord d (8 * i)) (dataWord d (8 * i + 4)))

/-- Read the slot's granules from `a`, at most `n` of them; `late` and `short` are as for `State.listRun`. -/
def Bus.listRead (b : Bus) (w : Who) (h y writes : Nat) (late short : Bool) (ents : List LlEnt) (a : Nat) : Nat → Fin'
  | 0 => .done (b.s.listIn h y writes late short ents false)
  | n + 1 =>
    match b.read w a 64 with
    | .wait i => .wait i
    | .err b1 | .ref _ b1 => .done (b1.s.listIn h y writes late short ents true)
    | .ok d b1 =>
      let es := granuleEnts d
      if es.any (fun x => x.last) then .done (b1.s.listIn h y writes late short (ents ++ es) false)
      else b1.listRead w h y writes late short (ents ++ es) (a + 64) n

/-- LINE_LIST_EXECUTE: the oldest list that head `h` waits for is read and its entries are executed. Its granules take the
Sole's tacks and count in LBYTES (R116); an entry that no granule within LBYTES holds is not executed. -/
def State.listExecute (s : State) (h : Nat) (e : Env) : State :=
  match (s.headS h).listWait with
  | [] => s
  | y :: _ =>
    if s.halted || s.inEpisode then s
    else match s.listOf h y, s.lineCtx h (s.lowSole h) y with
      | some (writes, _), some c =>
        let n := ceilDiv (min writes 64) 8
        if c.ltacks = 0 ∧ 0 < min n c.lbytes then s
        else
          s.busRow (s.lowSole h) e (fun b =>
            b.listRead (soleWho (s.lowSole h)) h y writes (decide (y < s.lineNow h e.beam)) (decide (c.lbytes < n)) [] (s.slotAddr h y)
              (min n c.lbytes))
      | _, _ => s.lineReady h y

/-! ## Granule answers (R267) -/

/-- GRANULE_ANSWER: granule `num` of Sole `sl`'s line is read, `lat` ticks after its tack was taken; an uncorrectable
error makes its data missing (R161, R292). -/
def State.granuleAnswer (s : State) (sl num lat : Nat) (e : Env) : State :=
  match s.granuleDue sl num with
  | none => s
  | some (c, a) =>
    if s.hub.stopping then s
    else s.busRow sl e (fun b =>
      match b.layerRead (soleWho sl) a with
      | .wait i => .wait i
      | .ok d b1 => .done (b1.s.granuleIn c num lat (some d))
      | .err b1 | .ref _ b1 => .done (b1.s.granuleIn c num lat none))

/-! ## Underruns (R243) -/

/-- HEAD_UNDERRUN: the head needs block `b` of the line in output, and no Sole has written it. -/
def State.headUnderrun (s : State) (h b : Nat) : State :=
  let y := (s.headS h).line - 1
  if !(s.headS h).running || (s.headS h).line == 0 || !s.activeLine h y || !s.curv h then s
  else if ((s.lineCtxs h y).any (fun c => (c.left s).contains b)) then s.underrun h y b else s

/-! ## Picture packets (R361, R362) -/

/-- Words of a picture packet: pixels `xa` to `xa + n − 1` of active line `ya`, after stage 7. -/
def State.picWords (s : State) (h y xa n : Nat) : List Nat :=
  [(s.headS h).frame % 65536 + (y - s.vStart h) * 65536, n + xa * 65536] ++
    ((s.outRow h y xa n).map (fun p => [p.2.g * 65536 + p.2.b, p.2.a * 65536 + p.2.r])).flatten

/-- The context that carries head `h`'s picture (R361). -/
def State.picContext (s : State) (h : Nat) : Option Nat := minOf ((s.fcOf 4 true).filter (fun c => s.fcBind c % 16 == h))

/-- PICTURE_PACKET_SEND: the next `n` pixels of the active line in output leave, their last one having passed the tap. In a halt
with WELTRUN at 0 a packet that finds no credit is discarded at the head (R337, R717). -/
def State.pictureSend (s : State) (h n : Nat) (credit : Bool) : State :=
  let v := s.headS h
  let y := v.line - 1
  let mine := match v.pic with | some (z, c, x) => if z = y then some (c, x) else none | none => none
  -- a line's first packet is a message boundary of the context that the head sent on before (R348)
  let s0 := match mine, v.pic with
    | none, some (_, c, _) => if s.welt.mid.contains c then s.fcMessage c false true else s
    | _, _ => s
  let (c, xa) := match mine with
    | some (c, x) => (some c, x)
    | none => (s0.picContext h, 0)
  if !v.running || v.line == 0 || !s.activeLine h y || s.get (Fd.HD_CTL_OUT h).act != 1 || n == 0 ||
      decide (31 < n) || decide (s.hActive h < xa + n) then s
  else match c with
    | none => s
    | some c =>
      let s1 := if s0.curv h then
          (match s0.firstMissing h y with
           | some b => if 16 * b < xa + n then s0.underrun h y b else s0
           | none => s0) else s0
      let s2 := if s.halted && !s.flag Fd.DBG_CTL_WELTRUN && !credit then s1
        else s1.weltFlow c 4 (s1.fcPeer c) (s1.fcPflow c) (xa == 0) (xa + n == s.hActive h) (s1.picWords h y xa n)
      s2.modHead h (fun w => { w with pic := some (y, c, xa + n) })

/-- Write a picture packet's pixels, up to the first wait; a bus error loses its pixel (R35). -/
def Bus.picWrites (b : Bus) (w : Who) : List (Nat × Nat) → RunOut
  | [] => .ok [] false b
  | (a, v) :: t =>
    match b.write w a 15 (wordOf v) with
    | .wait i => .wait i
    | .ok _ b1 | .err b1 | .ref _ b1 => b1.picWrites w t

/-- PICTURE_PACKET_RECEIVE: the first waiting picture packet is written into its receiver's buffer. -/
def State.pictureIn (s : State) (e : Env) : State :=
  match s.pictureTake with
  | none => s
  | some (k, i, s1) =>
    if s.fenced (uPrx k) then s1.weltDrop i.port 7
    else if !s.flag (Fd.WELT_PRX_CFG_EN k) then s1
    else s.busRow 0x18 e (fun b =>
      match { b with s := s1 }.picWrites { masterWho 0x18 with regs := false } (s1.prxWrites k i.pkt) with
      | .wait w => .wait w
      | .ok _ _ b1 => .done (b1.s.prxProgress k i))

/-! ## GDDR7 (R282, R285, R290) -/

/-- MEM_TRAINING_DONE: a channel that a unit reset holds goes on training until its release (R431). -/
def State.trainingDone (s : State) (rate fail : Nat) (eyes : List (Nat × Nat)) : State :=
  if s.fetch.training.isEmpty || s.inEpisode || !s.domOn 11 || s.fetch.training.any (fun c => s.unitInReset (uMemCh c)) then s
  else s.endTraining rate fail eyes

/-- MEM_DEVICE_TEMP_READ: `hot` names the channels with a device above 85 °C. -/
def State.memTemp (s : State) (hot : Nat) : State :=
  if s.inEpisode || !s.domOn 11 then s
  else (chanList (s.get Fd.MEM_STAT_CHEFF)).foldl (fun a c => a.setB (Fd.MEM_CH_STAT_HOT c) (nbit hot c)) s

/-- MEM_SHORT_RETRAIN of channel `c`: contents and CAP stay, and RDEYE is of the last training, this
one included (DEDUCED, log entry 9). -/
def State.memRetrain (s : State) (c eye : Nat) : State :=
  if s.inEpisode || !s.domOn 11 || s.fetch.retrain == 0 || s.chState c != 2 then s
  else s.set (Fd.MEM_CH_TRAIN_RDEYE c) eye

/-- ECC_INIT_DONE: the zeroing of region `n` ends. -/
def State.eccInit (s : State) (n : Nat) : State :=
  if s.inEpisode || !s.domOn 11 then s else s.set (Fd.MEM_ECC_BUSY n) 0

/-! ## The pool (R270) -/

/-- POOL_TACK_GRANT: class `k`'s waiting request takes a tack in its turn, which its next read uses. -/
def State.poolGrant (s : State) (k : Nat) : State :=
  if s.inEpisode || !s.domOn 6 || s.poolNext s.fetch.waiting != some k then s
  else
    let s1 := (s.poolServed k).poolTake k
    { s1 with fetch := { s1.fetch with granted := tabMod 0 s1.fetch.granted k (fun n => n + 1) } }

/-! ## The host's interrupts (R646–R648) and hold-off (R647) -/

/-- MSIX_ISSUE: a mailbox message of vector `v` that waits leaves (R397), else the vector's best source becomes active and its
message is issued; while the way is shut, the PCI Express pending bit is set. -/
def State.msixIssue (s : State) (v : Nat) : State :=
  if s.inEpisode then s
  else if s.lanes.ep.box.contains v then
    if s.msixShut v then s else (s.modEp (fun e => { e with box := e.box.filter (fun x => x != v) })).msixSend v
  else match s.bestHost v with
    | none => s
    | some n => if s.msixShut v then s.msixPending v else (s.acceptHost v n).msixSend v

/-- HOLDOFF_EXPIRY: a group's hold-off has run out. -/
def State.holdoffEnd (s : State) (g : Nat) : State :=
  if tabGet 0 s.icu.hold g = 0 then
    { s.set (Fd.ICU_GRP_HOLD_HELD g) 0 with icu := { s.icu with hold := tabErase s.icu.hold g } }
  else s

/-- COMPARE_FIRE: channel `k`'s match has come. -/
def State.compareFire (s : State) (k : Nat) : State :=
  if s.inEpisode || !s.time.cmpDue.contains k then s
  else if s.flag (Fd.CMPCTL_EN k) then s.fireCmp k false
  else { s with time := { s.time with cmpDue := s.time.cmpDue.filter (fun j => j != k) } }

/-! ## Fabric time, the oscillator and fuses -/

/-- TIME_SYNC_LOSS: four SYNC intervals of 2¹⁴ ticks have passed without a SYNC (R357, R358). -/
def State.syncLoss (s : State) : State :=
  match s.welt.syncAt with
  | some t => if s.inEpisode || !s.domOn 12 || !s.timeFollows || decide ((s.time.now + timeMod - t) % timeMod < 2 ^ 16) then s else s.timeHoldover
  | none => s

/-- OSCFAIL: no edge of the backup oscillator for 1 ms (R440). -/
def State.oscFail (s : State) : State := s.set Fd.RST_CAUSE_OSCFAIL 1

/-- FUSE_WRITE_DONE: the fuse write ends, and the reset sources that it held back take effect (R468). -/
def State.fuseEnd (s : State) : State :=
  if s.sec.fuse.isNone then s
  else
    let s1 := s.fuseDone
    s.rst.waiting.foldl (fun a r => a.assertReset r) { s1 with rst := { s1.rst with waiting := [] } }

/-- CONTROLLED_STOP_END: the C4 source asserts with the reach that the strap gives it (R693). -/
def State.stopEnd (s : State) : State :=
  s.resetEvent (if s.flag Fd.RST_STRAP_FATALREACH then .fatalCold else .fatalWarm)

/-! ## Events at pins (R427, R668, R669): an input function reaches its peripheral from the eyelet that carries it -/

/-- WAKE_EVENT: EWAKE is on E21 and TCS_N on E17 (R668). -/
def State.wakeEvent (s : State) (w : WakeSrc) : State :=
  match w with
  | .ewake => if s.eyeFn 21 1 then s.wake w else s
  | .tcs => if s.eyeFn 17 1 then s.wake w else s
  | _ => s.wake w

/-- PERST_N on E14; on no eyelet it idles high. -/
def State.perstEvent (s : State) (asserted : Bool) : State := if s.eyeFn 14 1 then s.perst asserted else s

/-- DP_HPD_RISE: HPDp on E32 to E39. -/
def State.hpdOn (s : State) (p : Nat) : State := if s.eyeFn (32 + p) 1 then s.hpdRise p else s

/-- DP_IRQ_HPD. -/
def State.hpdPulse (s : State) (p : Nat) (lost : Bool) : State := if s.eyeFn (32 + p) 1 then s.hpdIrq p lost else s

/-- Does a reference event of head `h` fall in the current tick (R360): t_k for some k, on the master or with fabric time locked? -/
def State.epochDue (s : State) (h : Nat) : Bool :=
  let epoch := s.get Fd.WELT_EPOCHHI_EPOCH * 2 ^ 28 + s.get Fd.WELT_EPOCHLO_EPOCH
  let d : Int := (s.time.now * 16 : Nat) - (epoch * 16 + s.get (Fd.WELT_HD_OFS_OFS h) : Nat)
  let a := s.hTotal h * s.vTotal h * 1000000
  let k := ceilDiv (d.toNat * s.pclk h) a
  let t : Int := (k * a / s.pclk h : Nat)
  (s.timeMaster || s.get Fd.WELT_TIMESTAT_STATE == 2) && decide (d ≤ t) && decide (t ≤ d + 15)

/-- REFERENCE_EVENT: the edge of FSYNC0 to FSYNC3 on E44 to E47 that FEDGE selects, or an instant of fabric time (R233, R234). -/
def State.refEdge (s : State) (h : Nat) (rising : Bool) (err : Int) (ival : Nat) : State :=
  match s.get (Fd.HD_CTL_SRC h).act with
  | 1 =>
    if s.eyeFn (44 + s.get (Fd.HD_CTL_FSEL h).act) 1 && rising == !s.flag (Fd.HD_CTL_FEDGE h).act then s.refEvent h err ival else s
  | 2 => if s.epochDue h then s.refEvent h err ival else s
  | _ => s

/-- CAPTURE_EDGE: TCAP0 to TCAP7 on E64 to E71 and FSYNC0 to FSYNC3 (R654). -/
def State.captureEdge (s : State) (trig : Nat) (rising : Bool) : State :=
  if s.inEpisode then s
  else if trig < 8 ∧ s.eyeFn (64 + trig) 1 = true then s.captureTrig trig rising
  else if 0x60 ≤ trig ∧ trig < 0x64 ∧ s.eyeFn (44 + trig - 0x60) 1 = true then s.captureTrig trig rising
  else s

/-- LATCH_POINT of the heads of a mask, whose writeback rows leave in the same beam period (R183, R214), and at which a PWM period
starts (R623). -/
def State.latchEvent (s : State) (mask : Nat) (e : Env) : State :=
  let t := ((List.range 16).filter (nbit mask)).foldl (fun a h => a.wbDrain h e) (s.latchPoint mask)
  if s.pwmSynced mask then t.pwmStart else t

/-- A framing error on the debug port (R703, R705). -/
def State.framingHeard (s : State) : State := if s.dbgListens then s.framingError else s

/-- The operations of R706. -/
def dbgOps : List Nat := [0x01, 0x02, 0x03, 0x04, 0x08, 0x09]

/-- DEBUG_UNKNOWN_OP (R706). -/
def State.dbgUnknown (s : State) (op : Nat) (crcOk : Bool) : State :=
  if dbgOps.contains op then s else s.dbgFrame crcOk true (fun a => a.dbgAnswer 0x10 [])

/-! ## Ring registers (R398): ring 0 is the PCIe mailbox, ring 1 + n is core n's -/

def ringKey (r : Nat) : Nat := if r = 0 then Rg.PCIE_MBRING else Rg.TONGUE_A_RING (r - 1)
def cptrKey (r : Nat) : Nat := if r = 0 then Rg.PCIE_MBCPTR else Rg.TONGUE_A_CPTR (r - 1)
def rptrKey (r : Nat) : Nat := if r = 0 then Rg.PCIE_MBRPTR else Rg.TONGUE_A_RPTR (r - 1)

end Sys2Proof.Machine
end

