-- ==== Sys2Proof/Machine/CmdAwl.lean ====
section
/-! DEFINITION. The meanings of commands, one definition for each: the instructions of the Awl cores (14_awl_model.md, 15_awl_isa.md). -/
namespace Sys2Proof.Machine

/-- NOP (R527). -/
def execAwlNop (n : Fin 4) (s : State) : Out := quiet s (s.runOp n 0x00 fun _ => s.advance n)

/-- MOV (R527). -/
def execAwlMov (n : Fin 4) (s : State) : Out := quiet s (s.runOp n 0x01 fun i => s.resultG n i.gd (s.gcell n i.gs))

/-- LDI (R527). -/
def execAwlLdi (n : Fin 4) (s : State) : Out := quiet s (s.runOp n 0x02 fun i => s.resultG n i.gd (ldiCell i.gs i.x))

/-- LDHI (R527). -/
def execAwlLdhi (n : Fin 4) (s : State) : Out :=
  quiet s (s.runOp n 0x03 fun i => s.resultG n i.gd (putBits (s.gcell n i.gd) 10 4 i.x))

/-- RETAG (R527). -/
def execAwlRetag (n : Fin 4) (s : State) : Out := quiet s (s.runOp n 0x04 fun i => s.resultG n i.gd (mkCell i.x (s.gcell n i.gs)))

/-- GETTAG (R527). -/
def execAwlGettag (n : Fin 4) (s : State) : Out :=
  quiet s (s.runOp n 0x05 fun i => s.resultG n i.gd (mkCell tNUM (tagOf (s.gcell n i.gs))))

/-- TTST (R527). -/
def execAwlTtst (n : Fin 4) (s : State) : Out :=
  quiet s (s.runOp n 0x06 fun i => (s.setFlags n { s.flagsOf n with t := tagOf (s.gcell n i.gd) == i.x % 4 }).advance n)

/-- ADD (R526). -/
def execAwlAdd (n : Fin 4) (s : State) : Out := quiet s (s.run2 n 0x08 (sumOp 0x08 false true (fun _ => 0)))

/-- SUB (R526). -/
def execAwlSub (n : Fin 4) (s : State) : Out := quiet s (s.run2 n 0x09 (sumOp 0x09 true true (fun _ => 1)))

/-- ADC (R526). -/
def execAwlAdc (n : Fin 4) (s : State) : Out := quiet s (s.run2 n 0x0A (sumOp 0x0A false true (fun f => b2n f.c)))

/-- SBC (R526). -/
def execAwlSbc (n : Fin 4) (s : State) : Out := quiet s (s.run2 n 0x0B (sumOp 0x0B true true (fun f => b2n f.c)))

/-- CMP (R526). -/
def execAwlCmp (n : Fin 4) (s : State) : Out := quiet s (s.run2 n 0x0C (sumOp 0x0C true false (fun _ => 1)))

/-- NEG (R526). -/
def execAwlNeg (n : Fin 4) (s : State) : Out :=
  quiet s (s.run1 n 0x0D [tNUM, tFIX] fun x f => let r := awlSum f 0 x 1 (tagOf x) true; (mkCell (tagOf x) r.1, r.2))

/-- ADDI (R526). -/
def execAwlAddi (n : Fin 4) (s : State) : Out :=
  quiet s (s.runImm n 0x0E notCode fun d x f => let r := awlSum f d (imm14 x) 0 (tagOf d) false; (some (mkCell (tagOf d) r.1), r.2))

/-- CMPI (R526). -/
def execAwlCmpi (n : Fin 4) (s : State) : Out :=
  quiet s (s.runImm n 0x0F [tNUM, tFIX] fun d x f => (none, (awlSum f d (imm14 x) 1 (tagOf d) true).2))

/-- MUL (R528). -/
def execAwlMul (n : Fin 4) (s : State) : Out :=
  quiet s (s.run2 n 0x10 fun d x f => let r := awlMul f d x (tagOf d); (some (mkCell (tagOf d) r.1), r.2))

/-- MULH (R527). -/
def execAwlMulh (n : Fin 4) (s : State) : Out := quiet s (s.run2 n 0x11 (logicOp true awlMulh))

/-- DIV (R528). -/
def execAwlDiv (n : Fin 4) (s : State) : Out := quiet s (s.runDiv n 0x12 fun d x f => awlDiv f d x (tagOf d))

/-- REM (R528). -/
def execAwlRem (n : Fin 4) (s : State) : Out := quiet s (s.runDiv n 0x13 fun d x f => let r := awlRem d x; (r, f.logic r))

/-- MIN (R527). -/
def execAwlMin (n : Fin 4) (s : State) : Out := quiet s (s.run2 n 0x14 (logicOp true fun d x => if sval d ≤ sval x then d else x))

/-- MAX (R527). -/
def execAwlMax (n : Fin 4) (s : State) : Out := quiet s (s.run2 n 0x15 (logicOp true fun d x => if sval d < sval x then x else d))

/-- AND (R527). -/
def execAwlAnd (n : Fin 4) (s : State) : Out := quiet s (s.run2 n 0x18 (logicOp true Nat.land))

/-- OR (R527). -/
def execAwlOr (n : Fin 4) (s : State) : Out := quiet s (s.run2 n 0x19 (logicOp true Nat.lor))

/-- XOR (R527). -/
def execAwlXor (n : Fin 4) (s : State) : Out := quiet s (s.run2 n 0x1A (logicOp true Nat.xor))

/-- NOT (R527). -/
def execAwlNot (n : Fin 4) (s : State) : Out :=
  quiet s (s.run1 n 0x1B notCode fun x f => let r := 2 ^ 14 - 1 - valOf x; (mkCell (tagOf x) r, f.logic r))

/-- TST (R527). -/
def execAwlTst (n : Fin 4) (s : State) : Out := quiet s (s.run2 n 0x1C (logicOp false Nat.land))

/-- SHL (R528). -/
def execAwlShl (n : Fin 4) (s : State) : Out :=
  quiet s (s.runImm n 0x1D notCode fun d x f => let r := awlShl f d (x % 16) (tagOf d); (some (mkCell (tagOf d) r.1), r.2))

/-- SHR (R528). -/
def execAwlShr (n : Fin 4) (s : State) : Out :=
  quiet s (s.runImm n 0x1E notCode fun d x f => let r := awlShr f d (x % 16); (some (mkCell (tagOf d) r.1), r.2))

/-- SAR (R528). -/
def execAwlSar (n : Fin 4) (s : State) : Out :=
  quiet s (s.runImm n 0x1F notCode fun d x f => let r := awlSar f d (x % 16); (some (mkCell (tagOf d) r.1), r.2))

/-- LD (R531). -/
def execAwlLd (n : Fin 4) (e : Env) (s : State) : Out := event s (s.runMem n 0x20 1 false e)

/-- ST (R531). -/
def execAwlSt (n : Fin 4) (e : Env) (s : State) : Out := event s (s.runMem n 0x21 1 true e)

/-- LD2 (R531). -/
def execAwlLd2 (n : Fin 4) (e : Env) (s : State) : Out := event s (s.runMem n 0x22 2 false e)

/-- ST2 (R531). -/
def execAwlSt2 (n : Fin 4) (e : Env) (s : State) : Out := event s (s.runMem n 0x23 2 true e)

/-- IN (R504). -/
def execAwlIn (n : Fin 4) (e : Env) (s : State) : Out := event s (s.runIo n 0x24 false e)

/-- OUT (R504). -/
def execAwlOut (n : Fin 4) (e : Env) (s : State) : Out := event s (s.runIo n 0x25 true e)

/-- BKSET (R527). -/
def execAwlBkset (n : Fin 4) (s : State) : Out :=
  quiet s (s.runOp n 0x26 fun i =>
    (s.setBank n (i.x % 4) (valOf (s.gcell n i.gs) + s.gcell n (i.gs + 1) % 64 * 2 ^ 14)).advance n)

/-- BKGET (R527). -/
def execAwlBkget (n : Fin 4) (s : State) : Out :=
  quiet s (s.runOp n 0x27 fun i =>
    let v := s.bankReg n (i.x % 4)
    (s.setGs n i.gd [mkCell tNUM v, mkCell tNUM (v / 2 ^ 14)]).advance n)

/-- B (R535). -/
def execAwlB (n : Fin 4) (s : State) : Out := quiet s (s.runOp n 0x28 fun i => s.jump n (branchTo (s.pcOf n) i.x))

/-- CALL (R535). -/
def execAwlCall (n : Fin 4) (s : State) : Out :=
  quiet s (s.runOp n 0x29 fun i => (s.setG n 15 (s.linkCell n)).jump n (branchTo (s.pcOf n) i.x))

/-- JMP (R535). -/
def execAwlJmp (n : Fin 4) (s : State) : Out := quiet s (s.runJmp n 0x2A false)

/-- CALLR (R535). -/
def execAwlCallr (n : Fin 4) (s : State) : Out := quiet s (s.runJmp n 0x2B true)

/-- REP (R532). -/
def execAwlRep (n : Fin 4) (s : State) : Out := quiet s (s.runRep n)

/-- LOCK (R510). -/
def execAwlLock (n : Fin 4) (s : State) : Out := quiet s (s.runLock n)

/-- UNLOCK (R510). -/
def execAwlUnlock (n : Fin 4) (s : State) : Out := quiet s (s.runUnlock n)

/-- SETIE (R536). -/
def execAwlSetie (n : Fin 4) (s : State) : Out := quiet s (s.runOp n 0x33 fun i => (s.set (Fd.AWL_STAT_IE n) i.x).advance n)

/-- WFI (R536). -/
def execAwlWfi (n : Fin 4) (s : State) : Out := quiet s (s.runWfi n)

/-- WFI_WAKE (R536). -/
def execAwlWfiWake (n : Fin 4) (s : State) : Out := quiet s (s.wfiWake n)

/-- TRAP (R505). -/
def execAwlTrap (n : Fin 4) (s : State) : Out := quiet s (s.runTrap n)

/-- RETI (R508). -/
def execAwlReti (n : Fin 4) (s : State) : Out := quiet s (s.runReti n)

/-- LOCK_BREAK (R511). -/
def execAwlLockBreak (n : Fin 4) (s : State) : Out := quiet s (s.lockBreak n)

/-- AWL_RESERVED_ENCODING (R523). -/
def execAwlReservedEncoding (n : Fin 4) (s : State) : Out := quiet s (s.reservedEnc n)

end Sys2Proof.Machine
end

