-- ==== Sys2Proof/Machine/CmdDebug.lean ====
section
/-! DEFINITION. The meanings of commands, one definition for each: the debug port and run control (23_debug.md). -/
namespace Sys2Proof.Machine

/-- ID (R706). -/
def execDbgId (crc : BitVec 16) (pl : List Byte) (s : State) : Out :=
  event s (s.dbgFrame (dbgCrcOk 0x01 pl crc) pl.isEmpty State.dbgIdOp)

/-- CHALLENGE (R708). -/
def execDbgChallenge (crc : BitVec 16) (pl : List Byte) (s : State) : Out :=
  event s (s.dbgFrame (dbgCrcOk 0x02 pl crc) pl.isEmpty State.dbgChallengeOp)

/-- UNLOCK_PUT (R709). -/
def execDbgUnlockPut (crc : BitVec 16) (pl : List Byte) (s : State) : Out :=
  event s (s.dbgFrame (dbgCrcOk 0x03 pl crc) (decide (3 ≤ pl.length) && decide (pl.length ≤ 4096)) (fun a => a.dbgPutOp (pl.map BitVec.toNat)))

/-- UNLOCK_CHECK (R710). -/
def execDbgUnlockCheck (crc : BitVec 16) (pl : List Byte) (s : State) : Out :=
  event s (s.dbgFrame (dbgCrcOk 0x04 pl crc) pl.isEmpty State.dbgCheckOp)

/-- READ (R707). -/
def execDbgRead (crc : BitVec 16) (pl : List Byte) (e : Env) (s : State) : Out :=
  event s (s.dbgAccess (dbgCrcOk 0x08 pl crc) (pl.length == 7) (fun a => a.dbgReadOp (pl.map BitVec.toNat) e))

/-- WRITE (R707). -/
def execDbgWrite (crc : BitVec 16) (pl : List Byte) (e : Env) (s : State) : Out :=
  event s (s.dbgAccess (dbgCrcOk 0x09 pl crc) (decide (9 ≤ pl.length) && decide (pl.length ≤ 4093)) (fun a => a.dbgWriteOp (pl.map BitVec.toNat) e))

/-- DEBUG_BREAK (R703). -/
def execDebugBreak (s : State) : Out := event s s.dbgPulse

/-- DEBUG_FRAMING_ERROR (R703). -/
def execDebugFramingError (s : State) : Out := event s s.dbgPulse.framingHeard

/-- DEBUG_FRAME_GAP (R705). -/
def execDebugFrameGap (s : State) : Out := quiet s s.framingHeard

/-- DBGRST_LONG_LOW (R703). -/
def execDbgrstLongLow (s : State) : Out := settled (s.assertReset .pin)

/-- DEBUG_HALT (R713). -/
def execDebugHalt (m : Fin 32) (v : BitVec 28) (e : Env) (s : State) : Out := wrote s m Rg.DBG_RUN v e

/-- HALT_REACHED (R713). -/
def execHaltReached (e : Env) (s : State) : Out := event s (s.haltReached e.beam)

/-- DEBUG_RESUME (R715). -/
def execDebugResume (m : Fin 32) (v : BitVec 28) (e : Env) (s : State) : Out := wrote s m Rg.DBG_RUN v e

/-- DEBUG_STEP (R716). -/
def execDebugStep (m : Fin 32) (v : BitVec 28) (e : Env) (s : State) : Out := wrote s m Rg.DBG_RUN v e

/-- STEP_DONE (R716). -/
def execStepDone (s : State) : Out := event s s.stepDone

/-- STEP_STALL (R716). -/
def execStepStall (s : State) : Out := event s s.stepStall

/-- DEBUG_RELOCK (R710). -/
def execDebugRelock (m : Fin 32) (v : BitVec 28) (e : Env) (s : State) : Out := wrote s m Rg.DBG_CTL v e

/-- DEBUG_UNKNOWN_OP (R706). -/
def execDebugUnknownOp (op : Byte) (crc : BitVec 16) (pl : List Byte) (s : State) : Out :=
  event s (s.dbgUnknown op.toNat (dbgCrcOk op.toNat pl crc))

end Sys2Proof.Machine
end

