-- ==== Sys2Proof/Machine/CmdEyelet.lean ====
section
/-! DEFINITION. The meanings of commands, one definition for each: eyelets, service peripherals and single words of palettes and LUTs (21_eyelets.md, 04_layers.md, 06_composition.md). -/
namespace Sys2Proof.Machine

/-- EYELET_CONFIG_WRITE (R675). -/
def execEyeletConfigWrite (m : Fin 32) (v : BitVec 28) (e : Env) (s : State) : Out := wrote s m Rg.SYS_EYCFG v e

/-- EYELET_SET (R680). -/
def execEyeletSet (m : Fin 32) (v : BitVec 28) (e : Env) (s : State) : Out := wrote s m Rg.SYS_EYSET v e

/-- EYELET_CLEAR (R680). -/
def execEyeletClear (m : Fin 32) (v : BitVec 28) (e : Env) (s : State) : Out := wrote s m Rg.SYS_EYCLR v e

/-- EYELET_EVENT (R672). -/
def execEyeletEvent (n : Fin 128) (level : Bool) (s : State) : Out := quiet s (s.eyeSample n level)

/-- I2C_GO (R677). -/
def execI2cGo (m : Fin 32) (v : BitVec 28) (e : Env) (s : State) : Out := wrote s m Rg.SYS_PERDATA v e

/-- I2C_COMMAND_DONE (R677). -/
def execI2cCommandDone (k : Fin 4) (n : Fin 65) (data : List Byte) (nack lost : Bool) (s : State) : Out :=
  event s (s.i2cDone k n (data.map BitVec.toNat) nack lost)

/-- UART_RX_BYTE (R678). -/
def execUartRxByte (u : Fin 2) (b : Byte) (bad : Bool) (s : State) : Out := quiet s (s.uartRx u b.toNat bad)

/-- UART_TX_BYTE (R678). -/
def execUartTxByte (u : Fin 2) (cts : Bool) (s : State) : Out := quiet s (s.uartTx u cts)

/-- PERDATA_READ (R681). -/
def execPerdataRead (m : Fin 32) (e : Env) (s : State) : Out := didRead s m Rg.SYS_PERDATA e

/-- PERDATA_WRITE (R681). -/
def execPerdataWrite (m : Fin 32) (v : BitVec 28) (e : Env) (s : State) : Out := wrote s m Rg.SYS_PERDATA v e

/-- PALETTE_WRITE (R146). -/
def execPaletteWrite (h : Fin 16) (i : Fin 32768) (m : Fin 32) (v : Word) (e : Env) (s : State) : Out :=
  quiet s (s.arrayWrite m (palAddr h 0 0 + 4 * i) v.toNat e)

/-- LUT_WRITE (R197). -/
def execLutWrite (h : Fin 16) (i : Fin 81920) (m : Fin 32) (v : Word) (e : Env) (s : State) : Out :=
  quiet s (s.arrayWrite m (preLutAddr h 0 0 + 4 * i) v.toNat e)

end Sys2Proof.Machine
end

