-- ==== Sys2Proof/Machine/CmdFault.lean ====
section
/-! DEFINITION. The meanings of commands, one definition for each: the fault hub (22_faults.md). -/
namespace Sys2Proof.Machine

/-- FAULT_READ (R695). -/
def execFaultRead (src : Src) (p : Packet) (e : Env) (s : State) : Out :=
  event s (s.tongueRow src 0x30 p e true (plainBody fun a r _ => a.faultRead r p))

/-- FAULT_ACK (R696). -/
def execFaultAck (src : Src) (p : Packet) (e : Env) (s : State) : Out :=
  event s (s.tongueRow src 0x31 p e true (plainBody fun a r o => a.faultAck r o p))

/-- FLT_ACK_WRITE (R696). -/
def execFltAckWrite (m : Fin 32) (v : BitVec 28) (e : Env) (s : State) : Out := wrote s m Rg.FLT_ACK v e

/-- FAULT_FORCE (R694). -/
def execFaultForce (m : Fin 32) (v : BitVec 28) (e : Env) (s : State) : Out := wrote s m Rg.FLT_FORCE1 v e

/-- CONTROLLED_STOP_END (R693). -/
def execControlledStopEnd (s : State) : Out := settled s.stopEnd

end Sys2Proof.Machine
end

