-- ==== Sys2Proof/Machine/CmdHead.lean ====
section
/-! DEFINITION. The meanings of commands, one definition for each: the beam: lines, Soles, granules, outputs (02_pace.md to 08_fetch_memory.md). -/
namespace Sys2Proof.Machine

/-- LATCH_POINT (R183). -/
def execLatchPoint (mask : BitVec 16) (e : Env) (s : State) : Out := event s (s.latchEvent mask.toNat e)

/-- SPRITE_SNAPSHOT_READ (R155). -/
def execSpriteSnapshotRead (h : Fin 16) (y : Fin 16384) (e : Env) (s : State) : Out := quiet s (s.snapshotRead h y e)

/-- LINE_RELEASE (R54). -/
def execLineRelease (h : Fin 16) (y : Fin 16384) (e : Env) (s : State) : Out := quiet s ((s.lineRelease h y).wbDrain h e)

/-- LINE_LIST_EXECUTE (R169). -/
def execLineListExecute (h : Fin 16) (e : Env) (s : State) : Out := quiet s (s.listExecute h e)

/-- BEAM_ENTRY_ISSUE (R174). -/
def execBeamEntryIssue (h : Fin 16) (x : Fin 16384) (s : State) : Out := quiet s (s.beamIssue h x)

/-- BEAM_ENTRY_LOST (R174). -/
def execBeamEntryLost (h : Fin 16) (s : State) : Out := quiet s (s.beamLost h)

/-- GRANULE_ANSWER (R267). -/
def execGranuleAnswer (sl : Fin 16) (num : Fin 16384) (lat : Fin 65536) (e : Env) (s : State) : Out :=
  quiet s (s.granuleAnswer sl num lat e)

/-- STITCH_RUN (R267). -/
def execStitchRun (sl : Fin 16) (s : State) : Out := quiet s (s.stitchRun sl)

/-- LINE_DONE (R55). -/
def execLineDone (sl : Fin 16) (d : Int) (s : State) : Out := quiet s (s.lineDone sl d)

/-- SOLE_LINE_ABANDON (R56). -/
def execSoleLineAbandon (sl : Fin 16) (s : State) : Out := quiet s (s.abandonDue sl)

/-- HEAD_UNDERRUN (R243). -/
def execHeadUnderrun (h : Fin 16) (b : Fin 512) (s : State) : Out := quiet s (s.headUnderrun h b)

/-- RECT_CRC_COMPARE (R250). -/
def execRectCrcCompare (h : Fin 16) (i : Fin 16) (s : State) : Out := quiet s (s.rectCompare h i)

/-- WRITEBACK_DROP (R216). -/
def execWritebackDrop (h : Fin 16) (s : State) : Out := quiet s (s.wbLate h)

/-- WRITEBACK_DONE (R217). -/
def execWritebackDone (h : Fin 16) (e : Env) (s : State) : Out := quiet s ((s.wbDrain h e).wbDone h)

/-- PICTURE_PACKET_SEND (R361). -/
def execPicturePacketSend (h : Fin 16) (n : Fin 32) (credit : Bool) (s : State) : Out := quiet s (s.pictureSend h n credit)

/-- HEAD_RUN (R231). -/
def execHeadRun (h : Fin 16) (m : Fin 32) (v : BitVec 28) (e : Env) (s : State) : Out := wrote s m (Rg.HD_CTL h) v e

/-- HEAD_STOP (R231). -/
def execHeadStop (h : Fin 16) (m : Fin 32) (v : BitVec 28) (e : Env) (s : State) : Out := wrote s m (Rg.HD_CTL h) v e

/-- REFERENCE_EVENT (R234). -/
def execReferenceEvent (h : Fin 16) (rising : Bool) (err : Int) (ival : Nat) (s : State) : Out := event s (s.refEdge h rising err ival)

/-- REFERENCE_ABSENT (R236). -/
def execReferenceAbsent (h : Fin 16) (s : State) : Out := event s (s.refAbsent h)

/-- HEAD_FRAME_READ (R263). -/
def execHeadFrameRead (h : Fin 16) (m : Fin 32) (e : Env) (s : State) : Out := didRead s m (Rg.HD_FRAME h) e

/-- UNDERRUN_COUNT_CLEAR (R262). -/
def execUnderrunCountClear (h : Fin 16) (m : Fin 32) (v : BitVec 28) (e : Env) (s : State) : Out := wrote s m (Rg.HD_STAT h) v e

end Sys2Proof.Machine
end

