-- ==== Sys2Proof/Machine/CmdLanes.lean ====
section
/-! DEFINITION. The meanings of commands, one definition for each: lanes and ports (09_lanes.md). -/
namespace Sys2Proof.Machine

/-- PORT_MODE_WRITE (R309). -/
def execPortModeWrite (p : Fin 8) (m : Fin 32) (v : BitVec 28) (e : Env) (s : State) : Out := wrote s m (Rg.EYE_WP_CFG p) v e

/-- PORT_RETRAIN (R312). -/
def execPortRetrain (p : Fin 8) (m : Fin 32) (v : BitVec 28) (e : Env) (s : State) : Out := wrote s m (Rg.EYE_WP_CFG p) v e

/-- WELT_TRAINING_DONE (R312). -/
def execWeltTrainingDone (p : Fin 8) (ok : Bool) (rate : Fin 4) (rxBad txBad : BitVec 4) (taps : List (Byte × Byte × Byte)) (s : State) : Out :=
  event s (s.weltTrained p ok rate rxBad.toNat txBad.toNat (taps.map (fun x => (x.1.toNat, x.2.1.toNat, x.2.2.toNat))))

/-- WELT_TRAINING_ATTEMPT (R312). -/
def execWeltTrainingAttempt (p : Fin 8) (ok : Bool) (rate : Fin 4) (rxBad txBad : BitVec 4) (taps : List (Byte × Byte × Byte)) (s : State) : Out :=
  event s (s.weltAttempt p ok rate rxBad.toNat txBad.toNat (taps.map (fun x => (x.1.toNat, x.2.1.toNat, x.2.2.toNat))))

/-- LANE_FAIL (R314). -/
def execLaneFail (p : Fin 8) (lane : Fin 4) (rx busy : Bool) (s : State) : Out := event s (s.laneFail p lane rx busy)

/-- MANREMAP (R315). -/
def execManremap (p : Fin 8) (m : Fin 32) (v : BitVec 28) (e : Env) (s : State) : Out := wrote s m (Rg.EYE_WP_CFG p) v e

/-- SPARE_FAIL (R313). -/
def execSpareFail (p : Fin 8) (s : State) : Out := event s (s.spareFail p)

/-- REFERENCE_LOST (R317). -/
def execReferenceLost (s : State) : Out := quiet s s.refLost

/-- REFERENCE_REGAINED (R317). -/
def execReferenceRegained (s : State) : Out := quiet s s.refBack

/-- DP_HPD_RISE (R322). -/
def execDpHpdRise (p : Fin 8) (s : State) : Out := event s (s.hpdOn p)

/-- DP_HPD_LOW (R322). -/
def execDpHpdLow (p : Fin 8) (s : State) : Out := event s (s.hpdLow p)

/-- DP_IRQ_HPD (R322). -/
def execDpIrqHpd (p : Fin 8) (lost : Bool) (s : State) : Out := event s (s.hpdPulse p lost)

/-- DP_TRAINING_DONE (R322). -/
def execDpTrainingDone (p : Fin 8) (ok : Bool) (rate : Fin 8) (lanes : Fin 4) (ilr : Option (Fin 4 × Fin 8))
    (taps : List (Byte × Byte × Byte)) (s : State) : Out :=
  event s (s.dpTrained p ok rate lanes (ilr.map (fun x => (x.1.val, x.2.val))) (taps.map (fun x => (x.1.toNat, x.2.1.toNat, x.2.2.toNat))))

/-- EYE_SCAN_START (R327). -/
def execEyeScanStart (n : Fin 32) (m : Fin 32) (v : BitVec 28) (e : Env) (s : State) : Out := wrote s m (Rg.EYE_L_SCAN n) v e

/-- EYE_SCAN_DONE (R327). -/
def execEyeScanDone (n : Fin 32) (r : Nat) (lost : Bool) (s : State) : Out := quiet s (s.scanDone n r lost)

/-- CHECKER_SYNC (R326). -/
def execCheckerSync (n : Fin 32) (errs : Nat) (s : State) : Out := quiet s (s.checkerSync n errs)

/-- CHECKER_SYNC_LOSS (R326). -/
def execCheckerSyncLoss (n : Fin 32) (errs : Nat) (s : State) : Out := quiet s (s.checkerLoss n errs)

end Sys2Proof.Machine
end

