-- ==== Sys2Proof/Machine/CmdLast.lean ====
section
/-! DEFINITION. The meanings of commands, one definition for each: Lasts, commits, expectations and reports (03_last_contract.md, 05_line_lists_commit.md, 07_heads.md). -/
namespace Sys2Proof.Machine

/-- LAST_STAGE (R99). -/
def execLastStage (src : Src) (p : Packet) (e : Env) (s : State) : Out :=
  event s (s.tongueRow src 0x10 p e (!nbit (p.w 2) 26) (plainBody fun a r o => a.lastStage r o p))

/-- LAST_STAGE_COPY (R98). -/
def execLastStageCopy (src : Src) (p : Packet) (e : Env) (s : State) : Out :=
  event s (s.tongueRow src 0x10 p e (nbit (p.w 2) 26) (plainBody fun a r o => a.lastStage r o p))

/-- LAST_STAGE_COPY_DONE (R98). -/
def execLastStageCopyDone (slot : Fin 8) (e : Env) (s : State) : Out := event s (s.copyDone slot e)

/-- LAST_RELEASE (R100). -/
def execLastRelease (src : Src) (p : Packet) (e : Env) (s : State) : Out :=
  event s (s.tongueRow src 0x11 p e (nbit (p.w 2) 27) (plainBody fun a r o => a.lastRelease r o p))

/-- LAST_ADMIT (R101). -/
def execLastAdmit (src : Src) (p : Packet) (e : Env) (s : State) : Out :=
  event s (s.tongueRow src 0x11 p e (!nbit (p.w 2) 27) (plainBody fun a r o => a.lastAdmit r o p))

/-- LAST_ADMIT_DONE (R102). -/
def execLastAdmitDone (s : State) : Out := event s s.admitEnd

/-- LAST_HD_SEL_WRITE (R111). -/
def execLastHdSelWrite (h : Fin 16) (m : Fin 32) (v : BitVec 28) (e : Env) (s : State) : Out := wrote s m (Rg.LAST_HD_SEL h) v e

/-- COMMIT_ARM (R180). -/
def execCommitArm (src : Src) (p : Packet) (e : Env) (s : State) : Out :=
  event s (s.tongueRow src 0x12 p e true (plainBody fun a r o => a.commitArm r o p e.beam))

/-- COMMIT_QUERY (R188). -/
def execCommitQuery (src : Src) (p : Packet) (e : Env) (s : State) : Out :=
  event s (s.tongueRow src 0x13 p e true (plainBody fun a r _ => a.commitQuery r p))

/-- CRC_EXPECT (R251). -/
def execCrcExpect (src : Src) (p : Packet) (e : Env) (s : State) : Out :=
  event s (s.tongueRow src 0x18 p e (!nbit (p.w 2) 8) (plainBody fun a r o => a.crcExpect r o p))

/-- CRC_EXPECT_CLEAR (R251). -/
def execCrcExpectClear (src : Src) (p : Packet) (e : Env) (s : State) : Out :=
  event s (s.tongueRow src 0x18 p e (nbit (p.w 2) 8) (plainBody fun a r o => a.crcExpect r o p))

/-- PICTURE_REPORT (R254). -/
def execPictureReport (src : Src) (p : Packet) (e : Env) (s : State) : Out :=
  event s (s.tongueRow src 0x29 p e (!nbit (p.w 2) 4) (plainBody fun a r _ => a.pictureReport r p))

/-- PICTURE_REPORT_SIGNED (R254). -/
def execPictureReportSigned (src : Src) (p : Packet) (e : Env) (s : State) : Out :=
  event s (s.tongueRow src 0x29 p e (nbit (p.w 2) 4) (plainBody fun a r _ => a.pictureReport r p))

end Sys2Proof.Machine
end

