-- ==== Sys2Proof/Machine/CmdMemory.lean ====
section
/-! DEFINITION. The meanings of commands, one definition for each: the pool and the GDDR7 controller (08_fetch_memory.md). -/
namespace Sys2Proof.Machine

/-- POOL_TACK_GRANT (R270). -/
def execPoolTackGrant (k : Fin 8) (s : State) : Out := quiet s (s.poolGrant k)

/-- FETCH_POOL_WRITE (R271). -/
def execFetchPoolWrite (k : Fin 8) (m : Fin 32) (v : BitVec 28) (e : Env) (s : State) : Out := wrote s m (Rg.FETCH_POOL k) v e

/-- POOL_PEAK_CLEAR (R295). -/
def execPoolPeakClear (k : Fin 8) (m : Fin 32) (v : BitVec 28) (e : Env) (s : State) : Out := wrote s m (Rg.FETCH_POOL_STAT k) v e

/-- SOLE_TACK_PEAK_CLEAR (R296). -/
def execSoleTackPeakClear (n : Fin 16) (m : Fin 32) (v : BitVec 28) (e : Env) (s : State) : Out :=
  wrote s m (Rg.FETCH_SL_STAT n) v e

/-- FETCH_LATENCY_MAX_CLEAR (R297). -/
def execFetchLatencyMaxClear (n : Fin 16) (m : Fin 32) (v : BitVec 28) (e : Env) (s : State) : Out :=
  wrote s m (Rg.FETCH_SL_LAT n) v e

/-- LINE_GRANULE_PEAK_CLEAR (R298). -/
def execLineGranulePeakClear (n : Fin 16) (m : Fin 32) (v : BitVec 28) (e : Env) (s : State) : Out :=
  wrote s m (Rg.FETCH_SL_LINE n) v e

/-- MEM_TRAIN (R282). -/
def execMemTrain (m : Fin 32) (v : BitVec 28) (e : Env) (s : State) : Out := wrote s m Rg.MEM_CTL v e

/-- MEM_TRAINING_DONE (R282). -/
def execMemTrainingDone (rate : Fin 4) (fail : BitVec 6) (eyes : List (Byte × Byte)) (s : State) : Out :=
  event s (s.trainingDone rate fail.toNat (eyes.map (fun x => (x.1.toNat, x.2.toNat))))

/-- MEM_DEVICE_TEMP_READ (R285). -/
def execMemDeviceTempRead (hot : BitVec 6) (s : State) : Out := quiet s (s.memTemp hot.toNat)

/-- MEM_SHORT_RETRAIN (R285). -/
def execMemShortRetrain (c : Fin 6) (eye : Byte) (s : State) : Out := quiet s (s.memRetrain c eye.toNat)

/-- MEM_ECC_WRITE (R289). -/
def execMemEccWrite (n : Fin 8) (m : Fin 32) (v : BitVec 28) (e : Env) (s : State) : Out := wrote s m (Rg.MEM_ECC n) v e

/-- ECC_INIT_DONE (R290). -/
def execEccInitDone (n : Fin 8) (s : State) : Out := quiet s (s.eccInit n)

end Sys2Proof.Machine
end

