-- ==== Sys2Proof/Machine/CmdMove.lean ====
section
/-! DEFINITION. The meanings of commands, one definition for each: Lace and Skiver (16_lace.md, 17_skiver.md). -/
namespace Sys2Proof.Machine

/-- LACE_GO (R546). -/
def execLaceGo (n : Fin 32) (m : Fin 32) (v : BitVec 28) (e : Env) (s : State) : Out := wrote s m (Rg.LACE_CH_CTL n) v e

/-- LACE_ABORT (R548). -/
def execLaceAbort (n : Fin 32) (m : Fin 32) (v : BitVec 28) (e : Env) (s : State) : Out := wrote s m (Rg.LACE_CH_CTL n) v e

/-- LACE_DESCRIPTOR_READ (R540). -/
def execLaceDescriptorRead (n : Fin 32) (e : Env) (s : State) : Out := event s (s.laceDesc n e)

/-- LACE_BEAT (R545). -/
def execLaceBeat (write : Bool) (e : Env) (s : State) : Out := event s (s.laceBeat write e)

/-- LACE_READ_ANSWER (R541). -/
def execLaceReadAnswer (n : Fin 32) (e : Env) (s : State) : Out := event s (s.laceAnswer n e)

/-- LACE_DESCRIPTOR_DONE (R547). -/
def execLaceDescriptorDone (n : Fin 32) (s : State) : Out := event s (s.laceDone n)

/-- LACE_TIMEOUT (R547). -/
def execLaceTimeout (n : Fin 32) (s : State) : Out := event s (s.laceTimeout n)

/-- SKIVER_GO (R566). -/
def execSkiverGo (m : Fin 32) (v : BitVec 28) (e : Env) (s : State) : Out := wrote s m Rg.SKIVER_CTL v e

/-- SKIVER_ABORT (R567). -/
def execSkiverAbort (m : Fin 32) (v : BitVec 28) (e : Env) (s : State) : Out := wrote s m Rg.SKIVER_CTL v e

/-- SKIVER_COMMAND_READ (R555). -/
def execSkiverCommandRead (e : Env) (s : State) : Out := event s (s.skiverRead e)

/-- END (R555). -/
def execSkEnd (s : State) : Out := event s s.skEnd

/-- COPY (R558). -/
def execSkCopy (e : Env) (s : State) : Out := event s (s.skRect 1 e)

/-- FILL (R558). -/
def execSkFill (e : Env) (s : State) : Out := event s (s.skRect 2 e)

/-- GLYPH (R558). -/
def execSkGlyph (e : Env) (s : State) : Out := event s (s.skRect 3 e)

/-- KEYCOPY (R558). -/
def execSkKeycopy (e : Env) (s : State) : Out := event s (s.skRect 4 e)

/-- WAIT (R564). -/
def execSkWait (s : State) : Out := event s s.skWait

/-- JUMP (R555). -/
def execSkJump (s : State) : Out := event s s.skJump

/-- SKIVER_WAIT_END (R564). -/
def execSkiverWaitEnd (s : State) : Out := event s s.skWaitEnd

/-- SKIVER_COMMAND_DONE (R563). -/
def execSkiverCommandDone (s : State) : Out := event s s.skiverNext

/-- SKIVER_TIMEOUT (R566). -/
def execSkiverTimeout (s : State) : Out := event s s.skiverTimeout

end Sys2Proof.Machine
end

