-- ==== Sys2Proof/Machine/CmdPace.lean ====
section
/-! DEFINITION. The meanings of commands, one definition for each: pace gauges and the supply loop (02_pace.md). -/
namespace Sys2Proof.Machine

/-- PACE_WINDOW_END (R48). -/
def execPaceWindowEnd (g : Fin 20) (v : Fin 16384) (s : State) : Out := quiet s (s.gaugeEnd g v)

/-- PACE_MINCLR (R50). -/
def execPaceMinclr (g : Fin 20) (m : Fin 32) (v : BitVec 28) (e : Env) (s : State) : Out := wrote s m (gaugeKey g) v e

/-- SLACK_MINCLR (R57). -/
def execSlackMinclr (n : Fin 16) (m : Fin 32) (v : BitVec 28) (e : Env) (s : State) : Out := wrote s m (Rg.SL_SLACK n) v e

/-- LOOP_ENABLE (R63). -/
def execLoopEnable (m : Fin 32) (v : BitVec 28) (e : Env) (s : State) : Out := wrote s m Rg.PWR_PACECTL v e

/-- LOOP_DISABLE (R71). -/
def execLoopDisable (m : Fin 32) (v : BitVec 28) (e : Env) (s : State) : Out := wrote s m Rg.PWR_PACECTL v e

/-- VSET_WRITE (R69). -/
def execVsetWrite (m : Fin 32) (v : BitVec 28) (e : Env) (s : State) : Out := wrote s m Rg.PWR_VSET v e

/-- LOOP_PERIOD_END (R66). -/
def execLoopPeriodEnd (s : State) : Out := event s s.loopPeriodEnd

/-- LOOP_SETTLE_END (R66). -/
def execLoopSettleEnd (s : State) : Out := event s s.loopSettleEnd

/-- LOOP_HOLD_END (R67). -/
def execLoopHoldEnd (s : State) : Out := event s s.loopHoldEnd

/-- PMBUS_TRANSACTION_DONE (R63, R70, R71): a transaction completes in a reset episode too. -/
def execPmbusTransactionDone (ack : Bool) (mode : Byte) (s : State) : Out := outlast s (s.loopTransaction ack mode.toNat)

/-- PMBUS_TIMEOUT (R70, R71). -/
def execPmbusTimeout (s : State) : Out := outlast s s.loopTimeout

end Sys2Proof.Machine
end

