-- ==== Sys2Proof/Machine/CmdPanel.lean ====
section
/-! DEFINITION. The meanings of commands, one definition for each: Insole, Shank and the junction sensor (19_insole_shank.md, 24_electrical.md). -/
namespace Sys2Proof.Machine

/-- INSOLE_STEP_SLOT (R610). -/
def execInsoleStepSlot (n : Fin 2) (y : Fin 16384) (res : List (BitVec 16)) (s : State) : Out :=
  event s (s.stepSlot n y (res.map BitVec.toNat))

/-- SCAN_FRAME_END (R616). -/
def execScanFrameEnd (n : Fin 2) (e : Env) (s : State) : Out := event s (s.scanEnd n e)

/-- INSOLE_RECAL (R612). -/
def execInsoleRecal (n : Fin 2) (m : Fin 32) (v : BitVec 28) (e : Env) (s : State) : Out := wrote s m (Rg.INS_FE_CTL n) v e

/-- SENSOR_CONVERSION (R620). -/
def execSensorConversion (als th : List (BitVec 16)) (s : State) : Out :=
  event s (s.sensorConvert (als.map BitVec.toNat) (th.map BitVec.toNat))

/-- THERMISTOR_STALE (R621). -/
def execThermistorStale (t : Fin 8) (s : State) : Out := event s (s.thermStale t)

/-- PWM_PERIOD_START (R623). -/
def execPwmPeriodStart (s : State) : Out := event s s.pwmStart

/-- HEATER_PERIOD_START (R625). -/
def execHeaterPeriodStart (h : Fin 4) (s : State) : Out := event s (s.heaterStart h)

/-- HEATER_ON_END (R626). -/
def execHeaterOnEnd (h : Fin 4) (imeas : BitVec 6) (s : State) : Out := event s (s.heaterEnd h imeas.toNat)

/-- HEATER_OVERCURRENT (R626). -/
def execHeaterOvercurrent (h : Fin 4) (s : State) : Out := event s (s.heaterTrip h)

/-- KEEPALIVE_EXPIRY (R626). -/
def execKeepaliveExpiry (s : State) : Out := event s s.keepExpire

/-- SHANK_KEEP (R633). -/
def execShankKeep (m : Fin 32) (v : BitVec 28) (e : Env) (s : State) : Out := wrote s m Rg.SHK_CTL v e

/-- TJ_MAX_CLEAR (R744). -/
def execTjMaxClear (m : Fin 32) (v : BitVec 28) (e : Env) (s : State) : Out := wrote s m Rg.PWR_TJ v e

/-- TJ_UPDATE (R744). -/
def execTjUpdate (tj : BitVec 12) (s : State) : Out := event s (s.tjUpdate tj.toNat)

end Sys2Proof.Machine
end

