-- ==== Sys2Proof/Machine/CmdReset.lean ====
section
/-! DEFINITION. The meanings of commands, one definition for each: reset, power, roles, supplies and PCI Express (12_reset_power.md, 01_architecture.md, 09_lanes.md). -/
namespace Sys2Proof.Machine

/-- UNIT_RESET_PULSE (R430). -/
def execUnitResetPulse (src : Src) (p : Packet) (e : Env) (s : State) : Out :=
  event s (s.tongueRow src 0x38 p e (p.w 2 % 4 == 0 || p.w 2 % 4 == 3) (plainBody fun a r o => a.unitReset r o p))

/-- UNIT_RESET_HOLD (R430). -/
def execUnitResetHold (src : Src) (p : Packet) (e : Env) (s : State) : Out :=
  event s (s.tongueRow src 0x38 p e (p.w 2 % 4 == 1) (plainBody fun a r o => a.unitReset r o p))

/-- UNIT_RESET_RELEASE (R430). -/
def execUnitResetRelease (src : Src) (p : Packet) (e : Env) (s : State) : Out :=
  event s (s.tongueRow src 0x38 p e (p.w 2 % 4 == 2) (plainBody fun a r o => a.unitReset r o p))

/-- UNIT_RESET_END (R431). -/
def execUnitResetEnd (k : BitVec 6) (i : BitVec 10) (s : State) : Out := event s (s.unitEnd (unitOf k.toNat i.toNat))

/-- DEVICE_RESET_WARM (R432). -/
def execDeviceResetWarm (src : Src) (p : Packet) (e : Env) (s : State) : Out :=
  event s (s.tongueRow src 0x39 p e (!nbit (p.w 2) 0) (plainBody fun a r o => a.deviceReset r o p))

/-- DEVICE_RESET_COLD (R432). -/
def execDeviceResetCold (src : Src) (p : Packet) (e : Env) (s : State) : Out :=
  event s (s.tongueRow src 0x39 p e (nbit (p.w 2) 0) (plainBody fun a r o => a.deviceReset r o p))

/-- POWER_STATE_RUN (R447). -/
def execPowerStateRun (src : Src) (p : Packet) (e : Env) (s : State) : Out :=
  event s (s.tongueRow src 0x3A p e (p.w 2 % 8 == 0 || decide (5 ≤ p.w 2 % 8)) (plainBody fun a r o => a.powerState r o p))

/-- POWER_STATE_DIM (R447). -/
def execPowerStateDim (src : Src) (p : Packet) (e : Env) (s : State) : Out :=
  event s (s.tongueRow src 0x3A p e (p.w 2 % 8 == 1) (plainBody fun a r o => a.powerState r o p))

/-- POWER_STATE_NAP (R448). -/
def execPowerStateNap (src : Src) (p : Packet) (e : Env) (s : State) : Out :=
  event s (s.tongueRow src 0x3A p e (p.w 2 % 8 == 2) (plainBody fun a r o => a.powerState r o p))

/-- POWER_STATE_STOW (R448). -/
def execPowerStateStow (src : Src) (p : Packet) (e : Env) (s : State) : Out :=
  event s (s.tongueRow src 0x3A p e (p.w 2 % 8 == 3) (plainBody fun a r o => a.powerState r o p))

/-- POWER_STATE_OFF (R448). -/
def execPowerStateOff (src : Src) (p : Packet) (e : Env) (s : State) : Out :=
  event s (s.tongueRow src 0x3A p e (p.w 2 % 8 == 4) (plainBody fun a r o => a.powerState r o p))

/-- POWER_STATE_DONE (R447). -/
def execPowerStateDone (s : State) : Out := event s s.powerDone

/-- PWR_DOMREQ_WRITE (R445). -/
def execPwrDomreqWrite (m : Fin 32) (v : BitVec 28) (e : Env) (s : State) : Out := wrote s m Rg.PWR_DOMREQ v e

/-- WAKE_EVENT (R449). -/
def execWakeEvent (w : WakeSrc) (s : State) : Out := event s (s.wakeEvent w)

/-- ALARM_WAKE (R449). -/
def execAlarmWake (s : State) : Out := event s (s.wake .alarm)

/-- SYS_ROLE_WRITE (R22). -/
def execSysRoleWrite (m : Fin 32) (v : BitVec 28) (e : Env) (s : State) : Out := wrote s m Rg.SYS_ROLE v e

/-- ROLE_CHANGE_DONE (R23). -/
def execRoleChangeDone (s : State) : Out := event s s.roleDone

/-- RESET_ASSERT (R425). -/
def execResetAssert (r : ResetSrc) (s : State) : Out := settled (s.resetEvent r)

/-- RESET_RELEASE (R426). -/
def execResetRelease (r : ResetSrc) (straps : BitVec 6) (s : State) : Out := settled (s.dropReset r straps.toNat)

/-- SUPPLY_WARNING (R438). -/
def execSupplyWarning (n : Fin 11) (s : State) : Out := settled (s.supplyWarn n)

/-- SUPPLY_RESET_LEVEL (R438). -/
def execSupplyResetLevel (n : Fin 11) (s : State) : Out := settled (s.supplyReset n)

/-- OSCFAIL (R440). -/
def execOscfail (s : State) : Out := calm s s.oscFail

/-- PERST_N (R320). -/
def execPerstN (asserted : Bool) (s : State) : Out := event s (s.perstEvent asserted)

/-- PCIE_INBOUND_ACCESS (R320). -/
def execPcieInboundAccess (space : Fin 4) (wr : Bool) (off : BitVec 28) (n : Fin 1025) (data : List (BitVec 4 × Word))
    (errs : List Nat) (e : Env) (s : State) : Out :=
  event s ((s.trafficErrs 0 errs).pcieInbound space wr off.toNat n (data.map (fun d => (d.1.toNat, d.2.toNat))) e)

/-- PCIE_LINK_DOWN (R320). -/
def execPcieLinkDown (s : State) : Out := event s s.pcieDown

/-- SUPPLY_RECOVERY (R438). -/
def execSupplyRecovery (n : Fin 11) (s : State) : Out := settled (s.supplyBack n)

/-- BACKUP_SUPPLY_LOSS (R439). -/
def execBackupSupplyLoss (s : State) : Out := settled s.backupLost

/-- PCIE_LINK_UP (R320). -/
def execPcieLinkUp (gen : BitVec 3) (width : BitVec 2) (taps : List (Byte × Byte × Byte)) (s : State) : Out :=
  event s (s.linkUp gen.toNat width.toNat (taps.map (fun x => (x.1.toNat, x.2.1.toNat, x.2.2.toNat))))

end Sys2Proof.Machine
end

