-- ==== Sys2Proof/Machine/CmdSound.lean ====
section
/-! DEFINITION. The meanings of commands, one definition for each: the sound engine (18_audio.md). -/
namespace Sys2Proof.Machine

/-- AUDIO_ENABLE (R583). -/
def execAudioEnable (m : Fin 32) (v : BitVec 28) (e : Env) (s : State) : Out := wrote s m Rg.AUD_CTL v e

/-- AUD_KEY (R581). -/
def execAudKey (m : Fin 32) (v : BitVec 28) (e : Env) (s : State) : Out := wrote s m Rg.AUD_KEY v e

/-- VOICE_TABLE_WRITE (R574). -/
def execVoiceTableWrite (u : Fin 256) (i : Fin 16) (m : Fin 32) (v : Word) (e : Env) (s : State) : Out :=
  quiet s (s.arrayWrite m (0x7FF3000000 + 64 * u + 4 * i) v.toNat e)

/-- KEY_EVENT_APPLY (R582). -/
def execKeyEventApply (i : Nat) (k : Fin 32) (e : Env) (s : State) : Out := quiet s (s.render e (fun a => a.keyApply i k))

/-- AUDIO_BLOCK_BOUNDARY (R589). -/
def execAudioBlockBoundary (d : Fin 3) (e : Env) (s : State) : Out := event s (s.render e (fun a => a.blockTick d))

/-- AUDIO_BLOCK_LATE (R597). -/
def execAudioBlockLate (d : Fin 3) (s : State) : Out := quiet s (s.blockLate d)

/-- GAIN_TIMEOUT (R590). -/
def execGainTimeout (u : Fin 292) (k : Fin 32) (e : Env) (s : State) : Out := quiet s (s.render e (fun a => a.gainTimeout u k))

/-- DOMAIN_SOURCE_LOSS (R584). -/
def execDomainSourceLoss (d : Fin 2) (s : State) : Out := quiet s (s.domLoss d)

/-- PORT_CLOCK_LOSS (R593). -/
def execPortClockLoss (p : Fin 4) (s : State) : Out := quiet s (s.portLoss p)

end Sys2Proof.Machine
end

