-- ==== Sys2Proof/Machine/CmdTime.lean ====
section
/-! DEFINITION. The meanings of commands, one definition for each: interrupts, the time base, captures and watchdogs (20_interrupts_timers.md). -/
namespace Sys2Proof.Machine

/-- IRQ_ACCEPT (R642). -/
def execIrqAccept (n : Fin 4) (s : State) : Out := quiet s (s.irqAccept n)

/-- MSIX_ISSUE (R646). -/
def execMsixIssue (v : Fin 64) (s : State) : Out := quiet s (s.msixIssue v)

/-- EOI_WRITE (R643). -/
def execEoiWrite (n : Fin 5) (m : Fin 32) (v : BitVec 28) (e : Env) (s : State) : Out := wrote s m (Rg.ICU_TGT_EOI n) v e

/-- CLAIM_READ (R644). -/
def execClaimRead (n : Fin 5) (m : Fin 32) (e : Env) (s : State) : Out := didRead s m (Rg.ICU_TGT_CLAIM n) e

/-- HOLDOFF_EXPIRY (R647). -/
def execHoldoffExpiry (g : Fin 16) (s : State) : Out := quiet s (s.holdoffEnd g)

/-- SWSET_SET (R649). -/
def execSwsetSet (m : Fin 32) (v : BitVec 28) (e : Env) (s : State) : Out := wrote s m Rg.ICU_SWSET v e

/-- SWSET_CLR (R649). -/
def execSwsetClr (m : Fin 32) (v : BitVec 28) (e : Env) (s : State) : Out := wrote s m Rg.ICU_SWSET v e

/-- TIME_LO_READ (R650). -/
def execTimeLoRead (m : Fin 32) (e : Env) (s : State) : Out := didRead s m Rg.TIME_LO e

/-- TIME_LOAD (R651). -/
def execTimeLoad (m : Fin 32) (v : BitVec 28) (e : Env) (s : State) : Out := wrote s m Rg.TIME_LDHI v e

/-- COMPARE_WRITE (R652). -/
def execCompareWrite (m : Fin 32) (v : BitVec 28) (e : Env) (s : State) : Out := wrote s m Rg.TIME_CMPHI v e

/-- COMPARE_FIRE (R653). -/
def execCompareFire (k : Fin 32) (s : State) : Out := quiet s (s.compareFire k)

/-- CAPTURE_EDGE (R654). -/
def execCaptureEdge (trig : BitVec 7) (rising : Bool) (s : State) : Out := quiet s (s.captureEdge trig.toNat rising)

/-- CAPTURE_READ (R655). -/
def execCaptureRead (m : Fin 32) (e : Env) (s : State) : Out := didRead s m Rg.TIME_CAPLO e

/-- WATCHDOG_START (R656). -/
def execWatchdogStart (n : Fin 5) (m : Fin 32) (v : BitVec 28) (e : Env) (s : State) : Out := wrote s m (Rg.TIME_WD_CTL n) v e

/-- WATCHDOG_KICK (R656). -/
def execWatchdogKick (n : Fin 5) (m : Fin 32) (v : BitVec 28) (e : Env) (s : State) : Out := wrote s m (Rg.TIME_WD_CTL n) v e

/-- WATCHDOG_FORCE_EXPIRE (R656). -/
def execWatchdogForceExpire (n : Fin 5) (m : Fin 32) (v : BitVec 28) (e : Env) (s : State) : Out :=
  wrote s m (Rg.TIME_WD_CTL n) v e

/-- WATCHDOG_WARNING (R657). -/
def execWatchdogWarning (n : Fin 5) (s : State) : Out := quiet s (s.wdWarning n)

/-- WATCHDOG_EXPIRY (R657). -/
def execWatchdogExpiry (n : Fin 5) (s : State) : Out := event s (s.wdExpiry n)

end Sys2Proof.Machine
end

