-- ==== Sys2Proof/Machine/CmdTongue.lean ====
section
/-! DEFINITION. The meanings of commands, one definition for each: the packets of Tongue's register, memory and echo commands, its rings and serial port, forwarding, and plain register writes (11_tongue_commands.md). -/
namespace Sys2Proof.Machine

/-- REG_READ (R389). -/
def execRegRead (src : Src) (p : Packet) (e : Env) (s : State) : Out := event s (s.tongueRow src 0x01 p e true (regReadBody p))

/-- REG_WRITE (R389). -/
def execRegWrite (src : Src) (p : Packet) (e : Env) (s : State) : Out := event s (s.tongueRow src 0x02 p e true (regWriteBody p))

/-- REG_MODIFY (R390). -/
def execRegModify (src : Src) (p : Packet) (e : Env) (s : State) : Out :=
  event s (s.tongueRow src 0x03 p e true (regModifyBody p))

/-- REG_BURST_READ (R389). -/
def execRegBurstRead (src : Src) (p : Packet) (e : Env) (s : State) : Out :=
  event s (s.tongueRow src 0x04 p e true (burstReadBody p))

/-- REG_BURST_WRITE (R389). -/
def execRegBurstWrite (src : Src) (p : Packet) (e : Env) (s : State) : Out :=
  event s (s.tongueRow src 0x05 p e true (burstWriteBody p))

/-- MEM_READ (R392). -/
def execMemRead (src : Src) (p : Packet) (e : Env) (s : State) : Out := event s (s.tongueRow src 0x08 p e true (memReadBody p))

/-- MEM_WRITE (R392). -/
def execMemWrite (src : Src) (p : Packet) (e : Env) (s : State) : Out := event s (s.tongueRow src 0x09 p e true (memWriteBody p))

/-- ECHO (R393). -/
def execEcho (src : Src) (p : Packet) (e : Env) (s : State) : Out :=
  event s (s.tongueRow src 0x3F p e true (plainBody fun a r _ => a.echo r p))

/-- IDLE_WORD (R383). -/
def execIdleWord (src : Src) (w : Word) (e : Env) (s : State) : Out := event s (s.idleWord src w.toNat e)

/-- BAD_OPCODE (R387). -/
def execBadOpcode (op : BitVec 8) (src : Src) (p : Packet) (e : Env) (s : State) : Out :=
  event s (s.tongueRow src op.toNat p e (!opKnown op.toNat) (plainBody fun a _ _ => a))

/-- COMMAND_FORWARD (R404). -/
def execCommandForward (op : BitVec 8) (src : Src) (p : Packet) (e : Env) (s : State) : Out :=
  event s (s.tongueRow src op.toNat p e (!s.isHere p) (plainBody fun a _ _ => a))

/-- FORWARD_TIMEOUT (R404). -/
def execForwardTimeout (src : Src) (s : State) : Out := event s (s.forwardTimeout src)

/-- COMMAND_REPLY_RECEIVE (R403). -/
def execCommandReplyReceive (s : State) : Out := event s s.commandReply

/-- COMMAND_MESSAGE_RECEIVE (R402). -/
def execCommandMessageReceive (s : State) : Out := event s s.commandIn

/-- REPLY_WRITE (R397). -/
def execReplyWrite (src : Src) (e : Env) (s : State) : Out := event s (s.replyWrite src e)

/-- RING_ENABLE (R398). -/
def execRingEnable (ring : Fin 5) (m : Fin 32) (v : BitVec 28) (e : Env) (s : State) : Out := wrote s m (ringKey ring) v e

/-- RING_CPROD_WRITE (R398). -/
def execRingCprodWrite (ring : Fin 5) (m : Fin 32) (v : BitVec 28) (e : Env) (s : State) : Out := wrote s m (cptrKey ring) v e

/-- RING_RCONS_WRITE (R398). -/
def execRingRconsWrite (ring : Fin 5) (m : Fin 32) (v : BitVec 28) (e : Env) (s : State) : Out := wrote s m (rptrKey ring) v e

/-- SERIAL_PACKET_TIMEOUT (R400). -/
def execSerialPacketTimeout (n : Fin 4096) (s : State) : Out := event s (s.serialTimeout n)

/-- OWNDATA_WRITE (R408). -/
def execOwndataWrite (m : Fin 32) (v : BitVec 28) (e : Env) (s : State) : Out := wrote s m Rg.TONGUE_OWNDATA v e

/-- REGISTER_WRITE (R11). -/
def execRegisterWrite (i : BitVec 22) (m : Fin 32) (v : BitVec 28) (e : Env) (s : State) : Out := wrote s m (4 * i.toNat) v e

/-- SERIAL_PARTIAL_WORD (R400). -/
def execSerialPartialWord (s : State) : Out := event s s.serialCut

end Sys2Proof.Machine
end

