-- ==== Sys2Proof/Machine/CmdTrust.lean ====
section
/-! DEFINITION. The meanings of commands, one definition for each: image trust, attestation, boot and fuses (13_trust.md), and the start of programs (14_awl_model.md). -/
namespace Sys2Proof.Machine

/-- SIGNING_DONE (R256). -/
def execSigningDone (s : State) : Out := event s s.signDone

/-- IMAGE_VERIFY (R481). -/
def execImageVerify (src : Src) (p : Packet) (e : Env) (s : State) : Out :=
  event s (s.tongueRow src 0x20 p e (!nbit (p.w 2) 25) (plainBody fun a r _ => a.imageVerify r p))

/-- IMAGE_VERIFY_LOAD (R481). -/
def execImageVerifyLoad (src : Src) (p : Packet) (e : Env) (s : State) : Out :=
  event s (s.tongueRow src 0x20 p e (nbit (p.w 2) 25) (plainBody fun a r _ => a.imageVerify r p))

/-- IMAGE_VERIFY_DONE (R481). -/
def execImageVerifyDone (e : Env) (s : State) : Out := event s (s.verifyDone e)

/-- PROGRAM_START (R514). -/
def execProgramStart (src : Src) (p : Packet) (e : Env) (s : State) : Out :=
  event s (s.tongueRow src 0x21 p e true (plainBody fun a r o => a.programStart r o p))

/-- PROGRAM_START_DONE (R515). -/
def execProgramStartDone (n : Fin 4) (s : State) : Out := event s (s.programStarted n)

/-- ATTEST (R484). -/
def execAttest (src : Src) (p : Packet) (e : Env) (s : State) : Out :=
  event s (s.tongueRow src 0x28 p e true (plainBody fun a r _ => a.attest r p))

/-- BOOT_FLASH_READ_DONE (R476). -/
def execBootFlashReadDone (copy : Option (List Word)) (s : State) : Out :=
  event s (s.flashCopy (copy.map (fun ws => ws.map BitVec.toNat)))

/-- BOOT_ENTRY_LOADED (R475). -/
def execBootEntryLoaded (flash : Option (List Byte)) (e : Env) (s : State) : Out := event s (s.bootEntry flash e)

/-- FUSE_ADVANCE_COUNTER (R466). -/
def execFuseAdvanceCounter (m : Fin 32) (v : BitVec 28) (e : Env) (s : State) : Out := wrote s m Rg.SEC_FUSECMD v e

/-- FUSE_REVOKE_SLOT (R466). -/
def execFuseRevokeSlot (m : Fin 32) (v : BitVec 28) (e : Env) (s : State) : Out := wrote s m Rg.SEC_FUSECMD v e

/-- FUSE_PROGRAM_SLOT (R466). -/
def execFuseProgramSlot (m : Fin 32) (v : BitVec 28) (e : Env) (s : State) : Out := wrote s m Rg.SEC_FUSECMD v e

/-- FUSE_WRITE_DONE (R466). -/
def execFuseWriteDone (s : State) : Out := event s s.fuseEnd

end Sys2Proof.Machine
end

