-- ==== Sys2Proof/Machine/CmdWelt.lean ====
section
/-! DEFINITION. The meanings of commands, one definition for each: the Welt fabric (10_welt_fabric.md) and the receivers of sound and touch. -/
namespace Sys2Proof.Machine

/-- WELT_FRAME_RECEIVE (R337). -/
def execWeltFrameReceive (p : Fin 8) (crcOk : Bool) (lseq : BitVec 12) (pkt : WeltPkt) (frac : BitVec 16) (fec : List Nat)
    (s : State) : Out :=
  event s ((s.trafficErrs p fec).frameIn p crcOk lseq.toNat pkt frac.toNat)

/-- WELT_REPLAY (R338). -/
def execWeltReplay (p : Fin 8) (lseq : BitVec 12) (s : State) : Out := quiet s (s.weltReplay p lseq.toNat)

/-- WELT_PACKET_SEND (R337). -/
def execWeltPacketSend (p : Fin 8) (credit : BitVec 6) (frac : BitVec 16) (s : State) : Out :=
  quiet s (s.weltEmit p credit.toNat frac.toNat)

/-- TILEREQ_READ (R350). -/
def execTilereqRead (e : Env) (s : State) : Out := quiet s (s.tileServe 0 e.ends)

/-- TILEREQ_WRITE (R350). -/
def execTilereqWrite (e : Env) (s : State) : Out := quiet s (s.tileServe 1 e.ends)

/-- TILEREQ_TILEREAD (R352). -/
def execTilereqTileread (e : Env) (s : State) : Out := quiet s (s.tileServe 2 e.ends)

/-- TILEANS_RECEIVE (R355). -/
def execTileansReceive (s : State) : Out := event s s.tileAnsIn

/-- REMOTE_TIMEOUT (R355). -/
def execRemoteTimeout (tag : Fin 65536) (s : State) : Out := event s (s.remTimeout tag)

/-- TIME_SYNC_SEND (R357). -/
def execTimeSyncSend (s : State) : Out := quiet s s.syncSend

/-- TIME_DREQ_SEND (R357). -/
def execTimeDreqSend (s : State) : Out := quiet s s.dreqSend

/-- TIME_SYNC_RECEIVE (R358). -/
def execTimeSyncReceive (s : State) : Out := quiet s (s.timeIn 0)

/-- TIME_DREQ_RECEIVE (R357). -/
def execTimeDreqReceive (s : State) : Out := quiet s (s.timeIn 1)

/-- TIME_DRESP_RECEIVE (R357). -/
def execTimeDrespReceive (s : State) : Out := quiet s (s.timeIn 2)

/-- TIME_SYNC_LOSS (R358). -/
def execTimeSyncLoss (s : State) : Out := quiet s s.syncLoss

/-- WELT_EPOCH_WRITE (R372). -/
def execWeltEpochWrite (m : Fin 32) (v : BitVec 28) (e : Env) (s : State) : Out := wrote s m Rg.WELT_EPOCHHI v e

/-- PICTURE_PACKET_RECEIVE (R362). -/
def execPicturePacketReceive (e : Env) (s : State) : Out := quiet s (s.pictureIn e)

/-- AUDIO_MESSAGE_RECEIVE (R595). -/
def execAudioMessageReceive (s : State) : Out := quiet s s.audioIn

/-- SENSE_PACKET_RECEIVE (R619). -/
def execSensePacketReceive (e : Env) (s : State) : Out := quiet s (s.senseIn e)

end Sys2Proof.Machine
end

