-- ==== Sys2Proof/Machine/Dispatch.lean ====
section
/-! DEFINITION. The meaning of every command: one arm per constructor of Instr, one direct call of its meaning. -/
namespace Sys2Proof.Machine

/-- The effect of a command on everything but the queue. -/
def exec (i : Instr) (s : State) : Host.Outcome State Fault Refusal :=
  match i with
  | .regRead src p e => Sys2Proof.Machine.execRegRead src p e s
  | .regWrite src p e => Sys2Proof.Machine.execRegWrite src p e s
  | .regModify src p e => Sys2Proof.Machine.execRegModify src p e s
  | .regBurstRead src p e => Sys2Proof.Machine.execRegBurstRead src p e s
  | .regBurstWrite src p e => Sys2Proof.Machine.execRegBurstWrite src p e s
  | .memRead src p e => Sys2Proof.Machine.execMemRead src p e s
  | .memWrite src p e => Sys2Proof.Machine.execMemWrite src p e s
  | .echo src p e => Sys2Proof.Machine.execEcho src p e s
  | .idleWord src w e => Sys2Proof.Machine.execIdleWord src w e s
  | .badOpcode op src p e => Sys2Proof.Machine.execBadOpcode op src p e s
  | .commandForward op src p e => Sys2Proof.Machine.execCommandForward op src p e s
  | .forwardTimeout src => Sys2Proof.Machine.execForwardTimeout src s
  | .commandReplyReceive => Sys2Proof.Machine.execCommandReplyReceive s
  | .commandMessageReceive => Sys2Proof.Machine.execCommandMessageReceive s
  | .replyWrite src e => Sys2Proof.Machine.execReplyWrite src e s
  | .ringEnable ring m v e => Sys2Proof.Machine.execRingEnable ring m v e s
  | .ringCprodWrite ring m v e => Sys2Proof.Machine.execRingCprodWrite ring m v e s
  | .ringRconsWrite ring m v e => Sys2Proof.Machine.execRingRconsWrite ring m v e s
  | .serialPacketTimeout n => Sys2Proof.Machine.execSerialPacketTimeout n s
  | .owndataWrite m v e => Sys2Proof.Machine.execOwndataWrite m v e s
  | .registerWrite ix m v e => Sys2Proof.Machine.execRegisterWrite ix m v e s
  | .lastStage src p e => Sys2Proof.Machine.execLastStage src p e s
  | .lastStageCopy src p e => Sys2Proof.Machine.execLastStageCopy src p e s
  | .lastStageCopyDone slot e => Sys2Proof.Machine.execLastStageCopyDone slot e s
  | .lastRelease src p e => Sys2Proof.Machine.execLastRelease src p e s
  | .lastAdmit src p e => Sys2Proof.Machine.execLastAdmit src p e s
  | .lastAdmitDone => Sys2Proof.Machine.execLastAdmitDone s
  | .lastHdSelWrite h m v e => Sys2Proof.Machine.execLastHdSelWrite h m v e s
  | .commitArm src p e => Sys2Proof.Machine.execCommitArm src p e s
  | .commitQuery src p e => Sys2Proof.Machine.execCommitQuery src p e s
  | .crcExpect src p e => Sys2Proof.Machine.execCrcExpect src p e s
  | .crcExpectClear src p e => Sys2Proof.Machine.execCrcExpectClear src p e s
  | .pictureReport src p e => Sys2Proof.Machine.execPictureReport src p e s
  | .pictureReportSigned src p e => Sys2Proof.Machine.execPictureReportSigned src p e s
  | .signingDone => Sys2Proof.Machine.execSigningDone s
  | .imageVerify src p e => Sys2Proof.Machine.execImageVerify src p e s
  | .imageVerifyLoad src p e => Sys2Proof.Machine.execImageVerifyLoad src p e s
  | .imageVerifyDone e => Sys2Proof.Machine.execImageVerifyDone e s
  | .programStart src p e => Sys2Proof.Machine.execProgramStart src p e s
  | .programStartDone n => Sys2Proof.Machine.execProgramStartDone n s
  | .attest src p e => Sys2Proof.Machine.execAttest src p e s
  | .faultRead src p e => Sys2Proof.Machine.execFaultRead src p e s
  | .faultAck src p e => Sys2Proof.Machine.execFaultAck src p e s
  | .fltAckWrite m v e => Sys2Proof.Machine.execFltAckWrite m v e s
  | .faultForce m v e => Sys2Proof.Machine.execFaultForce m v e s
  | .controlledStopEnd => Sys2Proof.Machine.execControlledStopEnd s
  | .unitResetPulse src p e => Sys2Proof.Machine.execUnitResetPulse src p e s
  | .unitResetHold src p e => Sys2Proof.Machine.execUnitResetHold src p e s
  | .unitResetRelease src p e => Sys2Proof.Machine.execUnitResetRelease src p e s
  | .unitResetEnd k ix => Sys2Proof.Machine.execUnitResetEnd k ix s
  | .deviceResetWarm src p e => Sys2Proof.Machine.execDeviceResetWarm src p e s
  | .deviceResetCold src p e => Sys2Proof.Machine.execDeviceResetCold src p e s
  | .powerStateRun src p e => Sys2Proof.Machine.execPowerStateRun src p e s
  | .powerStateDim src p e => Sys2Proof.Machine.execPowerStateDim src p e s
  | .powerStateNap src p e => Sys2Proof.Machine.execPowerStateNap src p e s
  | .powerStateStow src p e => Sys2Proof.Machine.execPowerStateStow src p e s
  | .powerStateOff src p e => Sys2Proof.Machine.execPowerStateOff src p e s
  | .powerStateDone => Sys2Proof.Machine.execPowerStateDone s
  | .pwrDomreqWrite m v e => Sys2Proof.Machine.execPwrDomreqWrite m v e s
  | .wakeEvent w => Sys2Proof.Machine.execWakeEvent w s
  | .alarmWake => Sys2Proof.Machine.execAlarmWake s
  | .sysRoleWrite m v e => Sys2Proof.Machine.execSysRoleWrite m v e s
  | .roleChangeDone => Sys2Proof.Machine.execRoleChangeDone s
  | .resetAssert r => Sys2Proof.Machine.execResetAssert r s
  | .resetRelease r straps => Sys2Proof.Machine.execResetRelease r straps s
  | .supplyWarning n => Sys2Proof.Machine.execSupplyWarning n s
  | .supplyResetLevel n => Sys2Proof.Machine.execSupplyResetLevel n s
  | .oscfail => Sys2Proof.Machine.execOscfail s
  | .perstN asserted => Sys2Proof.Machine.execPerstN asserted s
  | .pcieInboundAccess space wr off n data errs e => Sys2Proof.Machine.execPcieInboundAccess space wr off n data errs e s
  | .pcieLinkDown => Sys2Proof.Machine.execPcieLinkDown s
  | .paceWindowEnd g v => Sys2Proof.Machine.execPaceWindowEnd g v s
  | .paceMinclr g m v e => Sys2Proof.Machine.execPaceMinclr g m v e s
  | .slackMinclr n m v e => Sys2Proof.Machine.execSlackMinclr n m v e s
  | .loopEnable m v e => Sys2Proof.Machine.execLoopEnable m v e s
  | .loopDisable m v e => Sys2Proof.Machine.execLoopDisable m v e s
  | .vsetWrite m v e => Sys2Proof.Machine.execVsetWrite m v e s
  | .loopPeriodEnd => Sys2Proof.Machine.execLoopPeriodEnd s
  | .loopSettleEnd => Sys2Proof.Machine.execLoopSettleEnd s
  | .loopHoldEnd => Sys2Proof.Machine.execLoopHoldEnd s
  | .pmbusTransactionDone ack mode => Sys2Proof.Machine.execPmbusTransactionDone ack mode s
  | .pmbusTimeout => Sys2Proof.Machine.execPmbusTimeout s
  | .latchPoint mask e => Sys2Proof.Machine.execLatchPoint mask e s
  | .spriteSnapshotRead h y e => Sys2Proof.Machine.execSpriteSnapshotRead h y e s
  | .lineRelease h y e => Sys2Proof.Machine.execLineRelease h y e s
  | .lineListExecute h e => Sys2Proof.Machine.execLineListExecute h e s
  | .beamEntryIssue h x => Sys2Proof.Machine.execBeamEntryIssue h x s
  | .beamEntryLost h => Sys2Proof.Machine.execBeamEntryLost h s
  | .granuleAnswer sl num lat e => Sys2Proof.Machine.execGranuleAnswer sl num lat e s
  | .stitchRun sl => Sys2Proof.Machine.execStitchRun sl s
  | .lineDone sl d => Sys2Proof.Machine.execLineDone sl d s
  | .soleLineAbandon sl => Sys2Proof.Machine.execSoleLineAbandon sl s
  | .headUnderrun h b => Sys2Proof.Machine.execHeadUnderrun h b s
  | .rectCrcCompare h ix => Sys2Proof.Machine.execRectCrcCompare h ix s
  | .writebackDrop h => Sys2Proof.Machine.execWritebackDrop h s
  | .writebackDone h e => Sys2Proof.Machine.execWritebackDone h e s
  | .picturePacketSend h n credit => Sys2Proof.Machine.execPicturePacketSend h n credit s
  | .headRun h m v e => Sys2Proof.Machine.execHeadRun h m v e s
  | .headStop h m v e => Sys2Proof.Machine.execHeadStop h m v e s
  | .referenceEvent h rising err ival => Sys2Proof.Machine.execReferenceEvent h rising err ival s
  | .referenceAbsent h => Sys2Proof.Machine.execReferenceAbsent h s
  | .headFrameRead h m e => Sys2Proof.Machine.execHeadFrameRead h m e s
  | .underrunCountClear h m v e => Sys2Proof.Machine.execUnderrunCountClear h m v e s
  | .poolTackGrant k => Sys2Proof.Machine.execPoolTackGrant k s
  | .fetchPoolWrite k m v e => Sys2Proof.Machine.execFetchPoolWrite k m v e s
  | .poolPeakClear k m v e => Sys2Proof.Machine.execPoolPeakClear k m v e s
  | .soleTackPeakClear n m v e => Sys2Proof.Machine.execSoleTackPeakClear n m v e s
  | .fetchLatencyMaxClear n m v e => Sys2Proof.Machine.execFetchLatencyMaxClear n m v e s
  | .lineGranulePeakClear n m v e => Sys2Proof.Machine.execLineGranulePeakClear n m v e s
  | .memTrain m v e => Sys2Proof.Machine.execMemTrain m v e s
  | .memTrainingDone rate fail eyes => Sys2Proof.Machine.execMemTrainingDone rate fail eyes s
  | .memDeviceTempRead hot => Sys2Proof.Machine.execMemDeviceTempRead hot s
  | .memShortRetrain c eye => Sys2Proof.Machine.execMemShortRetrain c eye s
  | .memEccWrite n m v e => Sys2Proof.Machine.execMemEccWrite n m v e s
  | .eccInitDone n => Sys2Proof.Machine.execEccInitDone n s
  | .portModeWrite p m v e => Sys2Proof.Machine.execPortModeWrite p m v e s
  | .portRetrain p m v e => Sys2Proof.Machine.execPortRetrain p m v e s
  | .weltTrainingDone p ok rate rxBad txBad taps => Sys2Proof.Machine.execWeltTrainingDone p ok rate rxBad txBad taps s
  | .weltTrainingAttempt p ok rate rxBad txBad taps => Sys2Proof.Machine.execWeltTrainingAttempt p ok rate rxBad txBad taps s
  | .laneFail p lane rx busy => Sys2Proof.Machine.execLaneFail p lane rx busy s
  | .manremap p m v e => Sys2Proof.Machine.execManremap p m v e s
  | .spareFail p => Sys2Proof.Machine.execSpareFail p s
  | .referenceLost => Sys2Proof.Machine.execReferenceLost s
  | .referenceRegained => Sys2Proof.Machine.execReferenceRegained s
  | .dpHpdRise p => Sys2Proof.Machine.execDpHpdRise p s
  | .dpHpdLow p => Sys2Proof.Machine.execDpHpdLow p s
  | .dpIrqHpd p lost => Sys2Proof.Machine.execDpIrqHpd p lost s
  | .dpTrainingDone p ok rate lanes ilr taps => Sys2Proof.Machine.execDpTrainingDone p ok rate lanes ilr taps s
  | .eyeScanStart n m v e => Sys2Proof.Machine.execEyeScanStart n m v e s
  | .eyeScanDone n r lost => Sys2Proof.Machine.execEyeScanDone n r lost s
  | .weltFrameReceive p crcOk lseq pkt frac fec => Sys2Proof.Machine.execWeltFrameReceive p crcOk lseq pkt frac fec s
  | .weltReplay p lseq => Sys2Proof.Machine.execWeltReplay p lseq s
  | .weltPacketSend p credit frac => Sys2Proof.Machine.execWeltPacketSend p credit frac s
  | .tilereqRead e => Sys2Proof.Machine.execTilereqRead e s
  | .tilereqWrite e => Sys2Proof.Machine.execTilereqWrite e s
  | .tilereqTileread e => Sys2Proof.Machine.execTilereqTileread e s
  | .tileansReceive => Sys2Proof.Machine.execTileansReceive s
  | .remoteTimeout tag => Sys2Proof.Machine.execRemoteTimeout tag s
  | .timeSyncSend => Sys2Proof.Machine.execTimeSyncSend s
  | .timeDreqSend => Sys2Proof.Machine.execTimeDreqSend s
  | .timeSyncReceive => Sys2Proof.Machine.execTimeSyncReceive s
  | .timeDreqReceive => Sys2Proof.Machine.execTimeDreqReceive s
  | .timeDrespReceive => Sys2Proof.Machine.execTimeDrespReceive s
  | .timeSyncLoss => Sys2Proof.Machine.execTimeSyncLoss s
  | .weltEpochWrite m v e => Sys2Proof.Machine.execWeltEpochWrite m v e s
  | .picturePacketReceive e => Sys2Proof.Machine.execPicturePacketReceive e s
  | .audioMessageReceive => Sys2Proof.Machine.execAudioMessageReceive s
  | .sensePacketReceive e => Sys2Proof.Machine.execSensePacketReceive e s
  | .bootFlashReadDone copy => Sys2Proof.Machine.execBootFlashReadDone copy s
  | .bootEntryLoaded flash e => Sys2Proof.Machine.execBootEntryLoaded flash e s
  | .fuseAdvanceCounter m v e => Sys2Proof.Machine.execFuseAdvanceCounter m v e s
  | .fuseRevokeSlot m v e => Sys2Proof.Machine.execFuseRevokeSlot m v e s
  | .fuseProgramSlot m v e => Sys2Proof.Machine.execFuseProgramSlot m v e s
  | .fuseWriteDone => Sys2Proof.Machine.execFuseWriteDone s
  | .awlNop n => Sys2Proof.Machine.execAwlNop n s
  | .awlMov n => Sys2Proof.Machine.execAwlMov n s
  | .awlLdi n => Sys2Proof.Machine.execAwlLdi n s
  | .awlLdhi n => Sys2Proof.Machine.execAwlLdhi n s
  | .awlRetag n => Sys2Proof.Machine.execAwlRetag n s
  | .awlGettag n => Sys2Proof.Machine.execAwlGettag n s
  | .awlTtst n => Sys2Proof.Machine.execAwlTtst n s
  | .awlAdd n => Sys2Proof.Machine.execAwlAdd n s
  | .awlSub n => Sys2Proof.Machine.execAwlSub n s
  | .awlAdc n => Sys2Proof.Machine.execAwlAdc n s
  | .awlSbc n => Sys2Proof.Machine.execAwlSbc n s
  | .awlCmp n => Sys2Proof.Machine.execAwlCmp n s
  | .awlNeg n => Sys2Proof.Machine.execAwlNeg n s
  | .awlAddi n => Sys2Proof.Machine.execAwlAddi n s
  | .awlCmpi n => Sys2Proof.Machine.execAwlCmpi n s
  | .awlMul n => Sys2Proof.Machine.execAwlMul n s
  | .awlMulh n => Sys2Proof.Machine.execAwlMulh n s
  | .awlDiv n => Sys2Proof.Machine.execAwlDiv n s
  | .awlRem n => Sys2Proof.Machine.execAwlRem n s
  | .awlMin n => Sys2Proof.Machine.execAwlMin n s
  | .awlMax n => Sys2Proof.Machine.execAwlMax n s
  | .awlAnd n => Sys2Proof.Machine.execAwlAnd n s
  | .awlOr n => Sys2Proof.Machine.execAwlOr n s
  | .awlXor n => Sys2Proof.Machine.execAwlXor n s
  | .awlNot n => Sys2Proof.Machine.execAwlNot n s
  | .awlTst n => Sys2Proof.Machine.execAwlTst n s
  | .awlShl n => Sys2Proof.Machine.execAwlShl n s
  | .awlShr n => Sys2Proof.Machine.execAwlShr n s
  | .awlSar n => Sys2Proof.Machine.execAwlSar n s
  | .awlLd n e => Sys2Proof.Machine.execAwlLd n e s
  | .awlSt n e => Sys2Proof.Machine.execAwlSt n e s
  | .awlLd2 n e => Sys2Proof.Machine.execAwlLd2 n e s
  | .awlSt2 n e => Sys2Proof.Machine.execAwlSt2 n e s
  | .awlIn n e => Sys2Proof.Machine.execAwlIn n e s
  | .awlOut n e => Sys2Proof.Machine.execAwlOut n e s
  | .awlBkset n => Sys2Proof.Machine.execAwlBkset n s
  | .awlBkget n => Sys2Proof.Machine.execAwlBkget n s
  | .awlB n => Sys2Proof.Machine.execAwlB n s
  | .awlCall n => Sys2Proof.Machine.execAwlCall n s
  | .awlJmp n => Sys2Proof.Machine.execAwlJmp n s
  | .awlCallr n => Sys2Proof.Machine.execAwlCallr n s
  | .awlRep n => Sys2Proof.Machine.execAwlRep n s
  | .awlLock n => Sys2Proof.Machine.execAwlLock n s
  | .awlUnlock n => Sys2Proof.Machine.execAwlUnlock n s
  | .awlSetie n => Sys2Proof.Machine.execAwlSetie n s
  | .awlWfi n => Sys2Proof.Machine.execAwlWfi n s
  | .awlWfiWake n => Sys2Proof.Machine.execAwlWfiWake n s
  | .awlTrap n => Sys2Proof.Machine.execAwlTrap n s
  | .awlReti n => Sys2Proof.Machine.execAwlReti n s
  | .awlLockBreak n => Sys2Proof.Machine.execAwlLockBreak n s
  | .irqAccept n => Sys2Proof.Machine.execIrqAccept n s
  | .msixIssue v => Sys2Proof.Machine.execMsixIssue v s
  | .eoiWrite n m v e => Sys2Proof.Machine.execEoiWrite n m v e s
  | .claimRead n m e => Sys2Proof.Machine.execClaimRead n m e s
  | .holdoffExpiry g => Sys2Proof.Machine.execHoldoffExpiry g s
  | .swsetSet m v e => Sys2Proof.Machine.execSwsetSet m v e s
  | .swsetClr m v e => Sys2Proof.Machine.execSwsetClr m v e s
  | .timeLoRead m e => Sys2Proof.Machine.execTimeLoRead m e s
  | .timeLoad m v e => Sys2Proof.Machine.execTimeLoad m v e s
  | .compareWrite m v e => Sys2Proof.Machine.execCompareWrite m v e s
  | .compareFire k => Sys2Proof.Machine.execCompareFire k s
  | .captureEdge trig rising => Sys2Proof.Machine.execCaptureEdge trig rising s
  | .captureRead m e => Sys2Proof.Machine.execCaptureRead m e s
  | .watchdogStart n m v e => Sys2Proof.Machine.execWatchdogStart n m v e s
  | .watchdogKick n m v e => Sys2Proof.Machine.execWatchdogKick n m v e s
  | .watchdogForceExpire n m v e => Sys2Proof.Machine.execWatchdogForceExpire n m v e s
  | .watchdogWarning n => Sys2Proof.Machine.execWatchdogWarning n s
  | .watchdogExpiry n => Sys2Proof.Machine.execWatchdogExpiry n s
  | .eyeletConfigWrite m v e => Sys2Proof.Machine.execEyeletConfigWrite m v e s
  | .eyeletSet m v e => Sys2Proof.Machine.execEyeletSet m v e s
  | .eyeletClear m v e => Sys2Proof.Machine.execEyeletClear m v e s
  | .eyeletEvent n level => Sys2Proof.Machine.execEyeletEvent n level s
  | .i2cGo m v e => Sys2Proof.Machine.execI2cGo m v e s
  | .i2cCommandDone k n data nack lost => Sys2Proof.Machine.execI2cCommandDone k n data nack lost s
  | .uartRxByte u b bad => Sys2Proof.Machine.execUartRxByte u b bad s
  | .uartTxByte u cts => Sys2Proof.Machine.execUartTxByte u cts s
  | .perdataRead m e => Sys2Proof.Machine.execPerdataRead m e s
  | .perdataWrite m v e => Sys2Proof.Machine.execPerdataWrite m v e s
  | .paletteWrite h ix m v e => Sys2Proof.Machine.execPaletteWrite h ix m v e s
  | .lutWrite h ix m v e => Sys2Proof.Machine.execLutWrite h ix m v e s
  | .laceGo n m v e => Sys2Proof.Machine.execLaceGo n m v e s
  | .laceAbort n m v e => Sys2Proof.Machine.execLaceAbort n m v e s
  | .laceDescriptorRead n e => Sys2Proof.Machine.execLaceDescriptorRead n e s
  | .laceBeat write e => Sys2Proof.Machine.execLaceBeat write e s
  | .laceReadAnswer n e => Sys2Proof.Machine.execLaceReadAnswer n e s
  | .laceDescriptorDone n => Sys2Proof.Machine.execLaceDescriptorDone n s
  | .laceTimeout n => Sys2Proof.Machine.execLaceTimeout n s
  | .skiverGo m v e => Sys2Proof.Machine.execSkiverGo m v e s
  | .skiverAbort m v e => Sys2Proof.Machine.execSkiverAbort m v e s
  | .skiverCommandRead e => Sys2Proof.Machine.execSkiverCommandRead e s
  | .skEnd => Sys2Proof.Machine.execSkEnd s
  | .skCopy e => Sys2Proof.Machine.execSkCopy e s
  | .skFill e => Sys2Proof.Machine.execSkFill e s
  | .skGlyph e => Sys2Proof.Machine.execSkGlyph e s
  | .skKeycopy e => Sys2Proof.Machine.execSkKeycopy e s
  | .skWait => Sys2Proof.Machine.execSkWait s
  | .skJump => Sys2Proof.Machine.execSkJump s
  | .skiverWaitEnd => Sys2Proof.Machine.execSkiverWaitEnd s
  | .skiverCommandDone => Sys2Proof.Machine.execSkiverCommandDone s
  | .skiverTimeout => Sys2Proof.Machine.execSkiverTimeout s
  | .audioEnable m v e => Sys2Proof.Machine.execAudioEnable m v e s
  | .audKey m v e => Sys2Proof.Machine.execAudKey m v e s
  | .voiceTableWrite u ix m v e => Sys2Proof.Machine.execVoiceTableWrite u ix m v e s
  | .keyEventApply ix k e => Sys2Proof.Machine.execKeyEventApply ix k e s
  | .audioBlockBoundary d e => Sys2Proof.Machine.execAudioBlockBoundary d e s
  | .audioBlockLate d => Sys2Proof.Machine.execAudioBlockLate d s
  | .gainTimeout u k e => Sys2Proof.Machine.execGainTimeout u k e s
  | .domainSourceLoss d => Sys2Proof.Machine.execDomainSourceLoss d s
  | .portClockLoss p => Sys2Proof.Machine.execPortClockLoss p s
  | .insoleStepSlot n y res => Sys2Proof.Machine.execInsoleStepSlot n y res s
  | .scanFrameEnd n e => Sys2Proof.Machine.execScanFrameEnd n e s
  | .insoleRecal n m v e => Sys2Proof.Machine.execInsoleRecal n m v e s
  | .sensorConversion als th => Sys2Proof.Machine.execSensorConversion als th s
  | .thermistorStale t => Sys2Proof.Machine.execThermistorStale t s
  | .pwmPeriodStart => Sys2Proof.Machine.execPwmPeriodStart s
  | .heaterPeriodStart h => Sys2Proof.Machine.execHeaterPeriodStart h s
  | .heaterOnEnd h imeas => Sys2Proof.Machine.execHeaterOnEnd h imeas s
  | .heaterOvercurrent h => Sys2Proof.Machine.execHeaterOvercurrent h s
  | .keepaliveExpiry => Sys2Proof.Machine.execKeepaliveExpiry s
  | .shankKeep m v e => Sys2Proof.Machine.execShankKeep m v e s
  | .tjMaxClear m v e => Sys2Proof.Machine.execTjMaxClear m v e s
  | .dbgId crc pl => Sys2Proof.Machine.execDbgId crc pl s
  | .dbgChallenge crc pl => Sys2Proof.Machine.execDbgChallenge crc pl s
  | .dbgUnlockPut crc pl => Sys2Proof.Machine.execDbgUnlockPut crc pl s
  | .dbgUnlockCheck crc pl => Sys2Proof.Machine.execDbgUnlockCheck crc pl s
  | .dbgRead crc pl e => Sys2Proof.Machine.execDbgRead crc pl e s
  | .dbgWrite crc pl e => Sys2Proof.Machine.execDbgWrite crc pl e s
  | .debugBreak => Sys2Proof.Machine.execDebugBreak s
  | .debugFramingError => Sys2Proof.Machine.execDebugFramingError s
  | .debugFrameGap => Sys2Proof.Machine.execDebugFrameGap s
  | .dbgrstLongLow => Sys2Proof.Machine.execDbgrstLongLow s
  | .debugHalt m v e => Sys2Proof.Machine.execDebugHalt m v e s
  | .haltReached e => Sys2Proof.Machine.execHaltReached e s
  | .debugResume m v e => Sys2Proof.Machine.execDebugResume m v e s
  | .debugStep m v e => Sys2Proof.Machine.execDebugStep m v e s
  | .stepDone => Sys2Proof.Machine.execStepDone s
  | .stepStall => Sys2Proof.Machine.execStepStall s
  | .debugRelock m v e => Sys2Proof.Machine.execDebugRelock m v e s
  | .supplyRecovery n => Sys2Proof.Machine.execSupplyRecovery n s
  | .backupSupplyLoss => Sys2Proof.Machine.execBackupSupplyLoss s
  | .pcieLinkUp gen width taps => Sys2Proof.Machine.execPcieLinkUp gen width taps s
  | .checkerSync n errs => Sys2Proof.Machine.execCheckerSync n errs s
  | .checkerSyncLoss n errs => Sys2Proof.Machine.execCheckerSyncLoss n errs s
  | .serialPartialWord => Sys2Proof.Machine.execSerialPartialWord s
  | .debugUnknownOp op crc pl => Sys2Proof.Machine.execDebugUnknownOp op crc pl s
  | .awlReservedEncoding n => Sys2Proof.Machine.execAwlReservedEncoding n s
  | .tjUpdate tj => Sys2Proof.Machine.execTjUpdate tj s

end Sys2Proof.Machine
end

