-- ==== Sys2Proof/Safety.lean ====
section
/-! DEFINITION. The words in which claims are made: a good state, a step that goes on, a core about to run an instruction and
what completing it changes. -/
namespace Sys2Proof.Machine

/-- Memory is in its canonical form, so that equal memories are equal data. -/
def MemoryGood (s : State) : Prop := Memory.wf s.mem = true

/-- The register file is in its canonical form. -/
def RegistersGood (s : State) : Prop := Registers.wf s.regs = true

/-- A step goes on: no fault, no refusal. -/
def Goes (s : State) : Prop := ∃ t, step s = .next t

/-- Nothing differs but registers for which `p` holds. -/
def RegsOnly (p : Nat → Prop) (s t : State) : Prop := { t with regs := s.regs } = s ∧ ∀ k, ¬ p k → t.reg k = s.reg k

/-- Core `n` is about to run `i`, an instruction of opcode `op` whose condition holds (R524, R525). -/
abbrev CoreAt (s : State) (n op : Nat) (i : Insn) : Prop :=
  s.coreRuns n = true ∧ s.fetchAt n (s.pcOf n) = some i ∧ i.op = op ∧ awlCond (s.flagsOf n) i.cond = true

/-- Nothing differs but core `n`'s own state: its cells, PC and STAT, and the debugger's note that its step is done. -/
def CoreOnly (n : Nat) (s t : State) : Prop :=
  { t with regs := s.regs, cores := s.cores, dbg := { t.dbg with stepped := s.dbg.stepped } } = s ∧
  (∀ k, k ≠ (Fd.AWL_PC_PC n).key → k ≠ (Fd.AWL_STAT_FLAGS n).key → t.reg k = s.reg k) ∧
  ∀ m, m ≠ n → t.core m = s.core m

/-- Core `n`'s cells in `l` hold the values given there, and its other cells are as they were. -/
def CellsAre (n : Nat) (s t : State) (l : List (Nat × Nat)) : Prop :=
  (∀ p, p ∈ l → t.gcell n p.1 = p.2) ∧ ∀ r, (∀ p, p ∈ l → p.1 ≠ r) → t.gcell n r = s.gcell n r

/-- Core `n` completed an instruction: its flags are `f`, PC is the next index — the same one while iterations of a REP are
left (R533) — and its bank registers, IE and lock bit are as they were. -/
def CoreDone (n : Nat) (s t : State) (f : AwlFlags) : Prop :=
  CoreOnly n s t ∧ t.flagsOf n = f ∧ t.pcOf n = (if (s.core n).rep ≤ 1 then (s.pcOf n + 1) % 2 ^ 14 else s.pcOf n) ∧
  (∀ k, t.bankReg n k = s.bankReg n k) ∧ t.get (Fd.AWL_STAT_IE n) = s.get (Fd.AWL_STAT_IE n) ∧ t.coreLocked n = s.coreLocked n

/-- An Awl command for core `n` answers a next state in which the instruction is complete, with these cells and flags. -/
def CoreGives (c : Instr) (n : Nat) (s : State) (l : List (Nat × Nat)) (f : AwlFlags) : Prop :=
  ∃ t, exec c s = .next t ∧ CoreDone n s t f ∧ CellsAre n s t l

/-- A command answers a next state of which `P` holds. -/
def Gives (c : Instr) (s : State) (P : State → Prop) : Prop := ∃ t, exec c s = .next t ∧ P t

/-- Core `n` went on at index `p`, outside any REP, with these cells changed and its flags, bank registers and IE as they were. -/
def CoreWent (n p : Nat) (s t : State) (l : List (Nat × Nat)) : Prop :=
  CoreOnly n s t ∧ t.pcOf n = p ∧ (t.core n).rep = 0 ∧ t.flagsOf n = s.flagsOf n ∧ (∀ k, t.bankReg n k = s.bankReg n k) ∧
  t.get (Fd.AWL_STAT_IE n) = s.get (Fd.AWL_STAT_IE n) ∧ CellsAre n s t l

/-- Core `n` entered vector `vec` from `s` (R506): the frame lies below the old ISP and no other byte of memory changed, and
the core is at the vector with its G cells, IE and flags as they were. -/
def Entered (n vec ret got oper : Nat) (s t : State) : Prop :=
  let isp := s.get (Fd.AWL_ISP_ISP n) - 4
  let a := localBase n + 2 * isp
  t.get (Fd.AWL_ISP_ISP n) = isp ∧ t.pcOf n = (s.get (Fd.AWL_CFG_VBASE n) + vec) % 2 ^ 14 ∧
  t.half a = mkCell tCODE ret ∧
  t.half (a + 2) = mkCell tNUM (vec * 2 ^ 11 + s.get (Fd.AWL_STAT_IE n) * 2 ^ 10 + s.get (Fd.AWL_STAT_FLAGS n)) ∧
  t.half (a + 4) = mkCell tNUM ((if (s.core n).repU = true ∧ 0 < (s.core n).rep then 2 ^ 11 else 0) + (s.core n).rep) ∧
  t.half (a + 6) = mkCell tNUM (got * 16 + oper) ∧
  (∀ x, x < a ∨ a + 8 ≤ x → t.byte x = s.byte x) ∧
  t.get (Fd.AWL_STAT_IE n) = s.get (Fd.AWL_STAT_IE n) ∧ t.flagsOf n = s.flagsOf n ∧ (∀ r, t.gcell n r = s.gcell n r) ∧
  (t.core n).rep = 0

/-- The frame of an entry fits: it lies at or above ISPLIM and in local memory above the code area (R498, R507). -/
abbrev FrameFits (s : State) (n : Nat) : Prop :=
  s.get (Fd.AWL_ISPLIM_ISPLIM n) + 4 ≤ s.get (Fd.AWL_ISP_ISP n) ∧ 0x8004 ≤ s.get (Fd.AWL_ISP_ISP n) ∧ s.get (Fd.AWL_ISP_ISP n) ≤ 0x10000

/-- EINFO as an entry of vectors 0–5 writes it (R506, R520). -/
abbrev EinfoIs (n vec got oper epc : Nat) (t : State) : Prop :=
  t.get (Fd.AWL_EINFO_VEC n) = vec ∧ t.get (Fd.AWL_EINFO_GOT n) = got ∧ t.get (Fd.AWL_EINFO_OPER n) = oper ∧
  t.get (Fd.AWL_EINFO_EPC n) = epc

/-- A command answers a next state: `t`, of which `P` holds, or `t` with the reactions that follow in the same handshake. -/
def Answers (c : Instr) (s : State) (P : State → Prop) : Prop := ∃ t, P t ∧ (exec c s = .next t ∨ exec c s = .next t.settle)

/-- The fabric takes a direct write of `v` to register `k` by master `m`: no reset episode, stop or halt holds the master, the
register exists, its power domain is on, and the owner check lets the write through (R405, R406, R424, R445, R713). -/
abbrev Taken (s : State) (m : Fin 32) (k v : Nat) : Prop :=
  s.masterFrozen m = false ∧ k % 4 = 0 ∧ regExists k = true ∧ s.domOn (regDomain k) = true ∧ s.writeRefused (ownerOfMaster m) k v = none

/-- A command that is a direct write of a register is taken, and `P` holds of what it leaves. -/
def Writes (c : Instr) (s : State) (P : State → Prop) : Prop := Answers c s (fun t => t.bus = .done ∧ P t)

/-- A direct access of register `k` by master `m` reaches it: nothing holds the master, the register exists, and its domain is on. -/
abbrev Readable (s : State) (m : Fin 32) (k : Nat) : Prop :=
  s.masterFrozen m = false ∧ k % 4 = 0 ∧ regExists k = true ∧ s.domOn (regDomain k) = true

/-- A command that is a direct read returns `v`, and `P` holds of what it leaves. -/
def Reads (c : Instr) (s : State) (v : Nat) (P : State → Prop) : Prop := Answers c s (fun t => t.bus = .value v ∧ P t)

/-- Registers of the security, Sole and head blocks that have no rule of their own: a write
acts by the access types of their fields (R11). -/
def plainKey (k : Nat) : Bool :=
  match k / 0x10000 with
  | 0x02 => k != Rg.SEC_FUSECMD
  | 0x14 => !inArr k (Rg.SL_PACE 0) 16 0x1000 && !inArr k (Rg.SL_SLACK 0) 16 0x1000
  | 0x18 => !inArr k (Rg.HD_CTL 0) 16 0x1000 && !inArr k (Rg.HD_STAT 0) 16 0x1000 && !inArr k (Rg.HD_WBCTL 0) 16 0x1000
  | _ => false

/-- Tongue takes from a source now the packet of an opcode that its row names: it runs nothing, owes the source no first reply,
has room for one, and the packet stands there, is for this device and is not barred during boot (R387, R395, R470); `b` is what
taking it leaves. -/
abbrev Heard (s : State) (src : Src) (op : Nat) (p : Packet) (e : Env) (b : Bus) : Prop :=
  s.tongue.running = none ∧ (s.serialArrive src op p).tongueFree src = true ∧
  (s.serialArrive src op p).replyRoom src (firstReplyMax op p) = true ∧ (s.serialArrive src op p).isHere p = true ∧
  ((s.serialArrive src op p).busOf e).takePacket src op p = .took b ∧ b.s.isHere p = true ∧ b.s.bootBars src op p true = false

/-- The packet's source got its first reply, or none where it takes none (R382, R398). -/
abbrev Replied (u t : State) (src : Src) (p : Packet) (status : Nat) (body : List Nat) : Prop :=
  t.tongue.replies = u.tongue.replies ++
    (if t.srcEnabled src then [⟨src, t.replyWords (u.reqOf src p) status body, u.originOf src, true⟩] else [])

/-- A request's source got one more reply, or none where the session it was made in has ended (R382, R398). -/
abbrev RepliedTo (u t : State) (r : Req) (status : Nat) (body : List Nat) : Prop :=
  t.tongue.replies = u.tongue.replies ++
    (if t.srcEnabled r.src = true ∧ t.genOf r.src = r.gen then [⟨r.src, t.replyWords r status body, r.origin, false⟩] else [])

/-- The hub made a record of a real report in the lowest free log entry, where one is free (R682, R684). -/
abbrev Recorded (s t : State) (u code base detail : Nat) : Prop :=
  ∀ x, s.freeEntry = some x → tabFind t.hub.log x = some (s.recordOf u code base detail false true)

/-- A reply waits at the path of a request's source, or the session it was made in has ended (R382, R398). -/
abbrev Told (t : State) (r : Req) (status : Nat) (body : List Nat) : Prop :=
  t.srcEnabled r.src = true ∧ t.genOf r.src = r.gen → ∃ first, ⟨r.src, t.replyWords r status body, r.origin, first⟩ ∈ t.tongue.replies

/-- A command's accesses before the first one. -/
abbrev busOf (s : State) (e : Env) : Bus := s.busOf e

/-- The next stitch of a Sole's line has all the data it needs (R267). -/
def stitchFree (s : State) (c : LineCtx) : Bool :=
  let p := s.linePlan c
  let there := fun (px : List (Nat × PixRes)) => px.all (fun x => x.2 != .wait)
  match stitchAt c.entries 0 (s.ranOf c.sole c.y) with
  | some (j, .run lc st _, k) => !c.active || decide (st + k < c.lo) || decide (c.hi ≤ st + k) || c.hidden s lc (st + k) || there (s.runBlock c p j lc (st + k))
  | some (j, .sprites lc sp bl, k) =>
    (match (c.spanStitches s lc sp bl)[k]? with
     | some (tag, sn, x) => c.hidden s lc x || there (s.spanBlock c p j tag sn x)
     | none => true)
  | _ => true

/-- Registers of `plainKey` whose reads have no effect but that of RC fields. -/
def stillKey (k : Nat) : Bool := plainKey k && !inArr k (Rg.HD_FRAME 0) 16 0x1000

/-- Registers that a bus watchpoint may change where it sees an access (R718–R720). -/
def watchKey (k : Nat) : Prop :=
  k = Rg.DBG_RUN ∨ k = Rg.DBG_HITLO ∨ k = Rg.DBG_HITHI ∨ (∃ i, i < 36 ∧ k = Rg.WPCTL i) ∨ ∃ n, n < 4 ∧ k = Rg.AWL_STAT n

/-- A direct access by a master changed registers for which `p` holds, what the master is answered, the remote requests it had
out, and registers that a bus watchpoint changes; nothing else differs. -/
def AccessOnly (p : Nat → Prop) (s t : State) : Prop :=
  RegsOnly (fun k => p k ∨ watchKey k) s { t with bus := s.bus, welt := { t.welt with reqs := s.welt.reqs } }

end Sys2Proof.Machine
end

