-- ==== Sys2Proof/Certificates/Slice0/Obligations.lean ====
section
/-! DEFINITION. The statements for the provers. -/
open Sys2Proof Sys2Proof.Machine

/-- A taken write of MINCLR restores a gauge's or a Sole's minimum, EN starts or stops the supply loop, VSET stores clamped set
  points and sends one, MAXCLR copies TJ (R50, R57, R63, R69, R71, R744); nothing else changes. -/
def Obligations.PaceWritesComplete : Prop :=
  ∀ (m : Fin 32) (s : State) (v : BitVec 28) (e : Env),
    (∀ (g : Fin 20),
      Taken s m (gaugeKey g) v.toNat →
      nbit v.toNat 27 = true →
      Writes (.paceMinclr g m v e) s (fun t =>
        t.get (gaugeMin g) = 0x1FFF ∧
        AccessOnly (fun k => k = gaugeKey g) s t)) ∧
    (∀ (n : Fin 16),
      Taken s m (Rg.SL_SLACK n) v.toNat →
      nbit v.toNat 27 = true →
      Writes (.slackMinclr n m v e) s (fun t =>
        t.get (Fd.SL_SLACK_MIN n) = 0x7FF ∧
        AccessOnly (fun k => k = Rg.SL_SLACK n) s t)) ∧
      (Taken s m Rg.PWR_PACECTL v.toNat →
      nbit v.toNat 0 = true →
      s.flag Fd.PWR_PACECTL_EN = false →
      s.fenced uLoop = false →
      s.pace.busy = false →
      s.halted = false →
      Writes (.loopEnable m v e) s (fun t =>
        t.flag Fd.PWR_PACECTL_EN = true ∧
        t.pace.phase = .readMode ∧
        t.pace.tx.map (fun x => (x.ctl, x.addr, x.code)) = some (t.get Fd.PWR_PACECTL_I2CSEL, t.get Fd.PWR_PACECTL_VREGADDR,
          0x20) ∧
        t.flag Fd.PWR_PACESTAT_BUSY = true ∧
        (AccessOnly (fun k => k = Rg.PWR_PACECTL ∨ k = Rg.PWR_PACESTAT) s { t with pace := s.pace }))) ∧
      (Taken s m Rg.PWR_PACECTL v.toNat →
      nbit v.toNat 0 = false →
      s.flag Fd.PWR_PACECTL_EN = true →
      s.pace.busy = false →
      Writes (.loopDisable m v e) s (fun t =>
        t.flag Fd.PWR_PACECTL_EN = false ∧
        t.pace.phase = .off ∧ t.pace.tx = none ∧
        t.flag Fd.PWR_PACESTAT_EMERG = false ∧
        (AccessOnly (fun k => k = Rg.PWR_PACECTL ∨ k = Rg.PWR_PACESTAT) s { t with pace := s.pace }))) ∧
      (Taken s m Rg.PWR_VSET v.toNat →
      s.flag Fd.PWR_PACECTL_EN = false →
      s.pace.busy = false →
      s.halted = false →
      Writes (.vsetWrite m v e) s (fun t =>
        t.get Fd.PWR_VSET_IDLE = mvClamp (v.toNat / 2 ^ 10 % 2 ^ 10) ∧
        t.get Fd.PWR_VSET_VSET = clampNat s.vLower s.vUpper (v.toNat % 2 ^ 10) ∧
        t.pace.phase = .vsetSend ∧
        t.pace.tx.map (fun x => (x.ctl, x.addr, x.code, x.word)) = some (s.get Fd.PWR_PACECTL_I2CSEL, s.get
          Fd.PWR_PACECTL_VREGADDR, 0x21, voutWord s.pace.expo (clampNat s.vLower s.vUpper (v.toNat % 2 ^ 10)) (Config.freeValue
          s.fresh)) ∧
        (AccessOnly (fun k => k = Rg.PWR_VSET ∨ k = Rg.PWR_PACESTAT) s { t with pace := s.pace, fresh := s.fresh }))) ∧
      (Taken s m Rg.PWR_TJ v.toNat →
      nbit v.toNat 27 = true →
      Writes (.tjMaxClear m v e) s (fun t =>
        t.get Fd.PWR_TJ_MAX = s.get Fd.PWR_TJ_TJ ∧
        AccessOnly (fun k => k = Rg.PWR_TJ) s t))

/-- A taken write of a pool's limits stores them, CLR bits reset a pool's peak, a Sole's tack peak, latency and line peaks,
  TRAIN starts training of the effective channels, and enabling an ECC region clears its memory (R271, R282, R289, R290, R295 to
  R298); nothing else changes. -/
def Obligations.MemoryWritesComplete : Prop :=
  ∀ (m : Fin 32) (s : State) (v : BitVec 28) (e : Env),
    (∀ (k : Fin 8),
      Taken s m (Rg.FETCH_POOL k) v.toNat →
      s.poolBad k v.toNat = false →
      Writes (.fetchPoolWrite k m v e) s (fun t =>
        t.get (Fd.FETCH_POOL_RSV k) = v.toNat % 2 ^ 11 ∧
        t.get (Fd.FETCH_POOL_LIMIT k) = v.toNat / 2 ^ 11 % 2 ^ 11 ∧
        AccessOnly (fun j => j = Rg.FETCH_POOL k) s t)) ∧
    (∀ (k : Fin 8),
      Taken s m (Rg.FETCH_POOL_STAT k) v.toNat →
      nbit v.toNat 26 = true →
      Writes (.poolPeakClear k m v e) s (fun t =>
        t.get (Fd.FETCH_POOL_STAT_PEAK k) = s.get (Fd.FETCH_POOL_STAT_HELD k) ∧
        AccessOnly (fun j => j = Rg.FETCH_POOL_STAT k) s t)) ∧
    (∀ (n : Fin 16),
      Taken s m (Rg.FETCH_SL_STAT n) v.toNat →
      nbit v.toNat 27 = true →
      Writes (.soleTackPeakClear n m v e) s (fun t =>
        t.get (Fd.FETCH_SL_STAT_PEAK n) = s.get (Fd.FETCH_SL_STAT_HELD n) ∧
        AccessOnly (fun j => j = Rg.FETCH_SL_STAT n) s t)) ∧
    (∀ (n : Fin 16),
      Taken s m (Rg.FETCH_SL_LAT n) v.toNat →
      nbit v.toNat 27 = true →
      Writes (.fetchLatencyMaxClear n m v e) s (fun t =>
        t.get (Fd.FETCH_SL_LAT_MAX n) = 0 ∧
        AccessOnly (fun j => j = Rg.FETCH_SL_LAT n) s t)) ∧
    (∀ (n : Fin 16),
      Taken s m (Rg.FETCH_SL_LINE n) v.toNat →
      nbit v.toNat 27 = true →
      Writes (.lineGranulePeakClear n m v e) s (fun t =>
        t.get (Fd.FETCH_SL_LINE_PEAKG n) = 0 ∧
        AccessOnly (fun j => j = Rg.FETCH_SL_LINE n) s t)) ∧
      (Taken s m Rg.MEM_CTL v.toNat →
      nbit v.toNat 27 = true →
      s.domOn 11 = true →
      Writes (.memTrain m v e) s (fun t =>
        (∀ c : Fin 6, t.get (Fd.MEM_CH_STAT_STATE c) = (if nbit s.effChannels c then 1 else 5)) ∧
        t.fetch.training = chanList s.effChannels ∧
        t.get Fd.MEM_STAT_CHEFF = s.effChannels ∧
        (AccessOnly (fun j => j = Rg.MEM_STAT ∨ ∃ c : Fin 6, j = Rg.MEM_CH_STAT c) s
          { t with mem := s.mem, fetch := s.fetch }))) ∧
    (∀ (n : Fin 8),
      Taken s m (Rg.MEM_ECC n) v.toNat →
      s.eccBad n v.toNat = false →
      nbit v.toNat 27 = true →
      s.flag (Fd.MEM_ECC_EN n) = false →
      Writes (.memEccWrite n m v e) s (fun t =>
        t.flag (Fd.MEM_ECC_EN n) = true ∧
        t.flag (Fd.MEM_ECC_BUSY n) = true ∧
        (∀ a, t.byte a = (if v.toNat / 2 ^ 13 % 2 ^ 11 * 2 ^ 25 ≤ a ∧ a < (v.toNat / 2 ^ 13 % 2 ^ 11 + v.toNat % 2 ^ 11) * 2 ^
          25 then 0 else s.byte a)) ∧
        (AccessOnly (fun j => j = Rg.MEM_ECC n ∨ j = Rg.LAST_SLOTCAP) s { t with mem := s.mem })))

/-- A taken GO starts an idle, done or halted Lace channel or the Skiver list at the address its registers hold, with its counts
  and error cleared; ABORT halts a running one with error 4 (R546, R548, R566, R567). -/
def Obligations.MoveWritesComplete : Prop :=
  ∀ (m : Fin 32) (s : State) (v : BitVec 28) (e : Env),
    (∀ (n : Fin 32),
      Taken s m (Rg.LACE_CH_CTL n) v.toNat →
      nbit v.toNat 27 = true →
      (s.laceState n = 0 ∨ s.laceState n = 2 ∨ s.laceState n = 3) →
      s.fenced (uLace n) = false →
      s.unitInReset (uLace n) = false →
      Writes (.laceGo n m v e) s (fun t =>
        t.laceState n = 1 ∧
        t.get (Fd.LACE_CH_STAT_ERR n) = 0 ∧
        t.get (Fd.LACE_CH_STAT_DCOUNT n) = 0 ∧
        t.lace n =
          { next := v.toNat % 2 ^ 12 * 2 ^ 28 + s.get (Fd.LACE_CH_DESC_ADDR n) * 64, limit := some (s.move.clock + 64 * max 1 (t.get (Fd.LACE_CH_CTL_TMO n))) }
          ∧
        (AccessOnly (fun k => k = Rg.LACE_CH_CTL n ∨ k = Rg.LACE_CH_STAT n) s { t with move := s.move }))) ∧
    (∀ (n : Fin 32),
      Taken s m (Rg.LACE_CH_CTL n) v.toNat →
      nbit v.toNat 26 = true →
      s.laceState n = 1 →
      Writes (.laceAbort n m v e) s (fun t =>
        t.laceState n = 3 ∧
        t.get (Fd.LACE_CH_STAT_ERR n) = 4 ∧
        (AccessOnly (fun k => k = Rg.LACE_CH_CTL n ∨ k = Rg.LACE_CH_STAT n) s { t with move := s.move, icu := s.icu }))) ∧
      (Taken s m Rg.SKIVER_CTL v.toNat →
      nbit v.toNat 27 = true →
      (s.skiverState = 0 ∨ s.skiverState = 3 ∨ s.skiverState = 4) →
      s.fenced uSkiver = false →
      s.unitInReset uSkiver = false →
      Writes (.skiverGo m v e) s (fun t =>
        t.skiverState = 1 ∧
        t.get Fd.SKIVER_STAT_ERR = 0 ∧
        t.get Fd.SKIVER_CMDCNT_COUNT = 0 ∧
        t.skiver =
          { next := v.toNat % 2 ^ 12 * 2 ^ 28 + s.get Fd.SKIVER_LIST_ADDR * 64, due := some (0, s.move.clock + 64 * max 1 (t.get Fd.SKIVER_CTL_TMO)) }
          ∧
        (AccessOnly (fun k => k = Rg.SKIVER_CTL ∨ k = Rg.SKIVER_STAT ∨ k = Rg.SKIVER_CMDCNT) s { t with move := s.move }))) ∧
      (Taken s m Rg.SKIVER_CTL v.toNat →
      nbit v.toNat 26 = true →
      (s.skiverState = 1 ∨ s.skiverState = 2) →
      Writes (.skiverAbort m v e) s (fun t =>
        t.skiverState = 4 ∧
        t.get Fd.SKIVER_STAT_ERR = 4 ∧
        (AccessOnly (fun k => k = Rg.SKIVER_CTL ∨ k = Rg.SKIVER_STAT) s { t with move := s.move, icu := s.icu })))

/-- A taken RECAL asks for new baselines, KEEP clears KEEPEXP and starts its timeout anew, AUD_CTL.EN starts every rate domain
  at block 0, AUD_KEY enqueues a key event, and an eye-scan start on a locked lane begins the scan (R612, R633, R583, R581,
  R327). -/
def Obligations.PanelAndSoundWritesComplete : Prop :=
  ∀ (m : Fin 32) (s : State) (v : BitVec 28) (e : Env),
    (∀ (n : Fin 2),
      Taken s m (Rg.INS_FE_CTL n) v.toNat →
      nbit v.toNat 23 = true →
      s.flag (Fd.INS_FE_CTL_EN n) = nbit v.toNat 27 →
      Writes (.insoleRecal n m v e) s (fun t =>
        (t.feS n).load = true ∧
        (t.feS n).auto = false ∧
        AccessOnly (fun k => k = Rg.INS_FE_CTL n) s { t with panel := s.panel })) ∧
      (Taken s m Rg.SHK_CTL v.toNat →
      nbit v.toNat 26 = true →
      Writes (.shankKeep m v e) s (fun t =>
        t.get Fd.SHK_STAT_KEEPEXP = 0 ∧
        t.panel = { s.panel with keptAt := s.time.now } ∧
        (AccessOnly (fun k => k = Rg.SHK_CTL ∨ k = Rg.SHK_STAT) s { t with panel := s.panel }))) ∧
      (Taken s m Rg.AUD_CTL v.toNat →
      s.audCtlBad v.toNat = false →
      nbit v.toNat 27 = true →
      s.flag Fd.AUD_CTL_EN = false →
      Writes (.audioEnable m v e) s (fun t =>
        t.flag Fd.AUD_CTL_EN = true ∧
        (∀ d : Fin 3, (t.dom d).run = true ∧ (t.dom d).block = 0) ∧
        t.mem = s.mem)) ∧
      (Taken s m Rg.AUD_KEY v.toNat →
      s.flag Fd.AUD_CTL_EN = true →
      s.rst.held.contains uSound = false →
      s.rst.pulsed.contains uSound = false →
      s.audio.keys.length < 64 →
      Writes (.audKey m v e) s (fun t =>
        t.audio.keys = s.audio.keys ++ [⟨v.toNat % 256, nbit v.toNat 8, none⟩] ∧
        AccessOnly (fun _ => False) s { t with audio := s.audio })) ∧
    (∀ (n : Fin 32),
      Taken s m (Rg.EYE_L_SCAN n) v.toNat →
      nbit v.toNat 27 = true →
      s.flag (Fd.EYE_L_SCAN_BUSY n) = false →
      s.flag (Fd.EYE_L_STAT_LOCK n) = true →
      (s.lanePam4 n = true ∨ v.toNat / 2 ^ 24 % 4 = 1) →
      Writes (.eyeScanStart n m v e) s (fun t =>
        t.flag (Fd.EYE_L_SCAN_BUSY n) = true ∧
        AccessOnly (fun k => k = Rg.EYE_L_SCAN n) s t))

/-- A taken EOI of the innermost source pops it, SWSET raises or clears a software source, LDHI loads the time base, CMPHI
  applies both halves of a compare value, EN and KEY load a watchdog and a wrong KEY expires the device watchdog (R643, R649,
  R651, R652, R656). -/
def Obligations.TimeWritesComplete : Prop :=
  ∀ (m : Fin 32) (s : State) (v : BitVec 28) (e : Env),
    (∀ (n : Fin 4) (rest : List Nat),
      Taken s m (Rg.ICU_TGT_EOI n) v.toNat →
      s.stackOf n = v.toNat % 512 :: rest →
      Writes (.eoiWrite (n.castSucc) m v e) s (fun t =>
        t.stackOf n = rest ∧
        AccessOnly (fun _ => False) s { t with icu := s.icu })) ∧
      (Taken s m Rg.ICU_SWSET v.toNat →
      nbit v.toNat 27 = true →
      nbit v.toNat 26 = false →
      s.domOn 0 = true →
      Writes (.swsetSet m v e) s (fun t =>
        t.icu.pend = setAdd s.icu.pend (320 + v.toNat % 64) ∧
        AccessOnly (fun _ => False) s { t with icu := s.icu })) ∧
      (Taken s m Rg.ICU_SWSET v.toNat →
      nbit v.toNat 27 = false →
      nbit v.toNat 26 = true →
      Writes (.swsetClr m v e) s (fun t =>
        t.icu.pend = s.icu.pend.filter (fun j => j != 320 + v.toNat % 64) ∧
        AccessOnly (fun _ => False) s { t with icu := s.icu })) ∧
      (Taken s m Rg.TIME_LDHI v.toNat →
      Writes (.timeLoad m v e) s (fun t =>
        t.time.now = v.toNat * 2 ^ 28 + s.get Fd.TIME_LDLO_LOAD ∧
        t.mem = s.mem)) ∧
      (let c := s.cmpIx (ownerOfMaster m);
      let lo := (tabFind s.time.cmpHold c).getD (s.get (Fd.CMPLO_CMP c));
      Taken s m Rg.TIME_CMPHI v.toNat →
      lo < 2 ^ 28 →
      Writes (.compareWrite m v e) s (fun t =>
        t.get (Fd.CMPHI_CMP c) = v.toNat ∧
        t.get (Fd.CMPLO_CMP c) = lo ∧
        (AccessOnly (fun k => k = Rg.CMPHI c ∨ k = Rg.CMPLO c) s { t with time := s.time }))) ∧
    (∀ (n : Fin 5),
      Taken s m (Rg.TIME_WD_CTL n) v.toNat →
      nbit v.toNat 27 = true →
      v.toNat % 2 ^ 12 = 0 →
      Writes (.watchdogStart n m v e) s (fun t =>
        t.flag (Fd.TIME_WD_CTL_EN n) = true ∧
        t.get (Fd.TIME_WD_CNT_REMAIN n) = max 1 (t.get (Fd.TIME_WD_CTL_PERIOD n)) * 2 ^ 16 ∧
        (AccessOnly (fun k => k = Rg.TIME_WD_CTL n ∨ k = Rg.TIME_WD_CNT n) s { t with time := s.time }))) ∧
    (∀ (n : Fin 5),
      Taken s m (Rg.TIME_WD_CTL n) v.toNat →
      v.toNat % 2 ^ 12 = 0xA5C →
      Writes (.watchdogKick n m v e) s (fun t =>
        t.get (Fd.TIME_WD_CNT_REMAIN n) = max 1 (t.get (Fd.TIME_WD_CTL_PERIOD n)) * 2 ^ 16 ∧
        (AccessOnly (fun k => k = Rg.TIME_WD_CTL n ∨ k = Rg.TIME_WD_CNT n) s { t with time := s.time }))) ∧
      (Taken s m (Rg.TIME_WD_CTL 4) v.toNat →
      nbit v.toNat 27 = true →
      v.toNat % 2 ^ 12 ≠ 0 →
      v.toNat % 2 ^ 12 ≠ 0xA5C →
      s.sec.fuse = none →
      Writes (.watchdogForceExpire 4 m v e) s (fun t =>
        ResetSrc.devwdt ∈ t.rst.asserted ∧
        t.inEpisode = true))

/-- A taken selection that is not refused stores NEXT and NEXTEN, RUN 1 starts an idle head outside a unit reset whose timing is
  legal or makes it wait for its reference, RUN 0 ends a wait at once, and CLR zeroes the underrun count (R111, R227, R230,
  R243, R244). -/
def Obligations.HeadWritesComplete : Prop :=
  ∀ (h : Fin 16) (m : Fin 32) (s : State) (v : BitVec 28) (e : Env),
      (Taken s m (Rg.LAST_HD_SEL h) v.toNat →
      s.selBad h v.toNat = false →
      Writes (.lastHdSelWrite h m v e) s (fun t =>
        t.get (Fd.LAST_HD_SEL_NEXTEN h) = v.toNat / 8 % 2 ∧
        t.get (Fd.LAST_HD_SEL_NEXT h) = v.toNat % 8 ∧
        AccessOnly (fun k => k = Rg.LAST_HD_SEL h) s t)) ∧
      (Taken s m (Rg.HD_CTL h) v.toNat →
      s.ctlBad h v.toNat = false →
      nbit v.toNat 15 = true →
      s.headTimingOk h = true →
      (s.headS h).running = false →
      (s.headS h).waitRef = false →
      s.unitInReset (uHead h) = false →
      Writes (.headRun h m v e) s (fun t =>
        t.flag (Fd.HD_CTL_RUN h) = true ∧
        (if v.toNat / 2 ^ 13 % 4 = 1 ∨ v.toNat / 2 ^ 13 % 4 = 2 then (t.headS h).waitRef = true ∧ t.get (Fd.HD_STAT_LOCK h) = 1
          else (t.headS h).running = true) ∧
        t.mem = s.mem)) ∧
      (Taken s m (Rg.HD_CTL h) v.toNat →
      s.ctlBad h v.toNat = false →
      nbit v.toNat 15 = false →
      Writes (.headStop h m v e) s (fun t =>
        t.flag (Fd.HD_CTL_RUN h) = false ∧
        ((s.headS h).waitRef = true → (t.headS h).waitRef = false ∧ t.get (Fd.HD_STAT_LOCK h) = 0) ∧
        ((s.headS h).waitRef = false → t.headS h = s.headS h) ∧
        t.mem = s.mem)) ∧
      (Taken s m (Rg.HD_STAT h) v.toNat →
      nbit v.toNat 24 = true →
      Writes (.underrunCountClear h m v e) s (fun t =>
        t.get (Fd.HD_STAT_URCNT h) = 0 ∧
        AccessOnly (fun k => k = Rg.HD_STAT h) s t))

/-- A taken and legal write of a port's configuration while its lanes are powered stores the mode; a new mode starts the port
  over, RETRAIN restarts a Welt port, and MANREMAP moves a receive lane to the spare and raises the port's source (R308, R316,
  R334, R335). -/
def Obligations.PortWritesComplete : Prop :=
  ∀ (p : Fin 8) (m : Fin 32) (s : State) (v : BitVec 28) (e : Env),
    let mode := v.toNat / 2 ^ 25 % 8;
      (Taken s m (Rg.EYE_WP_CFG p) v.toNat →
      s.portCfgBad p v.toNat = false →
      s.domOn (lanegOf p) = true →
      s.fenced (uPort p) = false →
      s.unitInReset (uPort p) = false →
      s.portMode p ≠ mode →
      Writes (.portModeWrite p m v e) s (fun t =>
        t.portMode p = mode ∧
        (t.get (Fd.EYE_WP_STAT_STATE p) = (if mode = 1 ∨ mode = 2 then 1 else if mode = 5 then 5 else 0)) ∧
        t.get (Fd.EYE_WP_STAT_RXREMAP p) = 0 ∧
        t.mem = s.mem)) ∧
      (Taken s m (Rg.EYE_WP_CFG p) v.toNat →
      s.portCfgBad p v.toNat = false →
      s.domOn (lanegOf p) = true →
      s.fenced (uPort p) = false →
      s.unitInReset (uPort p) = false →
      s.portMode p = 1 →
      mode = 1 →
      nbit v.toNat 8 = true →
      Writes (.portRetrain p m v e) s (fun t =>
        t.get (Fd.EYE_WP_STAT_STATE p) = 1 ∧
        t.get (Fd.EYE_WP_STAT_RXREMAP p) = 0 ∧
        t.get (Fd.EYE_WP_STAT_TXREMAP p) = 0 ∧
        t.mem = s.mem)) ∧
      (Taken s m (Rg.EYE_WP_CFG p) v.toNat →
      s.portCfgBad p v.toNat = false →
      s.domOn (lanegOf p) = true →
      s.unitInReset (uPort p) = false →
      s.portMode p = mode →
      nbit v.toNat 8 = false →
      nbit v.toNat 3 = true →
      Writes (.manremap p m v e) s (fun t =>
        t.get (Fd.EYE_WP_STAT_RXREMAP p) = 1 ∧
        t.get (Fd.EYE_WP_STAT_RXSPARE p) = v.toNat / 2 % 4 ∧
        192 + p.val ∈ t.icu.pend ∧
        t.mem = s.mem))

/-- A taken EN 1 enables a ring with zero indices and EN 0 discards its replies, CPROD and RCONS move a ring's pointer,
  TONGUE_OWNDATA sets OWNER and LOCK for a writer that may, and a register without a rule of its own takes the write by its
  fields' access types (R11, R398, R408, R416). -/
def Obligations.TongueWritesComplete : Prop :=
  ∀ (m : Fin 32) (s : State) (v : BitVec 28) (e : Env),
    (∀ (r : Fin 5),
      Taken s m (ringKey r) v.toNat →
      Writes (.ringEnable r m v e) s (fun t =>
        (s.ringEn (ringKey r) = false ∧ nbit v.toNat 27 = true → t.regN (cptrKey r) = s.regN (cptrKey r) / 2 ^ 26 * 2 ^ 26 ∧
          t.regN (rptrKey r) = s.regN (rptrKey r) / 2 ^ 26 * 2 ^ 26) ∧
        t.ringEn (ringKey r) = nbit v.toNat 27 ∧
        (nbit v.toNat 27 = false → ∀ x, x ∈ t.tongue.replies → x.src ≠ (if h : r.val = 0 then Src.pcie else Src.core ⟨r.val - 1,
          by omega⟩)) ∧
        (AccessOnly (fun k => k = ringKey r ∨ k = cptrKey r ∨ k = rptrKey r) s { t with tongue := s.tongue }))) ∧
    (∀ (r : Fin 5),
      Taken s m (cptrKey r) v.toNat →
      s.ringEn (ringKey r) = true →
      (v.toNat % 8192 + 8192 - s.regN (cptrKey r) / 2 ^ 13 % 2 ^ 13) % 8192 ≤ 4096 →
      Writes (.ringCprodWrite r m v e) s (fun t =>
        t.regN (cptrKey r) % 2 ^ 13 = v.toNat % 2 ^ 13 ∧
        AccessOnly (fun k => k = cptrKey r) s t)) ∧
    (∀ (r : Fin 5),
      Taken s m (rptrKey r) v.toNat →
      s.ringEn (ringKey r) = true →
      (s.regN (rptrKey r) / 2 ^ 13 % 2 ^ 13 + 8192 - v.toNat % 8192) % 8192 ≤ 4096 →
      Writes (.ringRconsWrite r m v e) s (fun t =>
        t.regN (rptrKey r) % 2 ^ 13 = v.toNat % 2 ^ 13 ∧
        AccessOnly (fun k => k = rptrKey r) s t)) ∧
      (let o := ownerOfMaster m;
      let d := s.ownIx o;
      Taken s m Rg.TONGUE_OWNDATA v.toNat →
      d < 192 →
      ¬ (52 ≤ d ∧ d < 64) →
      s.flag (Fd.OWN_LOCK d) = false →
      v.toNat % 16 ≠ 7 →
      o ≠ 0 →
      (s.get (Fd.OWN_OWNER d) = o ∨ (s.get (Fd.OWN_OWNER d) = 0 ∧ v.toNat % 16 = o) ∨ (s.get (Fd.OWN_OWNER 1) = o ∧ d ≠ 1) ∨ o =
        7) →
      Writes (.owndataWrite m v e) s (fun t =>
        t.get (Fd.OWN_OWNER d) = v.toNat % 16 ∧
        t.flag (Fd.OWN_LOCK d) = nbit v.toNat 4 ∧
        AccessOnly (fun k => k = Rg.OWN d) s t)) ∧
    (∀ (i : BitVec 22),
      Taken s m (4 * i.toNat) v.toNat →
      plainKey (4 * i.toNat) = true →
      Writes (.registerWrite i m v e) s (fun t =>
        t.regN (4 * i.toNat) = writeByAccess (4 * i.toNat) (s.regN (4 * i.toNat)) v.toNat % 2 ^ 28 ∧
        AccessOnly (fun k => k = 4 * i.toNat) s t))

/-- A taken and legal fuse command starts a fuse write, PWR_DOMREQ sets the request, a role change begins with BUSY, FLT_ACK
  frees a unit's entries of a class, and FLT_FORCE1 makes the forced record in the lowest free entry (R22, R445, R465, R466,
  R694, R696). -/
def Obligations.TrustAndPowerWritesComplete : Prop :=
  ∀ (m : Fin 32) (s : State) (v : BitVec 28) (e : Env),
      (Taken s m Rg.SEC_FUSECMD v.toNat →
      nbit v.toNat 27 = true →
      v.toNat / 2 ^ 20 % 4 = 1 →
      s.flag Fd.SEC_FUSECMD_BUSY = false →
      s.fenced uSec = false →
      s.fuseBad 1 (v.toNat % 2 ^ 6) none = false →
      Writes (.fuseAdvanceCounter m v e) s (fun t =>
        t.flag Fd.SEC_FUSECMD_BUSY = true ∧
        t.sec.fuse = some (1, v.toNat % 2 ^ 6, []) ∧
        AccessOnly (fun k => k = Rg.SEC_FUSECMD) s { t with sec := s.sec })) ∧
      (Taken s m Rg.SEC_FUSECMD v.toNat →
      nbit v.toNat 27 = true →
      v.toNat / 2 ^ 20 % 4 = 2 →
      s.flag Fd.SEC_FUSECMD_BUSY = false →
      s.fenced uSec = false →
      s.fuseBad 2 (v.toNat % 2 ^ 6) none = false →
      Writes (.fuseRevokeSlot m v e) s (fun t =>
        t.flag Fd.SEC_FUSECMD_BUSY = true ∧
        t.sec.fuse = some (2, v.toNat % 2 ^ 6, []) ∧
        AccessOnly (fun k => k = Rg.SEC_FUSECMD) s { t with sec := s.sec })) ∧
      (let ka := s.get Fd.SEC_FUSEADDR1_ADDRHI * 2 ^ 28 + s.get Fd.SEC_FUSEADDR0_ADDRLO;
      Taken s m Rg.SEC_FUSECMD v.toNat →
      nbit v.toNat 27 = true →
      v.toNat / 2 ^ 20 % 4 = 3 →
      ka % 4 = 0 ∧ sharedBase ≤ ka ∧ ka + 64 ≤ sharedBase + 0x200000 →
      (s.domOn 4 = true ∨ s.domOn 5 = true) →
      s.flag Fd.AWL_LOCK_HELD = false →
      s.flag Fd.SEC_FUSECMD_BUSY = false →
      s.fenced uSec = false →
      s.fuseBad 3 (v.toNat % 2 ^ 6) (some (s.words ka 16)) = false →
      Writes (.fuseProgramSlot m v e) s (fun t =>
        t.flag Fd.SEC_FUSECMD_BUSY = true ∧
        t.sec.fuse = some (3, v.toNat % 2 ^ 6, s.words ka 16) ∧
        AccessOnly (fun k => k = Rg.SEC_FUSECMD) s { t with sec := s.sec })) ∧
      (Taken s m Rg.PWR_DOMREQ v.toNat →
      s.domreqBad (Nat.lor (v.toNat % 2 ^ 20) 3) = false →
      Writes (.pwrDomreqWrite m v e) s (fun t =>
        t.get Fd.PWR_DOMREQ_REQ = Nat.lor (v.toNat % 2 ^ 20) 3 ∧
        t.get Fd.PWR_DOMON_ON = Nat.lor (v.toNat % 2 ^ 20) 3 ∧
        t.flag Fd.PWR_STATE_ERR = s.flag Fd.PWR_STATE_ERR)) ∧
      (Taken s m Rg.SYS_ROLE v.toNat →
      v.toNat % 8 ≤ 4 →
      v.toNat % 8 ≠ 0 →
      v.toNat % 8 - 1 ≠ s.role →
      s.roleBad = false →
      Writes (.sysRoleWrite m v e) s (fun t =>
        t.flag Fd.SYS_ROLE_BUSY = true ∧
        t.role = v.toNat % 8 - 1 ∧
        t.rst.roleTo = some (roleDomains (v.toNat % 8 - 1) (nbit v.toNat 5)) ∧
        AccessOnly (fun k => k = Rg.SYS_ROLE) s { t with rst := s.rst })) ∧
      (let u := v.toNat % 2 ^ 16;
      let cls := v.toNat / 2 ^ 16 % 8;
      let all := nbit v.toNat 19;
      Taken s m Rg.FLT_ACK v.toNat →
      unitValid u = true →
      (all = true ∨ cls ≤ 4) →
      Writes (.fltAckWrite m v e) s (fun t =>
        t.hub.log = s.hub.log.filter (fun x => !(x.2.unit == u && (all || x.2.cls == cls))) ∧
        t.unackOf u = (if all then 0 else Nat.land (s.unackOf u) (Nat.xor 31 (2 ^ cls % 32))) ∧
        t.mem = s.mem)) ∧
      (let u := s.get Fd.FLT_FORCE0_UNIT;
      let r := s.recordOf u (s.get Fd.FLT_FORCE0_CODE) (v.toNat / 2 ^ 24 % 8) (v.toNat % 2 ^ 16) true false;
      Taken s m Rg.FLT_FORCE1 v.toNat →
      nbit v.toNat 27 = true →
      unitValid u = true →
      v.toNat / 2 ^ 24 % 8 ≤ 4 →
      Writes (.faultForce m v e) s (fun t =>
        (∀ x, s.freeEntry = some x → tabFind t.hub.log x = some r) ∧
        t.hub.seq = (s.hub.seq + 1) % 256 ∧
        t.mem = s.mem))

/-- A taken legal SYS_EYCFG write configures the selected eyelet, SYS_EYSET and SYS_EYCLR set and clear OUT of the masked
  eyelets, GO starts an enabled idle I2C controller, and DATA pushes a byte into a transmit FIFO that has room (R675, R677,
  R680, R681). -/
def Obligations.EyeletWritesComplete : Prop :=
  ∀ (m : Fin 32) (s : State) (v : BitVec 28) (e : Env),
      (let n := s.eyIx (ownerOfMaster m);
      Taken s m Rg.SYS_EYCFG v.toNat →
      funcOk n (v.toNat / 2 ^ 25 % 8) = true →
      v.toNat / 2 ^ 13 % 8 < 6 →
      Writes (.eyeletConfigWrite m v e) s (fun t =>
        t.regN (Rg.EY n) = writeByAccess (Rg.EY n) (s.regN (Rg.EY n)) (if 4 ≤ s.get (Fd.EY_IMODE n) then putBits v.toNat 11 1 0
          else v.toNat) % 2 ^ 28 ∧
        t.get (Fd.EY_FUNC n) = v.toNat / 2 ^ 25 % 8 ∧
        t.get (Fd.EY_IMODE n) = v.toNat / 2 ^ 13 % 8 ∧
        AccessOnly (fun k => k = Rg.EY n) s { t with eyes := s.eyes })) ∧
      (Taken s m Rg.SYS_EYSET v.toNat →
      Writes (.eyeletSet m v e) s (fun t =>
        (∀ n : Fin 128, t.get (Fd.EY_OUT n) = (if n.val ∈ maskEyes v.toNat then 1 else s.get (Fd.EY_OUT n))) ∧
        AccessOnly (fun k => k ∈ (maskEyes v.toNat).map Rg.EY) s t)) ∧
      (Taken s m Rg.SYS_EYCLR v.toNat →
      Writes (.eyeletClear m v e) s (fun t =>
        (∀ n : Fin 128, t.get (Fd.EY_OUT n) = (if n.val ∈ maskEyes v.toNat then 0 else s.get (Fd.EY_OUT n))) ∧
        AccessOnly (fun k => k ∈ (maskEyes v.toNat).map Rg.EY) s t)) ∧
      (let j := s.get Fd.SYS_PERIDX_PER;
      Taken s m Rg.SYS_PERDATA v.toNat →
      j < 4 →
      s.get Fd.SYS_PERIDX_REG = 1 →
      nbit v.toNat 27 = true →
      s.flag (Fd.I2C_STAT_BUSY j) = false →
      1 ≤ v.toNat % 128 →
      v.toNat % 128 ≤ 64 →
      s.flag (Fd.I2C_CFG_EN j) = true →
      Writes (.i2cGo m v e) s (fun t =>
        t.flag (Fd.I2C_STAT_BUSY j) = true ∧
        t.regN (Rg.I2C_CMD j) = writeByAccess (Rg.I2C_CMD j) (s.regN (Rg.I2C_CMD j)) v.toNat % 2 ^ 28 ∧
        (AccessOnly (fun k => k = Rg.I2C_CMD j ∨ k = Rg.I2C_STAT j) s t))) ∧
      (let j := s.get Fd.SYS_PERIDX_PER;
      Taken s m Rg.SYS_PERDATA v.toNat →
      j < 6 →
      s.get Fd.SYS_PERIDX_REG = 2 →
      (s.perS j).tx.length < 64 →
      Writes (.perdataWrite m v e) s (fun t =>
        (t.perS j).tx = (s.perS j).tx ++ [v.toNat % 256] ∧
        AccessOnly (fun _ => False) s { t with pers := s.pers }))

/-- HALT in an unhalted fabric sets HALTREQ and stops every unlocked running core, RESUME thaws a halted one, STEP starts a step
  of a halted core, RELOCK locks the port and disarms the watchpoints, and WELT_EPOCHHI applies both halves of the epoch (R360,
  R710, R713, R715, R716). -/
def Obligations.DebugWritesComplete : Prop :=
  ∀ (m : Fin 32) (s : State) (v : BitVec 28) (e : Env),
      (Taken s m Rg.DBG_RUN v.toNat →
      nbit v.toNat 27 = true →
      s.halted = false →
      s.flag Fd.DBG_RUN_HALTREQ = false →
      Writes (.debugHalt m v e) s (fun t =>
        t.flag Fd.DBG_RUN_HALTREQ = true ∧ t.get Fd.DBG_RUN_CAUSE = 1 ∧
        (∀ n : Fin 4, t.coreState n = (if s.coreState n = 2 ∧ s.coreLocked n = false then 3 else s.coreState n)) ∧
        (AccessOnly (fun k => k = Rg.DBG_RUN ∨ ∃ n : Fin 4, k = Rg.AWL_STAT n) s t))) ∧
      (Taken s m Rg.DBG_RUN v.toNat →
      nbit v.toNat 27 = false →
      nbit v.toNat 26 = true →
      nbit v.toNat 25 = false →
      s.halted = true →
      Writes (.debugResume m v e) s (fun t =>
        t.halted = false ∧
        t.flag Fd.DBG_RUN_HALTREQ = false ∧
        t.dbg.step = none)) ∧
      (let n := v.toNat / 2 ^ 23 % 4;
      Taken s m Rg.DBG_RUN v.toNat →
      nbit v.toNat 26 = false →
      nbit v.toNat 25 = true →
      s.halted = true →
      s.coreState n = 3 →
      s.dbg.step = none →
      Writes (.debugStep m v e) s (fun t =>
        t.dbg.step = some n ∧
        AccessOnly (fun k => k = Rg.DBG_RUN) s { t with dbg := s.dbg })) ∧
      (Taken s m Rg.DBG_CTL v.toNat →
      nbit v.toNat 27 = true →
      Writes (.debugRelock m v e) s (fun t =>
        t.get Fd.DBG_STAT_UNLOCKED = 0 ∧
        t.halted = false ∧
        (∀ i : Fin 36, t.get (Fd.WPCTL_ACT i) = 0))) ∧
      (Taken s m Rg.WELT_EPOCHHI v.toNat →
      Writes (.weltEpochWrite m v e) s (fun t =>
        t.get Fd.WELT_EPOCHHI_EPOCH = v.toNat % 2 ^ Fd.WELT_EPOCHHI_EPOCH.w ∧
        t.get Fd.WELT_EPOCHLO_EPOCH = (s.welt.epoch.getD (s.get Fd.WELT_EPOCHLO_EPOCH)) % 2 ^ 28 ∧
        t.welt.epoch = none ∧
        (AccessOnly (fun k => k = Rg.WELT_EPOCHHI ∨ k = Rg.WELT_EPOCHLO) s { t with welt := s.welt })))

/-- A direct read of TIME_LO latches the reader's TIME_HI, of CLAIM returns the core's or vector's active source, of TIME_CAPLO
  takes the oldest capture, of a head's FRAME latches FRAMEHI, and of SYS_PERDATA pops the receive FIFO (R263, R644, R650, R655,
  R681). -/
def Obligations.ReadsComplete : Prop :=
  ∀ (m : Fin 32) (s : State) (e : Env),
      (Readable s m Rg.TIME_LO →
      Reads (.timeLoRead m e) s (s.time.now % 2 ^ 28) (fun t =>
        tabGet 0 t.time.hi m = s.time.now / 2 ^ 28 ∧
        AccessOnly (fun k => k = Rg.TIME_LO) s { t with time := s.time })) ∧
    (∀ (n : Fin 5),
      let v := s.claimVal n;
      Readable s m (Rg.ICU_TGT_CLAIM n) →
      v < 2 ^ 28 →
      Reads (.claimRead n m e) s (v) (fun t =>
        (∀ x, s.claimed n = some x → v = 2 ^ 27 + x) ∧
        (s.claimed n = none → v = 0) ∧
        AccessOnly (fun k => k = Rg.ICU_GONECNT) s t)) ∧
      (let c := s.capIx (ownerOfMaster m);
      Readable s m Rg.TIME_CAPLO →
      (m.val = 0x1C → s.flag Fd.DBG_CTL_SIDEFX = true) →
      tabGet [] s.time.caps c ≠ [] →
      Reads (.captureRead m e) s (((tabGet [] s.time.caps c).headD 0) % 2 ^ 28) (fun t =>
        tabGet [] t.time.caps c = (tabGet [] s.time.caps c).tail ∧
        tabGet 0 t.time.capHi c = (tabGet [] s.time.caps c).headD 0 / 2 ^ 28 ∧
        AccessOnly (fun _ => False) s { t with time := s.time })) ∧
    (∀ (h : Fin 16),
      Readable s m (Rg.HD_FRAME h) →
      (m.val = 0x1C → s.flag Fd.DBG_CTL_SIDEFX = true) →
      Reads (.headFrameRead h m e) s ((s.headS h).frame % 2 ^ 28) (fun t =>
        t.get (Fd.HD_FRAMEHI_FRAMEHI h) = (s.headS h).frame / 2 ^ 28 % 2 ^ 28 ∧
        AccessOnly (fun k => k = Rg.HD_FRAMEHI h) s t)) ∧
    (∀ (b : Nat) (rest : List Nat),
      let j := s.get Fd.SYS_PERIDX_PER;
      Readable s m Rg.SYS_PERDATA →
      (m.val = 0x1C → s.flag Fd.DBG_CTL_SIDEFX = true) →
      j < 6 →
      s.get Fd.SYS_PERIDX_REG = 2 →
      (s.perS j).rx = b :: rest →
      Reads (.perdataRead m e) s (b % 256) (fun t =>
        (t.perS j).rx = rest ∧
        AccessOnly (fun _ => False) s { t with pers := s.pers }))

/-- A whole write of word 0 of a palette or LUT entry goes to the master's holding register and changes no entry; one of word 1
  stores both words of the entry; one of a voice word stores the word (R145, R146, R196, R197, R574). -/
def Obligations.ArrayWritesComplete : Prop :=
  ∀ (m : Fin 32) (s : State) (v : Word) (e : Env),
    (∀ (h : Fin 16) (i : Fin 32768),
      let a := palAddr h 0 0 + 4 * i;
      let q := holdKey m h false;
      s.masterFrozen m = false →
      Writes (.paletteWrite h i m v e) s (fun t =>
        (i.val % 2 = 0 → t.mem = s.mem ∧ tabGet 0 t.pict.hold q = v.toNat % 2 ^ 28) ∧
        (i.val % 2 = 1 → t.word (a - 4) = tabGet 0 s.pict.hold q % 2 ^ 32 ∧ t.word a = v.toNat % 2 ^ 28) ∧
        (∀ x, x < a - 4 ∨ a + 4 ≤ x → t.byte x = s.byte x) ∧
        AccessOnly (fun _ => False) s { t with mem := s.mem, pict := s.pict })) ∧
    (∀ (h : Fin 16) (i : Fin 81920),
      let a := preLutAddr h 0 0 + 4 * i;
      let q := holdKey m h true;
      s.masterFrozen m = false →
      Writes (.lutWrite h i m v e) s (fun t =>
        (i.val % 2 = 0 → t.mem = s.mem ∧ tabGet 0 t.pict.hold q = v.toNat % 2 ^ 28) ∧
        (i.val % 2 = 1 → t.word (a - 4) = tabGet 0 s.pict.hold q % 2 ^ 32 ∧ t.word a = v.toNat % 2 ^ 14) ∧
        (∀ x, x < a - 4 ∨ a + 4 ≤ x → t.byte x = s.byte x) ∧
        AccessOnly (fun _ => False) s { t with mem := s.mem, pict := s.pict })) ∧
    (∀ (u : Fin 256) (i : Fin 16),
      let a := 0x7FF3000000 + 64 * u.val + 4 * i.val;
      s.masterFrozen m = false →
      Writes (.voiceTableWrite u i m v e) s (fun t =>
        (i.val < 14 → t.word a = v.toNat) ∧
        (14 ≤ i.val → t.mem = s.mem) ∧
        (∀ x, x < a ∨ a + 4 ≤ x → t.byte x = s.byte x) ∧
        AccessOnly (fun _ => False) s { t with mem := s.mem, audio := s.audio }))

/-- MOV, LDI, LDHI, RETAG, GETTAG, TTST and NOP complete for every tag, and change what R527 says and nothing else (R527). -/
def Obligations.AwlMovesComplete : Prop :=
  ∀ (n : Fin 4) (s : State) (i : Insn),
    let f := s.flagsOf n;
    let x := s.gcell n i.gs;
    let d := s.gcell n i.gd;
      (CoreAt s n 0x00 i →
      CoreGives (.awlNop n) n s [] f) ∧
      (CoreAt s n 0x01 i →
      CoreGives (.awlMov n) n s [(i.gd, x)] f) ∧
      (CoreAt s n 0x02 i →
      CoreGives (.awlLdi n) n s [(i.gd, mkCell i.gs (if i.gs = tNUM ∨ i.gs = tFIX then imm14 i.x else i.x))] f) ∧
      (CoreAt s n 0x03 i →
      CoreGives (.awlLdhi n) n s [(i.gd, mkCell (tagOf d) (d % 2 ^ 10 + i.x * 2 ^ 10))] f) ∧
      (CoreAt s n 0x04 i →
      CoreGives (.awlRetag n) n s [(i.gd, mkCell i.x (valOf x))] f) ∧
      (CoreAt s n 0x05 i →
      CoreGives (.awlGettag n) n s [(i.gd, mkCell tNUM (tagOf x))] f) ∧
      (CoreAt s n 0x06 i →
      CoreGives (.awlTtst n) n s [] { f with t := tagOf d == i.x })

/-- The sums of R526 on operands that pass the tag checks: the result modulo 2¹⁴ under the tag of R501, with Z, N, C and V
  (R526). -/
def Obligations.AwlSumsComplete : Prop :=
  ∀ (n : Fin 4) (s : State) (i : Insn),
    let f := s.flagsOf n;
    let x := s.gcell n i.gs;
    let d := s.gcell n i.gd;
    let flags := fun (sum tag : Nat) (exact : Int) => (⟨sum % 2 ^ 14 == 0, decide (2 ^ 13 ≤ sum % 2 ^ 14), decide (2 ^ 14 ≤
      sum), (tag == tNUM || tag == tFIX) && (decide (exact < -8192) || decide (8191 < exact)), f.t⟩ : AwlFlags);
    let carry : Nat := if f.c then 1 else 0;
      (CoreAt s n 0x08 i →
      pairCheck 0x08 i.gs x i.gd d = none →
      let sum := valOf d + valOf x;
      let tag := if tagOf d = tPTR ∨ tagOf x = tPTR then tPTR else tagOf d;
      CoreGives (.awlAdd n) n s [(i.gd, mkCell tag sum)] (flags sum tag (sval d + sval x))) ∧
      (CoreAt s n 0x0A i →
      pairCheck 0x0A i.gs x i.gd d = none →
      let sum := valOf d + valOf x + carry;
      CoreGives (.awlAdc n) n s [(i.gd, mkCell (tagOf d) sum)] (flags sum (tagOf d) (sval d + sval x + carry))) ∧
      (CoreAt s n 0x09 i →
      pairCheck 0x09 i.gs x i.gd d = none →
      let sum := valOf d + (2 ^ 14 - 1 - valOf x) + 1;
      let tag := if tagOf d = tPTR then (if tagOf x = tPTR then tNUM else tPTR) else tagOf d;
      CoreGives (.awlSub n) n s [(i.gd, mkCell tag sum)] (flags sum tag (sval d - sval x))) ∧
      (CoreAt s n 0x0B i →
      pairCheck 0x0B i.gs x i.gd d = none →
      let sum := valOf d + (2 ^ 14 - 1 - valOf x) + carry;
      CoreGives (.awlSbc n) n s [(i.gd, mkCell (tagOf d) sum)] (flags sum (tagOf d) (sval d - sval x - (1 - carry)))) ∧
      (CoreAt s n 0x0C i →
      pairCheck 0x0C i.gs x i.gd d = none →
      let sum := valOf d + (2 ^ 14 - 1 - valOf x) + 1;
      CoreGives (.awlCmp n) n s [] (flags sum (tagOf d) (sval d - sval x))) ∧
      (CoreAt s n 0x0D i →
      (tagOf x = tNUM ∨ tagOf x = tFIX) →
      let sum := (2 ^ 14 - 1 - valOf x) + 1;
      CoreGives (.awlNeg n) n s [(i.gd, mkCell (tagOf x) sum)] (flags sum (tagOf x) (- sval x))) ∧
      (CoreAt s n 0x0E i →
      tagOf d ≠ tCODE →
      let sum := valOf d + imm14 i.x;
      CoreGives (.awlAddi n) n s [(i.gd, mkCell (tagOf d) sum)] (flags sum (tagOf d) (sval d + signed 10 i.x))) ∧
      (CoreAt s n 0x0F i →
      (tagOf d = tNUM ∨ tagOf d = tFIX) →
      let sum := valOf d + (2 ^ 14 - 1 - imm14 i.x) + 1;
      CoreGives (.awlCmpi n) n s [] (flags sum (tagOf d) (sval d - signed 10 i.x)))

/-- MUL, MULH, DIV, REM, MIN and MAX on operands that pass the checks: the results of R528, with Z and N, C at 0 and V (R528).
  -/
def Obligations.AwlProductsComplete : Prop :=
  ∀ (n : Fin 4) (s : State) (i : Insn),
    let f := s.flagsOf n;
    let x := s.gcell n i.gs;
    let d := s.gcell n i.gd;
    let low := fun (q : Int) => (q % 16384).toNat;
    let flags := fun (r : Nat) (v : Bool) => (⟨r % 2 ^ 14 == 0, decide (2 ^ 13 ≤ r % 2 ^ 14), false, v, f.t⟩ : AwlFlags);
    let out := fun (q : Int) => decide (q < -8192) || decide (8191 < q);
      (CoreAt s n 0x10 i →
      pairCheck 0x10 i.gs x i.gd d = none →
      let q := if tagOf d = tFIX then (sval d * sval x + 4096) / 8192 else sval d * sval x;
      CoreGives (.awlMul n) n s [(i.gd, mkCell (tagOf d) (low q))] (flags (low q) (out q))) ∧
      (CoreAt s n 0x11 i →
      pairCheck 0x11 i.gs x i.gd d = none →
      let h := (sval d * sval x % 2 ^ 28).toNat / 2 ^ 14;
      CoreGives (.awlMulh n) n s [(i.gd, mkCell tNUM h)] (flags h false)) ∧
      (CoreAt s n 0x12 i →
      pairCheck 0x12 i.gs x i.gd d = none →
      valOf x ≠ 0 →
      let q := if tagOf d = tFIX then (sval d * 8192).tdiv (sval x) else (sval d).tdiv (sval x);
      CoreGives (.awlDiv n) n s [(i.gd, mkCell (tagOf d) (low q))] (flags (low q) (out q))) ∧
      (CoreAt s n 0x13 i →
      pairCheck 0x13 i.gs x i.gd d = none →
      valOf x ≠ 0 →
      let r := low (sval d - sval x * (sval d).tdiv (sval x));
      CoreGives (.awlRem n) n s [(i.gd, mkCell tNUM r)] (flags r false)) ∧
      (CoreAt s n 0x14 i →
      pairCheck 0x14 i.gs x i.gd d = none →
      let r := if sval d ≤ sval x then valOf d else valOf x;
      CoreGives (.awlMin n) n s [(i.gd, mkCell (tagOf d) r)] (flags r false)) ∧
      (CoreAt s n 0x15 i →
      pairCheck 0x15 i.gs x i.gd d = none →
      let r := if sval d < sval x then valOf x else valOf d;
      CoreGives (.awlMax n) n s [(i.gd, mkCell (tagOf d) r)] (flags r false))

/-- AND, OR, XOR, NOT, TST and the shifts on operands that pass the tag checks (R527, R528). -/
def Obligations.AwlLogicCompletes : Prop :=
  ∀ (n : Fin 4) (s : State) (i : Insn),
    let f := s.flagsOf n;
    let x := s.gcell n i.gs;
    let d := s.gcell n i.gd;
    let flags := fun (r : Nat) (c v : Bool) => (⟨r % 2 ^ 14 == 0, decide (2 ^ 13 ≤ r % 2 ^ 14), c, v, f.t⟩ : AwlFlags);
    let c := i.x % 16;
      (CoreAt s n 0x18 i →
      pairCheck 0x18 i.gs x i.gd d = none →
      let r := Nat.land (valOf d) (valOf x);
      CoreGives (.awlAnd n) n s [(i.gd, mkCell (tagOf d) r)] (flags r false false)) ∧
      (CoreAt s n 0x19 i →
      pairCheck 0x19 i.gs x i.gd d = none →
      let r := Nat.lor (valOf d) (valOf x);
      CoreGives (.awlOr n) n s [(i.gd, mkCell (tagOf d) r)] (flags r false false)) ∧
      (CoreAt s n 0x1A i →
      pairCheck 0x1A i.gs x i.gd d = none →
      let r := Nat.xor (valOf d) (valOf x);
      CoreGives (.awlXor n) n s [(i.gd, mkCell (tagOf d) r)] (flags r false false)) ∧
      (CoreAt s n 0x1B i →
      tagOf x ≠ tCODE →
      let r := 16383 - valOf x;
      CoreGives (.awlNot n) n s [(i.gd, mkCell (tagOf x) r)] (flags r false false)) ∧
      (CoreAt s n 0x1C i →
      pairCheck 0x1C i.gs x i.gd d = none →
      CoreGives (.awlTst n) n s [] (flags (Nat.land (valOf d) (valOf x)) false false)) ∧
      (CoreAt s n 0x1D i →
      tagOf d ≠ tCODE →
      let r := valOf d * 2 ^ c % 2 ^ 14;
      CoreGives (.awlShl n) n s [(i.gd, mkCell (tagOf d) r)] (flags r (if c = 0 then f.c else decide (valOf d * 2 ^ c / 2 ^ 14 %
        2 = 1)) ((tagOf d == tNUM || tagOf d == tFIX) && decide (signed 14 r ≠ sval d * 2 ^ c)))) ∧
      (CoreAt s n 0x1E i →
      tagOf d ≠ tCODE →
      let r := valOf d / 2 ^ c;
      CoreGives (.awlShr n) n s [(i.gd, mkCell (tagOf d) r)] (flags r (if c = 0 then f.c else nbit (valOf d) (c - 1)) false)) ∧
      (CoreAt s n 0x1F i →
      tagOf d ≠ tCODE →
      let r := (sval d / 2 ^ c % 16384).toNat;
      CoreGives (.awlSar n) n s [(i.gd, mkCell (tagOf d) r)] (flags r (if c = 0 then f.c else decide (sval d / 2 ^ (c - 1) % 2 =
        1)) false))

/-- B, CALL, JMP and CALLR continue at their target, BKSET and BKGET move a bank register, SETIE writes IE, and REP starts the
  repetition of the next instruction (R527, R532, R535, R536); nothing but the core's own state changes. -/
def Obligations.AwlControlCompletes : Prop :=
  ∀ (n : Fin 4) (s : State) (i : Insn),
    let p := s.pcOf n;
    let link := mkCell tCODE (s.pcOf n + 1);
      (CoreAt s n 0x28 i →
      Gives (.awlB n) s (fun t =>
        CoreWent n ((p + 1 + imm14 i.x) % 2 ^ 14) s t [])) ∧
      (CoreAt s n 0x29 i →
      Gives (.awlCall n) s (fun t =>
        CoreWent n ((p + 1 + imm14 i.x) % 2 ^ 14) s t [(15, link)])) ∧
      (CoreAt s n 0x2A i →
      tagOf (s.gcell n i.gs) = tCODE →
      Gives (.awlJmp n) s (fun t =>
        CoreWent n (valOf (s.gcell n i.gs)) s t [])) ∧
      (CoreAt s n 0x2B i →
      tagOf (s.gcell n i.gs) = tCODE →
      Gives (.awlCallr n) s (fun t =>
        CoreWent n (valOf (s.gcell n i.gs)) s t [(15, link)])) ∧
      (CoreAt s n 0x26 i →
      Gives (.awlBkset n) s (fun t =>
        CoreOnly n s t ∧
        t.flagsOf n = s.flagsOf n ∧
        (∀ r, t.gcell n r = s.gcell n r) ∧
        t.bankReg n (i.x % 4) = (valOf (s.gcell n i.gs) + s.gcell n (i.gs + 1) % 64 * 2 ^ 14) % 2 ^ 20 ∧
        (∀ k, k ≠ i.x % 4 → t.bankReg n k = s.bankReg n k))) ∧
      (CoreAt s n 0x27 i →
      CoreGives (.awlBkget n) n s [(i.gd, mkCell tNUM (s.bankReg n (i.x % 4))), (i.gd + 1, mkCell tNUM (s.bankReg n (i.x % 4) /
        2 ^ 14))] (s.flagsOf n)) ∧
      (CoreAt s n 0x33 i →
      Gives (.awlSetie n) s (fun t =>
        CoreOnly n s t ∧
        t.get (Fd.AWL_STAT_IE n) = i.x ∧
        t.flagsOf n = s.flagsOf n ∧
        (∀ r, t.gcell n r = s.gcell n r))) ∧
      (let lim := (if i.gd % 2 = 1 then 64 else 1024);
      let x := s.insnCells n ((p + 1) % 2 ^ 14);
      CoreAt s n 0x30 i →
      i.gd / 2 % 2 = 0 →
      ¬ (tagOf x.1 = tCODE ∧ tagOf x.2 = tCODE ∧ repBanned (insnOf x.1 x.2).op = true) →
      Gives (.awlRep n) s (fun t =>
        CoreOnly n s t ∧
        t.pcOf n = (p + 1) % 2 ^ 14 ∧
        (t.core n).rep = min lim (i.x + 1) ∧
        (t.core n).repU = decide (i.gd % 2 = 1) ∧
        (∀ r, t.gcell n r = s.gcell n r)))

/-- LOCK takes a free lock and UNLOCK gives it back, WFI waits where no interrupt is due, a waiting WFI ends when one is, and
  RETI restores what the frame holds (R508, R510, R536). -/
def Obligations.AwlWaitsComplete : Prop :=
  ∀ (n : Fin 4) (s : State) (i : Insn),
      (CoreAt s n 0x31 i →
      s.coreLocked n = false →
      s.flag Fd.AWL_LOCK_HELD = false →
      Gives (.awlLock n) s (fun t =>
        t.flag Fd.AWL_LOCK_HELD = true ∧
        t.get Fd.AWL_LOCK_CORE = n.val ∧
        t.coreLocked n = true ∧
        (t.core n).lockCnt = 0 ∧
        t.pcOf n = (if (s.core n).rep ≤ 1 then (s.pcOf n + 1) % 2 ^ 14 else s.pcOf n) ∧
        (∀ r, t.gcell n r = s.gcell n r) ∧
        t.mem = s.mem)) ∧
      (CoreAt s n 0x32 i →
      s.coreLocked n = true →
      Gives (.awlUnlock n) s (fun t =>
        t.flag Fd.AWL_LOCK_HELD = false ∧
        t.coreLocked n = false ∧
        t.pcOf n = (if (s.core n).rep ≤ 1 then (s.pcOf n + 1) % 2 ^ 14 else s.pcOf n) ∧
        (∀ r, t.gcell n r = s.gcell n r) ∧
        t.mem = s.mem)) ∧
      (CoreAt s n 0x34 i →
      s.bestSrc n = none →
      s.dbg.step ≠ some n.val →
      Gives (.awlWfi n) s (fun t =>
        (t.core n).wfi = true ∧
        t.pcOf n = s.pcOf n ∧
        (∀ r, t.gcell n r = s.gcell n r) ∧
        RegsOnly (fun _ => False) s { t with cores := s.cores })) ∧
      ((s.core n).wfi = true →
      s.bestSrc n ≠ none →
      s.coreState n = 2 →
      s.domOn (awlDomOf n) = true →
      s.inEpisode = false →
      s.hub.stopping = false →
      s.halted = false →
      s.flag (Fd.AWL_STAT_IE n) = false →
      (s.core n).rep ≤ 1 →
      Gives (.awlWfiWake n) s (fun t =>
        (t.core n).wfi = false ∧
        t.pcOf n = (s.pcOf n + 1) % 2 ^ 14 ∧
        (∀ r, t.gcell n r = s.gcell n r) ∧
        t.mem = s.mem)) ∧
      (let isp := s.get (Fd.AWL_ISP_ISP n);
      let a := localBase n + 2 * isp;
      CoreAt s n 0x36 i →
      isp ≤ 0xFFFC →
      tagOf (s.half a) = tCODE →
      tagOf (s.half (a + 2)) = tNUM →
      tagOf (s.half (a + 4)) = tNUM →
      Gives (.awlReti n) s (fun t =>
        t.pcOf n = valOf (s.half a) ∧
        t.get (Fd.AWL_STAT_FLAGS n) = s.half (a + 2) % 32 ∧
        t.get (Fd.AWL_STAT_IE n) = s.half (a + 2) / 2 ^ 10 % 2 ∧
        t.get (Fd.AWL_ISP_ISP n) = isp + 4 ∧
        (t.core n).rep = s.half (a + 4) % 2 ^ 11 ∧
        (t.core n).repU = nbit (s.half (a + 4)) 11 ∧
        (∀ r, t.gcell n r = s.gcell n r) ∧
        t.mem = s.mem))

/-- Where the frame fits, TRAP enters vector 5, a reserved encoding vector 1, the 4,096-instruction limit of a lock vector 3
  with the lock released, an accepted interrupt vector 7 with its source active, and an instruction whose operand tags fail
  vector 0, with the frame of R506 stored and no other byte of memory changed (R501, R505, R506, R509, R511, R523, R642). -/
def Obligations.AwlExceptionsComplete : Prop :=
  ∀ (n : Fin 4) (s : State) (i : Insn),
    let p := s.pcOf n;
      (CoreAt s n 0x35 i →
      FrameFits s n →
      s.coreLocked n = false →
      Gives (.awlTrap n) s (fun t =>
        Entered n 5 ((p + 1) % 2 ^ 14) 0 0 s t ∧
        EinfoIs n 5 0 0 p t)) ∧
      (s.coreRuns n = true →
      s.fetchAt n p = none →
      FrameFits s n →
      s.coreLocked n = false →
      Gives (.awlReservedEncoding n) s (fun t =>
        Entered n 1 p 0 0 s t ∧
        EinfoIs n 1 0 0 p t)) ∧
      (s.coreLocked n = true →
      4096 ≤ (s.core n).lockCnt →
      s.coreState n = 2 →
      s.inEpisode = false →
      s.domOn (awlDomOf n) = true →
      s.halted = false →
      s.hub.stopping = false →
      s.flag Fd.DBG_RUN_HALTREQ = false →
      FrameFits s n →
      Gives (.awlLockBreak n) s (fun t =>
        Entered n 3 p 0 0 s t ∧
        EinfoIs n 3 0 0 p t ∧
        t.coreLocked n = false ∧
        t.flag (Fd.AWL_STAT_LOCKBRK n) = true)) ∧
    (∀ (src : Nat),
      s.mayAccept n = true →
      s.bestSrc n = some src →
      (s.core n).wfi = false →
      FrameFits s n →
      Gives (.irqAccept n) s (fun t =>
        Entered n 7 p 0 0 s t ∧
        t.stackOf n = src :: s.stackOf n)) ∧
    (∀ (r tag : Nat),
      CoreAt s n 0x08 i →
      pairCheck 0x08 i.gs (s.gcell n i.gs) i.gd (s.gcell n i.gd) = some (r, tag) →
      r < 16 →
      tag < 4 →
      FrameFits s n →
      s.coreLocked n = false →
      Gives (.awlAdd n) s (fun t =>
        Entered n 0 p tag r s t ∧
        EinfoIs n 0 tag r p t))

/-- LD and LD2 read cells of the core's local memory, ST and ST2 write cells above its code area and no other byte, IN returns a
  register's value and OUT writes a register, both with C at 0 (R499, R500, R503, R504, R529, R531). -/
def Obligations.AwlMemoryCompletes : Prop :=
  ∀ (n : Fin 4) (s : State) (i : Insn) (e : Env),
    let cell := fun (cnt j : Nat) => cellAt (s.get (Fd.AWL_CFG_XB n)) (cellAddr (s.bankReg n (nbits i.x 9 8)) (s.memForm n cnt
      i).1 j);
    let base := fun (cnt : Nat) (t : State) => t.gcell n i.gs = ((s.memForm n cnt i).2.map (mkCell tPTR)).getD (s.gcell n i.gs);
    let pc := (if (s.core n).rep ≤ 1 then (s.pcOf n + 1) % 2 ^ 14 else s.pcOf n);
    let reg := 4 * (valOf (s.gcell n i.gs) + valOf (s.gcell n (i.gs + 1)) * 2 ^ 14);
    (∀ (c : Nat),
      CoreAt s n 0x20 i →
      s.memCheck n i = none →
      cell 1 0 = .loc c →
      Answers (.awlLd n e) s (fun t =>
        t.gcell n i.gd = s.half (localBase n + 2 * c) ∧
        (i.gs ≠ i.gd → base 1 t) ∧
        (∀ r, r ≠ i.gd → r ≠ i.gs → t.gcell n r = s.gcell n r) ∧
        t.pcOf n = pc ∧
        t.flagsOf n = s.flagsOf n ∧
        t.mem = s.mem)) ∧
    (∀ (c : Nat),
      CoreAt s n 0x21 i →
      s.memCheck n i = none →
      cell 1 0 = .loc c →
      Answers (.awlSt n e) s (fun t =>
        t.half (localBase n + 2 * c) = s.gcell n i.gd ∧
        (∀ x, x < localBase n + 2 * c ∨ localBase n + 2 * c + 2 ≤ x → t.byte x = s.byte x) ∧
        base 1 t ∧
        (∀ r, r ≠ i.gs → t.gcell n r = s.gcell n r) ∧
        t.pcOf n = pc ∧
        t.flagsOf n = s.flagsOf n)) ∧
    (∀ (c d : Nat),
      CoreAt s n 0x22 i →
      s.memCheck n i = none →
      cell 2 0 = .loc c →
      cell 2 1 = .loc d →
      Answers (.awlLd2 n e) s (fun t =>
        t.gcell n i.gd = s.half (localBase n + 2 * c) ∧
        t.gcell n (i.gd + 1) = s.half (localBase n + 2 * d) ∧
        (i.gs ≠ i.gd ∧ i.gs ≠ i.gd + 1 → base 2 t) ∧
        (∀ r, r ≠ i.gd → r ≠ i.gd + 1 → r ≠ i.gs → t.gcell n r = s.gcell n r) ∧
        t.pcOf n = pc ∧
        t.flagsOf n = s.flagsOf n ∧
        t.mem = s.mem)) ∧
    (∀ (c d : Nat),
      CoreAt s n 0x23 i →
      s.memCheck n i = none →
      cell 2 0 = .loc c →
      cell 2 1 = .loc d →
      Answers (.awlSt2 n e) s (fun t =>
        t.half (localBase n + 2 * c) = s.gcell n i.gd ∧
        t.half (localBase n + 2 * d) = s.gcell n (i.gd + 1) ∧
        (∀ x, (x < localBase n + 2 * c ∨ localBase n + 2 * c + 2 ≤ x) → (x < localBase n + 2 * d ∨ localBase n + 2 * d + 2 ≤ x)
          → t.byte x = s.byte x) ∧
        base 2 t ∧
        (∀ r, r ≠ i.gs → t.gcell n r = s.gcell n r) ∧
        t.pcOf n = pc ∧
        t.flagsOf n = s.flagsOf n)) ∧
      (let m := (Fin.ofNat 32 (0x12 + n.val));
      let v := s.regValue m (3 + n.val) reg;
      CoreAt s n 0x24 i →
      s.ioCheck n i = none →
      valOf (s.gcell n (i.gs + 1)) < 256 →
      Readable s m reg →
      Answers (.awlIn n e) s (fun t =>
        t.gcell n i.gd = mkCell tNUM v ∧
        t.gcell n (i.gd + 1) = mkCell tNUM (v / 2 ^ 14) ∧
        (∀ r, r ≠ i.gd → r ≠ i.gd + 1 → t.gcell n r = s.gcell n r) ∧
        t.flagsOf n = { s.flagsOf n with c := false } ∧
        t.pcOf n = pc ∧
        t.mem = s.mem)) ∧
      (let m := (Fin.ofNat 32 (0x12 + n.val));
      let v := valOf (s.gcell n i.gd) + valOf (s.gcell n (i.gd + 1)) * 2 ^ 14;
      CoreAt s n 0x25 i →
      s.ioCheck n i = none →
      valOf (s.gcell n (i.gs + 1)) < 256 →
      Taken s m reg v →
      plainKey reg = true →
      Answers (.awlOut n e) s (fun t =>
        t.regN reg = writeByAccess reg (s.regN reg) v % 2 ^ 28 ∧
        t.flagsOf n = { s.flagsOf n with c := false } ∧
        (∀ r, t.gcell n r = s.gcell n r) ∧
        t.pcOf n = pc ∧
        t.mem = s.mem))

/-- A register command that Tongue takes from any source and that no check turns away reads or writes its registers and answers
  DONE: the values read, or nothing, or the value before a modify (R382, R388 to R390); writes are stated for registers that act
  by their access types. -/
def Obligations.RegisterCommandsComplete : Prop :=
  ∀ (src : Src) (p : Packet) (e : Env) (s : State) (b : Bus),
    let o := b.s.ownerOfSrc src;
    let k := 4 * (p.w 2 % 2 ^ 22);
      (Heard s src 0x01 p e b →
      p.len = 3 →
      regExists k = true →
      b.s.domOn (regDomain k) = true →
      Answers (.regRead src p e) s (fun t =>
        Replied b.s t src p 0 [b.s.regValue 0x16 o k % 2 ^ 32] ∧
        t.mem = b.s.mem)) ∧
      (Heard s src 0x02 p e b →
      p.len = 4 →
      regExists k = true →
      b.s.domOn (regDomain k) = true →
      b.s.writeRefused o k (p.w 3 % 2 ^ 28) = none →
      plainKey k = true →
      Answers (.regWrite src p e) s (fun t =>
        Replied b.s t src p 0 [] ∧
        t.regN k = writeByAccess k (b.s.regN k) (p.w 3 % 2 ^ 28) % 2 ^ 28 ∧
        (∀ j, j ≠ k → ¬ watchKey j → t.reg j = b.s.reg j) ∧
        t.mem = b.s.mem)) ∧
      (let mask := p.w 3 % 2 ^ 28;
      let v := p.w 4 % 2 ^ 28;
      let old := b.s.plainRead k;
      Heard s src 0x03 p e b →
      p.len = 5 →
      regExists k = true →
      b.s.domOn (regDomain k) = true →
      b.s.writeRefused o k (Nat.land v mask) = none →
      stillKey k = true →
      Answers (.regModify src p e) s (fun t =>
        Replied b.s t src p 0 [old % 2 ^ 32] ∧
        t.regN k = writeByAccess k (afterRead k (b.s.regN k) % 2 ^ 28) (modifyValue k (old % 2 ^ 32) mask v % 2 ^ 28) % 2 ^ 28 ∧
        (∀ j, j ≠ k → ¬ watchKey j → t.reg j = b.s.reg j) ∧
        t.mem = b.s.mem)) ∧
      (let n := p.w 3 % 2 ^ 12;
      Heard s src 0x04 p e b →
      p.len = 4 →
      nbit (p.w 2) 22 = false →
      1 ≤ n ∧ n ≤ 4093 →
      (∀ j, j < n → regExists (k + 4 * j) = true ∧ b.s.domOn (regDomain (k + 4 * j)) = true ∧ stillKey (k + 4 * j) = true) →
      Answers (.regBurstRead src p e) s (fun t =>
        Replied b.s t src p 0 ((List.range n).map (fun j => b.s.plainRead (k + 4 * j) % 2 ^ 32)) ∧
        t.mem = b.s.mem)) ∧
      (let n := p.body.length - 1;
      Heard s src 0x05 p e b →
      4 ≤ p.len ∧ p.len ≤ 4095 →
      nbit (p.w 2) 22 = false →
      (∀ j, j < n → regExists (k + 4 * j) = true ∧ b.s.domOn (regDomain (k + 4 * j)) = true ∧ plainKey (k + 4 * j) = true ∧
        b.s.writeRefused o (k + 4 * j) 0 = none) →
      Answers (.regBurstWrite src p e) s (fun t =>
        Replied b.s t src p 0 [] ∧
        (∀ j, j < n → t.regN (k + 4 * j) = writeByAccess (k + 4 * j) (b.s.regN (k + 4 * j)) (p.w (3 + j) % 2 ^ 28) % 2 ^ 28) ∧
        t.mem = b.s.mem))

/-- MEM_READ answers the words of Awl shared memory it names and MEM_WRITE stores its words there and nowhere else, ECHO returns
  its payload, a zero word is consumed without a reply, an opcode of no command is answered 0x10, and a packet for another
  device goes out on a COMMAND context or is answered 0x15 (R383, R387, R392, R393, R404). -/
def Obligations.MemoryCommandsComplete : Prop :=
  ∀ (src : Src) (p : Packet) (e : Env) (s : State) (b : Bus),
    let a := p.w 2 % 2 ^ 28 + p.w 3 % 2 ^ 12 * 2 ^ 28;
      (let n := p.w 4 % 2 ^ 12;
      Heard s src 0x08 p e b →
      p.len = 5 →
      a % 4 = 0 →
      1 ≤ n ∧ n ≤ 4093 →
      sharedBase ≤ a ∧ a + 4 * n ≤ sharedBase + 0x200000 →
      b.s.flag Fd.AWL_LOCK_HELD = false →
      Answers (.memRead src p e) s (fun t =>
        Replied b.s t src p 0 (b.s.words a n) ∧
        t.mem = b.s.mem)) ∧
      (let n := p.body.length - 2;
      Heard s src 0x09 p e b →
      5 ≤ p.len ∧ p.len ≤ 4095 →
      a % 4 = 0 →
      sharedBase ≤ a ∧ a + 4 * n ≤ sharedBase + 0x200000 →
      b.s.flag Fd.AWL_LOCK_HELD = false →
      Answers (.memWrite src p e) s (fun t =>
        Replied b.s t src p 0 [] ∧
        t.words a n = (p.body.drop 2).map BitVec.toNat ∧
        (∀ x, x < a ∨ a + 4 * n ≤ x → t.byte x = b.s.byte x))) ∧
      (Heard s src 0x3F p e b →
      p.len ≤ 4095 →
      Answers (.echo src p e) s (fun t =>
        Replied b.s t src p 0 (p.body.map BitVec.toNat) ∧
        RegsOnly (fun _ => False) b.s { t with tongue := b.s.tongue, welt := b.s.welt })) ∧
      (s.inEpisode = false ∧ s.serialPlaced = true →
      s.serialPartial = [] →
      s.replyWaits .serial = false →
      Answers (.idleWord .serial 0#32 e) s (fun t =>
        t.bus = .values [0] ∧
        RegsOnly (fun _ => False) s { t with bus := s.bus })) ∧
      (s.tongueFree src = true →
      ringKeys src ≠ none →
      (busOf s e).takeRing src 1 (fun ws => ws == [0]) = .took b →
      Answers (.idleWord src 0#32 e) s (fun t =>
        RegsOnly (fun _ => False) b.s { t with welt := b.s.welt })) ∧
    (∀ (op : BitVec 8),
      Heard s src op.toNat p e b →
      opKnown op.toNat = false →
      Answers (.badOpcode op src p e) s (fun t =>
        Replied b.s t src p 0x10 [] ∧
        RegsOnly (fun _ => False) b.s { t with tongue := b.s.tongue, welt := b.s.welt })) ∧
    (∀ (op : BitVec 8),
      let s1 := s.serialArrive src op.toNat p;
      s.tongue.running = none →
      s1.tongueFree src = true →
      s1.replyRoom src (firstReplyMax op.toNat p) = true →
      s1.isHere p = false →
      s1.tongue.forwarded.length < 32 →
      (busOf s1 e).takePacket src op.toNat p = .took b →
      b.s.isHere p = false →
      b.s.bootBars src op.toNat p false = false →
      Answers (.commandForward op src p e) s (fun t =>
        (b.s.fwdContext p.target.toNat = none → Replied b.s t src p 0x15 [0] ∧ t.tongue.forwarded = b.s.tongue.forwarded) ∧
        (b.s.fwdContext p.target.toNat ≠ none → t.tongue.replies = b.s.tongue.replies ∧ t.tongue.forwarded =
          b.s.tongue.forwarded ++ [⟨b.s.reqOf src p, p.target.toNat, b.s.time.now⟩]) ∧
        t.mem = b.s.mem))

/-- A forwarded packet without a reply is answered 0x15 with word 2 at 1, a reply message reaches the source it names, a COMMAND
  message waits at its context for Tongue, a waiting reply is written to its ring and RPROD moves past it, and a partial packet
  or word of the serial port sets SHERR (R397, R400, R402 to R404). -/
def Obligations.ReplyPathsComplete : Prop :=
  ∀ (s : State) (e : Env),
    (∀ (src : Src) (f : Forwarded),
      s.tongueUp = true →
      s.tongue.forwarded.find? (fun x => x.req.src == src) = some f →
      max 1 (s.get Fd.TONGUE_CFG_FWDTMO) * msTicks ≤ (s.time.now + 2 ^ 56 - f.sent) % 2 ^ 56 →
      Answers (.forwardTimeout src) s (fun t =>
        t.tongue.forwarded = dropOne f s.tongue.forwarded ∧
        t.tongue.late = s.tongue.late ++ [{ origin := s.ownerOfSrc src, tag := f.req.tag, dest := f.dest, compl := false }] ∧
        t.tongue.replies = s.tongue.replies ++ (if s.srcEnabled f.req.src = true ∧ s.genOf f.req.src = f.req.gen then
          [⟨f.req.src, s.replyWords f.req 0x15 [1], f.req.origin, true⟩] else []) ∧
        RegsOnly (fun _ => False) s { t with tongue := s.tongue })) ∧
    (∀ (i : InP) (rest : List InP) (f : Forwarded),
      s.inEpisode = false →
      s.tongueUp = true →
      s.commandWaits true = some (i :: rest) →
      s.tongue.late = [] →
      s.tongue.forwarded.find? (fun x => s.ownerOfSrc x.req.src == i.pkt.w 0 % 16 && x.req.tag == (messageWords (i ::
        rest)).headD 0 / 2 ^ 16 % 2 ^ 8 && x.dest == i.pkt.src.toNat) = some f →
      Answers .commandReplyReceive s (fun t =>
        t.tongue.forwarded = dropOne f s.tongue.forwarded ∧
        t.tongue.replies = s.tongue.replies ++ (if s.srcEnabled f.req.src = true ∧ s.genOf f.req.src = f.req.gen then
          [⟨f.req.src, messageWords (i :: rest), f.req.origin, true⟩] else []) ∧
        t.get Fd.TONGUE_STAT_LATE = (if s.srcEnabled f.req.src = true then s.get Fd.TONGUE_STAT_LATE else min 255 (s.get
          Fd.TONGUE_STAT_LATE + 1)) ∧
        RegsOnly (fun k => k = Rg.TONGUE_STAT) s { t with tongue := s.tongue, welt := s.welt })) ∧
    (∀ (i : InP) (rest : List InP),
      let c := i.pkt.dflow.toNat;
      let ws := messageWords (i :: rest);
      s.inEpisode = false →
      s.halted = false →
      s.hub.stopping = false →
      s.domOn 3 = true →
      s.commandWaits false = some (i :: rest) →
      s.commandDrops c = false →
      ws.any (fun w => w != 0) = true →
      ws.length = ws.headD 0 % 4096 →
      2 ≤ ws.length →
      Answers .commandMessageReceive s (fun t =>
        t.tongue.inbox = s.tongue.inbox ++ [(c, i.pkt.w 0 % 16, ws)] ∧
        RegsOnly (fun _ => False) s { t with tongue := s.tongue, welt := s.welt })) ∧
    (∀ (n : Fin 4) (rep : Reply),
      let v := s.regN (Rg.TONGUE_A_RPTR n);
      let base := s.ringBase (Rg.TONGUE_A_RING n);
      s.tongueUp = true →
      s.tongue.replies.find? (fun x => x.src == .core n) = some rep →
      s.ringEn (Rg.TONGUE_A_RING n) = true →
      rep.words.length ≤ ringRoom v →
      sharedBase ≤ base ∧ base + 0x8000 ≤ sharedBase + 0x200000 →
      s.flag Fd.AWL_LOCK_HELD = false →
      Answers (.replyWrite (.core n) e) s (fun t =>
        t.tongue.replies = dropOne rep s.tongue.replies ∧
        ringCons (t.regN (Rg.TONGUE_A_RPTR n)) = (ringCons v + rep.words.length) % 2 ^ 13 ∧
        (∀ j, j < rep.words.length → t.word (base + 0x4000 + (ringCons v + j) % 4096 * 4) = rep.words.getD j 0 % 2 ^ 32) ∧
        (∀ x, x < base + 0x4000 ∨ base + 0x8000 ≤ x → t.byte x = s.byte x))) ∧
    (∀ (n : Fin 4096),
      s.serialTakes = true ∧ s.serialPlaced = true →
      (n.val ≠ 0 ∨ s.serialPartial ≠ []) →
      Answers (.serialPacketTimeout n) s (fun t =>
        t.flag Fd.TONGUE_STAT_SHERR = true ∧
        t.tongue.serialIn = s.tongue.serialIn.take (s.tongue.serialIn.length - s.serialPartial.length) ∧
        RegsOnly (fun k => k = Rg.TONGUE_STAT) s { t with tongue := s.tongue, bus := s.bus })) ∧
      (s.serialTakes = true ∧ s.serialPlaced = true →
      Answers .serialPartialWord s (fun t =>
        t.flag Fd.TONGUE_STAT_SHERR = true ∧
        RegsOnly (fun k => k = Rg.TONGUE_STAT) s t))

/-- LAST_STAGE stores its words in the slot at OFFSET and raises the staged length, a copy is accepted and ends with the words
  of Awl shared memory in the slot, RELEASE empties an ADMITTED slot, LAST_ADMIT sets a STAGING slot to CHECKING, and the end of
  the checks admits it or returns it to STAGING (R79, R97 to R102). -/
def Obligations.LastStoreCompletes : Prop :=
  ∀ (src : Src) (p : Packet) (e : Env) (s : State) (b : Bus),
    let o := b.s.ownerOfSrc src;
    let slot := p.w 2 % 8;
    let opn := nbit (p.w 2) 27;
    let off := p.w 3 % 2 ^ 20;
      (let n := p.len - 4;
      Heard s src 0x10 p e b →
      nbit (p.w 2) 26 = false →
      5 ≤ p.len ∧ p.len ≤ 4095 →
      b.s.mayWrite o 9 = true →
      off + 4 * n ≤ 1048576 →
      off % 4 = 0 →
      b.s.domOn 6 = true →
      b.s.slotState slot < 2 ∧ b.s.copying slot = false →
      (b.s.slotState slot = 1 ∨ opn = true) →
      s.isHere p = true →
      Answers (.lastStage src p e) s (fun t =>
        Replied b.s t src p 0 [] ∧
        t.words (slotBase slot + off) n = (p.body.drop 2).map BitVec.toNat ∧
        t.slotState slot = 1 ∧
        tabGet 0 t.last.staged slot = max (if opn then 0 else tabGet 0 b.s.last.staged slot) (off + 4 * n) ∧
        (∀ x, x < slotBase slot ∨ slotBase slot + 0x100000 ≤ x → t.byte x = b.s.byte x))) ∧
      (let size := p.w 6 % 2 ^ 21;
      Heard s src 0x10 p e b →
      nbit (p.w 2) 26 = true →
      p.len = 7 →
      b.s.mayWrite o 9 = true →
      off + size ≤ 1048576 →
      size ≠ 0 ∧ size % 4 = 0 →
      off % 4 = 0 →
      b.s.domOn 6 = true →
      b.s.slotState slot < 2 ∧ b.s.copying slot = false →
      (b.s.slotState slot = 1 ∨ opn = true) →
      Answers (.lastStageCopy src p e) s (fun t =>
        Replied b.s t src p 1 [] ∧
        t.slotState slot = 1 ∧
        t.last.copies = b.s.last.copies ++ [⟨slot, off, p.w 5 % 2 ^ 12 * 2 ^ 28 + p.w 4 % 2 ^ 28, size, b.s.reqOf src p⟩])) ∧
    (∀ (j : Fin 8) (c : StageCopy),
      s.inEpisode = false →
      s.halted = false →
      s.last.copies.find? (fun x => x.slot == j.val) = some c →
      c.off + c.count ≤ 1048576 →
      c.count % 4 = 0 →
      sharedBase ≤ c.src ∧ c.src + c.count ≤ sharedBase + 0x200000 →
      c.src % 4 = 0 →
      s.flag Fd.AWL_LOCK_HELD = false →
      Answers (.lastStageCopyDone j e) s (fun t =>
        RepliedTo s t c.req 0 [] ∧
        t.words (slotBase j + c.off) (c.count / 4) = s.words c.src (c.count / 4) ∧
        t.last.copies = s.last.copies.filter (fun d => d.slot != j.val) ∧
        (∀ x, x < slotBase j ∨ slotBase j + 0x100000 ≤ x → t.byte x = s.byte x))) ∧
      (Heard s src 0x11 p e b →
      p.len = 3 →
      nbit (p.w 2) 27 = true →
      b.s.mayWrite o 9 = true →
      b.s.domOn 6 = true →
      b.s.flag Fd.SYS_ROLE_BUSY = false →
      b.s.slotState slot = 3 →
      (∀ h : Fin 16, b.s.flag (Fd.LAST_HD_SEL_NEXTEN h) = true → b.s.get (Fd.LAST_HD_SEL_NEXT h) ≠ slot) →
      Answers (.lastRelease src p e) s (fun t =>
        Replied b.s t src p 0 [] ∧
        t.slotState slot = 0 ∧
        (RegsOnly (fun k => k = Rg.LAST_SLOTSTAT ∨ k = Rg.LAST_SLOT_ID slot) b.s
          { t with tongue := b.s.tongue, welt := b.s.welt }))) ∧
      (Heard s src 0x11 p e b →
      p.len = 3 →
      nbit (p.w 2) 27 = false →
      b.s.mayWrite o 9 = true →
      b.s.domOn 6 = true →
      b.s.flag Fd.SYS_ROLE_BUSY = false →
      (∀ n : Fin 8, b.s.slotState n ≠ 2) →
      b.s.copying slot = false →
      b.s.slotState slot = 1 →
      b.s.imageSolesDown slot = false →
      b.s.fenced uSec = false →
      Answers (.lastAdmit src p e) s (fun t =>
        Replied b.s t src p 1 [] ∧
        t.slotState slot = 2 ∧
        t.last.admitting = some ⟨slot, b.s.reqOf src p, b.s.regN Rg.LAST_REMCFG⟩ ∧
        (RegsOnly (fun k => k = Rg.LAST_SLOTSTAT ∨ k = Rg.LAST_SLOT_ID slot) b.s
          { t with tongue := b.s.tongue, welt := b.s.welt, last := b.s.last, sec := b.s.sec }))) ∧
    (∀ (j : Fin 8) (r : Req) (rc : Nat),
      let f := (s.setRegN Rg.LAST_REMCFG rc).admitFail j;
      s.inEpisode = false →
      s.last.admitting = some ⟨j.val, r, rc⟩ →
      s.hasPath .last = true →
      Answers .lastAdmitDone s (fun t =>
        t.slotState j = (if f = none then 3 else 1) ∧
        t.last.admitting = none ∧
        (f = none → tabFind t.last.ident j = some (imgIdentity (s.slotImg j))) ∧
        RepliedTo s t r ((f.map (fun g => g.status)).getD 0) [t.regN Rg.LAST_ADMITSTAT, t.regN Rg.LAST_ADMITVAL] ∧
        t.mem = s.mem))

/-- COMMIT_ARM sets PEND of its heads and holds the arm, COMMIT_QUERY answers the frame of the last commit, CRC_EXPECT stores or
  voids a shadow expectation, PICTURE_REPORT answers the frozen record or has it signed, and the signing path answers the signed
  body (R180, R181, R188, R251, R254, R256). -/
def Obligations.CommitAndReportCommandsComplete : Prop :=
  ∀ (src : Src) (p : Packet) (e : Env) (s : State) (b : Bus),
    let o := b.s.ownerOfSrc src;
    let h := p.w 2 % 16;
    let hs := (List.range 16).filter (nbit (p.w 2));
      (let el := b.s.eligAt hs e.beam;
      Heard s src 0x12 p e b →
      p.len = 3 →
      hs ≠ [] →
      (∀ x, x ∈ hs → b.s.mayWrite o (20 + x) = true) →
      (∀ x, x ∈ hs → (b.s.headS x).running = true ∧ b.s.headDown x = false ∧ b.s.flag (Fd.HD_COMMIT_PEND x) = false) →
      Answers (.commitArm src p e) s (fun t =>
        Replied b.s t src p 1 [] ∧
        (∀ x, x ∈ hs → t.flag (Fd.HD_COMMIT_PEND x) = true) ∧
        t.pict.arms = b.s.pict.arms ++ [⟨b.s.reqOf src p, hs, el, [], none, []⟩] ∧
        t.mem = b.s.mem)) ∧
      (Heard s src 0x13 p e b →
      p.len = 3 →
      Answers (.commitQuery src p e) s (fun t =>
        (∀ f, (b.s.headS h).applied = some f → Replied b.s t src p 0 [f % 2 ^ 28, f / 2 ^ 28 % 2 ^ 28, b.s.get
          (Fd.HD_COMMIT_PEND h)]) ∧
        ((b.s.headS h).applied = none → Replied b.s t src p 0 [0, 0, b.s.get (Fd.HD_COMMIT_PEND h) + 2]) ∧
        RegsOnly (fun _ => False) b.s { t with tongue := b.s.tongue, welt := b.s.welt })) ∧
      (Heard s src 0x18 p e b →
      p.len = 4 →
      nbit (p.w 2) 8 = false →
      b.s.mayWrite o (20 + h) = true →
      b.s.headDown h = false →
      Answers (.crcExpect src p e) s (fun t =>
        Replied b.s t src p 0 [] ∧
        tabFind (t.headS h).expShadow (p.w 2 / 2 ^ 4 % 2 ^ 4) = some (some (p.w 3)) ∧
        RegsOnly (fun _ => False) b.s { t with tongue := b.s.tongue, welt := b.s.welt, pict := b.s.pict })) ∧
      (Heard s src 0x18 p e b →
      p.len = 4 →
      nbit (p.w 2) 8 = true →
      b.s.mayWrite o (20 + h) = true →
      b.s.headDown h = false →
      Answers (.crcExpectClear src p e) s (fun t =>
        Replied b.s t src p 0 [] ∧
        tabFind (t.headS h).expShadow (p.w 2 / 2 ^ 4 % 2 ^ 4) = some none ∧
        RegsOnly (fun _ => False) b.s { t with tongue := b.s.tongue, welt := b.s.welt, pict := b.s.pict })) ∧
    (∀ (rc : ReportRec),
      Heard s src 0x29 p e b →
      p.len = 7 →
      nbit (p.w 2) 4 = false →
      b.s.fenced (uHead h) = false →
      b.s.domOn (solegOf h) = true →
      (b.s.headS h).frozen = some rc →
      Answers (.pictureReport src p e) s (fun t =>
        Replied b.s t src p 0 (reportBody h rc [p.w 3, p.w 4, p.w 5, p.w 6]) ∧
        RegsOnly (fun _ => False) b.s { t with tongue := b.s.tongue, welt := b.s.welt })) ∧
    (∀ (rc : ReportRec),
      Heard s src 0x29 p e b →
      p.len = 7 →
      nbit (p.w 2) 4 = true →
      b.s.fenced (uHead h) = false →
      b.s.domOn (solegOf h) = true →
      (b.s.headS h).frozen = some rc →
      b.s.flag Fd.SEC_KEYSTAT_IDPROV = true →
      b.s.sec.sign = none →
      Answers (.pictureReportSigned src p e) s (fun t =>
        Replied b.s t src p 1 [] ∧
        t.sec.sign = some ⟨b.s.reqOf src p, reportBody h rc [p.w 3, p.w 4, p.w 5, p.w 6]⟩ ∧
        RegsOnly (fun _ => False) b.s { t with tongue := b.s.tongue, welt := b.s.welt, sec := b.s.sec })) ∧
    (∀ (j : SignJob),
      s.inEpisode = false →
      s.halted = false →
      s.sec.sign = some j →
      s.fenced uSec = false →
      Answers .signingDone s (fun t =>
        t.sec.sign = none ∧
        RepliedTo s t j.req 0 (j.body ++ signBlock s.fresh j.body) ∧
        RegsOnly (fun _ => False) s { t with tongue := s.tongue, sec := s.sec, fresh := s.fresh }))

/-- IMAGE_VERIFY is accepted, with LOAD also as a boot step, and ends with the status of the checks and, where they pass, the
  identity, PROGRAM_START moves a core to STARTING and its end starts it or stops it, either with the identity or the failed
  check as its reply, ATTEST begins the signature of the snapshot body, a boot copy that passes begins the loading, a manifest
  entry that fails is recorded, and a fuse write ends with DONE and the counter or the slot changed (R466, R467, R475, R476,
  R481, R484, R514 to R516). -/
def Obligations.TrustCommandsComplete : Prop :=
  ∀ (src : Src) (p : Packet) (e : Env) (s : State) (b : Bus),
    let o := b.s.ownerOfSrc src;
    let kind := p.w 2 / 2 ^ 26 % 4;
    let addr := p.w 3 % 2 ^ 28 + p.w 4 % 2 ^ 12 * 2 ^ 28;
    let n := p.uindex.toNat;
      (Heard s src 0x20 p e b →
      p.len = 5 →
      nbit (p.w 2) 25 = false →
      kind ≠ 3 ∧ addr % 4 = 0 →
      b.s.fenced uSec = false →
      b.s.sec.verify = none ∧ b.s.sec.loadReq = none →
      Answers (.imageVerify src p e) s (fun t =>
        Replied b.s t src p 1 [] ∧
        t.sec.verify = some ⟨b.s.reqOf src p, kind, false, addr⟩ ∧
        t.flag Fd.SEC_VSTAT_BUSY = true ∧
        RegsOnly (fun k => k = Rg.SEC_VSTAT) b.s { t with tongue := b.s.tongue, welt := b.s.welt, sec := b.s.sec })) ∧
      (Heard s src 0x20 p e b →
      p.len = 5 →
      nbit (p.w 2) 25 = true →
      kind = 0 ∧ addr % 4 = 0 →
      b.s.bootState = 2 ∧ b.s.isBootPath src = true →
      b.s.fenced uSec = false →
      b.s.sec.verify = none ∧ b.s.sec.loadReq = none →
      Answers (.imageVerifyLoad src p e) s (fun t =>
        Replied b.s t src p 1 [] ∧
        t.sec.verify = some ⟨b.s.reqOf src p, 0, true, addr⟩ ∧
        t.bootState = 3 ∧
        (RegsOnly (fun k => k = Rg.SEC_VSTAT ∨ k = Rg.SEC_BOOT) b.s
          { t with tongue := b.s.tongue, welt := b.s.welt, sec := b.s.sec }))) ∧
    (∀ (j : VerJob),
      let w0 := wordsImg (s.words j.addr 16);
      let lim := kindLimits j.kind;
      let f := (if imgHeadBad w0 lim.1 then some (formatStatus j.kind, 1) else if imgLenBad w0 lim.2 then some (formatStatus
        j.kind, 2) else s.imageCheck (wordsImg (s.words j.addr (imgLength w0 / 4))) lim.1 lim.2 : Option (Nat × Nat));
      s.inEpisode = false →
      s.halted = false →
      s.domOn 2 = true →
      s.fenced uSec = false →
      s.sec.verify = some j →
      s.hasPath .image = true →
      j.load = false →
      j.addr % 4 = 0 →
      sharedBase ≤ j.addr ∧ j.addr + 64 ≤ sharedBase + 0x200000 →
      (imgHeadBad w0 lim.1 = false → imgLenBad w0 lim.2 = false → j.addr + imgLength w0 ≤ sharedBase + 0x200000 ∧ 64 ≤ imgLength
        w0 ∧ imgLength w0 % 4 = 0) →
      s.flag Fd.AWL_LOCK_HELD = false →
      Answers (.imageVerifyDone e) s (fun t =>
        t.sec.verify = none ∧
        t.get Fd.SEC_VSTAT_BUSY = 0 ∧
        t.get Fd.SEC_VSTAT_STATUS = ((f.map (fun x => x.1)).getD 0) ∧
        (∀ x, f = some x → RepliedTo s t j.req x.1 [x.2]) ∧
        (f = none → ∃ x, RepliedTo s t j.req 0 (x :: digestWords (imgIdentity (wordsImg (s.words j.addr (imgLength w0 / 4))))))
          ∧
        t.mem = s.mem)) ∧
      (Heard s src 0x21 p e b →
      p.len = 3 →
      p.ukind.toNat = 4 ∧ n < 4 →
      b.s.mayWrite o 13 = true →
      b.s.fenced (uCore n) = false →
      b.s.domOn (awlDomOf n) = true →
      b.s.coreState n = 0 →
      b.s.rst.held.contains (uCore n) = false →
      Answers (.programStart src p e) s (fun t =>
        Replied b.s t src p 1 [] ∧
        t.coreState n = 1 ∧
        (t.core n).start = some (b.s.reqOf src p) ∧
        RegsOnly (fun k => k = Rg.AWL_STAT n) b.s
          { t with tongue := b.s.tongue, welt := b.s.welt, cores := b.s.cores, sec := b.s.sec })) ∧
    (∀ (j : Fin 4) (r : Req),
      let f := s.progCheck j;
      s.inEpisode = false →
      s.halted = false →
      (s.core j).start = some r →
      s.coreState j = 1 →
      s.fenced uSec = false ∧ s.hasPath (.core j) = true ∧ s.unitInReset (uCore j) = false →
      Answers (.programStartDone j) s (fun t =>
        (t.core j).start = none ∧
        t.coreState j = (if f = none then (if s.flag Fd.DBG_RUN_HALTREQ then 3 else 2) else 0) ∧
        (f = none → t.pcOf j = s.progImg j 12 % 2 ^ 14 ∧ t.get (Fd.AWL_STAT_IE j) = 0) ∧
        (∀ x, f = some x → RepliedTo s t r x.1 [x.2]) ∧
        (f = none → ∃ x, RepliedTo s t r 0 (x :: digestWords (imgIdentity (s.progImg j)))) ∧
        t.mem = s.mem)) ∧
      (Heard s src 0x28 p e b →
      p.len = 6 →
      b.s.fenced uSec = false →
      b.s.flag Fd.SEC_KEYSTAT_IDPROV = true →
      b.s.sec.sign = none →
      Answers (.attest src p e) s (fun t =>
        Replied b.s t src p 1 [] ∧
        t.sec.sign = some ⟨b.s.reqOf src p, b.s.attestBody [p.w 2, p.w 3, p.w 4, p.w 5]⟩ ∧
        RegsOnly (fun _ => False) b.s { t with tongue := b.s.tongue, welt := b.s.welt, sec := b.s.sec })) ∧
    (∀ (ws : List Word),
      let u := { s with sec := { s.sec with buf := (ws.map BitVec.toNat).take 2048 } };
      s.inEpisode = false →
      s.halted = false →
      s.bootState = 1 →
      s.fenced uSec = false →
      Answers (.bootFlashReadDone (some ws)) s (fun t =>
        (u.manCheck true = none → t.bootState = 4 ∧ t.sec.entry = 0 ∧ t.sec.buf = u.sec.buf) ∧
        (∀ f, u.manCheck true = some f → t.get Fd.SEC_BOOTERR_STATUS = f.1 % 2 ^ 8 ∧ t.get Fd.SEC_BOOTERR_DETAIL = f.2 % 2 ^ 8 ∧
          t.sec.buf = []) ∧
        t.mem = s.mem)) ∧
    (∀ (bs : List Byte) (b2 : Bus) (x : List Nat),
      let w := s.manImg;
      let i := s.sec.entry;
      let ws := bytesWords ((List.range (entLen w i)).map (fun k => (bs.getD k 0).toNat));
      s.inEpisode = false →
      s.halted = false ∧ s.bootState = 4 ∧ s.fenced uSec = false →
      s.sec.loadReq = none ∧ s.entryDown w i true = false →
      (entryGddr w i true = false ∨ s.flag Fd.MEM_STAT_READY = true) →
      entKind w i ≠ 1 ∧ i + 1 < manCount w →
      (busOf s e).entryStore w i ws = .ok x false b2 →
      b2.s.sec = s.sec →
      Answers (.bootEntryLoaded (some bs) e) s (fun t =>
        t.mem = b2.s.mem ∧
        (sha3 (wordBytes ws) = entDigest w i → t.sec = { s.sec with entry := i + 1 } ∧ t.regs = b2.s.regs) ∧
        (sha3 (wordBytes ws) ≠ entDigest w i → t.get Fd.SEC_BOOTERR_DETAIL = 0x19))) ∧
      (s.inEpisode = false →
      s.halted = false →
      s.bootState = 4 →
      s.fenced uSec = false →
      s.sec.loadReq = none →
      s.entryDown s.manImg s.sec.entry true = true →
      Answers (.bootEntryLoaded none e) s (fun t =>
        t.get Fd.SEC_BOOTERR_ENTRY = s.sec.entry % 2 ^ Fd.SEC_BOOTERR_ENTRY.w ∧
        t.get Fd.SEC_BOOTERR_DETAIL = 0x1B ∧
        t.bootState = (if s.flag Fd.SEC_CFG_RECOV then 2 else 6) ∧
        t.mem = s.mem)) ∧
    (∀ (op arg : Nat) (key : List Nat),
      s.inEpisode = false →
      s.sec.fuse = some (op, arg, key) →
      s.rst.waiting = [] →
      Answers .fuseWriteDone s (fun t =>
        t.sec.fuse = none ∧
        t.flag Fd.SEC_FUSECMD_BUSY = false ∧ t.flag Fd.SEC_FUSECMD_DONE = true ∧
        t.fuses.rollback = (if op = 1 then arg else s.fuses.rollback) ∧
        (op ≠ 1 → tabGet {} t.fuses.slots (arg % 4) = fusedSlot op key (s.keySlot (arg % 4))) ∧
        t.mem = s.mem))

/-- FAULT_READ answers FLT_SUM and four words of each entry asked for, FAULT_ACK frees a unit's entries of a class and answers
  how many, and the end of a controlled stop asserts the C4 source of the strap's reach (R693, R695, R696). -/
def Obligations.FaultCommandsComplete : Prop :=
  ∀ (src : Src) (p : Packet) (e : Env) (s : State) (b : Bus),
    let o := b.s.ownerOfSrc src;
      (let first := p.w 2 % 2 ^ 6;
      let n := p.w 2 / 2 ^ 6 % 2 ^ 7;
      Heard s src 0x30 p e b →
      p.len = 3 →
      n ≠ 0 ∧ first + n ≤ 64 →
      Answers (.faultRead src p e) s (fun t =>
        Replied b.s t src p 0 (b.s.fltSum :: (List.range n).flatMap (fun i => (List.range 4).map (b.s.logWord (first + i)))) ∧
        RegsOnly (fun _ => False) b.s { t with tongue := b.s.tongue, welt := b.s.welt })) ∧
      (let u := p.w 2 % 2 ^ 16;
      let cls := p.w 2 / 2 ^ 16 % 2 ^ 3;
      let all := nbit (p.w 2) 19;
      let hit := fun (x : Nat × FaultRec) => x.2.unit == u && (all || x.2.cls == cls);
      Heard s src 0x31 p e b →
      p.len = 3 →
      b.s.mayWrite o 4 = true →
      unitValid u = true →
      (all = true ∨ cls ≤ 4) →
      Answers (.faultAck src p e) s (fun t =>
        Told t (b.s.reqOf src p) 0 [(b.s.hub.log.filter hit).length] ∧
        t.hub.log = b.s.hub.log.filter (fun x => !hit x) ∧
        t.unackOf u = (if all then 0 else Nat.land (b.s.unackOf u) (Nat.xor 31 (2 ^ cls % 32))) ∧
        t.mem = b.s.mem)) ∧
      (let r := (if s.flag Fd.RST_STRAP_FATALREACH then .fatalCold else .fatalWarm : ResetSrc);
      s.hub.stopping = true →
      s.sec.fuse = none →
      s.rst.asserted = [] →
      Answers .controlledStopEnd s (fun t =>
        t.rst.asserted = [r] ∧
        r ∈ t.rst.causes))

/-- A UNIT_RESET of a unit whose domain its owner may write and whose power is on asserts the unit reset: a pulse waits for its
  end to answer, a hold answers and keeps the unit held, a release answers and lets go of it, and the end of a pulse answers its
  command (R430, R431). -/
def Obligations.UnitResetsComplete : Prop :=
  ∀ (src : Src) (p : Packet) (e : Env) (s : State) (b : Bus),
    let o := b.s.ownerOfSrc src;
    let u := p.sel;
      (Heard s src 0x38 p e b →
      p.len = 3 →
      p.w 2 % 4 = 0 →
      u / 1024 ≠ 0 ∧ u / 1024 < 0x10 ∧ unitValid u = true →
      b.s.mayWrite o (unitOwner u) = true →
      b.s.domOn (unitDomain u) = true →
      Answers (.unitResetPulse src p e) s (fun t =>
        u ∈ t.rst.pulsed ∧
        (u, b.s.reqOf src p) ∈ t.tongue.resets ∧
        (u / 1024 = 5 ∨ u / 1024 = 8 → b.s.fenced u = false → t.mem = b.s.mem ∧ ∀ k, k ∈ unitKeys u → t.reg k = (b.s.unitReg
          k).reg k))) ∧
      (Heard s src 0x38 p e b →
      p.len = 3 →
      p.w 2 % 4 = 1 →
      u / 1024 ≠ 0 ∧ u / 1024 < 0x10 ∧ unitValid u = true →
      b.s.mayWrite o (unitOwner u) = true →
      b.s.domOn (unitDomain u) = true →
      Answers (.unitResetHold src p e) s (fun t =>
        u ∈ t.rst.held ∧
        Told t (b.s.reqOf src p) 0 [] ∧
        (u / 1024 = 5 ∨ u / 1024 = 8 → b.s.fenced u = false → t.mem = b.s.mem ∧ ∀ k, k ∈ unitKeys u → t.reg k = (b.s.unitReg
          k).reg k))) ∧
      (Heard s src 0x38 p e b →
      p.len = 3 →
      p.w 2 % 4 = 2 →
      u / 1024 ≠ 0 ∧ u / 1024 < 0x10 ∧ unitValid u = true →
      b.s.mayWrite o (unitOwner u) = true →
      b.s.domOn (unitDomain u) = true →
      u ∈ b.s.rst.held →
      Answers (.unitResetRelease src p e) s (fun t =>
        t.rst.held = b.s.rst.held.filter (fun x => x != u) ∧
        Told t (b.s.reqOf src p) 0 [])) ∧
    (∀ (k : BitVec 6) (i : BitVec 10) (r : Req),
      let v := unitOf k.toNat i.toNat;
      s.inEpisode = false →
      v ∈ s.rst.pulsed →
      (v, r) ∈ s.tongue.resets →
      Answers (.unitResetEnd k i) s (fun t =>
        t.rst.pulsed = s.rst.pulsed.filter (fun x => x != v) ∧
        t.tongue.resets = s.tongue.resets.filter (fun x => x.1 != v) ∧
        Told t r 0 []))

/-- DEVICE_RESET answers DONE and makes its reset due, POWER_STATE answers ACCEPTED with BUSY set and its target stored, RUN and
  DIM changing the request of domains, a transition ends at its state with BUSY clear and its completion sent, and an enabled
  wake starts the exit from NAP or STOW (R432, R447 to R449). -/
def Obligations.DeviceResetAndPowerCommandsComplete : Prop :=
  ∀ (src : Src) (p : Packet) (e : Env) (s : State) (b : Bus),
    let o := b.s.ownerOfSrc src;
    let req := b.s.get Fd.PWR_DOMREQ_REQ;
    let sg := p.w 2 / 2 ^ 4 % 2 ^ 4;
      (Heard s src 0x39 p e b →
      p.len = 3 →
      b.s.mayWrite o 3 = true →
      p.w 2 = 0x3E50 →
      Answers (.deviceResetWarm src p e) s (fun t =>
        Replied b.s t src p 0 [] ∧
        t.rst = { b.s.rst with due := some (.cmdwarm, src) } ∧
        RegsOnly (fun _ => False) b.s { t with tongue := b.s.tongue, welt := b.s.welt, rst := b.s.rst })) ∧
      (Heard s src 0x39 p e b →
      p.len = 3 →
      b.s.mayWrite o 3 = true →
      p.w 2 = 0x3E51 →
      Answers (.deviceResetCold src p e) s (fun t =>
        Replied b.s t src p 0 [] ∧
        t.rst = { b.s.rst with due := some (.cmdcold, src) } ∧
        RegsOnly (fun _ => False) b.s { t with tongue := b.s.tongue, welt := b.s.welt, rst := b.s.rst })) ∧
      (let want := Nat.lor req b.s.roleSolegs;
      Heard s src 0x3A p e b →
      p.len = 3 →
      p.w 2 % 8 = 0 →
      b.s.mayWrite o 3 = true →
      b.s.flag Fd.SYS_ROLE_BUSY = false ∧ b.s.flag Fd.PWR_STATE_BUSY = false →
      (2 ≤ b.s.get Fd.PWR_STATE_STATE ∨ want = req ∨ b.s.domreqBad want = false) →
      Answers (.powerStateRun src p e) s (fun t =>
        Told t (b.s.reqOf src p) 1 [] ∧
        t.flag Fd.PWR_STATE_BUSY = true ∧
        t.rst.target = some 0 ∧
        t.tongue.power = some (b.s.reqOf src p) ∧
        t.get Fd.PWR_DOMREQ_REQ = want % 2 ^ 20)) ∧
      (let want := req - Nat.land req (sg * 2 ^ 7);
      Heard s src 0x3A p e b →
      p.len = 3 →
      p.w 2 % 8 = 1 →
      sg ≠ 0 →
      b.s.mayWrite o 3 = true →
      b.s.flag Fd.SYS_ROLE_BUSY = false ∧ b.s.flag Fd.PWR_STATE_BUSY = false →
      (List.range 4).any (fun g => nbit sg g && b.s.solegRunning g) = false →
      (2 ≤ b.s.get Fd.PWR_STATE_STATE ∨ want = req ∨ b.s.domreqBad want = false) →
      Answers (.powerStateDim src p e) s (fun t =>
        Told t (b.s.reqOf src p) 1 [] ∧
        t.flag Fd.PWR_STATE_BUSY = true ∧
        t.rst.target = some 1 ∧
        t.tongue.power = some (b.s.reqOf src p) ∧
        t.get Fd.PWR_DOMREQ_REQ = want % 2 ^ 20)) ∧
      (Heard s src 0x3A p e b →
      p.len = 3 →
      p.w 2 % 8 = 2 →
      b.s.mayWrite o 3 = true →
      b.s.flag Fd.SYS_ROLE_BUSY = false ∧ b.s.flag Fd.PWR_STATE_BUSY = false →
      b.s.headsBusy = false →
      Answers (.powerStateNap src p e) s (fun t =>
        Replied b.s t src p 1 [] ∧
        t.flag Fd.PWR_STATE_BUSY = true ∧
        t.rst.target = some 2 ∧
        t.tongue.power = some (b.s.reqOf src p) ∧
        RegsOnly (fun k => k = Rg.PWR_STATE) b.s { t with tongue := b.s.tongue, welt := b.s.welt, rst := b.s.rst })) ∧
      (Heard s src 0x3A p e b →
      p.len = 3 →
      p.w 2 % 8 = 3 →
      b.s.mayWrite o 3 = true →
      b.s.flag Fd.SYS_ROLE_BUSY = false ∧ b.s.flag Fd.PWR_STATE_BUSY = false →
      b.s.headsBusy = false →
      Answers (.powerStateStow src p e) s (fun t =>
        Replied b.s t src p 1 [] ∧
        t.flag Fd.PWR_STATE_BUSY = true ∧
        t.rst.target = some 3 ∧
        t.tongue.power = some (b.s.reqOf src p) ∧
        RegsOnly (fun k => k = Rg.PWR_STATE) b.s { t with tongue := b.s.tongue, welt := b.s.welt, rst := b.s.rst })) ∧
      (Heard s src 0x3A p e b →
      p.len = 3 →
      p.w 2 % 8 = 4 →
      b.s.mayWrite o 3 = true →
      b.s.flag Fd.SYS_ROLE_BUSY = false ∧ b.s.flag Fd.PWR_STATE_BUSY = false →
      b.s.headsBusy = false →
      Answers (.powerStateOff src p e) s (fun t =>
        Replied b.s t src p 1 [] ∧
        t.flag Fd.PWR_STATE_BUSY = true ∧
        t.rst.target = some 4 ∧
        t.tongue.power = some (b.s.reqOf src p) ∧
        RegsOnly (fun k => k = Rg.PWR_STATE) b.s { t with tongue := b.s.tongue, welt := b.s.welt, rst := b.s.rst })) ∧
    (∀ (r : Req),
      s.inEpisode = false →
      (s.rst.target = some 0 ∨ s.rst.target = some 1 ∨ s.rst.target = some 2 ∧ s.rst.wakeLatched = none) →
      s.get Fd.PWR_STATE_STATE ≤ 1 →
      s.tongue.power = some r →
      Answers .powerStateDone s (fun t =>
        t.flag Fd.PWR_STATE_BUSY = false ∧
        t.rst.target = none ∧
        t.tongue.power = none ∧
        t.get Fd.PWR_STATE_STATE = (if s.rst.target = some 2 then 2 else s.get Fd.PWR_STATE_STATE) ∧
        Told t r 0 [])) ∧
    (∀ (c : Nat),
      s.inEpisode = false →
      s.rst.target = some 0 →
      s.rst.wakeLatched = some c ∧ c < 8 →
      s.get Fd.PWR_STATE_STATE = 2 →
      Answers .powerStateDone s (fun t =>
        t.flag Fd.PWR_STATE_BUSY = false ∧
        t.get Fd.PWR_STATE_STATE ≤ 1 ∧
        t.get Fd.PWR_STATE_WAKESRC = c ∧
        t.get Fd.PWR_DOMON_ON = s.get Fd.PWR_DOMREQ_REQ)) ∧
    (∀ (w : WakeSrc),
      s.inEpisode = false →
      s.wakeOn w = true →
      (w = .ewake → s.eyeFn 21 1 = true) →
      (w = .tcs → s.eyeFn 17 1 = true) →
      s.rst.target = none →
      (s.get Fd.PWR_STATE_STATE = 2 ∨ s.get Fd.PWR_STATE_STATE = 3 ∧ w ≠ .pcie) →
      Answers (.wakeEvent w) s (fun t =>
        t.flag Fd.PWR_STATE_BUSY = true ∧
        t.rst = { s.rst with target := some 0, wakeLatched := some (wakeCode w), deep := false } ∧
        RegsOnly (fun k => k = Rg.PWR_STATE) s { t with rst := s.rst })) ∧
      (s.inEpisode = false →
      s.flag Fd.PWR_WAKE_ALMEN = true →
      s.alarmDue = true →
      s.rst.target = none →
      (s.get Fd.PWR_STATE_STATE = 2 ∨ s.get Fd.PWR_STATE_STATE = 3) →
      Answers .alarmWake s (fun t =>
        t.flag Fd.PWR_STATE_BUSY = true ∧
        t.rst = { s.rst with target := some 0, wakeLatched := some 2, deep := false } ∧
        RegsOnly (fun k => k = Rg.PWR_STATE) s { t with rst := s.rst })) ∧
    (∀ (v : Nat),
      s.inEpisode = false →
      s.rst.roleTo = some v →
      v % 2 = 1 ∧ v < 2 ^ 20 →
      s.domOn 0 = true →
      Answers .roleChangeDone s (fun t =>
        t.flag Fd.SYS_ROLE_BUSY = false ∧
        t.rst.roleTo = none ∧
        t.get Fd.PWR_DOMREQ_REQ = v ∧
        t.get Fd.PWR_DOMON_ON = v ∧
        0 ∈ t.icu.pend))

/-- A source that asserts outside an episode begins one, a cold one clearing the memory and giving every register its cold
  value, the last one to drop ends it with its cause bit, the role's power domains and, after a cold one, the straps; supply
  levels set and clear LIVE and WARN with a record and a source, and the backup block shows its losses (R424 to R427, R438 to
  R440). -/
def Obligations.ResetEpisodesComplete : Prop :=
  ∀ (s : State) (n : Fin 11) (r : ResetSrc) (src : Src) (straps : BitVec 6),
      (s.rst.asserted = [] →
      s.sec.fuse = none →
      (r = .por ∨ r = .pin ∨ (r = .cmdcold ∨ r = .cmdwarm) ∧ s.rst.due = some (r, src) ∧ s.doneHeld src = false) →
      Answers (.resetAssert r) s (fun t =>
        t.rst.asserted = [r] ∧
        r ∈ t.rst.causes ∧
        (resetCold r = true → t.mem = [] ∧ t.regs = ((s.regColumns (fun f => f.cold) (fun k => if Rg.EY 6 ≤ k ∧ k < Rg.EY 128
          then tabGet 0 s.fuses.regs k else 0)).set Fd.PWR_SUPSTAT_LIVE (s.get Fd.PWR_SUPSTAT_LIVE)).regs) ∧
        (resetCold r = false → t.time.now = s.time.now) ∧
        t.fuses = s.fuses)) ∧
      (s.rst.asserted = [r] →
      r ∈ s.rst.causes →
      s.mayDrop r = true →
      Answers (.resetRelease r straps) s (fun t =>
        t.rst.asserted = [] ∧
        t.rst.causes = [] ∧
        t.flag (resetCause r) = true ∧
        t.flag Fd.RST_CAUSE_COLD = s.rst.causes.any resetCold ∧
        t.get Fd.PWR_DOMON_ON = t.roleSet ∧
        (s.rst.causes.any resetCold = true → t.get Fd.RST_STRAP_BOOTSRC = straps.toNat % 4 ∧ t.get Fd.RST_STRAP_CLKMODE =
          straps.toNat / 4 % 4 ∧ t.get Fd.RST_STRAP_ROLE = straps.toNat / 16))) ∧
      (r ∈ s.rst.asserted →
      s.mayDrop r = true →
      (∃ x, x ∈ s.rst.asserted ∧ x ≠ r) →
      Answers (.resetRelease r straps) s (fun t =>
        t.rst =
          { s.rst with asserted := s.rst.asserted.filter (fun x => x != r), supDown := if r = .supwarm then 0 else s.rst.supDown }
          ∧
        RegsOnly (fun _ => False) s { t with rst := s.rst })) ∧
      (s.inEpisode = false →
      s.rst.causes = [] →
      Answers (.supplyWarning n) s (fun t =>
        nbit (t.get Fd.PWR_SUPSTAT_LIVE) n = true ∧ nbit (t.get Fd.PWR_SUPSTAT_WARN) n = true ∧
        (s.domOn 0 = true → 2 ∈ t.icu.pend) ∧
        Recorded s t (uSupply n) 0x09 1 0 ∧
        t.mem = s.mem)) ∧
      (let src := (if n.val < 2 then .supcold else .supwarm : ResetSrc);
      s.rst.asserted = [] →
      s.sec.fuse = none →
      nbit (s.get Fd.PWR_SUPSTAT_LIVE) n = true →
      Answers (.supplyResetLevel n) s (fun t =>
        t.rst.asserted = [src] ∧
        src ∈ t.rst.causes ∧
        (2 ≤ n.val → nbit t.rst.supDown n = true) ∧
        (n.val = 2 → t.rst.vddq = true))) ∧
      (Answers (.supplyRecovery n) s (fun t =>
        nbit (t.get Fd.PWR_SUPSTAT_LIVE) n = false ∧
        RegsOnly (fun k => k = Rg.PWR_SUPSTAT) s t)) ∧
      (Answers .backupSupplyLoss s (fun t =>
        t.rst = { s.rst with slow := 0, frac := 0, bakLost := true } ∧
        t.regN Rg.RST_BAKCNT = 0 ∧
        (RegsOnly (fun k => k = Rg.RST_BAKCNT ∨ k = Rg.RST_CAUSE) s { t with rst := s.rst }))) ∧
      (Answers .oscfail s (fun t =>
        t.flag Fd.RST_CAUSE_OSCFAIL = true ∧
        RegsOnly (fun k => k = Rg.RST_CAUSE) s t))

/-- PERST_N low sets PERST, clears the endpoint's state and gives its registers their Unit column, and its release clears PERST
  and starts the time of configuration retries, a link that trains within MAXGEN and MAXW sets LINKUP, GEN and WIDTH, a link
  that goes down clears them with DLDOWN and a record, and an inbound access of Awl shared memory through the window reads or
  writes the words there (R318, R320). -/
def Obligations.PcieEventsComplete : Prop :=
  ∀ (s : State) (gen : BitVec 3) (width : BitVec 2) (taps : List (Byte × Byte × Byte)) (off : BitVec 28) (n : Fin 1025) (data : List (BitVec 4 × Word)) (errs : List Nat) (e : Env),
    let a := s.get Fd.PCIE_CTL_WINBASE * 2 ^ 28 + off.toNat;
      (s.inEpisode = false →
      s.eyeFn 14 1 = true →
      s.domOn 12 = true →
      Answers (.perstN true) s (fun t =>
        t.flag Fd.PCIE_STAT_PERST = true ∧
        t.regN Rg.PCIE_CTL = unitNat Rg.PCIE_CTL (s.regN Rg.PCIE_CTL) ∧
        t.lanes.ep = {} ∧
        t.icu.msixPend = [] ∧
        t.mem = s.mem)) ∧
      (s.inEpisode = false →
      s.eyeFn 14 1 = true →
      s.domOn 12 = true →
      s.flag Fd.PCIE_STAT_PERST = true →
      Answers (.perstN false) s (fun t =>
        t.flag Fd.PCIE_STAT_PERST = false ∧
        t.lanes = { s.lanes with ep := { s.lanes.ep with released := some s.time.now } } ∧
        RegsOnly (fun k => k = Rg.PCIE_STAT) s { t with lanes := s.lanes })) ∧
      (s.inEpisode = false →
      s.isPcie = true →
      s.flag Fd.PCIE_STAT_PERST = false →
      s.fenced (uPort 0) = false →
      s.unitInReset (uPort 0) = false →
      1 ≤ gen.toNat ∧ gen.toNat ≤ s.get Fd.PCIE_CTL_MAXGEN →
      width.toNat ≤ s.get Fd.PCIE_CTL_MAXW →
      Answers (.pcieLinkUp gen width taps) s (fun t =>
        t.flag Fd.PCIE_STAT_LINKUP = true ∧
        t.get Fd.PCIE_STAT_GEN = gen.toNat ∧ t.get Fd.PCIE_STAT_WIDTH = width.toNat ∧
        t.get (Fd.EYE_WP_STAT_STATE 0) = 2 ∧
        t.mem = s.mem)) ∧
      (s.inEpisode = false →
      s.isPcie = true →
      s.flag Fd.PCIE_STAT_LINKUP = true →
      Answers .pcieLinkDown s (fun t =>
        t.flag Fd.PCIE_STAT_LINKUP = false ∧ t.get Fd.PCIE_STAT_GEN = 0 ∧ t.get Fd.PCIE_STAT_WIDTH = 0 ∧
        t.flag Fd.PCIE_STAT_DLDOWN = true ∧
        t.mem = s.mem ∧
        Recorded s t (uPort 0) 0x2B 1 0)) ∧
      (s.pcieUp = true →
      s.epD0 = true →
      off.toNat % 4 = 0 →
      sharedBase ≤ a ∧ a + 4 * n.val ≤ sharedBase + 0x200000 →
      (s.domOn 4 = true ∨ s.domOn 5 = true) →
      s.flag Fd.AWL_LOCK_HELD = false →
      s.halted = false →
      n.val ≠ 0 →
      Answers (.pcieInboundAccess 1 false off n data errs e) s (fun t =>
        t.bus = .values (s.words a n) ∧
        t.mem = s.mem)) ∧
      (s.pcieUp = true →
      s.epD0 = true →
      off.toNat % 4 = 0 →
      sharedBase ≤ a ∧ a + 4 * data.length ≤ sharedBase + 0x200000 →
      (s.domOn 4 = true ∨ s.domOn 5 = true) →
      s.flag Fd.AWL_LOCK_HELD = false →
      s.halted = false →
      data ≠ [] ∧ data.all (fun d => d.1 == 15#4) = true →
      Answers (.pcieInboundAccess 1 true off n data errs e) s (fun t =>
        t.bus = .done ∧
        t.words a data.length = data.map (fun d => d.2.toNat) ∧
        (∀ x, x < a ∨ a + 4 * data.length ≤ x → t.byte x = s.byte x)))

/-- A gauge window's end writes PACE and lowers MINPACE, with a C1 record when the core is slow at a high set point. The supply
  loop chooses its set point at a period's end and sends it as one VOUT_COMMAND, measures again after a settle wait, takes the
  exponent of VOUT_MODE or fails on a mode that is not linear, settles or holds after a send, tries a failed transaction again
  and ends with PMBERR, EN 0 and a record after the third retry (R48 to R52, R62 to R70). -/
def Obligations.PaceEventsComplete : Prop :=
  ∀ (s : State) (g : Fin 20) (v : Fin 16384) (mode : Byte),
    let low := s.get Fd.PWR_VSET_VSET;
      (let slow := v.val < 1024 ∧ 720 ≤ low ∧ nbit (s.get Fd.PWR_SUPSTAT_WARN) 0 = false ∧ s.tjCool = true;
      s.inEpisode = false →
      s.gaugeRuns g = true →
      Answers (.paceWindowEnd g v) s (fun t =>
        t.get (gaugePace g) = v ∧ t.get (gaugeMin g) = min v.val (s.get (gaugeMin g)) ∧
        (slow → Recorded s t (gaugeUnit g) 0x08 1 0) ∧
        (¬ slow → t.hub = s.hub) ∧
        t.mem = s.mem ∧ t.pace = s.pace)) ∧
      (let tgt := (s.get Fd.PWR_PACETGT_TARGET : Int);
      let want := (if s.pace.counted = false then (s.get Fd.PWR_VSET_IDLE : Int) else if s.pace.worst < tgt then (low : Int) +
        10 else if s.pace.worst > tgt + (s.get Fd.PWR_PACETGT_DEADBAND : Int) then (low : Int) - 5 else (low : Int));
      let new := (clampInt s.vLower s.vUpper want).toNat;
      s.inEpisode = false →
      s.pace.phase = .measure →
      s.pace.left = 0 →
      s.halted = false →
      Answers .loopPeriodEnd s (fun t =>
        t.get Fd.PWR_VSET_VSET = new ∧
        t.flag Fd.PWR_PACESTAT_NOSRC = !s.pace.counted ∧
        t.get Fd.PWR_PACESTAT_WORST = unsignedOf 12 s.pace.worst ∧
        (new = low → t.pace =
          { s.pace with phase := .measure, tx := none, tries := 0, left := s.periodTicks, worst := 2047, wsole := none, counted := s.anyCounts })
          ∧
        (new ≠ low → t.pace.phase = .sending ∧ t.pace.left = attemptTicks ∧ t.pace.tx.map (fun x => (x.ctl, x.addr, x.code,
          x.word)) = some (s.get Fd.PWR_PACECTL_I2CSEL, s.get Fd.PWR_PACECTL_VREGADDR, 0x21, voutWord s.pace.expo new
          (Config.freeValue s.fresh))) ∧
        t.flag Fd.PWR_PACESTAT_BUSY = decide (new ≠ low) ∧
        (RegsOnly (fun k => k = Rg.PWR_PACESTAT ∨ k = Rg.PWR_VSET) s { t with pace := s.pace, fresh := s.fresh }))) ∧
      (s.inEpisode = false →
      s.pace.phase = .settling →
      s.pace.left = 0 →
      s.pace.known = true →
      s.pace.guardDue = false →
      s.halted = false →
      Answers .loopSettleEnd s (fun t =>
        t.pace =
          { s.pace with phase := .measure, tx := none, tries := 0, left := s.periodTicks, worst := 2047, wsole := none, counted := s.anyCounts }
          ∧
        t.flag Fd.PWR_PACESTAT_BUSY = false ∧
        RegsOnly (fun k => k = Rg.PWR_PACESTAT) s { t with pace := s.pace })) ∧
      (s.inEpisode = false →
      s.pace.phase = .holding →
      s.pace.left = 0 →
      s.halted = false →
      Answers .loopHoldEnd s (fun t =>
        t.pace = { s.pace with phase := .settling, tx := none, tries := 0, left := s.settleTicks, wait := false } ∧
        t.flag Fd.PWR_PACESTAT_EMERG = false ∧
        RegsOnly (fun k => k = Rg.PWR_PACESTAT) s { t with pace := s.pace })) ∧
    (∀ (x : PmbTx),
      s.inEpisode = false →
      s.pace.phase = .readMode →
      s.pace.tx = some x ∧ x.started = true →
      s.pace.stop = false ∧ s.pace.final = false ∧ s.pace.wait = false ∧ s.pace.guardDue = false ∧ s.pace.again = [] →
      s.flag Fd.PWR_PACECTL_EN = true →
      s.halted = false →
      mode.toNat / 2 ^ 5 = 0 →
      Answers (.pmbusTransactionDone true mode) s (fun t =>
        t.pace =
          { s.pace with phase := .measure, tx := none, tries := 0, left := s.periodTicks, worst := 2047, wsole := none, counted := s.anyCounts, known := true, expo := some mode.toNat }
          ∧
        t.flag Fd.PWR_PACESTAT_BUSY = false ∧
        RegsOnly (fun k => k = Rg.PWR_PACESTAT) s { t with pace := s.pace })) ∧
    (∀ (x : PmbTx),
      s.inEpisode = false →
      s.pace.phase = .readMode →
      s.pace.tx = some x ∧ x.started = true →
      s.pace.stop = false ∧ s.pace.final = false ∧ s.pace.again = [] →
      mode.toNat / 2 ^ 5 ≠ 0 →
      Answers (.pmbusTransactionDone true mode) s (fun t =>
        t.flag Fd.PWR_PACESTAT_PMBERR = true ∧ t.flag Fd.PWR_PACECTL_EN = false ∧
        t.pace.phase = .off ∧ t.pace.tx = none ∧
        (RegsOnly (fun k => k = Rg.PWR_PACESTAT ∨ k = Rg.PWR_PACECTL) s { t with pace := s.pace }))) ∧
    (∀ (x : PmbTx),
      s.inEpisode = false →
      (s.pace.phase = .sending ∨ s.pace.phase = .emergSend) →
      s.pace.tx = some x ∧ x.started = true →
      s.pace.stop = false ∧ s.pace.final = false ∧ s.pace.wait = false ∧ s.pace.again = [] →
      s.pace.known = true →
      (s.pace.phase = .sending → s.pace.guardDue = false) →
      s.flag Fd.PWR_PACECTL_EN = true →
      s.halted = false →
      Answers (.pmbusTransactionDone true mode) s (fun t =>
        t.pace =
          { s.pace with phase := if s.pace.phase = .sending then .settling else .holding, tx := none, tries := 0, left := if s.pace.phase = .sending then s.settleTicks else s.holdTicks }
          ∧
        t.flag Fd.PWR_PACESTAT_BUSY = false ∧
        RegsOnly (fun k => k = Rg.PWR_PACESTAT) s { t with pace := s.pace })) ∧
    (∀ (x : PmbTx),
      s.inEpisode = false →
      s.pace.tx = some x ∧ x.started = true →
      s.pace.tries < 3 →
      Answers (.pmbusTransactionDone false mode) s (fun t =>
        t.pace = { s.pace with tries := s.pace.tries + 1, left := attemptTicks } ∧
        RegsOnly (fun _ => False) s { t with pace := s.pace })) ∧
      (s.inEpisode = false →
      s.pace.busy = true →
      s.pace.left = 0 →
      s.pace.tries < 3 →
      Answers .pmbusTimeout s (fun t =>
        t.pace = { s.pace with tries := s.pace.tries + 1, left := attemptTicks } ∧
        RegsOnly (fun _ => False) s { t with pace := s.pace })) ∧
      (s.inEpisode = false →
      s.pace.busy = true →
      s.pace.left = 0 →
      3 ≤ s.pace.tries →
      s.pace.again = [] →
      Answers .pmbusTimeout s (fun t =>
        t.flag Fd.PWR_PACESTAT_PMBERR = true ∧ t.flag Fd.PWR_PACECTL_EN = false ∧
        t.pace.phase = .off ∧ t.pace.tx = none ∧
        Recorded s t uLoop 0x0A 2 0 ∧
        t.mem = s.mem))

/-- A latch point begins the next frame of each running head of its mask or stops the head whose RUN is 0, a due snapshot read
  takes its granules, a released line goes to the Soles of the running Last, a list's arrival lets its line start, the head's
  oldest beam entry is issued or the entries of a line past are lost, a granule enters the fetch buffer, a stitch with its data
  runs, and a line done or abandoned gives its slack and makes way (R54 to R56, R155, R169, R174, R183, R267). -/
def Obligations.LinesComplete : Prop :=
  ∀ (s : State) (h : Fin 16) (sl : Fin 16) (y : Fin 16384) (e : Env),
    (∀ (mask : BitVec 16),
      s.inEpisode = false →
      nbit mask.toNat h = true →
      (s.headS h).running = true →
      Answers (.latchPoint mask e) s (fun t =>
        (s.flag (Fd.HD_CTL_RUN h) = true → (t.headS h).frame = ((s.headS h).frame + 1) % 2 ^ 56 ∧ (t.headS h).line = 0 ∧
          (t.headS h).inFrame = true ∧ (t.headS h).running = true) ∧
        (s.flag (Fd.HD_CTL_RUN h) = false → (t.headS h).running = false ∧ (t.headS h).frame = (s.headS h).frame))) ∧
    (∀ (u : State),
      let due := s.snapDue h y;
      s.inEpisode = false →
      s.fenced (uSole (s.lowSole h)) = false ∧ s.hub.stopping = false →
      s.tacksBound (s.lowSole h) < 448 →
      due ≠ [] →
      (busOf s e).snapRead (soleWho (s.lowSole h)) h y due = .done u →
      Answers (.spriteSnapshotRead h y e) s (fun t =>
        (t.headS h).snap.line = some y.val ∧
        (t.headS h).snap.todo = (s.headS h).snap.todo.drop due.length ∧
        (t.headS h).snap.range = (s.headS h).snap.range)) ∧
      (let n := if y.val = 0 then s.vTotal h else y.val;
      s.inEpisode = false →
      (s.headS h).running = true →
      (s.headS h).line < n ∧ n ≤ s.vTotal h →
      Answers (.lineRelease h y e) s (fun t =>
        (t.headS h).line = n ∧
        (s.halted = false → s.curv h = true → y.val ≠ 0 → sl.val ∈ s.runSoles h → t.fenced (uSole sl) = false → (t.soleS
          sl).line = some y.val ∨ y.val ∈ (t.soleS sl).next) ∧
        ((s.headS h).wb = none → (s.headS h).wbOut = [] → t.mem = s.mem))) ∧
    (∀ (u : State) (writes tk lb : Nat) (first : Bool) (rest : List Nat),
      let n := ceilDiv (min writes 64) 8;
      s.inEpisode = false →
      s.halted = false →
      (s.headS h).listWait = y.val :: rest →
      s.listOf h y = some (writes, first) →
      (s.lineCtx h (s.lowSole h) y).map (fun x => (x.ltacks, x.lbytes)) = some (tk, lb) →
      tk ≠ 0 →
      (busOf s e).listRead (soleWho (s.lowSole h)) h y writes (decide (y.val < s.lineNow h e.beam)) (decide (lb < n)) []
        (s.slotAddr h y) (min n lb) = .done u →
      Answers (.lineListExecute h e) s (fun t =>
        (t.headS h).listWait = rest.filter (fun z => z != y.val) ∧
        (t.headS h).line = (s.headS h).line)) ∧
    (∀ (x : Fin 16384) (b : BeamEnt) (rest : List BeamEnt),
      let k := (lineKeys h).getD (b.tgt % 4) 0;
      let now := if x.val < s.hStart h then (s.headS h).line else (s.headS h).line - 1;
      s.inEpisode = false →
      (s.headS h).beam = b :: rest →
      s.halted = false →
      (s.headS h).running = true →
      b.line = now ∧ b.pos ≤ x.val →
      Answers (.beamEntryIssue h x) s (fun t =>
        (t.headS h).beam = rest.filter (fun z => decide (now ≤ z.line)) ∧
        (b.op ≠ 3 → t.regN (activeBase + k) = writeByAccess k (s.regN (activeBase + k)) b.val % 2 ^ 28) ∧
        t.mem = s.mem)) ∧
    (∀ (b : BeamEnt) (rest : List BeamEnt),
      s.inEpisode = false →
      (s.headS h).beam = b :: rest →
      b.line < (s.headS h).line →
      Answers (.beamEntryLost h) s (fun t =>
        (t.headS h).beam = (b :: rest).filter (fun x => decide (b.line < x.line)) ∧
        RegsOnly (fun k => k = Rg.HD_LLSTAT h) s { t with pict := s.pict })) ∧
    (∀ (num : Fin 16384) (lat : Fin 65536) (a : Nat) (d : List Nat) (b : Bus),
      s.inEpisode = false →
      s.hub.stopping = false →
      (s.soleS sl).line = some y.val →
      (s.granuleDue sl num).map (fun x => x.2) = some a →
      (busOf s e).layerRead (soleWho sl) a = .ok d b →
      Answers (.granuleAnswer sl num lat e) s (fun t =>
        (t.soleS sl).got = (s.soleS sl).got ++ [⟨y, num, some d⟩] ∧
        t.get (Fd.FETCH_SL_LAT_MAX sl) = max (s.get (Fd.FETCH_SL_LAT_MAX sl)) (min 255 lat) ∧
        t.ranOf sl y = s.ranOf sl y)) ∧
      (s.inEpisode = false →
      (s.soleS sl).line = some y.val →
      (s.soleCtx sl).any (fun c => decide (s.ranOf sl y < c.total) && stitchFree s c) = true →
      Answers (.stitchRun sl) s (fun t =>
        t.ranOf sl y = s.ranOf sl y + 1 ∧
        (t.soleS sl).line = some y.val ∧
        t.mem = s.mem)) ∧
    (∀ (d : Int),
      s.inEpisode = false →
      (s.soleS sl).line = some y.val →
      s.halted = false →
      s.soleTotal sl y ≤ s.ranOf sl y →
      Answers (.lineDone sl d) s (fun t =>
        (t.soleS sl).line = (s.soleS sl).next.head? ∧ (t.soleS sl).next = (s.soleS sl).next.tail ∧
        (s.soleTotal sl y ≠ 0 → t.get (Fd.SL_SLACK_LAST sl) = unsignedOf 12 (s.slackOf (s.soleS sl).head d) % 2 ^ 12) ∧
        t.mem = s.mem)) ∧
      (s.inEpisode = false →
      (s.soleS sl).line = some y.val →
      s.halted = false →
      s.pastDue sl = true →
      Answers (.soleLineAbandon sl) s (fun t =>
        (t.soleS sl).line = (s.soleS sl).next.head? ∧ (t.soleS sl).next = (s.soleS sl).next.tail ∧
        (s.ranOf sl y < s.soleTotal sl y → t.get (Fd.SL_SLACK_LAST sl) = 0x800) ∧
        t.mem = s.mem))

/-- A block missing at output shows background from it on with a C1 record, a rectangle's comparison marks a mismatch with its
  record, a third line over two waiting ones drops the older frame's writeback with a C0 record, writeback ends with DONE once
  its rows are written, the next pixels of the line leave as one picture packet, and a reference event starts a waiting head or
  moves its lock, an absent one puts it in HOLDOVER (R216, R217, R234, R236, R243, R250, R361). -/
def Obligations.OutputsComplete : Prop :=
  ∀ (s : State) (h : Fin 16) (e : Env),
    let y := (s.headS h).line - 1;
    (∀ (b : Fin 512),
      s.inEpisode = false →
      (s.headS h).running = true ∧ (s.headS h).line ≠ 0 →
      s.activeLine h y = true ∧ s.noUnderrun h y = false →
      (s.lineCtxs h y).any (fun c => (c.left s).contains b.val) = true →
      s.darkFrom h y = none ∧ (s.headS h).marks.contains (y, 20) = false →
      s.fenced (uSole (s.blockSole h y b)) = false →
      Answers (.headUnderrun h b) s (fun t =>
        t.darkFrom h y = some b.val ∧
        t.get (Fd.HD_STAT_URCNT h) = min 127 (s.get (Fd.HD_STAT_URCNT h) + 1) ∧
        Recorded s t (uSole (s.blockSole h y b)) 0x10 1 h ∧
        t.mem = s.mem)) ∧
    (∀ (i : Fin 16) (r : RectRun) (x : Nat),
      let r1 := if r.rows = r.height then r else s.rectRow h y r;
      s.inEpisode = false →
      (s.headS h).rects.find? (fun q => q.index == i.val) = some r →
      s.rectsEnding h y (r.x0 + r.width) = [r] →
      (r.rows = r.height ∨ r.rows + 1 = r.height) →
      r.expect = some x ∧ r.compared = false →
      (s.headS h).report.halt = false ∧ s.halted = false ∧ s.fenced (uHead h) = false →
      Answers (.rectCrcCompare h i) s (fun t =>
        (t.headS h).rects.find? (fun q => q.index == i.val) = some
          { r1 with compared := true, mismatch := decide (crcEnd r1.crc ≠ x) } ∧
        (crcEnd r1.crc ≠ x → nbit (t.get (Fd.HD_STAT_MISMATCH h)) i = true) ∧
        (crcEnd r1.crc ≠ x → (s.headS h).misRec = false → Recorded s t (uHead h) 0x16 (s.get (Fd.HD_CTL_MISCLS h).act) i) ∧
        (crcEnd r1.crc = x → t.regs = s.regs ∧ t.hub = s.hub) ∧
        t.mem = s.mem)) ∧
      (s.inEpisode = false →
      (s.headS h).running = true ∧ (s.headS h).line ≠ 0 →
      s.activeLine h y = true →
      2 ≤ (s.headS h).wbOut.length →
      ((s.headS h).wb.isSome = true ∨ (s.headS h).wbTail ≠ 0) →
      Answers (.writebackDrop h) s (fun t =>
        t.flag (Fd.HD_WBCTL_DROP h) = true ∧
        ((s.headS h).wbTail = 0 → (t.headS h).wb = none ∧ (t.headS h).wbOut = [] ∧ t.flag (Fd.HD_WBCTL_BUSY h) = false) ∧
        ((s.headS h).wbTail ≠ 0 → (t.headS h).wb = (s.headS h).wb ∧ (t.headS h).wbTail = 0 ∧ (t.headS h).wbOut = (s.headS
          h).wbOut.drop (s.headS h).wbTail ∧ t.flag (Fd.HD_WBCTL_BUSY h) = (s.headS h).wb.isSome) ∧
        Recorded s t (uHead h) 0x17 0 0 ∧
        t.mem = s.mem)) ∧
    (∀ (w : WbRun) (l : List Nat) (b : Bus),
      let v := s.headS h;
      s.inEpisode = false →
      s.masterFrozen 0x19 = false →
      v.wb = some w ∧ w.rows = s.vActive h ∧ v.wbTail = 0 →
      (busOf s e).wbRows { masterWho 0x19 with q := 304 + h, regs := false } v.wbOut = .ok l false b →
      Answers (.writebackDone h e) s (fun t =>
        (t.headS h).wb = none ∧ (t.headS h).wbOut = [] ∧
        t.flag (Fd.HD_WBCTL_DONE h) = true ∧ t.flag (Fd.HD_WBCTL_BUSY h) = false ∧
        t.mem = b.s.mem)) ∧
    (∀ (n : Fin 32) (c : Nat) (credit : Bool),
      let same := (s.headS h).pic.filter (fun q => q.1 == y);
      let xa := (same.map (fun q => q.2.2)).getD 0;
      let port := s.get (Fd.RT_PORT (s.fcPeer c));
      s.inEpisode = false →
      (s.headS h).running = true ∧ (s.headS h).line ≠ 0 →
      s.activeLine h y = true →
      s.get (Fd.HD_CTL_OUT h).act = 1 →
      n.val ≠ 0 ∧ xa + n.val ≤ s.hActive h →
      (same.map (fun q => q.2.1)).or (s.picContext h) = some c →
      (s.headS h).pic.all (fun q => q.1 == y || !s.welt.mid.contains q.2.1) = true →
      Answers (.picturePacketSend h n credit) s (fun t =>
        (t.headS h).pic = some (y, c, xa + n.val) ∧
        (t.headS h).line = (s.headS h).line ∧
        ((s.halted = false ∨ s.flag Fd.DBG_CTL_WELTRUN = true ∨ credit = true) → (s.curv h = false ∨ s.firstMissing h y = none)
          → s.fenced uSwitch = false → s.fcPeer c ≠ s.devId → s.flag (Fd.RT_VALID (s.fcPeer c)) = true → s.weltUp port = true →
          (tabGet [] t.welt.queue port).any (fun x => x.pkt.kind == 4#4 && x.pkt.payload == (s.picWords h y xa n).map (fun v =>
          BitVec.ofNat 32 v)) = true) ∧
        t.mem = s.mem)) ∧
    (∀ (err : Int) (ival : Nat) (rising : Bool),
      let src := s.get (Fd.HD_CTL_SRC h).act;
      s.inEpisode = false →
      (src = 1 ∧ s.eyeFn (44 + s.get (Fd.HD_CTL_FSEL h).act) 1 = true ∧ rising = !s.flag (Fd.HD_CTL_FEDGE h).act ∨ src = 2 ∧
        s.epochDue h = true) →
      (s.headS h).waitRef = true →
      s.flag (Fd.HD_CTL_RUN h) = true →
      Answers (.referenceEvent h rising err ival) s (fun t =>
        (t.headS h).running = true ∧ (t.headS h).waitRef = false ∧
        (t.headS h).frame = ((s.headS h).frame + 1) % 2 ^ 56)) ∧
    (∀ (err : Int) (ival : Nat) (rising : Bool),
      let src := s.get (Fd.HD_CTL_SRC h).act;
      let ivals := (ival :: (s.headS h).ivals).take 7;
      let lock := s.get (Fd.HD_STAT_LOCK h);
      let r := s.phaseErr h err;
      s.inEpisode = false →
      (src = 1 ∧ s.eyeFn (44 + s.get (Fd.HD_CTL_FSEL h).act) 1 = true ∧ rising = !s.flag (Fd.HD_CTL_FEDGE h).act ∨ src = 2 ∧
        s.epochDue h = true) →
      (s.headS h).waitRef = false ∧ (s.headS h).running = true →
      Answers (.referenceEvent h rising err ival) s (fun t =>
        ((lock = 1 ∨ lock = 2) → s.outOfRange h ivals = true → t.get (Fd.HD_STAT_LOCK h) = 3 ∧ t.flag (Fd.HD_STAT_LOSS h) = true
          ∧ Recorded s t (uHead h) 0x15 1 0) ∧
        (lock = 1 → s.outOfRange h ivals = false → s.errWithin h r 20000 = true → 7 ≤ (s.headS h).good → t.get (Fd.HD_STAT_LOCK
          h) = 2) ∧
        (lock = 2 → s.outOfRange h ivals = false → s.errWithin h r 100000 = false → t.get (Fd.HD_STAT_LOCK h) = 1) ∧
        (lock = 2 → s.outOfRange h ivals = false → s.errWithin h r 100000 = true → t.regs = s.regs) ∧
        (lock = 3 → s.outOfRange h ivals = false → t.get (Fd.HD_STAT_LOCK h) = 1) ∧
        (lock ≠ 1 → (t.headS h).running = true ∧ t.mem = s.mem))) ∧
      (s.inEpisode = false →
      ((s.headS h).running = true ∨ (s.headS h).waitRef = true) →
      s.hasRef h = true →
      (s.get (Fd.HD_STAT_LOCK h) = 1 ∨ s.get (Fd.HD_STAT_LOCK h) = 2) →
      Answers (.referenceAbsent h) s (fun t =>
        t.get (Fd.HD_STAT_LOCK h) = 3 ∧ t.flag (Fd.HD_STAT_LOSS h) = true ∧
        (t.headS h).good = 0 ∧
        Recorded s t (uHead h) 0x15 1 0 ∧
        t.mem = s.mem))

/-- A grant takes one tack for the class whose turn it is, the end of training makes each channel READY or FAIL with its results
  and the reports of failures, a temperature read sets HOT, a short retraining writes RDEYE, and the end of an ECC region's
  zeroing clears BUSY (R270, R282, R283, R285, R290). -/
def Obligations.MemoryEventsComplete : Prop :=
  ∀ (s : State) (k : Fin 8),
      (s.inEpisode = false →
      s.domOn 6 = true →
      s.poolNext s.fetch.waiting = some k.val →
      Answers (.poolTackGrant k) s (fun t =>
        t.get (Fd.FETCH_POOL_STAT_HELD k) = (s.poolHeld k + 1) % 2 ^ (Fd.FETCH_POOL_STAT_HELD k).w ∧
        tabGet 0 t.fetch.granted k = tabGet 0 s.fetch.granted k + 1 ∧
        t.fetch.waiting = s.fetch.waiting.filter (fun j => j != k.val) ∧
        RegsOnly (fun j => j = Rg.FETCH_POOL_STAT k) s { t with fetch := s.fetch })) ∧
    (∀ (rate : Fin 4) (fail : BitVec 6) (eyes : List (Byte × Byte)) (c : Fin 6),
      s.inEpisode = false →
      s.domOn 11 = true →
      s.get Fd.PWR_STATE_STATE ≠ 2 →
      c.val ∈ s.fetch.training →
      s.fetch.training.any (fun x => s.unitInReset (uMemCh x)) = false →
      Answers (.memTrainingDone rate fail eyes) s (fun t =>
        t.fetch.training = [] ∧
        t.chState c = (if c.val ∈ s.trainBad fail.toNat then 4 else 2) ∧
        t.get (Fd.MEM_CH_STAT_RATE c) = s.trainRate rate fail.toNat c % 4 ∧
        (nbit fail.toNat c = true → t.flag Fd.MEM_STAT_TRAINFAIL = true) ∧
        t.mem = s.mem)) ∧
    (∀ (hot : BitVec 6) (c : Fin 6),
      s.inEpisode = false →
      s.domOn 11 = true →
      nbit (s.get Fd.MEM_STAT_CHEFF) c = true →
      Answers (.memDeviceTempRead hot) s (fun t =>
        t.flag (Fd.MEM_CH_STAT_HOT c) = nbit hot.toNat c ∧
        RegsOnly (fun j => j ∈ (List.range 6).map Rg.MEM_CH_STAT) s t)) ∧
    (∀ (c : Fin 6) (eye : Byte),
      s.inEpisode = false →
      s.domOn 11 = true →
      s.fetch.retrain ≠ 0 →
      s.chState c = 2 →
      Answers (.memShortRetrain c eye) s (fun t =>
        t.get (Fd.MEM_CH_TRAIN_RDEYE c) = eye.toNat ∧
        RegsOnly (fun j => j = Rg.MEM_CH_TRAIN c) s t)) ∧
      (s.inEpisode = false →
      s.domOn 11 = true →
      Answers (.eccInitDone k) s (fun t =>
        t.flag (Fd.MEM_ECC_BUSY k) = false ∧
        RegsOnly (fun j => j = Rg.MEM_ECC k) s t))

/-- A Welt training that passes brings its port UP with its rate and taps and one that fails reports C2 and leaves FAIL, a lane
  failure moves to the spare or fails the port, the spare and the reference report their loss, hot plug and training move a
  DisplayPort's status, and the checkers and the eye scan write their results (R312 to R317, R322, R326, R327). -/
def Obligations.LaneEventsComplete : Prop :=
  ∀ (s : State) (p : Fin 8) (n : Fin 32),
    (∀ (rate : Fin 4) (rxBad txBad : BitVec 4) (taps : List (Byte × Byte × Byte)),
      s.inEpisode = false →
      s.domOn (lanegOf p) = true ∧ s.portMode p = 1 ∧ s.portState p = 1 →
      s.get (Fd.EYE_WP_CFG_RATE p) ≤ rate.val ∧ rate.val ≤ s.get (Fd.EYE_WP_CFG_RATEMIN p) ∧ rate.val < 3 →
      Answers (.weltTrainingDone p true rate rxBad txBad taps) s (fun t =>
        (t.fenced (uPort p) = false → t.portState p = 2) ∧
        t.get (Fd.EYE_WP_STAT_RATE p) = rate ∧
        (rxBad.toNat < 4 → s.flag (Fd.EYE_WP_CFG_SPARE p) = true → t.flag (Fd.EYE_WP_STAT_RXREMAP p) = true ∧ t.get
          (Fd.EYE_WP_STAT_RXSPARE p) = rxBad.toNat) ∧
        (4 ≤ rxBad.toNat ∧ 4 ≤ txBad.toNat → t.hub = s.hub) ∧
        t.flag (Fd.EYE_L_STAT_LOCK (4 * p)) = true ∧
        t.mem = s.mem)) ∧
    (∀ (rate : Fin 4) (rxBad txBad : BitVec 4) (taps : List (Byte × Byte × Byte)),
      s.inEpisode = false →
      s.domOn (lanegOf p) = true ∧ s.portMode p = 1 ∧ s.portState p = 1 →
      Answers (.weltTrainingDone p false rate rxBad txBad taps) s (fun t =>
        t.portState p = 3 ∧
        Recorded s t (uPort p) 0x28 2 0 ∧
        t.mem = s.mem)) ∧
    (∀ (rate : Fin 4) (rxBad txBad : BitVec 4) (taps : List (Byte × Byte × Byte)),
      s.inEpisode = false →
      s.domOn (lanegOf p) = true ∧ s.portMode p = 1 ∧ s.portState p = 3 →
      s.fenced (uPort p) = true →
      s.flag (Fd.EYE_WP_CFG_AUTOREMAP p) = true ∧ s.flag (Fd.EYE_WP_STAT_READY p) = false ∧ s.unitInReset (uPort p) = false →
      s.get (Fd.EYE_WP_CFG_RATE p) ≤ rate.val ∧ rate.val ≤ s.get (Fd.EYE_WP_CFG_RATEMIN p) ∧ rate.val < 3 →
      Answers (.weltTrainingAttempt p true rate rxBad txBad taps) s (fun t =>
        t.flag (Fd.EYE_WP_STAT_READY p) = true ∧
        t.portState p = 3 ∧
        t.get (Fd.EYE_WP_STAT_RATE p) = rate ∧
        t.mem = s.mem)) ∧
    (∀ (lane : Fin 4) (rx : Bool),
      let used := if rx then s.flag (Fd.EYE_WP_STAT_RXREMAP p) else s.flag (Fd.EYE_WP_STAT_TXREMAP p);
      let spare := if rx then s.get (Fd.EYE_WP_STAT_RXSPARE p) else s.get (Fd.EYE_WP_STAT_TXSPARE p);
      s.inEpisode = false →
      s.weltUp p = true →
      s.flag (Fd.EYE_WP_CFG_SPARE p) = true ∧ spare ≠ lane.val →
      used = false →
      (rx = true → s.flag (Fd.EYE_WP_CFG_AUTOREMAP p) = true ∧ s.flag (Fd.EYE_WP_STAT_SPAREBAD p) = false) →
      Answers (.laneFail p lane rx false) s (fun t =>
        (if rx then t.get (Fd.EYE_WP_STAT_RXSPARE p) else t.get (Fd.EYE_WP_STAT_TXSPARE p)) = lane ∧
        (if rx then t.flag (Fd.EYE_WP_STAT_RXREMAP p) else t.flag (Fd.EYE_WP_STAT_TXREMAP p)) = true ∧
        Recorded s t (uPort p) 0x29 1 lane ∧
        (s.unackOf (uPort p) = 0 → t.portState p = 2) ∧
        t.mem = s.mem)) ∧
    (∀ (lane : Fin 4) (rx busy : Bool),
      s.inEpisode = false →
      s.weltUp p = true →
      s.flag (Fd.EYE_WP_CFG_SPARE p) = false →
      Answers (.laneFail p lane rx busy) s (fun t =>
        t.portState p = 3 ∧
        Recorded s t (uPort p) 0x28 2 0 ∧
        t.mem = s.mem)) ∧
      (s.inEpisode = false →
      s.weltUp p = true →
      s.flag (Fd.EYE_WP_CFG_SPARE p) = true ∧ s.flag (Fd.EYE_WP_STAT_SPAREBAD p) = false →
      Answers (.spareFail p) s (fun t =>
        t.flag (Fd.EYE_WP_STAT_SPAREBAD p) = true ∧
        (s.domOn 0 = true → 192 + p.val ∈ t.icu.pend) ∧
        Recorded s t (uPort p) 0x29 1 (s.get (Fd.EYE_WP_STAT_RXSPARE p)) ∧
        t.mem = s.mem)) ∧
      (s.inEpisode = false →
      s.get Fd.RST_STRAP_CLKMODE = 2 ∧ s.lanes.refLost = false →
      Answers .referenceLost s (fun t =>
        t.lanes = { s.lanes with refLost := true } ∧
        t.flag (Fd.EYE_WP_STAT_REFLOST 0) = true ∧
        Recorded s t (uPort 0) 0x2A 1 0 ∧
        t.mem = s.mem)) ∧
      (s.inEpisode = false →
      Answers .referenceRegained s (fun t =>
        t.lanes = { s.lanes with refLost := false } ∧
        RegsOnly (fun _ => False) s { t with lanes := s.lanes })) ∧
      (s.inEpisode = false →
      s.eyeFn (32 + p) 1 = true →
      s.domOn 0 = true ∧ s.domOn (lanegOf p) = true ∧ s.unitInReset (uPort p) = false →
      Answers (.dpHpdRise p) s (fun t =>
        t.flag (Fd.DP_WP_STAT_HPD p) = true ∧
        206 + p.val ∈ t.icu.pend ∧
        (s.isDp p = true → s.fenced (uPort p) = false → t.portState p = 1 ∧ p.val ∈ t.lanes.dpTrain) ∧
        (RegsOnly (fun k => k = Rg.DP_WP_STAT p ∨ k = Rg.EYE_WP_STAT p) s { t with icu := s.icu, lanes := s.lanes }))) ∧
      (s.inEpisode = false →
      s.domOn 0 = true ∧ s.domOn (lanegOf p) = true ∧ s.unitInReset (uPort p) = false →
      Answers (.dpHpdLow p) s (fun t =>
        t.flag (Fd.DP_WP_STAT_HPD p) = false ∧
        206 + p.val ∈ t.icu.pend ∧
        (s.isDp p = true → t.flag (Fd.DP_WP_STAT_TRAINED p) = false ∧ p.val ∉ t.lanes.dpTrain) ∧
        (s.isDp p = true → s.fenced (uPort p) = false → t.portState p = 0) ∧
        t.mem = s.mem)) ∧
    (∀ (lost : Bool),
      s.inEpisode = false →
      s.eyeFn (32 + p) 1 = true →
      s.domOn 0 = true ∧ s.isDp p = true ∧ s.flag (Fd.DP_WP_STAT_HPD p) = true →
      Answers (.dpIrqHpd p lost) s (fun t =>
        t.flag (Fd.DP_WP_STAT_IRQHPD p) = true ∧
        206 + p.val ∈ t.icu.pend ∧
        t.portState p = (if lost = true ∧ s.fenced (uPort p) = false then 1 else s.portState p) ∧
        (RegsOnly (fun k => k = Rg.DP_WP_STAT p ∨ k = Rg.EYE_WP_STAT p) s { t with icu := s.icu, lanes := s.lanes }))) ∧
    (∀ (rate : Fin 8) (lanes : Fin 4) (ilr : Option (Fin 4 × Fin 8)) (taps : List (Byte × Byte × Byte)),
      s.inEpisode = false →
      s.isDp p = true ∧ p.val ∈ s.lanes.dpTrain →
      s.dpAllowed p rate lanes (ilr.map (fun x => x.1.val)) = true →
      Answers (.dpTrainingDone p true rate lanes ilr taps) s (fun t =>
        t.flag (Fd.DP_WP_STAT_TRAINED p) = true ∧
        t.get (Fd.DP_WP_STAT_RATE p) = rate ∧ t.get (Fd.DP_WP_STAT_LANES p) = lanes.val ∧
        t.flag (Fd.DP_WP_STAT_ILRUSE p) = ilr.isSome ∧
        t.portState p = 2 ∧
        p.val ∉ t.lanes.dpTrain ∧
        t.mem = s.mem)) ∧
    (∀ (rate : Fin 8) (lanes : Fin 4) (ilr : Option (Fin 4 × Fin 8)) (taps : List (Byte × Byte × Byte)),
      s.inEpisode = false →
      s.isDp p = true ∧ p.val ∈ s.lanes.dpTrain →
      Answers (.dpTrainingDone p false rate lanes ilr taps) s (fun t =>
        t.flag (Fd.DP_WP_STAT_TRAINED p) = false ∧ t.flag (Fd.DP_WP_STAT_TRFAIL p) = true ∧
        Recorded s t (uPort p) 0x2C 1 0 ∧
        p.val ∉ t.lanes.dpTrain ∧
        t.mem = s.mem)) ∧
    (∀ (r : Nat) (lost : Bool),
      s.inEpisode = false →
      s.flag (Fd.EYE_L_SCAN_BUSY n) = true →
      Answers (.eyeScanDone n r lost) s (fun t =>
        t.flag (Fd.EYE_L_SCAN_BUSY n) = false ∧
        t.get (Fd.EYE_L_SCAN_RESULT n) = (if lost then 255 else min 255 r) ∧
        t.flag (Fd.EYE_L_STAT_LOCK n) = (if lost then false else s.flag (Fd.EYE_L_STAT_LOCK n)) ∧
        (RegsOnly (fun k => k = Rg.EYE_L_SCAN n ∨ k = Rg.EYE_L_STAT n) s t))) ∧
    (∀ (errs : Nat),
      s.inEpisode = false →
      s.checkerRuns n = true →
      Answers (.checkerSync n errs) s (fun t =>
        t.flag (Fd.EYE_L_STAT_SYNC n) = true ∧
        t.get (Fd.EYE_L_ERR_ERRCNT n) = (if s.flag (Fd.EYE_L_STAT_SYNC n) then min 0xFFFFFFF (s.get (Fd.EYE_L_ERR_ERRCNT n) +
          errs) else s.get (Fd.EYE_L_ERR_ERRCNT n)) ∧
        (RegsOnly (fun k => k = Rg.EYE_L_STAT n ∨ k = Rg.EYE_L_ERR n) s t))) ∧
    (∀ (errs : Nat),
      s.inEpisode = false →
      s.checkerRuns n = true ∧ s.flag (Fd.EYE_L_STAT_SYNC n) = true →
      Answers (.checkerSyncLoss n errs) s (fun t =>
        t.flag (Fd.EYE_L_STAT_SYNC n) = false ∧ t.flag (Fd.EYE_L_STAT_SYNCLOSS n) = true ∧
        t.get (Fd.EYE_L_ERR_ERRCNT n) = min 0xFFFFFFF (s.get (Fd.EYE_L_ERR_ERRCNT n) + errs) ∧
        (RegsOnly (fun k => k = Rg.EYE_L_STAT n ∨ k = Rg.EYE_L_ERR n) s t)))

/-- A frame with a bad CRC is counted, one in sequence goes on by its route or to its block, a replay request puts its frame and
  the later ones before the queue, a port sends the frames to resend and then the next packet of the highest class with credit,
  a waiting tile request is served from the aperture and answered, an answer reaches the request its tag names, and a request
  without one ends with status 3 (R337 to R355). -/
def Obligations.WeltLinksComplete : Prop :=
  ∀ (s : State) (p : Fin 8) (pkt : WeltPkt) (frac : BitVec 16) (lseq : BitVec 12) (fec : List Nat) (e : Env),
    let k := pkt.kind.toNat;
      (s.inEpisode = false →
      (s.weltUp p = true ∧ (s.halted = false ∨ s.flag Fd.DBG_CTL_WELTRUN = true)) →
      Answers (.weltFrameReceive p false lseq pkt frac fec) s (fun t =>
        t.get (Fd.WELT_WP_CNT_COUNT p 25) = min 0xFFFFFFF (s.get (Fd.WELT_WP_CNT_COUNT p 25) + 1) ∧
        (RegsOnly (fun j => j = (Fd.WELT_WP_CNT_COUNT p 25).key ∨ ∃ i : Fin 4, j = Rg.EYE_L_ERR (4 * p + i)) s t))) ∧
    (∀ (q : Nat) (alt : Bool),
      s.inEpisode = false →
      (s.weltUp p = true ∧ (s.halted = false ∨ s.flag Fd.DBG_CTL_WELTRUN = true)) →
      lseq.toNat = tabGet 0 s.welt.rxSeq p →
      2 ≤ k ∧ k ≤ 7 ∧ pkt.len.toNat ≤ 64 ∧ pkt.len.toNat = pkt.payload.length →
      (s.trusted p = true ∨ k ≠ 7) →
      pkt.dest.toNat ≠ s.devId ∧ s.fenced uSwitch = false →
      s.weltRoute pkt.dest.toNat = some (q, alt) →
      pkt.hop.toNat < 16 →
      Answers (.weltFrameReceive p true lseq pkt frac fec) s (fun t =>
        tabGet [] t.welt.queue q = tabGet [] s.welt.queue q ++ [⟨p, pkt, alt, 0⟩] ∧
        tabGet 0 t.welt.rxSeq p = (lseq.toNat + 1) % 4096 ∧
        (RegsOnly (fun j => j = (Fd.WELT_WP_CNT_COUNT p (8 + k)).key ∨ ∃ i : Fin 4, j = Rg.EYE_L_ERR (4 * p + i)) s
          { t with welt := s.welt }))) ∧
      (let stamp := (s.time.now * 65536 + frac.toNat) / 1024 * 1024;
      s.inEpisode = false →
      (s.weltUp p = true ∧ (s.halted = false ∨ s.flag Fd.DBG_CTL_WELTRUN = true)) →
      lseq.toNat = tabGet 0 s.welt.rxSeq p →
      1 ≤ k ∧ k ≤ 7 ∧ pkt.len.toNat ≤ 64 ∧ pkt.len.toNat = pkt.payload.length →
      (s.trusted p = true ∨ k ≠ 7 ∧ k ≠ 1) →
      (k = 1 ∨ pkt.dest.toNat = s.devId) →
      (s.sec.ctxSet = true ∨ k ≠ 7) →
      (s.fcBoundary pkt).weltRefuse pkt = none ∧ weltFormatOk pkt = true →
      Answers (.weltFrameReceive p true lseq pkt frac fec) s (fun t =>
        t.welt.inbox = s.welt.inbox ++ [⟨some p.val, pkt, stamp⟩] ∧
        tabGet 0 t.welt.rxSeq p = (lseq.toNat + 1) % 4096 ∧
        (RegsOnly (fun j => j = (Fd.WELT_WP_CNT_COUNT p (8 + k)).key ∨ ∃ i : Fin 4, j = Rg.EYE_L_ERR (4 * p + i)) s
          { t with welt := s.welt }))) ∧
      (let l := (tabGet [] s.welt.replay p).dropWhile (fun x => x.1 != lseq.toNat);
      s.inEpisode = false →
      s.weltUp p = true →
      l ≠ [] →
      Answers (.weltReplay p lseq) s (fun t =>
        tabGet [] t.welt.resend p = l ∧
        t.get (Fd.WELT_WP_CNT_COUNT p 24) = min 0xFFFFFFF (s.get (Fd.WELT_WP_CNT_COUNT p 24) + 1) ∧
        RegsOnly (fun j => j = (Fd.WELT_WP_CNT_COUNT p 24).key) s { t with welt := s.welt })) ∧
    (∀ (credit : BitVec 6) (o : OutP),
      s.inEpisode = false →
      (s.weltUp p = true ∧ (s.halted = false ∨ s.flag Fd.DBG_CTL_WELTRUN = true)) →
      tabGet [] s.welt.resend p = [] ∧ s.weltNext p credit.toNat = some o →
      Answers (.weltPacketSend p credit frac) s (fun t =>
        tabGet [] t.welt.queue p = dropOne o (tabGet [] s.welt.queue p) ∧
        tabGet 0 t.welt.txSeq p = (tabGet 0 s.welt.txSeq p + 1) % 4096 ∧
        (tabGet [] t.welt.replay p).getLast?.map (fun x => (x.1, x.2.2.hop)) = some (tabGet 0 s.welt.txSeq p, o.pkt.hop + 1#5) ∧
        t.get (Fd.WELT_WP_CNT_COUNT p o.pkt.kind.toNat) = min 0xFFFFFFF (s.get (Fd.WELT_WP_CNT_COUNT p o.pkt.kind.toNat) + 1) ∧
        t.mem = s.mem)) ∧
    (∀ (credit : BitVec 6) (x : Nat × Nat × WeltPkt) (rest : List (Nat × Nat × WeltPkt)),
      s.inEpisode = false →
      (s.weltUp p = true ∧ (s.halted = false ∨ s.flag Fd.DBG_CTL_WELTRUN = true)) →
      tabGet [] s.welt.resend p = x :: rest →
      Answers (.weltPacketSend p credit frac) s (fun t =>
        tabGet [] t.welt.resend p = rest ∧
        t.welt.queue = s.welt.queue ∧ t.welt.replay = s.welt.replay ∧ t.welt.txSeq = s.welt.txSeq ∧
        RegsOnly (fun _ => False) s { t with welt := s.welt })) ∧
    (∀ (i : InP) (pt : Nat) (u : State) (st : Nat) (d : List Nat),
      let tag := nbits (i.pkt.w 0) 29 16;
      let dev := i.pkt.src.toNat;
      let ps := answerPackets (st * 2 ^ 30 + tag * 65536 + d.length / 64) (bytesWords d);
      s.inEpisode = false →
      s.halted = false →
      s.welt.inbox.find? (fun x => x.pkt.kind == 2#4 && x.pkt.w 0 / 2 ^ 30 == 0) = some i →
      i.port = some pt →
      ({ s with welt := { s.welt with inbox := dropOne i s.welt.inbox } } : State).serveRead 0x18 0 (i.pkt.w 1 % 2 ^ 28)
        (i.pkt.w 2 % 65536) (i.pkt.w 2) (i.pkt.w 3 % 65536) e.ends = some (u, st, d) →
      Answers (.tilereqRead e) s (fun t =>
        tabGet 0 t.welt.flowSeq dev = (tabGet 0 s.welt.flowSeq dev + ps.length) % 4096 ∧
        (dev ≠ s.devId → t.welt.inbox = dropOne i s.welt.inbox) ∧
        t.mem = u.mem)) ∧
    (∀ (i : InP) (r : RemReq) (q : Nat) (u : State) (st : Nat) (d : List Nat),
      let tag := nbits (i.pkt.w 0) 29 16;
      s.inEpisode = false →
      s.halted = false →
      s.welt.inbox.find? (fun x => x.pkt.kind == 2#4 && x.pkt.w 0 / 2 ^ 30 == 0) = some i →
      i.port = none →
      s.reqTag tag = some r ∧ r.who = .bus q ∧ r.ans = none →
      ({ s with welt := { s.welt with inbox := dropOne i s.welt.inbox } } : State).serveRead r.master 0 (i.pkt.w 1 % 2 ^ 28)
        (i.pkt.w 2 % 65536) (i.pkt.w 2) (i.pkt.w 3 % 65536) e.ends = some (u, st, d) →
      Answers (.tilereqRead e) s (fun t =>
        (t.reqTag tag).map (fun x => x.ans) = some (some (st, d)) ∧
        t.welt.inbox = dropOne i s.welt.inbox ∧
        t.mem = u.mem)) ∧
    (∀ (i : InP) (pt : Nat) (u : State) (st : Nat) (d : List Nat),
      let tag := nbits (i.pkt.w 0) 29 16;
      let dev := i.pkt.src.toNat;
      let ps := answerPackets (st * 2 ^ 30 + tag * 65536 + d.length / 64) (bytesWords d);
      s.inEpisode = false →
      s.halted = false →
      s.welt.inbox.find? (fun x => x.pkt.kind == 2#4 && x.pkt.w 0 / 2 ^ 30 == 2) = some i →
      i.port = some pt →
      ({ s with welt := { s.welt with inbox := dropOne i s.welt.inbox } } : State).serveRead 0x18 2 (i.pkt.w 1 % 2 ^ 28)
        (i.pkt.w 2 % 65536) (i.pkt.w 2) (i.pkt.w 3 % 65536) e.ends = some (u, st, d) →
      Answers (.tilereqTileread e) s (fun t =>
        tabGet 0 t.welt.flowSeq dev = (tabGet 0 s.welt.flowSeq dev + ps.length) % 4096 ∧
        (dev ≠ s.devId → t.welt.inbox = dropOne i s.welt.inbox) ∧
        t.mem = u.mem)) ∧
    (∀ (i : InP) (pt : Nat),
      let a := s.apAddr (i.pkt.w 1 % 2 ^ 28) / 32 * 32;
      let u := s.burst (s.apAddr (i.pkt.w 1 % 2 ^ 28) / 64 * 64) 0x18 (e.ends.headD .clean);
      s.inEpisode = false →
      s.halted = false →
      s.welt.inbox.find? (fun x => x.pkt.kind == 2#4 && x.pkt.w 0 / 2 ^ 30 == 1) = some i →
      i.port = some pt ∧ s.trusted pt = true →
      s.flag Fd.WELT_APCFG_RO = false ∧ s.apAcc (i.pkt.w 1 % 2 ^ 28) = .ok →
      u.2 = true →
      Answers (.tilereqWrite e) s (fun t =>
        (i.pkt.src.toNat ≠ s.devId → t.welt.inbox = dropOne i s.welt.inbox) ∧
        tabGet 0 t.welt.flowSeq i.pkt.src.toNat = (tabGet 0 s.welt.flowSeq i.pkt.src.toNat + 1) % 4096 ∧
        (∀ j : Fin 32, t.byte (a + j) = (if nbit (i.pkt.w 2) j then i.pkt.w (3 + j / 4) / 256 ^ (j.val % 4) % 256 else s.byte (a
          + j))) ∧
        (∀ x, x < a ∨ a + 32 ≤ x → t.byte x = s.byte x))) ∧
    (∀ (i : InP) (r : RemReq) (q : Nat),
      let ps := ansPackets ((s.welt.inbox.filter (fun j => j.pkt.kind == 3#4 && j.pkt.src == i.pkt.src)).dropWhile (fun j =>
        !j.pkt.first));
      let ws := (ps.map (fun j => j.pkt.payload.map (fun v => v.toNat))).flatten;
      let status := ws.headD 0 / 2 ^ 30;
      s.inEpisode = false →
      s.halted = false →
      s.welt.inbox.find? (fun j => j.pkt.kind == 3#4 && j.pkt.first) = some i →
      ps.any (fun j => j.pkt.last) = true →
      s.reqTag (nbits (ws.headD 0) 29 16) = some r →
      r.dev = i.pkt.src.toNat ∧ r.who = .bus q ∧ r.ans = none →
      Answers .tileansReceive s (fun t =>
        (t.reqTag r.tag).map (fun x => x.ans) = some (some (status, wordBytes ws.tail)) ∧
        (status ≠ 0 → Recorded s t (uMaster (busMaster q)) 0x06 1 status) ∧
        t.mem = s.mem)) ∧
    (∀ (tag : Fin 65536) (r : RemReq) (q : Nat),
      s.inEpisode = false →
      s.reqTag tag = some r →
      (r.who = .bus q ∧ (q < 256 ∨ 288 ≤ q) ∧ r.ans = none) →
      125 * max 1 (s.get Fd.WELT_TSCFG_TIMEOUT) ≤ 2 * ((s.time.now + 2 ^ 56 - r.sent) % 2 ^ 56) →
      Answers (.remoteTimeout tag) s (fun t =>
        (t.reqTag tag).map (fun x => x.ans) = some (some (3, [])) ∧
        Recorded s t (uMaster (busMaster q)) 0x04 1 0 ∧
        t.mem = s.mem))

/-- SYNC goes to each downstream port that is UP and DREQ to the upstream port, a DREQ is answered with a DRESP, a DRESP gives
  the link delay, a SYNC of the upstream port gives the offset, moves the lock and slews the time base where it does not step
  it, and after four intervals without a SYNC a device in ACQUIRE or LOCKED enters HOLDOVER with a record (R356 to R358). -/
def Obligations.FabricTimeComplete : Prop :=
  ∀ (s : State) (p : Fin 8) (i : InP),
    let upp := s.get Fd.WELT_TIMECTL_UPPORT;
      (s.inEpisode = false →
      nbit (s.get Fd.WELT_TIMECTL_DOWNEN) p = true →
      s.weltUp p = true ∧ s.fenced uSwitch = false →
      Answers .timeSyncSend s (fun t =>
        (tabGet [] t.welt.queue p).length = (tabGet [] s.welt.queue p).length + 1 ∧
        t.regs = s.regs ∧ t.mem = s.mem)) ∧
      (s.inEpisode = false →
      s.timeFollows = true →
      s.weltUp upp = true ∧ s.fenced uSwitch = false →
      Answers .timeDreqSend s (fun t =>
        (tabGet [] t.welt.queue upp).length = (tabGet [] s.welt.queue upp).length + 1 ∧
        t.regs = s.regs ∧ t.mem = s.mem)) ∧
      (s.inEpisode = false →
      (s.halted = false ∨ s.flag Fd.DBG_CTL_WELTRUN = true) →
      s.welt.inbox.find? (fun j => j.pkt.kind == 1#4 && j.pkt.w 0 / 2 ^ 30 == 1) = some i →
      i.port = some p.val →
      s.weltUp p = true →
      Answers .timeDreqReceive s (fun t =>
        (tabGet [] t.welt.queue p).length = (tabGet [] s.welt.queue p).length + 1 ∧
        t.welt.inbox = dropOne i s.welt.inbox ∧
        RegsOnly (fun _ => False) s { t with welt := s.welt })) ∧
    (∀ (x : Nat),
      s.inEpisode = false →
      (s.halted = false ∨ s.flag Fd.DBG_CTL_WELTRUN = true) →
      s.timeFollows = true →
      s.welt.inbox.find? (fun j => j.pkt.kind == 1#4 && j.pkt.w 0 / 2 ^ 30 == 2) = some i →
      i.port = some upp →
      s.welt.t1 = some x →
      Answers .timeDrespReceive s (fun t =>
        t.welt.delay = Int.fdiv ((i.stamp : Int) - (x : Int) - (i.pkt.w 3 : Int)) 2 ∧
        t.welt.t1 = none ∧
        t.welt.inbox = dropOne i s.welt.inbox ∧
        RegsOnly (fun _ => False) s { t with welt := s.welt })) ∧
      (let dep : Nat := (i.pkt.w 2 % 2 ^ 28 * 2 ^ 28 + i.pkt.w 1 % 2 ^ 28) * 65536 + i.pkt.w 0 % 65536;
      let off := (i.stamp : Int) - (dep : Int) - s.welt.delay;
      let st := s.get Fd.WELT_TIMESTAT_STATE;
      let near := -20480 ≤ off ∧ off ≤ 20480;
      s.inEpisode = false →
      (s.halted = false ∨ s.flag Fd.DBG_CTL_WELTRUN = true) →
      s.timeFollows = true →
      s.welt.inbox.find? (fun j => j.pkt.kind == 1#4 && j.pkt.w 0 / 2 ^ 30 == 0) = some i →
      i.port = some upp →
      Answers .timeSyncReceive s (fun t =>
        t.get Fd.WELT_TIMESTAT_OFFSET = unsignedOf 17 (clampInt (-65536) 65535 (Int.fdiv (off * 16) 65536)) % 2 ^ 17 ∧
        (t.get Fd.WELT_TIMESTAT_STATE = (if st = 2 ∨ near ∧ st = 1 ∧ 7 ≤ s.welt.good then 2 else 1)) ∧
        (t.get Fd.WELT_TIMESTAT_STATE = 2 → t.get Fd.WELT_TIMESTAT_HOPS = min 31 (i.pkt.w 0 / 2 ^ 25 % 2 ^ 5 + 1)) ∧
        t.welt.good = (if st ≠ 2 ∧ near then (if st = 1 then s.welt.good + 1 else 1) else 0) ∧
        (st = 2 ∨ (-4096000 ≤ off ∧ off ≤ 4096000) → t.time = s.time ∧ -104 ≤ t.welt.corr ∧ t.welt.corr ≤ 104) ∧
        t.welt.syncAt = some t.time.now ∧
        t.mem = s.mem)) ∧
    (∀ (x : Nat),
      s.inEpisode = false →
      s.domOn 12 = true →
      s.timeFollows = true →
      s.welt.syncAt = some x ∧ 2 ^ 16 ≤ (s.time.now + 2 ^ 56 - x) % 2 ^ 56 →
      (s.get Fd.WELT_TIMESTAT_STATE = 1 ∨ s.get Fd.WELT_TIMESTAT_STATE = 2) →
      Answers .timeSyncLoss s (fun t =>
        t.get Fd.WELT_TIMESTAT_STATE = 3 ∧ t.flag Fd.WELT_TIMESTAT_TLOSS = true ∧ t.get Fd.WELT_TIMESTAT_HOPS = 31 ∧
        t.welt.good = 0 ∧
        Recorded s t uSwitch 0x2E 1 0 ∧
        t.mem = s.mem))

/-- A picture packet's pixels are written and its receiver notes the port, an audio packet's first half waits at its receiver, a
  sense packet that is not a report is counted as BAD, and a report goes to the ring with RPTEV set (R362, R595, R619). -/
def Obligations.WeltReceiversComplete : Prop :=
  ∀ (s : State) (i : InP) (e : Env),
    (∀ (b : Bus) (ws : List Nat) (f : Bool),
      let c := i.pkt.dflow.toNat;
      let k := s.fcBind c % 4;
      let u := { s with welt := { s.welt with inbox := dropOne i s.welt.inbox } };
      s.inEpisode = false →
      s.halted = false →
      s.welt.inbox.find? (fun j => j.pkt.kind == 4#4) = some i →
      s.fenced (uPrx k) = false ∧ s.flag (Fd.WELT_PRX_CFG_EN k) = true →
      (busOf u e).picWrites { masterWho 0x18 with regs := false } (u.prxWrites k i.pkt) = .ok ws f b →
      Answers (.picturePacketReceive e) s (fun t =>
        t.welt.inbox = dropOne i s.welt.inbox ∧
        (t.prxS k).port = i.port ∧
        t.mem = b.s.mem)) ∧
      (let k := s.fcBind i.pkt.dflow.toNat % 4;
      let ws := i.pkt.payload.map (fun w => w.toNat);
      s.inEpisode = false →
      s.halted = false →
      s.welt.inbox.find? (fun j => j.pkt.kind == 5#4) = some i →
      s.get (Fd.AUD_RX_STAT_STATE k) ≠ 0 ∧ s.domOn 17 = true →
      (s.audRx k).half = none →
      Answers .audioMessageReceive s (fun t =>
        t.welt.inbox = dropOne i s.welt.inbox ∧
        (t.audRx k).half = some (ws.getD 0 0 % 65536, audioFrames ws) ∧
        t.get (Fd.AUD_RX_STAT_DOM k) = ws.getD 0 0 / 2 ^ 30 % 4 ∧
        t.mem = s.mem)) ∧
      (let k := s.fcBind i.pkt.dflow.toNat % 2;
      s.inEpisode = false →
      s.halted = false →
      s.welt.inbox.find? (fun j => j.pkt.kind == 6#4) = some i →
      (i.pkt.len.toNat ≠ 32 ∨ (i.pkt.payload.map (fun w => w.toNat)).headD 0 / 2 ^ 16 ≠ 0x5348) →
      Answers (.sensePacketReceive e) s (fun t =>
        t.get (Fd.INS_SRX_STAT_BAD k) = min 255 (s.get (Fd.INS_SRX_STAT_BAD k) + 1) ∧
        t.welt.inbox = dropOne i s.welt.inbox ∧
        RegsOnly (fun j => j = Rg.INS_SRX_STAT k) s { t with welt := s.welt })) ∧
    (∀ (b : Bus) (xs : List Nat) (f : Bool),
      let k := s.fcBind i.pkt.dflow.toNat % 2;
      let ws := i.pkt.payload.map (fun w => w.toNat);
      let u := { s with welt := { s.welt with inbox := dropOne i s.welt.inbox } };
      s.inEpisode = false →
      s.halted = false →
      s.welt.inbox.find? (fun j => j.pkt.kind == 6#4) = some i →
      i.pkt.len.toNat = 32 ∧ ws.headD 0 / 2 ^ 16 = 0x5348 →
      (busOf u e).ringReport (s.get (Fd.INS_SRX_BASE_ADDR k) * 4096) ws 0 4 = .ok xs f b →
      Answers (.sensePacketReceive e) s (fun t =>
        t.flag (Fd.INS_SRX_STAT_RPTEV k) = true ∧
        t.welt.inbox = dropOne i s.welt.inbox ∧
        t.mem = b.s.mem))

/-- A running channel reads its descriptor, the engine issues a granule read or a write beat for the channel it serves, the
  oldest read's answer joins the buffer, a finished descriptor links to the next or ends the chain DONE, and an access without
  an answer ends the channel with a record (R538 to R548). -/
def Obligations.LaceChannelsComplete : Prop :=
  ∀ (s : State) (n : Fin 32) (e : Env),
    let l := s.lace n;
    (∀ (d : List Nat) (b : Bus),
      s.laceRuns n = true ∧ l.desc = [] →
      s.get (Fd.LACE_CH_STAT_DCOUNT n) < max 1 (s.get (Fd.LACE_CH_MAXDESC_MAXDESC n)) →
      inRegs l.next = false →
      (busOf s e).read (laceWho n) l.next 64 = .ok d b →
      ({ desc := granuleWords d } : LaceS).bad = false →
      Answers (.laceDescriptorRead n e) s (fun t =>
        (t.lace n).desc = granuleWords d ∧ (t.lace n).re = 0 ∧ (t.lace n).we = 0 ∧
        t.get (Fd.LACE_CH_STAT_DCOUNT n) = (b.s.get (Fd.LACE_CH_STAT_DCOUNT n) + 1) % 2 ^ 16 ∧
        t.mem = b.s.mem ∧
        RegsOnly (fun k => k = Rg.LACE_CH_STAT n) b.s { t with move := b.s.move, welt := b.s.welt })) ∧
    (∀ (write : Bool),
      s.inEpisode = false →
      s.lacePick = some n.val →
      (l.canRead = true ∧ (write = false ∨ l.canWrite = false)) →
      l.needsRead l.re = true →
      (inRegs (l.src l.re) = false ∨ l.esize = 4) →
      Answers (.laceBeat write e) s (fun t =>
        t.lace n =
          { l with re := l.re + 1, out := l.out ++ [(if inRegs (l.src l.re) then l.src l.re else l.src l.re / 64 * 64, s.move.clock + 64 * max 1 (s.get (Fd.LACE_CH_CTL_TMO n)))] }
          ∧
        t.move.cur = n ∧
        RegsOnly (fun _ => False) s { t with move := s.move })) ∧
    (∀ (write : Bool) (a : Nat) (bt : List (Nat × Nat)) (b : Bus) (x : List Nat),
      let g := l.gather 64;
      let lim := g.limit.getD (s.move.clock + 64 * max 1 (s.get (Fd.LACE_CH_CTL_TMO n)));
      s.inEpisode = false →
      s.lacePick = some n.val →
      (l.canWrite = true ∧ s.laceOut n ≠ some 0 ∧ (write = true ∨ l.canRead = false)) →
      g.due = .beat ∧ g.beat = some (a, bt) →
      (busOf (s.setLace n { g with limit := some lim }) e).write (laceWho n) a (beatBytes bt).1 (beatBytes bt).2 = .ok x b →
      Answers (.laceBeat write e) s (fun t =>
        t.lace n = { g with beat := none, limit := none } ∧
        t.move.cur = n ∧
        t.regs = b.s.regs ∧ t.mem = b.s.mem)) ∧
    (∀ (a due : Nat) (rest : List (Nat × Nat)) (d : List Nat) (b : Bus),
      s.laceRuns n = true ∧ s.laceOut n ≠ some 1 →
      l.out = (a, due) :: rest →
      (busOf s e).read (laceWho n) a (if inRegs a then 4 else 64) = .ok d b →
      Answers (.laceReadAnswer n e) s (fun t =>
        t.lace n = { l with out := rest, buf := l.buf ++ [(a, d)] } ∧
        t.regs = b.s.regs ∧ t.mem = b.s.mem)) ∧
      (s.laceRuns n = true ∧ l.finished = true →
      nbit (l.w 11) 0 = true →
      Answers (.laceDescriptorDone n) s (fun t =>
        t.lace n =
          { next := l.w 12 % 256 * 2 ^ 32 + l.w 11 / 64 * 64, limit := some (s.move.clock + 64 * max 1 (s.get (Fd.LACE_CH_CTL_TMO n))) }
          ∧
        RegsOnly (fun _ => False) s { t with move := s.move, icu := s.icu })) ∧
      (s.laceRuns n = true ∧ l.finished = true →
      nbit (l.w 11) 0 = false →
      Answers (.laceDescriptorDone n) s (fun t =>
        t.get (Fd.LACE_CH_STAT_STATE n) = 2 ∧ t.flag (Fd.LACE_CH_STAT_DONEEV n) = true ∧ t.get (Fd.LACE_CH_STAT_ERR n) = 0 ∧
        t.get (Fd.LACE_CH_STAT_DCOUNT n) = s.get (Fd.LACE_CH_STAT_DCOUNT n) ∧
        RegsOnly (fun k => k = Rg.LACE_CH_STAT n) s { t with move := s.move, icu := s.icu, welt := s.welt })) ∧
      (s.laceRuns n = true →
      (l.limit.any (fun x => decide (x ≤ s.move.clock)) = true ∨ l.out.any (fun x => decide (x.2 ≤ s.move.clock)) = true) →
      Answers (.laceTimeout n) s (fun t =>
        t.get (Fd.LACE_CH_STAT_ERR n) = 2 ∧ t.flag (Fd.LACE_CH_STAT_ERREV n) = true ∧
        (t.get (Fd.LACE_CH_STAT_STATE n) = 3 ∨ t.get (Fd.LACE_CH_STAT_STATE n) = 4) ∧
        Recorded s t (uLace n) 0x38 1 2 ∧
        t.mem = s.mem))

/-- A running list reads its next command, a rectangle command writes its rows and is then complete, END ends the list DONE,
  JUMP continues at its address, WAIT waits for its line and ends when it comes, the command after a completed one is next, and
  an access without an answer ends the list with a record (R555 to R568). -/
def Obligations.SkiverListsComplete : Prop :=
  ∀ (s : State) (e : Env),
    let k := s.skiver;
    (∀ (d : List Nat) (b : Bus),
      s.skiverRuns = true ∧ k.cmd = [] →
      s.get Fd.SKIVER_CMDCNT_COUNT < max 1 (s.get Fd.SKIVER_MAXCMD_MAXCMD) →
      (busOf s e).read skiverWho k.next 64 = .ok d b →
      b.s.skiver = k ∧ b.s.skBad { next := k.next, cmd := granuleWords d } = false →
      Answers (.skiverCommandRead e) s (fun t =>
        t.skiver = { next := k.next, cmd := granuleWords d } ∧
        t.get Fd.SKIVER_CMDCNT_COUNT = (b.s.get Fd.SKIVER_CMDCNT_COUNT + 1) % 2 ^ 16 ∧
        t.get Fd.SKIVER_CURLO_ADDRLO = k.next % 2 ^ 28 ∧ t.get Fd.SKIVER_CURHI_ADDRHI = k.next / 2 ^ 28 % 2 ^ 12 ∧
        t.mem = b.s.mem ∧
        (RegsOnly (fun j => j = Rg.SKIVER_CMDCNT ∨ j = Rg.SKIVER_CURLO ∨ j = Rg.SKIVER_CURHI) b.s
          { t with move := b.s.move, welt := b.s.welt }))) ∧
    (∀ (x : List Nat) (b : Bus),
      s.skiverAt 1 = true ∧ k.overlapBad = false →
      (busOf s.skiverIssue e).skRows k k.rows = .ok x b →
      b.s.skiverState = 1 ∧ b.s.skiver = s.skiverIssue.skiver →
      Answers (.skCopy e) s (fun t =>
        t.skiver = { k with done := true, due := none } ∧
        t.regs = b.s.regs ∧ t.mem = b.s.mem)) ∧
    (∀ (x : List Nat) (b : Bus),
      s.skiverAt 2 = true →
      (busOf s.skiverIssue e).skRows k (List.range (k.hm1 + 1)) = .ok x b →
      b.s.skiverState = 1 ∧ b.s.skiver = s.skiverIssue.skiver →
      Answers (.skFill e) s (fun t =>
        t.skiver = { k with done := true, due := none } ∧
        t.regs = b.s.regs ∧ t.mem = b.s.mem)) ∧
    (∀ (x : List Nat) (b : Bus),
      s.skiverAt 3 = true ∧ k.overlapBad = false →
      (busOf s.skiverIssue e).skRows k k.rows = .ok x b →
      b.s.skiverState = 1 ∧ b.s.skiver = s.skiverIssue.skiver →
      Answers (.skGlyph e) s (fun t =>
        t.skiver = { k with done := true, due := none } ∧
        t.regs = b.s.regs ∧ t.mem = b.s.mem)) ∧
    (∀ (x : List Nat) (b : Bus),
      s.skiverAt 4 = true ∧ k.overlapBad = false →
      (busOf s.skiverIssue e).skRows k k.rows = .ok x b →
      b.s.skiverState = 1 ∧ b.s.skiver = s.skiverIssue.skiver →
      Answers (.skKeycopy e) s (fun t =>
        t.skiver = { k with done := true, due := none } ∧
        t.regs = b.s.regs ∧ t.mem = b.s.mem)) ∧
      (s.skiverAt 0 = true →
      Answers .skEnd s (fun t =>
        t.get Fd.SKIVER_STAT_STATE = 3 ∧ t.flag Fd.SKIVER_STAT_DONEEV = true ∧ t.get Fd.SKIVER_STAT_ERR = 0 ∧
        t.flag Fd.SKIVER_STAT_CMDEV = (s.flag Fd.SKIVER_STAT_CMDEV || k.irq) ∧
        t.skiver = {} ∧
        RegsOnly (fun j => j = Rg.SKIVER_STAT) s { t with move := s.move, icu := s.icu, welt := s.welt })) ∧
      (s.skiverAt 6 = true →
      Answers .skJump s (fun t =>
        t.skiver = { k with done := true, due := none } ∧
        RegsOnly (fun _ => False) s { t with move := s.move })) ∧
      (s.skiverAt 5 = true →
      s.domOn (solegOf k.head) = true ∧ (s.headS k.head).running = true →
      Answers .skWait s (fun t =>
        t.get Fd.SKIVER_STAT_STATE = 2 ∧
        RegsOnly (fun j => j = Rg.SKIVER_STAT) s t)) ∧
      (s.skiverState = 2 →
      s.unitUp uSkiver 16 = true ∧ s.halted = false →
      s.domOn (solegOf k.head) = true ∧ (s.headS k.head).running = true →
      Answers .skiverWaitEnd s (fun t =>
        t.get Fd.SKIVER_STAT_STATE = 1 ∧
        t.skiver = { k with done := true, due := none } ∧
        RegsOnly (fun j => j = Rg.SKIVER_STAT) s { t with move := s.move })) ∧
      (s.skiverRuns = true →
      k.cmd ≠ [] ∧ k.done = true →
      Answers .skiverCommandDone s (fun t =>
        t.skiver =
          { next := if k.op = 6 then k.dst / 64 * 64 else (k.next + 64) % 2 ^ 40, due := some (0, s.move.clock + 64 * max 1 (s.get Fd.SKIVER_CTL_TMO)) }
          ∧
        t.flag Fd.SKIVER_STAT_CMDEV = (s.flag Fd.SKIVER_STAT_CMDEV || k.irq) ∧
        RegsOnly (fun j => j = Rg.SKIVER_STAT) s { t with move := s.move, icu := s.icu })) ∧
      (s.skiverRuns = true →
      k.due.any (fun x => decide (x.2 ≤ s.move.clock)) = true →
      Answers .skiverTimeout s (fun t =>
        t.get Fd.SKIVER_STAT_ERR = 2 ∧ t.flag Fd.SKIVER_STAT_ERREV = true ∧
        (t.get Fd.SKIVER_STAT_STATE = 4 ∨ t.get Fd.SKIVER_STAT_STATE = 5) ∧
        Recorded s t uSkiver 0x39 1 2 ∧
        t.mem = s.mem))

/-- A due key event leaves the queue and starts or releases its voice, a block boundary counts and puts the routes of its domain
  in force, a late block counts, a pending gain applies at its timeout, and a lost port source and a stopped port clock are
  noted (R581 to R597). -/
def Obligations.SoundEventsComplete : Prop :=
  ∀ (s : State) (e : Env),
    let s0 := ({ s with audio := { s.audio with ends := e.ends } } : State);
    (∀ (i : Nat) (k : Fin 32) (ev : KeyEv),
      let u := s0.domUpTo (s.voiceDom ev.voice) k;
      let idle := u.vkind ev.voice = 0 ∧ u.vword ev.voice 5 % 2 ^ 24 = 0;
      s.inEpisode = false ∧ s.soundOn = true →
      s.keyDue i = some ev →
      u.audio.waits = false →
      ev.on = true →
      u.vkind ev.voice ≠ 3 →
      Answers (.keyEventApply i k e) s (fun t =>
        t.audio.keys = u.audio.keys.eraseIdx i ∧
        t.voice ev.voice =
          { u.voice ev.voice with pos := 0, phase := 0, noise := 0x1FFFF, env := 0, st := if idle then 0 else 1 } ∧
        RegsOnly (fun _ => False) u { t with audio := u.audio })) ∧
    (∀ (i : Nat) (k : Fin 32) (ev : KeyEv),
      let u := s0.domUpTo (s.voiceDom ev.voice) k;
      s.inEpisode = false ∧ s.soundOn = true →
      s.keyDue i = some ev →
      u.audio.waits = false →
      ev.on = false →
      Answers (.keyEventApply i k e) s (fun t =>
        t.audio.keys = u.audio.keys.eraseIdx i ∧
        t.voice ev.voice = { u.voice ev.voice with st := if (u.voice ev.voice).st = 0 then 0 else 4 } ∧
        RegsOnly (fun _ => False) u { t with audio := u.audio })) ∧
    (∀ (d : Fin 3),
      s.inEpisode = false ∧ s.soundOn = true →
      let a := s0.domUpTo d 32;
      (s.dom d).run = true →
      a.audio.waits = false →
      Answers (.audioBlockBoundary d e) s (fun t =>
        (t.dom d).block = ((s.dom d).block + 1) % 65536 ∧ (t.dom d).smp = 0 ∧ (t.dom d).late = false ∧ (t.dom d).wait = false ∧
        (∀ n : Fin 32, s.mbDom n = d → t.get (Fd.AUD_MB_EN n).act = s.get (Fd.AUD_MB_EN n) ∧ t.get (Fd.AUD_MB_DEST n).act =
          s.get (Fd.AUD_MB_DEST n)) ∧
        (∀ v : Fin 256, s.voiceDom v = d → (t.voice v).bus = nbits (s.vword v 0) 20 16) ∧
        t.mem = a.mem)) ∧
    (∀ (d : Fin 3),
      s.inEpisode = false ∧ s.soundOn = true →
      (s.dom d).run = true ∧ (s.dom d).late = false →
      Answers (.audioBlockLate d) s (fun t =>
        (t.dom d).late = true ∧
        t.get Fd.AUD_STAT_LATE = min 127 (s.get Fd.AUD_STAT_LATE + 1) ∧
        (s.msSince s.audio.lateAt = true → Recorded s t uSound 0x3A 1 2) ∧
        t.mem = s.mem)) ∧
    (∀ (u : Fin 256) (k : Fin 32),
      let a := s0.domUpTo (s.mbDom (s.voice u).bus) k;
      let lim := s.zct (s.voice u).bus * msTicks;
      let g := s.voiceGain u;
      s.inEpisode = false ∧ s.soundOn = true →
      (g.pl.isSome = true ∧ lim ≤ s.time.now - g.tl ∨ g.pr.isSome = true ∧ lim ≤ s.time.now - g.tr) →
      a.audio.waits = false →
      Answers (.gainTimeout (u.castLE (by decide)) k e) s (fun t =>
        (t.voice u).gain = (a.voice u).gain.map (fun y =>
          { y with l := (if lim ≤ s.time.now - y.tl then y.pl.getD y.l else y.l), pl := (if lim ≤ s.time.now - y.tl then none else y.pl), r := (if lim ≤ s.time.now - y.tr then y.pr.getD y.r else y.r), pr := (if lim ≤ s.time.now - y.tr then none else y.pr) })
          ∧
        RegsOnly (fun _ => False) a { t with audio := a.audio })) ∧
    (∀ (n : Fin 32) (k : Fin 32),
      let a := s0.domUpTo (s.mbDom n) k;
      let lim := s.zct n * msTicks;
      let g := s.mixGain n;
      let y := a.mixGain n;
      s.inEpisode = false ∧ s.soundOn = true →
      (g.pl.isSome = true ∧ lim ≤ s.time.now - g.tl ∨ g.pr.isSome = true ∧ lim ≤ s.time.now - g.tr) →
      a.audio.waits = false →
      Answers (.gainTimeout ((n.natAdd 256).castLE (by decide)) k e) s (fun t =>
        t.mixGain n =
          { y with l := (if lim ≤ s.time.now - y.tl then y.pl.getD y.l else y.l), pl := (if lim ≤ s.time.now - y.tl then none else y.pl), r := (if lim ≤ s.time.now - y.tr then y.pr.getD y.r else y.r), pr := (if lim ≤ s.time.now - y.tr then none else y.pr) }
          ∧
        RegsOnly (fun _ => False) a { t with audio := a.audio })) ∧
    (∀ (k : Fin 4) (j : Fin 32),
      let n := s.get (Fd.AUD_RX_CFG_MIXBUS k).act;
      let a := s0.domUpTo (s.mbDom n) j;
      let lim := s.zct n * msTicks;
      let g := s.rxGain k;
      let y := a.rxGain k;
      s.inEpisode = false ∧ s.soundOn = true →
      (g.pl.isSome = true ∧ lim ≤ s.time.now - g.tl ∨ g.pr.isSome = true ∧ lim ≤ s.time.now - g.tr) →
      a.audio.waits = false →
      Answers (.gainTimeout ((k.natAdd 288).castLE (by decide)) j e) s (fun t =>
        t.rxGain k =
          { y with l := (if lim ≤ s.time.now - y.tl then y.pl.getD y.l else y.l), pl := (if lim ≤ s.time.now - y.tl then none else y.pl), r := (if lim ≤ s.time.now - y.tr then y.pr.getD y.r else y.r), pr := (if lim ≤ s.time.now - y.tr then none else y.pr) }
          ∧
        RegsOnly (fun _ => False) a { t with audio := a.audio })) ∧
    (∀ (d : Fin 2),
      s.inEpisode = false ∧ s.soundOn = true →
      (s.domPort d).isSome = true ∧ (s.dom d).lost = false →
      Answers (.domainSourceLoss d) s (fun t =>
        (t.dom d).lost = true ∧
        nbit (t.get Fd.AUD_STAT_DOMLOSS) d = true ∧
        Recorded s t uSound 0x3A 1 1 ∧
        t.mem = s.mem)) ∧
    (∀ (p : Fin 4),
      s.inEpisode = false →
      s.domOn 17 = true ∧ s.flag (Fd.AUD_PT_CFG_EN p) = true ∧ s.flag (Fd.AUD_PT_CFG_MASTER p) = false →
      Answers (.portClockLoss p) s (fun t =>
        t.get Fd.AUD_STAT_PLOSS = Nat.lor (s.get Fd.AUD_STAT_PLOSS) (2 ^ p.val) ∧
        t.audio.ports = tabErase s.audio.ports p ∧
        RegsOnly (fun k => k = Rg.AUD_STAT) s { t with audio := s.audio }))

/-- A step slot of a front end stores the step's results and moves to the next step or ends the scan frame, the end of a scan
  frame makes the report and puts it into the ring, a conversion updates the sensor codes, and a code grows stale while INSOLE
  is off (R608 to R621). -/
def Obligations.ScanStepsComplete : Prop :=
  ∀ (s : State) (n : Fin 2) (e : Env),
    let f := s.feS n;
    (∀ (y : Fin 16384) (res : List (BitVec 16)) (h st : Nat),
      let k := s.get (Fd.INS_FE_STAT_STEP n);
      let used := if f.lineAt = some ((s.headS h).frame, y.val) then f.used else 0;
      s.unitUp (uFe n) 18 = true ∧ s.halted = false ∧ s.fenced (uFe n) = false ∧ s.flag (Fd.INS_FE_CTL_EN n) = true →
      s.feWindow n y = some (h, st) →
      ((s.headS h).running = true ∧ (y.val = (s.headS h).line ∨ y.val + 1 = (s.headS h).line)) →
      used < min (st / 4) (s.hTotal h / s.stepPeriods n) →
      f.active = true →
      (k < 95 ∨ s.flag (Fd.INS_FE_CTL_SELFEN n) = true ∧ k < 98) →
      Answers (.insoleStepSlot n y res) s (fun t =>
        t.get (Fd.INS_FE_STAT_STEP n) = k + 1 ∧
        (t.feS n).active = true ∧ (t.feS n).lineAt = some ((s.headS h).frame, y.val) ∧ (t.feS n).used = used + 1 ∧
        (∀ i : Fin 64, i.val < res.length → tabGet 0 (t.feS n).raw (stepNode k i) = (res.getD i 0).toNat % 2 ^ 14) ∧
        RegsOnly (fun j => j = Rg.INS_FE_STAT n) s { t with panel := s.panel })) ∧
    (∀ (y : Fin 16384) (res : List (BitVec 16)) (h st : Nat),
      let k := s.get (Fd.INS_FE_STAT_STEP n);
      let used := if f.lineAt = some ((s.headS h).frame, y.val) then f.used else 0;
      s.unitUp (uFe n) 18 = true ∧ s.halted = false ∧ s.fenced (uFe n) = false ∧ s.flag (Fd.INS_FE_CTL_EN n) = true →
      s.feWindow n y = some (h, st) →
      ((s.headS h).running = true ∧ (y.val = (s.headS h).line ∨ y.val + 1 = (s.headS h).line)) →
      used < min (st / 4) (s.hTotal h / s.stepPeriods n) →
      f.active = true →
      k = (if s.flag (Fd.INS_FE_CTL_SELFEN n) then 98 else 95) →
      Answers (.insoleStepSlot n y res) s (fun t =>
        t.get (Fd.INS_FE_STAT_STEP n) = 0 ∧
        (t.feS n).active = false ∧ (t.feS n).done = some (s.time.now, s.flag Fd.SHK_STAT_OVERT) ∧
        RegsOnly (fun j => j = Rg.INS_FE_STAT n) s { t with panel := s.panel })) ∧
    (∀ (d : Nat × Bool),
      let r := s.feReport n d;
      s.unitUp (uFe n) 18 = true ∧ s.halted = false ∧ s.fenced (uFe n) = false →
      f.done = some d →
      s.flag (Fd.INS_FE_CTL_RINGEN n) = false →
      Answers (.scanFrameEnd n e) s (fun t =>
        t.get (Fd.INS_FE_STAT_SCAN n) = f.scan % 2 ^ 10 ∧
        (t.feS n).scan = f.scan + 1 ∧ (t.feS n).done = none ∧
        r.2.getD 1 0 = f.scan % 2 ^ 32 ∧ r.2.getD 2 0 = d.1 % 2 ^ 32 ∧ r.2.getD 3 0 = d.1 / 2 ^ 32 ∧
        t.mem = s.mem)) ∧
    (∀ (d : Nat × Bool) (b : Bus) (x : List Nat) (bad : Bool),
      let r := s.feReport n d;
      s.unitUp (uFe n) 18 = true ∧ s.halted = false ∧ s.fenced (uFe n) = false →
      f.done = some d →
      s.flag (Fd.INS_FE_CTL_RINGEN n) = true →
      (busOf r.1 e).ringReport (s.get (Fd.INS_FE_RING_ADDR n) * 4096) r.2 0 4 = .ok x bad b →
      Answers (.scanFrameEnd n e) s (fun t =>
        t.flag (Fd.INS_FE_STAT_RPTEV n) = true ∧
        t.mem = b.s.mem)) ∧
    (∀ (als th : List (BitVec 16)),
      s.inEpisode = false →
      s.domOn 18 = true →
      Answers (.sensorConversion als th) s (fun t =>
        (∀ i : Fin 4, tabGet 0 t.panel.als i = (als.getD i 0).toNat % 2 ^ 14) ∧
        (∀ i : Fin 8, t.thCode i = (th.getD i 0).toNat % 2 ^ 14) ∧
        (∀ i : Fin 6, t.get (Fd.INS_SENS_LO i) = (if i.val < 2 then tabGet 0 t.panel.als (2 * i) else t.thCode (2 * (i - 2)))) ∧
        (∀ i : Fin 6, t.get (Fd.INS_SENS_HI i) = (if i.val < 2 then tabGet 0 t.panel.als (2 * i + 1) else t.thCode (2 * (i - 2)
          + 1))) ∧
        t.panel.stale = [] ∧ t.panel.thAt = s.time.now ∧
        RegsOnly (fun j => j ∈ (List.range 6).map Rg.INS_SENS) s { t with panel := s.panel })) ∧
    (∀ (i : Fin 8),
      s.inEpisode = false →
      s.domOn 18 = false →
      100 * msTicks < (s.time.now + 2 ^ 56 - s.panel.thAt) % 2 ^ 56 →
      Answers (.thermistorStale i) s (fun t =>
        i.val ∈ t.panel.stale ∧
        RegsOnly (fun _ => False) s { t with panel := s.panel }))

/-- At a PWM period every channel's applied duty moves towards its target under the ceiling, at a heater period its gate follows
  HEAT, an on time ends with the measured current, a trip closes the gate and counts, the third in a row latches, and the
  keep-alive expires with a record (R624 to R626). -/
def Obligations.ShankPeriodsComplete : Prop :=
  ∀ (s : State) (i : Fin 4),
      (s.inEpisode = false →
      s.shankOff = false →
      Answers .pwmPeriodStart s (fun t =>
        (∀ n : Fin 16, tabGet 0 t.panel.applied n = min (if s.flag (Fd.SHK_BL_EN n) then s.blSlew n else 0) s.blCeiling) ∧
        (∀ n : Fin 16, nbit (t.get Fd.SHK_LIMIT_CLAMP) n = decide (s.blCeiling < (if s.flag (Fd.SHK_BL_EN n) then s.blSlew n
          else 0))) ∧
        RegsOnly (fun k => k = Rg.SHK_LIMIT) s { t with panel := s.panel })) ∧
      (s.inEpisode = false →
      s.shankOff = false →
      Answers (.heaterPeriodStart i) s (fun t =>
        (t.heaterS i).gate = (s.flag (Fd.SHK_HT_S_HEAT i) && !s.gateHeld i && decide (0 < s.heaterOn i)) ∧
        (t.heaterS i).tripNow = false ∧ (t.heaterS i).trips = (if (s.heaterS i).tripNow then (s.heaterS i).trips else 0) ∧
        RegsOnly (fun _ => False) s { t with panel := s.panel })) ∧
    (∀ (im : BitVec 6),
      s.inEpisode = false →
      s.shankOff = false ∧ (s.heaterS i).gate = true →
      Answers (.heaterOnEnd i im) s (fun t =>
        (t.heaterS i).gate = false ∧
        t.get (Fd.SHK_HT_S_IMEAS i) = im.toNat ∧
        (s.pclk (s.get Fd.SHK_CTL_HEAD) ≤ s.heaterOn i * 100 ∧ im.toNat < s.get (Fd.SHK_HT_B_IMIN i) ∧ (s.heaterS i).low = 7 ∧
          s.flag (Fd.SHK_HT_S_OPEN i) = false → t.flag (Fd.SHK_HT_S_OPEN i) = true ∧ Recorded s t (uHeater i) 0x42 1 0) ∧
        t.mem = s.mem)) ∧
      (s.inEpisode = false →
      s.shankOff = false ∧ (s.heaterS i).gate = true →
      Answers (.heaterOvercurrent i) s (fun t =>
        (t.heaterS i).gate = false ∧ (t.heaterS i).trips = (s.heaterS i).trips + 1 ∧ (t.heaterS i).tripNow = true ∧
        t.get (Fd.SHK_HT_S_TRIPCNT i) = min 255 (s.get (Fd.SHK_HT_S_TRIPCNT i) + 1) ∧
        ((s.heaterS i).trips = 2 → t.flag (Fd.SHK_HT_S_LATCH i) = true ∧ Recorded s t (uHeater i) 0x41 2 0) ∧
        t.mem = s.mem)) ∧
      (s.shankUp = true →
      s.get Fd.SHK_CTL_KEEPTMO ≠ 0 ∧ s.flag Fd.SHK_STAT_KEEPEXP = false →
      s.get Fd.SHK_CTL_KEEPTMO * msTicks ≤ (s.time.now + 2 ^ 56 - s.panel.keptAt) % 2 ^ 56 →
      Answers .keepaliveExpiry s (fun t =>
        t.flag Fd.SHK_STAT_KEEPEXP = true ∧
        Recorded s t uShank 0x40 1 2 ∧
        t.mem = s.mem)) ∧
    (∀ (tj : BitVec 12),
      s.inEpisode = false →
      s.get Fd.PWR_STATE_STATE ≠ 3 →
      Answers (.tjUpdate tj) s (fun t =>
        t.get Fd.PWR_TJ_TJ = tj.toNat ∧
        signed 12 (t.get Fd.PWR_TJ_MAX) = max (signed 12 (s.get Fd.PWR_TJ_MAX)) (signed 12 tj.toNat) ∧
        RegsOnly (fun k => k = Rg.PWR_TJ) s t))

/-- The best source of an idle vector is accepted as its message goes out, or its pending bit is set while the way to the host
  is closed, a mailbox message that waited goes out, a hold-off ends, a due compare fires once or moves on by its period, a
  capture edge stores the time base, and a watchdog warns, resets its core, or resets the device (R646 to R657). -/
def Obligations.TimeAndInterruptEventsComplete : Prop :=
  ∀ (s : State),
    (∀ (v : Fin 64) (n : Nat),
      s.inEpisode = false ∧ v.val ∉ s.lanes.ep.box →
      s.bestHost v = some n →
      s.msixShut v = true →
      Answers (.msixIssue v) s (fun t =>
        v.val ∈ t.icu.msixPend ∧
        t.icu = { s.icu with msixPend := t.icu.msixPend } ∧
        RegsOnly (fun _ => False) s { t with icu := s.icu })) ∧
    (∀ (v : Fin 64) (n : Nat),
      s.inEpisode = false ∧ v.val ∉ s.lanes.ep.box →
      s.bestHost v = some n →
      s.msixShut v = false →
      Answers (.msixIssue v) s (fun t =>
        tabFind t.icu.host v = some n ∧
        t.icu.pend = (if srcLevel n then s.icu.pend else s.icu.pend.filter (fun m => m != n)) ∧
        v.val ∉ t.icu.msixPend ∧
        t.lanes.ep.sent = some (s.msixWord (4 * v + 1) * 2 ^ 32 + s.msixWord (4 * v), s.msixWord (4 * v + 2)) ∧
        t.get (Fd.ICU_GRP_HOLD_HELD (n / 24)) = (if s.get (Fd.ICU_GRP_HOLD_HOLD (n / 24)) = 0 then s.get (Fd.ICU_GRP_HOLD_HELD
          (n / 24)) else 1) ∧
        RegsOnly (fun k => k = Rg.ICU_GRP_HOLD (n / 24)) s { t with icu := s.icu, lanes := s.lanes })) ∧
    (∀ (v : Fin 64),
      s.inEpisode = false ∧ v.val ∈ s.lanes.ep.box →
      s.msixShut v = false →
      Answers (.msixIssue v) s (fun t =>
        t.lanes.ep.box = s.lanes.ep.box.filter (fun x => x != v.val) ∧
        v.val ∉ t.icu.msixPend ∧
        t.lanes.ep.sent = some (s.msixWord (4 * v + 1) * 2 ^ 32 + s.msixWord (4 * v), s.msixWord (4 * v + 2)) ∧
        RegsOnly (fun _ => False) s { t with icu := s.icu, lanes := s.lanes })) ∧
    (∀ (g : Fin 16),
      s.inEpisode = false →
      tabGet 0 s.icu.hold g = 0 →
      Answers (.holdoffExpiry g) s (fun t =>
        t.flag (Fd.ICU_GRP_HOLD_HELD g) = false ∧
        tabFind t.icu.hold g = none ∧
        RegsOnly (fun k => k = Rg.ICU_GRP_HOLD g) s { t with icu := s.icu })) ∧
    (∀ (k : Fin 32),
      s.inEpisode = false →
      k.val ∈ s.time.cmpDue ∧ s.flag (Fd.CMPCTL_EN k) = true →
      s.flag (Fd.CMPCTL_PER k) = false →
      Answers (.compareFire k) s (fun t =>
        t.flag (Fd.CMPCTL_FIRED k) = true ∧ t.flag (Fd.CMPCTL_EN k) = false ∧
        t.time.cmpDue = s.time.cmpDue.filter (fun j => j != k.val) ∧
        (s.domOn (srcDomain (240 + k)) = true ∧ srcReserved (240 + k) = false → 240 + k.val ∈ t.icu.pend) ∧
        RegsOnly (fun j => j = Rg.CMPCTL k) s { t with icu := s.icu, time := s.time })) ∧
    (∀ (k : Fin 32),
      let c := s.cmpOf k;
      let p := max 1 (s.get (Fd.CMPCTL_PERIOD k));
      s.inEpisode = false →
      k.val ∈ s.time.cmpDue ∧ s.flag (Fd.CMPCTL_EN k) = true →
      s.flag (Fd.CMPCTL_PER k) = true →
      Answers (.compareFire k) s (fun t =>
        t.flag (Fd.CMPCTL_FIRED k) = true ∧ t.flag (Fd.CMPCTL_EN k) = true ∧
        t.cmpOf k = (if c ≤ s.time.now then c + ((s.time.now - c) / p + 1) * p else c) % 2 ^ 56 ∧
        (s.domOn (srcDomain (240 + k)) = true ∧ srcReserved (240 + k) = false → 240 + k.val ∈ t.icu.pend) ∧
        (RegsOnly (fun j => j = Rg.CMPCTL k ∨ j = Rg.CMPLO k ∨ j = Rg.CMPHI k) s { t with icu := s.icu, time := s.time }))) ∧
    (∀ (trig : BitVec 7) (rising : Bool),
      s.inEpisode = false →
      (trig.toNat < 8 ∧ s.eyeFn (64 + trig.toNat) 1 = true ∨ 0x60 ≤ trig.toNat ∧ trig.toNat < 0x64 ∧ s.eyeFn (44 + trig.toNat -
        0x60) 1 = true) →
      Answers (.captureEdge trig rising) s (fun t =>
        (∀ k : Fin 16, s.flag (Fd.CAPCTL_EN k) = true ∧ s.get (Fd.CAPCTL_TRIG k) = trig.toNat ∧ nbit (s.get (Fd.CAPCTL_EDGE k))
          (if rising then 0 else 1) = true → if (tabGet [] s.time.caps k).length < 2 then tabGet [] t.time.caps k = tabGet []
          s.time.caps k ++ [s.time.now] else t.flag (Fd.CAPCTL_OVF k) = true) ∧
        (∀ k : Fin 16, ¬ (s.flag (Fd.CAPCTL_EN k) = true ∧ s.get (Fd.CAPCTL_TRIG k) = trig.toNat ∧ nbit (s.get (Fd.CAPCTL_EDGE
          k)) (if rising then 0 else 1) = true) → tabGet [] t.time.caps k = tabGet [] s.time.caps k) ∧
        RegsOnly (fun j => j ∈ (List.range 16).map Rg.CAPCTL) s { t with time := s.time })) ∧
    (∀ (n : Fin 5) (w : Nat),
      s.inEpisode = false →
      s.wdWarnAt n = some w →
      s.flag (Fd.TIME_WD_CTL_EN n) = true ∧ s.get (Fd.TIME_WD_CNT_REMAIN n) ≤ w →
      n.val ∉ s.time.wdWarned →
      Answers (.watchdogWarning n) s (fun t =>
        t.flag (Fd.TIME_WD_CTL_WARNEV n) = true ∧
        n.val ∈ t.time.wdWarned ∧
        (s.domOn (srcDomain (288 + n)) = true ∧ srcReserved (288 + n) = false → 288 + n.val ∈ t.icu.pend) ∧
        RegsOnly (fun j => j = Rg.TIME_WD_CTL n) s { t with icu := s.icu, time := s.time })) ∧
    (∀ (n : Fin 4),
      s.inEpisode = false →
      s.flag (Fd.TIME_WD_CTL_EN n) = true ∧ s.get (Fd.TIME_WD_CNT_REMAIN n) = 0 →
      Answers (.watchdogExpiry (n.castLE (by decide))) s (fun t =>
        uCore n ∈ t.rst.pulsed ∧
        t.flag (Fd.TIME_WD_CTL_EN n) = false ∧
        Recorded s t (uCore n) 0x31 1 0 ∧
        t.mem = s.mem)) ∧
      (s.inEpisode = false →
      s.flag (Fd.TIME_WD_CTL_EN 4) = true ∧ s.get (Fd.TIME_WD_CNT_REMAIN 4) = 0 →
      s.sec.fuse = none →
      Answers (.watchdogExpiry 4) s (fun t =>
        t.rst.asserted = [ResetSrc.devwdt] ∧
        ResetSrc.devwdt ∈ t.rst.causes))

/-- A sample sets IN and, where its filter and mode say so, IEV; an I2C command ends with its bytes moved and BUSY clear; a UART
  byte enters its receive FIFO or sets FERR or OVR, and one leaves its transmit FIFO (R672, R677, R678). -/
def Obligations.EyeletEventsComplete : Prop :=
  ∀ (s : State),
    (∀ (n : Fin 128) (lv : Bool),
      let x := tabGet {} s.eyes n;
      let run := if s.flag (Fd.EY_IN n) = lv then min 4 (x.run + 1) else 1;
      let lvl := if s.flag (Fd.EY_FILT n) then (if 4 ≤ run then lv else x.lvl) else lv;
      let m := s.get (Fd.EY_IMODE n);
      s.inEpisode = false →
      s.get Fd.PWR_STATE_STATE ≠ 3 →
      Answers (.eyeletEvent n lv) s (fun t =>
        t.flag (Fd.EY_IN n) = lv ∧
        (tabGet {} t.eyes n).lvl = lvl ∧ (tabGet {} t.eyes n).run = run ∧
        t.flag (Fd.EY_IEV n) = (s.flag (Fd.EY_IEV n) || (lvl != x.lvl && (m == 1 && lvl || m == 2 && !lvl || m == 3))) ∧
        (RegsOnly (fun k => k = (Fd.EY_IN n).key ∨ k = (Fd.EY_IEV n).key) s { t with eyes := s.eyes }))) ∧
    (∀ (k : Fin 4) (n : Fin 65) (data : List Byte),
      let c := s.get (Fd.I2C_CMD_COUNT k);
      s.inEpisode = false →
      s.flag (Fd.I2C_STAT_BUSY k) = true →
      s.flag (Fd.I2C_CMD_RD k) = false →
      c ≤ (s.perS k).tx.length →
      s.i2cPlaced k = true ∧ s.loopOnBus k = false →
      Answers (.i2cCommandDone k n data false false) s (fun t =>
        t.flag (Fd.I2C_STAT_BUSY k) = false ∧
        (t.perS k).tx = (s.perS k).tx.drop c ∧ (t.perS k).rx = (s.perS k).rx ∧
        (t.perS k).held = !s.flag (Fd.I2C_CMD_STOP k) ∧
        RegsOnly (fun j => j = Rg.I2C_STAT k) s { t with pers := s.pers })) ∧
    (∀ (k : Fin 4) (n : Fin 65) (data : List Byte),
      let c := s.get (Fd.I2C_CMD_COUNT k);
      s.inEpisode = false →
      s.flag (Fd.I2C_STAT_BUSY k) = true →
      s.flag (Fd.I2C_CMD_RD k) = true →
      data.length = c ∧ (s.perS k).rx.length + c ≤ 64 →
      s.i2cPlaced k = true ∧ s.loopOnBus k = false →
      Answers (.i2cCommandDone k n data false false) s (fun t =>
        t.flag (Fd.I2C_STAT_BUSY k) = false ∧
        (t.perS k).rx = (s.perS k).rx ++ data.map (fun b => b.toNat) ∧ (t.perS k).tx = (s.perS k).tx ∧
        RegsOnly (fun j => j = Rg.I2C_STAT k) s { t with pers := s.pers })) ∧
    (∀ (k : Fin 4) (n : Fin 65) (data : List Byte) (lost : Bool),
      s.inEpisode = false →
      s.flag (Fd.I2C_STAT_BUSY k) = true ∧ s.loopOnBus k = false →
      Answers (.i2cCommandDone k n data true lost) s (fun t =>
        t.flag (Fd.I2C_STAT_BUSY k) = false ∧ t.flag (Fd.I2C_STAT_NACK k) = true ∧
        t.flag (Fd.I2C_STAT_LOST k) = (s.flag (Fd.I2C_STAT_LOST k) || lost) ∧
        RegsOnly (fun j => j = Rg.I2C_STAT k) s { t with pers := s.pers })) ∧
    (∀ (u : Fin 2) (b : Byte) (bad : Bool),
      let q := s.perS (4 + u);
      s.inEpisode = false →
      s.flag (Fd.UART_CFG_EN u) = true ∧ s.eyeFn (25 + 4 * u) 1 = true →
      Answers (.uartRxByte u b bad) s (fun t =>
        (t.perS (4 + u)).rx = (if bad = false ∧ q.rx.length < 64 then q.rx ++ [b.toNat] else q.rx) ∧
        t.flag (Fd.UART_STAT_FERR u) = (s.flag (Fd.UART_STAT_FERR u) || bad) ∧
        t.flag (Fd.UART_STAT_OVR u) = (s.flag (Fd.UART_STAT_OVR u) || (!bad && decide (64 ≤ q.rx.length))) ∧
        RegsOnly (fun k => k = Rg.UART_STAT u) s { t with pers := s.pers })) ∧
    (∀ (u : Fin 2) (cts : Bool),
      s.inEpisode = false →
      s.flag (Fd.UART_CFG_EN u) = true →
      (s.flag (Fd.UART_CFG_FLOW u) = false ∨ cts = false ∧ s.eyeFn (27 + 4 * u) 1 = true) →
      Answers (.uartTxByte u cts) s (fun t =>
        (t.perS (4 + u)).tx = (s.perS (4 + u)).tx.drop 1 ∧
        RegsOnly (fun _ => False) s { t with pers := s.pers }))

/-- ID answers the device's identity, CHALLENGE a fresh nonce, UNLOCK_PUT stores its bytes, UNLOCK_CHECK opens the port where
  its checks pass and counts the failure where they do not, READ and WRITE move words once the port is unlocked, an unknown code
  answers 0x10, and a wrong CRC sets FRERR (R703 to R709; the checks' results are those of R710). -/
def Obligations.DebugFramesComplete : Prop :=
  ∀ (s : State) (e : Env) (crc : BitVec 16),
    let u := s.dbgPulse;
      (s.dbgListens = true →
      dbgCrcOk 0x01 [] crc = true →
      Answers (.dbgId crc []) s (fun t =>
        t.bus = dbgResponse 0 (leBytes 0x1420B01 4 ++ leBytes (u.regN Rg.SEC_UIDLO + u.regN Rg.SEC_UIDMID * 2 ^ 28 + u.regN
          Rg.SEC_UIDHI % 256 * 2 ^ 56) 8) ∧
        RegsOnly (fun _ => False) u { t with bus := u.bus })) ∧
      (s.dbgListens = true →
      u.flag Fd.DBG_STAT_DISABLED = false ∧ u.dbg.busy = 0 →
      dbgCrcOk 0x02 [] crc = true →
      Answers (.dbgChallenge crc []) s (fun t =>
        (∃ x, x < 2 ^ 256 ∧ t.dbg.nonce = some x ∧ t.bus = dbgResponse 0 (leBytes x 32)) ∧
        RegsOnly (fun _ => False) u { t with bus := u.bus, dbg := u.dbg, fresh := u.fresh })) ∧
    (∀ (pl : List Byte),
      let off := beNat ((pl.map BitVec.toNat).take 2);
      s.dbgListens = true →
      3 ≤ pl.length ∧ pl.length ≤ 4096 →
      off + (pl.length - 2) ≤ 5332 →
      dbgCrcOk 0x03 pl crc = true →
      Answers (.dbgUnlockPut crc pl) s (fun t =>
        t.bus = dbgResponse 0 [] ∧
        (∀ i, tabGet 0 t.dbg.buf i = (if off ≤ i ∧ i < off + (pl.length - 2) then (pl.getD (i - off + 2) 0).toNat else tabGet 0
          u.dbg.buf i)) ∧
        RegsOnly (fun _ => False) u { t with bus := u.bus, dbg := u.dbg })) ∧
      (let st := (if u.fenced uSec then 0x13 else u.unlockStatus : Nat);
      s.dbgListens = true →
      dbgCrcOk 0x04 [] crc = true →
      Answers (.dbgUnlockCheck crc []) s (fun t =>
        t.bus = dbgResponse st [] ∧
        t.dbg.nonce = none ∧
        (st = 0 → t.flag Fd.DBG_STAT_UNLOCKED = true) ∧
        (st ≠ 0 → t.get Fd.DBG_STAT_FAILS = min 15 (u.get Fd.DBG_STAT_FAILS + 1) ∧ t.dbg.busy = 62500000 ∧ t.flag
          Fd.DBG_STAT_UNLOCKED = u.flag Fd.DBG_STAT_UNLOCKED) ∧
        RegsOnly (fun k => k = Rg.DBG_STAT) u { t with bus := u.bus, dbg := u.dbg })) ∧
    (∀ (pl : List Byte) (ws : List Nat) (b : Bus),
      let a := beNat ((pl.map BitVec.toNat).take 5);
      let n := beNat (((pl.map BitVec.toNat).drop 5).take 2);
      s.dbgListens = true →
      s.hub.stopping = false ∧ u.flag Fd.DBG_STAT_UNLOCKED = true →
      pl.length = 7 ∧ a % 4 = 0 ∧ 0 < n ∧ n ≤ 1024 →
      (busOf u e).dbgReads u.dbgWho a n = .ok ws false b →
      dbgCrcOk 0x08 pl crc = true →
      Answers (.dbgRead crc pl e) s (fun t =>
        t.bus = dbgResponse 0 (ws.flatMap wordOf) ∧
        t.regs = b.s.regs ∧ t.mem = b.s.mem)) ∧
    (∀ (pl : List Byte) (x : List Nat) (b : Bus),
      let a := beNat ((pl.map BitVec.toNat).take 5);
      s.dbgListens = true →
      s.hub.stopping = false ∧ u.flag Fd.DBG_STAT_UNLOCKED = true →
      9 ≤ pl.length ∧ pl.length ≤ 4093 ∧ pl.length % 4 = 1 ∧ a % 4 = 0 →
      (busOf u e).dbgWrites u.dbgWho a (payloadWords ((pl.map BitVec.toNat).drop 5)) = .ok x false b →
      dbgCrcOk 0x09 pl crc = true →
      Answers (.dbgWrite crc pl e) s (fun t =>
        t.bus = dbgResponse 0 [] ∧
        t.regs = b.s.regs ∧ t.mem = b.s.mem)) ∧
    (∀ (op : Byte) (pl : List Byte),
      s.dbgListens = true →
      op.toNat ∉ [0x01, 0x02, 0x03, 0x04, 0x08, 0x09] →
      dbgCrcOk op.toNat pl crc = true →
      Answers (.debugUnknownOp op crc pl) s (fun t =>
        t.bus = dbgResponse 0x10 [] ∧
        RegsOnly (fun _ => False) u { t with bus := u.bus })) ∧
    (∀ (pl : List Byte),
      s.dbgListens = true →
      dbgCrcOk 0x01 pl crc = false →
      Answers (.dbgId crc pl) s (fun t =>
        t.bus = dbgResponse 0x11 [] ∧
        t.flag Fd.DBG_STAT_FRERR = true ∧
        RegsOnly (fun k => k = Rg.DBG_STAT) u { t with bus := u.bus }))

/-- A break wakes a device in NAP or STOW, a framing error and a gap set FRERR, a long low on the reset pin begins its reset, a
  requested halt is reached when no core runs, and a step ends done or stalled (R703, R713, R716). -/
def Obligations.DebugPinAndRunControlComplete : Prop :=
  ∀ (s : State) (e : Env),
      (s.inEpisode = false →
      s.flag Fd.PWR_WAKE_DBG = true ∧ s.rst.target = none →
      (s.get Fd.PWR_STATE_STATE = 2 ∨ s.get Fd.PWR_STATE_STATE = 3) →
      Answers .debugBreak s (fun t =>
        t.flag Fd.PWR_STATE_BUSY = true ∧
        t.rst = { s.rst with target := some 0, wakeLatched := some (wakeCode .dbg), deep := false } ∧
        RegsOnly (fun k => k = Rg.PWR_STATE) s { t with rst := s.rst })) ∧
      (s.dbgListens = true →
      Answers .debugFramingError s (fun t =>
        t.flag Fd.DBG_STAT_FRERR = true ∧
        RegsOnly (fun k => k = Rg.DBG_STAT) s.dbgPulse t)) ∧
      (s.dbgListens = true →
      Answers .debugFrameGap s (fun t =>
        t.flag Fd.DBG_STAT_FRERR = true ∧
        RegsOnly (fun k => k = Rg.DBG_STAT) s t)) ∧
      (s.inEpisode = false →
      s.sec.fuse = none →
      Answers .dbgrstLongLow s (fun t =>
        t.rst.asserted = [ResetSrc.pin] ∧
        ResetSrc.pin ∈ t.rst.causes)) ∧
      (s.inEpisode = false →
      s.flag Fd.DBG_RUN_HALTREQ = true →
      (∀ n : Fin 4, s.coreState n ≠ 2) →
      Answers (.haltReached e) s (fun t =>
        t.flag Fd.DBG_RUN_HALTREQ = false ∧ t.flag Fd.DBG_RUN_HALTED = true ∧
        t.mem = s.mem)) ∧
      (s.inEpisode = false →
      s.dbg.step ≠ none ∧ s.dbg.stepped = true →
      Answers .stepDone s (fun t =>
        t.flag Fd.DBG_RUN_STEPDONE = true ∧
        t.get Fd.DBG_RUN_CAUSE = Nat.lor (s.get Fd.DBG_RUN_CAUSE) 8 ∧
        t.dbg = { s.dbg with step := none, stepped := false } ∧
        RegsOnly (fun k => k = Rg.DBG_RUN) s { t with dbg := s.dbg })) ∧
      (s.inEpisode = false →
      s.dbg.step ≠ none ∧ s.dbg.stepped = false →
      Answers .stepStall s (fun t =>
        t.flag Fd.DBG_RUN_STEPSTALL = true ∧
        t.dbg = { s.dbg with step := none, stepped := false } ∧
        RegsOnly (fun k => k = Rg.DBG_RUN) s { t with dbg := s.dbg }))

/-- With a command c at the front of its queue, a step is exec of c on the state with the queue's rest. -/
def Obligations.StepRunsTheFrontCommand : Prop :=
  ∀ (s : State) (c : Instr) (rest : List Instr), s.pending = c :: rest → step s = exec c { s with pending := rest }

/-- On an empty queue a step counts the time base by 1 modulo 2⁵⁶, or by 0 or 2 where the frequency correction of fabric time
  slews it, but not inside a reset episode or in STOW, and leaves memory as it is. That an idle step is one tick, and how a slew
  is spread over ticks, are the model's choices (log entries 1 and 81). -/
def Obligations.IdleStepTicks : Prop :=
  ∀ s : State, s.pending = [] → ∃ t, step s = .next t ∧ t.mem = s.mem ∧ t.pending = [] ∧
    t.time.now = (if s.inEpisode = true ∨ s.get Fd.PWR_STATE_STATE = 3 then s.time.now else (s.time.now + s.slewStep.1) % 2 ^ 56) ∧
    (s.welt.corr = 0 ∧ s.welt.phase < 2 ^ 20 → s.slewStep.1 = 1)

/-- After reset the queue is empty, memory and the register file are in canonical form and nothing is listed in memory, and
  these registers hold the values the register tables give: DBG_ID, the supply loop, the pace and slack minima, the head timing,
  and fields of every other block. -/
def Obligations.ResetLeavesTheSpecValues : Prop :=
  State.reset.pending = [] ∧ State.reset.mem = [] ∧ MemoryGood State.reset ∧ RegistersGood State.reset ∧
    ∀ p ∈ [(Fd.TONGUE_CFG_FWDTMO, 10), (Fd.PWR_PACECTL_HOLD, 4), (Fd.PWR_VLIMIT_VMAX, 850), (Fd.PWR_VSET_IDLE, 720), (Fd.PWR_TJ_MAX, 2048), (Fd.TIME_WD_CTL_PERIOD 4, 1000), (Fd.EYE_WP_CFG_FAILTHR 7, 10), (Fd.DBG_ID_PART, 0x1420), (Fd.DBG_ID_STEPPING, 0xB0), (Fd.LAST_CTL_MINMARGIN, 123), (Fd.SL_PACE_MINPACE 15, 8191), (Fd.SL_SLACK_MIN 0, 2047), (Fd.HD_HTIME_HTOTAL 3, 800), (Fd.HD_PCLK_PCLK_KHZ 15, 25175), (Fd.WELT_TSCFG_TIMEOUT, 100), (Fd.WELT_TIMESTAT_HOPS, 31), (Fd.PCIE_CTL_MAXGEN, 5), (Fd.LACE_CH_MAXDESC_MAXDESC 31, 65535), (Fd.SKIVER_CTL_TMO, 100), (Fd.AUD_MB_GAIN 31, 8192), (Fd.AUD_RX_CFG_FILL 2, 4), (Fd.INS_FE_THR_GTHR 1, 40), (Fd.SHK_BLCFG_PERIOD, 62500), (Fd.SRC_PRI 383, 128), (Fd.I2C_CFG_TMO 0, 25), (Fd.UART_CFG_DIV 1, 1736)], State.reset.get p.1 = p.2

/-- Where memory lists no address twice, in rising order, with no byte equal to what an unlisted address reads as, and the
  register file likewise, every step that answers a next state leaves both so. -/
def Obligations.StepKeepsCanonicalForm : Prop :=
  ∀ s t : State, MemoryGood s → RegistersGood s → step s = .next t → MemoryGood t ∧ RegistersGood t

/-- For every Awl instruction, with its condition false the core goes on at the next instruction, or at the same one while
  iterations of a REP are left, and its cells, flags, bank registers and IE are as they were (R524, R525, R533). -/
def Obligations.FalseConditionOnlyAdvances : Prop :=
  ∀ (n : Fin 4) (s : State) (i : Insn) (e : Env) (p : Nat × Instr),
      p ∈ [(0x00, .awlNop n), (0x01, .awlMov n), (0x02, .awlLdi n), (0x03, .awlLdhi n), (0x04, .awlRetag n), (0x05, .awlGettag
        n), (0x06, .awlTtst n), (0x08, .awlAdd n), (0x09, .awlSub n), (0x0A, .awlAdc n), (0x0B, .awlSbc n), (0x0C, .awlCmp n),
        (0x0D, .awlNeg n), (0x0E, .awlAddi n), (0x0F, .awlCmpi n), (0x10, .awlMul n), (0x11, .awlMulh n), (0x12, .awlDiv n),
        (0x13, .awlRem n), (0x14, .awlMin n), (0x15, .awlMax n), (0x18, .awlAnd n), (0x19, .awlOr n), (0x1A, .awlXor n), (0x1B,
        .awlNot n), (0x1C, .awlTst n), (0x1D, .awlShl n), (0x1E, .awlShr n), (0x1F, .awlSar n), (0x20, .awlLd n e), (0x21,
        .awlSt n e), (0x22, .awlLd2 n e), (0x23, .awlSt2 n e), (0x24, .awlIn n e), (0x25, .awlOut n e), (0x26, .awlBkset n),
        (0x27, .awlBkget n), (0x28, .awlB n), (0x29, .awlCall n), (0x2A, .awlJmp n), (0x2B, .awlCallr n), (0x30, .awlRep n),
        (0x31, .awlLock n), (0x32, .awlUnlock n), (0x33, .awlSetie n), (0x34, .awlWfi n), (0x35, .awlTrap n), (0x36, .awlReti
        n)] →
      s.coreRuns n = true ∧ s.fetchAt n (s.pcOf n) = some i →
      i.op = p.1 ∧ awlCond (s.flagsOf n) i.cond = false →
      Answers p.2 s (fun t => CoreDone n s t (s.flagsOf n) ∧ CellsAre n s t [])

/-- While a reset is asserted, every command but those that assert or release resets, report supplies and the backup oscillator,
  or end a supply-bus transaction in flight leaves the state as it was (R424, R425). -/
def Obligations.EpisodeHoldsCommands : Prop :=
  ∀ (s : State) (c : Instr), s.inEpisode = true →
    match c with
    | .dbgrstLongLow | .controlledStopEnd | .resetAssert _ | .resetRelease _ _ | .supplyWarning _ | .supplyResetLevel _ | .supplyRecovery _
    | .oscfail | .backupSupplyLoss | .pmbusTransactionDone _ _ | .pmbusTimeout => True
    | c => exec c s = .next s

/-- A write of LAST_HDn_SEL that names a slot that is not admitted or lacks the head, a write of FETCH_POOLk that breaks its
  limits, and a write of SYS_EYCFG with a reserved FUNC or IMODE set ERR and change nothing else; a legal FETCH_POOLk write
  takes no tack back, and a class at its limit takes none (R111, R271, R676). -/
def Obligations.RefusedRegisterWrites : Prop :=
  ∀ (s : State) (m : Fin 32) (v : BitVec 28) (e : Env),
    let w := v.toNat;
    (∀ (h : Fin 16),
      Taken s m (Rg.LAST_HD_SEL h) w →
      nbit w 3 = true →
      (s.slotState (w % 8) < 3 ∨ nbit (hdHeads (s.slotImg (w % 8))) h = false) →
      Writes (.lastHdSelWrite h m v e) s (fun t =>
        t.flag (Fd.LAST_HD_SEL_ERR h) = true ∧
        t.get (Fd.LAST_HD_SEL_NEXT h) = s.get (Fd.LAST_HD_SEL_NEXT h) ∧ t.get (Fd.LAST_HD_SEL_NEXTEN h) = s.get
          (Fd.LAST_HD_SEL_NEXTEN h) ∧ t.get (Fd.LAST_HD_SEL_CUR h) = s.get (Fd.LAST_HD_SEL_CUR h) ∧ t.get (Fd.LAST_HD_SEL_CURV
          h) = s.get (Fd.LAST_HD_SEL_CURV h) ∧
        AccessOnly (fun k => k = Rg.LAST_HD_SEL h) s t)) ∧
    (∀ (k : Fin 8),
      Taken s m (Rg.FETCH_POOL k) w →
      (w / 2 ^ 11 % 2 ^ 11 < w % 2 ^ 11 ∨ 1024 < w / 2 ^ 11 % 2 ^ 11 ∨ 1024 < w % 2 ^ 11 + (((List.range 8).filter (fun j => j
        != k.val)).map s.poolRsv).sum) →
      Writes (.fetchPoolWrite k m v e) s (fun t =>
        t.flag (Fd.FETCH_POOL_STAT_ERR k) = true ∧
        t.get (Fd.FETCH_POOL_STAT_PEAK k) = s.get (Fd.FETCH_POOL_STAT_PEAK k) ∧ t.poolHeld k = s.poolHeld k ∧
        AccessOnly (fun j => j = Rg.FETCH_POOL_STAT k) s t)) ∧
    (∀ (k : Fin 8),
      Taken s m (Rg.FETCH_POOL k) w →
      w % 2 ^ 11 ≤ w / 2 ^ 11 % 2 ^ 11 ∧ w / 2 ^ 11 % 2 ^ 11 ≤ 1024 ∧ w % 2 ^ 11 + (((List.range 8).filter (fun j => j !=
        k.val)).map s.poolRsv).sum ≤ 1024 →
      Writes (.fetchPoolWrite k m v e) s (fun t =>
        t.poolHeld k = s.poolHeld k ∧
        (t.poolLimit k ≤ t.poolHeld k → t.poolMay k = false) ∧
        AccessOnly (fun j => j = Rg.FETCH_POOL k) s t)) ∧
      (let o := ownerOfMaster m;
      Taken s m Rg.SYS_EYCFG w →
      (funcOk (s.eyIx o) (w / 2 ^ 25) = false ∨ 6 ≤ w / 2 ^ 13 % 2 ^ 3) →
      Writes (.eyeletConfigWrite m v e) s (fun t =>
        t.flag (Fd.EYIDX_C_ERR o) = true ∧ t.eyIx o = s.eyIx o ∧
        AccessOnly (fun k => k = Rg.EYIDX_C o) s t))

/-- A write of LAST_HD3_SEL, FETCH_POOL5, HD2_CTL, ICU_SWSET, AUD_KEY or ICU_TGT1_EOI is accepted exactly where the register's
  domain is open, owned by the writer, or the writer is the debugger, but HD2_CTL never while HD2 runs a Last (R112); a direct
  write that is not leaves the register and memory as they were, completes without bus error and makes a C0 record against the
  master (R405, R406). -/
def Obligations.OwnerCheck : Prop :=
  ∀ (s : State) (m : Fin 32) (v : BitVec 28) (e : Env) (c : Instr) (k : Nat),
    let rows := [(Instr.lastHdSelWrite 3 m v e, Rg.LAST_HD_SEL 3), (Instr.fetchPoolWrite 5 m v e, Rg.FETCH_POOL 5),
      (Instr.headRun 2 m v e, Rg.HD_CTL 2), (Instr.swsetSet m v e, Rg.ICU_SWSET), (Instr.audKey m v e, Rg.AUD_KEY),
      (Instr.eoiWrite 1 m v e, Rg.ICU_TGT_EOI 1)];
    (∀ (o : Nat),
      (c, k) ∈ rows →
      (s.writeRefused o k v.toNat = none ↔ (s.get (Fd.OWN_OWNER (ownDomain k)) = 0 ∨ s.get (Fd.OWN_OWNER (ownDomain k)) = o ∨ o
        = 7) ∧ ¬(k = Rg.HD_CTL 2 ∧ s.flag (Fd.LAST_HD_SEL_CURV 2) = true))) ∧
    (∀ (d : Nat),
      (c, k) ∈ rows →
      s.masterFrozen m = false ∧ s.domOn (regDomain k) = true →
      s.writeRefused (ownerOfMaster m) k v.toNat = some d →
      Answers c s (fun t => t.bus = .done ∧ t.reg k = s.reg k ∧ t.mem = s.mem ∧ Recorded s t (uMaster m) 0x02 0 d))

/-- While GDIS is 1 no core accepts a source and no MSI-X message is issued; pending bits go on being set, and an EOI write ends
  the innermost active source as ever (R648). -/
def Obligations.GlobalDisableStopsDelivery : Prop :=
  ∀ (s : State) (m : Fin 32) (v : BitVec 28) (e : Env) (n : Fin 4),
      (s.flag Fd.ICU_CTL_GDIS = true →
      Answers (.irqAccept n) s (fun t => t = s)) ∧
    (∀ (x : Fin 64),
      s.flag Fd.ICU_CTL_GDIS = true →
      Answers (.msixIssue x) s (fun t => t = s)) ∧
    (∀ (i : Nat),
      s.flag Fd.ICU_CTL_GDIS = true →
      srcReserved i = false ∧ s.domOn (srcDomain i) = true →
      (s.raise i).icu = { s.icu with pend := setAdd s.icu.pend i } ∧ i ∈ (s.raise i).icu.pend) ∧
    (∀ (rest : List Nat),
      s.flag Fd.ICU_CTL_GDIS = true →
      Taken s m (Rg.ICU_TGT_EOI n) v.toNat →
      s.stackOf n = v.toNat % 512 :: rest →
      Writes (.eoiWrite (n.castLE (by decide)) m v e) s (fun t =>
        t.stackOf n = rest ∧
        t.icu.pend = s.icu.pend ∧
        AccessOnly (fun _ => False) s { t with icu := s.icu }))

/-- A write by any master to an address of the Last store, of the fault log or of no memory ends with bus-error status and
  leaves memory as it was; its address is captured where VALID was 0, OVF is set where it was 1, and a C1 record is made; a read
  of the Last store returns its bytes (R35, R36, R39). -/
def Obligations.LastStoreIsReadOnly : Prop :=
  ∀ (b : Bus) (w : Who) (a n : Nat) (d : List Nat),
    let s := b.s;
    (∀ (en : Nat),
      a < 2 ^ 40 →
      (decodeAddr a = .lastStore ∨ decodeAddr a = .hole ∨ 0x7FF4000000 ≤ a ∧ a < 0x7FF4000400) →
      ∃ c, b.writeAt w a en d = .err c ∧ c.s.mem = s.mem ∧ Recorded s c.s (uMaster w.m) 0x01 1 0 ∧ (s.flag Fd.SYS_DECERR1_VALID
        = false → c.s.flag Fd.SYS_DECERR1_VALID = true ∧ c.s.flag Fd.SYS_DECERR1_WRITE = true ∧ c.s.get Fd.SYS_DECERR0_ADDRLO =
        a % 2 ^ 28 ∧ c.s.get Fd.SYS_DECERR1_ADDRHI = a / 2 ^ 28 ∧ c.s.get Fd.SYS_DECERR1_MASTER = w.m % 2 ^ 5) ∧ (s.flag
        Fd.SYS_DECERR1_VALID = true → c.s.flag Fd.SYS_DECERR1_OVF = true ∧ c.s.get Fd.SYS_DECERR0_ADDRLO = s.get
        Fd.SYS_DECERR0_ADDRLO)) ∧
      (0x7FFF800000 ≤ a ∧ a < 2 ^ 39 →
      b.readAt w a n = .ok (s.chipBytes a n) b)

/-- A LUT maps each channel on its own to the clamped sum of its entry and the interpolation towards the next one, floored
  (R198); a LUT with L[j] = 4 × j maps every input to itself; mul14(a, 16383) = a and mul14(a, 0) = 0 for every a, and a product
  never exceeds 16383. -/
def Obligations.PictureArithmetic : Prop :=
  (∀ (l : Nat → Nat) (v : Nat), v ≤ 16383 →
      let next : Int := if v >>> 2 = 4095 then 2 * (l 4095 : Int) - l 4094 else l (v >>> 2 + 1)
      let f : Int := ((v &&& 3 : Nat) : Int)
      let here : Int := l (v >>> 2)
      (lutMap l v : Int) = max (0 : Int) (min 16383 (here + ((next - here) * f + 2) / 4))) ∧
    (∀ (l r g : Nat → Nat) (p : Px), lutPx l r g p = ⟨p.a, lutMap l p.r, lutMap r p.g, lutMap g p.b⟩) ∧
    (∀ v, v ≤ 16383 → lutMap (fun j => 4 * j) v = v) ∧ (∀ (l : Nat → Nat) (v : Nat), lutMap l v ≤ 16383) ∧
    (∀ a, mul14 a 16383 = a ∧ mul14 a 0 = 0) ∧ ∀ a b, a ≤ 16383 → b ≤ 16383 → mul14 a b ≤ 16383
end

