-- ==== Sys2Proof/Laws/Tab.lean ====
section
/-! SUPPORT. Laws of the sparse tables: what a look-up finds after an insertion or a removal, and that every operation keeps
the canonical form. -/
namespace Sys2Proof.Machine

variable {α : Type}

/-! ## Look-ups -/

@[simp] theorem tabFind_nil (k : Nat) : tabFind ([] : List (Nat × α)) k = none := rfl

theorem tabFind_insert_same (t : List (Nat × α)) (k : Nat) (v : α) : tabFind (tabInsert t k v) k = some v := by
  induction t with
  | nil => simp [tabInsert, tabFind]
  | cons e t ih =>
    obtain ⟨j, w⟩ := e
    simp only [tabInsert]
    split
    · simp [tabFind]
    · split
      · simp [tabFind]
      · simp [tabFind, *]

theorem tabFind_insert_other (t : List (Nat × α)) (k j : Nat) (v : α) (h : j ≠ k) : tabFind (tabInsert t k v) j = tabFind t j := by
  induction t with
  | nil => simp [tabInsert, tabFind, Ne.symm h]
  | cons e t ih =>
    obtain ⟨i, w⟩ := e
    simp only [tabInsert]
    split
    · simp [tabFind, Ne.symm h]
    · split
      · subst_vars; simp [tabFind, Ne.symm h]
      · simp [tabFind, ih]

theorem tabFind_erase_same (t : List (Nat × α)) (k : Nat) : tabFind (tabErase t k) k = none := by
  induction t with
  | nil => rfl
  | cons e t ih =>
    obtain ⟨i, w⟩ := e
    by_cases h : i = k <;> simp [tabErase, tabFind, h, ih]

theorem tabFind_erase_other (t : List (Nat × α)) (k j : Nat) (h : j ≠ k) : tabFind (tabErase t k) j = tabFind t j := by
  induction t with
  | nil => rfl
  | cons e t ih =>
    obtain ⟨i, w⟩ := e
    by_cases hi : i = k
    · subst hi; simp [tabErase, tabFind, Ne.symm h, ih]
    · by_cases hj : i = j
      · subst hj; simp [tabErase, tabFind, hi]
      · simp [tabErase, tabFind, hi, hj, ih]

theorem tabGet_put_same [DecidableEq α] (d : α) (t : List (Nat × α)) (k : Nat) (v : α) : tabGet d (tabPut d t k v) k = v := by
  unfold tabPut tabGet
  split
  · simp [tabFind_erase_same, *]
  · simp [tabFind_insert_same]

theorem tabGet_put_other [DecidableEq α] (d : α) (t : List (Nat × α)) (k j : Nat) (v : α) (h : j ≠ k) :
    tabGet d (tabPut d t k v) j = tabGet d t j := by
  unfold tabPut tabGet
  split
  · rw [tabFind_erase_other t k j h]
  · rw [tabFind_insert_other t k j v h]

theorem tabFind_drop_in (p : Nat → Bool) (t : List (Nat × α)) (k : Nat) (h : p k = true) : tabFind (tabDrop p t) k = none := by
  induction t with
  | nil => rfl
  | cons e t ih =>
    obtain ⟨i, w⟩ := e
    unfold tabDrop at *
    by_cases hi : p i = true
    · simp [hi, ih]
    · have hk : i ≠ k := fun hk => hi (hk ▸ h)
      simp [hi, tabFind, ih, hk]

theorem tabFind_drop_out (p : Nat → Bool) (t : List (Nat × α)) (k : Nat) (h : p k = false) :
    tabFind (tabDrop p t) k = tabFind t k := by
  induction t with
  | nil => rfl
  | cons e t ih =>
    obtain ⟨i, w⟩ := e
    unfold tabDrop at *
    by_cases hi : p i = true
    · have hk : i ≠ k := fun hk => by simp [hk, h] at hi
      simp [hi, tabFind, ih, hk]
    · by_cases hk : i = k
      · subst hk; simp [hi, tabFind]
      · simp [hi, tabFind, ih, hk]

/-! ## The canonical form -/

theorem tabRising_weaken {lo : Nat} {t : List (Nat × α)} (h : tabRising (some lo) t = true) : tabRising none t = true := by
  cases t with
  | nil => rfl
  | cons e t => simp only [tabRising, Bool.and_eq_true] at *; exact h.2

theorem tabRising_lower {lo lo' : Nat} {t : List (Nat × α)} (hl : lo' ≤ lo) (h : tabRising (some lo) t = true) :
    tabRising (some lo') t = true := by
  cases t with
  | nil => rfl
  | cons e t =>
    simp only [tabRising, Bool.and_eq_true, decide_eq_true_eq] at *
    exact ⟨by omega, h.2⟩

theorem tabRising_insert {t : List (Nat × α)} {lo k : Nat} {v : α} (hk : lo < k) (h : tabRising (some lo) t = true) :
    tabRising (some lo) (tabInsert t k v) = true := by
  induction t generalizing lo with
  | nil => simp [tabInsert, tabRising, hk]
  | cons e t ih =>
    obtain ⟨i, w⟩ := e
    simp only [tabRising, Bool.and_eq_true, decide_eq_true_eq] at h
    simp only [tabInsert]
    split
    · simp [tabRising, *]
    · split
      · subst_vars; simp [tabRising, h.1, h.2]
      · simp only [tabRising, Bool.and_eq_true, decide_eq_true_eq]
        exact ⟨h.1, ih (by omega) h.2⟩

theorem tabRising_insert_none {t : List (Nat × α)} {k : Nat} {v : α} (h : tabRising none t = true) :
    tabRising none (tabInsert t k v) = true := by
  cases t with
  | nil => rfl
  | cons e t =>
    obtain ⟨i, w⟩ := e
    simp only [tabRising] at h
    simp only [tabInsert]
    split
    · simp [tabRising, *]
    · split
      · subst_vars; simpa [tabRising] using h
      · exact tabRising_insert (by omega) h

theorem tabRising_filter {t : List (Nat × α)} {p : Nat × α → Bool} {lo : Nat} (h : tabRising (some lo) t = true) :
    tabRising (some lo) (t.filter p) = true := by
  induction t generalizing lo with
  | nil => rfl
  | cons e t ih =>
    simp only [tabRising, Bool.and_eq_true, decide_eq_true_eq] at h
    by_cases hp : p e = true
    · simp only [List.filter_cons_of_pos hp, tabRising, Bool.and_eq_true, decide_eq_true_eq]
      exact ⟨h.1, ih h.2⟩
    · rw [List.filter_cons_of_neg (by simpa using hp)]
      exact ih (tabRising_lower (Nat.le_of_lt h.1) h.2)

theorem tabRising_filter_none {t : List (Nat × α)} {p : Nat × α → Bool} (h : tabRising none t = true) :
    tabRising none (t.filter p) = true := by
  cases t with
  | nil => rfl
  | cons e t =>
    simp only [tabRising] at h
    by_cases hp : p e = true
    · simp only [List.filter_cons_of_pos hp, tabRising]
      exact tabRising_filter h
    · rw [List.filter_cons_of_neg (by simpa using hp)]
      exact tabRising_weaken (tabRising_filter h)

theorem tabErase_eq_filter (t : List (Nat × α)) (k : Nat) : tabErase t k = t.filter (fun e => decide (e.1 ≠ k)) := by
  induction t with
  | nil => rfl
  | cons e t ih =>
    obtain ⟨i, w⟩ := e
    by_cases h : i = k <;> simp [tabErase, h, ih]

theorem tabInsert_mem {t : List (Nat × α)} {k : Nat} {v : α} {e : Nat × α} (h : e ∈ tabInsert t k v) : e = (k, v) ∨ e ∈ t := by
  induction t with
  | nil => simpa [tabInsert] using h
  | cons a t ih =>
    obtain ⟨i, w⟩ := a
    simp only [tabInsert] at h
    split at h
    · simpa using h
    · split at h
      · rcases List.mem_cons.mp h with h | h
        · exact .inl h
        · exact .inr (List.mem_cons_of_mem _ h)
      · rcases List.mem_cons.mp h with h | h
        · exact .inr (by simp [h])
        · rcases ih h with h | h
          · exact .inl h
          · exact .inr (List.mem_cons_of_mem _ h)

theorem tabWf_nil [DecidableEq α] (d : Nat → α) : tabWf d [] = true := rfl

theorem tabWf_filter [DecidableEq α] {d : Nat → α} {t : List (Nat × α)} (p : Nat × α → Bool) (h : tabWf d t = true) :
    tabWf d (t.filter p) = true := by
  simp only [tabWf, Bool.and_eq_true, List.all_eq_true] at *
  exact ⟨tabRising_filter_none h.1, fun e he => h.2 e (List.mem_filter.mp he).1⟩

theorem tabWf_put [DecidableEq α] {d : Nat → α} {t : List (Nat × α)} (k : Nat) (v : α) (h : tabWf d t = true) :
    tabWf d (tabPut (d k) t k v) = true := by
  unfold tabPut
  split
  · rw [tabErase_eq_filter]; exact tabWf_filter _ h
  · simp only [tabWf, Bool.and_eq_true, List.all_eq_true] at *
    refine ⟨tabRising_insert_none h.1, fun e he => ?_⟩
    rcases tabInsert_mem he with rfl | he
    · simpa using ‹_›
    · exact h.2 e he

theorem tabWf_drop [DecidableEq α] {d : Nat → α} {t : List (Nat × α)} (p : Nat → Bool) (h : tabWf d t = true) :
    tabWf d (tabDrop p t) = true := tabWf_filter _ h

end Sys2Proof.Machine
end

