-- ==== Sys2Proof/Laws/Regs.lean ====
section
/-! SUPPORT. Laws of the registers, their fields and the bytes of memory: a read after a write, and what a write leaves alone. -/
namespace Sys2Proof.Machine

/-! ## Registers -/

@[simp] theorem reg_setReg_same (s : State) (k : Nat) (v : RegVal) : (s.setReg k v).reg k = v := by
  unfold State.setReg State.reg
  have h := tabGet_put_same (coldWord k) s.regs k v
  unfold tabGet at h
  cases hf : tabFind (tabPut (coldWord k) s.regs k v) k with
  | none => rw [hf] at h; simpa using h
  | some w => rw [hf] at h; simpa using h

theorem tabFind_put_other {α : Type} [DecidableEq α] (d : α) (t : List (Nat × α)) (k j : Nat) (v : α) (h : j ≠ k) :
    tabFind (tabPut d t k v) j = tabFind t j := by
  unfold tabPut
  split
  · exact tabFind_erase_other t k j h
  · exact tabFind_insert_other t k j v h

theorem reg_setReg_other (s : State) (k j : Nat) (v : RegVal) (h : j ≠ k) : (s.setReg k v).reg j = s.reg j := by
  unfold State.setReg State.reg
  simp only [tabFind_put_other (coldWord k) s.regs k j v h]

/-! ## Fields -/

theorem putBits_eq (v lo w x : Nat) : putBits v lo w x = v / 2 ^ lo / 2 ^ w * (2 ^ lo * 2 ^ w) + x % 2 ^ w * 2 ^ lo + v % 2 ^ lo := by
  have h1 := Nat.div_add_mod v (2 ^ lo)
  have h2 := Nat.div_add_mod (v / 2 ^ lo) (2 ^ w)
  have h3 : v = v / 2 ^ lo / 2 ^ w * (2 ^ lo * 2 ^ w) + v / 2 ^ lo % 2 ^ w * 2 ^ lo + v % 2 ^ lo := by
    calc v = 2 ^ lo * (2 ^ w * (v / 2 ^ lo / 2 ^ w) + v / 2 ^ lo % 2 ^ w) + v % 2 ^ lo := by rw [h2, h1]
      _ = _ := by ring
  unfold putBits
  omega

theorem putBits_field (v lo w x : Nat) : putBits v lo w x / 2 ^ lo % 2 ^ w = x % 2 ^ w := by
  rw [putBits_eq]
  have h : v / 2 ^ lo / 2 ^ w * (2 ^ lo * 2 ^ w) + x % 2 ^ w * 2 ^ lo + v % 2 ^ lo =
      (v / 2 ^ lo / 2 ^ w * 2 ^ w + x % 2 ^ w) * 2 ^ lo + v % 2 ^ lo := by ring
  rw [h, Nat.add_div_of_dvd_right (Dvd.intro_left _ rfl), Nat.mul_div_cancel _ (by positivity),
    Nat.div_eq_of_lt (Nat.mod_lt _ (by positivity)), Nat.add_zero, Nat.mul_add_mod_self_right, Nat.mod_mod]

theorem putBits_lt {v lo w x n : Nat} (hv : v < 2 ^ n) (h : lo + w ≤ n) : putBits v lo w x < 2 ^ n := by
  obtain ⟨r, rfl⟩ := Nat.exists_eq_add_of_le h
  rw [putBits_eq]
  have ha : v / 2 ^ lo / 2 ^ w < 2 ^ r := by
    rw [Nat.div_div_eq_div_mul, ← pow_add]
    exact Nat.div_lt_of_lt_mul (by rw [← pow_add]; exact hv)
  have hb : x % 2 ^ w < 2 ^ w := Nat.mod_lt _ (by positivity)
  have hc : v % 2 ^ lo < 2 ^ lo := Nat.mod_lt _ (by positivity)
  have h1 : (v / 2 ^ lo / 2 ^ w + 1) * (2 ^ lo * 2 ^ w) ≤ 2 ^ r * (2 ^ lo * 2 ^ w) := Nat.mul_le_mul_right _ ha
  have h2 : (x % 2 ^ w + 1) * 2 ^ lo ≤ 2 ^ w * 2 ^ lo := Nat.mul_le_mul_right _ hb
  have h3 : 2 ^ r * (2 ^ lo * 2 ^ w) = 2 ^ (lo + w + r) := by rw [← pow_add, ← pow_add]; congr 1; omega
  have h4 : 2 ^ w * 2 ^ lo = 2 ^ lo * 2 ^ w := Nat.mul_comm _ _
  rw [Nat.add_mul] at h1 h2
  omega

/-- A field of a register reads what was written to it. -/
theorem get_set_same (s : State) (f : Fd) (x : Nat) (h : f.lo + f.w ≤ 28) : (s.set f x).get f = x % 2 ^ f.w := by
  unfold State.set State.get
  rw [reg_setReg_same, BitVec.toNat_ofNat, Nat.mod_eq_of_lt (putBits_lt (s.reg f.key).isLt h), putBits_field]

/-- A field of another register is left alone. -/
theorem get_set_key (s : State) (f g : Fd) (x : Nat) (h : g.key ≠ f.key) : (s.set f x).get g = s.get g := by
  unfold State.set State.get
  rw [reg_setReg_other _ _ _ _ h]

theorem reg_set_key (s : State) (f : Fd) (x k : Nat) (h : k ≠ f.key) : (s.set f x).reg k = s.reg k := by
  unfold State.set
  rw [reg_setReg_other _ _ _ _ h]

theorem putBits_above (v lo w x lo' w' : Nat) (h : lo + w ≤ lo') : putBits v lo w x / 2 ^ lo' % 2 ^ w' = v / 2 ^ lo' % 2 ^ w' := by
  obtain ⟨r, rfl⟩ := Nat.exists_eq_add_of_le h
  rw [putBits_eq, pow_add, pow_add, ← Nat.div_div_eq_div_mul, ← Nat.div_div_eq_div_mul, ← Nat.div_div_eq_div_mul, ← Nat.div_div_eq_div_mul]
  have e : v / 2 ^ lo / 2 ^ w * (2 ^ lo * 2 ^ w) + x % 2 ^ w * 2 ^ lo + v % 2 ^ lo =
      (v / 2 ^ lo / 2 ^ w * 2 ^ w + x % 2 ^ w) * 2 ^ lo + v % 2 ^ lo := by ring
  rw [e, Nat.add_div_of_dvd_right (Dvd.intro_left _ rfl), Nat.mul_div_cancel _ (by positivity),
    Nat.div_eq_of_lt (Nat.mod_lt _ (by positivity)), Nat.add_zero, Nat.add_div_of_dvd_right (Dvd.intro_left _ rfl),
    Nat.mul_div_cancel _ (by positivity), Nat.div_eq_of_lt (Nat.mod_lt _ (by positivity)), Nat.add_zero]

theorem putBits_below (v lo w x lo' w' : Nat) (h : lo' + w' ≤ lo) : putBits v lo w x / 2 ^ lo' % 2 ^ w' = v / 2 ^ lo' % 2 ^ w' := by
  obtain ⟨r, rfl⟩ := Nat.exists_eq_add_of_le h
  have e : putBits v (lo' + w' + r) w x =
      2 ^ lo' * (2 ^ w' * (v / 2 ^ (lo' + w' + r) / 2 ^ w * (2 ^ r * 2 ^ w) + x % 2 ^ w * 2 ^ r)) + v % 2 ^ (lo' + w' + r) := by
    rw [putBits_eq]; simp only [pow_add]; ring
  have e2 : ∀ y q : Nat, (2 ^ lo' * (2 ^ w' * q) + y) / 2 ^ lo' % 2 ^ w' = y / 2 ^ lo' % 2 ^ w' := by
    intro y q
    rw [Nat.mul_add_div (by positivity), Nat.mul_add_mod]
  rw [e, e2]
  have e3 := Nat.div_add_mod v (2 ^ (lo' + w' + r))
  conv_rhs => rw [← e3, pow_add, pow_add, mul_assoc, mul_assoc, e2]
  simp only [pow_add, mul_assoc]

/-- A field of the same register that does not overlap is left alone. -/
theorem get_set_apart (s : State) (f g : Fd) (x : Nat) (hf : f.lo + f.w ≤ 28) (h : g.lo + g.w ≤ f.lo ∨ f.lo + f.w ≤ g.lo) :
    (s.set f x).get g = s.get g := by
  by_cases hk : g.key = f.key
  · unfold State.set State.get
    rw [hk, reg_setReg_same, BitVec.toNat_ofNat, Nat.mod_eq_of_lt (putBits_lt (s.reg f.key).isLt hf)]
    rcases h with h | h
    · exact putBits_below _ _ _ _ _ _ h
    · exact putBits_above _ _ _ _ _ _ h
  · exact get_set_key s f g x hk

/-- A one-bit field reads what was written to it. -/
theorem flag_setB_same (s : State) (f : Fd) (b : Bool) (hw : f.w = 1) (h : f.lo + f.w ≤ 28) : (s.setB f b).flag f = b := by
  unfold State.flag State.setB
  rw [get_set_same s f _ h, hw]
  cases b <;> rfl

/-! ## Memory -/

theorem byte_setByte_same (s : State) (a v : Nat) : (s.setByte a v).byte a = v % 256 := by
  unfold State.setByte State.byte
  simp [tabGet_put_same]

theorem byte_setByte_other (s : State) (a b v : Nat) (h : b ≠ a) : (s.setByte a v).byte b = s.byte b := by
  unfold State.setByte State.byte
  simp [tabGet_put_other _ _ _ _ _ h]

/-- A little-endian store leaves every byte outside it alone. -/
theorem byte_putLE_other (s : State) (a n v b : Nat) (h : b < a ∨ a + n ≤ b) : (s.putLE a n v).byte b = s.byte b := by
  induction n generalizing s a v with
  | zero => rfl
  | succ n ih => rw [State.putLE, ih _ _ _ (by omega), byte_setByte_other _ _ _ _ (by omega)]

/-- A little-endian store reads back. -/
theorem bytesLE_putLE (s : State) (a n v : Nat) : (s.putLE a n v).bytesLE a n = v % 256 ^ n := by
  induction n generalizing s a v with
  | zero => simp [State.bytesLE, Nat.mod_one]
  | succ n ih =>
    rw [State.putLE, State.bytesLE, ih, byte_putLE_other _ _ _ _ _ (by omega), byte_setByte_same]
    rw [Nat.mod_mod, pow_succ, Nat.mul_comm (256 ^ n) 256, Nat.mod_mul]

/-- A stored word reads back. -/
theorem word_setWord_same (s : State) (a v : Nat) : (s.setWord a v).word a = v % 2 ^ 32 := bytesLE_putLE s a 4 v

/-- A stored word leaves every byte outside it alone. -/
theorem byte_setWord_other (s : State) (a v b : Nat) (h : b < a ∨ a + 4 ≤ b) : (s.setWord a v).byte b = s.byte b :=
  byte_putLE_other s a 4 v b h

/-- Lost memory reads as memory that nothing has written. -/
theorem byte_loseMem_in (s : State) (lo hi a : Nat) (h : lo ≤ a ∧ a < hi) : (s.loseMem lo hi).byte a = 0 := by
  unfold State.loseMem State.byte tabGet
  rw [tabFind_drop_in _ _ _ (by simp [h])]
  rfl

theorem byte_loseMem_out (s : State) (lo hi a : Nat) (h : a < lo ∨ hi ≤ a) : (s.loseMem lo hi).byte a = s.byte a := by
  unfold State.loseMem State.byte tabGet
  rw [tabFind_drop_out _ _ _ (by simp; omega)]

end Sys2Proof.Machine
end

