-- ==== Sys2Proof/Laws/State.lean ====
section
/-! SUPPORT. One law for each field of the state and each plain update of it. -/
namespace Sys2Proof.Machine

/-! State.setReg -/
@[simp] theorem setReg_mem (s : State) (k : Nat) (v : RegVal) : (s.setReg k v).mem = s.mem := rfl
@[simp] theorem setReg_bus (s : State) (k : Nat) (v : RegVal) : (s.setReg k v).bus = s.bus := rfl
@[simp] theorem setReg_pending (s : State) (k : Nat) (v : RegVal) : (s.setReg k v).pending = s.pending := rfl
@[simp] theorem setReg_fresh (s : State) (k : Nat) (v : RegVal) : (s.setReg k v).fresh = s.fresh := rfl
@[simp] theorem setReg_hub (s : State) (k : Nat) (v : RegVal) : (s.setReg k v).hub = s.hub := rfl
@[simp] theorem setReg_icu (s : State) (k : Nat) (v : RegVal) : (s.setReg k v).icu = s.icu := rfl
@[simp] theorem setReg_time (s : State) (k : Nat) (v : RegVal) : (s.setReg k v).time = s.time := rfl
@[simp] theorem setReg_rst (s : State) (k : Nat) (v : RegVal) : (s.setReg k v).rst = s.rst := rfl
@[simp] theorem setReg_pace (s : State) (k : Nat) (v : RegVal) : (s.setReg k v).pace = s.pace := rfl
@[simp] theorem setReg_last (s : State) (k : Nat) (v : RegVal) : (s.setReg k v).last = s.last := rfl
@[simp] theorem setReg_pict (s : State) (k : Nat) (v : RegVal) : (s.setReg k v).pict = s.pict := rfl
@[simp] theorem setReg_fetch (s : State) (k : Nat) (v : RegVal) : (s.setReg k v).fetch = s.fetch := rfl
@[simp] theorem setReg_lanes (s : State) (k : Nat) (v : RegVal) : (s.setReg k v).lanes = s.lanes := rfl
@[simp] theorem setReg_welt (s : State) (k : Nat) (v : RegVal) : (s.setReg k v).welt = s.welt := rfl
@[simp] theorem setReg_tongue (s : State) (k : Nat) (v : RegVal) : (s.setReg k v).tongue = s.tongue := rfl
@[simp] theorem setReg_fuses (s : State) (k : Nat) (v : RegVal) : (s.setReg k v).fuses = s.fuses := rfl
@[simp] theorem setReg_sec (s : State) (k : Nat) (v : RegVal) : (s.setReg k v).sec = s.sec := rfl
@[simp] theorem setReg_cores (s : State) (k : Nat) (v : RegVal) : (s.setReg k v).cores = s.cores := rfl
@[simp] theorem setReg_move (s : State) (k : Nat) (v : RegVal) : (s.setReg k v).move = s.move := rfl
@[simp] theorem setReg_audio (s : State) (k : Nat) (v : RegVal) : (s.setReg k v).audio = s.audio := rfl
@[simp] theorem setReg_panel (s : State) (k : Nat) (v : RegVal) : (s.setReg k v).panel = s.panel := rfl
@[simp] theorem setReg_eyes (s : State) (k : Nat) (v : RegVal) : (s.setReg k v).eyes = s.eyes := rfl
@[simp] theorem setReg_pers (s : State) (k : Nat) (v : RegVal) : (s.setReg k v).pers = s.pers := rfl
@[simp] theorem setReg_dbg (s : State) (k : Nat) (v : RegVal) : (s.setReg k v).dbg = s.dbg := rfl

/-! State.setByte -/
@[simp] theorem setByte_regs (s : State) (a : Nat) (v : Nat) : (s.setByte a v).regs = s.regs := rfl
@[simp] theorem setByte_bus (s : State) (a : Nat) (v : Nat) : (s.setByte a v).bus = s.bus := rfl
@[simp] theorem setByte_pending (s : State) (a : Nat) (v : Nat) : (s.setByte a v).pending = s.pending := rfl
@[simp] theorem setByte_fresh (s : State) (a : Nat) (v : Nat) : (s.setByte a v).fresh = s.fresh := rfl
@[simp] theorem setByte_hub (s : State) (a : Nat) (v : Nat) : (s.setByte a v).hub = s.hub := rfl
@[simp] theorem setByte_icu (s : State) (a : Nat) (v : Nat) : (s.setByte a v).icu = s.icu := rfl
@[simp] theorem setByte_time (s : State) (a : Nat) (v : Nat) : (s.setByte a v).time = s.time := rfl
@[simp] theorem setByte_rst (s : State) (a : Nat) (v : Nat) : (s.setByte a v).rst = s.rst := rfl
@[simp] theorem setByte_pace (s : State) (a : Nat) (v : Nat) : (s.setByte a v).pace = s.pace := rfl
@[simp] theorem setByte_last (s : State) (a : Nat) (v : Nat) : (s.setByte a v).last = s.last := rfl
@[simp] theorem setByte_pict (s : State) (a : Nat) (v : Nat) : (s.setByte a v).pict = s.pict := rfl
@[simp] theorem setByte_fetch (s : State) (a : Nat) (v : Nat) : (s.setByte a v).fetch = s.fetch := rfl
@[simp] theorem setByte_lanes (s : State) (a : Nat) (v : Nat) : (s.setByte a v).lanes = s.lanes := rfl
@[simp] theorem setByte_welt (s : State) (a : Nat) (v : Nat) : (s.setByte a v).welt = s.welt := rfl
@[simp] theorem setByte_tongue (s : State) (a : Nat) (v : Nat) : (s.setByte a v).tongue = s.tongue := rfl
@[simp] theorem setByte_fuses (s : State) (a : Nat) (v : Nat) : (s.setByte a v).fuses = s.fuses := rfl
@[simp] theorem setByte_sec (s : State) (a : Nat) (v : Nat) : (s.setByte a v).sec = s.sec := rfl
@[simp] theorem setByte_cores (s : State) (a : Nat) (v : Nat) : (s.setByte a v).cores = s.cores := rfl
@[simp] theorem setByte_move (s : State) (a : Nat) (v : Nat) : (s.setByte a v).move = s.move := rfl
@[simp] theorem setByte_audio (s : State) (a : Nat) (v : Nat) : (s.setByte a v).audio = s.audio := rfl
@[simp] theorem setByte_panel (s : State) (a : Nat) (v : Nat) : (s.setByte a v).panel = s.panel := rfl
@[simp] theorem setByte_eyes (s : State) (a : Nat) (v : Nat) : (s.setByte a v).eyes = s.eyes := rfl
@[simp] theorem setByte_pers (s : State) (a : Nat) (v : Nat) : (s.setByte a v).pers = s.pers := rfl
@[simp] theorem setByte_dbg (s : State) (a : Nat) (v : Nat) : (s.setByte a v).dbg = s.dbg := rfl

/-! State.loseMem -/
@[simp] theorem loseMem_regs (s : State) (lo : Nat) (hi : Nat) : (s.loseMem lo hi).regs = s.regs := rfl
@[simp] theorem loseMem_bus (s : State) (lo : Nat) (hi : Nat) : (s.loseMem lo hi).bus = s.bus := rfl
@[simp] theorem loseMem_pending (s : State) (lo : Nat) (hi : Nat) : (s.loseMem lo hi).pending = s.pending := rfl
@[simp] theorem loseMem_fresh (s : State) (lo : Nat) (hi : Nat) : (s.loseMem lo hi).fresh = s.fresh := rfl
@[simp] theorem loseMem_hub (s : State) (lo : Nat) (hi : Nat) : (s.loseMem lo hi).hub = s.hub := rfl
@[simp] theorem loseMem_icu (s : State) (lo : Nat) (hi : Nat) : (s.loseMem lo hi).icu = s.icu := rfl
@[simp] theorem loseMem_time (s : State) (lo : Nat) (hi : Nat) : (s.loseMem lo hi).time = s.time := rfl
@[simp] theorem loseMem_rst (s : State) (lo : Nat) (hi : Nat) : (s.loseMem lo hi).rst = s.rst := rfl
@[simp] theorem loseMem_pace (s : State) (lo : Nat) (hi : Nat) : (s.loseMem lo hi).pace = s.pace := rfl
@[simp] theorem loseMem_last (s : State) (lo : Nat) (hi : Nat) : (s.loseMem lo hi).last = s.last := rfl
@[simp] theorem loseMem_pict (s : State) (lo : Nat) (hi : Nat) : (s.loseMem lo hi).pict = s.pict := rfl
@[simp] theorem loseMem_fetch (s : State) (lo : Nat) (hi : Nat) : (s.loseMem lo hi).fetch = s.fetch := rfl
@[simp] theorem loseMem_lanes (s : State) (lo : Nat) (hi : Nat) : (s.loseMem lo hi).lanes = s.lanes := rfl
@[simp] theorem loseMem_welt (s : State) (lo : Nat) (hi : Nat) : (s.loseMem lo hi).welt = s.welt := rfl
@[simp] theorem loseMem_tongue (s : State) (lo : Nat) (hi : Nat) : (s.loseMem lo hi).tongue = s.tongue := rfl
@[simp] theorem loseMem_fuses (s : State) (lo : Nat) (hi : Nat) : (s.loseMem lo hi).fuses = s.fuses := rfl
@[simp] theorem loseMem_sec (s : State) (lo : Nat) (hi : Nat) : (s.loseMem lo hi).sec = s.sec := rfl
@[simp] theorem loseMem_cores (s : State) (lo : Nat) (hi : Nat) : (s.loseMem lo hi).cores = s.cores := rfl
@[simp] theorem loseMem_move (s : State) (lo : Nat) (hi : Nat) : (s.loseMem lo hi).move = s.move := rfl
@[simp] theorem loseMem_audio (s : State) (lo : Nat) (hi : Nat) : (s.loseMem lo hi).audio = s.audio := rfl
@[simp] theorem loseMem_panel (s : State) (lo : Nat) (hi : Nat) : (s.loseMem lo hi).panel = s.panel := rfl
@[simp] theorem loseMem_eyes (s : State) (lo : Nat) (hi : Nat) : (s.loseMem lo hi).eyes = s.eyes := rfl
@[simp] theorem loseMem_pers (s : State) (lo : Nat) (hi : Nat) : (s.loseMem lo hi).pers = s.pers := rfl
@[simp] theorem loseMem_dbg (s : State) (lo : Nat) (hi : Nat) : (s.loseMem lo hi).dbg = s.dbg := rfl

/-! State.draw -/
@[simp] theorem draw_regs (s : State) : (s.draw).regs = s.regs := rfl
@[simp] theorem draw_mem (s : State) : (s.draw).mem = s.mem := rfl
@[simp] theorem draw_bus (s : State) : (s.draw).bus = s.bus := rfl
@[simp] theorem draw_pending (s : State) : (s.draw).pending = s.pending := rfl
@[simp] theorem draw_hub (s : State) : (s.draw).hub = s.hub := rfl
@[simp] theorem draw_icu (s : State) : (s.draw).icu = s.icu := rfl
@[simp] theorem draw_time (s : State) : (s.draw).time = s.time := rfl
@[simp] theorem draw_rst (s : State) : (s.draw).rst = s.rst := rfl
@[simp] theorem draw_pace (s : State) : (s.draw).pace = s.pace := rfl
@[simp] theorem draw_last (s : State) : (s.draw).last = s.last := rfl
@[simp] theorem draw_pict (s : State) : (s.draw).pict = s.pict := rfl
@[simp] theorem draw_fetch (s : State) : (s.draw).fetch = s.fetch := rfl
@[simp] theorem draw_lanes (s : State) : (s.draw).lanes = s.lanes := rfl
@[simp] theorem draw_welt (s : State) : (s.draw).welt = s.welt := rfl
@[simp] theorem draw_tongue (s : State) : (s.draw).tongue = s.tongue := rfl
@[simp] theorem draw_fuses (s : State) : (s.draw).fuses = s.fuses := rfl
@[simp] theorem draw_sec (s : State) : (s.draw).sec = s.sec := rfl
@[simp] theorem draw_cores (s : State) : (s.draw).cores = s.cores := rfl
@[simp] theorem draw_move (s : State) : (s.draw).move = s.move := rfl
@[simp] theorem draw_audio (s : State) : (s.draw).audio = s.audio := rfl
@[simp] theorem draw_panel (s : State) : (s.draw).panel = s.panel := rfl
@[simp] theorem draw_eyes (s : State) : (s.draw).eyes = s.eyes := rfl
@[simp] theorem draw_pers (s : State) : (s.draw).pers = s.pers := rfl
@[simp] theorem draw_dbg (s : State) : (s.draw).dbg = s.dbg := rfl

/-! State.emptyStack -/
@[simp] theorem emptyStack_regs (s : State) (n : Nat) : (s.emptyStack n).regs = s.regs := rfl
@[simp] theorem emptyStack_mem (s : State) (n : Nat) : (s.emptyStack n).mem = s.mem := rfl
@[simp] theorem emptyStack_bus (s : State) (n : Nat) : (s.emptyStack n).bus = s.bus := rfl
@[simp] theorem emptyStack_pending (s : State) (n : Nat) : (s.emptyStack n).pending = s.pending := rfl
@[simp] theorem emptyStack_fresh (s : State) (n : Nat) : (s.emptyStack n).fresh = s.fresh := rfl
@[simp] theorem emptyStack_hub (s : State) (n : Nat) : (s.emptyStack n).hub = s.hub := rfl
@[simp] theorem emptyStack_time (s : State) (n : Nat) : (s.emptyStack n).time = s.time := rfl
@[simp] theorem emptyStack_rst (s : State) (n : Nat) : (s.emptyStack n).rst = s.rst := rfl
@[simp] theorem emptyStack_pace (s : State) (n : Nat) : (s.emptyStack n).pace = s.pace := rfl
@[simp] theorem emptyStack_last (s : State) (n : Nat) : (s.emptyStack n).last = s.last := rfl
@[simp] theorem emptyStack_pict (s : State) (n : Nat) : (s.emptyStack n).pict = s.pict := rfl
@[simp] theorem emptyStack_fetch (s : State) (n : Nat) : (s.emptyStack n).fetch = s.fetch := rfl
@[simp] theorem emptyStack_lanes (s : State) (n : Nat) : (s.emptyStack n).lanes = s.lanes := rfl
@[simp] theorem emptyStack_welt (s : State) (n : Nat) : (s.emptyStack n).welt = s.welt := rfl
@[simp] theorem emptyStack_tongue (s : State) (n : Nat) : (s.emptyStack n).tongue = s.tongue := rfl
@[simp] theorem emptyStack_fuses (s : State) (n : Nat) : (s.emptyStack n).fuses = s.fuses := rfl
@[simp] theorem emptyStack_sec (s : State) (n : Nat) : (s.emptyStack n).sec = s.sec := rfl
@[simp] theorem emptyStack_cores (s : State) (n : Nat) : (s.emptyStack n).cores = s.cores := rfl
@[simp] theorem emptyStack_move (s : State) (n : Nat) : (s.emptyStack n).move = s.move := rfl
@[simp] theorem emptyStack_audio (s : State) (n : Nat) : (s.emptyStack n).audio = s.audio := rfl
@[simp] theorem emptyStack_panel (s : State) (n : Nat) : (s.emptyStack n).panel = s.panel := rfl
@[simp] theorem emptyStack_eyes (s : State) (n : Nat) : (s.emptyStack n).eyes = s.eyes := rfl
@[simp] theorem emptyStack_pers (s : State) (n : Nat) : (s.emptyStack n).pers = s.pers := rfl
@[simp] theorem emptyStack_dbg (s : State) (n : Nat) : (s.emptyStack n).dbg = s.dbg := rfl

/-! State.setHead -/
@[simp] theorem setHead_regs (s : State) (h : Nat) (v : HeadS) : (s.setHead h v).regs = s.regs := rfl
@[simp] theorem setHead_mem (s : State) (h : Nat) (v : HeadS) : (s.setHead h v).mem = s.mem := rfl
@[simp] theorem setHead_bus (s : State) (h : Nat) (v : HeadS) : (s.setHead h v).bus = s.bus := rfl
@[simp] theorem setHead_pending (s : State) (h : Nat) (v : HeadS) : (s.setHead h v).pending = s.pending := rfl
@[simp] theorem setHead_fresh (s : State) (h : Nat) (v : HeadS) : (s.setHead h v).fresh = s.fresh := rfl
@[simp] theorem setHead_hub (s : State) (h : Nat) (v : HeadS) : (s.setHead h v).hub = s.hub := rfl
@[simp] theorem setHead_icu (s : State) (h : Nat) (v : HeadS) : (s.setHead h v).icu = s.icu := rfl
@[simp] theorem setHead_time (s : State) (h : Nat) (v : HeadS) : (s.setHead h v).time = s.time := rfl
@[simp] theorem setHead_rst (s : State) (h : Nat) (v : HeadS) : (s.setHead h v).rst = s.rst := rfl
@[simp] theorem setHead_pace (s : State) (h : Nat) (v : HeadS) : (s.setHead h v).pace = s.pace := rfl
@[simp] theorem setHead_last (s : State) (h : Nat) (v : HeadS) : (s.setHead h v).last = s.last := rfl
@[simp] theorem setHead_fetch (s : State) (h : Nat) (v : HeadS) : (s.setHead h v).fetch = s.fetch := rfl
@[simp] theorem setHead_lanes (s : State) (h : Nat) (v : HeadS) : (s.setHead h v).lanes = s.lanes := rfl
@[simp] theorem setHead_welt (s : State) (h : Nat) (v : HeadS) : (s.setHead h v).welt = s.welt := rfl
@[simp] theorem setHead_tongue (s : State) (h : Nat) (v : HeadS) : (s.setHead h v).tongue = s.tongue := rfl
@[simp] theorem setHead_fuses (s : State) (h : Nat) (v : HeadS) : (s.setHead h v).fuses = s.fuses := rfl
@[simp] theorem setHead_sec (s : State) (h : Nat) (v : HeadS) : (s.setHead h v).sec = s.sec := rfl
@[simp] theorem setHead_cores (s : State) (h : Nat) (v : HeadS) : (s.setHead h v).cores = s.cores := rfl
@[simp] theorem setHead_move (s : State) (h : Nat) (v : HeadS) : (s.setHead h v).move = s.move := rfl
@[simp] theorem setHead_audio (s : State) (h : Nat) (v : HeadS) : (s.setHead h v).audio = s.audio := rfl
@[simp] theorem setHead_panel (s : State) (h : Nat) (v : HeadS) : (s.setHead h v).panel = s.panel := rfl
@[simp] theorem setHead_eyes (s : State) (h : Nat) (v : HeadS) : (s.setHead h v).eyes = s.eyes := rfl
@[simp] theorem setHead_pers (s : State) (h : Nat) (v : HeadS) : (s.setHead h v).pers = s.pers := rfl
@[simp] theorem setHead_dbg (s : State) (h : Nat) (v : HeadS) : (s.setHead h v).dbg = s.dbg := rfl

/-! State.setSole -/
@[simp] theorem setSole_regs (s : State) (n : Nat) (v : SoleS) : (s.setSole n v).regs = s.regs := rfl
@[simp] theorem setSole_mem (s : State) (n : Nat) (v : SoleS) : (s.setSole n v).mem = s.mem := rfl
@[simp] theorem setSole_bus (s : State) (n : Nat) (v : SoleS) : (s.setSole n v).bus = s.bus := rfl
@[simp] theorem setSole_pending (s : State) (n : Nat) (v : SoleS) : (s.setSole n v).pending = s.pending := rfl
@[simp] theorem setSole_fresh (s : State) (n : Nat) (v : SoleS) : (s.setSole n v).fresh = s.fresh := rfl
@[simp] theorem setSole_hub (s : State) (n : Nat) (v : SoleS) : (s.setSole n v).hub = s.hub := rfl
@[simp] theorem setSole_icu (s : State) (n : Nat) (v : SoleS) : (s.setSole n v).icu = s.icu := rfl
@[simp] theorem setSole_time (s : State) (n : Nat) (v : SoleS) : (s.setSole n v).time = s.time := rfl
@[simp] theorem setSole_rst (s : State) (n : Nat) (v : SoleS) : (s.setSole n v).rst = s.rst := rfl
@[simp] theorem setSole_pace (s : State) (n : Nat) (v : SoleS) : (s.setSole n v).pace = s.pace := rfl
@[simp] theorem setSole_last (s : State) (n : Nat) (v : SoleS) : (s.setSole n v).last = s.last := rfl
@[simp] theorem setSole_fetch (s : State) (n : Nat) (v : SoleS) : (s.setSole n v).fetch = s.fetch := rfl
@[simp] theorem setSole_lanes (s : State) (n : Nat) (v : SoleS) : (s.setSole n v).lanes = s.lanes := rfl
@[simp] theorem setSole_welt (s : State) (n : Nat) (v : SoleS) : (s.setSole n v).welt = s.welt := rfl
@[simp] theorem setSole_tongue (s : State) (n : Nat) (v : SoleS) : (s.setSole n v).tongue = s.tongue := rfl
@[simp] theorem setSole_fuses (s : State) (n : Nat) (v : SoleS) : (s.setSole n v).fuses = s.fuses := rfl
@[simp] theorem setSole_sec (s : State) (n : Nat) (v : SoleS) : (s.setSole n v).sec = s.sec := rfl
@[simp] theorem setSole_cores (s : State) (n : Nat) (v : SoleS) : (s.setSole n v).cores = s.cores := rfl
@[simp] theorem setSole_move (s : State) (n : Nat) (v : SoleS) : (s.setSole n v).move = s.move := rfl
@[simp] theorem setSole_audio (s : State) (n : Nat) (v : SoleS) : (s.setSole n v).audio = s.audio := rfl
@[simp] theorem setSole_panel (s : State) (n : Nat) (v : SoleS) : (s.setSole n v).panel = s.panel := rfl
@[simp] theorem setSole_eyes (s : State) (n : Nat) (v : SoleS) : (s.setSole n v).eyes = s.eyes := rfl
@[simp] theorem setSole_pers (s : State) (n : Nat) (v : SoleS) : (s.setSole n v).pers = s.pers := rfl
@[simp] theorem setSole_dbg (s : State) (n : Nat) (v : SoleS) : (s.setSole n v).dbg = s.dbg := rfl

/-! State.modPace -/
@[simp] theorem modPace_regs (s : State) (f : PaceS → PaceS) : (s.modPace f).regs = s.regs := rfl
@[simp] theorem modPace_mem (s : State) (f : PaceS → PaceS) : (s.modPace f).mem = s.mem := rfl
@[simp] theorem modPace_bus (s : State) (f : PaceS → PaceS) : (s.modPace f).bus = s.bus := rfl
@[simp] theorem modPace_pending (s : State) (f : PaceS → PaceS) : (s.modPace f).pending = s.pending := rfl
@[simp] theorem modPace_fresh (s : State) (f : PaceS → PaceS) : (s.modPace f).fresh = s.fresh := rfl
@[simp] theorem modPace_hub (s : State) (f : PaceS → PaceS) : (s.modPace f).hub = s.hub := rfl
@[simp] theorem modPace_icu (s : State) (f : PaceS → PaceS) : (s.modPace f).icu = s.icu := rfl
@[simp] theorem modPace_time (s : State) (f : PaceS → PaceS) : (s.modPace f).time = s.time := rfl
@[simp] theorem modPace_rst (s : State) (f : PaceS → PaceS) : (s.modPace f).rst = s.rst := rfl
@[simp] theorem modPace_last (s : State) (f : PaceS → PaceS) : (s.modPace f).last = s.last := rfl
@[simp] theorem modPace_pict (s : State) (f : PaceS → PaceS) : (s.modPace f).pict = s.pict := rfl
@[simp] theorem modPace_fetch (s : State) (f : PaceS → PaceS) : (s.modPace f).fetch = s.fetch := rfl
@[simp] theorem modPace_lanes (s : State) (f : PaceS → PaceS) : (s.modPace f).lanes = s.lanes := rfl
@[simp] theorem modPace_welt (s : State) (f : PaceS → PaceS) : (s.modPace f).welt = s.welt := rfl
@[simp] theorem modPace_tongue (s : State) (f : PaceS → PaceS) : (s.modPace f).tongue = s.tongue := rfl
@[simp] theorem modPace_fuses (s : State) (f : PaceS → PaceS) : (s.modPace f).fuses = s.fuses := rfl
@[simp] theorem modPace_sec (s : State) (f : PaceS → PaceS) : (s.modPace f).sec = s.sec := rfl
@[simp] theorem modPace_cores (s : State) (f : PaceS → PaceS) : (s.modPace f).cores = s.cores := rfl
@[simp] theorem modPace_move (s : State) (f : PaceS → PaceS) : (s.modPace f).move = s.move := rfl
@[simp] theorem modPace_audio (s : State) (f : PaceS → PaceS) : (s.modPace f).audio = s.audio := rfl
@[simp] theorem modPace_panel (s : State) (f : PaceS → PaceS) : (s.modPace f).panel = s.panel := rfl
@[simp] theorem modPace_eyes (s : State) (f : PaceS → PaceS) : (s.modPace f).eyes = s.eyes := rfl
@[simp] theorem modPace_pers (s : State) (f : PaceS → PaceS) : (s.modPace f).pers = s.pers := rfl
@[simp] theorem modPace_dbg (s : State) (f : PaceS → PaceS) : (s.modPace f).dbg = s.dbg := rfl

/-! State.setVoice -/
@[simp] theorem setVoice_regs (s : State) (v : Nat) (x : VoiceS) : (s.setVoice v x).regs = s.regs := rfl
@[simp] theorem setVoice_mem (s : State) (v : Nat) (x : VoiceS) : (s.setVoice v x).mem = s.mem := rfl
@[simp] theorem setVoice_bus (s : State) (v : Nat) (x : VoiceS) : (s.setVoice v x).bus = s.bus := rfl
@[simp] theorem setVoice_pending (s : State) (v : Nat) (x : VoiceS) : (s.setVoice v x).pending = s.pending := rfl
@[simp] theorem setVoice_fresh (s : State) (v : Nat) (x : VoiceS) : (s.setVoice v x).fresh = s.fresh := rfl
@[simp] theorem setVoice_hub (s : State) (v : Nat) (x : VoiceS) : (s.setVoice v x).hub = s.hub := rfl
@[simp] theorem setVoice_icu (s : State) (v : Nat) (x : VoiceS) : (s.setVoice v x).icu = s.icu := rfl
@[simp] theorem setVoice_time (s : State) (v : Nat) (x : VoiceS) : (s.setVoice v x).time = s.time := rfl
@[simp] theorem setVoice_rst (s : State) (v : Nat) (x : VoiceS) : (s.setVoice v x).rst = s.rst := rfl
@[simp] theorem setVoice_pace (s : State) (v : Nat) (x : VoiceS) : (s.setVoice v x).pace = s.pace := rfl
@[simp] theorem setVoice_last (s : State) (v : Nat) (x : VoiceS) : (s.setVoice v x).last = s.last := rfl
@[simp] theorem setVoice_pict (s : State) (v : Nat) (x : VoiceS) : (s.setVoice v x).pict = s.pict := rfl
@[simp] theorem setVoice_fetch (s : State) (v : Nat) (x : VoiceS) : (s.setVoice v x).fetch = s.fetch := rfl
@[simp] theorem setVoice_lanes (s : State) (v : Nat) (x : VoiceS) : (s.setVoice v x).lanes = s.lanes := rfl
@[simp] theorem setVoice_welt (s : State) (v : Nat) (x : VoiceS) : (s.setVoice v x).welt = s.welt := rfl
@[simp] theorem setVoice_tongue (s : State) (v : Nat) (x : VoiceS) : (s.setVoice v x).tongue = s.tongue := rfl
@[simp] theorem setVoice_fuses (s : State) (v : Nat) (x : VoiceS) : (s.setVoice v x).fuses = s.fuses := rfl
@[simp] theorem setVoice_sec (s : State) (v : Nat) (x : VoiceS) : (s.setVoice v x).sec = s.sec := rfl
@[simp] theorem setVoice_cores (s : State) (v : Nat) (x : VoiceS) : (s.setVoice v x).cores = s.cores := rfl
@[simp] theorem setVoice_move (s : State) (v : Nat) (x : VoiceS) : (s.setVoice v x).move = s.move := rfl
@[simp] theorem setVoice_panel (s : State) (v : Nat) (x : VoiceS) : (s.setVoice v x).panel = s.panel := rfl
@[simp] theorem setVoice_eyes (s : State) (v : Nat) (x : VoiceS) : (s.setVoice v x).eyes = s.eyes := rfl
@[simp] theorem setVoice_pers (s : State) (v : Nat) (x : VoiceS) : (s.setVoice v x).pers = s.pers := rfl
@[simp] theorem setVoice_dbg (s : State) (v : Nat) (x : VoiceS) : (s.setVoice v x).dbg = s.dbg := rfl

/-! State.setDom -/
@[simp] theorem setDom_regs (s : State) (d : Nat) (x : DomS) : (s.setDom d x).regs = s.regs := rfl
@[simp] theorem setDom_mem (s : State) (d : Nat) (x : DomS) : (s.setDom d x).mem = s.mem := rfl
@[simp] theorem setDom_bus (s : State) (d : Nat) (x : DomS) : (s.setDom d x).bus = s.bus := rfl
@[simp] theorem setDom_pending (s : State) (d : Nat) (x : DomS) : (s.setDom d x).pending = s.pending := rfl
@[simp] theorem setDom_fresh (s : State) (d : Nat) (x : DomS) : (s.setDom d x).fresh = s.fresh := rfl
@[simp] theorem setDom_hub (s : State) (d : Nat) (x : DomS) : (s.setDom d x).hub = s.hub := rfl
@[simp] theorem setDom_icu (s : State) (d : Nat) (x : DomS) : (s.setDom d x).icu = s.icu := rfl
@[simp] theorem setDom_time (s : State) (d : Nat) (x : DomS) : (s.setDom d x).time = s.time := rfl
@[simp] theorem setDom_rst (s : State) (d : Nat) (x : DomS) : (s.setDom d x).rst = s.rst := rfl
@[simp] theorem setDom_pace (s : State) (d : Nat) (x : DomS) : (s.setDom d x).pace = s.pace := rfl
@[simp] theorem setDom_last (s : State) (d : Nat) (x : DomS) : (s.setDom d x).last = s.last := rfl
@[simp] theorem setDom_pict (s : State) (d : Nat) (x : DomS) : (s.setDom d x).pict = s.pict := rfl
@[simp] theorem setDom_fetch (s : State) (d : Nat) (x : DomS) : (s.setDom d x).fetch = s.fetch := rfl
@[simp] theorem setDom_lanes (s : State) (d : Nat) (x : DomS) : (s.setDom d x).lanes = s.lanes := rfl
@[simp] theorem setDom_welt (s : State) (d : Nat) (x : DomS) : (s.setDom d x).welt = s.welt := rfl
@[simp] theorem setDom_tongue (s : State) (d : Nat) (x : DomS) : (s.setDom d x).tongue = s.tongue := rfl
@[simp] theorem setDom_fuses (s : State) (d : Nat) (x : DomS) : (s.setDom d x).fuses = s.fuses := rfl
@[simp] theorem setDom_sec (s : State) (d : Nat) (x : DomS) : (s.setDom d x).sec = s.sec := rfl
@[simp] theorem setDom_cores (s : State) (d : Nat) (x : DomS) : (s.setDom d x).cores = s.cores := rfl
@[simp] theorem setDom_move (s : State) (d : Nat) (x : DomS) : (s.setDom d x).move = s.move := rfl
@[simp] theorem setDom_panel (s : State) (d : Nat) (x : DomS) : (s.setDom d x).panel = s.panel := rfl
@[simp] theorem setDom_eyes (s : State) (d : Nat) (x : DomS) : (s.setDom d x).eyes = s.eyes := rfl
@[simp] theorem setDom_pers (s : State) (d : Nat) (x : DomS) : (s.setDom d x).pers = s.pers := rfl
@[simp] theorem setDom_dbg (s : State) (d : Nat) (x : DomS) : (s.setDom d x).dbg = s.dbg := rfl

/-! State.setAudRx -/
@[simp] theorem setAudRx_regs (s : State) (k : Nat) (x : AudRxS) : (s.setAudRx k x).regs = s.regs := rfl
@[simp] theorem setAudRx_mem (s : State) (k : Nat) (x : AudRxS) : (s.setAudRx k x).mem = s.mem := rfl
@[simp] theorem setAudRx_bus (s : State) (k : Nat) (x : AudRxS) : (s.setAudRx k x).bus = s.bus := rfl
@[simp] theorem setAudRx_pending (s : State) (k : Nat) (x : AudRxS) : (s.setAudRx k x).pending = s.pending := rfl
@[simp] theorem setAudRx_fresh (s : State) (k : Nat) (x : AudRxS) : (s.setAudRx k x).fresh = s.fresh := rfl
@[simp] theorem setAudRx_hub (s : State) (k : Nat) (x : AudRxS) : (s.setAudRx k x).hub = s.hub := rfl
@[simp] theorem setAudRx_icu (s : State) (k : Nat) (x : AudRxS) : (s.setAudRx k x).icu = s.icu := rfl
@[simp] theorem setAudRx_time (s : State) (k : Nat) (x : AudRxS) : (s.setAudRx k x).time = s.time := rfl
@[simp] theorem setAudRx_rst (s : State) (k : Nat) (x : AudRxS) : (s.setAudRx k x).rst = s.rst := rfl
@[simp] theorem setAudRx_pace (s : State) (k : Nat) (x : AudRxS) : (s.setAudRx k x).pace = s.pace := rfl
@[simp] theorem setAudRx_last (s : State) (k : Nat) (x : AudRxS) : (s.setAudRx k x).last = s.last := rfl
@[simp] theorem setAudRx_pict (s : State) (k : Nat) (x : AudRxS) : (s.setAudRx k x).pict = s.pict := rfl
@[simp] theorem setAudRx_fetch (s : State) (k : Nat) (x : AudRxS) : (s.setAudRx k x).fetch = s.fetch := rfl
@[simp] theorem setAudRx_lanes (s : State) (k : Nat) (x : AudRxS) : (s.setAudRx k x).lanes = s.lanes := rfl
@[simp] theorem setAudRx_welt (s : State) (k : Nat) (x : AudRxS) : (s.setAudRx k x).welt = s.welt := rfl
@[simp] theorem setAudRx_tongue (s : State) (k : Nat) (x : AudRxS) : (s.setAudRx k x).tongue = s.tongue := rfl
@[simp] theorem setAudRx_fuses (s : State) (k : Nat) (x : AudRxS) : (s.setAudRx k x).fuses = s.fuses := rfl
@[simp] theorem setAudRx_sec (s : State) (k : Nat) (x : AudRxS) : (s.setAudRx k x).sec = s.sec := rfl
@[simp] theorem setAudRx_cores (s : State) (k : Nat) (x : AudRxS) : (s.setAudRx k x).cores = s.cores := rfl
@[simp] theorem setAudRx_move (s : State) (k : Nat) (x : AudRxS) : (s.setAudRx k x).move = s.move := rfl
@[simp] theorem setAudRx_panel (s : State) (k : Nat) (x : AudRxS) : (s.setAudRx k x).panel = s.panel := rfl
@[simp] theorem setAudRx_eyes (s : State) (k : Nat) (x : AudRxS) : (s.setAudRx k x).eyes = s.eyes := rfl
@[simp] theorem setAudRx_pers (s : State) (k : Nat) (x : AudRxS) : (s.setAudRx k x).pers = s.pers := rfl
@[simp] theorem setAudRx_dbg (s : State) (k : Nat) (x : AudRxS) : (s.setAudRx k x).dbg = s.dbg := rfl

/-! State.setMixGain -/
@[simp] theorem setMixGain_regs (s : State) (n : Nat) (g : GainS) : (s.setMixGain n g).regs = s.regs := rfl
@[simp] theorem setMixGain_mem (s : State) (n : Nat) (g : GainS) : (s.setMixGain n g).mem = s.mem := rfl
@[simp] theorem setMixGain_bus (s : State) (n : Nat) (g : GainS) : (s.setMixGain n g).bus = s.bus := rfl
@[simp] theorem setMixGain_pending (s : State) (n : Nat) (g : GainS) : (s.setMixGain n g).pending = s.pending := rfl
@[simp] theorem setMixGain_fresh (s : State) (n : Nat) (g : GainS) : (s.setMixGain n g).fresh = s.fresh := rfl
@[simp] theorem setMixGain_hub (s : State) (n : Nat) (g : GainS) : (s.setMixGain n g).hub = s.hub := rfl
@[simp] theorem setMixGain_icu (s : State) (n : Nat) (g : GainS) : (s.setMixGain n g).icu = s.icu := rfl
@[simp] theorem setMixGain_time (s : State) (n : Nat) (g : GainS) : (s.setMixGain n g).time = s.time := rfl
@[simp] theorem setMixGain_rst (s : State) (n : Nat) (g : GainS) : (s.setMixGain n g).rst = s.rst := rfl
@[simp] theorem setMixGain_pace (s : State) (n : Nat) (g : GainS) : (s.setMixGain n g).pace = s.pace := rfl
@[simp] theorem setMixGain_last (s : State) (n : Nat) (g : GainS) : (s.setMixGain n g).last = s.last := rfl
@[simp] theorem setMixGain_pict (s : State) (n : Nat) (g : GainS) : (s.setMixGain n g).pict = s.pict := rfl
@[simp] theorem setMixGain_fetch (s : State) (n : Nat) (g : GainS) : (s.setMixGain n g).fetch = s.fetch := rfl
@[simp] theorem setMixGain_lanes (s : State) (n : Nat) (g : GainS) : (s.setMixGain n g).lanes = s.lanes := rfl
@[simp] theorem setMixGain_welt (s : State) (n : Nat) (g : GainS) : (s.setMixGain n g).welt = s.welt := rfl
@[simp] theorem setMixGain_tongue (s : State) (n : Nat) (g : GainS) : (s.setMixGain n g).tongue = s.tongue := rfl
@[simp] theorem setMixGain_fuses (s : State) (n : Nat) (g : GainS) : (s.setMixGain n g).fuses = s.fuses := rfl
@[simp] theorem setMixGain_sec (s : State) (n : Nat) (g : GainS) : (s.setMixGain n g).sec = s.sec := rfl
@[simp] theorem setMixGain_cores (s : State) (n : Nat) (g : GainS) : (s.setMixGain n g).cores = s.cores := rfl
@[simp] theorem setMixGain_move (s : State) (n : Nat) (g : GainS) : (s.setMixGain n g).move = s.move := rfl
@[simp] theorem setMixGain_panel (s : State) (n : Nat) (g : GainS) : (s.setMixGain n g).panel = s.panel := rfl
@[simp] theorem setMixGain_eyes (s : State) (n : Nat) (g : GainS) : (s.setMixGain n g).eyes = s.eyes := rfl
@[simp] theorem setMixGain_pers (s : State) (n : Nat) (g : GainS) : (s.setMixGain n g).pers = s.pers := rfl
@[simp] theorem setMixGain_dbg (s : State) (n : Nat) (g : GainS) : (s.setMixGain n g).dbg = s.dbg := rfl

/-! State.setRxGain -/
@[simp] theorem setRxGain_regs (s : State) (k : Nat) (g : GainS) : (s.setRxGain k g).regs = s.regs := rfl
@[simp] theorem setRxGain_mem (s : State) (k : Nat) (g : GainS) : (s.setRxGain k g).mem = s.mem := rfl
@[simp] theorem setRxGain_bus (s : State) (k : Nat) (g : GainS) : (s.setRxGain k g).bus = s.bus := rfl
@[simp] theorem setRxGain_pending (s : State) (k : Nat) (g : GainS) : (s.setRxGain k g).pending = s.pending := rfl
@[simp] theorem setRxGain_fresh (s : State) (k : Nat) (g : GainS) : (s.setRxGain k g).fresh = s.fresh := rfl
@[simp] theorem setRxGain_hub (s : State) (k : Nat) (g : GainS) : (s.setRxGain k g).hub = s.hub := rfl
@[simp] theorem setRxGain_icu (s : State) (k : Nat) (g : GainS) : (s.setRxGain k g).icu = s.icu := rfl
@[simp] theorem setRxGain_time (s : State) (k : Nat) (g : GainS) : (s.setRxGain k g).time = s.time := rfl
@[simp] theorem setRxGain_rst (s : State) (k : Nat) (g : GainS) : (s.setRxGain k g).rst = s.rst := rfl
@[simp] theorem setRxGain_pace (s : State) (k : Nat) (g : GainS) : (s.setRxGain k g).pace = s.pace := rfl
@[simp] theorem setRxGain_last (s : State) (k : Nat) (g : GainS) : (s.setRxGain k g).last = s.last := rfl
@[simp] theorem setRxGain_pict (s : State) (k : Nat) (g : GainS) : (s.setRxGain k g).pict = s.pict := rfl
@[simp] theorem setRxGain_fetch (s : State) (k : Nat) (g : GainS) : (s.setRxGain k g).fetch = s.fetch := rfl
@[simp] theorem setRxGain_lanes (s : State) (k : Nat) (g : GainS) : (s.setRxGain k g).lanes = s.lanes := rfl
@[simp] theorem setRxGain_welt (s : State) (k : Nat) (g : GainS) : (s.setRxGain k g).welt = s.welt := rfl
@[simp] theorem setRxGain_tongue (s : State) (k : Nat) (g : GainS) : (s.setRxGain k g).tongue = s.tongue := rfl
@[simp] theorem setRxGain_fuses (s : State) (k : Nat) (g : GainS) : (s.setRxGain k g).fuses = s.fuses := rfl
@[simp] theorem setRxGain_sec (s : State) (k : Nat) (g : GainS) : (s.setRxGain k g).sec = s.sec := rfl
@[simp] theorem setRxGain_cores (s : State) (k : Nat) (g : GainS) : (s.setRxGain k g).cores = s.cores := rfl
@[simp] theorem setRxGain_move (s : State) (k : Nat) (g : GainS) : (s.setRxGain k g).move = s.move := rfl
@[simp] theorem setRxGain_panel (s : State) (k : Nat) (g : GainS) : (s.setRxGain k g).panel = s.panel := rfl
@[simp] theorem setRxGain_eyes (s : State) (k : Nat) (g : GainS) : (s.setRxGain k g).eyes = s.eyes := rfl
@[simp] theorem setRxGain_pers (s : State) (k : Nat) (g : GainS) : (s.setRxGain k g).pers = s.pers := rfl
@[simp] theorem setRxGain_dbg (s : State) (k : Nat) (g : GainS) : (s.setRxGain k g).dbg = s.dbg := rfl

/-! State.dpAbandon -/
@[simp] theorem dpAbandon_regs (s : State) (p : Nat) : (s.dpAbandon p).regs = s.regs := rfl
@[simp] theorem dpAbandon_mem (s : State) (p : Nat) : (s.dpAbandon p).mem = s.mem := rfl
@[simp] theorem dpAbandon_bus (s : State) (p : Nat) : (s.dpAbandon p).bus = s.bus := rfl
@[simp] theorem dpAbandon_pending (s : State) (p : Nat) : (s.dpAbandon p).pending = s.pending := rfl
@[simp] theorem dpAbandon_fresh (s : State) (p : Nat) : (s.dpAbandon p).fresh = s.fresh := rfl
@[simp] theorem dpAbandon_hub (s : State) (p : Nat) : (s.dpAbandon p).hub = s.hub := rfl
@[simp] theorem dpAbandon_icu (s : State) (p : Nat) : (s.dpAbandon p).icu = s.icu := rfl
@[simp] theorem dpAbandon_time (s : State) (p : Nat) : (s.dpAbandon p).time = s.time := rfl
@[simp] theorem dpAbandon_rst (s : State) (p : Nat) : (s.dpAbandon p).rst = s.rst := rfl
@[simp] theorem dpAbandon_pace (s : State) (p : Nat) : (s.dpAbandon p).pace = s.pace := rfl
@[simp] theorem dpAbandon_last (s : State) (p : Nat) : (s.dpAbandon p).last = s.last := rfl
@[simp] theorem dpAbandon_pict (s : State) (p : Nat) : (s.dpAbandon p).pict = s.pict := rfl
@[simp] theorem dpAbandon_fetch (s : State) (p : Nat) : (s.dpAbandon p).fetch = s.fetch := rfl
@[simp] theorem dpAbandon_welt (s : State) (p : Nat) : (s.dpAbandon p).welt = s.welt := rfl
@[simp] theorem dpAbandon_tongue (s : State) (p : Nat) : (s.dpAbandon p).tongue = s.tongue := rfl
@[simp] theorem dpAbandon_fuses (s : State) (p : Nat) : (s.dpAbandon p).fuses = s.fuses := rfl
@[simp] theorem dpAbandon_sec (s : State) (p : Nat) : (s.dpAbandon p).sec = s.sec := rfl
@[simp] theorem dpAbandon_cores (s : State) (p : Nat) : (s.dpAbandon p).cores = s.cores := rfl
@[simp] theorem dpAbandon_move (s : State) (p : Nat) : (s.dpAbandon p).move = s.move := rfl
@[simp] theorem dpAbandon_audio (s : State) (p : Nat) : (s.dpAbandon p).audio = s.audio := rfl
@[simp] theorem dpAbandon_panel (s : State) (p : Nat) : (s.dpAbandon p).panel = s.panel := rfl
@[simp] theorem dpAbandon_eyes (s : State) (p : Nat) : (s.dpAbandon p).eyes = s.eyes := rfl
@[simp] theorem dpAbandon_pers (s : State) (p : Nat) : (s.dpAbandon p).pers = s.pers := rfl
@[simp] theorem dpAbandon_dbg (s : State) (p : Nat) : (s.dpAbandon p).dbg = s.dbg := rfl

/-! State.refBack -/
@[simp] theorem refBack_regs (s : State) : (s.refBack).regs = s.regs := rfl
@[simp] theorem refBack_mem (s : State) : (s.refBack).mem = s.mem := rfl
@[simp] theorem refBack_bus (s : State) : (s.refBack).bus = s.bus := rfl
@[simp] theorem refBack_pending (s : State) : (s.refBack).pending = s.pending := rfl
@[simp] theorem refBack_fresh (s : State) : (s.refBack).fresh = s.fresh := rfl
@[simp] theorem refBack_hub (s : State) : (s.refBack).hub = s.hub := rfl
@[simp] theorem refBack_icu (s : State) : (s.refBack).icu = s.icu := rfl
@[simp] theorem refBack_time (s : State) : (s.refBack).time = s.time := rfl
@[simp] theorem refBack_rst (s : State) : (s.refBack).rst = s.rst := rfl
@[simp] theorem refBack_pace (s : State) : (s.refBack).pace = s.pace := rfl
@[simp] theorem refBack_last (s : State) : (s.refBack).last = s.last := rfl
@[simp] theorem refBack_pict (s : State) : (s.refBack).pict = s.pict := rfl
@[simp] theorem refBack_fetch (s : State) : (s.refBack).fetch = s.fetch := rfl
@[simp] theorem refBack_welt (s : State) : (s.refBack).welt = s.welt := rfl
@[simp] theorem refBack_tongue (s : State) : (s.refBack).tongue = s.tongue := rfl
@[simp] theorem refBack_fuses (s : State) : (s.refBack).fuses = s.fuses := rfl
@[simp] theorem refBack_sec (s : State) : (s.refBack).sec = s.sec := rfl
@[simp] theorem refBack_cores (s : State) : (s.refBack).cores = s.cores := rfl
@[simp] theorem refBack_move (s : State) : (s.refBack).move = s.move := rfl
@[simp] theorem refBack_audio (s : State) : (s.refBack).audio = s.audio := rfl
@[simp] theorem refBack_panel (s : State) : (s.refBack).panel = s.panel := rfl
@[simp] theorem refBack_eyes (s : State) : (s.refBack).eyes = s.eyes := rfl
@[simp] theorem refBack_pers (s : State) : (s.refBack).pers = s.pers := rfl
@[simp] theorem refBack_dbg (s : State) : (s.refBack).dbg = s.dbg := rfl

/-! State.modWelt -/
@[simp] theorem modWelt_regs (s : State) (f : WeltS → WeltS) : (s.modWelt f).regs = s.regs := rfl
@[simp] theorem modWelt_mem (s : State) (f : WeltS → WeltS) : (s.modWelt f).mem = s.mem := rfl
@[simp] theorem modWelt_bus (s : State) (f : WeltS → WeltS) : (s.modWelt f).bus = s.bus := rfl
@[simp] theorem modWelt_pending (s : State) (f : WeltS → WeltS) : (s.modWelt f).pending = s.pending := rfl
@[simp] theorem modWelt_fresh (s : State) (f : WeltS → WeltS) : (s.modWelt f).fresh = s.fresh := rfl
@[simp] theorem modWelt_hub (s : State) (f : WeltS → WeltS) : (s.modWelt f).hub = s.hub := rfl
@[simp] theorem modWelt_icu (s : State) (f : WeltS → WeltS) : (s.modWelt f).icu = s.icu := rfl
@[simp] theorem modWelt_time (s : State) (f : WeltS → WeltS) : (s.modWelt f).time = s.time := rfl
@[simp] theorem modWelt_rst (s : State) (f : WeltS → WeltS) : (s.modWelt f).rst = s.rst := rfl
@[simp] theorem modWelt_pace (s : State) (f : WeltS → WeltS) : (s.modWelt f).pace = s.pace := rfl
@[simp] theorem modWelt_last (s : State) (f : WeltS → WeltS) : (s.modWelt f).last = s.last := rfl
@[simp] theorem modWelt_pict (s : State) (f : WeltS → WeltS) : (s.modWelt f).pict = s.pict := rfl
@[simp] theorem modWelt_fetch (s : State) (f : WeltS → WeltS) : (s.modWelt f).fetch = s.fetch := rfl
@[simp] theorem modWelt_lanes (s : State) (f : WeltS → WeltS) : (s.modWelt f).lanes = s.lanes := rfl
@[simp] theorem modWelt_tongue (s : State) (f : WeltS → WeltS) : (s.modWelt f).tongue = s.tongue := rfl
@[simp] theorem modWelt_fuses (s : State) (f : WeltS → WeltS) : (s.modWelt f).fuses = s.fuses := rfl
@[simp] theorem modWelt_sec (s : State) (f : WeltS → WeltS) : (s.modWelt f).sec = s.sec := rfl
@[simp] theorem modWelt_cores (s : State) (f : WeltS → WeltS) : (s.modWelt f).cores = s.cores := rfl
@[simp] theorem modWelt_move (s : State) (f : WeltS → WeltS) : (s.modWelt f).move = s.move := rfl
@[simp] theorem modWelt_audio (s : State) (f : WeltS → WeltS) : (s.modWelt f).audio = s.audio := rfl
@[simp] theorem modWelt_panel (s : State) (f : WeltS → WeltS) : (s.modWelt f).panel = s.panel := rfl
@[simp] theorem modWelt_eyes (s : State) (f : WeltS → WeltS) : (s.modWelt f).eyes = s.eyes := rfl
@[simp] theorem modWelt_pers (s : State) (f : WeltS → WeltS) : (s.modWelt f).pers = s.pers := rfl
@[simp] theorem modWelt_dbg (s : State) (f : WeltS → WeltS) : (s.modWelt f).dbg = s.dbg := rfl

/-! State.setPrx -/
@[simp] theorem setPrx_regs (s : State) (k : Nat) (v : PrxS) : (s.setPrx k v).regs = s.regs := rfl
@[simp] theorem setPrx_mem (s : State) (k : Nat) (v : PrxS) : (s.setPrx k v).mem = s.mem := rfl
@[simp] theorem setPrx_bus (s : State) (k : Nat) (v : PrxS) : (s.setPrx k v).bus = s.bus := rfl
@[simp] theorem setPrx_pending (s : State) (k : Nat) (v : PrxS) : (s.setPrx k v).pending = s.pending := rfl
@[simp] theorem setPrx_fresh (s : State) (k : Nat) (v : PrxS) : (s.setPrx k v).fresh = s.fresh := rfl
@[simp] theorem setPrx_hub (s : State) (k : Nat) (v : PrxS) : (s.setPrx k v).hub = s.hub := rfl
@[simp] theorem setPrx_icu (s : State) (k : Nat) (v : PrxS) : (s.setPrx k v).icu = s.icu := rfl
@[simp] theorem setPrx_time (s : State) (k : Nat) (v : PrxS) : (s.setPrx k v).time = s.time := rfl
@[simp] theorem setPrx_rst (s : State) (k : Nat) (v : PrxS) : (s.setPrx k v).rst = s.rst := rfl
@[simp] theorem setPrx_pace (s : State) (k : Nat) (v : PrxS) : (s.setPrx k v).pace = s.pace := rfl
@[simp] theorem setPrx_last (s : State) (k : Nat) (v : PrxS) : (s.setPrx k v).last = s.last := rfl
@[simp] theorem setPrx_fetch (s : State) (k : Nat) (v : PrxS) : (s.setPrx k v).fetch = s.fetch := rfl
@[simp] theorem setPrx_lanes (s : State) (k : Nat) (v : PrxS) : (s.setPrx k v).lanes = s.lanes := rfl
@[simp] theorem setPrx_welt (s : State) (k : Nat) (v : PrxS) : (s.setPrx k v).welt = s.welt := rfl
@[simp] theorem setPrx_tongue (s : State) (k : Nat) (v : PrxS) : (s.setPrx k v).tongue = s.tongue := rfl
@[simp] theorem setPrx_fuses (s : State) (k : Nat) (v : PrxS) : (s.setPrx k v).fuses = s.fuses := rfl
@[simp] theorem setPrx_sec (s : State) (k : Nat) (v : PrxS) : (s.setPrx k v).sec = s.sec := rfl
@[simp] theorem setPrx_cores (s : State) (k : Nat) (v : PrxS) : (s.setPrx k v).cores = s.cores := rfl
@[simp] theorem setPrx_move (s : State) (k : Nat) (v : PrxS) : (s.setPrx k v).move = s.move := rfl
@[simp] theorem setPrx_audio (s : State) (k : Nat) (v : PrxS) : (s.setPrx k v).audio = s.audio := rfl
@[simp] theorem setPrx_panel (s : State) (k : Nat) (v : PrxS) : (s.setPrx k v).panel = s.panel := rfl
@[simp] theorem setPrx_eyes (s : State) (k : Nat) (v : PrxS) : (s.setPrx k v).eyes = s.eyes := rfl
@[simp] theorem setPrx_pers (s : State) (k : Nat) (v : PrxS) : (s.setPrx k v).pers = s.pers := rfl
@[simp] theorem setPrx_dbg (s : State) (k : Nat) (v : PrxS) : (s.setPrx k v).dbg = s.dbg := rfl

/-! State.setArms -/
@[simp] theorem setArms_regs (s : State) (l : List Arm) : (s.setArms l).regs = s.regs := rfl
@[simp] theorem setArms_mem (s : State) (l : List Arm) : (s.setArms l).mem = s.mem := rfl
@[simp] theorem setArms_bus (s : State) (l : List Arm) : (s.setArms l).bus = s.bus := rfl
@[simp] theorem setArms_pending (s : State) (l : List Arm) : (s.setArms l).pending = s.pending := rfl
@[simp] theorem setArms_fresh (s : State) (l : List Arm) : (s.setArms l).fresh = s.fresh := rfl
@[simp] theorem setArms_hub (s : State) (l : List Arm) : (s.setArms l).hub = s.hub := rfl
@[simp] theorem setArms_icu (s : State) (l : List Arm) : (s.setArms l).icu = s.icu := rfl
@[simp] theorem setArms_time (s : State) (l : List Arm) : (s.setArms l).time = s.time := rfl
@[simp] theorem setArms_rst (s : State) (l : List Arm) : (s.setArms l).rst = s.rst := rfl
@[simp] theorem setArms_pace (s : State) (l : List Arm) : (s.setArms l).pace = s.pace := rfl
@[simp] theorem setArms_last (s : State) (l : List Arm) : (s.setArms l).last = s.last := rfl
@[simp] theorem setArms_fetch (s : State) (l : List Arm) : (s.setArms l).fetch = s.fetch := rfl
@[simp] theorem setArms_lanes (s : State) (l : List Arm) : (s.setArms l).lanes = s.lanes := rfl
@[simp] theorem setArms_welt (s : State) (l : List Arm) : (s.setArms l).welt = s.welt := rfl
@[simp] theorem setArms_tongue (s : State) (l : List Arm) : (s.setArms l).tongue = s.tongue := rfl
@[simp] theorem setArms_fuses (s : State) (l : List Arm) : (s.setArms l).fuses = s.fuses := rfl
@[simp] theorem setArms_sec (s : State) (l : List Arm) : (s.setArms l).sec = s.sec := rfl
@[simp] theorem setArms_cores (s : State) (l : List Arm) : (s.setArms l).cores = s.cores := rfl
@[simp] theorem setArms_move (s : State) (l : List Arm) : (s.setArms l).move = s.move := rfl
@[simp] theorem setArms_audio (s : State) (l : List Arm) : (s.setArms l).audio = s.audio := rfl
@[simp] theorem setArms_panel (s : State) (l : List Arm) : (s.setArms l).panel = s.panel := rfl
@[simp] theorem setArms_eyes (s : State) (l : List Arm) : (s.setArms l).eyes = s.eyes := rfl
@[simp] theorem setArms_pers (s : State) (l : List Arm) : (s.setArms l).pers = s.pers := rfl
@[simp] theorem setArms_dbg (s : State) (l : List Arm) : (s.setArms l).dbg = s.dbg := rfl

/-! State.setCore -/
@[simp] theorem setCore_regs (s : State) (n : Nat) (c : CoreS) : (s.setCore n c).regs = s.regs := rfl
@[simp] theorem setCore_mem (s : State) (n : Nat) (c : CoreS) : (s.setCore n c).mem = s.mem := rfl
@[simp] theorem setCore_bus (s : State) (n : Nat) (c : CoreS) : (s.setCore n c).bus = s.bus := rfl
@[simp] theorem setCore_pending (s : State) (n : Nat) (c : CoreS) : (s.setCore n c).pending = s.pending := rfl
@[simp] theorem setCore_fresh (s : State) (n : Nat) (c : CoreS) : (s.setCore n c).fresh = s.fresh := rfl
@[simp] theorem setCore_hub (s : State) (n : Nat) (c : CoreS) : (s.setCore n c).hub = s.hub := rfl
@[simp] theorem setCore_icu (s : State) (n : Nat) (c : CoreS) : (s.setCore n c).icu = s.icu := rfl
@[simp] theorem setCore_time (s : State) (n : Nat) (c : CoreS) : (s.setCore n c).time = s.time := rfl
@[simp] theorem setCore_rst (s : State) (n : Nat) (c : CoreS) : (s.setCore n c).rst = s.rst := rfl
@[simp] theorem setCore_pace (s : State) (n : Nat) (c : CoreS) : (s.setCore n c).pace = s.pace := rfl
@[simp] theorem setCore_last (s : State) (n : Nat) (c : CoreS) : (s.setCore n c).last = s.last := rfl
@[simp] theorem setCore_pict (s : State) (n : Nat) (c : CoreS) : (s.setCore n c).pict = s.pict := rfl
@[simp] theorem setCore_fetch (s : State) (n : Nat) (c : CoreS) : (s.setCore n c).fetch = s.fetch := rfl
@[simp] theorem setCore_lanes (s : State) (n : Nat) (c : CoreS) : (s.setCore n c).lanes = s.lanes := rfl
@[simp] theorem setCore_welt (s : State) (n : Nat) (c : CoreS) : (s.setCore n c).welt = s.welt := rfl
@[simp] theorem setCore_tongue (s : State) (n : Nat) (c : CoreS) : (s.setCore n c).tongue = s.tongue := rfl
@[simp] theorem setCore_fuses (s : State) (n : Nat) (c : CoreS) : (s.setCore n c).fuses = s.fuses := rfl
@[simp] theorem setCore_sec (s : State) (n : Nat) (c : CoreS) : (s.setCore n c).sec = s.sec := rfl
@[simp] theorem setCore_move (s : State) (n : Nat) (c : CoreS) : (s.setCore n c).move = s.move := rfl
@[simp] theorem setCore_audio (s : State) (n : Nat) (c : CoreS) : (s.setCore n c).audio = s.audio := rfl
@[simp] theorem setCore_panel (s : State) (n : Nat) (c : CoreS) : (s.setCore n c).panel = s.panel := rfl
@[simp] theorem setCore_eyes (s : State) (n : Nat) (c : CoreS) : (s.setCore n c).eyes = s.eyes := rfl
@[simp] theorem setCore_pers (s : State) (n : Nat) (c : CoreS) : (s.setCore n c).pers = s.pers := rfl
@[simp] theorem setCore_dbg (s : State) (n : Nat) (c : CoreS) : (s.setCore n c).dbg = s.dbg := rfl

/-! State.modPanel -/
@[simp] theorem modPanel_regs (s : State) (f : PanelS → PanelS) : (s.modPanel f).regs = s.regs := rfl
@[simp] theorem modPanel_mem (s : State) (f : PanelS → PanelS) : (s.modPanel f).mem = s.mem := rfl
@[simp] theorem modPanel_bus (s : State) (f : PanelS → PanelS) : (s.modPanel f).bus = s.bus := rfl
@[simp] theorem modPanel_pending (s : State) (f : PanelS → PanelS) : (s.modPanel f).pending = s.pending := rfl
@[simp] theorem modPanel_fresh (s : State) (f : PanelS → PanelS) : (s.modPanel f).fresh = s.fresh := rfl
@[simp] theorem modPanel_hub (s : State) (f : PanelS → PanelS) : (s.modPanel f).hub = s.hub := rfl
@[simp] theorem modPanel_icu (s : State) (f : PanelS → PanelS) : (s.modPanel f).icu = s.icu := rfl
@[simp] theorem modPanel_time (s : State) (f : PanelS → PanelS) : (s.modPanel f).time = s.time := rfl
@[simp] theorem modPanel_rst (s : State) (f : PanelS → PanelS) : (s.modPanel f).rst = s.rst := rfl
@[simp] theorem modPanel_pace (s : State) (f : PanelS → PanelS) : (s.modPanel f).pace = s.pace := rfl
@[simp] theorem modPanel_last (s : State) (f : PanelS → PanelS) : (s.modPanel f).last = s.last := rfl
@[simp] theorem modPanel_pict (s : State) (f : PanelS → PanelS) : (s.modPanel f).pict = s.pict := rfl
@[simp] theorem modPanel_fetch (s : State) (f : PanelS → PanelS) : (s.modPanel f).fetch = s.fetch := rfl
@[simp] theorem modPanel_lanes (s : State) (f : PanelS → PanelS) : (s.modPanel f).lanes = s.lanes := rfl
@[simp] theorem modPanel_welt (s : State) (f : PanelS → PanelS) : (s.modPanel f).welt = s.welt := rfl
@[simp] theorem modPanel_tongue (s : State) (f : PanelS → PanelS) : (s.modPanel f).tongue = s.tongue := rfl
@[simp] theorem modPanel_fuses (s : State) (f : PanelS → PanelS) : (s.modPanel f).fuses = s.fuses := rfl
@[simp] theorem modPanel_sec (s : State) (f : PanelS → PanelS) : (s.modPanel f).sec = s.sec := rfl
@[simp] theorem modPanel_cores (s : State) (f : PanelS → PanelS) : (s.modPanel f).cores = s.cores := rfl
@[simp] theorem modPanel_move (s : State) (f : PanelS → PanelS) : (s.modPanel f).move = s.move := rfl
@[simp] theorem modPanel_audio (s : State) (f : PanelS → PanelS) : (s.modPanel f).audio = s.audio := rfl
@[simp] theorem modPanel_eyes (s : State) (f : PanelS → PanelS) : (s.modPanel f).eyes = s.eyes := rfl
@[simp] theorem modPanel_pers (s : State) (f : PanelS → PanelS) : (s.modPanel f).pers = s.pers := rfl
@[simp] theorem modPanel_dbg (s : State) (f : PanelS → PanelS) : (s.modPanel f).dbg = s.dbg := rfl

/-! State.modPer -/
@[simp] theorem modPer_regs (s : State) (p : Nat) (f : PerS → PerS) : (s.modPer p f).regs = s.regs := rfl
@[simp] theorem modPer_mem (s : State) (p : Nat) (f : PerS → PerS) : (s.modPer p f).mem = s.mem := rfl
@[simp] theorem modPer_bus (s : State) (p : Nat) (f : PerS → PerS) : (s.modPer p f).bus = s.bus := rfl
@[simp] theorem modPer_pending (s : State) (p : Nat) (f : PerS → PerS) : (s.modPer p f).pending = s.pending := rfl
@[simp] theorem modPer_fresh (s : State) (p : Nat) (f : PerS → PerS) : (s.modPer p f).fresh = s.fresh := rfl
@[simp] theorem modPer_hub (s : State) (p : Nat) (f : PerS → PerS) : (s.modPer p f).hub = s.hub := rfl
@[simp] theorem modPer_icu (s : State) (p : Nat) (f : PerS → PerS) : (s.modPer p f).icu = s.icu := rfl
@[simp] theorem modPer_time (s : State) (p : Nat) (f : PerS → PerS) : (s.modPer p f).time = s.time := rfl
@[simp] theorem modPer_rst (s : State) (p : Nat) (f : PerS → PerS) : (s.modPer p f).rst = s.rst := rfl
@[simp] theorem modPer_pace (s : State) (p : Nat) (f : PerS → PerS) : (s.modPer p f).pace = s.pace := rfl
@[simp] theorem modPer_last (s : State) (p : Nat) (f : PerS → PerS) : (s.modPer p f).last = s.last := rfl
@[simp] theorem modPer_pict (s : State) (p : Nat) (f : PerS → PerS) : (s.modPer p f).pict = s.pict := rfl
@[simp] theorem modPer_fetch (s : State) (p : Nat) (f : PerS → PerS) : (s.modPer p f).fetch = s.fetch := rfl
@[simp] theorem modPer_lanes (s : State) (p : Nat) (f : PerS → PerS) : (s.modPer p f).lanes = s.lanes := rfl
@[simp] theorem modPer_welt (s : State) (p : Nat) (f : PerS → PerS) : (s.modPer p f).welt = s.welt := rfl
@[simp] theorem modPer_tongue (s : State) (p : Nat) (f : PerS → PerS) : (s.modPer p f).tongue = s.tongue := rfl
@[simp] theorem modPer_fuses (s : State) (p : Nat) (f : PerS → PerS) : (s.modPer p f).fuses = s.fuses := rfl
@[simp] theorem modPer_sec (s : State) (p : Nat) (f : PerS → PerS) : (s.modPer p f).sec = s.sec := rfl
@[simp] theorem modPer_cores (s : State) (p : Nat) (f : PerS → PerS) : (s.modPer p f).cores = s.cores := rfl
@[simp] theorem modPer_move (s : State) (p : Nat) (f : PerS → PerS) : (s.modPer p f).move = s.move := rfl
@[simp] theorem modPer_audio (s : State) (p : Nat) (f : PerS → PerS) : (s.modPer p f).audio = s.audio := rfl
@[simp] theorem modPer_panel (s : State) (p : Nat) (f : PerS → PerS) : (s.modPer p f).panel = s.panel := rfl
@[simp] theorem modPer_eyes (s : State) (p : Nat) (f : PerS → PerS) : (s.modPer p f).eyes = s.eyes := rfl
@[simp] theorem modPer_dbg (s : State) (p : Nat) (f : PerS → PerS) : (s.modPer p f).dbg = s.dbg := rfl

/-! State.endSession -/
@[simp] theorem endSession_regs (s : State) (src : Src) : (s.endSession src).regs = s.regs := rfl
@[simp] theorem endSession_mem (s : State) (src : Src) : (s.endSession src).mem = s.mem := rfl
@[simp] theorem endSession_bus (s : State) (src : Src) : (s.endSession src).bus = s.bus := rfl
@[simp] theorem endSession_pending (s : State) (src : Src) : (s.endSession src).pending = s.pending := rfl
@[simp] theorem endSession_fresh (s : State) (src : Src) : (s.endSession src).fresh = s.fresh := rfl
@[simp] theorem endSession_hub (s : State) (src : Src) : (s.endSession src).hub = s.hub := rfl
@[simp] theorem endSession_icu (s : State) (src : Src) : (s.endSession src).icu = s.icu := rfl
@[simp] theorem endSession_time (s : State) (src : Src) : (s.endSession src).time = s.time := rfl
@[simp] theorem endSession_rst (s : State) (src : Src) : (s.endSession src).rst = s.rst := rfl
@[simp] theorem endSession_pace (s : State) (src : Src) : (s.endSession src).pace = s.pace := rfl
@[simp] theorem endSession_last (s : State) (src : Src) : (s.endSession src).last = s.last := rfl
@[simp] theorem endSession_pict (s : State) (src : Src) : (s.endSession src).pict = s.pict := rfl
@[simp] theorem endSession_fetch (s : State) (src : Src) : (s.endSession src).fetch = s.fetch := rfl
@[simp] theorem endSession_lanes (s : State) (src : Src) : (s.endSession src).lanes = s.lanes := rfl
@[simp] theorem endSession_welt (s : State) (src : Src) : (s.endSession src).welt = s.welt := rfl
@[simp] theorem endSession_fuses (s : State) (src : Src) : (s.endSession src).fuses = s.fuses := rfl
@[simp] theorem endSession_sec (s : State) (src : Src) : (s.endSession src).sec = s.sec := rfl
@[simp] theorem endSession_cores (s : State) (src : Src) : (s.endSession src).cores = s.cores := rfl
@[simp] theorem endSession_move (s : State) (src : Src) : (s.endSession src).move = s.move := rfl
@[simp] theorem endSession_audio (s : State) (src : Src) : (s.endSession src).audio = s.audio := rfl
@[simp] theorem endSession_panel (s : State) (src : Src) : (s.endSession src).panel = s.panel := rfl
@[simp] theorem endSession_eyes (s : State) (src : Src) : (s.endSession src).eyes = s.eyes := rfl
@[simp] theorem endSession_pers (s : State) (src : Src) : (s.endSession src).pers = s.pers := rfl
@[simp] theorem endSession_dbg (s : State) (src : Src) : (s.endSession src).dbg = s.dbg := rfl

/-! State.loseRegs -/
@[simp] theorem loseRegs_mem (s : State) (d : Nat) : (s.loseRegs d).mem = s.mem := rfl
@[simp] theorem loseRegs_bus (s : State) (d : Nat) : (s.loseRegs d).bus = s.bus := rfl
@[simp] theorem loseRegs_pending (s : State) (d : Nat) : (s.loseRegs d).pending = s.pending := rfl
@[simp] theorem loseRegs_fresh (s : State) (d : Nat) : (s.loseRegs d).fresh = s.fresh := rfl
@[simp] theorem loseRegs_hub (s : State) (d : Nat) : (s.loseRegs d).hub = s.hub := rfl
@[simp] theorem loseRegs_icu (s : State) (d : Nat) : (s.loseRegs d).icu = s.icu := rfl
@[simp] theorem loseRegs_time (s : State) (d : Nat) : (s.loseRegs d).time = s.time := rfl
@[simp] theorem loseRegs_rst (s : State) (d : Nat) : (s.loseRegs d).rst = s.rst := rfl
@[simp] theorem loseRegs_pace (s : State) (d : Nat) : (s.loseRegs d).pace = s.pace := rfl
@[simp] theorem loseRegs_last (s : State) (d : Nat) : (s.loseRegs d).last = s.last := rfl
@[simp] theorem loseRegs_pict (s : State) (d : Nat) : (s.loseRegs d).pict = s.pict := rfl
@[simp] theorem loseRegs_fetch (s : State) (d : Nat) : (s.loseRegs d).fetch = s.fetch := rfl
@[simp] theorem loseRegs_lanes (s : State) (d : Nat) : (s.loseRegs d).lanes = s.lanes := rfl
@[simp] theorem loseRegs_welt (s : State) (d : Nat) : (s.loseRegs d).welt = s.welt := rfl
@[simp] theorem loseRegs_tongue (s : State) (d : Nat) : (s.loseRegs d).tongue = s.tongue := rfl
@[simp] theorem loseRegs_fuses (s : State) (d : Nat) : (s.loseRegs d).fuses = s.fuses := rfl
@[simp] theorem loseRegs_sec (s : State) (d : Nat) : (s.loseRegs d).sec = s.sec := rfl
@[simp] theorem loseRegs_cores (s : State) (d : Nat) : (s.loseRegs d).cores = s.cores := rfl
@[simp] theorem loseRegs_move (s : State) (d : Nat) : (s.loseRegs d).move = s.move := rfl
@[simp] theorem loseRegs_audio (s : State) (d : Nat) : (s.loseRegs d).audio = s.audio := rfl
@[simp] theorem loseRegs_panel (s : State) (d : Nat) : (s.loseRegs d).panel = s.panel := rfl
@[simp] theorem loseRegs_eyes (s : State) (d : Nat) : (s.loseRegs d).eyes = s.eyes := rfl
@[simp] theorem loseRegs_pers (s : State) (d : Nat) : (s.loseRegs d).pers = s.pers := rfl
@[simp] theorem loseRegs_dbg (s : State) (d : Nat) : (s.loseRegs d).dbg = s.dbg := rfl

/-! State.dbgAnswer -/
@[simp] theorem dbgAnswer_regs (s : State) (status : Nat) (data : List Nat) : (s.dbgAnswer status data).regs = s.regs := rfl
@[simp] theorem dbgAnswer_mem (s : State) (status : Nat) (data : List Nat) : (s.dbgAnswer status data).mem = s.mem := rfl
@[simp] theorem dbgAnswer_pending (s : State) (status : Nat) (data : List Nat) : (s.dbgAnswer status data).pending = s.pending := rfl
@[simp] theorem dbgAnswer_fresh (s : State) (status : Nat) (data : List Nat) : (s.dbgAnswer status data).fresh = s.fresh := rfl
@[simp] theorem dbgAnswer_hub (s : State) (status : Nat) (data : List Nat) : (s.dbgAnswer status data).hub = s.hub := rfl
@[simp] theorem dbgAnswer_icu (s : State) (status : Nat) (data : List Nat) : (s.dbgAnswer status data).icu = s.icu := rfl
@[simp] theorem dbgAnswer_time (s : State) (status : Nat) (data : List Nat) : (s.dbgAnswer status data).time = s.time := rfl
@[simp] theorem dbgAnswer_rst (s : State) (status : Nat) (data : List Nat) : (s.dbgAnswer status data).rst = s.rst := rfl
@[simp] theorem dbgAnswer_pace (s : State) (status : Nat) (data : List Nat) : (s.dbgAnswer status data).pace = s.pace := rfl
@[simp] theorem dbgAnswer_last (s : State) (status : Nat) (data : List Nat) : (s.dbgAnswer status data).last = s.last := rfl
@[simp] theorem dbgAnswer_pict (s : State) (status : Nat) (data : List Nat) : (s.dbgAnswer status data).pict = s.pict := rfl
@[simp] theorem dbgAnswer_fetch (s : State) (status : Nat) (data : List Nat) : (s.dbgAnswer status data).fetch = s.fetch := rfl
@[simp] theorem dbgAnswer_lanes (s : State) (status : Nat) (data : List Nat) : (s.dbgAnswer status data).lanes = s.lanes := rfl
@[simp] theorem dbgAnswer_welt (s : State) (status : Nat) (data : List Nat) : (s.dbgAnswer status data).welt = s.welt := rfl
@[simp] theorem dbgAnswer_tongue (s : State) (status : Nat) (data : List Nat) : (s.dbgAnswer status data).tongue = s.tongue := rfl
@[simp] theorem dbgAnswer_fuses (s : State) (status : Nat) (data : List Nat) : (s.dbgAnswer status data).fuses = s.fuses := rfl
@[simp] theorem dbgAnswer_sec (s : State) (status : Nat) (data : List Nat) : (s.dbgAnswer status data).sec = s.sec := rfl
@[simp] theorem dbgAnswer_cores (s : State) (status : Nat) (data : List Nat) : (s.dbgAnswer status data).cores = s.cores := rfl
@[simp] theorem dbgAnswer_move (s : State) (status : Nat) (data : List Nat) : (s.dbgAnswer status data).move = s.move := rfl
@[simp] theorem dbgAnswer_audio (s : State) (status : Nat) (data : List Nat) : (s.dbgAnswer status data).audio = s.audio := rfl
@[simp] theorem dbgAnswer_panel (s : State) (status : Nat) (data : List Nat) : (s.dbgAnswer status data).panel = s.panel := rfl
@[simp] theorem dbgAnswer_eyes (s : State) (status : Nat) (data : List Nat) : (s.dbgAnswer status data).eyes = s.eyes := rfl
@[simp] theorem dbgAnswer_pers (s : State) (status : Nat) (data : List Nat) : (s.dbgAnswer status data).pers = s.pers := rfl
@[simp] theorem dbgAnswer_dbg (s : State) (status : Nat) (data : List Nat) : (s.dbgAnswer status data).dbg = s.dbg := rfl

/-! State.setLace -/
@[simp] theorem setLace_regs (s : State) (n : Nat) (l : LaceS) : (s.setLace n l).regs = s.regs := rfl
@[simp] theorem setLace_mem (s : State) (n : Nat) (l : LaceS) : (s.setLace n l).mem = s.mem := rfl
@[simp] theorem setLace_bus (s : State) (n : Nat) (l : LaceS) : (s.setLace n l).bus = s.bus := rfl
@[simp] theorem setLace_pending (s : State) (n : Nat) (l : LaceS) : (s.setLace n l).pending = s.pending := rfl
@[simp] theorem setLace_fresh (s : State) (n : Nat) (l : LaceS) : (s.setLace n l).fresh = s.fresh := rfl
@[simp] theorem setLace_hub (s : State) (n : Nat) (l : LaceS) : (s.setLace n l).hub = s.hub := rfl
@[simp] theorem setLace_icu (s : State) (n : Nat) (l : LaceS) : (s.setLace n l).icu = s.icu := rfl
@[simp] theorem setLace_time (s : State) (n : Nat) (l : LaceS) : (s.setLace n l).time = s.time := rfl
@[simp] theorem setLace_rst (s : State) (n : Nat) (l : LaceS) : (s.setLace n l).rst = s.rst := rfl
@[simp] theorem setLace_pace (s : State) (n : Nat) (l : LaceS) : (s.setLace n l).pace = s.pace := rfl
@[simp] theorem setLace_last (s : State) (n : Nat) (l : LaceS) : (s.setLace n l).last = s.last := rfl
@[simp] theorem setLace_pict (s : State) (n : Nat) (l : LaceS) : (s.setLace n l).pict = s.pict := rfl
@[simp] theorem setLace_fetch (s : State) (n : Nat) (l : LaceS) : (s.setLace n l).fetch = s.fetch := rfl
@[simp] theorem setLace_lanes (s : State) (n : Nat) (l : LaceS) : (s.setLace n l).lanes = s.lanes := rfl
@[simp] theorem setLace_welt (s : State) (n : Nat) (l : LaceS) : (s.setLace n l).welt = s.welt := rfl
@[simp] theorem setLace_tongue (s : State) (n : Nat) (l : LaceS) : (s.setLace n l).tongue = s.tongue := rfl
@[simp] theorem setLace_fuses (s : State) (n : Nat) (l : LaceS) : (s.setLace n l).fuses = s.fuses := rfl
@[simp] theorem setLace_sec (s : State) (n : Nat) (l : LaceS) : (s.setLace n l).sec = s.sec := rfl
@[simp] theorem setLace_cores (s : State) (n : Nat) (l : LaceS) : (s.setLace n l).cores = s.cores := rfl
@[simp] theorem setLace_audio (s : State) (n : Nat) (l : LaceS) : (s.setLace n l).audio = s.audio := rfl
@[simp] theorem setLace_panel (s : State) (n : Nat) (l : LaceS) : (s.setLace n l).panel = s.panel := rfl
@[simp] theorem setLace_eyes (s : State) (n : Nat) (l : LaceS) : (s.setLace n l).eyes = s.eyes := rfl
@[simp] theorem setLace_pers (s : State) (n : Nat) (l : LaceS) : (s.setLace n l).pers = s.pers := rfl
@[simp] theorem setLace_dbg (s : State) (n : Nat) (l : LaceS) : (s.setLace n l).dbg = s.dbg := rfl

/-! State.setSkiver -/
@[simp] theorem setSkiver_regs (s : State) (k : SkivS) : (s.setSkiver k).regs = s.regs := rfl
@[simp] theorem setSkiver_mem (s : State) (k : SkivS) : (s.setSkiver k).mem = s.mem := rfl
@[simp] theorem setSkiver_bus (s : State) (k : SkivS) : (s.setSkiver k).bus = s.bus := rfl
@[simp] theorem setSkiver_pending (s : State) (k : SkivS) : (s.setSkiver k).pending = s.pending := rfl
@[simp] theorem setSkiver_fresh (s : State) (k : SkivS) : (s.setSkiver k).fresh = s.fresh := rfl
@[simp] theorem setSkiver_hub (s : State) (k : SkivS) : (s.setSkiver k).hub = s.hub := rfl
@[simp] theorem setSkiver_icu (s : State) (k : SkivS) : (s.setSkiver k).icu = s.icu := rfl
@[simp] theorem setSkiver_time (s : State) (k : SkivS) : (s.setSkiver k).time = s.time := rfl
@[simp] theorem setSkiver_rst (s : State) (k : SkivS) : (s.setSkiver k).rst = s.rst := rfl
@[simp] theorem setSkiver_pace (s : State) (k : SkivS) : (s.setSkiver k).pace = s.pace := rfl
@[simp] theorem setSkiver_last (s : State) (k : SkivS) : (s.setSkiver k).last = s.last := rfl
@[simp] theorem setSkiver_pict (s : State) (k : SkivS) : (s.setSkiver k).pict = s.pict := rfl
@[simp] theorem setSkiver_fetch (s : State) (k : SkivS) : (s.setSkiver k).fetch = s.fetch := rfl
@[simp] theorem setSkiver_lanes (s : State) (k : SkivS) : (s.setSkiver k).lanes = s.lanes := rfl
@[simp] theorem setSkiver_welt (s : State) (k : SkivS) : (s.setSkiver k).welt = s.welt := rfl
@[simp] theorem setSkiver_tongue (s : State) (k : SkivS) : (s.setSkiver k).tongue = s.tongue := rfl
@[simp] theorem setSkiver_fuses (s : State) (k : SkivS) : (s.setSkiver k).fuses = s.fuses := rfl
@[simp] theorem setSkiver_sec (s : State) (k : SkivS) : (s.setSkiver k).sec = s.sec := rfl
@[simp] theorem setSkiver_cores (s : State) (k : SkivS) : (s.setSkiver k).cores = s.cores := rfl
@[simp] theorem setSkiver_audio (s : State) (k : SkivS) : (s.setSkiver k).audio = s.audio := rfl
@[simp] theorem setSkiver_panel (s : State) (k : SkivS) : (s.setSkiver k).panel = s.panel := rfl
@[simp] theorem setSkiver_eyes (s : State) (k : SkivS) : (s.setSkiver k).eyes = s.eyes := rfl
@[simp] theorem setSkiver_pers (s : State) (k : SkivS) : (s.setSkiver k).pers = s.pers := rfl
@[simp] theorem setSkiver_dbg (s : State) (k : SkivS) : (s.setSkiver k).dbg = s.dbg := rfl

/-! State.latchTime -/
@[simp] theorem latchTime_regs (s : State) (m : Nat) : (s.latchTime m).regs = s.regs := rfl
@[simp] theorem latchTime_mem (s : State) (m : Nat) : (s.latchTime m).mem = s.mem := rfl
@[simp] theorem latchTime_bus (s : State) (m : Nat) : (s.latchTime m).bus = s.bus := rfl
@[simp] theorem latchTime_pending (s : State) (m : Nat) : (s.latchTime m).pending = s.pending := rfl
@[simp] theorem latchTime_fresh (s : State) (m : Nat) : (s.latchTime m).fresh = s.fresh := rfl
@[simp] theorem latchTime_hub (s : State) (m : Nat) : (s.latchTime m).hub = s.hub := rfl
@[simp] theorem latchTime_icu (s : State) (m : Nat) : (s.latchTime m).icu = s.icu := rfl
@[simp] theorem latchTime_rst (s : State) (m : Nat) : (s.latchTime m).rst = s.rst := rfl
@[simp] theorem latchTime_pace (s : State) (m : Nat) : (s.latchTime m).pace = s.pace := rfl
@[simp] theorem latchTime_last (s : State) (m : Nat) : (s.latchTime m).last = s.last := rfl
@[simp] theorem latchTime_pict (s : State) (m : Nat) : (s.latchTime m).pict = s.pict := rfl
@[simp] theorem latchTime_fetch (s : State) (m : Nat) : (s.latchTime m).fetch = s.fetch := rfl
@[simp] theorem latchTime_lanes (s : State) (m : Nat) : (s.latchTime m).lanes = s.lanes := rfl
@[simp] theorem latchTime_welt (s : State) (m : Nat) : (s.latchTime m).welt = s.welt := rfl
@[simp] theorem latchTime_tongue (s : State) (m : Nat) : (s.latchTime m).tongue = s.tongue := rfl
@[simp] theorem latchTime_fuses (s : State) (m : Nat) : (s.latchTime m).fuses = s.fuses := rfl
@[simp] theorem latchTime_sec (s : State) (m : Nat) : (s.latchTime m).sec = s.sec := rfl
@[simp] theorem latchTime_cores (s : State) (m : Nat) : (s.latchTime m).cores = s.cores := rfl
@[simp] theorem latchTime_move (s : State) (m : Nat) : (s.latchTime m).move = s.move := rfl
@[simp] theorem latchTime_audio (s : State) (m : Nat) : (s.latchTime m).audio = s.audio := rfl
@[simp] theorem latchTime_panel (s : State) (m : Nat) : (s.latchTime m).panel = s.panel := rfl
@[simp] theorem latchTime_eyes (s : State) (m : Nat) : (s.latchTime m).eyes = s.eyes := rfl
@[simp] theorem latchTime_pers (s : State) (m : Nat) : (s.latchTime m).pers = s.pers := rfl
@[simp] theorem latchTime_dbg (s : State) (m : Nat) : (s.latchTime m).dbg = s.dbg := rfl

/-! State.laceServed -/
@[simp] theorem laceServed_regs (s : State) (n : Nat) : (s.laceServed n).regs = s.regs := rfl
@[simp] theorem laceServed_mem (s : State) (n : Nat) : (s.laceServed n).mem = s.mem := rfl
@[simp] theorem laceServed_bus (s : State) (n : Nat) : (s.laceServed n).bus = s.bus := rfl
@[simp] theorem laceServed_pending (s : State) (n : Nat) : (s.laceServed n).pending = s.pending := rfl
@[simp] theorem laceServed_fresh (s : State) (n : Nat) : (s.laceServed n).fresh = s.fresh := rfl
@[simp] theorem laceServed_hub (s : State) (n : Nat) : (s.laceServed n).hub = s.hub := rfl
@[simp] theorem laceServed_icu (s : State) (n : Nat) : (s.laceServed n).icu = s.icu := rfl
@[simp] theorem laceServed_time (s : State) (n : Nat) : (s.laceServed n).time = s.time := rfl
@[simp] theorem laceServed_rst (s : State) (n : Nat) : (s.laceServed n).rst = s.rst := rfl
@[simp] theorem laceServed_pace (s : State) (n : Nat) : (s.laceServed n).pace = s.pace := rfl
@[simp] theorem laceServed_last (s : State) (n : Nat) : (s.laceServed n).last = s.last := rfl
@[simp] theorem laceServed_pict (s : State) (n : Nat) : (s.laceServed n).pict = s.pict := rfl
@[simp] theorem laceServed_fetch (s : State) (n : Nat) : (s.laceServed n).fetch = s.fetch := rfl
@[simp] theorem laceServed_lanes (s : State) (n : Nat) : (s.laceServed n).lanes = s.lanes := rfl
@[simp] theorem laceServed_welt (s : State) (n : Nat) : (s.laceServed n).welt = s.welt := rfl
@[simp] theorem laceServed_tongue (s : State) (n : Nat) : (s.laceServed n).tongue = s.tongue := rfl
@[simp] theorem laceServed_fuses (s : State) (n : Nat) : (s.laceServed n).fuses = s.fuses := rfl
@[simp] theorem laceServed_sec (s : State) (n : Nat) : (s.laceServed n).sec = s.sec := rfl
@[simp] theorem laceServed_cores (s : State) (n : Nat) : (s.laceServed n).cores = s.cores := rfl
@[simp] theorem laceServed_audio (s : State) (n : Nat) : (s.laceServed n).audio = s.audio := rfl
@[simp] theorem laceServed_panel (s : State) (n : Nat) : (s.laceServed n).panel = s.panel := rfl
@[simp] theorem laceServed_eyes (s : State) (n : Nat) : (s.laceServed n).eyes = s.eyes := rfl
@[simp] theorem laceServed_pers (s : State) (n : Nat) : (s.laceServed n).pers = s.pers := rfl
@[simp] theorem laceServed_dbg (s : State) (n : Nat) : (s.laceServed n).dbg = s.dbg := rfl

/-! State.inboxTake -/
@[simp] theorem inboxTake_regs (s : State) (x : Nat × Nat × List Nat) : (s.inboxTake x).regs = s.regs := rfl
@[simp] theorem inboxTake_mem (s : State) (x : Nat × Nat × List Nat) : (s.inboxTake x).mem = s.mem := rfl
@[simp] theorem inboxTake_bus (s : State) (x : Nat × Nat × List Nat) : (s.inboxTake x).bus = s.bus := rfl
@[simp] theorem inboxTake_pending (s : State) (x : Nat × Nat × List Nat) : (s.inboxTake x).pending = s.pending := rfl
@[simp] theorem inboxTake_fresh (s : State) (x : Nat × Nat × List Nat) : (s.inboxTake x).fresh = s.fresh := rfl
@[simp] theorem inboxTake_hub (s : State) (x : Nat × Nat × List Nat) : (s.inboxTake x).hub = s.hub := rfl
@[simp] theorem inboxTake_icu (s : State) (x : Nat × Nat × List Nat) : (s.inboxTake x).icu = s.icu := rfl
@[simp] theorem inboxTake_time (s : State) (x : Nat × Nat × List Nat) : (s.inboxTake x).time = s.time := rfl
@[simp] theorem inboxTake_rst (s : State) (x : Nat × Nat × List Nat) : (s.inboxTake x).rst = s.rst := rfl
@[simp] theorem inboxTake_pace (s : State) (x : Nat × Nat × List Nat) : (s.inboxTake x).pace = s.pace := rfl
@[simp] theorem inboxTake_last (s : State) (x : Nat × Nat × List Nat) : (s.inboxTake x).last = s.last := rfl
@[simp] theorem inboxTake_pict (s : State) (x : Nat × Nat × List Nat) : (s.inboxTake x).pict = s.pict := rfl
@[simp] theorem inboxTake_fetch (s : State) (x : Nat × Nat × List Nat) : (s.inboxTake x).fetch = s.fetch := rfl
@[simp] theorem inboxTake_lanes (s : State) (x : Nat × Nat × List Nat) : (s.inboxTake x).lanes = s.lanes := rfl
@[simp] theorem inboxTake_welt (s : State) (x : Nat × Nat × List Nat) : (s.inboxTake x).welt = s.welt := rfl
@[simp] theorem inboxTake_fuses (s : State) (x : Nat × Nat × List Nat) : (s.inboxTake x).fuses = s.fuses := rfl
@[simp] theorem inboxTake_sec (s : State) (x : Nat × Nat × List Nat) : (s.inboxTake x).sec = s.sec := rfl
@[simp] theorem inboxTake_cores (s : State) (x : Nat × Nat × List Nat) : (s.inboxTake x).cores = s.cores := rfl
@[simp] theorem inboxTake_move (s : State) (x : Nat × Nat × List Nat) : (s.inboxTake x).move = s.move := rfl
@[simp] theorem inboxTake_audio (s : State) (x : Nat × Nat × List Nat) : (s.inboxTake x).audio = s.audio := rfl
@[simp] theorem inboxTake_panel (s : State) (x : Nat × Nat × List Nat) : (s.inboxTake x).panel = s.panel := rfl
@[simp] theorem inboxTake_eyes (s : State) (x : Nat × Nat × List Nat) : (s.inboxTake x).eyes = s.eyes := rfl
@[simp] theorem inboxTake_pers (s : State) (x : Nat × Nat × List Nat) : (s.inboxTake x).pers = s.pers := rfl
@[simp] theorem inboxTake_dbg (s : State) (x : Nat × Nat × List Nat) : (s.inboxTake x).dbg = s.dbg := rfl

/-! State.dropReply -/
@[simp] theorem dropReply_regs (s : State) (r : Reply) : (s.dropReply r).regs = s.regs := rfl
@[simp] theorem dropReply_mem (s : State) (r : Reply) : (s.dropReply r).mem = s.mem := rfl
@[simp] theorem dropReply_bus (s : State) (r : Reply) : (s.dropReply r).bus = s.bus := rfl
@[simp] theorem dropReply_pending (s : State) (r : Reply) : (s.dropReply r).pending = s.pending := rfl
@[simp] theorem dropReply_fresh (s : State) (r : Reply) : (s.dropReply r).fresh = s.fresh := rfl
@[simp] theorem dropReply_hub (s : State) (r : Reply) : (s.dropReply r).hub = s.hub := rfl
@[simp] theorem dropReply_icu (s : State) (r : Reply) : (s.dropReply r).icu = s.icu := rfl
@[simp] theorem dropReply_time (s : State) (r : Reply) : (s.dropReply r).time = s.time := rfl
@[simp] theorem dropReply_rst (s : State) (r : Reply) : (s.dropReply r).rst = s.rst := rfl
@[simp] theorem dropReply_pace (s : State) (r : Reply) : (s.dropReply r).pace = s.pace := rfl
@[simp] theorem dropReply_last (s : State) (r : Reply) : (s.dropReply r).last = s.last := rfl
@[simp] theorem dropReply_pict (s : State) (r : Reply) : (s.dropReply r).pict = s.pict := rfl
@[simp] theorem dropReply_fetch (s : State) (r : Reply) : (s.dropReply r).fetch = s.fetch := rfl
@[simp] theorem dropReply_lanes (s : State) (r : Reply) : (s.dropReply r).lanes = s.lanes := rfl
@[simp] theorem dropReply_welt (s : State) (r : Reply) : (s.dropReply r).welt = s.welt := rfl
@[simp] theorem dropReply_fuses (s : State) (r : Reply) : (s.dropReply r).fuses = s.fuses := rfl
@[simp] theorem dropReply_sec (s : State) (r : Reply) : (s.dropReply r).sec = s.sec := rfl
@[simp] theorem dropReply_cores (s : State) (r : Reply) : (s.dropReply r).cores = s.cores := rfl
@[simp] theorem dropReply_move (s : State) (r : Reply) : (s.dropReply r).move = s.move := rfl
@[simp] theorem dropReply_audio (s : State) (r : Reply) : (s.dropReply r).audio = s.audio := rfl
@[simp] theorem dropReply_panel (s : State) (r : Reply) : (s.dropReply r).panel = s.panel := rfl
@[simp] theorem dropReply_eyes (s : State) (r : Reply) : (s.dropReply r).eyes = s.eyes := rfl
@[simp] theorem dropReply_pers (s : State) (r : Reply) : (s.dropReply r).pers = s.pers := rfl
@[simp] theorem dropReply_dbg (s : State) (r : Reply) : (s.dropReply r).dbg = s.dbg := rfl

/-! State.set -/
@[simp] theorem set_mem (s : State) (f : Fd) (x : Nat) : (s.set f x).mem = s.mem := rfl
@[simp] theorem set_bus (s : State) (f : Fd) (x : Nat) : (s.set f x).bus = s.bus := rfl
@[simp] theorem set_pending (s : State) (f : Fd) (x : Nat) : (s.set f x).pending = s.pending := rfl
@[simp] theorem set_fresh (s : State) (f : Fd) (x : Nat) : (s.set f x).fresh = s.fresh := rfl
@[simp] theorem set_hub (s : State) (f : Fd) (x : Nat) : (s.set f x).hub = s.hub := rfl
@[simp] theorem set_icu (s : State) (f : Fd) (x : Nat) : (s.set f x).icu = s.icu := rfl
@[simp] theorem set_time (s : State) (f : Fd) (x : Nat) : (s.set f x).time = s.time := rfl
@[simp] theorem set_rst (s : State) (f : Fd) (x : Nat) : (s.set f x).rst = s.rst := rfl
@[simp] theorem set_pace (s : State) (f : Fd) (x : Nat) : (s.set f x).pace = s.pace := rfl
@[simp] theorem set_last (s : State) (f : Fd) (x : Nat) : (s.set f x).last = s.last := rfl
@[simp] theorem set_pict (s : State) (f : Fd) (x : Nat) : (s.set f x).pict = s.pict := rfl
@[simp] theorem set_fetch (s : State) (f : Fd) (x : Nat) : (s.set f x).fetch = s.fetch := rfl
@[simp] theorem set_lanes (s : State) (f : Fd) (x : Nat) : (s.set f x).lanes = s.lanes := rfl
@[simp] theorem set_welt (s : State) (f : Fd) (x : Nat) : (s.set f x).welt = s.welt := rfl
@[simp] theorem set_tongue (s : State) (f : Fd) (x : Nat) : (s.set f x).tongue = s.tongue := rfl
@[simp] theorem set_fuses (s : State) (f : Fd) (x : Nat) : (s.set f x).fuses = s.fuses := rfl
@[simp] theorem set_sec (s : State) (f : Fd) (x : Nat) : (s.set f x).sec = s.sec := rfl
@[simp] theorem set_cores (s : State) (f : Fd) (x : Nat) : (s.set f x).cores = s.cores := rfl
@[simp] theorem set_move (s : State) (f : Fd) (x : Nat) : (s.set f x).move = s.move := rfl
@[simp] theorem set_audio (s : State) (f : Fd) (x : Nat) : (s.set f x).audio = s.audio := rfl
@[simp] theorem set_panel (s : State) (f : Fd) (x : Nat) : (s.set f x).panel = s.panel := rfl
@[simp] theorem set_eyes (s : State) (f : Fd) (x : Nat) : (s.set f x).eyes = s.eyes := rfl
@[simp] theorem set_pers (s : State) (f : Fd) (x : Nat) : (s.set f x).pers = s.pers := rfl
@[simp] theorem set_dbg (s : State) (f : Fd) (x : Nat) : (s.set f x).dbg = s.dbg := rfl

/-! State.setB -/
@[simp] theorem setB_mem (s : State) (f : Fd) (b : Bool) : (s.setB f b).mem = s.mem := rfl
@[simp] theorem setB_bus (s : State) (f : Fd) (b : Bool) : (s.setB f b).bus = s.bus := rfl
@[simp] theorem setB_pending (s : State) (f : Fd) (b : Bool) : (s.setB f b).pending = s.pending := rfl
@[simp] theorem setB_fresh (s : State) (f : Fd) (b : Bool) : (s.setB f b).fresh = s.fresh := rfl
@[simp] theorem setB_hub (s : State) (f : Fd) (b : Bool) : (s.setB f b).hub = s.hub := rfl
@[simp] theorem setB_icu (s : State) (f : Fd) (b : Bool) : (s.setB f b).icu = s.icu := rfl
@[simp] theorem setB_time (s : State) (f : Fd) (b : Bool) : (s.setB f b).time = s.time := rfl
@[simp] theorem setB_rst (s : State) (f : Fd) (b : Bool) : (s.setB f b).rst = s.rst := rfl
@[simp] theorem setB_pace (s : State) (f : Fd) (b : Bool) : (s.setB f b).pace = s.pace := rfl
@[simp] theorem setB_last (s : State) (f : Fd) (b : Bool) : (s.setB f b).last = s.last := rfl
@[simp] theorem setB_pict (s : State) (f : Fd) (b : Bool) : (s.setB f b).pict = s.pict := rfl
@[simp] theorem setB_fetch (s : State) (f : Fd) (b : Bool) : (s.setB f b).fetch = s.fetch := rfl
@[simp] theorem setB_lanes (s : State) (f : Fd) (b : Bool) : (s.setB f b).lanes = s.lanes := rfl
@[simp] theorem setB_welt (s : State) (f : Fd) (b : Bool) : (s.setB f b).welt = s.welt := rfl
@[simp] theorem setB_tongue (s : State) (f : Fd) (b : Bool) : (s.setB f b).tongue = s.tongue := rfl
@[simp] theorem setB_fuses (s : State) (f : Fd) (b : Bool) : (s.setB f b).fuses = s.fuses := rfl
@[simp] theorem setB_sec (s : State) (f : Fd) (b : Bool) : (s.setB f b).sec = s.sec := rfl
@[simp] theorem setB_cores (s : State) (f : Fd) (b : Bool) : (s.setB f b).cores = s.cores := rfl
@[simp] theorem setB_move (s : State) (f : Fd) (b : Bool) : (s.setB f b).move = s.move := rfl
@[simp] theorem setB_audio (s : State) (f : Fd) (b : Bool) : (s.setB f b).audio = s.audio := rfl
@[simp] theorem setB_panel (s : State) (f : Fd) (b : Bool) : (s.setB f b).panel = s.panel := rfl
@[simp] theorem setB_eyes (s : State) (f : Fd) (b : Bool) : (s.setB f b).eyes = s.eyes := rfl
@[simp] theorem setB_pers (s : State) (f : Fd) (b : Bool) : (s.setB f b).pers = s.pers := rfl
@[simp] theorem setB_dbg (s : State) (f : Fd) (b : Bool) : (s.setB f b).dbg = s.dbg := rfl

/-! State.setRegN -/
@[simp] theorem setRegN_mem (s : State) (k v : Nat) : (s.setRegN k v).mem = s.mem := rfl
@[simp] theorem setRegN_bus (s : State) (k v : Nat) : (s.setRegN k v).bus = s.bus := rfl
@[simp] theorem setRegN_pending (s : State) (k v : Nat) : (s.setRegN k v).pending = s.pending := rfl
@[simp] theorem setRegN_fresh (s : State) (k v : Nat) : (s.setRegN k v).fresh = s.fresh := rfl
@[simp] theorem setRegN_hub (s : State) (k v : Nat) : (s.setRegN k v).hub = s.hub := rfl
@[simp] theorem setRegN_icu (s : State) (k v : Nat) : (s.setRegN k v).icu = s.icu := rfl
@[simp] theorem setRegN_time (s : State) (k v : Nat) : (s.setRegN k v).time = s.time := rfl
@[simp] theorem setRegN_rst (s : State) (k v : Nat) : (s.setRegN k v).rst = s.rst := rfl
@[simp] theorem setRegN_pace (s : State) (k v : Nat) : (s.setRegN k v).pace = s.pace := rfl
@[simp] theorem setRegN_last (s : State) (k v : Nat) : (s.setRegN k v).last = s.last := rfl
@[simp] theorem setRegN_pict (s : State) (k v : Nat) : (s.setRegN k v).pict = s.pict := rfl
@[simp] theorem setRegN_fetch (s : State) (k v : Nat) : (s.setRegN k v).fetch = s.fetch := rfl
@[simp] theorem setRegN_lanes (s : State) (k v : Nat) : (s.setRegN k v).lanes = s.lanes := rfl
@[simp] theorem setRegN_welt (s : State) (k v : Nat) : (s.setRegN k v).welt = s.welt := rfl
@[simp] theorem setRegN_tongue (s : State) (k v : Nat) : (s.setRegN k v).tongue = s.tongue := rfl
@[simp] theorem setRegN_fuses (s : State) (k v : Nat) : (s.setRegN k v).fuses = s.fuses := rfl
@[simp] theorem setRegN_sec (s : State) (k v : Nat) : (s.setRegN k v).sec = s.sec := rfl
@[simp] theorem setRegN_cores (s : State) (k v : Nat) : (s.setRegN k v).cores = s.cores := rfl
@[simp] theorem setRegN_move (s : State) (k v : Nat) : (s.setRegN k v).move = s.move := rfl
@[simp] theorem setRegN_audio (s : State) (k v : Nat) : (s.setRegN k v).audio = s.audio := rfl
@[simp] theorem setRegN_panel (s : State) (k v : Nat) : (s.setRegN k v).panel = s.panel := rfl
@[simp] theorem setRegN_eyes (s : State) (k v : Nat) : (s.setRegN k v).eyes = s.eyes := rfl
@[simp] theorem setRegN_pers (s : State) (k v : Nat) : (s.setRegN k v).pers = s.pers := rfl
@[simp] theorem setRegN_dbg (s : State) (k v : Nat) : (s.setRegN k v).dbg = s.dbg := rfl

/-! State.modEp -/
@[simp] theorem modEp_regs (s : State) (f : EpS → EpS) : (s.modEp f).regs = s.regs := rfl
@[simp] theorem modEp_mem (s : State) (f : EpS → EpS) : (s.modEp f).mem = s.mem := rfl
@[simp] theorem modEp_bus (s : State) (f : EpS → EpS) : (s.modEp f).bus = s.bus := rfl
@[simp] theorem modEp_pending (s : State) (f : EpS → EpS) : (s.modEp f).pending = s.pending := rfl
@[simp] theorem modEp_fresh (s : State) (f : EpS → EpS) : (s.modEp f).fresh = s.fresh := rfl
@[simp] theorem modEp_hub (s : State) (f : EpS → EpS) : (s.modEp f).hub = s.hub := rfl
@[simp] theorem modEp_icu (s : State) (f : EpS → EpS) : (s.modEp f).icu = s.icu := rfl
@[simp] theorem modEp_time (s : State) (f : EpS → EpS) : (s.modEp f).time = s.time := rfl
@[simp] theorem modEp_rst (s : State) (f : EpS → EpS) : (s.modEp f).rst = s.rst := rfl
@[simp] theorem modEp_pace (s : State) (f : EpS → EpS) : (s.modEp f).pace = s.pace := rfl
@[simp] theorem modEp_last (s : State) (f : EpS → EpS) : (s.modEp f).last = s.last := rfl
@[simp] theorem modEp_pict (s : State) (f : EpS → EpS) : (s.modEp f).pict = s.pict := rfl
@[simp] theorem modEp_fetch (s : State) (f : EpS → EpS) : (s.modEp f).fetch = s.fetch := rfl
@[simp] theorem modEp_welt (s : State) (f : EpS → EpS) : (s.modEp f).welt = s.welt := rfl
@[simp] theorem modEp_tongue (s : State) (f : EpS → EpS) : (s.modEp f).tongue = s.tongue := rfl
@[simp] theorem modEp_fuses (s : State) (f : EpS → EpS) : (s.modEp f).fuses = s.fuses := rfl
@[simp] theorem modEp_sec (s : State) (f : EpS → EpS) : (s.modEp f).sec = s.sec := rfl
@[simp] theorem modEp_cores (s : State) (f : EpS → EpS) : (s.modEp f).cores = s.cores := rfl
@[simp] theorem modEp_move (s : State) (f : EpS → EpS) : (s.modEp f).move = s.move := rfl
@[simp] theorem modEp_audio (s : State) (f : EpS → EpS) : (s.modEp f).audio = s.audio := rfl
@[simp] theorem modEp_panel (s : State) (f : EpS → EpS) : (s.modEp f).panel = s.panel := rfl
@[simp] theorem modEp_eyes (s : State) (f : EpS → EpS) : (s.modEp f).eyes = s.eyes := rfl
@[simp] theorem modEp_pers (s : State) (f : EpS → EpS) : (s.modEp f).pers = s.pers := rfl
@[simp] theorem modEp_dbg (s : State) (f : EpS → EpS) : (s.modEp f).dbg = s.dbg := rfl

/-! State.msixPending -/
@[simp] theorem msixPending_regs (s : State) (v : Nat) : (s.msixPending v).regs = s.regs := rfl
@[simp] theorem msixPending_mem (s : State) (v : Nat) : (s.msixPending v).mem = s.mem := rfl
@[simp] theorem msixPending_bus (s : State) (v : Nat) : (s.msixPending v).bus = s.bus := rfl
@[simp] theorem msixPending_pending (s : State) (v : Nat) : (s.msixPending v).pending = s.pending := rfl
@[simp] theorem msixPending_fresh (s : State) (v : Nat) : (s.msixPending v).fresh = s.fresh := rfl
@[simp] theorem msixPending_hub (s : State) (v : Nat) : (s.msixPending v).hub = s.hub := rfl
@[simp] theorem msixPending_time (s : State) (v : Nat) : (s.msixPending v).time = s.time := rfl
@[simp] theorem msixPending_rst (s : State) (v : Nat) : (s.msixPending v).rst = s.rst := rfl
@[simp] theorem msixPending_pace (s : State) (v : Nat) : (s.msixPending v).pace = s.pace := rfl
@[simp] theorem msixPending_last (s : State) (v : Nat) : (s.msixPending v).last = s.last := rfl
@[simp] theorem msixPending_pict (s : State) (v : Nat) : (s.msixPending v).pict = s.pict := rfl
@[simp] theorem msixPending_fetch (s : State) (v : Nat) : (s.msixPending v).fetch = s.fetch := rfl
@[simp] theorem msixPending_lanes (s : State) (v : Nat) : (s.msixPending v).lanes = s.lanes := rfl
@[simp] theorem msixPending_welt (s : State) (v : Nat) : (s.msixPending v).welt = s.welt := rfl
@[simp] theorem msixPending_tongue (s : State) (v : Nat) : (s.msixPending v).tongue = s.tongue := rfl
@[simp] theorem msixPending_fuses (s : State) (v : Nat) : (s.msixPending v).fuses = s.fuses := rfl
@[simp] theorem msixPending_sec (s : State) (v : Nat) : (s.msixPending v).sec = s.sec := rfl
@[simp] theorem msixPending_cores (s : State) (v : Nat) : (s.msixPending v).cores = s.cores := rfl
@[simp] theorem msixPending_move (s : State) (v : Nat) : (s.msixPending v).move = s.move := rfl
@[simp] theorem msixPending_audio (s : State) (v : Nat) : (s.msixPending v).audio = s.audio := rfl
@[simp] theorem msixPending_panel (s : State) (v : Nat) : (s.msixPending v).panel = s.panel := rfl
@[simp] theorem msixPending_eyes (s : State) (v : Nat) : (s.msixPending v).eyes = s.eyes := rfl
@[simp] theorem msixPending_pers (s : State) (v : Nat) : (s.msixPending v).pers = s.pers := rfl
@[simp] theorem msixPending_dbg (s : State) (v : Nat) : (s.msixPending v).dbg = s.dbg := rfl

/-! State.joinPath -/
@[simp] theorem joinPath_regs (s : State) (u : VerUser) : (s.joinPath u).regs = s.regs := rfl
@[simp] theorem joinPath_mem (s : State) (u : VerUser) : (s.joinPath u).mem = s.mem := rfl
@[simp] theorem joinPath_bus (s : State) (u : VerUser) : (s.joinPath u).bus = s.bus := rfl
@[simp] theorem joinPath_pending (s : State) (u : VerUser) : (s.joinPath u).pending = s.pending := rfl
@[simp] theorem joinPath_fresh (s : State) (u : VerUser) : (s.joinPath u).fresh = s.fresh := rfl
@[simp] theorem joinPath_hub (s : State) (u : VerUser) : (s.joinPath u).hub = s.hub := rfl
@[simp] theorem joinPath_icu (s : State) (u : VerUser) : (s.joinPath u).icu = s.icu := rfl
@[simp] theorem joinPath_time (s : State) (u : VerUser) : (s.joinPath u).time = s.time := rfl
@[simp] theorem joinPath_rst (s : State) (u : VerUser) : (s.joinPath u).rst = s.rst := rfl
@[simp] theorem joinPath_pace (s : State) (u : VerUser) : (s.joinPath u).pace = s.pace := rfl
@[simp] theorem joinPath_last (s : State) (u : VerUser) : (s.joinPath u).last = s.last := rfl
@[simp] theorem joinPath_pict (s : State) (u : VerUser) : (s.joinPath u).pict = s.pict := rfl
@[simp] theorem joinPath_fetch (s : State) (u : VerUser) : (s.joinPath u).fetch = s.fetch := rfl
@[simp] theorem joinPath_lanes (s : State) (u : VerUser) : (s.joinPath u).lanes = s.lanes := rfl
@[simp] theorem joinPath_welt (s : State) (u : VerUser) : (s.joinPath u).welt = s.welt := rfl
@[simp] theorem joinPath_tongue (s : State) (u : VerUser) : (s.joinPath u).tongue = s.tongue := rfl
@[simp] theorem joinPath_fuses (s : State) (u : VerUser) : (s.joinPath u).fuses = s.fuses := rfl
@[simp] theorem joinPath_cores (s : State) (u : VerUser) : (s.joinPath u).cores = s.cores := rfl
@[simp] theorem joinPath_move (s : State) (u : VerUser) : (s.joinPath u).move = s.move := rfl
@[simp] theorem joinPath_audio (s : State) (u : VerUser) : (s.joinPath u).audio = s.audio := rfl
@[simp] theorem joinPath_panel (s : State) (u : VerUser) : (s.joinPath u).panel = s.panel := rfl
@[simp] theorem joinPath_eyes (s : State) (u : VerUser) : (s.joinPath u).eyes = s.eyes := rfl
@[simp] theorem joinPath_pers (s : State) (u : VerUser) : (s.joinPath u).pers = s.pers := rfl
@[simp] theorem joinPath_dbg (s : State) (u : VerUser) : (s.joinPath u).dbg = s.dbg := rfl

/-! State.soundMute -/
@[simp] theorem soundMute_regs (s : State) : (s.soundMute).regs = s.regs := rfl
@[simp] theorem soundMute_mem (s : State) : (s.soundMute).mem = s.mem := rfl
@[simp] theorem soundMute_bus (s : State) : (s.soundMute).bus = s.bus := rfl
@[simp] theorem soundMute_pending (s : State) : (s.soundMute).pending = s.pending := rfl
@[simp] theorem soundMute_fresh (s : State) : (s.soundMute).fresh = s.fresh := rfl
@[simp] theorem soundMute_hub (s : State) : (s.soundMute).hub = s.hub := rfl
@[simp] theorem soundMute_icu (s : State) : (s.soundMute).icu = s.icu := rfl
@[simp] theorem soundMute_time (s : State) : (s.soundMute).time = s.time := rfl
@[simp] theorem soundMute_rst (s : State) : (s.soundMute).rst = s.rst := rfl
@[simp] theorem soundMute_pace (s : State) : (s.soundMute).pace = s.pace := rfl
@[simp] theorem soundMute_last (s : State) : (s.soundMute).last = s.last := rfl
@[simp] theorem soundMute_pict (s : State) : (s.soundMute).pict = s.pict := rfl
@[simp] theorem soundMute_fetch (s : State) : (s.soundMute).fetch = s.fetch := rfl
@[simp] theorem soundMute_lanes (s : State) : (s.soundMute).lanes = s.lanes := rfl
@[simp] theorem soundMute_welt (s : State) : (s.soundMute).welt = s.welt := rfl
@[simp] theorem soundMute_tongue (s : State) : (s.soundMute).tongue = s.tongue := rfl
@[simp] theorem soundMute_fuses (s : State) : (s.soundMute).fuses = s.fuses := rfl
@[simp] theorem soundMute_sec (s : State) : (s.soundMute).sec = s.sec := rfl
@[simp] theorem soundMute_cores (s : State) : (s.soundMute).cores = s.cores := rfl
@[simp] theorem soundMute_move (s : State) : (s.soundMute).move = s.move := rfl
@[simp] theorem soundMute_panel (s : State) : (s.soundMute).panel = s.panel := rfl
@[simp] theorem soundMute_eyes (s : State) : (s.soundMute).eyes = s.eyes := rfl
@[simp] theorem soundMute_pers (s : State) : (s.soundMute).pers = s.pers := rfl
@[simp] theorem soundMute_dbg (s : State) : (s.soundMute).dbg = s.dbg := rfl

/-! State.cutChannels -/
@[simp] theorem cutChannels_regs (s : State) (cs : List Nat) : (s.cutChannels cs).regs = s.regs := rfl
@[simp] theorem cutChannels_mem (s : State) (cs : List Nat) : (s.cutChannels cs).mem = s.mem := rfl
@[simp] theorem cutChannels_bus (s : State) (cs : List Nat) : (s.cutChannels cs).bus = s.bus := rfl
@[simp] theorem cutChannels_pending (s : State) (cs : List Nat) : (s.cutChannels cs).pending = s.pending := rfl
@[simp] theorem cutChannels_fresh (s : State) (cs : List Nat) : (s.cutChannels cs).fresh = s.fresh := rfl
@[simp] theorem cutChannels_hub (s : State) (cs : List Nat) : (s.cutChannels cs).hub = s.hub := rfl
@[simp] theorem cutChannels_icu (s : State) (cs : List Nat) : (s.cutChannels cs).icu = s.icu := rfl
@[simp] theorem cutChannels_time (s : State) (cs : List Nat) : (s.cutChannels cs).time = s.time := rfl
@[simp] theorem cutChannels_rst (s : State) (cs : List Nat) : (s.cutChannels cs).rst = s.rst := rfl
@[simp] theorem cutChannels_pace (s : State) (cs : List Nat) : (s.cutChannels cs).pace = s.pace := rfl
@[simp] theorem cutChannels_last (s : State) (cs : List Nat) : (s.cutChannels cs).last = s.last := rfl
@[simp] theorem cutChannels_pict (s : State) (cs : List Nat) : (s.cutChannels cs).pict = s.pict := rfl
@[simp] theorem cutChannels_lanes (s : State) (cs : List Nat) : (s.cutChannels cs).lanes = s.lanes := rfl
@[simp] theorem cutChannels_welt (s : State) (cs : List Nat) : (s.cutChannels cs).welt = s.welt := rfl
@[simp] theorem cutChannels_tongue (s : State) (cs : List Nat) : (s.cutChannels cs).tongue = s.tongue := rfl
@[simp] theorem cutChannels_fuses (s : State) (cs : List Nat) : (s.cutChannels cs).fuses = s.fuses := rfl
@[simp] theorem cutChannels_sec (s : State) (cs : List Nat) : (s.cutChannels cs).sec = s.sec := rfl
@[simp] theorem cutChannels_cores (s : State) (cs : List Nat) : (s.cutChannels cs).cores = s.cores := rfl
@[simp] theorem cutChannels_move (s : State) (cs : List Nat) : (s.cutChannels cs).move = s.move := rfl
@[simp] theorem cutChannels_audio (s : State) (cs : List Nat) : (s.cutChannels cs).audio = s.audio := rfl
@[simp] theorem cutChannels_panel (s : State) (cs : List Nat) : (s.cutChannels cs).panel = s.panel := rfl
@[simp] theorem cutChannels_eyes (s : State) (cs : List Nat) : (s.cutChannels cs).eyes = s.eyes := rfl
@[simp] theorem cutChannels_pers (s : State) (cs : List Nat) : (s.cutChannels cs).pers = s.pers := rfl
@[simp] theorem cutChannels_dbg (s : State) (cs : List Nat) : (s.cutChannels cs).dbg = s.dbg := rfl

/-! State.modHead -/
@[simp] theorem modHead_regs (s : State) (h : Nat) (f : HeadS → HeadS) : (s.modHead h f).regs = s.regs := rfl
@[simp] theorem modHead_mem (s : State) (h : Nat) (f : HeadS → HeadS) : (s.modHead h f).mem = s.mem := rfl
@[simp] theorem modHead_bus (s : State) (h : Nat) (f : HeadS → HeadS) : (s.modHead h f).bus = s.bus := rfl
@[simp] theorem modHead_pending (s : State) (h : Nat) (f : HeadS → HeadS) : (s.modHead h f).pending = s.pending := rfl
@[simp] theorem modHead_fresh (s : State) (h : Nat) (f : HeadS → HeadS) : (s.modHead h f).fresh = s.fresh := rfl
@[simp] theorem modHead_hub (s : State) (h : Nat) (f : HeadS → HeadS) : (s.modHead h f).hub = s.hub := rfl
@[simp] theorem modHead_icu (s : State) (h : Nat) (f : HeadS → HeadS) : (s.modHead h f).icu = s.icu := rfl
@[simp] theorem modHead_time (s : State) (h : Nat) (f : HeadS → HeadS) : (s.modHead h f).time = s.time := rfl
@[simp] theorem modHead_rst (s : State) (h : Nat) (f : HeadS → HeadS) : (s.modHead h f).rst = s.rst := rfl
@[simp] theorem modHead_pace (s : State) (h : Nat) (f : HeadS → HeadS) : (s.modHead h f).pace = s.pace := rfl
@[simp] theorem modHead_last (s : State) (h : Nat) (f : HeadS → HeadS) : (s.modHead h f).last = s.last := rfl
@[simp] theorem modHead_fetch (s : State) (h : Nat) (f : HeadS → HeadS) : (s.modHead h f).fetch = s.fetch := rfl
@[simp] theorem modHead_lanes (s : State) (h : Nat) (f : HeadS → HeadS) : (s.modHead h f).lanes = s.lanes := rfl
@[simp] theorem modHead_welt (s : State) (h : Nat) (f : HeadS → HeadS) : (s.modHead h f).welt = s.welt := rfl
@[simp] theorem modHead_tongue (s : State) (h : Nat) (f : HeadS → HeadS) : (s.modHead h f).tongue = s.tongue := rfl
@[simp] theorem modHead_fuses (s : State) (h : Nat) (f : HeadS → HeadS) : (s.modHead h f).fuses = s.fuses := rfl
@[simp] theorem modHead_sec (s : State) (h : Nat) (f : HeadS → HeadS) : (s.modHead h f).sec = s.sec := rfl
@[simp] theorem modHead_cores (s : State) (h : Nat) (f : HeadS → HeadS) : (s.modHead h f).cores = s.cores := rfl
@[simp] theorem modHead_move (s : State) (h : Nat) (f : HeadS → HeadS) : (s.modHead h f).move = s.move := rfl
@[simp] theorem modHead_audio (s : State) (h : Nat) (f : HeadS → HeadS) : (s.modHead h f).audio = s.audio := rfl
@[simp] theorem modHead_panel (s : State) (h : Nat) (f : HeadS → HeadS) : (s.modHead h f).panel = s.panel := rfl
@[simp] theorem modHead_eyes (s : State) (h : Nat) (f : HeadS → HeadS) : (s.modHead h f).eyes = s.eyes := rfl
@[simp] theorem modHead_pers (s : State) (h : Nat) (f : HeadS → HeadS) : (s.modHead h f).pers = s.pers := rfl
@[simp] theorem modHead_dbg (s : State) (h : Nat) (f : HeadS → HeadS) : (s.modHead h f).dbg = s.dbg := rfl

/-! State.modSole -/
@[simp] theorem modSole_regs (s : State) (n : Nat) (f : SoleS → SoleS) : (s.modSole n f).regs = s.regs := rfl
@[simp] theorem modSole_mem (s : State) (n : Nat) (f : SoleS → SoleS) : (s.modSole n f).mem = s.mem := rfl
@[simp] theorem modSole_bus (s : State) (n : Nat) (f : SoleS → SoleS) : (s.modSole n f).bus = s.bus := rfl
@[simp] theorem modSole_pending (s : State) (n : Nat) (f : SoleS → SoleS) : (s.modSole n f).pending = s.pending := rfl
@[simp] theorem modSole_fresh (s : State) (n : Nat) (f : SoleS → SoleS) : (s.modSole n f).fresh = s.fresh := rfl
@[simp] theorem modSole_hub (s : State) (n : Nat) (f : SoleS → SoleS) : (s.modSole n f).hub = s.hub := rfl
@[simp] theorem modSole_icu (s : State) (n : Nat) (f : SoleS → SoleS) : (s.modSole n f).icu = s.icu := rfl
@[simp] theorem modSole_time (s : State) (n : Nat) (f : SoleS → SoleS) : (s.modSole n f).time = s.time := rfl
@[simp] theorem modSole_rst (s : State) (n : Nat) (f : SoleS → SoleS) : (s.modSole n f).rst = s.rst := rfl
@[simp] theorem modSole_pace (s : State) (n : Nat) (f : SoleS → SoleS) : (s.modSole n f).pace = s.pace := rfl
@[simp] theorem modSole_last (s : State) (n : Nat) (f : SoleS → SoleS) : (s.modSole n f).last = s.last := rfl
@[simp] theorem modSole_fetch (s : State) (n : Nat) (f : SoleS → SoleS) : (s.modSole n f).fetch = s.fetch := rfl
@[simp] theorem modSole_lanes (s : State) (n : Nat) (f : SoleS → SoleS) : (s.modSole n f).lanes = s.lanes := rfl
@[simp] theorem modSole_welt (s : State) (n : Nat) (f : SoleS → SoleS) : (s.modSole n f).welt = s.welt := rfl
@[simp] theorem modSole_tongue (s : State) (n : Nat) (f : SoleS → SoleS) : (s.modSole n f).tongue = s.tongue := rfl
@[simp] theorem modSole_fuses (s : State) (n : Nat) (f : SoleS → SoleS) : (s.modSole n f).fuses = s.fuses := rfl
@[simp] theorem modSole_sec (s : State) (n : Nat) (f : SoleS → SoleS) : (s.modSole n f).sec = s.sec := rfl
@[simp] theorem modSole_cores (s : State) (n : Nat) (f : SoleS → SoleS) : (s.modSole n f).cores = s.cores := rfl
@[simp] theorem modSole_move (s : State) (n : Nat) (f : SoleS → SoleS) : (s.modSole n f).move = s.move := rfl
@[simp] theorem modSole_audio (s : State) (n : Nat) (f : SoleS → SoleS) : (s.modSole n f).audio = s.audio := rfl
@[simp] theorem modSole_panel (s : State) (n : Nat) (f : SoleS → SoleS) : (s.modSole n f).panel = s.panel := rfl
@[simp] theorem modSole_eyes (s : State) (n : Nat) (f : SoleS → SoleS) : (s.modSole n f).eyes = s.eyes := rfl
@[simp] theorem modSole_pers (s : State) (n : Nat) (f : SoleS → SoleS) : (s.modSole n f).pers = s.pers := rfl
@[simp] theorem modSole_dbg (s : State) (n : Nat) (f : SoleS → SoleS) : (s.modSole n f).dbg = s.dbg := rfl

/-! State.modFe -/
@[simp] theorem modFe_regs (s : State) (n : Nat) (f : FeS → FeS) : (s.modFe n f).regs = s.regs := rfl
@[simp] theorem modFe_mem (s : State) (n : Nat) (f : FeS → FeS) : (s.modFe n f).mem = s.mem := rfl
@[simp] theorem modFe_bus (s : State) (n : Nat) (f : FeS → FeS) : (s.modFe n f).bus = s.bus := rfl
@[simp] theorem modFe_pending (s : State) (n : Nat) (f : FeS → FeS) : (s.modFe n f).pending = s.pending := rfl
@[simp] theorem modFe_fresh (s : State) (n : Nat) (f : FeS → FeS) : (s.modFe n f).fresh = s.fresh := rfl
@[simp] theorem modFe_hub (s : State) (n : Nat) (f : FeS → FeS) : (s.modFe n f).hub = s.hub := rfl
@[simp] theorem modFe_icu (s : State) (n : Nat) (f : FeS → FeS) : (s.modFe n f).icu = s.icu := rfl
@[simp] theorem modFe_time (s : State) (n : Nat) (f : FeS → FeS) : (s.modFe n f).time = s.time := rfl
@[simp] theorem modFe_rst (s : State) (n : Nat) (f : FeS → FeS) : (s.modFe n f).rst = s.rst := rfl
@[simp] theorem modFe_pace (s : State) (n : Nat) (f : FeS → FeS) : (s.modFe n f).pace = s.pace := rfl
@[simp] theorem modFe_last (s : State) (n : Nat) (f : FeS → FeS) : (s.modFe n f).last = s.last := rfl
@[simp] theorem modFe_pict (s : State) (n : Nat) (f : FeS → FeS) : (s.modFe n f).pict = s.pict := rfl
@[simp] theorem modFe_fetch (s : State) (n : Nat) (f : FeS → FeS) : (s.modFe n f).fetch = s.fetch := rfl
@[simp] theorem modFe_lanes (s : State) (n : Nat) (f : FeS → FeS) : (s.modFe n f).lanes = s.lanes := rfl
@[simp] theorem modFe_welt (s : State) (n : Nat) (f : FeS → FeS) : (s.modFe n f).welt = s.welt := rfl
@[simp] theorem modFe_tongue (s : State) (n : Nat) (f : FeS → FeS) : (s.modFe n f).tongue = s.tongue := rfl
@[simp] theorem modFe_fuses (s : State) (n : Nat) (f : FeS → FeS) : (s.modFe n f).fuses = s.fuses := rfl
@[simp] theorem modFe_sec (s : State) (n : Nat) (f : FeS → FeS) : (s.modFe n f).sec = s.sec := rfl
@[simp] theorem modFe_cores (s : State) (n : Nat) (f : FeS → FeS) : (s.modFe n f).cores = s.cores := rfl
@[simp] theorem modFe_move (s : State) (n : Nat) (f : FeS → FeS) : (s.modFe n f).move = s.move := rfl
@[simp] theorem modFe_audio (s : State) (n : Nat) (f : FeS → FeS) : (s.modFe n f).audio = s.audio := rfl
@[simp] theorem modFe_eyes (s : State) (n : Nat) (f : FeS → FeS) : (s.modFe n f).eyes = s.eyes := rfl
@[simp] theorem modFe_pers (s : State) (n : Nat) (f : FeS → FeS) : (s.modFe n f).pers = s.pers := rfl
@[simp] theorem modFe_dbg (s : State) (n : Nat) (f : FeS → FeS) : (s.modFe n f).dbg = s.dbg := rfl

/-! State.modHeater -/
@[simp] theorem modHeater_regs (s : State) (h : Nat) (f : HeaterS → HeaterS) : (s.modHeater h f).regs = s.regs := rfl
@[simp] theorem modHeater_mem (s : State) (h : Nat) (f : HeaterS → HeaterS) : (s.modHeater h f).mem = s.mem := rfl
@[simp] theorem modHeater_bus (s : State) (h : Nat) (f : HeaterS → HeaterS) : (s.modHeater h f).bus = s.bus := rfl
@[simp] theorem modHeater_pending (s : State) (h : Nat) (f : HeaterS → HeaterS) : (s.modHeater h f).pending = s.pending := rfl
@[simp] theorem modHeater_fresh (s : State) (h : Nat) (f : HeaterS → HeaterS) : (s.modHeater h f).fresh = s.fresh := rfl
@[simp] theorem modHeater_hub (s : State) (h : Nat) (f : HeaterS → HeaterS) : (s.modHeater h f).hub = s.hub := rfl
@[simp] theorem modHeater_icu (s : State) (h : Nat) (f : HeaterS → HeaterS) : (s.modHeater h f).icu = s.icu := rfl
@[simp] theorem modHeater_time (s : State) (h : Nat) (f : HeaterS → HeaterS) : (s.modHeater h f).time = s.time := rfl
@[simp] theorem modHeater_rst (s : State) (h : Nat) (f : HeaterS → HeaterS) : (s.modHeater h f).rst = s.rst := rfl
@[simp] theorem modHeater_pace (s : State) (h : Nat) (f : HeaterS → HeaterS) : (s.modHeater h f).pace = s.pace := rfl
@[simp] theorem modHeater_last (s : State) (h : Nat) (f : HeaterS → HeaterS) : (s.modHeater h f).last = s.last := rfl
@[simp] theorem modHeater_pict (s : State) (h : Nat) (f : HeaterS → HeaterS) : (s.modHeater h f).pict = s.pict := rfl
@[simp] theorem modHeater_fetch (s : State) (h : Nat) (f : HeaterS → HeaterS) : (s.modHeater h f).fetch = s.fetch := rfl
@[simp] theorem modHeater_lanes (s : State) (h : Nat) (f : HeaterS → HeaterS) : (s.modHeater h f).lanes = s.lanes := rfl
@[simp] theorem modHeater_welt (s : State) (h : Nat) (f : HeaterS → HeaterS) : (s.modHeater h f).welt = s.welt := rfl
@[simp] theorem modHeater_tongue (s : State) (h : Nat) (f : HeaterS → HeaterS) : (s.modHeater h f).tongue = s.tongue := rfl
@[simp] theorem modHeater_fuses (s : State) (h : Nat) (f : HeaterS → HeaterS) : (s.modHeater h f).fuses = s.fuses := rfl
@[simp] theorem modHeater_sec (s : State) (h : Nat) (f : HeaterS → HeaterS) : (s.modHeater h f).sec = s.sec := rfl
@[simp] theorem modHeater_cores (s : State) (h : Nat) (f : HeaterS → HeaterS) : (s.modHeater h f).cores = s.cores := rfl
@[simp] theorem modHeater_move (s : State) (h : Nat) (f : HeaterS → HeaterS) : (s.modHeater h f).move = s.move := rfl
@[simp] theorem modHeater_audio (s : State) (h : Nat) (f : HeaterS → HeaterS) : (s.modHeater h f).audio = s.audio := rfl
@[simp] theorem modHeater_eyes (s : State) (h : Nat) (f : HeaterS → HeaterS) : (s.modHeater h f).eyes = s.eyes := rfl
@[simp] theorem modHeater_pers (s : State) (h : Nat) (f : HeaterS → HeaterS) : (s.modHeater h f).pers = s.pers := rfl
@[simp] theorem modHeater_dbg (s : State) (h : Nat) (f : HeaterS → HeaterS) : (s.modHeater h f).dbg = s.dbg := rfl

/-! State.modBlock -/
@[simp] theorem modBlock_regs (s : State) (sl y b : Nat) (f : LayBlk → LayBlk) : (s.modBlock sl y b f).regs = s.regs := rfl
@[simp] theorem modBlock_mem (s : State) (sl y b : Nat) (f : LayBlk → LayBlk) : (s.modBlock sl y b f).mem = s.mem := rfl
@[simp] theorem modBlock_bus (s : State) (sl y b : Nat) (f : LayBlk → LayBlk) : (s.modBlock sl y b f).bus = s.bus := rfl
@[simp] theorem modBlock_pending (s : State) (sl y b : Nat) (f : LayBlk → LayBlk) : (s.modBlock sl y b f).pending = s.pending := rfl
@[simp] theorem modBlock_fresh (s : State) (sl y b : Nat) (f : LayBlk → LayBlk) : (s.modBlock sl y b f).fresh = s.fresh := rfl
@[simp] theorem modBlock_hub (s : State) (sl y b : Nat) (f : LayBlk → LayBlk) : (s.modBlock sl y b f).hub = s.hub := rfl
@[simp] theorem modBlock_icu (s : State) (sl y b : Nat) (f : LayBlk → LayBlk) : (s.modBlock sl y b f).icu = s.icu := rfl
@[simp] theorem modBlock_time (s : State) (sl y b : Nat) (f : LayBlk → LayBlk) : (s.modBlock sl y b f).time = s.time := rfl
@[simp] theorem modBlock_rst (s : State) (sl y b : Nat) (f : LayBlk → LayBlk) : (s.modBlock sl y b f).rst = s.rst := rfl
@[simp] theorem modBlock_pace (s : State) (sl y b : Nat) (f : LayBlk → LayBlk) : (s.modBlock sl y b f).pace = s.pace := rfl
@[simp] theorem modBlock_last (s : State) (sl y b : Nat) (f : LayBlk → LayBlk) : (s.modBlock sl y b f).last = s.last := rfl
@[simp] theorem modBlock_fetch (s : State) (sl y b : Nat) (f : LayBlk → LayBlk) : (s.modBlock sl y b f).fetch = s.fetch := rfl
@[simp] theorem modBlock_lanes (s : State) (sl y b : Nat) (f : LayBlk → LayBlk) : (s.modBlock sl y b f).lanes = s.lanes := rfl
@[simp] theorem modBlock_welt (s : State) (sl y b : Nat) (f : LayBlk → LayBlk) : (s.modBlock sl y b f).welt = s.welt := rfl
@[simp] theorem modBlock_tongue (s : State) (sl y b : Nat) (f : LayBlk → LayBlk) : (s.modBlock sl y b f).tongue = s.tongue := rfl
@[simp] theorem modBlock_fuses (s : State) (sl y b : Nat) (f : LayBlk → LayBlk) : (s.modBlock sl y b f).fuses = s.fuses := rfl
@[simp] theorem modBlock_sec (s : State) (sl y b : Nat) (f : LayBlk → LayBlk) : (s.modBlock sl y b f).sec = s.sec := rfl
@[simp] theorem modBlock_cores (s : State) (sl y b : Nat) (f : LayBlk → LayBlk) : (s.modBlock sl y b f).cores = s.cores := rfl
@[simp] theorem modBlock_move (s : State) (sl y b : Nat) (f : LayBlk → LayBlk) : (s.modBlock sl y b f).move = s.move := rfl
@[simp] theorem modBlock_audio (s : State) (sl y b : Nat) (f : LayBlk → LayBlk) : (s.modBlock sl y b f).audio = s.audio := rfl
@[simp] theorem modBlock_panel (s : State) (sl y b : Nat) (f : LayBlk → LayBlk) : (s.modBlock sl y b f).panel = s.panel := rfl
@[simp] theorem modBlock_eyes (s : State) (sl y b : Nat) (f : LayBlk → LayBlk) : (s.modBlock sl y b f).eyes = s.eyes := rfl
@[simp] theorem modBlock_pers (s : State) (sl y b : Nat) (f : LayBlk → LayBlk) : (s.modBlock sl y b f).pers = s.pers := rfl
@[simp] theorem modBlock_dbg (s : State) (sl y b : Nat) (f : LayBlk → LayBlk) : (s.modBlock sl y b f).dbg = s.dbg := rfl

/-! State.countStitch -/
@[simp] theorem countStitch_regs (s : State) (c : LineCtx) : (s.countStitch c).regs = s.regs := rfl
@[simp] theorem countStitch_mem (s : State) (c : LineCtx) : (s.countStitch c).mem = s.mem := rfl
@[simp] theorem countStitch_bus (s : State) (c : LineCtx) : (s.countStitch c).bus = s.bus := rfl
@[simp] theorem countStitch_pending (s : State) (c : LineCtx) : (s.countStitch c).pending = s.pending := rfl
@[simp] theorem countStitch_fresh (s : State) (c : LineCtx) : (s.countStitch c).fresh = s.fresh := rfl
@[simp] theorem countStitch_hub (s : State) (c : LineCtx) : (s.countStitch c).hub = s.hub := rfl
@[simp] theorem countStitch_icu (s : State) (c : LineCtx) : (s.countStitch c).icu = s.icu := rfl
@[simp] theorem countStitch_time (s : State) (c : LineCtx) : (s.countStitch c).time = s.time := rfl
@[simp] theorem countStitch_rst (s : State) (c : LineCtx) : (s.countStitch c).rst = s.rst := rfl
@[simp] theorem countStitch_pace (s : State) (c : LineCtx) : (s.countStitch c).pace = s.pace := rfl
@[simp] theorem countStitch_last (s : State) (c : LineCtx) : (s.countStitch c).last = s.last := rfl
@[simp] theorem countStitch_fetch (s : State) (c : LineCtx) : (s.countStitch c).fetch = s.fetch := rfl
@[simp] theorem countStitch_lanes (s : State) (c : LineCtx) : (s.countStitch c).lanes = s.lanes := rfl
@[simp] theorem countStitch_welt (s : State) (c : LineCtx) : (s.countStitch c).welt = s.welt := rfl
@[simp] theorem countStitch_tongue (s : State) (c : LineCtx) : (s.countStitch c).tongue = s.tongue := rfl
@[simp] theorem countStitch_fuses (s : State) (c : LineCtx) : (s.countStitch c).fuses = s.fuses := rfl
@[simp] theorem countStitch_sec (s : State) (c : LineCtx) : (s.countStitch c).sec = s.sec := rfl
@[simp] theorem countStitch_cores (s : State) (c : LineCtx) : (s.countStitch c).cores = s.cores := rfl
@[simp] theorem countStitch_move (s : State) (c : LineCtx) : (s.countStitch c).move = s.move := rfl
@[simp] theorem countStitch_audio (s : State) (c : LineCtx) : (s.countStitch c).audio = s.audio := rfl
@[simp] theorem countStitch_panel (s : State) (c : LineCtx) : (s.countStitch c).panel = s.panel := rfl
@[simp] theorem countStitch_eyes (s : State) (c : LineCtx) : (s.countStitch c).eyes = s.eyes := rfl
@[simp] theorem countStitch_pers (s : State) (c : LineCtx) : (s.countStitch c).pers = s.pers := rfl
@[simp] theorem countStitch_dbg (s : State) (c : LineCtx) : (s.countStitch c).dbg = s.dbg := rfl

/-! State.listNote -/
@[simp] theorem listNote_regs (s : State) (h y n : Nat) : (s.listNote h y n).regs = s.regs := rfl
@[simp] theorem listNote_mem (s : State) (h y n : Nat) : (s.listNote h y n).mem = s.mem := rfl
@[simp] theorem listNote_bus (s : State) (h y n : Nat) : (s.listNote h y n).bus = s.bus := rfl
@[simp] theorem listNote_pending (s : State) (h y n : Nat) : (s.listNote h y n).pending = s.pending := rfl
@[simp] theorem listNote_fresh (s : State) (h y n : Nat) : (s.listNote h y n).fresh = s.fresh := rfl
@[simp] theorem listNote_hub (s : State) (h y n : Nat) : (s.listNote h y n).hub = s.hub := rfl
@[simp] theorem listNote_icu (s : State) (h y n : Nat) : (s.listNote h y n).icu = s.icu := rfl
@[simp] theorem listNote_time (s : State) (h y n : Nat) : (s.listNote h y n).time = s.time := rfl
@[simp] theorem listNote_rst (s : State) (h y n : Nat) : (s.listNote h y n).rst = s.rst := rfl
@[simp] theorem listNote_pace (s : State) (h y n : Nat) : (s.listNote h y n).pace = s.pace := rfl
@[simp] theorem listNote_last (s : State) (h y n : Nat) : (s.listNote h y n).last = s.last := rfl
@[simp] theorem listNote_fetch (s : State) (h y n : Nat) : (s.listNote h y n).fetch = s.fetch := rfl
@[simp] theorem listNote_lanes (s : State) (h y n : Nat) : (s.listNote h y n).lanes = s.lanes := rfl
@[simp] theorem listNote_welt (s : State) (h y n : Nat) : (s.listNote h y n).welt = s.welt := rfl
@[simp] theorem listNote_tongue (s : State) (h y n : Nat) : (s.listNote h y n).tongue = s.tongue := rfl
@[simp] theorem listNote_fuses (s : State) (h y n : Nat) : (s.listNote h y n).fuses = s.fuses := rfl
@[simp] theorem listNote_sec (s : State) (h y n : Nat) : (s.listNote h y n).sec = s.sec := rfl
@[simp] theorem listNote_cores (s : State) (h y n : Nat) : (s.listNote h y n).cores = s.cores := rfl
@[simp] theorem listNote_move (s : State) (h y n : Nat) : (s.listNote h y n).move = s.move := rfl
@[simp] theorem listNote_audio (s : State) (h y n : Nat) : (s.listNote h y n).audio = s.audio := rfl
@[simp] theorem listNote_panel (s : State) (h y n : Nat) : (s.listNote h y n).panel = s.panel := rfl
@[simp] theorem listNote_eyes (s : State) (h y n : Nat) : (s.listNote h y n).eyes = s.eyes := rfl
@[simp] theorem listNote_pers (s : State) (h y n : Nat) : (s.listNote h y n).pers = s.pers := rfl
@[simp] theorem listNote_dbg (s : State) (h y n : Nat) : (s.listNote h y n).dbg = s.dbg := rfl

/-! State.snapMiss -/
@[simp] theorem snapMiss_regs (s : State) (h y : Nat) : (s.snapMiss h y).regs = s.regs := rfl
@[simp] theorem snapMiss_mem (s : State) (h y : Nat) : (s.snapMiss h y).mem = s.mem := rfl
@[simp] theorem snapMiss_bus (s : State) (h y : Nat) : (s.snapMiss h y).bus = s.bus := rfl
@[simp] theorem snapMiss_pending (s : State) (h y : Nat) : (s.snapMiss h y).pending = s.pending := rfl
@[simp] theorem snapMiss_fresh (s : State) (h y : Nat) : (s.snapMiss h y).fresh = s.fresh := rfl
@[simp] theorem snapMiss_hub (s : State) (h y : Nat) : (s.snapMiss h y).hub = s.hub := rfl
@[simp] theorem snapMiss_icu (s : State) (h y : Nat) : (s.snapMiss h y).icu = s.icu := rfl
@[simp] theorem snapMiss_time (s : State) (h y : Nat) : (s.snapMiss h y).time = s.time := rfl
@[simp] theorem snapMiss_rst (s : State) (h y : Nat) : (s.snapMiss h y).rst = s.rst := rfl
@[simp] theorem snapMiss_pace (s : State) (h y : Nat) : (s.snapMiss h y).pace = s.pace := rfl
@[simp] theorem snapMiss_last (s : State) (h y : Nat) : (s.snapMiss h y).last = s.last := rfl
@[simp] theorem snapMiss_fetch (s : State) (h y : Nat) : (s.snapMiss h y).fetch = s.fetch := rfl
@[simp] theorem snapMiss_lanes (s : State) (h y : Nat) : (s.snapMiss h y).lanes = s.lanes := rfl
@[simp] theorem snapMiss_welt (s : State) (h y : Nat) : (s.snapMiss h y).welt = s.welt := rfl
@[simp] theorem snapMiss_tongue (s : State) (h y : Nat) : (s.snapMiss h y).tongue = s.tongue := rfl
@[simp] theorem snapMiss_fuses (s : State) (h y : Nat) : (s.snapMiss h y).fuses = s.fuses := rfl
@[simp] theorem snapMiss_sec (s : State) (h y : Nat) : (s.snapMiss h y).sec = s.sec := rfl
@[simp] theorem snapMiss_cores (s : State) (h y : Nat) : (s.snapMiss h y).cores = s.cores := rfl
@[simp] theorem snapMiss_move (s : State) (h y : Nat) : (s.snapMiss h y).move = s.move := rfl
@[simp] theorem snapMiss_audio (s : State) (h y : Nat) : (s.snapMiss h y).audio = s.audio := rfl
@[simp] theorem snapMiss_panel (s : State) (h y : Nat) : (s.snapMiss h y).panel = s.panel := rfl
@[simp] theorem snapMiss_eyes (s : State) (h y : Nat) : (s.snapMiss h y).eyes = s.eyes := rfl
@[simp] theorem snapMiss_pers (s : State) (h y : Nat) : (s.snapMiss h y).pers = s.pers := rfl
@[simp] theorem snapMiss_dbg (s : State) (h y : Nat) : (s.snapMiss h y).dbg = s.dbg := rfl

/-! State.laceChain -/
@[simp] theorem laceChain_regs (s : State) (n a : Nat) : (s.laceChain n a).regs = s.regs := rfl
@[simp] theorem laceChain_mem (s : State) (n a : Nat) : (s.laceChain n a).mem = s.mem := rfl
@[simp] theorem laceChain_bus (s : State) (n a : Nat) : (s.laceChain n a).bus = s.bus := rfl
@[simp] theorem laceChain_pending (s : State) (n a : Nat) : (s.laceChain n a).pending = s.pending := rfl
@[simp] theorem laceChain_fresh (s : State) (n a : Nat) : (s.laceChain n a).fresh = s.fresh := rfl
@[simp] theorem laceChain_hub (s : State) (n a : Nat) : (s.laceChain n a).hub = s.hub := rfl
@[simp] theorem laceChain_icu (s : State) (n a : Nat) : (s.laceChain n a).icu = s.icu := rfl
@[simp] theorem laceChain_time (s : State) (n a : Nat) : (s.laceChain n a).time = s.time := rfl
@[simp] theorem laceChain_rst (s : State) (n a : Nat) : (s.laceChain n a).rst = s.rst := rfl
@[simp] theorem laceChain_pace (s : State) (n a : Nat) : (s.laceChain n a).pace = s.pace := rfl
@[simp] theorem laceChain_last (s : State) (n a : Nat) : (s.laceChain n a).last = s.last := rfl
@[simp] theorem laceChain_pict (s : State) (n a : Nat) : (s.laceChain n a).pict = s.pict := rfl
@[simp] theorem laceChain_fetch (s : State) (n a : Nat) : (s.laceChain n a).fetch = s.fetch := rfl
@[simp] theorem laceChain_lanes (s : State) (n a : Nat) : (s.laceChain n a).lanes = s.lanes := rfl
@[simp] theorem laceChain_welt (s : State) (n a : Nat) : (s.laceChain n a).welt = s.welt := rfl
@[simp] theorem laceChain_tongue (s : State) (n a : Nat) : (s.laceChain n a).tongue = s.tongue := rfl
@[simp] theorem laceChain_fuses (s : State) (n a : Nat) : (s.laceChain n a).fuses = s.fuses := rfl
@[simp] theorem laceChain_sec (s : State) (n a : Nat) : (s.laceChain n a).sec = s.sec := rfl
@[simp] theorem laceChain_cores (s : State) (n a : Nat) : (s.laceChain n a).cores = s.cores := rfl
@[simp] theorem laceChain_audio (s : State) (n a : Nat) : (s.laceChain n a).audio = s.audio := rfl
@[simp] theorem laceChain_panel (s : State) (n a : Nat) : (s.laceChain n a).panel = s.panel := rfl
@[simp] theorem laceChain_eyes (s : State) (n a : Nat) : (s.laceChain n a).eyes = s.eyes := rfl
@[simp] theorem laceChain_pers (s : State) (n a : Nat) : (s.laceChain n a).pers = s.pers := rfl
@[simp] theorem laceChain_dbg (s : State) (n a : Nat) : (s.laceChain n a).dbg = s.dbg := rfl

/-! State.skiverChain -/
@[simp] theorem skiverChain_regs (s : State) (a : Nat) : (s.skiverChain a).regs = s.regs := rfl
@[simp] theorem skiverChain_mem (s : State) (a : Nat) : (s.skiverChain a).mem = s.mem := rfl
@[simp] theorem skiverChain_bus (s : State) (a : Nat) : (s.skiverChain a).bus = s.bus := rfl
@[simp] theorem skiverChain_pending (s : State) (a : Nat) : (s.skiverChain a).pending = s.pending := rfl
@[simp] theorem skiverChain_fresh (s : State) (a : Nat) : (s.skiverChain a).fresh = s.fresh := rfl
@[simp] theorem skiverChain_hub (s : State) (a : Nat) : (s.skiverChain a).hub = s.hub := rfl
@[simp] theorem skiverChain_icu (s : State) (a : Nat) : (s.skiverChain a).icu = s.icu := rfl
@[simp] theorem skiverChain_time (s : State) (a : Nat) : (s.skiverChain a).time = s.time := rfl
@[simp] theorem skiverChain_rst (s : State) (a : Nat) : (s.skiverChain a).rst = s.rst := rfl
@[simp] theorem skiverChain_pace (s : State) (a : Nat) : (s.skiverChain a).pace = s.pace := rfl
@[simp] theorem skiverChain_last (s : State) (a : Nat) : (s.skiverChain a).last = s.last := rfl
@[simp] theorem skiverChain_pict (s : State) (a : Nat) : (s.skiverChain a).pict = s.pict := rfl
@[simp] theorem skiverChain_fetch (s : State) (a : Nat) : (s.skiverChain a).fetch = s.fetch := rfl
@[simp] theorem skiverChain_lanes (s : State) (a : Nat) : (s.skiverChain a).lanes = s.lanes := rfl
@[simp] theorem skiverChain_welt (s : State) (a : Nat) : (s.skiverChain a).welt = s.welt := rfl
@[simp] theorem skiverChain_tongue (s : State) (a : Nat) : (s.skiverChain a).tongue = s.tongue := rfl
@[simp] theorem skiverChain_fuses (s : State) (a : Nat) : (s.skiverChain a).fuses = s.fuses := rfl
@[simp] theorem skiverChain_sec (s : State) (a : Nat) : (s.skiverChain a).sec = s.sec := rfl
@[simp] theorem skiverChain_cores (s : State) (a : Nat) : (s.skiverChain a).cores = s.cores := rfl
@[simp] theorem skiverChain_audio (s : State) (a : Nat) : (s.skiverChain a).audio = s.audio := rfl
@[simp] theorem skiverChain_panel (s : State) (a : Nat) : (s.skiverChain a).panel = s.panel := rfl
@[simp] theorem skiverChain_eyes (s : State) (a : Nat) : (s.skiverChain a).eyes = s.eyes := rfl
@[simp] theorem skiverChain_pers (s : State) (a : Nat) : (s.skiverChain a).pers = s.pers := rfl
@[simp] theorem skiverChain_dbg (s : State) (a : Nat) : (s.skiverChain a).dbg = s.dbg := rfl

/-! State.plainWrite -/
@[simp] theorem plainWrite_mem (s : State) (k : Nat) (v : Nat) : (s.plainWrite k v).mem = s.mem := rfl
@[simp] theorem plainWrite_bus (s : State) (k : Nat) (v : Nat) : (s.plainWrite k v).bus = s.bus := rfl
@[simp] theorem plainWrite_pending (s : State) (k : Nat) (v : Nat) : (s.plainWrite k v).pending = s.pending := rfl
@[simp] theorem plainWrite_fresh (s : State) (k : Nat) (v : Nat) : (s.plainWrite k v).fresh = s.fresh := rfl
@[simp] theorem plainWrite_hub (s : State) (k : Nat) (v : Nat) : (s.plainWrite k v).hub = s.hub := rfl
@[simp] theorem plainWrite_icu (s : State) (k : Nat) (v : Nat) : (s.plainWrite k v).icu = s.icu := rfl
@[simp] theorem plainWrite_time (s : State) (k : Nat) (v : Nat) : (s.plainWrite k v).time = s.time := rfl
@[simp] theorem plainWrite_rst (s : State) (k : Nat) (v : Nat) : (s.plainWrite k v).rst = s.rst := rfl
@[simp] theorem plainWrite_pace (s : State) (k : Nat) (v : Nat) : (s.plainWrite k v).pace = s.pace := rfl
@[simp] theorem plainWrite_last (s : State) (k : Nat) (v : Nat) : (s.plainWrite k v).last = s.last := rfl
@[simp] theorem plainWrite_pict (s : State) (k : Nat) (v : Nat) : (s.plainWrite k v).pict = s.pict := rfl
@[simp] theorem plainWrite_fetch (s : State) (k : Nat) (v : Nat) : (s.plainWrite k v).fetch = s.fetch := rfl
@[simp] theorem plainWrite_lanes (s : State) (k : Nat) (v : Nat) : (s.plainWrite k v).lanes = s.lanes := rfl
@[simp] theorem plainWrite_welt (s : State) (k : Nat) (v : Nat) : (s.plainWrite k v).welt = s.welt := rfl
@[simp] theorem plainWrite_tongue (s : State) (k : Nat) (v : Nat) : (s.plainWrite k v).tongue = s.tongue := rfl
@[simp] theorem plainWrite_fuses (s : State) (k : Nat) (v : Nat) : (s.plainWrite k v).fuses = s.fuses := rfl
@[simp] theorem plainWrite_sec (s : State) (k : Nat) (v : Nat) : (s.plainWrite k v).sec = s.sec := rfl
@[simp] theorem plainWrite_cores (s : State) (k : Nat) (v : Nat) : (s.plainWrite k v).cores = s.cores := rfl
@[simp] theorem plainWrite_move (s : State) (k : Nat) (v : Nat) : (s.plainWrite k v).move = s.move := rfl
@[simp] theorem plainWrite_audio (s : State) (k : Nat) (v : Nat) : (s.plainWrite k v).audio = s.audio := rfl
@[simp] theorem plainWrite_panel (s : State) (k : Nat) (v : Nat) : (s.plainWrite k v).panel = s.panel := rfl
@[simp] theorem plainWrite_eyes (s : State) (k : Nat) (v : Nat) : (s.plainWrite k v).eyes = s.eyes := rfl
@[simp] theorem plainWrite_pers (s : State) (k : Nat) (v : Nat) : (s.plainWrite k v).pers = s.pers := rfl
@[simp] theorem plainWrite_dbg (s : State) (k : Nat) (v : Nat) : (s.plainWrite k v).dbg = s.dbg := rfl

/-! State.poolWait -/
@[simp] theorem poolWait_regs (s : State) (k : Nat) : (s.poolWait k).regs = s.regs := rfl
@[simp] theorem poolWait_mem (s : State) (k : Nat) : (s.poolWait k).mem = s.mem := rfl
@[simp] theorem poolWait_bus (s : State) (k : Nat) : (s.poolWait k).bus = s.bus := rfl
@[simp] theorem poolWait_pending (s : State) (k : Nat) : (s.poolWait k).pending = s.pending := rfl
@[simp] theorem poolWait_fresh (s : State) (k : Nat) : (s.poolWait k).fresh = s.fresh := rfl
@[simp] theorem poolWait_hub (s : State) (k : Nat) : (s.poolWait k).hub = s.hub := rfl
@[simp] theorem poolWait_icu (s : State) (k : Nat) : (s.poolWait k).icu = s.icu := rfl
@[simp] theorem poolWait_time (s : State) (k : Nat) : (s.poolWait k).time = s.time := rfl
@[simp] theorem poolWait_rst (s : State) (k : Nat) : (s.poolWait k).rst = s.rst := rfl
@[simp] theorem poolWait_pace (s : State) (k : Nat) : (s.poolWait k).pace = s.pace := rfl
@[simp] theorem poolWait_last (s : State) (k : Nat) : (s.poolWait k).last = s.last := rfl
@[simp] theorem poolWait_pict (s : State) (k : Nat) : (s.poolWait k).pict = s.pict := rfl
@[simp] theorem poolWait_lanes (s : State) (k : Nat) : (s.poolWait k).lanes = s.lanes := rfl
@[simp] theorem poolWait_welt (s : State) (k : Nat) : (s.poolWait k).welt = s.welt := rfl
@[simp] theorem poolWait_tongue (s : State) (k : Nat) : (s.poolWait k).tongue = s.tongue := rfl
@[simp] theorem poolWait_fuses (s : State) (k : Nat) : (s.poolWait k).fuses = s.fuses := rfl
@[simp] theorem poolWait_sec (s : State) (k : Nat) : (s.poolWait k).sec = s.sec := rfl
@[simp] theorem poolWait_cores (s : State) (k : Nat) : (s.poolWait k).cores = s.cores := rfl
@[simp] theorem poolWait_move (s : State) (k : Nat) : (s.poolWait k).move = s.move := rfl
@[simp] theorem poolWait_audio (s : State) (k : Nat) : (s.poolWait k).audio = s.audio := rfl
@[simp] theorem poolWait_panel (s : State) (k : Nat) : (s.poolWait k).panel = s.panel := rfl
@[simp] theorem poolWait_eyes (s : State) (k : Nat) : (s.poolWait k).eyes = s.eyes := rfl
@[simp] theorem poolWait_pers (s : State) (k : Nat) : (s.poolWait k).pers = s.pers := rfl
@[simp] theorem poolWait_dbg (s : State) (k : Nat) : (s.poolWait k).dbg = s.dbg := rfl

/-! State.supplyDown -/
@[simp] theorem supplyDown_regs (s : State) (mask : Nat) : (s.supplyDown mask).regs = s.regs := rfl
@[simp] theorem supplyDown_mem (s : State) (mask : Nat) : (s.supplyDown mask).mem = s.mem := rfl
@[simp] theorem supplyDown_bus (s : State) (mask : Nat) : (s.supplyDown mask).bus = s.bus := rfl
@[simp] theorem supplyDown_pending (s : State) (mask : Nat) : (s.supplyDown mask).pending = s.pending := rfl
@[simp] theorem supplyDown_fresh (s : State) (mask : Nat) : (s.supplyDown mask).fresh = s.fresh := rfl
@[simp] theorem supplyDown_hub (s : State) (mask : Nat) : (s.supplyDown mask).hub = s.hub := rfl
@[simp] theorem supplyDown_icu (s : State) (mask : Nat) : (s.supplyDown mask).icu = s.icu := rfl
@[simp] theorem supplyDown_time (s : State) (mask : Nat) : (s.supplyDown mask).time = s.time := rfl
@[simp] theorem supplyDown_pace (s : State) (mask : Nat) : (s.supplyDown mask).pace = s.pace := rfl
@[simp] theorem supplyDown_last (s : State) (mask : Nat) : (s.supplyDown mask).last = s.last := rfl
@[simp] theorem supplyDown_pict (s : State) (mask : Nat) : (s.supplyDown mask).pict = s.pict := rfl
@[simp] theorem supplyDown_fetch (s : State) (mask : Nat) : (s.supplyDown mask).fetch = s.fetch := rfl
@[simp] theorem supplyDown_lanes (s : State) (mask : Nat) : (s.supplyDown mask).lanes = s.lanes := rfl
@[simp] theorem supplyDown_welt (s : State) (mask : Nat) : (s.supplyDown mask).welt = s.welt := rfl
@[simp] theorem supplyDown_tongue (s : State) (mask : Nat) : (s.supplyDown mask).tongue = s.tongue := rfl
@[simp] theorem supplyDown_fuses (s : State) (mask : Nat) : (s.supplyDown mask).fuses = s.fuses := rfl
@[simp] theorem supplyDown_sec (s : State) (mask : Nat) : (s.supplyDown mask).sec = s.sec := rfl
@[simp] theorem supplyDown_cores (s : State) (mask : Nat) : (s.supplyDown mask).cores = s.cores := rfl
@[simp] theorem supplyDown_move (s : State) (mask : Nat) : (s.supplyDown mask).move = s.move := rfl
@[simp] theorem supplyDown_audio (s : State) (mask : Nat) : (s.supplyDown mask).audio = s.audio := rfl
@[simp] theorem supplyDown_panel (s : State) (mask : Nat) : (s.supplyDown mask).panel = s.panel := rfl
@[simp] theorem supplyDown_eyes (s : State) (mask : Nat) : (s.supplyDown mask).eyes = s.eyes := rfl
@[simp] theorem supplyDown_pers (s : State) (mask : Nat) : (s.supplyDown mask).pers = s.pers := rfl
@[simp] theorem supplyDown_dbg (s : State) (mask : Nat) : (s.supplyDown mask).dbg = s.dbg := rfl


/-! State.setRunning -/
@[simp] theorem setRunning_regs (s : State) (r : Option Running) : (s.setRunning r).regs = s.regs := rfl
@[simp] theorem setRunning_mem (s : State) (r : Option Running) : (s.setRunning r).mem = s.mem := rfl
@[simp] theorem setRunning_bus (s : State) (r : Option Running) : (s.setRunning r).bus = s.bus := rfl
@[simp] theorem setRunning_pending (s : State) (r : Option Running) : (s.setRunning r).pending = s.pending := rfl
@[simp] theorem setRunning_fresh (s : State) (r : Option Running) : (s.setRunning r).fresh = s.fresh := rfl
@[simp] theorem setRunning_hub (s : State) (r : Option Running) : (s.setRunning r).hub = s.hub := rfl
@[simp] theorem setRunning_icu (s : State) (r : Option Running) : (s.setRunning r).icu = s.icu := rfl
@[simp] theorem setRunning_time (s : State) (r : Option Running) : (s.setRunning r).time = s.time := rfl
@[simp] theorem setRunning_rst (s : State) (r : Option Running) : (s.setRunning r).rst = s.rst := rfl
@[simp] theorem setRunning_pace (s : State) (r : Option Running) : (s.setRunning r).pace = s.pace := rfl
@[simp] theorem setRunning_last (s : State) (r : Option Running) : (s.setRunning r).last = s.last := rfl
@[simp] theorem setRunning_pict (s : State) (r : Option Running) : (s.setRunning r).pict = s.pict := rfl
@[simp] theorem setRunning_fetch (s : State) (r : Option Running) : (s.setRunning r).fetch = s.fetch := rfl
@[simp] theorem setRunning_lanes (s : State) (r : Option Running) : (s.setRunning r).lanes = s.lanes := rfl
@[simp] theorem setRunning_welt (s : State) (r : Option Running) : (s.setRunning r).welt = s.welt := rfl
@[simp] theorem setRunning_fuses (s : State) (r : Option Running) : (s.setRunning r).fuses = s.fuses := rfl
@[simp] theorem setRunning_sec (s : State) (r : Option Running) : (s.setRunning r).sec = s.sec := rfl
@[simp] theorem setRunning_cores (s : State) (r : Option Running) : (s.setRunning r).cores = s.cores := rfl
@[simp] theorem setRunning_move (s : State) (r : Option Running) : (s.setRunning r).move = s.move := rfl
@[simp] theorem setRunning_audio (s : State) (r : Option Running) : (s.setRunning r).audio = s.audio := rfl
@[simp] theorem setRunning_panel (s : State) (r : Option Running) : (s.setRunning r).panel = s.panel := rfl
@[simp] theorem setRunning_eyes (s : State) (r : Option Running) : (s.setRunning r).eyes = s.eyes := rfl
@[simp] theorem setRunning_pers (s : State) (r : Option Running) : (s.setRunning r).pers = s.pers := rfl
@[simp] theorem setRunning_dbg (s : State) (r : Option Running) : (s.setRunning r).dbg = s.dbg := rfl

/-! State.commandTake -/
@[simp] theorem commandTake_regs (s : State) (ps : List InP) : (s.commandTake ps).regs = s.regs := rfl
@[simp] theorem commandTake_mem (s : State) (ps : List InP) : (s.commandTake ps).mem = s.mem := rfl
@[simp] theorem commandTake_bus (s : State) (ps : List InP) : (s.commandTake ps).bus = s.bus := rfl
@[simp] theorem commandTake_pending (s : State) (ps : List InP) : (s.commandTake ps).pending = s.pending := rfl
@[simp] theorem commandTake_fresh (s : State) (ps : List InP) : (s.commandTake ps).fresh = s.fresh := rfl
@[simp] theorem commandTake_hub (s : State) (ps : List InP) : (s.commandTake ps).hub = s.hub := rfl
@[simp] theorem commandTake_icu (s : State) (ps : List InP) : (s.commandTake ps).icu = s.icu := rfl
@[simp] theorem commandTake_time (s : State) (ps : List InP) : (s.commandTake ps).time = s.time := rfl
@[simp] theorem commandTake_rst (s : State) (ps : List InP) : (s.commandTake ps).rst = s.rst := rfl
@[simp] theorem commandTake_pace (s : State) (ps : List InP) : (s.commandTake ps).pace = s.pace := rfl
@[simp] theorem commandTake_last (s : State) (ps : List InP) : (s.commandTake ps).last = s.last := rfl
@[simp] theorem commandTake_pict (s : State) (ps : List InP) : (s.commandTake ps).pict = s.pict := rfl
@[simp] theorem commandTake_fetch (s : State) (ps : List InP) : (s.commandTake ps).fetch = s.fetch := rfl
@[simp] theorem commandTake_lanes (s : State) (ps : List InP) : (s.commandTake ps).lanes = s.lanes := rfl
@[simp] theorem commandTake_tongue (s : State) (ps : List InP) : (s.commandTake ps).tongue = s.tongue := rfl
@[simp] theorem commandTake_fuses (s : State) (ps : List InP) : (s.commandTake ps).fuses = s.fuses := rfl
@[simp] theorem commandTake_sec (s : State) (ps : List InP) : (s.commandTake ps).sec = s.sec := rfl
@[simp] theorem commandTake_cores (s : State) (ps : List InP) : (s.commandTake ps).cores = s.cores := rfl
@[simp] theorem commandTake_move (s : State) (ps : List InP) : (s.commandTake ps).move = s.move := rfl
@[simp] theorem commandTake_audio (s : State) (ps : List InP) : (s.commandTake ps).audio = s.audio := rfl
@[simp] theorem commandTake_panel (s : State) (ps : List InP) : (s.commandTake ps).panel = s.panel := rfl
@[simp] theorem commandTake_eyes (s : State) (ps : List InP) : (s.commandTake ps).eyes = s.eyes := rfl
@[simp] theorem commandTake_pers (s : State) (ps : List InP) : (s.commandTake ps).pers = s.pers := rfl
@[simp] theorem commandTake_dbg (s : State) (ps : List InP) : (s.commandTake ps).dbg = s.dbg := rfl

/-! State.weltQueue -/
@[simp] theorem weltQueue_regs (s : State) (p : Nat) (o : OutP) : (s.weltQueue p o).regs = s.regs := rfl
@[simp] theorem weltQueue_mem (s : State) (p : Nat) (o : OutP) : (s.weltQueue p o).mem = s.mem := rfl
@[simp] theorem weltQueue_bus (s : State) (p : Nat) (o : OutP) : (s.weltQueue p o).bus = s.bus := rfl
@[simp] theorem weltQueue_pending (s : State) (p : Nat) (o : OutP) : (s.weltQueue p o).pending = s.pending := rfl
@[simp] theorem weltQueue_fresh (s : State) (p : Nat) (o : OutP) : (s.weltQueue p o).fresh = s.fresh := rfl
@[simp] theorem weltQueue_hub (s : State) (p : Nat) (o : OutP) : (s.weltQueue p o).hub = s.hub := rfl
@[simp] theorem weltQueue_icu (s : State) (p : Nat) (o : OutP) : (s.weltQueue p o).icu = s.icu := rfl
@[simp] theorem weltQueue_time (s : State) (p : Nat) (o : OutP) : (s.weltQueue p o).time = s.time := rfl
@[simp] theorem weltQueue_rst (s : State) (p : Nat) (o : OutP) : (s.weltQueue p o).rst = s.rst := rfl
@[simp] theorem weltQueue_pace (s : State) (p : Nat) (o : OutP) : (s.weltQueue p o).pace = s.pace := rfl
@[simp] theorem weltQueue_last (s : State) (p : Nat) (o : OutP) : (s.weltQueue p o).last = s.last := rfl
@[simp] theorem weltQueue_pict (s : State) (p : Nat) (o : OutP) : (s.weltQueue p o).pict = s.pict := rfl
@[simp] theorem weltQueue_fetch (s : State) (p : Nat) (o : OutP) : (s.weltQueue p o).fetch = s.fetch := rfl
@[simp] theorem weltQueue_lanes (s : State) (p : Nat) (o : OutP) : (s.weltQueue p o).lanes = s.lanes := rfl
@[simp] theorem weltQueue_tongue (s : State) (p : Nat) (o : OutP) : (s.weltQueue p o).tongue = s.tongue := rfl
@[simp] theorem weltQueue_fuses (s : State) (p : Nat) (o : OutP) : (s.weltQueue p o).fuses = s.fuses := rfl
@[simp] theorem weltQueue_sec (s : State) (p : Nat) (o : OutP) : (s.weltQueue p o).sec = s.sec := rfl
@[simp] theorem weltQueue_cores (s : State) (p : Nat) (o : OutP) : (s.weltQueue p o).cores = s.cores := rfl
@[simp] theorem weltQueue_move (s : State) (p : Nat) (o : OutP) : (s.weltQueue p o).move = s.move := rfl
@[simp] theorem weltQueue_audio (s : State) (p : Nat) (o : OutP) : (s.weltQueue p o).audio = s.audio := rfl
@[simp] theorem weltQueue_panel (s : State) (p : Nat) (o : OutP) : (s.weltQueue p o).panel = s.panel := rfl
@[simp] theorem weltQueue_eyes (s : State) (p : Nat) (o : OutP) : (s.weltQueue p o).eyes = s.eyes := rfl
@[simp] theorem weltQueue_pers (s : State) (p : Nat) (o : OutP) : (s.weltQueue p o).pers = s.pers := rfl
@[simp] theorem weltQueue_dbg (s : State) (p : Nat) (o : OutP) : (s.weltQueue p o).dbg = s.dbg := rfl

/-! State.weltResend -/
@[simp] theorem weltResend_regs (s : State) (p t : Nat) (e : Nat × Nat × WeltPkt) (rest : List (Nat × Nat × WeltPkt)) : (s.weltResend p t e rest).regs = s.regs := rfl
@[simp] theorem weltResend_mem (s : State) (p t : Nat) (e : Nat × Nat × WeltPkt) (rest : List (Nat × Nat × WeltPkt)) : (s.weltResend p t e rest).mem = s.mem := rfl
@[simp] theorem weltResend_bus (s : State) (p t : Nat) (e : Nat × Nat × WeltPkt) (rest : List (Nat × Nat × WeltPkt)) : (s.weltResend p t e rest).bus = s.bus := rfl
@[simp] theorem weltResend_pending (s : State) (p t : Nat) (e : Nat × Nat × WeltPkt) (rest : List (Nat × Nat × WeltPkt)) : (s.weltResend p t e rest).pending = s.pending := rfl
@[simp] theorem weltResend_fresh (s : State) (p t : Nat) (e : Nat × Nat × WeltPkt) (rest : List (Nat × Nat × WeltPkt)) : (s.weltResend p t e rest).fresh = s.fresh := rfl
@[simp] theorem weltResend_hub (s : State) (p t : Nat) (e : Nat × Nat × WeltPkt) (rest : List (Nat × Nat × WeltPkt)) : (s.weltResend p t e rest).hub = s.hub := rfl
@[simp] theorem weltResend_icu (s : State) (p t : Nat) (e : Nat × Nat × WeltPkt) (rest : List (Nat × Nat × WeltPkt)) : (s.weltResend p t e rest).icu = s.icu := rfl
@[simp] theorem weltResend_time (s : State) (p t : Nat) (e : Nat × Nat × WeltPkt) (rest : List (Nat × Nat × WeltPkt)) : (s.weltResend p t e rest).time = s.time := rfl
@[simp] theorem weltResend_rst (s : State) (p t : Nat) (e : Nat × Nat × WeltPkt) (rest : List (Nat × Nat × WeltPkt)) : (s.weltResend p t e rest).rst = s.rst := rfl
@[simp] theorem weltResend_pace (s : State) (p t : Nat) (e : Nat × Nat × WeltPkt) (rest : List (Nat × Nat × WeltPkt)) : (s.weltResend p t e rest).pace = s.pace := rfl
@[simp] theorem weltResend_last (s : State) (p t : Nat) (e : Nat × Nat × WeltPkt) (rest : List (Nat × Nat × WeltPkt)) : (s.weltResend p t e rest).last = s.last := rfl
@[simp] theorem weltResend_pict (s : State) (p t : Nat) (e : Nat × Nat × WeltPkt) (rest : List (Nat × Nat × WeltPkt)) : (s.weltResend p t e rest).pict = s.pict := rfl
@[simp] theorem weltResend_fetch (s : State) (p t : Nat) (e : Nat × Nat × WeltPkt) (rest : List (Nat × Nat × WeltPkt)) : (s.weltResend p t e rest).fetch = s.fetch := rfl
@[simp] theorem weltResend_lanes (s : State) (p t : Nat) (e : Nat × Nat × WeltPkt) (rest : List (Nat × Nat × WeltPkt)) : (s.weltResend p t e rest).lanes = s.lanes := rfl
@[simp] theorem weltResend_tongue (s : State) (p t : Nat) (e : Nat × Nat × WeltPkt) (rest : List (Nat × Nat × WeltPkt)) : (s.weltResend p t e rest).tongue = s.tongue := rfl
@[simp] theorem weltResend_fuses (s : State) (p t : Nat) (e : Nat × Nat × WeltPkt) (rest : List (Nat × Nat × WeltPkt)) : (s.weltResend p t e rest).fuses = s.fuses := rfl
@[simp] theorem weltResend_sec (s : State) (p t : Nat) (e : Nat × Nat × WeltPkt) (rest : List (Nat × Nat × WeltPkt)) : (s.weltResend p t e rest).sec = s.sec := rfl
@[simp] theorem weltResend_cores (s : State) (p t : Nat) (e : Nat × Nat × WeltPkt) (rest : List (Nat × Nat × WeltPkt)) : (s.weltResend p t e rest).cores = s.cores := rfl
@[simp] theorem weltResend_move (s : State) (p t : Nat) (e : Nat × Nat × WeltPkt) (rest : List (Nat × Nat × WeltPkt)) : (s.weltResend p t e rest).move = s.move := rfl
@[simp] theorem weltResend_audio (s : State) (p t : Nat) (e : Nat × Nat × WeltPkt) (rest : List (Nat × Nat × WeltPkt)) : (s.weltResend p t e rest).audio = s.audio := rfl
@[simp] theorem weltResend_panel (s : State) (p t : Nat) (e : Nat × Nat × WeltPkt) (rest : List (Nat × Nat × WeltPkt)) : (s.weltResend p t e rest).panel = s.panel := rfl
@[simp] theorem weltResend_eyes (s : State) (p t : Nat) (e : Nat × Nat × WeltPkt) (rest : List (Nat × Nat × WeltPkt)) : (s.weltResend p t e rest).eyes = s.eyes := rfl
@[simp] theorem weltResend_pers (s : State) (p t : Nat) (e : Nat × Nat × WeltPkt) (rest : List (Nat × Nat × WeltPkt)) : (s.weltResend p t e rest).pers = s.pers := rfl
@[simp] theorem weltResend_dbg (s : State) (p t : Nat) (e : Nat × Nat × WeltPkt) (rest : List (Nat × Nat × WeltPkt)) : (s.weltResend p t e rest).dbg = s.dbg := rfl

/-! State.dropReq -/
@[simp] theorem dropReq_regs (s : State) (tag : Nat) : (s.dropReq tag).regs = s.regs := rfl
@[simp] theorem dropReq_mem (s : State) (tag : Nat) : (s.dropReq tag).mem = s.mem := rfl
@[simp] theorem dropReq_bus (s : State) (tag : Nat) : (s.dropReq tag).bus = s.bus := rfl
@[simp] theorem dropReq_pending (s : State) (tag : Nat) : (s.dropReq tag).pending = s.pending := rfl
@[simp] theorem dropReq_fresh (s : State) (tag : Nat) : (s.dropReq tag).fresh = s.fresh := rfl
@[simp] theorem dropReq_hub (s : State) (tag : Nat) : (s.dropReq tag).hub = s.hub := rfl
@[simp] theorem dropReq_icu (s : State) (tag : Nat) : (s.dropReq tag).icu = s.icu := rfl
@[simp] theorem dropReq_time (s : State) (tag : Nat) : (s.dropReq tag).time = s.time := rfl
@[simp] theorem dropReq_rst (s : State) (tag : Nat) : (s.dropReq tag).rst = s.rst := rfl
@[simp] theorem dropReq_pace (s : State) (tag : Nat) : (s.dropReq tag).pace = s.pace := rfl
@[simp] theorem dropReq_last (s : State) (tag : Nat) : (s.dropReq tag).last = s.last := rfl
@[simp] theorem dropReq_pict (s : State) (tag : Nat) : (s.dropReq tag).pict = s.pict := rfl
@[simp] theorem dropReq_fetch (s : State) (tag : Nat) : (s.dropReq tag).fetch = s.fetch := rfl
@[simp] theorem dropReq_lanes (s : State) (tag : Nat) : (s.dropReq tag).lanes = s.lanes := rfl
@[simp] theorem dropReq_tongue (s : State) (tag : Nat) : (s.dropReq tag).tongue = s.tongue := rfl
@[simp] theorem dropReq_fuses (s : State) (tag : Nat) : (s.dropReq tag).fuses = s.fuses := rfl
@[simp] theorem dropReq_sec (s : State) (tag : Nat) : (s.dropReq tag).sec = s.sec := rfl
@[simp] theorem dropReq_cores (s : State) (tag : Nat) : (s.dropReq tag).cores = s.cores := rfl
@[simp] theorem dropReq_move (s : State) (tag : Nat) : (s.dropReq tag).move = s.move := rfl
@[simp] theorem dropReq_audio (s : State) (tag : Nat) : (s.dropReq tag).audio = s.audio := rfl
@[simp] theorem dropReq_panel (s : State) (tag : Nat) : (s.dropReq tag).panel = s.panel := rfl
@[simp] theorem dropReq_eyes (s : State) (tag : Nat) : (s.dropReq tag).eyes = s.eyes := rfl
@[simp] theorem dropReq_pers (s : State) (tag : Nat) : (s.dropReq tag).pers = s.pers := rfl
@[simp] theorem dropReq_dbg (s : State) (tag : Nat) : (s.dropReq tag).dbg = s.dbg := rfl

/-! State.dropBus -/
@[simp] theorem dropBus_regs (s : State) (q : Nat) : (s.dropBus q).regs = s.regs := rfl
@[simp] theorem dropBus_mem (s : State) (q : Nat) : (s.dropBus q).mem = s.mem := rfl
@[simp] theorem dropBus_bus (s : State) (q : Nat) : (s.dropBus q).bus = s.bus := rfl
@[simp] theorem dropBus_pending (s : State) (q : Nat) : (s.dropBus q).pending = s.pending := rfl
@[simp] theorem dropBus_fresh (s : State) (q : Nat) : (s.dropBus q).fresh = s.fresh := rfl
@[simp] theorem dropBus_hub (s : State) (q : Nat) : (s.dropBus q).hub = s.hub := rfl
@[simp] theorem dropBus_icu (s : State) (q : Nat) : (s.dropBus q).icu = s.icu := rfl
@[simp] theorem dropBus_time (s : State) (q : Nat) : (s.dropBus q).time = s.time := rfl
@[simp] theorem dropBus_rst (s : State) (q : Nat) : (s.dropBus q).rst = s.rst := rfl
@[simp] theorem dropBus_pace (s : State) (q : Nat) : (s.dropBus q).pace = s.pace := rfl
@[simp] theorem dropBus_last (s : State) (q : Nat) : (s.dropBus q).last = s.last := rfl
@[simp] theorem dropBus_pict (s : State) (q : Nat) : (s.dropBus q).pict = s.pict := rfl
@[simp] theorem dropBus_fetch (s : State) (q : Nat) : (s.dropBus q).fetch = s.fetch := rfl
@[simp] theorem dropBus_lanes (s : State) (q : Nat) : (s.dropBus q).lanes = s.lanes := rfl
@[simp] theorem dropBus_tongue (s : State) (q : Nat) : (s.dropBus q).tongue = s.tongue := rfl
@[simp] theorem dropBus_fuses (s : State) (q : Nat) : (s.dropBus q).fuses = s.fuses := rfl
@[simp] theorem dropBus_sec (s : State) (q : Nat) : (s.dropBus q).sec = s.sec := rfl
@[simp] theorem dropBus_cores (s : State) (q : Nat) : (s.dropBus q).cores = s.cores := rfl
@[simp] theorem dropBus_move (s : State) (q : Nat) : (s.dropBus q).move = s.move := rfl
@[simp] theorem dropBus_audio (s : State) (q : Nat) : (s.dropBus q).audio = s.audio := rfl
@[simp] theorem dropBus_panel (s : State) (q : Nat) : (s.dropBus q).panel = s.panel := rfl
@[simp] theorem dropBus_eyes (s : State) (q : Nat) : (s.dropBus q).eyes = s.eyes := rfl
@[simp] theorem dropBus_pers (s : State) (q : Nat) : (s.dropBus q).pers = s.pers := rfl
@[simp] theorem dropBus_dbg (s : State) (q : Nat) : (s.dropBus q).dbg = s.dbg := rfl

/-! State.fcMessage -/
@[simp] theorem fcMessage_regs (s : State) (c : Nat) (first last : Bool) : (s.fcMessage c first last).regs = s.regs := rfl
@[simp] theorem fcMessage_mem (s : State) (c : Nat) (first last : Bool) : (s.fcMessage c first last).mem = s.mem := rfl
@[simp] theorem fcMessage_bus (s : State) (c : Nat) (first last : Bool) : (s.fcMessage c first last).bus = s.bus := rfl
@[simp] theorem fcMessage_pending (s : State) (c : Nat) (first last : Bool) : (s.fcMessage c first last).pending = s.pending := rfl
@[simp] theorem fcMessage_fresh (s : State) (c : Nat) (first last : Bool) : (s.fcMessage c first last).fresh = s.fresh := rfl
@[simp] theorem fcMessage_hub (s : State) (c : Nat) (first last : Bool) : (s.fcMessage c first last).hub = s.hub := rfl
@[simp] theorem fcMessage_icu (s : State) (c : Nat) (first last : Bool) : (s.fcMessage c first last).icu = s.icu := rfl
@[simp] theorem fcMessage_time (s : State) (c : Nat) (first last : Bool) : (s.fcMessage c first last).time = s.time := rfl
@[simp] theorem fcMessage_rst (s : State) (c : Nat) (first last : Bool) : (s.fcMessage c first last).rst = s.rst := rfl
@[simp] theorem fcMessage_pace (s : State) (c : Nat) (first last : Bool) : (s.fcMessage c first last).pace = s.pace := rfl
@[simp] theorem fcMessage_last (s : State) (c : Nat) (first last : Bool) : (s.fcMessage c first last).last = s.last := rfl
@[simp] theorem fcMessage_pict (s : State) (c : Nat) (first last : Bool) : (s.fcMessage c first last).pict = s.pict := rfl
@[simp] theorem fcMessage_fetch (s : State) (c : Nat) (first last : Bool) : (s.fcMessage c first last).fetch = s.fetch := rfl
@[simp] theorem fcMessage_lanes (s : State) (c : Nat) (first last : Bool) : (s.fcMessage c first last).lanes = s.lanes := rfl
@[simp] theorem fcMessage_tongue (s : State) (c : Nat) (first last : Bool) : (s.fcMessage c first last).tongue = s.tongue := rfl
@[simp] theorem fcMessage_fuses (s : State) (c : Nat) (first last : Bool) : (s.fcMessage c first last).fuses = s.fuses := rfl
@[simp] theorem fcMessage_sec (s : State) (c : Nat) (first last : Bool) : (s.fcMessage c first last).sec = s.sec := rfl
@[simp] theorem fcMessage_cores (s : State) (c : Nat) (first last : Bool) : (s.fcMessage c first last).cores = s.cores := rfl
@[simp] theorem fcMessage_move (s : State) (c : Nat) (first last : Bool) : (s.fcMessage c first last).move = s.move := rfl
@[simp] theorem fcMessage_audio (s : State) (c : Nat) (first last : Bool) : (s.fcMessage c first last).audio = s.audio := rfl
@[simp] theorem fcMessage_panel (s : State) (c : Nat) (first last : Bool) : (s.fcMessage c first last).panel = s.panel := rfl
@[simp] theorem fcMessage_eyes (s : State) (c : Nat) (first last : Bool) : (s.fcMessage c first last).eyes = s.eyes := rfl
@[simp] theorem fcMessage_pers (s : State) (c : Nat) (first last : Bool) : (s.fcMessage c first last).pers = s.pers := rfl
@[simp] theorem fcMessage_dbg (s : State) (c : Nat) (first last : Bool) : (s.fcMessage c first last).dbg = s.dbg := rfl

/-! State.ringTake -/
@[simp] theorem ringTake_mem (s : State) (c n : Nat) : (s.ringTake c n).mem = s.mem := rfl
@[simp] theorem ringTake_bus (s : State) (c n : Nat) : (s.ringTake c n).bus = s.bus := rfl
@[simp] theorem ringTake_pending (s : State) (c n : Nat) : (s.ringTake c n).pending = s.pending := rfl
@[simp] theorem ringTake_fresh (s : State) (c n : Nat) : (s.ringTake c n).fresh = s.fresh := rfl
@[simp] theorem ringTake_hub (s : State) (c n : Nat) : (s.ringTake c n).hub = s.hub := rfl
@[simp] theorem ringTake_icu (s : State) (c n : Nat) : (s.ringTake c n).icu = s.icu := rfl
@[simp] theorem ringTake_time (s : State) (c n : Nat) : (s.ringTake c n).time = s.time := rfl
@[simp] theorem ringTake_rst (s : State) (c n : Nat) : (s.ringTake c n).rst = s.rst := rfl
@[simp] theorem ringTake_pace (s : State) (c n : Nat) : (s.ringTake c n).pace = s.pace := rfl
@[simp] theorem ringTake_last (s : State) (c n : Nat) : (s.ringTake c n).last = s.last := rfl
@[simp] theorem ringTake_pict (s : State) (c n : Nat) : (s.ringTake c n).pict = s.pict := rfl
@[simp] theorem ringTake_fetch (s : State) (c n : Nat) : (s.ringTake c n).fetch = s.fetch := rfl
@[simp] theorem ringTake_lanes (s : State) (c n : Nat) : (s.ringTake c n).lanes = s.lanes := rfl
@[simp] theorem ringTake_welt (s : State) (c n : Nat) : (s.ringTake c n).welt = s.welt := rfl
@[simp] theorem ringTake_tongue (s : State) (c n : Nat) : (s.ringTake c n).tongue = s.tongue := rfl
@[simp] theorem ringTake_fuses (s : State) (c n : Nat) : (s.ringTake c n).fuses = s.fuses := rfl
@[simp] theorem ringTake_sec (s : State) (c n : Nat) : (s.ringTake c n).sec = s.sec := rfl
@[simp] theorem ringTake_cores (s : State) (c n : Nat) : (s.ringTake c n).cores = s.cores := rfl
@[simp] theorem ringTake_move (s : State) (c n : Nat) : (s.ringTake c n).move = s.move := rfl
@[simp] theorem ringTake_audio (s : State) (c n : Nat) : (s.ringTake c n).audio = s.audio := rfl
@[simp] theorem ringTake_panel (s : State) (c n : Nat) : (s.ringTake c n).panel = s.panel := rfl
@[simp] theorem ringTake_eyes (s : State) (c n : Nat) : (s.ringTake c n).eyes = s.eyes := rfl
@[simp] theorem ringTake_pers (s : State) (c n : Nat) : (s.ringTake c n).pers = s.pers := rfl
@[simp] theorem ringTake_dbg (s : State) (c n : Nat) : (s.ringTake c n).dbg = s.dbg := rfl

/-! State.epUnsupported -/
@[simp] theorem epUnsupported_regs (s : State) : (s.epUnsupported).regs = s.regs := rfl
@[simp] theorem epUnsupported_mem (s : State) : (s.epUnsupported).mem = s.mem := rfl
@[simp] theorem epUnsupported_bus (s : State) : (s.epUnsupported).bus = s.bus := rfl
@[simp] theorem epUnsupported_pending (s : State) : (s.epUnsupported).pending = s.pending := rfl
@[simp] theorem epUnsupported_fresh (s : State) : (s.epUnsupported).fresh = s.fresh := rfl
@[simp] theorem epUnsupported_hub (s : State) : (s.epUnsupported).hub = s.hub := rfl
@[simp] theorem epUnsupported_icu (s : State) : (s.epUnsupported).icu = s.icu := rfl
@[simp] theorem epUnsupported_time (s : State) : (s.epUnsupported).time = s.time := rfl
@[simp] theorem epUnsupported_rst (s : State) : (s.epUnsupported).rst = s.rst := rfl
@[simp] theorem epUnsupported_pace (s : State) : (s.epUnsupported).pace = s.pace := rfl
@[simp] theorem epUnsupported_last (s : State) : (s.epUnsupported).last = s.last := rfl
@[simp] theorem epUnsupported_pict (s : State) : (s.epUnsupported).pict = s.pict := rfl
@[simp] theorem epUnsupported_fetch (s : State) : (s.epUnsupported).fetch = s.fetch := rfl
@[simp] theorem epUnsupported_welt (s : State) : (s.epUnsupported).welt = s.welt := rfl
@[simp] theorem epUnsupported_tongue (s : State) : (s.epUnsupported).tongue = s.tongue := rfl
@[simp] theorem epUnsupported_fuses (s : State) : (s.epUnsupported).fuses = s.fuses := rfl
@[simp] theorem epUnsupported_sec (s : State) : (s.epUnsupported).sec = s.sec := rfl
@[simp] theorem epUnsupported_cores (s : State) : (s.epUnsupported).cores = s.cores := rfl
@[simp] theorem epUnsupported_move (s : State) : (s.epUnsupported).move = s.move := rfl
@[simp] theorem epUnsupported_audio (s : State) : (s.epUnsupported).audio = s.audio := rfl
@[simp] theorem epUnsupported_panel (s : State) : (s.epUnsupported).panel = s.panel := rfl
@[simp] theorem epUnsupported_eyes (s : State) : (s.epUnsupported).eyes = s.eyes := rfl
@[simp] theorem epUnsupported_pers (s : State) : (s.epUnsupported).pers = s.pers := rfl
@[simp] theorem epUnsupported_dbg (s : State) : (s.epUnsupported).dbg = s.dbg := rfl

/-! State.portsSend -/
@[simp] theorem portsSend_regs (s : State) (d : Nat) : (s.portsSend d).regs = s.regs := rfl
@[simp] theorem portsSend_mem (s : State) (d : Nat) : (s.portsSend d).mem = s.mem := rfl
@[simp] theorem portsSend_bus (s : State) (d : Nat) : (s.portsSend d).bus = s.bus := rfl
@[simp] theorem portsSend_pending (s : State) (d : Nat) : (s.portsSend d).pending = s.pending := rfl
@[simp] theorem portsSend_fresh (s : State) (d : Nat) : (s.portsSend d).fresh = s.fresh := rfl
@[simp] theorem portsSend_hub (s : State) (d : Nat) : (s.portsSend d).hub = s.hub := rfl
@[simp] theorem portsSend_icu (s : State) (d : Nat) : (s.portsSend d).icu = s.icu := rfl
@[simp] theorem portsSend_time (s : State) (d : Nat) : (s.portsSend d).time = s.time := rfl
@[simp] theorem portsSend_rst (s : State) (d : Nat) : (s.portsSend d).rst = s.rst := rfl
@[simp] theorem portsSend_pace (s : State) (d : Nat) : (s.portsSend d).pace = s.pace := rfl
@[simp] theorem portsSend_last (s : State) (d : Nat) : (s.portsSend d).last = s.last := rfl
@[simp] theorem portsSend_pict (s : State) (d : Nat) : (s.portsSend d).pict = s.pict := rfl
@[simp] theorem portsSend_fetch (s : State) (d : Nat) : (s.portsSend d).fetch = s.fetch := rfl
@[simp] theorem portsSend_lanes (s : State) (d : Nat) : (s.portsSend d).lanes = s.lanes := rfl
@[simp] theorem portsSend_welt (s : State) (d : Nat) : (s.portsSend d).welt = s.welt := rfl
@[simp] theorem portsSend_tongue (s : State) (d : Nat) : (s.portsSend d).tongue = s.tongue := rfl
@[simp] theorem portsSend_fuses (s : State) (d : Nat) : (s.portsSend d).fuses = s.fuses := rfl
@[simp] theorem portsSend_sec (s : State) (d : Nat) : (s.portsSend d).sec = s.sec := rfl
@[simp] theorem portsSend_cores (s : State) (d : Nat) : (s.portsSend d).cores = s.cores := rfl
@[simp] theorem portsSend_move (s : State) (d : Nat) : (s.portsSend d).move = s.move := rfl
@[simp] theorem portsSend_panel (s : State) (d : Nat) : (s.portsSend d).panel = s.panel := rfl
@[simp] theorem portsSend_eyes (s : State) (d : Nat) : (s.portsSend d).eyes = s.eyes := rfl
@[simp] theorem portsSend_pers (s : State) (d : Nat) : (s.portsSend d).pers = s.pers := rfl
@[simp] theorem portsSend_dbg (s : State) (d : Nat) : (s.portsSend d).dbg = s.dbg := rfl

/-! State.loseHead -/
@[simp] theorem loseHead_regs (s : State) (h : Nat) (hs : HeadS) : (s.loseHead h hs).regs = s.regs := rfl
@[simp] theorem loseHead_mem (s : State) (h : Nat) (hs : HeadS) : (s.loseHead h hs).mem = s.mem := rfl
@[simp] theorem loseHead_bus (s : State) (h : Nat) (hs : HeadS) : (s.loseHead h hs).bus = s.bus := rfl
@[simp] theorem loseHead_pending (s : State) (h : Nat) (hs : HeadS) : (s.loseHead h hs).pending = s.pending := rfl
@[simp] theorem loseHead_fresh (s : State) (h : Nat) (hs : HeadS) : (s.loseHead h hs).fresh = s.fresh := rfl
@[simp] theorem loseHead_hub (s : State) (h : Nat) (hs : HeadS) : (s.loseHead h hs).hub = s.hub := rfl
@[simp] theorem loseHead_icu (s : State) (h : Nat) (hs : HeadS) : (s.loseHead h hs).icu = s.icu := rfl
@[simp] theorem loseHead_time (s : State) (h : Nat) (hs : HeadS) : (s.loseHead h hs).time = s.time := rfl
@[simp] theorem loseHead_rst (s : State) (h : Nat) (hs : HeadS) : (s.loseHead h hs).rst = s.rst := rfl
@[simp] theorem loseHead_pace (s : State) (h : Nat) (hs : HeadS) : (s.loseHead h hs).pace = s.pace := rfl
@[simp] theorem loseHead_last (s : State) (h : Nat) (hs : HeadS) : (s.loseHead h hs).last = s.last := rfl
@[simp] theorem loseHead_fetch (s : State) (h : Nat) (hs : HeadS) : (s.loseHead h hs).fetch = s.fetch := rfl
@[simp] theorem loseHead_lanes (s : State) (h : Nat) (hs : HeadS) : (s.loseHead h hs).lanes = s.lanes := rfl
@[simp] theorem loseHead_welt (s : State) (h : Nat) (hs : HeadS) : (s.loseHead h hs).welt = s.welt := rfl
@[simp] theorem loseHead_tongue (s : State) (h : Nat) (hs : HeadS) : (s.loseHead h hs).tongue = s.tongue := rfl
@[simp] theorem loseHead_fuses (s : State) (h : Nat) (hs : HeadS) : (s.loseHead h hs).fuses = s.fuses := rfl
@[simp] theorem loseHead_sec (s : State) (h : Nat) (hs : HeadS) : (s.loseHead h hs).sec = s.sec := rfl
@[simp] theorem loseHead_cores (s : State) (h : Nat) (hs : HeadS) : (s.loseHead h hs).cores = s.cores := rfl
@[simp] theorem loseHead_move (s : State) (h : Nat) (hs : HeadS) : (s.loseHead h hs).move = s.move := rfl
@[simp] theorem loseHead_audio (s : State) (h : Nat) (hs : HeadS) : (s.loseHead h hs).audio = s.audio := rfl
@[simp] theorem loseHead_panel (s : State) (h : Nat) (hs : HeadS) : (s.loseHead h hs).panel = s.panel := rfl
@[simp] theorem loseHead_eyes (s : State) (h : Nat) (hs : HeadS) : (s.loseHead h hs).eyes = s.eyes := rfl
@[simp] theorem loseHead_pers (s : State) (h : Nat) (hs : HeadS) : (s.loseHead h hs).pers = s.pers := rfl
@[simp] theorem loseHead_dbg (s : State) (h : Nat) (hs : HeadS) : (s.loseHead h hs).dbg = s.dbg := rfl

/-! State.snapIn -/
@[simp] theorem snapIn_regs (s : State) (h y g : Nat) (d : List Nat) : (s.snapIn h y g d).regs = s.regs := rfl
@[simp] theorem snapIn_mem (s : State) (h y g : Nat) (d : List Nat) : (s.snapIn h y g d).mem = s.mem := rfl
@[simp] theorem snapIn_bus (s : State) (h y g : Nat) (d : List Nat) : (s.snapIn h y g d).bus = s.bus := rfl
@[simp] theorem snapIn_pending (s : State) (h y g : Nat) (d : List Nat) : (s.snapIn h y g d).pending = s.pending := rfl
@[simp] theorem snapIn_fresh (s : State) (h y g : Nat) (d : List Nat) : (s.snapIn h y g d).fresh = s.fresh := rfl
@[simp] theorem snapIn_hub (s : State) (h y g : Nat) (d : List Nat) : (s.snapIn h y g d).hub = s.hub := rfl
@[simp] theorem snapIn_icu (s : State) (h y g : Nat) (d : List Nat) : (s.snapIn h y g d).icu = s.icu := rfl
@[simp] theorem snapIn_time (s : State) (h y g : Nat) (d : List Nat) : (s.snapIn h y g d).time = s.time := rfl
@[simp] theorem snapIn_rst (s : State) (h y g : Nat) (d : List Nat) : (s.snapIn h y g d).rst = s.rst := rfl
@[simp] theorem snapIn_pace (s : State) (h y g : Nat) (d : List Nat) : (s.snapIn h y g d).pace = s.pace := rfl
@[simp] theorem snapIn_last (s : State) (h y g : Nat) (d : List Nat) : (s.snapIn h y g d).last = s.last := rfl
@[simp] theorem snapIn_fetch (s : State) (h y g : Nat) (d : List Nat) : (s.snapIn h y g d).fetch = s.fetch := rfl
@[simp] theorem snapIn_lanes (s : State) (h y g : Nat) (d : List Nat) : (s.snapIn h y g d).lanes = s.lanes := rfl
@[simp] theorem snapIn_welt (s : State) (h y g : Nat) (d : List Nat) : (s.snapIn h y g d).welt = s.welt := rfl
@[simp] theorem snapIn_tongue (s : State) (h y g : Nat) (d : List Nat) : (s.snapIn h y g d).tongue = s.tongue := rfl
@[simp] theorem snapIn_fuses (s : State) (h y g : Nat) (d : List Nat) : (s.snapIn h y g d).fuses = s.fuses := rfl
@[simp] theorem snapIn_sec (s : State) (h y g : Nat) (d : List Nat) : (s.snapIn h y g d).sec = s.sec := rfl
@[simp] theorem snapIn_cores (s : State) (h y g : Nat) (d : List Nat) : (s.snapIn h y g d).cores = s.cores := rfl
@[simp] theorem snapIn_move (s : State) (h y g : Nat) (d : List Nat) : (s.snapIn h y g d).move = s.move := rfl
@[simp] theorem snapIn_audio (s : State) (h y g : Nat) (d : List Nat) : (s.snapIn h y g d).audio = s.audio := rfl
@[simp] theorem snapIn_panel (s : State) (h y g : Nat) (d : List Nat) : (s.snapIn h y g d).panel = s.panel := rfl
@[simp] theorem snapIn_eyes (s : State) (h y g : Nat) (d : List Nat) : (s.snapIn h y g d).eyes = s.eyes := rfl
@[simp] theorem snapIn_pers (s : State) (h y g : Nat) (d : List Nat) : (s.snapIn h y g d).pers = s.pers := rfl
@[simp] theorem snapIn_dbg (s : State) (h y g : Nat) (d : List Nat) : (s.snapIn h y g d).dbg = s.dbg := rfl

/-! State.skiverDone -/
@[simp] theorem skiverDone_regs (s : State) : (s.skiverDone).regs = s.regs := rfl
@[simp] theorem skiverDone_mem (s : State) : (s.skiverDone).mem = s.mem := rfl
@[simp] theorem skiverDone_bus (s : State) : (s.skiverDone).bus = s.bus := rfl
@[simp] theorem skiverDone_pending (s : State) : (s.skiverDone).pending = s.pending := rfl
@[simp] theorem skiverDone_fresh (s : State) : (s.skiverDone).fresh = s.fresh := rfl
@[simp] theorem skiverDone_hub (s : State) : (s.skiverDone).hub = s.hub := rfl
@[simp] theorem skiverDone_icu (s : State) : (s.skiverDone).icu = s.icu := rfl
@[simp] theorem skiverDone_time (s : State) : (s.skiverDone).time = s.time := rfl
@[simp] theorem skiverDone_rst (s : State) : (s.skiverDone).rst = s.rst := rfl
@[simp] theorem skiverDone_pace (s : State) : (s.skiverDone).pace = s.pace := rfl
@[simp] theorem skiverDone_last (s : State) : (s.skiverDone).last = s.last := rfl
@[simp] theorem skiverDone_pict (s : State) : (s.skiverDone).pict = s.pict := rfl
@[simp] theorem skiverDone_fetch (s : State) : (s.skiverDone).fetch = s.fetch := rfl
@[simp] theorem skiverDone_lanes (s : State) : (s.skiverDone).lanes = s.lanes := rfl
@[simp] theorem skiverDone_welt (s : State) : (s.skiverDone).welt = s.welt := rfl
@[simp] theorem skiverDone_tongue (s : State) : (s.skiverDone).tongue = s.tongue := rfl
@[simp] theorem skiverDone_fuses (s : State) : (s.skiverDone).fuses = s.fuses := rfl
@[simp] theorem skiverDone_sec (s : State) : (s.skiverDone).sec = s.sec := rfl
@[simp] theorem skiverDone_cores (s : State) : (s.skiverDone).cores = s.cores := rfl
@[simp] theorem skiverDone_audio (s : State) : (s.skiverDone).audio = s.audio := rfl
@[simp] theorem skiverDone_panel (s : State) : (s.skiverDone).panel = s.panel := rfl
@[simp] theorem skiverDone_eyes (s : State) : (s.skiverDone).eyes = s.eyes := rfl
@[simp] theorem skiverDone_pers (s : State) : (s.skiverDone).pers = s.pers := rfl
@[simp] theorem skiverDone_dbg (s : State) : (s.skiverDone).dbg = s.dbg := rfl

end Sys2Proof.Machine
end

