-- ==== Sys2Proof/Laws/Awl.lean ====
section
/-! SUPPORT. Laws of the Awl cores: which instruction a command runs, and all that completing one changes. -/
namespace Sys2Proof.Machine

/-! ## Outcomes -/

theorem quiet_next {s t : State} (he : s.inEpisode = false) (h : t.hub = s.hub) : quiet s t = .next t := by
  simp [quiet, calm, he, h]

theorem event_next {s t : State} (he : s.inEpisode = false) : event s t = .next t.settle := by
  simp [event, settled, he]

theorem quiet_episode {s t : State} (he : s.inEpisode = true) : quiet s t = .next s := by simp [quiet, he]
theorem event_episode {s t : State} (he : s.inEpisode = true) : event s t = .next s := by simp [event, he]

/-! ## Which instruction runs -/

theorem coreRuns_awake {s : State} {n : Nat} (h : s.coreRuns n = true) : s.inEpisode = false := by
  unfold State.coreRuns at h
  simp only [Bool.and_eq_true, Bool.not_eq_true'] at h
  exact h.1.1.1.1.1

theorem runOp_at {s : State} {n op : Nat} {i : Insn} {body : Insn → State} (h : CoreAt s n op i) : s.runOp n op body = body i := by
  obtain ⟨hr, hf, ho, hc⟩ := h
  unfold State.runOp
  simp [hr, hf, ho, hc]

/-! ## The hidden state of a core -/

@[simp] theorem core_setCore_same (s : State) (n : Nat) (c : CoreS) : (s.setCore n c).core n = c := by
  unfold State.setCore State.core; exact tabGet_put_same _ _ _ _

theorem core_setCore_other (s : State) (n m : Nat) (c : CoreS) (h : m ≠ n) : (s.setCore n c).core m = s.core m := by
  unfold State.setCore State.core; exact tabGet_put_other _ _ _ _ _ h

@[simp] theorem core_setReg (s : State) (k : Nat) (v : RegVal) (m : Nat) : (s.setReg k v).core m = s.core m := rfl
@[simp] theorem core_set (s : State) (f : Fd) (x m : Nat) : (s.set f x).core m = s.core m := rfl
@[simp] theorem reg_setCore (s : State) (n : Nat) (c : CoreS) (k : Nat) : (s.setCore n c).reg k = s.reg k := rfl
@[simp] theorem get_setCore (s : State) (n : Nat) (c : CoreS) (f : Fd) : (s.setCore n c).get f = s.get f := rfl
@[simp] theorem gcell_set (s : State) (f : Fd) (x m r : Nat) : (s.set f x).gcell m r = s.gcell m r := rfl
@[simp] theorem bankReg_set (s : State) (f : Fd) (x m r : Nat) : (s.set f x).bankReg m r = s.bankReg m r := rfl

theorem setG_done (s : State) (n r v : Nat) :
    CoreOnly n s (s.setG n r v) ∧ CellsAre n s (s.setG n r v) [(r, v % 2 ^ 16)] ∧ (∀ k, (s.setG n r v).reg k = s.reg k) ∧
    (∀ k, (s.setG n r v).bankReg n k = s.bankReg n k) ∧ ((s.setG n r v).core n).rep = (s.core n).rep := by
  refine ⟨⟨rfl, fun k _ _ => rfl, fun m h => core_setCore_other _ _ _ _ h⟩, ⟨?_, ?_⟩, fun k => rfl, ?_, ?_⟩
  · intro p hp
    simp only [List.mem_singleton] at hp
    subst hp
    simp [State.setG, State.gcell, tabGet_put_same]
  · intro q hq
    have h : q ≠ r := fun e => hq (r, v % 2 ^ 16) (by simp) e.symm
    simp [State.setG, State.gcell, tabGet_put_other _ _ _ _ _ h]
  · intro k; simp [State.setG, State.bankReg]
  · simp [State.setG]

/-! ## Changes of one core compose -/

theorem coreOnly_refl (n : Nat) (s : State) : CoreOnly n s s := ⟨rfl, fun _ _ _ => rfl, fun _ _ => rfl⟩

theorem coreOnly_trans {n : Nat} {s t u : State} (h : CoreOnly n s t) (g : CoreOnly n t u) : CoreOnly n s u :=
  ⟨(congrArg (fun x : State => { x with regs := s.regs, cores := s.cores, dbg := { x.dbg with stepped := s.dbg.stepped } }) g.1).trans h.1,
   fun k a b => (g.2.1 k a b).trans (h.2.1 k a b), fun m a => (g.2.2 m a).trans (h.2.2 m a)⟩

theorem coreOnly_set {n : Nat} (s : State) (f : Fd) (x : Nat) (h : f.key = (Fd.AWL_PC_PC n).key ∨ f.key = (Fd.AWL_STAT_FLAGS n).key) :
    CoreOnly n s (s.set f x) := by
  refine ⟨rfl, fun k a b => ?_, fun _ _ => rfl⟩
  rcases h with h | h
  · exact reg_set_key s f x k (h ▸ a)
  · exact reg_set_key s f x k (h ▸ b)

theorem coreOnly_setCore {n : Nat} (s : State) (c : CoreS) : CoreOnly n s (s.setCore n c) :=
  ⟨rfl, fun _ _ _ => rfl, fun _ h => core_setCore_other _ _ _ _ h⟩

/-! ## Completing an instruction -/

theorem pc_ne_stat (n : Nat) : (Fd.AWL_PC_PC n).key ≠ (Fd.AWL_STAT_FLAGS n).key := by
  simp only [Fd.AWL_PC_PC, Fd.AWL_STAT_FLAGS, Rg.AWL_PC, Rg.AWL_STAT]
  omega

/-- What a part of an instruction leaves of a core: its cells, banks, flags, IE, lock bit and PC. -/
structure CoreSame (n : Nat) (s t : State) : Prop where
  only : CoreOnly n s t
  cells : ∀ r, t.gcell n r = s.gcell n r
  banks : ∀ k, t.bankReg n k = s.bankReg n k
  flags : t.get (Fd.AWL_STAT_FLAGS n) = s.get (Fd.AWL_STAT_FLAGS n)
  ie : t.get (Fd.AWL_STAT_IE n) = s.get (Fd.AWL_STAT_IE n)
  lock : t.get (Fd.AWL_STAT_LOCKED n) = s.get (Fd.AWL_STAT_LOCKED n)

theorem CoreSame.trans {n : Nat} {s t u : State} (h : CoreSame n s t) (g : CoreSame n t u) : CoreSame n s u :=
  ⟨coreOnly_trans h.only g.only, fun r => (g.cells r).trans (h.cells r), fun k => (g.banks k).trans (h.banks k),
   g.flags.trans h.flags, g.ie.trans h.ie, g.lock.trans h.lock⟩

theorem coreSame_refl (n : Nat) (s : State) : CoreSame n s s := ⟨coreOnly_refl n s, fun _ => rfl, fun _ => rfl, rfl, rfl, rfl⟩

theorem coreSame_setCore (n : Nat) (s : State) (c : CoreS) (hg : c.g = (s.core n).g) (hb : c.bk = (s.core n).bk) :
    CoreSame n s (s.setCore n c) :=
  ⟨coreOnly_setCore s c, fun r => by simp [State.gcell, hg], fun k => by simp [State.bankReg, hb], rfl, rfl, rfl⟩

theorem coreSame_setPc (n : Nat) (s : State) (v : Nat) : CoreSame n s (s.setPc n v) := by
  have h : (Fd.AWL_STAT_FLAGS n).key ≠ (Fd.AWL_PC_PC n).key := (pc_ne_stat n).symm
  unfold State.setPc
  generalize v % 2 ^ 14 = x
  exact ⟨coreOnly_set s _ _ (.inl rfl), fun _ => rfl, fun _ => rfl, get_set_key s _ _ x h,
    get_set_key s _ (Fd.AWL_STAT_IE n) x h, get_set_key s _ (Fd.AWL_STAT_LOCKED n) x h⟩

theorem coreSame_stop (n : Nat) (s : State) : CoreSame n s (s.stopCore n) := by
  unfold State.stopCore
  split
  · exact ⟨coreOnly_set s _ _ (.inr rfl), fun r => gcell_set s _ _ n r, fun k => bankReg_set s _ _ n k,
      get_set_apart s (Fd.AWL_STAT_STATE n) (Fd.AWL_STAT_FLAGS n) _ (Nat.le_refl 28) (.inl (by simp [Fd.AWL_STAT_STATE, Fd.AWL_STAT_FLAGS])),
      get_set_apart s (Fd.AWL_STAT_STATE n) (Fd.AWL_STAT_IE n) _ (Nat.le_refl 28) (.inl (by simp [Fd.AWL_STAT_STATE, Fd.AWL_STAT_IE])),
      get_set_apart s (Fd.AWL_STAT_STATE n) (Fd.AWL_STAT_LOCKED n) _ (Nat.le_refl 28) (.inl (by simp [Fd.AWL_STAT_STATE, Fd.AWL_STAT_LOCKED]))⟩
  · exact coreSame_refl n s

theorem coreSame_stepped (n : Nat) (s : State) (b : Bool) : CoreSame n s { s with dbg := { s.dbg with stepped := b } } :=
  ⟨⟨rfl, fun _ _ _ => rfl, fun _ _ => rfl⟩, fun _ => rfl, fun _ => rfl, rfl, rfl, rfl⟩

theorem coreSame_ite {n : Nat} {s a b : State} {c : Prop} [Decidable c] (ha : CoreSame n s a) (hb : CoreSame n s b) :
    CoreSame n s (if c then a else b) := by
  split
  · exact ha
  · exact hb

theorem pc_stop (n : Nat) (s : State) : (s.stopCore n).pcOf n = s.pcOf n := by
  unfold State.stopCore
  split
  · exact get_set_key s _ _ _ (pc_ne_stat n)
  · rfl

/-- A boundary changes only the debugger's note and, under a halt request, STATE. -/
theorem boundary_same (s : State) (n : Nat) : CoreSame n s (s.boundary n) ∧ (s.boundary n).pcOf n = s.pcOf n := by
  unfold State.boundary
  extract_lets d s1
  have h1 : CoreSame n s s1 ∧ s1.pcOf n = s.pcOf n :=
    ⟨coreSame_ite (coreSame_stepped n s true) (coreSame_refl n s), by simp only [s1]; split <;> rfl⟩
  split
  · exact ⟨h1.1.trans (coreSame_stop n s1), (pc_stop n s1).trans h1.2⟩
  · exact h1

/-- Retiring an instruction changes only the count of a locked sequence, and what its boundary changes. -/
theorem retire_same (s : State) (n : Nat) : CoreSame n s (s.retire n) ∧ (s.retire n).pcOf n = s.pcOf n := by
  unfold State.retire
  extract_lets c
  have h := coreSame_ite (c := s.coreLocked n = true) (coreSame_setCore n s { c with lockCnt := c.lockCnt + 1 } (by rfl) (by rfl))
    (coreSame_refl n s)
  obtain ⟨hb, hp⟩ := boundary_same (if s.coreLocked n = true then s.setCore n { c with lockCnt := c.lockCnt + 1 } else s) n
  exact ⟨h.trans hb, hp.trans (by split <;> rfl)⟩

theorem setPc_pc (s : State) (n v : Nat) : (s.setPc n v).pcOf n = v % 2 ^ 14 := by
  unfold State.setPc State.pcOf
  rw [get_set_same s _ _ (by simp [Fd.AWL_PC_PC])]
  simp [Fd.AWL_PC_PC]

/-- The next instruction follows. -/
theorem advance_same (s : State) (n : Nat) : CoreSame n s (s.advance n) ∧
    (s.advance n).pcOf n = (if (s.core n).rep ≤ 1 then (s.pcOf n + 1) % 2 ^ 14 else s.pcOf n) := by
  unfold State.advance
  extract_lets c s1
  obtain ⟨hr, hp⟩ := retire_same s1 n
  by_cases h : c.rep ≤ 1
  · have h1 : CoreSame n s s1 := by
      simp only [s1, if_pos h]
      exact (coreSame_setCore n s _ (by rfl) (by rfl)).trans (coreSame_setPc n _ _)
    refine ⟨h1.trans hr, ?_⟩
    rw [hp, if_pos h]; simp only [s1, if_pos h]; exact setPc_pc _ n _
  · have h1 : CoreSame n s s1 := by
      simp only [s1, if_neg h]
      exact coreSame_setCore n s _ (by rfl) (by rfl)
    refine ⟨h1.trans hr, ?_⟩
    rw [hp, if_neg h]; simp only [s1, if_neg h]; rfl

/-- The core continues at an index. -/
theorem jump_same (s : State) (n p : Nat) : CoreSame n s (s.jump n p) ∧ (s.jump n p).pcOf n = p % 2 ^ 14 := by
  unfold State.jump
  obtain ⟨hr, hp⟩ := retire_same ((s.setCore n { s.core n with rep := 0, repU := false }).setPc n p) n
  exact ⟨((coreSame_setCore n s _ (by rfl) (by rfl)).trans (coreSame_setPc n _ _)).trans hr, hp.trans (setPc_pc _ n p)⟩

theorem flags_roundtrip (f : AwlFlags) : AwlFlags.ofNat (f.toNat % 2 ^ 5) = f := by
  rcases f with ⟨z, n, c, v, t⟩
  cases z <;> cases n <;> cases c <;> cases v <;> cases t <;> rfl

theorem setFlags_done (s : State) (n : Nat) (f : AwlFlags) : CoreOnly n s (s.setFlags n f) ∧ (s.setFlags n f).flagsOf n = f ∧
    (s.setFlags n f).pcOf n = s.pcOf n ∧ (s.setFlags n f).get (Fd.AWL_STAT_IE n) = s.get (Fd.AWL_STAT_IE n) ∧
    (s.setFlags n f).get (Fd.AWL_STAT_LOCKED n) = s.get (Fd.AWL_STAT_LOCKED n) := by
  refine ⟨coreOnly_set s _ _ (.inr rfl), ?_, get_set_key s _ _ _ (pc_ne_stat n), ?_, ?_⟩
  · unfold State.flagsOf State.setFlags
    rw [get_set_same s _ _ (by simp [Fd.AWL_STAT_FLAGS])]
    exact flags_roundtrip f
  · exact get_set_apart s _ _ _ (by simp [Fd.AWL_STAT_FLAGS]) (.inr (by simp [Fd.AWL_STAT_FLAGS, Fd.AWL_STAT_IE]))
  · exact get_set_apart s _ _ _ (by simp [Fd.AWL_STAT_FLAGS]) (.inr (by simp [Fd.AWL_STAT_FLAGS, Fd.AWL_STAT_LOCKED]))

/-- An instruction that writes no cell. -/
theorem advance_done (s : State) (n : Nat) : CoreDone n s (s.advance n) (s.flagsOf n) ∧ CellsAre n s (s.advance n) [] := by
  obtain ⟨h, hp⟩ := advance_same s n
  exact ⟨⟨h.only, congrArg AwlFlags.ofNat h.flags, hp, h.banks, h.ie, by unfold State.coreLocked State.flag; rw [h.lock]⟩,
    by simp, fun r _ => h.cells r⟩

/-- An instruction that writes only the flags. -/
theorem flags_done (s : State) (n : Nat) (f : AwlFlags) : CoreDone n s ((s.setFlags n f).advance n) f ∧
    CellsAre n s ((s.setFlags n f).advance n) [] := by
  obtain ⟨h, hp⟩ := advance_same (s.setFlags n f) n
  obtain ⟨a, b, c, d, e⟩ := setFlags_done s n f
  refine ⟨⟨coreOnly_trans a h.only, (congrArg AwlFlags.ofNat h.flags).trans b, ?_, h.banks, h.ie.trans d, ?_⟩, by simp, fun r _ => h.cells r⟩
  · rw [hp, c]; rfl
  · unfold State.coreLocked State.flag; rw [h.lock, e]

/-- An instruction that writes a cell. -/
theorem resultG_done (s : State) (n r v : Nat) : CoreDone n s (s.resultG n r v) (s.flagsOf n) ∧
    CellsAre n s (s.resultG n r v) [(r, v % 2 ^ 16)] := by
  obtain ⟨h, hp⟩ := advance_same (s.setG n r v) n
  obtain ⟨a, b, c, d, e⟩ := setG_done s n r v
  refine ⟨⟨coreOnly_trans a h.only, congrArg AwlFlags.ofNat h.flags, ?_, fun k => (h.banks k).trans (d k), h.ie, ?_⟩, ?_, ?_⟩
  · rw [State.resultG, hp, e]; rfl
  · unfold State.coreLocked State.flag; rw [State.resultG, h.lock]; rfl
  · exact fun p hp => (h.cells p.1).trans (b.1 p hp)
  · exact fun q hq => (h.cells q).trans (b.2 q hq)

/-- An instruction that writes a cell and the flags. -/
theorem result_done (s : State) (n r v : Nat) (f : AwlFlags) : CoreDone n s (s.result n r v f) f ∧
    CellsAre n s (s.result n r v f) [(r, v % 2 ^ 16)] := by
  obtain ⟨a, b, c, d, e⟩ := setG_done s n r v
  obtain ⟨h, g⟩ := flags_done (s.setG n r v) n f
  refine ⟨⟨coreOnly_trans a h.1, h.2.1, ?_, fun k => (h.2.2.2.1 k).trans (d k), h.2.2.2.2.1, h.2.2.2.2.2⟩, ?_, ?_⟩
  · rw [State.result, h.2.2.1, e]; rfl
  · exact fun p hp => (g.2 p.1 (by simp)).trans (b.1 p hp)
  · exact fun q hq => (g.2 q (by simp)).trans (b.2 q hq)

theorem hub_of_coreOnly {n : Nat} {s t : State} (h : CoreOnly n s t) : t.hub = s.hub := by
  have := congrArg State.hub h.1
  exact this

/-- A core's command completes where its meaning does. -/
theorem coreGives_of {c : Instr} {n op : Nat} {s t : State} {i : Insn} {body : Insn → State} {l : List (Nat × Nat)} {f : AwlFlags}
    (h : CoreAt s n op i) (hx : exec c s = quiet s (s.runOp n op body)) (hb : body i = t) (hd : CoreDone n s t f ∧ CellsAre n s t l) :
    CoreGives c n s l f := by
  refine ⟨t, ?_, hd⟩
  rw [hx, runOp_at h, hb]
  exact quiet_next (coreRuns_awake h.1) (hub_of_coreOnly hd.1.1)

end Sys2Proof.Machine
end

