-- ==== Sys2Proof/Laws/Direct.lean ====
section
/-! SUPPORT. All that a direct write of a register does when the fabric takes it: the register's own write, what the bus
watchpoints see of it, and the answer. -/
namespace Sys2Proof.Machine

/-! ## Only registers differ -/

theorem regsOnly_refl (p : Nat → Prop) (s : State) : RegsOnly p s s := ⟨rfl, fun _ _ => rfl⟩

theorem regsOnly_trans {p : Nat → Prop} {s t u : State} (h : RegsOnly p s t) (g : RegsOnly p t u) : RegsOnly p s u :=
  ⟨(congrArg (fun x : State => { x with regs := s.regs }) g.1).trans h.1, fun k a => (g.2 k a).trans (h.2 k a)⟩

theorem regsOnly_set {p : Nat → Prop} (s : State) (f : Fd) (x : Nat) (h : p f.key) : RegsOnly p s (s.set f x) :=
  ⟨rfl, fun k a => reg_set_key s f x k (fun e => a (e ▸ h))⟩

theorem regsOnly_ite {p : Nat → Prop} {s a b : State} {c : Prop} [Decidable c] (ha : RegsOnly p s a) (hb : RegsOnly p s b) :
    RegsOnly p s (if c then a else b) := by
  split
  · exact ha
  · exact hb

theorem regsOnly_foldl {p : Nat → Prop} {α : Type} {f : State → α → State} {l : List α} {s : State}
    (h : ∀ a x, x ∈ l → RegsOnly p a (f a x)) : RegsOnly p s (l.foldl f s) := by
  induction l generalizing s with
  | nil => exact regsOnly_refl p s
  | cons x l ih =>
    exact regsOnly_trans (h s x (by simp)) (ih (fun a y hy => h a y (by simp [hy])))

/-! ## Watchpoints -/

theorem regsOnly_stopCore (s : State) (n : Nat) (h : n < 4) : RegsOnly watchKey s (s.stopCore n) := by
  unfold State.stopCore
  exact regsOnly_ite (regsOnly_set s (Fd.AWL_STAT_STATE n) 3 (.inr (.inr (.inr (.inr ⟨n, h, rfl⟩))))) (regsOnly_refl _ s)

theorem regsOnly_haltRequest (s : State) (c : Nat) : RegsOnly watchKey s (s.haltRequest c) := by
  unfold State.haltRequest
  refine regsOnly_ite (regsOnly_refl _ s) (regsOnly_trans ?_ (regsOnly_foldl fun a n hn => ?_))
  · exact regsOnly_trans (regsOnly_set s Fd.DBG_RUN_HALTREQ _ (.inl rfl)) (regsOnly_set _ Fd.DBG_RUN_CAUSE _ (.inl rfl))
  · exact regsOnly_ite (regsOnly_refl _ a) (regsOnly_stopCore a n (List.mem_range.mp hn))

theorem regsOnly_wpRecord (s : State) (bus wr : Bool) (pcm a : Nat) : RegsOnly watchKey s (s.wpRecord bus wr pcm a) := by
  unfold State.wpRecord State.setB
  refine regsOnly_ite (regsOnly_refl _ s) ?_
  exact regsOnly_trans (regsOnly_trans (regsOnly_trans (regsOnly_trans (regsOnly_set s Fd.DBG_HITLO_ADDRLO _ (.inr (.inl rfl)))
    (regsOnly_set _ Fd.DBG_HITHI_BUS _ (.inr (.inr (.inl rfl))))) (regsOnly_set _ Fd.DBG_HITHI_WRITE _ (.inr (.inr (.inl rfl)))))
    (regsOnly_set _ Fd.DBG_HITHI_PCM _ (.inr (.inr (.inl rfl))))) (regsOnly_set _ Fd.DBG_HITHI_ADDRHI _ (.inr (.inr (.inl rfl))))

theorem regsOnly_wpHalt (s : State) (i : Nat) : RegsOnly watchKey s (s.wpHalt i) := by
  unfold State.wpHalt
  refine regsOnly_trans (regsOnly_ite (regsOnly_refl _ s) ?_) (regsOnly_haltRequest _ _)
  exact regsOnly_trans (regsOnly_set s Fd.DBG_RUN_HCORE _ (.inl rfl)) (regsOnly_set _ Fd.DBG_RUN_HWP _ (.inl rfl))

theorem regsOnly_wpBusOne (s : State) (m a n : Nat) (wr : Bool) (i : Nat) (h : i < 36) : RegsOnly watchKey s (s.wpBusOne m a n wr i) := by
  unfold State.wpBusOne
  refine regsOnly_ite ?_ (regsOnly_refl _ s)
  have h1 : RegsOnly watchKey s ((s.set (Fd.WPCTL_HIT i) 1).wpRecord true wr m a) :=
    regsOnly_trans (regsOnly_set s (Fd.WPCTL_HIT i) 1 (.inr (.inr (.inr (.inl ⟨i, h, rfl⟩))))) (regsOnly_wpRecord _ _ _ _ _)
  exact regsOnly_ite (regsOnly_trans h1 (regsOnly_wpHalt _ i)) h1

/-- What the bus watchpoints do at an access touches only their own registers, DBG_RUN and the STATE of a core that stops. -/
theorem regsOnly_wpBus (s : State) (m a n : Nat) (wr : Bool) : RegsOnly watchKey s (s.wpBus m a n wr) := by
  unfold State.wpBus
  refine regsOnly_ite (regsOnly_refl _ s) (regsOnly_foldl fun t i hi => ?_)
  have := List.mem_range.mp hi
  exact regsOnly_wpBusOne t m a n wr (32 + i) (by omega)

/-! ## A direct write -/

theorem decode_reg (k : Nat) (h : k < 0x1000000) : decodeAddr (0xFF00000000 + k) = .reg k := by
  have h1 : 0xFF00000000 ≤ 0xFF00000000 + k ∧ 0xFF00000000 + k < 0xFF01000000 := by omega
  have h2 : 0xFF00000000 + k - 0xFF00000000 = k := by omega
  generalize 0xFF00000000 + k = a at h1 h2
  unfold decodeAddr
  rw [if_pos h1, h2]

theorem merge_bytes (a b c d : Nat) : mergeWord 0 15 [a, b, c, d] = a % 256 + b % 256 * 256 + c % 256 * 65536 + d % 256 * 16777216 := by
  unfold mergeWord
  have h : List.range 4 = [0, 1, 2, 3] := by decide
  have n0 : nbit 15 0 = true := by decide
  have n1 : nbit 15 1 = true := by decide
  have n2 : nbit 15 2 = true := by decide
  have n3 : nbit 15 3 = true := by decide
  have p2 : 256 ^ 2 = 65536 := by decide
  have p3 : 256 ^ 3 = 16777216 := by decide
  have g0 : [a, b, c, d].getD 0 0 = a := rfl
  have g1 : [a, b, c, d].getD 1 0 = b := rfl
  have g2 : [a, b, c, d].getD 2 0 = c := rfl
  have g3 : [a, b, c, d].getD 3 0 = d := rfl
  rw [h, List.foldl_cons, List.foldl_cons, List.foldl_cons, List.foldl_cons, List.foldl_nil, if_pos n0, if_pos n1, if_pos n2, if_pos n3,
    g0, g1, g2, g3, p2, p3, Nat.pow_zero, Nat.pow_one, Nat.mul_one, Nat.zero_add]
theorem merge_word (v : Nat) (h : v < 2 ^ 32) : mergeWord 0 15 (wordOf v) = v := by
  unfold wordOf
  rw [merge_bytes]
  omega

/-- What a direct write leaves when it is taken. -/
def State.afterWrite (s : State) (m k v : Nat) (e : Env) : State :=
  ({ (s.writeReg (ownerOfMaster m) k v { beam := e.beam }).wpBus m (0xFF00000000 + k) 4 true with bus := .done } : State).dropBus m

/-- A register write that is accepted. -/
theorem regWrite_taken {s : State} {o k v : Nat} {c : WriteCtx} (he : regExists k = true) (hd : s.domOn (regDomain k) = true)
    (hr : s.writeRefused o k v = none) (hv : v < 2 ^ 28) : s.regWrite o k v c = (s.writeReg o k v c, .ok) := by
  have hn : ¬ reservedSlot k = true := by simp [reservedSlot, he]
  have hd' : ¬ (!s.domOn (regDomain k) && k / 0x10000 != 7) = true := by rw [hd]; simp
  unfold State.regWrite
  rw [if_neg hn, if_neg hd', Nat.mod_eq_of_lt hv, hr]

/-- The write access of a register that is accepted. -/
theorem writeAt_taken {b : Bus} {w : Who} {a k v : Nat} (ha : decodeAddr a = .reg k) (hw : w.regs = true) (he : regExists k = true)
    (hd : b.s.domOn (regDomain k) = true) (hr : b.s.writeRefused w.o k v = none) (hv : v < 2 ^ 28) :
    b.writeAt w a 15 (wordOf v) = .ok [] { b with s := b.s.writeReg w.o k v b.ctx } := by
  have h1 : ¬ (!w.regs || !(regExists k || reservedSlot k)) = true := by rw [hw, he]; simp
  unfold Bus.writeAt
  rw [ha]
  dsimp only
  rw [if_neg h1, merge_word v (by omega), regWrite_taken he hd hr hv]

theorem directWrite_taken {s : State} {m : Fin 32} {k : Nat} {v : RegVal} {e : Env} (h : Taken s m k v.toNat)
    (hk : k ≠ Rg.SEC_FUSECMD) : s.directWrite m k v.toNat e = s.afterWrite m k v.toNat e := by
  obtain ⟨-, -, he, hd, hr⟩ := h
  have hk' : k < 0x1000000 := by
    unfold regExists at he
    simp only [Bool.and_eq_true, decide_eq_true_eq] at he
    exact he.1
  have hv : v.toNat < 2 ^ 28 := v.isLt
  have ha := decode_reg k hk'
  unfold State.directWrite State.afterWrite
  generalize v.toNat = x at *
  generalize 0xFF00000000 + k = a at *
  have hf : ¬ s.needsKey (masterWho m) a x = true := by
    unfold State.needsKey
    rw [ha]
    simp [hk]
  have hr' : s.writeRefused (masterWho m).o k x = none := hr
  have hw : ({ s := s, ends := e.ends, nth := 0, ctx := { beam := e.beam } } : Bus).writeW (masterWho m) a x =
      .ok [] { s := (s.writeReg (ownerOfMaster m) k x { beam := e.beam }).wpBus m a 4 true, ends := e.ends, nth := 0,
               ctx := { beam := e.beam } } := by
    have hb := writeAt_taken (b := { s := s, ends := e.ends, nth := 0, ctx := { beam := e.beam } }) (w := masterWho m) ha rfl he hd hr' hv
    have hl : (wordOf x).length = 4 := rfl
    unfold Bus.writeW
    rw [if_neg hf]
    unfold Bus.write
    rw [hb, hl]
    rfl
  unfold State.busRow State.busOf Bus.finish
  dsimp only
  rw [hw]

/-- A command that is a direct write, with its register's own write. -/
theorem writes_of {c : Instr} {s : State} {m : Fin 32} {k : Nat} {v : RegVal} {e : Env} {P : State → Prop} (hx : exec c s = wrote s m k v e)
    (h : Taken s m k v.toNat) (hk : k ≠ Rg.SEC_FUSECMD) (hp : P (s.afterWrite m k v.toNat e)) : Writes c s P := by
  refine ⟨s.afterWrite m k v.toNat e, ⟨rfl, hp⟩, ?_⟩
  rw [hx]
  unfold wrote
  simp only [h.1, Bool.false_eq_true, if_false, directWrite_taken h hk]
  split
  · unfold calm
    split
    · exact .inl rfl
    · exact .inr rfl
  · exact .inr rfl

/-- A register that no watchpoint touches holds what the register's own write left. -/
theorem reg_afterWrite (s : State) (m k v : Nat) (e : Env) (j : Nat) (h : ¬ watchKey j) :
    (s.afterWrite m k v e).reg j = (s.writeReg (ownerOfMaster m) k v { beam := e.beam }).reg j :=
  (regsOnly_wpBus (s.writeReg (ownerOfMaster m) k v { beam := e.beam }) m (0xFF00000000 + k) 4 true).2 j h

theorem get_afterWrite (s : State) (m k v : Nat) (e : Env) (f : Fd) (h : ¬ watchKey f.key) :
    (s.afterWrite m k v e).get f = (s.writeReg (ownerOfMaster m) k v { beam := e.beam }).get f := by
  unfold State.get
  rw [reg_afterWrite s m k v e _ h]

/-- Everything but the registers, the answer and Welt's outstanding requests is as the register's own write left it. -/
theorem rest_afterWrite (s : State) (m k v : Nat) (e : Env) :
    let w := s.writeReg (ownerOfMaster m) k v { beam := e.beam }
    { s.afterWrite m k v e with regs := w.regs, bus := w.bus, welt := w.welt } = w :=
  congrArg (fun x : State => { x with bus := (s.writeReg (ownerOfMaster m) k v { beam := e.beam }).bus,
                                      welt := (s.writeReg (ownerOfMaster m) k v { beam := e.beam }).welt })
    (regsOnly_wpBus (s.writeReg (ownerOfMaster m) k v { beam := e.beam }) m (0xFF00000000 + k) 4 true).1

end Sys2Proof.Machine
end

