-- ==== Sys2Proof/Laws/Good.lean ====
section
/-! SUPPORT. The canonical form of memory and of the register file together, and the small laws by which every operation is
shown to keep it. -/
namespace Sys2Proof.Machine

/-- Memory and the register file are in their canonical form. -/
def Good (s : State) : Prop := Memory.wf s.mem = true ∧ Registers.wf s.regs = true

theorem good_mk (s : State) (b p f h i t r pa l pi fe la w tg fu se co mo au pn ey pe d) (hs : Good s) :
    Good (State.mk s.regs s.mem b p f h i t r pa l pi fe la w tg fu se co mo au pn ey pe d) := hs

theorem good_ite {c : Prop} [Decidable c] {a b : State} (ha : Good a) (hb : Good b) : Good (if c then a else b) := by
  split
  · exact ha
  · exact hb

theorem good_foldl {α : Type} {f : State → α → State} {l : List α} {s : State} (hf : ∀ a x, Good a → Good (f a x)) (hs : Good s) :
    Good (l.foldl f s) := by
  induction l generalizing s with
  | nil => exact hs
  | cons x l ih => exact ih (hf s x hs)

theorem good_foldl_p1 {α β : Type} {f : State × β → α → State × β} {l : List α} {i : State × β}
    (hf : ∀ a x, Good a.1 → Good (f a x).1) (hi : Good i.1) : Good (l.foldl f i).1 := by
  induction l generalizing i with
  | nil => exact hi
  | cons x l ih => exact ih (hf i x hi)

theorem good_p1 {α : Type} {x : State × α} {s : State} {a : α} (h : Good x.1) (e : x = (s, a)) : Good s := by subst e; exact h
theorem good_p2 {α : Type} {x : α × State} {s : State} {a : α} (h : Good x.2) (e : x = (a, s)) : Good s := by subst e; exact h

/-- Every state that an access may leave is in its canonical form. -/
def BusOut.Good : BusOut → Prop
  | .ok _ b => Machine.Good b.s
  | .err b => Machine.Good b.s
  | .ref _ b => Machine.Good b.s
  | .wait _ => True

theorem BusOut.good_eq {r x : BusOut} (h : r.Good) (e : r = x) : x.Good := e ▸ h
theorem BusOut.good_ok {x b} (h : Machine.Good b.s) : (BusOut.ok x b).Good := h
theorem BusOut.good_of_ok {r : BusOut} {x b} (h : r.Good) (e : r = .ok x b) : Machine.Good b.s := by subst e; exact h
theorem BusOut.good_err {b} (h : Machine.Good b.s) : (BusOut.err b).Good := h
theorem BusOut.good_of_err {r : BusOut} {b} (h : r.Good) (e : r = .err b) : Machine.Good b.s := by subst e; exact h
theorem BusOut.good_ref {x b} (h : Machine.Good b.s) : (BusOut.ref x b).Good := h
theorem BusOut.good_of_ref {r : BusOut} {x b} (h : r.Good) (e : r = .ref x b) : Machine.Good b.s := by subst e; exact h
theorem BusOut.good_wait (i) : (BusOut.wait i).Good := True.intro

/-- The same of a command with accesses. -/
def Fin'.Good : Fin' → Prop
  | .done s => Machine.Good s
  | .wait _ => True

theorem Fin'.good_eq {r x : Fin'} (h : r.Good) (e : r = x) : x.Good := e ▸ h
theorem Fin'.good_done {s} (h : Machine.Good s) : (Fin'.done s).Good := h
theorem Fin'.good_of_done {r : Fin'} {s} (h : r.Good) (e : r = .done s) : Machine.Good s := by subst e; exact h
theorem Fin'.good_wait (i) : (Fin'.wait i).Good := True.intro

/-- The same of a run of accesses. -/
def RunOut.Good : RunOut → Prop
  | .ok _ _ b => Machine.Good b.s
  | .wait _ => True

theorem RunOut.good_eq {r x : RunOut} (h : r.Good) (e : r = x) : x.Good := e ▸ h
theorem RunOut.good_ok {x y b} (h : Machine.Good b.s) : (RunOut.ok x y b).Good := h
theorem RunOut.good_of_ok {r : RunOut} {x y b} (h : r.Good) (e : r = .ok x y b) : Machine.Good b.s := by subst e; exact h
theorem RunOut.good_wait (i) : (RunOut.wait i).Good := True.intro

/-- The same of a core's loads and stores. -/
def CellsOut.Good : CellsOut → Prop
  | .ok _ b => Machine.Good b.s
  | .err b => Machine.Good b.s
  | .wait _ => True

theorem CellsOut.good_eq {r x : CellsOut} (h : r.Good) (e : r = x) : x.Good := e ▸ h
theorem CellsOut.good_ok {x b} (h : Machine.Good b.s) : (CellsOut.ok x b).Good := h
theorem CellsOut.good_of_ok {r : CellsOut} {x b} (h : r.Good) (e : r = .ok x b) : Machine.Good b.s := by subst e; exact h
theorem CellsOut.good_err {b} (h : Machine.Good b.s) : (CellsOut.err b).Good := h
theorem CellsOut.good_of_err {r : CellsOut} {b} (h : r.Good) (e : r = .err b) : Machine.Good b.s := by subst e; exact h
theorem CellsOut.good_wait (i) : (CellsOut.wait i).Good := True.intro

/-- The same of a part of a Skiver row. -/
def SkOut.Good : SkOut → Prop
  | .ok _ b => Machine.Good b.s
  | .err b => Machine.Good b.s
  | .wait _ => True

theorem SkOut.good_eq {r x : SkOut} (h : r.Good) (e : r = x) : x.Good := e ▸ h
theorem SkOut.good_ok {x b} (h : Machine.Good b.s) : (SkOut.ok x b).Good := h
theorem SkOut.good_of_ok {r : SkOut} {x b} (h : r.Good) (e : r = .ok x b) : Machine.Good b.s := by subst e; exact h
theorem SkOut.good_err {b} (h : Machine.Good b.s) : (SkOut.err b).Good := h
theorem SkOut.good_of_err {r : SkOut} {b} (h : r.Good) (e : r = .err b) : Machine.Good b.s := by subst e; exact h
theorem SkOut.good_wait (i) : (SkOut.wait i).Good := True.intro

/-- The same of taking a packet. -/
def TakeOut.Good : TakeOut → Prop
  | .took b => Machine.Good b.s
  | .none => True
  | .err b => Machine.Good b.s
  | .wait _ => True

theorem TakeOut.good_eq {r x : TakeOut} (h : r.Good) (e : r = x) : x.Good := e ▸ h
theorem TakeOut.good_took {b} (h : Machine.Good b.s) : (TakeOut.took b).Good := h
theorem TakeOut.good_of_took {r : TakeOut} {b} (h : r.Good) (e : r = .took b) : Machine.Good b.s := by subst e; exact h
theorem TakeOut.good_none : (TakeOut.none).Good := True.intro
theorem TakeOut.good_err {b} (h : Machine.Good b.s) : (TakeOut.err b).Good := h
theorem TakeOut.good_of_err {r : TakeOut} {b} (h : r.Good) (e : r = .err b) : Machine.Good b.s := by subst e; exact h
theorem TakeOut.good_wait (i) : (TakeOut.wait i).Good := True.intro

end Sys2Proof.Machine
end

