-- ==== Sys2Proof/Laws/GoodBase.lean ====
section
/-! SUPPORT. Canonical form kept: the register, memory, fault, interrupt and memory-channel operations. -/
namespace Sys2Proof.Machine

/-! ## Ops -/

theorem good_setReg (s : State) (k : Nat) (v : RegVal) (hs : Good s) : Good (s.setReg k v) := ⟨hs.1, tabWf_put k v hs.2⟩

theorem good_set (s : State) (f : Fd) (x : Nat) (Hs : Good s) :
    Good (State.set s f x) := by
  unfold State.set
  repeat' first | with_reducible assumption | with_reducible apply good_setReg | dsimp only | with_reducible refine good_ite ?_ ?_ | split | intro _ | with_reducible apply good_mk

theorem good_setB (s : State) (f : Fd) (b : Bool) (Hs : Good s) :
    Good (State.setB s f b) := by
  unfold State.setB
  repeat' first | with_reducible assumption | with_reducible apply good_set | dsimp only | with_reducible refine good_ite ?_ ?_ | split | intro _ | with_reducible apply good_mk

theorem good_bump (s : State) (f : Fd) (top : Nat) (Hs : Good s) :
    Good (State.bump s f top) := by
  unfold State.bump
  repeat' first | with_reducible assumption | with_reducible apply good_set | dsimp only | with_reducible refine good_ite ?_ ?_ | split | intro _ | with_reducible apply good_mk

theorem good_raiseTo (s : State) (f : Fd) (x : Nat) (Hs : Good s) :
    Good (State.raiseTo s f x) := by
  unfold State.raiseTo
  repeat' first | with_reducible assumption | with_reducible apply good_set | dsimp only | with_reducible refine good_ite ?_ ?_ | split | intro _ | with_reducible apply good_mk

theorem good_setRegN (s : State) (k : Nat) (v : Nat) (Hs : Good s) :
    Good (State.setRegN s k v) := by
  unfold State.setRegN
  repeat' first | with_reducible assumption | with_reducible apply good_setReg | dsimp only | with_reducible refine good_ite ?_ ?_ | split | intro _ | with_reducible apply good_mk

theorem good_plainWrite (s : State) (k : Nat) (v : Nat) (Hs : Good s) :
    Good (State.plainWrite s k v) := by
  unfold State.plainWrite
  repeat' first | with_reducible assumption | with_reducible apply good_setRegN | dsimp only | with_reducible refine good_ite ?_ ?_ | split | intro _ | with_reducible apply good_mk

theorem good_setByte (s : State) (a : Nat) (v : Nat) (hs : Good s) : Good (s.setByte a v) :=
  ⟨tabWf_put (d := fun _ => 0#8) a _ hs.1, hs.2⟩

theorem good_putLE (s : State) (a n v : Nat) (hs : Good s) : Good (s.putLE a n v) := by
  induction n generalizing s a v with
  | zero => exact hs
  | succ n ih => exact ih _ _ _ (good_setByte s a _ hs)

theorem good_setWord (s : State) (a v : Nat) (hs : Good s) : Good (s.setWord a v) := good_putLE s a 4 v hs

theorem good_setWords (s : State) (a : Nat) (l : List Nat) (hs : Good s) : Good (s.setWords a l) := by
  induction l generalizing s a with
  | nil => exact hs
  | cons v t ih => exact ih _ _ (good_setWord s a v hs)

theorem good_setBytes (s : State) (a : Nat) (l : List Nat) (hs : Good s) : Good (s.setBytes a l) := by
  induction l generalizing s a with
  | nil => exact hs
  | cons v t ih => exact ih _ _ (good_setByte s a v hs)

theorem good_loseMem (s : State) (lo hi : Nat) (hs : Good s) : Good (s.loseMem lo hi) := by
  unfold State.loseMem; exact ⟨tabWf_drop (d := fun _ => 0#8) (fun a => decide (lo ≤ a) && decide (a < hi)) hs.1, hs.2⟩

theorem good_raise (s : State) (n : Nat) (Hs : Good s) :
    Good (State.raise s n) := by
  unfold State.raise
  repeat' first | with_reducible assumption | dsimp only | with_reducible refine good_ite ?_ ?_ | split | intro _ | with_reducible apply good_mk

theorem good_draw (s : State) (Hs : Good s) :
    Good (State.draw s) := by
  unfold State.draw
  repeat' first | with_reducible assumption | dsimp only | with_reducible refine good_ite ?_ ?_ | split | intro _ | with_reducible apply good_mk

/-! ## Faults -/

theorem good_emptyStack (s : State) (n : Nat) (Hs : Good s) :
    Good (State.emptyStack s n) := by
  unfold State.emptyStack
  repeat' first | with_reducible assumption | dsimp only | with_reducible refine good_ite ?_ ?_ | split | intro _ | with_reducible apply good_mk

theorem good_coreFaulted (s : State) (n : Nat) (Hs : Good s) :
    Good (State.coreFaulted s n) := by
  unfold State.coreFaulted
  repeat' first | with_reducible assumption | with_reducible apply good_set | with_reducible apply good_emptyStack | dsimp only | with_reducible refine good_ite ?_ ?_ | split | intro _ | with_reducible apply good_mk

theorem good_setPortState (s : State) (p : Nat) (st : Nat) (Hs : Good s) :
    Good (State.setPortState s p st) := by
  unfold State.setPortState
  repeat' first | with_reducible assumption | with_reducible apply good_set | with_reducible apply good_raise | dsimp only | with_reducible refine good_ite ?_ ?_ | split | intro _ | with_reducible apply good_mk

theorem good_dpAbandon (s : State) (p : Nat) (Hs : Good s) :
    Good (State.dpAbandon s p) := by
  unfold State.dpAbandon
  repeat' first | with_reducible assumption | dsimp only | with_reducible refine good_ite ?_ ?_ | split | intro _ | with_reducible apply good_mk

theorem good_lockLost (s : State) (n : Nat) (Hs : Good s) :
    Good (State.lockLost s n) := by
  unfold State.lockLost
  repeat' first | with_reducible assumption | with_reducible apply good_set | dsimp only | with_reducible refine good_ite ?_ ?_ | split | intro _ | with_reducible apply good_mk

theorem good_setTaps (s : State) (n : Nat) (t : Nat × Nat × Nat) (Hs : Good s) :
    Good (State.setTaps s n t) := by
  unfold State.setTaps
  repeat' first | with_reducible assumption | with_reducible apply good_set | with_reducible refine good_p1 ?_ (by with_reducible assumption) | dsimp only | with_reducible refine good_ite ?_ ?_ | split | intro _ | with_reducible apply good_mk

theorem good_lanesIdle (s : State) (p : Nat) (Hs : Good s) :
    Good (State.lanesIdle s p) := by
  unfold State.lanesIdle
  repeat' first | with_reducible assumption | with_reducible apply good_lockLost | with_reducible apply good_set | with_reducible apply good_setTaps | with_reducible refine good_foldl ?_ ?_ | dsimp only | with_reducible refine good_ite ?_ ?_ | split | intro _ | with_reducible apply good_mk

theorem good_dpForget (s : State) (p : Nat) (Hs : Good s) :
    Good (State.dpForget s p) := by
  unfold State.dpForget
  repeat' first | with_reducible assumption | with_reducible apply good_set | with_reducible refine good_foldl ?_ ?_ | dsimp only | with_reducible refine good_ite ?_ ?_ | split | intro _ | with_reducible apply good_mk

theorem good_pcieGone (s : State) (Hs : Good s) :
    Good (State.pcieGone s) := by
  unfold State.pcieGone
  repeat' first | with_reducible assumption | with_reducible apply good_set | with_reducible apply good_lanesIdle | dsimp only | with_reducible refine good_ite ?_ ?_ | split | intro _ | with_reducible apply good_mk

theorem good_laceStops (s : State) (ch : Nat) (st : Nat) (Hs : Good s) :
    Good (State.laceStops s ch st) := by
  unfold State.laceStops
  repeat' first | with_reducible assumption | with_reducible apply good_set | with_reducible apply good_raise | dsimp only | with_reducible refine good_ite ?_ ?_ | split | intro _ | with_reducible apply good_mk

theorem good_skiverStops (s : State) (st : Nat) (Hs : Good s) :
    Good (State.skiverStops s st) := by
  unfold State.skiverStops
  repeat' first | with_reducible assumption | with_reducible apply good_set | with_reducible apply good_raise | dsimp only | with_reducible refine good_ite ?_ ?_ | split | intro _ | with_reducible apply good_mk

theorem good_cutChannels (s : State) (cs : List Nat) (Hs : Good s) : Good (State.cutChannels s cs) := by
  unfold State.cutChannels
  with_reducible apply good_mk <;> with_reducible assumption

theorem good_uncheckRects (s : State) (h : Nat) (Hs : Good s) : Good (State.uncheckRects s h) := by
  unfold State.uncheckRects
  dsimp only
  with_reducible apply good_mk <;> with_reducible assumption

theorem good_soundMute (s : State) (Hs : Good s) :
    Good (State.soundMute s) := by
  unfold State.soundMute
  repeat' first | with_reducible assumption | dsimp only | with_reducible refine good_ite ?_ ?_ | split | intro _ | with_reducible apply good_mk

theorem good_soundStops (s : State) (Hs : Good s) :
    Good (State.soundStops s) := by
  unfold State.soundStops
  repeat' first | with_reducible assumption | with_reducible apply good_soundMute | dsimp only | with_reducible refine good_ite ?_ ?_ | split | intro _ | with_reducible apply good_mk

theorem good_onFence (s : State) (u : Nat) (Hs : Good s) :
    Good (State.onFence s u) := by
  unfold State.onFence
  repeat' first | with_reducible assumption | with_reducible apply good_uncheckRects | with_reducible apply good_dpAbandon | with_reducible apply good_lanesIdle | with_reducible apply good_dpForget | with_reducible apply good_setPortState | with_reducible apply good_pcieGone | with_reducible apply good_coreFaulted | with_reducible apply good_laceStops | with_reducible apply good_skiverStops | with_reducible apply good_soundStops | with_reducible apply good_cutChannels | with_reducible apply good_set | with_reducible refine good_p1 ?_ (by with_reducible assumption) | dsimp only | with_reducible refine good_ite ?_ ?_ | split | intro _ | with_reducible apply good_mk

theorem good_portEnters (s : State) (p : Nat) (Hs : Good s) :
    Good (State.portEnters s p) := by
  unfold State.portEnters
  repeat' first | with_reducible assumption | with_reducible apply good_setPortState | with_reducible apply good_set | with_reducible refine good_p1 ?_ (by with_reducible assumption) | with_reducible refine good_foldl_p1 ?_ ?_ | with_reducible refine good_foldl ?_ ?_ | dsimp only | with_reducible refine good_ite ?_ ?_ | split | intro _ | with_reducible apply good_mk

theorem good_onLift (s : State) (u : Nat) (Hs : Good s) :
    Good (State.onLift s u) := by
  unfold State.onLift
  repeat' first | with_reducible assumption | with_reducible apply good_setPortState | with_reducible apply good_set | with_reducible apply good_portEnters | with_reducible apply good_laceStops | with_reducible apply good_skiverStops | with_reducible refine good_p1 ?_ (by with_reducible assumption) | dsimp only | with_reducible refine good_ite ?_ ?_ | split | intro _ | with_reducible apply good_mk

theorem good_withReacting (s : State) (r : List (Nat × Nat)) (Hs : Good s) :
    Good (State.withReacting s r) := by
  unfold State.withReacting
  repeat' first | with_reducible assumption | with_reducible apply good_onFence | with_reducible apply good_onLift | with_reducible refine good_foldl ?_ ?_ | dsimp only | with_reducible refine good_ite ?_ ?_ | split | intro _ | with_reducible apply good_mk

theorem good_logRecord (s : State) (r : FaultRec) (Hs : Good s) :
    Good (State.logRecord s r) := by
  unfold State.logRecord
  repeat' first | with_reducible assumption | with_reducible apply good_bump | with_reducible refine good_p1 ?_ (by with_reducible assumption) | dsimp only | with_reducible refine good_ite ?_ ?_ | split | intro _ | with_reducible apply good_mk

theorem good_react (s : State) (r : FaultRec) (Hs : Good s) :
    Good (State.react s r) := by
  unfold State.react
  repeat' first | with_reducible assumption | with_reducible apply good_withReacting | dsimp only | with_reducible refine good_ite ?_ ?_ | split | intro _ | with_reducible apply good_mk

theorem good_reportG (s : State) (u : Nat) (code : Nat) (base : Nat) (detail : Nat) (forced : Bool) (real : Bool) (Hs : Good s) :
    Good (State.reportG s u code base detail forced real) := by
  unfold State.reportG
  repeat' first | with_reducible assumption | with_reducible apply good_logRecord | with_reducible apply good_react | dsimp only | with_reducible refine good_ite ?_ ?_ | split | intro _ | with_reducible apply good_mk

theorem good_report (s : State) (u : Nat) (code : Nat) (base : Nat) (detail : Nat) (Hs : Good s) :
    Good (State.report s u code base detail) := by
  unfold State.report
  repeat' first | with_reducible assumption | with_reducible apply good_reportG | dsimp only | with_reducible refine good_ite ?_ ?_ | split | intro _ | with_reducible apply good_mk

theorem good_ackUnit (s : State) (u : Nat) (cls : Nat) (all : Bool) (Hs : Good s) :
    Good (State.ackUnit s u cls all) := by
  unfold State.ackUnit
  repeat' first | with_reducible assumption | with_reducible apply good_withReacting | dsimp only | with_reducible refine good_ite ?_ ?_ | split | intro _ | with_reducible apply good_mk

/-! ## Icu -/

theorem good_clearPend (s : State) (n : Nat) (Hs : Good s) :
    Good (State.clearPend s n) := by
  unfold State.clearPend
  repeat' first | with_reducible assumption | dsimp only | with_reducible refine good_ite ?_ ?_ | split | intro _ | with_reducible apply good_mk

theorem good_startHold (s : State) (g : Nat) (Hs : Good s) :
    Good (State.startHold s g) := by
  unfold State.startHold
  repeat' first | with_reducible assumption | with_reducible apply good_set | dsimp only | with_reducible refine good_ite ?_ ?_ | split | intro _ | with_reducible apply good_mk

theorem good_acceptSrc (s : State) (c : Nat) (src : Nat) (Hs : Good s) :
    Good (State.acceptSrc s c src) := by
  unfold State.acceptSrc
  repeat' first | with_reducible assumption | with_reducible apply good_clearPend | with_reducible apply good_startHold | dsimp only | with_reducible refine good_ite ?_ ?_ | split | intro _ | with_reducible apply good_mk

theorem good_acceptHost (s : State) (v : Nat) (src : Nat) (Hs : Good s) :
    Good (State.acceptHost s v src) := by
  unfold State.acceptHost
  repeat' first | with_reducible assumption | with_reducible apply good_clearPend | with_reducible apply good_startHold | dsimp only | with_reducible refine good_ite ?_ ?_ | split | intro _ | with_reducible apply good_mk

theorem good_eoi (s : State) (t : Nat) (src : Nat) (Hs : Good s) :
    Good (State.eoi s t src) := by
  unfold State.eoi
  repeat' first | with_reducible assumption | with_reducible apply good_set | with_reducible refine good_p1 ?_ (by with_reducible assumption) | dsimp only | with_reducible refine good_ite ?_ ?_ | split | intro _ | with_reducible apply good_mk

theorem good_claimRead (s : State) (t : Nat) (Hs : Good s) :
    Good (State.claimRead s t) := by
  unfold State.claimRead
  repeat' first | with_reducible assumption | with_reducible apply good_bump | with_reducible refine good_p1 ?_ (by with_reducible assumption) | dsimp only | with_reducible refine good_ite ?_ ?_ | split | intro _ | with_reducible apply good_mk

theorem good_setCmp (s : State) (k : Nat) (v : Nat) (Hs : Good s) :
    Good (State.setCmp s k v) := by
  unfold State.setCmp
  repeat' first | with_reducible assumption | with_reducible apply good_set | dsimp only | with_reducible refine good_ite ?_ ?_ | split | intro _ | with_reducible apply good_mk

theorem good_fireCmp (s : State) (k : Nat) (step : Bool) (Hs : Good s) :
    Good (State.fireCmp s k step) := by
  unfold State.fireCmp
  repeat' first | with_reducible assumption | with_reducible apply good_set | with_reducible apply good_raise | with_reducible apply good_setCmp | dsimp only | with_reducible refine good_ite ?_ ?_ | split | intro _ | with_reducible apply good_mk

theorem good_stepTime (s : State) (t : Nat) (Hs : Good s) :
    Good (State.stepTime s t) := by
  unfold State.stepTime
  repeat' first | with_reducible assumption | with_reducible apply good_fireCmp | with_reducible refine good_foldl ?_ ?_ | dsimp only | with_reducible refine good_ite ?_ ?_ | split | intro _ | with_reducible apply good_mk

theorem good_captureOn (s : State) (k : Nat) (Hs : Good s) :
    Good (State.captureOn s k) := by
  unfold State.captureOn
  repeat' first | with_reducible assumption | with_reducible apply good_set | dsimp only | with_reducible refine good_ite ?_ ?_ | split | intro _ | with_reducible apply good_mk

theorem good_captureTrig (s : State) (trig : Nat) (rising : Bool) (Hs : Good s) :
    Good (State.captureTrig s trig rising) := by
  unfold State.captureTrig
  repeat' first | with_reducible assumption | with_reducible apply good_captureOn | with_reducible refine good_foldl ?_ ?_ | dsimp only | with_reducible refine good_ite ?_ ?_ | split | intro _ | with_reducible apply good_mk

theorem good_captureRead (s : State) (k : Nat) (Hs : Good s) :
    Good (State.captureRead s k).2 := by
  unfold State.captureRead
  repeat' first | with_reducible assumption | with_reducible refine good_p1 ?_ (by with_reducible assumption) | dsimp only | with_reducible refine good_ite ?_ ?_ | split | intro _ | with_reducible apply good_mk

theorem good_wdReload (s : State) (n : Nat) (Hs : Good s) :
    Good (State.wdReload s n) := by
  unfold State.wdReload
  repeat' first | with_reducible assumption | with_reducible apply good_set | dsimp only | with_reducible refine good_ite ?_ ?_ | split | intro _ | with_reducible apply good_mk

theorem good_slowTick (s : State) (Hs : Good s) :
    Good (State.slowTick s) := by
  unfold State.slowTick
  repeat' first | with_reducible assumption | dsimp only | with_reducible refine good_ite ?_ ?_ | split | intro _ | with_reducible apply good_mk

theorem good_timeTick (s : State) (Hs : Good s) :
    Good (State.timeTick s) := by
  unfold State.timeTick
  repeat' first | with_reducible assumption | with_reducible apply good_set | with_reducible refine good_p1 ?_ (by with_reducible assumption) | with_reducible refine good_foldl_p1 ?_ ?_ | with_reducible refine good_foldl ?_ ?_ | dsimp only | with_reducible refine good_ite ?_ ?_ | split | intro _ | with_reducible apply good_mk

/-! ## Replies -/

theorem good_putReply (s : State) (r : Req) (ws : List Nat) (first : Bool) (Hs : Good s) :
    Good (State.putReply s r ws first) := by
  unfold State.putReply
  repeat' first | with_reducible assumption | with_reducible apply good_bus_tongue | with_reducible apply Fin'.good_done | with_reducible refine Fin'.good_of_done ?_ (by with_reducible assumption) | with_reducible apply Fin'.good_wait | with_reducible refine Fin'.good_eq ?_ (by with_reducible assumption) | dsimp only | with_reducible refine good_ite ?_ ?_ | split | intro _ | with_reducible apply good_mk

theorem good_answer (s : State) (r : Req) (status : Nat) (body : List Nat) (Hs : Good s) :
    Good (State.answer s r status body) := by
  unfold State.answer
  repeat' first | with_reducible assumption | with_reducible apply good_putReply | with_reducible apply good_bus_replyWords | with_reducible apply RunOut.good_ok | with_reducible refine RunOut.good_of_ok ?_ (by with_reducible assumption) | with_reducible apply RunOut.good_wait | with_reducible refine RunOut.good_eq ?_ (by with_reducible assumption) | dsimp only | with_reducible refine good_ite ?_ ?_ | split | intro _ | with_reducible apply good_mk

theorem good_answerFirst (s : State) (r : Req) (status : Nat) (body : List Nat) (Hs : Good s) :
    Good (State.answerFirst s r status body) := by
  unfold State.answerFirst
  repeat' first | with_reducible assumption | with_reducible apply good_putReply | with_reducible apply good_bus_replyWords | with_reducible apply RunOut.good_ok | with_reducible refine RunOut.good_of_ok ?_ (by with_reducible assumption) | with_reducible apply RunOut.good_wait | with_reducible refine RunOut.good_eq ?_ (by with_reducible assumption) | dsimp only | with_reducible refine good_ite ?_ ?_ | split | intro _ | with_reducible apply good_mk

/-! ## Image -/

theorem good_modSec (s : State) (f : SecS → SecS) (Hs : Good s) :
    Good (State.modSec s f) := by
  unfold State.modSec
  repeat' first | with_reducible assumption | dsimp only | with_reducible refine good_ite ?_ ?_ | split | intro _ | with_reducible apply good_mk

theorem good_joinPath (s : State) (u : VerUser) (Hs : Good s) :
    Good (State.joinPath s u) := by
  unfold State.joinPath
  repeat' first | with_reducible assumption | with_reducible apply good_modSec | dsimp only | with_reducible refine good_ite ?_ ?_ | split | intro _ | with_reducible apply good_mk

/-! ## Memory -/

theorem good_poolTake (s : State) (k : Nat) (Hs : Good s) :
    Good (State.poolTake s k) := by
  unfold State.poolTake
  repeat' first | with_reducible assumption | with_reducible apply good_set | with_reducible apply good_raiseTo | dsimp only | with_reducible refine good_ite ?_ ?_ | split | intro _ | with_reducible apply good_mk

theorem good_poolFreeOne (s : State) (k : Nat) (Hs : Good s) :
    Good (State.poolFreeOne s k) := by
  unfold State.poolFreeOne
  repeat' first | with_reducible assumption | with_reducible apply good_set | dsimp only | with_reducible refine good_ite ?_ ?_ | split | intro _ | with_reducible apply good_mk

theorem good_poolWait (s : State) (k : Nat) (Hs : Good s) :
    Good (State.poolWait s k) := by
  unfold State.poolWait
  repeat' first | with_reducible assumption | dsimp only | with_reducible refine good_ite ?_ ?_ | split | intro _ | with_reducible apply good_mk

theorem good_poolServed (s : State) (k : Nat) (Hs : Good s) :
    Good (State.poolServed s k) := by
  unfold State.poolServed
  repeat' first | with_reducible assumption | dsimp only | with_reducible refine good_ite ?_ ?_ | split | intro _ | with_reducible apply good_mk

theorem good_tackUse (s : State) (m : Nat) (Hs : Good s) :
    Good (State.tackUse s m) := by
  unfold State.tackUse
  repeat' first | with_reducible assumption | with_reducible apply good_poolServed | with_reducible apply good_poolTake | with_reducible apply good_poolFreeOne | with_reducible refine good_p1 ?_ (by with_reducible assumption) | dsimp only | with_reducible refine good_ite ?_ ?_ | split | intro _ | with_reducible apply good_mk

theorem good_writePool (s : State) (k : Nat) (v : Nat) (Hs : Good s) :
    Good (State.writePool s k v) := by
  unfold State.writePool
  repeat' first | with_reducible assumption | with_reducible apply good_set | with_reducible apply good_plainWrite | dsimp only | with_reducible refine good_ite ?_ ?_ | split | intro _ | with_reducible apply good_mk

theorem good_writePoolStat (s : State) (k : Nat) (v : Nat) (Hs : Good s) :
    Good (State.writePoolStat s k v) := by
  unfold State.writePoolStat
  repeat' first | with_reducible assumption | with_reducible apply good_plainWrite | with_reducible apply good_set | dsimp only | with_reducible refine good_ite ?_ ?_ | split | intro _ | with_reducible apply good_mk

theorem good_writeSlStat (s : State) (n : Nat) (v : Nat) (Hs : Good s) :
    Good (State.writeSlStat s n v) := by
  unfold State.writeSlStat
  repeat' first | with_reducible assumption | with_reducible apply good_set | dsimp only | with_reducible refine good_ite ?_ ?_ | split | intro _ | with_reducible apply good_mk

theorem good_writeSlLat (s : State) (n : Nat) (v : Nat) (Hs : Good s) :
    Good (State.writeSlLat s n v) := by
  unfold State.writeSlLat
  repeat' first | with_reducible assumption | with_reducible apply good_set | dsimp only | with_reducible refine good_ite ?_ ?_ | split | intro _ | with_reducible apply good_mk

theorem good_writeSlLine (s : State) (n : Nat) (v : Nat) (Hs : Good s) :
    Good (State.writeSlLine s n v) := by
  unfold State.writeSlLine
  repeat' first | with_reducible assumption | with_reducible apply good_set | dsimp only | with_reducible refine good_ite ?_ ?_ | split | intro _ | with_reducible apply good_mk

theorem good_writeCap (s : State) (Hs : Good s) :
    Good (State.writeCap s) := by
  unfold State.writeCap
  repeat' first | with_reducible assumption | with_reducible apply good_set | dsimp only | with_reducible refine good_ite ?_ ?_ | split | intro _ | with_reducible apply good_mk

theorem good_loseGddr (s : State) (Hs : Good s) :
    Good (State.loseGddr s) := by
  unfold State.loseGddr
  repeat' first | with_reducible assumption | with_reducible apply good_loseMem | dsimp only | with_reducible refine good_ite ?_ ?_ | split | intro _ | with_reducible apply good_mk

theorem good_memReadyBit (s : State) (Hs : Good s) :
    Good (State.memReadyBit s) := by
  unfold State.memReadyBit
  repeat' first | with_reducible assumption | with_reducible apply good_setB | dsimp only | with_reducible refine good_ite ?_ ?_ | split | intro _ | with_reducible apply good_mk

theorem good_startTraining (s : State) (Hs : Good s) :
    Good (State.startTraining s) := by
  unfold State.startTraining
  repeat' first | with_reducible assumption | with_reducible apply good_set | with_reducible apply good_setB | with_reducible apply good_loseGddr | with_reducible apply good_memReadyBit | with_reducible refine good_foldl ?_ ?_ | dsimp only | with_reducible refine good_ite ?_ ?_ | split | intro _ | with_reducible apply good_mk

theorem good_writeMemCtl (s : State) (v : Nat) (Hs : Good s) :
    Good (State.writeMemCtl s v) := by
  unfold State.writeMemCtl
  repeat' first | with_reducible assumption | with_reducible apply good_startTraining | dsimp only | with_reducible refine good_ite ?_ ?_ | split | intro _ | with_reducible apply good_mk

theorem good_trainChannel (s : State) (c : Nat) (Hs : Good s) :
    Good (State.trainChannel s c) := by
  unfold State.trainChannel
  repeat' first | with_reducible assumption | with_reducible apply good_set | with_reducible apply good_loseMem | with_reducible apply good_loseGddr | with_reducible apply good_memReadyBit | dsimp only | with_reducible refine good_ite ?_ ?_ | split | intro _ | with_reducible apply good_mk

theorem good_endTraining (s : State) (rate : Nat) (fail : Nat) (eyes : List (Nat × Nat)) (Hs : Good s) :
    Good (State.endTraining s rate fail eyes) := by
  unfold State.endTraining
  repeat' first | with_reducible assumption | with_reducible apply good_set | with_reducible apply good_memReadyBit | with_reducible apply good_report | with_reducible apply good_writeCap | with_reducible refine good_foldl ?_ ?_ | dsimp only | with_reducible refine good_ite ?_ ?_ | split | intro _ | with_reducible apply good_mk

theorem good_selfRefresh (s : State) (Hs : Good s) :
    Good (State.selfRefresh s) := by
  unfold State.selfRefresh
  repeat' first | with_reducible assumption | with_reducible apply good_set | with_reducible apply good_memReadyBit | with_reducible refine good_foldl ?_ ?_ | dsimp only | with_reducible refine good_ite ?_ ?_ | split | intro _ | with_reducible apply good_mk

theorem good_exitRefresh (s : State) (Hs : Good s) :
    Good (State.exitRefresh s) := by
  unfold State.exitRefresh
  repeat' first | with_reducible assumption | with_reducible apply good_set | with_reducible apply good_memReadyBit | with_reducible refine good_foldl ?_ ?_ | dsimp only | with_reducible refine good_ite ?_ ?_ | split | intro _ | with_reducible apply good_mk

theorem good_writeEcc (s : State) (n : Nat) (v : Nat) (Hs : Good s) :
    Good (State.writeEcc s n v) := by
  unfold State.writeEcc
  repeat' first | with_reducible assumption | with_reducible apply good_set | with_reducible apply good_plainWrite | with_reducible apply good_loseMem | with_reducible apply good_writeCap | dsimp only | with_reducible refine good_ite ?_ ?_ | split | intro _ | with_reducible apply good_mk

theorem good_eccError (s : State) (a : Nat) (m : Nat) (ue : Bool) (Hs : Good s) :
    Good (State.eccError s a m ue) := by
  unfold State.eccError
  repeat' first | with_reducible assumption | with_reducible apply good_bump | with_reducible apply good_set | with_reducible apply good_setB | with_reducible apply good_report | dsimp only | with_reducible refine good_ite ?_ ?_ | split | intro _ | with_reducible apply good_mk

theorem good_burst (s : State) (a : Nat) (m : Nat) (e : BurstEnd) (Hs : Good s) :
    Good (State.burst s a m e).1 := by
  unfold State.burst
  repeat' first | with_reducible assumption | with_reducible apply good_bump | with_reducible apply good_eccError | with_reducible refine good_p1 ?_ (by with_reducible assumption) | dsimp only | with_reducible refine good_ite ?_ ?_ | split | intro _ | with_reducible apply good_mk

end Sys2Proof.Machine
end

