-- ==== Sys2Proof/Laws/GoodUnits.lean ====
section
/-! SUPPORT. Canonical form kept: Lasts, heads, layers, pace, sound, lanes and Welt. -/
namespace Sys2Proof.Machine

/-! ## Last -/

theorem good_slotName (s : State) (n : Nat) (Hs : Good s) :
    Good (State.slotName s n) := by
  unfold State.slotName
  repeat' first | with_reducible assumption | with_reducible apply good_set | dsimp only | with_reducible refine good_ite ?_ ?_ | split | intro _ | with_reducible apply good_mk

theorem good_setSlot (s : State) (n : Nat) (st : Nat) (Hs : Good s) :
    Good (State.setSlot s n st) := by
  unfold State.setSlot
  repeat' first | with_reducible assumption | with_reducible apply good_set | with_reducible apply good_slotName | dsimp only | with_reducible refine good_ite ?_ ?_ | split | intro _ | with_reducible apply good_mk

theorem good_refreshSlots (s : State) (Hs : Good s) :
    Good (State.refreshSlots s) := by
  unfold State.refreshSlots
  repeat' first | with_reducible assumption | with_reducible apply good_setSlot | with_reducible refine good_foldl ?_ ?_ | dsimp only | with_reducible refine good_ite ?_ ?_ | split | intro _ | with_reducible apply good_mk

theorem good_dropCur (s : State) (h : Nat) (Hs : Good s) :
    Good (State.dropCur s h) := by
  unfold State.dropCur
  repeat' first | with_reducible assumption | with_reducible apply good_set | with_reducible apply good_refreshSlots | dsimp only | with_reducible refine good_ite ?_ ?_ | split | intro _ | with_reducible apply good_mk

theorem good_admitRegs (s : State) (slot : Nat) (f : Option AdmitFail) (Hs : Good s) :
    Good (State.admitRegs s slot f) := by
  unfold State.admitRegs
  repeat' first | with_reducible assumption | with_reducible apply good_setRegN | dsimp only | with_reducible refine good_ite ?_ ?_ | split | intro _ | with_reducible apply good_mk

theorem good_admitReply (s : State) (r : Req) (f : Option AdmitFail) (Hs : Good s) :
    Good (State.admitReply s r f) := by
  unfold State.admitReply
  repeat' first | with_reducible assumption | with_reducible apply good_answer | dsimp only | with_reducible refine good_ite ?_ ?_ | split | intro _ | with_reducible apply good_mk

theorem good_loseLasts (s : State) (reply : Bool) (Hs : Good s) :
    Good (State.loseLasts s reply) := by
  unfold State.loseLasts
  repeat' first | with_reducible assumption | with_reducible apply good_setSlot | with_reducible apply good_loseMem | with_reducible apply good_set | with_reducible apply good_answer | with_reducible apply good_admitRegs | with_reducible apply good_admitReply | with_reducible refine good_p1 ?_ (by with_reducible assumption) | with_reducible refine good_foldl_p1 ?_ ?_ | with_reducible refine good_foldl ?_ ?_ | dsimp only | with_reducible refine good_ite ?_ ?_ | split | intro _ | with_reducible apply good_mk

theorem good_openSlot (s : State) (slot : Nat) (Hs : Good s) :
    Good (State.openSlot s slot) := by
  unfold State.openSlot
  repeat' first | with_reducible assumption | with_reducible apply good_loseMem | with_reducible apply good_setSlot | dsimp only | with_reducible refine good_ite ?_ ?_ | split | intro _ | with_reducible apply good_mk

theorem good_stageWords (s : State) (slot : Nat) (off : Nat) (ws : List Nat) (Hs : Good s) :
    Good (State.stageWords s slot off ws) := by
  unfold State.stageWords
  repeat' first | with_reducible assumption | with_reducible apply good_setWords | dsimp only | with_reducible refine good_ite ?_ ?_ | split | intro _ | with_reducible apply good_mk

theorem good_lastStage (s : State) (r : Req) (o : Nat) (p : Packet) (Hs : Good s) :
    Good (State.lastStage s r o p) := by
  unfold State.lastStage
  repeat' first | with_reducible assumption | with_reducible apply good_answer | with_reducible apply good_openSlot | with_reducible apply good_stageWords | dsimp only | with_reducible refine good_ite ?_ ?_ | split | intro _ | with_reducible apply good_mk

theorem good_lastRelease (s : State) (r : Req) (o : Nat) (p : Packet) (Hs : Good s) :
    Good (State.lastRelease s r o p) := by
  unfold State.lastRelease
  repeat' first | with_reducible assumption | with_reducible apply good_answer | with_reducible apply good_setSlot | dsimp only | with_reducible refine good_ite ?_ ?_ | split | intro _ | with_reducible apply good_mk

theorem good_lastAdmit (s : State) (r : Req) (o : Nat) (p : Packet) (Hs : Good s) :
    Good (State.lastAdmit s r o p) := by
  unfold State.lastAdmit
  repeat' first | with_reducible assumption | with_reducible apply good_answer | with_reducible apply good_setSlot | with_reducible apply good_joinPath | dsimp only | with_reducible refine good_ite ?_ ?_ | split | intro _ | with_reducible apply good_mk

theorem good_lastAdmitAny (s : State) (r : Req) (o : Nat) (p : Packet) (Hs : Good s) :
    Good (State.lastAdmitAny s r o p) := by
  unfold State.lastAdmitAny
  repeat' first | with_reducible assumption | with_reducible apply good_lastRelease | with_reducible apply good_lastAdmit | dsimp only | with_reducible refine good_ite ?_ ?_ | split | intro _ | with_reducible apply good_mk

theorem good_admitWith (s : State) (slot : Nat) (r : Req) (f : Option AdmitFail) (Hs : Good s) :
    Good (State.admitWith s slot r f) := by
  unfold State.admitWith
  repeat' first | with_reducible assumption | with_reducible apply good_admitRegs | with_reducible apply good_setSlot | with_reducible apply good_admitReply | with_reducible refine good_p1 ?_ (by with_reducible assumption) | dsimp only | with_reducible refine good_ite ?_ ?_ | split | intro _ | with_reducible apply good_mk

theorem good_admitEnd (s : State) (Hs : Good s) :
    Good (State.admitEnd s) := by
  unfold State.admitEnd
  repeat' first | with_reducible assumption | with_reducible apply good_admitWith | with_reducible apply good_setRegN | with_reducible refine good_p1 ?_ (by with_reducible assumption) | dsimp only | with_reducible refine good_ite ?_ ?_ | split | intro _ | with_reducible apply good_mk

theorem good_lastSettle (s : State) (Hs : Good s) :
    Good (State.lastSettle s) := by
  unfold State.lastSettle
  repeat' first | with_reducible assumption | with_reducible apply good_admitWith | with_reducible refine good_p1 ?_ (by with_reducible assumption) | dsimp only | with_reducible refine good_ite ?_ ?_ | split | intro _ | with_reducible apply good_mk

theorem good_writeLastCtl (s : State) (v : Nat) (Hs : Good s) :
    Good (State.writeLastCtl s v) := by
  unfold State.writeLastCtl
  repeat' first | with_reducible assumption | with_reducible apply good_set | dsimp only | with_reducible refine good_ite ?_ ?_ | split | intro _ | with_reducible apply good_mk

theorem good_writeSel (s : State) (h : Nat) (v : Nat) (Hs : Good s) :
    Good (State.writeSel s h v) := by
  unfold State.writeSel
  repeat' first | with_reducible assumption | with_reducible apply good_set | dsimp only | with_reducible refine good_ite ?_ ?_ | split | intro _ | with_reducible apply good_mk

/-! ## Heads -/

theorem good_setHead (s : State) (h : Nat) (v : HeadS) (Hs : Good s) :
    Good (State.setHead s h v) := by
  unfold State.setHead
  repeat' first | with_reducible assumption | dsimp only | with_reducible refine good_ite ?_ ?_ | split | intro _ | with_reducible apply good_mk

theorem good_modHead (s : State) (h : Nat) (f : HeadS → HeadS) (Hs : Good s) :
    Good (State.modHead s h f) := by
  unfold State.modHead
  repeat' first | with_reducible assumption | with_reducible apply good_setHead | dsimp only | with_reducible refine good_ite ?_ ?_ | split | intro _ | with_reducible apply good_mk

theorem good_setSole (s : State) (n : Nat) (v : SoleS) (Hs : Good s) :
    Good (State.setSole s n v) := by
  unfold State.setSole
  repeat' first | with_reducible assumption | dsimp only | with_reducible refine good_ite ?_ ?_ | split | intro _ | with_reducible apply good_mk

theorem good_modSole (s : State) (n : Nat) (f : SoleS → SoleS) (Hs : Good s) :
    Good (State.modSole s n f) := by
  unfold State.modSole
  repeat' first | with_reducible assumption | with_reducible apply good_setSole | dsimp only | with_reducible refine good_ite ?_ ?_ | split | intro _ | with_reducible apply good_mk

theorem good_captureDecerr (s : State) (m : Nat) (a : Nat) (wr : Bool) (Hs : Good s) :
    Good (State.captureDecerr s m a wr) := by
  unfold State.captureDecerr
  repeat' first | with_reducible assumption | with_reducible apply good_set | with_reducible apply good_setB | dsimp only | with_reducible refine good_ite ?_ ?_ | split | intro _ | with_reducible apply good_mk

theorem good_unmapped (s : State) (m : Nat) (a : Nat) (wr : Bool) (Hs : Good s) :
    Good (State.unmapped s m a wr) := by
  unfold State.unmapped
  repeat' first | with_reducible assumption | with_reducible apply good_captureDecerr | with_reducible apply good_report | dsimp only | with_reducible refine good_ite ?_ ?_ | split | intro _ | with_reducible apply good_mk

theorem good_takeTiming (s : State) (h : Nat) (Hs : Good s) :
    Good (State.takeTiming s h) := by
  unfold State.takeTiming
  repeat' first | with_reducible assumption | with_reducible apply good_setReg | with_reducible refine good_foldl ?_ ?_ | dsimp only | with_reducible refine good_ite ?_ ?_ | split | intro _ | with_reducible apply good_mk

theorem good_takeLastTiming (s : State) (h : Nat) (w : Img) (e : Nat) (Hs : Good s) :
    Good (State.takeLastTiming s h w e) := by
  unfold State.takeLastTiming
  repeat' first | with_reducible assumption | with_reducible apply good_setRegN | with_reducible apply good_set | with_reducible apply good_takeTiming | dsimp only | with_reducible refine good_ite ?_ ?_ | split | intro _ | with_reducible apply good_mk

theorem good_oncePerLine (s : State) (h : Nat) (y : Nat) (code : Nat) (f : State → State) (Hs : Good s) (Hf : ∀ a, Good a → Good (f a)) :
    Good (State.oncePerLine s h y code f) := by
  unfold State.oncePerLine
  repeat' first | with_reducible assumption | with_reducible apply Hf | with_reducible apply good_modHead | dsimp only | with_reducible refine good_ite ?_ ?_ | split | intro _ | with_reducible apply good_mk

theorem good_clip (s : State) (h : Nat) (y : Nat) (k : Nat) (Hs : Good s) :
    Good (State.clip s h y k) := by
  unfold State.clip
  repeat' first | with_reducible assumption | with_reducible apply good_oncePerLine | with_reducible apply good_bump | with_reducible apply good_report | dsimp only | with_reducible refine good_ite ?_ ?_ | split | intro _ | with_reducible apply good_mk

theorem good_layerFault (s : State) (h : Nat) (y : Nat) (lc : Nat) (Hs : Good s) :
    Good (State.layerFault s h y lc) := by
  unfold State.layerFault
  repeat' first | with_reducible assumption | with_reducible apply good_oncePerLine | with_reducible apply good_report | dsimp only | with_reducible refine good_ite ?_ ?_ | split | intro _ | with_reducible apply good_mk

theorem good_llCount (s : State) (h : Nat) (y : Nat) (code : Nat) (f : Fd) (Hs : Good s) :
    Good (State.llCount s h y code f) := by
  unfold State.llCount
  repeat' first | with_reducible assumption | with_reducible apply good_oncePerLine | with_reducible apply good_bump | dsimp only | with_reducible refine good_ite ?_ ?_ | split | intro _ | with_reducible apply good_mk

theorem good_llFault (s : State) (h : Nat) (y : Nat) (Hs : Good s) :
    Good (State.llFault s h y) := by
  unfold State.llFault
  repeat' first | with_reducible assumption | with_reducible apply good_oncePerLine | with_reducible apply good_report | dsimp only | with_reducible refine good_ite ?_ ?_ | split | intro _ | with_reducible apply good_mk

theorem good_writeLc (s : State) (lc : Nat) (k : Nat) (v : Nat) (Hs : Good s) :
    Good (State.writeLc s lc k v) := by
  unfold State.writeLc
  repeat' first | with_reducible assumption | with_reducible apply good_plainWrite | with_reducible apply good_setReg | dsimp only | with_reducible refine good_ite ?_ ?_ | split | intro _ | with_reducible apply good_mk

/-! ## Layers -/

/-! ## Pace -/

theorem good_gaugeEnd (s : State) (g : Nat) (v : Nat) (Hs : Good s) :
    Good (State.gaugeEnd s g v) := by
  unfold State.gaugeEnd
  repeat' first | with_reducible assumption | with_reducible apply good_set | with_reducible apply good_report | dsimp only | with_reducible refine good_ite ?_ ?_ | split | intro _ | with_reducible apply good_mk

theorem good_writePace (s : State) (g : Nat) (v : Nat) (Hs : Good s) :
    Good (State.writePace s g v) := by
  unfold State.writePace
  repeat' first | with_reducible assumption | with_reducible apply good_set | dsimp only | with_reducible refine good_ite ?_ ?_ | split | intro _ | with_reducible apply good_mk

theorem good_modPace (s : State) (f : PaceS → PaceS) (Hs : Good s) :
    Good (State.modPace s f) := by
  unfold State.modPace
  repeat' first | with_reducible assumption | dsimp only | with_reducible refine good_ite ?_ ?_ | split | intro _ | with_reducible apply good_mk

theorem good_paceTick (s : State) (Hs : Good s) :
    Good (State.paceTick s) := by
  unfold State.paceTick
  repeat' first | with_reducible assumption | with_reducible apply good_modPace | dsimp only | with_reducible refine good_ite ?_ ?_ | split | intro _ | with_reducible apply good_mk

theorem good_loopStart (s : State) (ph : LoopPhase) (code : Nat) (word : Nat) (Hs : Good s) :
    Good (State.loopStart s ph code word) := by
  unfold State.loopStart
  repeat' first | with_reducible assumption | with_reducible apply good_modPace | with_reducible apply good_set | dsimp only | with_reducible refine good_ite ?_ ?_ | split | intro _ | with_reducible apply good_mk

theorem good_loopPut (s : State) (v : Nat) (ph : LoopPhase) (Hs : Good s) :
    Good (State.loopPut s v ph) := by
  unfold State.loopPut
  repeat' first | with_reducible assumption | with_reducible apply good_draw | with_reducible apply good_loopStart | dsimp only | with_reducible refine good_ite ?_ ?_ | split | intro _ | with_reducible apply good_mk

theorem good_loopSend (s : State) (v : Nat) (ph : LoopPhase) (Hs : Good s) :
    Good (State.loopSend s v ph) := by
  unfold State.loopSend
  repeat' first | with_reducible assumption | with_reducible apply good_set | with_reducible apply good_loopPut | dsimp only | with_reducible refine good_ite ?_ ?_ | split | intro _ | with_reducible apply good_mk

theorem good_loopIdle (s : State) (ph : LoopPhase) (n : Nat) (Hs : Good s) :
    Good (State.loopIdle s ph n) := by
  unfold State.loopIdle
  repeat' first | with_reducible assumption | with_reducible apply good_modPace | with_reducible apply good_set | dsimp only | with_reducible refine good_ite ?_ ?_ | split | intro _ | with_reducible apply good_mk

theorem good_loopMeasure (s : State) (Hs : Good s) :
    Good (State.loopMeasure s) := by
  unfold State.loopMeasure
  repeat' first | with_reducible assumption | with_reducible apply good_loopIdle | with_reducible apply good_modPace | dsimp only | with_reducible refine good_ite ?_ ?_ | split | intro _ | with_reducible apply good_mk

theorem good_loopWait (s : State) (Hs : Good s) :
    Good (State.loopWait s) := by
  unfold State.loopWait
  repeat' first | with_reducible assumption | with_reducible apply good_loopIdle | with_reducible apply good_set | with_reducible apply good_modPace | dsimp only | with_reducible refine good_ite ?_ ?_ | split | intro _ | with_reducible apply good_mk

theorem good_loopOff (s : State) (Hs : Good s) :
    Good (State.loopOff s) := by
  unfold State.loopOff
  repeat' first | with_reducible assumption | with_reducible apply good_loopIdle | with_reducible apply good_set | with_reducible apply good_modPace | dsimp only | with_reducible refine good_ite ?_ ?_ | split | intro _ | with_reducible apply good_mk

theorem good_loopEmerg (s : State) (Hs : Good s) :
    Good (State.loopEmerg s) := by
  unfold State.loopEmerg
  repeat' first | with_reducible assumption | with_reducible apply good_loopSend | with_reducible apply good_set | with_reducible apply good_modPace | dsimp only | with_reducible refine good_ite ?_ ?_ | split | intro _ | with_reducible apply good_mk

theorem good_loopGuard (s : State) (Hs : Good s) :
    Good (State.loopGuard s) := by
  unfold State.loopGuard
  repeat' first | with_reducible assumption | with_reducible apply good_modPace | with_reducible apply good_loopEmerg | with_reducible refine good_p1 ?_ (by with_reducible assumption) | dsimp only | with_reducible refine good_ite ?_ ?_ | split | intro _ | with_reducible apply good_mk

theorem good_recordSlack (s : State) (n : Nat) (slack : Int) (Hs : Good s) :
    Good (State.recordSlack s n slack) := by
  unfold State.recordSlack
  repeat' first | with_reducible assumption | with_reducible apply good_set | with_reducible apply good_modPace | with_reducible apply good_bump | with_reducible apply good_raise | with_reducible apply good_loopGuard | dsimp only | with_reducible refine good_ite ?_ ?_ | split | intro _ | with_reducible apply good_mk

theorem good_loopPeriodEnd (s : State) (Hs : Good s) :
    Good (State.loopPeriodEnd s) := by
  unfold State.loopPeriodEnd
  repeat' first | with_reducible assumption | with_reducible apply good_setB | with_reducible apply good_set | with_reducible apply good_loopMeasure | with_reducible apply good_loopSend | with_reducible refine good_p1 ?_ (by with_reducible assumption) | dsimp only | with_reducible refine good_ite ?_ ?_ | split | intro _ | with_reducible apply good_mk

theorem good_loopBegin (s : State) (Hs : Good s) :
    Good (State.loopBegin s) := by
  unfold State.loopBegin
  repeat' first | with_reducible assumption | with_reducible apply good_loopStart | with_reducible apply good_modPace | dsimp only | with_reducible refine good_ite ?_ ?_ | split | intro _ | with_reducible apply good_mk

theorem good_loopSettleEnd (s : State) (Hs : Good s) :
    Good (State.loopSettleEnd s) := by
  unfold State.loopSettleEnd
  repeat' first | with_reducible assumption | with_reducible apply good_loopBegin | with_reducible apply good_loopEmerg | with_reducible apply good_loopMeasure | dsimp only | with_reducible refine good_ite ?_ ?_ | split | intro _ | with_reducible apply good_mk

theorem good_loopHoldEnd (s : State) (Hs : Good s) :
    Good (State.loopHoldEnd s) := by
  unfold State.loopHoldEnd
  repeat' first | with_reducible assumption | with_reducible apply good_loopWait | dsimp only | with_reducible refine good_ite ?_ ?_ | split | intro _ | with_reducible apply good_mk

theorem good_loopAfter (s : State) (go : State → State) (Hs : Good s) (Hgo : ∀ a, Good a → Good (go a)) :
    Good (State.loopAfter s go) := by
  unfold State.loopAfter
  repeat' first | with_reducible assumption | with_reducible apply Hgo | with_reducible apply good_loopIdle | with_reducible apply good_loopOff | with_reducible apply good_modPace | with_reducible apply good_loopPut | with_reducible apply good_loopWait | with_reducible apply good_loopBegin | with_reducible refine good_p1 ?_ (by with_reducible assumption) | dsimp only | with_reducible refine good_ite ?_ ?_ | split | intro _ | with_reducible apply good_mk

theorem good_loopFail (s : State) (Hs : Good s) :
    Good (State.loopFail s) := by
  unfold State.loopFail
  repeat' first | with_reducible assumption | with_reducible apply good_set | with_reducible apply good_report | with_reducible apply good_loopAfter | with_reducible apply good_loopWait | dsimp only | with_reducible refine good_ite ?_ ?_ | split | intro _ | with_reducible apply good_mk

theorem good_loopFinal (s : State) (Hs : Good s) :
    Good (State.loopFinal s) := by
  unfold State.loopFinal
  repeat' first | with_reducible assumption | with_reducible apply good_loopSend | with_reducible apply good_modPace | dsimp only | with_reducible refine good_ite ?_ ?_ | split | intro _ | with_reducible apply good_mk

theorem good_loopDone (s : State) (mode : Nat) (Hs : Good s) :
    Good (State.loopDone s mode) := by
  unfold State.loopDone
  repeat' first | with_reducible assumption | with_reducible apply good_loopFinal | with_reducible apply good_modPace | with_reducible apply good_loopAfter | with_reducible apply good_loopWait | with_reducible apply good_set | with_reducible apply good_loopEmerg | with_reducible apply good_loopMeasure | with_reducible apply good_loopIdle | with_reducible apply good_loopOff | with_reducible refine good_p1 ?_ (by with_reducible assumption) | dsimp only | with_reducible refine good_ite ?_ ?_ | split | intro _ | with_reducible apply good_mk

theorem good_loopTransaction (s : State) (ack : Bool) (mode : Nat) (Hs : Good s) :
    Good (State.loopTransaction s ack mode) := by
  unfold State.loopTransaction
  repeat' first | with_reducible assumption | with_reducible apply good_loopDone | with_reducible apply good_modPace | with_reducible apply good_loopFail | with_reducible refine good_p1 ?_ (by with_reducible assumption) | dsimp only | with_reducible refine good_ite ?_ ?_ | split | intro _ | with_reducible apply good_mk

theorem good_loopTimeout (s : State) (Hs : Good s) :
    Good (State.loopTimeout s) := by
  unfold State.loopTimeout
  repeat' first | with_reducible assumption | with_reducible apply good_modPace | with_reducible apply good_loopFail | dsimp only | with_reducible refine good_ite ?_ ?_ | split | intro _ | with_reducible apply good_mk

theorem good_writePacectl (s : State) (v : Nat) (Hs : Good s) :
    Good (State.writePacectl s v) := by
  unfold State.writePacectl
  repeat' first | with_reducible assumption | with_reducible apply good_plainWrite | with_reducible apply good_modPace | with_reducible apply good_loopIdle | with_reducible apply good_loopBegin | with_reducible apply good_loopOff | dsimp only | with_reducible refine good_ite ?_ ?_ | split | intro _ | with_reducible apply good_mk

theorem good_loopSettle (s : State) (Hs : Good s) :
    Good (State.loopSettle s) := by
  unfold State.loopSettle
  repeat' first | with_reducible assumption | with_reducible apply good_modPace | with_reducible apply good_loopOff | with_reducible refine good_p1 ?_ (by with_reducible assumption) | dsimp only | with_reducible refine good_ite ?_ ?_ | split | intro _ | with_reducible apply good_mk

theorem good_writeVlimit (s : State) (v : Nat) (Hs : Good s) :
    Good (State.writeVlimit s v) := by
  unfold State.writeVlimit
  repeat' first | with_reducible assumption | with_reducible apply good_set | dsimp only | with_reducible refine good_ite ?_ ?_ | split | intro _ | with_reducible apply good_mk

theorem good_writeVset (s : State) (v : Nat) (Hs : Good s) :
    Good (State.writeVset s v) := by
  unfold State.writeVset
  repeat' first | with_reducible assumption | with_reducible apply good_set | with_reducible apply good_modPace | with_reducible apply good_loopPut | dsimp only | with_reducible refine good_ite ?_ ?_ | split | intro _ | with_reducible apply good_mk

theorem good_loopResume (s : State) (Hs : Good s) :
    Good (State.loopResume s) := by
  unfold State.loopResume
  repeat' first | with_reducible assumption | with_reducible apply good_modPace | with_reducible apply good_loopAfter | with_reducible apply good_loopWait | dsimp only | with_reducible refine good_ite ?_ ?_ | split | intro _ | with_reducible apply good_mk

theorem good_loopReset (t : State) (s : State) (Ht : Good t) (Hs : Good s) :
    Good (State.loopReset t s) := by
  unfold State.loopReset
  repeat' first | with_reducible assumption | with_reducible apply good_setB | with_reducible apply good_set | with_reducible apply good_loopFinal | dsimp only | with_reducible refine good_ite ?_ ?_ | split | intro _ | with_reducible apply good_mk

/-! ## Sound -/

theorem good_setVoice (s : State) (v : Nat) (x : VoiceS) (Hs : Good s) :
    Good (State.setVoice s v x) := by
  unfold State.setVoice
  repeat' first | with_reducible assumption | dsimp only | with_reducible refine good_ite ?_ ?_ | split | intro _ | with_reducible apply good_mk

theorem good_setDom (s : State) (d : Nat) (x : DomS) (Hs : Good s) :
    Good (State.setDom s d x) := by
  unfold State.setDom
  repeat' first | with_reducible assumption | dsimp only | with_reducible refine good_ite ?_ ?_ | split | intro _ | with_reducible apply good_mk

theorem good_setAudRx (s : State) (k : Nat) (x : AudRxS) (Hs : Good s) :
    Good (State.setAudRx s k x) := by
  unfold State.setAudRx
  repeat' first | with_reducible assumption | dsimp only | with_reducible refine good_ite ?_ ?_ | split | intro _ | with_reducible apply good_mk

theorem good_setMixGain (s : State) (n : Nat) (g : GainS) (Hs : Good s) :
    Good (State.setMixGain s n g) := by
  unfold State.setMixGain
  repeat' first | with_reducible assumption | dsimp only | with_reducible refine good_ite ?_ ?_ | split | intro _ | with_reducible apply good_mk

theorem good_setRxGain (s : State) (k : Nat) (g : GainS) (Hs : Good s) :
    Good (State.setRxGain s k g) := by
  unfold State.setRxGain
  repeat' first | with_reducible assumption | dsimp only | with_reducible refine good_ite ?_ ?_ | split | intro _ | with_reducible apply good_mk

theorem good_queueKey (s : State) (e : KeyEv) (Hs : Good s) :
    Good (State.queueKey s e) := by
  unfold State.queueKey
  repeat' first | with_reducible assumption | with_reducible apply good_bump | with_reducible apply good_report | dsimp only | with_reducible refine good_ite ?_ ?_ | split | intro _ | with_reducible apply good_mk

theorem good_keyOn (s : State) (v : Nat) (Hs : Good s) :
    Good (State.keyOn s v) := by
  unfold State.keyOn
  repeat' first | with_reducible assumption | with_reducible apply good_setVoice | dsimp only | with_reducible refine good_ite ?_ ?_ | split | intro _ | with_reducible apply good_mk

theorem good_keyOff (s : State) (v : Nat) (Hs : Good s) :
    Good (State.keyOff s v) := by
  unfold State.keyOff
  repeat' first | with_reducible assumption | with_reducible apply good_setVoice | dsimp only | with_reducible refine good_ite ?_ ?_ | split | intro _ | with_reducible apply good_mk

theorem good_waveSample (s : State) (v : Nat) (i : Nat) (Hs : Good s) :
    Good (State.waveSample s v i).1 := by
  unfold State.waveSample
  repeat' first | with_reducible assumption | with_reducible apply good_unmapped | with_reducible apply good_bus_unmapped | with_reducible apply good_poolWait | with_reducible apply good_tackUse | with_reducible apply good_burst | with_reducible refine good_p1 ?_ (by with_reducible assumption) | with_reducible apply BusOut.good_ok | with_reducible refine BusOut.good_of_ok ?_ (by with_reducible assumption) | with_reducible apply BusOut.good_err | with_reducible refine BusOut.good_of_err ?_ (by with_reducible assumption) | with_reducible apply BusOut.good_ref | with_reducible refine BusOut.good_of_ref ?_ (by with_reducible assumption) | with_reducible apply BusOut.good_wait | with_reducible refine BusOut.good_eq ?_ (by with_reducible assumption) | dsimp only | with_reducible refine good_ite ?_ ?_ | split | intro _ | with_reducible apply good_mk

theorem good_waveform (s : State) (v : Nat) (Hs : Good s) :
    Good (State.waveform s v).1 := by
  unfold State.waveform
  repeat' first | with_reducible assumption | with_reducible apply good_waveSample | with_reducible apply good_draw | with_reducible refine good_p1 ?_ (by with_reducible assumption) | dsimp only | with_reducible refine good_ite ?_ ?_ | split | intro _ | with_reducible apply good_mk

theorem good_voiceSample (s : State) (v : Nat) (hs : Good s) : Good (s.voiceSample v).1 := by
  unfold State.voiceSample
  dsimp only
  split
  · split
    · exact good_setVoice _ _ _ hs
    · exact hs
  · have h0 := good_waveform s v hs
    split
    · rename_i h; rw [h] at h0; exact good_setVoice _ _ _ h0
    · rename_i h; rw [h] at h0; exact good_setVoice _ _ _ h0

theorem good_rxSample (s : State) (k : Nat) (Hs : Good s) :
    Good (State.rxSample s k).1 := by
  unfold State.rxSample
  repeat' first | with_reducible assumption | with_reducible apply good_setRxGain | with_reducible apply good_draw | dsimp only | with_reducible refine good_ite ?_ ?_ | split | intro _ | with_reducible apply good_mk

theorem good_mixSample (s : State) (n : Nat) (ps : List (Nat × Int × Int)) (Hs : Good s) :
    Good (State.mixSample s n ps).1 := by
  unfold State.mixSample
  repeat' first | with_reducible assumption | with_reducible apply good_rxSample | with_reducible apply good_setMixGain | with_reducible refine good_p1 ?_ (by with_reducible assumption) | with_reducible refine good_foldl_p1 ?_ ?_ | with_reducible refine good_foldl ?_ ?_ | dsimp only | with_reducible refine good_ite ?_ ?_ | split | intro _ | with_reducible apply good_mk

theorem good_bridgeSample (s : State) (k : Nat) (d : Nat) (Hs : Good s) :
    Good (State.bridgeSample s k d).1 := by
  unfold State.bridgeSample
  repeat' first | with_reducible assumption | with_reducible apply good_draw | dsimp only | with_reducible refine good_ite ?_ ?_ | split | intro _ | with_reducible apply good_mk

theorem good_keepDyn (s : State) (k : Nat) (d : DynS) (Hs : Good s) : Good (s.keepDyn k d) := good_draw s Hs

theorem good_countClip (s : State) (k : Nat) (x : Int) (Hs : Good s) : Good (s.countClip k x) := by
  unfold State.countClip
  exact good_ite Hs (good_bump _ _ _ Hs)

theorem good_dynamics (s : State) (k : Nat) (l : Int) (r : Int) (Hs : Good s) : Good (State.dynamics s k l r).1 :=
  good_set _ _ _ (good_countClip _ _ _ (good_countClip _ _ _ (good_keepDyn _ _ _ Hs)))

theorem good_outSample (s : State) (k : Nat) (ms : List (Nat × Int × Int)) (Hs : Good s) :
    Good (State.outSample s k ms) := by
  unfold State.outSample
  repeat' first | with_reducible assumption | with_reducible apply good_bridgeSample | with_reducible apply good_dynamics | with_reducible refine good_p1 ?_ (by with_reducible assumption) | with_reducible refine good_foldl_p1 ?_ ?_ | with_reducible refine good_foldl ?_ ?_ | dsimp only | with_reducible refine good_ite ?_ ?_ | split | intro _ | with_reducible apply good_mk

theorem good_domSample (s : State) (d : Nat) (hs : Good s) : Good (s.domSample d) := by
  unfold State.domSample
  dsimp only
  refine good_setDom _ _ _ (good_foldl (fun a k h => ?_) (good_foldl_p1 (fun a n h => ?_) (good_foldl_p1 (fun a v h => ?_) hs)))
  · split
    · exact good_outSample _ _ _ h
    · exact h
  · split
    · exact good_mixSample _ _ _ h
    · exact h
  · split
    · exact good_voiceSample _ _ h
    · exact h

theorem good_domSamples (s : State) (d n : Nat) (hs : Good s) : Good (s.domSamples d n) := by
  induction n generalizing s with
  | zero => exact hs
  | succ n ih => exact ih _ (good_domSample s d hs)

theorem good_domUpTo (s : State) (d : Nat) (k : Nat) (Hs : Good s) :
    Good (State.domUpTo s d k) := by
  unfold State.domUpTo
  repeat' first | with_reducible assumption | with_reducible apply good_domSamples | dsimp only | with_reducible refine good_ite ?_ ?_ | split | intro _ | with_reducible apply good_mk

theorem good_takeField (s : State) (f : Fd) (Hs : Good s) :
    Good (State.takeField s f) := by
  unfold State.takeField
  repeat' first | with_reducible assumption | with_reducible apply good_set | dsimp only | with_reducible refine good_ite ?_ ?_ | split | intro _ | with_reducible apply good_mk

theorem good_takeRoutes (s : State) (d : Nat) (Hs : Good s) :
    Good (State.takeRoutes s d) := by
  unfold State.takeRoutes
  repeat' first | with_reducible assumption | with_reducible apply good_takeField | with_reducible apply good_setVoice | with_reducible refine good_foldl ?_ ?_ | dsimp only | with_reducible refine good_ite ?_ ?_ | split | intro _ | with_reducible apply good_mk

theorem good_rxPlay (s : State) (k : Nat) (Hs : Good s) :
    Good (State.rxPlay s k) := by
  unfold State.rxPlay
  repeat' first | with_reducible assumption | with_reducible apply good_bump | with_reducible apply good_set | with_reducible apply good_setAudRx | with_reducible refine good_p1 ?_ (by with_reducible assumption) | dsimp only | with_reducible refine good_ite ?_ ?_ | split | intro _ | with_reducible apply good_mk

theorem good_blockBoundary (s : State) (d : Nat) (Hs : Good s) :
    Good (State.blockBoundary s d) := by
  unfold State.blockBoundary
  repeat' first | with_reducible assumption | with_reducible apply good_domUpTo | with_reducible apply good_rxPlay | with_reducible apply good_takeRoutes | with_reducible apply good_setDom | with_reducible refine good_foldl ?_ ?_ | dsimp only | with_reducible refine good_ite ?_ ?_ | split | intro _ | with_reducible apply good_mk

theorem good_portsSend (s : State) (d : Nat) (Hs : Good s) :
    Good (State.portsSend s d) := by
  unfold State.portsSend
  repeat' first | with_reducible assumption | with_reducible refine good_foldl ?_ ?_ | dsimp only | with_reducible refine good_ite ?_ ?_ | split | intro _ | with_reducible apply good_mk

theorem good_blockLate (s : State) (d : Nat) (Hs : Good s) :
    Good (State.blockLate s d) := by
  unfold State.blockLate
  repeat' first | with_reducible assumption | with_reducible apply good_setDom | with_reducible apply good_bump | with_reducible apply good_report | dsimp only | with_reducible refine good_ite ?_ ?_ | split | intro _ | with_reducible apply good_mk

theorem good_keyApply (s : State) (i : Nat) (k : Nat) (Hs : Good s) :
    Good (State.keyApply s i k) := by
  unfold State.keyApply
  repeat' first | with_reducible assumption | with_reducible apply good_domUpTo | with_reducible apply good_keyOn | with_reducible apply good_keyOff | with_reducible refine good_p1 ?_ (by with_reducible assumption) | dsimp only | with_reducible refine good_ite ?_ ?_ | split | intro _ | with_reducible apply good_mk

theorem good_gainTimeout (s : State) (u : Nat) (k : Nat) (Hs : Good s) :
    Good (State.gainTimeout s u k) := by
  unfold State.gainTimeout
  repeat' first | with_reducible assumption | with_reducible apply good_domUpTo | with_reducible apply good_setVoice | with_reducible apply good_setMixGain | with_reducible apply good_setRxGain | dsimp only | with_reducible refine good_ite ?_ ?_ | split | intro _ | with_reducible apply good_mk

theorem good_render (s : State) (e : Env) (f : State → State) (Hs : Good s) (Hf : ∀ a, Good a → Good (f a)) :
    Good (State.render s e f) := by
  unfold State.render
  repeat' first | with_reducible assumption | with_reducible apply Hf | dsimp only | with_reducible refine good_ite ?_ ?_ | split | intro _ | with_reducible apply good_mk

theorem good_setAudErr (s : State) (Hs : Good s) :
    Good (State.setAudErr s) := by
  unfold State.setAudErr
  repeat' first | with_reducible assumption | with_reducible apply good_set | dsimp only | with_reducible refine good_ite ?_ ?_ | split | intro _ | with_reducible apply good_mk

theorem good_audStart (s : State) (Hs : Good s) :
    Good (State.audStart s) := by
  unfold State.audStart
  repeat' first | with_reducible assumption | with_reducible apply good_setDom | with_reducible apply good_takeRoutes | with_reducible refine good_foldl ?_ ?_ | dsimp only | with_reducible refine good_ite ?_ ?_ | split | intro _ | with_reducible apply good_mk

theorem good_writeAudCtl (s : State) (v : Nat) (Hs : Good s) :
    Good (State.writeAudCtl s v) := by
  unfold State.writeAudCtl
  repeat' first | with_reducible assumption | with_reducible apply good_setAudErr | with_reducible apply good_plainWrite | with_reducible apply good_audStart | with_reducible apply good_setDom | with_reducible apply good_soundMute | with_reducible refine good_foldl ?_ ?_ | dsimp only | with_reducible refine good_ite ?_ ?_ | split | intro _ | with_reducible apply good_mk

theorem good_writeMb (s : State) (n : Nat) (v : Nat) (Hs : Good s) :
    Good (State.writeMb s n v) := by
  unfold State.writeMb
  repeat' first | with_reducible assumption | with_reducible apply good_setAudErr | with_reducible apply good_plainWrite | with_reducible apply good_setMixGain | with_reducible apply good_bus_write | with_reducible apply BusOut.good_ok | with_reducible refine BusOut.good_of_ok ?_ (by with_reducible assumption) | with_reducible apply BusOut.good_err | with_reducible refine BusOut.good_of_err ?_ (by with_reducible assumption) | with_reducible apply BusOut.good_ref | with_reducible refine BusOut.good_of_ref ?_ (by with_reducible assumption) | with_reducible apply BusOut.good_wait | with_reducible refine BusOut.good_eq ?_ (by with_reducible assumption) | dsimp only | with_reducible refine good_ite ?_ ?_ | split | intro _ | with_reducible apply good_mk

theorem good_writeOb (s : State) (k : Nat) (v : Nat) (Hs : Good s) :
    Good (State.writeOb s k v) := by
  unfold State.writeOb
  repeat' first | with_reducible assumption | with_reducible apply good_setAudErr | with_reducible apply good_plainWrite | dsimp only | with_reducible refine good_ite ?_ ?_ | split | intro _ | with_reducible apply good_mk

theorem good_writePt (s : State) (p : Nat) (v : Nat) (Hs : Good s) :
    Good (State.writePt s p v) := by
  unfold State.writePt
  repeat' first | with_reducible assumption | with_reducible apply good_setAudErr | with_reducible apply good_plainWrite | dsimp only | with_reducible refine good_ite ?_ ?_ | split | intro _ | with_reducible apply good_mk

theorem good_writeRx (s : State) (k : Nat) (v : Nat) (Hs : Good s) :
    Good (State.writeRx s k v) := by
  unfold State.writeRx
  repeat' first | with_reducible assumption | with_reducible apply good_plainWrite | with_reducible apply good_setRxGain | with_reducible apply good_bus_write | with_reducible apply good_setAudRx | with_reducible apply good_set | with_reducible apply BusOut.good_ok | with_reducible refine BusOut.good_of_ok ?_ (by with_reducible assumption) | with_reducible apply BusOut.good_err | with_reducible refine BusOut.good_of_err ?_ (by with_reducible assumption) | with_reducible apply BusOut.good_ref | with_reducible refine BusOut.good_of_ref ?_ (by with_reducible assumption) | with_reducible apply BusOut.good_wait | with_reducible refine BusOut.good_eq ?_ (by with_reducible assumption) | dsimp only | with_reducible refine good_ite ?_ ?_ | split | intro _ | with_reducible apply good_mk

theorem good_writeAudKey (s : State) (v : Nat) (Hs : Good s) :
    Good (State.writeAudKey s v) := by
  unfold State.writeAudKey
  repeat' first | with_reducible assumption | with_reducible apply good_queueKey | dsimp only | with_reducible refine good_ite ?_ ?_ | split | intro _ | with_reducible apply good_mk

theorem good_writeVoice (s : State) (v : Nat) (w : Nat) (x : Nat) (Hs : Good s) :
    Good (State.writeVoice s v w x) := by
  unfold State.writeVoice
  repeat' first | with_reducible assumption | with_reducible apply good_setWord | with_reducible apply good_setVoice | with_reducible apply good_bus_write | with_reducible apply BusOut.good_ok | with_reducible refine BusOut.good_of_ok ?_ (by with_reducible assumption) | with_reducible apply BusOut.good_err | with_reducible refine BusOut.good_of_err ?_ (by with_reducible assumption) | with_reducible apply BusOut.good_ref | with_reducible refine BusOut.good_of_ref ?_ (by with_reducible assumption) | with_reducible apply BusOut.good_wait | with_reducible refine BusOut.good_eq ?_ (by with_reducible assumption) | dsimp only | with_reducible refine good_ite ?_ ?_ | split | intro _ | with_reducible apply good_mk

theorem good_domLoss (s : State) (d : Nat) (Hs : Good s) :
    Good (State.domLoss s d) := by
  unfold State.domLoss
  repeat' first | with_reducible assumption | with_reducible apply good_setDom | with_reducible apply good_set | with_reducible apply good_report | dsimp only | with_reducible refine good_ite ?_ ?_ | split | intro _ | with_reducible apply good_mk

theorem good_portLoss (s : State) (p : Nat) (Hs : Good s) :
    Good (State.portLoss s p) := by
  unfold State.portLoss
  repeat' first | with_reducible assumption | with_reducible apply good_set | dsimp only | with_reducible refine good_ite ?_ ?_ | split | intro _ | with_reducible apply good_mk

theorem good_rxBlock (s : State) (k : Nat) (b : Nat) (fr : List (Int × Int)) (Hs : Good s) :
    Good (State.rxBlock s k b fr) := by
  unfold State.rxBlock
  repeat' first | with_reducible assumption | with_reducible apply good_bump | with_reducible apply good_setAudRx | with_reducible apply good_set | dsimp only | with_reducible refine good_ite ?_ ?_ | split | intro _ | with_reducible apply good_mk

theorem good_audioPacket (s : State) (k : Nat) (ws : List Nat) (Hs : Good s) :
    Good (State.audioPacket s k ws) := by
  unfold State.audioPacket
  repeat' first | with_reducible assumption | with_reducible apply good_setAudRx | with_reducible apply good_set | with_reducible apply good_rxBlock | with_reducible refine good_p1 ?_ (by with_reducible assumption) | dsimp only | with_reducible refine good_ite ?_ ?_ | split | intro _ | with_reducible apply good_mk

/-! ## Lanes -/

theorem good_clearRemaps (s : State) (p : Nat) (Hs : Good s) :
    Good (State.clearRemaps s p) := by
  unfold State.clearRemaps
  repeat' first | with_reducible assumption | with_reducible apply good_set | dsimp only | with_reducible refine good_ite ?_ ?_ | split | intro _ | with_reducible apply good_mk

theorem good_dpStart (s : State) (p : Nat) (Hs : Good s) :
    Good (State.dpStart s p) := by
  unfold State.dpStart
  repeat' first | with_reducible assumption | with_reducible apply good_setPortState | dsimp only | with_reducible refine good_ite ?_ ?_ | split | intro _ | with_reducible apply good_mk

theorem good_linkDown (s : State) (Hs : Good s) :
    Good (State.linkDown s) := by
  unfold State.linkDown
  repeat' first | with_reducible assumption | with_reducible apply good_pcieGone | with_reducible apply good_report | dsimp only | with_reducible refine good_ite ?_ ?_ | split | intro _ | with_reducible apply good_mk

theorem good_portStart (s : State) (p : Nat) (Hs : Good s) :
    Good (State.portStart s p) := by
  unfold State.portStart
  repeat' first | with_reducible assumption | with_reducible apply good_clearRemaps | with_reducible apply good_dpAbandon | with_reducible apply good_lanesIdle | with_reducible apply good_dpForget | with_reducible apply good_set | with_reducible apply good_setPortState | with_reducible apply good_portEnters | dsimp only | with_reducible refine good_ite ?_ ?_ | split | intro _ | with_reducible apply good_mk

theorem good_remap (s : State) (p : Nat) (lane : Nat) (rx : Bool) (Hs : Good s) :
    Good (State.remap s p lane rx) := by
  unfold State.remap
  repeat' first | with_reducible assumption | with_reducible apply good_set | with_reducible apply good_raise | with_reducible apply good_report | dsimp only | with_reducible refine good_ite ?_ ?_ | split | intro _ | with_reducible apply good_mk

theorem good_writePortCfg (s : State) (p : Nat) (v : Nat) (Hs : Good s) :
    Good (State.writePortCfg s p v) := by
  unfold State.writePortCfg
  repeat' first | with_reducible assumption | with_reducible apply good_set | with_reducible apply good_plainWrite | with_reducible apply good_linkDown | with_reducible apply good_portStart | with_reducible apply good_clearRemaps | with_reducible apply good_lanesIdle | with_reducible apply good_setPortState | with_reducible apply good_dpStart | with_reducible apply good_remap | dsimp only | with_reducible refine good_ite ?_ ?_ | split | intro _ | with_reducible apply good_mk

theorem good_laneResults (s : State) (p : Nat) (taps : List (Nat × Nat × Nat)) (Hs : Good s) :
    Good (State.laneResults s p taps) := by
  unfold State.laneResults
  repeat' first | with_reducible assumption | with_reducible apply good_set | with_reducible apply good_setTaps | with_reducible refine good_foldl ?_ ?_ | dsimp only | with_reducible refine good_ite ?_ ?_ | split | intro _ | with_reducible apply good_mk

theorem good_standardLanes (s : State) (p : Nat) (n : Nat) (rx : Bool) (taps : List (Nat × Nat × Nat)) (Hs : Good s) :
    Good (State.standardLanes s p n rx taps) := by
  unfold State.standardLanes
  repeat' first | with_reducible assumption | with_reducible apply good_setB | with_reducible apply good_set | with_reducible apply good_setTaps | with_reducible apply good_lanesIdle | with_reducible refine good_foldl ?_ ?_ | dsimp only | with_reducible refine good_ite ?_ ?_ | split | intro _ | with_reducible apply good_mk

theorem good_trained (s : State) (p : Nat) (rate : Nat) (rxBad : Nat) (txBad : Nat) (taps : List (Nat × Nat × Nat)) (Hs : Good s) :
    Good (State.trained s p rate rxBad txBad taps) := by
  unfold State.trained
  repeat' first | with_reducible assumption | with_reducible apply good_clearRemaps | with_reducible apply good_set | with_reducible apply good_report | with_reducible apply good_laneResults | dsimp only | with_reducible refine good_ite ?_ ?_ | split | intro _ | with_reducible apply good_mk

theorem good_weltTrained (s : State) (p : Nat) (ok : Bool) (rate : Nat) (rxBad : Nat) (txBad : Nat) (taps : List (Nat × Nat × Nat)) (Hs : Good s) :
    Good (State.weltTrained s p ok rate rxBad txBad taps) := by
  unfold State.weltTrained
  repeat' first | with_reducible assumption | with_reducible apply good_setPortState | with_reducible apply good_trained | with_reducible apply good_lanesIdle | with_reducible apply good_report | dsimp only | with_reducible refine good_ite ?_ ?_ | split | intro _ | with_reducible apply good_mk

theorem good_weltAttempt (s : State) (p : Nat) (ok : Bool) (rate : Nat) (rxBad : Nat) (txBad : Nat) (taps : List (Nat × Nat × Nat)) (Hs : Good s) :
    Good (State.weltAttempt s p ok rate rxBad txBad taps) := by
  unfold State.weltAttempt
  repeat' first | with_reducible assumption | with_reducible apply good_trained | with_reducible apply good_set | dsimp only | with_reducible refine good_ite ?_ ?_ | split | intro _ | with_reducible apply good_mk

theorem good_laneFail (s : State) (p : Nat) (lane : Nat) (rx : Bool) (busy : Bool) (Hs : Good s) :
    Good (State.laneFail s p lane rx busy) := by
  unfold State.laneFail
  repeat' first | with_reducible assumption | with_reducible apply good_remap | with_reducible apply good_setPortState | with_reducible apply good_lanesIdle | with_reducible apply good_report | dsimp only | with_reducible refine good_ite ?_ ?_ | split | intro _ | with_reducible apply good_mk

theorem good_spareFail (s : State) (p : Nat) (Hs : Good s) :
    Good (State.spareFail s p) := by
  unfold State.spareFail
  repeat' first | with_reducible assumption | with_reducible apply good_set | with_reducible apply good_raise | with_reducible apply good_report | dsimp only | with_reducible refine good_ite ?_ ?_ | split | intro _ | with_reducible apply good_mk

theorem good_refLost (s : State) (Hs : Good s) :
    Good (State.refLost s) := by
  unfold State.refLost
  repeat' first | with_reducible assumption | with_reducible apply good_lockLost | with_reducible apply good_set | with_reducible apply good_report | with_reducible refine good_foldl ?_ ?_ | dsimp only | with_reducible refine good_ite ?_ ?_ | split | intro _ | with_reducible apply good_mk

theorem good_refBack (s : State) (Hs : Good s) :
    Good (State.refBack s) := by
  unfold State.refBack
  repeat' first | with_reducible assumption | with_reducible apply good_refLost | dsimp only | with_reducible refine good_ite ?_ ?_ | split | intro _ | with_reducible apply good_mk

theorem good_evalFit (s : State) (p : Nat) (Hs : Good s) :
    Good (State.evalFit s p) := by
  unfold State.evalFit
  repeat' first | with_reducible assumption | with_reducible apply good_set | with_reducible apply good_setB | with_reducible refine good_p1 ?_ (by with_reducible assumption) | dsimp only | with_reducible refine good_ite ?_ ?_ | split | intro _ | with_reducible apply good_mk

theorem good_evalFits (s : State) (Hs : Good s) :
    Good (State.evalFits s) := by
  unfold State.evalFits
  repeat' first | with_reducible assumption | with_reducible apply good_evalFit | with_reducible refine good_foldl ?_ ?_ | dsimp only | with_reducible refine good_ite ?_ ?_ | split | intro _ | with_reducible apply good_mk

theorem good_hpdRise (s : State) (p : Nat) (Hs : Good s) :
    Good (State.hpdRise s p) := by
  unfold State.hpdRise
  repeat' first | with_reducible assumption | with_reducible apply good_set | with_reducible apply good_raise | with_reducible apply good_dpStart | dsimp only | with_reducible refine good_ite ?_ ?_ | split | intro _ | with_reducible apply good_mk

theorem good_hpdLow (s : State) (p : Nat) (Hs : Good s) :
    Good (State.hpdLow s p) := by
  unfold State.hpdLow
  repeat' first | with_reducible assumption | with_reducible apply good_set | with_reducible apply good_raise | with_reducible apply good_dpAbandon | with_reducible apply good_lanesIdle | with_reducible apply good_setPortState | dsimp only | with_reducible refine good_ite ?_ ?_ | split | intro _ | with_reducible apply good_mk

theorem good_hpdIrq (s : State) (p : Nat) (lost : Bool) (Hs : Good s) :
    Good (State.hpdIrq s p lost) := by
  unfold State.hpdIrq
  repeat' first | with_reducible assumption | with_reducible apply good_set | with_reducible apply good_raise | with_reducible apply good_dpStart | dsimp only | with_reducible refine good_ite ?_ ?_ | split | intro _ | with_reducible apply good_mk

theorem good_dpTrained (s : State) (p : Nat) (ok : Bool) (rate : Nat) (lanes : Nat) (ilr : Option (Nat × Nat)) (taps : List (Nat × Nat × Nat)) (Hs : Good s) :
    Good (State.dpTrained s p ok rate lanes ilr taps) := by
  unfold State.dpTrained
  repeat' first | with_reducible assumption | with_reducible apply good_dpAbandon | with_reducible apply good_set | with_reducible apply good_setPortState | with_reducible apply good_standardLanes | with_reducible apply good_evalFit | with_reducible apply good_raise | with_reducible apply good_lanesIdle | with_reducible apply good_report | with_reducible refine good_p1 ?_ (by with_reducible assumption) | dsimp only | with_reducible refine good_ite ?_ ?_ | split | intro _ | with_reducible apply good_mk

theorem good_laneErrs (s : State) (n : Nat) (e : Nat) (Hs : Good s) :
    Good (State.laneErrs s n e) := by
  unfold State.laneErrs
  repeat' first | with_reducible assumption | with_reducible apply good_set | dsimp only | with_reducible refine good_ite ?_ ?_ | split | intro _ | with_reducible apply good_mk

theorem good_checkerSync (s : State) (n : Nat) (e : Nat) (Hs : Good s) :
    Good (State.checkerSync s n e) := by
  unfold State.checkerSync
  repeat' first | with_reducible assumption | with_reducible apply good_laneErrs | with_reducible apply good_set | dsimp only | with_reducible refine good_ite ?_ ?_ | split | intro _ | with_reducible apply good_mk

theorem good_trafficErrs (s : State) (p : Nat) (errs : List Nat) (Hs : Good s) :
    Good (State.trafficErrs s p errs) := by
  unfold State.trafficErrs
  repeat' first | with_reducible assumption | with_reducible apply good_laneErrs | with_reducible refine good_foldl ?_ ?_ | dsimp only | with_reducible refine good_ite ?_ ?_ | split | intro _ | with_reducible apply good_mk

theorem good_checkerLoss (s : State) (n : Nat) (e : Nat) (Hs : Good s) :
    Good (State.checkerLoss s n e) := by
  unfold State.checkerLoss
  repeat' first | with_reducible assumption | with_reducible apply good_laneErrs | with_reducible apply good_set | dsimp only | with_reducible refine good_ite ?_ ?_ | split | intro _ | with_reducible apply good_mk

theorem good_writeLaneCfg (s : State) (n : Nat) (v : Nat) (Hs : Good s) :
    Good (State.writeLaneCfg s n v) := by
  unfold State.writeLaneCfg
  repeat' first | with_reducible assumption | with_reducible apply good_plainWrite | with_reducible apply good_set | with_reducible apply good_setTaps | dsimp only | with_reducible refine good_ite ?_ ?_ | split | intro _ | with_reducible apply good_mk

theorem good_writeScan (s : State) (n : Nat) (v : Nat) (Hs : Good s) :
    Good (State.writeScan s n v) := by
  unfold State.writeScan
  repeat' first | with_reducible assumption | with_reducible apply good_plainWrite | with_reducible apply good_set | dsimp only | with_reducible refine good_ite ?_ ?_ | split | intro _ | with_reducible apply good_mk

theorem good_scanDone (s : State) (n : Nat) (r : Nat) (lost : Bool) (Hs : Good s) :
    Good (State.scanDone s n r lost) := by
  unfold State.scanDone
  repeat' first | with_reducible assumption | with_reducible apply good_lockLost | with_reducible apply good_set | dsimp only | with_reducible refine good_ite ?_ ?_ | split | intro _ | with_reducible apply good_mk

theorem good_linkUp (s : State) (gen : Nat) (width : Nat) (taps : List (Nat × Nat × Nat)) (Hs : Good s) :
    Good (State.linkUp s gen width taps) := by
  unfold State.linkUp
  repeat' first | with_reducible assumption | with_reducible apply good_set | with_reducible apply good_setPortState | with_reducible apply good_standardLanes | dsimp only | with_reducible refine good_ite ?_ ?_ | split | intro _ | with_reducible apply good_mk

theorem good_pcieDown (s : State) (Hs : Good s) :
    Good (State.pcieDown s) := by
  unfold State.pcieDown
  repeat' first | with_reducible assumption | with_reducible apply good_setPortState | with_reducible apply good_linkDown | dsimp only | with_reducible refine good_ite ?_ ?_ | split | intro _ | with_reducible apply good_mk

theorem good_unitReg (s : State) (k : Nat) (Hs : Good s) :
    Good (State.unitReg s k) := by
  unfold State.unitReg
  repeat' first | with_reducible assumption | with_reducible apply good_setRegN | dsimp only | with_reducible refine good_ite ?_ ?_ | split | intro _ | with_reducible apply good_mk

/-! ## Welt -/

theorem good_modWelt (s : State) (f : WeltS → WeltS) (Hs : Good s) :
    Good (State.modWelt s f) := by
  unfold State.modWelt
  repeat' first | with_reducible assumption | dsimp only | with_reducible refine good_ite ?_ ?_ | split | intro _ | with_reducible apply good_mk

theorem good_weltCount (s : State) (p : Nat) (k : Nat) (Hs : Good s) :
    Good (State.weltCount s p k) := by
  unfold State.weltCount
  repeat' first | with_reducible assumption | with_reducible apply good_bump | dsimp only | with_reducible refine good_ite ?_ ?_ | split | intro _ | with_reducible apply good_mk

theorem good_weltDrop (s : State) (p : Option Nat) (reason : Nat) (Hs : Good s) :
    Good (State.weltDrop s p reason) := by
  unfold State.weltDrop
  repeat' first | with_reducible assumption | with_reducible apply good_weltCount | with_reducible apply good_modWelt | with_reducible apply good_report | with_reducible refine good_p1 ?_ (by with_reducible assumption) | dsimp only | with_reducible refine good_ite ?_ ?_ | split | intro _ | with_reducible apply good_mk

theorem good_fcMessage (s : State) (c : Nat) (first : Bool) (last : Bool) (Hs : Good s) :
    Good (State.fcMessage s c first last) := by
  unfold State.fcMessage
  repeat' first | with_reducible assumption | with_reducible apply good_modWelt | dsimp only | with_reducible refine good_ite ?_ ?_ | split | intro _ | with_reducible apply good_mk

theorem good_fcBoundary (s : State) (pkt : WeltPkt) (Hs : Good s) :
    Good (State.fcBoundary s pkt) := by
  unfold State.fcBoundary
  repeat' first | with_reducible assumption | with_reducible apply good_fcMessage | dsimp only | with_reducible refine good_ite ?_ ?_ | split | intro _ | with_reducible apply good_mk

theorem good_writeFc (s : State) (word1 : Bool) (v : Nat) (Hs : Good s) :
    Good (State.writeFc s word1 v) := by
  unfold State.writeFc
  repeat' first | with_reducible assumption | with_reducible apply good_set | with_reducible apply good_modWelt | with_reducible apply good_plainWrite | dsimp only | with_reducible refine good_ite ?_ ?_ | split | intro _ | with_reducible apply good_mk

theorem good_weltQueue (s : State) (p : Nat) (o : OutP) (Hs : Good s) :
    Good (State.weltQueue s p o) := by
  unfold State.weltQueue
  repeat' first | with_reducible assumption | with_reducible apply good_modWelt | dsimp only | with_reducible refine good_ite ?_ ?_ | split | intro _ | with_reducible apply good_mk

theorem good_weltForward (s : State) (arr : Option Nat) (src : Nat) (pkt : WeltPkt) (Hs : Good s) :
    Good (State.weltForward s arr src pkt) := by
  unfold State.weltForward
  repeat' first | with_reducible assumption | with_reducible apply good_weltDrop | with_reducible apply good_weltQueue | with_reducible refine good_p1 ?_ (by with_reducible assumption) | dsimp only | with_reducible refine good_ite ?_ ?_ | split | intro _ | with_reducible apply good_mk

theorem good_weltDeliver (s : State) (arr : Option Nat) (pkt : WeltPkt) (stamp : Nat) (Hs : Good s) :
    Good (State.weltDeliver s arr pkt stamp) := by
  unfold State.weltDeliver
  repeat' first | with_reducible assumption | with_reducible apply good_fcBoundary | with_reducible apply good_weltDrop | with_reducible apply good_modWelt | with_reducible apply good_fcMessage | with_reducible refine good_p1 ?_ (by with_reducible assumption) | dsimp only | with_reducible refine good_ite ?_ ?_ | split | intro _ | with_reducible apply good_mk

theorem good_weltSend (s : State) (pkt : WeltPkt) (Hs : Good s) :
    Good (State.weltSend s pkt) := by
  unfold State.weltSend
  repeat' first | with_reducible assumption | with_reducible apply good_weltDeliver | with_reducible apply good_weltForward | dsimp only | with_reducible refine good_ite ?_ ?_ | split | intro _ | with_reducible apply good_mk

theorem good_weltFlow (s : State) (c : Nat) (kind : Nat) (dest : Nat) (dflow : Nat) (first : Bool) (last : Bool) (ws : List Nat) (Hs : Good s) :
    Good (State.weltFlow s c kind dest dflow first last ws) := by
  unfold State.weltFlow
  repeat' first | with_reducible assumption | with_reducible apply good_modWelt | with_reducible apply good_weltSend | with_reducible apply good_fcMessage | dsimp only | with_reducible refine good_ite ?_ ?_ | split | intro _ | with_reducible apply good_mk

theorem good_weltMessage (s : State) (c : Nat) (kind : Nat) (dest : Nat) (dflow : Nat) (ps : List (List Nat)) (Hs : Good s) :
    Good (State.weltMessage s c kind dest dflow ps) := by
  unfold State.weltMessage
  repeat' first | with_reducible assumption | with_reducible apply good_weltFlow | with_reducible refine good_foldl ?_ ?_ | dsimp only | with_reducible refine good_ite ?_ ?_ | split | intro _ | with_reducible apply good_mk

theorem good_weltOn (s : State) (c : Nat) (ps : List (List Nat)) (Hs : Good s) :
    Good (State.weltOn s c ps) := by
  unfold State.weltOn
  repeat' first | with_reducible assumption | with_reducible apply good_weltMessage | dsimp only | with_reducible refine good_ite ?_ ?_ | split | intro _ | with_reducible apply good_mk

theorem good_bootContexts (s : State) (p : Nat) (pkt : WeltPkt) (Hs : Good s) :
    Good (State.bootContexts s p pkt) := by
  unfold State.bootContexts
  repeat' first | with_reducible assumption | with_reducible apply good_set | with_reducible apply good_modSec | dsimp only | with_reducible refine good_ite ?_ ?_ | split | intro _ | with_reducible apply good_mk

theorem good_frameIn (s : State) (p : Nat) (crcOk : Bool) (lseq : Nat) (pkt : WeltPkt) (frac : Nat) (Hs : Good s) :
    Good (State.frameIn s p crcOk lseq pkt frac) := by
  unfold State.frameIn
  repeat' first | with_reducible assumption | with_reducible apply good_weltCount | with_reducible apply good_modWelt | with_reducible apply good_weltDrop | with_reducible apply good_bootContexts | with_reducible apply good_weltDeliver | with_reducible apply good_weltForward | dsimp only | with_reducible refine good_ite ?_ ?_ | split | intro _ | with_reducible apply good_mk

theorem good_weltResend (s : State) (p : Nat) (t : Nat) (e : Nat × Nat × WeltPkt) (rest : List (Nat × Nat × WeltPkt)) (Hs : Good s) :
    Good (State.weltResend s p t e rest) := by
  unfold State.weltResend
  repeat' first | with_reducible assumption | with_reducible apply good_modWelt | dsimp only | with_reducible refine good_ite ?_ ?_ | split | intro _ | with_reducible apply good_mk

theorem good_weltEmit (s : State) (p : Nat) (credit : Nat) (frac : Nat) (Hs : Good s) :
    Good (State.weltEmit s p credit frac) := by
  unfold State.weltEmit
  repeat' first | with_reducible assumption | with_reducible apply good_weltResend | with_reducible apply good_modWelt | with_reducible apply good_setB | with_reducible apply good_weltCount | with_reducible refine good_p1 ?_ (by with_reducible assumption) | dsimp only | with_reducible refine good_ite ?_ ?_ | split | intro _ | with_reducible apply good_mk

theorem good_weltReplay (s : State) (p : Nat) (lseq : Nat) (Hs : Good s) :
    Good (State.weltReplay s p lseq) := by
  unfold State.weltReplay
  repeat' first | with_reducible assumption | with_reducible apply good_modWelt | with_reducible apply good_weltCount | dsimp only | with_reducible refine good_ite ?_ ?_ | split | intro _ | with_reducible apply good_mk

theorem good_weltPortLost (s : State) (p : Nat) (Hs : Good s) :
    Good (State.weltPortLost s p) := by
  unfold State.weltPortLost
  repeat' first | with_reducible assumption | with_reducible apply good_weltDrop | with_reducible apply good_modWelt | with_reducible refine good_foldl ?_ ?_ | dsimp only | with_reducible refine good_ite ?_ ?_ | split | intro _ | with_reducible apply good_mk

theorem good_takeIn {s : State} {f : InP → Bool} {i : InP} {t : State} (hs : Good s) (e : s.takeIn f = some (i, t)) : Good t := by
  unfold State.takeIn at e
  split at e
  · cases e
  · cases e; exact good_modWelt s _ hs

theorem good_apRead {os : List Nat} {s : State} {m : Nat} {turn : Bool} {es : List BurstEnd} {t : State} {x : Option (List Nat)}
    (hs : Good s) (e : s.apRead m turn os es = some (t, x)) : Good t := by
  induction os generalizing s turn es t x with
  | nil => cases e; exact hs
  | cons o l ih =>
    unfold State.apRead at e
    split at e
    · cases e; exact hs
    · cases e
    · split at e
      · cases e
      · have h1 := good_burst (s.tackUse 0x18) (s.apAddr o / 64 * 64) m (es.headD .clean) (good_tackUse s 0x18 hs)
        dsimp only at e
        split at e
        · cases e; exact h1
        · rw [Option.map_eq_some_iff] at e
          obtain ⟨r, hr, e⟩ := e
          cases e
          exact ih h1 hr

theorem good_serveRead {s : State} {m op off count w2 tofs : Nat} {es : List BurstEnd} {t : State} {st : Nat} {r : List Nat}
    (hs : Good s) (e : s.serveRead m op off count w2 tofs es = some (t, st, r)) : Good t := by
  unfold State.serveRead at e
  dsimp only at e
  generalize (if op = 0 then apGranules off count else mapGranules off count) = g at e
  split at e
  · cases e
  · rename_i h; cases e; exact good_apRead hs h
  · rename_i h
    have h1 := good_apRead hs h
    split at e
    · cases e; exact h1
    · rw [Option.map_eq_some_iff] at e
      obtain ⟨y, hy, e⟩ := e
      have h2 := good_apRead h1 hy
      split at e <;> (cases e; exact h2)

theorem good_putEnabled (s : State) (a : Nat) (be : Nat) (d : List Nat) (Hs : Good s) :
    Good (State.putEnabled s a be d) := by
  unfold State.putEnabled
  repeat' first | with_reducible assumption | with_reducible apply good_setByte | with_reducible refine good_foldl ?_ ?_ | dsimp only | with_reducible refine good_ite ?_ ?_ | split | intro _ | with_reducible apply good_mk

theorem good_serveWrite {s : State} {m off be : Nat} {d : List Nat} {trust : Bool} {b : BurstEnd} {t : State} {st : Nat}
    (hs : Good s) (e : s.serveWrite m off be d trust b = some (t, st)) : Good t := by
  unfold State.serveWrite at e
  split at e
  · split at e <;> (cases e; exact hs)
  · split at e
    · cases e; exact hs
    · cases e
    · have h1 := good_burst s (s.apAddr off / 64 * 64) m b hs
      dsimp only at e
      split at e
      · cases e; exact good_putEnabled _ _ _ _ h1
      · cases e; exact h1

theorem good_tileAnswer (s : State) (dev : Nat) (tag : Nat) (status : Nat) (d : List Nat) (Hs : Good s) :
    Good (State.tileAnswer s dev tag status d) := by
  unfold State.tileAnswer
  repeat' first | with_reducible assumption | with_reducible apply good_weltMessage | dsimp only | with_reducible refine good_ite ?_ ?_ | split | intro _ | with_reducible apply good_mk

theorem good_dropReq (s : State) (tag : Nat) (Hs : Good s) :
    Good (State.dropReq s tag) := by
  unfold State.dropReq
  repeat' first | with_reducible assumption | with_reducible apply good_modWelt | dsimp only | with_reducible refine good_ite ?_ ?_ | split | intro _ | with_reducible apply good_mk

theorem good_dropBus (s : State) (q : Nat) (Hs : Good s) :
    Good (State.dropBus s q) := by
  unfold State.dropBus
  repeat' first | with_reducible assumption | with_reducible apply good_modWelt | dsimp only | with_reducible refine good_ite ?_ ?_ | split | intro _ | with_reducible apply good_mk

theorem good_planeAnswer (s : State) (port : Option Nat) (r : RemReq) (sl : Nat) (lc : Nat) (y : Nat) (status : Nat) (rbytes : Nat) (d : List Nat) (Hs : Good s) :
    Good (State.planeAnswer s port r sl lc y status rbytes d) := by
  unfold State.planeAnswer
  repeat' first | with_reducible assumption | with_reducible apply good_weltCount | with_reducible apply good_dropReq | with_reducible apply good_modSole | with_reducible refine good_p1 ?_ (by with_reducible assumption) | dsimp only | with_reducible refine good_ite ?_ ?_ | split | intro _ | with_reducible apply good_mk

theorem good_reqAnswer (s : State) (port : Option Nat) (r : RemReq) (status : Nat) (d : List Nat) (Hs : Good s) :
    Good (State.reqAnswer s port r status d) := by
  unfold State.reqAnswer
  repeat' first | with_reducible assumption | with_reducible apply good_planeAnswer | with_reducible apply good_weltCount | with_reducible apply good_modWelt | with_reducible apply good_report | with_reducible refine good_p1 ?_ (by with_reducible assumption) | dsimp only | with_reducible refine good_ite ?_ ?_ | split | intro _ | with_reducible apply good_mk

theorem good_remIssue (s : State) (who : RemWho) (dev : Nat) (op : Nat) (off : Nat) (count : Nat) (w2 : Nat) (tofs : Nat) (be : Nat) (d : List Nat) (Hs : Good s) :
    Good (State.remIssue s who dev op off count w2 tofs be d) := by
  unfold State.remIssue
  repeat' first | with_reducible assumption | with_reducible apply good_modWelt | with_reducible apply good_weltFlow | dsimp only | with_reducible refine good_ite ?_ ?_ | split | intro _ | with_reducible apply good_mk

theorem good_tileServe (s : State) (op : Nat) (es : List BurstEnd) (hs : Good s) : Good (s.tileServe op es) := by
  unfold State.tileServe
  split
  · exact hs
  · split
    · exact hs
    · rename_i i s1 h
      have h1 := good_takeIn hs h
      have ans : ∀ a st d, Good a → Good ((fun (a : State) (st : Nat) (d : List Nat) =>
          if i.port.isNone then
            (match s1.reqTag (nbits (i.pkt.w 0) 29 16) with | some q => a.reqAnswer none q st d | none => a)
          else a.tileAnswer i.pkt.src.toNat (nbits (i.pkt.w 0) 29 16) st d) a st d) := by
        intro a st d ha
        dsimp only
        split
        · split
          · exact good_reqAnswer _ _ _ _ _ ha
          · exact ha
        · exact good_tileAnswer _ _ _ _ _ ha
      dsimp only at ans ⊢
      split
      · exact h1
      · split
        · split
          · exact hs
          · rename_i h2; exact ans _ _ _ (good_serveWrite h1 h2)
        · split
          · split
            · exact hs
            · exact good_poolWait _ _ hs
          · rename_i h2; exact ans _ _ _ (good_serveRead h1 h2)

theorem good_tileAnsIn (s : State) (Hs : Good s) :
    Good (State.tileAnsIn s) := by
  unfold State.tileAnsIn
  repeat' first | with_reducible assumption | with_reducible apply good_modWelt | with_reducible apply good_weltCount | with_reducible apply good_reqAnswer | with_reducible refine good_p1 ?_ (by with_reducible assumption) | with_reducible refine good_foldl_p1 ?_ ?_ | with_reducible refine good_foldl ?_ ?_ | dsimp only | with_reducible refine good_ite ?_ ?_ | split | intro _ | with_reducible apply good_mk

theorem good_remTimeout (s : State) (tag : Nat) (Hs : Good s) :
    Good (State.remTimeout s tag) := by
  unfold State.remTimeout
  repeat' first | with_reducible assumption | with_reducible apply good_modWelt | with_reducible apply good_report | with_reducible refine good_p1 ?_ (by with_reducible assumption) | dsimp only | with_reducible refine good_ite ?_ ?_ | split | intro _ | with_reducible apply good_mk

theorem good_timePacket (s : State) (p : Nat) (w0 : Nat) (stamp : Nat) (dest : Option Nat) (Hs : Good s) :
    Good (State.timePacket s p w0 stamp dest) := by
  unfold State.timePacket
  repeat' first | with_reducible assumption | with_reducible apply good_draw | with_reducible apply good_modWelt | with_reducible apply good_weltQueue | dsimp only | with_reducible refine good_ite ?_ ?_ | split | intro _ | with_reducible apply good_mk

theorem good_syncSend (s : State) (Hs : Good s) :
    Good (State.syncSend s) := by
  unfold State.syncSend
  repeat' first | with_reducible assumption | with_reducible apply good_timePacket | with_reducible refine good_foldl ?_ ?_ | dsimp only | with_reducible refine good_ite ?_ ?_ | split | intro _ | with_reducible apply good_mk

theorem good_dreqSend (s : State) (Hs : Good s) :
    Good (State.dreqSend s) := by
  unfold State.dreqSend
  repeat' first | with_reducible assumption | with_reducible apply good_timePacket | dsimp only | with_reducible refine good_ite ?_ ?_ | split | intro _ | with_reducible apply good_mk

theorem good_timeHoldover (s : State) (Hs : Good s) :
    Good (State.timeHoldover s) := by
  unfold State.timeHoldover
  repeat' first | with_reducible assumption | with_reducible apply good_set | with_reducible apply good_modWelt | with_reducible apply good_report | dsimp only | with_reducible refine good_ite ?_ ?_ | split | intro _ | with_reducible apply good_mk

theorem good_slew (s : State) (Hs : Good s) :
    Good (State.slew s) := by
  unfold State.slew
  repeat' first | with_reducible assumption | with_reducible apply good_draw | with_reducible apply good_modWelt | dsimp only | with_reducible refine good_ite ?_ ?_ | split | intro _ | with_reducible apply good_mk

theorem good_syncIn (s : State) (i : InP) (Hs : Good s) :
    Good (State.syncIn s i) := by
  unfold State.syncIn
  repeat' first | with_reducible assumption | with_reducible apply good_set | with_reducible apply good_modWelt | with_reducible apply good_slew | with_reducible apply good_stepTime | dsimp only | with_reducible refine good_ite ?_ ?_ | split | intro _ | with_reducible apply good_mk

theorem good_dreqIn (s : State) (i : InP) (Hs : Good s) :
    Good (State.dreqIn s i) := by
  unfold State.dreqIn
  repeat' first | with_reducible assumption | with_reducible apply good_timePacket | with_reducible refine good_p1 ?_ (by with_reducible assumption) | dsimp only | with_reducible refine good_ite ?_ ?_ | split | intro _ | with_reducible apply good_mk

theorem good_drespIn (s : State) (i : InP) (Hs : Good s) :
    Good (State.drespIn s i) := by
  unfold State.drespIn
  repeat' first | with_reducible assumption | with_reducible apply good_modWelt | with_reducible refine good_p1 ?_ (by with_reducible assumption) | dsimp only | with_reducible refine good_ite ?_ ?_ | split | intro _ | with_reducible apply good_mk

theorem good_timeIn (s : State) (ty : Nat) (Hs : Good s) :
    Good (State.timeIn s ty) := by
  unfold State.timeIn
  repeat' first | with_reducible assumption | with_reducible refine good_takeIn ?_ (by with_reducible assumption) | with_reducible apply good_syncIn | with_reducible apply good_dreqIn | with_reducible apply good_drespIn | with_reducible refine good_p1 ?_ (by with_reducible assumption) | dsimp only | with_reducible refine good_ite ?_ ?_ | split | intro _ | with_reducible apply good_mk

theorem good_writeTimectl (s : State) (v : Nat) (Hs : Good s) :
    Good (State.writeTimectl s v) := by
  unfold State.writeTimectl
  repeat' first | with_reducible assumption | with_reducible apply good_plainWrite | with_reducible apply good_set | with_reducible apply good_modWelt | dsimp only | with_reducible refine good_ite ?_ ?_ | split | intro _ | with_reducible apply good_mk

theorem good_writeEpochLo (s : State) (v : Nat) (Hs : Good s) :
    Good (State.writeEpochLo s v) := by
  unfold State.writeEpochLo
  repeat' first | with_reducible assumption | with_reducible apply good_modWelt | dsimp only | with_reducible refine good_ite ?_ ?_ | split | intro _ | with_reducible apply good_mk

theorem good_writeEpochHi (s : State) (v : Nat) (Hs : Good s) :
    Good (State.writeEpochHi s v) := by
  unfold State.writeEpochHi
  repeat' first | with_reducible assumption | with_reducible apply good_set | with_reducible apply good_modWelt | with_reducible refine good_p1 ?_ (by with_reducible assumption) | dsimp only | with_reducible refine good_ite ?_ ?_ | split | intro _ | with_reducible apply good_mk

theorem good_setPrx (s : State) (k : Nat) (v : PrxS) (Hs : Good s) :
    Good (State.setPrx s k v) := by
  unfold State.setPrx
  repeat' first | with_reducible assumption | dsimp only | with_reducible refine good_ite ?_ ?_ | split | intro _ | with_reducible apply good_mk

theorem good_prxLost (s : State) (k : Nat) (from_ : Nat) (Hs : Good s) :
    Good (State.prxLost s k from_) := by
  unfold State.prxLost
  repeat' first | with_reducible assumption | with_reducible apply good_set | with_reducible apply good_setPrx | with_reducible apply good_report | dsimp only | with_reducible refine good_ite ?_ ?_ | split | intro _ | with_reducible apply good_mk

theorem good_prxCheck (s : State) (h : Nat) (y : Nat) (ya : Nat) (Hs : Good s) :
    Good (State.prxCheck s h y ya) := by
  unfold State.prxCheck
  repeat' first | with_reducible assumption | with_reducible apply good_setPrx | with_reducible apply good_bump | with_reducible apply good_prxLost | with_reducible refine good_foldl ?_ ?_ | dsimp only | with_reducible refine good_ite ?_ ?_ | split | intro _ | with_reducible apply good_mk

theorem good_prxForget (s : State) (h : Nat) (Hs : Good s) :
    Good (State.prxForget s h) := by
  unfold State.prxForget
  repeat' first | with_reducible assumption | with_reducible apply good_setPrx | with_reducible refine good_foldl ?_ ?_ | dsimp only | with_reducible refine good_ite ?_ ?_ | split | intro _ | with_reducible apply good_mk

theorem good_prxLine (s : State) (k : Nat) (ya : Nat) (ftag : Nat) (vact : Nat) (Hs : Good s) :
    Good (State.prxLine s k ya ftag vact) := by
  unfold State.prxLine
  repeat' first | with_reducible assumption | with_reducible apply good_set | with_reducible apply good_setPrx | with_reducible refine good_p1 ?_ (by with_reducible assumption) | dsimp only | with_reducible refine good_ite ?_ ?_ | split | intro _ | with_reducible apply good_mk

theorem good_prxProgress (s : State) (k : Nat) (i : InP) (Hs : Good s) :
    Good (State.prxProgress s k i) := by
  unfold State.prxProgress
  repeat' first | with_reducible assumption | with_reducible apply good_setPrx | with_reducible apply good_prxLine | with_reducible refine good_p1 ?_ (by with_reducible assumption) | dsimp only | with_reducible refine good_ite ?_ ?_ | split | intro _ | with_reducible apply good_mk

theorem good_pictureTake {s : State} {c : Nat} {i : InP} {t : State} (hs : Good s) (e : s.pictureTake = some (c, i, t)) : Good t := by
  unfold State.pictureTake at e
  split at e
  · cases e
  · cases h : s.takeIn (fun i => i.pkt.kind == 4#4) with
    | none => rw [h] at e; cases e
    | some x => rw [h] at e; cases e; exact good_takeIn hs h

theorem good_writePrxCfg (s : State) (k : Nat) (v : Nat) (Hs : Good s) :
    Good (State.writePrxCfg s k v) := by
  unfold State.writePrxCfg
  repeat' first | with_reducible assumption | with_reducible apply good_plainWrite | with_reducible apply good_set | with_reducible apply good_setPrx | dsimp only | with_reducible refine good_ite ?_ ?_ | split | intro _ | with_reducible apply good_mk

theorem good_prxPortLost (s : State) (p : Nat) (Hs : Good s) :
    Good (State.prxPortLost s p) := by
  unfold State.prxPortLost
  repeat' first | with_reducible assumption | with_reducible apply good_prxLost | with_reducible refine good_foldl ?_ ?_ | dsimp only | with_reducible refine good_ite ?_ ?_ | split | intro _ | with_reducible apply good_mk

theorem good_weltSettle (s : State) (Hs : Good s) :
    Good (State.weltSettle s) := by
  unfold State.weltSettle
  repeat' first | with_reducible assumption | with_reducible apply good_weltPortLost | with_reducible apply good_prxPortLost | with_reducible apply good_timeHoldover | with_reducible refine good_foldl ?_ ?_ | dsimp only | with_reducible refine good_ite ?_ ?_ | split | intro _ | with_reducible apply good_mk

theorem good_audioIn (s : State) (Hs : Good s) :
    Good (State.audioIn s) := by
  unfold State.audioIn
  repeat' first | with_reducible assumption | with_reducible refine good_takeIn ?_ (by with_reducible assumption) | with_reducible apply good_audioPacket | with_reducible refine good_p1 ?_ (by with_reducible assumption) | dsimp only | with_reducible refine good_ite ?_ ?_ | split | intro _ | with_reducible apply good_mk

theorem good_audioOut (s : State) (bus : Nat) (dom : Nat) (block : Nat) (fr : List (Int × Int)) (Hs : Good s) :
    Good (State.audioOut s bus dom block fr) := by
  unfold State.audioOut
  repeat' first | with_reducible assumption | with_reducible apply good_weltOn | with_reducible refine good_foldl ?_ ?_ | dsimp only | with_reducible refine good_ite ?_ ?_ | split | intro _ | with_reducible apply good_mk

end Sys2Proof.Machine
end

