-- ==== Sys2Proof/Laws/GoodLines.lean ====
section
/-! SUPPORT. Canonical form kept: lines, commits, run control, cores, trust, panel and eyelets. -/
namespace Sys2Proof.Machine

/-! ## Lines -/

theorem good_dark (s : State) (h : Nat) (y : Nat) (b : Nat) (Hs : Good s) :
    Good (State.dark s h y b) := by
  unfold State.dark
  repeat' first | with_reducible assumption | with_reducible apply good_modHead | with_reducible refine good_p1 ?_ (by with_reducible assumption) | dsimp only | with_reducible refine good_ite ?_ ?_ | split | intro _ | with_reducible apply good_mk

theorem good_underrun (s : State) (h : Nat) (y : Nat) (b : Nat) (Hs : Good s) :
    Good (State.underrun s h y b) := by
  unfold State.underrun
  repeat' first | with_reducible assumption | with_reducible apply good_dark | with_reducible apply good_oncePerLine | with_reducible apply good_bump | with_reducible apply good_modHead | with_reducible apply good_report | with_reducible apply good_raise | with_reducible refine good_p1 ?_ (by with_reducible assumption) | dsimp only | with_reducible refine good_ite ?_ ?_ | split | intro _ | with_reducible apply good_mk

theorem good_haltLine (s : State) (h : Nat) (y : Nat) (b : Nat) (Hs : Good s) :
    Good (State.haltLine s h y b) := by
  unfold State.haltLine
  repeat' first | with_reducible assumption | with_reducible apply good_dark | with_reducible apply good_oncePerLine | with_reducible apply good_modHead | with_reducible apply good_report | dsimp only | with_reducible refine good_ite ?_ ?_ | split | intro _ | with_reducible apply good_mk

theorem good_setRect (s : State) (h : Nat) (r : RectRun) (Hs : Good s) :
    Good (State.setRect s h r) := by
  unfold State.setRect
  repeat' first | with_reducible assumption | with_reducible apply good_modHead | dsimp only | with_reducible refine good_ite ?_ ?_ | split | intro _ | with_reducible apply good_mk

theorem good_rectEnd (s : State) (h : Nat) (r : RectRun) (Hs : Good s) :
    Good (State.rectEnd s h r) := by
  unfold State.rectEnd
  repeat' first | with_reducible assumption | with_reducible apply good_report | with_reducible apply good_setRect | with_reducible apply good_set | with_reducible apply good_modHead | with_reducible apply good_raise | with_reducible refine good_p1 ?_ (by with_reducible assumption) | dsimp only | with_reducible refine good_ite ?_ ?_ | split | intro _ | with_reducible apply good_mk

theorem good_rectsEnd (s : State) (h : Nat) (y : Nat) (x : Nat) (Hs : Good s) :
    Good (State.rectsEnd s h y x) := by
  unfold State.rectsEnd
  repeat' first | with_reducible assumption | with_reducible apply good_setRect | with_reducible apply good_rectEnd | with_reducible refine good_foldl ?_ ?_ | dsimp only | with_reducible refine good_ite ?_ ?_ | split | intro _ | with_reducible apply good_mk

theorem good_rectCompare (s : State) (h : Nat) (i : Nat) (Hs : Good s) :
    Good (State.rectCompare s h i) := by
  unfold State.rectCompare
  repeat' first | with_reducible assumption | with_reducible apply good_rectsEnd | with_reducible refine good_p1 ?_ (by with_reducible assumption) | dsimp only | with_reducible refine good_ite ?_ ?_ | split | intro _ | with_reducible apply good_mk

theorem good_rectLine (s : State) (h : Nat) (y : Nat) (Hs : Good s) :
    Good (State.rectLine s h y) := by
  unfold State.rectLine
  repeat' first | with_reducible assumption | with_reducible apply good_modHead | with_reducible apply good_rectsEnd | dsimp only | with_reducible refine good_ite ?_ ?_ | split | intro _ | with_reducible apply good_mk

theorem good_wbEnds (s : State) (h : Nat) (f : Fd) (Hs : Good s) :
    Good (State.wbEnds s h f) := by
  unfold State.wbEnds
  repeat' first | with_reducible assumption | with_reducible apply good_set | with_reducible apply good_setB | with_reducible apply good_raise | dsimp only | with_reducible refine good_ite ?_ ?_ | split | intro _ | with_reducible apply good_mk

theorem good_wbDrop (s : State) (h : Nat) (Hs : Good s) :
    Good (State.wbDrop s h) := by
  unfold State.wbDrop
  repeat' first | with_reducible assumption | with_reducible apply good_modHead | with_reducible apply good_wbEnds | dsimp only | with_reducible refine good_ite ?_ ?_ | split | intro _ | with_reducible apply good_mk

theorem good_wbDropTail (s : State) (h : Nat) (Hs : Good s) :
    Good (State.wbDropTail s h) := by
  unfold State.wbDropTail
  repeat' first | with_reducible assumption | with_reducible apply good_modHead | with_reducible apply good_wbEnds | dsimp only | with_reducible refine good_ite ?_ ?_ | split | intro _ | with_reducible apply good_mk

theorem good_wbOverflow (s : State) (h : Nat) (Hs : Good s) :
    Good (State.wbOverflow s h) := by
  unfold State.wbOverflow
  repeat' first | with_reducible assumption | with_reducible apply good_wbDrop | with_reducible apply good_wbDropTail | with_reducible apply good_report | dsimp only | with_reducible refine good_ite ?_ ?_ | split | intro _ | with_reducible apply good_mk

theorem good_wbLate (s : State) (h : Nat) (Hs : Good s) :
    Good (State.wbLate s h) := by
  unfold State.wbLate
  repeat' first | with_reducible assumption | with_reducible apply good_wbOverflow | dsimp only | with_reducible refine good_ite ?_ ?_ | split | intro _ | with_reducible apply good_mk

theorem good_wbDone (s : State) (h : Nat) (Hs : Good s) :
    Good (State.wbDone s h) := by
  unfold State.wbDone
  repeat' first | with_reducible assumption | with_reducible apply good_modHead | with_reducible apply good_wbEnds | with_reducible refine good_p1 ?_ (by with_reducible assumption) | dsimp only | with_reducible refine good_ite ?_ ?_ | split | intro _ | with_reducible apply good_mk

theorem good_wbWritten (s : State) (h : Nat) (n : Nat) (bad : Bool) (Hs : Good s) :
    Good (State.wbWritten s h n bad) := by
  unfold State.wbWritten
  repeat' first | with_reducible assumption | with_reducible apply good_modHead | with_reducible apply good_wbEnds | with_reducible apply good_wbDone | with_reducible apply good_wbDropTail | with_reducible apply good_wbDrop | dsimp only | with_reducible refine good_ite ?_ ?_ | split | intro _ | with_reducible apply good_mk

theorem good_wbLine (s : State) (h : Nat) (y : Nat) (Hs : Good s) :
    Good (State.wbLine s h y) := by
  unfold State.wbLine
  repeat' first | with_reducible assumption | with_reducible apply good_wbOverflow | with_reducible apply good_modHead | with_reducible refine good_p1 ?_ (by with_reducible assumption) | dsimp only | with_reducible refine good_ite ?_ ?_ | split | intro _ | with_reducible apply good_mk

theorem good_rowOut (s : State) (h : Nat) (y : Nat) (Hs : Good s) :
    Good (State.rowOut s h y) := by
  unfold State.rowOut
  repeat' first | with_reducible assumption | with_reducible apply good_underrun | with_reducible apply good_rectLine | with_reducible apply good_wbLine | with_reducible apply good_modHead | with_reducible refine good_p1 ?_ (by with_reducible assumption) | dsimp only | with_reducible refine good_ite ?_ ?_ | split | intro _ | with_reducible apply good_mk

theorem good_rowsOut (s : State) (h : Nat) (top : Nat) (Hs : Good s) :
    Good (State.rowsOut s h top) := by
  unfold State.rowsOut
  repeat' first | with_reducible assumption | with_reducible apply good_rowOut | with_reducible refine good_foldl ?_ ?_ | dsimp only | with_reducible refine good_ite ?_ ?_ | split | intro _ | with_reducible apply good_mk

theorem good_soleTacks (s : State) (sl : Nat) (Hs : Good s) :
    Good (State.soleTacks s sl) := by
  unfold State.soleTacks
  repeat' first | with_reducible assumption | with_reducible apply good_set | with_reducible apply good_raiseTo | dsimp only | with_reducible refine good_ite ?_ ?_ | split | intro _ | with_reducible apply good_mk

theorem good_soleIssue (s : State) (sl : Nat) (Hs : Good s) :
    Good (State.soleIssue s sl) := by
  unfold State.soleIssue
  repeat' first | with_reducible assumption | with_reducible apply good_soleTacks | with_reducible apply good_clip | with_reducible apply good_raiseTo | with_reducible refine good_p1 ?_ (by with_reducible assumption) | dsimp only | with_reducible refine good_ite ?_ ?_ | split | intro _ | with_reducible apply good_mk

theorem good_granuleIn (s : State) (c : LineCtx) (num : Nat) (lat : Nat) (d : Option (List Nat)) (Hs : Good s) :
    Good (State.granuleIn s c num lat d) := by
  unfold State.granuleIn
  repeat' first | with_reducible assumption | with_reducible apply good_modSole | with_reducible apply good_raiseTo | with_reducible apply good_bump | with_reducible apply good_soleIssue | dsimp only | with_reducible refine good_ite ?_ ?_ | split | intro _ | with_reducible apply good_mk

theorem good_soleNext (s : State) (sl : Nat) (Hs : Good s) :
    Good (State.soleNext s sl) := by
  unfold State.soleNext
  repeat' first | with_reducible assumption | with_reducible apply good_setSole | with_reducible apply good_soleIssue | dsimp only | with_reducible refine good_ite ?_ ?_ | split | intro _ | with_reducible apply good_mk

theorem good_lineDone (s : State) (sl : Nat) (d : Int) (Hs : Good s) :
    Good (State.lineDone s sl d) := by
  unfold State.lineDone
  repeat' first | with_reducible assumption | with_reducible apply good_recordSlack | with_reducible apply good_soleNext | with_reducible refine good_p1 ?_ (by with_reducible assumption) | dsimp only | with_reducible refine good_ite ?_ ?_ | split | intro _ | with_reducible apply good_mk

theorem good_soleAbandon (s : State) (sl : Nat) (Hs : Good s) :
    Good (State.soleAbandon s sl) := by
  unfold State.soleAbandon
  repeat' first | with_reducible assumption | with_reducible apply good_recordSlack | with_reducible apply good_soleNext | with_reducible refine good_p1 ?_ (by with_reducible assumption) | dsimp only | with_reducible refine good_ite ?_ ?_ | split | intro _ | with_reducible apply good_mk

theorem good_modBlock (s : State) (sl : Nat) (y : Nat) (b : Nat) (f : LayBlk → LayBlk) (Hs : Good s) :
    Good (State.modBlock s sl y b f) := by
  unfold State.modBlock
  repeat' first | with_reducible assumption | with_reducible apply good_modSole | dsimp only | with_reducible refine good_ite ?_ ?_ | split | intro _ | with_reducible apply good_mk

theorem good_writeBlock (s : State) (c : LineCtx) (lc : Nat) (b : Nat) (px : List (Nat × PixRes)) (Hs : Good s) :
    Good (State.writeBlock s c lc b px) := by
  unfold State.writeBlock
  repeat' first | with_reducible assumption | with_reducible apply good_modBlock | with_reducible apply good_modSole | with_reducible refine good_p1 ?_ (by with_reducible assumption) | dsimp only | with_reducible refine good_ite ?_ ?_ | split | intro _ | with_reducible apply good_mk

theorem good_countStitch (s : State) (c : LineCtx) (Hs : Good s) :
    Good (State.countStitch s c) := by
  unfold State.countStitch
  repeat' first | with_reducible assumption | with_reducible apply good_modSole | dsimp only | with_reducible refine good_ite ?_ ?_ | split | intro _ | with_reducible apply good_mk

theorem good_composeBlock (s : State) (c : LineCtx) (lc : Nat) (b : Nat) (remote : Bool) (px : List (Nat × PixRes)) (Hs : Good s) :
    Good (State.composeBlock s c lc b remote px) := by
  unfold State.composeBlock
  repeat' first | with_reducible assumption | with_reducible apply good_modBlock | with_reducible apply good_countStitch | with_reducible apply good_bus_remote | with_reducible apply good_clip | with_reducible apply good_writeBlock | with_reducible apply BusOut.good_ok | with_reducible refine BusOut.good_of_ok ?_ (by with_reducible assumption) | with_reducible apply BusOut.good_err | with_reducible refine BusOut.good_of_err ?_ (by with_reducible assumption) | with_reducible apply BusOut.good_ref | with_reducible refine BusOut.good_of_ref ?_ (by with_reducible assumption) | with_reducible apply BusOut.good_wait | with_reducible refine BusOut.good_eq ?_ (by with_reducible assumption) | dsimp only | with_reducible refine good_ite ?_ ?_ | split | intro _ | with_reducible apply good_mk

theorem good_stitchRun (s : State) (sl : Nat) (Hs : Good s) :
    Good (State.stitchRun s sl) := by
  unfold State.stitchRun
  repeat' first | with_reducible assumption | with_reducible apply good_countStitch | with_reducible apply good_composeBlock | with_reducible apply good_soleIssue | with_reducible refine good_p1 ?_ (by with_reducible assumption) | dsimp only | with_reducible refine good_ite ?_ ?_ | split | intro _ | with_reducible apply good_mk

theorem good_lineWrite (s : State) (h : Nat) (y : Nat) (p : Nat) (k : Nat) (v : Nat) (Hs : Good s) :
    Good (State.lineWrite s h y p k v) := by
  unfold State.lineWrite
  repeat' first | with_reducible assumption | with_reducible apply good_modHead | with_reducible apply good_setRegN | dsimp only | with_reducible refine good_ite ?_ ?_ | split | intro _ | with_reducible apply good_mk

theorem good_linePalette (s : State) (h : Nat) (y : Nat) (p : Nat) (tgt : Nat) (v : Nat) (Hs : Good s) :
    Good (State.linePalette s h y p tgt v) := by
  unfold State.linePalette
  repeat' first | with_reducible assumption | with_reducible apply good_modHead | with_reducible apply good_setWords | dsimp only | with_reducible refine good_ite ?_ ?_ | split | intro _ | with_reducible apply good_mk

theorem good_toHead (s : State) (h : Nat) (y : Nat) (p : Nat) (late : Bool) (e : LlEnt) (Hs : Good s) :
    Good (State.toHead s h y p late e) := by
  unfold State.toHead
  repeat' first | with_reducible assumption | with_reducible apply good_llCount | with_reducible apply good_modHead | dsimp only | with_reducible refine good_ite ?_ ?_ | split | intro _ | with_reducible apply good_mk

theorem good_llExec (s : State) (h : Nat) (y : Nat) (p : Nat) (late : Bool) (e : LlEnt) (Hs : Good s) :
    Good (State.llExec s h y p late e) := by
  unfold State.llExec
  repeat' first | with_reducible assumption | with_reducible apply good_toHead | with_reducible apply good_lineWrite | with_reducible apply good_modHead | with_reducible apply good_linePalette | with_reducible refine good_p1 ?_ (by with_reducible assumption) | dsimp only | with_reducible refine good_ite ?_ ?_ | split | intro _ | with_reducible apply good_mk

theorem good_llEntries (s : State) (h : Nat) (y : Nat) (late : Bool) (p : Nat) (y0 : List LlEnt) (Hs : Good s) :
    Good (State.llEntries s h y late p y0) := by
  induction y0 generalizing s h y late p with
  | nil =>
    unfold State.llEntries
    repeat' first | with_reducible assumption | with_reducible apply good_llCount | with_reducible apply good_llFault | with_reducible apply good_llExec | dsimp only | with_reducible refine good_ite ?_ ?_ | split | intro _ | with_reducible apply good_mk
  | cons x t ih =>
    unfold State.llEntries
    repeat' first | with_reducible assumption | with_reducible apply ih | with_reducible apply good_llCount | with_reducible apply good_llFault | with_reducible apply good_llExec | dsimp only | with_reducible refine good_ite ?_ ?_ | split | intro _ | with_reducible apply good_mk

theorem good_lineFaults (s : State) (c : LineCtx) (Hs : Good s) :
    Good (State.lineFaults s c) := by
  unfold State.lineFaults
  repeat' first | with_reducible assumption | with_reducible apply good_layerFault | with_reducible apply good_clip | with_reducible refine good_p1 ?_ (by with_reducible assumption) | with_reducible refine good_foldl_p1 ?_ ?_ | with_reducible refine good_foldl ?_ ?_ | dsimp only | with_reducible refine good_ite ?_ ?_ | split | intro _ | with_reducible apply good_mk

theorem good_lineReady (s : State) (h : Nat) (y : Nat) (Hs : Good s) :
    Good (State.lineReady s h y) := by
  unfold State.lineReady
  repeat' first | with_reducible assumption | with_reducible apply good_modHead | with_reducible apply good_clip | with_reducible apply good_lineFaults | with_reducible apply good_soleIssue | with_reducible refine good_foldl ?_ ?_ | dsimp only | with_reducible refine good_ite ?_ ?_ | split | intro _ | with_reducible apply good_mk

theorem good_listNote (s : State) (h y n : Nat) (Hs : Good s) : Good (State.listNote s h y n) := by
  unfold State.listNote
  exact good_modSole _ _ _ Hs

theorem good_listRun (s : State) (h : Nat) (y : Nat) (writes : Nat) (late : Bool) (short : Bool) (ents : List LlEnt) (err : Bool) (Hs : Good s) :
    Good (State.listRun s h y writes late short ents err) := by
  unfold State.listRun
  repeat' first | with_reducible assumption | with_reducible apply good_llCount | with_reducible apply good_lineReady | with_reducible apply good_llEntries | with_reducible apply good_clip | with_reducible refine good_p1 ?_ (by with_reducible assumption) | dsimp only | with_reducible refine good_ite ?_ ?_ | split | intro _ | with_reducible apply good_mk

theorem good_listIn (s : State) (h : Nat) (y : Nat) (writes : Nat) (late : Bool) (short : Bool) (ents : List LlEnt) (err : Bool) (Hs : Good s) :
    Good (State.listIn s h y writes late short ents err) := by
  unfold State.listIn
  repeat' first | with_reducible assumption | with_reducible apply good_listNote | with_reducible apply good_listRun | dsimp only | with_reducible refine good_ite ?_ ?_ | split | intro _ | with_reducible apply good_mk

theorem good_markEdges (s : State) (h : Nat) (old : Nat) (Hs : Good s) :
    Good (State.markEdges s h old) := by
  unfold State.markEdges
  repeat' first | with_reducible assumption | with_reducible apply good_captureTrig | with_reducible refine good_foldl ?_ ?_ | dsimp only | with_reducible refine good_ite ?_ ?_ | split | intro _ | with_reducible apply good_mk

theorem good_beamExec (s : State) (h : Nat) (y : Nat) (x : Nat) (e : BeamEnt) (Hs : Good s) :
    Good (State.beamExec s h y x e) := by
  unfold State.beamExec
  repeat' first | with_reducible assumption | with_reducible apply good_queueKey | with_reducible apply good_lineWrite | with_reducible apply good_markEdges | dsimp only | with_reducible refine good_ite ?_ ?_ | split | intro _ | with_reducible apply good_mk

theorem good_beamExpire (s : State) (h : Nat) (l : Nat) (Hs : Good s) :
    Good (State.beamExpire s h l) := by
  unfold State.beamExpire
  repeat' first | with_reducible assumption | with_reducible apply good_llCount | with_reducible apply good_modHead | with_reducible refine good_foldl ?_ ?_ | dsimp only | with_reducible refine good_ite ?_ ?_ | split | intro _ | with_reducible apply good_mk

theorem good_beamIssue (s : State) (h : Nat) (x : Nat) (Hs : Good s) :
    Good (State.beamIssue s h x) := by
  unfold State.beamIssue
  repeat' first | with_reducible assumption | with_reducible apply good_beamExpire | with_reducible apply good_modHead | with_reducible apply good_beamExec | with_reducible apply good_llCount | with_reducible refine good_p1 ?_ (by with_reducible assumption) | dsimp only | with_reducible refine good_ite ?_ ?_ | split | intro _ | with_reducible apply good_mk

theorem good_beamLost (s : State) (h : Nat) (Hs : Good s) :
    Good (State.beamLost s h) := by
  unfold State.beamLost
  repeat' first | with_reducible assumption | with_reducible apply good_beamExpire | with_reducible refine good_p1 ?_ (by with_reducible assumption) | dsimp only | with_reducible refine good_ite ?_ ?_ | split | intro _ | with_reducible apply good_mk

theorem good_issuePlane (s : State) (sl : Nat) (lc : Nat) (z : Nat) (dev : Nat) (y0 : Nat) (y1 : List (Nat × Nat × Nat × Nat × Nat)) (Hs : Good s) :
    Good (State.issuePlane s sl lc z dev y0 y1) := by
  induction y1 generalizing s sl lc z dev y0 with
  | nil =>
    unfold State.issuePlane
    repeat' first | with_reducible assumption | with_reducible apply good_remIssue | dsimp only | with_reducible refine good_ite ?_ ?_ | split | intro _ | with_reducible apply good_mk
  | cons x t ih =>
    unfold State.issuePlane
    repeat' first | with_reducible assumption | with_reducible apply ih | with_reducible apply good_remIssue | dsimp only | with_reducible refine good_ite ?_ ?_ | split | intro _ | with_reducible apply good_mk

theorem good_remoteRequests (s : State) (h : Nat) (y : Nat) (Hs : Good s) :
    Good (State.remoteRequests s h y) := by
  unfold State.remoteRequests
  repeat' first | with_reducible assumption | with_reducible apply good_issuePlane | with_reducible refine good_p1 ?_ (by with_reducible assumption) | with_reducible refine good_foldl_p1 ?_ ?_ | with_reducible refine good_foldl ?_ ?_ | dsimp only | with_reducible refine good_ite ?_ ?_ | split | intro _ | with_reducible apply good_mk

theorem good_remoteDue (s : State) (sl : Nat) (y : Nat) (Hs : Good s) :
    Good (State.remoteDue s sl y) := by
  unfold State.remoteDue
  repeat' first | with_reducible assumption | with_reducible apply good_modWelt | with_reducible apply good_modSole | with_reducible apply good_soleTacks | with_reducible refine good_p1 ?_ (by with_reducible assumption) | dsimp only | with_reducible refine good_ite ?_ ?_ | split | intro _ | with_reducible apply good_mk

theorem good_abandonDue (s : State) (sl : Nat) (Hs : Good s) :
    Good (State.abandonDue s sl) := by
  unfold State.abandonDue
  repeat' first | with_reducible assumption | with_reducible apply good_soleAbandon | dsimp only | with_reducible refine good_ite ?_ ?_ | split | intro _ | with_reducible apply good_mk

theorem good_soleTake (s : State) (h : Nat) (sl : Nat) (y : Nat) (Hs : Good s) :
    Good (State.soleTake s h sl y) := by
  unfold State.soleTake
  repeat' first | with_reducible assumption | with_reducible apply good_soleAbandon | with_reducible apply good_modSole | with_reducible apply good_dark | with_reducible refine good_p1 ?_ (by with_reducible assumption) | dsimp only | with_reducible refine good_ite ?_ ?_ | split | intro _ | with_reducible apply good_mk

theorem good_snapStop (s : State) (h : Nat) (y : Nat) (Hs : Good s) :
    Good (State.snapStop s h y) := by
  unfold State.snapStop
  repeat' first | with_reducible assumption | with_reducible apply good_modHead | dsimp only | with_reducible refine good_ite ?_ ?_ | split | intro _ | with_reducible apply good_mk

theorem good_releaseWork (s : State) (h : Nat) (y : Nat) (Hs : Good s) :
    Good (State.releaseWork s h y) := by
  unfold State.releaseWork
  repeat' first | with_reducible assumption | with_reducible apply good_soleTake | with_reducible apply good_dark | with_reducible apply good_remoteRequests | with_reducible apply good_lineReady | with_reducible apply good_modHead | with_reducible apply good_oncePerLine | with_reducible apply good_bump | with_reducible apply good_llFault | with_reducible apply good_prxCheck | with_reducible apply good_prxForget | with_reducible refine good_p1 ?_ (by with_reducible assumption) | with_reducible refine good_foldl_p1 ?_ ?_ | with_reducible refine good_foldl ?_ ?_ | dsimp only | with_reducible refine good_ite ?_ ?_ | split | intro _ | with_reducible apply good_mk

theorem good_lineRelease (s : State) (h : Nat) (y : Nat) (Hs : Good s) :
    Good (State.lineRelease s h y) := by
  unfold State.lineRelease
  repeat' first | with_reducible assumption | with_reducible apply good_rowsOut | with_reducible apply good_modHead | with_reducible apply good_beamExpire | with_reducible apply good_remoteDue | with_reducible apply good_snapStop | with_reducible apply good_prxForget | with_reducible apply good_haltLine | with_reducible apply good_llCount | with_reducible apply good_remoteRequests | with_reducible apply good_releaseWork | with_reducible refine good_foldl ?_ ?_ | dsimp only | with_reducible refine good_ite ?_ ?_ | split | intro _ | with_reducible apply good_mk

theorem good_headSettle (s : State) (h : Nat) (Hs : Good s) :
    Good (State.headSettle s h) := by
  unfold State.headSettle
  repeat' first | with_reducible assumption | with_reducible apply good_dark | dsimp only | with_reducible refine good_ite ?_ ?_ | split | intro _ | with_reducible apply good_mk

theorem good_soleSettle (s : State) (sl : Nat) (Hs : Good s) :
    Good (State.soleSettle s sl) := by
  unfold State.soleSettle
  repeat' first | with_reducible assumption | with_reducible apply good_dark | with_reducible apply good_modSole | with_reducible refine good_p1 ?_ (by with_reducible assumption) | with_reducible refine good_foldl_p1 ?_ ?_ | with_reducible refine good_foldl ?_ ?_ | dsimp only | with_reducible refine good_ite ?_ ?_ | split | intro _ | with_reducible apply good_mk

/-! ## Commit -/

theorem good_setArms (s : State) (l : List Arm) (Hs : Good s) :
    Good (State.setArms s l) := by
  unfold State.setArms
  repeat' first | with_reducible assumption | dsimp only | with_reducible refine good_ite ?_ ?_ | split | intro _ | with_reducible apply good_mk

theorem good_cancelArm (s : State) (a : Arm) (h : Nat) (Hs : Good s) :
    Good (State.cancelArm s a h) := by
  unfold State.cancelArm
  repeat' first | with_reducible assumption | with_reducible apply good_set | with_reducible apply good_setArms | with_reducible apply good_answer | with_reducible refine good_foldl ?_ ?_ | dsimp only | with_reducible refine good_ite ?_ ?_ | split | intro _ | with_reducible apply good_mk

theorem good_cancelArms (s : State) (h : Nat) (Hs : Good s) :
    Good (State.cancelArms s h) := by
  unfold State.cancelArms
  repeat' first | with_reducible assumption | with_reducible apply good_cancelArm | with_reducible refine good_foldl ?_ ?_ | dsimp only | with_reducible refine good_ite ?_ ?_ | split | intro _ | with_reducible apply good_mk

theorem good_armHeads (s : State) (el : List (Nat × Nat)) (Hs : Good s) :
    Good (State.armHeads s el) := by
  unfold State.armHeads
  repeat' first | with_reducible assumption | with_reducible apply good_set | with_reducible refine good_foldl ?_ ?_ | dsimp only | with_reducible refine good_ite ?_ ?_ | split | intro _ | with_reducible apply good_mk

theorem good_commitArm (s : State) (r : Req) (o : Nat) (p : Packet) (beam : List (Nat × Nat)) (Hs : Good s) :
    Good (State.commitArm s r o p beam) := by
  unfold State.commitArm
  repeat' first | with_reducible assumption | with_reducible apply good_answer | with_reducible apply good_set | with_reducible apply good_armHeads | with_reducible apply good_setArms | with_reducible refine good_foldl ?_ ?_ | dsimp only | with_reducible refine good_ite ?_ ?_ | split | intro _ | with_reducible apply good_mk

theorem good_commitQuery (s : State) (r : Req) (p : Packet) (Hs : Good s) :
    Good (State.commitQuery s r p) := by
  unfold State.commitQuery
  repeat' first | with_reducible assumption | with_reducible apply good_answer | with_reducible refine good_p1 ?_ (by with_reducible assumption) | dsimp only | with_reducible refine good_ite ?_ ?_ | split | intro _ | with_reducible apply good_mk

theorem good_armApplied (s : State) (h : Nat) (Hs : Good s) :
    Good (State.armApplied s h) := by
  unfold State.armApplied
  repeat' first | with_reducible assumption | with_reducible apply good_setArms | with_reducible apply good_answer | with_reducible refine good_p1 ?_ (by with_reducible assumption) | dsimp only | with_reducible refine good_ite ?_ ?_ | split | intro _ | with_reducible apply good_mk

theorem good_setLock (s : State) (h : Nat) (st : Nat) (Hs : Good s) :
    Good (State.setLock s h st) := by
  unfold State.setLock
  repeat' first | with_reducible assumption | with_reducible apply good_modHead | with_reducible apply good_report | with_reducible apply good_set | dsimp only | with_reducible refine good_ite ?_ ?_ | split | intro _ | with_reducible apply good_mk

theorem good_holdover (s : State) (h : Nat) (Hs : Good s) :
    Good (State.holdover s h) := by
  unfold State.holdover
  repeat' first | with_reducible assumption | with_reducible apply good_setLock | with_reducible apply good_set | with_reducible apply good_raise | with_reducible apply good_report | dsimp only | with_reducible refine good_ite ?_ ?_ | split | intro _ | with_reducible apply good_mk

theorem good_wbFrameEnd (s : State) (h : Nat) (Hs : Good s) :
    Good (State.wbFrameEnd s h) := by
  unfold State.wbFrameEnd
  repeat' first | with_reducible assumption | with_reducible apply good_wbDrop | with_reducible apply good_wbDone | with_reducible apply good_modHead | with_reducible refine good_p1 ?_ (by with_reducible assumption) | dsimp only | with_reducible refine good_ite ?_ ?_ | split | intro _ | with_reducible apply good_mk

theorem good_dropLists (s : State) (h : Nat) (Hs : Good s) :
    Good (State.dropLists s h) := by
  unfold State.dropLists
  repeat' first | with_reducible assumption | with_reducible apply good_llCount | with_reducible apply good_modHead | with_reducible refine good_foldl ?_ ?_ | dsimp only | with_reducible refine good_ite ?_ ?_ | split | intro _ | with_reducible apply good_mk

theorem good_dropBeam (s : State) (h : Nat) (Hs : Good s) :
    Good (State.dropBeam s h) := by
  unfold State.dropBeam
  repeat' first | with_reducible assumption | with_reducible apply good_llCount | with_reducible apply good_modHead | with_reducible refine good_foldl ?_ ?_ | dsimp only | with_reducible refine good_ite ?_ ?_ | split | intro _ | with_reducible apply good_mk

theorem good_frameEnd (s : State) (h : Nat) (top : Nat) (Hs : Good s) :
    Good (State.frameEnd s h top) := by
  unfold State.frameEnd
  repeat' first | with_reducible assumption | with_reducible apply good_rowsOut | with_reducible apply good_dropLists | with_reducible apply good_dropBeam | with_reducible apply good_wbFrameEnd | with_reducible apply good_modHead | dsimp only | with_reducible refine good_ite ?_ ?_ | split | intro _ | with_reducible apply good_mk

theorem good_copyKeys (s : State) (src : Nat) (dst : Nat) (ks : List Nat) (Hs : Good s) :
    Good (State.copyKeys s src dst ks) := by
  unfold State.copyKeys
  repeat' first | with_reducible assumption | with_reducible apply good_setReg | with_reducible refine good_foldl ?_ ?_ | dsimp only | with_reducible refine good_ite ?_ ?_ | split | intro _ | with_reducible apply good_mk

theorem good_commitExpect (s : State) (h : Nat) (changed : Bool) (Hs : Good s) :
    Good (State.commitExpect s h changed) := by
  unfold State.commitExpect
  repeat' first | with_reducible assumption | with_reducible apply good_modHead | with_reducible refine good_p1 ?_ (by with_reducible assumption) | with_reducible refine good_foldl_p1 ?_ ?_ | with_reducible refine good_foldl ?_ ?_ | dsimp only | with_reducible refine good_ite ?_ ?_ | split | intro _ | with_reducible apply good_mk

theorem good_transfer (s : State) (h : Nat) (Hs : Good s) :
    Good (State.transfer s h).1 := by
  unfold State.transfer
  repeat' first | with_reducible assumption | with_reducible apply good_copyKeys | with_reducible apply good_set | with_reducible apply good_setB | with_reducible apply good_refreshSlots | with_reducible apply good_commitExpect | with_reducible apply good_modHead | with_reducible apply good_raise | dsimp only | with_reducible refine good_ite ?_ ?_ | split | intro _ | with_reducible apply good_mk

theorem good_restore (s : State) (h : Nat) (Hs : Good s) :
    Good (State.restore s h) := by
  unfold State.restore
  repeat' first | with_reducible assumption | with_reducible apply good_copyKeys | dsimp only | with_reducible refine good_ite ?_ ?_ | split | intro _ | with_reducible apply good_mk

theorem good_latchTiming (s : State) (h : Nat) (changed : Bool) (Hs : Good s) :
    Good (State.latchTiming s h changed) := by
  unfold State.latchTiming
  repeat' first | with_reducible assumption | with_reducible apply good_takeLastTiming | with_reducible apply good_takeTiming | with_reducible apply good_set | with_reducible apply good_evalFits | with_reducible apply good_modHead | with_reducible apply good_setLock | with_reducible refine good_p1 ?_ (by with_reducible assumption) | dsimp only | with_reducible refine good_ite ?_ ?_ | split | intro _ | with_reducible apply good_mk

theorem good_wbStart (s : State) (h : Nat) (Hs : Good s) :
    Good (State.wbStart s h) := by
  unfold State.wbStart
  repeat' first | with_reducible assumption | with_reducible apply good_modHead | with_reducible apply good_set | with_reducible apply good_wbDrop | dsimp only | with_reducible refine good_ite ?_ ?_ | split | intro _ | with_reducible apply good_mk

theorem good_clearSoles (s : State) (h : Nat) (Hs : Good s) :
    Good (State.clearSoles s h) := by
  unfold State.clearSoles
  repeat' first | with_reducible assumption | with_reducible apply good_setSole | with_reducible refine good_foldl ?_ ?_ | dsimp only | with_reducible refine good_ite ?_ ?_ | split | intro _ | with_reducible apply good_mk

theorem good_frameBegin (s : State) (h : Nat) (changed : Bool) (Hs : Good s) :
    Good (State.frameBegin s h changed) := by
  unfold State.frameBegin
  repeat' first | with_reducible assumption | with_reducible apply good_clearSoles | with_reducible apply good_modHead | with_reducible apply good_report | with_reducible apply good_wbStart | with_reducible apply good_set | with_reducible apply good_setPrx | with_reducible apply good_raise | with_reducible apply good_captureTrig | with_reducible refine good_foldl ?_ ?_ | dsimp only | with_reducible refine good_ite ?_ ?_ | split | intro _ | with_reducible apply good_mk

theorem good_headStopNow (s : State) (h : Nat) (Hs : Good s) :
    Good (State.headStopNow s h) := by
  unfold State.headStopNow
  repeat' first | with_reducible assumption | with_reducible apply good_cancelArms | with_reducible apply good_modHead | with_reducible apply good_setLock | dsimp only | with_reducible refine good_ite ?_ ?_ | split | intro _ | with_reducible apply good_mk

theorem good_latchOne (s : State) (h : Nat) (Hs : Good s) :
    Good (State.latchOne s h) := by
  unfold State.latchOne
  repeat' first | with_reducible assumption | with_reducible apply good_headStopNow | with_reducible apply good_evalFits | with_reducible apply good_latchTiming | with_reducible apply good_frameBegin | with_reducible apply good_transfer | with_reducible apply good_armApplied | with_reducible apply good_restore | with_reducible apply good_markEdges | with_reducible refine good_p1 ?_ (by with_reducible assumption) | dsimp only | with_reducible refine good_ite ?_ ?_ | split | intro _ | with_reducible apply good_mk

theorem good_latchMany (s : State) (mask : List Nat) (top : Nat → Nat) (Hs : Good s) :
    Good (State.latchMany s mask top) := by
  unfold State.latchMany
  repeat' first | with_reducible assumption | with_reducible apply good_frameEnd | with_reducible apply good_setArms | with_reducible apply good_latchOne | with_reducible refine good_foldl ?_ ?_ | dsimp only | with_reducible refine good_ite ?_ ?_ | split | intro _ | with_reducible apply good_mk

theorem good_latchPoint (s : State) (mask : Nat) (Hs : Good s) :
    Good (State.latchPoint s mask) := by
  unfold State.latchPoint
  repeat' first | with_reducible assumption | with_reducible apply good_latchMany | dsimp only | with_reducible refine good_ite ?_ ?_ | split | intro _ | with_reducible apply good_mk

theorem good_headStart (s : State) (h : Nat) (Hs : Good s) :
    Good (State.headStart s h) := by
  unfold State.headStart
  repeat' first | with_reducible assumption | with_reducible apply good_modHead | with_reducible apply good_latchMany | with_reducible apply good_setLock | dsimp only | with_reducible refine good_ite ?_ ?_ | split | intro _ | with_reducible apply good_mk

theorem good_headGo (s : State) (h : Nat) (Hs : Good s) :
    Good (State.headGo s h) := by
  unfold State.headGo
  repeat' first | with_reducible assumption | with_reducible apply good_takeTiming | with_reducible apply good_modHead | with_reducible apply good_setLock | with_reducible apply good_headStart | dsimp only | with_reducible refine good_ite ?_ ?_ | split | intro _ | with_reducible apply good_mk

theorem good_writeHdCtl (s : State) (h : Nat) (v : Nat) (Hs : Good s) :
    Good (State.writeHdCtl s h v) := by
  unfold State.writeHdCtl
  repeat' first | with_reducible assumption | with_reducible apply good_set | with_reducible apply good_plainWrite | with_reducible apply good_headGo | with_reducible apply good_headStopNow | dsimp only | with_reducible refine good_ite ?_ ?_ | split | intro _ | with_reducible apply good_mk

theorem good_writeHdStat (s : State) (h : Nat) (v : Nat) (Hs : Good s) :
    Good (State.writeHdStat s h v) := by
  unfold State.writeHdStat
  repeat' first | with_reducible assumption | with_reducible apply good_plainWrite | with_reducible apply good_set | dsimp only | with_reducible refine good_ite ?_ ?_ | split | intro _ | with_reducible apply good_mk

theorem good_writeWbctl (s : State) (h : Nat) (v : Nat) (Hs : Good s) :
    Good (State.writeWbctl s h v) := by
  unfold State.writeWbctl
  repeat' first | with_reducible assumption | with_reducible apply good_plainWrite | dsimp only | with_reducible refine good_ite ?_ ?_ | split | intro _ | with_reducible apply good_mk

theorem good_readFrame (s : State) (h : Nat) (Hs : Good s) :
    Good (State.readFrame s h).2 := by
  unfold State.readFrame
  repeat' first | with_reducible assumption | with_reducible apply good_set | dsimp only | with_reducible refine good_ite ?_ ?_ | split | intro _ | with_reducible apply good_mk

theorem good_refEvent (s : State) (h : Nat) (e : Int) (ival : Nat) (Hs : Good s) :
    Good (State.refEvent s h e ival) := by
  unfold State.refEvent
  repeat' first | with_reducible assumption | with_reducible apply good_headStart | with_reducible apply good_modHead | with_reducible apply good_holdover | with_reducible apply good_setLock | with_reducible apply good_raise | with_reducible apply good_latchMany | with_reducible refine good_p1 ?_ (by with_reducible assumption) | dsimp only | with_reducible refine good_ite ?_ ?_ | split | intro _ | with_reducible apply good_mk

theorem good_refAbsent (s : State) (h : Nat) (Hs : Good s) :
    Good (State.refAbsent s h) := by
  unfold State.refAbsent
  repeat' first | with_reducible assumption | with_reducible apply good_modHead | with_reducible apply good_holdover | dsimp only | with_reducible refine good_ite ?_ ?_ | split | intro _ | with_reducible apply good_mk

theorem good_crcExpect (s : State) (r : Req) (o : Nat) (p : Packet) (Hs : Good s) :
    Good (State.crcExpect s r o p) := by
  unfold State.crcExpect
  repeat' first | with_reducible assumption | with_reducible apply good_answer | with_reducible apply good_modHead | dsimp only | with_reducible refine good_ite ?_ ?_ | split | intro _ | with_reducible apply good_mk

theorem good_snapIn (s : State) (h : Nat) (y : Nat) (g : Nat) (d : List Nat) (Hs : Good s) :
    Good (State.snapIn s h y g d) := by
  unfold State.snapIn
  repeat' first | with_reducible assumption | with_reducible apply good_modHead | with_reducible refine good_foldl ?_ ?_ | dsimp only | with_reducible refine good_ite ?_ ?_ | split | intro _ | with_reducible apply good_mk

theorem good_headsHalt (s : State) (beam : List (Nat × Nat)) (Hs : Good s) :
    Good (State.headsHalt s beam) := by
  unfold State.headsHalt
  repeat' first | with_reducible assumption | with_reducible apply good_dropLists | with_reducible apply good_modHead | with_reducible apply good_report | with_reducible apply good_haltLine | with_reducible apply good_wbDrop | with_reducible refine good_p1 ?_ (by with_reducible assumption) | with_reducible refine good_foldl_p1 ?_ ?_ | with_reducible refine good_foldl ?_ ?_ | dsimp only | with_reducible refine good_ite ?_ ?_ | split | intro _ | with_reducible apply good_mk

theorem good_headsResume (s : State) (beam : List (Nat × Nat)) (Hs : Good s) :
    Good (State.headsResume s beam) := by
  unfold State.headsResume
  repeat' first | with_reducible assumption | with_reducible apply good_haltLine | with_reducible apply good_modSole | with_reducible apply good_armHeads | with_reducible apply good_setArms | with_reducible refine good_foldl ?_ ?_ | dsimp only | with_reducible refine good_ite ?_ ?_ | split | intro _ | with_reducible apply good_mk

theorem good_armSettle (s : State) (Hs : Good s) :
    Good (State.armSettle s) := by
  unfold State.armSettle
  repeat' first | with_reducible assumption | with_reducible apply good_cancelArm | with_reducible refine good_p1 ?_ (by with_reducible assumption) | with_reducible refine good_foldl_p1 ?_ ?_ | with_reducible refine good_foldl ?_ ?_ | dsimp only | with_reducible refine good_ite ?_ ?_ | split | intro _ | with_reducible apply good_mk

/-! ## RunCtl -/

theorem good_setCore (s : State) (n : Nat) (c : CoreS) (Hs : Good s) :
    Good (State.setCore s n c) := by
  unfold State.setCore
  repeat' first | with_reducible assumption | dsimp only | with_reducible refine good_ite ?_ ?_ | split | intro _ | with_reducible apply good_mk

theorem good_stopCore (s : State) (n : Nat) (Hs : Good s) :
    Good (State.stopCore s n) := by
  unfold State.stopCore
  repeat' first | with_reducible assumption | with_reducible apply good_set | dsimp only | with_reducible refine good_ite ?_ ?_ | split | intro _ | with_reducible apply good_mk

theorem good_haltRequest (s : State) (c : Nat) (Hs : Good s) :
    Good (State.haltRequest s c) := by
  unfold State.haltRequest
  repeat' first | with_reducible assumption | with_reducible apply good_set | with_reducible apply good_stopCore | with_reducible refine good_foldl ?_ ?_ | dsimp only | with_reducible refine good_ite ?_ ?_ | split | intro _ | with_reducible apply good_mk

theorem good_haltReached (s : State) (beam : List (Nat × Nat)) (Hs : Good s) :
    Good (State.haltReached s beam) := by
  unfold State.haltReached
  repeat' first | with_reducible assumption | with_reducible apply good_set | with_reducible apply good_headsHalt | with_reducible apply good_soundStops | dsimp only | with_reducible refine good_ite ?_ ?_ | split | intro _ | with_reducible apply good_mk

theorem good_wpRecord (s : State) (bus : Bool) (wr : Bool) (pcm : Nat) (addr : Nat) (Hs : Good s) :
    Good (State.wpRecord s bus wr pcm addr) := by
  unfold State.wpRecord
  repeat' first | with_reducible assumption | with_reducible apply good_set | with_reducible apply good_setB | dsimp only | with_reducible refine good_ite ?_ ?_ | split | intro _ | with_reducible apply good_mk

theorem good_wpHalt (s : State) (i : Nat) (Hs : Good s) :
    Good (State.wpHalt s i) := by
  unfold State.wpHalt
  repeat' first | with_reducible assumption | with_reducible apply good_set | with_reducible apply good_haltRequest | dsimp only | with_reducible refine good_ite ?_ ?_ | split | intro _ | with_reducible apply good_mk

theorem good_wpBusOne (s : State) (m : Nat) (a : Nat) (n : Nat) (wr : Bool) (i : Nat) (Hs : Good s) :
    Good (State.wpBusOne s m a n wr i) := by
  unfold State.wpBusOne
  repeat' first | with_reducible assumption | with_reducible apply good_set | with_reducible apply good_wpRecord | with_reducible apply good_wpHalt | dsimp only | with_reducible refine good_ite ?_ ?_ | split | intro _ | with_reducible apply good_mk

theorem good_wpBus (s : State) (m : Nat) (a : Nat) (n : Nat) (wr : Bool) (Hs : Good s) :
    Good (State.wpBus s m a n wr) := by
  unfold State.wpBus
  repeat' first | with_reducible assumption | with_reducible apply good_wpBusOne | with_reducible refine good_foldl ?_ ?_ | dsimp only | with_reducible refine good_ite ?_ ?_ | split | intro _ | with_reducible apply good_mk

theorem good_wpCoreOne (s : State) (c : Nat) (ca : Nat) (v : Nat) (pc : Nat) (wr : Bool) (i : Nat) (Hs : Good s) :
    Good (State.wpCoreOne s c ca v pc wr i) := by
  unfold State.wpCoreOne
  repeat' first | with_reducible assumption | with_reducible apply good_set | with_reducible apply good_wpRecord | with_reducible apply good_wpHalt | with_reducible apply good_stopCore | dsimp only | with_reducible refine good_ite ?_ ?_ | split | intro _ | with_reducible apply good_mk

theorem good_wpCore (s : State) (c : Nat) (ca : Nat) (v : Nat) (pc : Nat) (wr : Bool) (Hs : Good s) :
    Good (State.wpCore s c ca v pc wr) := by
  unfold State.wpCore
  repeat' first | with_reducible assumption | with_reducible apply good_wpCoreOne | with_reducible refine good_foldl ?_ ?_ | dsimp only | with_reducible refine good_ite ?_ ?_ | split | intro _ | with_reducible apply good_mk

/-! ## Awl -/

theorem good_putHalf (s : State) (a : Nat) (v : Nat) (Hs : Good s) :
    Good (State.putHalf s a v) := by
  unfold State.putHalf
  repeat' first | with_reducible assumption | with_reducible apply good_putLE | dsimp only | with_reducible refine good_ite ?_ ?_ | split | intro _ | with_reducible apply good_mk

theorem good_setG (s : State) (n : Nat) (r : Nat) (v : Nat) (Hs : Good s) :
    Good (State.setG s n r v) := by
  unfold State.setG
  repeat' first | with_reducible assumption | with_reducible apply good_setCore | dsimp only | with_reducible refine good_ite ?_ ?_ | split | intro _ | with_reducible apply good_mk

theorem good_setBank (s : State) (n : Nat) (k : Nat) (v : Nat) (Hs : Good s) :
    Good (State.setBank s n k v) := by
  unfold State.setBank
  repeat' first | with_reducible assumption | with_reducible apply good_setCore | dsimp only | with_reducible refine good_ite ?_ ?_ | split | intro _ | with_reducible apply good_mk

theorem good_setFlags (s : State) (n : Nat) (f : AwlFlags) (Hs : Good s) :
    Good (State.setFlags s n f) := by
  unfold State.setFlags
  repeat' first | with_reducible assumption | with_reducible apply good_set | dsimp only | with_reducible refine good_ite ?_ ?_ | split | intro _ | with_reducible apply good_mk

theorem good_setPc (s : State) (n : Nat) (v : Nat) (Hs : Good s) :
    Good (State.setPc s n v) := by
  unfold State.setPc
  repeat' first | with_reducible assumption | with_reducible apply good_set | dsimp only | with_reducible refine good_ite ?_ ?_ | split | intro _ | with_reducible apply good_mk

theorem good_boundary (s : State) (n : Nat) (Hs : Good s) :
    Good (State.boundary s n) := by
  unfold State.boundary
  repeat' first | with_reducible assumption | with_reducible apply good_stopCore | dsimp only | with_reducible refine good_ite ?_ ?_ | split | intro _ | with_reducible apply good_mk

theorem good_retire (s : State) (n : Nat) (Hs : Good s) :
    Good (State.retire s n) := by
  unfold State.retire
  repeat' first | with_reducible assumption | with_reducible apply good_setCore | with_reducible apply good_boundary | dsimp only | with_reducible refine good_ite ?_ ?_ | split | intro _ | with_reducible apply good_mk

theorem good_advance (s : State) (n : Nat) (Hs : Good s) :
    Good (State.advance s n) := by
  unfold State.advance
  repeat' first | with_reducible assumption | with_reducible apply good_setCore | with_reducible apply good_setPc | with_reducible apply good_retire | dsimp only | with_reducible refine good_ite ?_ ?_ | split | intro _ | with_reducible apply good_mk

theorem good_jump (s : State) (n : Nat) (p : Nat) (Hs : Good s) :
    Good (State.jump s n p) := by
  unfold State.jump
  repeat' first | with_reducible assumption | with_reducible apply good_setCore | with_reducible apply good_setPc | with_reducible apply good_retire | dsimp only | with_reducible refine good_ite ?_ ?_ | split | intro _ | with_reducible apply good_mk

theorem good_breakLock (s : State) (n : Nat) (Hs : Good s) :
    Good (State.breakLock s n) := by
  unfold State.breakLock
  repeat' first | with_reducible assumption | with_reducible apply good_set | with_reducible apply good_setCore | dsimp only | with_reducible refine good_ite ?_ ?_ | split | intro _ | with_reducible apply good_mk

theorem good_putHalves (s : State) (a : Nat) (l : List Nat) (hs : Good s) : Good (s.putHalves a l) := by
  induction l generalizing s a with
  | nil => exact hs
  | cons v t ih => exact ih _ _ (good_putHalf s a v hs)

theorem good_writeFrame (s : State) (n : Nat) (vec : Nat) (ret : Nat) (got : Nat) (oper : Nat) (Hs : Good s) :
    Good (State.writeFrame s n vec ret got oper) := by
  unfold State.writeFrame
  repeat' first | with_reducible assumption | with_reducible apply good_putHalves | with_reducible apply good_set | with_reducible apply good_setCore | with_reducible apply good_setPc | dsimp only | with_reducible refine good_ite ?_ ?_ | split | intro _ | with_reducible apply good_mk

theorem good_frameFailure (s : State) (n : Nat) (Hs : Good s) :
    Good (State.frameFailure s n) := by
  unfold State.frameFailure
  repeat' first | with_reducible assumption | with_reducible apply good_breakLock | with_reducible apply good_coreFaulted | with_reducible apply good_report | dsimp only | with_reducible refine good_ite ?_ ?_ | split | intro _ | with_reducible apply good_mk

theorem good_setEinfo (s : State) (n : Nat) (vec : Nat) (got : Nat) (oper : Nat) (epc : Nat) (Hs : Good s) :
    Good (State.setEinfo s n vec got oper epc) := by
  unfold State.setEinfo
  repeat' first | with_reducible assumption | with_reducible apply good_set | dsimp only | with_reducible refine good_ite ?_ ?_ | split | intro _ | with_reducible apply good_mk

theorem good_enter (s : State) (n : Nat) (vec : Nat) (ret : Nat) (got : Nat) (oper : Nat) (epc : Nat) (Hs : Good s) :
    Good (State.enter s n vec ret got oper epc) := by
  unfold State.enter
  repeat' first | with_reducible assumption | with_reducible apply good_writeFrame | with_reducible apply good_setEinfo | with_reducible apply good_boundary | with_reducible apply good_frameFailure | dsimp only | with_reducible refine good_ite ?_ ?_ | split | intro _ | with_reducible apply good_mk

theorem good_trap (s : State) (n : Nat) (vec : Nat) (got : Nat) (oper : Nat) (Hs : Good s) :
    Good (State.trap s n vec got oper) := by
  unfold State.trap
  repeat' first | with_reducible assumption | with_reducible apply good_breakLock | with_reducible apply good_enter | dsimp only | with_reducible refine good_ite ?_ ?_ | split | intro _ | with_reducible apply good_mk

theorem good_tagTrap (s : State) (n : Nat) (f : Nat × Nat) (Hs : Good s) :
    Good (State.tagTrap s n f) := by
  unfold State.tagTrap
  repeat' first | with_reducible assumption | with_reducible apply good_trap | dsimp only | with_reducible refine good_ite ?_ ?_ | split | intro _ | with_reducible apply good_mk

theorem good_irqEnter (s : State) (n : Nat) (ret : Nat) (Hs : Good s) :
    Good (State.irqEnter s n ret) := by
  unfold State.irqEnter
  repeat' first | with_reducible assumption | with_reducible apply good_acceptSrc | with_reducible apply good_writeFrame | with_reducible apply good_frameFailure | with_reducible refine good_p1 ?_ (by with_reducible assumption) | dsimp only | with_reducible refine good_ite ?_ ?_ | split | intro _ | with_reducible apply good_mk

theorem good_irqAccept (s : State) (n : Nat) (Hs : Good s) :
    Good (State.irqAccept s n) := by
  unfold State.irqAccept
  repeat' first | with_reducible assumption | with_reducible apply good_irqEnter | dsimp only | with_reducible refine good_ite ?_ ?_ | split | intro _ | with_reducible apply good_mk

theorem good_wfiWake (s : State) (n : Nat) (Hs : Good s) :
    Good (State.wfiWake s n) := by
  unfold State.wfiWake
  repeat' first | with_reducible assumption | with_reducible apply good_setCore | with_reducible apply good_advance | with_reducible apply good_irqEnter | dsimp only | with_reducible refine good_ite ?_ ?_ | split | intro _ | with_reducible apply good_mk

theorem good_runOp (s : State) (n : Nat) (op : Nat) (body : Insn → State) (Hs : Good s) (Hbody : ∀ i, Good (body i)) :
    Good (State.runOp s n op body) := by
  unfold State.runOp
  repeat' first | with_reducible assumption | with_reducible apply Hbody | with_reducible apply good_advance | with_reducible refine good_p1 ?_ (by with_reducible assumption) | dsimp only | with_reducible refine good_ite ?_ ?_ | split | intro _ | with_reducible apply good_mk

theorem good_reservedEnc (s : State) (n : Nat) (Hs : Good s) :
    Good (State.reservedEnc s n) := by
  unfold State.reservedEnc
  repeat' first | with_reducible assumption | with_reducible apply good_trap | dsimp only | with_reducible refine good_ite ?_ ?_ | split | intro _ | with_reducible apply good_mk

theorem good_result (s : State) (n : Nat) (r : Nat) (v : Nat) (f : AwlFlags) (Hs : Good s) :
    Good (State.result s n r v f) := by
  unfold State.result
  repeat' first | with_reducible assumption | with_reducible apply good_setG | with_reducible apply good_setFlags | with_reducible apply good_advance | dsimp only | with_reducible refine good_ite ?_ ?_ | split | intro _ | with_reducible apply good_mk

theorem good_resultG (s : State) (n : Nat) (r : Nat) (v : Nat) (Hs : Good s) :
    Good (State.resultG s n r v) := by
  unfold State.resultG
  repeat' first | with_reducible assumption | with_reducible apply good_setG | with_reducible apply good_advance | dsimp only | with_reducible refine good_ite ?_ ?_ | split | intro _ | with_reducible apply good_mk

theorem good_run2 (s : State) (n : Nat) (op : Nat) (k : Nat → Nat → AwlFlags → Option Nat × AwlFlags) (Hs : Good s) :
    Good (State.run2 s n op k) := by
  unfold State.run2
  repeat' first | with_reducible assumption | with_reducible apply good_runOp | with_reducible apply good_tagTrap | with_reducible apply good_result | with_reducible apply good_setFlags | with_reducible apply good_advance | with_reducible refine good_p1 ?_ (by with_reducible assumption) | dsimp only | with_reducible refine good_ite ?_ ?_ | split | intro _ | with_reducible apply good_mk

theorem good_run1 (s : State) (n : Nat) (op : Nat) (ok : List Nat) (k : Nat → AwlFlags → Nat × AwlFlags) (Hs : Good s) :
    Good (State.run1 s n op ok k) := by
  unfold State.run1
  repeat' first | with_reducible assumption | with_reducible apply good_runOp | with_reducible apply good_tagTrap | with_reducible apply good_result | with_reducible refine good_p1 ?_ (by with_reducible assumption) | dsimp only | with_reducible refine good_ite ?_ ?_ | split | intro _ | with_reducible apply good_mk

theorem good_runImm (s : State) (n : Nat) (op : Nat) (ok : List Nat) (k : Nat → Nat → AwlFlags → Option Nat × AwlFlags) (Hs : Good s) :
    Good (State.runImm s n op ok k) := by
  unfold State.runImm
  repeat' first | with_reducible assumption | with_reducible apply good_runOp | with_reducible apply good_tagTrap | with_reducible apply good_result | with_reducible apply good_setFlags | with_reducible apply good_advance | with_reducible refine good_p1 ?_ (by with_reducible assumption) | dsimp only | with_reducible refine good_ite ?_ ?_ | split | intro _ | with_reducible apply good_mk

theorem good_runDiv (s : State) (n : Nat) (op : Nat) (k : Nat → Nat → AwlFlags → Nat × AwlFlags) (Hs : Good s) :
    Good (State.runDiv s n op k) := by
  unfold State.runDiv
  repeat' first | with_reducible assumption | with_reducible apply good_runOp | with_reducible apply good_tagTrap | with_reducible apply good_trap | with_reducible apply good_result | with_reducible refine good_p1 ?_ (by with_reducible assumption) | dsimp only | with_reducible refine good_ite ?_ ?_ | split | intro _ | with_reducible apply good_mk

theorem good_runRep (s : State) (n : Nat) (Hs : Good s) :
    Good (State.runRep s n) := by
  unfold State.runRep
  repeat' first | with_reducible assumption | with_reducible apply good_runOp | with_reducible apply good_tagTrap | with_reducible apply good_trap | with_reducible apply good_jump | with_reducible apply good_setPc | with_reducible apply good_setCore | with_reducible apply good_retire | with_reducible refine good_p1 ?_ (by with_reducible assumption) | dsimp only | with_reducible refine good_ite ?_ ?_ | split | intro _ | with_reducible apply good_mk

theorem good_runLock (s : State) (n : Nat) (Hs : Good s) :
    Good (State.runLock s n) := by
  unfold State.runLock
  repeat' first | with_reducible assumption | with_reducible apply good_runOp | with_reducible apply good_enter | with_reducible apply good_set | with_reducible apply good_advance | with_reducible apply good_setCore | dsimp only | with_reducible refine good_ite ?_ ?_ | split | intro _ | with_reducible apply good_mk

theorem good_runUnlock (s : State) (n : Nat) (Hs : Good s) :
    Good (State.runUnlock s n) := by
  unfold State.runUnlock
  repeat' first | with_reducible assumption | with_reducible apply good_runOp | with_reducible apply good_trap | with_reducible apply good_set | with_reducible apply good_advance | dsimp only | with_reducible refine good_ite ?_ ?_ | split | intro _ | with_reducible apply good_mk

theorem good_lockBreak (s : State) (n : Nat) (Hs : Good s) :
    Good (State.lockBreak s n) := by
  unfold State.lockBreak
  repeat' first | with_reducible assumption | with_reducible apply good_breakLock | with_reducible apply good_set | with_reducible apply good_setCore | with_reducible apply good_stopCore | with_reducible apply good_enter | dsimp only | with_reducible refine good_ite ?_ ?_ | split | intro _ | with_reducible apply good_mk

theorem good_runWfi (s : State) (n : Nat) (Hs : Good s) :
    Good (State.runWfi s n) := by
  unfold State.runWfi
  repeat' first | with_reducible assumption | with_reducible apply good_runOp | with_reducible apply good_setCore | with_reducible apply good_wfiWake | dsimp only | with_reducible refine good_ite ?_ ?_ | split | intro _ | with_reducible apply good_mk

theorem good_runReti (s : State) (n : Nat) (Hs : Good s) :
    Good (State.runReti s n) := by
  unfold State.runReti
  repeat' first | with_reducible assumption | with_reducible apply good_runOp | with_reducible apply good_draw | with_reducible apply good_trap | with_reducible apply good_set | with_reducible apply good_setPc | with_reducible apply good_setCore | with_reducible apply good_retire | dsimp only | with_reducible refine good_ite ?_ ?_ | split | intro _ | with_reducible apply good_mk

theorem good_startCore (s : State) (n : Nat) (Hs : Good s) :
    Good (State.startCore s n) := by
  unfold State.startCore
  repeat' first | with_reducible assumption | with_reducible apply good_setCore | with_reducible apply good_set | with_reducible apply good_setPc | with_reducible refine good_foldl ?_ ?_ | dsimp only | with_reducible refine good_ite ?_ ?_ | split | intro _ | with_reducible apply good_mk

theorem good_programStart (s : State) (r : Req) (o : Nat) (p : Packet) (Hs : Good s) :
    Good (State.programStart s r o p) := by
  unfold State.programStart
  repeat' first | with_reducible assumption | with_reducible apply good_answer | with_reducible apply good_set | with_reducible apply good_setCore | with_reducible apply good_joinPath | dsimp only | with_reducible refine good_ite ?_ ?_ | split | intro _ | with_reducible apply good_mk

theorem good_verifyReply (s : State) (r : Req) (fail : Option (Nat × Option Nat)) (id : Nat) (Hs : Good s) :
    Good (State.verifyReply s r fail id) := by
  unfold State.verifyReply
  repeat' first | with_reducible assumption | with_reducible apply good_draw | with_reducible apply good_answer | with_reducible refine good_p1 ?_ (by with_reducible assumption) | dsimp only | with_reducible refine good_ite ?_ ?_ | split | intro _ | with_reducible apply good_mk

theorem good_programStarted (s : State) (n : Nat) (Hs : Good s) :
    Good (State.programStarted s n) := by
  unfold State.programStarted
  repeat' first | with_reducible assumption | with_reducible apply good_setCore | with_reducible apply good_set | with_reducible apply good_startCore | with_reducible apply good_verifyReply | with_reducible refine good_p1 ?_ (by with_reducible assumption) | dsimp only | with_reducible refine good_ite ?_ ?_ | split | intro _ | with_reducible apply good_mk

theorem good_endStart (s : State) (n : Nat) (Hs : Good s) :
    Good (State.endStart s n) := by
  unfold State.endStart
  repeat' first | with_reducible assumption | with_reducible apply good_setCore | with_reducible apply good_verifyReply | with_reducible refine good_p1 ?_ (by with_reducible assumption) | dsimp only | with_reducible refine good_ite ?_ ?_ | split | intro _ | with_reducible apply good_mk

/-! ## Trust -/

theorem good_showKeys (s : State) (Hs : Good s) :
    Good (State.showKeys s) := by
  unfold State.showKeys
  repeat' first | with_reducible assumption | with_reducible apply good_set | dsimp only | with_reducible refine good_ite ?_ ?_ | split | intro _ | with_reducible apply good_mk

theorem good_loadFuses (s : State) (Hs : Good s) :
    Good (State.loadFuses s) := by
  unfold State.loadFuses
  repeat' first | with_reducible assumption | with_reducible apply good_setRegN | with_reducible apply good_showKeys | with_reducible refine good_foldl ?_ ?_ | dsimp only | with_reducible refine good_ite ?_ ?_ | split | intro _ | with_reducible apply good_mk

theorem good_writeFusecmd (s : State) (v : Nat) (rec_ : Option (List Nat)) (Hs : Good s) :
    Good (State.writeFusecmd s v rec_) := by
  unfold State.writeFusecmd
  repeat' first | with_reducible assumption | with_reducible apply good_set | with_reducible apply good_plainWrite | with_reducible apply good_modSec | dsimp only | with_reducible refine good_ite ?_ ?_ | split | intro _ | with_reducible apply good_mk

theorem good_fuseDone (s : State) (Hs : Good s) :
    Good (State.fuseDone s) := by
  unfold State.fuseDone
  repeat' first | with_reducible assumption | with_reducible apply good_set | with_reducible apply good_modSec | with_reducible apply good_draw | with_reducible apply good_showKeys | with_reducible refine good_p1 ?_ (by with_reducible assumption) | dsimp only | with_reducible refine good_ite ?_ ?_ | split | intro _ | with_reducible apply good_mk

theorem good_bootPath (s : State) (src : Nat) (Hs : Good s) :
    Good (State.bootPath s src) := by
  unfold State.bootPath
  repeat' first | with_reducible assumption | with_reducible apply good_set | with_reducible refine good_foldl ?_ ?_ | dsimp only | with_reducible refine good_ite ?_ ?_ | split | intro _ | with_reducible apply good_mk

theorem good_bootErr (s : State) (status : Nat) (detail : Nat) (entry : Nat) (Hs : Good s) :
    Good (State.bootErr s status detail entry) := by
  unfold State.bootErr
  repeat' first | with_reducible assumption | with_reducible apply good_set | dsimp only | with_reducible refine good_ite ?_ ?_ | split | intro _ | with_reducible apply good_mk

theorem good_bootStart (s : State) (Hs : Good s) :
    Good (State.bootStart s) := by
  unfold State.bootStart
  repeat' first | with_reducible assumption | with_reducible apply good_bootPath | with_reducible apply good_set | with_reducible apply good_bootErr | dsimp only | with_reducible refine good_ite ?_ ?_ | split | intro _ | with_reducible apply good_mk

theorem good_vstat (s : State) (kind : Nat) (status : Nat) (detail : Nat) (Hs : Good s) :
    Good (State.vstat s kind status detail) := by
  unfold State.vstat
  repeat' first | with_reducible assumption | with_reducible apply good_set | dsimp only | with_reducible refine good_ite ?_ ?_ | split | intro _ | with_reducible apply good_mk

theorem good_bootCore (s : State) (n : Nat) (Hs : Good s) :
    Good (State.bootCore s n) := by
  unfold State.bootCore
  repeat' first | with_reducible assumption | with_reducible apply good_startCore | dsimp only | with_reducible refine good_ite ?_ ?_ | split | intro _ | with_reducible apply good_mk

theorem good_bootDone (s : State) (Hs : Good s) :
    Good (State.bootDone s) := by
  unfold State.bootDone
  repeat' first | with_reducible assumption | with_reducible apply good_set | with_reducible apply good_setB | with_reducible apply good_bootCore | with_reducible apply good_modSec | with_reducible apply good_raise | with_reducible apply good_report | with_reducible apply good_vstat | with_reducible apply good_verifyReply | with_reducible refine good_p1 ?_ (by with_reducible assumption) | with_reducible refine good_foldl_p1 ?_ ?_ | with_reducible refine good_foldl ?_ ?_ | dsimp only | with_reducible refine good_ite ?_ ?_ | split | intro _ | with_reducible apply good_mk

theorem good_bootFailed (s : State) (Hs : Good s) :
    Good (State.bootFailed s) := by
  unfold State.bootFailed
  repeat' first | with_reducible assumption | with_reducible apply good_set | with_reducible apply good_report | with_reducible apply good_modSec | with_reducible apply good_bootPath | dsimp only | with_reducible refine good_ite ?_ ?_ | split | intro _ | with_reducible apply good_mk

theorem good_loadFailed (s : State) (e : Nat) (status : Nat) (detail : Nat) (Hs : Good s) :
    Good (State.loadFailed s e status detail) := by
  unfold State.loadFailed
  repeat' first | with_reducible assumption | with_reducible apply good_bootErr | with_reducible apply good_modSec | with_reducible apply good_bootFailed | with_reducible apply good_set | with_reducible apply good_vstat | with_reducible apply good_verifyReply | with_reducible refine good_p1 ?_ (by with_reducible assumption) | dsimp only | with_reducible refine good_ite ?_ ?_ | split | intro _ | with_reducible apply good_mk

theorem good_loadBegin (s : State) (Hs : Good s) :
    Good (State.loadBegin s) := by
  unfold State.loadBegin
  repeat' first | with_reducible assumption | with_reducible apply good_set | with_reducible apply good_modSec | dsimp only | with_reducible refine good_ite ?_ ?_ | split | intro _ | with_reducible apply good_mk

theorem good_flashCopy (s : State) (copy : Option (List Nat)) (hs : Good s) : Good (s.flashCopy copy) := by
  unfold State.flashCopy
  refine good_ite hs ?_
  extract_lets s1 fail
  have h1 : Good s1 := good_modSec _ _ hs
  clear_value s1 fail
  cases fail with
  | none => exact good_loadBegin s1 h1
  | some f =>
    have h2 := good_modSec _ (fun c => { c with rejected := true, buf := [] }) (good_bootErr s1 f.1 f.2 0 h1)
    exact good_ite (good_modSec _ _ h2) (good_bootFailed _ h2)

theorem good_imageVerify (s : State) (r : Req) (p : Packet) (Hs : Good s) :
    Good (State.imageVerify s r p) := by
  unfold State.imageVerify
  repeat' first | with_reducible assumption | with_reducible apply good_answer | with_reducible apply good_modSec | with_reducible apply good_set | with_reducible apply good_joinPath | dsimp only | with_reducible refine good_ite ?_ ?_ | split | intro _ | with_reducible apply good_mk

theorem good_beginSign (s : State) (r : Req) (body : List Nat) (Hs : Good s) :
    Good (State.beginSign s r body) := by
  unfold State.beginSign
  repeat' first | with_reducible assumption | with_reducible apply good_modSec | with_reducible apply good_answer | dsimp only | with_reducible refine good_ite ?_ ?_ | split | intro _ | with_reducible apply good_mk

theorem good_signDone (s : State) (Hs : Good s) :
    Good (State.signDone s) := by
  unfold State.signDone
  repeat' first | with_reducible assumption | with_reducible apply good_modSec | with_reducible apply good_answer | with_reducible apply good_draw | with_reducible refine good_p1 ?_ (by with_reducible assumption) | dsimp only | with_reducible refine good_ite ?_ ?_ | split | intro _ | with_reducible apply good_mk

theorem good_pictureReport (s : State) (r : Req) (p : Packet) (Hs : Good s) :
    Good (State.pictureReport s r p) := by
  unfold State.pictureReport
  repeat' first | with_reducible assumption | with_reducible apply good_answer | with_reducible apply good_beginSign | with_reducible refine good_p1 ?_ (by with_reducible assumption) | dsimp only | with_reducible refine good_ite ?_ ?_ | split | intro _ | with_reducible apply good_mk

theorem good_attest (s : State) (r : Req) (p : Packet) (Hs : Good s) :
    Good (State.attest s r p) := by
  unfold State.attest
  repeat' first | with_reducible assumption | with_reducible apply good_answer | with_reducible apply good_beginSign | dsimp only | with_reducible refine good_ite ?_ ?_ | split | intro _ | with_reducible apply good_mk

/-! ## Panel -/

theorem good_modPanel (s : State) (f : PanelS → PanelS) (Hs : Good s) :
    Good (State.modPanel s f) := by
  unfold State.modPanel
  repeat' first | with_reducible assumption | dsimp only | with_reducible refine good_ite ?_ ?_ | split | intro _ | with_reducible apply good_mk

theorem good_modFe (s : State) (n : Nat) (f : FeS → FeS) (Hs : Good s) :
    Good (State.modFe s n f) := by
  unfold State.modFe
  repeat' first | with_reducible assumption | with_reducible apply good_modPanel | dsimp only | with_reducible refine good_ite ?_ ?_ | split | intro _ | with_reducible apply good_mk

theorem good_feAbandon (s : State) (n : Nat) (Hs : Good s) :
    Good (State.feAbandon s n) := by
  unfold State.feAbandon
  repeat' first | with_reducible assumption | with_reducible apply good_modFe | with_reducible apply good_set | with_reducible apply good_bump | dsimp only | with_reducible refine good_ite ?_ ?_ | split | intro _ | with_reducible apply good_mk

theorem good_stepSlot (s : State) (n : Nat) (y : Nat) (res : List Nat) (Hs : Good s) :
    Good (State.stepSlot s n y res) := by
  unfold State.stepSlot
  repeat' first | with_reducible assumption | with_reducible apply good_modFe | with_reducible apply good_set | with_reducible refine good_p1 ?_ (by with_reducible assumption) | with_reducible refine good_foldl_p1 ?_ ?_ | with_reducible refine good_foldl ?_ ?_ | dsimp only | with_reducible refine good_ite ?_ ?_ | split | intro _ | with_reducible apply good_mk

theorem good_feReport (s : State) (n : Nat) (end_ : Nat × Bool) (Hs : Good s) :
    Good (State.feReport s n end_).1 := by
  unfold State.feReport
  repeat' first | with_reducible assumption | with_reducible apply good_set | with_reducible apply good_modFe | with_reducible apply good_draw | with_reducible refine good_p1 ?_ (by with_reducible assumption) | with_reducible refine good_foldl_p1 ?_ ?_ | with_reducible refine good_foldl ?_ ?_ | dsimp only | with_reducible refine good_ite ?_ ?_ | split | intro _ | with_reducible apply good_mk

theorem good_feSend (s : State) (n : Nat) (body : List Nat) (Hs : Good s) :
    Good (State.feSend s n body) := by
  unfold State.feSend
  repeat' first | with_reducible assumption | with_reducible apply good_weltOn | with_reducible refine good_foldl ?_ ?_ | dsimp only | with_reducible refine good_ite ?_ ?_ | split | intro _ | with_reducible apply good_mk

theorem good_writeFeCtl (s : State) (n : Nat) (v : Nat) (Hs : Good s) :
    Good (State.writeFeCtl s n v) := by
  unfold State.writeFeCtl
  repeat' first | with_reducible assumption | with_reducible apply good_plainWrite | with_reducible apply good_modFe | with_reducible apply good_feAbandon | dsimp only | with_reducible refine good_ite ?_ ?_ | split | intro _ | with_reducible apply good_mk

theorem good_feSettle (s : State) (Hs : Good s) :
    Good (State.feSettle s) := by
  unfold State.feSettle
  repeat' first | with_reducible assumption | with_reducible apply good_setB | with_reducible apply good_feAbandon | with_reducible refine good_foldl ?_ ?_ | dsimp only | with_reducible refine good_ite ?_ ?_ | split | intro _ | with_reducible apply good_mk

theorem good_panelEntry (s : State) (detail : Nat) (Hs : Good s) :
    Good (State.panelEntry s detail) := by
  unfold State.panelEntry
  repeat' first | with_reducible assumption | with_reducible apply good_raise | with_reducible apply good_report | dsimp only | with_reducible refine good_ite ?_ ?_ | split | intro _ | with_reducible apply good_mk

theorem good_shankLimits (s : State) (Hs : Good s) :
    Good (State.shankLimits s) := by
  unfold State.shankLimits
  repeat' first | with_reducible assumption | with_reducible apply good_modPanel | with_reducible apply good_setB | with_reducible apply good_panelEntry | dsimp only | with_reducible refine good_ite ?_ ?_ | split | intro _ | with_reducible apply good_mk

theorem good_modHeater (s : State) (h : Nat) (f : HeaterS → HeaterS) (Hs : Good s) :
    Good (State.modHeater s h f) := by
  unfold State.modHeater
  repeat' first | with_reducible assumption | with_reducible apply good_modPanel | dsimp only | with_reducible refine good_ite ?_ ?_ | split | intro _ | with_reducible apply good_mk

theorem good_thermostat (s : State) (h : Nat) (Hs : Good s) :
    Good (State.thermostat s h) := by
  unfold State.thermostat
  repeat' first | with_reducible assumption | with_reducible apply good_set | dsimp only | with_reducible refine good_ite ?_ ?_ | split | intro _ | with_reducible apply good_mk

theorem good_shankSettle (s : State) (Hs : Good s) :
    Good (State.shankSettle s) := by
  unfold State.shankSettle
  repeat' first | with_reducible assumption | with_reducible apply good_modPanel | with_reducible apply good_setB | with_reducible apply good_shankLimits | with_reducible apply good_thermostat | with_reducible apply good_modHeater | with_reducible refine good_foldl ?_ ?_ | dsimp only | with_reducible refine good_ite ?_ ?_ | split | intro _ | with_reducible apply good_mk

theorem good_sensorConvert (s : State) (als : List Nat) (th : List Nat) (Hs : Good s) :
    Good (State.sensorConvert s als th) := by
  unfold State.sensorConvert
  repeat' first | with_reducible assumption | with_reducible apply good_modPanel | with_reducible apply good_set | with_reducible refine good_foldl ?_ ?_ | dsimp only | with_reducible refine good_ite ?_ ?_ | split | intro _ | with_reducible apply good_mk

theorem good_thermStale (s : State) (t : Nat) (Hs : Good s) :
    Good (State.thermStale s t) := by
  unfold State.thermStale
  repeat' first | with_reducible assumption | with_reducible apply good_modPanel | dsimp only | with_reducible refine good_ite ?_ ?_ | split | intro _ | with_reducible apply good_mk

theorem good_writeBlcfg (s : State) (v : Nat) (Hs : Good s) :
    Good (State.writeBlcfg s v) := by
  unfold State.writeBlcfg
  repeat' first | with_reducible assumption | with_reducible apply good_plainWrite | with_reducible apply good_set | dsimp only | with_reducible refine good_ite ?_ ?_ | split | intro _ | with_reducible apply good_mk

theorem good_pwmStart (s : State) (Hs : Good s) :
    Good (State.pwmStart s) := by
  unfold State.pwmStart
  repeat' first | with_reducible assumption | with_reducible apply good_modPanel | with_reducible apply good_set | with_reducible refine good_foldl ?_ ?_ | dsimp only | with_reducible refine good_ite ?_ ?_ | split | intro _ | with_reducible apply good_mk

theorem good_heaterStart (s : State) (h : Nat) (Hs : Good s) :
    Good (State.heaterStart s h) := by
  unfold State.heaterStart
  repeat' first | with_reducible assumption | with_reducible apply good_modHeater | dsimp only | with_reducible refine good_ite ?_ ?_ | split | intro _ | with_reducible apply good_mk

theorem good_heaterEnd (s : State) (h : Nat) (imeas : Nat) (Hs : Good s) :
    Good (State.heaterEnd s h imeas) := by
  unfold State.heaterEnd
  repeat' first | with_reducible assumption | with_reducible apply good_modHeater | with_reducible apply good_set | with_reducible apply good_report | dsimp only | with_reducible refine good_ite ?_ ?_ | split | intro _ | with_reducible apply good_mk

theorem good_heaterTrip (s : State) (h : Nat) (Hs : Good s) :
    Good (State.heaterTrip s h) := by
  unfold State.heaterTrip
  repeat' first | with_reducible assumption | with_reducible apply good_modHeater | with_reducible apply good_bump | with_reducible apply good_set | with_reducible apply good_report | dsimp only | with_reducible refine good_ite ?_ ?_ | split | intro _ | with_reducible apply good_mk

theorem good_keepExpire (s : State) (Hs : Good s) :
    Good (State.keepExpire s) := by
  unfold State.keepExpire
  repeat' first | with_reducible assumption | with_reducible apply good_set | with_reducible apply good_panelEntry | dsimp only | with_reducible refine good_ite ?_ ?_ | split | intro _ | with_reducible apply good_mk

theorem good_writeShkCtl (s : State) (v : Nat) (Hs : Good s) :
    Good (State.writeShkCtl s v) := by
  unfold State.writeShkCtl
  repeat' first | with_reducible assumption | with_reducible apply good_plainWrite | with_reducible apply good_modPanel | with_reducible apply good_set | dsimp only | with_reducible refine good_ite ?_ ?_ | split | intro _ | with_reducible apply good_mk

/-! ## Eyelets -/

theorem good_writeEycfg (s : State) (o : Nat) (n : Nat) (v : Nat) (Hs : Good s) :
    Good (State.writeEycfg s o n v) := by
  unfold State.writeEycfg
  repeat' first | with_reducible assumption | with_reducible apply good_setRegN | with_reducible apply good_plainWrite | dsimp only | with_reducible refine good_ite ?_ ?_ | split | intro _ | with_reducible apply good_mk

theorem good_eyeSample (s : State) (n : Nat) (lv : Bool) (Hs : Good s) :
    Good (State.eyeSample s n lv) := by
  unfold State.eyeSample
  repeat' first | with_reducible assumption | with_reducible apply good_setB | with_reducible apply good_set | dsimp only | with_reducible refine good_ite ?_ ?_ | split | intro _ | with_reducible apply good_mk

theorem good_modPer (s : State) (p : Nat) (f : PerS → PerS) (Hs : Good s) :
    Good (State.modPer s p f) := by
  unfold State.modPer
  repeat' first | with_reducible assumption | dsimp only | with_reducible refine good_ite ?_ ?_ | split | intro _ | with_reducible apply good_mk

theorem good_writeI2cCmd (s : State) (k : Nat) (v : Nat) (Hs : Good s) :
    Good (State.writeI2cCmd s k v) := by
  unfold State.writeI2cCmd
  repeat' first | with_reducible assumption | with_reducible apply good_plainWrite | with_reducible apply good_set | dsimp only | with_reducible refine good_ite ?_ ?_ | split | intro _ | with_reducible apply good_mk

theorem good_i2cDone (s : State) (k : Nat) (n : Nat) (data : List Nat) (nack : Bool) (lost : Bool) (Hs : Good s) :
    Good (State.i2cDone s k n data nack lost) := by
  unfold State.i2cDone
  repeat' first | with_reducible assumption | with_reducible apply good_modPer | with_reducible apply good_set | dsimp only | with_reducible refine good_ite ?_ ?_ | split | intro _ | with_reducible apply good_mk

theorem good_uartRx (s : State) (u : Nat) (byte : Nat) (bad : Bool) (Hs : Good s) :
    Good (State.uartRx s u byte bad) := by
  unfold State.uartRx
  repeat' first | with_reducible assumption | with_reducible apply good_set | with_reducible apply good_modPer | dsimp only | with_reducible refine good_ite ?_ ?_ | split | intro _ | with_reducible apply good_mk

theorem good_uartTx (s : State) (u : Nat) (cts : Bool) (Hs : Good s) :
    Good (State.uartTx s u cts) := by
  unfold State.uartTx
  repeat' first | with_reducible assumption | with_reducible apply good_modPer | dsimp only | with_reducible refine good_ite ?_ ?_ | split | intro _ | with_reducible apply good_mk

theorem good_readPer (s : State) (Hs : Good s) :
    Good (State.readPer s).2 := by
  unfold State.readPer
  repeat' first | with_reducible assumption | with_reducible apply good_modPer | with_reducible apply good_draw | with_reducible refine good_p1 ?_ (by with_reducible assumption) | dsimp only | with_reducible refine good_ite ?_ ?_ | split | intro _ | with_reducible apply good_mk

theorem good_writePer (s : State) (v : Nat) (Hs : Good s) :
    Good (State.writePer s v) := by
  unfold State.writePer
  repeat' first | with_reducible assumption | with_reducible apply good_set | with_reducible apply good_modPer | with_reducible apply good_plainWrite | with_reducible apply good_writeI2cCmd | dsimp only | with_reducible refine good_ite ?_ ?_ | split | intro _ | with_reducible apply good_mk

end Sys2Proof.Machine
end

