-- ==== Sys2Proof/Laws/GoodReset.lean ====
section
/-! SUPPORT. Canonical form kept: resets, the debug port and register writes. -/
namespace Sys2Proof.Machine

/-! ## Reset -/

theorem good_regColumns (s : State) (pick : FieldSpec → Rst) (fuse : Nat → Nat) (hs : Good s) : Good (s.regColumns pick fuse) := by
  unfold State.regColumns
  exact good_foldl (fun a k ha => good_setRegN a k _ ha) ⟨hs.1, tabWf_filter _ hs.2⟩

theorem good_endSession (s : State) (src : Src) (Hs : Good s) :
    Good (State.endSession s src) := by
  unfold State.endSession
  repeat' first | with_reducible assumption | with_reducible apply good_bus_tongue | with_reducible apply Fin'.good_done | with_reducible refine Fin'.good_of_done ?_ (by with_reducible assumption) | with_reducible apply Fin'.good_wait | with_reducible refine Fin'.good_eq ?_ (by with_reducible assumption) | dsimp only | with_reducible refine good_ite ?_ ?_ | split | intro _ | with_reducible apply good_mk

theorem good_loseRegs (s : State) (d : Nat) (hs : Good s) : Good (s.loseRegs d) := by
  unfold State.loseRegs
  exact ⟨hs.1, tabWf_drop (fun k => regDomain k == d && !keptOff k) hs.2⟩

theorem good_fuseRegs (s : State) (d : Nat) (Hs : Good s) :
    Good (State.fuseRegs s d) := by
  unfold State.fuseRegs
  repeat' first | with_reducible assumption | with_reducible apply good_setRegN | with_reducible apply good_showKeys | with_reducible refine good_foldl ?_ ?_ | dsimp only | with_reducible refine good_ite ?_ ?_ | split | intro _ | with_reducible apply good_mk

theorem good_loseSole (s : State) (n : Nat) (Hs : Good s) :
    Good (State.loseSole s n) := by
  unfold State.loseSole
  repeat' first | with_reducible assumption | with_reducible apply good_setSole | with_reducible apply good_modWelt | with_reducible refine good_p1 ?_ (by with_reducible assumption) | dsimp only | with_reducible refine good_ite ?_ ?_ | split | intro _ | with_reducible apply good_mk

theorem good_loseHead (s : State) (h : Nat) (hs : HeadS) (Hs : Good s) :
    Good (State.loseHead s h hs) := by
  unfold State.loseHead
  repeat' first | with_reducible assumption | with_reducible apply good_setHead | dsimp only | with_reducible refine good_ite ?_ ?_ | split | intro _ | with_reducible apply good_mk

theorem good_endSec (s : State) (Hs : Good s) :
    Good (State.endSec s) := by
  unfold State.endSec
  repeat' first | with_reducible assumption | with_reducible apply good_verifyReply | with_reducible apply good_answer | with_reducible refine good_p1 ?_ (by with_reducible assumption) | dsimp only | with_reducible refine good_ite ?_ ?_ | split | intro _ | with_reducible apply good_mk

theorem good_loseCore (s : State) (n : Nat) (Hs : Good s) :
    Good (State.loseCore s n) := by
  unfold State.loseCore
  repeat' first | with_reducible assumption | with_reducible apply good_endStart | with_reducible apply good_breakLock | with_reducible apply good_setCore | with_reducible apply good_emptyStack | with_reducible apply good_dropBus | with_reducible apply good_modSec | dsimp only | with_reducible refine good_ite ?_ ?_ | split | intro _ | with_reducible apply good_mk

theorem good_losePalettes (s : State) (h : Nat) (Hs : Good s) :
    Good (State.losePalettes s h) := by
  unfold State.losePalettes
  repeat' first | with_reducible assumption | with_reducible apply good_loseMem | dsimp only | with_reducible refine good_ite ?_ ?_ | split | intro _ | with_reducible apply good_mk

theorem good_loseCommands (s : State) (Hs : Good s) :
    Good (State.loseCommands s) := by
  unfold State.loseCommands
  repeat' first | with_reducible assumption | with_reducible apply good_weltDrop | with_reducible apply good_modWelt | with_reducible refine good_foldl ?_ ?_ | dsimp only | with_reducible refine good_ite ?_ ?_ | split | intro _ | with_reducible apply good_mk

theorem good_memOff (s : State) (Hs : Good s) : Good (State.memOff s) := by
  unfold State.memOff
  repeat' first | with_reducible assumption | with_reducible apply good_setRegN | with_reducible apply good_loseGddr | with_reducible apply good_memReadyBit | with_reducible refine good_foldl ?_ ?_ | dsimp only | intro _ | with_reducible apply good_mk

theorem good_domainLost (s : State) (d : Nat) (Hs : Good s) :
    Good (State.domainLost s d) := by
  unfold State.domainLost
  repeat' first | with_reducible assumption | with_reducible apply good_endSec | with_reducible apply good_loseRegs | with_reducible apply good_endSession | with_reducible apply good_bus_tongue | with_reducible apply good_dropBus | with_reducible apply good_loseCommands | with_reducible apply good_loseCore | with_reducible apply good_set | with_reducible apply good_loseMem | with_reducible apply good_loseLasts | with_reducible apply good_wbDrop | with_reducible apply good_wbDropTail | with_reducible apply good_cancelArms | with_reducible apply good_loseHead | with_reducible apply good_dropCur | with_reducible apply good_losePalettes | with_reducible apply good_loseSole | with_reducible apply good_memOff | with_reducible apply good_weltPortLost | with_reducible apply good_dpAbandon | with_reducible apply good_setPortState | with_reducible apply good_refLost | with_reducible apply Fin'.good_done | with_reducible refine Fin'.good_of_done ?_ (by with_reducible assumption) | with_reducible apply Fin'.good_wait | with_reducible refine Fin'.good_eq ?_ (by with_reducible assumption) | with_reducible refine good_p1 ?_ (by with_reducible assumption) | with_reducible refine good_foldl_p1 ?_ ?_ | with_reducible refine good_foldl ?_ ?_ | dsimp only | with_reducible refine good_ite ?_ ?_ | split | intro _ | with_reducible apply good_mk

theorem good_domainStart (s : State) (d : Nat) (Hs : Good s) :
    Good (State.domainStart s d) := by
  unfold State.domainStart
  repeat' first | with_reducible assumption | with_reducible apply good_fuseRegs | with_reducible apply good_loseMem | with_reducible apply good_losePalettes | with_reducible apply good_startTraining | with_reducible apply good_portStart | with_reducible refine good_p1 ?_ (by with_reducible assumption) | with_reducible refine good_foldl_p1 ?_ ?_ | with_reducible refine good_foldl ?_ ?_ | dsimp only | with_reducible refine good_ite ?_ ?_ | split | intro _ | with_reducible apply good_mk

theorem good_domainOff (s : State) (d : Nat) (Hs : Good s) :
    Good (State.domainOff s d) := by
  unfold State.domainOff
  repeat' first | with_reducible assumption | with_reducible apply good_set | with_reducible apply good_domainLost | dsimp only | with_reducible refine good_ite ?_ ?_ | split | intro _ | with_reducible apply good_mk

theorem good_domainOn (s : State) (d : Nat) (Hs : Good s) :
    Good (State.domainOn s d) := by
  unfold State.domainOn
  repeat' first | with_reducible assumption | with_reducible apply good_set | with_reducible apply good_domainStart | dsimp only | with_reducible refine good_ite ?_ ?_ | split | intro _ | with_reducible apply good_mk

theorem good_setDomains (s : State) (v : Nat) (Hs : Good s) :
    Good (State.setDomains s v) := by
  unfold State.setDomains
  repeat' first | with_reducible assumption | with_reducible apply good_domainOn | with_reducible apply good_domainOff | with_reducible apply good_evalFits | with_reducible refine good_foldl ?_ ?_ | dsimp only | with_reducible refine good_ite ?_ ?_ | split | intro _ | with_reducible apply good_mk

theorem good_runState (s : State) (Hs : Good s) :
    Good (State.runState s) := by
  unfold State.runState
  repeat' first | with_reducible assumption | with_reducible apply good_set | dsimp only | with_reducible refine good_ite ?_ ?_ | split | intro _ | with_reducible apply good_mk

theorem good_writeDomreq (s : State) (v : Nat) (Hs : Good s) :
    Good (State.writeDomreq s v) := by
  unfold State.writeDomreq
  repeat' first | with_reducible assumption | with_reducible apply good_set | with_reducible apply good_setDomains | with_reducible apply good_runState | dsimp only | with_reducible refine good_ite ?_ ?_ | split | intro _ | with_reducible apply good_mk

theorem good_enterReset (s : State) (cold : Bool) (hs : Good s) : Good (s.enterReset cold) := by
  cases cold
  case true =>
    unfold State.enterReset
    dsimp only
    rw [if_pos rfl]
    refine ⟨rfl, ?_⟩
    exact (good_set _ Fd.PWR_SUPSTAT_LIVE _ (good_regColumns s _ _ hs)).2
  case false =>
    unfold State.enterReset
    dsimp only
    rw [if_neg (by decide)]
    refine good_loopReset _ _ (good_mk _ _ _ _ _ _ _ _ _ _ _ _ _ _ _ _ _ _ _ _ _ _ _ _ (good_loseLasts _ false (good_set _ Fd.PWR_SUPSTAT_LIVE _
          (good_regColumns _ _ _ ?_)))) hs
    have h0 : Good ((List.range 20).foldl (fun (a : State) (d : Nat) =>
          if nbit (roleDomains (s.get Fd.RST_STRAP_ROLE) false) d then a else a.domainOff d) s) :=
        good_foldl (fun a d ha => good_ite ha (good_domainOff a d ha)) hs
    exact good_ite (good_selfRefresh _ h0) h0

theorem good_assertReset (s : State) (r : ResetSrc) (Hs : Good s) :
    Good (State.assertReset s r) := by
  unfold State.assertReset
  repeat' first | with_reducible assumption | with_reducible apply good_enterReset | dsimp only | with_reducible refine good_ite ?_ ?_ | split | intro _ | with_reducible apply good_mk

theorem good_supplyDown (s : State) (mask : Nat) (Hs : Good s) :
    Good (State.supplyDown s mask) := by
  unfold State.supplyDown
  repeat' first | with_reducible assumption | dsimp only | with_reducible refine good_ite ?_ ?_ | split | intro _ | with_reducible apply good_mk

theorem good_resetEvent (s : State) (r : ResetSrc) (Hs : Good s) :
    Good (State.resetEvent s r) := by
  unfold State.resetEvent
  repeat' first | with_reducible assumption | with_reducible apply good_assertReset | with_reducible apply good_supplyDown | with_reducible refine good_p1 ?_ (by with_reducible assumption) | dsimp only | with_reducible refine good_ite ?_ ?_ | split | intro _ | with_reducible apply good_mk

theorem good_releaseCold (s : State) (straps : Nat) (Hs : Good s) :
    Good (State.releaseCold s straps) := by
  unfold State.releaseCold
  repeat' first | with_reducible assumption | with_reducible apply good_loadFuses | with_reducible apply good_set | dsimp only | with_reducible refine good_ite ?_ ?_ | split | intro _ | with_reducible apply good_mk

theorem good_releaseCause (s : State) (cold : Bool) (Hs : Good s) :
    Good (State.releaseCause s cold) := by
  unfold State.releaseCause
  repeat' first | with_reducible assumption | with_reducible apply good_set | with_reducible apply good_setRegN | with_reducible apply good_setB | with_reducible apply good_bump | with_reducible refine good_p1 ?_ (by with_reducible assumption) | with_reducible refine good_foldl_p1 ?_ ?_ | with_reducible refine good_foldl ?_ ?_ | dsimp only | with_reducible refine good_ite ?_ ?_ | split | intro _ | with_reducible apply good_mk

theorem good_releaseMem (s : State) (cold : Bool) (Hs : Good s) :
    Good (State.releaseMem s cold) := by
  unfold State.releaseMem
  repeat' first | with_reducible assumption | with_reducible apply good_startTraining | with_reducible apply good_set | with_reducible apply good_setB | with_reducible apply good_exitRefresh | with_reducible apply good_writeCap | dsimp only | with_reducible refine good_ite ?_ ?_ | split | intro _ | with_reducible apply good_mk

theorem good_releasePorts (s : State) (cold : Bool) (Hs : Good s) :
    Good (State.releasePorts s cold) := by
  unfold State.releasePorts
  repeat' first | with_reducible assumption | with_reducible apply good_set | with_reducible apply good_portStart | with_reducible refine good_foldl ?_ ?_ | dsimp only | with_reducible refine good_ite ?_ ?_ | split | intro _ | with_reducible apply good_mk

theorem good_releaseReset (s : State) (straps : Nat) (Hs : Good s) :
    Good (State.releaseReset s straps) := by
  unfold State.releaseReset
  repeat' first | with_reducible assumption | with_reducible apply good_releaseCold | with_reducible apply good_releaseCause | with_reducible apply good_set | with_reducible apply good_runState | with_reducible apply good_releaseMem | with_reducible apply good_releasePorts | with_reducible apply good_bootStart | dsimp only | with_reducible refine good_ite ?_ ?_ | split | intro _ | with_reducible apply good_mk

theorem good_dropReset (s : State) (r : ResetSrc) (straps : Nat) (Hs : Good s) :
    Good (State.dropReset s r straps) := by
  unfold State.dropReset
  repeat' first | with_reducible assumption | with_reducible apply good_releaseReset | dsimp only | with_reducible refine good_ite ?_ ?_ | split | intro _ | with_reducible apply good_mk

theorem good_supplyWarn (s : State) (n : Nat) (Hs : Good s) :
    Good (State.supplyWarn s n) := by
  unfold State.supplyWarn
  repeat' first | with_reducible assumption | with_reducible apply good_set | with_reducible apply good_raise | with_reducible apply good_report | dsimp only | with_reducible refine good_ite ?_ ?_ | split | intro _ | with_reducible apply good_mk

theorem good_supplyReset (s : State) (n : Nat) (Hs : Good s) :
    Good (State.supplyReset s n) := by
  unfold State.supplyReset
  repeat' first | with_reducible assumption | with_reducible apply good_assertReset | with_reducible apply good_supplyDown | dsimp only | with_reducible refine good_ite ?_ ?_ | split | intro _ | with_reducible apply good_mk

theorem good_supplyBack (s : State) (n : Nat) (Hs : Good s) :
    Good (State.supplyBack s n) := by
  unfold State.supplyBack
  repeat' first | with_reducible assumption | with_reducible apply good_set | dsimp only | with_reducible refine good_ite ?_ ?_ | split | intro _ | with_reducible apply good_mk

theorem good_backupLost (s : State) (Hs : Good s) :
    Good (State.backupLost s) := by
  unfold State.backupLost
  repeat' first | with_reducible assumption | with_reducible apply good_set | dsimp only | with_reducible refine good_ite ?_ ?_ | split | intro _ | with_reducible apply good_mk

theorem good_refence (s : State) (u : Nat) (Hs : Good s) :
    Good (State.refence s u) := by
  unfold State.refence
  repeat' first | with_reducible assumption | with_reducible apply good_set | with_reducible refine good_p1 ?_ (by with_reducible assumption) | dsimp only | with_reducible refine good_ite ?_ ?_ | split | intro _ | with_reducible apply good_mk

theorem good_unitAssert (s : State) (u : Nat) (Hs : Good s) :
    Good (State.unitAssert s u) := by
  unfold State.unitAssert
  repeat' first | with_reducible assumption | with_reducible apply good_unitReg | with_reducible apply good_dropCur | with_reducible apply good_loseSole | with_reducible apply good_wbDrop | with_reducible apply good_wbDropTail | with_reducible apply good_headStopNow | with_reducible apply good_loseHead | with_reducible apply good_copyKeys | with_reducible apply good_set | with_reducible apply good_markEdges | with_reducible apply good_evalFits | with_reducible apply good_linkDown | with_reducible apply good_weltPortLost | with_reducible apply good_lanesIdle | with_reducible apply good_dpAbandon | with_reducible apply good_setPortState | with_reducible apply good_loseCore | with_reducible apply good_endSession | with_reducible apply good_dropBus | with_reducible apply good_trainChannel | with_reducible apply good_refence | with_reducible refine good_p1 ?_ (by with_reducible assumption) | with_reducible refine good_foldl_p1 ?_ ?_ | with_reducible refine good_foldl ?_ ?_ | dsimp only | with_reducible refine good_ite ?_ ?_ | split | intro _ | with_reducible apply good_mk

theorem good_unitRelease (s : State) (u : Nat) (Hs : Good s) :
    Good (State.unitRelease s u) := by
  unfold State.unitRelease
  repeat' first | with_reducible assumption | with_reducible apply good_headGo | with_reducible apply good_set | with_reducible apply good_portStart | with_reducible apply good_trainChannel | with_reducible refine good_p1 ?_ (by with_reducible assumption) | dsimp only | with_reducible refine good_ite ?_ ?_ | split | intro _ | with_reducible apply good_mk

theorem good_unitReset (s : State) (r : Req) (o : Nat) (p : Packet) (Hs : Good s) :
    Good (State.unitReset s r o p) := by
  unfold State.unitReset
  repeat' first | with_reducible assumption | with_reducible apply good_answer | with_reducible apply good_unitRelease | with_reducible apply good_unitAssert | with_reducible apply good_bus_tongue | with_reducible apply Fin'.good_done | with_reducible refine Fin'.good_of_done ?_ (by with_reducible assumption) | with_reducible apply Fin'.good_wait | with_reducible refine Fin'.good_eq ?_ (by with_reducible assumption) | dsimp only | with_reducible refine good_ite ?_ ?_ | split | intro _ | with_reducible apply good_mk

theorem good_unitEnd (s : State) (u : Nat) (Hs : Good s) :
    Good (State.unitEnd s u) := by
  unfold State.unitEnd
  repeat' first | with_reducible assumption | with_reducible apply good_unitRelease | with_reducible apply good_bus_tongue | with_reducible apply good_answerFirst | with_reducible apply Fin'.good_done | with_reducible refine Fin'.good_of_done ?_ (by with_reducible assumption) | with_reducible apply Fin'.good_wait | with_reducible refine Fin'.good_eq ?_ (by with_reducible assumption) | with_reducible refine good_foldl ?_ ?_ | dsimp only | with_reducible refine good_ite ?_ ?_ | split | intro _ | with_reducible apply good_mk

theorem good_deviceReset (s : State) (r : Req) (o : Nat) (p : Packet) (Hs : Good s) :
    Good (State.deviceReset s r o p) := by
  unfold State.deviceReset
  repeat' first | with_reducible assumption | with_reducible apply good_answer | dsimp only | with_reducible refine good_ite ?_ ?_ | split | intro _ | with_reducible apply good_mk

theorem good_powerState (s : State) (r : Req) (o : Nat) (p : Packet) (Hs : Good s) :
    Good (State.powerState s r o p) := by
  unfold State.powerState
  repeat' first | with_reducible assumption | with_reducible apply good_set | with_reducible apply good_bus_tongue | with_reducible apply good_answer | with_reducible apply good_setDomains | with_reducible apply good_runState | with_reducible apply Fin'.good_done | with_reducible refine Fin'.good_of_done ?_ (by with_reducible assumption) | with_reducible apply Fin'.good_wait | with_reducible refine Fin'.good_eq ?_ (by with_reducible assumption) | dsimp only | with_reducible refine good_ite ?_ ?_ | split | intro _ | with_reducible apply good_mk

theorem good_enterNap (s : State) (Hs : Good s) :
    Good (State.enterNap s) := by
  unfold State.enterNap
  repeat' first | with_reducible assumption | with_reducible apply good_setDomains | with_reducible apply good_selfRefresh | with_reducible apply good_weltPortLost | with_reducible apply good_dpAbandon | with_reducible apply good_clearRemaps | with_reducible apply good_lanesIdle | with_reducible apply good_setPortState | with_reducible apply good_set | with_reducible apply good_modWelt | with_reducible refine good_foldl ?_ ?_ | dsimp only | with_reducible refine good_ite ?_ ?_ | split | intro _ | with_reducible apply good_mk

theorem good_exitNap (s : State) (Hs : Good s) :
    Good (State.exitNap s) := by
  unfold State.exitNap
  repeat' first | with_reducible assumption | with_reducible apply good_setDomains | with_reducible apply good_exitRefresh | with_reducible apply good_portStart | with_reducible apply good_runState | with_reducible refine good_foldl ?_ ?_ | dsimp only | with_reducible refine good_ite ?_ ?_ | split | intro _ | with_reducible apply good_mk

theorem good_enterStow (s : State) (off : Bool) (Hs : Good s) :
    Good (State.enterStow s off) := by
  unfold State.enterStow
  repeat' first | with_reducible assumption | with_reducible apply good_setDomains | with_reducible apply good_set | dsimp only | with_reducible refine good_ite ?_ ?_ | split | intro _ | with_reducible apply good_mk

theorem good_exitStow (s : State) (Hs : Good s) :
    Good (State.exitStow s) := by
  unfold State.exitStow
  repeat' first | with_reducible assumption | with_reducible apply good_stepTime | with_reducible apply good_setDomains | with_reducible apply good_runState | with_reducible apply good_bootStart | dsimp only | with_reducible refine good_ite ?_ ?_ | split | intro _ | with_reducible apply good_mk

theorem good_wakeBegin (s : State) (code : Nat) (Hs : Good s) :
    Good (State.wakeBegin s code) := by
  unfold State.wakeBegin
  repeat' first | with_reducible assumption | with_reducible apply good_set | dsimp only | with_reducible refine good_ite ?_ ?_ | split | intro _ | with_reducible apply good_mk

theorem good_powerEnd (s : State) (deeper : Bool) (Hs : Good s) :
    Good (State.powerEnd s deeper) := by
  unfold State.powerEnd
  repeat' first | with_reducible assumption | with_reducible apply good_set | with_reducible apply good_bus_tongue | with_reducible apply good_answer | with_reducible apply Fin'.good_done | with_reducible refine Fin'.good_of_done ?_ (by with_reducible assumption) | with_reducible apply Fin'.good_wait | with_reducible refine Fin'.good_eq ?_ (by with_reducible assumption) | with_reducible refine good_p1 ?_ (by with_reducible assumption) | dsimp only | with_reducible refine good_ite ?_ ?_ | split | intro _ | with_reducible apply good_mk

theorem good_powerDone (s : State) (Hs : Good s) :
    Good (State.powerDone s) := by
  unfold State.powerDone
  repeat' first | with_reducible assumption | with_reducible apply good_wake | with_reducible apply good_wakeBegin | with_reducible apply good_exitNap | with_reducible apply good_exitStow | with_reducible apply good_set | with_reducible apply good_powerEnd | with_reducible apply good_enterNap | with_reducible apply good_enterStow | with_reducible refine good_p1 ?_ (by with_reducible assumption) | dsimp only | with_reducible refine good_ite ?_ ?_ | split | intro _ | with_reducible apply good_mk

theorem good_wake (s : State) (w : WakeSrc) (Hs : Good s) :
    Good (State.wake s w) := by
  unfold State.wake
  repeat' first | with_reducible assumption | with_reducible apply good_wakeBegin | with_reducible refine good_p1 ?_ (by with_reducible assumption) | dsimp only | with_reducible refine good_ite ?_ ?_ | split | intro _ | with_reducible apply good_mk

theorem good_writeRole (s : State) (v : Nat) (Hs : Good s) :
    Good (State.writeRole s v) := by
  unfold State.writeRole
  repeat' first | with_reducible assumption | with_reducible apply good_set | dsimp only | with_reducible refine good_ite ?_ ?_ | split | intro _ | with_reducible apply good_mk

theorem good_refit (s : State) (Hs : Good s) : Good (State.refit s) := by
  unfold State.refit
  exact good_ite (good_startTraining s Hs) Hs

theorem good_roleDone (s : State) (Hs : Good s) :
    Good (State.roleDone s) := by
  unfold State.roleDone
  repeat' first | with_reducible assumption | with_reducible apply good_refit | with_reducible apply good_set | with_reducible apply good_setDomains | with_reducible apply good_runState | with_reducible apply good_raise | with_reducible refine good_p1 ?_ (by with_reducible assumption) | dsimp only | with_reducible refine good_ite ?_ ?_ | split | intro _ | with_reducible apply good_mk

/-! ## Endpoint -/

theorem good_modEp (s : State) (f : EpS → EpS) (Hs : Good s) :
    Good (State.modEp s f) := by
  unfold State.modEp
  repeat' first | with_reducible assumption | dsimp only | with_reducible refine good_ite ?_ ?_ | split | intro _ | with_reducible apply good_mk

theorem good_confWrite (s : State) (o : Nat) (be : Nat) (v : Nat) (Hs : Good s) :
    Good (State.confWrite s o be v) := by
  unfold State.confWrite
  repeat' first | with_reducible assumption | with_reducible apply good_modEp | with_reducible refine good_p1 ?_ (by with_reducible assumption) | with_reducible refine good_foldl_p1 ?_ ?_ | with_reducible refine good_foldl ?_ ?_ | dsimp only | with_reducible refine good_ite ?_ ?_ | split | intro _ | with_reducible apply good_mk

theorem good_epUnsupported (s : State) (Hs : Good s) :
    Good (State.epUnsupported s) := by
  unfold State.epUnsupported
  repeat' first | with_reducible assumption | with_reducible apply good_modEp | dsimp only | with_reducible refine good_ite ?_ ?_ | split | intro _ | with_reducible apply good_mk

theorem good_bar4Write (s : State) (o : Nat) (be : Nat) (v : Nat) (Hs : Good s) :
    Good (State.bar4Write s o be v) := by
  unfold State.bar4Write
  repeat' first | with_reducible assumption | with_reducible apply good_modEp | with_reducible refine good_p1 ?_ (by with_reducible assumption) | with_reducible refine good_foldl_p1 ?_ ?_ | with_reducible refine good_foldl ?_ ?_ | dsimp only | with_reducible refine good_ite ?_ ?_ | split | intro _ | with_reducible apply good_mk

theorem good_msixSend (s : State) (v : Nat) (Hs : Good s) :
    Good (State.msixSend s v) := by
  unfold State.msixSend
  repeat' first | with_reducible assumption | dsimp only | with_reducible refine good_ite ?_ ?_ | split | intro _ | with_reducible apply good_mk

theorem good_msixPending (s : State) (v : Nat) (Hs : Good s) :
    Good (State.msixPending s v) := by
  unfold State.msixPending
  repeat' first | with_reducible assumption | dsimp only | with_reducible refine good_ite ?_ ?_ | split | intro _ | with_reducible apply good_mk

theorem good_boxMessage (s : State) (v : Nat) (Hs : Good s) :
    Good (State.boxMessage s v) := by
  unfold State.boxMessage
  repeat' first | with_reducible assumption | with_reducible apply good_msixPending | with_reducible apply good_modEp | with_reducible apply good_msixSend | dsimp only | with_reducible refine good_ite ?_ ?_ | split | intro _ | with_reducible apply good_mk

theorem good_perst (s : State) (asserted : Bool) (Hs : Good s) :
    Good (State.perst s asserted) := by
  unfold State.perst
  repeat' first | with_reducible assumption | with_reducible apply good_endSession | with_reducible apply good_modEp | with_reducible apply good_unitReg | with_reducible apply good_set | with_reducible apply good_lanesIdle | with_reducible apply good_setPortState | with_reducible refine good_foldl ?_ ?_ | dsimp only | with_reducible refine good_ite ?_ ?_ | split | intro _ | with_reducible apply good_mk

/-! ## Debug -/

theorem good_resumeCore (s : State) (n : Nat) (Hs : Good s) :
    Good (State.resumeCore s n) := by
  unfold State.resumeCore
  repeat' first | with_reducible assumption | with_reducible apply good_set | with_reducible apply good_setCore | with_reducible apply good_enter | dsimp only | with_reducible refine good_ite ?_ ?_ | split | intro _ | with_reducible apply good_mk

theorem good_wdThaw (s : State) (Hs : Good s) :
    Good (State.wdThaw s) := by
  unfold State.wdThaw
  repeat' first | with_reducible assumption | with_reducible apply good_raiseTo | with_reducible refine good_foldl ?_ ?_ | dsimp only | with_reducible refine good_ite ?_ ?_ | split | intro _ | with_reducible apply good_mk

theorem good_thaw (s : State) (beam : List (Nat × Nat)) (Hs : Good s) :
    Good (State.thaw s beam) := by
  unfold State.thaw
  repeat' first | with_reducible assumption | with_reducible apply good_set | with_reducible apply good_resumeCore | with_reducible apply good_headsResume | with_reducible apply good_loopResume | with_reducible apply good_wdThaw | with_reducible refine good_foldl ?_ ?_ | dsimp only | with_reducible refine good_ite ?_ ?_ | split | intro _ | with_reducible apply good_mk

theorem good_writeRun (s : State) (v : Nat) (beam : List (Nat × Nat)) (Hs : Good s) :
    Good (State.writeRun s v beam) := by
  unfold State.writeRun
  repeat' first | with_reducible assumption | with_reducible apply good_plainWrite | with_reducible apply good_haltRequest | with_reducible apply good_thaw | with_reducible apply good_set | dsimp only | with_reducible refine good_ite ?_ ?_ | split | intro _ | with_reducible apply good_mk

theorem good_stepDone (s : State) (Hs : Good s) :
    Good (State.stepDone s) := by
  unfold State.stepDone
  repeat' first | with_reducible assumption | with_reducible apply good_set | dsimp only | with_reducible refine good_ite ?_ ?_ | split | intro _ | with_reducible apply good_mk

theorem good_stepStall (s : State) (Hs : Good s) :
    Good (State.stepStall s) := by
  unfold State.stepStall
  repeat' first | with_reducible assumption | with_reducible apply good_set | dsimp only | with_reducible refine good_ite ?_ ?_ | split | intro _ | with_reducible apply good_mk

theorem good_relock (s : State) (beam : List (Nat × Nat)) (Hs : Good s) :
    Good (State.relock s beam) := by
  unfold State.relock
  repeat' first | with_reducible assumption | with_reducible apply good_set | with_reducible apply good_thaw | with_reducible refine good_foldl ?_ ?_ | dsimp only | with_reducible refine good_ite ?_ ?_ | split | intro _ | with_reducible apply good_mk

theorem good_writeDbgCtl (s : State) (v : Nat) (beam : List (Nat × Nat)) (Hs : Good s) :
    Good (State.writeDbgCtl s v beam) := by
  unfold State.writeDbgCtl
  repeat' first | with_reducible assumption | with_reducible apply good_plainWrite | with_reducible apply good_relock | dsimp only | with_reducible refine good_ite ?_ ?_ | split | intro _ | with_reducible apply good_mk

theorem good_dbgPulse (s : State) (Hs : Good s) :
    Good (State.dbgPulse s) := by
  unfold State.dbgPulse
  repeat' first | with_reducible assumption | with_reducible apply good_wake | dsimp only | with_reducible refine good_ite ?_ ?_ | split | intro _ | with_reducible apply good_mk

theorem good_framingError (s : State) (Hs : Good s) :
    Good (State.framingError s) := by
  unfold State.framingError
  repeat' first | with_reducible assumption | with_reducible apply good_set | dsimp only | with_reducible refine good_ite ?_ ?_ | split | intro _ | with_reducible apply good_mk

theorem good_dbgAnswer (s : State) (status : Nat) (data : List Nat) (Hs : Good s) :
    Good (State.dbgAnswer s status data) := by
  unfold State.dbgAnswer
  repeat' first | with_reducible assumption | dsimp only | with_reducible refine good_ite ?_ ?_ | split | intro _ | with_reducible apply good_mk

theorem good_dbgFrame (s : State) (crcOk : Bool) (lenOk : Bool) (f : State → State) (Hs : Good s) (Hf : ∀ a, Good a → Good (f a)) :
    Good (State.dbgFrame s crcOk lenOk f) := by
  unfold State.dbgFrame
  repeat' first | with_reducible assumption | with_reducible apply Hf | with_reducible apply good_dbgPulse | with_reducible apply good_framingError | with_reducible apply good_dbgAnswer | dsimp only | with_reducible refine good_ite ?_ ?_ | split | intro _ | with_reducible apply good_mk

theorem good_dbgIdOp (s : State) (Hs : Good s) :
    Good (State.dbgIdOp s) := by
  unfold State.dbgIdOp
  repeat' first | with_reducible assumption | with_reducible apply good_dbgAnswer | dsimp only | with_reducible refine good_ite ?_ ?_ | split | intro _ | with_reducible apply good_mk

theorem good_dbgChallengeOp (s : State) (Hs : Good s) :
    Good (State.dbgChallengeOp s) := by
  unfold State.dbgChallengeOp
  repeat' first | with_reducible assumption | with_reducible apply good_dbgAnswer | with_reducible apply good_draw | dsimp only | with_reducible refine good_ite ?_ ?_ | split | intro _ | with_reducible apply good_mk

theorem good_dbgPutOp (s : State) (pl : List Nat) (Hs : Good s) :
    Good (State.dbgPutOp s pl) := by
  unfold State.dbgPutOp
  repeat' first | with_reducible assumption | with_reducible apply good_dbgAnswer | with_reducible refine good_foldl ?_ ?_ | dsimp only | with_reducible refine good_ite ?_ ?_ | split | intro _ | with_reducible apply good_mk

theorem good_dbgCheckOp (s : State) (Hs : Good s) :
    Good (State.dbgCheckOp s) := by
  unfold State.dbgCheckOp
  repeat' first | with_reducible assumption | with_reducible apply good_set | with_reducible apply good_dbgAnswer | with_reducible apply good_bump | dsimp only | with_reducible refine good_ite ?_ ?_ | split | intro _ | with_reducible apply good_mk

/-! ## MoveRegs -/

theorem good_setLace (s : State) (n : Nat) (l : LaceS) (Hs : Good s) :
    Good (State.setLace s n l) := by
  unfold State.setLace
  repeat' first | with_reducible assumption | dsimp only | with_reducible refine good_ite ?_ ?_ | split | intro _ | with_reducible apply good_mk

theorem good_laceChain (s : State) (n : Nat) (a : Nat) (Hs : Good s) :
    Good (State.laceChain s n a) := by
  unfold State.laceChain
  repeat' first | with_reducible assumption | with_reducible apply good_setLace | dsimp only | with_reducible refine good_ite ?_ ?_ | split | intro _ | with_reducible apply good_mk

theorem good_laceClear (s : State) (n : Nat) (Hs : Good s) :
    Good (State.laceClear s n) := by
  unfold State.laceClear
  repeat' first | with_reducible assumption | with_reducible apply good_setLace | with_reducible apply good_dropBus | dsimp only | with_reducible refine good_ite ?_ ?_ | split | intro _ | with_reducible apply good_mk

theorem good_laceEnd (s : State) (n : Nat) (st : Nat) (err : Nat) (Hs : Good s) :
    Good (State.laceEnd s n st err) := by
  unfold State.laceEnd
  repeat' first | with_reducible assumption | with_reducible apply good_set | with_reducible apply good_laceClear | with_reducible apply good_raise | with_reducible apply good_laceStops | dsimp only | with_reducible refine good_ite ?_ ?_ | split | intro _ | with_reducible apply good_mk

theorem good_writeLaceCtl (s : State) (n : Nat) (v : Nat) (Hs : Good s) :
    Good (State.writeLaceCtl s n v) := by
  unfold State.writeLaceCtl
  repeat' first | with_reducible assumption | with_reducible apply good_plainWrite | with_reducible apply good_laceEnd | with_reducible apply good_set | with_reducible apply good_laceChain | dsimp only | with_reducible refine good_ite ?_ ?_ | split | intro _ | with_reducible apply good_mk

theorem good_setSkiver (s : State) (k : SkivS) (Hs : Good s) :
    Good (State.setSkiver s k) := by
  unfold State.setSkiver
  repeat' first | with_reducible assumption | dsimp only | with_reducible refine good_ite ?_ ?_ | split | intro _ | with_reducible apply good_mk

theorem good_skiverChain (s : State) (a : Nat) (Hs : Good s) :
    Good (State.skiverChain s a) := by
  unfold State.skiverChain
  repeat' first | with_reducible assumption | with_reducible apply good_setSkiver | dsimp only | with_reducible refine good_ite ?_ ?_ | split | intro _ | with_reducible apply good_mk

theorem good_skiverClear (s : State) (Hs : Good s) :
    Good (State.skiverClear s) := by
  unfold State.skiverClear
  repeat' first | with_reducible assumption | with_reducible apply good_setSkiver | with_reducible apply good_dropBus | dsimp only | with_reducible refine good_ite ?_ ?_ | split | intro _ | with_reducible apply good_mk

theorem good_skiverEnd (s : State) (st : Nat) (err : Nat) (Hs : Good s) :
    Good (State.skiverEnd s st err) := by
  unfold State.skiverEnd
  repeat' first | with_reducible assumption | with_reducible apply good_set | with_reducible apply good_skiverClear | with_reducible apply good_raise | with_reducible apply good_skiverStops | dsimp only | with_reducible refine good_ite ?_ ?_ | split | intro _ | with_reducible apply good_mk

theorem good_writeSkiverCtl (s : State) (v : Nat) (Hs : Good s) :
    Good (State.writeSkiverCtl s v) := by
  unfold State.writeSkiverCtl
  repeat' first | with_reducible assumption | with_reducible apply good_plainWrite | with_reducible apply good_skiverEnd | with_reducible apply good_set | with_reducible apply good_skiverChain | dsimp only | with_reducible refine good_ite ?_ ?_ | split | intro _ | with_reducible apply good_mk

theorem good_wdExpire (s : State) (n : Nat) (Hs : Good s) :
    Good (State.wdExpire s n) := by
  unfold State.wdExpire
  repeat' first | with_reducible assumption | with_reducible apply good_assertReset | with_reducible apply good_report | with_reducible apply good_unitAssert | dsimp only | with_reducible refine good_ite ?_ ?_ | split | intro _ | with_reducible apply good_mk

theorem good_writeWd (s : State) (n : Nat) (v : Nat) (Hs : Good s) :
    Good (State.writeWd s n v) := by
  unfold State.writeWd
  repeat' first | with_reducible assumption | with_reducible apply good_plainWrite | with_reducible apply good_wdReload | with_reducible apply good_wdExpire | dsimp only | with_reducible refine good_ite ?_ ?_ | split | intro _ | with_reducible apply good_mk

theorem good_wdWarning (s : State) (n : Nat) (Hs : Good s) :
    Good (State.wdWarning s n) := by
  unfold State.wdWarning
  repeat' first | with_reducible assumption | with_reducible apply good_set | with_reducible apply good_raise | with_reducible refine good_p1 ?_ (by with_reducible assumption) | dsimp only | with_reducible refine good_ite ?_ ?_ | split | intro _ | with_reducible apply good_mk

theorem good_wdExpiry (s : State) (n : Nat) (Hs : Good s) :
    Good (State.wdExpiry s n) := by
  unfold State.wdExpiry
  repeat' first | with_reducible assumption | with_reducible apply good_wdExpire | dsimp only | with_reducible refine good_ite ?_ ?_ | split | intro _ | with_reducible apply good_mk

/-! ## RegAccess -/

theorem good_latchTime (s : State) (m : Nat) (Hs : Good s) :
    Good (State.latchTime s m) := by
  unfold State.latchTime
  repeat' first | with_reducible assumption | dsimp only | with_reducible refine good_ite ?_ ?_ | split | intro _ | with_reducible apply good_mk

theorem good_readEffect (s : State) (o : Nat) (k : Nat) (Hs : Good s) :
    Good (State.readEffect s o k) := by
  unfold State.readEffect
  repeat' first | with_reducible assumption | with_reducible apply good_readPer | with_reducible apply good_claimRead | with_reducible apply good_captureRead | with_reducible apply good_readFrame | with_reducible apply good_setRegN | with_reducible refine good_p2 ?_ (by with_reducible assumption) | dsimp only | with_reducible refine good_ite ?_ ?_ | split | intro _ | with_reducible apply good_mk

theorem good_regRead (s : State) (m : Nat) (o : Nat) (side : Bool) (k : Nat) (Hs : Good s) :
    Good (State.regRead s m o side k).2 := by
  unfold State.regRead
  repeat' first | with_reducible assumption | with_reducible apply good_readEffect | with_reducible apply good_latchTime | dsimp only | with_reducible refine good_ite ?_ ?_ | split | intro _ | with_reducible apply good_mk

theorem good_captureRefusal (s : State) (d : Nat) (o : Nat) (Hs : Good s) :
    Good (State.captureRefusal s d o) := by
  unfold State.captureRefusal
  repeat' first | with_reducible assumption | with_reducible apply good_set | dsimp only | with_reducible refine good_ite ?_ ?_ | split | intro _ | with_reducible apply good_mk

theorem good_writeOwner (s : State) (w : Nat) (v : Nat) (Hs : Good s) :
    Good (State.writeOwner s w v) := by
  unfold State.writeOwner
  repeat' first | with_reducible assumption | with_reducible apply good_plainWrite | with_reducible apply good_set | dsimp only | with_reducible refine good_ite ?_ ?_ | split | intro _ | with_reducible apply good_mk

theorem good_writeRing (s : State) (src : Src) (r : Nat) (c : Nat) (p : Nat) (v : Nat) (Hs : Good s) :
    Good (State.writeRing s src r c p v) := by
  unfold State.writeRing
  repeat' first | with_reducible assumption | with_reducible apply good_plainWrite | with_reducible apply good_setRegN | with_reducible apply good_endSession | dsimp only | with_reducible refine good_ite ?_ ?_ | split | intro _ | with_reducible apply good_mk

theorem good_writePtr (s : State) (r : Nat) (c : Nat) (pr : Nat) (v : Nat) (Hs : Good s) :
    Good (State.writePtr s r c pr v) := by
  unfold State.writePtr
  repeat' first | with_reducible assumption | with_reducible apply good_setRegN | with_reducible apply good_plainWrite | dsimp only | with_reducible refine good_ite ?_ ?_ | split | intro _ | with_reducible apply good_mk

theorem good_writeRingReg (s : State) (src : Src) (k : Nat) (v : Nat) (Hs : Good s) :
    Good (State.writeRingReg s src k v) := by
  unfold State.writeRingReg
  repeat' first | with_reducible assumption | with_reducible apply good_writeRing | with_reducible apply good_writePtr | with_reducible refine good_p1 ?_ (by with_reducible assumption) | dsimp only | with_reducible refine good_ite ?_ ?_ | split | intro _ | with_reducible apply good_mk

theorem good_writeCapture (s : State) (k : Nat) (v : Nat) (valid : Fd) (ovf : Fd) (Hs : Good s) :
    Good (State.writeCapture s k v valid ovf) := by
  unfold State.writeCapture
  repeat' first | with_reducible assumption | with_reducible apply good_plainWrite | with_reducible apply good_set | dsimp only | with_reducible refine good_ite ?_ ?_ | split | intro _ | with_reducible apply good_mk

theorem good_writeEyOut (s : State) (v : Nat) (level : Bool) (Hs : Good s) :
    Good (State.writeEyOut s v level) := by
  unfold State.writeEyOut
  repeat' first | with_reducible assumption | with_reducible apply good_setB | with_reducible refine good_foldl ?_ ?_ | dsimp only | with_reducible refine good_ite ?_ ?_ | split | intro _ | with_reducible apply good_mk

theorem good_writeSys (s : State) (o : Nat) (k : Nat) (v : Nat) (Hs : Good s) :
    Good (State.writeSys s o k v) := by
  unfold State.writeSys
  repeat' first | with_reducible assumption | with_reducible apply good_writeRole | with_reducible apply good_writeCapture | with_reducible apply good_writePer | with_reducible apply good_writeEycfg | with_reducible apply good_writeEyOut | with_reducible apply good_plainWrite | dsimp only | with_reducible refine good_ite ?_ ?_ | split | intro _ | with_reducible apply good_mk

theorem good_writeTongue (s : State) (o : Nat) (k : Nat) (v : Nat) (Hs : Good s) :
    Good (State.writeTongue s o k v) := by
  unfold State.writeTongue
  repeat' first | with_reducible assumption | with_reducible apply good_writeCapture | with_reducible apply good_writeOwner | with_reducible apply good_writeRingReg | with_reducible apply good_plainWrite | dsimp only | with_reducible refine good_ite ?_ ?_ | split | intro _ | with_reducible apply good_mk

theorem good_writeFlt (s : State) (o : Nat) (k : Nat) (v : Nat) (Hs : Good s) :
    Good (State.writeFlt s o k v) := by
  unfold State.writeFlt
  repeat' first | with_reducible assumption | with_reducible apply good_set | with_reducible apply good_ackUnit | with_reducible apply good_plainWrite | with_reducible apply good_reportG | dsimp only | with_reducible refine good_ite ?_ ?_ | split | intro _ | with_reducible apply good_mk

theorem good_writeSrcCfg (s : State) (o : Nat) (v : Nat) (Hs : Good s) :
    Good (State.writeSrcCfg s o v) := by
  unfold State.writeSrcCfg
  repeat' first | with_reducible assumption | with_reducible apply good_plainWrite | with_reducible apply good_set | dsimp only | with_reducible refine good_ite ?_ ?_ | split | intro _ | with_reducible apply good_mk

theorem good_writeSwset (s : State) (v : Nat) (Hs : Good s) :
    Good (State.writeSwset s v) := by
  unfold State.writeSwset
  repeat' first | with_reducible assumption | with_reducible apply good_raise | with_reducible apply good_clearPend | dsimp only | with_reducible refine good_ite ?_ ?_ | split | intro _ | with_reducible apply good_mk

theorem good_writeIcu (s : State) (o : Nat) (k : Nat) (v : Nat) (Hs : Good s) :
    Good (State.writeIcu s o k v) := by
  unfold State.writeIcu
  repeat' first | with_reducible assumption | with_reducible apply good_writeSrcCfg | with_reducible apply good_writeSwset | with_reducible apply good_eoi | with_reducible apply good_plainWrite | dsimp only | with_reducible refine good_ite ?_ ?_ | split | intro _ | with_reducible apply good_mk

theorem good_writeCmpHi (s : State) (c : Nat) (v : Nat) (Hs : Good s) :
    Good (State.writeCmpHi s c v) := by
  unfold State.writeCmpHi
  repeat' first | with_reducible assumption | with_reducible apply good_setCmp | dsimp only | with_reducible refine good_ite ?_ ?_ | split | intro _ | with_reducible apply good_mk

theorem good_writeTime (s : State) (o : Nat) (k : Nat) (v : Nat) (Hs : Good s) :
    Good (State.writeTime s o k v) := by
  unfold State.writeTime
  repeat' first | with_reducible assumption | with_reducible apply good_plainWrite | with_reducible apply good_stepTime | with_reducible apply good_writeCmpHi | with_reducible apply good_writeWd | dsimp only | with_reducible refine good_ite ?_ ?_ | split | intro _ | with_reducible apply good_mk

theorem good_writeEye (s : State) (k : Nat) (v : Nat) (Hs : Good s) :
    Good (State.writeEye s k v) := by
  unfold State.writeEye
  repeat' first | with_reducible assumption | with_reducible apply good_writePortCfg | with_reducible apply good_writeLaneCfg | with_reducible apply good_plainWrite | with_reducible apply good_writeScan | dsimp only | with_reducible refine good_ite ?_ ?_ | split | intro _ | with_reducible apply good_mk

theorem good_writeDbg (s : State) (o : Nat) (k : Nat) (v : Nat) (beam : List (Nat × Nat)) (Hs : Good s) :
    Good (State.writeDbg s o k v beam) := by
  unfold State.writeDbg
  repeat' first | with_reducible assumption | with_reducible apply good_writeDbgCtl | with_reducible apply good_writeRun | with_reducible apply good_bus_writeRun | with_reducible apply good_plainWrite | with_reducible apply RunOut.good_ok | with_reducible refine RunOut.good_of_ok ?_ (by with_reducible assumption) | with_reducible apply RunOut.good_wait | with_reducible refine RunOut.good_eq ?_ (by with_reducible assumption) | with_reducible refine good_p1 ?_ (by with_reducible assumption) | dsimp only | with_reducible refine good_ite ?_ ?_ | split | intro _ | with_reducible apply good_mk

theorem good_writePwr (s : State) (k : Nat) (v : Nat) (Hs : Good s) :
    Good (State.writePwr s k v) := by
  unfold State.writePwr
  repeat' first | with_reducible assumption | with_reducible apply good_writeDomreq | with_reducible apply good_writePacectl | with_reducible apply good_writeVlimit | with_reducible apply good_writeVset | with_reducible apply good_set | with_reducible apply good_plainWrite | dsimp only | with_reducible refine good_ite ?_ ?_ | split | intro _ | with_reducible apply good_mk

theorem good_writeFetch (s : State) (k : Nat) (v : Nat) (Hs : Good s) :
    Good (State.writeFetch s k v) := by
  unfold State.writeFetch
  repeat' first | with_reducible assumption | with_reducible apply good_writeLastCtl | with_reducible apply good_writeSel | with_reducible apply good_writePool | with_reducible apply good_writePoolStat | with_reducible apply good_writeSlStat | with_reducible apply good_writeSlLat | with_reducible apply good_writeSlLine | with_reducible apply good_writeMemCtl | with_reducible apply good_writeCapture | with_reducible apply good_writeEcc | with_reducible apply good_plainWrite | dsimp only | with_reducible refine good_ite ?_ ?_ | split | intro _ | with_reducible apply good_mk

theorem good_writePict (s : State) (k : Nat) (v : Nat) (Hs : Good s) :
    Good (State.writePict s k v) := by
  unfold State.writePict
  repeat' first | with_reducible assumption | with_reducible apply good_writePace | with_reducible apply good_set | with_reducible apply good_writeHdCtl | with_reducible apply good_writeHdStat | with_reducible apply good_writeWbctl | with_reducible apply good_plainWrite | dsimp only | with_reducible refine good_ite ?_ ?_ | split | intro _ | with_reducible apply good_mk

theorem good_writeWelt (s : State) (k : Nat) (v : Nat) (Hs : Good s) :
    Good (State.writeWelt s k v) := by
  unfold State.writeWelt
  repeat' first | with_reducible assumption | with_reducible apply good_writeTimectl | with_reducible apply good_writeEpochLo | with_reducible apply good_writeEpochHi | with_reducible apply good_plainWrite | with_reducible apply good_writeFc | with_reducible apply good_writePrxCfg | dsimp only | with_reducible refine good_ite ?_ ?_ | split | intro _ | with_reducible apply good_mk

theorem good_writeUnits (s : State) (k : Nat) (v : Nat) (Hs : Good s) :
    Good (State.writeUnits s k v) := by
  unfold State.writeUnits
  repeat' first | with_reducible assumption | with_reducible apply good_writeRingReg | with_reducible apply good_writePace | with_reducible apply good_writeLaceCtl | with_reducible apply good_writeSkiverCtl | with_reducible apply good_writeAudCtl | with_reducible apply good_writeAudKey | with_reducible apply good_writeMb | with_reducible apply good_writeOb | with_reducible apply good_writePt | with_reducible apply good_writeRx | with_reducible apply good_writeFeCtl | with_reducible apply good_writeShkCtl | with_reducible apply good_writeBlcfg | with_reducible apply good_plainWrite | dsimp only | with_reducible refine good_ite ?_ ?_ | split | intro _ | with_reducible apply good_mk

theorem good_writeReg (s : State) (o : Nat) (k : Nat) (v : Nat) (c : WriteCtx) (Hs : Good s) :
    Good (State.writeReg s o k v c) := by
  unfold State.writeReg
  repeat' first | with_reducible assumption | with_reducible apply good_writeSys | with_reducible apply good_writeTongue | with_reducible apply good_writeFusecmd | with_reducible apply good_plainWrite | with_reducible apply good_writePwr | with_reducible apply good_writeFlt | with_reducible apply good_writeIcu | with_reducible apply good_writeTime | with_reducible apply good_writeEye | with_reducible apply good_writeDbg | with_reducible apply good_writeFetch | with_reducible apply good_writePict | with_reducible apply good_writeLc | with_reducible apply good_writeWelt | with_reducible apply good_writeUnits | with_reducible refine good_p1 ?_ (by with_reducible assumption) | dsimp only | with_reducible refine good_ite ?_ ?_ | split | intro _ | with_reducible apply good_mk

theorem good_regWrite (s : State) (o : Nat) (k : Nat) (v : Nat) (c : WriteCtx) (Hs : Good s) :
    Good (State.regWrite s o k v c).1 := by
  unfold State.regWrite
  repeat' first | with_reducible assumption | with_reducible apply good_captureRefusal | with_reducible apply good_writeReg | with_reducible refine good_p1 ?_ (by with_reducible assumption) | dsimp only | with_reducible refine good_ite ?_ ?_ | split | intro _ | with_reducible apply good_mk

end Sys2Proof.Machine
end

