-- ==== Sys2Proof/Laws/GoodBus.lean ====
section
/-! SUPPORT. Canonical form kept: accesses of the address space and the commands made of them. -/
namespace Sys2Proof.Machine

/-! ## Bus -/

theorem good_entryWrite (s : State) (m : Nat) (head : Nat) (a : Nat) (be : Nat) (d : List Nat) (lut : Bool) (Hs : Good s) :
    Good (State.entryWrite s m head a be d lut) := by
  unfold State.entryWrite
  repeat' first | with_reducible assumption | with_reducible apply good_setWord | dsimp only | with_reducible refine good_ite ?_ ?_ | split | intro _ | with_reducible apply good_mk

theorem good_chipWrite (s : State) (m : Nat) (a : Nat) (be : Nat) (d : List Nat) (Hs : Good s) :
    Good (State.chipWrite s m a be d) := by
  unfold State.chipWrite
  repeat' first | with_reducible assumption | with_reducible apply good_entryWrite | with_reducible apply good_writeVoice | with_reducible apply good_setWord | with_reducible refine good_p1 ?_ (by with_reducible assumption) | dsimp only | with_reducible refine good_ite ?_ ?_ | split | intro _ | with_reducible apply good_mk

theorem good_chipWrites (s : State) (m : Nat) (a : Nat) (be : Nat) (d : List Nat) (y0 : Nat) (Hs : Good s) :
    Good (State.chipWrites s m a be d y0) := by
  induction y0 generalizing s m a be d with
  | zero =>
    unfold State.chipWrites
    repeat' first | with_reducible assumption | with_reducible apply good_chipWrite | dsimp only | with_reducible refine good_ite ?_ ?_ | split | intro _ | with_reducible apply good_mk
  | succ n ih =>
    unfold State.chipWrites
    repeat' first | with_reducible assumption | with_reducible apply ih | with_reducible apply good_chipWrite | dsimp only | with_reducible refine good_ite ?_ ?_ | split | intro _ | with_reducible apply good_mk

theorem good_bus_remote (b : Bus) (w : Who) (dev : Nat) (op : Nat) (off : Nat) (be : Nat) (d : List Nat) (Hb : Good b.s) :
    (Bus.remote b w dev op off be d).Good := by
  unfold Bus.remote
  repeat' first | with_reducible assumption | with_reducible apply good_report | with_reducible refine good_serveWrite ?_ (by with_reducible assumption) | with_reducible refine good_serveRead ?_ (by with_reducible assumption) | with_reducible apply BusOut.good_ok | with_reducible refine BusOut.good_of_ok ?_ (by with_reducible assumption) | with_reducible apply BusOut.good_err | with_reducible refine BusOut.good_of_err ?_ (by with_reducible assumption) | with_reducible apply BusOut.good_ref | with_reducible refine BusOut.good_of_ref ?_ (by with_reducible assumption) | with_reducible apply BusOut.good_wait | with_reducible refine BusOut.good_eq ?_ (by with_reducible assumption) | with_reducible refine good_p1 ?_ (by with_reducible assumption) | dsimp only | with_reducible refine good_ite ?_ ?_ | split | intro _ | with_reducible apply good_mk

theorem good_bus_unmapped (b : Bus) (m : Nat) (a : Nat) (wr : Bool) (Hb : Good b.s) :
    (Bus.unmapped b m a wr).Good := by
  unfold Bus.unmapped
  repeat' first | with_reducible assumption | with_reducible apply good_unmapped | with_reducible apply BusOut.good_ok | with_reducible refine BusOut.good_of_ok ?_ (by with_reducible assumption) | with_reducible apply BusOut.good_err | with_reducible refine BusOut.good_of_err ?_ (by with_reducible assumption) | with_reducible apply BusOut.good_ref | with_reducible refine BusOut.good_of_ref ?_ (by with_reducible assumption) | with_reducible apply BusOut.good_wait | with_reducible refine BusOut.good_eq ?_ (by with_reducible assumption) | dsimp only | with_reducible refine good_ite ?_ ?_ | split | intro _ | with_reducible apply good_mk

theorem good_bus_readAt (b : Bus) (w : Who) (a : Nat) (n : Nat) (Hb : Good b.s) :
    (Bus.readAt b w a n).Good := by
  unfold Bus.readAt
  repeat' first | with_reducible assumption | with_reducible apply good_unmapped | with_reducible apply good_bus_unmapped | with_reducible apply good_regRead | with_reducible apply good_bus_remote | with_reducible apply good_tackUse | with_reducible apply good_burst | with_reducible refine good_p2 ?_ (by with_reducible assumption) | with_reducible refine good_p1 ?_ (by with_reducible assumption) | with_reducible apply BusOut.good_ok | with_reducible refine BusOut.good_of_ok ?_ (by with_reducible assumption) | with_reducible apply BusOut.good_err | with_reducible refine BusOut.good_of_err ?_ (by with_reducible assumption) | with_reducible apply BusOut.good_ref | with_reducible refine BusOut.good_of_ref ?_ (by with_reducible assumption) | with_reducible apply BusOut.good_wait | with_reducible refine BusOut.good_eq ?_ (by with_reducible assumption) | dsimp only | with_reducible refine good_ite ?_ ?_ | split | intro _ | with_reducible apply good_mk

theorem good_bus_writeAt (b : Bus) (w : Who) (a : Nat) (be : Nat) (d : List Nat) (Hb : Good b.s) :
    (Bus.writeAt b w a be d).Good := by
  unfold Bus.writeAt
  repeat' first | with_reducible assumption | with_reducible apply good_chipWrites | with_reducible apply good_unmapped | with_reducible apply good_bus_unmapped | with_reducible apply good_regWrite | with_reducible apply good_report | with_reducible apply good_bus_remote | with_reducible apply good_burst | with_reducible apply good_putEnabled | with_reducible refine good_p1 ?_ (by with_reducible assumption) | with_reducible apply BusOut.good_ok | with_reducible refine BusOut.good_of_ok ?_ (by with_reducible assumption) | with_reducible apply BusOut.good_err | with_reducible refine BusOut.good_of_err ?_ (by with_reducible assumption) | with_reducible apply BusOut.good_ref | with_reducible refine BusOut.good_of_ref ?_ (by with_reducible assumption) | with_reducible apply BusOut.good_wait | with_reducible refine BusOut.good_eq ?_ (by with_reducible assumption) | dsimp only | with_reducible refine good_ite ?_ ?_ | split | intro _ | with_reducible apply good_mk

theorem good_bo_seen (r : BusOut) (m a n : Nat) (wr : Bool) (Hr : r.Good) : (r.seen m a n wr).Good := by
  cases r with
  | ok d b => exact good_wpBus b.s m a n wr Hr
  | err b => exact good_wpBus b.s m a n wr Hr
  | ref st b => exact good_wpBus b.s m a n wr Hr
  | wait i => exact True.intro

theorem good_bus_read (b : Bus) (w : Who) (a : Nat) (n : Nat) (Hb : Good b.s) :
    (Bus.read b w a n).Good := by
  unfold Bus.read
  repeat' first | with_reducible assumption | with_reducible apply good_bus_readAt | with_reducible apply good_bo_seen | with_reducible apply BusOut.good_ok | with_reducible refine BusOut.good_of_ok ?_ (by with_reducible assumption) | with_reducible apply BusOut.good_err | with_reducible refine BusOut.good_of_err ?_ (by with_reducible assumption) | with_reducible apply BusOut.good_ref | with_reducible refine BusOut.good_of_ref ?_ (by with_reducible assumption) | with_reducible apply BusOut.good_wait | with_reducible refine BusOut.good_eq ?_ (by with_reducible assumption) | dsimp only | with_reducible refine good_ite ?_ ?_ | split | intro _ | with_reducible apply good_mk

theorem good_bus_write (b : Bus) (w : Who) (a : Nat) (be : Nat) (d : List Nat) (Hb : Good b.s) :
    (Bus.write b w a be d).Good := by
  unfold Bus.write
  repeat' first | with_reducible assumption | with_reducible apply good_bus_writeAt | with_reducible apply good_bo_seen | with_reducible apply BusOut.good_ok | with_reducible refine BusOut.good_of_ok ?_ (by with_reducible assumption) | with_reducible apply BusOut.good_err | with_reducible refine BusOut.good_of_err ?_ (by with_reducible assumption) | with_reducible apply BusOut.good_ref | with_reducible refine BusOut.good_of_ref ?_ (by with_reducible assumption) | with_reducible apply BusOut.good_wait | with_reducible refine BusOut.good_eq ?_ (by with_reducible assumption) | dsimp only | with_reducible refine good_ite ?_ ?_ | split | intro _ | with_reducible apply good_mk

theorem good_bus_readW (b : Bus) (w : Who) (a : Nat) (Hb : Good b.s) :
    (Bus.readW b w a).Good := by
  unfold Bus.readW
  repeat' first | with_reducible assumption | with_reducible apply good_bus_read | with_reducible apply BusOut.good_ok | with_reducible refine BusOut.good_of_ok ?_ (by with_reducible assumption) | with_reducible apply BusOut.good_err | with_reducible refine BusOut.good_of_err ?_ (by with_reducible assumption) | with_reducible apply BusOut.good_ref | with_reducible refine BusOut.good_of_ref ?_ (by with_reducible assumption) | with_reducible apply BusOut.good_wait | with_reducible refine BusOut.good_eq ?_ (by with_reducible assumption) | dsimp only | with_reducible refine good_ite ?_ ?_ | split | intro _ | with_reducible apply good_mk

theorem good_bus_readKey (b : Bus) (a : Nat) (y0 : Nat) (y1 : Nat) (Hb : Good b.s) :
    (Bus.readKey b a y0 y1).Good := by
  induction y1 generalizing b a y0 with
  | zero =>
    unfold Bus.readKey
    repeat' first | with_reducible assumption | with_reducible apply good_bus_read | with_reducible apply BusOut.good_ok | with_reducible refine BusOut.good_of_ok ?_ (by with_reducible assumption) | with_reducible apply BusOut.good_err | with_reducible refine BusOut.good_of_err ?_ (by with_reducible assumption) | with_reducible apply BusOut.good_ref | with_reducible refine BusOut.good_of_ref ?_ (by with_reducible assumption) | with_reducible apply BusOut.good_wait | with_reducible refine BusOut.good_eq ?_ (by with_reducible assumption) | with_reducible refine good_p1 ?_ (by with_reducible assumption) | dsimp only | with_reducible refine good_ite ?_ ?_ | split | intro _ | with_reducible apply good_mk
  | succ n ih =>
    unfold Bus.readKey
    repeat' first | with_reducible assumption | with_reducible apply ih | with_reducible apply good_bus_read | with_reducible apply BusOut.good_ok | with_reducible refine BusOut.good_of_ok ?_ (by with_reducible assumption) | with_reducible apply BusOut.good_err | with_reducible refine BusOut.good_of_err ?_ (by with_reducible assumption) | with_reducible apply BusOut.good_ref | with_reducible refine BusOut.good_of_ref ?_ (by with_reducible assumption) | with_reducible apply BusOut.good_wait | with_reducible refine BusOut.good_eq ?_ (by with_reducible assumption) | with_reducible refine good_p1 ?_ (by with_reducible assumption) | dsimp only | with_reducible refine good_ite ?_ ?_ | split | intro _ | with_reducible apply good_mk

theorem good_bus_writeW (b : Bus) (w : Who) (a v : Nat) (Hb : Good b.s) : (b.writeW w a v).Good := by
  have h := fun ka => good_bus_readKey { b with nth := 0 } ka 0 16 Hb
  unfold Bus.writeW
  by_cases hn : b.s.needsKey w a v = true
  · rw [if_pos hn]
    extract_lets ka after
    have ha : ∀ (b1 : Bus) (k : Option (List Nat)), Good b1.s → Good (after b1 k).s := fun b1 k h1 => good_dropBus b1.s 288 h1
    clear_value after ka
    replace h := h ka
    generalize { b with nth := 0 }.readKey ka 0 16 = r at h
    cases r with
    | ok d b1 => exact good_bus_write _ w a 15 _ (ha _ _ h)
    | wait i => exact True.intro
    | err b1 => exact good_bus_write _ w a 15 _ (ha _ _ h)
    | ref st b1 => exact good_bus_write _ w a 15 _ (ha _ _ h)
  · rw [if_neg hn]; exact good_bus_write b w a 15 _ Hb

theorem good_issueReq (s : State) (i : Issue) (Hs : Good s) :
    Good (State.issueReq s i) := by
  unfold State.issueReq
  repeat' first | with_reducible assumption | with_reducible apply good_dropBus | with_reducible apply good_remIssue | dsimp only | with_reducible refine good_ite ?_ ?_ | split | intro _ | with_reducible apply good_mk

theorem good_meetNeed (s : State) (y0 : Need) (Hs : Good s) :
    Good (State.meetNeed s y0) := by
  unfold State.meetNeed
  repeat' first | with_reducible assumption | with_reducible apply good_issueReq | with_reducible apply good_poolWait | dsimp only | with_reducible refine good_ite ?_ ?_ | split | intro _ | with_reducible apply good_mk

theorem good_bus_finish (b : Bus) (q : Nat) (body : Bus → Fin') (hb : Good b.s) (hbody : ∀ b, Good b.s → (body b).Good) :
    Good (b.finish q body) := by
  unfold Bus.finish
  have h := hbody b hb
  split
  · exact good_dropBus _ q (Fin'.good_of_done h ‹_›)
  · exact hb
  · exact good_meetNeed _ _ hb

theorem good_busRow (s : State) (q : Nat) (e : Env) (body : Bus → Fin') (hs : Good s) (hbody : ∀ b, Good b.s → (body b).Good) :
    Good (s.busRow q e body) :=
  good_bus_finish (s.busOf e) q body hs hbody

theorem good_directWrite (s : State) (m : Nat) (k : Nat) (v : Nat) (e : Env) (Hs : Good s) :
    Good (State.directWrite s m k v e) := by
  unfold State.directWrite
  repeat' first | with_reducible assumption | with_reducible apply good_busRow | with_reducible apply good_bus_writeW | with_reducible apply BusOut.good_ok | with_reducible refine BusOut.good_of_ok ?_ (by with_reducible assumption) | with_reducible apply BusOut.good_err | with_reducible refine BusOut.good_of_err ?_ (by with_reducible assumption) | with_reducible apply BusOut.good_ref | with_reducible refine BusOut.good_of_ref ?_ (by with_reducible assumption) | with_reducible apply BusOut.good_wait | with_reducible refine BusOut.good_eq ?_ (by with_reducible assumption) | with_reducible apply Fin'.good_done | with_reducible refine Fin'.good_of_done ?_ (by with_reducible assumption) | with_reducible apply Fin'.good_wait | with_reducible refine Fin'.good_eq ?_ (by with_reducible assumption) | with_reducible refine good_p1 ?_ (by with_reducible assumption) | dsimp only | with_reducible refine good_ite ?_ ?_ | split | intro _ | with_reducible apply good_mk

theorem good_directRead (s : State) (m : Nat) (k : Nat) (e : Env) (Hs : Good s) :
    Good (State.directRead s m k e) := by
  unfold State.directRead
  repeat' first | with_reducible assumption | with_reducible apply good_busRow | with_reducible apply good_bus_readW | with_reducible apply BusOut.good_ok | with_reducible refine BusOut.good_of_ok ?_ (by with_reducible assumption) | with_reducible apply BusOut.good_err | with_reducible refine BusOut.good_of_err ?_ (by with_reducible assumption) | with_reducible apply BusOut.good_ref | with_reducible refine BusOut.good_of_ref ?_ (by with_reducible assumption) | with_reducible apply BusOut.good_wait | with_reducible refine BusOut.good_eq ?_ (by with_reducible assumption) | with_reducible apply Fin'.good_done | with_reducible refine Fin'.good_of_done ?_ (by with_reducible assumption) | with_reducible apply Fin'.good_wait | with_reducible refine Fin'.good_eq ?_ (by with_reducible assumption) | with_reducible refine good_p1 ?_ (by with_reducible assumption) | dsimp only | with_reducible refine good_ite ?_ ?_ | split | intro _ | with_reducible apply good_mk

/-! ## Jobs -/

theorem good_bus_readRun (b : Bus) (w : Who) (stop : Bool) (a : Nat) (y0 : Nat) (Hb : Good b.s) :
    (Bus.readRun b w stop a y0).Good := by
  induction y0 generalizing b w stop a with
  | zero =>
    unfold Bus.readRun
    repeat' first | with_reducible assumption | with_reducible apply good_bus_readW | with_reducible apply BusOut.good_ok | with_reducible refine BusOut.good_of_ok ?_ (by with_reducible assumption) | with_reducible apply BusOut.good_err | with_reducible refine BusOut.good_of_err ?_ (by with_reducible assumption) | with_reducible apply BusOut.good_ref | with_reducible refine BusOut.good_of_ref ?_ (by with_reducible assumption) | with_reducible apply BusOut.good_wait | with_reducible refine BusOut.good_eq ?_ (by with_reducible assumption) | with_reducible apply RunOut.good_ok | with_reducible refine RunOut.good_of_ok ?_ (by with_reducible assumption) | with_reducible apply RunOut.good_wait | with_reducible refine RunOut.good_eq ?_ (by with_reducible assumption) | with_reducible refine good_p1 ?_ (by with_reducible assumption) | dsimp only | with_reducible refine good_ite ?_ ?_ | split | intro _ | with_reducible apply good_mk
  | succ n ih =>
    unfold Bus.readRun
    repeat' first | with_reducible assumption | with_reducible apply ih | with_reducible apply good_bus_readW | with_reducible apply BusOut.good_ok | with_reducible refine BusOut.good_of_ok ?_ (by with_reducible assumption) | with_reducible apply BusOut.good_err | with_reducible refine BusOut.good_of_err ?_ (by with_reducible assumption) | with_reducible apply BusOut.good_ref | with_reducible refine BusOut.good_of_ref ?_ (by with_reducible assumption) | with_reducible apply BusOut.good_wait | with_reducible refine BusOut.good_eq ?_ (by with_reducible assumption) | with_reducible apply RunOut.good_ok | with_reducible refine RunOut.good_of_ok ?_ (by with_reducible assumption) | with_reducible apply RunOut.good_wait | with_reducible refine RunOut.good_eq ?_ (by with_reducible assumption) | with_reducible refine good_p1 ?_ (by with_reducible assumption) | dsimp only | with_reducible refine good_ite ?_ ?_ | split | intro _ | with_reducible apply good_mk

theorem good_bus_writeRun (b : Bus) (w : Who) (a : Nat) (y0 : List Nat) (Hb : Good b.s) :
    (Bus.writeRun b w a y0).Good := by
  induction y0 generalizing b w a with
  | nil =>
    unfold Bus.writeRun
    repeat' first | with_reducible assumption | with_reducible apply good_bus_write | with_reducible apply good_writeRun | with_reducible apply BusOut.good_ok | with_reducible refine BusOut.good_of_ok ?_ (by with_reducible assumption) | with_reducible apply BusOut.good_err | with_reducible refine BusOut.good_of_err ?_ (by with_reducible assumption) | with_reducible apply BusOut.good_ref | with_reducible refine BusOut.good_of_ref ?_ (by with_reducible assumption) | with_reducible apply BusOut.good_wait | with_reducible refine BusOut.good_eq ?_ (by with_reducible assumption) | with_reducible apply RunOut.good_ok | with_reducible refine RunOut.good_of_ok ?_ (by with_reducible assumption) | with_reducible apply RunOut.good_wait | with_reducible refine RunOut.good_eq ?_ (by with_reducible assumption) | with_reducible refine good_p1 ?_ (by with_reducible assumption) | dsimp only | with_reducible refine good_ite ?_ ?_ | split | intro _ | with_reducible apply good_mk
  | cons x t ih =>
    unfold Bus.writeRun
    repeat' first | with_reducible assumption | with_reducible apply ih | with_reducible apply good_bus_write | with_reducible apply good_writeRun | with_reducible apply BusOut.good_ok | with_reducible refine BusOut.good_of_ok ?_ (by with_reducible assumption) | with_reducible apply BusOut.good_err | with_reducible refine BusOut.good_of_err ?_ (by with_reducible assumption) | with_reducible apply BusOut.good_ref | with_reducible refine BusOut.good_of_ref ?_ (by with_reducible assumption) | with_reducible apply BusOut.good_wait | with_reducible refine BusOut.good_eq ?_ (by with_reducible assumption) | with_reducible apply RunOut.good_ok | with_reducible refine RunOut.good_of_ok ?_ (by with_reducible assumption) | with_reducible apply RunOut.good_wait | with_reducible refine RunOut.good_eq ?_ (by with_reducible assumption) | with_reducible refine good_p1 ?_ (by with_reducible assumption) | dsimp only | with_reducible refine good_ite ?_ ?_ | split | intro _ | with_reducible apply good_mk

theorem good_copyDone (s : State) (slot : Nat) (e : Env) (Hs : Good s) :
    Good (State.copyDone s slot e) := by
  unfold State.copyDone
  repeat' first | with_reducible assumption | with_reducible apply good_busRow | with_reducible apply good_bus_readRun | with_reducible apply good_stageWords | with_reducible apply good_answer | with_reducible apply Fin'.good_done | with_reducible refine Fin'.good_of_done ?_ (by with_reducible assumption) | with_reducible apply Fin'.good_wait | with_reducible refine Fin'.good_eq ?_ (by with_reducible assumption) | with_reducible apply RunOut.good_ok | with_reducible refine RunOut.good_of_ok ?_ (by with_reducible assumption) | with_reducible apply RunOut.good_wait | with_reducible refine RunOut.good_eq ?_ (by with_reducible assumption) | with_reducible refine good_p1 ?_ (by with_reducible assumption) | dsimp only | with_reducible refine good_ite ?_ ?_ | split | intro _ | with_reducible apply good_mk

theorem good_verifyEnd (s : State) (j : VerJob) (fail : Option (Nat × Option Nat)) (id : Nat) (Hs : Good s) :
    Good (State.verifyEnd s j fail id) := by
  unfold State.verifyEnd
  repeat' first | with_reducible assumption | with_reducible apply good_modSec | with_reducible apply good_set | with_reducible apply good_bootErr | with_reducible apply good_vstat | with_reducible apply good_verifyReply | dsimp only | with_reducible refine good_ite ?_ ?_ | split | intro _ | with_reducible apply good_mk

theorem good_verifyWords (s : State) (j : VerJob) (ws : List Nat) (Hs : Good s) :
    Good (State.verifyWords s j ws) := by
  unfold State.verifyWords
  repeat' first | with_reducible assumption | with_reducible apply good_modSec | with_reducible apply good_verifyEnd | with_reducible apply good_loadBegin | with_reducible refine good_p1 ?_ (by with_reducible assumption) | dsimp only | with_reducible refine good_ite ?_ ?_ | split | intro _ | with_reducible apply good_mk

theorem good_verifyDone (s : State) (e : Env) (Hs : Good s) :
    Good (State.verifyDone s e) := by
  unfold State.verifyDone
  repeat' first | with_reducible assumption | with_reducible apply good_verifyEnd | with_reducible apply good_busRow | with_reducible apply good_bus_readRun | with_reducible apply good_verifyWords | with_reducible apply Fin'.good_done | with_reducible refine Fin'.good_of_done ?_ (by with_reducible assumption) | with_reducible apply Fin'.good_wait | with_reducible refine Fin'.good_eq ?_ (by with_reducible assumption) | with_reducible apply RunOut.good_ok | with_reducible refine RunOut.good_of_ok ?_ (by with_reducible assumption) | with_reducible apply RunOut.good_wait | with_reducible refine RunOut.good_eq ?_ (by with_reducible assumption) | with_reducible refine good_p1 ?_ (by with_reducible assumption) | dsimp only | with_reducible refine good_ite ?_ ?_ | split | intro _ | with_reducible apply good_mk

theorem good_bus_entryStore (b : Bus) (w : Img) (e : Nat) (ws : List Nat) (Hb : Good b.s) :
    (Bus.entryStore b w e ws).Good := by
  unfold Bus.entryStore
  repeat' first | with_reducible assumption | with_reducible apply good_writeRun | with_reducible apply good_bus_writeRun | with_reducible apply good_openSlot | with_reducible apply good_stageWords | with_reducible apply RunOut.good_ok | with_reducible refine RunOut.good_of_ok ?_ (by with_reducible assumption) | with_reducible apply RunOut.good_wait | with_reducible refine RunOut.good_eq ?_ (by with_reducible assumption) | with_reducible refine good_p1 ?_ (by with_reducible assumption) | dsimp only | with_reducible refine good_ite ?_ ?_ | split | intro _ | with_reducible apply good_mk

theorem good_entryFail (s : State) (e : Nat) (detail : Nat) (Hs : Good s) :
    Good (State.entryFail s e detail) := by
  unfold State.entryFail
  repeat' first | with_reducible assumption | with_reducible apply good_loadFailed | dsimp only | with_reducible refine good_ite ?_ ?_ | split | intro _ | with_reducible apply good_mk

theorem good_entryEnd (s : State) (e : Nat) (ws : List Nat) (fail : Bool) (Hs : Good s) :
    Good (State.entryEnd s e ws fail) := by
  unfold State.entryEnd
  repeat' first | with_reducible assumption | with_reducible apply good_entryFail | with_reducible apply good_loadFailed | with_reducible apply good_modSec | with_reducible apply good_bootDone | with_reducible refine good_p1 ?_ (by with_reducible assumption) | dsimp only | with_reducible refine good_ite ?_ ?_ | split | intro _ | with_reducible apply good_mk

theorem good_bootEntry (s : State) (flash : Option (List Byte)) (e : Env) (Hs : Good s) :
    Good (State.bootEntry s flash e) := by
  unfold State.bootEntry
  repeat' first | with_reducible assumption | with_reducible apply good_entryFail | with_reducible apply good_busRow | with_reducible apply good_bus_readRun | with_reducible apply good_bus_entryStore | with_reducible apply good_entryEnd | with_reducible apply Fin'.good_done | with_reducible refine Fin'.good_of_done ?_ (by with_reducible assumption) | with_reducible apply Fin'.good_wait | with_reducible refine Fin'.good_eq ?_ (by with_reducible assumption) | with_reducible apply RunOut.good_ok | with_reducible refine RunOut.good_of_ok ?_ (by with_reducible assumption) | with_reducible apply RunOut.good_wait | with_reducible refine RunOut.good_eq ?_ (by with_reducible assumption) | with_reducible refine good_p1 ?_ (by with_reducible assumption) | dsimp only | with_reducible refine good_ite ?_ ?_ | split | intro _ | with_reducible apply good_mk

theorem good_bus_ringReport (b : Bus) (base : Nat) (ws : List Nat) (y0 : Nat) (y1 : Nat) (Hb : Good b.s) :
    (Bus.ringReport b base ws y0 y1).Good := by
  induction y1 generalizing b base ws y0 with
  | zero =>
    unfold Bus.ringReport
    repeat' first | with_reducible assumption | with_reducible apply good_bus_write | with_reducible apply BusOut.good_ok | with_reducible refine BusOut.good_of_ok ?_ (by with_reducible assumption) | with_reducible apply BusOut.good_err | with_reducible refine BusOut.good_of_err ?_ (by with_reducible assumption) | with_reducible apply BusOut.good_ref | with_reducible refine BusOut.good_of_ref ?_ (by with_reducible assumption) | with_reducible apply BusOut.good_wait | with_reducible refine BusOut.good_eq ?_ (by with_reducible assumption) | with_reducible apply RunOut.good_ok | with_reducible refine RunOut.good_of_ok ?_ (by with_reducible assumption) | with_reducible apply RunOut.good_wait | with_reducible refine RunOut.good_eq ?_ (by with_reducible assumption) | with_reducible refine good_p1 ?_ (by with_reducible assumption) | dsimp only | with_reducible refine good_ite ?_ ?_ | split | intro _ | with_reducible apply good_mk
  | succ n ih =>
    unfold Bus.ringReport
    repeat' first | with_reducible assumption | with_reducible apply ih | with_reducible apply good_bus_write | with_reducible apply BusOut.good_ok | with_reducible refine BusOut.good_of_ok ?_ (by with_reducible assumption) | with_reducible apply BusOut.good_err | with_reducible refine BusOut.good_of_err ?_ (by with_reducible assumption) | with_reducible apply BusOut.good_ref | with_reducible refine BusOut.good_of_ref ?_ (by with_reducible assumption) | with_reducible apply BusOut.good_wait | with_reducible refine BusOut.good_eq ?_ (by with_reducible assumption) | with_reducible apply RunOut.good_ok | with_reducible refine RunOut.good_of_ok ?_ (by with_reducible assumption) | with_reducible apply RunOut.good_wait | with_reducible refine RunOut.good_eq ?_ (by with_reducible assumption) | with_reducible refine good_p1 ?_ (by with_reducible assumption) | dsimp only | with_reducible refine good_ite ?_ ?_ | split | intro _ | with_reducible apply good_mk

theorem good_scanEnd (s : State) (n : Nat) (e : Env) (Hs : Good s) :
    Good (State.scanEnd s n e) := by
  unfold State.scanEnd
  repeat' first | with_reducible assumption | with_reducible apply good_busRow | with_reducible apply good_feReport | with_reducible apply good_bus_ringReport | with_reducible apply good_set | with_reducible apply good_feSend | with_reducible refine good_p1 ?_ (by with_reducible assumption) | with_reducible apply Fin'.good_done | with_reducible refine Fin'.good_of_done ?_ (by with_reducible assumption) | with_reducible apply Fin'.good_wait | with_reducible refine Fin'.good_eq ?_ (by with_reducible assumption) | with_reducible apply RunOut.good_ok | with_reducible refine RunOut.good_of_ok ?_ (by with_reducible assumption) | with_reducible apply RunOut.good_wait | with_reducible refine RunOut.good_eq ?_ (by with_reducible assumption) | dsimp only | with_reducible refine good_ite ?_ ?_ | split | intro _ | with_reducible apply good_mk

theorem good_senseIn (s : State) (e : Env) (Hs : Good s) :
    Good (State.senseIn s e) := by
  unfold State.senseIn
  repeat' first | with_reducible assumption | with_reducible refine good_takeIn ?_ (by with_reducible assumption) | with_reducible apply good_bump | with_reducible apply good_busRow | with_reducible apply good_bus_ringReport | with_reducible apply good_set | with_reducible apply Fin'.good_done | with_reducible refine Fin'.good_of_done ?_ (by with_reducible assumption) | with_reducible apply Fin'.good_wait | with_reducible refine Fin'.good_eq ?_ (by with_reducible assumption) | with_reducible apply RunOut.good_ok | with_reducible refine RunOut.good_of_ok ?_ (by with_reducible assumption) | with_reducible apply RunOut.good_wait | with_reducible refine RunOut.good_eq ?_ (by with_reducible assumption) | with_reducible refine good_p1 ?_ (by with_reducible assumption) | dsimp only | with_reducible refine good_ite ?_ ?_ | split | intro _ | with_reducible apply good_mk

/-! ## AwlMem -/

theorem good_busTrap (t : State) (n : Nat) (Ht : Good t) :
    Good (State.busTrap t n) := by
  unfold State.busTrap
  repeat' first | with_reducible assumption | with_reducible apply good_trap | dsimp only | with_reducible refine good_ite ?_ ?_ | split | intro _ | with_reducible apply good_mk

theorem good_cellTrap (s : State) (n : Nat) (wr : Bool) (k : CellStop) (Hs : Good s) :
    Good (State.cellTrap s n wr k) := by
  unfold State.cellTrap
  repeat' first | with_reducible assumption | with_reducible apply good_busTrap | with_reducible apply good_unmapped | with_reducible apply good_bus_unmapped | with_reducible apply good_draw | with_reducible apply BusOut.good_ok | with_reducible refine BusOut.good_of_ok ?_ (by with_reducible assumption) | with_reducible apply BusOut.good_err | with_reducible refine BusOut.good_of_err ?_ (by with_reducible assumption) | with_reducible apply BusOut.good_ref | with_reducible refine BusOut.good_of_ref ?_ (by with_reducible assumption) | with_reducible apply BusOut.good_wait | with_reducible refine BusOut.good_eq ?_ (by with_reducible assumption) | with_reducible refine good_p1 ?_ (by with_reducible assumption) | dsimp only | with_reducible refine good_ite ?_ ?_ | split | intro _ | with_reducible apply good_mk

theorem good_bus_loadEach (b : Bus) (n : Nat) (y0 : List CellAt) (Hb : Good b.s) :
    (Bus.loadEach b n y0).Good := by
  induction y0 generalizing b n with
  | nil =>
    unfold Bus.loadEach
    repeat' first | with_reducible assumption | with_reducible apply good_bus_read | with_reducible apply BusOut.good_ok | with_reducible refine BusOut.good_of_ok ?_ (by with_reducible assumption) | with_reducible apply BusOut.good_err | with_reducible refine BusOut.good_of_err ?_ (by with_reducible assumption) | with_reducible apply BusOut.good_ref | with_reducible refine BusOut.good_of_ref ?_ (by with_reducible assumption) | with_reducible apply BusOut.good_wait | with_reducible refine BusOut.good_eq ?_ (by with_reducible assumption) | with_reducible apply CellsOut.good_ok | with_reducible refine CellsOut.good_of_ok ?_ (by with_reducible assumption) | with_reducible apply CellsOut.good_err | with_reducible refine CellsOut.good_of_err ?_ (by with_reducible assumption) | with_reducible apply CellsOut.good_wait | with_reducible refine CellsOut.good_eq ?_ (by with_reducible assumption) | with_reducible refine good_p1 ?_ (by with_reducible assumption) | dsimp only | with_reducible refine good_ite ?_ ?_ | split | intro _ | with_reducible apply good_mk
  | cons x t ih =>
    unfold Bus.loadEach
    repeat' first | with_reducible assumption | with_reducible apply ih | with_reducible apply good_bus_read | with_reducible apply BusOut.good_ok | with_reducible refine BusOut.good_of_ok ?_ (by with_reducible assumption) | with_reducible apply BusOut.good_err | with_reducible refine BusOut.good_of_err ?_ (by with_reducible assumption) | with_reducible apply BusOut.good_ref | with_reducible refine BusOut.good_of_ref ?_ (by with_reducible assumption) | with_reducible apply BusOut.good_wait | with_reducible refine BusOut.good_eq ?_ (by with_reducible assumption) | with_reducible apply CellsOut.good_ok | with_reducible refine CellsOut.good_of_ok ?_ (by with_reducible assumption) | with_reducible apply CellsOut.good_err | with_reducible refine CellsOut.good_of_err ?_ (by with_reducible assumption) | with_reducible apply CellsOut.good_wait | with_reducible refine CellsOut.good_eq ?_ (by with_reducible assumption) | with_reducible refine good_p1 ?_ (by with_reducible assumption) | dsimp only | with_reducible refine good_ite ?_ ?_ | split | intro _ | with_reducible apply good_mk

theorem good_bus_loadCells (b : Bus) (n : Nat) (cs : List CellAt) (Hb : Good b.s) :
    (Bus.loadCells b n cs).Good := by
  unfold Bus.loadCells
  repeat' first | with_reducible assumption | with_reducible apply good_bus_read | with_reducible apply good_bus_loadEach | with_reducible apply BusOut.good_ok | with_reducible refine BusOut.good_of_ok ?_ (by with_reducible assumption) | with_reducible apply BusOut.good_err | with_reducible refine BusOut.good_of_err ?_ (by with_reducible assumption) | with_reducible apply BusOut.good_ref | with_reducible refine BusOut.good_of_ref ?_ (by with_reducible assumption) | with_reducible apply BusOut.good_wait | with_reducible refine BusOut.good_eq ?_ (by with_reducible assumption) | with_reducible apply CellsOut.good_ok | with_reducible refine CellsOut.good_of_ok ?_ (by with_reducible assumption) | with_reducible apply CellsOut.good_err | with_reducible refine CellsOut.good_of_err ?_ (by with_reducible assumption) | with_reducible apply CellsOut.good_wait | with_reducible refine CellsOut.good_eq ?_ (by with_reducible assumption) | with_reducible refine good_p1 ?_ (by with_reducible assumption) | dsimp only | with_reducible refine good_ite ?_ ?_ | split | intro _ | with_reducible apply good_mk

theorem good_bus_storeCell (b : Bus) (n : Nat) (c : CellAt) (v : Nat) (Hb : Good b.s) :
    (Bus.storeCell b n c v).Good := by
  unfold Bus.storeCell
  repeat' first | with_reducible assumption | with_reducible apply good_putHalf | with_reducible apply good_bo_seen | with_reducible apply good_bus_write | with_reducible apply BusOut.good_ok | with_reducible refine BusOut.good_of_ok ?_ (by with_reducible assumption) | with_reducible apply BusOut.good_err | with_reducible refine BusOut.good_of_err ?_ (by with_reducible assumption) | with_reducible apply BusOut.good_ref | with_reducible refine BusOut.good_of_ref ?_ (by with_reducible assumption) | with_reducible apply BusOut.good_wait | with_reducible refine BusOut.good_eq ?_ (by with_reducible assumption) | with_reducible refine good_p1 ?_ (by with_reducible assumption) | dsimp only | with_reducible refine good_ite ?_ ?_ | split | intro _ | with_reducible apply good_mk

theorem good_bus_storeEach (b : Bus) (n : Nat) (y0 : List (CellAt × Nat)) (Hb : Good b.s) :
    (Bus.storeEach b n y0).Good := by
  induction y0 generalizing b n with
  | nil =>
    unfold Bus.storeEach
    repeat' first | with_reducible assumption | with_reducible apply good_bus_storeCell | with_reducible apply BusOut.good_ok | with_reducible refine BusOut.good_of_ok ?_ (by with_reducible assumption) | with_reducible apply BusOut.good_err | with_reducible refine BusOut.good_of_err ?_ (by with_reducible assumption) | with_reducible apply BusOut.good_ref | with_reducible refine BusOut.good_of_ref ?_ (by with_reducible assumption) | with_reducible apply BusOut.good_wait | with_reducible refine BusOut.good_eq ?_ (by with_reducible assumption) | with_reducible apply CellsOut.good_ok | with_reducible refine CellsOut.good_of_ok ?_ (by with_reducible assumption) | with_reducible apply CellsOut.good_err | with_reducible refine CellsOut.good_of_err ?_ (by with_reducible assumption) | with_reducible apply CellsOut.good_wait | with_reducible refine CellsOut.good_eq ?_ (by with_reducible assumption) | with_reducible refine good_p1 ?_ (by with_reducible assumption) | dsimp only | with_reducible refine good_ite ?_ ?_ | split | intro _ | with_reducible apply good_mk
  | cons x t ih =>
    unfold Bus.storeEach
    repeat' first | with_reducible assumption | with_reducible apply ih | with_reducible apply good_bus_storeCell | with_reducible apply BusOut.good_ok | with_reducible refine BusOut.good_of_ok ?_ (by with_reducible assumption) | with_reducible apply BusOut.good_err | with_reducible refine BusOut.good_of_err ?_ (by with_reducible assumption) | with_reducible apply BusOut.good_ref | with_reducible refine BusOut.good_of_ref ?_ (by with_reducible assumption) | with_reducible apply BusOut.good_wait | with_reducible refine BusOut.good_eq ?_ (by with_reducible assumption) | with_reducible apply CellsOut.good_ok | with_reducible refine CellsOut.good_of_ok ?_ (by with_reducible assumption) | with_reducible apply CellsOut.good_err | with_reducible refine CellsOut.good_of_err ?_ (by with_reducible assumption) | with_reducible apply CellsOut.good_wait | with_reducible refine CellsOut.good_eq ?_ (by with_reducible assumption) | with_reducible refine good_p1 ?_ (by with_reducible assumption) | dsimp only | with_reducible refine good_ite ?_ ?_ | split | intro _ | with_reducible apply good_mk

theorem good_bus_storeCells (b : Bus) (n : Nat) (cs : List CellAt) (vs : List Nat) (Hb : Good b.s) :
    (Bus.storeCells b n cs vs).Good := by
  unfold Bus.storeCells
  repeat' first | with_reducible assumption | with_reducible apply good_bus_write | with_reducible apply good_bus_storeEach | with_reducible apply BusOut.good_ok | with_reducible refine BusOut.good_of_ok ?_ (by with_reducible assumption) | with_reducible apply BusOut.good_err | with_reducible refine BusOut.good_of_err ?_ (by with_reducible assumption) | with_reducible apply BusOut.good_ref | with_reducible refine BusOut.good_of_ref ?_ (by with_reducible assumption) | with_reducible apply BusOut.good_wait | with_reducible refine BusOut.good_eq ?_ (by with_reducible assumption) | with_reducible apply CellsOut.good_ok | with_reducible refine CellsOut.good_of_ok ?_ (by with_reducible assumption) | with_reducible apply CellsOut.good_err | with_reducible refine CellsOut.good_of_err ?_ (by with_reducible assumption) | with_reducible apply CellsOut.good_wait | with_reducible refine CellsOut.good_eq ?_ (by with_reducible assumption) | with_reducible refine good_p1 ?_ (by with_reducible assumption) | dsimp only | with_reducible refine good_ite ?_ ?_ | split | intro _ | with_reducible apply good_mk

theorem good_wpCells (s : State) (n : Nat) (pc : Nat) (wr : Bool) (cas : List Nat) (vs : List Nat) (Hs : Good s) :
    Good (State.wpCells s n pc wr cas vs) := by
  unfold State.wpCells
  repeat' first | with_reducible assumption | with_reducible apply good_wpCore | with_reducible refine good_foldl ?_ ?_ | dsimp only | with_reducible refine good_ite ?_ ?_ | split | intro _ | with_reducible apply good_mk

theorem good_putBase (s : State) (n : Nat) (r : Nat) (y0 : Option Nat) (Hs : Good s) :
    Good (State.putBase s n r y0) := by
  unfold State.putBase
  repeat' first | with_reducible assumption | with_reducible apply good_setG | dsimp only | with_reducible refine good_ite ?_ ?_ | split | intro _ | with_reducible apply good_mk

theorem good_setGs (s : State) (n : Nat) (r : Nat) (y0 : List Nat) (Hs : Good s) :
    Good (State.setGs s n r y0) := by
  induction y0 generalizing s n r with
  | nil =>
    unfold State.setGs
    repeat' first | with_reducible assumption | with_reducible apply good_setG | dsimp only | with_reducible refine good_ite ?_ ?_ | split | intro _ | with_reducible apply good_mk
  | cons x t ih =>
    unfold State.setGs
    repeat' first | with_reducible assumption | with_reducible apply ih | with_reducible apply good_setG | dsimp only | with_reducible refine good_ite ?_ ?_ | split | intro _ | with_reducible apply good_mk

theorem good_loadBody (s : State) (n : Nat) (cnt : Nat) (i : Insn) (b : Bus) (Hs : Good s) (Hb : Good b.s) :
    (State.loadBody s n cnt i b).Good := by
  unfold State.loadBody
  repeat' first | with_reducible assumption | with_reducible apply good_bus_loadCells | with_reducible apply good_busTrap | with_reducible apply good_wpCells | with_reducible apply good_putBase | with_reducible apply good_setGs | with_reducible apply good_advance | with_reducible apply CellsOut.good_ok | with_reducible refine CellsOut.good_of_ok ?_ (by with_reducible assumption) | with_reducible apply CellsOut.good_err | with_reducible refine CellsOut.good_of_err ?_ (by with_reducible assumption) | with_reducible apply CellsOut.good_wait | with_reducible refine CellsOut.good_eq ?_ (by with_reducible assumption) | with_reducible apply Fin'.good_done | with_reducible refine Fin'.good_of_done ?_ (by with_reducible assumption) | with_reducible apply Fin'.good_wait | with_reducible refine Fin'.good_eq ?_ (by with_reducible assumption) | with_reducible refine good_p1 ?_ (by with_reducible assumption) | dsimp only | with_reducible refine good_ite ?_ ?_ | split | intro _ | with_reducible apply good_mk

theorem good_storeBody (s : State) (n : Nat) (cnt : Nat) (i : Insn) (b : Bus) (Hs : Good s) (Hb : Good b.s) :
    (State.storeBody s n cnt i b).Good := by
  unfold State.storeBody
  repeat' first | with_reducible assumption | with_reducible apply good_bus_storeCells | with_reducible apply good_busTrap | with_reducible apply good_wpCells | with_reducible apply good_putBase | with_reducible apply good_advance | with_reducible apply CellsOut.good_ok | with_reducible refine CellsOut.good_of_ok ?_ (by with_reducible assumption) | with_reducible apply CellsOut.good_err | with_reducible refine CellsOut.good_of_err ?_ (by with_reducible assumption) | with_reducible apply CellsOut.good_wait | with_reducible refine CellsOut.good_eq ?_ (by with_reducible assumption) | with_reducible apply Fin'.good_done | with_reducible refine Fin'.good_of_done ?_ (by with_reducible assumption) | with_reducible apply Fin'.good_wait | with_reducible refine Fin'.good_eq ?_ (by with_reducible assumption) | with_reducible refine good_p1 ?_ (by with_reducible assumption) | dsimp only | with_reducible refine good_ite ?_ ?_ | split | intro _ | with_reducible apply good_mk

theorem good_runMem (s : State) (n : Nat) (op : Nat) (cnt : Nat) (wr : Bool) (e : Env) (Hs : Good s) :
    Good (State.runMem s n op cnt wr e) := by
  unfold State.runMem
  repeat' first | with_reducible assumption | with_reducible apply good_runOp | with_reducible apply good_tagTrap | with_reducible apply good_busTrap | with_reducible apply good_busRow | with_reducible apply good_storeBody | with_reducible apply good_loadBody | with_reducible apply good_cellTrap | with_reducible apply Fin'.good_done | with_reducible refine Fin'.good_of_done ?_ (by with_reducible assumption) | with_reducible apply Fin'.good_wait | with_reducible refine Fin'.good_eq ?_ (by with_reducible assumption) | with_reducible refine good_p1 ?_ (by with_reducible assumption) | dsimp only | with_reducible refine good_ite ?_ ?_ | split | intro _ | with_reducible apply good_mk

theorem good_ioEnd (s : State) (n : Nat) (i : Insn) (v : Option Nat) (c : Bool) (Hs : Good s) :
    Good (State.ioEnd s n i v c) := by
  unfold State.ioEnd
  repeat' first | with_reducible assumption | with_reducible apply good_setG | with_reducible apply good_setFlags | with_reducible apply good_advance | with_reducible refine good_p1 ?_ (by with_reducible assumption) | dsimp only | with_reducible refine good_ite ?_ ?_ | split | intro _ | with_reducible apply good_mk

theorem good_inBody (s : State) (n : Nat) (i : Insn) (k : Nat) (b : Bus) (Hs : Good s) (Hb : Good b.s) :
    (State.inBody s n i k b).Good := by
  unfold State.inBody
  repeat' first | with_reducible assumption | with_reducible apply good_bus_readW | with_reducible apply good_ioEnd | with_reducible apply BusOut.good_ok | with_reducible refine BusOut.good_of_ok ?_ (by with_reducible assumption) | with_reducible apply BusOut.good_err | with_reducible refine BusOut.good_of_err ?_ (by with_reducible assumption) | with_reducible apply BusOut.good_ref | with_reducible refine BusOut.good_of_ref ?_ (by with_reducible assumption) | with_reducible apply BusOut.good_wait | with_reducible refine BusOut.good_eq ?_ (by with_reducible assumption) | with_reducible apply Fin'.good_done | with_reducible refine Fin'.good_of_done ?_ (by with_reducible assumption) | with_reducible apply Fin'.good_wait | with_reducible refine Fin'.good_eq ?_ (by with_reducible assumption) | with_reducible refine good_p1 ?_ (by with_reducible assumption) | dsimp only | with_reducible refine good_ite ?_ ?_ | split | intro _ | with_reducible apply good_mk

theorem good_outBody (s : State) (n : Nat) (i : Insn) (k : Nat) (b : Bus) (Hs : Good s) (Hb : Good b.s) :
    (State.outBody s n i k b).Good := by
  unfold State.outBody
  repeat' first | with_reducible assumption | with_reducible apply good_bus_writeW | with_reducible apply good_ioEnd | with_reducible apply BusOut.good_ok | with_reducible refine BusOut.good_of_ok ?_ (by with_reducible assumption) | with_reducible apply BusOut.good_err | with_reducible refine BusOut.good_of_err ?_ (by with_reducible assumption) | with_reducible apply BusOut.good_ref | with_reducible refine BusOut.good_of_ref ?_ (by with_reducible assumption) | with_reducible apply BusOut.good_wait | with_reducible refine BusOut.good_eq ?_ (by with_reducible assumption) | with_reducible apply Fin'.good_done | with_reducible refine Fin'.good_of_done ?_ (by with_reducible assumption) | with_reducible apply Fin'.good_wait | with_reducible refine Fin'.good_eq ?_ (by with_reducible assumption) | with_reducible refine good_p1 ?_ (by with_reducible assumption) | dsimp only | with_reducible refine good_ite ?_ ?_ | split | intro _ | with_reducible apply good_mk

theorem good_runIo (s : State) (n : Nat) (op : Nat) (wr : Bool) (e : Env) (Hs : Good s) :
    Good (State.runIo s n op wr e) := by
  unfold State.runIo
  repeat' first | with_reducible assumption | with_reducible apply good_runOp | with_reducible apply good_tagTrap | with_reducible apply good_draw | with_reducible apply good_unmapped | with_reducible apply good_bus_unmapped | with_reducible apply good_ioEnd | with_reducible apply good_busRow | with_reducible apply good_outBody | with_reducible apply good_inBody | with_reducible apply BusOut.good_ok | with_reducible refine BusOut.good_of_ok ?_ (by with_reducible assumption) | with_reducible apply BusOut.good_err | with_reducible refine BusOut.good_of_err ?_ (by with_reducible assumption) | with_reducible apply BusOut.good_ref | with_reducible refine BusOut.good_of_ref ?_ (by with_reducible assumption) | with_reducible apply BusOut.good_wait | with_reducible refine BusOut.good_eq ?_ (by with_reducible assumption) | with_reducible apply Fin'.good_done | with_reducible refine Fin'.good_of_done ?_ (by with_reducible assumption) | with_reducible apply Fin'.good_wait | with_reducible refine Fin'.good_eq ?_ (by with_reducible assumption) | with_reducible refine good_p1 ?_ (by with_reducible assumption) | dsimp only | with_reducible refine good_ite ?_ ?_ | split | intro _ | with_reducible apply good_mk

theorem good_runJmp (s : State) (n : Nat) (op : Nat) (link : Bool) (Hs : Good s) :
    Good (State.runJmp s n op link) := by
  unfold State.runJmp
  repeat' first | with_reducible assumption | with_reducible apply good_runOp | with_reducible apply good_tagTrap | with_reducible apply good_setG | with_reducible apply good_jump | with_reducible refine good_p1 ?_ (by with_reducible assumption) | dsimp only | with_reducible refine good_ite ?_ ?_ | split | intro _ | with_reducible apply good_mk

theorem good_runTrap (s : State) (n : Nat) (Hs : Good s) :
    Good (State.runTrap s n) := by
  unfold State.runTrap
  repeat' first | with_reducible assumption | with_reducible apply good_runOp | with_reducible apply good_breakLock | with_reducible apply good_enter | dsimp only | with_reducible refine good_ite ?_ ?_ | split | intro _ | with_reducible apply good_mk

/-! ## Lace -/

theorem good_laceFail (s : State) (n : Nat) (err : Nat) (Hs : Good s) :
    Good (State.laceFail s n err) := by
  unfold State.laceFail
  repeat' first | with_reducible assumption | with_reducible apply good_set | with_reducible apply good_laceClear | with_reducible apply good_laceEnd | dsimp only | with_reducible refine good_ite ?_ ?_ | split | intro _ | with_reducible apply good_mk

theorem good_laceOver (s : State) (n : Nat) (Hs : Good s) :
    Good (State.laceOver s n) := by
  unfold State.laceOver
  repeat' first | with_reducible assumption | with_reducible apply good_set | with_reducible apply good_laceClear | with_reducible apply good_report | dsimp only | with_reducible refine good_ite ?_ ?_ | split | intro _ | with_reducible apply good_mk

theorem good_laceTake (s : State) (n : Nat) (ws : List Nat) (Hs : Good s) :
    Good (State.laceTake s n ws) := by
  unfold State.laceTake
  repeat' first | with_reducible assumption | with_reducible apply good_set | with_reducible apply good_laceEnd | with_reducible apply good_report | with_reducible apply good_setLace | dsimp only | with_reducible refine good_ite ?_ ?_ | split | intro _ | with_reducible apply good_mk

theorem good_laceDesc (s : State) (n : Nat) (e : Env) (Hs : Good s) :
    Good (State.laceDesc s n e) := by
  unfold State.laceDesc
  repeat' first | with_reducible assumption | with_reducible apply good_laceOver | with_reducible apply good_laceFail | with_reducible apply good_busRow | with_reducible apply good_bus_read | with_reducible apply good_laceTake | with_reducible apply BusOut.good_ok | with_reducible refine BusOut.good_of_ok ?_ (by with_reducible assumption) | with_reducible apply BusOut.good_err | with_reducible refine BusOut.good_of_err ?_ (by with_reducible assumption) | with_reducible apply BusOut.good_ref | with_reducible refine BusOut.good_of_ref ?_ (by with_reducible assumption) | with_reducible apply BusOut.good_wait | with_reducible refine BusOut.good_eq ?_ (by with_reducible assumption) | with_reducible apply Fin'.good_done | with_reducible refine Fin'.good_of_done ?_ (by with_reducible assumption) | with_reducible apply Fin'.good_wait | with_reducible refine Fin'.good_eq ?_ (by with_reducible assumption) | with_reducible refine good_p1 ?_ (by with_reducible assumption) | dsimp only | with_reducible refine good_ite ?_ ?_ | split | intro _ | with_reducible apply good_mk

theorem good_laceServed (s : State) (n : Nat) (Hs : Good s) :
    Good (State.laceServed s n) := by
  unfold State.laceServed
  repeat' first | with_reducible assumption | dsimp only | with_reducible refine good_ite ?_ ?_ | split | intro _ | with_reducible apply good_mk

theorem good_laceWrite (s : State) (n : Nat) (l : LaceS) (e : Env) (a : Nat) (be : Nat) (d : List Nat) (after : LaceS) (Hs : Good s) :
    Good (State.laceWrite s n l e a be d after) := by
  unfold State.laceWrite
  repeat' first | with_reducible assumption | with_reducible apply good_setLace | with_reducible apply good_busRow | with_reducible apply good_bus_write | with_reducible apply good_laceFail | with_reducible apply good_laceServed | with_reducible apply BusOut.good_ok | with_reducible refine BusOut.good_of_ok ?_ (by with_reducible assumption) | with_reducible apply BusOut.good_err | with_reducible refine BusOut.good_of_err ?_ (by with_reducible assumption) | with_reducible apply BusOut.good_ref | with_reducible refine BusOut.good_of_ref ?_ (by with_reducible assumption) | with_reducible apply BusOut.good_wait | with_reducible refine BusOut.good_eq ?_ (by with_reducible assumption) | with_reducible apply Fin'.good_done | with_reducible refine Fin'.good_of_done ?_ (by with_reducible assumption) | with_reducible apply Fin'.good_wait | with_reducible refine Fin'.good_eq ?_ (by with_reducible assumption) | with_reducible refine good_p1 ?_ (by with_reducible assumption) | dsimp only | with_reducible refine good_ite ?_ ?_ | split | intro _ | with_reducible apply good_mk

theorem good_laceWriteBeat (s : State) (n : Nat) (e : Env) (Hs : Good s) :
    Good (State.laceWriteBeat s n e) := by
  unfold State.laceWriteBeat
  repeat' first | with_reducible assumption | with_reducible apply good_laceWrite | with_reducible apply good_laceFail | with_reducible apply good_setLace | with_reducible apply good_laceServed | with_reducible refine good_p1 ?_ (by with_reducible assumption) | dsimp only | with_reducible refine good_ite ?_ ?_ | split | intro _ | with_reducible apply good_mk

theorem good_laceBeat (s : State) (w : Bool) (e : Env) (Hs : Good s) :
    Good (State.laceBeat s w e) := by
  unfold State.laceBeat
  repeat' first | with_reducible assumption | with_reducible apply good_laceWriteBeat | with_reducible apply good_laceFail | with_reducible apply good_setLace | with_reducible apply good_laceServed | with_reducible refine good_p1 ?_ (by with_reducible assumption) | dsimp only | with_reducible refine good_ite ?_ ?_ | split | intro _ | with_reducible apply good_mk

theorem good_laceAnswer (s : State) (n : Nat) (e : Env) (Hs : Good s) :
    Good (State.laceAnswer s n e) := by
  unfold State.laceAnswer
  repeat' first | with_reducible assumption | with_reducible apply good_busRow | with_reducible apply good_bus_read | with_reducible apply good_laceFail | with_reducible apply good_setLace | with_reducible apply BusOut.good_ok | with_reducible refine BusOut.good_of_ok ?_ (by with_reducible assumption) | with_reducible apply BusOut.good_err | with_reducible refine BusOut.good_of_err ?_ (by with_reducible assumption) | with_reducible apply BusOut.good_ref | with_reducible refine BusOut.good_of_ref ?_ (by with_reducible assumption) | with_reducible apply BusOut.good_wait | with_reducible refine BusOut.good_eq ?_ (by with_reducible assumption) | with_reducible apply Fin'.good_done | with_reducible refine Fin'.good_of_done ?_ (by with_reducible assumption) | with_reducible apply Fin'.good_wait | with_reducible refine Fin'.good_eq ?_ (by with_reducible assumption) | with_reducible refine good_p1 ?_ (by with_reducible assumption) | dsimp only | with_reducible refine good_ite ?_ ?_ | split | intro _ | with_reducible apply good_mk

theorem good_laceDone (s : State) (n : Nat) (Hs : Good s) :
    Good (State.laceDone s n) := by
  unfold State.laceDone
  repeat' first | with_reducible assumption | with_reducible apply good_raise | with_reducible apply good_laceChain | with_reducible apply good_laceEnd | dsimp only | with_reducible refine good_ite ?_ ?_ | split | intro _ | with_reducible apply good_mk

theorem good_laceTimeout (s : State) (n : Nat) (Hs : Good s) :
    Good (State.laceTimeout s n) := by
  unfold State.laceTimeout
  repeat' first | with_reducible assumption | with_reducible apply good_laceEnd | with_reducible apply good_report | dsimp only | with_reducible refine good_ite ?_ ?_ | split | intro _ | with_reducible apply good_mk

theorem good_laceSettle (s : State) (Hs : Good s) :
    Good (State.laceSettle s) := by
  unfold State.laceSettle
  repeat' first | with_reducible assumption | with_reducible apply good_laceClear | with_reducible refine good_foldl ?_ ?_ | dsimp only | with_reducible refine good_ite ?_ ?_ | split | intro _ | with_reducible apply good_mk

/-! ## Skiver -/

theorem good_skiverFail (s : State) (err : Nat) (Hs : Good s) :
    Good (State.skiverFail s err) := by
  unfold State.skiverFail
  repeat' first | with_reducible assumption | with_reducible apply good_set | with_reducible apply good_skiverClear | with_reducible apply good_skiverEnd | dsimp only | with_reducible refine good_ite ?_ ?_ | split | intro _ | with_reducible apply good_mk

theorem good_skiverTake (s : State) (ws : List Nat) (Hs : Good s) :
    Good (State.skiverTake s ws) := by
  unfold State.skiverTake
  repeat' first | with_reducible assumption | with_reducible apply good_set | with_reducible apply good_skiverEnd | with_reducible apply good_report | with_reducible apply good_setSkiver | dsimp only | with_reducible refine good_ite ?_ ?_ | split | intro _ | with_reducible apply good_mk

theorem good_skiverRead (s : State) (e : Env) (Hs : Good s) :
    Good (State.skiverRead s e) := by
  unfold State.skiverRead
  repeat' first | with_reducible assumption | with_reducible apply good_set | with_reducible apply good_skiverClear | with_reducible apply good_report | with_reducible apply good_busRow | with_reducible apply good_bus_read | with_reducible apply good_skiverFail | with_reducible apply good_skiverTake | with_reducible apply BusOut.good_ok | with_reducible refine BusOut.good_of_ok ?_ (by with_reducible assumption) | with_reducible apply BusOut.good_err | with_reducible refine BusOut.good_of_err ?_ (by with_reducible assumption) | with_reducible apply BusOut.good_ref | with_reducible refine BusOut.good_of_ref ?_ (by with_reducible assumption) | with_reducible apply BusOut.good_wait | with_reducible refine BusOut.good_eq ?_ (by with_reducible assumption) | with_reducible apply Fin'.good_done | with_reducible refine Fin'.good_of_done ?_ (by with_reducible assumption) | with_reducible apply Fin'.good_wait | with_reducible refine Fin'.good_eq ?_ (by with_reducible assumption) | with_reducible refine good_p1 ?_ (by with_reducible assumption) | dsimp only | with_reducible refine good_ite ?_ ?_ | split | intro _ | with_reducible apply good_mk

theorem good_bus_skGranules (b : Bus) (g : Nat) (y0 : Nat) (Hb : Good b.s) :
    (Bus.skGranules b g y0).Good := by
  induction y0 generalizing b g with
  | zero =>
    unfold Bus.skGranules
    repeat' first | with_reducible assumption | with_reducible apply good_bus_read | with_reducible apply BusOut.good_ok | with_reducible refine BusOut.good_of_ok ?_ (by with_reducible assumption) | with_reducible apply BusOut.good_err | with_reducible refine BusOut.good_of_err ?_ (by with_reducible assumption) | with_reducible apply BusOut.good_ref | with_reducible refine BusOut.good_of_ref ?_ (by with_reducible assumption) | with_reducible apply BusOut.good_wait | with_reducible refine BusOut.good_eq ?_ (by with_reducible assumption) | with_reducible apply SkOut.good_ok | with_reducible refine SkOut.good_of_ok ?_ (by with_reducible assumption) | with_reducible apply SkOut.good_err | with_reducible refine SkOut.good_of_err ?_ (by with_reducible assumption) | with_reducible apply SkOut.good_wait | with_reducible refine SkOut.good_eq ?_ (by with_reducible assumption) | with_reducible refine good_p1 ?_ (by with_reducible assumption) | dsimp only | with_reducible refine good_ite ?_ ?_ | split | intro _ | with_reducible apply good_mk
  | succ n ih =>
    unfold Bus.skGranules
    repeat' first | with_reducible assumption | with_reducible apply ih | with_reducible apply good_bus_read | with_reducible apply BusOut.good_ok | with_reducible refine BusOut.good_of_ok ?_ (by with_reducible assumption) | with_reducible apply BusOut.good_err | with_reducible refine BusOut.good_of_err ?_ (by with_reducible assumption) | with_reducible apply BusOut.good_ref | with_reducible refine BusOut.good_of_ref ?_ (by with_reducible assumption) | with_reducible apply BusOut.good_wait | with_reducible refine BusOut.good_eq ?_ (by with_reducible assumption) | with_reducible apply SkOut.good_ok | with_reducible refine SkOut.good_of_ok ?_ (by with_reducible assumption) | with_reducible apply SkOut.good_err | with_reducible refine SkOut.good_of_err ?_ (by with_reducible assumption) | with_reducible apply SkOut.good_wait | with_reducible refine SkOut.good_eq ?_ (by with_reducible assumption) | with_reducible refine good_p1 ?_ (by with_reducible assumption) | dsimp only | with_reducible refine good_ite ?_ ?_ | split | intro _ | with_reducible apply good_mk

theorem good_bus_skRead (b : Bus) (lo : Nat) (hi : Nat) (Hb : Good b.s) :
    (Bus.skRead b lo hi).Good := by
  unfold Bus.skRead
  repeat' first | with_reducible assumption | with_reducible apply good_bus_skGranules | with_reducible apply SkOut.good_ok | with_reducible refine SkOut.good_of_ok ?_ (by with_reducible assumption) | with_reducible apply SkOut.good_err | with_reducible refine SkOut.good_of_err ?_ (by with_reducible assumption) | with_reducible apply SkOut.good_wait | with_reducible refine SkOut.good_eq ?_ (by with_reducible assumption) | with_reducible refine good_p1 ?_ (by with_reducible assumption) | dsimp only | with_reducible refine good_ite ?_ ?_ | split | intro _ | with_reducible apply good_mk

theorem good_bus_skPartial (b : Bus) (base : Nat) (mask : List (Nat × Nat)) (g : Nat) (y0 : Nat) (Hb : Good b.s) :
    (Bus.skPartial b base mask g y0).Good := by
  induction y0 generalizing b base mask g with
  | zero =>
    unfold Bus.skPartial
    repeat' first | with_reducible assumption | with_reducible apply good_bus_skGranules | with_reducible apply SkOut.good_ok | with_reducible refine SkOut.good_of_ok ?_ (by with_reducible assumption) | with_reducible apply SkOut.good_err | with_reducible refine SkOut.good_of_err ?_ (by with_reducible assumption) | with_reducible apply SkOut.good_wait | with_reducible refine SkOut.good_eq ?_ (by with_reducible assumption) | with_reducible refine good_p1 ?_ (by with_reducible assumption) | dsimp only | with_reducible refine good_ite ?_ ?_ | split | intro _ | with_reducible apply good_mk
  | succ n ih =>
    unfold Bus.skPartial
    repeat' first | with_reducible assumption | with_reducible apply ih | with_reducible apply good_bus_skGranules | with_reducible apply SkOut.good_ok | with_reducible refine SkOut.good_of_ok ?_ (by with_reducible assumption) | with_reducible apply SkOut.good_err | with_reducible refine SkOut.good_of_err ?_ (by with_reducible assumption) | with_reducible apply SkOut.good_wait | with_reducible refine SkOut.good_eq ?_ (by with_reducible assumption) | with_reducible refine good_p1 ?_ (by with_reducible assumption) | dsimp only | with_reducible refine good_ite ?_ ?_ | split | intro _ | with_reducible apply good_mk

theorem good_bus_skOld (b : Bus) (k : SkivS) (row : Nat) (lo : Nat) (hi : Nat) (src : List Nat) (Hb : Good b.s) :
    (Bus.skOld b k row lo hi src).Good := by
  unfold Bus.skOld
  repeat' first | with_reducible assumption | with_reducible apply good_bus_skRead | with_reducible apply good_bus_skPartial | with_reducible apply good_rowOut | with_reducible apply SkOut.good_ok | with_reducible refine SkOut.good_of_ok ?_ (by with_reducible assumption) | with_reducible apply SkOut.good_err | with_reducible refine SkOut.good_of_err ?_ (by with_reducible assumption) | with_reducible apply SkOut.good_wait | with_reducible refine SkOut.good_eq ?_ (by with_reducible assumption) | with_reducible refine good_p1 ?_ (by with_reducible assumption) | dsimp only | with_reducible refine good_ite ?_ ?_ | split | intro _ | with_reducible apply good_mk

theorem good_bus_skBeats (b : Bus) (row : Nat) (b0 : Nat) (out : List (Nat × Nat) × List (Nat × Nat)) (old : List Nat) (g : Nat) (y0 : Nat) (Hb : Good b.s) :
    (Bus.skBeats b row b0 out old g y0).Good := by
  induction y0 generalizing b row b0 out old g with
  | zero =>
    unfold Bus.skBeats
    repeat' first | with_reducible assumption | with_reducible apply good_bus_write | with_reducible apply BusOut.good_ok | with_reducible refine BusOut.good_of_ok ?_ (by with_reducible assumption) | with_reducible apply BusOut.good_err | with_reducible refine BusOut.good_of_err ?_ (by with_reducible assumption) | with_reducible apply BusOut.good_ref | with_reducible refine BusOut.good_of_ref ?_ (by with_reducible assumption) | with_reducible apply BusOut.good_wait | with_reducible refine BusOut.good_eq ?_ (by with_reducible assumption) | with_reducible apply SkOut.good_ok | with_reducible refine SkOut.good_of_ok ?_ (by with_reducible assumption) | with_reducible apply SkOut.good_err | with_reducible refine SkOut.good_of_err ?_ (by with_reducible assumption) | with_reducible apply SkOut.good_wait | with_reducible refine SkOut.good_eq ?_ (by with_reducible assumption) | with_reducible refine good_p1 ?_ (by with_reducible assumption) | with_reducible refine good_foldl_p1 ?_ ?_ | with_reducible refine good_foldl ?_ ?_ | dsimp only | with_reducible refine good_ite ?_ ?_ | split | intro _ | with_reducible apply good_mk
  | succ n ih =>
    unfold Bus.skBeats
    repeat' first | with_reducible assumption | with_reducible apply ih | with_reducible apply good_bus_write | with_reducible apply BusOut.good_ok | with_reducible refine BusOut.good_of_ok ?_ (by with_reducible assumption) | with_reducible apply BusOut.good_err | with_reducible refine BusOut.good_of_err ?_ (by with_reducible assumption) | with_reducible apply BusOut.good_ref | with_reducible refine BusOut.good_of_ref ?_ (by with_reducible assumption) | with_reducible apply BusOut.good_wait | with_reducible refine BusOut.good_eq ?_ (by with_reducible assumption) | with_reducible apply SkOut.good_ok | with_reducible refine SkOut.good_of_ok ?_ (by with_reducible assumption) | with_reducible apply SkOut.good_err | with_reducible refine SkOut.good_of_err ?_ (by with_reducible assumption) | with_reducible apply SkOut.good_wait | with_reducible refine SkOut.good_eq ?_ (by with_reducible assumption) | with_reducible refine good_p1 ?_ (by with_reducible assumption) | with_reducible refine good_foldl_p1 ?_ ?_ | with_reducible refine good_foldl ?_ ?_ | dsimp only | with_reducible refine good_ite ?_ ?_ | split | intro _ | with_reducible apply good_mk

theorem good_bus_skRow (b : Bus) (k : SkivS) (y : Nat) (Hb : Good b.s) :
    (Bus.skRow b k y).Good := by
  unfold Bus.skRow
  repeat' first | with_reducible assumption | with_reducible apply good_bus_skRead | with_reducible apply good_bus_skOld | with_reducible apply good_bus_skBeats | with_reducible apply good_rowOut | with_reducible apply SkOut.good_ok | with_reducible refine SkOut.good_of_ok ?_ (by with_reducible assumption) | with_reducible apply SkOut.good_err | with_reducible refine SkOut.good_of_err ?_ (by with_reducible assumption) | with_reducible apply SkOut.good_wait | with_reducible refine SkOut.good_eq ?_ (by with_reducible assumption) | with_reducible refine good_p1 ?_ (by with_reducible assumption) | dsimp only | with_reducible refine good_ite ?_ ?_ | split | intro _ | with_reducible apply good_mk

theorem good_skRowDone (s : State) (k : SkivS) (y : Nat) (Hs : Good s) :
    Good (State.skRowDone s k y) := by
  unfold State.skRowDone
  repeat' first | with_reducible assumption | with_reducible apply good_set | dsimp only | with_reducible refine good_ite ?_ ?_ | split | intro _ | with_reducible apply good_mk

theorem good_bus_skRows (b : Bus) (k : SkivS) (y0 : List Nat) (Hb : Good b.s) :
    (Bus.skRows b k y0).Good := by
  induction y0 generalizing b k with
  | nil =>
    unfold Bus.skRows
    repeat' first | with_reducible assumption | with_reducible apply good_bus_skRow | with_reducible apply good_skRowDone | with_reducible apply SkOut.good_ok | with_reducible refine SkOut.good_of_ok ?_ (by with_reducible assumption) | with_reducible apply SkOut.good_err | with_reducible refine SkOut.good_of_err ?_ (by with_reducible assumption) | with_reducible apply SkOut.good_wait | with_reducible refine SkOut.good_eq ?_ (by with_reducible assumption) | with_reducible refine good_p1 ?_ (by with_reducible assumption) | dsimp only | with_reducible refine good_ite ?_ ?_ | split | intro _ | with_reducible apply good_mk
  | cons x t ih =>
    unfold Bus.skRows
    repeat' first | with_reducible assumption | with_reducible apply ih | with_reducible apply good_bus_skRow | with_reducible apply good_skRowDone | with_reducible apply SkOut.good_ok | with_reducible refine SkOut.good_of_ok ?_ (by with_reducible assumption) | with_reducible apply SkOut.good_err | with_reducible refine SkOut.good_of_err ?_ (by with_reducible assumption) | with_reducible apply SkOut.good_wait | with_reducible refine SkOut.good_eq ?_ (by with_reducible assumption) | with_reducible refine good_p1 ?_ (by with_reducible assumption) | dsimp only | with_reducible refine good_ite ?_ ?_ | split | intro _ | with_reducible apply good_mk

theorem good_skiverDone (s : State) (Hs : Good s) :
    Good (State.skiverDone s) := by
  unfold State.skiverDone
  repeat' first | with_reducible assumption | with_reducible apply good_setSkiver | dsimp only | with_reducible refine good_ite ?_ ?_ | split | intro _ | with_reducible apply good_mk

theorem good_skiverIssue (s : State) (Hs : Good s) :
    Good (State.skiverIssue s) := by
  unfold State.skiverIssue
  repeat' first | with_reducible assumption | with_reducible apply good_setSkiver | with_reducible refine good_p1 ?_ (by with_reducible assumption) | dsimp only | with_reducible refine good_ite ?_ ?_ | split | intro _ | with_reducible apply good_mk

theorem good_skRect (s : State) (op : Nat) (e : Env) (Hs : Good s) :
    Good (State.skRect s op e) := by
  unfold State.skRect
  repeat' first | with_reducible assumption | with_reducible apply good_skiverEnd | with_reducible apply good_report | with_reducible apply good_skiverIssue | with_reducible apply good_busRow | with_reducible apply good_bus_skRows | with_reducible apply good_skiverFail | with_reducible apply good_skiverDone | with_reducible apply Fin'.good_done | with_reducible refine Fin'.good_of_done ?_ (by with_reducible assumption) | with_reducible apply Fin'.good_wait | with_reducible refine Fin'.good_eq ?_ (by with_reducible assumption) | with_reducible apply SkOut.good_ok | with_reducible refine SkOut.good_of_ok ?_ (by with_reducible assumption) | with_reducible apply SkOut.good_err | with_reducible refine SkOut.good_of_err ?_ (by with_reducible assumption) | with_reducible apply SkOut.good_wait | with_reducible refine SkOut.good_eq ?_ (by with_reducible assumption) | with_reducible refine good_p1 ?_ (by with_reducible assumption) | dsimp only | with_reducible refine good_ite ?_ ?_ | split | intro _ | with_reducible apply good_mk

theorem good_skiverIrq (s : State) (Hs : Good s) :
    Good (State.skiverIrq s) := by
  unfold State.skiverIrq
  repeat' first | with_reducible assumption | with_reducible apply good_set | with_reducible apply good_raise | dsimp only | with_reducible refine good_ite ?_ ?_ | split | intro _ | with_reducible apply good_mk

theorem good_skEnd (s : State) (Hs : Good s) :
    Good (State.skEnd s) := by
  unfold State.skEnd
  repeat' first | with_reducible assumption | with_reducible apply good_skiverIrq | with_reducible apply good_skiverEnd | dsimp only | with_reducible refine good_ite ?_ ?_ | split | intro _ | with_reducible apply good_mk

theorem good_skJump (s : State) (Hs : Good s) :
    Good (State.skJump s) := by
  unfold State.skJump
  repeat' first | with_reducible assumption | with_reducible apply good_skiverDone | dsimp only | with_reducible refine good_ite ?_ ?_ | split | intro _ | with_reducible apply good_mk

theorem good_skHeadstop (s : State) (Hs : Good s) :
    Good (State.skHeadstop s) := by
  unfold State.skHeadstop
  repeat' first | with_reducible assumption | with_reducible apply good_skiverEnd | with_reducible apply good_report | dsimp only | with_reducible refine good_ite ?_ ?_ | split | intro _ | with_reducible apply good_mk

theorem good_skWait (s : State) (Hs : Good s) :
    Good (State.skWait s) := by
  unfold State.skWait
  repeat' first | with_reducible assumption | with_reducible apply good_skHeadstop | with_reducible apply good_set | dsimp only | with_reducible refine good_ite ?_ ?_ | split | intro _ | with_reducible apply good_mk

theorem good_skWaitEnd (s : State) (Hs : Good s) :
    Good (State.skWaitEnd s) := by
  unfold State.skWaitEnd
  repeat' first | with_reducible assumption | with_reducible apply good_skHeadstop | with_reducible apply good_set | with_reducible apply good_skiverDone | dsimp only | with_reducible refine good_ite ?_ ?_ | split | intro _ | with_reducible apply good_mk

theorem good_skiverNext (s : State) (Hs : Good s) :
    Good (State.skiverNext s) := by
  unfold State.skiverNext
  repeat' first | with_reducible assumption | with_reducible apply good_skiverIrq | with_reducible apply good_skiverChain | dsimp only | with_reducible refine good_ite ?_ ?_ | split | intro _ | with_reducible apply good_mk

theorem good_skiverTimeout (s : State) (Hs : Good s) :
    Good (State.skiverTimeout s) := by
  unfold State.skiverTimeout
  repeat' first | with_reducible assumption | with_reducible apply good_skiverEnd | with_reducible apply good_report | dsimp only | with_reducible refine good_ite ?_ ?_ | split | intro _ | with_reducible apply good_mk

theorem good_skiverSettle (s : State) (Hs : Good s) :
    Good (State.skiverSettle s) := by
  unfold State.skiverSettle
  repeat' first | with_reducible assumption | with_reducible apply good_skHeadstop | with_reducible apply good_skiverClear | dsimp only | with_reducible refine good_ite ?_ ?_ | split | intro _ | with_reducible apply good_mk

/-! ## Tongue -/

theorem good_ringError (s : State) (src : Src) (Hs : Good s) :
    Good (State.ringError s src) := by
  unfold State.ringError
  repeat' first | with_reducible assumption | with_reducible apply good_setRegN | with_reducible apply good_endSession | with_reducible apply good_report | with_reducible refine good_p1 ?_ (by with_reducible assumption) | dsimp only | with_reducible refine good_ite ?_ ?_ | split | intro _ | with_reducible apply good_mk

theorem good_bus_ringWords (b : Bus) (base : Nat) (i : Nat) (y0 : Nat) (Hb : Good b.s) :
    (Bus.ringWords b base i y0).Good := by
  induction y0 generalizing b base i with
  | zero =>
    unfold Bus.ringWords
    repeat' first | with_reducible assumption | with_reducible apply good_bus_read | with_reducible apply BusOut.good_ok | with_reducible refine BusOut.good_of_ok ?_ (by with_reducible assumption) | with_reducible apply BusOut.good_err | with_reducible refine BusOut.good_of_err ?_ (by with_reducible assumption) | with_reducible apply BusOut.good_ref | with_reducible refine BusOut.good_of_ref ?_ (by with_reducible assumption) | with_reducible apply BusOut.good_wait | with_reducible refine BusOut.good_eq ?_ (by with_reducible assumption) | with_reducible apply RunOut.good_ok | with_reducible refine RunOut.good_of_ok ?_ (by with_reducible assumption) | with_reducible apply RunOut.good_wait | with_reducible refine RunOut.good_eq ?_ (by with_reducible assumption) | with_reducible refine good_p1 ?_ (by with_reducible assumption) | dsimp only | with_reducible refine good_ite ?_ ?_ | split | intro _ | with_reducible apply good_mk
  | succ n ih =>
    unfold Bus.ringWords
    repeat' first | with_reducible assumption | with_reducible apply ih | with_reducible apply good_bus_read | with_reducible apply BusOut.good_ok | with_reducible refine BusOut.good_of_ok ?_ (by with_reducible assumption) | with_reducible apply BusOut.good_err | with_reducible refine BusOut.good_of_err ?_ (by with_reducible assumption) | with_reducible apply BusOut.good_ref | with_reducible refine BusOut.good_of_ref ?_ (by with_reducible assumption) | with_reducible apply BusOut.good_wait | with_reducible refine BusOut.good_eq ?_ (by with_reducible assumption) | with_reducible apply RunOut.good_ok | with_reducible refine RunOut.good_of_ok ?_ (by with_reducible assumption) | with_reducible apply RunOut.good_wait | with_reducible refine RunOut.good_eq ?_ (by with_reducible assumption) | with_reducible refine good_p1 ?_ (by with_reducible assumption) | dsimp only | with_reducible refine good_ite ?_ ?_ | split | intro _ | with_reducible apply good_mk

theorem good_ringTake (s : State) (c : Nat) (n : Nat) (Hs : Good s) :
    Good (State.ringTake s c n) := by
  unfold State.ringTake
  repeat' first | with_reducible assumption | with_reducible apply good_setRegN | dsimp only | with_reducible refine good_ite ?_ ?_ | split | intro _ | with_reducible apply good_mk

theorem good_bus_takeRing (b : Bus) (src : Src) (n : Nat) (f : List Nat → Bool) (Hb : Good b.s) :
    (Bus.takeRing b src n f).Good := by
  unfold Bus.takeRing
  repeat' first | with_reducible assumption | with_reducible apply good_bus_ringWords | with_reducible apply good_ringTake | with_reducible apply RunOut.good_ok | with_reducible refine RunOut.good_of_ok ?_ (by with_reducible assumption) | with_reducible apply RunOut.good_wait | with_reducible refine RunOut.good_eq ?_ (by with_reducible assumption) | with_reducible apply TakeOut.good_took | with_reducible refine TakeOut.good_of_took ?_ (by with_reducible assumption) | with_reducible apply TakeOut.good_none | with_reducible apply TakeOut.good_err | with_reducible refine TakeOut.good_of_err ?_ (by with_reducible assumption) | with_reducible apply TakeOut.good_wait | with_reducible refine TakeOut.good_eq ?_ (by with_reducible assumption) | with_reducible refine good_p1 ?_ (by with_reducible assumption) | dsimp only | with_reducible refine good_ite ?_ ?_ | split | intro _ | with_reducible apply good_mk

theorem good_inboxTake (s : State) (x : Nat × Nat × List Nat) (Hs : Good s) :
    Good (State.inboxTake s x) := by
  unfold State.inboxTake
  repeat' first | with_reducible assumption | with_reducible apply good_bus_tongue | with_reducible apply Fin'.good_done | with_reducible refine Fin'.good_of_done ?_ (by with_reducible assumption) | with_reducible apply Fin'.good_wait | with_reducible refine Fin'.good_eq ?_ (by with_reducible assumption) | dsimp only | with_reducible refine good_ite ?_ ?_ | split | intro _ | with_reducible apply good_mk

theorem good_serialSwap (s : State) (y0 : Nat) (y1 : Nat) (y2 : List Nat) (Hs : Good s) :
    Good (State.serialSwap s y0 y1 y2) := by
  induction y0 generalizing s y1 y2 with
  | zero =>
    unfold State.serialSwap
    repeat' first | with_reducible assumption | with_reducible apply good_bus_tongue | with_reducible apply Fin'.good_done | with_reducible refine Fin'.good_of_done ?_ (by with_reducible assumption) | with_reducible apply Fin'.good_wait | with_reducible refine Fin'.good_eq ?_ (by with_reducible assumption) | with_reducible refine good_p1 ?_ (by with_reducible assumption) | dsimp only | with_reducible refine good_ite ?_ ?_ | split | intro _ | with_reducible apply good_mk
  | succ n ih =>
    unfold State.serialSwap
    repeat' first | with_reducible assumption | with_reducible apply ih | with_reducible apply good_bus_tongue | with_reducible apply Fin'.good_done | with_reducible refine Fin'.good_of_done ?_ (by with_reducible assumption) | with_reducible apply Fin'.good_wait | with_reducible refine Fin'.good_eq ?_ (by with_reducible assumption) | with_reducible refine good_p1 ?_ (by with_reducible assumption) | dsimp only | with_reducible refine good_ite ?_ ?_ | split | intro _ | with_reducible apply good_mk

theorem good_serialWord (s : State) (w : Nat) (Hs : Good s) :
    Good (State.serialWord s w) := by
  unfold State.serialWord
  repeat' first | with_reducible assumption | with_reducible apply good_bus_tongue | with_reducible apply good_set | with_reducible apply Fin'.good_done | with_reducible refine Fin'.good_of_done ?_ (by with_reducible assumption) | with_reducible apply Fin'.good_wait | with_reducible refine Fin'.good_eq ?_ (by with_reducible assumption) | dsimp only | with_reducible refine good_ite ?_ ?_ | split | intro _ | with_reducible apply good_mk

theorem good_serialClock (s : State) (ws : List Nat) (Hs : Good s) :
    Good (State.serialClock s ws) := by
  unfold State.serialClock
  repeat' first | with_reducible assumption | with_reducible apply good_serialWord | with_reducible apply good_serialSwap | with_reducible refine good_foldl ?_ ?_ | dsimp only | with_reducible refine good_ite ?_ ?_ | split | intro _ | with_reducible apply good_mk

theorem good_serialArrive (s : State) (src : Src) (op : Nat) (p : Packet) (Hs : Good s) :
    Good (State.serialArrive s src op p) := by
  unfold State.serialArrive
  repeat' first | with_reducible assumption | with_reducible apply good_serialClock | dsimp only | with_reducible refine good_ite ?_ ?_ | split | intro _ | with_reducible apply good_mk

theorem good_bus_takePacket (b : Bus) (src : Src) (op : Nat) (p : Packet) (Hb : Good b.s) :
    (Bus.takePacket b src op p).Good := by
  unfold Bus.takePacket
  repeat' first | with_reducible assumption | with_reducible apply good_bus_tongue | with_reducible apply good_inboxTake | with_reducible apply good_bus_takeRing | with_reducible apply good_bump | with_reducible apply Fin'.good_done | with_reducible refine Fin'.good_of_done ?_ (by with_reducible assumption) | with_reducible apply Fin'.good_wait | with_reducible refine Fin'.good_eq ?_ (by with_reducible assumption) | with_reducible apply TakeOut.good_took | with_reducible refine TakeOut.good_of_took ?_ (by with_reducible assumption) | with_reducible apply TakeOut.good_none | with_reducible apply TakeOut.good_err | with_reducible refine TakeOut.good_of_err ?_ (by with_reducible assumption) | with_reducible apply TakeOut.good_wait | with_reducible refine TakeOut.good_eq ?_ (by with_reducible assumption) | with_reducible refine good_p1 ?_ (by with_reducible assumption) | dsimp only | with_reducible refine good_ite ?_ ?_ | split | intro _ | with_reducible apply good_mk

theorem good_forward (s : State) (r : Req) (o : Nat) (op : Nat) (p : Packet) (Hs : Good s) :
    Good (State.forward s r o op p) := by
  unfold State.forward
  repeat' first | with_reducible assumption | with_reducible apply good_answer | with_reducible apply good_weltOn | with_reducible apply good_bus_tongue | with_reducible apply Fin'.good_done | with_reducible refine Fin'.good_of_done ?_ (by with_reducible assumption) | with_reducible apply Fin'.good_wait | with_reducible refine Fin'.good_eq ?_ (by with_reducible assumption) | with_reducible refine good_p1 ?_ (by with_reducible assumption) | dsimp only | with_reducible refine good_ite ?_ ?_ | split | intro _ | with_reducible apply good_mk

theorem good_bus_tongue (b : Bus) (r : Req) (op : Nat) (p : Packet) (body : Bus → Req → Nat → Fin') (Hb : Good b.s) (Hbody : ∀ b r o, Good b.s → (body b r o).Good) :
    (Bus.tongue b r op p body).Good := by
  unfold Bus.tongue
  repeat' first | with_reducible assumption | with_reducible apply Hbody | with_reducible apply good_answer | with_reducible apply good_forward | with_reducible apply Fin'.good_done | with_reducible refine Fin'.good_of_done ?_ (by with_reducible assumption) | with_reducible apply Fin'.good_wait | with_reducible refine Fin'.good_eq ?_ (by with_reducible assumption) | dsimp only | with_reducible refine good_ite ?_ ?_ | split | intro _ | with_reducible apply good_mk

theorem good_markFirst (s : State) (src : Src) (n : Nat) (Hs : Good s) :
    Good (State.markFirst s src n) := by
  unfold State.markFirst
  repeat' first | with_reducible assumption | with_reducible apply good_bus_tongue | with_reducible apply Fin'.good_done | with_reducible refine Fin'.good_of_done ?_ (by with_reducible assumption) | with_reducible apply Fin'.good_wait | with_reducible refine Fin'.good_eq ?_ (by with_reducible assumption) | with_reducible refine good_p1 ?_ (by with_reducible assumption) | dsimp only | with_reducible refine good_ite ?_ ?_ | split | intro _ | with_reducible apply good_mk

theorem good_setRunning (s : State) (r : Option Running) (Hs : Good s) :
    Good (State.setRunning s r) := by
  unfold State.setRunning
  repeat' first | with_reducible assumption | with_reducible apply good_bus_tongue | with_reducible apply Fin'.good_done | with_reducible refine Fin'.good_of_done ?_ (by with_reducible assumption) | with_reducible apply Fin'.good_wait | with_reducible refine Fin'.good_eq ?_ (by with_reducible assumption) | dsimp only | with_reducible refine good_ite ?_ ?_ | split | intro _ | with_reducible apply good_mk

theorem good_bus_runPacket (b : Bus) (x : Running) (body : Bus → Req → Nat → Fin') (Hb : Good b.s) (Hbody : ∀ b r o, Good b.s → (body b r o).Good) :
    Good (Bus.runPacket b x body) := by
  unfold Bus.runPacket
  repeat' first | with_reducible assumption | with_reducible apply Hbody | with_reducible apply good_bus_finish | with_reducible apply good_bus_tongue | with_reducible apply good_setRunning | with_reducible apply good_markFirst | with_reducible apply Fin'.good_done | with_reducible refine Fin'.good_of_done ?_ (by with_reducible assumption) | with_reducible apply Fin'.good_wait | with_reducible refine Fin'.good_eq ?_ (by with_reducible assumption) | with_reducible refine good_p1 ?_ (by with_reducible assumption) | dsimp only | with_reducible refine good_ite ?_ ?_ | split | intro _ | with_reducible apply good_mk

theorem good_tongueRow (s : State) (src : Src) (op : Nat) (p : Packet) (e : Env) (form : Bool) (body : Bus → Req → Nat → Fin')
    (hs : Good s) (hbody : ∀ b r o, Good b.s → (body b r o).Good) : Good (s.tongueRow src op p e form body) := by
  unfold State.tongueRow
  split
  · exact good_ite (good_bus_runPacket (s.busOf e) _ body hs hbody) hs
  · refine good_ite hs ?_
    extract_lets s1
    have h1 : Good s1 := good_serialArrive s src op p hs
    clear_value s1
    refine good_ite h1 ?_
    have h2 := good_bus_takePacket (s1.busOf e) src op p h1
    split
    · exact h1
    · exact h1
    · exact good_meetNeed _ _ h1
    · rename_i h3; exact good_dropBus _ _ (good_ringError _ _ (TakeOut.good_of_err h2 h3))
    · rename_i b h3
      have h4 := TakeOut.good_of_took h2 h3
      exact good_bus_runPacket _ _ body (good_setRunning _ _ (good_dropBus _ _ h4)) hbody

theorem good_plainBody (f : State → Req → Nat → State) (b : Bus) (y1 : Req) (y2 : Nat) (Hf : ∀ a r o, Good a → Good (f a r o)) (Hb : Good b.s) :
    (plainBody f b y1 y2).Good := by
  unfold plainBody
  repeat' first | with_reducible assumption | with_reducible apply Hf | with_reducible apply Fin'.good_done | with_reducible refine Fin'.good_of_done ?_ (by with_reducible assumption) | with_reducible apply Fin'.good_wait | with_reducible refine Fin'.good_eq ?_ (by with_reducible assumption) | dsimp only | with_reducible refine good_ite ?_ ?_ | split | intro _ | with_reducible apply good_mk

theorem good_bus_cmdRead (b : Bus) (r : Req) (o : Nat) (addr : Nat → Nat) (i : Nat) (acc : List Nat) (y0 : Nat) (Hb : Good b.s) :
    (Bus.cmdRead b r o addr i acc y0).Good := by
  induction y0 generalizing b r o i acc with
  | zero =>
    unfold Bus.cmdRead
    repeat' first | with_reducible assumption | with_reducible apply good_answer | with_reducible apply good_bus_readW | with_reducible apply BusOut.good_ok | with_reducible refine BusOut.good_of_ok ?_ (by with_reducible assumption) | with_reducible apply BusOut.good_err | with_reducible refine BusOut.good_of_err ?_ (by with_reducible assumption) | with_reducible apply BusOut.good_ref | with_reducible refine BusOut.good_of_ref ?_ (by with_reducible assumption) | with_reducible apply BusOut.good_wait | with_reducible refine BusOut.good_eq ?_ (by with_reducible assumption) | with_reducible apply Fin'.good_done | with_reducible refine Fin'.good_of_done ?_ (by with_reducible assumption) | with_reducible apply Fin'.good_wait | with_reducible refine Fin'.good_eq ?_ (by with_reducible assumption) | with_reducible refine good_p1 ?_ (by with_reducible assumption) | dsimp only | with_reducible refine good_ite ?_ ?_ | split | intro _ | with_reducible apply good_mk
  | succ n ih =>
    unfold Bus.cmdRead
    repeat' first | with_reducible assumption | with_reducible apply ih | with_reducible apply good_answer | with_reducible apply good_bus_readW | with_reducible apply BusOut.good_ok | with_reducible refine BusOut.good_of_ok ?_ (by with_reducible assumption) | with_reducible apply BusOut.good_err | with_reducible refine BusOut.good_of_err ?_ (by with_reducible assumption) | with_reducible apply BusOut.good_ref | with_reducible refine BusOut.good_of_ref ?_ (by with_reducible assumption) | with_reducible apply BusOut.good_wait | with_reducible refine BusOut.good_eq ?_ (by with_reducible assumption) | with_reducible apply Fin'.good_done | with_reducible refine Fin'.good_of_done ?_ (by with_reducible assumption) | with_reducible apply Fin'.good_wait | with_reducible refine Fin'.good_eq ?_ (by with_reducible assumption) | with_reducible refine good_p1 ?_ (by with_reducible assumption) | dsimp only | with_reducible refine good_ite ?_ ?_ | split | intro _ | with_reducible apply good_mk

theorem good_bus_cmdWrite (b : Bus) (r : Req) (o : Nat) (addr : Nat → Nat) (i : Nat) (y0 : List Nat) (Hb : Good b.s) :
    (Bus.cmdWrite b r o addr i y0).Good := by
  induction y0 generalizing b r o i with
  | nil =>
    unfold Bus.cmdWrite
    repeat' first | with_reducible assumption | with_reducible apply good_answer | with_reducible apply good_bus_writeW | with_reducible apply BusOut.good_ok | with_reducible refine BusOut.good_of_ok ?_ (by with_reducible assumption) | with_reducible apply BusOut.good_err | with_reducible refine BusOut.good_of_err ?_ (by with_reducible assumption) | with_reducible apply BusOut.good_ref | with_reducible refine BusOut.good_of_ref ?_ (by with_reducible assumption) | with_reducible apply BusOut.good_wait | with_reducible refine BusOut.good_eq ?_ (by with_reducible assumption) | with_reducible apply Fin'.good_done | with_reducible refine Fin'.good_of_done ?_ (by with_reducible assumption) | with_reducible apply Fin'.good_wait | with_reducible refine Fin'.good_eq ?_ (by with_reducible assumption) | with_reducible refine good_p1 ?_ (by with_reducible assumption) | dsimp only | with_reducible refine good_ite ?_ ?_ | split | intro _ | with_reducible apply good_mk
  | cons x t ih =>
    unfold Bus.cmdWrite
    repeat' first | with_reducible assumption | with_reducible apply ih | with_reducible apply good_answer | with_reducible apply good_bus_writeW | with_reducible apply BusOut.good_ok | with_reducible refine BusOut.good_of_ok ?_ (by with_reducible assumption) | with_reducible apply BusOut.good_err | with_reducible refine BusOut.good_of_err ?_ (by with_reducible assumption) | with_reducible apply BusOut.good_ref | with_reducible refine BusOut.good_of_ref ?_ (by with_reducible assumption) | with_reducible apply BusOut.good_wait | with_reducible refine BusOut.good_eq ?_ (by with_reducible assumption) | with_reducible apply Fin'.good_done | with_reducible refine Fin'.good_of_done ?_ (by with_reducible assumption) | with_reducible apply Fin'.good_wait | with_reducible refine Fin'.good_eq ?_ (by with_reducible assumption) | with_reducible refine good_p1 ?_ (by with_reducible assumption) | dsimp only | with_reducible refine good_ite ?_ ?_ | split | intro _ | with_reducible apply good_mk

theorem good_regReadBody (p : Packet) (b : Bus) (y1 : Req) (y2 : Nat) (Hb : Good b.s) :
    (regReadBody p b y1 y2).Good := by
  unfold regReadBody
  repeat' first | with_reducible assumption | with_reducible apply good_bus_cmdRead | with_reducible apply Fin'.good_done | with_reducible refine Fin'.good_of_done ?_ (by with_reducible assumption) | with_reducible apply Fin'.good_wait | with_reducible refine Fin'.good_eq ?_ (by with_reducible assumption) | dsimp only | with_reducible refine good_ite ?_ ?_ | split | intro _ | with_reducible apply good_mk

theorem good_regWriteBody (p : Packet) (b : Bus) (y1 : Req) (y2 : Nat) (Hb : Good b.s) :
    (regWriteBody p b y1 y2).Good := by
  unfold regWriteBody
  repeat' first | with_reducible assumption | with_reducible apply good_bus_cmdWrite | with_reducible apply Fin'.good_done | with_reducible refine Fin'.good_of_done ?_ (by with_reducible assumption) | with_reducible apply Fin'.good_wait | with_reducible refine Fin'.good_eq ?_ (by with_reducible assumption) | dsimp only | with_reducible refine good_ite ?_ ?_ | split | intro _ | with_reducible apply good_mk

theorem good_burstReadBody (p : Packet) (b : Bus) (y1 : Req) (y2 : Nat) (Hb : Good b.s) :
    (burstReadBody p b y1 y2).Good := by
  unfold burstReadBody
  repeat' first | with_reducible assumption | with_reducible apply good_answer | with_reducible apply good_bus_cmdRead | with_reducible apply Fin'.good_done | with_reducible refine Fin'.good_of_done ?_ (by with_reducible assumption) | with_reducible apply Fin'.good_wait | with_reducible refine Fin'.good_eq ?_ (by with_reducible assumption) | dsimp only | with_reducible refine good_ite ?_ ?_ | split | intro _ | with_reducible apply good_mk

theorem good_burstWriteBody (p : Packet) (b : Bus) (y1 : Req) (y2 : Nat) (Hb : Good b.s) :
    (burstWriteBody p b y1 y2).Good := by
  unfold burstWriteBody
  repeat' first | with_reducible assumption | with_reducible apply good_bus_cmdWrite | with_reducible apply Fin'.good_done | with_reducible refine Fin'.good_of_done ?_ (by with_reducible assumption) | with_reducible apply Fin'.good_wait | with_reducible refine Fin'.good_eq ?_ (by with_reducible assumption) | dsimp only | with_reducible refine good_ite ?_ ?_ | split | intro _ | with_reducible apply good_mk

theorem good_regModifyBody (p : Packet) (b : Bus) (y1 : Req) (y2 : Nat) (Hb : Good b.s) :
    (regModifyBody p b y1 y2).Good := by
  unfold regModifyBody
  repeat' first | with_reducible assumption | with_reducible apply good_answer | with_reducible apply good_captureRefusal | with_reducible apply good_bus_readW | with_reducible apply good_bus_writeW | with_reducible apply BusOut.good_ok | with_reducible refine BusOut.good_of_ok ?_ (by with_reducible assumption) | with_reducible apply BusOut.good_err | with_reducible refine BusOut.good_of_err ?_ (by with_reducible assumption) | with_reducible apply BusOut.good_ref | with_reducible refine BusOut.good_of_ref ?_ (by with_reducible assumption) | with_reducible apply BusOut.good_wait | with_reducible refine BusOut.good_eq ?_ (by with_reducible assumption) | with_reducible apply Fin'.good_done | with_reducible refine Fin'.good_of_done ?_ (by with_reducible assumption) | with_reducible apply Fin'.good_wait | with_reducible refine Fin'.good_eq ?_ (by with_reducible assumption) | with_reducible refine good_p1 ?_ (by with_reducible assumption) | dsimp only | with_reducible refine good_ite ?_ ?_ | split | intro _ | with_reducible apply good_mk

theorem good_memReadBody (p : Packet) (b : Bus) (y1 : Req) (y2 : Nat) (Hb : Good b.s) :
    (memReadBody p b y1 y2).Good := by
  unfold memReadBody
  repeat' first | with_reducible assumption | with_reducible apply good_answer | with_reducible apply good_bus_cmdRead | with_reducible apply Fin'.good_done | with_reducible refine Fin'.good_of_done ?_ (by with_reducible assumption) | with_reducible apply Fin'.good_wait | with_reducible refine Fin'.good_eq ?_ (by with_reducible assumption) | dsimp only | with_reducible refine good_ite ?_ ?_ | split | intro _ | with_reducible apply good_mk

theorem good_memWriteBody (p : Packet) (b : Bus) (y1 : Req) (y2 : Nat) (Hb : Good b.s) :
    (memWriteBody p b y1 y2).Good := by
  unfold memWriteBody
  repeat' first | with_reducible assumption | with_reducible apply good_answer | with_reducible apply good_bus_cmdWrite | with_reducible apply Fin'.good_done | with_reducible refine Fin'.good_of_done ?_ (by with_reducible assumption) | with_reducible apply Fin'.good_wait | with_reducible refine Fin'.good_eq ?_ (by with_reducible assumption) | dsimp only | with_reducible refine good_ite ?_ ?_ | split | intro _ | with_reducible apply good_mk

theorem good_echo (s : State) (r : Req) (p : Packet) (Hs : Good s) :
    Good (State.echo s r p) := by
  unfold State.echo
  repeat' first | with_reducible assumption | with_reducible apply good_answer | dsimp only | with_reducible refine good_ite ?_ ?_ | split | intro _ | with_reducible apply good_mk

theorem good_faultRead (s : State) (r : Req) (p : Packet) (Hs : Good s) :
    Good (State.faultRead s r p) := by
  unfold State.faultRead
  repeat' first | with_reducible assumption | with_reducible apply good_answer | dsimp only | with_reducible refine good_ite ?_ ?_ | split | intro _ | with_reducible apply good_mk

theorem good_faultAck (s : State) (r : Req) (o : Nat) (p : Packet) (Hs : Good s) :
    Good (State.faultAck s r o p) := by
  unfold State.faultAck
  repeat' first | with_reducible assumption | with_reducible apply good_answer | with_reducible apply good_ackUnit | dsimp only | with_reducible refine good_ite ?_ ?_ | split | intro _ | with_reducible apply good_mk

theorem good_idleWord (s : State) (src : Src) (w : Nat) (e : Env) (Hs : Good s) :
    Good (State.idleWord s src w e) := by
  unfold State.idleWord
  repeat' first | with_reducible assumption | with_reducible apply good_serialClock | with_reducible apply good_busRow | with_reducible apply good_bus_takeRing | with_reducible apply good_ringError | with_reducible apply good_answerFirst | with_reducible apply Fin'.good_done | with_reducible refine Fin'.good_of_done ?_ (by with_reducible assumption) | with_reducible apply Fin'.good_wait | with_reducible refine Fin'.good_eq ?_ (by with_reducible assumption) | with_reducible apply TakeOut.good_took | with_reducible refine TakeOut.good_of_took ?_ (by with_reducible assumption) | with_reducible apply TakeOut.good_none | with_reducible apply TakeOut.good_err | with_reducible refine TakeOut.good_of_err ?_ (by with_reducible assumption) | with_reducible apply TakeOut.good_wait | with_reducible refine TakeOut.good_eq ?_ (by with_reducible assumption) | with_reducible refine good_p1 ?_ (by with_reducible assumption) | dsimp only | with_reducible refine good_ite ?_ ?_ | split | intro _ | with_reducible apply good_mk

theorem good_serialTimeout (s : State) (n : Nat) (Hs : Good s) :
    Good (State.serialTimeout s n) := by
  unfold State.serialTimeout
  repeat' first | with_reducible assumption | with_reducible apply good_bus_tongue | with_reducible apply good_serialSwap | with_reducible apply good_set | with_reducible apply Fin'.good_done | with_reducible refine Fin'.good_of_done ?_ (by with_reducible assumption) | with_reducible apply Fin'.good_wait | with_reducible refine Fin'.good_eq ?_ (by with_reducible assumption) | dsimp only | with_reducible refine good_ite ?_ ?_ | split | intro _ | with_reducible apply good_mk

theorem good_serialCut (s : State) (Hs : Good s) :
    Good (State.serialCut s) := by
  unfold State.serialCut
  repeat' first | with_reducible assumption | with_reducible apply good_set | dsimp only | with_reducible refine good_ite ?_ ?_ | split | intro _ | with_reducible apply good_mk

theorem good_dropReply (s : State) (r : Reply) (Hs : Good s) :
    Good (State.dropReply s r) := by
  unfold State.dropReply
  repeat' first | with_reducible assumption | with_reducible apply good_bus_tongue | with_reducible apply Fin'.good_done | with_reducible refine Fin'.good_of_done ?_ (by with_reducible assumption) | with_reducible apply Fin'.good_wait | with_reducible refine Fin'.good_eq ?_ (by with_reducible assumption) | dsimp only | with_reducible refine good_ite ?_ ?_ | split | intro _ | with_reducible apply good_mk

theorem good_bus_replyWords (b : Bus) (base : Nat) (i : Nat) (y0 : List Nat) (Hb : Good b.s) :
    (Bus.replyWords b base i y0).Good := by
  induction y0 generalizing b base i with
  | nil =>
    unfold Bus.replyWords
    repeat' first | with_reducible assumption | with_reducible apply good_bus_write | with_reducible apply BusOut.good_ok | with_reducible refine BusOut.good_of_ok ?_ (by with_reducible assumption) | with_reducible apply BusOut.good_err | with_reducible refine BusOut.good_of_err ?_ (by with_reducible assumption) | with_reducible apply BusOut.good_ref | with_reducible refine BusOut.good_of_ref ?_ (by with_reducible assumption) | with_reducible apply BusOut.good_wait | with_reducible refine BusOut.good_eq ?_ (by with_reducible assumption) | with_reducible apply RunOut.good_ok | with_reducible refine RunOut.good_of_ok ?_ (by with_reducible assumption) | with_reducible apply RunOut.good_wait | with_reducible refine RunOut.good_eq ?_ (by with_reducible assumption) | with_reducible refine good_p1 ?_ (by with_reducible assumption) | dsimp only | with_reducible refine good_ite ?_ ?_ | split | intro _ | with_reducible apply good_mk
  | cons x t ih =>
    unfold Bus.replyWords
    repeat' first | with_reducible assumption | with_reducible apply ih | with_reducible apply good_bus_write | with_reducible apply BusOut.good_ok | with_reducible refine BusOut.good_of_ok ?_ (by with_reducible assumption) | with_reducible apply BusOut.good_err | with_reducible refine BusOut.good_of_err ?_ (by with_reducible assumption) | with_reducible apply BusOut.good_ref | with_reducible refine BusOut.good_of_ref ?_ (by with_reducible assumption) | with_reducible apply BusOut.good_wait | with_reducible refine BusOut.good_eq ?_ (by with_reducible assumption) | with_reducible apply RunOut.good_ok | with_reducible refine RunOut.good_of_ok ?_ (by with_reducible assumption) | with_reducible apply RunOut.good_wait | with_reducible refine RunOut.good_eq ?_ (by with_reducible assumption) | with_reducible refine good_p1 ?_ (by with_reducible assumption) | dsimp only | with_reducible refine good_ite ?_ ?_ | split | intro _ | with_reducible apply good_mk

theorem good_replyNote (s : State) (src : Src) (Hs : Good s) :
    Good (State.replyNote s src) := by
  unfold State.replyNote
  repeat' first | with_reducible assumption | with_reducible apply good_bump | with_reducible apply good_boxMessage | with_reducible apply good_raise | with_reducible refine good_p1 ?_ (by with_reducible assumption) | dsimp only | with_reducible refine good_ite ?_ ?_ | split | intro _ | with_reducible apply good_mk

theorem good_replyWrite (s : State) (src : Src) (e : Env) (Hs : Good s) :
    Good (State.replyWrite s src e) := by
  unfold State.replyWrite
  repeat' first | with_reducible assumption | with_reducible apply good_bus_tongue | with_reducible apply good_busRow | with_reducible apply good_bus_replyWords | with_reducible apply good_ringError | with_reducible apply good_dropReply | with_reducible apply good_setRegN | with_reducible apply good_replyNote | with_reducible apply Fin'.good_done | with_reducible refine Fin'.good_of_done ?_ (by with_reducible assumption) | with_reducible apply Fin'.good_wait | with_reducible refine Fin'.good_eq ?_ (by with_reducible assumption) | with_reducible apply RunOut.good_ok | with_reducible refine RunOut.good_of_ok ?_ (by with_reducible assumption) | with_reducible apply RunOut.good_wait | with_reducible refine RunOut.good_eq ?_ (by with_reducible assumption) | with_reducible refine good_p1 ?_ (by with_reducible assumption) | dsimp only | with_reducible refine good_ite ?_ ?_ | split | intro _ | with_reducible apply good_mk

theorem good_sendReplies (s : State) (Hs : Good s) :
    Good (State.sendReplies s) := by
  unfold State.sendReplies
  repeat' first | with_reducible assumption | with_reducible apply good_bus_tongue | with_reducible apply good_dropReply | with_reducible apply good_weltOn | with_reducible apply Fin'.good_done | with_reducible refine Fin'.good_of_done ?_ (by with_reducible assumption) | with_reducible apply Fin'.good_wait | with_reducible refine Fin'.good_eq ?_ (by with_reducible assumption) | with_reducible refine good_p1 ?_ (by with_reducible assumption) | with_reducible refine good_foldl_p1 ?_ ?_ | with_reducible refine good_foldl ?_ ?_ | dsimp only | with_reducible refine good_ite ?_ ?_ | split | intro _ | with_reducible apply good_mk

theorem good_tongueSettle (s : State) (Hs : Good s) :
    Good (State.tongueSettle s) := by
  unfold State.tongueSettle
  repeat' first | with_reducible assumption | with_reducible apply good_sendReplies | with_reducible apply good_bus_tongue | with_reducible apply good_setRegN | with_reducible apply Fin'.good_done | with_reducible refine Fin'.good_of_done ?_ (by with_reducible assumption) | with_reducible apply Fin'.good_wait | with_reducible refine Fin'.good_eq ?_ (by with_reducible assumption) | with_reducible refine good_p1 ?_ (by with_reducible assumption) | with_reducible refine good_foldl_p1 ?_ ?_ | with_reducible refine good_foldl ?_ ?_ | dsimp only | with_reducible refine good_ite ?_ ?_ | split | intro _ | with_reducible apply good_mk

theorem good_countLate (s : State) (Hs : Good s) :
    Good (State.countLate s) := by
  unfold State.countLate
  repeat' first | with_reducible assumption | with_reducible apply good_bump | dsimp only | with_reducible refine good_ite ?_ ?_ | split | intro _ | with_reducible apply good_mk

theorem good_forwardTimeout (s : State) (src : Src) (Hs : Good s) :
    Good (State.forwardTimeout s src) := by
  unfold State.forwardTimeout
  repeat' first | with_reducible assumption | with_reducible apply good_bus_tongue | with_reducible apply good_answerFirst | with_reducible apply Fin'.good_done | with_reducible refine Fin'.good_of_done ?_ (by with_reducible assumption) | with_reducible apply Fin'.good_wait | with_reducible refine Fin'.good_eq ?_ (by with_reducible assumption) | with_reducible refine good_p1 ?_ (by with_reducible assumption) | dsimp only | with_reducible refine good_ite ?_ ?_ | split | intro _ | with_reducible apply good_mk

theorem good_passReply (s : State) (r : Req) (ws : List Nat) (first : Bool) (Hs : Good s) :
    Good (State.passReply s r ws first) := by
  unfold State.passReply
  repeat' first | with_reducible assumption | with_reducible apply good_putReply | with_reducible apply good_countLate | dsimp only | with_reducible refine good_ite ?_ ?_ | split | intro _ | with_reducible apply good_mk

theorem good_replyIn (s : State) (o : Nat) (dev : Nat) (ws : List Nat) (Hs : Good s) :
    Good (State.replyIn s o dev ws) := by
  unfold State.replyIn
  repeat' first | with_reducible assumption | with_reducible apply good_bus_tongue | with_reducible apply good_countLate | with_reducible apply good_passReply | with_reducible apply Fin'.good_done | with_reducible refine Fin'.good_of_done ?_ (by with_reducible assumption) | with_reducible apply Fin'.good_wait | with_reducible refine Fin'.good_eq ?_ (by with_reducible assumption) | with_reducible refine good_p1 ?_ (by with_reducible assumption) | dsimp only | with_reducible refine good_ite ?_ ?_ | split | intro _ | with_reducible apply good_mk

theorem good_commandTake (s : State) (ps : List InP) (Hs : Good s) :
    Good (State.commandTake s ps) := by
  unfold State.commandTake
  repeat' first | with_reducible assumption | with_reducible apply good_modWelt | with_reducible refine good_foldl ?_ ?_ | dsimp only | with_reducible refine good_ite ?_ ?_ | split | intro _ | with_reducible apply good_mk

theorem good_commandReply (s : State) (Hs : Good s) :
    Good (State.commandReply s) := by
  unfold State.commandReply
  repeat' first | with_reducible assumption | with_reducible apply good_commandTake | with_reducible apply good_replyIn | with_reducible refine good_p1 ?_ (by with_reducible assumption) | dsimp only | with_reducible refine good_ite ?_ ?_ | split | intro _ | with_reducible apply good_mk

theorem good_commandIn (s : State) (Hs : Good s) :
    Good (State.commandIn s) := by
  unfold State.commandIn
  repeat' first | with_reducible assumption | with_reducible apply good_commandTake | with_reducible apply good_weltDrop | with_reducible apply good_answerFirst | with_reducible apply good_bus_tongue | with_reducible apply Fin'.good_done | with_reducible refine Fin'.good_of_done ?_ (by with_reducible assumption) | with_reducible apply Fin'.good_wait | with_reducible refine Fin'.good_eq ?_ (by with_reducible assumption) | with_reducible refine good_p1 ?_ (by with_reducible assumption) | dsimp only | with_reducible refine good_ite ?_ ?_ | split | intro _ | with_reducible apply good_mk

/-! ## Ports -/

theorem good_bus_pcieRead (b : Bus) (w : Who) (a : Nat → Nat) (i : Nat) (y0 : Nat) (Hb : Good b.s) :
    (Bus.pcieRead b w a i y0).Good := by
  induction y0 generalizing b w i with
  | zero =>
    unfold Bus.pcieRead
    repeat' first | with_reducible assumption | with_reducible apply good_bus_readW | with_reducible apply BusOut.good_ok | with_reducible refine BusOut.good_of_ok ?_ (by with_reducible assumption) | with_reducible apply BusOut.good_err | with_reducible refine BusOut.good_of_err ?_ (by with_reducible assumption) | with_reducible apply BusOut.good_ref | with_reducible refine BusOut.good_of_ref ?_ (by with_reducible assumption) | with_reducible apply BusOut.good_wait | with_reducible refine BusOut.good_eq ?_ (by with_reducible assumption) | with_reducible apply RunOut.good_ok | with_reducible refine RunOut.good_of_ok ?_ (by with_reducible assumption) | with_reducible apply RunOut.good_wait | with_reducible refine RunOut.good_eq ?_ (by with_reducible assumption) | with_reducible refine good_p1 ?_ (by with_reducible assumption) | dsimp only | with_reducible refine good_ite ?_ ?_ | split | intro _ | with_reducible apply good_mk
  | succ n ih =>
    unfold Bus.pcieRead
    repeat' first | with_reducible assumption | with_reducible apply ih | with_reducible apply good_bus_readW | with_reducible apply BusOut.good_ok | with_reducible refine BusOut.good_of_ok ?_ (by with_reducible assumption) | with_reducible apply BusOut.good_err | with_reducible refine BusOut.good_of_err ?_ (by with_reducible assumption) | with_reducible apply BusOut.good_ref | with_reducible refine BusOut.good_of_ref ?_ (by with_reducible assumption) | with_reducible apply BusOut.good_wait | with_reducible refine BusOut.good_eq ?_ (by with_reducible assumption) | with_reducible apply RunOut.good_ok | with_reducible refine RunOut.good_of_ok ?_ (by with_reducible assumption) | with_reducible apply RunOut.good_wait | with_reducible refine RunOut.good_eq ?_ (by with_reducible assumption) | with_reducible refine good_p1 ?_ (by with_reducible assumption) | dsimp only | with_reducible refine good_ite ?_ ?_ | split | intro _ | with_reducible apply good_mk

theorem good_bus_pcieWrite (b : Bus) (w : Who) (a : Nat → Nat) (i : Nat) (y0 : List (Nat × Nat)) (Hb : Good b.s) :
    (Bus.pcieWrite b w a i y0).Good := by
  induction y0 generalizing b w i with
  | nil =>
    unfold Bus.pcieWrite
    repeat' first | with_reducible assumption | with_reducible apply good_bus_writeW | with_reducible apply good_bus_write | with_reducible apply BusOut.good_ok | with_reducible refine BusOut.good_of_ok ?_ (by with_reducible assumption) | with_reducible apply BusOut.good_err | with_reducible refine BusOut.good_of_err ?_ (by with_reducible assumption) | with_reducible apply BusOut.good_ref | with_reducible refine BusOut.good_of_ref ?_ (by with_reducible assumption) | with_reducible apply BusOut.good_wait | with_reducible refine BusOut.good_eq ?_ (by with_reducible assumption) | with_reducible apply RunOut.good_ok | with_reducible refine RunOut.good_of_ok ?_ (by with_reducible assumption) | with_reducible apply RunOut.good_wait | with_reducible refine RunOut.good_eq ?_ (by with_reducible assumption) | with_reducible refine good_p1 ?_ (by with_reducible assumption) | dsimp only | with_reducible refine good_ite ?_ ?_ | split | intro _ | with_reducible apply good_mk
  | cons x t ih =>
    unfold Bus.pcieWrite
    repeat' first | with_reducible assumption | with_reducible apply ih | with_reducible apply good_bus_writeW | with_reducible apply good_bus_write | with_reducible apply BusOut.good_ok | with_reducible refine BusOut.good_of_ok ?_ (by with_reducible assumption) | with_reducible apply BusOut.good_err | with_reducible refine BusOut.good_of_err ?_ (by with_reducible assumption) | with_reducible apply BusOut.good_ref | with_reducible refine BusOut.good_of_ref ?_ (by with_reducible assumption) | with_reducible apply BusOut.good_wait | with_reducible refine BusOut.good_eq ?_ (by with_reducible assumption) | with_reducible apply RunOut.good_ok | with_reducible refine RunOut.good_of_ok ?_ (by with_reducible assumption) | with_reducible apply RunOut.good_wait | with_reducible refine RunOut.good_eq ?_ (by with_reducible assumption) | with_reducible refine good_p1 ?_ (by with_reducible assumption) | dsimp only | with_reducible refine good_ite ?_ ?_ | split | intro _ | with_reducible apply good_mk

theorem good_pcieRefused (s : State) (wr : Bool) (Hs : Good s) :
    Good (State.pcieRefused s wr) := by
  unfold State.pcieRefused
  repeat' first | with_reducible assumption | with_reducible apply good_epUnsupported | dsimp only | with_reducible refine good_ite ?_ ?_ | split | intro _ | with_reducible apply good_mk

theorem good_pcieOwn (s : State) (rd : State → Nat → Nat) (wt : State → Nat → Nat → Nat → State) (wr : Bool) (off n : Nat)
    (data : List (Nat × Nat)) (hs : Good s) (hwt : ∀ a o be v, Good a → Good (wt a o be v)) :
    Good (s.pcieOwn rd wt wr off n data) := by
  unfold State.pcieOwn
  refine good_ite (good_mk _ _ _ _ _ _ _ _ _ _ _ _ _ _ _ _ _ _ _ _ _ _ _ _ (good_foldl (fun a x h => ?_) hs))
    (good_mk _ _ _ _ _ _ _ _ _ _ _ _ _ _ _ _ _ _ _ _ _ _ _ _ hs)
  exact hwt _ _ _ _ h

theorem good_pcieInbound (s : State) (space : Nat) (wr : Bool) (off n : Nat) (data : List (Nat × Nat)) (e : Env) (hs : Good s) :
    Good (s.pcieInbound space wr off n data e) := by
  unfold State.pcieInbound
  extract_lets bar2 k a
  refine good_ite hs (good_ite ?_ (good_ite (good_pcieRefused s wr hs) (good_ite ?_ ?_)))
  · exact good_ite (good_mk _ _ _ _ _ _ _ _ _ _ _ _ _ _ _ _ _ _ _ _ _ _ _ _ hs)
      (good_pcieOwn s _ _ wr off n data hs (fun a o be v h => good_confWrite a o be v h))
  · exact good_pcieOwn s _ _ wr off n data hs (fun a o be v h => good_bar4Write a o be v h)
  · split
    · exact good_pcieRefused _ _ (good_unmapped _ _ _ _ hs)
    · refine good_busRow _ _ _ _ hs (fun b hb => ?_)
      split
      · have h := good_bus_pcieWrite b (pcieWho bar2) a 0 data hb
        split
        · trivial
        · rename_i h2; exact good_mk _ _ _ _ _ _ _ _ _ _ _ _ _ _ _ _ _ _ _ _ _ _ _ _ (RunOut.good_of_ok (h2 ▸ h) rfl)
      · have h := good_bus_pcieRead b (pcieWho bar2) a 0 n hb
        split
        · trivial
        · rename_i h2
          have h3 := RunOut.good_of_ok (h2 ▸ h) rfl
          dsimp only [Fin'.Good]
          exact good_ite (good_pcieRefused _ _ h3) (good_mk _ _ _ _ _ _ _ _ _ _ _ _ _ _ _ _ _ _ _ _ _ _ _ _ h3)

theorem good_bus_dbgReads (b : Bus) (w : Who) (a : Nat) (y0 : Nat) (Hb : Good b.s) :
    (Bus.dbgReads b w a y0).Good := by
  induction y0 generalizing b w a with
  | zero =>
    unfold Bus.dbgReads
    repeat' first | with_reducible assumption | with_reducible apply good_bus_readW | with_reducible apply BusOut.good_ok | with_reducible refine BusOut.good_of_ok ?_ (by with_reducible assumption) | with_reducible apply BusOut.good_err | with_reducible refine BusOut.good_of_err ?_ (by with_reducible assumption) | with_reducible apply BusOut.good_ref | with_reducible refine BusOut.good_of_ref ?_ (by with_reducible assumption) | with_reducible apply BusOut.good_wait | with_reducible refine BusOut.good_eq ?_ (by with_reducible assumption) | with_reducible apply RunOut.good_ok | with_reducible refine RunOut.good_of_ok ?_ (by with_reducible assumption) | with_reducible apply RunOut.good_wait | with_reducible refine RunOut.good_eq ?_ (by with_reducible assumption) | with_reducible refine good_p1 ?_ (by with_reducible assumption) | dsimp only | with_reducible refine good_ite ?_ ?_ | split | intro _ | with_reducible apply good_mk
  | succ n ih =>
    unfold Bus.dbgReads
    repeat' first | with_reducible assumption | with_reducible apply ih | with_reducible apply good_bus_readW | with_reducible apply BusOut.good_ok | with_reducible refine BusOut.good_of_ok ?_ (by with_reducible assumption) | with_reducible apply BusOut.good_err | with_reducible refine BusOut.good_of_err ?_ (by with_reducible assumption) | with_reducible apply BusOut.good_ref | with_reducible refine BusOut.good_of_ref ?_ (by with_reducible assumption) | with_reducible apply BusOut.good_wait | with_reducible refine BusOut.good_eq ?_ (by with_reducible assumption) | with_reducible apply RunOut.good_ok | with_reducible refine RunOut.good_of_ok ?_ (by with_reducible assumption) | with_reducible apply RunOut.good_wait | with_reducible refine RunOut.good_eq ?_ (by with_reducible assumption) | with_reducible refine good_p1 ?_ (by with_reducible assumption) | dsimp only | with_reducible refine good_ite ?_ ?_ | split | intro _ | with_reducible apply good_mk

theorem good_bus_dbgWrites (b : Bus) (w : Who) (a : Nat) (y0 : List Nat) (Hb : Good b.s) :
    (Bus.dbgWrites b w a y0).Good := by
  induction y0 generalizing b w a with
  | nil =>
    unfold Bus.dbgWrites
    repeat' first | with_reducible assumption | with_reducible apply good_bus_writeW | with_reducible apply BusOut.good_ok | with_reducible refine BusOut.good_of_ok ?_ (by with_reducible assumption) | with_reducible apply BusOut.good_err | with_reducible refine BusOut.good_of_err ?_ (by with_reducible assumption) | with_reducible apply BusOut.good_ref | with_reducible refine BusOut.good_of_ref ?_ (by with_reducible assumption) | with_reducible apply BusOut.good_wait | with_reducible refine BusOut.good_eq ?_ (by with_reducible assumption) | with_reducible apply RunOut.good_ok | with_reducible refine RunOut.good_of_ok ?_ (by with_reducible assumption) | with_reducible apply RunOut.good_wait | with_reducible refine RunOut.good_eq ?_ (by with_reducible assumption) | with_reducible refine good_p1 ?_ (by with_reducible assumption) | dsimp only | with_reducible refine good_ite ?_ ?_ | split | intro _ | with_reducible apply good_mk
  | cons x t ih =>
    unfold Bus.dbgWrites
    repeat' first | with_reducible assumption | with_reducible apply ih | with_reducible apply good_bus_writeW | with_reducible apply BusOut.good_ok | with_reducible refine BusOut.good_of_ok ?_ (by with_reducible assumption) | with_reducible apply BusOut.good_err | with_reducible refine BusOut.good_of_err ?_ (by with_reducible assumption) | with_reducible apply BusOut.good_ref | with_reducible refine BusOut.good_of_ref ?_ (by with_reducible assumption) | with_reducible apply BusOut.good_wait | with_reducible refine BusOut.good_eq ?_ (by with_reducible assumption) | with_reducible apply RunOut.good_ok | with_reducible refine RunOut.good_of_ok ?_ (by with_reducible assumption) | with_reducible apply RunOut.good_wait | with_reducible refine RunOut.good_eq ?_ (by with_reducible assumption) | with_reducible refine good_p1 ?_ (by with_reducible assumption) | dsimp only | with_reducible refine good_ite ?_ ?_ | split | intro _ | with_reducible apply good_mk

theorem good_dbgBadArg (s : State) (Hs : Good s) :
    Good (State.dbgBadArg s) := by
  unfold State.dbgBadArg
  repeat' first | with_reducible assumption | with_reducible apply good_draw | with_reducible apply good_dbgAnswer | dsimp only | with_reducible refine good_ite ?_ ?_ | split | intro _ | with_reducible apply good_mk

theorem good_dbgReadOp (s : State) (pl : List Nat) (e : Env) (Hs : Good s) :
    Good (State.dbgReadOp s pl e) := by
  unfold State.dbgReadOp
  repeat' first | with_reducible assumption | with_reducible apply good_dbgAnswer | with_reducible apply good_dbgBadArg | with_reducible apply good_busRow | with_reducible apply good_bus_dbgReads | with_reducible apply Fin'.good_done | with_reducible refine Fin'.good_of_done ?_ (by with_reducible assumption) | with_reducible apply Fin'.good_wait | with_reducible refine Fin'.good_eq ?_ (by with_reducible assumption) | with_reducible apply RunOut.good_ok | with_reducible refine RunOut.good_of_ok ?_ (by with_reducible assumption) | with_reducible apply RunOut.good_wait | with_reducible refine RunOut.good_eq ?_ (by with_reducible assumption) | with_reducible refine good_p1 ?_ (by with_reducible assumption) | dsimp only | with_reducible refine good_ite ?_ ?_ | split | intro _ | with_reducible apply good_mk

theorem good_dbgWriteOp (s : State) (pl : List Nat) (e : Env) (Hs : Good s) :
    Good (State.dbgWriteOp s pl e) := by
  unfold State.dbgWriteOp
  repeat' first | with_reducible assumption | with_reducible apply good_dbgAnswer | with_reducible apply good_dbgBadArg | with_reducible apply good_busRow | with_reducible apply good_bus_dbgWrites | with_reducible apply Fin'.good_done | with_reducible refine Fin'.good_of_done ?_ (by with_reducible assumption) | with_reducible apply Fin'.good_wait | with_reducible refine Fin'.good_eq ?_ (by with_reducible assumption) | with_reducible apply RunOut.good_ok | with_reducible refine RunOut.good_of_ok ?_ (by with_reducible assumption) | with_reducible apply RunOut.good_wait | with_reducible refine RunOut.good_eq ?_ (by with_reducible assumption) | with_reducible refine good_p1 ?_ (by with_reducible assumption) | dsimp only | with_reducible refine good_ite ?_ ?_ | split | intro _ | with_reducible apply good_mk

theorem good_dbgAccess (s : State) (crcOk : Bool) (lenOk : Bool) (f : State → State) (Hs : Good s) (Hf : ∀ a, Good a → Good (f a)) :
    Good (State.dbgAccess s crcOk lenOk f) := by
  unfold State.dbgAccess
  repeat' first | with_reducible assumption | with_reducible apply Hf | with_reducible apply good_dbgFrame | dsimp only | with_reducible refine good_ite ?_ ?_ | split | intro _ | with_reducible apply good_mk

theorem good_arrayWrite (s : State) (m : Nat) (a : Nat) (v : Nat) (e : Env) (Hs : Good s) :
    Good (State.arrayWrite s m a v e) := by
  unfold State.arrayWrite
  repeat' first | with_reducible assumption | with_reducible apply good_busRow | with_reducible apply good_bus_write | with_reducible apply BusOut.good_ok | with_reducible refine BusOut.good_of_ok ?_ (by with_reducible assumption) | with_reducible apply BusOut.good_err | with_reducible refine BusOut.good_of_err ?_ (by with_reducible assumption) | with_reducible apply BusOut.good_ref | with_reducible refine BusOut.good_of_ref ?_ (by with_reducible assumption) | with_reducible apply BusOut.good_wait | with_reducible refine BusOut.good_eq ?_ (by with_reducible assumption) | with_reducible apply Fin'.good_done | with_reducible refine Fin'.good_of_done ?_ (by with_reducible assumption) | with_reducible apply Fin'.good_wait | with_reducible refine Fin'.good_eq ?_ (by with_reducible assumption) | with_reducible refine good_p1 ?_ (by with_reducible assumption) | dsimp only | with_reducible refine good_ite ?_ ?_ | split | intro _ | with_reducible apply good_mk

theorem good_bus_wbRow (b : Bus) (w : Who) (a : Nat) (ws : List Nat) (y0 : Nat) (Hb : Good b.s) :
    (Bus.wbRow b w a ws y0).Good := by
  induction y0 generalizing b w a ws with
  | zero =>
    unfold Bus.wbRow
    repeat' first | with_reducible assumption | with_reducible apply good_bus_write | with_reducible apply BusOut.good_ok | with_reducible refine BusOut.good_of_ok ?_ (by with_reducible assumption) | with_reducible apply BusOut.good_err | with_reducible refine BusOut.good_of_err ?_ (by with_reducible assumption) | with_reducible apply BusOut.good_ref | with_reducible refine BusOut.good_of_ref ?_ (by with_reducible assumption) | with_reducible apply BusOut.good_wait | with_reducible refine BusOut.good_eq ?_ (by with_reducible assumption) | with_reducible apply RunOut.good_ok | with_reducible refine RunOut.good_of_ok ?_ (by with_reducible assumption) | with_reducible apply RunOut.good_wait | with_reducible refine RunOut.good_eq ?_ (by with_reducible assumption) | with_reducible refine good_p1 ?_ (by with_reducible assumption) | dsimp only | with_reducible refine good_ite ?_ ?_ | split | intro _ | with_reducible apply good_mk
  | succ n ih =>
    unfold Bus.wbRow
    repeat' first | with_reducible assumption | with_reducible apply ih | with_reducible apply good_bus_write | with_reducible apply BusOut.good_ok | with_reducible refine BusOut.good_of_ok ?_ (by with_reducible assumption) | with_reducible apply BusOut.good_err | with_reducible refine BusOut.good_of_err ?_ (by with_reducible assumption) | with_reducible apply BusOut.good_ref | with_reducible refine BusOut.good_of_ref ?_ (by with_reducible assumption) | with_reducible apply BusOut.good_wait | with_reducible refine BusOut.good_eq ?_ (by with_reducible assumption) | with_reducible apply RunOut.good_ok | with_reducible refine RunOut.good_of_ok ?_ (by with_reducible assumption) | with_reducible apply RunOut.good_wait | with_reducible refine RunOut.good_eq ?_ (by with_reducible assumption) | with_reducible refine good_p1 ?_ (by with_reducible assumption) | dsimp only | with_reducible refine good_ite ?_ ?_ | split | intro _ | with_reducible apply good_mk

theorem good_bus_wbRows (b : Bus) (w : Who) (y0 : List (Nat × List Nat)) (Hb : Good b.s) :
    (Bus.wbRows b w y0).Good := by
  induction y0 generalizing b w with
  | nil =>
    unfold Bus.wbRows
    repeat' first | with_reducible assumption | with_reducible apply good_bus_wbRow | with_reducible apply RunOut.good_ok | with_reducible refine RunOut.good_of_ok ?_ (by with_reducible assumption) | with_reducible apply RunOut.good_wait | with_reducible refine RunOut.good_eq ?_ (by with_reducible assumption) | with_reducible refine good_p1 ?_ (by with_reducible assumption) | dsimp only | with_reducible refine good_ite ?_ ?_ | split | intro _ | with_reducible apply good_mk
  | cons x t ih =>
    unfold Bus.wbRows
    repeat' first | with_reducible assumption | with_reducible apply ih | with_reducible apply good_bus_wbRow | with_reducible apply RunOut.good_ok | with_reducible refine RunOut.good_of_ok ?_ (by with_reducible assumption) | with_reducible apply RunOut.good_wait | with_reducible refine RunOut.good_eq ?_ (by with_reducible assumption) | with_reducible refine good_p1 ?_ (by with_reducible assumption) | dsimp only | with_reducible refine good_ite ?_ ?_ | split | intro _ | with_reducible apply good_mk

theorem good_wbDrain (s : State) (h : Nat) (e : Env) (Hs : Good s) :
    Good (State.wbDrain s h e) := by
  unfold State.wbDrain
  repeat' first | with_reducible assumption | with_reducible apply good_busRow | with_reducible apply good_bus_wbRows | with_reducible apply good_wbWritten | with_reducible apply Fin'.good_done | with_reducible refine Fin'.good_of_done ?_ (by with_reducible assumption) | with_reducible apply Fin'.good_wait | with_reducible refine Fin'.good_eq ?_ (by with_reducible assumption) | with_reducible apply RunOut.good_ok | with_reducible refine RunOut.good_of_ok ?_ (by with_reducible assumption) | with_reducible apply RunOut.good_wait | with_reducible refine RunOut.good_eq ?_ (by with_reducible assumption) | with_reducible refine good_p1 ?_ (by with_reducible assumption) | dsimp only | with_reducible refine good_ite ?_ ?_ | split | intro _ | with_reducible apply good_mk

theorem good_tjUpdate (s : State) (tj : Nat) (Hs : Good s) :
    Good (State.tjUpdate s tj) := by
  unfold State.tjUpdate
  repeat' first | with_reducible assumption | with_reducible apply good_set | dsimp only | with_reducible refine good_ite ?_ ?_ | split | intro _ | with_reducible apply good_mk

/-! ## Settle -/

theorem good_settle (s : State) (Hs : Good s) :
    Good (State.settle s) := by
  unfold State.settle
  repeat' first | with_reducible assumption | with_reducible apply good_soleSettle | with_reducible apply good_headSettle | with_reducible apply good_lastSettle | with_reducible apply good_armSettle | with_reducible apply good_weltSettle | with_reducible apply good_loopSettle | with_reducible apply good_feSettle | with_reducible apply good_shankSettle | with_reducible apply good_laceSettle | with_reducible apply good_skiverSettle | with_reducible apply good_tongueSettle | with_reducible refine good_foldl ?_ ?_ | dsimp only | with_reducible refine good_ite ?_ ?_ | split | intro _ | with_reducible apply good_mk

theorem good_tick (s : State) (Hs : Good s) :
    Good (State.tick s) := by
  unfold State.tick
  repeat' first | with_reducible assumption | with_reducible apply good_slowTick | with_reducible apply good_paceTick | with_reducible apply good_timeTick | dsimp only | with_reducible refine good_ite ?_ ?_ | split | intro _ | with_reducible apply good_mk

/-! ## Picture -/

theorem good_bus_layerRead (b : Bus) (w : Who) (a : Nat) (Hb : Good b.s) : (Bus.layerRead b w a).Good := by
  unfold Bus.layerRead
  split
  · exact good_bus_read b w a 64 Hb
  · have h := good_bo_seen _ w.m a 64 false (good_bus_unmapped b w.m a false Hb)
    revert h
    cases (b.unmapped w.m a false).seen w.m a 64 false <;> exact fun h => h

theorem good_dpAudio (s : State) (k : Nat) (Hs : Good s) :
    Good (State.dpAudio s k) := by
  unfold State.dpAudio
  repeat' first | with_reducible assumption | dsimp only | with_reducible refine good_ite ?_ ?_ | split | intro _ | with_reducible apply good_mk

theorem good_blockSinks (s : State) (d : Nat) (b : Nat) (Hs : Good s) :
    Good (State.blockSinks s d b) := by
  unfold State.blockSinks
  repeat' first | with_reducible assumption | with_reducible apply good_dpAudio | with_reducible apply good_audioOut | with_reducible apply good_portsSend | with_reducible refine good_foldl ?_ ?_ | dsimp only | with_reducible refine good_ite ?_ ?_ | split | intro _ | with_reducible apply good_mk

theorem good_blockTick (s : State) (d : Nat) (Hs : Good s) :
    Good (State.blockTick s d) := by
  unfold State.blockTick
  repeat' first | with_reducible assumption | with_reducible apply good_blockBoundary | with_reducible apply good_blockSinks | dsimp only | with_reducible refine good_ite ?_ ?_ | split | intro _ | with_reducible apply good_mk

theorem good_snapTack (s : State) (sl : Nat) (Hs : Good s) :
    Good (State.snapTack s sl) := by
  unfold State.snapTack
  repeat' first | with_reducible assumption | with_reducible apply good_raiseTo | dsimp only | with_reducible refine good_ite ?_ ?_ | split | intro _ | with_reducible apply good_mk

theorem good_snapMiss (s : State) (h : Nat) (y : Nat) (Hs : Good s) :
    Good (State.snapMiss s h y) := by
  unfold State.snapMiss
  repeat' first | with_reducible assumption | with_reducible apply good_modHead | dsimp only | with_reducible refine good_ite ?_ ?_ | split | intro _ | with_reducible apply good_mk

theorem good_bus_snapRead (b : Bus) (w : Who) (h : Nat) (y : Nat) (y0 : List Nat) (Hb : Good b.s) :
    (Bus.snapRead b w h y y0).Good := by
  induction y0 generalizing b w h y with
  | nil =>
    unfold Bus.snapRead
    repeat' first | with_reducible assumption | with_reducible apply good_bus_layerRead | with_reducible apply good_snapIn | with_reducible apply good_snapTack | with_reducible apply good_snapMiss | with_reducible apply BusOut.good_ok | with_reducible refine BusOut.good_of_ok ?_ (by with_reducible assumption) | with_reducible apply BusOut.good_err | with_reducible refine BusOut.good_of_err ?_ (by with_reducible assumption) | with_reducible apply BusOut.good_ref | with_reducible refine BusOut.good_of_ref ?_ (by with_reducible assumption) | with_reducible apply BusOut.good_wait | with_reducible refine BusOut.good_eq ?_ (by with_reducible assumption) | with_reducible apply Fin'.good_done | with_reducible refine Fin'.good_of_done ?_ (by with_reducible assumption) | with_reducible apply Fin'.good_wait | with_reducible refine Fin'.good_eq ?_ (by with_reducible assumption) | with_reducible refine good_p1 ?_ (by with_reducible assumption) | dsimp only | with_reducible refine good_ite ?_ ?_ | split | intro _ | with_reducible apply good_mk
  | cons x t ih =>
    unfold Bus.snapRead
    repeat' first | with_reducible assumption | with_reducible apply ih | with_reducible apply good_bus_layerRead | with_reducible apply good_snapIn | with_reducible apply good_snapTack | with_reducible apply good_snapMiss | with_reducible apply BusOut.good_ok | with_reducible refine BusOut.good_of_ok ?_ (by with_reducible assumption) | with_reducible apply BusOut.good_err | with_reducible refine BusOut.good_of_err ?_ (by with_reducible assumption) | with_reducible apply BusOut.good_ref | with_reducible refine BusOut.good_of_ref ?_ (by with_reducible assumption) | with_reducible apply BusOut.good_wait | with_reducible refine BusOut.good_eq ?_ (by with_reducible assumption) | with_reducible apply Fin'.good_done | with_reducible refine Fin'.good_of_done ?_ (by with_reducible assumption) | with_reducible apply Fin'.good_wait | with_reducible refine Fin'.good_eq ?_ (by with_reducible assumption) | with_reducible refine good_p1 ?_ (by with_reducible assumption) | dsimp only | with_reducible refine good_ite ?_ ?_ | split | intro _ | with_reducible apply good_mk

theorem good_snapshotRead (s : State) (h : Nat) (y : Nat) (e : Env) (Hs : Good s) :
    Good (State.snapshotRead s h y e) := by
  unfold State.snapshotRead
  repeat' first | with_reducible assumption | with_reducible apply good_busRow | with_reducible apply good_bus_snapRead | with_reducible apply Fin'.good_done | with_reducible refine Fin'.good_of_done ?_ (by with_reducible assumption) | with_reducible apply Fin'.good_wait | with_reducible refine Fin'.good_eq ?_ (by with_reducible assumption) | dsimp only | with_reducible refine good_ite ?_ ?_ | split | intro _ | with_reducible apply good_mk

theorem good_bus_listRead (b : Bus) (w : Who) (h : Nat) (y : Nat) (writes : Nat) (late : Bool) (short : Bool) (ents : List LlEnt) (a : Nat) (y0 : Nat) (Hb : Good b.s) :
    (Bus.listRead b w h y writes late short ents a y0).Good := by
  induction y0 generalizing b w h y writes late short ents a with
  | zero =>
    unfold Bus.listRead
    repeat' first | with_reducible assumption | with_reducible apply good_listIn | with_reducible apply good_bus_read | with_reducible apply BusOut.good_ok | with_reducible refine BusOut.good_of_ok ?_ (by with_reducible assumption) | with_reducible apply BusOut.good_err | with_reducible refine BusOut.good_of_err ?_ (by with_reducible assumption) | with_reducible apply BusOut.good_ref | with_reducible refine BusOut.good_of_ref ?_ (by with_reducible assumption) | with_reducible apply BusOut.good_wait | with_reducible refine BusOut.good_eq ?_ (by with_reducible assumption) | with_reducible apply Fin'.good_done | with_reducible refine Fin'.good_of_done ?_ (by with_reducible assumption) | with_reducible apply Fin'.good_wait | with_reducible refine Fin'.good_eq ?_ (by with_reducible assumption) | with_reducible refine good_p1 ?_ (by with_reducible assumption) | dsimp only | with_reducible refine good_ite ?_ ?_ | split | intro _ | with_reducible apply good_mk
  | succ n ih =>
    unfold Bus.listRead
    repeat' first | with_reducible assumption | with_reducible apply ih | with_reducible apply good_listIn | with_reducible apply good_bus_read | with_reducible apply BusOut.good_ok | with_reducible refine BusOut.good_of_ok ?_ (by with_reducible assumption) | with_reducible apply BusOut.good_err | with_reducible refine BusOut.good_of_err ?_ (by with_reducible assumption) | with_reducible apply BusOut.good_ref | with_reducible refine BusOut.good_of_ref ?_ (by with_reducible assumption) | with_reducible apply BusOut.good_wait | with_reducible refine BusOut.good_eq ?_ (by with_reducible assumption) | with_reducible apply Fin'.good_done | with_reducible refine Fin'.good_of_done ?_ (by with_reducible assumption) | with_reducible apply Fin'.good_wait | with_reducible refine Fin'.good_eq ?_ (by with_reducible assumption) | with_reducible refine good_p1 ?_ (by with_reducible assumption) | dsimp only | with_reducible refine good_ite ?_ ?_ | split | intro _ | with_reducible apply good_mk

theorem good_listExecute (s : State) (h : Nat) (e : Env) (Hs : Good s) :
    Good (State.listExecute s h e) := by
  unfold State.listExecute
  repeat' first | with_reducible assumption | with_reducible apply good_busRow | with_reducible apply good_bus_listRead | with_reducible apply good_lineReady | with_reducible apply Fin'.good_done | with_reducible refine Fin'.good_of_done ?_ (by with_reducible assumption) | with_reducible apply Fin'.good_wait | with_reducible refine Fin'.good_eq ?_ (by with_reducible assumption) | with_reducible refine good_p1 ?_ (by with_reducible assumption) | dsimp only | with_reducible refine good_ite ?_ ?_ | split | intro _ | with_reducible apply good_mk

theorem good_granuleAnswer (s : State) (sl : Nat) (num : Nat) (lat : Nat) (e : Env) (Hs : Good s) :
    Good (State.granuleAnswer s sl num lat e) := by
  unfold State.granuleAnswer
  repeat' first | with_reducible assumption | with_reducible apply good_busRow | with_reducible apply good_bus_layerRead | with_reducible apply good_granuleIn | with_reducible apply BusOut.good_ok | with_reducible refine BusOut.good_of_ok ?_ (by with_reducible assumption) | with_reducible apply BusOut.good_err | with_reducible refine BusOut.good_of_err ?_ (by with_reducible assumption) | with_reducible apply BusOut.good_ref | with_reducible refine BusOut.good_of_ref ?_ (by with_reducible assumption) | with_reducible apply BusOut.good_wait | with_reducible refine BusOut.good_eq ?_ (by with_reducible assumption) | with_reducible apply Fin'.good_done | with_reducible refine Fin'.good_of_done ?_ (by with_reducible assumption) | with_reducible apply Fin'.good_wait | with_reducible refine Fin'.good_eq ?_ (by with_reducible assumption) | with_reducible refine good_p1 ?_ (by with_reducible assumption) | dsimp only | with_reducible refine good_ite ?_ ?_ | split | intro _ | with_reducible apply good_mk

theorem good_headUnderrun (s : State) (h : Nat) (b : Nat) (Hs : Good s) :
    Good (State.headUnderrun s h b) := by
  unfold State.headUnderrun
  repeat' first | with_reducible assumption | with_reducible apply good_underrun | dsimp only | with_reducible refine good_ite ?_ ?_ | split | intro _ | with_reducible apply good_mk

theorem good_pictureSend (s : State) (h : Nat) (n : Nat) (credit : Bool) (Hs : Good s) :
    Good (State.pictureSend s h n credit) := by
  unfold State.pictureSend
  repeat' first | with_reducible assumption | with_reducible apply good_fcMessage | with_reducible apply good_underrun | with_reducible apply good_weltFlow | with_reducible apply good_modHead | with_reducible refine good_p1 ?_ (by with_reducible assumption) | dsimp only | with_reducible refine good_ite ?_ ?_ | split | intro _ | with_reducible apply good_mk

theorem good_bus_picWrites (b : Bus) (w : Who) (y0 : List (Nat × Nat)) (Hb : Good b.s) :
    (Bus.picWrites b w y0).Good := by
  induction y0 generalizing b w with
  | nil =>
    unfold Bus.picWrites
    repeat' first | with_reducible assumption | with_reducible apply good_bus_write | with_reducible apply BusOut.good_ok | with_reducible refine BusOut.good_of_ok ?_ (by with_reducible assumption) | with_reducible apply BusOut.good_err | with_reducible refine BusOut.good_of_err ?_ (by with_reducible assumption) | with_reducible apply BusOut.good_ref | with_reducible refine BusOut.good_of_ref ?_ (by with_reducible assumption) | with_reducible apply BusOut.good_wait | with_reducible refine BusOut.good_eq ?_ (by with_reducible assumption) | with_reducible apply RunOut.good_ok | with_reducible refine RunOut.good_of_ok ?_ (by with_reducible assumption) | with_reducible apply RunOut.good_wait | with_reducible refine RunOut.good_eq ?_ (by with_reducible assumption) | with_reducible refine good_p1 ?_ (by with_reducible assumption) | dsimp only | with_reducible refine good_ite ?_ ?_ | split | intro _ | with_reducible apply good_mk
  | cons x t ih =>
    unfold Bus.picWrites
    repeat' first | with_reducible assumption | with_reducible apply ih | with_reducible apply good_bus_write | with_reducible apply BusOut.good_ok | with_reducible refine BusOut.good_of_ok ?_ (by with_reducible assumption) | with_reducible apply BusOut.good_err | with_reducible refine BusOut.good_of_err ?_ (by with_reducible assumption) | with_reducible apply BusOut.good_ref | with_reducible refine BusOut.good_of_ref ?_ (by with_reducible assumption) | with_reducible apply BusOut.good_wait | with_reducible refine BusOut.good_eq ?_ (by with_reducible assumption) | with_reducible apply RunOut.good_ok | with_reducible refine RunOut.good_of_ok ?_ (by with_reducible assumption) | with_reducible apply RunOut.good_wait | with_reducible refine RunOut.good_eq ?_ (by with_reducible assumption) | with_reducible refine good_p1 ?_ (by with_reducible assumption) | dsimp only | with_reducible refine good_ite ?_ ?_ | split | intro _ | with_reducible apply good_mk

theorem good_pictureIn (s : State) (e : Env) (Hs : Good s) :
    Good (State.pictureIn s e) := by
  unfold State.pictureIn
  repeat' first | with_reducible assumption | with_reducible refine good_pictureTake ?_ (by with_reducible assumption) | with_reducible apply good_weltDrop | with_reducible apply good_busRow | with_reducible apply good_bus_picWrites | with_reducible apply good_prxProgress | with_reducible apply Fin'.good_done | with_reducible refine Fin'.good_of_done ?_ (by with_reducible assumption) | with_reducible apply Fin'.good_wait | with_reducible refine Fin'.good_eq ?_ (by with_reducible assumption) | with_reducible apply RunOut.good_ok | with_reducible refine RunOut.good_of_ok ?_ (by with_reducible assumption) | with_reducible apply RunOut.good_wait | with_reducible refine RunOut.good_eq ?_ (by with_reducible assumption) | with_reducible refine good_p1 ?_ (by with_reducible assumption) | dsimp only | with_reducible refine good_ite ?_ ?_ | split | intro _ | with_reducible apply good_mk

theorem good_trainingDone (s : State) (rate : Nat) (fail : Nat) (eyes : List (Nat × Nat)) (Hs : Good s) :
    Good (State.trainingDone s rate fail eyes) := by
  unfold State.trainingDone
  repeat' first | with_reducible assumption | with_reducible apply good_endTraining | dsimp only | with_reducible refine good_ite ?_ ?_ | split | intro _ | with_reducible apply good_mk

theorem good_memTemp (s : State) (hot : Nat) (Hs : Good s) :
    Good (State.memTemp s hot) := by
  unfold State.memTemp
  repeat' first | with_reducible assumption | with_reducible apply good_setB | with_reducible refine good_foldl ?_ ?_ | dsimp only | with_reducible refine good_ite ?_ ?_ | split | intro _ | with_reducible apply good_mk

theorem good_memRetrain (s : State) (c : Nat) (eye : Nat) (Hs : Good s) :
    Good (State.memRetrain s c eye) := by
  unfold State.memRetrain
  repeat' first | with_reducible assumption | with_reducible apply good_set | dsimp only | with_reducible refine good_ite ?_ ?_ | split | intro _ | with_reducible apply good_mk

theorem good_eccInit (s : State) (n : Nat) (Hs : Good s) :
    Good (State.eccInit s n) := by
  unfold State.eccInit
  repeat' first | with_reducible assumption | with_reducible apply good_set | dsimp only | with_reducible refine good_ite ?_ ?_ | split | intro _ | with_reducible apply good_mk

theorem good_poolGrant (s : State) (k : Nat) (Hs : Good s) :
    Good (State.poolGrant s k) := by
  unfold State.poolGrant
  repeat' first | with_reducible assumption | with_reducible apply good_poolServed | with_reducible apply good_poolTake | dsimp only | with_reducible refine good_ite ?_ ?_ | split | intro _ | with_reducible apply good_mk

theorem good_msixIssue (s : State) (v : Nat) (Hs : Good s) :
    Good (State.msixIssue s v) := by
  unfold State.msixIssue
  repeat' first | with_reducible assumption | with_reducible apply good_modEp | with_reducible apply good_msixSend | with_reducible apply good_msixPending | with_reducible apply good_acceptHost | with_reducible refine good_p1 ?_ (by with_reducible assumption) | dsimp only | with_reducible refine good_ite ?_ ?_ | split | intro _ | with_reducible apply good_mk

theorem good_holdoffEnd (s : State) (g : Nat) (Hs : Good s) :
    Good (State.holdoffEnd s g) := by
  unfold State.holdoffEnd
  repeat' first | with_reducible assumption | with_reducible apply good_set | dsimp only | with_reducible refine good_ite ?_ ?_ | split | intro _ | with_reducible apply good_mk

theorem good_compareFire (s : State) (k : Nat) (Hs : Good s) :
    Good (State.compareFire s k) := by
  unfold State.compareFire
  repeat' first | with_reducible assumption | with_reducible apply good_fireCmp | dsimp only | with_reducible refine good_ite ?_ ?_ | split | intro _ | with_reducible apply good_mk

theorem good_syncLoss (s : State) (Hs : Good s) :
    Good (State.syncLoss s) := by
  unfold State.syncLoss
  repeat' first | with_reducible assumption | with_reducible apply good_timeHoldover | with_reducible refine good_p1 ?_ (by with_reducible assumption) | dsimp only | with_reducible refine good_ite ?_ ?_ | split | intro _ | with_reducible apply good_mk

theorem good_oscFail (s : State) (Hs : Good s) :
    Good (State.oscFail s) := by
  unfold State.oscFail
  repeat' first | with_reducible assumption | with_reducible apply good_set | dsimp only | with_reducible refine good_ite ?_ ?_ | split | intro _ | with_reducible apply good_mk

theorem good_fuseEnd (s : State) (Hs : Good s) :
    Good (State.fuseEnd s) := by
  unfold State.fuseEnd
  repeat' first | with_reducible assumption | with_reducible apply good_fuseDone | with_reducible apply good_assertReset | with_reducible refine good_foldl ?_ ?_ | dsimp only | with_reducible refine good_ite ?_ ?_ | split | intro _ | with_reducible apply good_mk

theorem good_stopEnd (s : State) (Hs : Good s) :
    Good (State.stopEnd s) := by
  unfold State.stopEnd
  repeat' first | with_reducible assumption | with_reducible apply good_resetEvent | dsimp only | with_reducible refine good_ite ?_ ?_ | split | intro _ | with_reducible apply good_mk

theorem good_wakeEvent (s : State) (w : WakeSrc) (Hs : Good s) :
    Good (State.wakeEvent s w) := by
  unfold State.wakeEvent
  repeat' first | with_reducible assumption | with_reducible apply good_wake | with_reducible refine good_p1 ?_ (by with_reducible assumption) | dsimp only | with_reducible refine good_ite ?_ ?_ | split | intro _ | with_reducible apply good_mk

theorem good_perstEvent (s : State) (asserted : Bool) (Hs : Good s) :
    Good (State.perstEvent s asserted) := by
  unfold State.perstEvent
  repeat' first | with_reducible assumption | with_reducible apply good_perst | dsimp only | with_reducible refine good_ite ?_ ?_ | split | intro _ | with_reducible apply good_mk

theorem good_hpdOn (s : State) (p : Nat) (Hs : Good s) :
    Good (State.hpdOn s p) := by
  unfold State.hpdOn
  repeat' first | with_reducible assumption | with_reducible apply good_hpdRise | dsimp only | with_reducible refine good_ite ?_ ?_ | split | intro _ | with_reducible apply good_mk

theorem good_hpdPulse (s : State) (p : Nat) (lost : Bool) (Hs : Good s) :
    Good (State.hpdPulse s p lost) := by
  unfold State.hpdPulse
  repeat' first | with_reducible assumption | with_reducible apply good_hpdIrq | dsimp only | with_reducible refine good_ite ?_ ?_ | split | intro _ | with_reducible apply good_mk

theorem good_refEdge (s : State) (h : Nat) (rising : Bool) (err : Int) (ival : Nat) (Hs : Good s) :
    Good (State.refEdge s h rising err ival) := by
  unfold State.refEdge
  repeat' first | with_reducible assumption | with_reducible apply good_refEvent | with_reducible refine good_p1 ?_ (by with_reducible assumption) | dsimp only | with_reducible refine good_ite ?_ ?_ | split | intro _ | with_reducible apply good_mk

theorem good_captureEdge (s : State) (trig : Nat) (rising : Bool) (Hs : Good s) :
    Good (State.captureEdge s trig rising) := by
  unfold State.captureEdge
  repeat' first | with_reducible assumption | with_reducible apply good_captureTrig | dsimp only | with_reducible refine good_ite ?_ ?_ | split | intro _ | with_reducible apply good_mk

theorem good_latchEvent (s : State) (mask : Nat) (e : Env) (Hs : Good s) :
    Good (State.latchEvent s mask e) := by
  unfold State.latchEvent
  repeat' first | with_reducible assumption | with_reducible apply good_wbDrain | with_reducible apply good_latchPoint | with_reducible apply good_pwmStart | with_reducible refine good_foldl ?_ ?_ | dsimp only | with_reducible refine good_ite ?_ ?_ | split | intro _ | with_reducible apply good_mk

theorem good_framingHeard (s : State) (Hs : Good s) :
    Good (State.framingHeard s) := by
  unfold State.framingHeard
  repeat' first | with_reducible assumption | with_reducible apply good_framingError | dsimp only | with_reducible refine good_ite ?_ ?_ | split | intro _ | with_reducible apply good_mk

theorem good_dbgUnknown (s : State) (op : Nat) (crcOk : Bool) (Hs : Good s) :
    Good (State.dbgUnknown s op crcOk) := by
  unfold State.dbgUnknown
  repeat' first | with_reducible assumption | with_reducible apply good_dbgFrame | with_reducible apply good_dbgAnswer | dsimp only | with_reducible refine good_ite ?_ ?_ | split | intro _ | with_reducible apply good_mk

end Sys2Proof.Machine
end

