-- ==== Sys2Proof/Laws/Kept.lean ====
section
/-! SUPPORT. What the reactions after a command leave alone: memory, the time base, the reset state, the fuses, the trust
state, the cores, the eyelets, the peripherals, the debug port, the queue, the draws of free values and the answer of the last
access. -/
namespace Sys2Proof.Machine

/-- `s` holds the parts of `s₀` that the reactions leave alone. -/
def Kept (s₀ s : State) : Prop :=
  s.mem = s₀.mem ∧ s.bus = s₀.bus ∧ s.pending = s₀.pending ∧ s.fresh = s₀.fresh ∧ s.time = s₀.time ∧
  s.rst = s₀.rst ∧ s.fuses = s₀.fuses ∧ s.sec = s₀.sec ∧ s.cores = s₀.cores ∧
  s.eyes = s₀.eyes ∧ s.pers = s₀.pers ∧ s.dbg = s₀.dbg

theorem kept_refl (s : State) : Kept s s := by simp [Kept]

theorem kept_mk {s₀ : State} (s : State) (v_regs v_hub v_icu v_pace v_last v_pict v_fetch v_lanes v_welt v_tongue v_move v_audio v_panel) (hs : Kept s₀ s) :
    Kept s₀ (State.mk v_regs s.mem s.bus s.pending s.fresh v_hub v_icu s.time s.rst v_pace v_last v_pict v_fetch v_lanes v_welt v_tongue s.fuses s.sec s.cores v_move v_audio v_panel s.eyes s.pers s.dbg) := hs

theorem kept_ite {s₀ : State} {c : Prop} [Decidable c] {a b : State} (ha : Kept s₀ a) (hb : Kept s₀ b) : Kept s₀ (if c then a else b) := by
  split
  · exact ha
  · exact hb

theorem kept_foldl {s₀ : State} {α : Type} {f : State → α → State} {l : List α} {s : State} (hf : ∀ a x, Kept s₀ a → Kept s₀ (f a x))
    (hs : Kept s₀ s) : Kept s₀ (l.foldl f s) := by
  induction l generalizing s with
  | nil => exact hs
  | cons x l ih => exact ih (hf s x hs)

theorem kept_p1 {s₀ : State} {α : Type} {x : State × α} {s : State} {a : α} (h : Kept s₀ x.1) (e : x = (s, a)) : Kept s₀ s := by
  subst e; exact h

theorem kept_setReg {s₀ : State} (s : State) (k : Nat) (v : RegVal) (Hs : Kept s₀ s) : Kept s₀ (s.setReg k v) := Hs

theorem kept_set {s₀ : State} (s : State) (f : Fd) (x : Nat) (Hs : Kept s₀ s) :
    Kept s₀ (State.set s f x) := by
  unfold State.set
  repeat' first | with_reducible assumption | with_reducible apply kept_setReg | dsimp only | with_reducible refine kept_ite ?_ ?_ | split | intro _ | with_reducible apply kept_mk

theorem kept_setB {s₀ : State} (s : State) (f : Fd) (b : Bool) (Hs : Kept s₀ s) :
    Kept s₀ (State.setB s f b) := by
  unfold State.setB
  repeat' first | with_reducible assumption | with_reducible apply kept_set | dsimp only | with_reducible refine kept_ite ?_ ?_ | split | intro _ | with_reducible apply kept_mk

theorem kept_bump {s₀ : State} (s : State) (f : Fd) (top : Nat) (Hs : Kept s₀ s) :
    Kept s₀ (State.bump s f top) := by
  unfold State.bump
  repeat' first | with_reducible assumption | with_reducible apply kept_set | dsimp only | with_reducible refine kept_ite ?_ ?_ | split | intro _ | with_reducible apply kept_mk

theorem kept_setRegN {s₀ : State} (s : State) (k : Nat) (v : Nat) (Hs : Kept s₀ s) :
    Kept s₀ (State.setRegN s k v) := by
  unfold State.setRegN
  repeat' first | with_reducible assumption | with_reducible apply kept_setReg | dsimp only | with_reducible refine kept_ite ?_ ?_ | split | intro _ | with_reducible apply kept_mk

theorem kept_raise {s₀ : State} (s : State) (n : Nat) (Hs : Kept s₀ s) :
    Kept s₀ (State.raise s n) := by
  unfold State.raise
  repeat' first | with_reducible assumption | dsimp only | with_reducible refine kept_ite ?_ ?_ | split | intro _ | with_reducible apply kept_mk

theorem kept_emptyStack {s₀ : State} (s : State) (n : Nat) (Hs : Kept s₀ s) :
    Kept s₀ (State.emptyStack s n) := by
  unfold State.emptyStack
  repeat' first | with_reducible assumption | dsimp only | with_reducible refine kept_ite ?_ ?_ | split | intro _ | with_reducible apply kept_mk

theorem kept_coreFaulted {s₀ : State} (s : State) (n : Nat) (Hs : Kept s₀ s) :
    Kept s₀ (State.coreFaulted s n) := by
  unfold State.coreFaulted
  repeat' first | with_reducible assumption | with_reducible apply kept_set | with_reducible apply kept_emptyStack | dsimp only | with_reducible refine kept_ite ?_ ?_ | split | intro _ | with_reducible apply kept_mk

theorem kept_setPortState {s₀ : State} (s : State) (p : Nat) (st : Nat) (Hs : Kept s₀ s) :
    Kept s₀ (State.setPortState s p st) := by
  unfold State.setPortState
  repeat' first | with_reducible assumption | with_reducible apply kept_set | with_reducible apply kept_raise | dsimp only | with_reducible refine kept_ite ?_ ?_ | split | intro _ | with_reducible apply kept_mk

theorem kept_dpAbandon {s₀ : State} (s : State) (p : Nat) (Hs : Kept s₀ s) :
    Kept s₀ (State.dpAbandon s p) := by
  unfold State.dpAbandon
  repeat' first | with_reducible assumption | dsimp only | with_reducible refine kept_ite ?_ ?_ | split | intro _ | with_reducible apply kept_mk

theorem kept_lockLost {s₀ : State} (s : State) (n : Nat) (Hs : Kept s₀ s) :
    Kept s₀ (State.lockLost s n) := by
  unfold State.lockLost
  repeat' first | with_reducible assumption | with_reducible apply kept_set | dsimp only | with_reducible refine kept_ite ?_ ?_ | split | intro _ | with_reducible apply kept_mk

theorem kept_setTaps {s₀ : State} (s : State) (n : Nat) (t : Nat × Nat × Nat) (Hs : Kept s₀ s) :
    Kept s₀ (State.setTaps s n t) := by
  unfold State.setTaps
  repeat' first | with_reducible assumption | with_reducible apply kept_set | with_reducible refine kept_p1 ?_ (by with_reducible assumption) | dsimp only | with_reducible refine kept_ite ?_ ?_ | split | intro _ | with_reducible apply kept_mk

theorem kept_lanesIdle {s₀ : State} (s : State) (p : Nat) (Hs : Kept s₀ s) :
    Kept s₀ (State.lanesIdle s p) := by
  unfold State.lanesIdle
  repeat' first | with_reducible assumption | with_reducible apply kept_lockLost | with_reducible apply kept_set | with_reducible apply kept_setTaps | with_reducible refine kept_foldl ?_ ?_ | dsimp only | with_reducible refine kept_ite ?_ ?_ | split | intro _ | with_reducible apply kept_mk

theorem kept_dpForget {s₀ : State} (s : State) (p : Nat) (Hs : Kept s₀ s) :
    Kept s₀ (State.dpForget s p) := by
  unfold State.dpForget
  repeat' first | with_reducible assumption | with_reducible apply kept_set | with_reducible refine kept_foldl ?_ ?_ | dsimp only | with_reducible refine kept_ite ?_ ?_ | split | intro _ | with_reducible apply kept_mk

theorem kept_pcieGone {s₀ : State} (s : State) (Hs : Kept s₀ s) :
    Kept s₀ (State.pcieGone s) := by
  unfold State.pcieGone
  repeat' first | with_reducible assumption | with_reducible apply kept_set | with_reducible apply kept_lanesIdle | dsimp only | with_reducible refine kept_ite ?_ ?_ | split | intro _ | with_reducible apply kept_mk

theorem kept_laceStops {s₀ : State} (s : State) (ch : Nat) (st : Nat) (Hs : Kept s₀ s) :
    Kept s₀ (State.laceStops s ch st) := by
  unfold State.laceStops
  repeat' first | with_reducible assumption | with_reducible apply kept_set | with_reducible apply kept_raise | dsimp only | with_reducible refine kept_ite ?_ ?_ | split | intro _ | with_reducible apply kept_mk

theorem kept_skiverStops {s₀ : State} (s : State) (st : Nat) (Hs : Kept s₀ s) :
    Kept s₀ (State.skiverStops s st) := by
  unfold State.skiverStops
  repeat' first | with_reducible assumption | with_reducible apply kept_set | with_reducible apply kept_raise | dsimp only | with_reducible refine kept_ite ?_ ?_ | split | intro _ | with_reducible apply kept_mk

theorem kept_cutChannels {s₀ : State} (s : State) (cs : List Nat) (Hs : Kept s₀ s) :
    Kept s₀ (State.cutChannels s cs) := by
  unfold State.cutChannels
  repeat' first | with_reducible assumption | with_reducible refine kept_foldl ?_ ?_ | dsimp only | with_reducible refine kept_ite ?_ ?_ | split | intro _ | with_reducible apply kept_mk

theorem kept_uncheckRects {s₀ : State} (s : State) (h : Nat) (Hs : Kept s₀ s) :
    Kept s₀ (State.uncheckRects s h) := by
  unfold State.uncheckRects
  repeat' first | with_reducible assumption | dsimp only | with_reducible refine kept_ite ?_ ?_ | split | intro _ | with_reducible apply kept_mk

theorem kept_soundMute {s₀ : State} (s : State) (Hs : Kept s₀ s) :
    Kept s₀ (State.soundMute s) := by
  unfold State.soundMute
  repeat' first | with_reducible assumption | dsimp only | with_reducible refine kept_ite ?_ ?_ | split | intro _ | with_reducible apply kept_mk

theorem kept_soundStops {s₀ : State} (s : State) (Hs : Kept s₀ s) :
    Kept s₀ (State.soundStops s) := by
  unfold State.soundStops
  repeat' first | with_reducible assumption | with_reducible apply kept_soundMute | dsimp only | with_reducible refine kept_ite ?_ ?_ | split | intro _ | with_reducible apply kept_mk

theorem kept_onFence {s₀ : State} (s : State) (u : Nat) (Hs : Kept s₀ s) :
    Kept s₀ (State.onFence s u) := by
  unfold State.onFence
  repeat' first | with_reducible assumption | with_reducible apply kept_uncheckRects | with_reducible apply kept_dpAbandon | with_reducible apply kept_lanesIdle | with_reducible apply kept_dpForget | with_reducible apply kept_setPortState | with_reducible apply kept_pcieGone | with_reducible apply kept_coreFaulted | with_reducible apply kept_laceStops | with_reducible apply kept_skiverStops | with_reducible apply kept_soundStops | with_reducible apply kept_cutChannels | with_reducible apply kept_set | with_reducible refine kept_p1 ?_ (by with_reducible assumption) | dsimp only | with_reducible refine kept_ite ?_ ?_ | split | intro _ | with_reducible apply kept_mk

theorem kept_portEnters {s₀ : State} (s : State) (p : Nat) (Hs : Kept s₀ s) :
    Kept s₀ (State.portEnters s p) := by
  unfold State.portEnters
  repeat' first | with_reducible assumption | with_reducible apply kept_setPortState | with_reducible apply kept_set | with_reducible refine kept_p1 ?_ (by with_reducible assumption) | with_reducible refine kept_foldl_p1 ?_ ?_ | with_reducible refine kept_foldl ?_ ?_ | dsimp only | with_reducible refine kept_ite ?_ ?_ | split | intro _ | with_reducible apply kept_mk

theorem kept_onLift {s₀ : State} (s : State) (u : Nat) (Hs : Kept s₀ s) :
    Kept s₀ (State.onLift s u) := by
  unfold State.onLift
  repeat' first | with_reducible assumption | with_reducible apply kept_setPortState | with_reducible apply kept_set | with_reducible apply kept_portEnters | with_reducible apply kept_laceStops | with_reducible apply kept_skiverStops | with_reducible refine kept_p1 ?_ (by with_reducible assumption) | dsimp only | with_reducible refine kept_ite ?_ ?_ | split | intro _ | with_reducible apply kept_mk

theorem kept_withReacting {s₀ : State} (s : State) (r : List (Nat × Nat)) (Hs : Kept s₀ s) :
    Kept s₀ (State.withReacting s r) := by
  unfold State.withReacting
  repeat' first | with_reducible assumption | with_reducible apply kept_onFence | with_reducible apply kept_onLift | with_reducible refine kept_foldl ?_ ?_ | dsimp only | with_reducible refine kept_ite ?_ ?_ | split | intro _ | with_reducible apply kept_mk

theorem kept_logRecord {s₀ : State} (s : State) (r : FaultRec) (Hs : Kept s₀ s) :
    Kept s₀ (State.logRecord s r) := by
  unfold State.logRecord
  repeat' first | with_reducible assumption | with_reducible apply kept_bump | with_reducible refine kept_p1 ?_ (by with_reducible assumption) | dsimp only | with_reducible refine kept_ite ?_ ?_ | split | intro _ | with_reducible apply kept_mk

theorem kept_react {s₀ : State} (s : State) (r : FaultRec) (Hs : Kept s₀ s) :
    Kept s₀ (State.react s r) := by
  unfold State.react
  repeat' first | with_reducible assumption | with_reducible apply kept_withReacting | dsimp only | with_reducible refine kept_ite ?_ ?_ | split | intro _ | with_reducible apply kept_mk

theorem kept_reportG {s₀ : State} (s : State) (u : Nat) (code : Nat) (base : Nat) (detail : Nat) (forced : Bool) (real : Bool) (Hs : Kept s₀ s) :
    Kept s₀ (State.reportG s u code base detail forced real) := by
  unfold State.reportG
  repeat' first | with_reducible assumption | with_reducible apply kept_logRecord | with_reducible apply kept_react | dsimp only | with_reducible refine kept_ite ?_ ?_ | split | intro _ | with_reducible apply kept_mk

theorem kept_report {s₀ : State} (s : State) (u : Nat) (code : Nat) (base : Nat) (detail : Nat) (Hs : Kept s₀ s) :
    Kept s₀ (State.report s u code base detail) := by
  unfold State.report
  repeat' first | with_reducible assumption | with_reducible apply kept_reportG | dsimp only | with_reducible refine kept_ite ?_ ?_ | split | intro _ | with_reducible apply kept_mk

theorem kept_putReply {s₀ : State} (s : State) (r : Req) (ws : List Nat) (first : Bool) (Hs : Kept s₀ s) :
    Kept s₀ (State.putReply s r ws first) := by
  unfold State.putReply
  repeat' first | with_reducible assumption | dsimp only | with_reducible refine kept_ite ?_ ?_ | split | intro _ | with_reducible apply kept_mk

theorem kept_answer {s₀ : State} (s : State) (r : Req) (status : Nat) (body : List Nat) (Hs : Kept s₀ s) :
    Kept s₀ (State.answer s r status body) := by
  unfold State.answer
  repeat' first | with_reducible assumption | with_reducible apply kept_putReply | dsimp only | with_reducible refine kept_ite ?_ ?_ | split | intro _ | with_reducible apply kept_mk

theorem kept_slotName {s₀ : State} (s : State) (n : Nat) (Hs : Kept s₀ s) :
    Kept s₀ (State.slotName s n) := by
  unfold State.slotName
  repeat' first | with_reducible assumption | with_reducible apply kept_set | dsimp only | with_reducible refine kept_ite ?_ ?_ | split | intro _ | with_reducible apply kept_mk

theorem kept_setSlot {s₀ : State} (s : State) (n : Nat) (st : Nat) (Hs : Kept s₀ s) :
    Kept s₀ (State.setSlot s n st) := by
  unfold State.setSlot
  repeat' first | with_reducible assumption | with_reducible apply kept_set | with_reducible apply kept_slotName | dsimp only | with_reducible refine kept_ite ?_ ?_ | split | intro _ | with_reducible apply kept_mk

theorem kept_admitRegs {s₀ : State} (s : State) (slot : Nat) (f : Option AdmitFail) (Hs : Kept s₀ s) :
    Kept s₀ (State.admitRegs s slot f) := by
  unfold State.admitRegs
  repeat' first | with_reducible assumption | with_reducible apply kept_setRegN | dsimp only | with_reducible refine kept_ite ?_ ?_ | split | intro _ | with_reducible apply kept_mk

theorem kept_admitReply {s₀ : State} (s : State) (r : Req) (f : Option AdmitFail) (Hs : Kept s₀ s) :
    Kept s₀ (State.admitReply s r f) := by
  unfold State.admitReply
  repeat' first | with_reducible assumption | with_reducible apply kept_answer | dsimp only | with_reducible refine kept_ite ?_ ?_ | split | intro _ | with_reducible apply kept_mk

theorem kept_admitWith {s₀ : State} (s : State) (slot : Nat) (r : Req) (f : Option AdmitFail) (Hs : Kept s₀ s) :
    Kept s₀ (State.admitWith s slot r f) := by
  unfold State.admitWith
  repeat' first | with_reducible assumption | with_reducible apply kept_admitRegs | with_reducible apply kept_setSlot | with_reducible apply kept_admitReply | with_reducible refine kept_p1 ?_ (by with_reducible assumption) | dsimp only | with_reducible refine kept_ite ?_ ?_ | split | intro _ | with_reducible apply kept_mk

theorem kept_lastSettle {s₀ : State} (s : State) (Hs : Kept s₀ s) :
    Kept s₀ (State.lastSettle s) := by
  unfold State.lastSettle
  repeat' first | with_reducible assumption | with_reducible apply kept_admitWith | with_reducible refine kept_p1 ?_ (by with_reducible assumption) | dsimp only | with_reducible refine kept_ite ?_ ?_ | split | intro _ | with_reducible apply kept_mk

theorem kept_setHead {s₀ : State} (s : State) (h : Nat) (v : HeadS) (Hs : Kept s₀ s) :
    Kept s₀ (State.setHead s h v) := by
  unfold State.setHead
  repeat' first | with_reducible assumption | dsimp only | with_reducible refine kept_ite ?_ ?_ | split | intro _ | with_reducible apply kept_mk

theorem kept_modHead {s₀ : State} (s : State) (h : Nat) (f : HeadS → HeadS) (Hs : Kept s₀ s) :
    Kept s₀ (State.modHead s h f) := by
  unfold State.modHead
  repeat' first | with_reducible assumption | with_reducible apply kept_setHead | dsimp only | with_reducible refine kept_ite ?_ ?_ | split | intro _ | with_reducible apply kept_mk

theorem kept_setSole {s₀ : State} (s : State) (n : Nat) (v : SoleS) (Hs : Kept s₀ s) :
    Kept s₀ (State.setSole s n v) := by
  unfold State.setSole
  repeat' first | with_reducible assumption | dsimp only | with_reducible refine kept_ite ?_ ?_ | split | intro _ | with_reducible apply kept_mk

theorem kept_modSole {s₀ : State} (s : State) (n : Nat) (f : SoleS → SoleS) (Hs : Kept s₀ s) :
    Kept s₀ (State.modSole s n f) := by
  unfold State.modSole
  repeat' first | with_reducible assumption | with_reducible apply kept_setSole | dsimp only | with_reducible refine kept_ite ?_ ?_ | split | intro _ | with_reducible apply kept_mk

theorem kept_modPace {s₀ : State} (s : State) (f : PaceS → PaceS) (Hs : Kept s₀ s) :
    Kept s₀ (State.modPace s f) := by
  unfold State.modPace
  repeat' first | with_reducible assumption | dsimp only | with_reducible refine kept_ite ?_ ?_ | split | intro _ | with_reducible apply kept_mk

theorem kept_loopIdle {s₀ : State} (s : State) (ph : LoopPhase) (n : Nat) (Hs : Kept s₀ s) :
    Kept s₀ (State.loopIdle s ph n) := by
  unfold State.loopIdle
  repeat' first | with_reducible assumption | with_reducible apply kept_modPace | with_reducible apply kept_set | dsimp only | with_reducible refine kept_ite ?_ ?_ | split | intro _ | with_reducible apply kept_mk

theorem kept_loopOff {s₀ : State} (s : State) (Hs : Kept s₀ s) :
    Kept s₀ (State.loopOff s) := by
  unfold State.loopOff
  repeat' first | with_reducible assumption | with_reducible apply kept_loopIdle | with_reducible apply kept_set | with_reducible apply kept_modPace | dsimp only | with_reducible refine kept_ite ?_ ?_ | split | intro _ | with_reducible apply kept_mk

theorem kept_loopSettle {s₀ : State} (s : State) (Hs : Kept s₀ s) :
    Kept s₀ (State.loopSettle s) := by
  unfold State.loopSettle
  repeat' first | with_reducible assumption | with_reducible apply kept_modPace | with_reducible apply kept_loopOff | with_reducible refine kept_p1 ?_ (by with_reducible assumption) | dsimp only | with_reducible refine kept_ite ?_ ?_ | split | intro _ | with_reducible apply kept_mk

theorem kept_modWelt {s₀ : State} (s : State) (f : WeltS → WeltS) (Hs : Kept s₀ s) :
    Kept s₀ (State.modWelt s f) := by
  unfold State.modWelt
  repeat' first | with_reducible assumption | dsimp only | with_reducible refine kept_ite ?_ ?_ | split | intro _ | with_reducible apply kept_mk

theorem kept_weltCount {s₀ : State} (s : State) (p : Nat) (k : Nat) (Hs : Kept s₀ s) :
    Kept s₀ (State.weltCount s p k) := by
  unfold State.weltCount
  repeat' first | with_reducible assumption | with_reducible apply kept_bump | dsimp only | with_reducible refine kept_ite ?_ ?_ | split | intro _ | with_reducible apply kept_mk

theorem kept_weltDrop {s₀ : State} (s : State) (p : Option Nat) (reason : Nat) (Hs : Kept s₀ s) :
    Kept s₀ (State.weltDrop s p reason) := by
  unfold State.weltDrop
  repeat' first | with_reducible assumption | with_reducible apply kept_weltCount | with_reducible apply kept_modWelt | with_reducible apply kept_report | with_reducible refine kept_p1 ?_ (by with_reducible assumption) | dsimp only | with_reducible refine kept_ite ?_ ?_ | split | intro _ | with_reducible apply kept_mk

theorem kept_fcMessage {s₀ : State} (s : State) (c : Nat) (first : Bool) (last : Bool) (Hs : Kept s₀ s) :
    Kept s₀ (State.fcMessage s c first last) := by
  unfold State.fcMessage
  repeat' first | with_reducible assumption | with_reducible apply kept_modWelt | dsimp only | with_reducible refine kept_ite ?_ ?_ | split | intro _ | with_reducible apply kept_mk

theorem kept_fcBoundary {s₀ : State} (s : State) (pkt : WeltPkt) (Hs : Kept s₀ s) :
    Kept s₀ (State.fcBoundary s pkt) := by
  unfold State.fcBoundary
  repeat' first | with_reducible assumption | with_reducible apply kept_fcMessage | dsimp only | with_reducible refine kept_ite ?_ ?_ | split | intro _ | with_reducible apply kept_mk

theorem kept_weltQueue {s₀ : State} (s : State) (p : Nat) (o : OutP) (Hs : Kept s₀ s) :
    Kept s₀ (State.weltQueue s p o) := by
  unfold State.weltQueue
  repeat' first | with_reducible assumption | with_reducible apply kept_modWelt | dsimp only | with_reducible refine kept_ite ?_ ?_ | split | intro _ | with_reducible apply kept_mk

theorem kept_weltForward {s₀ : State} (s : State) (arr : Option Nat) (src : Nat) (pkt : WeltPkt) (Hs : Kept s₀ s) :
    Kept s₀ (State.weltForward s arr src pkt) := by
  unfold State.weltForward
  repeat' first | with_reducible assumption | with_reducible apply kept_weltDrop | with_reducible apply kept_weltQueue | with_reducible refine kept_p1 ?_ (by with_reducible assumption) | dsimp only | with_reducible refine kept_ite ?_ ?_ | split | intro _ | with_reducible apply kept_mk

theorem kept_weltDeliver {s₀ : State} (s : State) (arr : Option Nat) (pkt : WeltPkt) (stamp : Nat) (Hs : Kept s₀ s) :
    Kept s₀ (State.weltDeliver s arr pkt stamp) := by
  unfold State.weltDeliver
  repeat' first | with_reducible assumption | with_reducible apply kept_fcBoundary | with_reducible apply kept_weltDrop | with_reducible apply kept_modWelt | with_reducible apply kept_fcMessage | with_reducible refine kept_p1 ?_ (by with_reducible assumption) | dsimp only | with_reducible refine kept_ite ?_ ?_ | split | intro _ | with_reducible apply kept_mk

theorem kept_weltSend {s₀ : State} (s : State) (pkt : WeltPkt) (Hs : Kept s₀ s) :
    Kept s₀ (State.weltSend s pkt) := by
  unfold State.weltSend
  repeat' first | with_reducible assumption | with_reducible apply kept_weltDeliver | with_reducible apply kept_weltForward | dsimp only | with_reducible refine kept_ite ?_ ?_ | split | intro _ | with_reducible apply kept_mk

theorem kept_weltFlow {s₀ : State} (s : State) (c : Nat) (kind : Nat) (dest : Nat) (dflow : Nat) (first : Bool) (last : Bool) (ws : List Nat) (Hs : Kept s₀ s) :
    Kept s₀ (State.weltFlow s c kind dest dflow first last ws) := by
  unfold State.weltFlow
  repeat' first | with_reducible assumption | with_reducible apply kept_modWelt | with_reducible apply kept_weltSend | with_reducible apply kept_fcMessage | dsimp only | with_reducible refine kept_ite ?_ ?_ | split | intro _ | with_reducible apply kept_mk

theorem kept_weltMessage {s₀ : State} (s : State) (c : Nat) (kind : Nat) (dest : Nat) (dflow : Nat) (ps : List (List Nat)) (Hs : Kept s₀ s) :
    Kept s₀ (State.weltMessage s c kind dest dflow ps) := by
  unfold State.weltMessage
  repeat' first | with_reducible assumption | with_reducible apply kept_weltFlow | with_reducible refine kept_foldl ?_ ?_ | dsimp only | with_reducible refine kept_ite ?_ ?_ | split | intro _ | with_reducible apply kept_mk

theorem kept_weltOn {s₀ : State} (s : State) (c : Nat) (ps : List (List Nat)) (Hs : Kept s₀ s) :
    Kept s₀ (State.weltOn s c ps) := by
  unfold State.weltOn
  repeat' first | with_reducible assumption | with_reducible apply kept_weltMessage | dsimp only | with_reducible refine kept_ite ?_ ?_ | split | intro _ | with_reducible apply kept_mk

theorem kept_weltPortLost {s₀ : State} (s : State) (p : Nat) (Hs : Kept s₀ s) :
    Kept s₀ (State.weltPortLost s p) := by
  unfold State.weltPortLost
  repeat' first | with_reducible assumption | with_reducible apply kept_weltDrop | with_reducible apply kept_modWelt | with_reducible refine kept_foldl ?_ ?_ | dsimp only | with_reducible refine kept_ite ?_ ?_ | split | intro _ | with_reducible apply kept_mk

theorem kept_dropBus {s₀ : State} (s : State) (q : Nat) (Hs : Kept s₀ s) :
    Kept s₀ (State.dropBus s q) := by
  unfold State.dropBus
  repeat' first | with_reducible assumption | with_reducible apply kept_modWelt | dsimp only | with_reducible refine kept_ite ?_ ?_ | split | intro _ | with_reducible apply kept_mk

theorem kept_timeHoldover {s₀ : State} (s : State) (Hs : Kept s₀ s) :
    Kept s₀ (State.timeHoldover s) := by
  unfold State.timeHoldover
  repeat' first | with_reducible assumption | with_reducible apply kept_set | with_reducible apply kept_modWelt | with_reducible apply kept_report | dsimp only | with_reducible refine kept_ite ?_ ?_ | split | intro _ | with_reducible apply kept_mk

theorem kept_setPrx {s₀ : State} (s : State) (k : Nat) (v : PrxS) (Hs : Kept s₀ s) :
    Kept s₀ (State.setPrx s k v) := by
  unfold State.setPrx
  repeat' first | with_reducible assumption | dsimp only | with_reducible refine kept_ite ?_ ?_ | split | intro _ | with_reducible apply kept_mk

theorem kept_prxLost {s₀ : State} (s : State) (k : Nat) (from_ : Nat) (Hs : Kept s₀ s) :
    Kept s₀ (State.prxLost s k from_) := by
  unfold State.prxLost
  repeat' first | with_reducible assumption | with_reducible apply kept_set | with_reducible apply kept_setPrx | with_reducible apply kept_report | dsimp only | with_reducible refine kept_ite ?_ ?_ | split | intro _ | with_reducible apply kept_mk

theorem kept_prxPortLost {s₀ : State} (s : State) (p : Nat) (Hs : Kept s₀ s) :
    Kept s₀ (State.prxPortLost s p) := by
  unfold State.prxPortLost
  repeat' first | with_reducible assumption | with_reducible apply kept_prxLost | with_reducible refine kept_foldl ?_ ?_ | dsimp only | with_reducible refine kept_ite ?_ ?_ | split | intro _ | with_reducible apply kept_mk

theorem kept_weltSettle {s₀ : State} (s : State) (Hs : Kept s₀ s) :
    Kept s₀ (State.weltSettle s) := by
  unfold State.weltSettle
  repeat' first | with_reducible assumption | with_reducible apply kept_weltPortLost | with_reducible apply kept_prxPortLost | with_reducible apply kept_timeHoldover | with_reducible refine kept_foldl ?_ ?_ | dsimp only | with_reducible refine kept_ite ?_ ?_ | split | intro _ | with_reducible apply kept_mk

theorem kept_dark {s₀ : State} (s : State) (h : Nat) (y : Nat) (b : Nat) (Hs : Kept s₀ s) :
    Kept s₀ (State.dark s h y b) := by
  unfold State.dark
  repeat' first | with_reducible assumption | with_reducible apply kept_modHead | with_reducible refine kept_p1 ?_ (by with_reducible assumption) | dsimp only | with_reducible refine kept_ite ?_ ?_ | split | intro _ | with_reducible apply kept_mk

theorem kept_headSettle {s₀ : State} (s : State) (h : Nat) (Hs : Kept s₀ s) :
    Kept s₀ (State.headSettle s h) := by
  unfold State.headSettle
  repeat' first | with_reducible assumption | with_reducible apply kept_dark | dsimp only | with_reducible refine kept_ite ?_ ?_ | split | intro _ | with_reducible apply kept_mk

theorem kept_soleSettle {s₀ : State} (s : State) (sl : Nat) (Hs : Kept s₀ s) :
    Kept s₀ (State.soleSettle s sl) := by
  unfold State.soleSettle
  repeat' first | with_reducible assumption | with_reducible apply kept_dark | with_reducible apply kept_modSole | with_reducible refine kept_p1 ?_ (by with_reducible assumption) | with_reducible refine kept_foldl_p1 ?_ ?_ | with_reducible refine kept_foldl ?_ ?_ | dsimp only | with_reducible refine kept_ite ?_ ?_ | split | intro _ | with_reducible apply kept_mk

theorem kept_setArms {s₀ : State} (s : State) (l : List Arm) (Hs : Kept s₀ s) :
    Kept s₀ (State.setArms s l) := by
  unfold State.setArms
  repeat' first | with_reducible assumption | dsimp only | with_reducible refine kept_ite ?_ ?_ | split | intro _ | with_reducible apply kept_mk

theorem kept_cancelArm {s₀ : State} (s : State) (a : Arm) (h : Nat) (Hs : Kept s₀ s) :
    Kept s₀ (State.cancelArm s a h) := by
  unfold State.cancelArm
  repeat' first | with_reducible assumption | with_reducible apply kept_set | with_reducible apply kept_setArms | with_reducible apply kept_answer | with_reducible refine kept_foldl ?_ ?_ | dsimp only | with_reducible refine kept_ite ?_ ?_ | split | intro _ | with_reducible apply kept_mk

theorem kept_armSettle {s₀ : State} (s : State) (Hs : Kept s₀ s) :
    Kept s₀ (State.armSettle s) := by
  unfold State.armSettle
  repeat' first | with_reducible assumption | with_reducible apply kept_cancelArm | with_reducible refine kept_p1 ?_ (by with_reducible assumption) | with_reducible refine kept_foldl_p1 ?_ ?_ | with_reducible refine kept_foldl ?_ ?_ | dsimp only | with_reducible refine kept_ite ?_ ?_ | split | intro _ | with_reducible apply kept_mk

theorem kept_modPanel {s₀ : State} (s : State) (f : PanelS → PanelS) (Hs : Kept s₀ s) :
    Kept s₀ (State.modPanel s f) := by
  unfold State.modPanel
  repeat' first | with_reducible assumption | dsimp only | with_reducible refine kept_ite ?_ ?_ | split | intro _ | with_reducible apply kept_mk

theorem kept_modFe {s₀ : State} (s : State) (n : Nat) (f : FeS → FeS) (Hs : Kept s₀ s) :
    Kept s₀ (State.modFe s n f) := by
  unfold State.modFe
  repeat' first | with_reducible assumption | with_reducible apply kept_modPanel | dsimp only | with_reducible refine kept_ite ?_ ?_ | split | intro _ | with_reducible apply kept_mk

theorem kept_feAbandon {s₀ : State} (s : State) (n : Nat) (Hs : Kept s₀ s) :
    Kept s₀ (State.feAbandon s n) := by
  unfold State.feAbandon
  repeat' first | with_reducible assumption | with_reducible apply kept_modFe | with_reducible apply kept_set | with_reducible apply kept_bump | dsimp only | with_reducible refine kept_ite ?_ ?_ | split | intro _ | with_reducible apply kept_mk

theorem kept_feSettle {s₀ : State} (s : State) (Hs : Kept s₀ s) :
    Kept s₀ (State.feSettle s) := by
  unfold State.feSettle
  repeat' first | with_reducible assumption | with_reducible apply kept_setB | with_reducible apply kept_feAbandon | with_reducible refine kept_foldl ?_ ?_ | dsimp only | with_reducible refine kept_ite ?_ ?_ | split | intro _ | with_reducible apply kept_mk

theorem kept_panelEntry {s₀ : State} (s : State) (detail : Nat) (Hs : Kept s₀ s) :
    Kept s₀ (State.panelEntry s detail) := by
  unfold State.panelEntry
  repeat' first | with_reducible assumption | with_reducible apply kept_raise | with_reducible apply kept_report | dsimp only | with_reducible refine kept_ite ?_ ?_ | split | intro _ | with_reducible apply kept_mk

theorem kept_shankLimits {s₀ : State} (s : State) (Hs : Kept s₀ s) :
    Kept s₀ (State.shankLimits s) := by
  unfold State.shankLimits
  repeat' first | with_reducible assumption | with_reducible apply kept_modPanel | with_reducible apply kept_setB | with_reducible apply kept_panelEntry | dsimp only | with_reducible refine kept_ite ?_ ?_ | split | intro _ | with_reducible apply kept_mk

theorem kept_modHeater {s₀ : State} (s : State) (h : Nat) (f : HeaterS → HeaterS) (Hs : Kept s₀ s) :
    Kept s₀ (State.modHeater s h f) := by
  unfold State.modHeater
  repeat' first | with_reducible assumption | with_reducible apply kept_modPanel | dsimp only | with_reducible refine kept_ite ?_ ?_ | split | intro _ | with_reducible apply kept_mk

theorem kept_thermostat {s₀ : State} (s : State) (h : Nat) (Hs : Kept s₀ s) :
    Kept s₀ (State.thermostat s h) := by
  unfold State.thermostat
  repeat' first | with_reducible assumption | with_reducible apply kept_set | dsimp only | with_reducible refine kept_ite ?_ ?_ | split | intro _ | with_reducible apply kept_mk

theorem kept_shankSettle {s₀ : State} (s : State) (Hs : Kept s₀ s) :
    Kept s₀ (State.shankSettle s) := by
  unfold State.shankSettle
  repeat' first | with_reducible assumption | with_reducible apply kept_modPanel | with_reducible apply kept_setB | with_reducible apply kept_shankLimits | with_reducible apply kept_thermostat | with_reducible apply kept_modHeater | with_reducible refine kept_foldl ?_ ?_ | dsimp only | with_reducible refine kept_ite ?_ ?_ | split | intro _ | with_reducible apply kept_mk

theorem kept_setLace {s₀ : State} (s : State) (n : Nat) (l : LaceS) (Hs : Kept s₀ s) :
    Kept s₀ (State.setLace s n l) := by
  unfold State.setLace
  repeat' first | with_reducible assumption | dsimp only | with_reducible refine kept_ite ?_ ?_ | split | intro _ | with_reducible apply kept_mk

theorem kept_laceClear {s₀ : State} (s : State) (n : Nat) (Hs : Kept s₀ s) :
    Kept s₀ (State.laceClear s n) := by
  unfold State.laceClear
  repeat' first | with_reducible assumption | with_reducible apply kept_setLace | with_reducible apply kept_dropBus | dsimp only | with_reducible refine kept_ite ?_ ?_ | split | intro _ | with_reducible apply kept_mk

theorem kept_setSkiver {s₀ : State} (s : State) (k : SkivS) (Hs : Kept s₀ s) :
    Kept s₀ (State.setSkiver s k) := by
  unfold State.setSkiver
  repeat' first | with_reducible assumption | dsimp only | with_reducible refine kept_ite ?_ ?_ | split | intro _ | with_reducible apply kept_mk

theorem kept_skiverClear {s₀ : State} (s : State) (Hs : Kept s₀ s) :
    Kept s₀ (State.skiverClear s) := by
  unfold State.skiverClear
  repeat' first | with_reducible assumption | with_reducible apply kept_setSkiver | with_reducible apply kept_dropBus | dsimp only | with_reducible refine kept_ite ?_ ?_ | split | intro _ | with_reducible apply kept_mk

theorem kept_skiverEnd {s₀ : State} (s : State) (st : Nat) (err : Nat) (Hs : Kept s₀ s) :
    Kept s₀ (State.skiverEnd s st err) := by
  unfold State.skiverEnd
  repeat' first | with_reducible assumption | with_reducible apply kept_set | with_reducible apply kept_skiverClear | with_reducible apply kept_raise | with_reducible apply kept_skiverStops | dsimp only | with_reducible refine kept_ite ?_ ?_ | split | intro _ | with_reducible apply kept_mk

theorem kept_laceSettle {s₀ : State} (s : State) (Hs : Kept s₀ s) :
    Kept s₀ (State.laceSettle s) := by
  unfold State.laceSettle
  repeat' first | with_reducible assumption | with_reducible apply kept_laceClear | with_reducible refine kept_foldl ?_ ?_ | dsimp only | with_reducible refine kept_ite ?_ ?_ | split | intro _ | with_reducible apply kept_mk

theorem kept_skHeadstop {s₀ : State} (s : State) (Hs : Kept s₀ s) :
    Kept s₀ (State.skHeadstop s) := by
  unfold State.skHeadstop
  repeat' first | with_reducible assumption | with_reducible apply kept_skiverEnd | with_reducible apply kept_report | dsimp only | with_reducible refine kept_ite ?_ ?_ | split | intro _ | with_reducible apply kept_mk

theorem kept_skiverSettle {s₀ : State} (s : State) (Hs : Kept s₀ s) :
    Kept s₀ (State.skiverSettle s) := by
  unfold State.skiverSettle
  repeat' first | with_reducible assumption | with_reducible apply kept_skHeadstop | with_reducible apply kept_skiverClear | dsimp only | with_reducible refine kept_ite ?_ ?_ | split | intro _ | with_reducible apply kept_mk

theorem kept_dropReply {s₀ : State} (s : State) (r : Reply) (Hs : Kept s₀ s) :
    Kept s₀ (State.dropReply s r) := by
  unfold State.dropReply
  repeat' first | with_reducible assumption | dsimp only | with_reducible refine kept_ite ?_ ?_ | split | intro _ | with_reducible apply kept_mk

theorem kept_sendReplies {s₀ : State} (s : State) (Hs : Kept s₀ s) :
    Kept s₀ (State.sendReplies s) := by
  unfold State.sendReplies
  repeat' first | with_reducible assumption | with_reducible apply kept_dropReply | with_reducible apply kept_weltOn | with_reducible refine kept_p1 ?_ (by with_reducible assumption) | with_reducible refine kept_foldl_p1 ?_ ?_ | with_reducible refine kept_foldl ?_ ?_ | dsimp only | with_reducible refine kept_ite ?_ ?_ | split | intro _ | with_reducible apply kept_mk

theorem kept_tongueSettle {s₀ : State} (s : State) (Hs : Kept s₀ s) :
    Kept s₀ (State.tongueSettle s) := by
  unfold State.tongueSettle
  repeat' first | with_reducible assumption | with_reducible apply kept_sendReplies | with_reducible apply kept_setRegN | with_reducible refine kept_p1 ?_ (by with_reducible assumption) | with_reducible refine kept_foldl_p1 ?_ ?_ | with_reducible refine kept_foldl ?_ ?_ | dsimp only | with_reducible refine kept_ite ?_ ?_ | split | intro _ | with_reducible apply kept_mk

theorem kept_settle {s₀ : State} (s : State) (Hs : Kept s₀ s) :
    Kept s₀ (State.settle s) := by
  unfold State.settle
  repeat' first | with_reducible assumption | with_reducible apply kept_soleSettle | with_reducible apply kept_headSettle | with_reducible apply kept_lastSettle | with_reducible apply kept_armSettle | with_reducible apply kept_weltSettle | with_reducible apply kept_loopSettle | with_reducible apply kept_feSettle | with_reducible apply kept_shankSettle | with_reducible apply kept_laceSettle | with_reducible apply kept_skiverSettle | with_reducible apply kept_tongueSettle | with_reducible refine kept_foldl ?_ ?_ | dsimp only | with_reducible refine kept_ite ?_ ?_ | split | intro _ | with_reducible apply kept_mk

end Sys2Proof.Machine
end

