-- ==== Sys2Proof/WellFormed.lean ====
section
/-! DEFINITION. What a command of the outside world can be: the limits of its operands that their types leave open. A
command's meaning does not depend on these checks; claims that need a limit name them. -/
namespace Sys2Proof

/-- A packet has at most 4,095 words (R380). -/
def Packet.ok (p : Packet) : Bool := decide (p.len ≤ 4095)

/-- There is one beam position for each of 16 heads at most. -/
def Env.ok (e : Env) : Bool := decide (e.beam.length ≤ 16)

/-- A Welt packet carries at most 64 payload words (R339). -/
def WeltPkt.ok (p : WeltPkt) : Bool := decide (p.payload.length ≤ 64)

/-- The limits of each command's operands. -/
def Instr.wf : Instr → Bool
  | .regRead _ p e => p.ok && e.ok
  | .regWrite _ p e => p.ok && e.ok
  | .regModify _ p e => p.ok && e.ok
  | .regBurstRead _ p e => p.ok && e.ok
  | .regBurstWrite _ p e => p.ok && e.ok
  | .memRead _ p e => p.ok && e.ok
  | .memWrite _ p e => p.ok && e.ok
  | .echo _ p e => p.ok && e.ok
  | .idleWord _ _ e => e.ok
  | .badOpcode _ _ p e => p.ok && e.ok
  | .commandForward _ _ p e => p.ok && e.ok
  | .forwardTimeout _ => true
  | .commandReplyReceive => true
  | .commandMessageReceive => true
  | .replyWrite _ e => e.ok
  | .ringEnable _ _ _ e => e.ok
  | .ringCprodWrite _ _ _ e => e.ok
  | .ringRconsWrite _ _ _ e => e.ok
  | .serialPacketTimeout _ => true
  | .owndataWrite _ _ e => e.ok
  | .registerWrite _ _ _ e => e.ok
  | .lastStage _ p e => p.ok && e.ok
  | .lastStageCopy _ p e => p.ok && e.ok
  | .lastStageCopyDone _ e => e.ok
  | .lastRelease _ p e => p.ok && e.ok
  | .lastAdmit _ p e => p.ok && e.ok
  | .lastAdmitDone => true
  | .lastHdSelWrite _ _ _ e => e.ok
  | .commitArm _ p e => p.ok && e.ok
  | .commitQuery _ p e => p.ok && e.ok
  | .crcExpect _ p e => p.ok && e.ok
  | .crcExpectClear _ p e => p.ok && e.ok
  | .pictureReport _ p e => p.ok && e.ok
  | .pictureReportSigned _ p e => p.ok && e.ok
  | .signingDone => true
  | .imageVerify _ p e => p.ok && e.ok
  | .imageVerifyLoad _ p e => p.ok && e.ok
  | .imageVerifyDone e => e.ok
  | .programStart _ p e => p.ok && e.ok
  | .programStartDone _ => true
  | .attest _ p e => p.ok && e.ok
  | .faultRead _ p e => p.ok && e.ok
  | .faultAck _ p e => p.ok && e.ok
  | .fltAckWrite _ _ e => e.ok
  | .faultForce _ _ e => e.ok
  | .controlledStopEnd => true
  | .unitResetPulse _ p e => p.ok && e.ok
  | .unitResetHold _ p e => p.ok && e.ok
  | .unitResetRelease _ p e => p.ok && e.ok
  | .unitResetEnd _ _ => true
  | .deviceResetWarm _ p e => p.ok && e.ok
  | .deviceResetCold _ p e => p.ok && e.ok
  | .powerStateRun _ p e => p.ok && e.ok
  | .powerStateDim _ p e => p.ok && e.ok
  | .powerStateNap _ p e => p.ok && e.ok
  | .powerStateStow _ p e => p.ok && e.ok
  | .powerStateOff _ p e => p.ok && e.ok
  | .powerStateDone => true
  | .pwrDomreqWrite _ _ e => e.ok
  | .wakeEvent _ => true
  | .alarmWake => true
  | .sysRoleWrite _ _ e => e.ok
  | .roleChangeDone => true
  | .resetAssert _ => true
  | .resetRelease _ _ => true
  | .supplyWarning _ => true
  | .supplyResetLevel _ => true
  | .oscfail => true
  | .perstN _ => true
  | .pcieInboundAccess _ _ _ _ data _ e => decide (data.length ≤ 1024) && e.ok
  | .pcieLinkDown => true
  | .paceWindowEnd _ _ => true
  | .paceMinclr _ _ _ e => e.ok
  | .slackMinclr _ _ _ e => e.ok
  | .loopEnable _ _ e => e.ok
  | .loopDisable _ _ e => e.ok
  | .vsetWrite _ _ e => e.ok
  | .loopPeriodEnd => true
  | .loopSettleEnd => true
  | .loopHoldEnd => true
  | .pmbusTransactionDone _ _ => true
  | .pmbusTimeout => true
  | .latchPoint _ e => e.ok
  | .spriteSnapshotRead _ _ e => e.ok
  | .lineRelease _ _ e => e.ok
  | .lineListExecute _ e => e.ok
  | .beamEntryIssue _ _ => true
  | .beamEntryLost _ => true
  | .granuleAnswer _ _ _ e => e.ok
  | .stitchRun _ => true
  | .lineDone _ _ => true
  | .soleLineAbandon _ => true
  | .headUnderrun _ _ => true
  | .rectCrcCompare _ _ => true
  | .writebackDrop _ => true
  | .writebackDone _ e => e.ok
  | .picturePacketSend _ _ _ => true
  | .headRun _ _ _ e => e.ok
  | .headStop _ _ _ e => e.ok
  | .referenceEvent _ _ _ _ => true
  | .referenceAbsent _ => true
  | .headFrameRead _ _ e => e.ok
  | .underrunCountClear _ _ _ e => e.ok
  | .poolTackGrant _ => true
  | .fetchPoolWrite _ _ _ e => e.ok
  | .poolPeakClear _ _ _ e => e.ok
  | .soleTackPeakClear _ _ _ e => e.ok
  | .fetchLatencyMaxClear _ _ _ e => e.ok
  | .lineGranulePeakClear _ _ _ e => e.ok
  | .memTrain _ _ e => e.ok
  | .memTrainingDone _ _ eyes => decide (eyes.length ≤ 6)
  | .memDeviceTempRead _ => true
  | .memShortRetrain _ _ => true
  | .memEccWrite _ _ _ e => e.ok
  | .eccInitDone _ => true
  | .portModeWrite _ _ _ e => e.ok
  | .portRetrain _ _ _ e => e.ok
  | .weltTrainingDone _ _ _ _ _ taps => decide (taps.length ≤ 4)
  | .weltTrainingAttempt _ _ _ _ _ taps => decide (taps.length ≤ 4)
  | .laneFail _ _ _ _ => true
  | .manremap _ _ _ e => e.ok
  | .spareFail _ => true
  | .referenceLost => true
  | .referenceRegained => true
  | .dpHpdRise _ => true
  | .dpHpdLow _ => true
  | .dpIrqHpd _ _ => true
  | .dpTrainingDone _ _ _ _ _ taps => decide (taps.length ≤ 4)
  | .eyeScanStart _ _ _ e => e.ok
  | .eyeScanDone _ _ _ => true
  | .weltFrameReceive _ _ _ pkt _ _ => pkt.ok
  | .weltReplay _ _ => true
  | .weltPacketSend _ _ _ => true
  | .tilereqRead e => e.ok
  | .tilereqWrite e => e.ok
  | .tilereqTileread e => e.ok
  | .tileansReceive => true
  | .remoteTimeout _ => true
  | .timeSyncSend => true
  | .timeDreqSend => true
  | .timeSyncReceive => true
  | .timeDreqReceive => true
  | .timeDrespReceive => true
  | .timeSyncLoss => true
  | .weltEpochWrite _ _ e => e.ok
  | .picturePacketReceive e => e.ok
  | .audioMessageReceive => true
  | .sensePacketReceive e => e.ok
  | .bootFlashReadDone copy => decide ((copy.getD []).length ≤ 2048)
  | .bootEntryLoaded flash e => decide ((flash.getD []).length ≤ 2 ^ 32) && e.ok
  | .fuseAdvanceCounter _ _ e => e.ok
  | .fuseRevokeSlot _ _ e => e.ok
  | .fuseProgramSlot _ _ e => e.ok
  | .fuseWriteDone => true
  | .awlNop _ => true
  | .awlMov _ => true
  | .awlLdi _ => true
  | .awlLdhi _ => true
  | .awlRetag _ => true
  | .awlGettag _ => true
  | .awlTtst _ => true
  | .awlAdd _ => true
  | .awlSub _ => true
  | .awlAdc _ => true
  | .awlSbc _ => true
  | .awlCmp _ => true
  | .awlNeg _ => true
  | .awlAddi _ => true
  | .awlCmpi _ => true
  | .awlMul _ => true
  | .awlMulh _ => true
  | .awlDiv _ => true
  | .awlRem _ => true
  | .awlMin _ => true
  | .awlMax _ => true
  | .awlAnd _ => true
  | .awlOr _ => true
  | .awlXor _ => true
  | .awlNot _ => true
  | .awlTst _ => true
  | .awlShl _ => true
  | .awlShr _ => true
  | .awlSar _ => true
  | .awlLd _ e => e.ok
  | .awlSt _ e => e.ok
  | .awlLd2 _ e => e.ok
  | .awlSt2 _ e => e.ok
  | .awlIn _ e => e.ok
  | .awlOut _ e => e.ok
  | .awlBkset _ => true
  | .awlBkget _ => true
  | .awlB _ => true
  | .awlCall _ => true
  | .awlJmp _ => true
  | .awlCallr _ => true
  | .awlRep _ => true
  | .awlLock _ => true
  | .awlUnlock _ => true
  | .awlSetie _ => true
  | .awlWfi _ => true
  | .awlWfiWake _ => true
  | .awlTrap _ => true
  | .awlReti _ => true
  | .awlLockBreak _ => true
  | .irqAccept _ => true
  | .msixIssue _ => true
  | .eoiWrite _ _ _ e => e.ok
  | .claimRead _ _ e => e.ok
  | .holdoffExpiry _ => true
  | .swsetSet _ _ e => e.ok
  | .swsetClr _ _ e => e.ok
  | .timeLoRead _ e => e.ok
  | .timeLoad _ _ e => e.ok
  | .compareWrite _ _ e => e.ok
  | .compareFire _ => true
  | .captureEdge _ _ => true
  | .captureRead _ e => e.ok
  | .watchdogStart _ _ _ e => e.ok
  | .watchdogKick _ _ _ e => e.ok
  | .watchdogForceExpire _ _ _ e => e.ok
  | .watchdogWarning _ => true
  | .watchdogExpiry _ => true
  | .eyeletConfigWrite _ _ e => e.ok
  | .eyeletSet _ _ e => e.ok
  | .eyeletClear _ _ e => e.ok
  | .eyeletEvent _ _ => true
  | .i2cGo _ _ e => e.ok
  | .i2cCommandDone _ _ data _ _ => decide (data.length ≤ 64)
  | .uartRxByte _ _ _ => true
  | .uartTxByte _ _ => true
  | .perdataRead _ e => e.ok
  | .perdataWrite _ _ e => e.ok
  | .paletteWrite _ _ _ _ e => e.ok
  | .lutWrite _ _ _ _ e => e.ok
  | .laceGo _ _ _ e => e.ok
  | .laceAbort _ _ _ e => e.ok
  | .laceDescriptorRead _ e => e.ok
  | .laceBeat _ e => e.ok
  | .laceReadAnswer _ e => e.ok
  | .laceDescriptorDone _ => true
  | .laceTimeout _ => true
  | .skiverGo _ _ e => e.ok
  | .skiverAbort _ _ e => e.ok
  | .skiverCommandRead e => e.ok
  | .skEnd => true
  | .skCopy e => e.ok
  | .skFill e => e.ok
  | .skGlyph e => e.ok
  | .skKeycopy e => e.ok
  | .skWait => true
  | .skJump => true
  | .skiverWaitEnd => true
  | .skiverCommandDone => true
  | .skiverTimeout => true
  | .audioEnable _ _ e => e.ok
  | .audKey _ _ e => e.ok
  | .voiceTableWrite _ _ _ _ e => e.ok
  | .keyEventApply i _ e => decide (i < 64) && e.ok
  | .audioBlockBoundary _ e => e.ok
  | .audioBlockLate _ => true
  | .gainTimeout _ _ e => e.ok
  | .domainSourceLoss _ => true
  | .portClockLoss _ => true
  | .insoleStepSlot _ _ res => decide (res.length ≤ 96)
  | .scanFrameEnd _ e => e.ok
  | .insoleRecal _ _ _ e => e.ok
  | .sensorConversion als th => als.length == 4 && th.length == 8
  | .thermistorStale _ => true
  | .pwmPeriodStart => true
  | .heaterPeriodStart _ => true
  | .heaterOnEnd _ _ => true
  | .heaterOvercurrent _ => true
  | .keepaliveExpiry => true
  | .shankKeep _ _ e => e.ok
  | .tjMaxClear _ _ e => e.ok
  | .dbgId _ pl => decide (pl.length ≤ 65535)
  | .dbgChallenge _ pl => decide (pl.length ≤ 65535)
  | .dbgUnlockPut _ pl => decide (pl.length ≤ 65535)
  | .dbgUnlockCheck _ pl => decide (pl.length ≤ 65535)
  | .dbgRead _ pl e => decide (pl.length ≤ 65535) && e.ok
  | .dbgWrite _ pl e => decide (pl.length ≤ 65535) && e.ok
  | .debugBreak => true
  | .debugFramingError => true
  | .debugFrameGap => true
  | .dbgrstLongLow => true
  | .debugHalt _ _ e => e.ok
  | .haltReached e => e.ok
  | .debugResume _ _ e => e.ok
  | .debugStep _ _ e => e.ok
  | .stepDone => true
  | .stepStall => true
  | .debugRelock _ _ e => e.ok
  | .supplyRecovery _ => true
  | .backupSupplyLoss => true
  | .pcieLinkUp _ _ taps => decide (taps.length ≤ 4)
  | .checkerSync _ _ => true
  | .checkerSyncLoss _ _ => true
  | .serialPartialWord => true
  | .debugUnknownOp _ _ pl => decide (pl.length ≤ 65535)
  | .awlReservedEncoding _ => true
  | .tjUpdate _ => true

end Sys2Proof
end

