-- ==== Sys2Proof/Tests/Slice0.lean ====
section
/-! SUPPORT. Tests: well-formedness refuses what it must, and each statement's hypotheses are met somewhere. -/
namespace Sys2Proof.Tests
open Sys2Proof Sys2Proof.Machine

-- Each test is checked before the next one is read, so that the checks never wait on one another.
set_option Elab.async false

/-! ## Small states -/

def live : State := (({ State.reset with rst := {} } : State).set Fd.PWR_DOMON_ON 0xFFFFF).set Fd.SEC_BOOT_STATE 5
def runnable (h : Nat) : State := (((live.setRegN (Rg.HD_HTIME h) (2200 * 16384 + 1920)).setRegN (Rg.HD_VTIME h) (1125 * 16384 + 1080)).setRegN
  (Rg.HD_START h) (192 * 16384 + 41)).setRegN (Rg.HD_PCLK h) 148500
def awlAt (n a b : Nat) : State := (((live.set (Fd.AWL_STAT_STATE n) 2).setPc n 16).putHalf (localBase n + 64) a).putHalf (localBase n + 66) b
def ready (n src : Nat) : State :=
  let s := ((((awlAt n 0xC000 0xC000).set (Fd.SRC_EN src) 1).set (Fd.SRC_TGT src) n).set (Fd.AWL_STAT_IE n) 1)
  { s with icu := { s.icu with pend := [src] } }
def waiting (n src : Nat) : State := ((ready n src).set (Fd.AWL_STAT_IE n) 0).setCore n { wfi := true }
def host : State := ((live.set (Fd.EY_FUNC 16) 1).set (Fd.EY_FUNC 17) 1).set (Fd.EY_FUNC 18) 1
def pkt (ws : List Nat) : Packet := ⟨9, true, 0, 0, 0, ws.map (BitVec.ofNat 32)⟩
def heardBy (s : State) (src : Src) (op : Nat) (p : Packet) : Bus :=
  match ((s.serialArrive src op p).busOf ⟨[], []⟩).takePacket src op p with
  | .took b => b
  | _ => busOf s ⟨[], []⟩
def ringHost : State := (live.setRegN (Rg.TONGUE_A_RING 1) (2 ^ 27 + sharedBase / 2 ^ 15)).setRegN (Rg.TONGUE_A_CPTR 1) 1
def replyMsg : InP := ⟨some 0, ⟨7, 0, 0, 3, 9, true, true, 0, 3, [0x80000002, 0x00050002, 0#32]⟩, 0⟩
def cmdMsg : InP := ⟨some 0, ⟨7, 0, 0, 3, 9, true, true, 0, 3, [0x8, 0x3F050002, 0#32]⟩, 0⟩
def cmdHost : State := ((((live.set (Fd.FC1_BIND 3) (4 * 16 + 8)).set (Fd.FC0_EN 4) 1).set (Fd.FC0_KIND 4) 7).set (Fd.FC0_DIR 4) 1)
def downEntry : State := { (host.set Fd.SEC_BOOT_STATE 4).set Fd.PWR_DOMON_ON 0xFFFCF with sec := { buf := List.replicate 6 0 ++ [64] ++ List.replicate 9 0 ++ [0x40000000] ++ List.replicate 15 0 } }
def putImg (s : State) (n : Nat) (l : List (Nat × Nat)) : State := l.foldl (fun a p => a.setWord (slotBase n + p.1) p.2) s
def beamImg : List (Nat × Nat) := [(12, 8), (24, 64), (64, 0x30000008), (68, 64 * 65536 + 16), (72, 148500), (76, 32 * 65536 + 4), (80, 8 * 65536 + 4),
  (84, 128), (88, 192), (92, 1), (96, 0xFF000000), (100, 0x7F), (104, 176), (108, 1), (140, 0xFFFF0000), (176, 5), (192, 200), (200, 0x3002000A), (204, 1024), (208, 4),
  (212, 0x80000008), (216, 5 * 1048576 + 2)]
def beamBase : State := ((((((((((putImg (live.setSlot 0 3) 0 beamImg).set (Fd.LAST_HD_SEL_CURV 3) 1).setRegN (activeBase + Rg.HD_HTIME 3) (64 * 16384 + 32)).setRegN
  (activeBase + Rg.HD_VTIME 3) (16 * 16384 + 4)).setRegN (activeBase + Rg.HD_START 3) (8 * 16384 + 4)).setRegN (activeBase + Rg.HD_PCLK 3) 148500).set (Fd.HD_CTL_RUN 3) 1).set
  (Fd.HD_LLSEL_CEN 3) 1)).setRegN (activeBase + Rg.LC_CTL 5) 0xA000000).setRegN (activeBase + Rg.LC_BASE 5) 0x7FFF001
def beamAux : State := beamBase.setRegN (activeBase + Rg.LC_AUX 5) 0x200
def beamState (y : Nat) : State := (beamAux.modHead 3 (fun v => { v with running := true, line := y, inFrame := true })).modSole 3 (fun v => { v with head := 3, line := some y })
def snapState : State := ((beamState 7).set Fd.LAST_SLOTCAP_CAP 4000).modHead 3 (fun v => { v with snap := { range := [0x7FFF002000, 0x7FFF002010], todo := [0x7FFF002000] } })
def listState : State := (beamState 6).modHead 3 (fun v => { v with listWait := [6] })
def picState : State := ((((beamState 7).set (Fd.HD_CTL_OUT 3).act 1).set (Fd.HD_CTL_OUT 3) 1).setRegN (Rg.FC0 70) 0xC800000).setRegN (Rg.FC1 70) 3
def up2 : State := ((live.set (Fd.EYE_WP_CFG_MODE 2) 1).set (Fd.EYE_WP_STAT_STATE 2) 2)
def devs : State := up2.set Fd.WELT_ID_DEVID 9
def routed : State := ((devs.set (Fd.RT_VALID 77) 1).set (Fd.RT_PORT 77) 2)
def wpkt (kind dest dflow src : Nat) (ws : List Nat) : WeltPkt :=
  ⟨BitVec.ofNat 4 kind, 0, BitVec.ofNat 11 dest, BitVec.ofNat 11 dflow, BitVec.ofNat 11 src, true, true, 0, BitVec.ofNat 7 ws.length, ws.map (BitVec.ofNat 32)⟩
def inbox (s : State) (p : Nat) (k : WeltPkt) (stamp : Nat) : State := { s with welt := { s.welt with inbox := s.welt.inbox ++ [⟨some p, k, stamp⟩] } }
def gddrUp : State := (List.range 6).foldl (fun a c => a.set (Fd.MEM_CH_STAT_STATE c) 2) (((((((routed.set Fd.MEM_STAT_CHEFF 63).set Fd.MEM_STAT_READY 1).set Fd.MEM_STAT_CAPU 100).set
  Fd.WELT_APCFG_EN 1).set Fd.WELT_TRUST_FUSE 4).set Fd.WELT_APCFG_RO 0).set Fd.WELT_APCFG_BASE 0)
def follower : State := ((devs.set Fd.WELT_TIMECTL_UPEN 1).set Fd.WELT_TIMECTL_UPPORT 2).set Fd.WELT_TIMECTL_DOWNEN 4
def withReq (s : State) (q : Nat) : State := { s with welt := { s.welt with reqs := [⟨5, .bus q, 77, 0, 64, 1, 0, 0, none, 0⟩] } }
def ownRead : State := { withReq gddrUp 0x1C with welt := { (withReq gddrUp 0x1C).welt with inbox := [⟨none, wpkt 2 9 0 9 [0x50000, 64, 1], 0⟩] } }
def reqRead : State := inbox gddrUp 2 (wpkt 2 9 0 77 [0x50000, 64, 1]) 0
def reqTile : State := inbox gddrUp 2 (wpkt 2 9 0 77 [0x80050000, 64, 0x800001, 1]) 0
def prxState : State := (((inbox routed 2 (wpkt 4 9 70 77 [0, 1, 5, 6]) 0).set (Fd.FC1_BIND 70) 1).set (Fd.WELT_PRX_CFG_EN 1) 1)
def senseState : State := (((inbox routed 2 (wpkt 6 9 70 77 (0x53480003 :: List.replicate 31 256)) 0).set (Fd.FC1_BIND 70) 1).set (Fd.INS_SRX_BASE_ADDR 1) 0x7FFF010)
def okBus (o : BusOut) : Bus := match o with | .ok _ b => b | _ => busOf live ⟨[], []⟩
def okData (o : BusOut) : List Nat := match o with | .ok d _ => d | _ => []
def skBus (o : SkOut) : Bus := match o with | .ok _ b => b | _ => busOf live ⟨[], []⟩
def skData (o : SkOut) : List Nat := match o with | .ok d _ => d | _ => []
def putAt (s : State) (a : Nat) (ws : List Nat) : State := ws.zipIdx.foldl (fun (t : State) (x : Nat × Nat) => t.setWord (a + 4 * x.2) x.1) s
def laceCopy : List Nat := [0xFF010000, 0x27F7F, 0xFF020000, 0x10002, 1, 4, 4, 0, 0, 0, 0, 0xFF030001, 0x7F, 0, 0, 0]
def laceWith (l : LaceS) : State :=
  (putAt (putAt ((live.set (Fd.LACE_CH_STAT_STATE 3) 1).set (Fd.LACE_CH_MAXDESC_MAXDESC 3) 9) 0x7FFF000000 laceCopy) 0x7FFF010000 [0x12345678, 0x9ABCDEF0]).setLace 3 l
def laceGranule : Nat × List Nat := (0x7FFF010000, [0x78, 0x56, 0x34, 0x12, 0xF0, 0xDE, 0xBC, 0x9A] ++ List.replicate 56 0)
def skFillCmd : List Nat := [0x23800000, 0xFF040000, 0x7F, 0, 0, 0, 3, 0, 0xFF112233, 0, 0, 0, 0, 0, 0, 0]
def skCopyCmd (op : Nat) : List Nat := [op * 2 ^ 28 + 0x3800000, 0xFF040000, 0x7F7F, 0xFF010000, 0, 0, 1, 0, (if op = 3 then 7 else 0), 0, (if op = 4 then 5 else 0), (if op = 4 then 0xFF else 0), 0, 0, 0, 0]
def skWith (k : SkivS) : State :=
  (putAt (putAt ((live.set Fd.SKIVER_STAT_STATE 1).set Fd.SKIVER_MAXCMD_MAXCMD 9) 0x7FFF000000 skFillCmd) 0x7FFF010000 [0x12345678, 0x9ABCDEF0]).setSkiver k
def soundSt : State := { ((((live.set Fd.AUD_CTL_EN 1).set (Fd.AUD_MB_EN 5) 1).set (Fd.AUD_MB_DEST 5) 2).set (Fd.AUD_MB_ZCTMO 0) 0).set (Fd.AUD_MB_ZCTMO 5) 0 with
  audio := { doms := [(0, { run := true, smp := 32, block := 65535 }), (1, { run := true, smp := 0 })], keys := [⟨7, true, none⟩, ⟨8, false, none⟩], voices := [(7, { pos := 9, env := 5, st := 3 }), (8, { st := 2, gain := some { l := 9, r := 9, pl := some 5, pr := some 6 } })] } }
def winImg : List (Nat × Nat) := [(36, 256), (40, 1), (256, 0x31000006), (260, 8 * 65536 + 4)]
def feState (k : Nat) (sel : Nat) : State :=
  (((((putImg (beamState 7) 0 winImg).set (Fd.INS_FE_CTL_DRVPER 1) 8).set (Fd.INS_FE_CTL_EN 1) 1).set (Fd.INS_FE_CTL_NPULSE 1) 1).set (Fd.INS_FE_STAT_STEP 1) k).set (Fd.INS_FE_CTL_SELFEN 1) sel |>.set (Fd.INS_FE_STAT_NOWIN 0) 1 |>.modFe 1 (fun f => { f with active := true })
def feDone (ring : Nat) : State := ((live.set (Fd.INS_FE_CTL_RINGEN 1) ring).set (Fd.INS_FE_RING_ADDR 1) 0x7FFF010).modFe 1 (fun f => { f with done := some (9, true), scan := 5 })
def shank : State := (((live.set Fd.SHK_CTL_EN 1).set Fd.SHK_CTL_KEEPTMO 5).set Fd.SHK_FUSE0_MAXDUTY 900).set (Fd.SHK_BL_EN 2) 1 |>.set (Fd.SHK_BL_DUTY 2) 1000
def gated : State := (shank.modHeater 2 (fun x => { x with gate := true, trips := 2, low := 7 }))
def entryBuf : List Nat := List.replicate 3 0 ++ [2, 0, 0, 64] ++ List.replicate 9 0 ++ [0, 0, 0x7F00, 0xFF040000, 8] ++ List.replicate 11 0
def entryUp : State := { (live.set Fd.SEC_BOOT_STATE 4) with sec := { buf := entryBuf } }
def msi : State := { (((live.set (Fd.SRC_EN 30) 1).set (Fd.SRC_TGT 30) 4).set (Fd.SRC_VEC 30) 7).set Fd.PCIE_STAT_LINKUP 1 with icu := { pend := [30, 31] } }
def dueCmp (per : Nat) : State := { (((live.set (Fd.CMPCTL_EN 9) 1).set (Fd.CMPCTL_PER 9) per).set (Fd.CMPCTL_PERIOD 9) 100).setCmp 9 50 with time := { now := 260, cmpDue := [3, 9] } }
def dbgBytes : List Byte := [0, 1, 9, 8]
def stepSt (d : Bool) : State := { (live.set Fd.DBG_RUN_HALTED 1) with dbg := { step := some 2, stepped := d } }
def msiOpen : State := { msi with lanes := { ep := { conf := [(0x04, 4), (0x50, 0x80000000)], table := [(28, 0x1000), (29, 1), (30, 77), (31, 0)] } } }
def i2cLive : State := (live.set (Fd.EY_FUNC 40) 1).set (Fd.EY_FUNC 41) 1

/-! ## Ill-formed commands are refused -/

/-- No bursts end in error and no beam runs. -/
def calm : Env := ⟨[], []⟩
/-- A beam position for a seventeenth head (R225: heads 0 to 15). -/
def badEnv : Env := ⟨[], List.replicate 17 (0, 0)⟩
/-- A packet of 4,096 words (R380). -/
def longPkt : Packet := ⟨9, true, 0, 0, 0, List.replicate 4094 0⟩
/-- A Welt packet of 65 payload words (R339). -/
def longWelt : WeltPkt := ⟨2, 0, 9, 0, 77, true, true, 0, 0, List.replicate 65 0⟩

theorem test_wf_packet : (Instr.echo (.core 1) longPkt calm).wf = false ∧ (Instr.echo (.core 1) (pkt [1, 2]) calm).wf = true := by
  decide +kernel

theorem test_wf_beam : (Instr.lineRelease 3 7 badEnv).wf = false ∧ (Instr.lineRelease 3 7 calm).wf = true := by decide +kernel

theorem test_wf_welt : (Instr.weltFrameReceive 2 true 0 longWelt 0 []).wf = false := by decide +kernel

theorem test_wf_pcie : (Instr.pcieInboundAccess 0 true 0 0 (List.replicate 1025 (0, 0)) [] calm).wf = false := by decide +kernel

theorem test_wf_mem_training : (Instr.memTrainingDone 0 0 (List.replicate 7 (0, 0))).wf = false := by decide +kernel

theorem test_wf_welt_training : (Instr.weltTrainingDone 2 true 0 0 0 (List.replicate 5 (0, 0, 0))).wf = false ∧
    (Instr.weltTrainingAttempt 2 true 0 0 0 (List.replicate 5 (0, 0, 0))).wf = false := by decide +kernel

theorem test_wf_taps : (Instr.dpTrainingDone 2 true 0 0 none (List.replicate 5 (0, 0, 0))).wf = false ∧
    (Instr.pcieLinkUp 3 1 (List.replicate 5 (0, 0, 0))).wf = false := by decide +kernel

theorem test_wf_flash_read : (Instr.bootFlashReadDone (some (List.replicate 2049 0))).wf = false ∧ (Instr.bootFlashReadDone none).wf = true := by
  decide +kernel

/-- An image of more than 2³² bytes is refused: stated for every one, since none is written out here. -/
theorem test_wf_boot_entry (l : List Byte) (e : Env) (h : 2 ^ 32 < l.length) : (Instr.bootEntryLoaded (some l) e).wf = false := by
  have hl : decide (((some l).getD []).length ≤ 2 ^ 32) = false := decide_eq_false (Nat.not_le.mpr h)
  show (decide (((some l).getD []).length ≤ 2 ^ 32) && e.ok) = false
  rw [hl, Bool.false_and]

theorem test_wf_i2c : (Instr.i2cCommandDone 1 64 (List.replicate 65 0) false false).wf = false := by decide +kernel

theorem test_wf_voice : (Instr.keyEventApply 64 0 calm).wf = false ∧ (Instr.keyEventApply 63 0 calm).wf = true := by decide +kernel

theorem test_wf_render : (Instr.audioBlockBoundary 1 badEnv).wf = false ∧ (Instr.gainTimeout 5 0 badEnv).wf = false ∧
    (Instr.haltReached badEnv).wf = false := by decide +kernel

theorem test_wf_step : (Instr.insoleStepSlot 1 0 (List.replicate 97 0)).wf = false := by decide +kernel

theorem test_wf_sensors : (Instr.sensorConversion (List.replicate 3 0) (List.replicate 8 0)).wf = false ∧
    (Instr.sensorConversion (List.replicate 4 0) (List.replicate 7 0)).wf = false := by decide +kernel

theorem test_wf_debug (l : List Byte) (h : 65535 < l.length) : (Instr.dbgUnlockPut 0 l).wf = false ∧
    (∀ e, (Instr.dbgRead 0 l e).wf = false) ∧ ∀ e, (Instr.dbgWrite 0 l e).wf = false := by
  have hl : decide (l.length ≤ 65535) = false := decide_eq_false (Nat.not_le.mpr h)
  refine ⟨hl, fun e => ?_, fun e => ?_⟩
  · show (decide (l.length ≤ 65535) && e.ok) = false
    rw [hl, Bool.false_and]
  · show (decide (l.length ≤ 65535) && e.ok) = false
    rw [hl, Bool.false_and]

/-! ## Decoding and the queue -/

/-- The table gives no row any bits, so no word spells a command. -/
theorem test_no_word : decodeTableWord 32 0 = none := by decide

/-- StepRunsTheFrontCommand: a queue with a command at its front. -/
theorem witness_StepRunsTheFrontCommand : ({ live with pending := [.skEnd] } : State).pending = .skEnd :: [] := by decide +kernel

/-- IdleStepTicks: an empty queue, in and out of an episode. -/
theorem witness_IdleStepTicks : State.reset.pending = [] ∧ live.pending = [] ∧ State.reset.inEpisode = true ∧ live.inEpisode = false := by
  decide +kernel

/-- EpisodeHoldsCommands: the state after reset is inside an episode. -/
theorem witness_EpisodeHoldsCommands : State.reset.inEpisode = true := by decide +kernel

/-- StepKeepsCanonicalForm: a good state whose step goes on. -/
theorem witness_StepKeepsCanonicalForm : MemoryGood live ∧ RegistersGood live ∧ ∃ t, step live = .next t :=
  ⟨by unfold MemoryGood; decide +kernel, by unfold RegistersGood; decide +kernel, _, rfl⟩

/-- The worked example of 18_audio.md: a peak of 6,144,000 is −2.70 dBFS, and 9.30 dB over T at ratio 4 gives −6.97 dB. -/
theorem test_dynamics_example : Int.fdiv (decibels 6144000 23 * 100 + 2 ^ 39) (2 ^ 40) = -270 ∧
    Int.fdiv (compGain 48 6 6 (Int.fdiv (-270 * 2 ^ 40) 100) * 100 + 2 ^ 39) (2 ^ 40) = -697 := by decide +kernel

/-- CEIL 8 is −1 dBFS (R604), 10^(−1/20) × 2²³ by hand; 0 dB is a gain of 1. -/
theorem test_ceiling : ceilingFx 8 / fxOne = 7476354 ∧ gainOf 0 = fxOne := by decide +kernel


theorem test_crc16_digits : crc16 [0x31, 0x32, 0x33, 0x34, 0x35, 0x36, 0x37, 0x38, 0x39] = 0x29B1 := by decide +kernel

theorem test_sha3_empty : leBytes (sha3 []) 8 = [0xA7, 0xFF, 0xC6, 0xF8, 0xBF, 0x1E, 0xD7, 0x66] := by decide +kernel

theorem test_sha512_abc : (sha512 [0x61, 0x62, 0x63]).take 8 = [0xDD, 0xAF, 0x35, 0xA1, 0x93, 0x61, 0x7A, 0xBA] := by decide +kernel

/-! ## The hypotheses of each statement are met -/

/-- Hypotheses of PaceWritesComplete. -/
theorem witness_PaceWritesComplete :
    (Taken live (0x1C : Fin 32) (gaugeKey (3 : Fin 20)) (0x8000000 : BitVec 28).toNat ∧ nbit (0x8000000 : BitVec 28).toNat 27 =
      true) ∧
    (Taken live (0x1C : Fin 32) (Rg.SL_SLACK (15 : Fin 16)) (0x8000000 : BitVec 28).toNat ∧ nbit (0x8000000 : BitVec 28).toNat
      27 = true) ∧
    (Taken live (0x1C : Fin 32) Rg.PWR_PACECTL (1 : BitVec 28).toNat ∧ nbit (1 : BitVec 28).toNat 0 = true ∧ live.flag
      Fd.PWR_PACECTL_EN = false ∧ live.fenced uLoop = false ∧ live.pace.busy = false ∧ live.halted = false) ∧
    (Taken ((live.set Fd.PWR_PACECTL_EN 1) : State) (0x1C : Fin 32) Rg.PWR_PACECTL (0 : BitVec 28).toNat ∧ nbit (0 : BitVec
      28).toNat 0 = false ∧ ((live.set Fd.PWR_PACECTL_EN 1) : State).flag Fd.PWR_PACECTL_EN = true ∧ ((live.set
      Fd.PWR_PACECTL_EN 1) : State).pace.busy = false) ∧
    (Taken live (0x1C : Fin 32) Rg.PWR_VSET (0xA0320 : BitVec 28).toNat ∧ live.flag Fd.PWR_PACECTL_EN = false ∧ live.pace.busy =
      false ∧ live.halted = false) ∧
    (Taken ((live.set Fd.PWR_TJ_TJ 77) : State) (0x1C : Fin 32) Rg.PWR_TJ (0x8000000 : BitVec 28).toNat ∧ nbit (0x8000000 :
      BitVec 28).toNat 27 = true) := by
  iterate 5 refine And.intro (by decide +kernel) ?_
  decide +kernel

/-- Hypotheses of MemoryWritesComplete. -/
theorem witness_MemoryWritesComplete :
    (Taken live (0x1C : Fin 32) (Rg.FETCH_POOL (7 : Fin 8)) (0x100100 : BitVec 28).toNat ∧ live.poolBad (7 : Fin 8) (0x100100 :
      BitVec 28).toNat = false) ∧
    (Taken live (0x1C : Fin 32) (Rg.FETCH_POOL_STAT (2 : Fin 8)) (0x4000000 : BitVec 28).toNat ∧ nbit (0x4000000 : BitVec
      28).toNat 26 = true) ∧
    (Taken live (0x1C : Fin 32) (Rg.FETCH_SL_STAT (5 : Fin 16)) (0x8000000 : BitVec 28).toNat ∧ nbit (0x8000000 : BitVec
      28).toNat 27 = true) ∧
    (Taken live (0x1C : Fin 32) (Rg.FETCH_SL_LAT (5 : Fin 16)) (0x8000000 : BitVec 28).toNat ∧ nbit (0x8000000 : BitVec
      28).toNat 27 = true) ∧
    (Taken live (0x1C : Fin 32) (Rg.FETCH_SL_LINE (5 : Fin 16)) (0x8000000 : BitVec 28).toNat ∧ nbit (0x8000000 : BitVec
      28).toNat 27 = true) ∧
    (Taken live (0x1C : Fin 32) Rg.MEM_CTL (0x8000000 : BitVec 28).toNat ∧ nbit (0x8000000 : BitVec 28).toNat 27 = true ∧
      live.domOn 11 = true) ∧
    (Taken ((live.set Fd.MEM_STAT_CAPU 512) : State) (0x1C : Fin 32) (Rg.MEM_ECC (2 : Fin 8)) (0x8002001 : BitVec 28).toNat ∧
      ((live.set Fd.MEM_STAT_CAPU 512) : State).eccBad (2 : Fin 8) (0x8002001 : BitVec 28).toNat = false ∧ nbit (0x8002001 :
      BitVec 28).toNat 27 = true ∧ ((live.set Fd.MEM_STAT_CAPU 512) : State).flag (Fd.MEM_ECC_EN (2 : Fin 8)) = false) := by
  iterate 6 refine And.intro (by decide +kernel) ?_
  decide +kernel

/-- Hypotheses of MoveWritesComplete. -/
theorem witness_MoveWritesComplete :
    (Taken live (0x1C : Fin 32) (Rg.LACE_CH_CTL (31 : Fin 32)) (0x8000001 : BitVec 28).toNat ∧ nbit (0x8000001 : BitVec
      28).toNat 27 = true ∧ (live.laceState (31 : Fin 32) = 0 ∨ live.laceState (31 : Fin 32) = 2 ∨ live.laceState (31 : Fin 32)
      = 3) ∧ live.fenced (uLace (31 : Fin 32)) = false ∧ live.unitInReset (uLace (31 : Fin 32)) = false) ∧
    (Taken ((live.set (Fd.LACE_CH_STAT_STATE 4) 1) : State) (0x1C : Fin 32) (Rg.LACE_CH_CTL (4 : Fin 32)) (0x4000000 : BitVec
      28).toNat ∧ nbit (0x4000000 : BitVec 28).toNat 26 = true ∧ ((live.set (Fd.LACE_CH_STAT_STATE 4) 1) : State).laceState (4 :
      Fin 32) = 1) ∧
    (Taken live (0x1C : Fin 32) Rg.SKIVER_CTL (0x8000002 : BitVec 28).toNat ∧ nbit (0x8000002 : BitVec 28).toNat 27 = true ∧
      (live.skiverState = 0 ∨ live.skiverState = 3 ∨ live.skiverState = 4) ∧ live.fenced uSkiver = false ∧ live.unitInReset
      uSkiver = false) ∧
    (Taken ((live.set Fd.SKIVER_STAT_STATE 2) : State) (0x1C : Fin 32) Rg.SKIVER_CTL (0x4000000 : BitVec 28).toNat ∧ nbit
      (0x4000000 : BitVec 28).toNat 26 = true ∧ (((live.set Fd.SKIVER_STAT_STATE 2) : State).skiverState = 1 ∨ ((live.set
      Fd.SKIVER_STAT_STATE 2) : State).skiverState = 2)) := by
  iterate 3 refine And.intro (by decide +kernel) ?_
  decide +kernel

/-- Hypotheses of PanelAndSoundWritesComplete. -/
theorem witness_PanelAndSoundWritesComplete :
    (Taken live (0x1C : Fin 32) (Rg.INS_FE_CTL (1 : Fin 2)) (0x800000 : BitVec 28).toNat ∧ nbit (0x800000 : BitVec 28).toNat 23
      = true ∧ live.flag (Fd.INS_FE_CTL_EN (1 : Fin 2)) = nbit (0x800000 : BitVec 28).toNat 27) ∧
    (Taken ((live.set Fd.SHK_STAT_KEEPEXP 1) : State) (0x1C : Fin 32) Rg.SHK_CTL (0x4000000 : BitVec 28).toNat ∧ nbit (0x4000000
      : BitVec 28).toNat 26 = true) ∧
    (Taken live (0x1C : Fin 32) Rg.AUD_CTL (0x8000000 : BitVec 28).toNat ∧ live.audCtlBad (0x8000000 : BitVec 28).toNat = false
      ∧ nbit (0x8000000 : BitVec 28).toNat 27 = true ∧ live.flag Fd.AUD_CTL_EN = false) ∧
    (Taken ((live.set Fd.AUD_CTL_EN 1) : State) (0x1C : Fin 32) Rg.AUD_KEY (0x105 : BitVec 28).toNat ∧ ((live.set Fd.AUD_CTL_EN
      1) : State).flag Fd.AUD_CTL_EN = true ∧ ((live.set Fd.AUD_CTL_EN 1) : State).rst.held.contains uSound = false ∧ ((live.set
      Fd.AUD_CTL_EN 1) : State).rst.pulsed.contains uSound = false ∧ ((live.set Fd.AUD_CTL_EN 1) : State).audio.keys.length <
      64) ∧
    (Taken ((live.set (Fd.EYE_L_STAT_LOCK 9) 1) : State) (0x1C : Fin 32) (Rg.EYE_L_SCAN (9 : Fin 32)) (0x9000000 : BitVec
      28).toNat ∧ nbit (0x9000000 : BitVec 28).toNat 27 = true ∧ ((live.set (Fd.EYE_L_STAT_LOCK 9) 1) : State).flag
      (Fd.EYE_L_SCAN_BUSY (9 : Fin 32)) = false ∧ ((live.set (Fd.EYE_L_STAT_LOCK 9) 1) : State).flag (Fd.EYE_L_STAT_LOCK (9 :
      Fin 32)) = true ∧ (((live.set (Fd.EYE_L_STAT_LOCK 9) 1) : State).lanePam4 (9 : Fin 32) = true ∨ (0x9000000 : BitVec
      28).toNat / 2 ^ 24 % 4 = 1)) := by
  iterate 4 refine And.intro (by decide +kernel) ?_
  decide +kernel

/-- Hypotheses of TimeWritesComplete. -/
theorem witness_TimeWritesComplete :
    (Taken ({ live with icu := { live.icu with nested := [(2, [320, 9])] } } : State) (0x1C : Fin 32) (Rg.ICU_TGT_EOI (2 : Fin
      4)) (320 : BitVec 28).toNat ∧ ({ live with icu := { live.icu with nested := [(2, [320, 9])] } } : State).stackOf (2 : Fin
      4) = (320 : BitVec 28).toNat % 512 :: ([9] : List Nat)) ∧
    (Taken live (0x1C : Fin 32) Rg.ICU_SWSET (0x8000003 : BitVec 28).toNat ∧ nbit (0x8000003 : BitVec 28).toNat 27 = true ∧ nbit
      (0x8000003 : BitVec 28).toNat 26 = false ∧ live.domOn 0 = true) ∧
    (Taken ({ live with icu := { live.icu with pend := [323, 324] } } : State) (0x1C : Fin 32) Rg.ICU_SWSET (0x4000003 : BitVec
      28).toNat ∧ nbit (0x4000003 : BitVec 28).toNat 27 = false ∧ nbit (0x4000003 : BitVec 28).toNat 26 = true) ∧
    (Taken ((live.set Fd.TIME_LDLO_LOAD 0x456) : State) (0x1C : Fin 32) Rg.TIME_LDHI (0x123 : BitVec 28).toNat) ∧
    (Taken live (0x1C : Fin 32) Rg.TIME_CMPHI (0x123 : BitVec 28).toNat ∧ ((tabFind live.time.cmpHold (live.cmpIx (ownerOfMaster
      (0x1C : Fin 32)))).getD (live.get (Fd.CMPLO_CMP (live.cmpIx (ownerOfMaster (0x1C : Fin 32)))))) < 2 ^ 28) ∧
    (Taken live (0x1C : Fin 32) (Rg.TIME_WD_CTL (4 : Fin 5)) (0x8005000 : BitVec 28).toNat ∧ nbit (0x8005000 : BitVec 28).toNat
      27 = true ∧ (0x8005000 : BitVec 28).toNat % 2 ^ 12 = 0) ∧
    (Taken live (0x1C : Fin 32) (Rg.TIME_WD_CTL (1 : Fin 5)) (0x8005A5C : BitVec 28).toNat ∧ (0x8005A5C : BitVec 28).toNat % 2 ^
      12 = 0xA5C) ∧
    (Taken live (0x1C : Fin 32) (Rg.TIME_WD_CTL 4) (0x8005001 : BitVec 28).toNat ∧ nbit (0x8005001 : BitVec 28).toNat 27 = true
      ∧ (0x8005001 : BitVec 28).toNat % 2 ^ 12 ≠ 0 ∧ (0x8005001 : BitVec 28).toNat % 2 ^ 12 ≠ 0xA5C ∧ live.sec.fuse = none) := by
  iterate 7 refine And.intro (by decide +kernel) ?_
  decide +kernel

/-- Hypotheses of HeadWritesComplete. -/
theorem witness_HeadWritesComplete :
    (Taken live (0x1C : Fin 32) (Rg.LAST_HD_SEL (5 : Fin 16)) (0x6 : BitVec 28).toNat ∧ live.selBad (5 : Fin 16) (0x6 : BitVec
      28).toNat = false) ∧
    (Taken (runnable 3 : State) (0x1C : Fin 32) (Rg.HD_CTL (3 : Fin 16)) (0x0A000 : BitVec 28).toNat ∧ (runnable 3 :
      State).ctlBad (3 : Fin 16) (0x0A000 : BitVec 28).toNat = false ∧ nbit (0x0A000 : BitVec 28).toNat 15 = true ∧ (runnable 3
      : State).headTimingOk (3 : Fin 16) = true ∧ ((runnable 3 : State).headS (3 : Fin 16)).running = false ∧ ((runnable 3 :
      State).headS (3 : Fin 16)).waitRef = false ∧ (runnable 3 : State).unitInReset (uHead (3 : Fin 16)) = false) ∧
    (Taken live (0x1C : Fin 32) (Rg.HD_CTL (3 : Fin 16)) (0 : BitVec 28).toNat ∧ live.ctlBad (3 : Fin 16) (0 : BitVec 28).toNat
      = false ∧ nbit (0 : BitVec 28).toNat 15 = false) ∧
    (Taken ((live.set (Fd.HD_STAT_URCNT 3) 9) : State) (0x1C : Fin 32) (Rg.HD_STAT (3 : Fin 16)) (0x1000000 : BitVec 28).toNat ∧
      nbit (0x1000000 : BitVec 28).toNat 24 = true) := by
  iterate 3 refine And.intro (by decide +kernel) ?_
  decide +kernel

/-- Hypotheses of PortWritesComplete. -/
theorem witness_PortWritesComplete :
    (Taken live (0x1C : Fin 32) (Rg.EYE_WP_CFG (3 : Fin 8)) (0x2000000 : BitVec 28).toNat ∧ live.portCfgBad (3 : Fin 8)
      (0x2000000 : BitVec 28).toNat = false ∧ live.domOn (lanegOf (3 : Fin 8)) = true ∧ live.fenced (uPort (3 : Fin 8)) = false
      ∧ live.unitInReset (uPort (3 : Fin 8)) = false ∧ live.portMode (3 : Fin 8) ≠ ((0x2000000 : BitVec 28).toNat / 2 ^ 25 % 8)) ∧
    (Taken ((live.set (Fd.EYE_WP_CFG_MODE 3) 1) : State) (0x1C : Fin 32) (Rg.EYE_WP_CFG (3 : Fin 8)) (0x2000100 : BitVec
      28).toNat ∧ ((live.set (Fd.EYE_WP_CFG_MODE 3) 1) : State).portCfgBad (3 : Fin 8) (0x2000100 : BitVec 28).toNat = false ∧
      ((live.set (Fd.EYE_WP_CFG_MODE 3) 1) : State).domOn (lanegOf (3 : Fin 8)) = true ∧ ((live.set (Fd.EYE_WP_CFG_MODE 3) 1) :
      State).fenced (uPort (3 : Fin 8)) = false ∧ ((live.set (Fd.EYE_WP_CFG_MODE 3) 1) : State).unitInReset (uPort (3 : Fin 8))
      = false ∧ ((live.set (Fd.EYE_WP_CFG_MODE 3) 1) : State).portMode (3 : Fin 8) = 1 ∧ ((0x2000100 : BitVec 28).toNat / 2 ^ 25
      % 8) = 1 ∧ nbit (0x2000100 : BitVec 28).toNat 8 = true) ∧
    (Taken ((((live.set (Fd.EYE_WP_CFG_MODE 3) 1).set (Fd.EYE_WP_STAT_STATE 3) 2).set (Fd.EYE_WP_CFG_SPARE 3) 1).set
      (Fd.EYE_WP_STAT_RXSPARE 3) 3 : State) (0x1C : Fin 32) (Rg.EYE_WP_CFG (3 : Fin 8)) (0x200000C : BitVec 28).toNat ∧
      ((((live.set (Fd.EYE_WP_CFG_MODE 3) 1).set (Fd.EYE_WP_STAT_STATE 3) 2).set (Fd.EYE_WP_CFG_SPARE 3) 1).set
      (Fd.EYE_WP_STAT_RXSPARE 3) 3 : State).portCfgBad (3 : Fin 8) (0x200000C : BitVec 28).toNat = false ∧ ((((live.set
      (Fd.EYE_WP_CFG_MODE 3) 1).set (Fd.EYE_WP_STAT_STATE 3) 2).set (Fd.EYE_WP_CFG_SPARE 3) 1).set (Fd.EYE_WP_STAT_RXSPARE 3) 3
      : State).domOn (lanegOf (3 : Fin 8)) = true ∧ ((((live.set (Fd.EYE_WP_CFG_MODE 3) 1).set (Fd.EYE_WP_STAT_STATE 3) 2).set
      (Fd.EYE_WP_CFG_SPARE 3) 1).set (Fd.EYE_WP_STAT_RXSPARE 3) 3 : State).unitInReset (uPort (3 : Fin 8)) = false ∧
      ((((live.set (Fd.EYE_WP_CFG_MODE 3) 1).set (Fd.EYE_WP_STAT_STATE 3) 2).set (Fd.EYE_WP_CFG_SPARE 3) 1).set
      (Fd.EYE_WP_STAT_RXSPARE 3) 3 : State).portMode (3 : Fin 8) = ((0x200000C : BitVec 28).toNat / 2 ^ 25 % 8) ∧ nbit
      (0x200000C : BitVec 28).toNat 8 = false ∧ nbit (0x200000C : BitVec 28).toNat 3 = true) := by
  iterate 2 refine And.intro (by decide +kernel) ?_
  decide +kernel

/-- Hypotheses of TongueWritesComplete. -/
theorem witness_TongueWritesComplete :
    (Taken live (0x1C : Fin 32) (ringKey (2 : Fin 5)) (0x8000100 : BitVec 28).toNat) ∧
    (Taken ((live.setRegN (Rg.TONGUE_A_RING 1) 0x8000000) : State) (0x1C : Fin 32) (cptrKey (2 : Fin 5)) (4 : BitVec 28).toNat ∧
      ((live.setRegN (Rg.TONGUE_A_RING 1) 0x8000000) : State).ringEn (ringKey (2 : Fin 5)) = true ∧ ((4 : BitVec 28).toNat %
      8192 + 8192 - ((live.setRegN (Rg.TONGUE_A_RING 1) 0x8000000) : State).regN (cptrKey (2 : Fin 5)) / 2 ^ 13 % 2 ^ 13) % 8192
      ≤ 4096) ∧
    (Taken ((live.setRegN (Rg.TONGUE_A_RING 1) 0x8000000) : State) (0x1C : Fin 32) (rptrKey (2 : Fin 5)) (0 : BitVec 28).toNat ∧
      ((live.setRegN (Rg.TONGUE_A_RING 1) 0x8000000) : State).ringEn (ringKey (2 : Fin 5)) = true ∧ (((live.setRegN
      (Rg.TONGUE_A_RING 1) 0x8000000) : State).regN (rptrKey (2 : Fin 5)) / 2 ^ 13 % 2 ^ 13 + 8192 - (0 : BitVec 28).toNat %
      8192) % 8192 ≤ 4096) ∧
    (Taken live (0x1C : Fin 32) Rg.TONGUE_OWNDATA (0x13 : BitVec 28).toNat ∧ (live.ownIx (ownerOfMaster (0x1C : Fin 32))) < 192
      ∧ ¬ (52 ≤ (live.ownIx (ownerOfMaster (0x1C : Fin 32))) ∧ (live.ownIx (ownerOfMaster (0x1C : Fin 32))) < 64) ∧ live.flag
      (Fd.OWN_LOCK (live.ownIx (ownerOfMaster (0x1C : Fin 32)))) = false ∧ (0x13 : BitVec 28).toNat % 16 ≠ 7 ∧ (ownerOfMaster
      (0x1C : Fin 32)) ≠ 0 ∧ (live.get (Fd.OWN_OWNER (live.ownIx (ownerOfMaster (0x1C : Fin 32)))) = (ownerOfMaster (0x1C : Fin
      32)) ∨ (live.get (Fd.OWN_OWNER (live.ownIx (ownerOfMaster (0x1C : Fin 32)))) = 0 ∧ (0x13 : BitVec 28).toNat % 16 =
      (ownerOfMaster (0x1C : Fin 32))) ∨ (live.get (Fd.OWN_OWNER 1) = (ownerOfMaster (0x1C : Fin 32)) ∧ (live.ownIx
      (ownerOfMaster (0x1C : Fin 32))) ≠ 1) ∨ (ownerOfMaster (0x1C : Fin 32)) = 7)) ∧
    (Taken live (0x1C : Fin 32) (4 * (0x60010 : BitVec 22).toNat) (0x123 : BitVec 28).toNat ∧ plainKey (4 * (0x60010 : BitVec
      22).toNat) = true) := by
  iterate 4 refine And.intro (by decide +kernel) ?_
  decide +kernel

/-- Hypotheses of TrustAndPowerWritesComplete. -/
theorem witness_TrustAndPowerWritesComplete :
    (Taken ({ (live.set (Fd.OWN_OWNER 2) 7).set Fd.SEC_BOOT_RBVER 5 with sec := { live.sec with manId := some 1 } } : State)
      (0x1C : Fin 32) Rg.SEC_FUSECMD (0x8100001 : BitVec 28).toNat ∧ nbit (0x8100001 : BitVec 28).toNat 27 = true ∧ (0x8100001 :
      BitVec 28).toNat / 2 ^ 20 % 4 = 1 ∧
      ({ (live.set (Fd.OWN_OWNER 2) 7).set Fd.SEC_BOOT_RBVER 5 with sec := { live.sec with manId := some 1 } } : State).flag
      Fd.SEC_FUSECMD_BUSY = false ∧
      ({ (live.set (Fd.OWN_OWNER 2) 7).set Fd.SEC_BOOT_RBVER 5 with sec := { live.sec with manId := some 1 } } : State).fenced
      uSec = false ∧ ({ (live.set (Fd.OWN_OWNER 2) 7).set Fd.SEC_BOOT_RBVER 5 with sec := { live.sec with manId := some 1 } } :
      State).fuseBad 1 ((0x8100001 : BitVec 28).toNat % 2 ^ 6) none = false) ∧
    (Taken
      ({ live.set (Fd.OWN_OWNER 2) 7 with fuses := { live.fuses with slots := [(0, { prog := true }), (1, { prog := true })] } }
      : State) (0x1C : Fin 32) Rg.SEC_FUSECMD (0x8200001 : BitVec 28).toNat ∧ nbit (0x8200001 : BitVec 28).toNat 27 = true ∧
      (0x8200001 : BitVec 28).toNat / 2 ^ 20 % 4 = 2 ∧
      ({ live.set (Fd.OWN_OWNER 2) 7 with fuses := { live.fuses with slots := [(0, { prog := true }), (1, { prog := true })] } }
      : State).flag Fd.SEC_FUSECMD_BUSY = false ∧
      ({ live.set (Fd.OWN_OWNER 2) 7 with fuses := { live.fuses with slots := [(0, { prog := true }), (1, { prog := true })] } }
      : State).fenced uSec = false ∧
      ({ live.set (Fd.OWN_OWNER 2) 7 with fuses := { live.fuses with slots := [(0, { prog := true }), (1, { prog := true })] } }
      : State).fuseBad 2 ((0x8200001 : BitVec 28).toNat % 2 ^ 6) none = false) ∧
    (Taken ((((((live.set (Fd.OWN_OWNER 2) 7).setWord 0x7FFF000104 0x12345678).set Fd.SEC_FUSEADDR1_ADDRHI 0x7FF).set
      Fd.SEC_FUSEADDR0_ADDRLO 0xF000100)) : State) (0x1C : Fin 32) Rg.SEC_FUSECMD (0x8300001 : BitVec 28).toNat ∧ nbit
      (0x8300001 : BitVec 28).toNat 27 = true ∧ (0x8300001 : BitVec 28).toNat / 2 ^ 20 % 4 = 3 ∧ (((((((live.set (Fd.OWN_OWNER
      2) 7).setWord 0x7FFF000104 0x12345678).set Fd.SEC_FUSEADDR1_ADDRHI 0x7FF).set Fd.SEC_FUSEADDR0_ADDRLO 0xF000100)) :
      State).get Fd.SEC_FUSEADDR1_ADDRHI * 2 ^ 28 + ((((((live.set (Fd.OWN_OWNER 2) 7).setWord 0x7FFF000104 0x12345678).set
      Fd.SEC_FUSEADDR1_ADDRHI 0x7FF).set Fd.SEC_FUSEADDR0_ADDRLO 0xF000100)) : State).get Fd.SEC_FUSEADDR0_ADDRLO) % 4 = 0 ∧
      sharedBase ≤ (((((((live.set (Fd.OWN_OWNER 2) 7).setWord 0x7FFF000104 0x12345678).set Fd.SEC_FUSEADDR1_ADDRHI 0x7FF).set
      Fd.SEC_FUSEADDR0_ADDRLO 0xF000100)) : State).get Fd.SEC_FUSEADDR1_ADDRHI * 2 ^ 28 + ((((((live.set (Fd.OWN_OWNER 2)
      7).setWord 0x7FFF000104 0x12345678).set Fd.SEC_FUSEADDR1_ADDRHI 0x7FF).set Fd.SEC_FUSEADDR0_ADDRLO 0xF000100)) :
      State).get Fd.SEC_FUSEADDR0_ADDRLO) ∧ (((((((live.set (Fd.OWN_OWNER 2) 7).setWord 0x7FFF000104 0x12345678).set
      Fd.SEC_FUSEADDR1_ADDRHI 0x7FF).set Fd.SEC_FUSEADDR0_ADDRLO 0xF000100)) : State).get Fd.SEC_FUSEADDR1_ADDRHI * 2 ^ 28 +
      ((((((live.set (Fd.OWN_OWNER 2) 7).setWord 0x7FFF000104 0x12345678).set Fd.SEC_FUSEADDR1_ADDRHI 0x7FF).set
      Fd.SEC_FUSEADDR0_ADDRLO 0xF000100)) : State).get Fd.SEC_FUSEADDR0_ADDRLO) + 64 ≤ sharedBase + 0x200000 ∧ (((((((live.set
      (Fd.OWN_OWNER 2) 7).setWord 0x7FFF000104 0x12345678).set Fd.SEC_FUSEADDR1_ADDRHI 0x7FF).set Fd.SEC_FUSEADDR0_ADDRLO
      0xF000100)) : State).domOn 4 = true ∨ ((((((live.set (Fd.OWN_OWNER 2) 7).setWord 0x7FFF000104 0x12345678).set
      Fd.SEC_FUSEADDR1_ADDRHI 0x7FF).set Fd.SEC_FUSEADDR0_ADDRLO 0xF000100)) : State).domOn 5 = true) ∧ ((((((live.set
      (Fd.OWN_OWNER 2) 7).setWord 0x7FFF000104 0x12345678).set Fd.SEC_FUSEADDR1_ADDRHI 0x7FF).set Fd.SEC_FUSEADDR0_ADDRLO
      0xF000100)) : State).flag Fd.AWL_LOCK_HELD = false ∧ ((((((live.set (Fd.OWN_OWNER 2) 7).setWord 0x7FFF000104
      0x12345678).set Fd.SEC_FUSEADDR1_ADDRHI 0x7FF).set Fd.SEC_FUSEADDR0_ADDRLO 0xF000100)) : State).flag Fd.SEC_FUSECMD_BUSY =
      false ∧ ((((((live.set (Fd.OWN_OWNER 2) 7).setWord 0x7FFF000104 0x12345678).set Fd.SEC_FUSEADDR1_ADDRHI 0x7FF).set
      Fd.SEC_FUSEADDR0_ADDRLO 0xF000100)) : State).fenced uSec = false ∧ ((((((live.set (Fd.OWN_OWNER 2) 7).setWord 0x7FFF000104
      0x12345678).set Fd.SEC_FUSEADDR1_ADDRHI 0x7FF).set Fd.SEC_FUSEADDR0_ADDRLO 0xF000100)) : State).fuseBad 3 ((0x8300001 :
      BitVec 28).toNat % 2 ^ 6) (some (((((((live.set (Fd.OWN_OWNER 2) 7).setWord 0x7FFF000104 0x12345678).set
      Fd.SEC_FUSEADDR1_ADDRHI 0x7FF).set Fd.SEC_FUSEADDR0_ADDRLO 0xF000100)) : State).words (((((((live.set (Fd.OWN_OWNER 2)
      7).setWord 0x7FFF000104 0x12345678).set Fd.SEC_FUSEADDR1_ADDRHI 0x7FF).set Fd.SEC_FUSEADDR0_ADDRLO 0xF000100)) :
      State).get Fd.SEC_FUSEADDR1_ADDRHI * 2 ^ 28 + ((((((live.set (Fd.OWN_OWNER 2) 7).setWord 0x7FFF000104 0x12345678).set
      Fd.SEC_FUSEADDR1_ADDRHI 0x7FF).set Fd.SEC_FUSEADDR0_ADDRLO 0xF000100)) : State).get Fd.SEC_FUSEADDR0_ADDRLO) 16)) = false) ∧
    (Taken live (0x1C : Fin 32) Rg.PWR_DOMREQ (0xFF7FF : BitVec 28).toNat ∧ live.domreqBad (Nat.lor ((0xFF7FF : BitVec 28).toNat
      % 2 ^ 20) 3) = false) ∧
    (Taken live (0x1C : Fin 32) Rg.SYS_ROLE (2 : BitVec 28).toNat ∧ (2 : BitVec 28).toNat % 8 ≤ 4 ∧ (2 : BitVec 28).toNat % 8 ≠
      0 ∧ (2 : BitVec 28).toNat % 8 - 1 ≠ live.role ∧ live.roleBad = false) ∧
    (Taken (live.report (uSole 1) 0x14 1 0 : State) (0x1C : Fin 32) Rg.FLT_ACK (0x80401 : BitVec 28).toNat ∧ unitValid ((0x80401
      : BitVec 28).toNat % 2 ^ 16) = true ∧ ((nbit (0x80401 : BitVec 28).toNat 19) = true ∨ ((0x80401 : BitVec 28).toNat / 2 ^
      16 % 8) ≤ 4)) ∧
    (Taken ((live.set Fd.FLT_FORCE0_UNIT 0x401).set Fd.FLT_FORCE0_CODE 0x14 : State) (0x1C : Fin 32) Rg.FLT_FORCE1 (0x9000007 :
      BitVec 28).toNat ∧ nbit (0x9000007 : BitVec 28).toNat 27 = true ∧ unitValid (((live.set Fd.FLT_FORCE0_UNIT 0x401).set
      Fd.FLT_FORCE0_CODE 0x14 : State).get Fd.FLT_FORCE0_UNIT) = true ∧ (0x9000007 : BitVec 28).toNat / 2 ^ 24 % 8 ≤ 4) := by
  iterate 6 refine And.intro (by decide +kernel) ?_
  decide +kernel

/-- Hypotheses of EyeletWritesComplete. -/
theorem witness_EyeletWritesComplete :
    (Taken ((live.setRegN (Rg.EYIDX_C 7) 9) : State) (0x1C : Fin 32) Rg.SYS_EYCFG (0x1000 : BitVec 28).toNat ∧ funcOk
      (((live.setRegN (Rg.EYIDX_C 7) 9) : State).eyIx (ownerOfMaster (0x1C : Fin 32))) ((0x1000 : BitVec 28).toNat / 2 ^ 25 % 8)
      = true ∧ (0x1000 : BitVec 28).toNat / 2 ^ 13 % 8 < 6) ∧
    (Taken live (0x1C : Fin 32) Rg.SYS_EYSET (0x2000005 : BitVec 28).toNat) ∧
    (Taken ((live.set (Fd.EY_OUT 18) 1).set (Fd.EY_OUT 17) 1 : State) (0x1C : Fin 32) Rg.SYS_EYCLR (0x2000005 : BitVec
      28).toNat) ∧
    (Taken (((live.set Fd.SYS_PERIDX_PER 2).set Fd.SYS_PERIDX_REG 1).set (Fd.I2C_CFG_EN 2) 1 : State) (0x1C : Fin 32)
      Rg.SYS_PERDATA (0x8000003 : BitVec 28).toNat ∧ ((((live.set Fd.SYS_PERIDX_PER 2).set Fd.SYS_PERIDX_REG 1).set
      (Fd.I2C_CFG_EN 2) 1 : State).get Fd.SYS_PERIDX_PER) < 4 ∧ (((live.set Fd.SYS_PERIDX_PER 2).set Fd.SYS_PERIDX_REG 1).set
      (Fd.I2C_CFG_EN 2) 1 : State).get Fd.SYS_PERIDX_REG = 1 ∧ nbit (0x8000003 : BitVec 28).toNat 27 = true ∧ (((live.set
      Fd.SYS_PERIDX_PER 2).set Fd.SYS_PERIDX_REG 1).set (Fd.I2C_CFG_EN 2) 1 : State).flag (Fd.I2C_STAT_BUSY ((((live.set
      Fd.SYS_PERIDX_PER 2).set Fd.SYS_PERIDX_REG 1).set (Fd.I2C_CFG_EN 2) 1 : State).get Fd.SYS_PERIDX_PER)) = false ∧ 1 ≤
      (0x8000003 : BitVec 28).toNat % 128 ∧ (0x8000003 : BitVec 28).toNat % 128 ≤ 64 ∧ (((live.set Fd.SYS_PERIDX_PER 2).set
      Fd.SYS_PERIDX_REG 1).set (Fd.I2C_CFG_EN 2) 1 : State).flag (Fd.I2C_CFG_EN ((((live.set Fd.SYS_PERIDX_PER 2).set
      Fd.SYS_PERIDX_REG 1).set (Fd.I2C_CFG_EN 2) 1 : State).get Fd.SYS_PERIDX_PER)) = true) ∧
    (Taken ((live.set Fd.SYS_PERIDX_PER 5).set Fd.SYS_PERIDX_REG 2 : State) (0x1C : Fin 32) Rg.SYS_PERDATA (0x8000041 : BitVec
      28).toNat ∧ (((live.set Fd.SYS_PERIDX_PER 5).set Fd.SYS_PERIDX_REG 2 : State).get Fd.SYS_PERIDX_PER) < 6 ∧ ((live.set
      Fd.SYS_PERIDX_PER 5).set Fd.SYS_PERIDX_REG 2 : State).get Fd.SYS_PERIDX_REG = 2 ∧ (((live.set Fd.SYS_PERIDX_PER 5).set
      Fd.SYS_PERIDX_REG 2 : State).perS (((live.set Fd.SYS_PERIDX_PER 5).set Fd.SYS_PERIDX_REG 2 : State).get
      Fd.SYS_PERIDX_PER)).tx.length < 64) := by
  iterate 4 refine And.intro (by decide +kernel) ?_
  decide +kernel

/-- Hypotheses of DebugWritesComplete. -/
theorem witness_DebugWritesComplete :
    (Taken ((live.set (Fd.AWL_STAT_STATE 2) 2) : State) (0x1C : Fin 32) Rg.DBG_RUN (0x8000000 : BitVec 28).toNat ∧ nbit
      (0x8000000 : BitVec 28).toNat 27 = true ∧ ((live.set (Fd.AWL_STAT_STATE 2) 2) : State).halted = false ∧ ((live.set
      (Fd.AWL_STAT_STATE 2) 2) : State).flag Fd.DBG_RUN_HALTREQ = false) ∧
    (Taken ((live.set Fd.DBG_RUN_HALTED 1) : State) (0x1C : Fin 32) Rg.DBG_RUN (0x4000000 : BitVec 28).toNat ∧ nbit (0x4000000 :
      BitVec 28).toNat 27 = false ∧ nbit (0x4000000 : BitVec 28).toNat 26 = true ∧ nbit (0x4000000 : BitVec 28).toNat 25 = false
      ∧ ((live.set Fd.DBG_RUN_HALTED 1) : State).halted = true) ∧
    (Taken ((live.set Fd.DBG_RUN_HALTED 1).set (Fd.AWL_STAT_STATE 1) 3 : State) (0x1C : Fin 32) Rg.DBG_RUN (0x2800000 : BitVec
      28).toNat ∧ nbit (0x2800000 : BitVec 28).toNat 26 = false ∧ nbit (0x2800000 : BitVec 28).toNat 25 = true ∧ ((live.set
      Fd.DBG_RUN_HALTED 1).set (Fd.AWL_STAT_STATE 1) 3 : State).halted = true ∧ ((live.set Fd.DBG_RUN_HALTED 1).set
      (Fd.AWL_STAT_STATE 1) 3 : State).coreState ((0x2800000 : BitVec 28).toNat / 2 ^ 23 % 4) = 3 ∧ ((live.set Fd.DBG_RUN_HALTED
      1).set (Fd.AWL_STAT_STATE 1) 3 : State).dbg.step = none) ∧
    (Taken ((live.set Fd.DBG_STAT_UNLOCKED 1).set (Fd.WPCTL_ACT 33) 1 : State) (0x1C : Fin 32) Rg.DBG_CTL (0x8000000 : BitVec
      28).toNat ∧ nbit (0x8000000 : BitVec 28).toNat 27 = true) ∧
    (Taken ({ live with welt := { live.welt with epoch := some 77 } } : State) (0x1C : Fin 32) Rg.WELT_EPOCHHI (0x1234 : BitVec
      28).toNat) := by
  iterate 4 refine And.intro (by decide +kernel) ?_
  decide +kernel

/-- Hypotheses of ReadsComplete. -/
theorem witness_ReadsComplete :
    (Readable ({ live with time := { live.time with now := 0x123456789AB } } : State) (0x1C : Fin 32) Rg.TIME_LO) ∧
    (Readable ({ live with icu := { live.icu with nested := [(2, [320, 9])] } } : State) (0x1C : Fin 32) (Rg.ICU_TGT_CLAIM (2 :
      Fin 5)) ∧ (({ live with icu := { live.icu with nested := [(2, [320, 9])] } } : State).claimVal (2 : Fin 5)) < 2 ^ 28) ∧
    (Readable ({ live with time := { live.time with caps := [(0, [0x123456789, 5])] } } : State) (0x17 : Fin 32) Rg.TIME_CAPLO ∧
      ((0x17 : Fin 32).val = 0x1C → ({ live with time := { live.time with caps := [(0, [0x123456789, 5])] } } : State).flag
      Fd.DBG_CTL_SIDEFX = true) ∧ tabGet [] ({ live with time := { live.time with caps := [(0, [0x123456789, 5])] } } :
      State).time.caps (({ live with time := { live.time with caps := [(0, [0x123456789, 5])] } } : State).capIx (ownerOfMaster
      (0x17 : Fin 32))) ≠ []) ∧
    (Readable ((live.modHead 4 (fun x => { x with frame := 0x123456789 })) : State) (0x17 : Fin 32) (Rg.HD_FRAME (4 : Fin 16)) ∧
      ((0x17 : Fin 32).val = 0x1C → ((live.modHead 4 (fun x => { x with frame := 0x123456789 })) : State).flag Fd.DBG_CTL_SIDEFX
      = true)) ∧
    (Readable ({ (live.set Fd.SYS_PERIDX_PER 5).set Fd.SYS_PERIDX_REG 2 with pers := [(5, { rx := [65, 66] })] } : State) (0x17
      : Fin 32) Rg.SYS_PERDATA ∧ ((0x17 : Fin 32).val = 0x1C →
      ({ (live.set Fd.SYS_PERIDX_PER 5).set Fd.SYS_PERIDX_REG 2 with pers := [(5, { rx := [65, 66] })] } : State).flag
      Fd.DBG_CTL_SIDEFX = true) ∧
      (({ (live.set Fd.SYS_PERIDX_PER 5).set Fd.SYS_PERIDX_REG 2 with pers := [(5, { rx := [65, 66] })] } : State).get
      Fd.SYS_PERIDX_PER) < 6 ∧
      ({ (live.set Fd.SYS_PERIDX_PER 5).set Fd.SYS_PERIDX_REG 2 with pers := [(5, { rx := [65, 66] })] } : State).get
      Fd.SYS_PERIDX_REG = 2 ∧
      (({ (live.set Fd.SYS_PERIDX_PER 5).set Fd.SYS_PERIDX_REG 2 with pers := [(5, { rx := [65, 66] })] } : State).perS
      (({ (live.set Fd.SYS_PERIDX_PER 5).set Fd.SYS_PERIDX_REG 2 with pers := [(5, { rx := [65, 66] })] } : State).get
      Fd.SYS_PERIDX_PER)).rx = (65 : Nat) :: ([66] : List Nat)) := by
  iterate 4 refine And.intro (by decide +kernel) ?_
  decide +kernel

/-- Hypotheses of ArrayWritesComplete. -/
theorem witness_ArrayWritesComplete :
    (live.masterFrozen (0x1C : Fin 32) = false) ∧
    (live.masterFrozen (0x1C : Fin 32) = false) ∧
    (live.masterFrozen (0x1C : Fin 32) = false) := by
  iterate 2 refine And.intro (by decide +kernel) ?_
  decide +kernel

/-- Hypotheses of AwlMovesComplete. -/
theorem witness_AwlMovesComplete :
    (CoreAt (((awlAt 2 0xC000 0xC000).setG 2 3 0x1234).setG 2 4 0x3F01 : State) (2 : Fin 4) 0x00 (⟨0, 0x00, 0, 0, 0x0⟩ : Insn)) ∧
    (CoreAt (((awlAt 2 0xC014 0xCC00).setG 2 3 0x1234).setG 2 4 0x3F01 : State) (2 : Fin 4) 0x01 (⟨0, 0x01, 4, 3, 0x0⟩ : Insn)) ∧
    (CoreAt (((awlAt 2 0xC024 0xC3F0).setG 2 3 0x1234).setG 2 4 0x3F01 : State) (2 : Fin 4) 0x02 (⟨0, 0x02, 4, 0, 0x3F0⟩ :
      Insn)) ∧
    (CoreAt (((awlAt 2 0xC034 0xC009).setG 2 3 0x1234).setG 2 4 0x3F01 : State) (2 : Fin 4) 0x03 (⟨0, 0x03, 4, 0, 0x9⟩ : Insn)) ∧
    (CoreAt (((awlAt 2 0xC044 0xCC02).setG 2 3 0x1234).setG 2 4 0x3F01 : State) (2 : Fin 4) 0x04 (⟨0, 0x04, 4, 3, 0x2⟩ : Insn)) ∧
    (CoreAt (((awlAt 2 0xC054 0xCC00).setG 2 3 0x1234).setG 2 4 0x3F01 : State) (2 : Fin 4) 0x05 (⟨0, 0x05, 4, 3, 0x0⟩ : Insn)) ∧
    (CoreAt (((awlAt 2 0xC064 0xC000).setG 2 3 0x1234).setG 2 4 0x3F01 : State) (2 : Fin 4) 0x06 (⟨0, 0x06, 4, 0, 0x0⟩ : Insn)) := by
  iterate 6 refine And.intro (by decide +kernel) ?_
  decide +kernel

/-- Hypotheses of AwlSumsComplete. -/
theorem witness_AwlSumsComplete :
    (CoreAt (((awlAt 2 0xC084 0xCC00).setG 2 3 0x1234).setG 2 4 0x3F01 : State) (2 : Fin 4) 0x08 (⟨0, 0x08, 4, 3, 0x0⟩ : Insn) ∧
      pairCheck 0x08 (⟨0, 0x08, 4, 3, 0x0⟩ : Insn).gs ((((awlAt 2 0xC084 0xCC00).setG 2 3 0x1234).setG 2 4 0x3F01 : State).gcell
      (2 : Fin 4) (⟨0, 0x08, 4, 3, 0x0⟩ : Insn).gs) (⟨0, 0x08, 4, 3, 0x0⟩ : Insn).gd ((((awlAt 2 0xC084 0xCC00).setG 2 3
      0x1234).setG 2 4 0x3F01 : State).gcell (2 : Fin 4) (⟨0, 0x08, 4, 3, 0x0⟩ : Insn).gd) = none) ∧
    (CoreAt (((awlAt 2 0xC0A4 0xCC00).setG 2 3 0x1234).setG 2 4 0x3F01 : State) (2 : Fin 4) 0x0A (⟨0, 0x0A, 4, 3, 0x0⟩ : Insn) ∧
      pairCheck 0x0A (⟨0, 0x0A, 4, 3, 0x0⟩ : Insn).gs ((((awlAt 2 0xC0A4 0xCC00).setG 2 3 0x1234).setG 2 4 0x3F01 : State).gcell
      (2 : Fin 4) (⟨0, 0x0A, 4, 3, 0x0⟩ : Insn).gs) (⟨0, 0x0A, 4, 3, 0x0⟩ : Insn).gd ((((awlAt 2 0xC0A4 0xCC00).setG 2 3
      0x1234).setG 2 4 0x3F01 : State).gcell (2 : Fin 4) (⟨0, 0x0A, 4, 3, 0x0⟩ : Insn).gd) = none) ∧
    (CoreAt (((awlAt 2 0xC094 0xCC00).setG 2 3 0x1234).setG 2 4 0x3F01 : State) (2 : Fin 4) 0x09 (⟨0, 0x09, 4, 3, 0x0⟩ : Insn) ∧
      pairCheck 0x09 (⟨0, 0x09, 4, 3, 0x0⟩ : Insn).gs ((((awlAt 2 0xC094 0xCC00).setG 2 3 0x1234).setG 2 4 0x3F01 : State).gcell
      (2 : Fin 4) (⟨0, 0x09, 4, 3, 0x0⟩ : Insn).gs) (⟨0, 0x09, 4, 3, 0x0⟩ : Insn).gd ((((awlAt 2 0xC094 0xCC00).setG 2 3
      0x1234).setG 2 4 0x3F01 : State).gcell (2 : Fin 4) (⟨0, 0x09, 4, 3, 0x0⟩ : Insn).gd) = none) ∧
    (CoreAt (((awlAt 2 0xC0B4 0xCC00).setG 2 3 0x9234).setG 2 4 0xBF01 : State) (2 : Fin 4) 0x0B (⟨0, 0x0B, 4, 3, 0x0⟩ : Insn) ∧
      pairCheck 0x0B (⟨0, 0x0B, 4, 3, 0x0⟩ : Insn).gs ((((awlAt 2 0xC0B4 0xCC00).setG 2 3 0x9234).setG 2 4 0xBF01 : State).gcell
      (2 : Fin 4) (⟨0, 0x0B, 4, 3, 0x0⟩ : Insn).gs) (⟨0, 0x0B, 4, 3, 0x0⟩ : Insn).gd ((((awlAt 2 0xC0B4 0xCC00).setG 2 3
      0x9234).setG 2 4 0xBF01 : State).gcell (2 : Fin 4) (⟨0, 0x0B, 4, 3, 0x0⟩ : Insn).gd) = none) ∧
    (CoreAt (((awlAt 2 0xC0C4 0xCC00).setG 2 3 0x1234).setG 2 4 0x3F01 : State) (2 : Fin 4) 0x0C (⟨0, 0x0C, 4, 3, 0x0⟩ : Insn) ∧
      pairCheck 0x0C (⟨0, 0x0C, 4, 3, 0x0⟩ : Insn).gs ((((awlAt 2 0xC0C4 0xCC00).setG 2 3 0x1234).setG 2 4 0x3F01 : State).gcell
      (2 : Fin 4) (⟨0, 0x0C, 4, 3, 0x0⟩ : Insn).gs) (⟨0, 0x0C, 4, 3, 0x0⟩ : Insn).gd ((((awlAt 2 0xC0C4 0xCC00).setG 2 3
      0x1234).setG 2 4 0x3F01 : State).gcell (2 : Fin 4) (⟨0, 0x0C, 4, 3, 0x0⟩ : Insn).gd) = none) ∧
    (CoreAt (((awlAt 2 0xC0D4 0xCC00).setG 2 3 0x1234).setG 2 4 0x3F01 : State) (2 : Fin 4) 0x0D (⟨0, 0x0D, 4, 3, 0x0⟩ : Insn) ∧
      (tagOf ((((awlAt 2 0xC0D4 0xCC00).setG 2 3 0x1234).setG 2 4 0x3F01 : State).gcell (2 : Fin 4) (⟨0, 0x0D, 4, 3, 0x0⟩ :
      Insn).gs) = tNUM ∨ tagOf ((((awlAt 2 0xC0D4 0xCC00).setG 2 3 0x1234).setG 2 4 0x3F01 : State).gcell (2 : Fin 4) (⟨0, 0x0D,
      4, 3, 0x0⟩ : Insn).gs) = tFIX)) ∧
    (CoreAt (((awlAt 2 0xC0E4 0xC3F0).setG 2 3 0x1234).setG 2 4 0x3F01 : State) (2 : Fin 4) 0x0E (⟨0, 0x0E, 4, 0, 0x3F0⟩ : Insn)
      ∧ tagOf ((((awlAt 2 0xC0E4 0xC3F0).setG 2 3 0x1234).setG 2 4 0x3F01 : State).gcell (2 : Fin 4) (⟨0, 0x0E, 4, 0, 0x3F0⟩ :
      Insn).gd) ≠ tCODE) ∧
    (CoreAt (((awlAt 2 0xC0F4 0xC3F0).setG 2 3 0x1234).setG 2 4 0x3F01 : State) (2 : Fin 4) 0x0F (⟨0, 0x0F, 4, 0, 0x3F0⟩ : Insn)
      ∧ (tagOf ((((awlAt 2 0xC0F4 0xC3F0).setG 2 3 0x1234).setG 2 4 0x3F01 : State).gcell (2 : Fin 4) (⟨0, 0x0F, 4, 0, 0x3F0⟩ :
      Insn).gd) = tNUM ∨ tagOf ((((awlAt 2 0xC0F4 0xC3F0).setG 2 3 0x1234).setG 2 4 0x3F01 : State).gcell (2 : Fin 4) (⟨0, 0x0F,
      4, 0, 0x3F0⟩ : Insn).gd) = tFIX)) := by
  iterate 7 refine And.intro (by decide +kernel) ?_
  decide +kernel

/-- Hypotheses of AwlProductsComplete. -/
theorem witness_AwlProductsComplete :
    (CoreAt (((awlAt 2 0xC104 0xCC00).setG 2 3 0x9234).setG 2 4 0xBF01 : State) (2 : Fin 4) 0x10 (⟨0, 0x10, 4, 3, 0x0⟩ : Insn) ∧
      pairCheck 0x10 (⟨0, 0x10, 4, 3, 0x0⟩ : Insn).gs ((((awlAt 2 0xC104 0xCC00).setG 2 3 0x9234).setG 2 4 0xBF01 : State).gcell
      (2 : Fin 4) (⟨0, 0x10, 4, 3, 0x0⟩ : Insn).gs) (⟨0, 0x10, 4, 3, 0x0⟩ : Insn).gd ((((awlAt 2 0xC104 0xCC00).setG 2 3
      0x9234).setG 2 4 0xBF01 : State).gcell (2 : Fin 4) (⟨0, 0x10, 4, 3, 0x0⟩ : Insn).gd) = none) ∧
    (CoreAt (((awlAt 2 0xC114 0xCC00).setG 2 3 0x1234).setG 2 4 0x3F01 : State) (2 : Fin 4) 0x11 (⟨0, 0x11, 4, 3, 0x0⟩ : Insn) ∧
      pairCheck 0x11 (⟨0, 0x11, 4, 3, 0x0⟩ : Insn).gs ((((awlAt 2 0xC114 0xCC00).setG 2 3 0x1234).setG 2 4 0x3F01 : State).gcell
      (2 : Fin 4) (⟨0, 0x11, 4, 3, 0x0⟩ : Insn).gs) (⟨0, 0x11, 4, 3, 0x0⟩ : Insn).gd ((((awlAt 2 0xC114 0xCC00).setG 2 3
      0x1234).setG 2 4 0x3F01 : State).gcell (2 : Fin 4) (⟨0, 0x11, 4, 3, 0x0⟩ : Insn).gd) = none) ∧
    (CoreAt (((awlAt 2 0xC124 0xCC00).setG 2 3 0x9234).setG 2 4 0xBF01 : State) (2 : Fin 4) 0x12 (⟨0, 0x12, 4, 3, 0x0⟩ : Insn) ∧
      pairCheck 0x12 (⟨0, 0x12, 4, 3, 0x0⟩ : Insn).gs ((((awlAt 2 0xC124 0xCC00).setG 2 3 0x9234).setG 2 4 0xBF01 : State).gcell
      (2 : Fin 4) (⟨0, 0x12, 4, 3, 0x0⟩ : Insn).gs) (⟨0, 0x12, 4, 3, 0x0⟩ : Insn).gd ((((awlAt 2 0xC124 0xCC00).setG 2 3
      0x9234).setG 2 4 0xBF01 : State).gcell (2 : Fin 4) (⟨0, 0x12, 4, 3, 0x0⟩ : Insn).gd) = none ∧ valOf ((((awlAt 2 0xC124
      0xCC00).setG 2 3 0x9234).setG 2 4 0xBF01 : State).gcell (2 : Fin 4) (⟨0, 0x12, 4, 3, 0x0⟩ : Insn).gs) ≠ 0) ∧
    (CoreAt (((awlAt 2 0xC134 0xCC00).setG 2 3 0x1234).setG 2 4 0x3F01 : State) (2 : Fin 4) 0x13 (⟨0, 0x13, 4, 3, 0x0⟩ : Insn) ∧
      pairCheck 0x13 (⟨0, 0x13, 4, 3, 0x0⟩ : Insn).gs ((((awlAt 2 0xC134 0xCC00).setG 2 3 0x1234).setG 2 4 0x3F01 : State).gcell
      (2 : Fin 4) (⟨0, 0x13, 4, 3, 0x0⟩ : Insn).gs) (⟨0, 0x13, 4, 3, 0x0⟩ : Insn).gd ((((awlAt 2 0xC134 0xCC00).setG 2 3
      0x1234).setG 2 4 0x3F01 : State).gcell (2 : Fin 4) (⟨0, 0x13, 4, 3, 0x0⟩ : Insn).gd) = none ∧ valOf ((((awlAt 2 0xC134
      0xCC00).setG 2 3 0x1234).setG 2 4 0x3F01 : State).gcell (2 : Fin 4) (⟨0, 0x13, 4, 3, 0x0⟩ : Insn).gs) ≠ 0) ∧
    (CoreAt (((awlAt 2 0xC144 0xCC00).setG 2 3 0x1234).setG 2 4 0x3F01 : State) (2 : Fin 4) 0x14 (⟨0, 0x14, 4, 3, 0x0⟩ : Insn) ∧
      pairCheck 0x14 (⟨0, 0x14, 4, 3, 0x0⟩ : Insn).gs ((((awlAt 2 0xC144 0xCC00).setG 2 3 0x1234).setG 2 4 0x3F01 : State).gcell
      (2 : Fin 4) (⟨0, 0x14, 4, 3, 0x0⟩ : Insn).gs) (⟨0, 0x14, 4, 3, 0x0⟩ : Insn).gd ((((awlAt 2 0xC144 0xCC00).setG 2 3
      0x1234).setG 2 4 0x3F01 : State).gcell (2 : Fin 4) (⟨0, 0x14, 4, 3, 0x0⟩ : Insn).gd) = none) ∧
    (CoreAt (((awlAt 2 0xC154 0xCC00).setG 2 3 0x9234).setG 2 4 0xBF01 : State) (2 : Fin 4) 0x15 (⟨0, 0x15, 4, 3, 0x0⟩ : Insn) ∧
      pairCheck 0x15 (⟨0, 0x15, 4, 3, 0x0⟩ : Insn).gs ((((awlAt 2 0xC154 0xCC00).setG 2 3 0x9234).setG 2 4 0xBF01 : State).gcell
      (2 : Fin 4) (⟨0, 0x15, 4, 3, 0x0⟩ : Insn).gs) (⟨0, 0x15, 4, 3, 0x0⟩ : Insn).gd ((((awlAt 2 0xC154 0xCC00).setG 2 3
      0x9234).setG 2 4 0xBF01 : State).gcell (2 : Fin 4) (⟨0, 0x15, 4, 3, 0x0⟩ : Insn).gd) = none) := by
  iterate 5 refine And.intro (by decide +kernel) ?_
  decide +kernel

/-- Hypotheses of AwlLogicCompletes. -/
theorem witness_AwlLogicCompletes :
    (CoreAt (((awlAt 2 0xC184 0xCC00).setG 2 3 0x1234).setG 2 4 0x3F01 : State) (2 : Fin 4) 0x18 (⟨0, 0x18, 4, 3, 0x0⟩ : Insn) ∧
      pairCheck 0x18 (⟨0, 0x18, 4, 3, 0x0⟩ : Insn).gs ((((awlAt 2 0xC184 0xCC00).setG 2 3 0x1234).setG 2 4 0x3F01 : State).gcell
      (2 : Fin 4) (⟨0, 0x18, 4, 3, 0x0⟩ : Insn).gs) (⟨0, 0x18, 4, 3, 0x0⟩ : Insn).gd ((((awlAt 2 0xC184 0xCC00).setG 2 3
      0x1234).setG 2 4 0x3F01 : State).gcell (2 : Fin 4) (⟨0, 0x18, 4, 3, 0x0⟩ : Insn).gd) = none) ∧
    (CoreAt (((awlAt 2 0xC194 0xCC00).setG 2 3 0x1234).setG 2 4 0x3F01 : State) (2 : Fin 4) 0x19 (⟨0, 0x19, 4, 3, 0x0⟩ : Insn) ∧
      pairCheck 0x19 (⟨0, 0x19, 4, 3, 0x0⟩ : Insn).gs ((((awlAt 2 0xC194 0xCC00).setG 2 3 0x1234).setG 2 4 0x3F01 : State).gcell
      (2 : Fin 4) (⟨0, 0x19, 4, 3, 0x0⟩ : Insn).gs) (⟨0, 0x19, 4, 3, 0x0⟩ : Insn).gd ((((awlAt 2 0xC194 0xCC00).setG 2 3
      0x1234).setG 2 4 0x3F01 : State).gcell (2 : Fin 4) (⟨0, 0x19, 4, 3, 0x0⟩ : Insn).gd) = none) ∧
    (CoreAt (((awlAt 2 0xC1A4 0xCC00).setG 2 3 0x1234).setG 2 4 0x3F01 : State) (2 : Fin 4) 0x1A (⟨0, 0x1A, 4, 3, 0x0⟩ : Insn) ∧
      pairCheck 0x1A (⟨0, 0x1A, 4, 3, 0x0⟩ : Insn).gs ((((awlAt 2 0xC1A4 0xCC00).setG 2 3 0x1234).setG 2 4 0x3F01 : State).gcell
      (2 : Fin 4) (⟨0, 0x1A, 4, 3, 0x0⟩ : Insn).gs) (⟨0, 0x1A, 4, 3, 0x0⟩ : Insn).gd ((((awlAt 2 0xC1A4 0xCC00).setG 2 3
      0x1234).setG 2 4 0x3F01 : State).gcell (2 : Fin 4) (⟨0, 0x1A, 4, 3, 0x0⟩ : Insn).gd) = none) ∧
    (CoreAt (((awlAt 2 0xC1B4 0xCC00).setG 2 3 0x1234).setG 2 4 0x3F01 : State) (2 : Fin 4) 0x1B (⟨0, 0x1B, 4, 3, 0x0⟩ : Insn) ∧
      tagOf ((((awlAt 2 0xC1B4 0xCC00).setG 2 3 0x1234).setG 2 4 0x3F01 : State).gcell (2 : Fin 4) (⟨0, 0x1B, 4, 3, 0x0⟩ :
      Insn).gs) ≠ tCODE) ∧
    (CoreAt (((awlAt 2 0xC1C4 0xCC00).setG 2 3 0x1234).setG 2 4 0x3F01 : State) (2 : Fin 4) 0x1C (⟨0, 0x1C, 4, 3, 0x0⟩ : Insn) ∧
      pairCheck 0x1C (⟨0, 0x1C, 4, 3, 0x0⟩ : Insn).gs ((((awlAt 2 0xC1C4 0xCC00).setG 2 3 0x1234).setG 2 4 0x3F01 : State).gcell
      (2 : Fin 4) (⟨0, 0x1C, 4, 3, 0x0⟩ : Insn).gs) (⟨0, 0x1C, 4, 3, 0x0⟩ : Insn).gd ((((awlAt 2 0xC1C4 0xCC00).setG 2 3
      0x1234).setG 2 4 0x3F01 : State).gcell (2 : Fin 4) (⟨0, 0x1C, 4, 3, 0x0⟩ : Insn).gd) = none) ∧
    (CoreAt (((awlAt 2 0xC1D4 0xC003).setG 2 3 0x1234).setG 2 4 0x1234 : State) (2 : Fin 4) 0x1D (⟨0, 0x1D, 4, 0, 0x3⟩ : Insn) ∧
      tagOf ((((awlAt 2 0xC1D4 0xC003).setG 2 3 0x1234).setG 2 4 0x1234 : State).gcell (2 : Fin 4) (⟨0, 0x1D, 4, 0, 0x3⟩ :
      Insn).gd) ≠ tCODE) ∧
    (CoreAt (((awlAt 2 0xC1E4 0xC003).setG 2 3 0x1234).setG 2 4 0x3F01 : State) (2 : Fin 4) 0x1E (⟨0, 0x1E, 4, 0, 0x3⟩ : Insn) ∧
      tagOf ((((awlAt 2 0xC1E4 0xC003).setG 2 3 0x1234).setG 2 4 0x3F01 : State).gcell (2 : Fin 4) (⟨0, 0x1E, 4, 0, 0x3⟩ :
      Insn).gd) ≠ tCODE) ∧
    (CoreAt (((awlAt 2 0xC1F4 0xC003).setG 2 3 0x1234).setG 2 4 0x3F01 : State) (2 : Fin 4) 0x1F (⟨0, 0x1F, 4, 0, 0x3⟩ : Insn) ∧
      tagOf ((((awlAt 2 0xC1F4 0xC003).setG 2 3 0x1234).setG 2 4 0x3F01 : State).gcell (2 : Fin 4) (⟨0, 0x1F, 4, 0, 0x3⟩ :
      Insn).gd) ≠ tCODE) := by
  iterate 7 refine And.intro (by decide +kernel) ?_
  decide +kernel

/-- Hypotheses of AwlControlCompletes. -/
theorem witness_AwlControlCompletes :
    (CoreAt (awlAt 2 0xC280 0xC3FC : State) (2 : Fin 4) 0x28 (⟨0, 0x28, 0, 0, 1020⟩ : Insn)) ∧
    (CoreAt (awlAt 2 0xC290 0xC005 : State) (2 : Fin 4) 0x29 (⟨0, 0x29, 0, 0, 5⟩ : Insn)) ∧
    (CoreAt ((awlAt 1 0xC2A0 0xCC00).setG 1 3 0xC123 : State) (1 : Fin 4) 0x2A (⟨0, 0x2A, 0, 3, 0⟩ : Insn) ∧ tagOf (((awlAt 1
      0xC2A0 0xCC00).setG 1 3 0xC123 : State).gcell (1 : Fin 4) (⟨0, 0x2A, 0, 3, 0⟩ : Insn).gs) = tCODE) ∧
    (CoreAt ((awlAt 1 0xC2B0 0xFC00).setG 1 15 0xC123 : State) (1 : Fin 4) 0x2B (⟨0, 0x2B, 0, 15, 0⟩ : Insn) ∧ tagOf (((awlAt 1
      0xC2B0 0xFC00).setG 1 15 0xC123 : State).gcell (1 : Fin 4) (⟨0, 0x2B, 0, 15, 0⟩ : Insn).gs) = tCODE) ∧
    (CoreAt ((awlAt 1 0xC260 0xD002).setG 1 4 0x123 : State) (1 : Fin 4) 0x26 (⟨0, 0x26, 0, 4, 2⟩ : Insn)) ∧
    (CoreAt (awlAt 1 0xC274 0xC002 : State) (1 : Fin 4) 0x27 (⟨0, 0x27, 4, 0, 2⟩ : Insn)) ∧
    (CoreAt (awlAt 0 0xC330 0xC001 : State) (0 : Fin 4) 0x33 (⟨0, 0x33, 0, 0, 1⟩ : Insn)) ∧
    (CoreAt (awlAt 0 0xC300 0xC009 : State) (0 : Fin 4) 0x30 (⟨0, 0x30, 0, 0, 9⟩ : Insn) ∧ (⟨0, 0x30, 0, 0, 9⟩ : Insn).gd / 2 %
      2 = 0 ∧ ¬ (tagOf ((awlAt 0 0xC300 0xC009 : State).insnCells (0 : Fin 4) ((((awlAt 0 0xC300 0xC009 : State).pcOf (0 : Fin
      4)) + 1) % 2 ^ 14)).1 = tCODE ∧ tagOf ((awlAt 0 0xC300 0xC009 : State).insnCells (0 : Fin 4) ((((awlAt 0 0xC300 0xC009 :
      State).pcOf (0 : Fin 4)) + 1) % 2 ^ 14)).2 = tCODE ∧ repBanned (insnOf ((awlAt 0 0xC300 0xC009 : State).insnCells (0 : Fin
      4) ((((awlAt 0 0xC300 0xC009 : State).pcOf (0 : Fin 4)) + 1) % 2 ^ 14)).1 ((awlAt 0 0xC300 0xC009 : State).insnCells (0 :
      Fin 4) ((((awlAt 0 0xC300 0xC009 : State).pcOf (0 : Fin 4)) + 1) % 2 ^ 14)).2).op = true)) := by
  iterate 7 refine And.intro (by decide +kernel) ?_
  decide +kernel

/-- Hypotheses of AwlWaitsComplete. -/
theorem witness_AwlWaitsComplete :
    (CoreAt (awlAt 3 0xC310 0xC000 : State) (3 : Fin 4) 0x31 (⟨0, 0x31, 0, 0, 0⟩ : Insn) ∧ (awlAt 3 0xC310 0xC000 :
      State).coreLocked (3 : Fin 4) = false ∧ (awlAt 3 0xC310 0xC000 : State).flag Fd.AWL_LOCK_HELD = false) ∧
    (CoreAt ((((awlAt 3 0xC320 0xC000).set Fd.AWL_LOCK_HELD 1).set Fd.AWL_LOCK_CORE 3).set (Fd.AWL_STAT_LOCKED 3) 1 : State) (3
      : Fin 4) 0x32 (⟨0, 0x32, 0, 0, 0⟩ : Insn) ∧ ((((awlAt 3 0xC320 0xC000).set Fd.AWL_LOCK_HELD 1).set Fd.AWL_LOCK_CORE 3).set
      (Fd.AWL_STAT_LOCKED 3) 1 : State).coreLocked (3 : Fin 4) = true) ∧
    (CoreAt (awlAt 3 0xC340 0xC000 : State) (3 : Fin 4) 0x34 (⟨0, 0x34, 0, 0, 0⟩ : Insn) ∧ (awlAt 3 0xC340 0xC000 :
      State).bestSrc (3 : Fin 4) = none ∧ (awlAt 3 0xC340 0xC000 : State).dbg.step ≠ some (3 : Fin 4).val) ∧
    (((waiting 1 323 : State).core (1 : Fin 4)).wfi = true ∧ (waiting 1 323 : State).bestSrc (1 : Fin 4) ≠ none ∧ (waiting 1 323
      : State).coreState (1 : Fin 4) = 2 ∧ (waiting 1 323 : State).domOn (awlDomOf (1 : Fin 4)) = true ∧ (waiting 1 323 :
      State).inEpisode = false ∧ (waiting 1 323 : State).hub.stopping = false ∧ (waiting 1 323 : State).halted = false ∧
      (waiting 1 323 : State).flag (Fd.AWL_STAT_IE (1 : Fin 4)) = false ∧ ((waiting 1 323 : State).core (1 : Fin 4)).rep ≤ 1) ∧
    (CoreAt (((awlAt 0 0xC360 0xC000).set (Fd.AWL_ISP_ISP 0) 0x9000).putHalf (localBase 0 + 0x12000) 0xC055 : State) (0 : Fin 4)
      0x36 (⟨0, 0x36, 0, 0, 0⟩ : Insn) ∧ ((((awlAt 0 0xC360 0xC000).set (Fd.AWL_ISP_ISP 0) 0x9000).putHalf (localBase 0 +
      0x12000) 0xC055 : State).get (Fd.AWL_ISP_ISP (0 : Fin 4))) ≤ 0xFFFC ∧ tagOf ((((awlAt 0 0xC360 0xC000).set (Fd.AWL_ISP_ISP
      0) 0x9000).putHalf (localBase 0 + 0x12000) 0xC055 : State).half (localBase (0 : Fin 4) + 2 * ((((awlAt 0 0xC360
      0xC000).set (Fd.AWL_ISP_ISP 0) 0x9000).putHalf (localBase 0 + 0x12000) 0xC055 : State).get (Fd.AWL_ISP_ISP (0 : Fin 4)))))
      = tCODE ∧ tagOf ((((awlAt 0 0xC360 0xC000).set (Fd.AWL_ISP_ISP 0) 0x9000).putHalf (localBase 0 + 0x12000) 0xC055 :
      State).half ((localBase (0 : Fin 4) + 2 * ((((awlAt 0 0xC360 0xC000).set (Fd.AWL_ISP_ISP 0) 0x9000).putHalf (localBase 0 +
      0x12000) 0xC055 : State).get (Fd.AWL_ISP_ISP (0 : Fin 4)))) + 2)) = tNUM ∧ tagOf ((((awlAt 0 0xC360 0xC000).set
      (Fd.AWL_ISP_ISP 0) 0x9000).putHalf (localBase 0 + 0x12000) 0xC055 : State).half ((localBase (0 : Fin 4) + 2 * ((((awlAt 0
      0xC360 0xC000).set (Fd.AWL_ISP_ISP 0) 0x9000).putHalf (localBase 0 + 0x12000) 0xC055 : State).get (Fd.AWL_ISP_ISP (0 : Fin
      4)))) + 4)) = tNUM) := by
  iterate 4 refine And.intro (by decide +kernel) ?_
  decide +kernel

/-- Hypotheses of AwlExceptionsComplete. -/
theorem witness_AwlExceptionsComplete :
    (CoreAt ((awlAt 2 0xC350 0xC007).set (Fd.AWL_ISP_ISP 2) 0x9000 : State) (2 : Fin 4) 0x35 (⟨0, 0x35, 0, 0, 7⟩ : Insn) ∧
      FrameFits ((awlAt 2 0xC350 0xC007).set (Fd.AWL_ISP_ISP 2) 0x9000 : State) (2 : Fin 4) ∧ ((awlAt 2 0xC350 0xC007).set
      (Fd.AWL_ISP_ISP 2) 0x9000 : State).coreLocked (2 : Fin 4) = false) ∧
    (((awlAt 2 0x0000 0xC007).set (Fd.AWL_ISP_ISP 2) 0x9000 : State).coreRuns (2 : Fin 4) = true ∧ ((awlAt 2 0x0000 0xC007).set
      (Fd.AWL_ISP_ISP 2) 0x9000 : State).fetchAt (2 : Fin 4) (((awlAt 2 0x0000 0xC007).set (Fd.AWL_ISP_ISP 2) 0x9000 :
      State).pcOf (2 : Fin 4)) = none ∧ FrameFits ((awlAt 2 0x0000 0xC007).set (Fd.AWL_ISP_ISP 2) 0x9000 : State) (2 : Fin 4) ∧
      ((awlAt 2 0x0000 0xC007).set (Fd.AWL_ISP_ISP 2) 0x9000 : State).coreLocked (2 : Fin 4) = false) ∧
    ((((awlAt 1 0xC000 0xC000).set (Fd.AWL_STAT_LOCKED 1) 1 |>.setCore 1 { lockCnt := 4096 }).set (Fd.AWL_ISP_ISP 1) 0x9000 :
      State).coreLocked (1 : Fin 4) = true ∧ 4096 ≤ ((((awlAt 1 0xC000 0xC000).set (Fd.AWL_STAT_LOCKED 1) 1 |>.setCore 1
      { lockCnt := 4096 }).set (Fd.AWL_ISP_ISP 1) 0x9000 : State).core (1 : Fin 4)).lockCnt ∧ (((awlAt 1 0xC000 0xC000).set
      (Fd.AWL_STAT_LOCKED 1) 1 |>.setCore 1 { lockCnt := 4096 }).set (Fd.AWL_ISP_ISP 1) 0x9000 : State).coreState (1 : Fin 4) =
      2 ∧ (((awlAt 1 0xC000 0xC000).set (Fd.AWL_STAT_LOCKED 1) 1 |>.setCore 1 { lockCnt := 4096 }).set (Fd.AWL_ISP_ISP 1) 0x9000
      : State).inEpisode = false ∧ (((awlAt 1 0xC000 0xC000).set (Fd.AWL_STAT_LOCKED 1) 1 |>.setCore 1 { lockCnt := 4096 }).set
      (Fd.AWL_ISP_ISP 1) 0x9000 : State).domOn (awlDomOf (1 : Fin 4)) = true ∧ (((awlAt 1 0xC000 0xC000).set (Fd.AWL_STAT_LOCKED
      1) 1 |>.setCore 1 { lockCnt := 4096 }).set (Fd.AWL_ISP_ISP 1) 0x9000 : State).halted = false ∧ (((awlAt 1 0xC000
      0xC000).set (Fd.AWL_STAT_LOCKED 1) 1 |>.setCore 1 { lockCnt := 4096 }).set (Fd.AWL_ISP_ISP 1) 0x9000 : State).hub.stopping
      = false ∧ (((awlAt 1 0xC000 0xC000).set (Fd.AWL_STAT_LOCKED 1) 1 |>.setCore 1 { lockCnt := 4096 }).set (Fd.AWL_ISP_ISP 1)
      0x9000 : State).flag Fd.DBG_RUN_HALTREQ = false ∧ FrameFits (((awlAt 1 0xC000 0xC000).set (Fd.AWL_STAT_LOCKED 1) 1
      |>.setCore 1 { lockCnt := 4096 }).set (Fd.AWL_ISP_ISP 1) 0x9000 : State) (1 : Fin 4)) ∧
    (((ready 1 323).set (Fd.AWL_ISP_ISP 1) 0x9000 : State).mayAccept (1 : Fin 4) = true ∧ ((ready 1 323).set (Fd.AWL_ISP_ISP 1)
      0x9000 : State).bestSrc (1 : Fin 4) = some (323 : Nat) ∧ (((ready 1 323).set (Fd.AWL_ISP_ISP 1) 0x9000 : State).core (1 :
      Fin 4)).wfi = false ∧ FrameFits ((ready 1 323).set (Fd.AWL_ISP_ISP 1) 0x9000 : State) (1 : Fin 4)) ∧
    (CoreAt (((awlAt 2 0xC081 0xCC00).setG 2 3 0xC000).set (Fd.AWL_ISP_ISP 2) 0x9000 : State) (2 : Fin 4) 0x08 (⟨0, 0x08, 1, 3,
      0⟩ : Insn) ∧ pairCheck 0x08 (⟨0, 0x08, 1, 3, 0⟩ : Insn).gs ((((awlAt 2 0xC081 0xCC00).setG 2 3 0xC000).set (Fd.AWL_ISP_ISP
      2) 0x9000 : State).gcell (2 : Fin 4) (⟨0, 0x08, 1, 3, 0⟩ : Insn).gs) (⟨0, 0x08, 1, 3, 0⟩ : Insn).gd ((((awlAt 2 0xC081
      0xCC00).setG 2 3 0xC000).set (Fd.AWL_ISP_ISP 2) 0x9000 : State).gcell (2 : Fin 4) (⟨0, 0x08, 1, 3, 0⟩ : Insn).gd) = some
      ((3 : Nat), (3 : Nat)) ∧ (3 : Nat) < 16 ∧ (3 : Nat) < 4 ∧ FrameFits (((awlAt 2 0xC081 0xCC00).setG 2 3 0xC000).set
      (Fd.AWL_ISP_ISP 2) 0x9000 : State) (2 : Fin 4) ∧ (((awlAt 2 0xC081 0xCC00).setG 2 3 0xC000).set (Fd.AWL_ISP_ISP 2) 0x9000
      : State).coreLocked (2 : Fin 4) = false) := by
  iterate 4 refine And.intro (by decide +kernel) ?_
  decide +kernel

/-- Hypotheses of AwlMemoryCompletes. -/
theorem witness_AwlMemoryCompletes :
    (CoreAt ((((awlAt 2 0xC201 0xCC05).setG 2 3 0x4000).setBank 2 0 0x80002).putHalf (localBase 2 + 0x1000A) 0x1234 : State) (2
      : Fin 4) 0x20 (⟨0, 0x20, 1, 3, 5⟩ : Insn) ∧ ((((awlAt 2 0xC201 0xCC05).setG 2 3 0x4000).setBank 2 0 0x80002).putHalf
      (localBase 2 + 0x1000A) 0x1234 : State).memCheck (2 : Fin 4) (⟨0, 0x20, 1, 3, 5⟩ : Insn) = none ∧ (fun (cnt j : Nat) =>
      cellAt (((((awlAt 2 0xC201 0xCC05).setG 2 3 0x4000).setBank 2 0 0x80002).putHalf (localBase 2 + 0x1000A) 0x1234 :
      State).get (Fd.AWL_CFG_XB (2 : Fin 4))) (cellAddr (((((awlAt 2 0xC201 0xCC05).setG 2 3 0x4000).setBank 2 0
      0x80002).putHalf (localBase 2 + 0x1000A) 0x1234 : State).bankReg (2 : Fin 4) (nbits (⟨0, 0x20, 1, 3, 5⟩ : Insn).x 9 8))
      (((((awlAt 2 0xC201 0xCC05).setG 2 3 0x4000).setBank 2 0 0x80002).putHalf (localBase 2 + 0x1000A) 0x1234 : State).memForm
      (2 : Fin 4) cnt (⟨0, 0x20, 1, 3, 5⟩ : Insn)).1 j)) 1 0 = .loc (0x8005 : Nat)) ∧
    (CoreAt ((((awlAt 2 0xC211 0xCC05).setG 2 3 0x4000).setBank 2 0 0x80002).setG 2 1 0x1234 : State) (2 : Fin 4) 0x21 (⟨0,
      0x21, 1, 3, 5⟩ : Insn) ∧ ((((awlAt 2 0xC211 0xCC05).setG 2 3 0x4000).setBank 2 0 0x80002).setG 2 1 0x1234 :
      State).memCheck (2 : Fin 4) (⟨0, 0x21, 1, 3, 5⟩ : Insn) = none ∧ (fun (cnt j : Nat) => cellAt (((((awlAt 2 0xC211
      0xCC05).setG 2 3 0x4000).setBank 2 0 0x80002).setG 2 1 0x1234 : State).get (Fd.AWL_CFG_XB (2 : Fin 4))) (cellAddr
      (((((awlAt 2 0xC211 0xCC05).setG 2 3 0x4000).setBank 2 0 0x80002).setG 2 1 0x1234 : State).bankReg (2 : Fin 4) (nbits (⟨0,
      0x21, 1, 3, 5⟩ : Insn).x 9 8)) (((((awlAt 2 0xC211 0xCC05).setG 2 3 0x4000).setBank 2 0 0x80002).setG 2 1 0x1234 :
      State).memForm (2 : Fin 4) cnt (⟨0, 0x21, 1, 3, 5⟩ : Insn)).1 j)) 1 0 = .loc (0x8005 : Nat)) ∧
    (CoreAt ((((awlAt 2 0xC224 0xCC05).setG 2 3 0x4000).setBank 2 0 0x80002).putLE (localBase 2 + 0x1000A) 4 0x12345678 : State)
      (2 : Fin 4) 0x22 (⟨0, 0x22, 4, 3, 5⟩ : Insn) ∧ ((((awlAt 2 0xC224 0xCC05).setG 2 3 0x4000).setBank 2 0 0x80002).putLE
      (localBase 2 + 0x1000A) 4 0x12345678 : State).memCheck (2 : Fin 4) (⟨0, 0x22, 4, 3, 5⟩ : Insn) = none ∧ (fun (cnt j : Nat)
      => cellAt (((((awlAt 2 0xC224 0xCC05).setG 2 3 0x4000).setBank 2 0 0x80002).putLE (localBase 2 + 0x1000A) 4 0x12345678 :
      State).get (Fd.AWL_CFG_XB (2 : Fin 4))) (cellAddr (((((awlAt 2 0xC224 0xCC05).setG 2 3 0x4000).setBank 2 0 0x80002).putLE
      (localBase 2 + 0x1000A) 4 0x12345678 : State).bankReg (2 : Fin 4) (nbits (⟨0, 0x22, 4, 3, 5⟩ : Insn).x 9 8)) (((((awlAt 2
      0xC224 0xCC05).setG 2 3 0x4000).setBank 2 0 0x80002).putLE (localBase 2 + 0x1000A) 4 0x12345678 : State).memForm (2 : Fin
      4) cnt (⟨0, 0x22, 4, 3, 5⟩ : Insn)).1 j)) 2 0 = .loc (0x8005 : Nat) ∧ (fun (cnt j : Nat) => cellAt (((((awlAt 2 0xC224
      0xCC05).setG 2 3 0x4000).setBank 2 0 0x80002).putLE (localBase 2 + 0x1000A) 4 0x12345678 : State).get (Fd.AWL_CFG_XB (2 :
      Fin 4))) (cellAddr (((((awlAt 2 0xC224 0xCC05).setG 2 3 0x4000).setBank 2 0 0x80002).putLE (localBase 2 + 0x1000A) 4
      0x12345678 : State).bankReg (2 : Fin 4) (nbits (⟨0, 0x22, 4, 3, 5⟩ : Insn).x 9 8)) (((((awlAt 2 0xC224 0xCC05).setG 2 3
      0x4000).setBank 2 0 0x80002).putLE (localBase 2 + 0x1000A) 4 0x12345678 : State).memForm (2 : Fin 4) cnt (⟨0, 0x22, 4, 3,
      5⟩ : Insn)).1 j)) 2 1 = .loc (0x8006 : Nat)) ∧
    (CoreAt (((((awlAt 2 0xC234 0xCC05).setG 2 3 0x4000).setBank 2 0 0x80002).setG 2 4 0x1234).setG 2 5 0x5678 : State) (2 : Fin
      4) 0x23 (⟨0, 0x23, 4, 3, 5⟩ : Insn) ∧ (((((awlAt 2 0xC234 0xCC05).setG 2 3 0x4000).setBank 2 0 0x80002).setG 2 4
      0x1234).setG 2 5 0x5678 : State).memCheck (2 : Fin 4) (⟨0, 0x23, 4, 3, 5⟩ : Insn) = none ∧ (fun (cnt j : Nat) => cellAt
      ((((((awlAt 2 0xC234 0xCC05).setG 2 3 0x4000).setBank 2 0 0x80002).setG 2 4 0x1234).setG 2 5 0x5678 : State).get
      (Fd.AWL_CFG_XB (2 : Fin 4))) (cellAddr ((((((awlAt 2 0xC234 0xCC05).setG 2 3 0x4000).setBank 2 0 0x80002).setG 2 4
      0x1234).setG 2 5 0x5678 : State).bankReg (2 : Fin 4) (nbits (⟨0, 0x23, 4, 3, 5⟩ : Insn).x 9 8)) ((((((awlAt 2 0xC234
      0xCC05).setG 2 3 0x4000).setBank 2 0 0x80002).setG 2 4 0x1234).setG 2 5 0x5678 : State).memForm (2 : Fin 4) cnt (⟨0, 0x23,
      4, 3, 5⟩ : Insn)).1 j)) 2 0 = .loc (0x8005 : Nat) ∧ (fun (cnt j : Nat) => cellAt ((((((awlAt 2 0xC234 0xCC05).setG 2 3
      0x4000).setBank 2 0 0x80002).setG 2 4 0x1234).setG 2 5 0x5678 : State).get (Fd.AWL_CFG_XB (2 : Fin 4))) (cellAddr
      ((((((awlAt 2 0xC234 0xCC05).setG 2 3 0x4000).setBank 2 0 0x80002).setG 2 4 0x1234).setG 2 5 0x5678 : State).bankReg (2 :
      Fin 4) (nbits (⟨0, 0x23, 4, 3, 5⟩ : Insn).x 9 8)) ((((((awlAt 2 0xC234 0xCC05).setG 2 3 0x4000).setBank 2 0 0x80002).setG
      2 4 0x1234).setG 2 5 0x5678 : State).memForm (2 : Fin 4) cnt (⟨0, 0x23, 4, 3, 5⟩ : Insn)).1 j)) 2 1 = .loc (0x8006 : Nat)) ∧
    (CoreAt ((((awlAt 2 0xC244 0xC800).setG 2 2 5).setG 2 3 64).setRegN (Rg.AWL_EINFO 0) 0x2A1234 : State) (2 : Fin 4) 0x24 (⟨0,
      0x24, 4, 2, 0⟩ : Insn) ∧ ((((awlAt 2 0xC244 0xC800).setG 2 2 5).setG 2 3 64).setRegN (Rg.AWL_EINFO 0) 0x2A1234 :
      State).ioCheck (2 : Fin 4) (⟨0, 0x24, 4, 2, 0⟩ : Insn) = none ∧ valOf (((((awlAt 2 0xC244 0xC800).setG 2 2 5).setG 2 3
      64).setRegN (Rg.AWL_EINFO 0) 0x2A1234 : State).gcell (2 : Fin 4) ((⟨0, 0x24, 4, 2, 0⟩ : Insn).gs + 1)) < 256 ∧ Readable
      ((((awlAt 2 0xC244 0xC800).setG 2 2 5).setG 2 3 64).setRegN (Rg.AWL_EINFO 0) 0x2A1234 : State) ((Fin.ofNat 32 (0x12 + (2 :
      Fin 4).val))) (4 * (valOf (((((awlAt 2 0xC244 0xC800).setG 2 2 5).setG 2 3 64).setRegN (Rg.AWL_EINFO 0) 0x2A1234 :
      State).gcell (2 : Fin 4) (⟨0, 0x24, 4, 2, 0⟩ : Insn).gs) + valOf (((((awlAt 2 0xC244 0xC800).setG 2 2 5).setG 2 3
      64).setRegN (Rg.AWL_EINFO 0) 0x2A1234 : State).gcell (2 : Fin 4) ((⟨0, 0x24, 4, 2, 0⟩ : Insn).gs + 1)) * 2 ^ 14))) ∧
    (CoreAt ((((awlAt 2 0xC254 0xC800).setG 2 2 0x0010).setG 2 3 24).setG 2 4 0x123 : State) (2 : Fin 4) 0x25 (⟨0, 0x25, 4, 2,
      0⟩ : Insn) ∧ ((((awlAt 2 0xC254 0xC800).setG 2 2 0x0010).setG 2 3 24).setG 2 4 0x123 : State).ioCheck (2 : Fin 4) (⟨0,
      0x25, 4, 2, 0⟩ : Insn) = none ∧ valOf (((((awlAt 2 0xC254 0xC800).setG 2 2 0x0010).setG 2 3 24).setG 2 4 0x123 :
      State).gcell (2 : Fin 4) ((⟨0, 0x25, 4, 2, 0⟩ : Insn).gs + 1)) < 256 ∧ Taken ((((awlAt 2 0xC254 0xC800).setG 2 2
      0x0010).setG 2 3 24).setG 2 4 0x123 : State) ((Fin.ofNat 32 (0x12 + (2 : Fin 4).val))) (4 * (valOf (((((awlAt 2 0xC254
      0xC800).setG 2 2 0x0010).setG 2 3 24).setG 2 4 0x123 : State).gcell (2 : Fin 4) (⟨0, 0x25, 4, 2, 0⟩ : Insn).gs) + valOf
      (((((awlAt 2 0xC254 0xC800).setG 2 2 0x0010).setG 2 3 24).setG 2 4 0x123 : State).gcell (2 : Fin 4) ((⟨0, 0x25, 4, 2, 0⟩ :
      Insn).gs + 1)) * 2 ^ 14)) (valOf (((((awlAt 2 0xC254 0xC800).setG 2 2 0x0010).setG 2 3 24).setG 2 4 0x123 : State).gcell
      (2 : Fin 4) (⟨0, 0x25, 4, 2, 0⟩ : Insn).gd) + valOf (((((awlAt 2 0xC254 0xC800).setG 2 2 0x0010).setG 2 3 24).setG 2 4
      0x123 : State).gcell (2 : Fin 4) ((⟨0, 0x25, 4, 2, 0⟩ : Insn).gd + 1)) * 2 ^ 14) ∧ plainKey (4 * (valOf (((((awlAt 2
      0xC254 0xC800).setG 2 2 0x0010).setG 2 3 24).setG 2 4 0x123 : State).gcell (2 : Fin 4) (⟨0, 0x25, 4, 2, 0⟩ : Insn).gs) +
      valOf (((((awlAt 2 0xC254 0xC800).setG 2 2 0x0010).setG 2 3 24).setG 2 4 0x123 : State).gcell (2 : Fin 4) ((⟨0, 0x25, 4,
      2, 0⟩ : Insn).gs + 1)) * 2 ^ 14)) = true) := by
  iterate 5 refine And.intro (by decide +kernel) ?_
  decide +kernel

/-- Hypotheses of RegisterCommandsComplete. -/
theorem witness_RegisterCommandsComplete :
    (Heard host (.serial : Src) 0x01 (pkt [0x60010] : Packet) (⟨[], []⟩ : Env) (heardBy host .serial 0x01 (pkt [0x60010]) : Bus)
      ∧ (pkt [0x60010] : Packet).len = 3 ∧ regExists (4 * ((pkt [0x60010] : Packet).w 2 % 2 ^ 22)) = true ∧ (heardBy host
      .serial 0x01 (pkt [0x60010]) : Bus).s.domOn (regDomain (4 * ((pkt [0x60010] : Packet).w 2 % 2 ^ 22))) = true) ∧
    (Heard host (.serial : Src) 0x02 (pkt [0x60010, 0x123] : Packet) (⟨[], []⟩ : Env) (heardBy host .serial 0x02 (pkt [0x60010,
      0x123]) : Bus) ∧ (pkt [0x60010, 0x123] : Packet).len = 4 ∧ regExists (4 * ((pkt [0x60010, 0x123] : Packet).w 2 % 2 ^ 22))
      = true ∧ (heardBy host .serial 0x02 (pkt [0x60010, 0x123]) : Bus).s.domOn (regDomain (4 * ((pkt [0x60010, 0x123] :
      Packet).w 2 % 2 ^ 22))) = true ∧ (heardBy host .serial 0x02 (pkt [0x60010, 0x123]) : Bus).s.writeRefused ((heardBy host
      .serial 0x02 (pkt [0x60010, 0x123]) : Bus).s.ownerOfSrc (.serial : Src)) (4 * ((pkt [0x60010, 0x123] : Packet).w 2 % 2 ^
      22)) ((pkt [0x60010, 0x123] : Packet).w 3 % 2 ^ 28) = none ∧ plainKey (4 * ((pkt [0x60010, 0x123] : Packet).w 2 % 2 ^ 22))
      = true) ∧
    (Heard host (.serial : Src) 0x03 (pkt [0x60010, 0xFF, 0x123] : Packet) (⟨[], []⟩ : Env) (heardBy host .serial 0x03 (pkt
      [0x60010, 0xFF, 0x123]) : Bus) ∧ (pkt [0x60010, 0xFF, 0x123] : Packet).len = 5 ∧ regExists (4 * ((pkt [0x60010, 0xFF,
      0x123] : Packet).w 2 % 2 ^ 22)) = true ∧ (heardBy host .serial 0x03 (pkt [0x60010, 0xFF, 0x123]) : Bus).s.domOn (regDomain
      (4 * ((pkt [0x60010, 0xFF, 0x123] : Packet).w 2 % 2 ^ 22))) = true ∧ (heardBy host .serial 0x03 (pkt [0x60010, 0xFF,
      0x123]) : Bus).s.writeRefused ((heardBy host .serial 0x03 (pkt [0x60010, 0xFF, 0x123]) : Bus).s.ownerOfSrc (.serial :
      Src)) (4 * ((pkt [0x60010, 0xFF, 0x123] : Packet).w 2 % 2 ^ 22)) (Nat.land ((pkt [0x60010, 0xFF, 0x123] : Packet).w 4 % 2
      ^ 28) ((pkt [0x60010, 0xFF, 0x123] : Packet).w 3 % 2 ^ 28)) = none ∧ stillKey (4 * ((pkt [0x60010, 0xFF, 0x123] :
      Packet).w 2 % 2 ^ 22)) = true) ∧
    (Heard host (.serial : Src) 0x04 (pkt [0x60010, 3] : Packet) (⟨[], []⟩ : Env) (heardBy host .serial 0x04 (pkt [0x60010, 3])
      : Bus) ∧ (pkt [0x60010, 3] : Packet).len = 4 ∧ nbit ((pkt [0x60010, 3] : Packet).w 2) 22 = false ∧ 1 ≤ ((pkt [0x60010, 3]
      : Packet).w 3 % 2 ^ 12) ∧ ((pkt [0x60010, 3] : Packet).w 3 % 2 ^ 12) ≤ 4093 ∧ (∀ j, j < ((pkt [0x60010, 3] : Packet).w 3 %
      2 ^ 12) → regExists ((4 * ((pkt [0x60010, 3] : Packet).w 2 % 2 ^ 22)) + 4 * j) = true ∧ (heardBy host .serial 0x04 (pkt
      [0x60010, 3]) : Bus).s.domOn (regDomain ((4 * ((pkt [0x60010, 3] : Packet).w 2 % 2 ^ 22)) + 4 * j)) = true ∧ stillKey ((4
      * ((pkt [0x60010, 3] : Packet).w 2 % 2 ^ 22)) + 4 * j) = true)) ∧
    (Heard host (.serial : Src) 0x05 (pkt [0x60010, 3, 4] : Packet) (⟨[], []⟩ : Env) (heardBy host .serial 0x05 (pkt [0x60010,
      3, 4]) : Bus) ∧ 4 ≤ (pkt [0x60010, 3, 4] : Packet).len ∧ (pkt [0x60010, 3, 4] : Packet).len ≤ 4095 ∧ nbit ((pkt [0x60010,
      3, 4] : Packet).w 2) 22 = false ∧ (∀ j, j < ((pkt [0x60010, 3, 4] : Packet).body.length - 1) → regExists ((4 * ((pkt
      [0x60010, 3, 4] : Packet).w 2 % 2 ^ 22)) + 4 * j) = true ∧ (heardBy host .serial 0x05 (pkt [0x60010, 3, 4]) : Bus).s.domOn
      (regDomain ((4 * ((pkt [0x60010, 3, 4] : Packet).w 2 % 2 ^ 22)) + 4 * j)) = true ∧ plainKey ((4 * ((pkt [0x60010, 3, 4] :
      Packet).w 2 % 2 ^ 22)) + 4 * j) = true ∧ (heardBy host .serial 0x05 (pkt [0x60010, 3, 4]) : Bus).s.writeRefused ((heardBy
      host .serial 0x05 (pkt [0x60010, 3, 4]) : Bus).s.ownerOfSrc (.serial : Src)) ((4 * ((pkt [0x60010, 3, 4] : Packet).w 2 % 2
      ^ 22)) + 4 * j) 0 = none)) := by
  iterate 4 refine And.intro (by decide +kernel) ?_
  decide +kernel

/-- Hypotheses of MemoryCommandsComplete. -/
theorem witness_MemoryCommandsComplete :
    (Heard ((host.setWord 0x7FFF000004 0x12345678) : State) (.serial : Src) 0x08 (pkt [0xF000000, 0x7FF, 2] : Packet) (⟨[], []⟩
      : Env) (heardBy (host.setWord 0x7FFF000004 0x12345678) .serial 0x08 (pkt [0xF000000, 0x7FF, 2]) : Bus) ∧ (pkt [0xF000000,
      0x7FF, 2] : Packet).len = 5 ∧ ((pkt [0xF000000, 0x7FF, 2] : Packet).w 2 % 2 ^ 28 + (pkt [0xF000000, 0x7FF, 2] : Packet).w
      3 % 2 ^ 12 * 2 ^ 28) % 4 = 0 ∧ 1 ≤ ((pkt [0xF000000, 0x7FF, 2] : Packet).w 4 % 2 ^ 12) ∧ ((pkt [0xF000000, 0x7FF, 2] :
      Packet).w 4 % 2 ^ 12) ≤ 4093 ∧ sharedBase ≤ ((pkt [0xF000000, 0x7FF, 2] : Packet).w 2 % 2 ^ 28 + (pkt [0xF000000, 0x7FF,
      2] : Packet).w 3 % 2 ^ 12 * 2 ^ 28) ∧ ((pkt [0xF000000, 0x7FF, 2] : Packet).w 2 % 2 ^ 28 + (pkt [0xF000000, 0x7FF, 2] :
      Packet).w 3 % 2 ^ 12 * 2 ^ 28) + 4 * ((pkt [0xF000000, 0x7FF, 2] : Packet).w 4 % 2 ^ 12) ≤ sharedBase + 0x200000 ∧
      (heardBy (host.setWord 0x7FFF000004 0x12345678) .serial 0x08 (pkt [0xF000000, 0x7FF, 2]) : Bus).s.flag Fd.AWL_LOCK_HELD =
      false) ∧
    (Heard host (.serial : Src) 0x09 (pkt [0xF000000, 0x7FF, 2, 0x89ABCDEF] : Packet) (⟨[], []⟩ : Env) (heardBy host .serial
      0x09 (pkt [0xF000000, 0x7FF, 2, 0x89ABCDEF]) : Bus) ∧ 5 ≤ (pkt [0xF000000, 0x7FF, 2, 0x89ABCDEF] : Packet).len ∧ (pkt
      [0xF000000, 0x7FF, 2, 0x89ABCDEF] : Packet).len ≤ 4095 ∧ ((pkt [0xF000000, 0x7FF, 2, 0x89ABCDEF] : Packet).w 2 % 2 ^ 28 +
      (pkt [0xF000000, 0x7FF, 2, 0x89ABCDEF] : Packet).w 3 % 2 ^ 12 * 2 ^ 28) % 4 = 0 ∧ sharedBase ≤ ((pkt [0xF000000, 0x7FF, 2,
      0x89ABCDEF] : Packet).w 2 % 2 ^ 28 + (pkt [0xF000000, 0x7FF, 2, 0x89ABCDEF] : Packet).w 3 % 2 ^ 12 * 2 ^ 28) ∧ ((pkt
      [0xF000000, 0x7FF, 2, 0x89ABCDEF] : Packet).w 2 % 2 ^ 28 + (pkt [0xF000000, 0x7FF, 2, 0x89ABCDEF] : Packet).w 3 % 2 ^ 12 *
      2 ^ 28) + 4 * ((pkt [0xF000000, 0x7FF, 2, 0x89ABCDEF] : Packet).body.length - 2) ≤ sharedBase + 0x200000 ∧ (heardBy host
      .serial 0x09 (pkt [0xF000000, 0x7FF, 2, 0x89ABCDEF]) : Bus).s.flag Fd.AWL_LOCK_HELD = false) ∧
    (Heard host (.serial : Src) 0x3F (pkt [0xF000000, 0x7FF] : Packet) (⟨[], []⟩ : Env) (heardBy host .serial 0x3F (pkt
      [0xF000000, 0x7FF]) : Bus) ∧ (pkt [0xF000000, 0x7FF] : Packet).len ≤ 4095) ∧
    (host.inEpisode = false ∧ host.serialPlaced = true ∧ host.serialPartial = [] ∧ host.replyWaits .serial = false) ∧
    (ringHost.tongueFree (.core 1 : Src) = true ∧ ringKeys (.core 1 : Src) ≠ none ∧ (busOf ringHost (⟨[], []⟩ : Env)).takeRing
      (.core 1 : Src) 1 (fun ws => ws == [0]) = .took
      ((match (busOf ringHost ⟨[], []⟩).takeRing (.core 1) 1 (fun ws => ws == [0]) with | .took b => b | _ => busOf ringHost ⟨[], []⟩)
      : Bus)) ∧
    (Heard host (.serial : Src) (0x77 : BitVec 8).toNat (pkt [0xF000000, 0x7FF] : Packet) (⟨[], []⟩ : Env) (heardBy host .serial
      0x77 (pkt [0xF000000, 0x7FF]) : Bus) ∧ opKnown (0x77 : BitVec 8).toNat = false) ∧
    (host.tongue.running = none ∧ (host.serialArrive (.serial : Src) (0x3F : BitVec 8).toNat
      ({ pkt [0xF000000, 0x7FF] with loc := false, target := 5 } : Packet)).tongueFree (.serial : Src) = true ∧
      (host.serialArrive (.serial : Src) (0x3F : BitVec 8).toNat ({ pkt [0xF000000, 0x7FF] with loc := false, target := 5 } :
      Packet)).replyRoom (.serial : Src) (firstReplyMax (0x3F : BitVec 8).toNat
      ({ pkt [0xF000000, 0x7FF] with loc := false, target := 5 } : Packet)) = true ∧ (host.serialArrive (.serial : Src) (0x3F :
      BitVec 8).toNat ({ pkt [0xF000000, 0x7FF] with loc := false, target := 5 } : Packet)).isHere
      ({ pkt [0xF000000, 0x7FF] with loc := false, target := 5 } : Packet) = false ∧ (host.serialArrive (.serial : Src) (0x3F :
      BitVec 8).toNat ({ pkt [0xF000000, 0x7FF] with loc := false, target := 5 } : Packet)).tongue.forwarded.length < 32 ∧
      (busOf (host.serialArrive (.serial : Src) (0x3F : BitVec 8).toNat
      ({ pkt [0xF000000, 0x7FF] with loc := false, target := 5 } : Packet)) (⟨[], []⟩ : Env)).takePacket (.serial : Src) (0x3F :
      BitVec 8).toNat ({ pkt [0xF000000, 0x7FF] with loc := false, target := 5 } : Packet) = .took (heardBy host .serial 0x3F
      { pkt [0xF000000, 0x7FF] with loc := false, target := 5 } : Bus) ∧ (heardBy host .serial 0x3F
      { pkt [0xF000000, 0x7FF] with loc := false, target := 5 } : Bus).s.isHere
      ({ pkt [0xF000000, 0x7FF] with loc := false, target := 5 } : Packet) = false ∧ (heardBy host .serial 0x3F
      { pkt [0xF000000, 0x7FF] with loc := false, target := 5 } : Bus).s.bootBars (.serial : Src) (0x3F : BitVec 8).toNat
      ({ pkt [0xF000000, 0x7FF] with loc := false, target := 5 } : Packet) false = false) := by
  iterate 6 refine And.intro (by decide +kernel) ?_
  decide +kernel

/-- Hypotheses of ReplyPathsComplete. -/
theorem witness_ReplyPathsComplete :
    (({ host with time := { now := 1000000 }, tongue := { forwarded := [⟨⟨.serial, 5, 0, 0, 0⟩, 9, 0⟩] } } : State).tongueUp =
      true ∧ ({ host with time := { now := 1000000 }, tongue := { forwarded := [⟨⟨.serial, 5, 0, 0, 0⟩, 9, 0⟩] } } :
      State).tongue.forwarded.find? (fun x => x.req.src == (.serial : Src)) = some (⟨⟨.serial, 5, 0, 0, 0⟩, 9, 0⟩ : Forwarded) ∧
      max 1 (({ host with time := { now := 1000000 }, tongue := { forwarded := [⟨⟨.serial, 5, 0, 0, 0⟩, 9, 0⟩] } } : State).get
      Fd.TONGUE_CFG_FWDTMO) * msTicks ≤
      (({ host with time := { now := 1000000 }, tongue := { forwarded := [⟨⟨.serial, 5, 0, 0, 0⟩, 9, 0⟩] } } : State).time.now +
      2 ^ 56 - (⟨⟨.serial, 5, 0, 0, 0⟩, 9, 0⟩ : Forwarded).sent) % 2 ^ 56) ∧
    (({ host with tongue := { forwarded := [⟨⟨.serial, 5, 0, 0, 0⟩, 9, 0⟩] }, welt := { inbox := [replyMsg] } } :
      State).inEpisode = false ∧
      ({ host with tongue := { forwarded := [⟨⟨.serial, 5, 0, 0, 0⟩, 9, 0⟩] }, welt := { inbox := [replyMsg] } } :
      State).tongueUp = true ∧
      ({ host with tongue := { forwarded := [⟨⟨.serial, 5, 0, 0, 0⟩, 9, 0⟩] }, welt := { inbox := [replyMsg] } } :
      State).commandWaits true = some ((replyMsg : InP) :: ([] : List InP)) ∧
      ({ host with tongue := { forwarded := [⟨⟨.serial, 5, 0, 0, 0⟩, 9, 0⟩] }, welt := { inbox := [replyMsg] } } :
      State).tongue.late = [] ∧
      ({ host with tongue := { forwarded := [⟨⟨.serial, 5, 0, 0, 0⟩, 9, 0⟩] }, welt := { inbox := [replyMsg] } } :
      State).tongue.forwarded.find? (fun x =>
      ({ host with tongue := { forwarded := [⟨⟨.serial, 5, 0, 0, 0⟩, 9, 0⟩] }, welt := { inbox := [replyMsg] } } :
      State).ownerOfSrc x.req.src == (replyMsg : InP).pkt.w 0 % 16 && x.req.tag == (messageWords ((replyMsg : InP) :: ([] : List
      InP))).headD 0 / 2 ^ 16 % 2 ^ 8 && x.dest == (replyMsg : InP).pkt.src.toNat) = some (⟨⟨.serial, 5, 0, 0, 0⟩, 9, 0⟩ :
      Forwarded)) ∧
    (({ cmdHost with welt := { inbox := [cmdMsg] } } : State).inEpisode = false ∧
      ({ cmdHost with welt := { inbox := [cmdMsg] } } : State).halted = false ∧ ({ cmdHost with welt := { inbox := [cmdMsg] } }
      : State).hub.stopping = false ∧ ({ cmdHost with welt := { inbox := [cmdMsg] } } : State).domOn 3 = true ∧
      ({ cmdHost with welt := { inbox := [cmdMsg] } } : State).commandWaits false = some ((cmdMsg : InP) :: ([] : List InP)) ∧
      ({ cmdHost with welt := { inbox := [cmdMsg] } } : State).commandDrops ((cmdMsg : InP).pkt.dflow.toNat) = false ∧
      (messageWords ((cmdMsg : InP) :: ([] : List InP))).any (fun w => w != 0) = true ∧ (messageWords ((cmdMsg : InP) :: ([] :
      List InP))).length = (messageWords ((cmdMsg : InP) :: ([] : List InP))).headD 0 % 4096 ∧ 2 ≤ (messageWords ((cmdMsg : InP)
      :: ([] : List InP))).length) ∧
    (({ ringHost with tongue := { replies := [⟨.core 1, [1, 2, 3], 0, true⟩] } } : State).tongueUp = true ∧
      ({ ringHost with tongue := { replies := [⟨.core 1, [1, 2, 3], 0, true⟩] } } : State).tongue.replies.find? (fun x => x.src
      == .core (1 : Fin 4)) = some (⟨.core 1, [1, 2, 3], 0, true⟩ : Reply) ∧
      ({ ringHost with tongue := { replies := [⟨.core 1, [1, 2, 3], 0, true⟩] } } : State).ringEn (Rg.TONGUE_A_RING (1 : Fin 4))
      = true ∧ (⟨.core 1, [1, 2, 3], 0, true⟩ : Reply).words.length ≤ ringRoom
      (({ ringHost with tongue := { replies := [⟨.core 1, [1, 2, 3], 0, true⟩] } } : State).regN (Rg.TONGUE_A_RPTR (1 : Fin 4)))
      ∧ sharedBase ≤ (({ ringHost with tongue := { replies := [⟨.core 1, [1, 2, 3], 0, true⟩] } } : State).ringBase
      (Rg.TONGUE_A_RING (1 : Fin 4))) ∧ (({ ringHost with tongue := { replies := [⟨.core 1, [1, 2, 3], 0, true⟩] } } :
      State).ringBase (Rg.TONGUE_A_RING (1 : Fin 4))) + 0x8000 ≤ sharedBase + 0x200000 ∧
      ({ ringHost with tongue := { replies := [⟨.core 1, [1, 2, 3], 0, true⟩] } } : State).flag Fd.AWL_LOCK_HELD = false) ∧
    (host.serialTakes = true ∧ host.serialPlaced = true ∧ ((3 : Fin 4096).val ≠ 0 ∨ host.serialPartial ≠ [])) ∧
    (host.serialTakes = true ∧ host.serialPlaced = true) := by
  iterate 5 refine And.intro (by decide +kernel) ?_
  decide +kernel

/-- Hypotheses of LastStoreCompletes. -/
theorem witness_LastStoreCompletes :
    (Heard host (.serial : Src) 0x10 (pkt [0x8000003, 0x40, 0x12345678, 7] : Packet) (⟨[], []⟩ : Env) (heardBy host .serial 0x10
      (pkt [0x8000003, 0x40, 0x12345678, 7]) : Bus) ∧ nbit ((pkt [0x8000003, 0x40, 0x12345678, 7] : Packet).w 2) 26 = false ∧ 5
      ≤ (pkt [0x8000003, 0x40, 0x12345678, 7] : Packet).len ∧ (pkt [0x8000003, 0x40, 0x12345678, 7] : Packet).len ≤ 4095 ∧
      (heardBy host .serial 0x10 (pkt [0x8000003, 0x40, 0x12345678, 7]) : Bus).s.mayWrite ((heardBy host .serial 0x10 (pkt
      [0x8000003, 0x40, 0x12345678, 7]) : Bus).s.ownerOfSrc (.serial : Src)) 9 = true ∧ ((pkt [0x8000003, 0x40, 0x12345678, 7] :
      Packet).w 3 % 2 ^ 20) + 4 * ((pkt [0x8000003, 0x40, 0x12345678, 7] : Packet).len - 4) ≤ 1048576 ∧ ((pkt [0x8000003, 0x40,
      0x12345678, 7] : Packet).w 3 % 2 ^ 20) % 4 = 0 ∧ (heardBy host .serial 0x10 (pkt [0x8000003, 0x40, 0x12345678, 7]) :
      Bus).s.domOn 6 = true ∧ (heardBy host .serial 0x10 (pkt [0x8000003, 0x40, 0x12345678, 7]) : Bus).s.slotState ((pkt
      [0x8000003, 0x40, 0x12345678, 7] : Packet).w 2 % 8) < 2 ∧ (heardBy host .serial 0x10 (pkt [0x8000003, 0x40, 0x12345678,
      7]) : Bus).s.copying ((pkt [0x8000003, 0x40, 0x12345678, 7] : Packet).w 2 % 8) = false ∧ ((heardBy host .serial 0x10 (pkt
      [0x8000003, 0x40, 0x12345678, 7]) : Bus).s.slotState ((pkt [0x8000003, 0x40, 0x12345678, 7] : Packet).w 2 % 8) = 1 ∨ (nbit
      ((pkt [0x8000003, 0x40, 0x12345678, 7] : Packet).w 2) 27) = true) ∧ host.isHere (pkt [0x8000003, 0x40, 0x12345678, 7] :
      Packet) = true) ∧
    (Heard host (.serial : Src) 0x10 (pkt [0xC000003, 0x40, 0xF000000, 0x7FF, 8] : Packet) (⟨[], []⟩ : Env) (heardBy host
      .serial 0x10 (pkt [0xC000003, 0x40, 0xF000000, 0x7FF, 8]) : Bus) ∧ nbit ((pkt [0xC000003, 0x40, 0xF000000, 0x7FF, 8] :
      Packet).w 2) 26 = true ∧ (pkt [0xC000003, 0x40, 0xF000000, 0x7FF, 8] : Packet).len = 7 ∧ (heardBy host .serial 0x10 (pkt
      [0xC000003, 0x40, 0xF000000, 0x7FF, 8]) : Bus).s.mayWrite ((heardBy host .serial 0x10 (pkt [0xC000003, 0x40, 0xF000000,
      0x7FF, 8]) : Bus).s.ownerOfSrc (.serial : Src)) 9 = true ∧ ((pkt [0xC000003, 0x40, 0xF000000, 0x7FF, 8] : Packet).w 3 % 2
      ^ 20) + ((pkt [0xC000003, 0x40, 0xF000000, 0x7FF, 8] : Packet).w 6 % 2 ^ 21) ≤ 1048576 ∧ ((pkt [0xC000003, 0x40,
      0xF000000, 0x7FF, 8] : Packet).w 6 % 2 ^ 21) ≠ 0 ∧ ((pkt [0xC000003, 0x40, 0xF000000, 0x7FF, 8] : Packet).w 6 % 2 ^ 21) %
      4 = 0 ∧ ((pkt [0xC000003, 0x40, 0xF000000, 0x7FF, 8] : Packet).w 3 % 2 ^ 20) % 4 = 0 ∧ (heardBy host .serial 0x10 (pkt
      [0xC000003, 0x40, 0xF000000, 0x7FF, 8]) : Bus).s.domOn 6 = true ∧ (heardBy host .serial 0x10 (pkt [0xC000003, 0x40,
      0xF000000, 0x7FF, 8]) : Bus).s.slotState ((pkt [0xC000003, 0x40, 0xF000000, 0x7FF, 8] : Packet).w 2 % 8) < 2 ∧ (heardBy
      host .serial 0x10 (pkt [0xC000003, 0x40, 0xF000000, 0x7FF, 8]) : Bus).s.copying ((pkt [0xC000003, 0x40, 0xF000000, 0x7FF,
      8] : Packet).w 2 % 8) = false ∧ ((heardBy host .serial 0x10 (pkt [0xC000003, 0x40, 0xF000000, 0x7FF, 8]) :
      Bus).s.slotState ((pkt [0xC000003, 0x40, 0xF000000, 0x7FF, 8] : Packet).w 2 % 8) = 1 ∨ (nbit ((pkt [0xC000003, 0x40,
      0xF000000, 0x7FF, 8] : Packet).w 2) 27) = true)) ∧
    (({ (host.setWord 0x7FFF000004 0x12345678) with last := { copies := [⟨3, 0x40, 0x7FFF000000, 8, ⟨.serial, 1, 0, 0, 0⟩⟩] } }
      : State).inEpisode = false ∧
      ({ (host.setWord 0x7FFF000004 0x12345678) with last := { copies := [⟨3, 0x40, 0x7FFF000000, 8, ⟨.serial, 1, 0, 0, 0⟩⟩] } }
      : State).halted = false ∧
      ({ (host.setWord 0x7FFF000004 0x12345678) with last := { copies := [⟨3, 0x40, 0x7FFF000000, 8, ⟨.serial, 1, 0, 0, 0⟩⟩] } }
      : State).last.copies.find? (fun x => x.slot == (3 : Fin 8).val) = some (⟨3, 0x40, 0x7FFF000000, 8, ⟨.serial, 1, 0, 0, 0⟩⟩
      : StageCopy) ∧ (⟨3, 0x40, 0x7FFF000000, 8, ⟨.serial, 1, 0, 0, 0⟩⟩ : StageCopy).off + (⟨3, 0x40, 0x7FFF000000, 8, ⟨.serial,
      1, 0, 0, 0⟩⟩ : StageCopy).count ≤ 1048576 ∧ (⟨3, 0x40, 0x7FFF000000, 8, ⟨.serial, 1, 0, 0, 0⟩⟩ : StageCopy).count % 4 = 0
      ∧ sharedBase ≤ (⟨3, 0x40, 0x7FFF000000, 8, ⟨.serial, 1, 0, 0, 0⟩⟩ : StageCopy).src ∧ (⟨3, 0x40, 0x7FFF000000, 8, ⟨.serial,
      1, 0, 0, 0⟩⟩ : StageCopy).src + (⟨3, 0x40, 0x7FFF000000, 8, ⟨.serial, 1, 0, 0, 0⟩⟩ : StageCopy).count ≤ sharedBase +
      0x200000 ∧ (⟨3, 0x40, 0x7FFF000000, 8, ⟨.serial, 1, 0, 0, 0⟩⟩ : StageCopy).src % 4 = 0 ∧
      ({ (host.setWord 0x7FFF000004 0x12345678) with last := { copies := [⟨3, 0x40, 0x7FFF000000, 8, ⟨.serial, 1, 0, 0, 0⟩⟩] } }
      : State).flag Fd.AWL_LOCK_HELD = false) ∧
    (Heard ((host.setSlot 3 3) : State) (.serial : Src) 0x11 (pkt [0x8000003] : Packet) (⟨[], []⟩ : Env) (heardBy (host.setSlot
      3 3) .serial 0x11 (pkt [0x8000003]) : Bus) ∧ (pkt [0x8000003] : Packet).len = 3 ∧ nbit ((pkt [0x8000003] : Packet).w 2) 27
      = true ∧ (heardBy (host.setSlot 3 3) .serial 0x11 (pkt [0x8000003]) : Bus).s.mayWrite ((heardBy (host.setSlot 3 3) .serial
      0x11 (pkt [0x8000003]) : Bus).s.ownerOfSrc (.serial : Src)) 9 = true ∧ (heardBy (host.setSlot 3 3) .serial 0x11 (pkt
      [0x8000003]) : Bus).s.domOn 6 = true ∧ (heardBy (host.setSlot 3 3) .serial 0x11 (pkt [0x8000003]) : Bus).s.flag
      Fd.SYS_ROLE_BUSY = false ∧ (heardBy (host.setSlot 3 3) .serial 0x11 (pkt [0x8000003]) : Bus).s.slotState ((pkt [0x8000003]
      : Packet).w 2 % 8) = 3 ∧ (∀ h : Fin 16, (heardBy (host.setSlot 3 3) .serial 0x11 (pkt [0x8000003]) : Bus).s.flag
      (Fd.LAST_HD_SEL_NEXTEN h) = true → (heardBy (host.setSlot 3 3) .serial 0x11 (pkt [0x8000003]) : Bus).s.get
      (Fd.LAST_HD_SEL_NEXT h) ≠ ((pkt [0x8000003] : Packet).w 2 % 8))) ∧
    (Heard ((host.setSlot 3 1) : State) (.serial : Src) 0x11 (pkt [0x3] : Packet) (⟨[], []⟩ : Env) (heardBy (host.setSlot 3 1)
      .serial 0x11 (pkt [0x3]) : Bus) ∧ (pkt [0x3] : Packet).len = 3 ∧ nbit ((pkt [0x3] : Packet).w 2) 27 = false ∧ (heardBy
      (host.setSlot 3 1) .serial 0x11 (pkt [0x3]) : Bus).s.mayWrite ((heardBy (host.setSlot 3 1) .serial 0x11 (pkt [0x3]) :
      Bus).s.ownerOfSrc (.serial : Src)) 9 = true ∧ (heardBy (host.setSlot 3 1) .serial 0x11 (pkt [0x3]) : Bus).s.domOn 6 = true
      ∧ (heardBy (host.setSlot 3 1) .serial 0x11 (pkt [0x3]) : Bus).s.flag Fd.SYS_ROLE_BUSY = false ∧ (∀ n : Fin 8, (heardBy
      (host.setSlot 3 1) .serial 0x11 (pkt [0x3]) : Bus).s.slotState n ≠ 2) ∧ (heardBy (host.setSlot 3 1) .serial 0x11 (pkt
      [0x3]) : Bus).s.copying ((pkt [0x3] : Packet).w 2 % 8) = false ∧ (heardBy (host.setSlot 3 1) .serial 0x11 (pkt [0x3]) :
      Bus).s.slotState ((pkt [0x3] : Packet).w 2 % 8) = 1 ∧ (heardBy (host.setSlot 3 1) .serial 0x11 (pkt [0x3]) :
      Bus).s.imageSolesDown ((pkt [0x3] : Packet).w 2 % 8) = false ∧ (heardBy (host.setSlot 3 1) .serial 0x11 (pkt [0x3]) :
      Bus).s.fenced uSec = false) ∧
    (({ (host.setSlot 3 2) with last := { admitting := some ⟨3, ⟨.serial, 1, 0, 0, 0⟩, 0⟩ } } : State).inEpisode = false ∧
      ({ (host.setSlot 3 2) with last := { admitting := some ⟨3, ⟨.serial, 1, 0, 0, 0⟩, 0⟩ } } : State).last.admitting = some
      ⟨(3 : Fin 8).val, (⟨.serial, 1, 0, 0, 0⟩ : Req), (0 : Nat)⟩ ∧
      ({ (host.setSlot 3 2) with last := { admitting := some ⟨3, ⟨.serial, 1, 0, 0, 0⟩, 0⟩ } } : State).hasPath .last = true) := by
  iterate 5 refine And.intro (by decide +kernel) ?_
  decide +kernel

/-- Hypotheses of CommitAndReportCommandsComplete. -/
theorem witness_CommitAndReportCommandsComplete :
    (Heard ((host.modHead 3 (fun x => { x with running := true })) : State) (.serial : Src) 0x12 (pkt [0x8] : Packet) (⟨[], []⟩
      : Env) (heardBy (host.modHead 3 (fun x => { x with running := true })) .serial 0x12 (pkt [0x8]) : Bus) ∧ (pkt [0x8] :
      Packet).len = 3 ∧ ((List.range 16).filter (nbit ((pkt [0x8] : Packet).w 2))) ≠ [] ∧ (∀ x, x ∈ ((List.range 16).filter
      (nbit ((pkt [0x8] : Packet).w 2))) → (heardBy (host.modHead 3 (fun x => { x with running := true })) .serial 0x12 (pkt
      [0x8]) : Bus).s.mayWrite ((heardBy (host.modHead 3 (fun x => { x with running := true })) .serial 0x12 (pkt [0x8]) :
      Bus).s.ownerOfSrc (.serial : Src)) (20 + x) = true) ∧ (∀ x, x ∈ ((List.range 16).filter (nbit ((pkt [0x8] : Packet).w 2)))
      → ((heardBy (host.modHead 3 (fun x => { x with running := true })) .serial 0x12 (pkt [0x8]) : Bus).s.headS x).running =
      true ∧ (heardBy (host.modHead 3 (fun x => { x with running := true })) .serial 0x12 (pkt [0x8]) : Bus).s.headDown x =
      false ∧ (heardBy (host.modHead 3 (fun x => { x with running := true })) .serial 0x12 (pkt [0x8]) : Bus).s.flag
      (Fd.HD_COMMIT_PEND x) = false)) ∧
    (Heard host (.serial : Src) 0x13 (pkt [0x8] : Packet) (⟨[], []⟩ : Env) (heardBy host .serial 0x13 (pkt [0x8]) : Bus) ∧ (pkt
      [0x8] : Packet).len = 3) ∧
    (Heard host (.serial : Src) 0x18 (pkt [0x23, 0x1234] : Packet) (⟨[], []⟩ : Env) (heardBy host .serial 0x18 (pkt [0x23,
      0x1234]) : Bus) ∧ (pkt [0x23, 0x1234] : Packet).len = 4 ∧ nbit ((pkt [0x23, 0x1234] : Packet).w 2) 8 = false ∧ (heardBy
      host .serial 0x18 (pkt [0x23, 0x1234]) : Bus).s.mayWrite ((heardBy host .serial 0x18 (pkt [0x23, 0x1234]) :
      Bus).s.ownerOfSrc (.serial : Src)) (20 + ((pkt [0x23, 0x1234] : Packet).w 2 % 16)) = true ∧ (heardBy host .serial 0x18
      (pkt [0x23, 0x1234]) : Bus).s.headDown ((pkt [0x23, 0x1234] : Packet).w 2 % 16) = false) ∧
    (Heard host (.serial : Src) 0x18 (pkt [0x123, 0x1234] : Packet) (⟨[], []⟩ : Env) (heardBy host .serial 0x18 (pkt [0x123,
      0x1234]) : Bus) ∧ (pkt [0x123, 0x1234] : Packet).len = 4 ∧ nbit ((pkt [0x123, 0x1234] : Packet).w 2) 8 = true ∧ (heardBy
      host .serial 0x18 (pkt [0x123, 0x1234]) : Bus).s.mayWrite ((heardBy host .serial 0x18 (pkt [0x123, 0x1234]) :
      Bus).s.ownerOfSrc (.serial : Src)) (20 + ((pkt [0x123, 0x1234] : Packet).w 2 % 16)) = true ∧ (heardBy host .serial 0x18
      (pkt [0x123, 0x1234]) : Bus).s.headDown ((pkt [0x123, 0x1234] : Packet).w 2 % 16) = false) ∧
    (Heard ((host.modHead 3 (fun x => { x with frozen := some {} })) : State) (.serial : Src) 0x29 (pkt [0x3, 1, 2, 3, 4] :
      Packet) (⟨[], []⟩ : Env) (heardBy (host.modHead 3 (fun x => { x with frozen := some {} })) .serial 0x29 (pkt [0x3, 1, 2,
      3, 4]) : Bus) ∧ (pkt [0x3, 1, 2, 3, 4] : Packet).len = 7 ∧ nbit ((pkt [0x3, 1, 2, 3, 4] : Packet).w 2) 4 = false ∧
      (heardBy (host.modHead 3 (fun x => { x with frozen := some {} })) .serial 0x29 (pkt [0x3, 1, 2, 3, 4]) : Bus).s.fenced
      (uHead ((pkt [0x3, 1, 2, 3, 4] : Packet).w 2 % 16)) = false ∧ (heardBy (host.modHead 3 (fun x =>
      { x with frozen := some {} })) .serial 0x29 (pkt [0x3, 1, 2, 3, 4]) : Bus).s.domOn (solegOf ((pkt [0x3, 1, 2, 3, 4] :
      Packet).w 2 % 16)) = true ∧ ((heardBy (host.modHead 3 (fun x => { x with frozen := some {} })) .serial 0x29 (pkt [0x3, 1,
      2, 3, 4]) : Bus).s.headS ((pkt [0x3, 1, 2, 3, 4] : Packet).w 2 % 16)).frozen = some ({} : ReportRec)) ∧
    (Heard (((host.set Fd.SEC_KEYSTAT_IDPROV 1).modHead 3 (fun x => { x with frozen := some {} })) : State) (.serial : Src) 0x29
      (pkt [0x13, 1, 2, 3, 4] : Packet) (⟨[], []⟩ : Env) (heardBy ((host.set Fd.SEC_KEYSTAT_IDPROV 1).modHead 3 (fun x =>
      { x with frozen := some {} })) .serial 0x29 (pkt [0x13, 1, 2, 3, 4]) : Bus) ∧ (pkt [0x13, 1, 2, 3, 4] : Packet).len = 7 ∧
      nbit ((pkt [0x13, 1, 2, 3, 4] : Packet).w 2) 4 = true ∧ (heardBy ((host.set Fd.SEC_KEYSTAT_IDPROV 1).modHead 3 (fun x =>
      { x with frozen := some {} })) .serial 0x29 (pkt [0x13, 1, 2, 3, 4]) : Bus).s.fenced (uHead ((pkt [0x13, 1, 2, 3, 4] :
      Packet).w 2 % 16)) = false ∧ (heardBy ((host.set Fd.SEC_KEYSTAT_IDPROV 1).modHead 3 (fun x =>
      { x with frozen := some {} })) .serial 0x29 (pkt [0x13, 1, 2, 3, 4]) : Bus).s.domOn (solegOf ((pkt [0x13, 1, 2, 3, 4] :
      Packet).w 2 % 16)) = true ∧ ((heardBy ((host.set Fd.SEC_KEYSTAT_IDPROV 1).modHead 3 (fun x =>
      { x with frozen := some {} })) .serial 0x29 (pkt [0x13, 1, 2, 3, 4]) : Bus).s.headS ((pkt [0x13, 1, 2, 3, 4] : Packet).w 2
      % 16)).frozen = some ({} : ReportRec) ∧ (heardBy ((host.set Fd.SEC_KEYSTAT_IDPROV 1).modHead 3 (fun x =>
      { x with frozen := some {} })) .serial 0x29 (pkt [0x13, 1, 2, 3, 4]) : Bus).s.flag Fd.SEC_KEYSTAT_IDPROV = true ∧ (heardBy
      ((host.set Fd.SEC_KEYSTAT_IDPROV 1).modHead 3 (fun x => { x with frozen := some {} })) .serial 0x29 (pkt [0x13, 1, 2, 3,
      4]) : Bus).s.sec.sign = none) ∧
    (({ host with sec := { sign := some ⟨⟨.serial, 1, 0, 0, 0⟩, [1, 2]⟩ } } : State).inEpisode = false ∧
      ({ host with sec := { sign := some ⟨⟨.serial, 1, 0, 0, 0⟩, [1, 2]⟩ } } : State).halted = false ∧
      ({ host with sec := { sign := some ⟨⟨.serial, 1, 0, 0, 0⟩, [1, 2]⟩ } } : State).sec.sign = some (⟨⟨.serial, 1, 0, 0, 0⟩,
      [1, 2]⟩ : SignJob) ∧ ({ host with sec := { sign := some ⟨⟨.serial, 1, 0, 0, 0⟩, [1, 2]⟩ } } : State).fenced uSec = false) := by
  iterate 6 refine And.intro (by decide +kernel) ?_
  decide +kernel

/-- Hypotheses of TrustCommandsComplete. -/
theorem witness_TrustCommandsComplete :
    (Heard host (.serial : Src) 0x20 (pkt [0x4000000, 0x40, 0] : Packet) (⟨[], []⟩ : Env) (heardBy host .serial 0x20 (pkt
      [0x4000000, 0x40, 0]) : Bus) ∧ (pkt [0x4000000, 0x40, 0] : Packet).len = 5 ∧ nbit ((pkt [0x4000000, 0x40, 0] : Packet).w
      2) 25 = false ∧ ((pkt [0x4000000, 0x40, 0] : Packet).w 2 / 2 ^ 26 % 4) ≠ 3 ∧ ((pkt [0x4000000, 0x40, 0] : Packet).w 3 % 2
      ^ 28 + (pkt [0x4000000, 0x40, 0] : Packet).w 4 % 2 ^ 12 * 2 ^ 28) % 4 = 0 ∧ (heardBy host .serial 0x20 (pkt [0x4000000,
      0x40, 0]) : Bus).s.fenced uSec = false ∧ (heardBy host .serial 0x20 (pkt [0x4000000, 0x40, 0]) : Bus).s.sec.verify = none
      ∧ (heardBy host .serial 0x20 (pkt [0x4000000, 0x40, 0]) : Bus).s.sec.loadReq = none) ∧
    (Heard (((host.set Fd.SEC_BOOT_STATE 2).set Fd.SEC_BOOT_SRC 1) : State) (.serial : Src) 0x20 (pkt [0x2000000, 0x40, 0] :
      Packet) (⟨[], []⟩ : Env) (heardBy ((host.set Fd.SEC_BOOT_STATE 2).set Fd.SEC_BOOT_SRC 1) .serial 0x20 (pkt [0x2000000,
      0x40, 0]) : Bus) ∧ (pkt [0x2000000, 0x40, 0] : Packet).len = 5 ∧ nbit ((pkt [0x2000000, 0x40, 0] : Packet).w 2) 25 = true
      ∧ ((pkt [0x2000000, 0x40, 0] : Packet).w 2 / 2 ^ 26 % 4) = 0 ∧ ((pkt [0x2000000, 0x40, 0] : Packet).w 3 % 2 ^ 28 + (pkt
      [0x2000000, 0x40, 0] : Packet).w 4 % 2 ^ 12 * 2 ^ 28) % 4 = 0 ∧ (heardBy ((host.set Fd.SEC_BOOT_STATE 2).set
      Fd.SEC_BOOT_SRC 1) .serial 0x20 (pkt [0x2000000, 0x40, 0]) : Bus).s.bootState = 2 ∧ (heardBy ((host.set Fd.SEC_BOOT_STATE
      2).set Fd.SEC_BOOT_SRC 1) .serial 0x20 (pkt [0x2000000, 0x40, 0]) : Bus).s.isBootPath (.serial : Src) = true ∧ (heardBy
      ((host.set Fd.SEC_BOOT_STATE 2).set Fd.SEC_BOOT_SRC 1) .serial 0x20 (pkt [0x2000000, 0x40, 0]) : Bus).s.fenced uSec =
      false ∧ (heardBy ((host.set Fd.SEC_BOOT_STATE 2).set Fd.SEC_BOOT_SRC 1) .serial 0x20 (pkt [0x2000000, 0x40, 0]) :
      Bus).s.sec.verify = none ∧ (heardBy ((host.set Fd.SEC_BOOT_STATE 2).set Fd.SEC_BOOT_SRC 1) .serial 0x20 (pkt [0x2000000,
      0x40, 0]) : Bus).s.sec.loadReq = none) ∧
    (({ host with sec := { verify := some ⟨⟨.serial, 1, 0, 0, 0⟩, 0, false, sharedBase⟩ } } : State).inEpisode = false ∧
      ({ host with sec := { verify := some ⟨⟨.serial, 1, 0, 0, 0⟩, 0, false, sharedBase⟩ } } : State).halted = false ∧
      ({ host with sec := { verify := some ⟨⟨.serial, 1, 0, 0, 0⟩, 0, false, sharedBase⟩ } } : State).domOn 2 = true ∧
      ({ host with sec := { verify := some ⟨⟨.serial, 1, 0, 0, 0⟩, 0, false, sharedBase⟩ } } : State).fenced uSec = false ∧
      ({ host with sec := { verify := some ⟨⟨.serial, 1, 0, 0, 0⟩, 0, false, sharedBase⟩ } } : State).sec.verify = some
      (⟨⟨.serial, 1, 0, 0, 0⟩, 0, false, sharedBase⟩ : VerJob) ∧
      ({ host with sec := { verify := some ⟨⟨.serial, 1, 0, 0, 0⟩, 0, false, sharedBase⟩ } } : State).hasPath .image = true ∧
      (⟨⟨.serial, 1, 0, 0, 0⟩, 0, false, sharedBase⟩ : VerJob).load = false ∧ (⟨⟨.serial, 1, 0, 0, 0⟩, 0, false, sharedBase⟩ :
      VerJob).addr % 4 = 0 ∧ sharedBase ≤ (⟨⟨.serial, 1, 0, 0, 0⟩, 0, false, sharedBase⟩ : VerJob).addr ∧ (⟨⟨.serial, 1, 0, 0,
      0⟩, 0, false, sharedBase⟩ : VerJob).addr + 64 ≤ sharedBase + 0x200000 ∧ (imgHeadBad (wordsImg
      (({ host with sec := { verify := some ⟨⟨.serial, 1, 0, 0, 0⟩, 0, false, sharedBase⟩ } } : State).words (⟨⟨.serial, 1, 0,
      0, 0⟩, 0, false, sharedBase⟩ : VerJob).addr 16)) (kindLimits (⟨⟨.serial, 1, 0, 0, 0⟩, 0, false, sharedBase⟩ :
      VerJob).kind).1 = false → imgLenBad (wordsImg
      (({ host with sec := { verify := some ⟨⟨.serial, 1, 0, 0, 0⟩, 0, false, sharedBase⟩ } } : State).words (⟨⟨.serial, 1, 0,
      0, 0⟩, 0, false, sharedBase⟩ : VerJob).addr 16)) (kindLimits (⟨⟨.serial, 1, 0, 0, 0⟩, 0, false, sharedBase⟩ :
      VerJob).kind).2 = false → (⟨⟨.serial, 1, 0, 0, 0⟩, 0, false, sharedBase⟩ : VerJob).addr + imgLength (wordsImg
      (({ host with sec := { verify := some ⟨⟨.serial, 1, 0, 0, 0⟩, 0, false, sharedBase⟩ } } : State).words (⟨⟨.serial, 1, 0,
      0, 0⟩, 0, false, sharedBase⟩ : VerJob).addr 16)) ≤ sharedBase + 0x200000 ∧ 64 ≤ imgLength (wordsImg
      (({ host with sec := { verify := some ⟨⟨.serial, 1, 0, 0, 0⟩, 0, false, sharedBase⟩ } } : State).words (⟨⟨.serial, 1, 0,
      0, 0⟩, 0, false, sharedBase⟩ : VerJob).addr 16)) ∧ imgLength (wordsImg
      (({ host with sec := { verify := some ⟨⟨.serial, 1, 0, 0, 0⟩, 0, false, sharedBase⟩ } } : State).words (⟨⟨.serial, 1, 0,
      0, 0⟩, 0, false, sharedBase⟩ : VerJob).addr 16)) % 4 = 0) ∧
      ({ host with sec := { verify := some ⟨⟨.serial, 1, 0, 0, 0⟩, 0, false, sharedBase⟩ } } : State).flag Fd.AWL_LOCK_HELD =
      false) ∧
    (Heard host (.serial : Src) 0x21 ({ pkt [0] with ukind := 4, uindex := 2 } : Packet) (⟨[], []⟩ : Env) (heardBy host .serial
      0x21 { pkt [0] with ukind := 4, uindex := 2 } : Bus) ∧ ({ pkt [0] with ukind := 4, uindex := 2 } : Packet).len = 3 ∧
      ({ pkt [0] with ukind := 4, uindex := 2 } : Packet).ukind.toNat = 4 ∧ (({ pkt [0] with ukind := 4, uindex := 2 } :
      Packet).uindex.toNat) < 4 ∧ (heardBy host .serial 0x21 { pkt [0] with ukind := 4, uindex := 2 } : Bus).s.mayWrite
      ((heardBy host .serial 0x21 { pkt [0] with ukind := 4, uindex := 2 } : Bus).s.ownerOfSrc (.serial : Src)) 13 = true ∧
      (heardBy host .serial 0x21 { pkt [0] with ukind := 4, uindex := 2 } : Bus).s.fenced (uCore
      (({ pkt [0] with ukind := 4, uindex := 2 } : Packet).uindex.toNat)) = false ∧ (heardBy host .serial 0x21
      { pkt [0] with ukind := 4, uindex := 2 } : Bus).s.domOn (awlDomOf (({ pkt [0] with ukind := 4, uindex := 2 } :
      Packet).uindex.toNat)) = true ∧ (heardBy host .serial 0x21 { pkt [0] with ukind := 4, uindex := 2 } : Bus).s.coreState
      (({ pkt [0] with ukind := 4, uindex := 2 } : Packet).uindex.toNat) = 0 ∧ (heardBy host .serial 0x21
      { pkt [0] with ukind := 4, uindex := 2 } : Bus).s.rst.held.contains (uCore (({ pkt [0] with ukind := 4, uindex := 2 } :
      Packet).uindex.toNat)) = false) ∧
    ((((host.set (Fd.AWL_STAT_STATE 2) 1).setCore 2 { start := some ⟨.serial, 1, 0, 0, 0⟩ }) : State).inEpisode = false ∧
      (((host.set (Fd.AWL_STAT_STATE 2) 1).setCore 2 { start := some ⟨.serial, 1, 0, 0, 0⟩ }) : State).halted = false ∧
      ((((host.set (Fd.AWL_STAT_STATE 2) 1).setCore 2 { start := some ⟨.serial, 1, 0, 0, 0⟩ }) : State).core (2 : Fin 4)).start
      = some (⟨.serial, 1, 0, 0, 0⟩ : Req) ∧ (((host.set (Fd.AWL_STAT_STATE 2) 1).setCore 2
      { start := some ⟨.serial, 1, 0, 0, 0⟩ }) : State).coreState (2 : Fin 4) = 1 ∧ (((host.set (Fd.AWL_STAT_STATE 2) 1).setCore
      2 { start := some ⟨.serial, 1, 0, 0, 0⟩ }) : State).fenced uSec = false ∧ (((host.set (Fd.AWL_STAT_STATE 2) 1).setCore 2
      { start := some ⟨.serial, 1, 0, 0, 0⟩ }) : State).hasPath (.core (2 : Fin 4)) = true ∧ (((host.set (Fd.AWL_STAT_STATE 2)
      1).setCore 2 { start := some ⟨.serial, 1, 0, 0, 0⟩ }) : State).unitInReset (uCore (2 : Fin 4)) = false) ∧
    (Heard ((host.set Fd.SEC_KEYSTAT_IDPROV 1) : State) (.serial : Src) 0x28 (pkt [1, 2, 3, 4] : Packet) (⟨[], []⟩ : Env)
      (heardBy (host.set Fd.SEC_KEYSTAT_IDPROV 1) .serial 0x28 (pkt [1, 2, 3, 4]) : Bus) ∧ (pkt [1, 2, 3, 4] : Packet).len = 6 ∧
      (heardBy (host.set Fd.SEC_KEYSTAT_IDPROV 1) .serial 0x28 (pkt [1, 2, 3, 4]) : Bus).s.fenced uSec = false ∧ (heardBy
      (host.set Fd.SEC_KEYSTAT_IDPROV 1) .serial 0x28 (pkt [1, 2, 3, 4]) : Bus).s.flag Fd.SEC_KEYSTAT_IDPROV = true ∧ (heardBy
      (host.set Fd.SEC_KEYSTAT_IDPROV 1) .serial 0x28 (pkt [1, 2, 3, 4]) : Bus).s.sec.sign = none) ∧
    (((host.set Fd.SEC_BOOT_STATE 1) : State).inEpisode = false ∧ ((host.set Fd.SEC_BOOT_STATE 1) : State).halted = false ∧
      ((host.set Fd.SEC_BOOT_STATE 1) : State).bootState = 1 ∧ ((host.set Fd.SEC_BOOT_STATE 1) : State).fenced uSec = false) ∧
    (entryUp.inEpisode = false ∧ entryUp.halted = false ∧ entryUp.bootState = 4 ∧ entryUp.fenced uSec = false ∧
      entryUp.sec.loadReq = none ∧ entryUp.entryDown (entryUp.manImg) (entryUp.sec.entry) true = false ∧ (entryGddr
      (entryUp.manImg) (entryUp.sec.entry) true = false ∨ entryUp.flag Fd.MEM_STAT_READY = true) ∧ entKind (entryUp.manImg)
      (entryUp.sec.entry) ≠ 1 ∧ (entryUp.sec.entry) + 1 < manCount (entryUp.manImg) ∧ (busOf entryUp (⟨[], []⟩ :
      Env)).entryStore (entryUp.manImg) (entryUp.sec.entry) (bytesWords ((List.range (entLen (entryUp.manImg)
      (entryUp.sec.entry))).map (fun k => (([1, 2, 3, 4, 5, 6, 7, 8] : List Byte).getD k 0).toNat))) = .ok ([] : List Nat) false
      ((match (busOf entryUp ⟨[], []⟩).entryStore entryUp.manImg 0 [0x4030201, 0x8070605] with | .ok _ _ c => c | _ => busOf live ⟨[], []⟩)
      : Bus) ∧
      ((match (busOf entryUp ⟨[], []⟩).entryStore entryUp.manImg 0 [0x4030201, 0x8070605] with | .ok _ _ c => c | _ => busOf live ⟨[], []⟩)
      : Bus).s.sec = entryUp.sec) ∧
    (downEntry.inEpisode = false ∧ downEntry.halted = false ∧ downEntry.bootState = 4 ∧ downEntry.fenced uSec = false ∧
      downEntry.sec.loadReq = none ∧ downEntry.entryDown downEntry.manImg downEntry.sec.entry true = true) ∧
    (({ (host.set Fd.SEC_FUSECMD_BUSY 1) with sec := { fuse := some (1, 3, []) } } : State).inEpisode = false ∧
      ({ (host.set Fd.SEC_FUSECMD_BUSY 1) with sec := { fuse := some (1, 3, []) } } : State).sec.fuse = some ((1 : Nat), (3 :
      Nat), ([] : List Nat)) ∧ ({ (host.set Fd.SEC_FUSECMD_BUSY 1) with sec := { fuse := some (1, 3, []) } } :
      State).rst.waiting = []) := by
  iterate 9 refine And.intro (by decide +kernel) ?_
  decide +kernel

/-- Hypotheses of FaultCommandsComplete. -/
theorem witness_FaultCommandsComplete :
    (Heard ((host.report (uSole 1) 0x14 1 0) : State) (.serial : Src) 0x30 (pkt [0x80] : Packet) (⟨[], []⟩ : Env) (heardBy
      (host.report (uSole 1) 0x14 1 0) .serial 0x30 (pkt [0x80]) : Bus) ∧ (pkt [0x80] : Packet).len = 3 ∧ ((pkt [0x80] :
      Packet).w 2 / 2 ^ 6 % 2 ^ 7) ≠ 0 ∧ ((pkt [0x80] : Packet).w 2 % 2 ^ 6) + ((pkt [0x80] : Packet).w 2 / 2 ^ 6 % 2 ^ 7) ≤ 64) ∧
    (Heard ((host.report (uSole 1) 0x14 1 0) : State) (.serial : Src) 0x31 (pkt [0x10401] : Packet) (⟨[], []⟩ : Env) (heardBy
      (host.report (uSole 1) 0x14 1 0) .serial 0x31 (pkt [0x10401]) : Bus) ∧ (pkt [0x10401] : Packet).len = 3 ∧ (heardBy
      (host.report (uSole 1) 0x14 1 0) .serial 0x31 (pkt [0x10401]) : Bus).s.mayWrite ((heardBy (host.report (uSole 1) 0x14 1 0)
      .serial 0x31 (pkt [0x10401]) : Bus).s.ownerOfSrc (.serial : Src)) 4 = true ∧ unitValid ((pkt [0x10401] : Packet).w 2 % 2 ^
      16) = true ∧ ((nbit ((pkt [0x10401] : Packet).w 2) 19) = true ∨ ((pkt [0x10401] : Packet).w 2 / 2 ^ 16 % 2 ^ 3) ≤ 4)) ∧
    (({ host with hub := { host.hub with stopping := true } } : State).hub.stopping = true ∧
      ({ host with hub := { host.hub with stopping := true } } : State).sec.fuse = none ∧
      ({ host with hub := { host.hub with stopping := true } } : State).rst.asserted = []) := by
  iterate 2 refine And.intro (by decide +kernel) ?_
  decide +kernel

/-- Hypotheses of UnitResetsComplete. -/
theorem witness_UnitResetsComplete :
    (Heard ((host.set (Fd.LACE_CH_STAT_STATE 3) 2) : State) (.serial : Src) 0x38 ({ pkt [0] with ukind := 5, uindex := 3 } :
      Packet) (⟨[], []⟩ : Env) (heardBy (host.set (Fd.LACE_CH_STAT_STATE 3) 2) .serial 0x38
      { pkt [0] with ukind := 5, uindex := 3 } : Bus) ∧ ({ pkt [0] with ukind := 5, uindex := 3 } : Packet).len = 3 ∧
      ({ pkt [0] with ukind := 5, uindex := 3 } : Packet).w 2 % 4 = 0 ∧ (({ pkt [0] with ukind := 5, uindex := 3 } :
      Packet).sel) / 1024 ≠ 0 ∧ (({ pkt [0] with ukind := 5, uindex := 3 } : Packet).sel) / 1024 < 0x10 ∧ unitValid
      (({ pkt [0] with ukind := 5, uindex := 3 } : Packet).sel) = true ∧ (heardBy (host.set (Fd.LACE_CH_STAT_STATE 3) 2) .serial
      0x38 { pkt [0] with ukind := 5, uindex := 3 } : Bus).s.mayWrite ((heardBy (host.set (Fd.LACE_CH_STAT_STATE 3) 2) .serial
      0x38 { pkt [0] with ukind := 5, uindex := 3 } : Bus).s.ownerOfSrc (.serial : Src)) (unitOwner
      (({ pkt [0] with ukind := 5, uindex := 3 } : Packet).sel)) = true ∧ (heardBy (host.set (Fd.LACE_CH_STAT_STATE 3) 2)
      .serial 0x38 { pkt [0] with ukind := 5, uindex := 3 } : Bus).s.domOn (unitDomain
      (({ pkt [0] with ukind := 5, uindex := 3 } : Packet).sel)) = true) ∧
    (Heard ((host.set (Fd.INS_FE_CTL_EN 1) 1) : State) (.serial : Src) 0x38 ({ pkt [1] with ukind := 8, uindex := 1 } : Packet)
      (⟨[], []⟩ : Env) (heardBy (host.set (Fd.INS_FE_CTL_EN 1) 1) .serial 0x38 { pkt [1] with ukind := 8, uindex := 1 } : Bus) ∧
      ({ pkt [1] with ukind := 8, uindex := 1 } : Packet).len = 3 ∧ ({ pkt [1] with ukind := 8, uindex := 1 } : Packet).w 2 % 4
      = 1 ∧ (({ pkt [1] with ukind := 8, uindex := 1 } : Packet).sel) / 1024 ≠ 0 ∧ (({ pkt [1] with ukind := 8, uindex := 1 } :
      Packet).sel) / 1024 < 0x10 ∧ unitValid (({ pkt [1] with ukind := 8, uindex := 1 } : Packet).sel) = true ∧ (heardBy
      (host.set (Fd.INS_FE_CTL_EN 1) 1) .serial 0x38 { pkt [1] with ukind := 8, uindex := 1 } : Bus).s.mayWrite ((heardBy
      (host.set (Fd.INS_FE_CTL_EN 1) 1) .serial 0x38 { pkt [1] with ukind := 8, uindex := 1 } : Bus).s.ownerOfSrc (.serial :
      Src)) (unitOwner (({ pkt [1] with ukind := 8, uindex := 1 } : Packet).sel)) = true ∧ (heardBy (host.set (Fd.INS_FE_CTL_EN
      1) 1) .serial 0x38 { pkt [1] with ukind := 8, uindex := 1 } : Bus).s.domOn (unitDomain
      (({ pkt [1] with ukind := 8, uindex := 1 } : Packet).sel)) = true) ∧
    (Heard ({ host with rst := { held := [8193] } } : State) (.serial : Src) 0x38 ({ pkt [2] with ukind := 8, uindex := 1 } :
      Packet) (⟨[], []⟩ : Env) (heardBy { host with rst := { held := [8193] } } .serial 0x38
      { pkt [2] with ukind := 8, uindex := 1 } : Bus) ∧ ({ pkt [2] with ukind := 8, uindex := 1 } : Packet).len = 3 ∧
      ({ pkt [2] with ukind := 8, uindex := 1 } : Packet).w 2 % 4 = 2 ∧ (({ pkt [2] with ukind := 8, uindex := 1 } :
      Packet).sel) / 1024 ≠ 0 ∧ (({ pkt [2] with ukind := 8, uindex := 1 } : Packet).sel) / 1024 < 0x10 ∧ unitValid
      (({ pkt [2] with ukind := 8, uindex := 1 } : Packet).sel) = true ∧ (heardBy { host with rst := { held := [8193] } }
      .serial 0x38 { pkt [2] with ukind := 8, uindex := 1 } : Bus).s.mayWrite ((heardBy { host with rst := { held := [8193] } }
      .serial 0x38 { pkt [2] with ukind := 8, uindex := 1 } : Bus).s.ownerOfSrc (.serial : Src)) (unitOwner
      (({ pkt [2] with ukind := 8, uindex := 1 } : Packet).sel)) = true ∧ (heardBy { host with rst := { held := [8193] } }
      .serial 0x38 { pkt [2] with ukind := 8, uindex := 1 } : Bus).s.domOn (unitDomain
      (({ pkt [2] with ukind := 8, uindex := 1 } : Packet).sel)) = true ∧ (({ pkt [2] with ukind := 8, uindex := 1 } :
      Packet).sel) ∈ (heardBy { host with rst := { held := [8193] } } .serial 0x38 { pkt [2] with ukind := 8, uindex := 1 } :
      Bus).s.rst.held) ∧
    (({ host with rst := { pulsed := [8193] }, tongue := { resets := [(8193, ⟨.serial, 1, 0, 0, 0⟩)] } } : State).inEpisode =
      false ∧ (unitOf (8 : BitVec 6).toNat (1 : BitVec 10).toNat) ∈
      ({ host with rst := { pulsed := [8193] }, tongue := { resets := [(8193, ⟨.serial, 1, 0, 0, 0⟩)] } } : State).rst.pulsed ∧
      ((unitOf (8 : BitVec 6).toNat (1 : BitVec 10).toNat), (⟨.serial, 1, 0, 0, 0⟩ : Req)) ∈
      ({ host with rst := { pulsed := [8193] }, tongue := { resets := [(8193, ⟨.serial, 1, 0, 0, 0⟩)] } } :
      State).tongue.resets) := by
  iterate 3 refine And.intro (by decide +kernel) ?_
  decide +kernel

/-- Hypotheses of DeviceResetAndPowerCommandsComplete. -/
theorem witness_DeviceResetAndPowerCommandsComplete :
    (Heard host (.serial : Src) 0x39 (pkt [0x3E50] : Packet) (⟨[], []⟩ : Env) (heardBy host .serial 0x39 (pkt [0x3E50]) : Bus) ∧
      (pkt [0x3E50] : Packet).len = 3 ∧ (heardBy host .serial 0x39 (pkt [0x3E50]) : Bus).s.mayWrite ((heardBy host .serial 0x39
      (pkt [0x3E50]) : Bus).s.ownerOfSrc (.serial : Src)) 3 = true ∧ (pkt [0x3E50] : Packet).w 2 = 0x3E50) ∧
    (Heard host (.serial : Src) 0x39 (pkt [0x3E51] : Packet) (⟨[], []⟩ : Env) (heardBy host .serial 0x39 (pkt [0x3E51]) : Bus) ∧
      (pkt [0x3E51] : Packet).len = 3 ∧ (heardBy host .serial 0x39 (pkt [0x3E51]) : Bus).s.mayWrite ((heardBy host .serial 0x39
      (pkt [0x3E51]) : Bus).s.ownerOfSrc (.serial : Src)) 3 = true ∧ (pkt [0x3E51] : Packet).w 2 = 0x3E51) ∧
    (Heard ((host.set Fd.PWR_DOMREQ_REQ 0xFF87F) : State) (.serial : Src) 0x3A (pkt [0] : Packet) (⟨[], []⟩ : Env) (heardBy
      (host.set Fd.PWR_DOMREQ_REQ 0xFF87F) .serial 0x3A (pkt [0]) : Bus) ∧ (pkt [0] : Packet).len = 3 ∧ (pkt [0] : Packet).w 2 %
      8 = 0 ∧ (heardBy (host.set Fd.PWR_DOMREQ_REQ 0xFF87F) .serial 0x3A (pkt [0]) : Bus).s.mayWrite ((heardBy (host.set
      Fd.PWR_DOMREQ_REQ 0xFF87F) .serial 0x3A (pkt [0]) : Bus).s.ownerOfSrc (.serial : Src)) 3 = true ∧ (heardBy (host.set
      Fd.PWR_DOMREQ_REQ 0xFF87F) .serial 0x3A (pkt [0]) : Bus).s.flag Fd.SYS_ROLE_BUSY = false ∧ (heardBy (host.set
      Fd.PWR_DOMREQ_REQ 0xFF87F) .serial 0x3A (pkt [0]) : Bus).s.flag Fd.PWR_STATE_BUSY = false ∧ (2 ≤ (heardBy (host.set
      Fd.PWR_DOMREQ_REQ 0xFF87F) .serial 0x3A (pkt [0]) : Bus).s.get Fd.PWR_STATE_STATE ∨ (Nat.lor ((heardBy (host.set
      Fd.PWR_DOMREQ_REQ 0xFF87F) .serial 0x3A (pkt [0]) : Bus).s.get Fd.PWR_DOMREQ_REQ) (heardBy (host.set Fd.PWR_DOMREQ_REQ
      0xFF87F) .serial 0x3A (pkt [0]) : Bus).s.roleSolegs) = ((heardBy (host.set Fd.PWR_DOMREQ_REQ 0xFF87F) .serial 0x3A (pkt
      [0]) : Bus).s.get Fd.PWR_DOMREQ_REQ) ∨ (heardBy (host.set Fd.PWR_DOMREQ_REQ 0xFF87F) .serial 0x3A (pkt [0]) :
      Bus).s.domreqBad (Nat.lor ((heardBy (host.set Fd.PWR_DOMREQ_REQ 0xFF87F) .serial 0x3A (pkt [0]) : Bus).s.get
      Fd.PWR_DOMREQ_REQ) (heardBy (host.set Fd.PWR_DOMREQ_REQ 0xFF87F) .serial 0x3A (pkt [0]) : Bus).s.roleSolegs) = false)) ∧
    (Heard ((host.set Fd.PWR_DOMREQ_REQ 0xFFFFF) : State) (.serial : Src) 0x3A (pkt [0x21] : Packet) (⟨[], []⟩ : Env) (heardBy
      (host.set Fd.PWR_DOMREQ_REQ 0xFFFFF) .serial 0x3A (pkt [0x21]) : Bus) ∧ (pkt [0x21] : Packet).len = 3 ∧ (pkt [0x21] :
      Packet).w 2 % 8 = 1 ∧ ((pkt [0x21] : Packet).w 2 / 2 ^ 4 % 2 ^ 4) ≠ 0 ∧ (heardBy (host.set Fd.PWR_DOMREQ_REQ 0xFFFFF)
      .serial 0x3A (pkt [0x21]) : Bus).s.mayWrite ((heardBy (host.set Fd.PWR_DOMREQ_REQ 0xFFFFF) .serial 0x3A (pkt [0x21]) :
      Bus).s.ownerOfSrc (.serial : Src)) 3 = true ∧ (heardBy (host.set Fd.PWR_DOMREQ_REQ 0xFFFFF) .serial 0x3A (pkt [0x21]) :
      Bus).s.flag Fd.SYS_ROLE_BUSY = false ∧ (heardBy (host.set Fd.PWR_DOMREQ_REQ 0xFFFFF) .serial 0x3A (pkt [0x21]) :
      Bus).s.flag Fd.PWR_STATE_BUSY = false ∧ (List.range 4).any (fun g => nbit ((pkt [0x21] : Packet).w 2 / 2 ^ 4 % 2 ^ 4) g &&
      (heardBy (host.set Fd.PWR_DOMREQ_REQ 0xFFFFF) .serial 0x3A (pkt [0x21]) : Bus).s.solegRunning g) = false ∧ (2 ≤ (heardBy
      (host.set Fd.PWR_DOMREQ_REQ 0xFFFFF) .serial 0x3A (pkt [0x21]) : Bus).s.get Fd.PWR_STATE_STATE ∨ (((heardBy (host.set
      Fd.PWR_DOMREQ_REQ 0xFFFFF) .serial 0x3A (pkt [0x21]) : Bus).s.get Fd.PWR_DOMREQ_REQ) - Nat.land ((heardBy (host.set
      Fd.PWR_DOMREQ_REQ 0xFFFFF) .serial 0x3A (pkt [0x21]) : Bus).s.get Fd.PWR_DOMREQ_REQ) (((pkt [0x21] : Packet).w 2 / 2 ^ 4 %
      2 ^ 4) * 2 ^ 7)) = ((heardBy (host.set Fd.PWR_DOMREQ_REQ 0xFFFFF) .serial 0x3A (pkt [0x21]) : Bus).s.get
      Fd.PWR_DOMREQ_REQ) ∨ (heardBy (host.set Fd.PWR_DOMREQ_REQ 0xFFFFF) .serial 0x3A (pkt [0x21]) : Bus).s.domreqBad (((heardBy
      (host.set Fd.PWR_DOMREQ_REQ 0xFFFFF) .serial 0x3A (pkt [0x21]) : Bus).s.get Fd.PWR_DOMREQ_REQ) - Nat.land ((heardBy
      (host.set Fd.PWR_DOMREQ_REQ 0xFFFFF) .serial 0x3A (pkt [0x21]) : Bus).s.get Fd.PWR_DOMREQ_REQ) (((pkt [0x21] : Packet).w 2
      / 2 ^ 4 % 2 ^ 4) * 2 ^ 7)) = false)) ∧
    (Heard host (.serial : Src) 0x3A (pkt [2] : Packet) (⟨[], []⟩ : Env) (heardBy host .serial 0x3A (pkt [2]) : Bus) ∧ (pkt [2]
      : Packet).len = 3 ∧ (pkt [2] : Packet).w 2 % 8 = 2 ∧ (heardBy host .serial 0x3A (pkt [2]) : Bus).s.mayWrite ((heardBy host
      .serial 0x3A (pkt [2]) : Bus).s.ownerOfSrc (.serial : Src)) 3 = true ∧ (heardBy host .serial 0x3A (pkt [2]) : Bus).s.flag
      Fd.SYS_ROLE_BUSY = false ∧ (heardBy host .serial 0x3A (pkt [2]) : Bus).s.flag Fd.PWR_STATE_BUSY = false ∧ (heardBy host
      .serial 0x3A (pkt [2]) : Bus).s.headsBusy = false) ∧
    (Heard host (.serial : Src) 0x3A (pkt [3] : Packet) (⟨[], []⟩ : Env) (heardBy host .serial 0x3A (pkt [3]) : Bus) ∧ (pkt [3]
      : Packet).len = 3 ∧ (pkt [3] : Packet).w 2 % 8 = 3 ∧ (heardBy host .serial 0x3A (pkt [3]) : Bus).s.mayWrite ((heardBy host
      .serial 0x3A (pkt [3]) : Bus).s.ownerOfSrc (.serial : Src)) 3 = true ∧ (heardBy host .serial 0x3A (pkt [3]) : Bus).s.flag
      Fd.SYS_ROLE_BUSY = false ∧ (heardBy host .serial 0x3A (pkt [3]) : Bus).s.flag Fd.PWR_STATE_BUSY = false ∧ (heardBy host
      .serial 0x3A (pkt [3]) : Bus).s.headsBusy = false) ∧
    (Heard host (.serial : Src) 0x3A (pkt [4] : Packet) (⟨[], []⟩ : Env) (heardBy host .serial 0x3A (pkt [4]) : Bus) ∧ (pkt [4]
      : Packet).len = 3 ∧ (pkt [4] : Packet).w 2 % 8 = 4 ∧ (heardBy host .serial 0x3A (pkt [4]) : Bus).s.mayWrite ((heardBy host
      .serial 0x3A (pkt [4]) : Bus).s.ownerOfSrc (.serial : Src)) 3 = true ∧ (heardBy host .serial 0x3A (pkt [4]) : Bus).s.flag
      Fd.SYS_ROLE_BUSY = false ∧ (heardBy host .serial 0x3A (pkt [4]) : Bus).s.flag Fd.PWR_STATE_BUSY = false ∧ (heardBy host
      .serial 0x3A (pkt [4]) : Bus).s.headsBusy = false) ∧
    (({ host with rst := { target := some 1 }, tongue := { power := some ⟨.serial, 1, 0, 0, 0⟩ } } : State).inEpisode = false ∧
      (({ host with rst := { target := some 1 }, tongue := { power := some ⟨.serial, 1, 0, 0, 0⟩ } } : State).rst.target = some
      0 ∨ ({ host with rst := { target := some 1 }, tongue := { power := some ⟨.serial, 1, 0, 0, 0⟩ } } : State).rst.target =
      some 1 ∨ ({ host with rst := { target := some 1 }, tongue := { power := some ⟨.serial, 1, 0, 0, 0⟩ } } : State).rst.target
      = some 2 ∧ ({ host with rst := { target := some 1 }, tongue := { power := some ⟨.serial, 1, 0, 0, 0⟩ } } :
      State).rst.wakeLatched = none) ∧
      ({ host with rst := { target := some 1 }, tongue := { power := some ⟨.serial, 1, 0, 0, 0⟩ } } : State).get
      Fd.PWR_STATE_STATE ≤ 1 ∧ ({ host with rst := { target := some 1 }, tongue := { power := some ⟨.serial, 1, 0, 0, 0⟩ } } :
      State).tongue.power = some (⟨.serial, 1, 0, 0, 0⟩ : Req)) ∧
    (({ ((host.set Fd.PWR_STATE_STATE 2).set Fd.PWR_DOMREQ_REQ 0xFFFFF).set Fd.PWR_DOMON_ON 0xF87F with rst := { target := some 0, wakeLatched := some 4 } }
      : State).inEpisode = false ∧
      ({ ((host.set Fd.PWR_STATE_STATE 2).set Fd.PWR_DOMREQ_REQ 0xFFFFF).set Fd.PWR_DOMON_ON 0xF87F with rst := { target := some 0, wakeLatched := some 4 } }
      : State).rst.target = some 0 ∧
      ({ ((host.set Fd.PWR_STATE_STATE 2).set Fd.PWR_DOMREQ_REQ 0xFFFFF).set Fd.PWR_DOMON_ON 0xF87F with rst := { target := some 0, wakeLatched := some 4 } }
      : State).rst.wakeLatched = some (4 : Nat) ∧ (4 : Nat) < 8 ∧
      ({ ((host.set Fd.PWR_STATE_STATE 2).set Fd.PWR_DOMREQ_REQ 0xFFFFF).set Fd.PWR_DOMON_ON 0xF87F with rst := { target := some 0, wakeLatched := some 4 } }
      : State).get Fd.PWR_STATE_STATE = 2) ∧
    (((((host.set Fd.PWR_STATE_STATE 3).set Fd.PWR_WAKE_EWAKE 1).set (Fd.EY_FUNC 21) 1) : State).inEpisode = false ∧
      ((((host.set Fd.PWR_STATE_STATE 3).set Fd.PWR_WAKE_EWAKE 1).set (Fd.EY_FUNC 21) 1) : State).wakeOn (.ewake : WakeSrc) =
      true ∧ ((.ewake : WakeSrc) = .ewake → ((((host.set Fd.PWR_STATE_STATE 3).set Fd.PWR_WAKE_EWAKE 1).set (Fd.EY_FUNC 21) 1) :
      State).eyeFn 21 1 = true) ∧ ((.ewake : WakeSrc) = .tcs → ((((host.set Fd.PWR_STATE_STATE 3).set Fd.PWR_WAKE_EWAKE 1).set
      (Fd.EY_FUNC 21) 1) : State).eyeFn 17 1 = true) ∧ ((((host.set Fd.PWR_STATE_STATE 3).set Fd.PWR_WAKE_EWAKE 1).set
      (Fd.EY_FUNC 21) 1) : State).rst.target = none ∧ (((((host.set Fd.PWR_STATE_STATE 3).set Fd.PWR_WAKE_EWAKE 1).set
      (Fd.EY_FUNC 21) 1) : State).get Fd.PWR_STATE_STATE = 2 ∨ ((((host.set Fd.PWR_STATE_STATE 3).set Fd.PWR_WAKE_EWAKE 1).set
      (Fd.EY_FUNC 21) 1) : State).get Fd.PWR_STATE_STATE = 3 ∧ (.ewake : WakeSrc) ≠ .pcie)) ∧
    (({ ((host.set Fd.PWR_STATE_STATE 3).set Fd.PWR_WAKE_ALMEN 1).set Fd.PWR_WAKE_ALARM 2 with rst := { slow := 100, slowAt := 10 } }
      : State).inEpisode = false ∧
      ({ ((host.set Fd.PWR_STATE_STATE 3).set Fd.PWR_WAKE_ALMEN 1).set Fd.PWR_WAKE_ALARM 2 with rst := { slow := 100, slowAt := 10 } }
      : State).flag Fd.PWR_WAKE_ALMEN = true ∧
      ({ ((host.set Fd.PWR_STATE_STATE 3).set Fd.PWR_WAKE_ALMEN 1).set Fd.PWR_WAKE_ALARM 2 with rst := { slow := 100, slowAt := 10 } }
      : State).alarmDue = true ∧
      ({ ((host.set Fd.PWR_STATE_STATE 3).set Fd.PWR_WAKE_ALMEN 1).set Fd.PWR_WAKE_ALARM 2 with rst := { slow := 100, slowAt := 10 } }
      : State).rst.target = none ∧
      (({ ((host.set Fd.PWR_STATE_STATE 3).set Fd.PWR_WAKE_ALMEN 1).set Fd.PWR_WAKE_ALARM 2 with rst := { slow := 100, slowAt := 10 } }
      : State).get Fd.PWR_STATE_STATE = 2 ∨
      ({ ((host.set Fd.PWR_STATE_STATE 3).set Fd.PWR_WAKE_ALMEN 1).set Fd.PWR_WAKE_ALARM 2 with rst := { slow := 100, slowAt := 10 } }
      : State).get Fd.PWR_STATE_STATE = 3)) ∧
    (({ host.set Fd.SYS_ROLE_BUSY 1 with rst := { roleTo := some 0xFF87F } } : State).inEpisode = false ∧
      ({ host.set Fd.SYS_ROLE_BUSY 1 with rst := { roleTo := some 0xFF87F } } : State).rst.roleTo = some (0xFF87F : Nat) ∧
      (0xFF87F : Nat) % 2 = 1 ∧ (0xFF87F : Nat) < 2 ^ 20 ∧
      ({ host.set Fd.SYS_ROLE_BUSY 1 with rst := { roleTo := some 0xFF87F } } : State).domOn 0 = true) := by
  iterate 11 refine And.intro (by decide +kernel) ?_
  decide +kernel

/-- Hypotheses of ResetEpisodesComplete. -/
theorem witness_ResetEpisodesComplete :
    (({ (host.setWord 0x7FFF000104 7) with rst := { due := some (.cmdcold, .serial) } } : State).rst.asserted = [] ∧
      ({ (host.setWord 0x7FFF000104 7) with rst := { due := some (.cmdcold, .serial) } } : State).sec.fuse = none ∧ ((.cmdcold :
      ResetSrc) = .por ∨ (.cmdcold : ResetSrc) = .pin ∨ ((.cmdcold : ResetSrc) = .cmdcold ∨ (.cmdcold : ResetSrc) = .cmdwarm) ∧
      ({ (host.setWord 0x7FFF000104 7) with rst := { due := some (.cmdcold, .serial) } } : State).rst.due = some ((.cmdcold :
      ResetSrc), (.serial : Src)) ∧ ({ (host.setWord 0x7FFF000104 7) with rst := { due := some (.cmdcold, .serial) } } :
      State).doneHeld (.serial : Src) = false)) ∧
    (({ State.reset with rst := { asserted := [.por], causes := [.por] } } : State).rst.asserted = [(.por : ResetSrc)] ∧ (.por :
      ResetSrc) ∈ ({ State.reset with rst := { asserted := [.por], causes := [.por] } } : State).rst.causes ∧
      ({ State.reset with rst := { asserted := [.por], causes := [.por] } } : State).mayDrop (.por : ResetSrc) = true) ∧
    ((.pin : ResetSrc) ∈ ({ live with rst := { asserted := [.pin, .por], causes := [.pin, .por] } } : State).rst.asserted ∧
      ({ live with rst := { asserted := [.pin, .por], causes := [.pin, .por] } } : State).mayDrop (.pin : ResetSrc) = true ∧ (∃
      x, x ∈ ({ live with rst := { asserted := [.pin, .por], causes := [.pin, .por] } } : State).rst.asserted ∧ x ≠ (.pin :
      ResetSrc))) ∧
    (live.inEpisode = false ∧ live.rst.causes = []) ∧
    (((live.set Fd.PWR_SUPSTAT_LIVE 4) : State).rst.asserted = [] ∧ ((live.set Fd.PWR_SUPSTAT_LIVE 4) : State).sec.fuse = none ∧
      nbit (((live.set Fd.PWR_SUPSTAT_LIVE 4) : State).get Fd.PWR_SUPSTAT_LIVE) (2 : Fin 11) = true) := by
  iterate 4 refine And.intro (by decide +kernel) ?_
  decide +kernel

/-- Hypotheses of PcieEventsComplete. -/
theorem witness_PcieEventsComplete :
    (((live.set (Fd.EY_FUNC 14) 1) : State).inEpisode = false ∧ ((live.set (Fd.EY_FUNC 14) 1) : State).eyeFn 14 1 = true ∧
      ((live.set (Fd.EY_FUNC 14) 1) : State).domOn 12 = true) ∧
    ((((live.set (Fd.EY_FUNC 14) 1).set Fd.PCIE_STAT_PERST 1) : State).inEpisode = false ∧ (((live.set (Fd.EY_FUNC 14) 1).set
      Fd.PCIE_STAT_PERST 1) : State).eyeFn 14 1 = true ∧ (((live.set (Fd.EY_FUNC 14) 1).set Fd.PCIE_STAT_PERST 1) : State).domOn
      12 = true ∧ (((live.set (Fd.EY_FUNC 14) 1).set Fd.PCIE_STAT_PERST 1) : State).flag Fd.PCIE_STAT_PERST = true) ∧
    (((((live.set (Fd.EYE_WP_CFG_MODE 0) 2).set Fd.PCIE_CTL_MAXGEN 5).set Fd.PCIE_CTL_MAXW 2) : State).inEpisode = false ∧
      ((((live.set (Fd.EYE_WP_CFG_MODE 0) 2).set Fd.PCIE_CTL_MAXGEN 5).set Fd.PCIE_CTL_MAXW 2) : State).isPcie = true ∧
      ((((live.set (Fd.EYE_WP_CFG_MODE 0) 2).set Fd.PCIE_CTL_MAXGEN 5).set Fd.PCIE_CTL_MAXW 2) : State).flag Fd.PCIE_STAT_PERST
      = false ∧ ((((live.set (Fd.EYE_WP_CFG_MODE 0) 2).set Fd.PCIE_CTL_MAXGEN 5).set Fd.PCIE_CTL_MAXW 2) : State).fenced (uPort
      0) = false ∧ ((((live.set (Fd.EYE_WP_CFG_MODE 0) 2).set Fd.PCIE_CTL_MAXGEN 5).set Fd.PCIE_CTL_MAXW 2) : State).unitInReset
      (uPort 0) = false ∧ 1 ≤ (3 : BitVec 3).toNat ∧ (3 : BitVec 3).toNat ≤ ((((live.set (Fd.EYE_WP_CFG_MODE 0) 2).set
      Fd.PCIE_CTL_MAXGEN 5).set Fd.PCIE_CTL_MAXW 2) : State).get Fd.PCIE_CTL_MAXGEN ∧ (1 : BitVec 2).toNat ≤ ((((live.set
      (Fd.EYE_WP_CFG_MODE 0) 2).set Fd.PCIE_CTL_MAXGEN 5).set Fd.PCIE_CTL_MAXW 2) : State).get Fd.PCIE_CTL_MAXW) ∧
    ((((((live.set (Fd.EYE_WP_CFG_MODE 0) 2).set Fd.PCIE_STAT_LINKUP 1).set Fd.PCIE_STAT_GEN 5).set Fd.PCIE_STAT_WIDTH 2) :
      State).inEpisode = false ∧ (((((live.set (Fd.EYE_WP_CFG_MODE 0) 2).set Fd.PCIE_STAT_LINKUP 1).set Fd.PCIE_STAT_GEN 5).set
      Fd.PCIE_STAT_WIDTH 2) : State).isPcie = true ∧ (((((live.set (Fd.EYE_WP_CFG_MODE 0) 2).set Fd.PCIE_STAT_LINKUP 1).set
      Fd.PCIE_STAT_GEN 5).set Fd.PCIE_STAT_WIDTH 2) : State).flag Fd.PCIE_STAT_LINKUP = true) ∧
    (((((((live.set (Fd.EYE_WP_CFG_MODE 0) 2).set Fd.PCIE_STAT_LINKUP 1).set Fd.PCIE_CTL_WINBASE 0x7FF).setWord 0x7FFF000104
      0x12345678)) : State).pcieUp = true ∧ ((((((live.set (Fd.EYE_WP_CFG_MODE 0) 2).set Fd.PCIE_STAT_LINKUP 1).set
      Fd.PCIE_CTL_WINBASE 0x7FF).setWord 0x7FFF000104 0x12345678)) : State).epD0 = true ∧ (0xF000100 : BitVec 28).toNat % 4 = 0
      ∧ sharedBase ≤ (((((((live.set (Fd.EYE_WP_CFG_MODE 0) 2).set Fd.PCIE_STAT_LINKUP 1).set Fd.PCIE_CTL_WINBASE 0x7FF).setWord
      0x7FFF000104 0x12345678)) : State).get Fd.PCIE_CTL_WINBASE * 2 ^ 28 + (0xF000100 : BitVec 28).toNat) ∧ (((((((live.set
      (Fd.EYE_WP_CFG_MODE 0) 2).set Fd.PCIE_STAT_LINKUP 1).set Fd.PCIE_CTL_WINBASE 0x7FF).setWord 0x7FFF000104 0x12345678)) :
      State).get Fd.PCIE_CTL_WINBASE * 2 ^ 28 + (0xF000100 : BitVec 28).toNat) + 4 * (3 : Fin 1025).val ≤ sharedBase + 0x200000
      ∧ (((((((live.set (Fd.EYE_WP_CFG_MODE 0) 2).set Fd.PCIE_STAT_LINKUP 1).set Fd.PCIE_CTL_WINBASE 0x7FF).setWord 0x7FFF000104
      0x12345678)) : State).domOn 4 = true ∨ ((((((live.set (Fd.EYE_WP_CFG_MODE 0) 2).set Fd.PCIE_STAT_LINKUP 1).set
      Fd.PCIE_CTL_WINBASE 0x7FF).setWord 0x7FFF000104 0x12345678)) : State).domOn 5 = true) ∧ ((((((live.set (Fd.EYE_WP_CFG_MODE
      0) 2).set Fd.PCIE_STAT_LINKUP 1).set Fd.PCIE_CTL_WINBASE 0x7FF).setWord 0x7FFF000104 0x12345678)) : State).flag
      Fd.AWL_LOCK_HELD = false ∧ ((((((live.set (Fd.EYE_WP_CFG_MODE 0) 2).set Fd.PCIE_STAT_LINKUP 1).set Fd.PCIE_CTL_WINBASE
      0x7FF).setWord 0x7FFF000104 0x12345678)) : State).halted = false ∧ (3 : Fin 1025).val ≠ 0) ∧
    ((((((live.set (Fd.EYE_WP_CFG_MODE 0) 2).set Fd.PCIE_STAT_LINKUP 1).set Fd.PCIE_CTL_WINBASE 0x7FF)) : State).pcieUp = true ∧
      (((((live.set (Fd.EYE_WP_CFG_MODE 0) 2).set Fd.PCIE_STAT_LINKUP 1).set Fd.PCIE_CTL_WINBASE 0x7FF)) : State).epD0 = true ∧
      (0xF000100 : BitVec 28).toNat % 4 = 0 ∧ sharedBase ≤ ((((((live.set (Fd.EYE_WP_CFG_MODE 0) 2).set Fd.PCIE_STAT_LINKUP
      1).set Fd.PCIE_CTL_WINBASE 0x7FF)) : State).get Fd.PCIE_CTL_WINBASE * 2 ^ 28 + (0xF000100 : BitVec 28).toNat) ∧
      ((((((live.set (Fd.EYE_WP_CFG_MODE 0) 2).set Fd.PCIE_STAT_LINKUP 1).set Fd.PCIE_CTL_WINBASE 0x7FF)) : State).get
      Fd.PCIE_CTL_WINBASE * 2 ^ 28 + (0xF000100 : BitVec 28).toNat) + 4 * ([(15, 0x12345678), (15, 9)] : List (BitVec 4 ×
      Word)).length ≤ sharedBase + 0x200000 ∧ ((((((live.set (Fd.EYE_WP_CFG_MODE 0) 2).set Fd.PCIE_STAT_LINKUP 1).set
      Fd.PCIE_CTL_WINBASE 0x7FF)) : State).domOn 4 = true ∨ (((((live.set (Fd.EYE_WP_CFG_MODE 0) 2).set Fd.PCIE_STAT_LINKUP
      1).set Fd.PCIE_CTL_WINBASE 0x7FF)) : State).domOn 5 = true) ∧ (((((live.set (Fd.EYE_WP_CFG_MODE 0) 2).set
      Fd.PCIE_STAT_LINKUP 1).set Fd.PCIE_CTL_WINBASE 0x7FF)) : State).flag Fd.AWL_LOCK_HELD = false ∧ (((((live.set
      (Fd.EYE_WP_CFG_MODE 0) 2).set Fd.PCIE_STAT_LINKUP 1).set Fd.PCIE_CTL_WINBASE 0x7FF)) : State).halted = false ∧ ([(15,
      0x12345678), (15, 9)] : List (BitVec 4 × Word)) ≠ [] ∧ ([(15, 0x12345678), (15, 9)] : List (BitVec 4 × Word)).all (fun d
      => d.1 == 15#4) = true) := by
  iterate 5 refine And.intro (by decide +kernel) ?_
  decide +kernel

/-- Hypotheses of PaceEventsComplete. -/
theorem witness_PaceEventsComplete :
    (((live.set Fd.PWR_VSET_VSET 740) : State).inEpisode = false ∧ ((live.set Fd.PWR_VSET_VSET 740) : State).gaugeRuns (3 : Fin
      20) = true) ∧
    (({ ((((live.set Fd.PWR_PACECTL_EN 1).set Fd.PWR_VSET_VSET 740).set Fd.PWR_VLIMIT_VMAX 800).set Fd.PWR_PACETGT_TARGET 30) with pace := { phase := .measure, worst := 20, counted := true } }
      : State).inEpisode = false ∧
      ({ ((((live.set Fd.PWR_PACECTL_EN 1).set Fd.PWR_VSET_VSET 740).set Fd.PWR_VLIMIT_VMAX 800).set Fd.PWR_PACETGT_TARGET 30) with pace := { phase := .measure, worst := 20, counted := true } }
      : State).pace.phase = .measure ∧
      ({ ((((live.set Fd.PWR_PACECTL_EN 1).set Fd.PWR_VSET_VSET 740).set Fd.PWR_VLIMIT_VMAX 800).set Fd.PWR_PACETGT_TARGET 30) with pace := { phase := .measure, worst := 20, counted := true } }
      : State).pace.left = 0 ∧
      ({ ((((live.set Fd.PWR_PACECTL_EN 1).set Fd.PWR_VSET_VSET 740).set Fd.PWR_VLIMIT_VMAX 800).set Fd.PWR_PACETGT_TARGET 30) with pace := { phase := .measure, worst := 20, counted := true } }
      : State).halted = false) ∧
    (({ live.set Fd.PWR_PACECTL_EN 1 with pace := { phase := .settling, known := true } } : State).inEpisode = false ∧
      ({ live.set Fd.PWR_PACECTL_EN 1 with pace := { phase := .settling, known := true } } : State).pace.phase = .settling ∧
      ({ live.set Fd.PWR_PACECTL_EN 1 with pace := { phase := .settling, known := true } } : State).pace.left = 0 ∧
      ({ live.set Fd.PWR_PACECTL_EN 1 with pace := { phase := .settling, known := true } } : State).pace.known = true ∧
      ({ live.set Fd.PWR_PACECTL_EN 1 with pace := { phase := .settling, known := true } } : State).pace.guardDue = false ∧
      ({ live.set Fd.PWR_PACECTL_EN 1 with pace := { phase := .settling, known := true } } : State).halted = false) ∧
    (({ ((live.set Fd.PWR_PACECTL_EN 1).set Fd.PWR_PACESTAT_EMERG 1) with pace := { phase := .holding } } : State).inEpisode =
      false ∧ ({ ((live.set Fd.PWR_PACECTL_EN 1).set Fd.PWR_PACESTAT_EMERG 1) with pace := { phase := .holding } } :
      State).pace.phase = .holding ∧
      ({ ((live.set Fd.PWR_PACECTL_EN 1).set Fd.PWR_PACESTAT_EMERG 1) with pace := { phase := .holding } } : State).pace.left =
      0 ∧ ({ ((live.set Fd.PWR_PACECTL_EN 1).set Fd.PWR_PACESTAT_EMERG 1) with pace := { phase := .holding } } : State).halted =
      false) ∧
    (({ ((live.set Fd.PWR_PACECTL_EN 1).set Fd.PWR_PACESTAT_BUSY 1) with pace := { phase := .readMode, tx := some ⟨1, 0x40, 0x20, 0, true⟩ } }
      : State).inEpisode = false ∧
      ({ ((live.set Fd.PWR_PACECTL_EN 1).set Fd.PWR_PACESTAT_BUSY 1) with pace := { phase := .readMode, tx := some ⟨1, 0x40, 0x20, 0, true⟩ } }
      : State).pace.phase = .readMode ∧
      ({ ((live.set Fd.PWR_PACECTL_EN 1).set Fd.PWR_PACESTAT_BUSY 1) with pace := { phase := .readMode, tx := some ⟨1, 0x40, 0x20, 0, true⟩ } }
      : State).pace.tx = some (⟨1, 0x40, 0x20, 0, true⟩ : PmbTx) ∧ (⟨1, 0x40, 0x20, 0, true⟩ : PmbTx).started = true ∧
      ({ ((live.set Fd.PWR_PACECTL_EN 1).set Fd.PWR_PACESTAT_BUSY 1) with pace := { phase := .readMode, tx := some ⟨1, 0x40, 0x20, 0, true⟩ } }
      : State).pace.stop = false ∧
      ({ ((live.set Fd.PWR_PACECTL_EN 1).set Fd.PWR_PACESTAT_BUSY 1) with pace := { phase := .readMode, tx := some ⟨1, 0x40, 0x20, 0, true⟩ } }
      : State).pace.final = false ∧
      ({ ((live.set Fd.PWR_PACECTL_EN 1).set Fd.PWR_PACESTAT_BUSY 1) with pace := { phase := .readMode, tx := some ⟨1, 0x40, 0x20, 0, true⟩ } }
      : State).pace.wait = false ∧
      ({ ((live.set Fd.PWR_PACECTL_EN 1).set Fd.PWR_PACESTAT_BUSY 1) with pace := { phase := .readMode, tx := some ⟨1, 0x40, 0x20, 0, true⟩ } }
      : State).pace.guardDue = false ∧
      ({ ((live.set Fd.PWR_PACECTL_EN 1).set Fd.PWR_PACESTAT_BUSY 1) with pace := { phase := .readMode, tx := some ⟨1, 0x40, 0x20, 0, true⟩ } }
      : State).pace.again = [] ∧
      ({ ((live.set Fd.PWR_PACECTL_EN 1).set Fd.PWR_PACESTAT_BUSY 1) with pace := { phase := .readMode, tx := some ⟨1, 0x40, 0x20, 0, true⟩ } }
      : State).flag Fd.PWR_PACECTL_EN = true ∧
      ({ ((live.set Fd.PWR_PACECTL_EN 1).set Fd.PWR_PACESTAT_BUSY 1) with pace := { phase := .readMode, tx := some ⟨1, 0x40, 0x20, 0, true⟩ } }
      : State).halted = false ∧ (0x17 : Byte).toNat / 2 ^ 5 = 0) ∧
    (({ (live.set Fd.PWR_PACECTL_EN 1) with pace := { phase := .readMode, tx := some ⟨1, 0x40, 0x20, 0, true⟩ } } :
      State).inEpisode = false ∧
      ({ (live.set Fd.PWR_PACECTL_EN 1) with pace := { phase := .readMode, tx := some ⟨1, 0x40, 0x20, 0, true⟩ } } :
      State).pace.phase = .readMode ∧
      ({ (live.set Fd.PWR_PACECTL_EN 1) with pace := { phase := .readMode, tx := some ⟨1, 0x40, 0x20, 0, true⟩ } } :
      State).pace.tx = some (⟨1, 0x40, 0x20, 0, true⟩ : PmbTx) ∧ (⟨1, 0x40, 0x20, 0, true⟩ : PmbTx).started = true ∧
      ({ (live.set Fd.PWR_PACECTL_EN 1) with pace := { phase := .readMode, tx := some ⟨1, 0x40, 0x20, 0, true⟩ } } :
      State).pace.stop = false ∧
      ({ (live.set Fd.PWR_PACECTL_EN 1) with pace := { phase := .readMode, tx := some ⟨1, 0x40, 0x20, 0, true⟩ } } :
      State).pace.final = false ∧
      ({ (live.set Fd.PWR_PACECTL_EN 1) with pace := { phase := .readMode, tx := some ⟨1, 0x40, 0x20, 0, true⟩ } } :
      State).pace.again = [] ∧ (0x37 : Byte).toNat / 2 ^ 5 ≠ 0) ∧
    (({ ((live.set Fd.PWR_PACECTL_EN 1).set Fd.PWR_PACESTAT_BUSY 1) with pace := { phase := .emergSend, known := true, tx := some ⟨1, 0x40, 0x21, 0, true⟩ } }
      : State).inEpisode = false ∧
      (({ ((live.set Fd.PWR_PACECTL_EN 1).set Fd.PWR_PACESTAT_BUSY 1) with pace := { phase := .emergSend, known := true, tx := some ⟨1, 0x40, 0x21, 0, true⟩ } }
      : State).pace.phase = .sending ∨
      ({ ((live.set Fd.PWR_PACECTL_EN 1).set Fd.PWR_PACESTAT_BUSY 1) with pace := { phase := .emergSend, known := true, tx := some ⟨1, 0x40, 0x21, 0, true⟩ } }
      : State).pace.phase = .emergSend) ∧
      ({ ((live.set Fd.PWR_PACECTL_EN 1).set Fd.PWR_PACESTAT_BUSY 1) with pace := { phase := .emergSend, known := true, tx := some ⟨1, 0x40, 0x21, 0, true⟩ } }
      : State).pace.tx = some (⟨1, 0x40, 0x21, 0, true⟩ : PmbTx) ∧ (⟨1, 0x40, 0x21, 0, true⟩ : PmbTx).started = true ∧
      ({ ((live.set Fd.PWR_PACECTL_EN 1).set Fd.PWR_PACESTAT_BUSY 1) with pace := { phase := .emergSend, known := true, tx := some ⟨1, 0x40, 0x21, 0, true⟩ } }
      : State).pace.stop = false ∧
      ({ ((live.set Fd.PWR_PACECTL_EN 1).set Fd.PWR_PACESTAT_BUSY 1) with pace := { phase := .emergSend, known := true, tx := some ⟨1, 0x40, 0x21, 0, true⟩ } }
      : State).pace.final = false ∧
      ({ ((live.set Fd.PWR_PACECTL_EN 1).set Fd.PWR_PACESTAT_BUSY 1) with pace := { phase := .emergSend, known := true, tx := some ⟨1, 0x40, 0x21, 0, true⟩ } }
      : State).pace.wait = false ∧
      ({ ((live.set Fd.PWR_PACECTL_EN 1).set Fd.PWR_PACESTAT_BUSY 1) with pace := { phase := .emergSend, known := true, tx := some ⟨1, 0x40, 0x21, 0, true⟩ } }
      : State).pace.again = [] ∧
      ({ ((live.set Fd.PWR_PACECTL_EN 1).set Fd.PWR_PACESTAT_BUSY 1) with pace := { phase := .emergSend, known := true, tx := some ⟨1, 0x40, 0x21, 0, true⟩ } }
      : State).pace.known = true ∧
      (({ ((live.set Fd.PWR_PACECTL_EN 1).set Fd.PWR_PACESTAT_BUSY 1) with pace := { phase := .emergSend, known := true, tx := some ⟨1, 0x40, 0x21, 0, true⟩ } }
      : State).pace.phase = .sending →
      ({ ((live.set Fd.PWR_PACECTL_EN 1).set Fd.PWR_PACESTAT_BUSY 1) with pace := { phase := .emergSend, known := true, tx := some ⟨1, 0x40, 0x21, 0, true⟩ } }
      : State).pace.guardDue = false) ∧
      ({ ((live.set Fd.PWR_PACECTL_EN 1).set Fd.PWR_PACESTAT_BUSY 1) with pace := { phase := .emergSend, known := true, tx := some ⟨1, 0x40, 0x21, 0, true⟩ } }
      : State).flag Fd.PWR_PACECTL_EN = true ∧
      ({ ((live.set Fd.PWR_PACECTL_EN 1).set Fd.PWR_PACESTAT_BUSY 1) with pace := { phase := .emergSend, known := true, tx := some ⟨1, 0x40, 0x21, 0, true⟩ } }
      : State).halted = false) ∧
    (({ ((live.set Fd.PWR_PACECTL_EN 1).set Fd.PWR_PACESTAT_BUSY 1) with pace := { phase := .sending, tries := 2, tx := some ⟨1, 0x40, 0x21, 0, true⟩ } }
      : State).inEpisode = false ∧
      ({ ((live.set Fd.PWR_PACECTL_EN 1).set Fd.PWR_PACESTAT_BUSY 1) with pace := { phase := .sending, tries := 2, tx := some ⟨1, 0x40, 0x21, 0, true⟩ } }
      : State).pace.tx = some (⟨1, 0x40, 0x21, 0, true⟩ : PmbTx) ∧ (⟨1, 0x40, 0x21, 0, true⟩ : PmbTx).started = true ∧
      ({ ((live.set Fd.PWR_PACECTL_EN 1).set Fd.PWR_PACESTAT_BUSY 1) with pace := { phase := .sending, tries := 2, tx := some ⟨1, 0x40, 0x21, 0, true⟩ } }
      : State).pace.tries < 3) ∧
    (({ ((live.set Fd.PWR_PACECTL_EN 1).set Fd.PWR_PACESTAT_BUSY 1) with pace := { phase := .sending, tries := 2, tx := some ⟨1, 0x40, 0x21, 0, true⟩ } }
      : State).inEpisode = false ∧
      ({ ((live.set Fd.PWR_PACECTL_EN 1).set Fd.PWR_PACESTAT_BUSY 1) with pace := { phase := .sending, tries := 2, tx := some ⟨1, 0x40, 0x21, 0, true⟩ } }
      : State).pace.busy = true ∧
      ({ ((live.set Fd.PWR_PACECTL_EN 1).set Fd.PWR_PACESTAT_BUSY 1) with pace := { phase := .sending, tries := 2, tx := some ⟨1, 0x40, 0x21, 0, true⟩ } }
      : State).pace.left = 0 ∧
      ({ ((live.set Fd.PWR_PACECTL_EN 1).set Fd.PWR_PACESTAT_BUSY 1) with pace := { phase := .sending, tries := 2, tx := some ⟨1, 0x40, 0x21, 0, true⟩ } }
      : State).pace.tries < 3) ∧
    (({ ((live.set Fd.PWR_PACECTL_EN 1).set Fd.PWR_PACESTAT_BUSY 1) with pace := { phase := .sending, tries := 3, tx := some ⟨1, 0x40, 0x21, 0, true⟩ } }
      : State).inEpisode = false ∧
      ({ ((live.set Fd.PWR_PACECTL_EN 1).set Fd.PWR_PACESTAT_BUSY 1) with pace := { phase := .sending, tries := 3, tx := some ⟨1, 0x40, 0x21, 0, true⟩ } }
      : State).pace.busy = true ∧
      ({ ((live.set Fd.PWR_PACECTL_EN 1).set Fd.PWR_PACESTAT_BUSY 1) with pace := { phase := .sending, tries := 3, tx := some ⟨1, 0x40, 0x21, 0, true⟩ } }
      : State).pace.left = 0 ∧ 3 ≤
      ({ ((live.set Fd.PWR_PACECTL_EN 1).set Fd.PWR_PACESTAT_BUSY 1) with pace := { phase := .sending, tries := 3, tx := some ⟨1, 0x40, 0x21, 0, true⟩ } }
      : State).pace.tries ∧
      ({ ((live.set Fd.PWR_PACECTL_EN 1).set Fd.PWR_PACESTAT_BUSY 1) with pace := { phase := .sending, tries := 3, tx := some ⟨1, 0x40, 0x21, 0, true⟩ } }
      : State).pace.again = []) := by
  iterate 9 refine And.intro (by decide +kernel) ?_
  decide +kernel

/-- Hypotheses of LinesComplete. -/
theorem witness_LinesComplete :
    ((beamState 16 : State).inEpisode = false ∧ nbit (0xF8 : BitVec 16).toNat (3 : Fin 16) = true ∧ ((beamState 16 :
      State).headS (3 : Fin 16)).running = true) ∧
    (snapState.inEpisode = false ∧ snapState.fenced (uSole (snapState.lowSole (3 : Fin 16))) = false ∧ snapState.hub.stopping =
      false ∧ snapState.tacksBound (snapState.lowSole (3 : Fin 16)) < 448 ∧ (snapState.snapDue (3 : Fin 16) (7 : Fin 16384)) ≠
      [] ∧ (busOf snapState (⟨[], []⟩ : Env)).snapRead (soleWho (snapState.lowSole (3 : Fin 16))) (3 : Fin 16) (7 : Fin 16384)
      (snapState.snapDue (3 : Fin 16) (7 : Fin 16384)) = .done
      ((match (busOf snapState ⟨[], []⟩).snapRead (soleWho 3) 3 7 (snapState.snapDue 3 7) with | .done x => x | _ => snapState)
      : State)) ∧
    ((beamState 6 : State).inEpisode = false ∧ ((beamState 6 : State).headS (3 : Fin 16)).running = true ∧ ((beamState 6 :
      State).headS (3 : Fin 16)).line < (if (7 : Fin 16384).val = 0 then (beamState 6 : State).vTotal (3 : Fin 16) else (7 : Fin
      16384).val) ∧ (if (7 : Fin 16384).val = 0 then (beamState 6 : State).vTotal (3 : Fin 16) else (7 : Fin 16384).val) ≤
      (beamState 6 : State).vTotal (3 : Fin 16)) ∧
    (listState.inEpisode = false ∧ listState.halted = false ∧ (listState.headS (3 : Fin 16)).listWait = (6 : Fin 16384).val ::
      ([] : List Nat) ∧ listState.listOf (3 : Fin 16) (6 : Fin 16384) = some ((8 : Nat), (true : Bool)) ∧ (listState.lineCtx (3
      : Fin 16) (listState.lowSole (3 : Fin 16)) (6 : Fin 16384)).map (fun x => (x.ltacks, x.lbytes)) = some ((4 : Nat), (16 :
      Nat)) ∧ (4 : Nat) ≠ 0 ∧ (busOf listState (⟨[], []⟩ : Env)).listRead (soleWho (listState.lowSole (3 : Fin 16))) (3 : Fin
      16) (6 : Fin 16384) (8 : Nat) (decide ((6 : Fin 16384).val < listState.lineNow (3 : Fin 16) (⟨[], []⟩ : Env).beam))
      (decide ((16 : Nat) < (ceilDiv (min (8 : Nat) 64) 8))) [] (listState.slotAddr (3 : Fin 16) (6 : Fin 16384)) (min (ceilDiv
      (min (8 : Nat) 64) 8) (16 : Nat)) = .done
      ((match (busOf listState ⟨[], []⟩).listRead (soleWho 3) 3 6 8 (decide (6 < listState.lineNow 3 [])) (decide (16 < 1)) [] (listState.slotAddr 3 6) (min 1 16) with | .done x => x | _ => listState)
      : State)) ∧
    ((((beamState 6).modHead 3 (fun v => { v with beam := [⟨5, 8, 0, 0x4001, 0x123⟩] })) : State).inEpisode = false ∧
      ((((beamState 6).modHead 3 (fun v => { v with beam := [⟨5, 8, 0, 0x4001, 0x123⟩] })) : State).headS (3 : Fin 16)).beam =
      (⟨5, 8, 0, 0x4001, 0x123⟩ : BeamEnt) :: ([] : List BeamEnt) ∧ (((beamState 6).modHead 3 (fun v =>
      { v with beam := [⟨5, 8, 0, 0x4001, 0x123⟩] })) : State).halted = false ∧ ((((beamState 6).modHead 3 (fun v =>
      { v with beam := [⟨5, 8, 0, 0x4001, 0x123⟩] })) : State).headS (3 : Fin 16)).running = true ∧ (⟨5, 8, 0, 0x4001, 0x123⟩ :
      BeamEnt).line = (if (9 : Fin 16384).val < (((beamState 6).modHead 3 (fun v =>
      { v with beam := [⟨5, 8, 0, 0x4001, 0x123⟩] })) : State).hStart (3 : Fin 16) then ((((beamState 6).modHead 3 (fun v =>
      { v with beam := [⟨5, 8, 0, 0x4001, 0x123⟩] })) : State).headS (3 : Fin 16)).line else ((((beamState 6).modHead 3 (fun v
      => { v with beam := [⟨5, 8, 0, 0x4001, 0x123⟩] })) : State).headS (3 : Fin 16)).line - 1) ∧ (⟨5, 8, 0, 0x4001, 0x123⟩ :
      BeamEnt).pos ≤ (9 : Fin 16384).val) ∧
    ((((beamState 6).modHead 3 (fun v => { v with beam := [⟨5, 8, 0, 0x4001, 0x123⟩] })) : State).inEpisode = false ∧
      ((((beamState 6).modHead 3 (fun v => { v with beam := [⟨5, 8, 0, 0x4001, 0x123⟩] })) : State).headS (3 : Fin 16)).beam =
      (⟨5, 8, 0, 0x4001, 0x123⟩ : BeamEnt) :: ([] : List BeamEnt) ∧ (⟨5, 8, 0, 0x4001, 0x123⟩ : BeamEnt).line < ((((beamState
      6).modHead 3 (fun v => { v with beam := [⟨5, 8, 0, 0x4001, 0x123⟩] })) : State).headS (3 : Fin 16)).line) ∧
    ((beamState 6 : State).inEpisode = false ∧ (beamState 6 : State).hub.stopping = false ∧ ((beamState 6 : State).soleS (3 :
      Fin 16)).line = some (6 : Fin 16384).val ∧ ((beamState 6 : State).granuleDue (3 : Fin 16) (0 : Fin 16384)).map (fun x =>
      x.2) = some (0x7FFF001100 : Nat) ∧ (busOf (beamState 6 : State) (⟨[], []⟩ : Env)).layerRead (soleWho (3 : Fin 16))
      (0x7FFF001100 : Nat) = .ok (List.replicate 64 0 : List Nat)
      ((match (busOf (beamState 6) ⟨[], []⟩).layerRead (soleWho 3) 0x7FFF001100 with | .ok _ x => x | _ => (busOf (beamState 6) ⟨[], []⟩))
      : Bus)) ∧
    ((beamState 6 : State).inEpisode = false ∧ ((beamState 6 : State).soleS (3 : Fin 16)).line = some (6 : Fin 16384).val ∧
      ((beamState 6 : State).soleCtx (3 : Fin 16)).any (fun c => decide ((beamState 6 : State).ranOf (3 : Fin 16) (6 : Fin
      16384) < c.total) && stitchFree (beamState 6 : State) c) = true) ∧
    ((((beamState 6).modSole 3 (fun v => { v with ran := [(6, 10)], next := [7] })) : State).inEpisode = false ∧ ((((beamState
      6).modSole 3 (fun v => { v with ran := [(6, 10)], next := [7] })) : State).soleS (3 : Fin 16)).line = some (6 : Fin
      16384).val ∧ (((beamState 6).modSole 3 (fun v => { v with ran := [(6, 10)], next := [7] })) : State).halted = false ∧
      (((beamState 6).modSole 3 (fun v => { v with ran := [(6, 10)], next := [7] })) : State).soleTotal (3 : Fin 16) (6 : Fin
      16384) ≤ (((beamState 6).modSole 3 (fun v => { v with ran := [(6, 10)], next := [7] })) : State).ranOf (3 : Fin 16) (6 :
      Fin 16384)) ∧
    ((((beamState 6).modHead 3 (fun v => { v with line := 8 })) : State).inEpisode = false ∧ ((((beamState 6).modHead 3 (fun v
      => { v with line := 8 })) : State).soleS (3 : Fin 16)).line = some (6 : Fin 16384).val ∧ (((beamState 6).modHead 3 (fun v
      => { v with line := 8 })) : State).halted = false ∧ (((beamState 6).modHead 3 (fun v => { v with line := 8 })) :
      State).pastDue (3 : Fin 16) = true) := by
  iterate 9 refine And.intro (by decide +kernel) ?_
  decide +kernel

/-- Hypotheses of OutputsComplete. -/
theorem witness_OutputsComplete :
    ((beamState 7 : State).inEpisode = false ∧ ((beamState 7 : State).headS (3 : Fin 16)).running = true ∧ ((beamState 7 :
      State).headS (3 : Fin 16)).line ≠ 0 ∧ (beamState 7 : State).activeLine (3 : Fin 16) (((beamState 7 : State).headS (3 : Fin
      16)).line - 1) = true ∧ (beamState 7 : State).noUnderrun (3 : Fin 16) (((beamState 7 : State).headS (3 : Fin 16)).line -
      1) = false ∧ ((beamState 7 : State).lineCtxs (3 : Fin 16) (((beamState 7 : State).headS (3 : Fin 16)).line - 1)).any (fun
      c => (c.left (beamState 7 : State)).contains (1 : Fin 512).val) = true ∧ (beamState 7 : State).darkFrom (3 : Fin 16)
      (((beamState 7 : State).headS (3 : Fin 16)).line - 1) = none ∧ ((beamState 7 : State).headS (3 : Fin 16)).marks.contains
      ((((beamState 7 : State).headS (3 : Fin 16)).line - 1), 20) = false ∧ (beamState 7 : State).fenced (uSole ((beamState 7 :
      State).blockSole (3 : Fin 16) (((beamState 7 : State).headS (3 : Fin 16)).line - 1) (1 : Fin 512))) = false) ∧
    ((((beamState 7).modHead 3 (fun v =>
      { v with rects := [⟨2, 0, 1, 2, 1, 0, some 5, crcStart, 1, false, false⟩], line := 6 })) : State).inEpisode = false ∧
      ((((beamState 7).modHead 3 (fun v =>
      { v with rects := [⟨2, 0, 1, 2, 1, 0, some 5, crcStart, 1, false, false⟩], line := 6 })) : State).headS (3 : Fin
      16)).rects.find? (fun q => q.index == (2 : Fin 16).val) = some (⟨2, 0, 1, 2, 1, 0, some 5, crcStart, 1, false, false⟩ :
      RectRun) ∧ (((beamState 7).modHead 3 (fun v =>
      { v with rects := [⟨2, 0, 1, 2, 1, 0, some 5, crcStart, 1, false, false⟩], line := 6 })) : State).rectsEnding (3 : Fin 16)
      (((((beamState 7).modHead 3 (fun v =>
      { v with rects := [⟨2, 0, 1, 2, 1, 0, some 5, crcStart, 1, false, false⟩], line := 6 })) : State).headS (3 : Fin 16)).line
      - 1) ((⟨2, 0, 1, 2, 1, 0, some 5, crcStart, 1, false, false⟩ : RectRun).x0 + (⟨2, 0, 1, 2, 1, 0, some 5, crcStart, 1,
      false, false⟩ : RectRun).width) = [(⟨2, 0, 1, 2, 1, 0, some 5, crcStart, 1, false, false⟩ : RectRun)] ∧ ((⟨2, 0, 1, 2, 1,
      0, some 5, crcStart, 1, false, false⟩ : RectRun).rows = (⟨2, 0, 1, 2, 1, 0, some 5, crcStart, 1, false, false⟩ :
      RectRun).height ∨ (⟨2, 0, 1, 2, 1, 0, some 5, crcStart, 1, false, false⟩ : RectRun).rows + 1 = (⟨2, 0, 1, 2, 1, 0, some 5,
      crcStart, 1, false, false⟩ : RectRun).height) ∧ (⟨2, 0, 1, 2, 1, 0, some 5, crcStart, 1, false, false⟩ : RectRun).expect =
      some (5 : Nat) ∧ (⟨2, 0, 1, 2, 1, 0, some 5, crcStart, 1, false, false⟩ : RectRun).compared = false ∧ ((((beamState
      7).modHead 3 (fun v => { v with rects := [⟨2, 0, 1, 2, 1, 0, some 5, crcStart, 1, false, false⟩], line := 6 })) :
      State).headS (3 : Fin 16)).report.halt = false ∧ (((beamState 7).modHead 3 (fun v =>
      { v with rects := [⟨2, 0, 1, 2, 1, 0, some 5, crcStart, 1, false, false⟩], line := 6 })) : State).halted = false ∧
      (((beamState 7).modHead 3 (fun v =>
      { v with rects := [⟨2, 0, 1, 2, 1, 0, some 5, crcStart, 1, false, false⟩], line := 6 })) : State).fenced (uHead (3 : Fin
      16)) = false) ∧
    (((((beamState 7).set (Fd.HD_WBCTL_BUSY 3) 1).modHead 3 (fun v =>
      { v with wb := some ⟨true, 0, 1, 2, 3⟩, wbOut := [(0, [1]), (64, [2])] })) : State).inEpisode = false ∧ (((((beamState
      7).set (Fd.HD_WBCTL_BUSY 3) 1).modHead 3 (fun v =>
      { v with wb := some ⟨true, 0, 1, 2, 3⟩, wbOut := [(0, [1]), (64, [2])] })) : State).headS (3 : Fin 16)).running = true ∧
      (((((beamState 7).set (Fd.HD_WBCTL_BUSY 3) 1).modHead 3 (fun v =>
      { v with wb := some ⟨true, 0, 1, 2, 3⟩, wbOut := [(0, [1]), (64, [2])] })) : State).headS (3 : Fin 16)).line ≠ 0 ∧
      ((((beamState 7).set (Fd.HD_WBCTL_BUSY 3) 1).modHead 3 (fun v =>
      { v with wb := some ⟨true, 0, 1, 2, 3⟩, wbOut := [(0, [1]), (64, [2])] })) : State).activeLine (3 : Fin 16)
      ((((((beamState 7).set (Fd.HD_WBCTL_BUSY 3) 1).modHead 3 (fun v =>
      { v with wb := some ⟨true, 0, 1, 2, 3⟩, wbOut := [(0, [1]), (64, [2])] })) : State).headS (3 : Fin 16)).line - 1) = true ∧
      2 ≤ (((((beamState 7).set (Fd.HD_WBCTL_BUSY 3) 1).modHead 3 (fun v =>
      { v with wb := some ⟨true, 0, 1, 2, 3⟩, wbOut := [(0, [1]), (64, [2])] })) : State).headS (3 : Fin 16)).wbOut.length ∧
      ((((((beamState 7).set (Fd.HD_WBCTL_BUSY 3) 1).modHead 3 (fun v =>
      { v with wb := some ⟨true, 0, 1, 2, 3⟩, wbOut := [(0, [1]), (64, [2])] })) : State).headS (3 : Fin 16)).wb.isSome = true ∨
      (((((beamState 7).set (Fd.HD_WBCTL_BUSY 3) 1).modHead 3 (fun v =>
      { v with wb := some ⟨true, 0, 1, 2, 3⟩, wbOut := [(0, [1]), (64, [2])] })) : State).headS (3 : Fin 16)).wbTail ≠ 0)) ∧
    (((((beamState 7).set (Fd.HD_WBCTL_BUSY 3) 1).modHead 3 (fun v => { v with wb := some ⟨true, 0, 1, 2, 4⟩ })) :
      State).inEpisode = false ∧ ((((beamState 7).set (Fd.HD_WBCTL_BUSY 3) 1).modHead 3 (fun v =>
      { v with wb := some ⟨true, 0, 1, 2, 4⟩ })) : State).masterFrozen 0x19 = false ∧ (((((beamState 7).set (Fd.HD_WBCTL_BUSY 3)
      1).modHead 3 (fun v => { v with wb := some ⟨true, 0, 1, 2, 4⟩ })) : State).headS (3 : Fin 16)).wb = some (⟨true, 0, 1, 2,
      4⟩ : WbRun) ∧ (⟨true, 0, 1, 2, 4⟩ : WbRun).rows = ((((beamState 7).set (Fd.HD_WBCTL_BUSY 3) 1).modHead 3 (fun v =>
      { v with wb := some ⟨true, 0, 1, 2, 4⟩ })) : State).vActive (3 : Fin 16) ∧ (((((beamState 7).set (Fd.HD_WBCTL_BUSY 3)
      1).modHead 3 (fun v => { v with wb := some ⟨true, 0, 1, 2, 4⟩ })) : State).headS (3 : Fin 16)).wbTail = 0 ∧ (busOf
      ((((beamState 7).set (Fd.HD_WBCTL_BUSY 3) 1).modHead 3 (fun v => { v with wb := some ⟨true, 0, 1, 2, 4⟩ })) : State) (⟨[],
      []⟩ : Env)).wbRows { masterWho 0x19 with q := 304 + (3 : Fin 16), regs := false } (((((beamState 7).set (Fd.HD_WBCTL_BUSY
      3) 1).modHead 3 (fun v => { v with wb := some ⟨true, 0, 1, 2, 4⟩ })) : State).headS (3 : Fin 16)).wbOut = .ok ([] : List
      Nat) false (busOf (((beamState 7).set (Fd.HD_WBCTL_BUSY 3) 1).modHead 3 (fun v =>
      { v with wb := some ⟨true, 0, 1, 2, 4⟩ })) ⟨[], []⟩ : Bus)) ∧
    (picState.inEpisode = false ∧ (picState.headS (3 : Fin 16)).running = true ∧ (picState.headS (3 : Fin 16)).line ≠ 0 ∧
      picState.activeLine (3 : Fin 16) ((picState.headS (3 : Fin 16)).line - 1) = true ∧ picState.get (Fd.HD_CTL_OUT (3 : Fin
      16)).act = 1 ∧ (3 : Fin 32).val ≠ 0 ∧ ((((picState.headS (3 : Fin 16)).pic.filter (fun q => q.1 == ((picState.headS (3 :
      Fin 16)).line - 1))).map (fun q => q.2.2)).getD 0) + (3 : Fin 32).val ≤ picState.hActive (3 : Fin 16) ∧ (((picState.headS
      (3 : Fin 16)).pic.filter (fun q => q.1 == ((picState.headS (3 : Fin 16)).line - 1))).map (fun q => q.2.1)).or
      (picState.picContext (3 : Fin 16)) = some (70 : Nat) ∧ (picState.headS (3 : Fin 16)).pic.all (fun q => q.1 ==
      ((picState.headS (3 : Fin 16)).line - 1) || !picState.welt.mid.contains q.2.1) = true) ∧
    (((((beamState 0).set (Fd.HD_CTL_SRC 3).act 1).set (Fd.EY_FUNC 44) 1).modHead 3 (fun v =>
      { v with running := false, waitRef := true, inFrame := false }) : State).inEpisode = false ∧ ((((((beamState 0).set
      (Fd.HD_CTL_SRC 3).act 1).set (Fd.EY_FUNC 44) 1).modHead 3 (fun v =>
      { v with running := false, waitRef := true, inFrame := false }) : State).get (Fd.HD_CTL_SRC (3 : Fin 16)).act) = 1 ∧
      ((((beamState 0).set (Fd.HD_CTL_SRC 3).act 1).set (Fd.EY_FUNC 44) 1).modHead 3 (fun v =>
      { v with running := false, waitRef := true, inFrame := false }) : State).eyeFn (44 + ((((beamState 0).set (Fd.HD_CTL_SRC
      3).act 1).set (Fd.EY_FUNC 44) 1).modHead 3 (fun v => { v with running := false, waitRef := true, inFrame := false }) :
      State).get (Fd.HD_CTL_FSEL (3 : Fin 16)).act) 1 = true ∧ (true : Bool) = !((((beamState 0).set (Fd.HD_CTL_SRC 3).act
      1).set (Fd.EY_FUNC 44) 1).modHead 3 (fun v => { v with running := false, waitRef := true, inFrame := false }) :
      State).flag (Fd.HD_CTL_FEDGE (3 : Fin 16)).act ∨ (((((beamState 0).set (Fd.HD_CTL_SRC 3).act 1).set (Fd.EY_FUNC 44)
      1).modHead 3 (fun v => { v with running := false, waitRef := true, inFrame := false }) : State).get (Fd.HD_CTL_SRC (3 :
      Fin 16)).act) = 2 ∧ ((((beamState 0).set (Fd.HD_CTL_SRC 3).act 1).set (Fd.EY_FUNC 44) 1).modHead 3 (fun v =>
      { v with running := false, waitRef := true, inFrame := false }) : State).epochDue (3 : Fin 16) = true) ∧ (((((beamState
      0).set (Fd.HD_CTL_SRC 3).act 1).set (Fd.EY_FUNC 44) 1).modHead 3 (fun v =>
      { v with running := false, waitRef := true, inFrame := false }) : State).headS (3 : Fin 16)).waitRef = true ∧
      ((((beamState 0).set (Fd.HD_CTL_SRC 3).act 1).set (Fd.EY_FUNC 44) 1).modHead 3 (fun v =>
      { v with running := false, waitRef := true, inFrame := false }) : State).flag (Fd.HD_CTL_RUN (3 : Fin 16)) = true) ∧
    ((((((beamState 7).set (Fd.HD_CTL_SRC 3).act 1).set (Fd.HD_CTL_FEDGE 3).act 1).set (Fd.EY_FUNC 44) 1).set (Fd.HD_STAT_LOCK
      3) 1 |>.modHead 3 (fun v => { v with good := 7 }) : State).inEpisode = false ∧ (((((((beamState 7).set (Fd.HD_CTL_SRC
      3).act 1).set (Fd.HD_CTL_FEDGE 3).act 1).set (Fd.EY_FUNC 44) 1).set (Fd.HD_STAT_LOCK 3) 1 |>.modHead 3 (fun v =>
      { v with good := 7 }) : State).get (Fd.HD_CTL_SRC (3 : Fin 16)).act) = 1 ∧ (((((beamState 7).set (Fd.HD_CTL_SRC 3).act
      1).set (Fd.HD_CTL_FEDGE 3).act 1).set (Fd.EY_FUNC 44) 1).set (Fd.HD_STAT_LOCK 3) 1 |>.modHead 3 (fun v =>
      { v with good := 7 }) : State).eyeFn (44 + (((((beamState 7).set (Fd.HD_CTL_SRC 3).act 1).set (Fd.HD_CTL_FEDGE 3).act
      1).set (Fd.EY_FUNC 44) 1).set (Fd.HD_STAT_LOCK 3) 1 |>.modHead 3 (fun v => { v with good := 7 }) : State).get
      (Fd.HD_CTL_FSEL (3 : Fin 16)).act) 1 = true ∧ (false : Bool) = !(((((beamState 7).set (Fd.HD_CTL_SRC 3).act 1).set
      (Fd.HD_CTL_FEDGE 3).act 1).set (Fd.EY_FUNC 44) 1).set (Fd.HD_STAT_LOCK 3) 1 |>.modHead 3 (fun v => { v with good := 7 }) :
      State).flag (Fd.HD_CTL_FEDGE (3 : Fin 16)).act ∨ ((((((beamState 7).set (Fd.HD_CTL_SRC 3).act 1).set (Fd.HD_CTL_FEDGE
      3).act 1).set (Fd.EY_FUNC 44) 1).set (Fd.HD_STAT_LOCK 3) 1 |>.modHead 3 (fun v => { v with good := 7 }) : State).get
      (Fd.HD_CTL_SRC (3 : Fin 16)).act) = 2 ∧ (((((beamState 7).set (Fd.HD_CTL_SRC 3).act 1).set (Fd.HD_CTL_FEDGE 3).act 1).set
      (Fd.EY_FUNC 44) 1).set (Fd.HD_STAT_LOCK 3) 1 |>.modHead 3 (fun v => { v with good := 7 }) : State).epochDue (3 : Fin 16) =
      true) ∧ ((((((beamState 7).set (Fd.HD_CTL_SRC 3).act 1).set (Fd.HD_CTL_FEDGE 3).act 1).set (Fd.EY_FUNC 44) 1).set
      (Fd.HD_STAT_LOCK 3) 1 |>.modHead 3 (fun v => { v with good := 7 }) : State).headS (3 : Fin 16)).waitRef = false ∧
      ((((((beamState 7).set (Fd.HD_CTL_SRC 3).act 1).set (Fd.HD_CTL_FEDGE 3).act 1).set (Fd.EY_FUNC 44) 1).set (Fd.HD_STAT_LOCK
      3) 1 |>.modHead 3 (fun v => { v with good := 7 }) : State).headS (3 : Fin 16)).running = true) ∧
    (((((beamState 7).set (Fd.HD_CTL_SRC 3).act 2).set (Fd.HD_STAT_LOCK 3) 2) : State).inEpisode = false ∧ ((((((beamState
      7).set (Fd.HD_CTL_SRC 3).act 2).set (Fd.HD_STAT_LOCK 3) 2) : State).headS (3 : Fin 16)).running = true ∨ (((((beamState
      7).set (Fd.HD_CTL_SRC 3).act 2).set (Fd.HD_STAT_LOCK 3) 2) : State).headS (3 : Fin 16)).waitRef = true) ∧ ((((beamState
      7).set (Fd.HD_CTL_SRC 3).act 2).set (Fd.HD_STAT_LOCK 3) 2) : State).hasRef (3 : Fin 16) = true ∧ (((((beamState 7).set
      (Fd.HD_CTL_SRC 3).act 2).set (Fd.HD_STAT_LOCK 3) 2) : State).get (Fd.HD_STAT_LOCK (3 : Fin 16)) = 1 ∨ ((((beamState 7).set
      (Fd.HD_CTL_SRC 3).act 2).set (Fd.HD_STAT_LOCK 3) 2) : State).get (Fd.HD_STAT_LOCK (3 : Fin 16)) = 2)) := by
  iterate 7 refine And.intro (by decide +kernel) ?_
  decide +kernel

/-- Hypotheses of MemoryEventsComplete. -/
theorem witness_MemoryEventsComplete :
    (({ (live.set (Fd.FETCH_POOL_LIMIT 3) 9) with fetch := { waiting := [3] } } : State).inEpisode = false ∧
      ({ (live.set (Fd.FETCH_POOL_LIMIT 3) 9) with fetch := { waiting := [3] } } : State).domOn 6 = true ∧
      ({ (live.set (Fd.FETCH_POOL_LIMIT 3) 9) with fetch := { waiting := [3] } } : State).poolNext
      ({ (live.set (Fd.FETCH_POOL_LIMIT 3) 9) with fetch := { waiting := [3] } } : State).fetch.waiting = some (3 : Fin 8).val) ∧
    (({ (live.set Fd.MEM_STAT_CHEFF 3) with fetch := { training := [0, 1], full := true, rate := 3 } } : State).inEpisode =
      false ∧ ({ (live.set Fd.MEM_STAT_CHEFF 3) with fetch := { training := [0, 1], full := true, rate := 3 } } : State).domOn
      11 = true ∧ ({ (live.set Fd.MEM_STAT_CHEFF 3) with fetch := { training := [0, 1], full := true, rate := 3 } } : State).get
      Fd.PWR_STATE_STATE ≠ 2 ∧ (1 : Fin 6).val ∈
      ({ (live.set Fd.MEM_STAT_CHEFF 3) with fetch := { training := [0, 1], full := true, rate := 3 } } : State).fetch.training
      ∧ ({ (live.set Fd.MEM_STAT_CHEFF 3) with fetch := { training := [0, 1], full := true, rate := 3 } } :
      State).fetch.training.any (fun x =>
      ({ (live.set Fd.MEM_STAT_CHEFF 3) with fetch := { training := [0, 1], full := true, rate := 3 } } : State).unitInReset
      (uMemCh x)) = false) ∧
    (((live.set Fd.MEM_STAT_CHEFF 3) : State).inEpisode = false ∧ ((live.set Fd.MEM_STAT_CHEFF 3) : State).domOn 11 = true ∧
      nbit (((live.set Fd.MEM_STAT_CHEFF 3) : State).get Fd.MEM_STAT_CHEFF) (1 : Fin 6) = true) ∧
    (({ (live.set (Fd.MEM_CH_STAT_STATE 1) 2) with fetch := { retrain := 3 } } : State).inEpisode = false ∧
      ({ (live.set (Fd.MEM_CH_STAT_STATE 1) 2) with fetch := { retrain := 3 } } : State).domOn 11 = true ∧
      ({ (live.set (Fd.MEM_CH_STAT_STATE 1) 2) with fetch := { retrain := 3 } } : State).fetch.retrain ≠ 0 ∧
      ({ (live.set (Fd.MEM_CH_STAT_STATE 1) 2) with fetch := { retrain := 3 } } : State).chState (1 : Fin 6) = 2) ∧
    (((live.set (Fd.MEM_ECC_BUSY 3) 1) : State).inEpisode = false ∧ ((live.set (Fd.MEM_ECC_BUSY 3) 1) : State).domOn 11 = true) := by
  iterate 4 refine And.intro (by decide +kernel) ?_
  decide +kernel

/-- Hypotheses of LaneEventsComplete. -/
theorem witness_LaneEventsComplete :
    ((((((live.set (Fd.EYE_WP_CFG_MODE 2) 1).set (Fd.EYE_WP_CFG_SPARE 2) 1).set (Fd.EYE_WP_CFG_RATEMIN 2) 2).set
      (Fd.EYE_WP_STAT_STATE 2) 1) : State).inEpisode = false ∧ (((((live.set (Fd.EYE_WP_CFG_MODE 2) 1).set (Fd.EYE_WP_CFG_SPARE
      2) 1).set (Fd.EYE_WP_CFG_RATEMIN 2) 2).set (Fd.EYE_WP_STAT_STATE 2) 1) : State).domOn (lanegOf (2 : Fin 8)) = true ∧
      (((((live.set (Fd.EYE_WP_CFG_MODE 2) 1).set (Fd.EYE_WP_CFG_SPARE 2) 1).set (Fd.EYE_WP_CFG_RATEMIN 2) 2).set
      (Fd.EYE_WP_STAT_STATE 2) 1) : State).portMode (2 : Fin 8) = 1 ∧ (((((live.set (Fd.EYE_WP_CFG_MODE 2) 1).set
      (Fd.EYE_WP_CFG_SPARE 2) 1).set (Fd.EYE_WP_CFG_RATEMIN 2) 2).set (Fd.EYE_WP_STAT_STATE 2) 1) : State).portState (2 : Fin 8)
      = 1 ∧ (((((live.set (Fd.EYE_WP_CFG_MODE 2) 1).set (Fd.EYE_WP_CFG_SPARE 2) 1).set (Fd.EYE_WP_CFG_RATEMIN 2) 2).set
      (Fd.EYE_WP_STAT_STATE 2) 1) : State).get (Fd.EYE_WP_CFG_RATE (2 : Fin 8)) ≤ (1 : Fin 4).val ∧ (1 : Fin 4).val ≤
      (((((live.set (Fd.EYE_WP_CFG_MODE 2) 1).set (Fd.EYE_WP_CFG_SPARE 2) 1).set (Fd.EYE_WP_CFG_RATEMIN 2) 2).set
      (Fd.EYE_WP_STAT_STATE 2) 1) : State).get (Fd.EYE_WP_CFG_RATEMIN (2 : Fin 8)) ∧ (1 : Fin 4).val < 3) ∧
    (((((live.set (Fd.EYE_WP_CFG_MODE 2) 1).set (Fd.EYE_WP_CFG_SPARE 2) 1).set (Fd.EYE_WP_STAT_STATE 2) 1) : State).inEpisode =
      false ∧ ((((live.set (Fd.EYE_WP_CFG_MODE 2) 1).set (Fd.EYE_WP_CFG_SPARE 2) 1).set (Fd.EYE_WP_STAT_STATE 2) 1) :
      State).domOn (lanegOf (2 : Fin 8)) = true ∧ ((((live.set (Fd.EYE_WP_CFG_MODE 2) 1).set (Fd.EYE_WP_CFG_SPARE 2) 1).set
      (Fd.EYE_WP_STAT_STATE 2) 1) : State).portMode (2 : Fin 8) = 1 ∧ ((((live.set (Fd.EYE_WP_CFG_MODE 2) 1).set
      (Fd.EYE_WP_CFG_SPARE 2) 1).set (Fd.EYE_WP_STAT_STATE 2) 1) : State).portState (2 : Fin 8) = 1) ∧
    (((((((live.set (Fd.EYE_WP_CFG_MODE 2) 1).set (Fd.EYE_WP_CFG_AUTOREMAP 2) 1).set (Fd.EYE_WP_CFG_RATEMIN 2) 2).set
      (Fd.EYE_WP_STAT_STATE 2) 3).report (uPort 2) 0x28 2 0) : State).inEpisode = false ∧ ((((((live.set (Fd.EYE_WP_CFG_MODE 2)
      1).set (Fd.EYE_WP_CFG_AUTOREMAP 2) 1).set (Fd.EYE_WP_CFG_RATEMIN 2) 2).set (Fd.EYE_WP_STAT_STATE 2) 3).report (uPort 2)
      0x28 2 0) : State).domOn (lanegOf (2 : Fin 8)) = true ∧ ((((((live.set (Fd.EYE_WP_CFG_MODE 2) 1).set
      (Fd.EYE_WP_CFG_AUTOREMAP 2) 1).set (Fd.EYE_WP_CFG_RATEMIN 2) 2).set (Fd.EYE_WP_STAT_STATE 2) 3).report (uPort 2) 0x28 2 0)
      : State).portMode (2 : Fin 8) = 1 ∧ ((((((live.set (Fd.EYE_WP_CFG_MODE 2) 1).set (Fd.EYE_WP_CFG_AUTOREMAP 2) 1).set
      (Fd.EYE_WP_CFG_RATEMIN 2) 2).set (Fd.EYE_WP_STAT_STATE 2) 3).report (uPort 2) 0x28 2 0) : State).portState (2 : Fin 8) = 3
      ∧ ((((((live.set (Fd.EYE_WP_CFG_MODE 2) 1).set (Fd.EYE_WP_CFG_AUTOREMAP 2) 1).set (Fd.EYE_WP_CFG_RATEMIN 2) 2).set
      (Fd.EYE_WP_STAT_STATE 2) 3).report (uPort 2) 0x28 2 0) : State).fenced (uPort (2 : Fin 8)) = true ∧ ((((((live.set
      (Fd.EYE_WP_CFG_MODE 2) 1).set (Fd.EYE_WP_CFG_AUTOREMAP 2) 1).set (Fd.EYE_WP_CFG_RATEMIN 2) 2).set (Fd.EYE_WP_STAT_STATE 2)
      3).report (uPort 2) 0x28 2 0) : State).flag (Fd.EYE_WP_CFG_AUTOREMAP (2 : Fin 8)) = true ∧ ((((((live.set
      (Fd.EYE_WP_CFG_MODE 2) 1).set (Fd.EYE_WP_CFG_AUTOREMAP 2) 1).set (Fd.EYE_WP_CFG_RATEMIN 2) 2).set (Fd.EYE_WP_STAT_STATE 2)
      3).report (uPort 2) 0x28 2 0) : State).flag (Fd.EYE_WP_STAT_READY (2 : Fin 8)) = false ∧ ((((((live.set
      (Fd.EYE_WP_CFG_MODE 2) 1).set (Fd.EYE_WP_CFG_AUTOREMAP 2) 1).set (Fd.EYE_WP_CFG_RATEMIN 2) 2).set (Fd.EYE_WP_STAT_STATE 2)
      3).report (uPort 2) 0x28 2 0) : State).unitInReset (uPort (2 : Fin 8)) = false ∧ ((((((live.set (Fd.EYE_WP_CFG_MODE 2)
      1).set (Fd.EYE_WP_CFG_AUTOREMAP 2) 1).set (Fd.EYE_WP_CFG_RATEMIN 2) 2).set (Fd.EYE_WP_STAT_STATE 2) 3).report (uPort 2)
      0x28 2 0) : State).get (Fd.EYE_WP_CFG_RATE (2 : Fin 8)) ≤ (1 : Fin 4).val ∧ (1 : Fin 4).val ≤ ((((((live.set
      (Fd.EYE_WP_CFG_MODE 2) 1).set (Fd.EYE_WP_CFG_AUTOREMAP 2) 1).set (Fd.EYE_WP_CFG_RATEMIN 2) 2).set (Fd.EYE_WP_STAT_STATE 2)
      3).report (uPort 2) 0x28 2 0) : State).get (Fd.EYE_WP_CFG_RATEMIN (2 : Fin 8)) ∧ (1 : Fin 4).val < 3) ∧
    (((((((live.set (Fd.EYE_WP_CFG_MODE 2) 1).set (Fd.EYE_WP_CFG_AUTOREMAP 2) 1).set (Fd.EYE_WP_CFG_SPARE 2) 1).set
      (Fd.EYE_WP_STAT_STATE 2) 2).set (Fd.EYE_WP_STAT_RXSPARE 2) 3) : State).inEpisode = false ∧ ((((((live.set
      (Fd.EYE_WP_CFG_MODE 2) 1).set (Fd.EYE_WP_CFG_AUTOREMAP 2) 1).set (Fd.EYE_WP_CFG_SPARE 2) 1).set (Fd.EYE_WP_STAT_STATE 2)
      2).set (Fd.EYE_WP_STAT_RXSPARE 2) 3) : State).weltUp (2 : Fin 8) = true ∧ ((((((live.set (Fd.EYE_WP_CFG_MODE 2) 1).set
      (Fd.EYE_WP_CFG_AUTOREMAP 2) 1).set (Fd.EYE_WP_CFG_SPARE 2) 1).set (Fd.EYE_WP_STAT_STATE 2) 2).set (Fd.EYE_WP_STAT_RXSPARE
      2) 3) : State).flag (Fd.EYE_WP_CFG_SPARE (2 : Fin 8)) = true ∧ (if (true : Bool) then ((((((live.set (Fd.EYE_WP_CFG_MODE
      2) 1).set (Fd.EYE_WP_CFG_AUTOREMAP 2) 1).set (Fd.EYE_WP_CFG_SPARE 2) 1).set (Fd.EYE_WP_STAT_STATE 2) 2).set
      (Fd.EYE_WP_STAT_RXSPARE 2) 3) : State).get (Fd.EYE_WP_STAT_RXSPARE (2 : Fin 8)) else ((((((live.set (Fd.EYE_WP_CFG_MODE 2)
      1).set (Fd.EYE_WP_CFG_AUTOREMAP 2) 1).set (Fd.EYE_WP_CFG_SPARE 2) 1).set (Fd.EYE_WP_STAT_STATE 2) 2).set
      (Fd.EYE_WP_STAT_RXSPARE 2) 3) : State).get (Fd.EYE_WP_STAT_TXSPARE (2 : Fin 8))) ≠ (1 : Fin 4).val ∧ (if (true : Bool)
      then ((((((live.set (Fd.EYE_WP_CFG_MODE 2) 1).set (Fd.EYE_WP_CFG_AUTOREMAP 2) 1).set (Fd.EYE_WP_CFG_SPARE 2) 1).set
      (Fd.EYE_WP_STAT_STATE 2) 2).set (Fd.EYE_WP_STAT_RXSPARE 2) 3) : State).flag (Fd.EYE_WP_STAT_RXREMAP (2 : Fin 8)) else
      ((((((live.set (Fd.EYE_WP_CFG_MODE 2) 1).set (Fd.EYE_WP_CFG_AUTOREMAP 2) 1).set (Fd.EYE_WP_CFG_SPARE 2) 1).set
      (Fd.EYE_WP_STAT_STATE 2) 2).set (Fd.EYE_WP_STAT_RXSPARE 2) 3) : State).flag (Fd.EYE_WP_STAT_TXREMAP (2 : Fin 8))) = false
      ∧ ((true : Bool) = true → ((((((live.set (Fd.EYE_WP_CFG_MODE 2) 1).set (Fd.EYE_WP_CFG_AUTOREMAP 2) 1).set
      (Fd.EYE_WP_CFG_SPARE 2) 1).set (Fd.EYE_WP_STAT_STATE 2) 2).set (Fd.EYE_WP_STAT_RXSPARE 2) 3) : State).flag
      (Fd.EYE_WP_CFG_AUTOREMAP (2 : Fin 8)) = true ∧ ((((((live.set (Fd.EYE_WP_CFG_MODE 2) 1).set (Fd.EYE_WP_CFG_AUTOREMAP 2)
      1).set (Fd.EYE_WP_CFG_SPARE 2) 1).set (Fd.EYE_WP_STAT_STATE 2) 2).set (Fd.EYE_WP_STAT_RXSPARE 2) 3) : State).flag
      (Fd.EYE_WP_STAT_SPAREBAD (2 : Fin 8)) = false)) ∧
    (((((live.set (Fd.EYE_WP_CFG_MODE 2) 1).set (Fd.EYE_WP_CFG_SPARE 2) 0).set (Fd.EYE_WP_STAT_STATE 2) 2) : State).inEpisode =
      false ∧ ((((live.set (Fd.EYE_WP_CFG_MODE 2) 1).set (Fd.EYE_WP_CFG_SPARE 2) 0).set (Fd.EYE_WP_STAT_STATE 2) 2) :
      State).weltUp (2 : Fin 8) = true ∧ ((((live.set (Fd.EYE_WP_CFG_MODE 2) 1).set (Fd.EYE_WP_CFG_SPARE 2) 0).set
      (Fd.EYE_WP_STAT_STATE 2) 2) : State).flag (Fd.EYE_WP_CFG_SPARE (2 : Fin 8)) = false) ∧
    (((((live.set (Fd.EYE_WP_CFG_MODE 2) 1).set (Fd.EYE_WP_CFG_SPARE 2) 1).set (Fd.EYE_WP_STAT_STATE 2) 2) : State).inEpisode =
      false ∧ ((((live.set (Fd.EYE_WP_CFG_MODE 2) 1).set (Fd.EYE_WP_CFG_SPARE 2) 1).set (Fd.EYE_WP_STAT_STATE 2) 2) :
      State).weltUp (2 : Fin 8) = true ∧ ((((live.set (Fd.EYE_WP_CFG_MODE 2) 1).set (Fd.EYE_WP_CFG_SPARE 2) 1).set
      (Fd.EYE_WP_STAT_STATE 2) 2) : State).flag (Fd.EYE_WP_CFG_SPARE (2 : Fin 8)) = true ∧ ((((live.set (Fd.EYE_WP_CFG_MODE 2)
      1).set (Fd.EYE_WP_CFG_SPARE 2) 1).set (Fd.EYE_WP_STAT_STATE 2) 2) : State).flag (Fd.EYE_WP_STAT_SPAREBAD (2 : Fin 8)) =
      false) ∧
    (((live.set Fd.RST_STRAP_CLKMODE 2) : State).inEpisode = false ∧ ((live.set Fd.RST_STRAP_CLKMODE 2) : State).get
      Fd.RST_STRAP_CLKMODE = 2 ∧ ((live.set Fd.RST_STRAP_CLKMODE 2) : State).lanes.refLost = false) ∧
    (({ live with lanes := { refLost := true } } : State).inEpisode = false) ∧
    ((((live.set (Fd.EY_FUNC 37) 1).set (Fd.EYE_WP_CFG_MODE 5) 3) : State).inEpisode = false ∧ (((live.set (Fd.EY_FUNC 37)
      1).set (Fd.EYE_WP_CFG_MODE 5) 3) : State).eyeFn (32 + (5 : Fin 8)) 1 = true ∧ (((live.set (Fd.EY_FUNC 37) 1).set
      (Fd.EYE_WP_CFG_MODE 5) 3) : State).domOn 0 = true ∧ (((live.set (Fd.EY_FUNC 37) 1).set (Fd.EYE_WP_CFG_MODE 5) 3) :
      State).domOn (lanegOf (5 : Fin 8)) = true ∧ (((live.set (Fd.EY_FUNC 37) 1).set (Fd.EYE_WP_CFG_MODE 5) 3) :
      State).unitInReset (uPort (5 : Fin 8)) = false) ∧
    (((((live.set (Fd.EYE_WP_CFG_MODE 5) 3).set (Fd.DP_WP_STAT_HPD 5) 1).set (Fd.EYE_WP_STAT_STATE 5) 2) : State).inEpisode =
      false ∧ ((((live.set (Fd.EYE_WP_CFG_MODE 5) 3).set (Fd.DP_WP_STAT_HPD 5) 1).set (Fd.EYE_WP_STAT_STATE 5) 2) : State).domOn
      0 = true ∧ ((((live.set (Fd.EYE_WP_CFG_MODE 5) 3).set (Fd.DP_WP_STAT_HPD 5) 1).set (Fd.EYE_WP_STAT_STATE 5) 2) :
      State).domOn (lanegOf (5 : Fin 8)) = true ∧ ((((live.set (Fd.EYE_WP_CFG_MODE 5) 3).set (Fd.DP_WP_STAT_HPD 5) 1).set
      (Fd.EYE_WP_STAT_STATE 5) 2) : State).unitInReset (uPort (5 : Fin 8)) = false) ∧
    (((((live.set (Fd.EY_FUNC 37) 1).set (Fd.EYE_WP_CFG_MODE 5) 3).set (Fd.DP_WP_STAT_HPD 5) 1) : State).inEpisode = false ∧
      ((((live.set (Fd.EY_FUNC 37) 1).set (Fd.EYE_WP_CFG_MODE 5) 3).set (Fd.DP_WP_STAT_HPD 5) 1) : State).eyeFn (32 + (5 : Fin
      8)) 1 = true ∧ ((((live.set (Fd.EY_FUNC 37) 1).set (Fd.EYE_WP_CFG_MODE 5) 3).set (Fd.DP_WP_STAT_HPD 5) 1) : State).domOn 0
      = true ∧ ((((live.set (Fd.EY_FUNC 37) 1).set (Fd.EYE_WP_CFG_MODE 5) 3).set (Fd.DP_WP_STAT_HPD 5) 1) : State).isDp (5 : Fin
      8) = true ∧ ((((live.set (Fd.EY_FUNC 37) 1).set (Fd.EYE_WP_CFG_MODE 5) 3).set (Fd.DP_WP_STAT_HPD 5) 1) : State).flag
      (Fd.DP_WP_STAT_HPD (5 : Fin 8)) = true) ∧
    (({ ((live.set (Fd.EYE_WP_CFG_MODE 5) 3).set (Fd.EYE_WP_CFG_DPRATE 5) 5).set (Fd.EYE_WP_CFG_DPLANES 5) 2 with lanes := { dpTrain := [5] } }
      : State).inEpisode = false ∧
      ({ ((live.set (Fd.EYE_WP_CFG_MODE 5) 3).set (Fd.EYE_WP_CFG_DPRATE 5) 5).set (Fd.EYE_WP_CFG_DPLANES 5) 2 with lanes := { dpTrain := [5] } }
      : State).isDp (5 : Fin 8) = true ∧ (5 : Fin 8).val ∈
      ({ ((live.set (Fd.EYE_WP_CFG_MODE 5) 3).set (Fd.EYE_WP_CFG_DPRATE 5) 5).set (Fd.EYE_WP_CFG_DPLANES 5) 2 with lanes := { dpTrain := [5] } }
      : State).lanes.dpTrain ∧
      ({ ((live.set (Fd.EYE_WP_CFG_MODE 5) 3).set (Fd.EYE_WP_CFG_DPRATE 5) 5).set (Fd.EYE_WP_CFG_DPLANES 5) 2 with lanes := { dpTrain := [5] } }
      : State).dpAllowed (5 : Fin 8) (4 : Fin 8) (2 : Fin 4) ((none : Option (Fin 4 × Fin 8)).map (fun x => x.1.val)) = true) ∧
    (({ (live.set (Fd.EYE_WP_CFG_MODE 5) 3) with lanes := { dpTrain := [5] } } : State).inEpisode = false ∧
      ({ (live.set (Fd.EYE_WP_CFG_MODE 5) 3) with lanes := { dpTrain := [5] } } : State).isDp (5 : Fin 8) = true ∧ (5 : Fin
      8).val ∈ ({ (live.set (Fd.EYE_WP_CFG_MODE 5) 3) with lanes := { dpTrain := [5] } } : State).lanes.dpTrain) ∧
    (((live.set (Fd.EYE_L_SCAN_BUSY 9) 1) : State).inEpisode = false ∧ ((live.set (Fd.EYE_L_SCAN_BUSY 9) 1) : State).flag
      (Fd.EYE_L_SCAN_BUSY (9 : Fin 32)) = true) ∧
    (((((live.set (Fd.EYE_WP_CFG_MODE 2) 5).set (Fd.EYE_WP_STAT_STATE 2) 5).set (Fd.EYE_L_CFG_RXCHK 9) 2) : State).inEpisode =
      false ∧ ((((live.set (Fd.EYE_WP_CFG_MODE 2) 5).set (Fd.EYE_WP_STAT_STATE 2) 5).set (Fd.EYE_L_CFG_RXCHK 9) 2) :
      State).checkerRuns (9 : Fin 32) = true) ∧
    ((((((live.set (Fd.EYE_WP_CFG_MODE 2) 5).set (Fd.EYE_WP_STAT_STATE 2) 5).set (Fd.EYE_L_CFG_RXCHK 9) 2).set
      (Fd.EYE_L_STAT_SYNC 9) 1) : State).inEpisode = false ∧ (((((live.set (Fd.EYE_WP_CFG_MODE 2) 5).set (Fd.EYE_WP_STAT_STATE
      2) 5).set (Fd.EYE_L_CFG_RXCHK 9) 2).set (Fd.EYE_L_STAT_SYNC 9) 1) : State).checkerRuns (9 : Fin 32) = true ∧ (((((live.set
      (Fd.EYE_WP_CFG_MODE 2) 5).set (Fd.EYE_WP_STAT_STATE 2) 5).set (Fd.EYE_L_CFG_RXCHK 9) 2).set (Fd.EYE_L_STAT_SYNC 9) 1) :
      State).flag (Fd.EYE_L_STAT_SYNC (9 : Fin 32)) = true) := by
  iterate 15 refine And.intro (by decide +kernel) ?_
  decide +kernel

/-- Hypotheses of WeltLinksComplete. -/
theorem witness_WeltLinksComplete :
    (routed.inEpisode = false ∧ (routed.weltUp (2 : Fin 8) = true ∧ (routed.halted = false ∨ routed.flag Fd.DBG_CTL_WELTRUN =
      true))) ∧
    (routed.inEpisode = false ∧ (routed.weltUp (2 : Fin 8) = true ∧ (routed.halted = false ∨ routed.flag Fd.DBG_CTL_WELTRUN =
      true)) ∧ (0 : BitVec 12).toNat = tabGet 0 routed.welt.rxSeq (2 : Fin 8) ∧ 2 ≤ ((wpkt 4 77 0 5 [1] : WeltPkt).kind.toNat) ∧
      ((wpkt 4 77 0 5 [1] : WeltPkt).kind.toNat) ≤ 7 ∧ (wpkt 4 77 0 5 [1] : WeltPkt).len.toNat ≤ 64 ∧ (wpkt 4 77 0 5 [1] :
      WeltPkt).len.toNat = (wpkt 4 77 0 5 [1] : WeltPkt).payload.length ∧ (routed.trusted (2 : Fin 8) = true ∨ ((wpkt 4 77 0 5
      [1] : WeltPkt).kind.toNat) ≠ 7) ∧ (wpkt 4 77 0 5 [1] : WeltPkt).dest.toNat ≠ routed.devId ∧ routed.fenced uSwitch = false
      ∧ routed.weltRoute (wpkt 4 77 0 5 [1] : WeltPkt).dest.toNat = some ((2 : Nat), (false : Bool)) ∧ (wpkt 4 77 0 5 [1] :
      WeltPkt).hop.toNat < 16) ∧
    (routed.inEpisode = false ∧ (routed.weltUp (2 : Fin 8) = true ∧ (routed.halted = false ∨ routed.flag Fd.DBG_CTL_WELTRUN =
      true)) ∧ (0 : BitVec 12).toNat = tabGet 0 routed.welt.rxSeq (2 : Fin 8) ∧ 1 ≤ ((wpkt 2 9 0 5 [5, 64, 1] :
      WeltPkt).kind.toNat) ∧ ((wpkt 2 9 0 5 [5, 64, 1] : WeltPkt).kind.toNat) ≤ 7 ∧ (wpkt 2 9 0 5 [5, 64, 1] :
      WeltPkt).len.toNat ≤ 64 ∧ (wpkt 2 9 0 5 [5, 64, 1] : WeltPkt).len.toNat = (wpkt 2 9 0 5 [5, 64, 1] :
      WeltPkt).payload.length ∧ (routed.trusted (2 : Fin 8) = true ∨ ((wpkt 2 9 0 5 [5, 64, 1] : WeltPkt).kind.toNat) ≠ 7 ∧
      ((wpkt 2 9 0 5 [5, 64, 1] : WeltPkt).kind.toNat) ≠ 1) ∧ (((wpkt 2 9 0 5 [5, 64, 1] : WeltPkt).kind.toNat) = 1 ∨ (wpkt 2 9
      0 5 [5, 64, 1] : WeltPkt).dest.toNat = routed.devId) ∧ (routed.sec.ctxSet = true ∨ ((wpkt 2 9 0 5 [5, 64, 1] :
      WeltPkt).kind.toNat) ≠ 7) ∧ (routed.fcBoundary (wpkt 2 9 0 5 [5, 64, 1] : WeltPkt)).weltRefuse (wpkt 2 9 0 5 [5, 64, 1] :
      WeltPkt) = none ∧ weltFormatOk (wpkt 2 9 0 5 [5, 64, 1] : WeltPkt) = true) ∧
    (({ routed with welt := { replay := [(2, [(5, 0, wpkt 4 77 0 5 [2]), (6, 0, wpkt 4 77 0 5 [1]), (7, 0, wpkt 4 77 0 5 [3])])] } }
      : State).inEpisode = false ∧
      ({ routed with welt := { replay := [(2, [(5, 0, wpkt 4 77 0 5 [2]), (6, 0, wpkt 4 77 0 5 [1]), (7, 0, wpkt 4 77 0 5 [3])])] } }
      : State).weltUp (2 : Fin 8) = true ∧ ((tabGet []
      ({ routed with welt := { replay := [(2, [(5, 0, wpkt 4 77 0 5 [2]), (6, 0, wpkt 4 77 0 5 [1]), (7, 0, wpkt 4 77 0 5 [3])])] } }
      : State).welt.replay (2 : Fin 8)).dropWhile (fun x => x.1 != (6 : BitVec 12).toNat)) ≠ []) ∧
    (({ routed with welt := { queue := [(2, [⟨3, wpkt 5 77 0 5 [1], false, 0⟩, ⟨3, wpkt 4 77 0 5 [1], false, 0⟩])] } } :
      State).inEpisode = false ∧
      (({ routed with welt := { queue := [(2, [⟨3, wpkt 5 77 0 5 [1], false, 0⟩, ⟨3, wpkt 4 77 0 5 [1], false, 0⟩])] } } :
      State).weltUp (2 : Fin 8) = true ∧
      (({ routed with welt := { queue := [(2, [⟨3, wpkt 5 77 0 5 [1], false, 0⟩, ⟨3, wpkt 4 77 0 5 [1], false, 0⟩])] } } :
      State).halted = false ∨
      ({ routed with welt := { queue := [(2, [⟨3, wpkt 5 77 0 5 [1], false, 0⟩, ⟨3, wpkt 4 77 0 5 [1], false, 0⟩])] } } :
      State).flag Fd.DBG_CTL_WELTRUN = true)) ∧ tabGet []
      ({ routed with welt := { queue := [(2, [⟨3, wpkt 5 77 0 5 [1], false, 0⟩, ⟨3, wpkt 4 77 0 5 [1], false, 0⟩])] } } :
      State).welt.resend (2 : Fin 8) = [] ∧
      ({ routed with welt := { queue := [(2, [⟨3, wpkt 5 77 0 5 [1], false, 0⟩, ⟨3, wpkt 4 77 0 5 [1], false, 0⟩])] } } :
      State).weltNext (2 : Fin 8) (4 : BitVec 6).toNat = some (⟨3, wpkt 4 77 0 5 [1], false, 0⟩ : OutP)) ∧
    (({ routed with welt := { queue := [(2, [⟨3, wpkt 5 77 0 5 [1], false, 0⟩])], resend := [(2, [(6, 0, wpkt 4 77 0 5 [1]), (7, 0, wpkt 4 77 0 5 [3])])] } }
      : State).inEpisode = false ∧
      (({ routed with welt := { queue := [(2, [⟨3, wpkt 5 77 0 5 [1], false, 0⟩])], resend := [(2, [(6, 0, wpkt 4 77 0 5 [1]), (7, 0, wpkt 4 77 0 5 [3])])] } }
      : State).weltUp (2 : Fin 8) = true ∧
      (({ routed with welt := { queue := [(2, [⟨3, wpkt 5 77 0 5 [1], false, 0⟩])], resend := [(2, [(6, 0, wpkt 4 77 0 5 [1]), (7, 0, wpkt 4 77 0 5 [3])])] } }
      : State).halted = false ∨
      ({ routed with welt := { queue := [(2, [⟨3, wpkt 5 77 0 5 [1], false, 0⟩])], resend := [(2, [(6, 0, wpkt 4 77 0 5 [1]), (7, 0, wpkt 4 77 0 5 [3])])] } }
      : State).flag Fd.DBG_CTL_WELTRUN = true)) ∧ tabGet []
      ({ routed with welt := { queue := [(2, [⟨3, wpkt 5 77 0 5 [1], false, 0⟩])], resend := [(2, [(6, 0, wpkt 4 77 0 5 [1]), (7, 0, wpkt 4 77 0 5 [3])])] } }
      : State).welt.resend (2 : Fin 8) = ((6, 0, wpkt 4 77 0 5 [1]) : Nat × Nat × WeltPkt) :: ([(7, 0, wpkt 4 77 0 5 [3])] :
      List (Nat × Nat × WeltPkt))) ∧
    (reqRead.inEpisode = false ∧ reqRead.halted = false ∧ reqRead.welt.inbox.find? (fun x => x.pkt.kind == 2#4 && x.pkt.w 0 / 2
      ^ 30 == 0) = some (⟨some 2, wpkt 2 9 0 77 [0x50000, 64, 1], 0⟩ : InP) ∧ (⟨some 2, wpkt 2 9 0 77 [0x50000, 64, 1], 0⟩ :
      InP).port = some (2 : Nat) ∧
      ({ reqRead with welt := { reqRead.welt with inbox := dropOne (⟨some 2, wpkt 2 9 0 77 [0x50000, 64, 1], 0⟩ : InP) reqRead.welt.inbox } }
      : State).serveRead 0x18 0 ((⟨some 2, wpkt 2 9 0 77 [0x50000, 64, 1], 0⟩ : InP).pkt.w 1 % 2 ^ 28) ((⟨some 2, wpkt 2 9 0 77
      [0x50000, 64, 1], 0⟩ : InP).pkt.w 2 % 65536) ((⟨some 2, wpkt 2 9 0 77 [0x50000, 64, 1], 0⟩ : InP).pkt.w 2) ((⟨some 2, wpkt
      2 9 0 77 [0x50000, 64, 1], 0⟩ : InP).pkt.w 3 % 65536) (⟨[], []⟩ : Env).ends = some
      (((match ({ reqRead with welt := { reqRead.welt with inbox := [] } } : State).serveRead 0x18 0 64 1 1 0 [] with | some x => x.1 | none => live)
      : State), (0 : Nat), (List.replicate 64 0 : List Nat))) ∧
    (ownRead.inEpisode = false ∧ ownRead.halted = false ∧ ownRead.welt.inbox.find? (fun x => x.pkt.kind == 2#4 && x.pkt.w 0 / 2
      ^ 30 == 0) = some (⟨none, wpkt 2 9 0 9 [0x50000, 64, 1], 0⟩ : InP) ∧ (⟨none, wpkt 2 9 0 9 [0x50000, 64, 1], 0⟩ : InP).port
      = none ∧ ownRead.reqTag (nbits ((⟨none, wpkt 2 9 0 9 [0x50000, 64, 1], 0⟩ : InP).pkt.w 0) 29 16) = some (⟨5, .bus 0x1C,
      77, 0, 64, 1, 0, 0, none, 0⟩ : RemReq) ∧ (⟨5, .bus 0x1C, 77, 0, 64, 1, 0, 0, none, 0⟩ : RemReq).who = .bus (0x1C : Nat) ∧
      (⟨5, .bus 0x1C, 77, 0, 64, 1, 0, 0, none, 0⟩ : RemReq).ans = none ∧
      ({ ownRead with welt := { ownRead.welt with inbox := dropOne (⟨none, wpkt 2 9 0 9 [0x50000, 64, 1], 0⟩ : InP) ownRead.welt.inbox } }
      : State).serveRead (⟨5, .bus 0x1C, 77, 0, 64, 1, 0, 0, none, 0⟩ : RemReq).master 0 ((⟨none, wpkt 2 9 0 9 [0x50000, 64, 1],
      0⟩ : InP).pkt.w 1 % 2 ^ 28) ((⟨none, wpkt 2 9 0 9 [0x50000, 64, 1], 0⟩ : InP).pkt.w 2 % 65536) ((⟨none, wpkt 2 9 0 9
      [0x50000, 64, 1], 0⟩ : InP).pkt.w 2) ((⟨none, wpkt 2 9 0 9 [0x50000, 64, 1], 0⟩ : InP).pkt.w 3 % 65536) (⟨[], []⟩ :
      Env).ends = some
      (((match ({ ownRead with welt := { ownRead.welt with inbox := [] } } : State).serveRead 0x1C 0 64 1 1 0 [] with | some x => x.1 | none => live)
      : State), (0 : Nat), (List.replicate 64 0 : List Nat))) ∧
    (reqTile.inEpisode = false ∧ reqTile.halted = false ∧ reqTile.welt.inbox.find? (fun x => x.pkt.kind == 2#4 && x.pkt.w 0 / 2
      ^ 30 == 2) = some (⟨some 2, wpkt 2 9 0 77 [0x80050000, 64, 0x800001, 1], 0⟩ : InP) ∧ (⟨some 2, wpkt 2 9 0 77 [0x80050000,
      64, 0x800001, 1], 0⟩ : InP).port = some (2 : Nat) ∧
      ({ reqTile with welt := { reqTile.welt with inbox := dropOne (⟨some 2, wpkt 2 9 0 77 [0x80050000, 64, 0x800001, 1], 0⟩ : InP) reqTile.welt.inbox } }
      : State).serveRead 0x18 2 ((⟨some 2, wpkt 2 9 0 77 [0x80050000, 64, 0x800001, 1], 0⟩ : InP).pkt.w 1 % 2 ^ 28) ((⟨some 2,
      wpkt 2 9 0 77 [0x80050000, 64, 0x800001, 1], 0⟩ : InP).pkt.w 2 % 65536) ((⟨some 2, wpkt 2 9 0 77 [0x80050000, 64,
      0x800001, 1], 0⟩ : InP).pkt.w 2) ((⟨some 2, wpkt 2 9 0 77 [0x80050000, 64, 0x800001, 1], 0⟩ : InP).pkt.w 3 % 65536) (⟨[],
      []⟩ : Env).ends = some
      (((match ({ reqTile with welt := { reqTile.welt with inbox := [] } } : State).serveRead 0x18 2 64 1 0x800001 1 [] with | some x => x.1 | none => live)
      : State), (0 : Nat), (List.replicate 128 0 : List Nat))) ∧
    ((inbox gddrUp 2 (wpkt 2 9 0 77 [0x40050000, 64, 0xF0F, 0x12345678, 2, 0x9ABC, 4, 5, 6, 7, 8]) 0 : State).inEpisode = false
      ∧ (inbox gddrUp 2 (wpkt 2 9 0 77 [0x40050000, 64, 0xF0F, 0x12345678, 2, 0x9ABC, 4, 5, 6, 7, 8]) 0 : State).halted = false
      ∧ (inbox gddrUp 2 (wpkt 2 9 0 77 [0x40050000, 64, 0xF0F, 0x12345678, 2, 0x9ABC, 4, 5, 6, 7, 8]) 0 :
      State).welt.inbox.find? (fun x => x.pkt.kind == 2#4 && x.pkt.w 0 / 2 ^ 30 == 1) = some (⟨some 2, wpkt 2 9 0 77
      [0x40050000, 64, 0xF0F, 0x12345678, 2, 0x9ABC, 4, 5, 6, 7, 8], 0⟩ : InP) ∧ (⟨some 2, wpkt 2 9 0 77 [0x40050000, 64, 0xF0F,
      0x12345678, 2, 0x9ABC, 4, 5, 6, 7, 8], 0⟩ : InP).port = some (2 : Nat) ∧ (inbox gddrUp 2 (wpkt 2 9 0 77 [0x40050000, 64,
      0xF0F, 0x12345678, 2, 0x9ABC, 4, 5, 6, 7, 8]) 0 : State).trusted (2 : Nat) = true ∧ (inbox gddrUp 2 (wpkt 2 9 0 77
      [0x40050000, 64, 0xF0F, 0x12345678, 2, 0x9ABC, 4, 5, 6, 7, 8]) 0 : State).flag Fd.WELT_APCFG_RO = false ∧ (inbox gddrUp 2
      (wpkt 2 9 0 77 [0x40050000, 64, 0xF0F, 0x12345678, 2, 0x9ABC, 4, 5, 6, 7, 8]) 0 : State).apAcc ((⟨some 2, wpkt 2 9 0 77
      [0x40050000, 64, 0xF0F, 0x12345678, 2, 0x9ABC, 4, 5, 6, 7, 8], 0⟩ : InP).pkt.w 1 % 2 ^ 28) = .ok ∧ ((inbox gddrUp 2 (wpkt
      2 9 0 77 [0x40050000, 64, 0xF0F, 0x12345678, 2, 0x9ABC, 4, 5, 6, 7, 8]) 0 : State).burst ((inbox gddrUp 2 (wpkt 2 9 0 77
      [0x40050000, 64, 0xF0F, 0x12345678, 2, 0x9ABC, 4, 5, 6, 7, 8]) 0 : State).apAddr ((⟨some 2, wpkt 2 9 0 77 [0x40050000, 64,
      0xF0F, 0x12345678, 2, 0x9ABC, 4, 5, 6, 7, 8], 0⟩ : InP).pkt.w 1 % 2 ^ 28) / 64 * 64) 0x18 ((⟨[], []⟩ : Env).ends.headD
      .clean)).2 = true) ∧
    ((inbox (withReq routed 0x1C) 2 (wpkt 3 9 0 77 (0x50001 :: List.replicate 16 7)) 0 : State).inEpisode = false ∧ (inbox
      (withReq routed 0x1C) 2 (wpkt 3 9 0 77 (0x50001 :: List.replicate 16 7)) 0 : State).halted = false ∧ (inbox (withReq
      routed 0x1C) 2 (wpkt 3 9 0 77 (0x50001 :: List.replicate 16 7)) 0 : State).welt.inbox.find? (fun j => j.pkt.kind == 3#4 &&
      j.pkt.first) = some (⟨some 2, wpkt 3 9 0 77 (0x50001 :: List.replicate 16 7), 0⟩ : InP) ∧ (ansPackets (((inbox (withReq
      routed 0x1C) 2 (wpkt 3 9 0 77 (0x50001 :: List.replicate 16 7)) 0 : State).welt.inbox.filter (fun j => j.pkt.kind == 3#4
      && j.pkt.src == (⟨some 2, wpkt 3 9 0 77 (0x50001 :: List.replicate 16 7), 0⟩ : InP).pkt.src)).dropWhile (fun j =>
      !j.pkt.first))).any (fun j => j.pkt.last) = true ∧ (inbox (withReq routed 0x1C) 2 (wpkt 3 9 0 77 (0x50001 ::
      List.replicate 16 7)) 0 : State).reqTag (nbits ((((ansPackets (((inbox (withReq routed 0x1C) 2 (wpkt 3 9 0 77 (0x50001 ::
      List.replicate 16 7)) 0 : State).welt.inbox.filter (fun j => j.pkt.kind == 3#4 && j.pkt.src == (⟨some 2, wpkt 3 9 0 77
      (0x50001 :: List.replicate 16 7), 0⟩ : InP).pkt.src)).dropWhile (fun j => !j.pkt.first))).map (fun j => j.pkt.payload.map
      (fun v => v.toNat))).flatten).headD 0) 29 16) = some (⟨5, .bus 0x1C, 77, 0, 64, 1, 0, 0, none, 0⟩ : RemReq) ∧ (⟨5, .bus
      0x1C, 77, 0, 64, 1, 0, 0, none, 0⟩ : RemReq).dev = (⟨some 2, wpkt 3 9 0 77 (0x50001 :: List.replicate 16 7), 0⟩ :
      InP).pkt.src.toNat ∧ (⟨5, .bus 0x1C, 77, 0, 64, 1, 0, 0, none, 0⟩ : RemReq).who = .bus (0x1C : Nat) ∧ (⟨5, .bus 0x1C, 77,
      0, 64, 1, 0, 0, none, 0⟩ : RemReq).ans = none) ∧
    (({ withReq routed 0x1C with time := { now := 200000000 } } : State).inEpisode = false ∧
      ({ withReq routed 0x1C with time := { now := 200000000 } } : State).reqTag (5 : Fin 65536) = some (⟨5, .bus 0x1C, 77, 0,
      64, 1, 0, 0, none, 0⟩ : RemReq) ∧ ((⟨5, .bus 0x1C, 77, 0, 64, 1, 0, 0, none, 0⟩ : RemReq).who = .bus (0x1C : Nat) ∧ ((0x1C
      : Nat) < 256 ∨ 288 ≤ (0x1C : Nat)) ∧ (⟨5, .bus 0x1C, 77, 0, 64, 1, 0, 0, none, 0⟩ : RemReq).ans = none) ∧ 125 * max 1
      (({ withReq routed 0x1C with time := { now := 200000000 } } : State).get Fd.WELT_TSCFG_TIMEOUT) ≤ 2 *
      ((({ withReq routed 0x1C with time := { now := 200000000 } } : State).time.now + 2 ^ 56 - (⟨5, .bus 0x1C, 77, 0, 64, 1, 0,
      0, none, 0⟩ : RemReq).sent) % 2 ^ 56)) := by
  iterate 11 refine And.intro (by decide +kernel) ?_
  decide +kernel

/-- Hypotheses of FabricTimeComplete. -/
theorem witness_FabricTimeComplete :
    (follower.inEpisode = false ∧ nbit (follower.get Fd.WELT_TIMECTL_DOWNEN) (2 : Fin 8) = true ∧ follower.weltUp (2 : Fin 8) =
      true ∧ follower.fenced uSwitch = false) ∧
    (follower.inEpisode = false ∧ follower.timeFollows = true ∧ follower.weltUp (follower.get Fd.WELT_TIMECTL_UPPORT) = true ∧
      follower.fenced uSwitch = false) ∧
    ((inbox follower 2 (wpkt 1 0 1 77 [0x40000000, 0, 0, 0]) 700 : State).inEpisode = false ∧ ((inbox follower 2 (wpkt 1 0 1 77
      [0x40000000, 0, 0, 0]) 700 : State).halted = false ∨ (inbox follower 2 (wpkt 1 0 1 77 [0x40000000, 0, 0, 0]) 700 :
      State).flag Fd.DBG_CTL_WELTRUN = true) ∧ (inbox follower 2 (wpkt 1 0 1 77 [0x40000000, 0, 0, 0]) 700 :
      State).welt.inbox.find? (fun j => j.pkt.kind == 1#4 && j.pkt.w 0 / 2 ^ 30 == 1) = some (⟨some 2, wpkt 1 0 1 77
      [0x40000000, 0, 0, 0], 700⟩ : InP) ∧ (⟨some 2, wpkt 1 0 1 77 [0x40000000, 0, 0, 0], 700⟩ : InP).port = some (2 : Fin
      8).val ∧ (inbox follower 2 (wpkt 1 0 1 77 [0x40000000, 0, 0, 0]) 700 : State).weltUp (2 : Fin 8) = true) ∧
    (({ inbox follower 2 (wpkt 1 0 1 77 [0x80000000, 0, 0, 0x10]) 700 with welt := { (inbox follower 2 (wpkt 1 0 1 77 [0x80000000, 0, 0, 0x10]) 700).welt with t1 := some 5 } }
      : State).inEpisode = false ∧
      (({ inbox follower 2 (wpkt 1 0 1 77 [0x80000000, 0, 0, 0x10]) 700 with welt := { (inbox follower 2 (wpkt 1 0 1 77 [0x80000000, 0, 0, 0x10]) 700).welt with t1 := some 5 } }
      : State).halted = false ∨
      ({ inbox follower 2 (wpkt 1 0 1 77 [0x80000000, 0, 0, 0x10]) 700 with welt := { (inbox follower 2 (wpkt 1 0 1 77 [0x80000000, 0, 0, 0x10]) 700).welt with t1 := some 5 } }
      : State).flag Fd.DBG_CTL_WELTRUN = true) ∧
      ({ inbox follower 2 (wpkt 1 0 1 77 [0x80000000, 0, 0, 0x10]) 700 with welt := { (inbox follower 2 (wpkt 1 0 1 77 [0x80000000, 0, 0, 0x10]) 700).welt with t1 := some 5 } }
      : State).timeFollows = true ∧
      ({ inbox follower 2 (wpkt 1 0 1 77 [0x80000000, 0, 0, 0x10]) 700 with welt := { (inbox follower 2 (wpkt 1 0 1 77 [0x80000000, 0, 0, 0x10]) 700).welt with t1 := some 5 } }
      : State).welt.inbox.find? (fun j => j.pkt.kind == 1#4 && j.pkt.w 0 / 2 ^ 30 == 2) = some (⟨some 2, wpkt 1 0 1 77
      [0x80000000, 0, 0, 0x10], 700⟩ : InP) ∧ (⟨some 2, wpkt 1 0 1 77 [0x80000000, 0, 0, 0x10], 700⟩ : InP).port = some
      (({ inbox follower 2 (wpkt 1 0 1 77 [0x80000000, 0, 0, 0x10]) 700 with welt := { (inbox follower 2 (wpkt 1 0 1 77 [0x80000000, 0, 0, 0x10]) 700).welt with t1 := some 5 } }
      : State).get Fd.WELT_TIMECTL_UPPORT) ∧
      ({ inbox follower 2 (wpkt 1 0 1 77 [0x80000000, 0, 0, 0x10]) 700 with welt := { (inbox follower 2 (wpkt 1 0 1 77 [0x80000000, 0, 0, 0x10]) 700).welt with t1 := some 5 } }
      : State).welt.t1 = some (5 : Nat)) ∧
    ((inbox follower 2 (wpkt 1 0 1 77 [0x4000010, 0, 0, 0]) 700 : State).inEpisode = false ∧ ((inbox follower 2 (wpkt 1 0 1 77
      [0x4000010, 0, 0, 0]) 700 : State).halted = false ∨ (inbox follower 2 (wpkt 1 0 1 77 [0x4000010, 0, 0, 0]) 700 :
      State).flag Fd.DBG_CTL_WELTRUN = true) ∧ (inbox follower 2 (wpkt 1 0 1 77 [0x4000010, 0, 0, 0]) 700 : State).timeFollows =
      true ∧ (inbox follower 2 (wpkt 1 0 1 77 [0x4000010, 0, 0, 0]) 700 : State).welt.inbox.find? (fun j => j.pkt.kind == 1#4 &&
      j.pkt.w 0 / 2 ^ 30 == 0) = some (⟨some 2, wpkt 1 0 1 77 [0x4000010, 0, 0, 0], 700⟩ : InP) ∧ (⟨some 2, wpkt 1 0 1 77
      [0x4000010, 0, 0, 0], 700⟩ : InP).port = some ((inbox follower 2 (wpkt 1 0 1 77 [0x4000010, 0, 0, 0]) 700 : State).get
      Fd.WELT_TIMECTL_UPPORT)) ∧
    (({ follower.set Fd.WELT_TIMESTAT_STATE 2 with welt := { syncAt := some 5 }, time := { now := 65541 } } : State).inEpisode =
      false ∧ ({ follower.set Fd.WELT_TIMESTAT_STATE 2 with welt := { syncAt := some 5 }, time := { now := 65541 } } :
      State).domOn 12 = true ∧
      ({ follower.set Fd.WELT_TIMESTAT_STATE 2 with welt := { syncAt := some 5 }, time := { now := 65541 } } :
      State).timeFollows = true ∧
      ({ follower.set Fd.WELT_TIMESTAT_STATE 2 with welt := { syncAt := some 5 }, time := { now := 65541 } } :
      State).welt.syncAt = some (5 : Nat) ∧ 2 ^ 16 ≤
      (({ follower.set Fd.WELT_TIMESTAT_STATE 2 with welt := { syncAt := some 5 }, time := { now := 65541 } } : State).time.now
      + 2 ^ 56 - (5 : Nat)) % 2 ^ 56 ∧
      (({ follower.set Fd.WELT_TIMESTAT_STATE 2 with welt := { syncAt := some 5 }, time := { now := 65541 } } : State).get
      Fd.WELT_TIMESTAT_STATE = 1 ∨
      ({ follower.set Fd.WELT_TIMESTAT_STATE 2 with welt := { syncAt := some 5 }, time := { now := 65541 } } : State).get
      Fd.WELT_TIMESTAT_STATE = 2)) := by
  iterate 5 refine And.intro (by decide +kernel) ?_
  decide +kernel

/-- Hypotheses of WeltReceiversComplete. -/
theorem witness_WeltReceiversComplete :
    (prxState.inEpisode = false ∧ prxState.halted = false ∧ prxState.welt.inbox.find? (fun j => j.pkt.kind == 4#4) = some (⟨some
      2, wpkt 4 9 70 77 [0, 1, 5, 6], 0⟩ : InP) ∧ prxState.fenced (uPrx (prxState.fcBind ((⟨some 2, wpkt 4 9 70 77 [0, 1, 5, 6],
      0⟩ : InP).pkt.dflow.toNat) % 4)) = false ∧ prxState.flag (Fd.WELT_PRX_CFG_EN (prxState.fcBind ((⟨some 2, wpkt 4 9 70 77
      [0, 1, 5, 6], 0⟩ : InP).pkt.dflow.toNat) % 4)) = true ∧ (busOf
      ({ prxState with welt := { prxState.welt with inbox := dropOne (⟨some 2, wpkt 4 9 70 77 [0, 1, 5, 6], 0⟩ : InP) prxState.welt.inbox } })
      (⟨[], []⟩ : Env)).picWrites { masterWho 0x18 with regs := false }
      (({ prxState with welt := { prxState.welt with inbox := dropOne (⟨some 2, wpkt 4 9 70 77 [0, 1, 5, 6], 0⟩ : InP) prxState.welt.inbox } }).prxWrites
      (prxState.fcBind ((⟨some 2, wpkt 4 9 70 77 [0, 1, 5, 6], 0⟩ : InP).pkt.dflow.toNat) % 4) (⟨some 2, wpkt 4 9 70 77 [0, 1,
      5, 6], 0⟩ : InP).pkt) = .ok ([] : List Nat) (false : Bool) ((busOf
      ({ prxState with welt := { prxState.welt with inbox := [] } }) ⟨[], []⟩) : Bus)) ∧
    (((((inbox routed 2 (wpkt 5 9 70 77 (0x40100003 :: List.replicate 32 256)) 0).set (Fd.FC1_BIND 70) 2).set
      (Fd.AUD_RX_STAT_STATE 2) 1) : State).inEpisode = false ∧ ((((inbox routed 2 (wpkt 5 9 70 77 (0x40100003 :: List.replicate
      32 256)) 0).set (Fd.FC1_BIND 70) 2).set (Fd.AUD_RX_STAT_STATE 2) 1) : State).halted = false ∧ ((((inbox routed 2 (wpkt 5 9
      70 77 (0x40100003 :: List.replicate 32 256)) 0).set (Fd.FC1_BIND 70) 2).set (Fd.AUD_RX_STAT_STATE 2) 1) :
      State).welt.inbox.find? (fun j => j.pkt.kind == 5#4) = some (⟨some 2, wpkt 5 9 70 77 (0x40100003 :: List.replicate 32
      256), 0⟩ : InP) ∧ ((((inbox routed 2 (wpkt 5 9 70 77 (0x40100003 :: List.replicate 32 256)) 0).set (Fd.FC1_BIND 70) 2).set
      (Fd.AUD_RX_STAT_STATE 2) 1) : State).get (Fd.AUD_RX_STAT_STATE (((((inbox routed 2 (wpkt 5 9 70 77 (0x40100003 ::
      List.replicate 32 256)) 0).set (Fd.FC1_BIND 70) 2).set (Fd.AUD_RX_STAT_STATE 2) 1) : State).fcBind (⟨some 2, wpkt 5 9 70
      77 (0x40100003 :: List.replicate 32 256), 0⟩ : InP).pkt.dflow.toNat % 4)) ≠ 0 ∧ ((((inbox routed 2 (wpkt 5 9 70 77
      (0x40100003 :: List.replicate 32 256)) 0).set (Fd.FC1_BIND 70) 2).set (Fd.AUD_RX_STAT_STATE 2) 1) : State).domOn 17 = true
      ∧ (((((inbox routed 2 (wpkt 5 9 70 77 (0x40100003 :: List.replicate 32 256)) 0).set (Fd.FC1_BIND 70) 2).set
      (Fd.AUD_RX_STAT_STATE 2) 1) : State).audRx (((((inbox routed 2 (wpkt 5 9 70 77 (0x40100003 :: List.replicate 32 256))
      0).set (Fd.FC1_BIND 70) 2).set (Fd.AUD_RX_STAT_STATE 2) 1) : State).fcBind (⟨some 2, wpkt 5 9 70 77 (0x40100003 ::
      List.replicate 32 256), 0⟩ : InP).pkt.dflow.toNat % 4)).half = none) ∧
    ((((inbox routed 2 (wpkt 6 9 70 77 (0x40100003 :: List.replicate 32 256)) 0).set (Fd.FC1_BIND 70) 1) : State).inEpisode =
      false ∧ (((inbox routed 2 (wpkt 6 9 70 77 (0x40100003 :: List.replicate 32 256)) 0).set (Fd.FC1_BIND 70) 1) :
      State).halted = false ∧ (((inbox routed 2 (wpkt 6 9 70 77 (0x40100003 :: List.replicate 32 256)) 0).set (Fd.FC1_BIND 70)
      1) : State).welt.inbox.find? (fun j => j.pkt.kind == 6#4) = some (⟨some 2, wpkt 6 9 70 77 (0x40100003 :: List.replicate 32
      256), 0⟩ : InP) ∧ ((⟨some 2, wpkt 6 9 70 77 (0x40100003 :: List.replicate 32 256), 0⟩ : InP).pkt.len.toNat ≠ 32 ∨ ((⟨some
      2, wpkt 6 9 70 77 (0x40100003 :: List.replicate 32 256), 0⟩ : InP).pkt.payload.map (fun w => w.toNat)).headD 0 / 2 ^ 16 ≠
      0x5348)) ∧
    (senseState.inEpisode = false ∧ senseState.halted = false ∧ senseState.welt.inbox.find? (fun j => j.pkt.kind == 6#4) = some
      (⟨some 2, wpkt 6 9 70 77 (0x53480003 :: List.replicate 31 256), 0⟩ : InP) ∧ (⟨some 2, wpkt 6 9 70 77 (0x53480003 ::
      List.replicate 31 256), 0⟩ : InP).pkt.len.toNat = 32 ∧ ((⟨some 2, wpkt 6 9 70 77 (0x53480003 :: List.replicate 31 256), 0⟩
      : InP).pkt.payload.map (fun w => w.toNat)).headD 0 / 2 ^ 16 = 0x5348 ∧ (busOf
      ({ senseState with welt := { senseState.welt with inbox := dropOne (⟨some 2, wpkt 6 9 70 77 (0x53480003 :: List.replicate 31 256), 0⟩ : InP) senseState.welt.inbox } })
      (⟨[], []⟩ : Env)).ringReport (senseState.get (Fd.INS_SRX_BASE_ADDR (senseState.fcBind (⟨some 2, wpkt 6 9 70 77 (0x53480003
      :: List.replicate 31 256), 0⟩ : InP).pkt.dflow.toNat % 2)) * 4096) ((⟨some 2, wpkt 6 9 70 77 (0x53480003 :: List.replicate
      31 256), 0⟩ : InP).pkt.payload.map (fun w => w.toNat)) 0 4 = .ok ([] : List Nat) (false : Bool)
      ((match (busOf ({ senseState with welt := { senseState.welt with inbox := [] } }) ⟨[], []⟩).ringReport 0x7FFF010000 (0x53480003 :: List.replicate 31 256) 0 4 with | .ok _ _ x => x | _ => (busOf live ⟨[], []⟩))
      : Bus)) := by
  iterate 3 refine And.intro (by decide +kernel) ?_
  decide +kernel

/-- Hypotheses of LaceChannelsComplete. -/
theorem witness_LaceChannelsComplete :
    ((laceWith ⟨0x7FFF000000, [], 0, [], [], 0, none, none⟩ : State).laceRuns (3 : Fin 32) = true ∧ ((laceWith ⟨0x7FFF000000,
      [], 0, [], [], 0, none, none⟩ : State).lace (3 : Fin 32)).desc = [] ∧ (laceWith ⟨0x7FFF000000, [], 0, [], [], 0, none,
      none⟩ : State).get (Fd.LACE_CH_STAT_DCOUNT (3 : Fin 32)) < max 1 ((laceWith ⟨0x7FFF000000, [], 0, [], [], 0, none, none⟩ :
      State).get (Fd.LACE_CH_MAXDESC_MAXDESC (3 : Fin 32))) ∧ inRegs ((laceWith ⟨0x7FFF000000, [], 0, [], [], 0, none, none⟩ :
      State).lace (3 : Fin 32)).next = false ∧ (busOf (laceWith ⟨0x7FFF000000, [], 0, [], [], 0, none, none⟩ : State) (⟨[], []⟩
      : Env)).read (laceWho (3 : Fin 32)) ((laceWith ⟨0x7FFF000000, [], 0, [], [], 0, none, none⟩ : State).lace (3 : Fin
      32)).next 64 = .ok (okData ((busOf (laceWith ⟨0x7FFF000000, [], 0, [], [], 0, none, none⟩) ⟨[], []⟩).read (laceWho 3)
      0x7FFF000000 64) : List Nat) (okBus ((busOf (laceWith ⟨0x7FFF000000, [], 0, [], [], 0, none, none⟩) ⟨[], []⟩).read
      (laceWho 3) 0x7FFF000000 64) : Bus) ∧
      ({ desc := granuleWords (okData ((busOf (laceWith ⟨0x7FFF000000, [], 0, [], [], 0, none, none⟩) ⟨[], []⟩).read (laceWho 3) 0x7FFF000000 64) : List Nat) }
      : LaceS).bad = false) ∧
    ((laceWith ⟨0x7FFF000000, laceCopy, 0, [], [], 0, none, none⟩ : State).inEpisode = false ∧ (laceWith ⟨0x7FFF000000,
      laceCopy, 0, [], [], 0, none, none⟩ : State).lacePick = some (3 : Fin 32).val ∧ (((laceWith ⟨0x7FFF000000, laceCopy, 0,
      [], [], 0, none, none⟩ : State).lace (3 : Fin 32)).canRead = true ∧ ((false : Bool) = false ∨ ((laceWith ⟨0x7FFF000000,
      laceCopy, 0, [], [], 0, none, none⟩ : State).lace (3 : Fin 32)).canWrite = false)) ∧ ((laceWith ⟨0x7FFF000000, laceCopy,
      0, [], [], 0, none, none⟩ : State).lace (3 : Fin 32)).needsRead ((laceWith ⟨0x7FFF000000, laceCopy, 0, [], [], 0, none,
      none⟩ : State).lace (3 : Fin 32)).re = true ∧ (inRegs (((laceWith ⟨0x7FFF000000, laceCopy, 0, [], [], 0, none, none⟩ :
      State).lace (3 : Fin 32)).src ((laceWith ⟨0x7FFF000000, laceCopy, 0, [], [], 0, none, none⟩ : State).lace (3 : Fin
      32)).re) = false ∨ ((laceWith ⟨0x7FFF000000, laceCopy, 0, [], [], 0, none, none⟩ : State).lace (3 : Fin 32)).esize = 4)) ∧
    ((laceWith ⟨0x7FFF000000, laceCopy, 2, [], [laceGranule], 0, none, none⟩ : State).inEpisode = false ∧ (laceWith
      ⟨0x7FFF000000, laceCopy, 2, [], [laceGranule], 0, none, none⟩ : State).lacePick = some (3 : Fin 32).val ∧ (((laceWith
      ⟨0x7FFF000000, laceCopy, 2, [], [laceGranule], 0, none, none⟩ : State).lace (3 : Fin 32)).canWrite = true ∧ (laceWith
      ⟨0x7FFF000000, laceCopy, 2, [], [laceGranule], 0, none, none⟩ : State).laceOut (3 : Fin 32) ≠ some 0 ∧ ((true : Bool) =
      true ∨ ((laceWith ⟨0x7FFF000000, laceCopy, 2, [], [laceGranule], 0, none, none⟩ : State).lace (3 : Fin 32)).canRead =
      false)) ∧ (((laceWith ⟨0x7FFF000000, laceCopy, 2, [], [laceGranule], 0, none, none⟩ : State).lace (3 : Fin 32)).gather
      64).due = .beat ∧ (((laceWith ⟨0x7FFF000000, laceCopy, 2, [], [laceGranule], 0, none, none⟩ : State).lace (3 : Fin
      32)).gather 64).beat = some ((0x7FFF020000 : Nat), ([(0, 0x78), (1, 0x56), (2, 0x34), (3, 0x12), (4, 0xF0), (5, 0xDE), (6,
      0xBC), (7, 0x9A)] : List (Nat × Nat))) ∧ (busOf ((laceWith ⟨0x7FFF000000, laceCopy, 2, [], [laceGranule], 0, none, none⟩ :
      State).setLace (3 : Fin 32)
      { (((laceWith ⟨0x7FFF000000, laceCopy, 2, [], [laceGranule], 0, none, none⟩ : State).lace (3 : Fin 32)).gather 64) with limit := some ((((laceWith ⟨0x7FFF000000, laceCopy, 2, [], [laceGranule], 0, none, none⟩ : State).lace (3 : Fin 32)).gather 64).limit.getD ((laceWith ⟨0x7FFF000000, laceCopy, 2, [], [laceGranule], 0, none, none⟩ : State).move.clock + 64 * max 1 ((laceWith ⟨0x7FFF000000, laceCopy, 2, [], [laceGranule], 0, none, none⟩ : State).get (Fd.LACE_CH_CTL_TMO (3 : Fin 32))))) })
      (⟨[], []⟩ : Env)).write (laceWho (3 : Fin 32)) (0x7FFF020000 : Nat) (beatBytes ([(0, 0x78), (1, 0x56), (2, 0x34), (3,
      0x12), (4, 0xF0), (5, 0xDE), (6, 0xBC), (7, 0x9A)] : List (Nat × Nat))).1 (beatBytes ([(0, 0x78), (1, 0x56), (2, 0x34),
      (3, 0x12), (4, 0xF0), (5, 0xDE), (6, 0xBC), (7, 0x9A)] : List (Nat × Nat))).2 = .ok ([] : List Nat) (okBus ((busOf
      ((laceWith ⟨0x7FFF000000, laceCopy, 2, [], [laceGranule], 0, none, none⟩).setLace 3
      { ((⟨0x7FFF000000, laceCopy, 2, [], [laceGranule], 0, none, none⟩ : LaceS).gather 64) with limit := some (64 * max 1 ((laceWith ⟨0x7FFF000000, laceCopy, 2, [], [laceGranule], 0, none, none⟩).get (Fd.LACE_CH_CTL_TMO 3))) })
      ⟨[], []⟩).write (laceWho 3) 0x7FFF020000 255 (laceGranule.2.take 32)) : Bus)) ∧
    ((laceWith ⟨0x7FFF000000, laceCopy, 2, [(0x7FFF010000, 9)], [], 0, none, none⟩ : State).laceRuns (3 : Fin 32) = true ∧
      (laceWith ⟨0x7FFF000000, laceCopy, 2, [(0x7FFF010000, 9)], [], 0, none, none⟩ : State).laceOut (3 : Fin 32) ≠ some 1 ∧
      ((laceWith ⟨0x7FFF000000, laceCopy, 2, [(0x7FFF010000, 9)], [], 0, none, none⟩ : State).lace (3 : Fin 32)).out =
      ((0x7FFF010000 : Nat), (9 : Nat)) :: ([] : List (Nat × Nat)) ∧ (busOf (laceWith ⟨0x7FFF000000, laceCopy, 2,
      [(0x7FFF010000, 9)], [], 0, none, none⟩ : State) (⟨[], []⟩ : Env)).read (laceWho (3 : Fin 32)) (0x7FFF010000 : Nat) (if
      inRegs (0x7FFF010000 : Nat) then 4 else 64) = .ok (laceGranule.2 : List Nat) (okBus ((busOf (laceWith ⟨0x7FFF000000,
      laceCopy, 2, [(0x7FFF010000, 9)], [], 0, none, none⟩) ⟨[], []⟩).read (laceWho 3) 0x7FFF010000 64) : Bus)) ∧
    ((laceWith ⟨0x7FFF000000, laceCopy, 2, [], [], 2, none, none⟩ : State).laceRuns (3 : Fin 32) = true ∧ ((laceWith
      ⟨0x7FFF000000, laceCopy, 2, [], [], 2, none, none⟩ : State).lace (3 : Fin 32)).finished = true ∧ nbit (((laceWith
      ⟨0x7FFF000000, laceCopy, 2, [], [], 2, none, none⟩ : State).lace (3 : Fin 32)).w 11) 0 = true) ∧
    ((laceWith ⟨0x7FFF000000, laceCopy.take 11, 2, [], [], 2, none, none⟩ : State).laceRuns (3 : Fin 32) = true ∧ ((laceWith
      ⟨0x7FFF000000, laceCopy.take 11, 2, [], [], 2, none, none⟩ : State).lace (3 : Fin 32)).finished = true ∧ nbit (((laceWith
      ⟨0x7FFF000000, laceCopy.take 11, 2, [], [], 2, none, none⟩ : State).lace (3 : Fin 32)).w 11) 0 = false) ∧
    (({ laceWith ⟨0x7FFF000000, laceCopy, 2, [(0x7FFF010000, 9)], [], 0, none, none⟩ with move := { (laceWith ⟨0x7FFF000000, laceCopy, 2, [(0x7FFF010000, 9)], [], 0, none, none⟩).move with clock := 9 } }
      : State).laceRuns (3 : Fin 32) = true ∧
      ((({ laceWith ⟨0x7FFF000000, laceCopy, 2, [(0x7FFF010000, 9)], [], 0, none, none⟩ with move := { (laceWith ⟨0x7FFF000000, laceCopy, 2, [(0x7FFF010000, 9)], [], 0, none, none⟩).move with clock := 9 } }
      : State).lace (3 : Fin 32)).limit.any (fun x => decide (x ≤
      ({ laceWith ⟨0x7FFF000000, laceCopy, 2, [(0x7FFF010000, 9)], [], 0, none, none⟩ with move := { (laceWith ⟨0x7FFF000000, laceCopy, 2, [(0x7FFF010000, 9)], [], 0, none, none⟩).move with clock := 9 } }
      : State).move.clock)) = true ∨
      (({ laceWith ⟨0x7FFF000000, laceCopy, 2, [(0x7FFF010000, 9)], [], 0, none, none⟩ with move := { (laceWith ⟨0x7FFF000000, laceCopy, 2, [(0x7FFF010000, 9)], [], 0, none, none⟩).move with clock := 9 } }
      : State).lace (3 : Fin 32)).out.any (fun x => decide (x.2 ≤
      ({ laceWith ⟨0x7FFF000000, laceCopy, 2, [(0x7FFF010000, 9)], [], 0, none, none⟩ with move := { (laceWith ⟨0x7FFF000000, laceCopy, 2, [(0x7FFF010000, 9)], [], 0, none, none⟩).move with clock := 9 } }
      : State).move.clock)) = true)) := by
  iterate 6 refine And.intro (by decide +kernel) ?_
  decide +kernel

/-- Hypotheses of SkiverListsComplete. -/
theorem witness_SkiverListsComplete :
    ((skWith ⟨0x7FFF000000, [], false, none⟩ : State).skiverRuns = true ∧ ((skWith ⟨0x7FFF000000, [], false, none⟩ :
      State).skiver).cmd = [] ∧ (skWith ⟨0x7FFF000000, [], false, none⟩ : State).get Fd.SKIVER_CMDCNT_COUNT < max 1 ((skWith
      ⟨0x7FFF000000, [], false, none⟩ : State).get Fd.SKIVER_MAXCMD_MAXCMD) ∧ (busOf (skWith ⟨0x7FFF000000, [], false, none⟩ :
      State) (⟨[], []⟩ : Env)).read skiverWho ((skWith ⟨0x7FFF000000, [], false, none⟩ : State).skiver).next 64 = .ok (okData
      ((busOf (skWith ⟨0x7FFF000000, [], false, none⟩) ⟨[], []⟩).read skiverWho 0x7FFF000000 64) : List Nat) (okBus ((busOf
      (skWith ⟨0x7FFF000000, [], false, none⟩) ⟨[], []⟩).read skiverWho 0x7FFF000000 64) : Bus) ∧ (okBus ((busOf (skWith
      ⟨0x7FFF000000, [], false, none⟩) ⟨[], []⟩).read skiverWho 0x7FFF000000 64) : Bus).s.skiver = ((skWith ⟨0x7FFF000000, [],
      false, none⟩ : State).skiver) ∧ (okBus ((busOf (skWith ⟨0x7FFF000000, [], false, none⟩) ⟨[], []⟩).read skiverWho
      0x7FFF000000 64) : Bus).s.skBad
      { next := ((skWith ⟨0x7FFF000000, [], false, none⟩ : State).skiver).next, cmd := granuleWords (okData ((busOf (skWith ⟨0x7FFF000000, [], false, none⟩) ⟨[], []⟩).read skiverWho 0x7FFF000000 64) : List Nat) }
      = false) ∧
    ((skWith ⟨0x7FFF000000, skCopyCmd 1, false, none⟩ : State).skiverAt 1 = true ∧ ((skWith ⟨0x7FFF000000, skCopyCmd 1, false,
      none⟩ : State).skiver).overlapBad = false ∧ (busOf (skWith ⟨0x7FFF000000, skCopyCmd 1, false, none⟩ : State).skiverIssue
      (⟨[], []⟩ : Env)).skRows ((skWith ⟨0x7FFF000000, skCopyCmd 1, false, none⟩ : State).skiver) ((skWith ⟨0x7FFF000000,
      skCopyCmd 1, false, none⟩ : State).skiver).rows = .ok ([] : List Nat) (skBus ((busOf ((skWith ⟨0x7FFF000000, skCopyCmd 1,
      false, none⟩).skiverIssue) ⟨[], []⟩).skRows ⟨0x7FFF000000, skCopyCmd 1, false, none⟩ [0]) : Bus) ∧ (skBus ((busOf ((skWith
      ⟨0x7FFF000000, skCopyCmd 1, false, none⟩).skiverIssue) ⟨[], []⟩).skRows ⟨0x7FFF000000, skCopyCmd 1, false, none⟩ [0]) :
      Bus).s.skiverState = 1 ∧ (skBus ((busOf ((skWith ⟨0x7FFF000000, skCopyCmd 1, false, none⟩).skiverIssue) ⟨[], []⟩).skRows
      ⟨0x7FFF000000, skCopyCmd 1, false, none⟩ [0]) : Bus).s.skiver = (skWith ⟨0x7FFF000000, skCopyCmd 1, false, none⟩ :
      State).skiverIssue.skiver) ∧
    ((skWith ⟨0x7FFF000000, skFillCmd, false, none⟩ : State).skiverAt 2 = true ∧ (busOf (skWith ⟨0x7FFF000000, skFillCmd, false,
      none⟩ : State).skiverIssue (⟨[], []⟩ : Env)).skRows ((skWith ⟨0x7FFF000000, skFillCmd, false, none⟩ : State).skiver)
      (List.range (((skWith ⟨0x7FFF000000, skFillCmd, false, none⟩ : State).skiver).hm1 + 1)) = .ok ([] : List Nat) (skBus
      ((busOf ((skWith ⟨0x7FFF000000, skFillCmd, false, none⟩).skiverIssue) ⟨[], []⟩).skRows ⟨0x7FFF000000, skFillCmd, false,
      none⟩ [0]) : Bus) ∧ (skBus ((busOf ((skWith ⟨0x7FFF000000, skFillCmd, false, none⟩).skiverIssue) ⟨[], []⟩).skRows
      ⟨0x7FFF000000, skFillCmd, false, none⟩ [0]) : Bus).s.skiverState = 1 ∧ (skBus ((busOf ((skWith ⟨0x7FFF000000, skFillCmd,
      false, none⟩).skiverIssue) ⟨[], []⟩).skRows ⟨0x7FFF000000, skFillCmd, false, none⟩ [0]) : Bus).s.skiver = (skWith
      ⟨0x7FFF000000, skFillCmd, false, none⟩ : State).skiverIssue.skiver) ∧
    ((skWith ⟨0x7FFF000000, skCopyCmd 3, false, none⟩ : State).skiverAt 3 = true ∧ ((skWith ⟨0x7FFF000000, skCopyCmd 3, false,
      none⟩ : State).skiver).overlapBad = false ∧ (busOf (skWith ⟨0x7FFF000000, skCopyCmd 3, false, none⟩ : State).skiverIssue
      (⟨[], []⟩ : Env)).skRows ((skWith ⟨0x7FFF000000, skCopyCmd 3, false, none⟩ : State).skiver) ((skWith ⟨0x7FFF000000,
      skCopyCmd 3, false, none⟩ : State).skiver).rows = .ok ([] : List Nat) (skBus ((busOf ((skWith ⟨0x7FFF000000, skCopyCmd 3,
      false, none⟩).skiverIssue) ⟨[], []⟩).skRows ⟨0x7FFF000000, skCopyCmd 3, false, none⟩ [0]) : Bus) ∧ (skBus ((busOf ((skWith
      ⟨0x7FFF000000, skCopyCmd 3, false, none⟩).skiverIssue) ⟨[], []⟩).skRows ⟨0x7FFF000000, skCopyCmd 3, false, none⟩ [0]) :
      Bus).s.skiverState = 1 ∧ (skBus ((busOf ((skWith ⟨0x7FFF000000, skCopyCmd 3, false, none⟩).skiverIssue) ⟨[], []⟩).skRows
      ⟨0x7FFF000000, skCopyCmd 3, false, none⟩ [0]) : Bus).s.skiver = (skWith ⟨0x7FFF000000, skCopyCmd 3, false, none⟩ :
      State).skiverIssue.skiver) ∧
    ((skWith ⟨0x7FFF000000, skCopyCmd 4, false, none⟩ : State).skiverAt 4 = true ∧ ((skWith ⟨0x7FFF000000, skCopyCmd 4, false,
      none⟩ : State).skiver).overlapBad = false ∧ (busOf (skWith ⟨0x7FFF000000, skCopyCmd 4, false, none⟩ : State).skiverIssue
      (⟨[], []⟩ : Env)).skRows ((skWith ⟨0x7FFF000000, skCopyCmd 4, false, none⟩ : State).skiver) ((skWith ⟨0x7FFF000000,
      skCopyCmd 4, false, none⟩ : State).skiver).rows = .ok ([] : List Nat) (skBus ((busOf ((skWith ⟨0x7FFF000000, skCopyCmd 4,
      false, none⟩).skiverIssue) ⟨[], []⟩).skRows ⟨0x7FFF000000, skCopyCmd 4, false, none⟩ [0]) : Bus) ∧ (skBus ((busOf ((skWith
      ⟨0x7FFF000000, skCopyCmd 4, false, none⟩).skiverIssue) ⟨[], []⟩).skRows ⟨0x7FFF000000, skCopyCmd 4, false, none⟩ [0]) :
      Bus).s.skiverState = 1 ∧ (skBus ((busOf ((skWith ⟨0x7FFF000000, skCopyCmd 4, false, none⟩).skiverIssue) ⟨[], []⟩).skRows
      ⟨0x7FFF000000, skCopyCmd 4, false, none⟩ [0]) : Bus).s.skiver = (skWith ⟨0x7FFF000000, skCopyCmd 4, false, none⟩ :
      State).skiverIssue.skiver) ∧
    ((skWith ⟨0x7FFF000000, List.replicate 16 0, false, none⟩ : State).skiverAt 0 = true) ∧
    ((skWith ⟨0x7FFF000000, [0x60000000, 0xFF005000, 0x7F], false, none⟩ : State).skiverAt 6 = true) ∧
    (((skWith ⟨0x7FFF000000, [0x50000000, 0, 0, 0, 0, 0, 0, 0, 0, 0, 0, 0, 0x70003], false, none⟩).modHead 3 (fun v =>
      { v with running := true }) : State).skiverAt 5 = true ∧ ((skWith ⟨0x7FFF000000, [0x50000000, 0, 0, 0, 0, 0, 0, 0, 0, 0,
      0, 0, 0x70003], false, none⟩).modHead 3 (fun v => { v with running := true }) : State).domOn (solegOf (((skWith
      ⟨0x7FFF000000, [0x50000000, 0, 0, 0, 0, 0, 0, 0, 0, 0, 0, 0, 0x70003], false, none⟩).modHead 3 (fun v =>
      { v with running := true }) : State).skiver).head) = true ∧ (((skWith ⟨0x7FFF000000, [0x50000000, 0, 0, 0, 0, 0, 0, 0, 0,
      0, 0, 0, 0x70003], false, none⟩).modHead 3 (fun v => { v with running := true }) : State).headS (((skWith ⟨0x7FFF000000,
      [0x50000000, 0, 0, 0, 0, 0, 0, 0, 0, 0, 0, 0, 0x70003], false, none⟩).modHead 3 (fun v => { v with running := true }) :
      State).skiver).head).running = true) ∧
    ((((skWith ⟨0x7FFF000000, [0x50000000, 0, 0, 0, 0, 0, 0, 0, 0, 0, 0, 0, 0x70003], false, none⟩).modHead 3 (fun v =>
      { v with running := true })).set Fd.SKIVER_STAT_STATE 2 : State).skiverState = 2 ∧ (((skWith ⟨0x7FFF000000, [0x50000000,
      0, 0, 0, 0, 0, 0, 0, 0, 0, 0, 0, 0x70003], false, none⟩).modHead 3 (fun v => { v with running := true })).set
      Fd.SKIVER_STAT_STATE 2 : State).unitUp uSkiver 16 = true ∧ (((skWith ⟨0x7FFF000000, [0x50000000, 0, 0, 0, 0, 0, 0, 0, 0,
      0, 0, 0, 0x70003], false, none⟩).modHead 3 (fun v => { v with running := true })).set Fd.SKIVER_STAT_STATE 2 :
      State).halted = false ∧ (((skWith ⟨0x7FFF000000, [0x50000000, 0, 0, 0, 0, 0, 0, 0, 0, 0, 0, 0, 0x70003], false,
      none⟩).modHead 3 (fun v => { v with running := true })).set Fd.SKIVER_STAT_STATE 2 : State).domOn (solegOf ((((skWith
      ⟨0x7FFF000000, [0x50000000, 0, 0, 0, 0, 0, 0, 0, 0, 0, 0, 0, 0x70003], false, none⟩).modHead 3 (fun v =>
      { v with running := true })).set Fd.SKIVER_STAT_STATE 2 : State).skiver).head) = true ∧ ((((skWith ⟨0x7FFF000000,
      [0x50000000, 0, 0, 0, 0, 0, 0, 0, 0, 0, 0, 0, 0x70003], false, none⟩).modHead 3 (fun v => { v with running := true })).set
      Fd.SKIVER_STAT_STATE 2 : State).headS ((((skWith ⟨0x7FFF000000, [0x50000000, 0, 0, 0, 0, 0, 0, 0, 0, 0, 0, 0, 0x70003],
      false, none⟩).modHead 3 (fun v => { v with running := true })).set Fd.SKIVER_STAT_STATE 2 : State).skiver).head).running =
      true) ∧
    ((skWith ⟨0x7FFF000000, [0x60080000, 0xFF005000, 0x7F], true, none⟩ : State).skiverRuns = true ∧ ((skWith ⟨0x7FFF000000,
      [0x60080000, 0xFF005000, 0x7F], true, none⟩ : State).skiver).cmd ≠ [] ∧ ((skWith ⟨0x7FFF000000, [0x60080000, 0xFF005000,
      0x7F], true, none⟩ : State).skiver).done = true) ∧
    (({ skWith ⟨0x7FFF000000, [], false, some (0, 64)⟩ with move := { (skWith ⟨0x7FFF000000, [], false, some (0, 64)⟩).move with clock := 64 } }
      : State).skiverRuns = true ∧
      (({ skWith ⟨0x7FFF000000, [], false, some (0, 64)⟩ with move := { (skWith ⟨0x7FFF000000, [], false, some (0, 64)⟩).move with clock := 64 } }
      : State).skiver).due.any (fun x => decide (x.2 ≤
      ({ skWith ⟨0x7FFF000000, [], false, some (0, 64)⟩ with move := { (skWith ⟨0x7FFF000000, [], false, some (0, 64)⟩).move with clock := 64 } }
      : State).move.clock)) = true) := by
  iterate 10 refine And.intro (by decide +kernel) ?_
  decide +kernel

/-- Hypotheses of SoundEventsComplete. -/
theorem witness_SoundEventsComplete :
    (soundSt.inEpisode = false ∧ soundSt.soundOn = true ∧ soundSt.keyDue (0 : Nat) = some (⟨7, true, none⟩ : KeyEv) ∧
      ((({ soundSt with audio := { soundSt.audio with ends := (⟨[], []⟩ : Env).ends } } : State)).domUpTo (soundSt.voiceDom (⟨7,
      true, none⟩ : KeyEv).voice) (0 : Fin 32)).audio.waits = false ∧ (⟨7, true, none⟩ : KeyEv).on = true ∧
      ((({ soundSt with audio := { soundSt.audio with ends := (⟨[], []⟩ : Env).ends } } : State)).domUpTo (soundSt.voiceDom (⟨7,
      true, none⟩ : KeyEv).voice) (0 : Fin 32)).vkind (⟨7, true, none⟩ : KeyEv).voice ≠ 3) ∧
    (soundSt.inEpisode = false ∧ soundSt.soundOn = true ∧ soundSt.keyDue (1 : Nat) = some (⟨8, false, none⟩ : KeyEv) ∧
      ((({ soundSt with audio := { soundSt.audio with ends := (⟨[], []⟩ : Env).ends } } : State)).domUpTo (soundSt.voiceDom (⟨8,
      false, none⟩ : KeyEv).voice) (0 : Fin 32)).audio.waits = false ∧ (⟨8, false, none⟩ : KeyEv).on = false) ∧
    (soundSt.inEpisode = false ∧ soundSt.soundOn = true ∧ (soundSt.dom (0 : Fin 3)).run = true ∧
      ((({ soundSt with audio := { soundSt.audio with ends := (⟨[], []⟩ : Env).ends } } : State)).domUpTo (0 : Fin 3)
      32).audio.waits = false) ∧
    ((soundSt.setDom 2 { run := true } : State).inEpisode = false ∧ (soundSt.setDom 2 { run := true } : State).soundOn = true ∧
      ((soundSt.setDom 2 { run := true } : State).dom (2 : Fin 3)).run = true ∧ ((soundSt.setDom 2 { run := true } : State).dom
      (2 : Fin 3)).late = false) ∧
    (soundSt.inEpisode = false ∧ soundSt.soundOn = true ∧ ((soundSt.voiceGain (8 : Fin 256)).pl.isSome = true ∧ (soundSt.zct
      (soundSt.voice (8 : Fin 256)).bus * msTicks) ≤ soundSt.time.now - (soundSt.voiceGain (8 : Fin 256)).tl ∨
      (soundSt.voiceGain (8 : Fin 256)).pr.isSome = true ∧ (soundSt.zct (soundSt.voice (8 : Fin 256)).bus * msTicks) ≤
      soundSt.time.now - (soundSt.voiceGain (8 : Fin 256)).tr) ∧
      ((({ soundSt with audio := { soundSt.audio with ends := (⟨[], []⟩ : Env).ends } } : State)).domUpTo (soundSt.mbDom
      (soundSt.voice (8 : Fin 256)).bus) (0 : Fin 32)).audio.waits = false) ∧
    ((soundSt.setMixGain 5 { (keptGain 8192) with pl := some 5, pr := some 6 } : State).inEpisode = false ∧ (soundSt.setMixGain
      5 { (keptGain 8192) with pl := some 5, pr := some 6 } : State).soundOn = true ∧ (((soundSt.setMixGain 5
      { (keptGain 8192) with pl := some 5, pr := some 6 } : State).mixGain (5 : Fin 32)).pl.isSome = true ∧ ((soundSt.setMixGain
      5 { (keptGain 8192) with pl := some 5, pr := some 6 } : State).zct (5 : Fin 32) * msTicks) ≤ (soundSt.setMixGain 5
      { (keptGain 8192) with pl := some 5, pr := some 6 } : State).time.now - ((soundSt.setMixGain 5
      { (keptGain 8192) with pl := some 5, pr := some 6 } : State).mixGain (5 : Fin 32)).tl ∨ ((soundSt.setMixGain 5
      { (keptGain 8192) with pl := some 5, pr := some 6 } : State).mixGain (5 : Fin 32)).pr.isSome = true ∧ ((soundSt.setMixGain
      5 { (keptGain 8192) with pl := some 5, pr := some 6 } : State).zct (5 : Fin 32) * msTicks) ≤ (soundSt.setMixGain 5
      { (keptGain 8192) with pl := some 5, pr := some 6 } : State).time.now - ((soundSt.setMixGain 5
      { (keptGain 8192) with pl := some 5, pr := some 6 } : State).mixGain (5 : Fin 32)).tr) ∧
      ((({ (soundSt.setMixGain 5 { (keptGain 8192) with pl := some 5, pr := some 6 } : State) with audio := { (soundSt.setMixGain 5 { (keptGain 8192) with pl := some 5, pr := some 6 } : State).audio with ends := (⟨[], []⟩ : Env).ends } }
      : State)).domUpTo ((soundSt.setMixGain 5 { (keptGain 8192) with pl := some 5, pr := some 6 } : State).mbDom (5 : Fin 32))
      (0 : Fin 32)).audio.waits = false) ∧
    ((soundSt.setRxGain 2 { (keptGain 8192) with pl := some 5, pr := some 6 } : State).inEpisode = false ∧ (soundSt.setRxGain 2
      { (keptGain 8192) with pl := some 5, pr := some 6 } : State).soundOn = true ∧ (((soundSt.setRxGain 2
      { (keptGain 8192) with pl := some 5, pr := some 6 } : State).rxGain (2 : Fin 4)).pl.isSome = true ∧ ((soundSt.setRxGain 2
      { (keptGain 8192) with pl := some 5, pr := some 6 } : State).zct ((soundSt.setRxGain 2
      { (keptGain 8192) with pl := some 5, pr := some 6 } : State).get (Fd.AUD_RX_CFG_MIXBUS (2 : Fin 4)).act) * msTicks) ≤
      (soundSt.setRxGain 2 { (keptGain 8192) with pl := some 5, pr := some 6 } : State).time.now - ((soundSt.setRxGain 2
      { (keptGain 8192) with pl := some 5, pr := some 6 } : State).rxGain (2 : Fin 4)).tl ∨ ((soundSt.setRxGain 2
      { (keptGain 8192) with pl := some 5, pr := some 6 } : State).rxGain (2 : Fin 4)).pr.isSome = true ∧ ((soundSt.setRxGain 2
      { (keptGain 8192) with pl := some 5, pr := some 6 } : State).zct ((soundSt.setRxGain 2
      { (keptGain 8192) with pl := some 5, pr := some 6 } : State).get (Fd.AUD_RX_CFG_MIXBUS (2 : Fin 4)).act) * msTicks) ≤
      (soundSt.setRxGain 2 { (keptGain 8192) with pl := some 5, pr := some 6 } : State).time.now - ((soundSt.setRxGain 2
      { (keptGain 8192) with pl := some 5, pr := some 6 } : State).rxGain (2 : Fin 4)).tr) ∧
      ((({ (soundSt.setRxGain 2 { (keptGain 8192) with pl := some 5, pr := some 6 } : State) with audio := { (soundSt.setRxGain 2 { (keptGain 8192) with pl := some 5, pr := some 6 } : State).audio with ends := (⟨[], []⟩ : Env).ends } }
      : State)).domUpTo ((soundSt.setRxGain 2 { (keptGain 8192) with pl := some 5, pr := some 6 } : State).mbDom
      ((soundSt.setRxGain 2 { (keptGain 8192) with pl := some 5, pr := some 6 } : State).get (Fd.AUD_RX_CFG_MIXBUS (2 : Fin
      4)).act)) (0 : Fin 32)).audio.waits = false) ∧
    ((soundSt.set Fd.AUD_CTL_D44SRC 3 : State).inEpisode = false ∧ (soundSt.set Fd.AUD_CTL_D44SRC 3 : State).soundOn = true ∧
      ((soundSt.set Fd.AUD_CTL_D44SRC 3 : State).domPort (1 : Fin 2)).isSome = true ∧ ((soundSt.set Fd.AUD_CTL_D44SRC 3 :
      State).dom (1 : Fin 2)).lost = false) ∧
    (((soundSt.set (Fd.AUD_PT_CFG_EN 3) 1).set (Fd.AUD_PT_CFG_MASTER 3) 0 : State).inEpisode = false ∧ ((soundSt.set
      (Fd.AUD_PT_CFG_EN 3) 1).set (Fd.AUD_PT_CFG_MASTER 3) 0 : State).domOn 17 = true ∧ ((soundSt.set (Fd.AUD_PT_CFG_EN 3)
      1).set (Fd.AUD_PT_CFG_MASTER 3) 0 : State).flag (Fd.AUD_PT_CFG_EN (3 : Fin 4)) = true ∧ ((soundSt.set (Fd.AUD_PT_CFG_EN 3)
      1).set (Fd.AUD_PT_CFG_MASTER 3) 0 : State).flag (Fd.AUD_PT_CFG_MASTER (3 : Fin 4)) = false) := by
  iterate 8 refine And.intro (by decide +kernel) ?_
  decide +kernel

/-- Hypotheses of ScanStepsComplete. -/
theorem witness_ScanStepsComplete :
    ((feState 4 0 : State).unitUp (uFe (1 : Fin 2)) 18 = true ∧ (feState 4 0 : State).halted = false ∧ (feState 4 0 :
      State).fenced (uFe (1 : Fin 2)) = false ∧ (feState 4 0 : State).flag (Fd.INS_FE_CTL_EN (1 : Fin 2)) = true ∧ (feState 4 0
      : State).feWindow (1 : Fin 2) (7 : Fin 16384) = some ((3 : Nat), (8 : Nat)) ∧ (((feState 4 0 : State).headS (3 :
      Nat)).running = true ∧ ((7 : Fin 16384).val = ((feState 4 0 : State).headS (3 : Nat)).line ∨ (7 : Fin 16384).val + 1 =
      ((feState 4 0 : State).headS (3 : Nat)).line)) ∧ (if ((feState 4 0 : State).feS (1 : Fin 2)).lineAt = some (((feState 4 0
      : State).headS (3 : Nat)).frame, (7 : Fin 16384).val) then ((feState 4 0 : State).feS (1 : Fin 2)).used else 0) < min ((8
      : Nat) / 4) ((feState 4 0 : State).hTotal (3 : Nat) / (feState 4 0 : State).stepPeriods (1 : Fin 2)) ∧ ((feState 4 0 :
      State).feS (1 : Fin 2)).active = true ∧ (((feState 4 0 : State).get (Fd.INS_FE_STAT_STEP (1 : Fin 2))) < 95 ∨ (feState 4 0
      : State).flag (Fd.INS_FE_CTL_SELFEN (1 : Fin 2)) = true ∧ ((feState 4 0 : State).get (Fd.INS_FE_STAT_STEP (1 : Fin 2))) <
      98)) ∧
    ((feState 95 0 : State).unitUp (uFe (1 : Fin 2)) 18 = true ∧ (feState 95 0 : State).halted = false ∧ (feState 95 0 :
      State).fenced (uFe (1 : Fin 2)) = false ∧ (feState 95 0 : State).flag (Fd.INS_FE_CTL_EN (1 : Fin 2)) = true ∧ (feState 95
      0 : State).feWindow (1 : Fin 2) (7 : Fin 16384) = some ((3 : Nat), (8 : Nat)) ∧ (((feState 95 0 : State).headS (3 :
      Nat)).running = true ∧ ((7 : Fin 16384).val = ((feState 95 0 : State).headS (3 : Nat)).line ∨ (7 : Fin 16384).val + 1 =
      ((feState 95 0 : State).headS (3 : Nat)).line)) ∧ (if ((feState 95 0 : State).feS (1 : Fin 2)).lineAt = some (((feState 95
      0 : State).headS (3 : Nat)).frame, (7 : Fin 16384).val) then ((feState 95 0 : State).feS (1 : Fin 2)).used else 0) < min
      ((8 : Nat) / 4) ((feState 95 0 : State).hTotal (3 : Nat) / (feState 95 0 : State).stepPeriods (1 : Fin 2)) ∧ ((feState 95
      0 : State).feS (1 : Fin 2)).active = true ∧ ((feState 95 0 : State).get (Fd.INS_FE_STAT_STEP (1 : Fin 2))) = (if (feState
      95 0 : State).flag (Fd.INS_FE_CTL_SELFEN (1 : Fin 2)) then 98 else 95)) ∧
    ((feDone 0 : State).unitUp (uFe (1 : Fin 2)) 18 = true ∧ (feDone 0 : State).halted = false ∧ (feDone 0 : State).fenced (uFe
      (1 : Fin 2)) = false ∧ ((feDone 0 : State).feS (1 : Fin 2)).done = some ((9, true) : Nat × Bool) ∧ (feDone 0 : State).flag
      (Fd.INS_FE_CTL_RINGEN (1 : Fin 2)) = false) ∧
    ((feDone 1 : State).unitUp (uFe (1 : Fin 2)) 18 = true ∧ (feDone 1 : State).halted = false ∧ (feDone 1 : State).fenced (uFe
      (1 : Fin 2)) = false ∧ ((feDone 1 : State).feS (1 : Fin 2)).done = some ((9, true) : Nat × Bool) ∧ (feDone 1 : State).flag
      (Fd.INS_FE_CTL_RINGEN (1 : Fin 2)) = true ∧ (busOf ((feDone 1 : State).feReport (1 : Fin 2) ((9, true) : Nat × Bool)).1
      (⟨[], []⟩ : Env)).ringReport ((feDone 1 : State).get (Fd.INS_FE_RING_ADDR (1 : Fin 2)) * 4096) ((feDone 1 :
      State).feReport (1 : Fin 2) ((9, true) : Nat × Bool)).2 0 4 = .ok ([] : List Nat) (false : Bool)
      ((match (busOf ((feDone 1).feReport 1 (9, true)).1 ⟨[], []⟩).ringReport 0x7FFF010000 ((feDone 1).feReport 1 (9, true)).2 0 4 with | .ok _ _ c => c | _ => busOf live ⟨[], []⟩)
      : Bus)) ∧
    (live.inEpisode = false ∧ live.domOn 18 = true) ∧
    (({ (live.set Fd.PWR_DOMON_ON 0xBFFFF) with time := { now := 6250001 } } : State).inEpisode = false ∧
      ({ (live.set Fd.PWR_DOMON_ON 0xBFFFF) with time := { now := 6250001 } } : State).domOn 18 = false ∧ 100 * msTicks <
      (({ (live.set Fd.PWR_DOMON_ON 0xBFFFF) with time := { now := 6250001 } } : State).time.now + 2 ^ 56 -
      ({ (live.set Fd.PWR_DOMON_ON 0xBFFFF) with time := { now := 6250001 } } : State).panel.thAt) % 2 ^ 56) := by
  iterate 5 refine And.intro (by decide +kernel) ?_
  decide +kernel

/-- Hypotheses of ShankPeriodsComplete. -/
theorem witness_ShankPeriodsComplete :
    (shank.inEpisode = false ∧ shank.shankOff = false) ∧
    (((((((({ shank with panel := { shank.panel with th := [(0, 5000)] } } : State).set (Fd.SHK_HT_B_EN 2) 1).set
      (Fd.SHK_HT_A_ONCODE 2) 4000 |>.set (Fd.SHK_HT_A_OFFCODE 2) 100).set (Fd.SHK_HT_S_HEAT 2) 1).set (Fd.SHK_HT_B_HDUTY 2)
      8000).set Fd.SHK_BLCFG_PERIOD 3000) : State).inEpisode = false ∧
      ((((((({ shank with panel := { shank.panel with th := [(0, 5000)] } } : State).set (Fd.SHK_HT_B_EN 2) 1).set
      (Fd.SHK_HT_A_ONCODE 2) 4000 |>.set (Fd.SHK_HT_A_OFFCODE 2) 100).set (Fd.SHK_HT_S_HEAT 2) 1).set (Fd.SHK_HT_B_HDUTY 2)
      8000).set Fd.SHK_BLCFG_PERIOD 3000) : State).shankOff = false) ∧
    (((gated.set (Fd.SHK_HT_B_IMIN 2) 10).set (Fd.SHK_HT_B_HDUTY 2) 8000 : State).inEpisode = false ∧ ((gated.set
      (Fd.SHK_HT_B_IMIN 2) 10).set (Fd.SHK_HT_B_HDUTY 2) 8000 : State).shankOff = false ∧ (((gated.set (Fd.SHK_HT_B_IMIN 2)
      10).set (Fd.SHK_HT_B_HDUTY 2) 8000 : State).heaterS (2 : Fin 4)).gate = true) ∧
    (gated.inEpisode = false ∧ gated.shankOff = false ∧ (gated.heaterS (2 : Fin 4)).gate = true) ∧
    (({ shank with time := { now := 312500 } } : State).shankUp = true ∧ ({ shank with time := { now := 312500 } } : State).get
      Fd.SHK_CTL_KEEPTMO ≠ 0 ∧ ({ shank with time := { now := 312500 } } : State).flag Fd.SHK_STAT_KEEPEXP = false ∧
      ({ shank with time := { now := 312500 } } : State).get Fd.SHK_CTL_KEEPTMO * msTicks ≤
      (({ shank with time := { now := 312500 } } : State).time.now + 2 ^ 56 - ({ shank with time := { now := 312500 } } :
      State).panel.keptAt) % 2 ^ 56) ∧
    (live.inEpisode = false ∧ live.get Fd.PWR_STATE_STATE ≠ 3) := by
  iterate 5 refine And.intro (by decide +kernel) ?_
  decide +kernel

/-- Hypotheses of TimeAndInterruptEventsComplete. -/
theorem witness_TimeAndInterruptEventsComplete :
    (msi.inEpisode = false ∧ (7 : Fin 64).val ∉ msi.lanes.ep.box ∧ msi.bestHost (7 : Fin 64) = some (30 : Nat) ∧ msi.msixShut (7
      : Fin 64) = true) ∧
    (msiOpen.inEpisode = false ∧ (7 : Fin 64).val ∉ msiOpen.lanes.ep.box ∧ msiOpen.bestHost (7 : Fin 64) = some (30 : Nat) ∧
      msiOpen.msixShut (7 : Fin 64) = false) ∧
    (({ msiOpen with lanes := { ep := { msiOpen.lanes.ep with box := [7] } }, icu := { msiOpen.icu with msixPend := [7] } } :
      State).inEpisode = false ∧ (7 : Fin 64).val ∈
      ({ msiOpen with lanes := { ep := { msiOpen.lanes.ep with box := [7] } }, icu := { msiOpen.icu with msixPend := [7] } } :
      State).lanes.ep.box ∧
      ({ msiOpen with lanes := { ep := { msiOpen.lanes.ep with box := [7] } }, icu := { msiOpen.icu with msixPend := [7] } } :
      State).msixShut (7 : Fin 64) = false) ∧
    ((live.set (Fd.ICU_GRP_HOLD_HELD 3) 1 : State).inEpisode = false ∧ tabGet 0 (live.set (Fd.ICU_GRP_HOLD_HELD 3) 1 :
      State).icu.hold (3 : Fin 16) = 0) ∧
    ((dueCmp 0 : State).inEpisode = false ∧ (9 : Fin 32).val ∈ (dueCmp 0 : State).time.cmpDue ∧ (dueCmp 0 : State).flag
      (Fd.CMPCTL_EN (9 : Fin 32)) = true ∧ (dueCmp 0 : State).flag (Fd.CMPCTL_PER (9 : Fin 32)) = false) ∧
    ((dueCmp 1 : State).inEpisode = false ∧ (9 : Fin 32).val ∈ (dueCmp 1 : State).time.cmpDue ∧ (dueCmp 1 : State).flag
      (Fd.CMPCTL_EN (9 : Fin 32)) = true ∧ (dueCmp 1 : State).flag (Fd.CMPCTL_PER (9 : Fin 32)) = true) ∧
    ((({ (((live.set (Fd.EY_FUNC 45) 1).set (Fd.CAPCTL_EN 5) 1).set (Fd.CAPCTL_TRIG 5) 0x61).set (Fd.CAPCTL_EDGE 5) 3 with time := { now := 77 } })
      : State).inEpisode = false ∧ ((0x61 : BitVec 7).toNat < 8 ∧
      (({ (((live.set (Fd.EY_FUNC 45) 1).set (Fd.CAPCTL_EN 5) 1).set (Fd.CAPCTL_TRIG 5) 0x61).set (Fd.CAPCTL_EDGE 5) 3 with time := { now := 77 } })
      : State).eyeFn (64 + (0x61 : BitVec 7).toNat) 1 = true ∨ 0x60 ≤ (0x61 : BitVec 7).toNat ∧ (0x61 : BitVec 7).toNat < 0x64 ∧
      (({ (((live.set (Fd.EY_FUNC 45) 1).set (Fd.CAPCTL_EN 5) 1).set (Fd.CAPCTL_TRIG 5) 0x61).set (Fd.CAPCTL_EDGE 5) 3 with time := { now := 77 } })
      : State).eyeFn (44 + (0x61 : BitVec 7).toNat - 0x60) 1 = true)) ∧
    ((({ (((live.set (Fd.TIME_WD_CTL_EN 2) 1).set (Fd.TIME_WD_CTL_WARN 2) 1).set (Fd.TIME_WD_CNT_REMAIN 2) 40) with time := { wdLoad := [(2, 100)] } })
      : State).inEpisode = false ∧
      (({ (((live.set (Fd.TIME_WD_CTL_EN 2) 1).set (Fd.TIME_WD_CTL_WARN 2) 1).set (Fd.TIME_WD_CNT_REMAIN 2) 40) with time := { wdLoad := [(2, 100)] } })
      : State).wdWarnAt (2 : Fin 5) = some (50 : Nat) ∧
      (({ (((live.set (Fd.TIME_WD_CTL_EN 2) 1).set (Fd.TIME_WD_CTL_WARN 2) 1).set (Fd.TIME_WD_CNT_REMAIN 2) 40) with time := { wdLoad := [(2, 100)] } })
      : State).flag (Fd.TIME_WD_CTL_EN (2 : Fin 5)) = true ∧
      (({ (((live.set (Fd.TIME_WD_CTL_EN 2) 1).set (Fd.TIME_WD_CTL_WARN 2) 1).set (Fd.TIME_WD_CNT_REMAIN 2) 40) with time := { wdLoad := [(2, 100)] } })
      : State).get (Fd.TIME_WD_CNT_REMAIN (2 : Fin 5)) ≤ (50 : Nat) ∧ (2 : Fin 5).val ∉
      (({ (((live.set (Fd.TIME_WD_CTL_EN 2) 1).set (Fd.TIME_WD_CTL_WARN 2) 1).set (Fd.TIME_WD_CNT_REMAIN 2) 40) with time := { wdLoad := [(2, 100)] } })
      : State).time.wdWarned) ∧
    (((live.set (Fd.TIME_WD_CTL_EN 2) 1) : State).inEpisode = false ∧ ((live.set (Fd.TIME_WD_CTL_EN 2) 1) : State).flag
      (Fd.TIME_WD_CTL_EN (2 : Fin 4)) = true ∧ ((live.set (Fd.TIME_WD_CTL_EN 2) 1) : State).get (Fd.TIME_WD_CNT_REMAIN (2 : Fin
      4)) = 0) ∧
    (((live.set (Fd.TIME_WD_CTL_EN 4) 1) : State).inEpisode = false ∧ ((live.set (Fd.TIME_WD_CTL_EN 4) 1) : State).flag
      (Fd.TIME_WD_CTL_EN 4) = true ∧ ((live.set (Fd.TIME_WD_CTL_EN 4) 1) : State).get (Fd.TIME_WD_CNT_REMAIN 4) = 0 ∧ ((live.set
      (Fd.TIME_WD_CTL_EN 4) 1) : State).sec.fuse = none) := by
  iterate 9 refine And.intro (by decide +kernel) ?_
  decide +kernel

/-- Hypotheses of EyeletEventsComplete. -/
theorem witness_EyeletEventsComplete :
    ((live.set (Fd.EY_IMODE 100) 1 : State).inEpisode = false ∧ (live.set (Fd.EY_IMODE 100) 1 : State).get Fd.PWR_STATE_STATE ≠
      3) ∧
    ((((i2cLive.set (Fd.I2C_STAT_BUSY 2) 1).set (Fd.I2C_CMD_COUNT 2) 2).modPer 2 (fun q => { q with tx := [1, 2, 3] }) :
      State).inEpisode = false ∧ (((i2cLive.set (Fd.I2C_STAT_BUSY 2) 1).set (Fd.I2C_CMD_COUNT 2) 2).modPer 2 (fun q =>
      { q with tx := [1, 2, 3] }) : State).flag (Fd.I2C_STAT_BUSY (2 : Fin 4)) = true ∧ (((i2cLive.set (Fd.I2C_STAT_BUSY 2)
      1).set (Fd.I2C_CMD_COUNT 2) 2).modPer 2 (fun q => { q with tx := [1, 2, 3] }) : State).flag (Fd.I2C_CMD_RD (2 : Fin 4)) =
      false ∧ ((((i2cLive.set (Fd.I2C_STAT_BUSY 2) 1).set (Fd.I2C_CMD_COUNT 2) 2).modPer 2 (fun q => { q with tx := [1, 2, 3] })
      : State).get (Fd.I2C_CMD_COUNT (2 : Fin 4))) ≤ ((((i2cLive.set (Fd.I2C_STAT_BUSY 2) 1).set (Fd.I2C_CMD_COUNT 2) 2).modPer
      2 (fun q => { q with tx := [1, 2, 3] }) : State).perS (2 : Fin 4)).tx.length ∧ (((i2cLive.set (Fd.I2C_STAT_BUSY 2) 1).set
      (Fd.I2C_CMD_COUNT 2) 2).modPer 2 (fun q => { q with tx := [1, 2, 3] }) : State).i2cPlaced (2 : Fin 4) = true ∧
      (((i2cLive.set (Fd.I2C_STAT_BUSY 2) 1).set (Fd.I2C_CMD_COUNT 2) 2).modPer 2 (fun q => { q with tx := [1, 2, 3] }) :
      State).loopOnBus (2 : Fin 4) = false) ∧
    (((((i2cLive.set (Fd.I2C_STAT_BUSY 2) 1).set (Fd.I2C_CMD_COUNT 2) 2).set (Fd.I2C_CMD_RD 2) 1) : State).inEpisode = false ∧
      ((((i2cLive.set (Fd.I2C_STAT_BUSY 2) 1).set (Fd.I2C_CMD_COUNT 2) 2).set (Fd.I2C_CMD_RD 2) 1) : State).flag
      (Fd.I2C_STAT_BUSY (2 : Fin 4)) = true ∧ ((((i2cLive.set (Fd.I2C_STAT_BUSY 2) 1).set (Fd.I2C_CMD_COUNT 2) 2).set
      (Fd.I2C_CMD_RD 2) 1) : State).flag (Fd.I2C_CMD_RD (2 : Fin 4)) = true ∧ ([7, 8] : List Byte).length = (((((i2cLive.set
      (Fd.I2C_STAT_BUSY 2) 1).set (Fd.I2C_CMD_COUNT 2) 2).set (Fd.I2C_CMD_RD 2) 1) : State).get (Fd.I2C_CMD_COUNT (2 : Fin 4)))
      ∧ (((((i2cLive.set (Fd.I2C_STAT_BUSY 2) 1).set (Fd.I2C_CMD_COUNT 2) 2).set (Fd.I2C_CMD_RD 2) 1) : State).perS (2 : Fin
      4)).rx.length + (((((i2cLive.set (Fd.I2C_STAT_BUSY 2) 1).set (Fd.I2C_CMD_COUNT 2) 2).set (Fd.I2C_CMD_RD 2) 1) : State).get
      (Fd.I2C_CMD_COUNT (2 : Fin 4))) ≤ 64 ∧ ((((i2cLive.set (Fd.I2C_STAT_BUSY 2) 1).set (Fd.I2C_CMD_COUNT 2) 2).set
      (Fd.I2C_CMD_RD 2) 1) : State).i2cPlaced (2 : Fin 4) = true ∧ ((((i2cLive.set (Fd.I2C_STAT_BUSY 2) 1).set (Fd.I2C_CMD_COUNT
      2) 2).set (Fd.I2C_CMD_RD 2) 1) : State).loopOnBus (2 : Fin 4) = false) ∧
    (((live.set (Fd.I2C_STAT_BUSY 2) 1) : State).inEpisode = false ∧ ((live.set (Fd.I2C_STAT_BUSY 2) 1) : State).flag
      (Fd.I2C_STAT_BUSY (2 : Fin 4)) = true ∧ ((live.set (Fd.I2C_STAT_BUSY 2) 1) : State).loopOnBus (2 : Fin 4) = false) ∧
    (((live.set (Fd.UART_CFG_EN 1) 1).set (Fd.EY_FUNC 29) 1 : State).inEpisode = false ∧ ((live.set (Fd.UART_CFG_EN 1) 1).set
      (Fd.EY_FUNC 29) 1 : State).flag (Fd.UART_CFG_EN (1 : Fin 2)) = true ∧ ((live.set (Fd.UART_CFG_EN 1) 1).set (Fd.EY_FUNC 29)
      1 : State).eyeFn (25 + 4 * (1 : Fin 2)) 1 = true) ∧
    (((live.set (Fd.UART_CFG_EN 1) 1).modPer 5 (fun q => { q with tx := [1, 2, 3] }) : State).inEpisode = false ∧ ((live.set
      (Fd.UART_CFG_EN 1) 1).modPer 5 (fun q => { q with tx := [1, 2, 3] }) : State).flag (Fd.UART_CFG_EN (1 : Fin 2)) = true ∧
      (((live.set (Fd.UART_CFG_EN 1) 1).modPer 5 (fun q => { q with tx := [1, 2, 3] }) : State).flag (Fd.UART_CFG_FLOW (1 : Fin
      2)) = false ∨ (true : Bool) = false ∧ ((live.set (Fd.UART_CFG_EN 1) 1).modPer 5 (fun q => { q with tx := [1, 2, 3] }) :
      State).eyeFn (27 + 4 * (1 : Fin 2)) 1 = true)) := by
  iterate 5 refine And.intro (by decide +kernel) ?_
  decide +kernel

/-- Hypotheses of DebugFramesComplete. -/
theorem witness_DebugFramesComplete :
    (live.dbgListens = true ∧ dbgCrcOk 0x01 [] (0xFBAC : BitVec 16) = true) ∧
    (live.dbgListens = true ∧ (live.dbgPulse).flag Fd.DBG_STAT_DISABLED = false ∧ (live.dbgPulse).dbg.busy = 0 ∧ dbgCrcOk 0x02
      [] (0xA2FC : BitVec 16) = true) ∧
    (live.dbgListens = true ∧ 3 ≤ (dbgBytes : List Byte).length ∧ (dbgBytes : List Byte).length ≤ 4096 ∧ (beNat (((dbgBytes :
      List Byte).map BitVec.toNat).take 2)) + ((dbgBytes : List Byte).length - 2) ≤ 5332 ∧ dbgCrcOk 0x03 (dbgBytes : List Byte)
      (0xACEA : BitVec 16) = true) ∧
    (live.dbgListens = true ∧ dbgCrcOk 0x04 [] (0x105C : BitVec 16) = true) ∧
    ((live.set Fd.DBG_STAT_UNLOCKED 1 : State).dbgListens = true ∧ (live.set Fd.DBG_STAT_UNLOCKED 1 : State).hub.stopping =
      false ∧ ((live.set Fd.DBG_STAT_UNLOCKED 1 : State).dbgPulse).flag Fd.DBG_STAT_UNLOCKED = true ∧ ([0x7F, 0xFF, 0x01, 0, 0,
      0, 2] : List Byte).length = 7 ∧ (beNat ((([0x7F, 0xFF, 0x01, 0, 0, 0, 2] : List Byte).map BitVec.toNat).take 5)) % 4 = 0 ∧
      0 < (beNat (((([0x7F, 0xFF, 0x01, 0, 0, 0, 2] : List Byte).map BitVec.toNat).drop 5).take 2)) ∧ (beNat (((([0x7F, 0xFF,
      0x01, 0, 0, 0, 2] : List Byte).map BitVec.toNat).drop 5).take 2)) ≤ 1024 ∧ (busOf ((live.set Fd.DBG_STAT_UNLOCKED 1 :
      State).dbgPulse) (⟨[], []⟩ : Env)).dbgReads ((live.set Fd.DBG_STAT_UNLOCKED 1 : State).dbgPulse).dbgWho (beNat ((([0x7F,
      0xFF, 0x01, 0, 0, 0, 2] : List Byte).map BitVec.toNat).take 5)) (beNat (((([0x7F, 0xFF, 0x01, 0, 0, 0, 2] : List Byte).map
      BitVec.toNat).drop 5).take 2)) = .ok ([0, 0] : List Nat) false
      ((match (busOf (live.set Fd.DBG_STAT_UNLOCKED 1) ⟨[], []⟩).dbgReads (live.set Fd.DBG_STAT_UNLOCKED 1).dbgWho 0x7FFF010000 2 with | .ok _ _ c => c | _ => busOf live ⟨[], []⟩)
      : Bus) ∧ dbgCrcOk 0x08 ([0x7F, 0xFF, 0x01, 0, 0, 0, 2] : List Byte) (0xBC4E : BitVec 16) = true) ∧
    ((live.set Fd.DBG_STAT_UNLOCKED 1 : State).dbgListens = true ∧ (live.set Fd.DBG_STAT_UNLOCKED 1 : State).hub.stopping =
      false ∧ ((live.set Fd.DBG_STAT_UNLOCKED 1 : State).dbgPulse).flag Fd.DBG_STAT_UNLOCKED = true ∧ 9 ≤ ([0x7F, 0xFF, 0x01, 0,
      0, 1, 2, 3, 4] : List Byte).length ∧ ([0x7F, 0xFF, 0x01, 0, 0, 1, 2, 3, 4] : List Byte).length ≤ 4093 ∧ ([0x7F, 0xFF,
      0x01, 0, 0, 1, 2, 3, 4] : List Byte).length % 4 = 1 ∧ (beNat ((([0x7F, 0xFF, 0x01, 0, 0, 1, 2, 3, 4] : List Byte).map
      BitVec.toNat).take 5)) % 4 = 0 ∧ (busOf ((live.set Fd.DBG_STAT_UNLOCKED 1 : State).dbgPulse) (⟨[], []⟩ : Env)).dbgWrites
      ((live.set Fd.DBG_STAT_UNLOCKED 1 : State).dbgPulse).dbgWho (beNat ((([0x7F, 0xFF, 0x01, 0, 0, 1, 2, 3, 4] : List
      Byte).map BitVec.toNat).take 5)) (payloadWords ((([0x7F, 0xFF, 0x01, 0, 0, 1, 2, 3, 4] : List Byte).map BitVec.toNat).drop
      5)) = .ok ([] : List Nat) false
      ((match (busOf (live.set Fd.DBG_STAT_UNLOCKED 1) ⟨[], []⟩).dbgWrites (live.set Fd.DBG_STAT_UNLOCKED 1).dbgWho 0x7FFF010000 (payloadWords [1, 2, 3, 4]) with | .ok _ _ c => c | _ => busOf live ⟨[], []⟩)
      : Bus) ∧ dbgCrcOk 0x09 ([0x7F, 0xFF, 0x01, 0, 0, 1, 2, 3, 4] : List Byte) (0xAB88 : BitVec 16) = true) ∧
    (live.dbgListens = true ∧ (5 : Byte).toNat ∉ [0x01, 0x02, 0x03, 0x04, 0x08, 0x09] ∧ dbgCrcOk (5 : Byte).toNat ([7] : List
      Byte) ((BitVec.ofNat 16 (crc16 [5, 0, 1, 7])) : BitVec 16) = true) ∧
    (live.dbgListens = true ∧ dbgCrcOk 0x01 ([3] : List Byte) (0 : BitVec 16) = false) := by
  iterate 7 refine And.intro (by decide +kernel) ?_
  decide +kernel

/-- Hypotheses of DebugPinAndRunControlComplete. -/
theorem witness_DebugPinAndRunControlComplete :
    (((live.set Fd.PWR_STATE_STATE 2).set Fd.PWR_WAKE_DBG 1 : State).inEpisode = false ∧ ((live.set Fd.PWR_STATE_STATE 2).set
      Fd.PWR_WAKE_DBG 1 : State).flag Fd.PWR_WAKE_DBG = true ∧ ((live.set Fd.PWR_STATE_STATE 2).set Fd.PWR_WAKE_DBG 1 :
      State).rst.target = none ∧ (((live.set Fd.PWR_STATE_STATE 2).set Fd.PWR_WAKE_DBG 1 : State).get Fd.PWR_STATE_STATE = 2 ∨
      ((live.set Fd.PWR_STATE_STATE 2).set Fd.PWR_WAKE_DBG 1 : State).get Fd.PWR_STATE_STATE = 3)) ∧
    (live.dbgListens = true) ∧
    (live.dbgListens = true) ∧
    (live.inEpisode = false ∧ live.sec.fuse = none) ∧
    ((live.set Fd.DBG_RUN_HALTREQ 1 : State).inEpisode = false ∧ (live.set Fd.DBG_RUN_HALTREQ 1 : State).flag Fd.DBG_RUN_HALTREQ
      = true ∧ (∀ n : Fin 4, (live.set Fd.DBG_RUN_HALTREQ 1 : State).coreState n ≠ 2)) ∧
    ((stepSt true : State).inEpisode = false ∧ (stepSt true : State).dbg.step ≠ none ∧ (stepSt true : State).dbg.stepped = true) ∧
    ((stepSt false : State).inEpisode = false ∧ (stepSt false : State).dbg.step ≠ none ∧ (stepSt false : State).dbg.stepped =
      false) := by
  iterate 6 refine And.intro (by decide +kernel) ?_
  decide +kernel

/-- Hypotheses of FalseConditionOnlyAdvances. -/
theorem witness_FalseConditionOnlyAdvances :
    (((0x10, .awlMul 2) : Nat × Instr) ∈ [(0x00, .awlNop (2 : Fin 4)), (0x01, .awlMov (2 : Fin 4)), (0x02, .awlLdi (2 : Fin 4)),
      (0x03, .awlLdhi (2 : Fin 4)), (0x04, .awlRetag (2 : Fin 4)), (0x05, .awlGettag (2 : Fin 4)), (0x06, .awlTtst (2 : Fin 4)),
      (0x08, .awlAdd (2 : Fin 4)), (0x09, .awlSub (2 : Fin 4)), (0x0A, .awlAdc (2 : Fin 4)), (0x0B, .awlSbc (2 : Fin 4)), (0x0C,
      .awlCmp (2 : Fin 4)), (0x0D, .awlNeg (2 : Fin 4)), (0x0E, .awlAddi (2 : Fin 4)), (0x0F, .awlCmpi (2 : Fin 4)), (0x10,
      .awlMul (2 : Fin 4)), (0x11, .awlMulh (2 : Fin 4)), (0x12, .awlDiv (2 : Fin 4)), (0x13, .awlRem (2 : Fin 4)), (0x14,
      .awlMin (2 : Fin 4)), (0x15, .awlMax (2 : Fin 4)), (0x18, .awlAnd (2 : Fin 4)), (0x19, .awlOr (2 : Fin 4)), (0x1A, .awlXor
      (2 : Fin 4)), (0x1B, .awlNot (2 : Fin 4)), (0x1C, .awlTst (2 : Fin 4)), (0x1D, .awlShl (2 : Fin 4)), (0x1E, .awlShr (2 :
      Fin 4)), (0x1F, .awlSar (2 : Fin 4)), (0x20, .awlLd (2 : Fin 4) (⟨[], []⟩ : Env)), (0x21, .awlSt (2 : Fin 4) (⟨[], []⟩ :
      Env)), (0x22, .awlLd2 (2 : Fin 4) (⟨[], []⟩ : Env)), (0x23, .awlSt2 (2 : Fin 4) (⟨[], []⟩ : Env)), (0x24, .awlIn (2 : Fin
      4) (⟨[], []⟩ : Env)), (0x25, .awlOut (2 : Fin 4) (⟨[], []⟩ : Env)), (0x26, .awlBkset (2 : Fin 4)), (0x27, .awlBkget (2 :
      Fin 4)), (0x28, .awlB (2 : Fin 4)), (0x29, .awlCall (2 : Fin 4)), (0x2A, .awlJmp (2 : Fin 4)), (0x2B, .awlCallr (2 : Fin
      4)), (0x30, .awlRep (2 : Fin 4)), (0x31, .awlLock (2 : Fin 4)), (0x32, .awlUnlock (2 : Fin 4)), (0x33, .awlSetie (2 : Fin
      4)), (0x34, .awlWfi (2 : Fin 4)), (0x35, .awlTrap (2 : Fin 4)), (0x36, .awlReti (2 : Fin 4))] ∧ (awlAt 2 0xC504 0xCC00 :
      State).coreRuns (2 : Fin 4) = true ∧ (awlAt 2 0xC504 0xCC00 : State).fetchAt (2 : Fin 4) ((awlAt 2 0xC504 0xCC00 :
      State).pcOf (2 : Fin 4)) = some (⟨1, 0x10, 4, 3, 0⟩ : Insn) ∧ (⟨1, 0x10, 4, 3, 0⟩ : Insn).op = ((0x10, .awlMul 2) : Nat ×
      Instr).1 ∧ awlCond ((awlAt 2 0xC504 0xCC00 : State).flagsOf (2 : Fin 4)) (⟨1, 0x10, 4, 3, 0⟩ : Insn).cond = false) := by
  decide +kernel

/-- Hypotheses of RefusedRegisterWrites. -/
theorem witness_RefusedRegisterWrites :
    (Taken live (0x17 : Fin 32) (Rg.LAST_HD_SEL (3 : Fin 16)) ((0xD : BitVec 28).toNat) ∧ nbit ((0xD : BitVec 28).toNat) 3 =
      true ∧ (live.slotState (((0xD : BitVec 28).toNat) % 8) < 3 ∨ nbit (hdHeads (live.slotImg (((0xD : BitVec 28).toNat) % 8)))
      (3 : Fin 16) = false)) ∧
    (Taken live (0x17 : Fin 32) (Rg.FETCH_POOL (3 : Fin 8)) ((0x5 : BitVec 28).toNat) ∧ (((0x5 : BitVec 28).toNat) / 2 ^ 11 % 2
      ^ 11 < ((0x5 : BitVec 28).toNat) % 2 ^ 11 ∨ 1024 < ((0x5 : BitVec 28).toNat) / 2 ^ 11 % 2 ^ 11 ∨ 1024 < ((0x5 : BitVec
      28).toNat) % 2 ^ 11 + (((List.range 8).filter (fun j => j != (3 : Fin 8).val)).map live.poolRsv).sum)) ∧
    (Taken live (0x17 : Fin 32) (Rg.FETCH_POOL (3 : Fin 8)) ((0x800 : BitVec 28).toNat) ∧ ((0x800 : BitVec 28).toNat) % 2 ^ 11 ≤
      ((0x800 : BitVec 28).toNat) / 2 ^ 11 % 2 ^ 11 ∧ ((0x800 : BitVec 28).toNat) / 2 ^ 11 % 2 ^ 11 ≤ 1024 ∧ ((0x800 : BitVec
      28).toNat) % 2 ^ 11 + (((List.range 8).filter (fun j => j != (3 : Fin 8).val)).map live.poolRsv).sum ≤ 1024) ∧
    (Taken live (0x17 : Fin 32) Rg.SYS_EYCFG ((0xC000 : BitVec 28).toNat) ∧ (funcOk (live.eyIx (ownerOfMaster (0x17 : Fin 32)))
      (((0xC000 : BitVec 28).toNat) / 2 ^ 25) = false ∨ 6 ≤ ((0xC000 : BitVec 28).toNat) / 2 ^ 13 % 2 ^ 3)) := by
  iterate 3 refine And.intro (by decide +kernel) ?_
  decide +kernel

/-- Hypotheses of OwnerCheck. -/
theorem witness_OwnerCheck :
    (((.fetchPoolWrite 5 3 5 ⟨[], []⟩ : Instr), (Rg.FETCH_POOL 5 : Nat)) ∈ ([(Instr.lastHdSelWrite 3 (3 : Fin 32) (5 : BitVec
      28) (⟨[], []⟩ : Env), Rg.LAST_HD_SEL 3), (Instr.fetchPoolWrite 5 (3 : Fin 32) (5 : BitVec 28) (⟨[], []⟩ : Env),
      Rg.FETCH_POOL 5), (Instr.headRun 2 (3 : Fin 32) (5 : BitVec 28) (⟨[], []⟩ : Env), Rg.HD_CTL 2), (Instr.swsetSet (3 : Fin
      32) (5 : BitVec 28) (⟨[], []⟩ : Env), Rg.ICU_SWSET), (Instr.audKey (3 : Fin 32) (5 : BitVec 28) (⟨[], []⟩ : Env),
      Rg.AUD_KEY), (Instr.eoiWrite 1 (3 : Fin 32) (5 : BitVec 28) (⟨[], []⟩ : Env), Rg.ICU_TGT_EOI 1)])) ∧
    (((.fetchPoolWrite 5 3 5 ⟨[], []⟩ : Instr), (Rg.FETCH_POOL 5 : Nat)) ∈ ([(Instr.lastHdSelWrite 3 (3 : Fin 32) (5 : BitVec
      28) (⟨[], []⟩ : Env), Rg.LAST_HD_SEL 3), (Instr.fetchPoolWrite 5 (3 : Fin 32) (5 : BitVec 28) (⟨[], []⟩ : Env),
      Rg.FETCH_POOL 5), (Instr.headRun 2 (3 : Fin 32) (5 : BitVec 28) (⟨[], []⟩ : Env), Rg.HD_CTL 2), (Instr.swsetSet (3 : Fin
      32) (5 : BitVec 28) (⟨[], []⟩ : Env), Rg.ICU_SWSET), (Instr.audKey (3 : Fin 32) (5 : BitVec 28) (⟨[], []⟩ : Env),
      Rg.AUD_KEY), (Instr.eoiWrite 1 (3 : Fin 32) (5 : BitVec 28) (⟨[], []⟩ : Env), Rg.ICU_TGT_EOI 1)]) ∧ (live.set
      (Fd.OWN_OWNER 10) 2 : State).masterFrozen (3 : Fin 32) = false ∧ (live.set (Fd.OWN_OWNER 10) 2 : State).domOn (regDomain
      (Rg.FETCH_POOL 5 : Nat)) = true ∧ (live.set (Fd.OWN_OWNER 10) 2 : State).writeRefused (ownerOfMaster (3 : Fin 32))
      (Rg.FETCH_POOL 5 : Nat) (5 : BitVec 28).toNat = some (10 : Nat)) := by
  iterate 1 refine And.intro (by decide +kernel) ?_
  decide +kernel

/-- Hypotheses of GlobalDisableStopsDelivery. -/
theorem witness_GlobalDisableStopsDelivery :
    (((ready 1 30).set Fd.ICU_CTL_GDIS 1 : State).flag Fd.ICU_CTL_GDIS = true) ∧
    ((msi.set Fd.ICU_CTL_GDIS 1 : State).flag Fd.ICU_CTL_GDIS = true) ∧
    ((live.set Fd.ICU_CTL_GDIS 1 : State).flag Fd.ICU_CTL_GDIS = true ∧ srcReserved (30 : Nat) = false ∧ (live.set
      Fd.ICU_CTL_GDIS 1 : State).domOn (srcDomain (30 : Nat)) = true) ∧
    ((({ live with icu := { nested := [(1, [30, 4])] } } : State).set Fd.ICU_CTL_GDIS 1 : State).flag Fd.ICU_CTL_GDIS = true ∧
      Taken (({ live with icu := { nested := [(1, [30, 4])] } } : State).set Fd.ICU_CTL_GDIS 1 : State) (0x17 : Fin 32)
      (Rg.ICU_TGT_EOI (1 : Fin 4)) (30 : BitVec 28).toNat ∧ (({ live with icu := { nested := [(1, [30, 4])] } } : State).set
      Fd.ICU_CTL_GDIS 1 : State).stackOf (1 : Fin 4) = (30 : BitVec 28).toNat % 512 :: ([4] : List Nat)) := by
  iterate 3 refine And.intro (by decide +kernel) ?_
  decide +kernel

/-- Hypotheses of LastStoreIsReadOnly. -/
theorem witness_LastStoreIsReadOnly :
    ((0x7FFF800000 : Nat) < 2 ^ 40 ∧ (decodeAddr (0x7FFF800000 : Nat) = .lastStore ∨ decodeAddr (0x7FFF800000 : Nat) = .hole ∨
      0x7FF4000000 ≤ (0x7FFF800000 : Nat) ∧ (0x7FFF800000 : Nat) < 0x7FF4000400)) ∧
    (0x7FFF800000 ≤ (0x7FFFFFFFFC : Nat) ∧ (0x7FFFFFFFFC : Nat) < 2 ^ 39) := by
  iterate 1 refine And.intro (by decide +kernel) ?_
  decide +kernel

end Sys2Proof.Tests
end

section
/-! Every command keeps memory and the register file in canonical form (R11, R30), by the form of its outcome. -/
namespace Sys2Proof.Machine

/-- The next state that an outcome answers, if any, is in canonical form. -/
def GoodNext (o : Out) : Prop := ∀ t, o = .next t → Good t

theorem goodNext_next {t : State} (h : Good t) : GoodNext (.next t) := by
  rintro _ ⟨⟩
  exact h

theorem goodNext_ite {c : Prop} [Decidable c] {a b : Out} (ha : GoodNext a) (hb : GoodNext b) : GoodNext (if c then a else b) := by
  split
  · exact ha
  · exact hb

theorem goodNext_settled {t : State} (h : Good t) : GoodNext (settled t) := goodNext_next (good_settle t h)

theorem goodNext_calm {s t : State} (h : Good t) : GoodNext (calm s t) := goodNext_next (good_ite h (good_settle t h))

theorem goodNext_event {s t : State} (hs : Good s) (h : Good t) : GoodNext (event s t) :=
  goodNext_ite (goodNext_next hs) (goodNext_settled h)

theorem goodNext_outlast {s t : State} (h : Good t) : GoodNext (outlast s t) := goodNext_ite (goodNext_next h) (goodNext_settled h)

theorem goodNext_quiet {s t : State} (hs : Good s) (h : Good t) : GoodNext (quiet s t) :=
  goodNext_ite (goodNext_next hs) (goodNext_calm h)

theorem goodNext_wrote {s : State} {m : Fin 32} {k : Nat} {v : RegVal} {e : Env} (hs : Good s) : GoodNext (wrote s m k v e) :=
  have h := good_directWrite s m k v.toNat e hs
  goodNext_ite (goodNext_next hs) (goodNext_ite (goodNext_calm h) (goodNext_settled h))

theorem goodNext_didRead {s : State} {m : Fin 32} {k : Nat} {e : Env} (hs : Good s) : GoodNext (didRead s m k e) :=
  goodNext_ite (goodNext_next hs) (goodNext_calm (good_directRead s m k e hs))

/-- A Tongue packet keeps canonical form where its command's own body does. -/
theorem goodNext_tongueRow {s : State} {src : Src} {op : Nat} {p : Packet} {e : Env} {form : Bool} {body : Bus → Req → Nat → Fin'}
    (hs : Good s) (hbody : ∀ b r o, Good b.s → (body b r o).Good) : GoodNext (event s (s.tongueRow src op p e form body)) :=
  goodNext_event hs (good_tongueRow s src op p e form body hs hbody)

theorem goodNext_plain {s : State} {src : Src} {op : Nat} {p : Packet} {e : Env} {form : Bool} {f : State → Req → Nat → State}
    (hs : Good s) (hf : ∀ a r o, Good a → Good (f a r o)) : GoodNext (event s (s.tongueRow src op p e form (plainBody f))) :=
  goodNext_tongueRow hs fun b r o => good_plainBody f b r o hf

theorem goodNext_runOp {s : State} {n op : Nat} {body : Insn → State} (hs : Good s) (hbody : ∀ i, Good (body i)) :
    GoodNext (quiet s (s.runOp n op body)) :=
  goodNext_quiet hs (good_runOp s n op body hs hbody)

/-- Every command answers a state in canonical form, if it answers one. -/
theorem goodNext_exec (i : Instr) {s : State} (hs : Good s) : GoodNext (exec i s) := by
  cases i with
  | regRead => exact goodNext_tongueRow hs (good_regReadBody _)
  | regWrite => exact goodNext_tongueRow hs (good_regWriteBody _)
  | regModify => exact goodNext_tongueRow hs (good_regModifyBody _)
  | regBurstRead => exact goodNext_tongueRow hs (good_burstReadBody _)
  | regBurstWrite => exact goodNext_tongueRow hs (good_burstWriteBody _)
  | memRead => exact goodNext_tongueRow hs (good_memReadBody _)
  | memWrite => exact goodNext_tongueRow hs (good_memWriteBody _)
  | echo => exact goodNext_plain hs fun _ _ _ h => good_echo _ _ _ h
  | idleWord => exact goodNext_event hs (good_idleWord _ _ _ _ hs)
  | badOpcode | commandForward => exact goodNext_plain hs fun _ _ _ h => h
  | forwardTimeout => exact goodNext_event hs (good_forwardTimeout _ _ hs)
  | commandReplyReceive => exact goodNext_event hs (good_commandReply _ hs)
  | commandMessageReceive => exact goodNext_event hs (good_commandIn _ hs)
  | replyWrite => exact goodNext_event hs (good_replyWrite _ _ _ hs)
  | ringEnable | ringCprodWrite | ringRconsWrite | owndataWrite | registerWrite | lastHdSelWrite | fltAckWrite | faultForce
  | pwrDomreqWrite | sysRoleWrite | paceMinclr | slackMinclr | loopEnable | loopDisable | vsetWrite | headRun | headStop
  | underrunCountClear | fetchPoolWrite | poolPeakClear | soleTackPeakClear | fetchLatencyMaxClear | lineGranulePeakClear
  | memTrain | memEccWrite | portModeWrite | portRetrain | manremap | eyeScanStart | weltEpochWrite | fuseAdvanceCounter
  | fuseRevokeSlot | fuseProgramSlot | eoiWrite | swsetSet | swsetClr | timeLoad | compareWrite | watchdogStart
  | watchdogKick | watchdogForceExpire | eyeletConfigWrite | eyeletSet | eyeletClear | i2cGo | perdataWrite | laceGo
  | laceAbort | skiverGo | skiverAbort | audioEnable | audKey | insoleRecal | shankKeep | tjMaxClear | debugHalt
  | debugResume | debugStep | debugRelock =>
    exact goodNext_wrote hs
  | serialPacketTimeout => exact goodNext_event hs (good_serialTimeout _ _ hs)
  | lastStage | lastStageCopy => exact goodNext_plain hs fun _ _ _ h => good_lastStage _ _ _ _ h
  | lastStageCopyDone => exact goodNext_event hs (good_copyDone _ _ _ hs)
  | lastRelease => exact goodNext_plain hs fun _ _ _ h => good_lastRelease _ _ _ _ h
  | lastAdmit => exact goodNext_plain hs fun _ _ _ h => good_lastAdmit _ _ _ _ h
  | lastAdmitDone => exact goodNext_event hs (good_admitEnd _ hs)
  | commitArm => exact goodNext_plain hs fun _ _ _ h => good_commitArm _ _ _ _ _ h
  | commitQuery => exact goodNext_plain hs fun _ _ _ h => good_commitQuery _ _ _ h
  | crcExpect | crcExpectClear => exact goodNext_plain hs fun _ _ _ h => good_crcExpect _ _ _ _ h
  | pictureReport | pictureReportSigned => exact goodNext_plain hs fun _ _ _ h => good_pictureReport _ _ _ h
  | signingDone => exact goodNext_event hs (good_signDone _ hs)
  | imageVerify | imageVerifyLoad => exact goodNext_plain hs fun _ _ _ h => good_imageVerify _ _ _ h
  | imageVerifyDone => exact goodNext_event hs (good_verifyDone _ _ hs)
  | programStart => exact goodNext_plain hs fun _ _ _ h => good_programStart _ _ _ _ h
  | programStartDone => exact goodNext_event hs (good_programStarted _ _ hs)
  | attest => exact goodNext_plain hs fun _ _ _ h => good_attest _ _ _ h
  | faultRead => exact goodNext_plain hs fun _ _ _ h => good_faultRead _ _ _ h
  | faultAck => exact goodNext_plain hs fun _ _ _ h => good_faultAck _ _ _ _ h
  | controlledStopEnd => exact goodNext_settled (good_stopEnd _ hs)
  | unitResetPulse | unitResetHold | unitResetRelease => exact goodNext_plain hs fun _ _ _ h => good_unitReset _ _ _ _ h
  | unitResetEnd => exact goodNext_event hs (good_unitEnd _ _ hs)
  | deviceResetWarm | deviceResetCold => exact goodNext_plain hs fun _ _ _ h => good_deviceReset _ _ _ _ h
  | powerStateRun | powerStateDim | powerStateNap | powerStateStow | powerStateOff =>
    exact goodNext_plain hs fun _ _ _ h => good_powerState _ _ _ _ h
  | powerStateDone => exact goodNext_event hs (good_powerDone _ hs)
  | wakeEvent => exact goodNext_event hs (good_wakeEvent _ _ hs)
  | alarmWake => exact goodNext_event hs (good_wake _ _ hs)
  | roleChangeDone => exact goodNext_event hs (good_roleDone _ hs)
  | resetAssert => exact goodNext_settled (good_resetEvent _ _ hs)
  | resetRelease => exact goodNext_settled (good_dropReset _ _ _ hs)
  | supplyWarning => exact goodNext_settled (good_supplyWarn _ _ hs)
  | supplyResetLevel => exact goodNext_settled (good_supplyReset _ _ hs)
  | oscfail => exact goodNext_calm (good_oscFail _ hs)
  | perstN => exact goodNext_event hs (good_perstEvent _ _ hs)
  | pcieInboundAccess => exact goodNext_event hs (good_pcieInbound _ _ _ _ _ _ _ (good_trafficErrs _ _ _ hs))
  | pcieLinkDown => exact goodNext_event hs (good_pcieDown _ hs)
  | paceWindowEnd => exact goodNext_quiet hs (good_gaugeEnd _ _ _ hs)
  | loopPeriodEnd => exact goodNext_event hs (good_loopPeriodEnd _ hs)
  | loopSettleEnd => exact goodNext_event hs (good_loopSettleEnd _ hs)
  | loopHoldEnd => exact goodNext_event hs (good_loopHoldEnd _ hs)
  | pmbusTransactionDone => exact goodNext_outlast (good_loopTransaction _ _ _ hs)
  | pmbusTimeout => exact goodNext_outlast (good_loopTimeout _ hs)
  | latchPoint => exact goodNext_event hs (good_latchEvent _ _ _ hs)
  | spriteSnapshotRead => exact goodNext_quiet hs (good_snapshotRead _ _ _ _ hs)
  | lineRelease => exact goodNext_quiet hs (good_wbDrain _ _ _ (good_lineRelease _ _ _ hs))
  | lineListExecute => exact goodNext_quiet hs (good_listExecute _ _ _ hs)
  | beamEntryIssue => exact goodNext_quiet hs (good_beamIssue _ _ _ hs)
  | beamEntryLost => exact goodNext_quiet hs (good_beamLost _ _ hs)
  | granuleAnswer => exact goodNext_quiet hs (good_granuleAnswer _ _ _ _ _ hs)
  | stitchRun => exact goodNext_quiet hs (good_stitchRun _ _ hs)
  | lineDone => exact goodNext_quiet hs (good_lineDone _ _ _ hs)
  | soleLineAbandon => exact goodNext_quiet hs (good_abandonDue _ _ hs)
  | headUnderrun => exact goodNext_quiet hs (good_headUnderrun _ _ _ hs)
  | rectCrcCompare => exact goodNext_quiet hs (good_rectCompare _ _ _ hs)
  | writebackDrop => exact goodNext_quiet hs (good_wbLate _ _ hs)
  | writebackDone => exact goodNext_quiet hs (good_wbDone _ _ (good_wbDrain _ _ _ hs))
  | picturePacketSend => exact goodNext_quiet hs (good_pictureSend _ _ _ _ hs)
  | referenceEvent => exact goodNext_event hs (good_refEdge _ _ _ _ _ hs)
  | referenceAbsent => exact goodNext_event hs (good_refAbsent _ _ hs)
  | headFrameRead | claimRead | timeLoRead | captureRead | perdataRead => exact goodNext_didRead hs
  | poolTackGrant => exact goodNext_quiet hs (good_poolGrant _ _ hs)
  | memTrainingDone => exact goodNext_event hs (good_trainingDone _ _ _ _ hs)
  | memDeviceTempRead => exact goodNext_quiet hs (good_memTemp _ _ hs)
  | memShortRetrain => exact goodNext_quiet hs (good_memRetrain _ _ _ hs)
  | eccInitDone => exact goodNext_quiet hs (good_eccInit _ _ hs)
  | weltTrainingDone => exact goodNext_event hs (good_weltTrained _ _ _ _ _ _ _ hs)
  | weltTrainingAttempt => exact goodNext_event hs (good_weltAttempt _ _ _ _ _ _ _ hs)
  | laneFail => exact goodNext_event hs (good_laneFail _ _ _ _ _ hs)
  | spareFail => exact goodNext_event hs (good_spareFail _ _ hs)
  | referenceLost => exact goodNext_quiet hs (good_refLost _ hs)
  | referenceRegained => exact goodNext_quiet hs (good_refBack _ hs)
  | dpHpdRise => exact goodNext_event hs (good_hpdOn _ _ hs)
  | dpHpdLow => exact goodNext_event hs (good_hpdLow _ _ hs)
  | dpIrqHpd => exact goodNext_event hs (good_hpdPulse _ _ _ hs)
  | dpTrainingDone => exact goodNext_event hs (good_dpTrained _ _ _ _ _ _ _ hs)
  | eyeScanDone => exact goodNext_quiet hs (good_scanDone _ _ _ _ hs)
  | weltFrameReceive => exact goodNext_event hs (good_frameIn _ _ _ _ _ _ (good_trafficErrs _ _ _ hs))
  | weltReplay => exact goodNext_quiet hs (good_weltReplay _ _ _ hs)
  | weltPacketSend => exact goodNext_quiet hs (good_weltEmit _ _ _ _ hs)
  | tilereqRead | tilereqWrite | tilereqTileread => exact goodNext_quiet hs (good_tileServe _ _ _ hs)
  | tileansReceive => exact goodNext_event hs (good_tileAnsIn _ hs)
  | remoteTimeout => exact goodNext_event hs (good_remTimeout _ _ hs)
  | timeSyncSend => exact goodNext_quiet hs (good_syncSend _ hs)
  | timeDreqSend => exact goodNext_quiet hs (good_dreqSend _ hs)
  | timeSyncReceive | timeDreqReceive | timeDrespReceive => exact goodNext_quiet hs (good_timeIn _ _ hs)
  | timeSyncLoss => exact goodNext_quiet hs (good_syncLoss _ hs)
  | picturePacketReceive => exact goodNext_quiet hs (good_pictureIn _ _ hs)
  | audioMessageReceive => exact goodNext_quiet hs (good_audioIn _ hs)
  | sensePacketReceive => exact goodNext_quiet hs (good_senseIn _ _ hs)
  | bootFlashReadDone => exact goodNext_event hs (good_flashCopy _ _ hs)
  | bootEntryLoaded => exact goodNext_event hs (good_bootEntry _ _ _ hs)
  | fuseWriteDone => exact goodNext_event hs (good_fuseEnd _ hs)
  | awlNop => exact goodNext_runOp hs fun _ => good_advance _ _ hs
  | awlMov | awlLdi | awlLdhi | awlRetag | awlGettag => exact goodNext_runOp hs fun _ => good_resultG _ _ _ _ hs
  | awlTtst => exact goodNext_runOp hs fun _ => good_advance _ _ (good_setFlags _ _ _ hs)
  | awlAdd | awlSub | awlAdc | awlSbc | awlCmp | awlMul | awlMulh | awlMin | awlMax | awlAnd | awlOr | awlXor | awlTst =>
    exact goodNext_quiet hs (good_run2 _ _ _ _ hs)
  | awlNeg | awlNot => exact goodNext_quiet hs (good_run1 _ _ _ _ _ hs)
  | awlAddi | awlCmpi | awlShl | awlShr | awlSar => exact goodNext_quiet hs (good_runImm _ _ _ _ _ hs)
  | awlDiv | awlRem => exact goodNext_quiet hs (good_runDiv _ _ _ _ hs)
  | awlLd | awlSt | awlLd2 | awlSt2 => exact goodNext_event hs (good_runMem _ _ _ _ _ _ hs)
  | awlIn | awlOut => exact goodNext_event hs (good_runIo _ _ _ _ _ hs)
  | awlBkset => exact goodNext_runOp hs fun _ => good_advance _ _ (good_setBank _ _ _ _ hs)
  | awlBkget => exact goodNext_runOp hs fun _ => good_advance _ _ (good_setGs _ _ _ _ hs)
  | awlB => exact goodNext_runOp hs fun _ => good_jump _ _ _ hs
  | awlCall => exact goodNext_runOp hs fun _ => good_jump _ _ _ (good_setG _ _ _ _ hs)
  | awlJmp | awlCallr => exact goodNext_quiet hs (good_runJmp _ _ _ _ hs)
  | awlRep => exact goodNext_quiet hs (good_runRep _ _ hs)
  | awlLock => exact goodNext_quiet hs (good_runLock _ _ hs)
  | awlUnlock => exact goodNext_quiet hs (good_runUnlock _ _ hs)
  | awlSetie => exact goodNext_runOp hs fun _ => good_advance _ _ (good_set _ _ _ hs)
  | awlWfi => exact goodNext_quiet hs (good_runWfi _ _ hs)
  | awlWfiWake => exact goodNext_quiet hs (good_wfiWake _ _ hs)
  | awlTrap => exact goodNext_quiet hs (good_runTrap _ _ hs)
  | awlReti => exact goodNext_quiet hs (good_runReti _ _ hs)
  | awlLockBreak => exact goodNext_quiet hs (good_lockBreak _ _ hs)
  | irqAccept => exact goodNext_quiet hs (good_irqAccept _ _ hs)
  | msixIssue => exact goodNext_quiet hs (good_msixIssue _ _ hs)
  | holdoffExpiry => exact goodNext_quiet hs (good_holdoffEnd _ _ hs)
  | compareFire => exact goodNext_quiet hs (good_compareFire _ _ hs)
  | captureEdge => exact goodNext_quiet hs (good_captureEdge _ _ _ hs)
  | watchdogWarning => exact goodNext_quiet hs (good_wdWarning _ _ hs)
  | watchdogExpiry => exact goodNext_event hs (good_wdExpiry _ _ hs)
  | eyeletEvent => exact goodNext_quiet hs (good_eyeSample _ _ _ hs)
  | i2cCommandDone => exact goodNext_event hs (good_i2cDone _ _ _ _ _ _ hs)
  | uartRxByte => exact goodNext_quiet hs (good_uartRx _ _ _ _ hs)
  | uartTxByte => exact goodNext_quiet hs (good_uartTx _ _ _ hs)
  | paletteWrite | lutWrite | voiceTableWrite => exact goodNext_quiet hs (good_arrayWrite _ _ _ _ _ hs)
  | laceDescriptorRead => exact goodNext_event hs (good_laceDesc _ _ _ hs)
  | laceBeat => exact goodNext_event hs (good_laceBeat _ _ _ hs)
  | laceReadAnswer => exact goodNext_event hs (good_laceAnswer _ _ _ hs)
  | laceDescriptorDone => exact goodNext_event hs (good_laceDone _ _ hs)
  | laceTimeout => exact goodNext_event hs (good_laceTimeout _ _ hs)
  | skiverCommandRead => exact goodNext_event hs (good_skiverRead _ _ hs)
  | skEnd => exact goodNext_event hs (good_skEnd _ hs)
  | skCopy | skFill | skGlyph | skKeycopy => exact goodNext_event hs (good_skRect _ _ _ hs)
  | skWait => exact goodNext_event hs (good_skWait _ hs)
  | skJump => exact goodNext_event hs (good_skJump _ hs)
  | skiverWaitEnd => exact goodNext_event hs (good_skWaitEnd _ hs)
  | skiverCommandDone => exact goodNext_event hs (good_skiverNext _ hs)
  | skiverTimeout => exact goodNext_event hs (good_skiverTimeout _ hs)
  | keyEventApply => exact goodNext_quiet hs (good_render _ _ _ hs fun _ => good_keyApply _ _ _)
  | audioBlockBoundary => exact goodNext_event hs (good_render _ _ _ hs fun _ => good_blockTick _ _)
  | audioBlockLate => exact goodNext_quiet hs (good_blockLate _ _ hs)
  | gainTimeout => exact goodNext_quiet hs (good_render _ _ _ hs fun _ => good_gainTimeout _ _ _)
  | domainSourceLoss => exact goodNext_quiet hs (good_domLoss _ _ hs)
  | portClockLoss => exact goodNext_quiet hs (good_portLoss _ _ hs)
  | insoleStepSlot => exact goodNext_event hs (good_stepSlot _ _ _ _ hs)
  | scanFrameEnd => exact goodNext_event hs (good_scanEnd _ _ _ hs)
  | sensorConversion => exact goodNext_event hs (good_sensorConvert _ _ _ hs)
  | thermistorStale => exact goodNext_event hs (good_thermStale _ _ hs)
  | pwmPeriodStart => exact goodNext_event hs (good_pwmStart _ hs)
  | heaterPeriodStart => exact goodNext_event hs (good_heaterStart _ _ hs)
  | heaterOnEnd => exact goodNext_event hs (good_heaterEnd _ _ _ hs)
  | heaterOvercurrent => exact goodNext_event hs (good_heaterTrip _ _ hs)
  | keepaliveExpiry => exact goodNext_event hs (good_keepExpire _ hs)
  | dbgId => exact goodNext_event hs (good_dbgFrame _ _ _ _ hs good_dbgIdOp)
  | dbgChallenge => exact goodNext_event hs (good_dbgFrame _ _ _ _ hs good_dbgChallengeOp)
  | dbgUnlockPut => exact goodNext_event hs (good_dbgFrame _ _ _ _ hs fun _ => good_dbgPutOp _ _)
  | dbgUnlockCheck => exact goodNext_event hs (good_dbgFrame _ _ _ _ hs good_dbgCheckOp)
  | dbgRead => exact goodNext_event hs (good_dbgAccess _ _ _ _ hs fun _ => good_dbgReadOp _ _ _)
  | dbgWrite => exact goodNext_event hs (good_dbgAccess _ _ _ _ hs fun _ => good_dbgWriteOp _ _ _)
  | debugBreak => exact goodNext_event hs (good_dbgPulse _ hs)
  | debugFramingError => exact goodNext_event hs (good_framingHeard _ (good_dbgPulse _ hs))
  | debugFrameGap => exact goodNext_quiet hs (good_framingHeard _ hs)
  | dbgrstLongLow => exact goodNext_settled (good_assertReset _ _ hs)
  | haltReached => exact goodNext_event hs (good_haltReached _ _ hs)
  | stepDone => exact goodNext_event hs (good_stepDone _ hs)
  | stepStall => exact goodNext_event hs (good_stepStall _ hs)
  | supplyRecovery => exact goodNext_settled (good_supplyBack _ _ hs)
  | backupSupplyLoss => exact goodNext_settled (good_backupLost _ hs)
  | pcieLinkUp => exact goodNext_event hs (good_linkUp _ _ _ _ hs)
  | checkerSync => exact goodNext_quiet hs (good_checkerSync _ _ _ hs)
  | checkerSyncLoss => exact goodNext_quiet hs (good_checkerLoss _ _ _ hs)
  | serialPartialWord => exact goodNext_event hs (good_serialCut _ hs)
  | debugUnknownOp => exact goodNext_event hs (good_dbgUnknown _ _ _ hs)
  | awlReservedEncoding => exact goodNext_quiet hs (good_reservedEnc _ _ hs)
  | tjUpdate => exact goodNext_event hs (good_tjUpdate _ _ hs)

theorem goodNext_step {s : State} (hs : Good s) : GoodNext (step s) := by
  unfold step
  split
  · exact goodNext_next (good_tick s hs)
  · exact goodNext_exec _ hs

/-- Settles O53: canonical form is an invariant of `exec` command by command, and of the tick of an empty queue. -/
theorem stepKeepsCanonicalForm : Obligations.StepKeepsCanonicalForm := fun _ t hm hr h => goodNext_step ⟨hm, hr⟩ t h

end Sys2Proof.Machine
end

section
/-! Whole registers and their access types (R11): what a register holds after a write, by its entry in the register table. -/
namespace Sys2Proof.Machine

/-! ## Whole registers -/

@[simp] theorem regN_setRegN_same (s : State) (k v : Nat) : (s.setRegN k v).regN k = v % 2 ^ 28 := by
  unfold State.regN State.setRegN
  rw [reg_setReg_same, BitVec.toNat_ofNat]

theorem reg_setRegN_other (s : State) {k j : Nat} (v : Nat) (h : j ≠ k) : (s.setRegN k v).reg j = s.reg j :=
  reg_setReg_other s k j _ h

theorem regN_setRegN_other (s : State) {k j : Nat} (v : Nat) (h : j ≠ k) : (s.setRegN k v).regN j = s.regN j :=
  congrArg BitVec.toNat (reg_setRegN_other s v h)

theorem regN_lt (s : State) (k : Nat) : s.regN k < 2 ^ 28 := (s.reg k).isLt

@[simp] theorem regN_plainWrite_same (s : State) (k v : Nat) :
    (s.plainWrite k v).regN k = writeByAccess k (s.regN k) v % 2 ^ 28 :=
  regN_setRegN_same s k _

theorem regN_plainWrite_other (s : State) {k j : Nat} (v : Nat) (h : j ≠ k) : (s.plainWrite k v).regN j = s.regN j :=
  regN_setRegN_other s _ h

theorem get_eq_regN (s : State) (f : Fd) : s.get f = s.regN f.key / 2 ^ f.lo % 2 ^ f.w := rfl

theorem flag_eq_nbit (s : State) {f : Fd} (h : f.w = 1) : s.flag f = nbit (s.regN f.key) f.lo := by
  unfold State.flag nbit
  rw [get_eq_regN, h, pow_one]
  have : s.regN f.key / 2 ^ f.lo % 2 = 0 ∨ s.regN f.key / 2 ^ f.lo % 2 = 1 := by omega
  rcases this with h | h <;> rw [h] <;> rfl

theorem regsOnly_setRegN {p : Nat → Prop} (s : State) {k : Nat} (v : Nat) (h : p k) : RegsOnly p s (s.setRegN k v) :=
  ⟨rfl, fun _ hj => reg_setRegN_other s v fun e => hj (e ▸ h)⟩

theorem regsOnly_plainWrite {p : Nat → Prop} (s : State) {k : Nat} (v : Nat) (h : p k) : RegsOnly p s (s.plainWrite k v) :=
  regsOnly_setRegN s _ h

theorem regsOnly_withTongue {p : Nat → Prop} {s t : State} (h : RegsOnly p s t) : RegsOnly p s { t with tongue := s.tongue } :=
  ⟨congrArg (fun x : State => { x with tongue := s.tongue }) h.1, h.2⟩

/-! ## Access types -/

/-- What a write leaves in a register whose table entry lists the fields `fs` (R11). -/
theorem writeByAccess_of_fields {k : Nat} {fs : List FieldSpec} (h : (specAt k).map RegSpec.fields = some fs) (old v : Nat) :
    writeByAccess k old v = fs.foldl (fun a f => a + writeField old v f) 0 := by
  obtain ⟨r, hr, rfl⟩ := Option.map_eq_some_iff.mp h
  unfold writeByAccess
  rw [hr]

/-! ## What follows a direct write -/

/-- The watchpoints' registers lie in the blocks of the debug port, the cores and the watchpoint table. -/
theorem block_of_watchKey {k : Nat} (h : watchKey k) : k / 0x10000 = 0x08 ∨ k / 0x10000 = 0x40 ∨ k / 0x10000 = 0x111 := by
  unfold watchKey Rg.DBG_RUN Rg.DBG_HITLO Rg.DBG_HITHI Rg.WPCTL Rg.AWL_STAT at h
  rcases h with rfl | rfl | rfl | ⟨i, hi, rfl⟩ | ⟨n, hn, rfl⟩ <;> omega

theorem regN_afterWrite (s : State) (m k v : Nat) (e : Env) {j : Nat} (h : ¬ watchKey j) :
    (s.afterWrite m k v e).regN j = (s.writeReg (ownerOfMaster m) k v { beam := e.beam }).regN j :=
  congrArg BitVec.toNat (reg_afterWrite s m k v e j h)

/-- `s` with what every direct access may change: registers, the answer and the outstanding remote requests. -/
def State.withAccess (s : State) (r : List (Nat × RegVal)) (b : BusAns) (q : List RemReq) : State :=
  { s with regs := r, bus := b, welt := { s.welt with reqs := q } }

/-- All that a taken direct write leaves, against what the register's own write left. -/
theorem afterWrite_eq_withAccess (s : State) (m k v : Nat) (e : Env) :
    s.afterWrite m k v e = (s.writeReg (ownerOfMaster m) k v { beam := e.beam }).withAccess (s.afterWrite m k v e).regs .done
      (s.afterWrite m k v e).welt.reqs := by
  have h := congrArg (fun x : State => x.withAccess (s.afterWrite m k v e).regs .done (s.afterWrite m k v e).welt.reqs)
    (regsOnly_wpBus (s.writeReg (ownerOfMaster m) k v { beam := e.beam }) m (0xFF00000000 + k) 4 true).1
  exact h

/-- A direct write changes what its register's own write changes and what `AccessOnly` allows every access. The statement is
seen through a `g` that forgets some part of the state and leaves alone what an access may change. -/
theorem accessOnly_afterWrite {p : Nat → Prop} {s : State} {m k v : Nat} {e : Env} (g : State → State)
    (hg : ∀ x r b q, g (x.withAccess r b q) = (g x).withAccess r b q)
    (h : RegsOnly p s (g (s.writeReg (ownerOfMaster m) k v { beam := e.beam }))) : AccessOnly p s (g (s.afterWrite m k v e)) := by
  have ht := afterWrite_eq_withAccess s m k v e
  have hr := reg_afterWrite s m k v e
  generalize s.afterWrite m k v e = t at ht hr
  generalize s.writeReg (ownerOfMaster m) k v { beam := e.beam } = w at ht hr h
  have hgt : g t = (g w).withAccess t.regs .done t.welt.reqs := by rw [← hg, ← ht]
  have hgw : (g w).regs = w.regs := (congrArg State.regs (hg w w.regs w.bus w.welt.reqs) :)
  refine ⟨?_, fun j hj => ?_⟩
  · rw [hgt]
    exact congrArg (fun x : State => x.withAccess x.regs s.bus s.welt.reqs) h.1
  · rw [not_or] at hj
    calc (g t).reg j = t.reg j := by rw [hgt]; rfl
      _ = w.reg j := hr j hj.2
      _ = (g w).reg j := by unfold State.reg; rw [hgw]
      _ = s.reg j := h.2 j hj.1

end Sys2Proof.Machine
end

section
/-! Writes of the rings' registers, of the owner table and of registers without a rule of their own (R11, R398, R408, R416). -/
namespace Sys2Proof.Machine

/-! ## Which register a ring's key names -/

/-- The source of ring `r`: the PCIe mailbox or a core (R398). -/
def ringSrc (r : Fin 5) : Src := if h : r.val = 0 then .pcie else .core ⟨r.val - 1, by omega⟩

theorem ringKeys_ringSrc (r : Fin 5) : ringKeys (ringSrc r) = some (ringKey r, cptrKey r, rptrKey r) := by
  revert r
  decide

theorem ringKeys_distinct (r : Fin 5) : cptrKey r ≠ ringKey r ∧ rptrKey r ≠ ringKey r ∧ rptrKey r ≠ cptrKey r := by
  revert r
  decide

theorem ringKeys_block (r : Fin 5) : ∀ k ∈ [ringKey r, cptrKey r, rptrKey r], k / 0x10000 = 0x01 ∨ k / 0x10000 = 0x38 := by
  revert r
  decide

theorem not_watchKey_ring (r : Fin 5) {k : Nat} (hk : k ∈ [ringKey r, cptrKey r, rptrKey r]) : ¬ watchKey k := by
  intro h
  have hw := block_of_watchKey h
  have hb := ringKeys_block r k hk
  omega

theorem ne_fusecmd_ring (r : Fin 5) {k : Nat} (hk : k ∈ [ringKey r, cptrKey r, rptrKey r]) : k ≠ Rg.SEC_FUSECMD := by
  rintro rfl
  have hb := ringKeys_block r _ hk
  unfold Rg.SEC_FUSECMD at hb
  omega

theorem ringKey_fields (r : Fin 5) : (specAt (ringKey r)).map RegSpec.fields =
    some [⟨27, 27, .rw, .val 0, .val 0, .val 0⟩, ⟨24, 0, .rw, .val 0, .val 0, .val 0⟩] := by
  revert r
  decide

theorem cptrKey_fields (r : Fin 5) : (specAt (cptrKey r)).map RegSpec.fields =
    some [⟨27, 27, .w1c, .val 0, .val 0, .val 0⟩, ⟨25, 13, .ro, .val 0, .val 0, .val 0⟩, ⟨12, 0, .rw, .val 0, .val 0, .val 0⟩] := by
  revert r
  decide

theorem rptrKey_fields (r : Fin 5) : (specAt (rptrKey r)).map RegSpec.fields =
    some [⟨27, 27, .ro, .val 0, .val 0, .val 0⟩, ⟨26, 26, .ro, .val 0, .val 0, .val 0⟩, ⟨25, 13, .ro, .val 0, .val 0, .val 0⟩,
      ⟨12, 0, .rw, .val 0, .val 0, .val 0⟩] := by
  revert r
  decide

/-- A write of one of a ring's registers reaches the ring's own rule. -/
theorem writeReg_ring (s : State) (o v : Nat) (c : WriteCtx) (r : Fin 5) {k : Nat} (hk : k ∈ [ringKey r, cptrKey r, rptrKey r]) :
    s.writeReg o k v c = s.writeRingReg (ringSrc r) k v := by
  simp only [List.mem_cons, List.not_mem_nil, or_false] at hk
  fin_cases r <;> rcases hk with rfl | rfl | rfl <;> rfl

theorem writeReg_ringKey (s : State) (o v : Nat) (c : WriteCtx) (r : Fin 5) :
    s.writeReg o (ringKey r) v c = s.writeRing (ringSrc r) (ringKey r) (cptrKey r) (rptrKey r) v := by
  rw [writeReg_ring s o v c r (by simp)]
  unfold State.writeRingReg
  rw [ringKeys_ringSrc]
  exact if_pos rfl

theorem writeReg_ringPtr (s : State) (o v : Nat) (c : WriteCtx) (r : Fin 5) {k : Nat} (hk : k ∈ [cptrKey r, rptrKey r]) :
    s.writeReg o k v c = s.writePtr (ringKey r) (cptrKey r) k v := by
  have hne : k ≠ ringKey r := by
    obtain ⟨hc, hp, -⟩ := ringKeys_distinct r
    simp only [List.mem_cons, List.not_mem_nil, or_false] at hk
    rcases hk with rfl | rfl
    · exact hc
    · exact hp
  rw [writeReg_ring s o v c r (List.mem_cons_of_mem _ hk)]
  unfold State.writeRingReg
  rw [ringKeys_ringSrc]
  exact if_neg hne

/-! ## What a ring's registers hold after a write -/

theorem ringEn_writeByAccess (r : Fin 5) (old v : Nat) : nbit (writeByAccess (ringKey r) old v % 2 ^ 28) 27 = nbit v 27 := by
  rw [writeByAccess_of_fields (ringKey_fields r)]
  have h : (0 + v / 2 ^ 27 % 2 ^ 1 * 2 ^ 27 + v / 2 ^ 0 % 2 ^ 25 * 2 ^ 0) % 2 ^ 28 / 2 ^ 27 % 2 = v / 2 ^ 27 % 2 := by omega
  exact congrArg (· == 1) h

/-- The low index of a ring's pointer register takes the write, CPROD and RCONS both (R418, R419). -/
theorem ringPtr_writeByAccess (r : Fin 5) {k : Nat} (hk : k ∈ [cptrKey r, rptrKey r]) (old v : Nat) :
    writeByAccess k old v % 2 ^ 28 % 2 ^ 13 = v % 2 ^ 13 := by
  simp only [List.mem_cons, List.not_mem_nil, or_false] at hk
  rcases hk with rfl | rfl
  · rw [writeByAccess_of_fields (cptrKey_fields r)]
    simp only [List.foldl, writeField, nbits]
    omega
  · rw [writeByAccess_of_fields (rptrKey_fields r)]
    simp only [List.foldl, writeField, nbits]
    omega

section
variable (s : State) (src : Src) {r c p v : Nat}

theorem writeRing_of_off (hv : nbit v 27 = false) :
    s.writeRing src r c p v = ((s.plainWrite r v).endSession src).setRegN p ((s.plainWrite r v).regN p % 2 ^ 26) := by
  unfold State.writeRing
  exact if_neg (by simp [hv])

theorem writeRing_of_still_on (hv : nbit v 27 = true) (hw : s.ringEn r = true) : s.writeRing src r c p v = s.plainWrite r v := by
  unfold State.writeRing
  exact (if_pos hv).trans (if_pos hw)

theorem writeRing_of_rising (hv : nbit v 27 = true) (hw : s.ringEn r = false) :
    s.writeRing src r c p v = let u := (s.plainWrite r v).setRegN c ((s.plainWrite r v).regN c / 2 ^ 26 * 2 ^ 26)
      u.setRegN p ((s.plainWrite r v).regN p / 2 ^ 26 * 2 ^ 26) := by
  unfold State.writeRing
  exact (if_pos hv).trans (if_neg (by simp [hw]))

theorem regN_writeRing_ring (hc : c ≠ r) (hp : p ≠ r) :
    (s.writeRing src r c p v).regN r = writeByAccess r (s.regN r) v % 2 ^ 28 := by
  rw [← regN_plainWrite_same]
  cases hv : nbit v 27 with
  | false =>
    rw [writeRing_of_off s src hv, regN_setRegN_other _ _ hp.symm]
    rfl
  | true =>
    cases hw : s.ringEn r with
    | false => rw [writeRing_of_rising s src hv hw, regN_setRegN_other _ _ hp.symm, regN_setRegN_other _ _ hc.symm]
    | true => rw [writeRing_of_still_on s src hv hw]

/-- EN rising clears a ring's indices (R398). -/
theorem regN_writeRing_rising (hc : c ≠ r) (hp : p ≠ r) (hpc : p ≠ c) (hw : s.ringEn r = false) (hv : nbit v 27 = true) :
    (s.writeRing src r c p v).regN c = s.regN c / 2 ^ 26 * 2 ^ 26 ∧
    (s.writeRing src r c p v).regN p = s.regN p / 2 ^ 26 * 2 ^ 26 := by
  have hcl := regN_lt s c
  have hpl := regN_lt s p
  rw [writeRing_of_rising s src hv hw, regN_plainWrite_other _ _ hc, regN_plainWrite_other _ _ hp]
  constructor
  · rw [regN_setRegN_other _ _ hpc.symm, regN_setRegN_same]
    omega
  · rw [regN_setRegN_same]
    omega

/-- EN 0 discards the replies that wait on a ring (R398). -/
theorem replies_writeRing_off (hv : nbit v 27 = false) {x : Reply} (hx : x ∈ (s.writeRing src r c p v).tongue.replies) :
    x.src ≠ src := by
  rw [writeRing_of_off s src hv] at hx
  have h : x ∈ s.tongue.replies.filter (fun y => y.src != src) := hx
  simpa using (List.mem_filter.mp h).2

theorem regsOnly_writeRing :
    RegsOnly (fun k => k = r ∨ k = c ∨ k = p) s { s.writeRing src r c p v with tongue := s.tongue } := by
  have h1 : RegsOnly (fun k => k = r ∨ k = c ∨ k = p) s (s.plainWrite r v) := regsOnly_plainWrite s v (.inl rfl)
  cases hv : nbit v 27 with
  | false =>
    rw [writeRing_of_off s src hv]
    generalize (s.plainWrite r v).regN p % 2 ^ 26 = x
    exact regsOnly_trans h1 (regsOnly_setRegN _ x (.inr (.inr rfl)))
  | true =>
    cases hw : s.ringEn r with
    | false =>
      rw [writeRing_of_rising s src hv hw]
      exact regsOnly_withTongue
        (regsOnly_trans (regsOnly_trans h1 (regsOnly_setRegN _ _ (.inr (.inl rfl)))) (regsOnly_setRegN _ _ (.inr (.inr rfl))))
    | true =>
      rw [writeRing_of_still_on s src hv hw]
      exact regsOnly_withTongue h1

end

/-! ## The owner table -/

theorem own_fields {d : Nat} (h : d < 192) : (specAt (Rg.OWN d)).map RegSpec.fields =
    some [⟨4, 4, .w1s, .val 0, .val 0, .kept⟩, ⟨3, 0, .rw, .val 0, .val 0, .kept⟩] := by
  have hk : Rg.OWN d % 0x2000000 = 0x1030000 + d * 4 := by unfold Rg.OWN; omega
  have hb : (0x1030000 + d * 4) / 0x10000 = 0x103 := by omega
  have hc : ∀ f, RegSpec.covers ⟨0x1030000, 192, 0x4, 1, 4, f⟩ (0x1030000 + d * 4) = true := by
    intro f
    simp [RegSpec.covers, h]
  unfold specAt
  rw [hk]
  dsimp only
  rw [hb]
  exact congrArg (Option.map RegSpec.fields) (List.find?_cons_of_pos (hc _))

theorem flag_ownLock (s : State) (d : Nat) : s.flag (Fd.OWN_LOCK d) = nbit (s.regN (Rg.OWN d)) 4 := flag_eq_nbit s rfl

/-- A writer that may sets a domain's OWNER and LOCK (R408). -/
theorem writeOwner_of_may {s : State} {w v : Nat} (hd : s.ownIx w < 192) (hr : ¬ (52 ≤ s.ownIx w ∧ s.ownIx w < 64))
    (hl : s.flag (Fd.OWN_LOCK (s.ownIx w)) = false) (hv : v % 16 ≠ 7) (hw : w ≠ 0)
    (hm : s.get (Fd.OWN_OWNER (s.ownIx w)) = w ∨ (s.get (Fd.OWN_OWNER (s.ownIx w)) = 0 ∧ v % 16 = w) ∨
      (s.get (Fd.OWN_OWNER 1) = w ∧ s.ownIx w ≠ 1) ∨ w = 7) :
    s.writeOwner w v = s.plainWrite (Rg.OWN (s.ownIx w)) v := by
  unfold State.writeOwner
  refine if_pos ?_
  have hu : (decide (52 ≤ s.ownIx w) && decide (s.ownIx w < 64)) = false := by simpa using hr
  simp only [hd, hu, hl, decide_true, Bool.not_false, Bool.and_self, Bool.true_and, Bool.and_eq_true,
    Bool.or_eq_true, bne_iff_ne, beq_iff_eq]
  exact ⟨⟨hv, hw⟩, by tauto⟩

theorem writeByAccess_own {d old : Nat} (v : Nat) (hd : d < 192) (hl : nbit old 4 = false) :
    writeByAccess (Rg.OWN d) old v % 2 ^ 28 = v % 32 := by
  have hz : nbits old 4 4 = 0 := by
    unfold nbit at hl
    unfold nbits
    simp only [beq_eq_false_iff_ne, ne_eq] at hl
    omega
  rw [writeByAccess_of_fields (own_fields hd)]
  simp only [List.foldl, writeField, hz]
  rw [show Nat.lor 0 (nbits v 4 4) = nbits v 4 4 from Nat.zero_or _]
  unfold nbits
  omega

/-! ## Registers without a rule of their own -/

theorem plainKey_block {k : Nat} (h : plainKey k = true) : k / 0x10000 = 0x02 ∨ k / 0x10000 = 0x14 ∨ k / 0x10000 = 0x18 := by
  unfold plainKey at h
  split at h
  · exact .inl ‹_›
  · exact .inr (.inl ‹_›)
  · exact .inr (.inr ‹_›)
  · exact absurd h Bool.false_ne_true

theorem inArr_eq_false {k base n stride : Nat} (h : k < base ∨ base + n * stride ≤ k) : inArr k base n stride = false := by
  by_contra hi
  simp only [inArr, Bool.not_eq_false, Bool.and_eq_true, decide_eq_true_eq] at hi
  omega

theorem writeReg_plainKey (s : State) {k : Nat} (o v : Nat) (c : WriteCtx) (h : plainKey k = true) :
    s.writeReg o k v c = s.plainWrite k v := by
  have hb := plainKey_block h
  unfold plainKey at h
  unfold State.writeReg
  rcases hb with hb | hb | hb
  all_goals
    rw [hb] at h ⊢
  · exact if_neg (by simpa using h)
  · have hc : inArr k (Rg.HD_CTL 0) 16 0x1000 = false := inArr_eq_false (by unfold Rg.HD_CTL; omega)
    have hs : inArr k (Rg.HD_STAT 0) 16 0x1000 = false := inArr_eq_false (by unfold Rg.HD_STAT; omega)
    have hw : inArr k (Rg.HD_WBCTL 0) 16 0x1000 = false := inArr_eq_false (by unfold Rg.HD_WBCTL; omega)
    unfold State.writePict
    simp only [Bool.and_eq_true, Bool.not_eq_true'] at h
    simp [h, hc, hs, hw]
  · have hp : inArr k (Rg.SL_PACE 0) 16 0x1000 = false := inArr_eq_false (by unfold Rg.SL_PACE; omega)
    have hs : inArr k (Rg.SL_SLACK 0) 16 0x1000 = false := inArr_eq_false (by unfold Rg.SL_SLACK; omega)
    unfold State.writePict
    simp only [Bool.and_eq_true, Bool.not_eq_true'] at h
    simp [h, hp, hs]

/-! ## The writes as commands -/

section
variable {m : Fin 32} {s : State} {v : BitVec 28} {e : Env}

theorem ringEnable_writes (r : Fin 5) (h : Taken s m (ringKey r) v.toNat) :
    Writes (.ringEnable r m v e) s (fun t =>
      (s.ringEn (ringKey r) = false ∧ nbit v.toNat 27 = true → t.regN (cptrKey r) = s.regN (cptrKey r) / 2 ^ 26 * 2 ^ 26 ∧
        t.regN (rptrKey r) = s.regN (rptrKey r) / 2 ^ 26 * 2 ^ 26) ∧
      t.ringEn (ringKey r) = nbit v.toNat 27 ∧
      (nbit v.toNat 27 = false → ∀ x, x ∈ t.tongue.replies → x.src ≠ ringSrc r) ∧
      AccessOnly (fun k => k = ringKey r ∨ k = cptrKey r ∨ k = rptrKey r) s { t with tongue := s.tongue }) := by
  obtain ⟨hcr, hpr, hpc⟩ := ringKeys_distinct r
  have hw := writeReg_ringKey s (ownerOfMaster m) v.toNat { beam := e.beam } r
  have hreg : ∀ k ∈ [ringKey r, cptrKey r, rptrKey r], (s.afterWrite m (ringKey r) v.toNat e).regN k =
      (s.writeRing (ringSrc r) (ringKey r) (cptrKey r) (rptrKey r) v.toNat).regN k := fun k hk => by
    rw [regN_afterWrite s m _ _ e (not_watchKey_ring r hk), hw]
  refine writes_of rfl h (ne_fusecmd_ring r (by simp)) ⟨?_, ?_, ?_, ?_⟩
  · rintro ⟨hoff, hon⟩
    rw [hreg _ (by simp), hreg _ (by simp)]
    exact regN_writeRing_rising s (ringSrc r) hcr hpr hpc hoff hon
  · unfold State.ringEn
    rw [hreg _ (by simp), regN_writeRing_ring s (ringSrc r) hcr hpr, ringEn_writeByAccess]
  · intro hoff x hx
    rw [afterWrite_eq_withAccess, hw] at hx
    exact replies_writeRing_off s (ringSrc r) hoff hx
  · refine accessOnly_afterWrite (fun t => { t with tongue := s.tongue }) (fun _ _ _ _ => rfl) ?_
    rw [hw]
    exact regsOnly_writeRing s (ringSrc r)

/-- A direct write that is the plain write of register `j` leaves there what the access types say and changes nothing else. -/
theorem plainWrite_writes {c : Instr} {k j : Nat} (hx : exec c s = wrote s m k v e) (h : Taken s m k v.toNat)
    (hk : k ≠ Rg.SEC_FUSECMD) (hj : ¬ watchKey j)
    (hw : s.writeReg (ownerOfMaster m) k v.toNat { beam := e.beam } = s.plainWrite j v.toNat) {P : State → Prop}
    (hp : ∀ t, t.regN j = writeByAccess j (s.regN j) v.toNat % 2 ^ 28 → AccessOnly (fun i => i = j) s t → P t) :
    Writes c s P := by
  refine writes_of hx h hk (hp _ ?_ ?_)
  · rw [regN_afterWrite s m _ _ e hj, hw, regN_plainWrite_same]
  · refine accessOnly_afterWrite id (fun _ _ _ _ => rfl) ?_
    rw [hw]
    exact regsOnly_plainWrite s _ rfl

/-- A write of a ring's pointer that the ring takes moves its low index (R398). -/
theorem ringPtr_writes {c : Instr} (r : Fin 5) {k : Nat} (hk : k ∈ [cptrKey r, rptrKey r]) (hx : exec c s = wrote s m k v e)
    (h : Taken s m k v.toNat) (hw : s.writePtr (ringKey r) (cptrKey r) k v.toNat = s.plainWrite k v.toNat) :
    Writes c s (fun t => t.regN k % 2 ^ 13 = v.toNat % 2 ^ 13 ∧ AccessOnly (fun i => i = k) s t) := by
  have hk' : k ∈ [ringKey r, cptrKey r, rptrKey r] := List.mem_cons_of_mem _ hk
  refine plainWrite_writes hx h (ne_fusecmd_ring r hk') (not_watchKey_ring r hk')
    ((writeReg_ringPtr s _ _ _ r hk).trans hw) fun t ht ha => ⟨?_, ha⟩
  rw [ht, ringPtr_writeByAccess r hk]

theorem ringCprodWrite_writes (r : Fin 5) (h : Taken s m (cptrKey r) v.toNat) (hen : s.ringEn (ringKey r) = true)
    (hfit : (v.toNat % 8192 + 8192 - s.regN (cptrKey r) / 2 ^ 13 % 2 ^ 13) % 8192 ≤ 4096) :
    Writes (.ringCprodWrite r m v e) s (fun t =>
      t.regN (cptrKey r) % 2 ^ 13 = v.toNat % 2 ^ 13 ∧ AccessOnly (fun k => k = cptrKey r) s t) := by
  refine ringPtr_writes r (by simp) rfl h ?_
  unfold State.writePtr
  exact if_neg (by simpa [hen, nbits] using hfit)

theorem ringRconsWrite_writes (r : Fin 5) (h : Taken s m (rptrKey r) v.toNat) (hen : s.ringEn (ringKey r) = true)
    (hfit : (s.regN (rptrKey r) / 2 ^ 13 % 2 ^ 13 + 8192 - v.toNat % 8192) % 8192 ≤ 4096) :
    Writes (.ringRconsWrite r m v e) s (fun t =>
      t.regN (rptrKey r) % 2 ^ 13 = v.toNat % 2 ^ 13 ∧ AccessOnly (fun k => k = rptrKey r) s t) := by
  obtain ⟨-, -, hpc⟩ := ringKeys_distinct r
  refine ringPtr_writes r (by simp) rfl h ?_
  unfold State.writePtr
  exact if_neg (by simpa [hen, nbits, hpc] using hfit)

theorem owndataWrite_writes {d : Nat} (h : Taken s m Rg.TONGUE_OWNDATA v.toNat) (hd : d < 192) (hl : s.flag (Fd.OWN_LOCK d) = false)
    (hw : s.writeOwner (ownerOfMaster m) v.toNat = s.plainWrite (Rg.OWN d) v.toNat) :
    Writes (.owndataWrite m v e) s (fun t =>
      t.get (Fd.OWN_OWNER d) = v.toNat % 16 ∧ t.flag (Fd.OWN_LOCK d) = nbit v.toNat 4 ∧
      AccessOnly (fun k => k = Rg.OWN d) s t) := by
  have hnw : ¬ watchKey (Rg.OWN d) := fun hk => by
    have hb := block_of_watchKey hk
    unfold Rg.OWN at hb
    omega
  refine plainWrite_writes rfl h (by decide) hnw hw fun t ht ha => ?_
  rw [writeByAccess_own _ hd (flag_ownLock s d ▸ hl)] at ht
  refine ⟨?_, ?_, ha⟩
  · have hg : t.get (Fd.OWN_OWNER d) = t.regN (Rg.OWN d) / 2 ^ 0 % 2 ^ 4 := rfl
    omega
  · have hb : v.toNat % 32 / 2 ^ 4 % 2 = v.toNat / 2 ^ 4 % 2 := by omega
    rw [flag_ownLock, ht]
    exact congrArg (· == 1) hb

theorem registerWrite_writes (i : BitVec 22) (h : Taken s m (4 * i.toNat) v.toNat) (hk : plainKey (4 * i.toNat) = true) :
    Writes (.registerWrite i m v e) s (fun t =>
      t.regN (4 * i.toNat) = writeByAccess (4 * i.toNat) (s.regN (4 * i.toNat)) v.toNat % 2 ^ 28 ∧
      AccessOnly (fun k => k = 4 * i.toNat) s t) := by
  have hb := plainKey_block hk
  have hnw : ¬ watchKey (4 * i.toNat) := fun hw => by have := block_of_watchKey hw; omega
  have hne : 4 * i.toNat ≠ Rg.SEC_FUSECMD := fun he => by rw [he] at hk; exact absurd hk (by decide)
  exact plainWrite_writes rfl h hne hnw (writeReg_plainKey s _ _ _ hk) fun t ht ha => ⟨ht, ha⟩

end

/-- Settles O8, one lemma for each of its writes. -/
theorem tongueWritesComplete : Obligations.TongueWritesComplete := by
  intro m s v e
  refine ⟨ringEnable_writes, ringCprodWrite_writes, ringRconsWrite_writes, ?_, registerWrite_writes⟩
  intro o d h hd hr hl hv ho hm
  exact owndataWrite_writes h hd hl (writeOwner_of_may hd hr hl hv ho hm)

end Sys2Proof.Machine
end

section
/-! What a fault report leaves alone (R690–R692): the hub, once the record is made, and the registers of the SYS block and of the
power state. Each operation that a fence runs keeps every property closed under its writes. -/
namespace Sys2Proof.Machine

/-- The SYS block and PWR_STATE, PWR_DOMREQ and PWR_DOMON: no fence, no record and no loss of a power domain writes them. -/
def steadyKey (k : Nat) : Bool := decide (k < 0x10000) || (decide (0x30010 ≤ k) && decide (k ≤ 0x30018))

theorem steadyKey_of_ge {k : Nat} (h : 0x30019 ≤ k) : steadyKey k = false := by
  unfold steadyKey
  simp only [Bool.or_eq_false_iff, Bool.and_eq_false_iff, decide_eq_false_iff_not]
  omega

/-- Arrays of registers start above the steady ones. -/
theorem steadyKey_array (b i : Nat) : steadyKey (b + 0x30019 + i) = false := steadyKey_of_ge (by omega)

/-- `P` is kept by writes of registers that are not steady, and does not speak of what is neither a register nor the hub's. -/
structure SteadyClosed (P : State → Prop) : Prop where
  set : ∀ {s : State} {f : Fd} {x : Nat}, P s → steadyKey f.key = false → P (s.set f x)
  rest : ∀ (s : State) {t : State}, t.regs = s.regs → t.hub = s.hub → P s → P t

/-- `t` has the steady registers of `s`. -/
def SteadyAs (s t : State) : Prop := ∀ k, steadyKey k = true → t.reg k = s.reg k

theorem ne_of_steady {j k : Nat} (hj : steadyKey j = true) (hk : steadyKey k = false) : j ≠ k := by
  rintro rfl
  rw [hj] at hk
  cases hk

theorem reg_of_regs {s t : State} (h : t.regs = s.regs) (k : Nat) : t.reg k = s.reg k := by
  unfold State.reg
  rw [h]

theorem steadyClosed_regs (s : State) : SteadyClosed (SteadyAs s) where
  set h hf k hk := (reg_set_key _ _ _ k (ne_of_steady hk hf)).trans (h k hk)
  rest _ _ hr _ h k hk := (reg_of_regs hr k).trans (h k hk)

theorem steadyClosed_hub (h : Hub) : SteadyClosed (fun t => t.hub = h) where
  set hs _ := hs
  rest _ _ _ ht hs := ht.trans hs

namespace SteadyClosed

theorem ite {P : State → Prop} {c : Prop} [Decidable c] {a b : State} (ha : P a) (hb : P b) : P (if c then a else b) := by
  split
  · exact ha
  · exact hb

theorem foldl {P : State → Prop} {α : Type} {f : State → α → State} (l : List α) {s : State} (hf : ∀ a x, P a → P (f a x))
    (h : P s) : P (l.foldl f s) := by
  induction l generalizing s with
  | nil => exact h
  | cons x l ih => exact ih (hf s x h)

variable {P : State → Prop} (hP : SteadyClosed P) {s : State}
include hP

/-- A write of one register outside the steady ones. -/
theorem put {f : Fd} {x : Nat} (h : P s) (hf : steadyKey f.key = false) : P (s.set f x) := hP.set h hf

/-- A write of an entry of an array of registers above the steady ones. -/
theorem arr {f : Fd} {x b i : Nat} (h : P s) (hf : f.key = b + 0x30019 + i) : P (s.set f x) :=
  hP.set h (hf ▸ steadyKey_array b i)

theorem raise (n : Nat) (h : P s) : P (s.raise n) := by
  unfold State.raise
  exact ite h (hP.rest s rfl rfl h)

theorem emptyStack (n : Nat) (h : P s) : P (s.emptyStack n) := hP.rest s rfl rfl h

theorem dpAbandon (p : Nat) (h : P s) : P (s.dpAbandon p) := hP.rest s rfl rfl h

theorem setPortState (p st : Nat) (h : P s) : P (s.setPortState p st) := ite h (hP.raise _ (hP.arr h rfl))

theorem lockLost (n : Nat) (h : P s) : P (s.lockLost n) := ite (hP.arr (hP.arr (hP.arr h rfl) rfl) rfl) (hP.arr h rfl)

theorem setTaps (n : Nat) (t : Nat × Nat × Nat) (h : P s) : P (s.setTaps n t) := hP.arr (hP.arr (hP.arr h rfl) rfl) rfl

theorem lanesIdle (p : Nat) (h : P s) : P (s.lanesIdle p) :=
  foldl _ (fun _ n ha => hP.setTaps n _ (hP.arr (hP.arr (hP.lockLost n ha) rfl) rfl)) h

theorem dpForget (p : Nat) (h : P s) : P (s.dpForget p) :=
  hP.arr (hP.arr (hP.arr (hP.arr (hP.arr (hP.arr h rfl) rfl) rfl) rfl) rfl) rfl

theorem pcieGone (h : P s) : P s.pcieGone := ite (hP.lanesIdle 0 (hP.put (hP.put (hP.put (hP.put h rfl) rfl) rfl) rfl)) h

theorem coreFaulted (n : Nat) (h : P s) : P (s.coreFaulted n) :=
  hP.emptyStack n (hP.arr (ite (hP.arr (hP.arr (hP.put (hP.put h rfl) rfl) rfl) rfl) h) rfl)

theorem laceStops (ch st : Nat) (h : P s) : P (s.laceStops ch st) :=
  have h1 := hP.arr (hP.arr h rfl) rfl
  ite (hP.raise _ h1) h1

theorem skiverStops (st : Nat) (h : P s) : P (s.skiverStops st) :=
  have h1 := hP.put (hP.put h rfl) rfl
  ite (hP.raise _ h1) h1

theorem cutChannels (cs : List Nat) (h : P s) : P (s.cutChannels cs) := hP.rest s rfl rfl h

theorem onFence (u : Nat) (h : P s) : P (s.onFence u) := by
  unfold State.onFence
  split
  · exact hP.rest s rfl rfl h
  · have h1 := hP.setPortState (u % 1024) 3 (hP.dpForget (u % 1024) (hP.lanesIdle (u % 1024) (hP.dpAbandon (u % 1024) h)))
    exact ite h (ite (hP.pcieGone h1) h1)
  · exact ite (hP.coreFaulted _ h) h
  · exact ite (hP.laceStops _ _ h) h
  · exact ite (hP.skiverStops _ h) h
  · exact hP.rest s rfl rfl h
  · exact hP.cutChannels _ h
  · exact hP.put h rfl
  · exact hP.cutChannels _ (hP.put h rfl)
  · exact h

theorem portEnters (p : Nat) (h : P s) : P (s.portEnters p) := by
  have h0 : P (s.setPortState p 0) := hP.setPortState p 0 h
  have h1 : P (s.setPortState p 1) := hP.setPortState p 1 h
  have h5 : P ((s.set (Fd.EYE_WP_STAT_RATE p) (s.get (Fd.EYE_WP_CFG_RATE p))).setPortState p 5) :=
    hP.setPortState p 5 (hP.arr h rfl)
  have ht : P ({ s with lanes := { s.lanes with dpTrain := setAdd s.lanes.dpTrain p } }.setPortState p 1) :=
    hP.setPortState p 1 (hP.rest s rfl rfl h)
  unfold State.portEnters
  split
  · exact h1
  · exact h1
  · exact foldl _ (fun _ n ha => hP.arr ha rfl) h5
  · exact ite ht h0
  · exact ite ht h0
  · exact h0

theorem withPict (x : PictS) (h : P s) : P { s with pict := x } := hP.rest s rfl rfl h

theorem onLift (u : Nat) (h : P s) : P (s.onLift u) := by
  unfold State.onLift
  split
  · exact ite h (ite (hP.setPortState _ _ h) (ite (hP.setPortState _ _ (hP.arr h rfl)) (hP.portEnters _ h)))
  · exact ite (hP.laceStops _ _ h) h
  · exact ite (hP.skiverStops _ h) h
  · exact hP.arr h rfl
  · exact ite (hP.withPict _ (hP.arr h rfl)) h
  · exact h

/-- Fences fall and lift. -/
theorem withReacting (r : List (Nat × Nat)) (h : P { s with hub := { s.hub with reacting := r } }) : P (s.withReacting r) :=
  foldl _ (fun _ u ha => ite (hP.onFence u ha) (ite (hP.onLift u ha) ha)) h

end SteadyClosed

/-! ## Records -/

theorem steadyAs_refl (s : State) : SteadyAs s s := fun _ _ => rfl

theorem SteadyAs.trans {s t u : State} (h : SteadyAs s t) (g : SteadyAs t u) : SteadyAs s u :=
  fun k hk => (g k hk).trans (h k hk)

theorem SteadyAs.get {s t : State} (h : SteadyAs s t) {f : Fd} (hf : steadyKey f.key = true) : t.get f = s.get f := by
  unfold State.get
  rw [h _ hf]

theorem SteadyAs.flag {s t : State} (h : SteadyAs s t) {f : Fd} (hf : steadyKey f.key = true) : t.flag f = s.flag f := by
  unfold State.flag
  rw [h.get hf]

theorem hub_withReacting (s : State) (r : List (Nat × Nat)) : (s.withReacting r).hub = { s.hub with reacting := r } :=
  (steadyClosed_hub _).withReacting r rfl

theorem steadyAs_withReacting (s : State) (r : List (Nat × Nat)) : SteadyAs s (s.withReacting r) :=
  (steadyClosed_regs s).withReacting r fun _ _ => rfl

/-- A reaction changes nothing of the hub but which fences stand and whether a controlled stop begins (R690, R693). -/
theorem hub_react (s : State) (r : FaultRec) :
    { (s.react r).hub with reacting := s.hub.reacting, stopping := s.hub.stopping } = s.hub := by
  unfold State.react
  split
  · rfl
  · split
    · split
      · rfl
      · rw [hub_withReacting]
    · split <;> rfl

theorem steadyAs_react (s : State) (r : FaultRec) : SteadyAs s (s.react r) := by
  unfold State.react
  have h := steadyAs_refl s
  exact SteadyClosed.ite h (SteadyClosed.ite (SteadyClosed.ite h (steadyAs_withReacting s _)) (SteadyClosed.ite (fun _ _ => rfl) h))

theorem steadyKey_lostField (c : Nat) : steadyKey (lostField c).key = false := by
  unfold lostField
  split <;> decide

theorem hub_bump (s : State) (f : Fd) (top : Nat) : (s.bump f top).hub = s.hub := by
  unfold State.bump
  split <;> rfl

theorem steadyAs_bump (s : State) {f : Fd} (top : Nat) (hf : steadyKey f.key = false) : SteadyAs s (s.bump f top) :=
  SteadyClosed.ite ((steadyClosed_regs s).set (steadyAs_refl s) hf) (steadyAs_refl s)

theorem steadyAs_logRecord (s : State) (r : FaultRec) : SteadyAs s (s.logRecord r) := by
  unfold State.logRecord
  extract_lets h
  split
  · exact fun _ _ => rfl
  · exact SteadyAs.trans (t := { s with hub := h }) (fun _ _ => rfl) (steadyAs_bump _ 255 (steadyKey_lostField r.cls))

theorem seq_logRecord (s : State) (r : FaultRec) : (s.logRecord r).hub.seq = (s.hub.seq + 1) % 256 := by
  unfold State.logRecord
  extract_lets h
  split
  · rfl
  · rw [hub_bump]

theorem log_logRecord (s : State) (r : FaultRec) {x : Nat} (hx : s.freeEntry = some x) :
    tabFind (s.logRecord r).hub.log x = some r := by
  unfold State.logRecord
  rw [hx]
  exact tabFind_insert_same _ _ _

section
variable (s : State) (u code base detail : Nat) (forced real : Bool)

theorem steadyAs_reportG : SteadyAs s (s.reportG u code base detail forced real) :=
  (steadyAs_logRecord s _).trans (steadyAs_react _ _)

theorem seq_reportG : (s.reportG u code base detail forced real).hub.seq = (s.hub.seq + 1) % 256 :=
  (congrArg Hub.seq (hub_react _ _)).trans (seq_logRecord s _)

/-- A report's record stands in the lowest free entry, where one is free (R684). -/
theorem log_reportG {x : Nat} (hx : s.freeEntry = some x) :
    tabFind (s.reportG u code base detail forced real).hub.log x = some (s.recordOf u code base detail forced real) :=
  (congrArg (fun h : Hub => tabFind h.log x) (hub_react _ _)).trans (log_logRecord s _ hx)

end
end Sys2Proof.Machine
end

section
/-! Bus errors of writes (R35, R36, R39): what an unmapped write captures and records, and which addresses take no write. -/
namespace Sys2Proof.Machine

/-! ## Unmapped writes -/

/-- The capture holds `a`, `m` and that the access was a write (R39, R41). -/
def DecerrIs (t : State) (m a : Nat) : Prop :=
  t.flag Fd.SYS_DECERR1_VALID = true ∧ t.flag Fd.SYS_DECERR1_WRITE = true ∧ t.get Fd.SYS_DECERR0_ADDRLO = a % 2 ^ 28 ∧
  t.get Fd.SYS_DECERR1_ADDRHI = a / 2 ^ 28 ∧ t.get Fd.SYS_DECERR1_MASTER = m % 2 ^ 5

/-- The first bus error is captured (R39). -/
theorem captureDecerr_first {s : State} {m a : Nat} (ha : a < 2 ^ 40) (hv : s.flag Fd.SYS_DECERR1_VALID = false) :
    DecerrIs (s.captureDecerr m a true) m a := by
  have hhi : a / 2 ^ 28 % 2 ^ 12 = a / 2 ^ 28 := Nat.mod_eq_of_lt (by omega)
  unfold State.captureDecerr
  rw [if_neg (by rw [hv]; exact Bool.false_ne_true)]
  unfold DecerrIs State.setB State.flag
  simp (disch := decide) only [get_set_same, get_set_apart, get_set_key]
  exact ⟨rfl, rfl, rfl, hhi, rfl⟩

/-- A later one sets OVF and leaves the address captured (R39). -/
theorem captureDecerr_later {s : State} {m a : Nat} (hv : s.flag Fd.SYS_DECERR1_VALID = true) :
    (s.captureDecerr m a true).flag Fd.SYS_DECERR1_OVF = true ∧
    (s.captureDecerr m a true).get Fd.SYS_DECERR0_ADDRLO = s.get Fd.SYS_DECERR0_ADDRLO := by
  unfold State.captureDecerr
  rw [if_pos hv]
  unfold State.flag
  simp (disch := decide) only [get_set_same, get_set_key]
  exact ⟨rfl, trivial⟩

theorem regsOnly_captureDecerr (s : State) (m a : Nat) (wr : Bool) :
    RegsOnly (fun k => k = Rg.SYS_DECERR0 ∨ k = Rg.SYS_DECERR1) s (s.captureDecerr m a wr) := by
  unfold State.captureDecerr State.setB
  refine regsOnly_ite (regsOnly_set s _ 1 (.inr rfl)) (regsOnly_trans ?_ (regsOnly_set _ Fd.SYS_DECERR1_VALID 1 (.inr rfl)))
  refine regsOnly_trans ?_ (regsOnly_set _ Fd.SYS_DECERR1_MASTER m (.inr rfl))
  refine regsOnly_trans ?_ (regsOnly_set _ Fd.SYS_DECERR1_ADDRHI _ (.inr rfl))
  exact regsOnly_trans (regsOnly_set s Fd.SYS_DECERR1_WRITE _ (.inr rfl)) (regsOnly_set _ Fd.SYS_DECERR0_ADDRLO a (.inl rfl))

theorem steadyAs_unmapped (s : State) (m a : Nat) (wr : Bool) : SteadyAs (s.captureDecerr m a wr) (s.unmapped m a wr) :=
  steadyAs_reportG _ _ _ _ _ _ _

theorem hub_of_regsOnly {p : Nat → Prop} {s t : State} (h : RegsOnly p s t) : t.hub = s.hub := (congrArg State.hub h.1 :)

theorem mem_of_regsOnly {p : Nat → Prop} {s t : State} (h : RegsOnly p s t) : t.mem = s.mem := (congrArg State.mem h.1 :)

/-- A report made after writes of registers stands in the log as one made before them would (R684). -/
theorem log_reportG_of_regsOnly {p : Nat → Prop} {s t : State} (h : RegsOnly p s t) (u code base detail : Nat) (forced real : Bool)
    {x : Nat} (hx : s.freeEntry = some x) :
    tabFind (t.reportG u code base detail forced real).hub.log x = some (s.recordOf u code base detail forced real) := by
  have hfree : t.freeEntry = s.freeEntry := (congrArg State.freeEntry h.1 :)
  have hrec := congrArg (fun r : State => r.recordOf u code base detail forced real) h.1
  exact (log_reportG t u code base detail forced real (hfree.trans hx)).trans (congrArg some hrec)

/-- An unmapped access makes a C1 record against its master (R35). -/
theorem recorded_unmapped (s : State) (m a : Nat) (wr : Bool) : Recorded s (s.unmapped m a wr) (uMaster m) 0x01 1 0 :=
  fun _ hx => log_reportG_of_regsOnly (regsOnly_captureDecerr s m a wr) _ _ _ _ _ _ hx

theorem mem_unmapped (s : State) (m a : Nat) (wr : Bool) : (s.unmapped m a wr).mem = s.mem := by
  have hreport := kept_report (s.captureDecerr m a wr) (uMaster m) 0x01 1 0 (kept_refl _)
  exact hreport.1.trans (mem_of_regsOnly (regsOnly_captureDecerr s m a wr))

theorem decerrIs_of_steady {s t : State} {m a : Nat} (h : SteadyAs s t) (hd : DecerrIs s m a) : DecerrIs t m a := by
  unfold DecerrIs
  rw [h.flag (by decide), h.flag (by decide), h.get (by decide), h.get (by decide), h.get (by decide)]
  exact hd

/-! ## Addresses that take no write -/

theorem decode_flog {a : Nat} (h : 0x7FF4000000 ≤ a ∧ a < 0x7FF4000400) :
    decodeAddr a = .flog ((a - 0x7FF4000000) / 16) ((a - 0x7FF4000000) % 16 / 4) := by
  unfold decodeAddr
  rw [if_neg (by omega), if_neg (by omega), if_neg (by omega), if_neg (by omega), if_neg (by omega), if_pos h]

theorem decode_lastStore {a : Nat} (h : 0x7FFF800000 ≤ a ∧ a < 2 ^ 39) : decodeAddr a = .lastStore := by
  unfold decodeAddr localBase sharedBase
  rw [if_neg (by omega), if_neg (by omega), if_neg (by omega), if_neg (by omega), if_neg (by omega), if_neg (by omega),
    if_neg (by omega), if_neg (by omega), if_pos h]

/-- A write to the Last store, the fault log or a hole is unmapped (R35, R36). -/
theorem writeAt_readOnly (b : Bus) (w : Who) {a : Nat} (be : Nat) (d : List Nat)
    (h : decodeAddr a = .lastStore ∨ decodeAddr a = .hole ∨ 0x7FF4000000 ≤ a ∧ a < 0x7FF4000400) :
    b.writeAt w a be d = b.unmapped w.m a true := by
  unfold Bus.writeAt
  rcases h with h | h | h
  · rw [h]
  · rw [h]
  · rw [decode_flog h]

/-- A read of the Last store returns its bytes (R36). -/
theorem readAt_lastStore (b : Bus) (w : Who) {a : Nat} (n : Nat) (h : 0x7FFF800000 ≤ a ∧ a < 2 ^ 39) :
    b.readAt w a n = .ok (b.s.chipBytes a n) b := by
  unfold Bus.readAt
  rw [decode_lastStore h]

/-- Settles O59: such a write is an unmapped access, and what the record's reaction does leaves the capture and memory alone. -/
theorem lastStoreIsReadOnly : Obligations.LastStoreIsReadOnly := by
  intro b w a n d
  refine ⟨fun en ha hro => ?_, readAt_lastStore b w n⟩
  have hst := steadyAs_unmapped b.s w.m a true
  refine ⟨{ b with s := b.s.unmapped w.m a true }, writeAt_readOnly b w en d hro, mem_unmapped b.s w.m a true,
    recorded_unmapped b.s w.m a true, fun hv => decerrIs_of_steady hst (captureDecerr_first ha hv), fun hv => ?_⟩
  obtain ⟨hovf, haddr⟩ := captureDecerr_later (m := w.m) (a := a) hv
  exact ⟨(hst.flag (by decide)).trans hovf, (hst.get (by decide)).trans haddr⟩

end Sys2Proof.Machine
end

section
/-! What the loss and the start of a power domain leave alone (R445, R450, R451): the SYS block and the power state's registers. -/
namespace Sys2Proof.Machine

/-! ## Steady registers through each part of a loss -/

theorem regDomain_of_steady {k : Nat} (h : steadyKey k = true) : regDomain k = 0 := by
  unfold steadyKey at h
  simp only [Bool.or_eq_true, Bool.and_eq_true, decide_eq_true_eq] at h
  have hk : k % 0x2000000 = k := by omega
  unfold regDomain
  rw [hk]
  rcases h with h | h
  · have hb : k / 0x10000 = 0 := by omega
    simp only [hb]
  · have hb : k / 0x10000 = 3 := by omega
    simp only [hb]

section
variable {s₀ s : State}

theorem SteadyAs.of_regs {t : State} (h : SteadyAs s₀ s) (hr : t.regs = s.regs) : SteadyAs s₀ t :=
  fun k hk => (reg_of_regs hr k).trans (h k hk)

theorem SteadyAs.put (h : SteadyAs s₀ s) {f : Fd} {x : Nat} (hf : steadyKey f.key = false) : SteadyAs s₀ (s.set f x) :=
  (steadyClosed_regs s₀).put h hf

theorem SteadyAs.arr (h : SteadyAs s₀ s) {f : Fd} {x b i : Nat} (hf : f.key = b + 0x30019 + i) :
    SteadyAs s₀ (s.set f x) :=
  (steadyClosed_regs s₀).arr h hf

theorem SteadyAs.setRegN (h : SteadyAs s₀ s) {k v : Nat} (hk : steadyKey k = false) : SteadyAs s₀ (s.setRegN k v) :=
  fun j hj => (reg_setReg_other s k j _ (ne_of_steady hj hk)).trans (h j hj)

theorem SteadyAs.loseRegs (h : SteadyAs s₀ s) {d : Nat} (hd : d ≠ 0) : SteadyAs s₀ (s.loseRegs d) := by
  intro k hk
  have hout : (regDomain k == d && !keptOff k) = false := by
    rw [regDomain_of_steady hk, Bool.and_eq_false_iff]
    exact .inl (beq_eq_false_iff_ne.mpr hd.symm)
  rw [← h k hk]
  unfold State.loseRegs State.reg
  rw [tabFind_drop_out _ _ _ hout]

theorem SteadyAs.putReply (h : SteadyAs s₀ s) (r : Req) (ws : List Nat) (first : Bool) : SteadyAs s₀ (s.putReply r ws first) :=
  SteadyClosed.ite (h.of_regs rfl) h

theorem SteadyAs.answer (h : SteadyAs s₀ s) (r : Req) (st : Nat) (body : List Nat) : SteadyAs s₀ (s.answer r st body) :=
  h.putReply r _ false

theorem SteadyAs.dropBus (h : SteadyAs s₀ s) (q : Nat) : SteadyAs s₀ (s.dropBus q) := h.of_regs rfl

theorem SteadyAs.modWelt (h : SteadyAs s₀ s) (f : WeltS → WeltS) : SteadyAs s₀ (s.modWelt f) := h.of_regs rfl

theorem SteadyAs.modSec (h : SteadyAs s₀ s) (f : SecS → SecS) : SteadyAs s₀ (s.modSec f) := h.of_regs rfl

theorem SteadyAs.withFetch (h : SteadyAs s₀ s) (x : FetchS) : SteadyAs s₀ { s with fetch := x } := h.of_regs rfl

theorem SteadyAs.emptyStack (h : SteadyAs s₀ s) (n : Nat) : SteadyAs s₀ (s.emptyStack n) := h.of_regs rfl

theorem SteadyAs.endSession (h : SteadyAs s₀ s) (src : Src) : SteadyAs s₀ (s.endSession src) := h.of_regs rfl

theorem SteadyAs.loseMem (h : SteadyAs s₀ s) (lo hi : Nat) : SteadyAs s₀ (s.loseMem lo hi) := h.of_regs rfl

theorem SteadyAs.losePalettes (h : SteadyAs s₀ s) (n : Nat) : SteadyAs s₀ (s.losePalettes n) := h.of_regs rfl

theorem SteadyAs.modHead (h : SteadyAs s₀ s) (n : Nat) (f : HeadS → HeadS) : SteadyAs s₀ (s.modHead n f) := h.of_regs rfl

theorem SteadyAs.setCore (h : SteadyAs s₀ s) (n : Nat) (c : CoreS) : SteadyAs s₀ (s.setCore n c) := h.of_regs rfl

theorem SteadyAs.loseHead (h : SteadyAs s₀ s) (n : Nat) (v : HeadS) : SteadyAs s₀ (s.loseHead n v) := h.of_regs rfl

theorem SteadyAs.loseSole (h : SteadyAs s₀ s) (n : Nat) : SteadyAs s₀ (s.loseSole n) := h.of_regs rfl

/-! ## Heads and Lasts -/

theorem SteadyAs.setSlot (h : SteadyAs s₀ s) (n st : Nat) : SteadyAs s₀ (s.setSlot n st) := SteadyAs.arr (h.put rfl) rfl

theorem SteadyAs.dropCur (h : SteadyAs s₀ s) (n : Nat) : SteadyAs s₀ (s.dropCur n) :=
  SteadyClosed.foldl _ (fun _ _ ha => SteadyClosed.ite (ha.setSlot _ 4) (SteadyClosed.ite (ha.setSlot _ 3) ha))
    (SteadyAs.arr (h.arr rfl) rfl)

theorem SteadyAs.cancelArm (h : SteadyAs s₀ s) (a : Arm) (n : Nat) : SteadyAs s₀ (s.cancelArm a n) := by
  unfold State.cancelArm
  extract_lets s1
  have h0 : SteadyAs s₀ (s.setArms (dropOne a s.pict.arms)) := h.of_regs rfl
  have h1 : SteadyAs s₀ s1 := SteadyClosed.foldl _ (fun _ _ ha => ha.arr rfl) h0
  exact h1.answer _ _ _

theorem SteadyAs.cancelArms (h : SteadyAs s₀ s) (n : Nat) : SteadyAs s₀ (s.cancelArms n) :=
  SteadyClosed.foldl _ (fun _ a ha => ha.cancelArm a n) h

theorem SteadyAs.wbEnds (h : SteadyAs s₀ s) (n : Nat) : SteadyAs s₀ (s.wbEnds n (Fd.HD_WBCTL_DROP n)) :=
  (steadyClosed_regs s₀).raise _ (SteadyAs.arr (h.arr rfl) rfl)

theorem SteadyAs.wbDrop (h : SteadyAs s₀ s) (n : Nat) : SteadyAs s₀ (s.wbDrop n) :=
  SteadyClosed.ite h ((h.modHead n _).wbEnds n)

theorem SteadyAs.wbDropTail (h : SteadyAs s₀ s) (n : Nat) : SteadyAs s₀ (s.wbDropTail n) :=
  SteadyClosed.ite h ((h.modHead n _).wbEnds n)

theorem SteadyAs.admitRegs (h : SteadyAs s₀ s) (n : Nat) (f : Option AdmitFail) : SteadyAs s₀ (s.admitRegs n f) :=
  (((h.setRegN (by decide)).setRegN (by decide)).setRegN (by decide)).setRegN (by decide)

theorem SteadyAs.loseLasts (h : SteadyAs s₀ s) (reply : Bool) : SteadyAs s₀ (s.loseLasts reply) := by
  unfold State.loseLasts
  extract_lets s1 s2 s3 s4
  have h1 : SteadyAs s₀ s1 := SteadyClosed.foldl _ (fun _ n ha => ha.setSlot n 0) (h.loseMem _ _)
  have h2 : SteadyAs s₀ s2 := SteadyClosed.foldl _ (fun _ _ ha => SteadyAs.arr (ha.arr rfl) rfl) h1
  have h3 : SteadyAs s₀ s3 := h2.of_regs rfl
  split
  · have h4 : SteadyAs s₀ s4 := SteadyClosed.foldl _ (fun _ c ha => ha.answer c.req 0x13 []) h3
    split
    · exact (h4.admitRegs _ _).answer _ _ _
    · exact h4
  · exact h3

/-! ## The security engine and the cores -/

theorem SteadyAs.verifyReply (h : SteadyAs s₀ s) (r : Req) (fail : Option (Nat × Option Nat)) (id : Nat) :
    SteadyAs s₀ (s.verifyReply r fail id) := by
  have hd : SteadyAs s₀ s.draw := h.of_regs rfl
  unfold State.verifyReply
  split
  · exact hd.answer _ _ _
  · exact h.answer _ _ _
  · exact hd.answer _ _ _

theorem SteadyAs.endSec (h : SteadyAs s₀ s) : SteadyAs s₀ s.endSec := by
  unfold State.endSec
  extract_lets s1 s2 s3
  have h1 : SteadyAs s₀ s1 := by
    unfold s1
    split
    · exact h.verifyReply _ _ _
    · exact h
  have h2 : SteadyAs s₀ s2 := by
    unfold s2
    split
    · exact h1.answer _ _ _
    · exact h1
  have h3 : SteadyAs s₀ s3 := by
    unfold s3
    split
    · exact h2.verifyReply _ _ _
    · exact h2
  exact h3.of_regs rfl

theorem SteadyAs.breakLock (h : SteadyAs s₀ s) (n : Nat) : SteadyAs s₀ (s.breakLock n) := by
  unfold State.breakLock
  extract_lets s1
  have h1 : SteadyAs s₀ s1 := SteadyClosed.ite (SteadyAs.put (h.put rfl) rfl) h
  exact SteadyAs.arr (SteadyAs.arr (h1.setCore n _) rfl) rfl

theorem SteadyAs.endStart (h : SteadyAs s₀ s) (n : Nat) : SteadyAs s₀ (s.endStart n) := by
  unfold State.endStart
  split
  · exact h
  · exact (h.setCore n _).verifyReply _ _ _

theorem SteadyAs.loseCore (h : SteadyAs s₀ s) (n : Nat) : SteadyAs s₀ (s.loseCore n) := by
  unfold State.loseCore
  extract_lets s0 s1
  have h0 : SteadyAs s₀ s0 := h.endStart n
  have hb : SteadyAs s₀ (if s0.coreLocked n then s0.breakLock n else s0) := SteadyClosed.ite (h0.breakLock n) h0
  have hc : SteadyAs s₀ s1 := ((hb.setCore n {}).emptyStack n).dropBus _
  exact hc.modSec _

/-! ## Memory, ports and Welt -/

theorem SteadyAs.memReadyBit (h : SteadyAs s₀ s) : SteadyAs s₀ s.memReadyBit := h.put rfl

theorem SteadyAs.memOff (h : SteadyAs s₀ s) : SteadyAs s₀ s.memOff := by
  unfold State.memOff
  extract_lets s1
  have h1 : SteadyAs s₀ s1 := SteadyAs.loseMem (SteadyClosed.foldl _ (fun _ c ha =>
    (ha.setRegN (steadyKey_array _ _)).setRegN (steadyKey_array _ _)) h) _ _
  exact (h1.withFetch _).memReadyBit

theorem SteadyAs.weltDrop (h : SteadyAs s₀ s) (p : Option Nat) (reason : Nat) : SteadyAs s₀ (s.weltDrop p reason) := by
  unfold State.weltDrop
  split
  · exact h
  · next q =>
    extract_lets s1
    have hk : 0x30019 ≤ 0x300104 + q * 0x80 + (16 + reason) * 4 := by omega
    have h1 : SteadyAs s₀ s1 := SteadyAs.trans h (steadyAs_bump s _ (steadyKey_of_ge hk))
    refine SteadyClosed.ite ?_ h1
    exact SteadyAs.trans (h1.modWelt _) (steadyAs_reportG _ _ _ _ _ _ _)

theorem SteadyAs.loseCommands (h : SteadyAs s₀ s) : SteadyAs s₀ s.loseCommands :=
  SteadyClosed.foldl _ (fun _ i ha => SteadyClosed.ite (ha.weltDrop i.port 4) ha) (h.of_regs rfl)

theorem SteadyAs.weltPortLost (h : SteadyAs s₀ s) (p : Nat) : SteadyAs s₀ (s.weltPortLost p) :=
  SteadyAs.of_regs (SteadyClosed.foldl _ (fun _ _ ha => ha.weltDrop (some p) 6) h) rfl

theorem SteadyAs.clearRemaps (h : SteadyAs s₀ s) (p : Nat) : SteadyAs s₀ (s.clearRemaps p) :=
  SteadyAs.arr (SteadyAs.arr (SteadyAs.arr (SteadyAs.arr (h.arr rfl) rfl) rfl) rfl) rfl

theorem SteadyAs.portStart (h : SteadyAs s₀ s) (p : Nat) : SteadyAs s₀ (s.portStart p) := by
  have hS := steadyClosed_regs s₀
  unfold State.portStart
  extract_lets s1
  have h1 : SteadyAs s₀ s1 := SteadyAs.arr (hS.dpForget p (hS.lanesIdle p (hS.dpAbandon p (h.clearRemaps p)))) rfl
  exact SteadyClosed.ite (hS.setPortState _ _ h1) (SteadyClosed.ite (hS.setPortState _ _ h1) (SteadyClosed.ite
    (hS.setPortState _ _ h1) (SteadyClosed.ite (hS.setPortState _ _ h1) (hS.portEnters p h1))))

theorem SteadyAs.startTraining (h : SteadyAs s₀ s) : SteadyAs s₀ s.startTraining := by
  unfold State.startTraining
  extract_lets eff u s1 s2
  have h1 : SteadyAs s₀ s1 := SteadyAs.loseMem (SteadyAs.put (SteadyAs.put (h.put rfl) rfl) rfl) _ _
  have h2 : SteadyAs s₀ s2 := SteadyClosed.foldl _ (fun _ _ ha => ha.arr rfl) h1
  exact (h2.withFetch _).memReadyBit

theorem SteadyAs.evalFit (h : SteadyAs s₀ s) (p : Nat) : SteadyAs s₀ (s.evalFit p) := by
  unfold State.evalFit
  split
  · exact h.arr rfl
  · exact h.arr rfl

theorem SteadyAs.evalFits (h : SteadyAs s₀ s) : SteadyAs s₀ s.evalFits :=
  SteadyClosed.foldl _ (fun _ p ha => SteadyClosed.ite (ha.evalFit p) ha) h

end
end Sys2Proof.Machine
end

section
/-! Power domains after a change of the set (R445): which are on, and what the change leaves alone. -/
namespace Sys2Proof.Machine

/-! ## One domain -/

section
variable {s₀ s : State}

theorem SteadyAs.loseHeads (h : SteadyAs s₀ s) (hs : List Nat) {d : Nat} (hd : d ≠ 0) (u : State) :
    SteadyAs s₀ (hs.foldl (fun (a : State) (n : Nat) =>
        if (u.headS n).wb.isSome || (u.headS n).wbTail != 0 then a.set (Fd.HD_WBCTL_DROP n) 1 else a)
      ((hs.foldl (fun (a : State) (n : Nat) => (((((((a.wbDrop n).wbDropTail n).cancelArms n).loseHead n
        { applied := (a.headS n).applied }).dropCur n).losePalettes n).loseSole n)) s).loseRegs d)) := by
  have h1 := SteadyClosed.foldl (P := SteadyAs s₀) hs (fun (a : State) n (ha : SteadyAs s₀ a) =>
    ((((((ha.wbDrop n).wbDropTail n).cancelArms n).loseHead n { applied := (a.headS n).applied }).dropCur n).losePalettes
      n).loseSole n) h
  exact SteadyClosed.foldl hs (fun _ _ ha => SteadyClosed.ite (ha.arr rfl) ha) (h1.loseRegs hd)

theorem SteadyAs.loseCoreCells (h : SteadyAs s₀ s) (n : Nat) :
    SteadyAs s₀ (((((s.loseCore n).set (Fd.AWL_STAT_STATE n) 0).set (Fd.AWL_STAT_LOCKED n) 0).set (Fd.AWL_STAT_IE n) 0).loseMem
      (localBase n) (localBase (n + 1))) :=
  SteadyAs.loseMem (SteadyAs.arr (SteadyAs.arr (SteadyAs.arr (h.loseCore n) rfl) rfl) rfl) _ _

theorem SteadyAs.losePorts (h : SteadyAs s₀ s) (ps : List Nat) {d : Nat} (hd : d ≠ 0) :
    SteadyAs s₀ (ps.foldl (fun (a : State) (p : Nat) => a.setPortState p 4)
      ((ps.foldl (fun (a : State) (p : Nat) => (a.weltPortLost p).dpAbandon p) s).loseRegs d)) := by
  have hS := steadyClosed_regs s₀
  have h1 := SteadyClosed.foldl (P := SteadyAs s₀) ps (fun _ p ha => hS.dpAbandon p (ha.weltPortLost p)) h
  exact SteadyClosed.foldl ps (fun _ p ha => hS.setPortState p 4 ha) (h1.loseRegs hd)

theorem SteadyAs.loseTongue (h : SteadyAs s₀ s) : SteadyAs s₀ (s.domainLost 3) := by
  have h1 := SteadyClosed.foldl (P := SteadyAs s₀) (List.finRange 4) (fun _ n ha => ha.endSession (.core n)) (h.endSession .pcie)
  have h2 (x : TongueS) : SteadyAs s₀ { (List.finRange 4).foldl (fun (a : State) (n : Fin 4) => a.endSession (.core n))
      (s.endSession .pcie) with tongue := x } := h1.of_regs rfl
  exact ((((h2 _).dropBus 0x16).dropBus 297).loseCommands).loseRegs (by decide)

theorem SteadyAs.domainLost (h : SteadyAs s₀ s) (d : Nat) : SteadyAs s₀ (s.domainLost d) := by
  have hcores (n k : Nat) := (h.loseCoreCells n).loseCoreCells k
  have hports (ps : List Nat) {d : Nat} (hd : d ≠ 0) := h.losePorts ps hd
  unfold State.domainLost
  split
  case h_1 => exact h.endSec.loseRegs (by decide)
  case h_2 => exact h.loseTongue
  case h_3 | h_4 => exact SteadyClosed.ite ((hcores _ _).loseMem _ _) (hcores _ _)
  case h_5 => exact ((h.loseLasts true).loseRegs (d := 6) (by decide)).withFetch {}
  case h_6 | h_7 | h_8 | h_9 => exact h.loseHeads _ (by decide) s
  case h_10 => exact h.memOff
  case h_11 | h_12 | h_13 | h_14 => exact SteadyClosed.ite (((hports _ (by decide)).endSession .pcie).of_regs rfl) (hports _ (by decide))
  case h_15 =>
    have h1 := (h.loseRegs (d := 16) (by decide)).dropBus 0x11
    exact SteadyClosed.foldl _ (fun _ n ha => ha.dropBus (256 + n)) (h1.of_regs rfl)
  case h_16 => exact (h.loseRegs (d := 17) (by decide)).of_regs rfl
  case h_17 => exact (h.loseRegs (d := 18) (by decide)).of_regs rfl
  case h_18 => exact (h.loseRegs (d := 19) (by decide)).of_regs rfl
  case h_19 => exact h

theorem SteadyAs.fuseRegs (h : SteadyAs s₀ s) {d : Nat} (hd : d ≠ 0) : SteadyAs s₀ (s.fuseRegs d) := by
  unfold State.fuseRegs
  extract_lets s1
  have h1 : SteadyAs s₀ s1 := by
    refine SteadyClosed.foldl _ (fun a e ha => ?_) h
    dsimp only
    split
    · next he =>
      refine ha.setRegN (Bool.eq_false_iff.mpr fun hs => hd ?_)
      rw [← he.1, regDomain_of_steady hs]
    · exact ha
  exact SteadyClosed.ite (SteadyAs.put (SteadyAs.put (SteadyAs.put (h1.put rfl) rfl) rfl) rfl) h1

theorem SteadyAs.domainStart (h : SteadyAs s₀ s) {d : Nat} (hd : d ≠ 0) : SteadyAs s₀ (s.domainStart d) := by
  have h1 := h.fuseRegs hd
  unfold State.domainStart
  extract_lets s1
  split
  case h_1 | h_2 => exact h1.loseMem _ _
  case h_3 | h_4 | h_5 | h_6 => exact SteadyClosed.foldl _ (fun _ _ ha => ha.losePalettes _) h1
  case h_7 | h_8 => exact SteadyClosed.ite h1.startTraining h1
  case h_9 | h_10 | h_11 | h_12 => exact SteadyClosed.foldl _ (fun _ p ha => ha.portStart p) h1
  case h_13 => exact h1.loseMem _ _
  case h_14 => exact h1

end

/-! ## Which domains are on -/

theorem get_of_reg {s t : State} {f : Fd} (h : t.reg f.key = s.reg f.key) : t.get f = s.get f := by
  unfold State.get
  rw [h]

theorem get_lt (s : State) (f : Fd) : s.get f < 2 ^ f.w := Nat.mod_lt _ (by positivity)

theorem nbit_putBits_same (v d x : Nat) : nbit (putBits v d 1 x) d = nbit x 0 := by
  have h := putBits_field v d 1 x
  unfold nbit
  rw [pow_one] at h
  rw [h, pow_zero, Nat.div_one]

theorem nbit_putBits_other (v x : Nat) {d e : Nat} (h : e ≠ d) : nbit (putBits v d 1 x) e = nbit v e := by
  have hb : putBits v d 1 x / 2 ^ e % 2 ^ 1 = v / 2 ^ e % 2 ^ 1 := by
    rcases Nat.lt_or_gt_of_ne h with h | h
    · exact putBits_below _ _ _ _ _ _ h
    · exact putBits_above _ _ _ _ _ _ h
  unfold nbit
  rw [pow_one] at hb
  rw [hb]

/-- Clearing bit `d` of a number that has it. -/
theorem sub_pow_eq_putBits {v d : Nat} (h : nbit v d = true) : v - 2 ^ d = putBits v d 1 0 := by
  have hd : v / 2 ^ d % 2 = 1 := by simpa [nbit] using h
  unfold putBits
  rw [pow_one, hd, Nat.one_mul, Nat.zero_mod, Nat.zero_mul, Nat.add_zero]

/-- Setting bit `d` of a number that lacks it. -/
theorem add_pow_eq_putBits {v d : Nat} (h : nbit v d = false) : v + 2 ^ d = putBits v d 1 1 := by
  have hd : v / 2 ^ d % 2 = 0 := by
    have : v / 2 ^ d % 2 ≠ 1 := by simpa [nbit] using h
    omega
  unfold putBits
  rw [pow_one, hd, Nat.zero_mul, Nat.sub_zero, Nat.one_mod_eq_one.mpr (by decide), Nat.one_mul]

/-- PWR_DOMON with bit `d` written. -/
theorem domOn_set_putBits (s : State) {d : Nat} (hd : d < 20) (x e : Nat) :
    (s.set Fd.PWR_DOMON_ON (putBits (s.get Fd.PWR_DOMON_ON) d 1 x)).domOn e = if e = d then nbit x 0 else s.domOn e := by
  have hlt : putBits (s.get Fd.PWR_DOMON_ON) d 1 x < 2 ^ 20 := putBits_lt (get_lt s _) (by omega)
  unfold State.domOn
  rw [get_set_same s _ _ (by decide), show Fd.PWR_DOMON_ON.w = 20 from rfl, Nat.mod_eq_of_lt hlt]
  split
  · next h => rw [h, nbit_putBits_same]
  · next h => exact nbit_putBits_other _ _ h

/-- PWR_DOMREQ and PWR_STATE are the same. -/
def RequestSame (s t : State) : Prop := t.reg Rg.PWR_DOMREQ = s.reg Rg.PWR_DOMREQ ∧ t.reg Rg.PWR_STATE = s.reg Rg.PWR_STATE

theorem requestSame_of_steady {s t u : State} (h : RequestSame s t) (g : SteadyAs t u) : RequestSame s u :=
  ⟨(g _ (by decide)).trans h.1, (g _ (by decide)).trans h.2⟩

theorem domOn_of_steady {s t : State} (h : SteadyAs s t) (e : Nat) : t.domOn e = s.domOn e := by
  unfold State.domOn
  rw [h.get (by decide)]

theorem requestSame_setOn (s : State) (x : Nat) : RequestSame s (s.set Fd.PWR_DOMON_ON x) :=
  ⟨reg_set_key s _ x _ (by decide), reg_set_key s _ x _ (by decide)⟩

theorem domainOff_spec (s : State) {d : Nat} (hd : d < 20) :
    RequestSame s (s.domainOff d) ∧ ∀ e, (s.domainOff d).domOn e = (s.domOn e && e != d) := by
  unfold State.domainOff
  cases hon : s.domOn d with
  | false =>
    rw [if_pos (by rfl)]
    refine ⟨⟨rfl, rfl⟩, fun e => ?_⟩
    by_cases h : e = d
    · rw [h, hon, Bool.false_and]
    · rw [bne_iff_ne.mpr h, Bool.and_true]
  | true =>
    rw [if_neg (by decide)]
    have hst := SteadyAs.domainLost (steadyAs_refl (s.set Fd.PWR_DOMON_ON (s.get Fd.PWR_DOMON_ON - 2 ^ d))) d
    refine ⟨requestSame_of_steady (requestSame_setOn s _) hst, fun e => ?_⟩
    rw [domOn_of_steady hst, sub_pow_eq_putBits hon, domOn_set_putBits s hd]
    split
    · next h => rw [h, bne_self_eq_false, Bool.and_false]; rfl
    · next h => rw [bne_iff_ne.mpr h, Bool.and_true]

/-- A domain other than 0 powers on; 0 is on already. -/
theorem domainOn_spec (s : State) {d : Nat} (hd : d < 20) (h0 : s.domOn 0 = true) :
    RequestSame s (s.domainOn d) ∧ ∀ e, (s.domainOn d).domOn e = (s.domOn e || e == d) := by
  unfold State.domainOn
  cases hon : s.domOn d with
  | true =>
    rw [if_pos rfl]
    refine ⟨⟨rfl, rfl⟩, fun e => ?_⟩
    by_cases h : e = d
    · rw [h, hon, Bool.true_or]
    · rw [beq_eq_false_iff_ne.mpr h, Bool.or_false]
  | false =>
    rw [if_neg Bool.false_ne_true]
    have hne : d ≠ 0 := by
      rintro rfl
      rw [h0] at hon
      cases hon
    have hst := SteadyAs.domainStart (steadyAs_refl (s.set Fd.PWR_DOMON_ON (s.get Fd.PWR_DOMON_ON + 2 ^ d))) hne
    refine ⟨requestSame_of_steady (requestSame_setOn s _) hst, fun e => ?_⟩
    rw [domOn_of_steady hst, add_pow_eq_putBits hon, domOn_set_putBits s hd]
    split
    · next h => rw [h, beq_self_eq_true, Bool.or_true]; rfl
    · next h => rw [beq_eq_false_iff_ne.mpr h, Bool.or_false]

theorem RequestSame.trans {s t u : State} (h : RequestSame s t) (g : RequestSame t u) : RequestSame s u :=
  ⟨g.1.trans h.1, g.2.trans h.2⟩

theorem domainsOff_spec (l : List Nat) (hl : ∀ d ∈ l, d < 20) (s : State) :
    RequestSame s (l.foldl (fun a d => a.domainOff d) s) ∧
    ∀ e, (l.foldl (fun a d => a.domainOff d) s).domOn e = (s.domOn e && !l.contains e) := by
  induction l generalizing s with
  | nil => exact ⟨⟨rfl, rfl⟩, fun e => by simp⟩
  | cons d l ih =>
    obtain ⟨hr, hon⟩ := domainOff_spec s (hl d (by simp))
    obtain ⟨hrl, honl⟩ := ih (fun e he => hl e (by simp [he])) (s.domainOff d)
    refine ⟨hr.trans hrl, fun e => ?_⟩
    rw [List.foldl_cons, honl, hon, List.contains_cons, Bool.not_or, Bool.and_assoc]
    rfl

theorem domainsOn_spec (l : List Nat) (hl : ∀ d ∈ l, d < 20) (s : State) (h0 : s.domOn 0 = true) :
    RequestSame s (l.foldl (fun a d => a.domainOn d) s) ∧
    ∀ e, (l.foldl (fun a d => a.domainOn d) s).domOn e = (s.domOn e || l.contains e) := by
  induction l generalizing s with
  | nil => exact ⟨⟨rfl, rfl⟩, fun e => by simp⟩
  | cons d l ih =>
    obtain ⟨hr, hon⟩ := domainOn_spec s (hl d (by simp)) h0
    obtain ⟨hrl, honl⟩ := ih (fun e he => hl e (by simp [he])) (s.domainOn d) (by rw [hon, h0, Bool.true_or])
    refine ⟨hr.trans hrl, fun e => ?_⟩
    rw [List.foldl_cons, honl, hon, List.contains_cons, Bool.or_assoc]

theorem nbit_eq_testBit (v b : Nat) : nbit v b = v.testBit b := by
  rw [Nat.testBit_eq_decide_div_mod_eq]
  rfl

theorem mem_domains {p : Nat → Bool} {e : Nat} : e ∈ (List.range 20).filter p ↔ e < 20 ∧ p e = true := by
  rw [List.mem_filter, List.mem_range]

/-- After a change of the set the domains of `v` are on, and no others (R445). -/
theorem setDomains_spec (s : State) {v : Nat} (hv : v < 2 ^ 20) (h0 : s.domOn 0 = true) (hv0 : nbit v 0 = true) :
    RequestSame s (s.setDomains v) ∧ (s.setDomains v).get Fd.PWR_DOMON_ON = v := by
  unfold State.setDomains
  extract_lets offs ons
  have hmem : ∀ e, e ∈ offs ↔ e < 20 ∧ nbit v e = false := by
    intro e
    simp only [offs, List.mem_filter, List.mem_reverse, List.mem_range, Bool.not_eq_true']
  obtain ⟨hr1, hon1⟩ := domainsOff_spec offs (fun d hd => ((hmem d).mp hd).1) s
  generalize offs.foldl (fun a d => a.domainOff d) s = s1 at hr1 hon1 ⊢
  have h01 : s1.domOn 0 = true := by
    rw [hon1, h0, Bool.true_and, Bool.not_eq_true', List.contains_eq_mem, decide_eq_false_iff_not, hmem, hv0]
    simp
  obtain ⟨hr2, hon2⟩ := domainsOn_spec ons (fun d hd => (mem_domains.mp hd).1) s1 h01
  generalize ons.foldl (fun a d => a.domainOn d) s1 = s2 at hr2 hon2 ⊢
  have hst := SteadyAs.evalFits (steadyAs_refl s2)
  refine ⟨requestSame_of_steady (hr1.trans hr2) hst, (hst.get (by decide)).trans ?_⟩
  refine Nat.eq_of_testBit_eq fun e => ?_
  rcases Nat.lt_or_ge e 20 with he | he
  · have hoff : (e ∈ offs) ↔ nbit v e = false := by rw [hmem]; simp [he]
    have hins : (e ∈ ons) ↔ nbit v e = true := by rw [mem_domains]; simp [he]
    have h2 := hon2 e
    rw [hon1, List.contains_eq_mem, List.contains_eq_mem] at h2
    unfold State.domOn at h2
    rw [← nbit_eq_testBit, ← nbit_eq_testBit, h2]
    cases hb : nbit v e with
    | true => simp [hins, hb]
    | false => simp [hoff, hins, hb]
  · have hp : 2 ^ 20 ≤ 2 ^ e := Nat.pow_le_pow_right (by decide) he
    rw [Nat.testBit_lt_two_pow (Nat.lt_of_lt_of_le (get_lt s2 _) hp), Nat.testBit_lt_two_pow (Nat.lt_of_lt_of_le hv hp)]

/-- A legal write of PWR_DOMREQ sets the request and powers exactly its domains, with bits 0 and 1 read as 1 (R445). -/
theorem writeDomreq_legal (s : State) (v : Nat) (h0 : s.domOn 0 = true) (hok : s.domreqBad (Nat.lor (v % 2 ^ 20) 3) = false) :
    (s.writeDomreq v).get Fd.PWR_DOMREQ_REQ = Nat.lor (v % 2 ^ 20) 3 ∧
    (s.writeDomreq v).get Fd.PWR_DOMON_ON = Nat.lor (v % 2 ^ 20) 3 ∧
    (s.writeDomreq v).flag Fd.PWR_STATE_ERR = s.flag Fd.PWR_STATE_ERR := by
  unfold State.writeDomreq
  extract_lets w
  have hw : w < 2 ^ 20 := Nat.or_lt_two_pow (Nat.mod_lt _ (by decide)) (by decide)
  have hw0 : nbit w 0 = true := by
    rw [nbit_eq_testBit]
    exact (Nat.testBit_or _ _ _).trans (by simp)
  rw [if_neg (by rw [hok]; simp)]
  have h0' : (s.set Fd.PWR_DOMREQ_REQ w).domOn 0 = true := by
    unfold State.domOn
    rw [get_set_key _ _ _ _ (by decide)]
    exact h0
  obtain ⟨⟨hreq, hstate⟩, hon⟩ := setDomains_spec (s.set Fd.PWR_DOMREQ_REQ w) hw h0' hw0
  generalize (s.set Fd.PWR_DOMREQ_REQ w).setDomains w = t at hreq hstate hon ⊢
  unfold State.runState
  refine ⟨?_, ?_, ?_⟩
  · have h := get_set_same s Fd.PWR_DOMREQ_REQ w (by decide)
    rw [get_set_key _ _ _ _ (by decide), get_of_reg hreq, h]
    exact Nat.mod_eq_of_lt hw
  · rw [get_set_key _ _ _ _ (by decide), hon]
  · unfold State.flag
    rw [get_set_apart _ _ _ _ (by decide) (by decide), get_of_reg hstate, get_set_key _ _ _ _ (by decide)]

end Sys2Proof.Machine
end

section
/-! Writes of the power domains, the role and the fault hub (R22, R445, R694, R696). -/
namespace Sys2Proof.Machine

/-! ## What a direct write keeps of its register's own write -/

theorem hub_afterWrite (s : State) (m k v : Nat) (e : Env) :
    (s.afterWrite m k v e).hub = (s.writeReg (ownerOfMaster m) k v { beam := e.beam }).hub := by
  rw [afterWrite_eq_withAccess]
  rfl

theorem mem_afterWrite (s : State) (m k v : Nat) (e : Env) :
    (s.afterWrite m k v e).mem = (s.writeReg (ownerOfMaster m) k v { beam := e.beam }).mem := by
  rw [afterWrite_eq_withAccess]
  rfl

theorem rst_afterWrite (s : State) (m k v : Nat) (e : Env) :
    (s.afterWrite m k v e).rst = (s.writeReg (ownerOfMaster m) k v { beam := e.beam }).rst := by
  rw [afterWrite_eq_withAccess]
  rfl

theorem not_watchKey_of_lt {k : Nat} (h : k < 0x80000) : ¬ watchKey k := fun hw => by
  have := block_of_watchKey hw
  omega

theorem get_afterWrite_low (s : State) (m k v : Nat) (e : Env) {f : Fd} (h : f.key < 0x80000) :
    (s.afterWrite m k v e).get f = (s.writeReg (ownerOfMaster m) k v { beam := e.beam }).get f :=
  get_afterWrite s m k v e f (not_watchKey_of_lt h)

theorem flag_afterWrite_low (s : State) (m k v : Nat) (e : Env) {f : Fd} (h : f.key < 0x80000) :
    (s.afterWrite m k v e).flag f = (s.writeReg (ownerOfMaster m) k v { beam := e.beam }).flag f := by
  unfold State.flag
  rw [get_afterWrite_low s m k v e h]

/-! ## The fault hub -/

/-- An acknowledgement frees the log entries and the flags it names, and no memory changes (R696). -/
theorem ackUnit_spec (s : State) (u cls : Nat) (all : Bool) :
    (s.ackUnit u cls all).hub.log = s.hub.log.filter (fun x => !(x.2.unit == u && (all || x.2.cls == cls))) ∧
    (s.ackUnit u cls all).unackOf u = (if all then 0 else Nat.land (s.unackOf u) (Nat.xor 31 (2 ^ cls % 32))) ∧
    (s.ackUnit u cls all).mem = s.mem := by
  obtain ⟨h, r, heq, hlog, hunack⟩ : ∃ h r, s.ackUnit u cls all = State.withReacting { s with hub := h } r ∧
      h.log = s.hub.log.filter (fun x => !(x.2.unit == u && (all || x.2.cls == cls))) ∧
      tabGet 0 h.unack u = (if all then 0 else Nat.land (s.unackOf u) (Nat.xor 31 (2 ^ cls % 32))) :=
    ⟨_, _, rfl, rfl, tabGet_put_same 0 _ u _⟩
  unfold State.unackOf
  rw [heq, hub_withReacting]
  exact ⟨hlog, hunack, (kept_withReacting _ r (kept_refl _)).1⟩

/-- A legal write of GO to FLT_FORCE1 makes the report that the two registers name (R694). -/
theorem writeFlt_force {s : State} {v : Nat} (o : Nat) (hgo : nbit v 27 = true) (hu : unitValid (s.get Fd.FLT_FORCE0_UNIT) = true)
    (hc : v / 2 ^ 24 % 8 ≤ 4) :
    s.writeFlt o Rg.FLT_FORCE1 v = (s.plainWrite Rg.FLT_FORCE1 v).reportG (s.get Fd.FLT_FORCE0_UNIT) (s.get Fd.FLT_FORCE0_CODE)
      (v / 2 ^ 24 % 8) (v % 2 ^ 16) true false := by
  have hreg : (s.plainWrite Rg.FLT_FORCE1 v).reg Rg.FLT_FORCE0 = s.reg Rg.FLT_FORCE0 := reg_setRegN_other s _ (by decide)
  have hunit : (s.plainWrite Rg.FLT_FORCE1 v).get Fd.FLT_FORCE0_UNIT = s.get Fd.FLT_FORCE0_UNIT := get_of_reg hreg
  have hcode : (s.plainWrite Rg.FLT_FORCE1 v).get Fd.FLT_FORCE0_CODE = s.get Fd.FLT_FORCE0_CODE := get_of_reg hreg
  unfold State.writeFlt
  rw [if_neg (by decide), if_pos rfl]
  dsimp only
  rw [hunit, hcode, hgo, hu]
  have hcls : ¬ 4 < nbits v 26 24 := Nat.not_lt.mpr hc
  rw [decide_eq_false hcls]
  rfl

/-! ## The role -/

theorem flag_set_nbits (s : State) {f : Fd} (v b : Nat) (hw : f.w = 1) (hlo : f.lo + f.w ≤ 28) :
    (s.set f (nbits v b b)).flag f = nbit v b := by
  have hb : nbits v b b = b2n (nbit v b) := by
    unfold nbits nbit b2n
    rw [Nat.add_sub_cancel_left, pow_one]
    rcases Nat.mod_two_eq_zero_or_one (v / 2 ^ b) with h | h <;> rw [h] <;> rfl
  rw [hb]
  exact flag_setB_same s f _ hw hlo

theorem regsOnly_withRst {p : Nat → Prop} {s t : State} (h : RegsOnly p s t) (x : ResetS) :
    RegsOnly p s { ({ t with rst := x } : State) with rst := s.rst } :=
  ⟨congrArg (fun x : State => { x with rst := s.rst }) h.1, h.2⟩

/-- The state with OVR and HEELEN of a write of SYS_ROLE, before its other effects (R21, R26). -/
def State.newRole (s : State) (v : Nat) : State :=
  ((if nbit v 6 then s.set Fd.SYS_ROLE_ROLEERR 0 else s).set Fd.SYS_ROLE_OVR (v % 8)).set Fd.SYS_ROLE_HEELEN (nbits v 5 5)

theorem role_of_gets {s t : State} (hovr : t.get Fd.SYS_ROLE_OVR = s.get Fd.SYS_ROLE_OVR)
    (hstrap : t.get Fd.RST_STRAP_ROLE = s.get Fd.RST_STRAP_ROLE) : t.role = s.role := by
  unfold State.role
  rw [hovr, hstrap]

theorem role_newRole (s : State) {v : Nat} (h0 : v % 8 ≠ 0) : (s.newRole v).role = v % 8 - 1 := by
  have hovr : (s.newRole v).get Fd.SYS_ROLE_OVR = v % 8 := by
    unfold State.newRole
    rw [get_set_apart _ _ _ _ (by decide) (by decide), get_set_same _ _ _ (by decide)]
    exact Nat.mod_mod _ _
  unfold State.role
  rw [hovr]
  exact if_neg h0

theorem heel_newRole (s : State) (v : Nat) : (s.newRole v).flag Fd.SYS_ROLE_HEELEN = nbit v 5 :=
  flag_set_nbits _ v 5 rfl (by decide)

theorem regsOnly_newRole (s : State) (v : Nat) : RegsOnly (fun k => k = Rg.SYS_ROLE) s (s.newRole v) := by
  have h0 := regsOnly_ite (c := nbit v 6) (regsOnly_set (p := fun k => k = Rg.SYS_ROLE) s Fd.SYS_ROLE_ROLEERR 0 rfl)
    (regsOnly_refl _ s)
  exact regsOnly_trans (regsOnly_trans h0 (regsOnly_set _ Fd.SYS_ROLE_OVR (v % 8) rfl))
    (regsOnly_set _ Fd.SYS_ROLE_HEELEN (nbits v 5 5) rfl)

/-- A role change that R22 allows begins with BUSY and the set of the new role. -/
theorem writeRole_of_change {s : State} {v : Nat} (hle : v % 8 ≤ 4) (h0 : v % 8 ≠ 0) (hnew : v % 8 - 1 ≠ s.role)
    (hok : s.roleBad = false) :
    s.writeRole v = { (s.newRole v).set Fd.SYS_ROLE_BUSY 1 with
      rst := { (s.newRole v).rst with roleTo := some (roleDomains (v % 8 - 1) (nbit v 5)) } } := by
  have hset : (s.newRole v).roleSet = roleDomains (v % 8 - 1) (nbit v 5) := by
    unfold State.roleSet
    rw [role_newRole s h0, heel_newRole]
  have hsame : ((s.newRole v).role == s.role) = false := by
    rw [role_newRole s h0, beq_eq_false_iff_ne.mpr hnew]
  rw [← hset]
  refine (if_neg (by omega)).trans ((if_neg ?_).trans (if_neg (by rw [hok]; exact Bool.false_ne_true)))
  exact fun h => Bool.false_ne_true (hsame.symm.trans (Bool.and_eq_true_iff.mp h).1)

theorem writeRole_begins {s : State} {v : Nat} (hle : v % 8 ≤ 4) (h0 : v % 8 ≠ 0) (hnew : v % 8 - 1 ≠ s.role)
    (hok : s.roleBad = false) :
    (s.writeRole v).flag Fd.SYS_ROLE_BUSY = true ∧ (s.writeRole v).role = v % 8 - 1 ∧
    (s.writeRole v).rst.roleTo = some (roleDomains (v % 8 - 1) (nbit v 5)) ∧
    RegsOnly (fun k => k = Rg.SYS_ROLE) s { s.writeRole v with rst := s.rst } := by
  rw [writeRole_of_change hle h0 hnew hok]
  have hrole := role_newRole s h0
  have honly := regsOnly_newRole s v
  generalize s.newRole v = n at hrole honly ⊢
  generalize n.rst = r
  have hbusy : (n.set Fd.SYS_ROLE_BUSY 1).flag Fd.SYS_ROLE_BUSY = true := flag_setB_same n Fd.SYS_ROLE_BUSY true rfl (by decide)
  have hrole' : (n.set Fd.SYS_ROLE_BUSY 1).role = n.role :=
    role_of_gets (get_set_apart _ _ _ _ (by decide) (by decide)) (get_set_key _ _ _ _ (by decide))
  have honly' := regsOnly_trans honly (regsOnly_set n Fd.SYS_ROLE_BUSY 1 rfl)
  generalize n.set Fd.SYS_ROLE_BUSY 1 = t at hbusy hrole' honly' ⊢
  exact ⟨hbusy, hrole'.trans hrole, rfl, regsOnly_withRst honly' _⟩

/-! ## The writes as commands -/

section
variable {m : Fin 32} {s : State} {v : BitVec 28} {e : Env}

theorem pwrDomreqWrite_writes (h : Taken s m Rg.PWR_DOMREQ v.toNat) (hok : s.domreqBad (Nat.lor (v.toNat % 2 ^ 20) 3) = false) :
    Writes (.pwrDomreqWrite m v e) s (fun t =>
      t.get Fd.PWR_DOMREQ_REQ = Nat.lor (v.toNat % 2 ^ 20) 3 ∧ t.get Fd.PWR_DOMON_ON = Nat.lor (v.toNat % 2 ^ 20) 3 ∧
      t.flag Fd.PWR_STATE_ERR = s.flag Fd.PWR_STATE_ERR) := by
  obtain ⟨-, -, -, hdom, -⟩ := id h
  refine writes_of rfl h (by decide) ?_
  rw [get_afterWrite_low (h := by decide), get_afterWrite_low (h := by decide), flag_afterWrite_low (h := by decide)]
  exact writeDomreq_legal s v.toNat hdom hok

theorem sysRoleWrite_writes (h : Taken s m Rg.SYS_ROLE v.toNat) (hle : v.toNat % 8 ≤ 4) (h0 : v.toNat % 8 ≠ 0)
    (hnew : v.toNat % 8 - 1 ≠ s.role) (hok : s.roleBad = false) :
    Writes (.sysRoleWrite m v e) s (fun t =>
      t.flag Fd.SYS_ROLE_BUSY = true ∧ t.role = v.toNat % 8 - 1 ∧
      t.rst.roleTo = some (roleDomains (v.toNat % 8 - 1) (nbit v.toNat 5)) ∧
      AccessOnly (fun k => k = Rg.SYS_ROLE) s { t with rst := s.rst }) := by
  obtain ⟨hbusy, hrole, hto, honly⟩ := writeRole_begins hle h0 hnew hok
  refine writes_of rfl h (by decide) ⟨?_, ?_, ?_, ?_⟩
  · rw [flag_afterWrite_low (h := by decide)]
    exact hbusy
  · exact (role_of_gets (get_afterWrite_low _ _ _ _ _ (by decide)) (get_afterWrite_low _ _ _ _ _ (by decide))).trans hrole
  · rw [rst_afterWrite]
    exact hto
  · exact accessOnly_afterWrite (fun t => { t with rst := s.rst }) (fun _ _ _ _ => rfl) honly

theorem fltAckWrite_writes (h : Taken s m Rg.FLT_ACK v.toNat) (hu : unitValid (v.toNat % 2 ^ 16) = true)
    (hc : nbit v.toNat 19 = true ∨ v.toNat / 2 ^ 16 % 8 ≤ 4) :
    Writes (.fltAckWrite m v e) s (fun t =>
      t.hub.log = s.hub.log.filter (fun x => !(x.2.unit == v.toNat % 2 ^ 16 && (nbit v.toNat 19 || x.2.cls == v.toNat / 2 ^ 16 % 8))) ∧
      t.unackOf (v.toNat % 2 ^ 16) = (if nbit v.toNat 19 then 0 else
        Nat.land (s.unackOf (v.toNat % 2 ^ 16)) (Nat.xor 31 (2 ^ (v.toNat / 2 ^ 16 % 8) % 32))) ∧
      t.mem = s.mem) := by
  have hw : s.writeReg (ownerOfMaster m) Rg.FLT_ACK v.toNat { beam := e.beam } =
      s.ackUnit (v.toNat % 2 ^ 16) (v.toNat / 2 ^ 16 % 8) (nbit v.toNat 19) := by
    have hcls : (!nbit v.toNat 19 && decide (4 < nbits v.toNat 18 16)) = false := by
      rcases hc with hall | hle
      · rw [hall]
        rfl
      · have hno : ¬ 4 < nbits v.toNat 18 16 := Nat.not_lt.mpr hle
        rw [decide_eq_false hno, Bool.and_false]
    have hgo : ¬ (!unitValid (v.toNat % 65536) || (!nbit v.toNat 19 && decide (4 < nbits v.toNat 18 16))) = true := by
      rw [hcls, Bool.or_false, Bool.not_eq_true', Bool.not_eq_false]
      exact hu
    exact if_neg hgo
  refine writes_of rfl h (by decide) ?_
  unfold State.unackOf
  rw [hub_afterWrite, mem_afterWrite, hw]
  exact ackUnit_spec s _ _ _

theorem faultForce_writes (h : Taken s m Rg.FLT_FORCE1 v.toNat) (hgo : nbit v.toNat 27 = true)
    (hu : unitValid (s.get Fd.FLT_FORCE0_UNIT) = true) (hc : v.toNat / 2 ^ 24 % 8 ≤ 4) :
    Writes (.faultForce m v e) s (fun t =>
      (∀ x, s.freeEntry = some x → tabFind t.hub.log x = some (s.recordOf (s.get Fd.FLT_FORCE0_UNIT) (s.get Fd.FLT_FORCE0_CODE)
        (v.toNat / 2 ^ 24 % 8) (v.toNat % 2 ^ 16) true false)) ∧
      t.hub.seq = (s.hub.seq + 1) % 256 ∧ t.mem = s.mem) := by
  refine writes_of rfl h (by decide) ?_
  rw [hub_afterWrite, mem_afterWrite]
  have hw := writeFlt_force (s := s) (ownerOfMaster m) hgo hu hc
  have hp : RegsOnly (fun k => k = Rg.FLT_FORCE1) s (s.plainWrite Rg.FLT_FORCE1 v.toNat) := regsOnly_plainWrite s _ rfl
  rw [show s.writeReg (ownerOfMaster m) Rg.FLT_FORCE1 v.toNat { beam := e.beam } = _ from hw]
  generalize s.plainWrite Rg.FLT_FORCE1 v.toNat = p at hp ⊢
  refine ⟨fun x hx => log_reportG_of_regsOnly hp _ _ _ _ _ _ hx, ?_, ?_⟩
  · rw [seq_reportG, hub_of_regsOnly hp]
  · exact (kept_reportG p _ _ _ _ _ _ (kept_refl p)).1.trans (mem_of_regsOnly hp)

end
end Sys2Proof.Machine
end

section
/-! Fuse commands (R465, R466, R491): what a write of SEC_FUSECMD starts, and the key record that a program command reads first. -/
namespace Sys2Proof.Machine

/-! ## What an access changes, as an equation -/

theorem accessOnly_eq {p : Nat → Prop} {s t : State} (h : AccessOnly p s t) : t = s.withAccess t.regs t.bus t.welt.reqs :=
  (congrArg (fun x : State => x.withAccess t.regs t.bus t.welt.reqs) h.1 :)

theorem accessOnly_reg {p : Nat → Prop} {s t : State} (h : AccessOnly p s t) {k : Nat} (hk : ¬ p k) (hw : ¬ watchKey k) :
    t.reg k = s.reg k :=
  h.2 k (not_or.mpr ⟨hk, hw⟩)

theorem accessOnly_trans {p : Nat → Prop} {s t u : State} (h : AccessOnly p s t) (g : AccessOnly p t u) : AccessOnly p s u := by
  refine ⟨?_, fun k hk => (g.2 k hk).trans (h.2 k hk)⟩
  exact (congrArg (fun x : State => { x with regs := s.regs, bus := s.bus, welt := { x.welt with reqs := s.welt.reqs } }) g.1).trans h.1

theorem accessOnly_mono {p q : Nat → Prop} {s t : State} (hpq : ∀ k, p k → q k) (h : AccessOnly p s t) : AccessOnly q s t :=
  ⟨h.1, fun k hk => h.2 k fun hp => hk (hp.imp_left (hpq k))⟩

theorem accessOnly_of_regsOnly {p : Nat → Prop} {s t : State} (h : RegsOnly p s t) : AccessOnly p s t := by
  refine ⟨?_, fun k hk => h.2 k fun hp => hk (.inl hp)⟩
  exact congrArg (fun x : State => { x with bus := s.bus, welt := { x.welt with reqs := s.welt.reqs } }) h.1

/-- The security engine's job is forgotten on both sides. -/
theorem accessOnly_withSec {p : Nat → Prop} {s t : State} (h : AccessOnly p s t) (x : SecS) :
    AccessOnly p { s with sec := x } { t with sec := x } :=
  ⟨congrArg (fun u : State => { u with sec := x }) h.1, h.2⟩

/-- What follows a register's own write: the bus watchpoints see it, and the master has its answer. -/
def State.accessDone (w : State) (m a : Nat) : State := ({ w.wpBus m a 4 true with bus := .done } : State).dropBus m

theorem accessOnly_accessDone (w : State) (m a : Nat) : AccessOnly (fun _ => False) w (w.accessDone m a) := by
  have h := regsOnly_wpBus w m a 4 true
  refine ⟨?_, fun k hk => h.2 k fun hw => hk (.inr hw)⟩
  exact congrArg (fun x : State => { x with bus := w.bus, welt := { x.welt with reqs := w.welt.reqs } }) h.1

/-! ## The command itself -/

theorem writeFusecmd_accepted {s : State} {v op : Nat} {key : Option (List Nat)} (hgo : nbit v 27 = true) (hop : v / 2 ^ 20 % 4 = op)
    (hbusy : s.flag Fd.SEC_FUSECMD_BUSY = false) (hfence : s.fenced uSec = false) (hok : s.fuseBad op (v % 2 ^ 6) key = false) :
    s.writeFusecmd v key = ((s.plainWrite Rg.SEC_FUSECMD v).set Fd.SEC_FUSECMD_BUSY 1).modSec
      (fun c => { c with fuse := some (op, v % 2 ^ 6, key.getD []) }) := by
  have hop' : nbits v 21 20 = op := hop
  have harg : nbits v 5 0 = v % 2 ^ 6 := by
    unfold nbits
    rw [pow_zero, Nat.div_one]
  unfold State.writeFusecmd
  rw [hop', harg, hbusy, hgo, hfence]
  dsimp only
  rw [hok]
  rfl

theorem fuseBad_of_access {s t : State} (h : AccessOnly (fun _ => False) s t) (op arg : Nat) (key : Option (List Nat)) :
    t.fuseBad op arg key = s.fuseBad op arg key := by
  have hv : t.get Fd.SEC_BOOT_RBVER = s.get Fd.SEC_BOOT_RBVER :=
    get_of_reg (accessOnly_reg h not_false (not_watchKey_of_lt (by decide)))
  rw [accessOnly_eq h] at hv ⊢
  unfold State.fuseBad
  rw [hv]
  rfl

theorem fenced_of_access {p : Nat → Prop} {s t : State} (h : AccessOnly p s t) (u : Nat) : t.fenced u = s.fenced u := by
  rw [accessOnly_eq h]
  rfl

/-- What a fuse command that starts leaves: from `s`, with `s'` what the read of a key record left, and `n` with the registers
written. -/
theorem fuseStarts_of_regs {s s' n : State} (m a : Nat) (job : Nat × Nat × List Nat) (h : AccessOnly (fun _ => False) s s')
    (hn : RegsOnly (fun k => k = Rg.SEC_FUSECMD) s' n) (hbusy : n.flag Fd.SEC_FUSECMD_BUSY = true) :
    ((n.modSec (fun c => { c with fuse := some job })).accessDone m a).flag Fd.SEC_FUSECMD_BUSY = true ∧
    ((n.modSec (fun c => { c with fuse := some job })).accessDone m a).sec.fuse = some job ∧
    AccessOnly (fun k => k = Rg.SEC_FUSECMD) s
      { (n.modSec (fun c => { c with fuse := some job })).accessDone m a with sec := s.sec } := by
  have hdone := accessOnly_accessDone (n.modSec (fun c => { c with fuse := some job })) m a
  have hreg := accessOnly_reg hdone not_false (not_watchKey_of_lt (k := Rg.SEC_FUSECMD) (by decide))
  have hsec : ((n.modSec (fun c => { c with fuse := some job })).accessDone m a).sec.fuse = some job := by
    rw [accessOnly_eq hdone]
    rfl
  have hflag : ((n.modSec (fun c => { c with fuse := some job })).accessDone m a).flag Fd.SEC_FUSECMD_BUSY = true := by
    unfold State.flag at hbusy ⊢
    rw [get_of_reg hreg]
    exact hbusy
  have hread := accessOnly_mono (q := fun k => k = Rg.SEC_FUSECMD) (fun _ hk => hk.elim) (accessOnly_withSec h s.sec)
  have hown := accessOnly_withSec (accessOnly_of_regsOnly hn) s.sec
  have hend := accessOnly_mono (q := fun k => k = Rg.SEC_FUSECMD) (fun _ hk => hk.elim) (accessOnly_withSec hdone s.sec)
  exact ⟨hflag, hsec, accessOnly_trans (accessOnly_trans hread hown) hend⟩

/-- A fuse command that is taken and legal starts its write (R466). -/
theorem fuseStarts {s s' : State} {v op : Nat} (m a : Nat) {key : Option (List Nat)} (h : AccessOnly (fun _ => False) s s')
    (hgo : nbit v 27 = true) (hop : v / 2 ^ 20 % 4 = op) (hbusy : s.flag Fd.SEC_FUSECMD_BUSY = false)
    (hfence : s.fenced uSec = false) (hok : s.fuseBad op (v % 2 ^ 6) key = false) :
    ((s'.writeFusecmd v key).accessDone m a).flag Fd.SEC_FUSECMD_BUSY = true ∧
    ((s'.writeFusecmd v key).accessDone m a).sec.fuse = some (op, v % 2 ^ 6, key.getD []) ∧
    AccessOnly (fun k => k = Rg.SEC_FUSECMD) s { (s'.writeFusecmd v key).accessDone m a with sec := s.sec } := by
  have hbusy' : s'.flag Fd.SEC_FUSECMD_BUSY = false := by
    unfold State.flag at hbusy ⊢
    rw [get_of_reg (accessOnly_reg h not_false (not_watchKey_of_lt (by decide)))]
    exact hbusy
  have hset : ((s'.plainWrite Rg.SEC_FUSECMD v).set Fd.SEC_FUSECMD_BUSY 1).flag Fd.SEC_FUSECMD_BUSY = true := by
    unfold State.flag
    rw [get_set_same _ _ _ (by decide)]
    rfl
  have honly := regsOnly_trans (regsOnly_plainWrite (p := fun k => k = Rg.SEC_FUSECMD) s' v rfl)
    (regsOnly_set _ Fd.SEC_FUSECMD_BUSY 1 rfl)
  rw [writeFusecmd_accepted hgo hop hbusy' ((fenced_of_access h uSec).trans hfence) ((fuseBad_of_access h op _ key).trans hok)]
  exact fuseStarts_of_regs m a _ h honly hset

/-! ## The access -/

/-- A write access of SEC_FUSECMD by a master that may write it. -/
theorem write_fusecmd (b : Bus) (m : Fin 32) {v : Nat} (hdom : b.s.domOn (regDomain Rg.SEC_FUSECMD) = true)
    (href : b.s.writeRefused (ownerOfMaster m) Rg.SEC_FUSECMD v = none) (hv : v < 2 ^ 28) :
    b.write (masterWho m) (0xFF00000000 + Rg.SEC_FUSECMD) 15 (wordOf v) =
      .ok [] { b with s := (b.s.writeFusecmd v b.ctx.key).wpBus m (0xFF00000000 + Rg.SEC_FUSECMD) 4 true } := by
  have ha := decode_reg Rg.SEC_FUSECMD (by decide)
  have hw := writeAt_taken (w := masterWho m) ha rfl (by decide) hdom href hv
  unfold Bus.write
  rw [hw]
  rfl

/-- A direct write ends with what its access left and the answer. -/
theorem directWrite_of_writeW {s w : State} {m k v : Nat} {e : Env} {b : Bus}
    (h : (s.busOf e).writeW (masterWho m) (0xFF00000000 + k) v = .ok [] b)
    (hw : b.s = w.wpBus m (0xFF00000000 + k) 4 true) : s.directWrite m k v e = w.accessDone m (0xFF00000000 + k) := by
  unfold State.directWrite State.busRow Bus.finish
  dsimp only
  rw [h]
  unfold State.accessDone
  rw [← hw]

/-- Without a key record to read, the write reaches the command at once. -/
theorem directWrite_fusecmd_noKey {s : State} {m : Fin 32} {v : BitVec 28} {e : Env} (h : Taken s m Rg.SEC_FUSECMD v.toNat)
    (hop : v.toNat / 2 ^ 20 % 4 ≠ 3) :
    s.directWrite m Rg.SEC_FUSECMD v.toNat e =
      (s.writeFusecmd v.toNat none).accessDone m (0xFF00000000 + Rg.SEC_FUSECMD) := by
  obtain ⟨-, -, -, hdom, href⟩ := h
  have hkey : (s.busOf e).s.needsKey (masterWho m) (0xFF00000000 + Rg.SEC_FUSECMD) v.toNat = false := by
    have hop' : (nbits v.toNat 21 20 == 3) = false := beq_eq_false_iff_ne.mpr hop
    unfold State.needsKey
    rw [hop']
    simp
  have hw : (s.busOf e).writeW (masterWho m) (0xFF00000000 + Rg.SEC_FUSECMD) v.toNat = _ :=
    (if_neg (by rw [hkey]; exact Bool.false_ne_true)).trans (write_fusecmd (s.busOf e) m hdom href v.isLt)
  exact directWrite_of_writeW hw rfl

/-! ## The key record -/

theorem decode_shared {a : Nat} (h : sharedBase ≤ a ∧ a < sharedBase + 0x200000) : decodeAddr a = .shared (a - sharedBase) := by
  unfold decodeAddr
  rw [if_neg (by unfold sharedBase at h; omega), if_neg (by unfold sharedBase at h; omega), if_neg (by unfold sharedBase at h; omega),
    if_neg (by unfold sharedBase at h; omega), if_neg (by unfold sharedBase at h; omega), if_neg (by unfold sharedBase at h; omega),
    if_neg (by unfold sharedBase localBase at *; omega), if_pos h]

theorem bytesLE_lt (s : State) (a n : Nat) : s.bytesLE a n < 256 ^ n := by
  induction n generalizing a with
  | zero => simp [State.bytesLE]
  | succ n ih =>
    have hb : s.byte a < 256 := BitVec.isLt _
    have hn := ih (a + 1)
    rw [State.bytesLE, pow_succ]
    omega

/-- The bytes of an aligned word of shared memory. -/
theorem chipBytes_word (s : State) {a : Nat} (h4 : a % 4 = 0) (h : sharedBase ≤ a ∧ a < sharedBase + 0x200000) :
    s.chipBytes a 4 = wordOf (s.word a) := by
  have hword : s.chipWord a = s.word a := by
    unfold State.chipWord
    rw [decode_shared h]
  have hbyte : ∀ i, i < 4 → s.chipWord ((a + i) / 4 * 4) / 256 ^ ((a + i) % 4) % 256 = s.word a / 256 ^ i % 256 := by
    intro i hi
    have hbase : (a + i) / 4 * 4 = a := by omega
    have hoff : (a + i) % 4 = i := by omega
    rw [hbase, hoff, hword]
  unfold State.chipBytes wordOf
  simp only [show List.range 4 = [0, 1, 2, 3] by decide, List.map_cons, List.map_nil]
  rw [hbyte 0 (by decide), hbyte 1 (by decide), hbyte 2 (by decide), hbyte 3 (by decide), pow_zero, Nat.div_one]
  rfl

theorem leNat_wordOf {v : Nat} (h : v < 2 ^ 32) : leNat (wordOf v) = v := by
  unfold wordOf leNat leNat leNat leNat leNat
  omega

/-- Words read byte by byte and put together again. -/
theorem leNat_flatMap_wordOf (l : List Nat) (h : ∀ x ∈ l, x < 2 ^ 32) :
    (List.range l.length).map (fun i => leNat (((l.flatMap wordOf).drop (4 * i)).take 4)) = l := by
  induction l with
  | nil => rfl
  | cons x l ih =>
    have hx : leNat ((((x :: l).flatMap wordOf).drop (4 * 0)).take 4) = x := leNat_wordOf (h x (by simp))
    have hl : ∀ i, ((x :: l).flatMap wordOf).drop (4 * (i + 1)) = (l.flatMap wordOf).drop (4 * i) := fun _ => rfl
    rw [List.length_cons, List.range_succ_eq_map, List.map_cons, hx, List.map_map]
    simp only [Function.comp_def, Nat.succ_eq_add_one, hl]
    rw [ih fun y hy => h y (by simp [hy])]

theorem words_length (s : State) (a n : Nat) : (s.words a n).length = n := by
  induction n generalizing a with
  | zero => rfl
  | succ n ih => rw [State.words, List.length_cons, ih]

theorem words_lt (s : State) (a n : Nat) : ∀ x ∈ s.words a n, x < 2 ^ 32 := by
  induction n generalizing a with
  | zero => exact fun x hx => absurd hx (by simp [State.words])
  | succ n ih =>
    intro x hx
    rcases List.mem_cons.mp hx with rfl | hx
    · exact bytesLE_lt s a 4
    · exact ih (a + 4) x hx

theorem words_of_regsOnly {p : Nat → Prop} {s t : State} (h : RegsOnly p s t) (a n : Nat) : t.words a n = s.words a n := by
  have hb : ∀ a k, t.bytesLE a k = s.bytesLE a k := fun a k => by
    induction k generalizing a with
    | zero => rfl
    | succ k ih =>
      rw [State.bytesLE, State.bytesLE, ih]
      unfold State.byte
      rw [mem_of_regsOnly h]
  induction n generalizing a with
  | zero => rfl
  | succ n ih =>
    rw [State.words, State.words, ih]
    unfold State.word
    rw [hb]

/-- The security engine reads one word of shared memory that no locked sequence holds. -/
theorem read_shared (b : Bus) {a : Nat} (h4 : a % 4 = 0) (h : sharedBase ≤ a ∧ a < sharedBase + 0x200000)
    (hlock : b.s.flag Fd.AWL_LOCK_HELD = false) :
    b.read keyWho a 4 = .ok (wordOf (b.s.word a)) { b with s := b.s.wpBus keyWho.m a 4 false } := by
  have hw : b.s.sharedWaits keyWho.m = false := by
    unfold State.sharedWaits
    rw [hlock, Bool.false_and]
  have hr : b.readAt keyWho a 4 = .ok (wordOf (b.s.word a)) b := by
    unfold Bus.readAt
    rw [decode_shared h]
    dsimp only
    rw [hw, chipBytes_word b.s h4 h]
    rfl
  unfold Bus.read
  rw [hr]
  rfl

theorem not_watchKey_awlLock : ¬ watchKey Rg.AWL_LOCK := by
  unfold watchKey Rg.DBG_RUN Rg.DBG_HITLO Rg.DBG_HITHI Rg.WPCTL Rg.AWL_STAT Rg.AWL_LOCK
  rintro (h | h | h | ⟨i, hi, h⟩ | ⟨n, hn, h⟩) <;> omega

/-- The read of a key record in shared memory (R466): its words, with what the watchpoints saw. -/
theorem readKey_shared (n : Nat) : ∀ (b : Bus) (a i : Nat), a % 4 = 0 → sharedBase ≤ a → a + 4 * (i + n) ≤ sharedBase + 0x200000 →
    b.s.flag Fd.AWL_LOCK_HELD = false →
    ∃ t, RegsOnly watchKey b.s t ∧ b.readKey a i n = .ok ((b.s.words (a + 4 * i) n).flatMap wordOf) { b with s := t } := by
  induction n with
  | zero => exact fun b a i _ _ _ _ => ⟨b.s, regsOnly_refl _ _, rfl⟩
  | succ n ih =>
    intro b a i h4 hlo hhi hlock
    have hsee := regsOnly_wpBus b.s keyWho.m (a + 4 * i) 4 false
    have hread := read_shared b (a := a + 4 * i) (by omega) (by omega) hlock
    have hlock' : (b.s.wpBus keyWho.m (a + 4 * i) 4 false).flag Fd.AWL_LOCK_HELD = false := by
      unfold State.flag at hlock ⊢
      rw [get_of_reg (hsee.2 _ ?_)]
      · exact hlock
      · exact not_watchKey_awlLock
    obtain ⟨t, ht, hrest⟩ := ih { b with s := b.s.wpBus keyWho.m (a + 4 * i) 4 false } a (i + 1) h4 hlo (by omega) hlock'
    refine ⟨t, regsOnly_trans hsee ht, ?_⟩
    rw [Bus.readKey, hread]
    dsimp only
    rw [hrest]
    dsimp only
    rw [words_of_regsOnly hsee]
    rfl

/-- Only the owner of the security engine's domain writes SEC_FUSECMD (R491). -/
theorem writeRefused_fusecmd (s : State) (o v : Nat) :
    s.writeRefused o Rg.SEC_FUSECMD v =
      if (s.get (Fd.OWN_OWNER 2) != 0 && s.get (Fd.OWN_OWNER 2) == o) = true then none else some 2 := by
  have hawl : ownAwl o Rg.SEC_FUSECMD = false := by
    have hcfg : (Rg.SEC_FUSECMD == Rg.AWL_CFG (o - 3)) = false :=
      beq_eq_false_iff_ne.mpr (by unfold Rg.SEC_FUSECMD Rg.AWL_CFG; omega)
    have hisp : (Rg.SEC_FUSECMD == Rg.AWL_ISP (o - 3)) = false :=
      beq_eq_false_iff_ne.mpr (by unfold Rg.SEC_FUSECMD Rg.AWL_ISP; omega)
    have hlim : (Rg.SEC_FUSECMD == Rg.AWL_ISPLIM (o - 3)) = false :=
      beq_eq_false_iff_ne.mpr (by unfold Rg.SEC_FUSECMD Rg.AWL_ISPLIM; omega)
    unfold ownAwl
    rw [hcfg, hisp, hlim]
    simp
  unfold State.writeRefused
  dsimp only
  rw [if_neg (by decide), if_neg (by decide), if_neg (by decide), hawl, if_neg Bool.false_ne_true, if_pos rfl]

theorem writeRefused_fusecmd_of_access {s t : State} (h : AccessOnly (fun _ => False) s t) (o v : Nat) :
    t.writeRefused o Rg.SEC_FUSECMD v = s.writeRefused o Rg.SEC_FUSECMD v := by
  have hown : ¬ watchKey (Rg.OWN 2) := fun hw => absurd (block_of_watchKey hw) (by decide)
  rw [writeRefused_fusecmd, writeRefused_fusecmd, get_of_reg (accessOnly_reg h not_false hown)]

theorem domOn_of_access {s t : State} (h : AccessOnly (fun _ => False) s t) (d : Nat) : t.domOn d = s.domOn d := by
  unfold State.domOn
  rw [get_of_reg (accessOnly_reg h not_false (not_watchKey_of_lt (by decide)))]

theorem accessOnly_dropBus {s t : State} (h : RegsOnly watchKey s t) (q : Nat) : AccessOnly (fun _ => False) s (t.dropBus q) := by
  refine ⟨?_, fun k hk => h.2 k fun hw => hk (.inr hw)⟩
  exact congrArg (fun x : State => { x with bus := s.bus, welt := { x.welt with reqs := s.welt.reqs } }) h.1

/-- Words of a key record from its bytes. -/
def keyWords (d : List Nat) : List Nat := (List.range 16).map (fun i => leNat ((d.drop (4 * i)).take 4))

theorem keyWords_words (s : State) (a : Nat) : keyWords ((s.words a 16).flatMap wordOf) = s.words a 16 := by
  have h := leNat_flatMap_wordOf (s.words a 16) (words_lt s a 16)
  rwa [words_length] at h

/-- A write of SEC_FUSECMD that reads a key record first goes on with the record's words. -/
theorem writeW_key {b b1 : Bus} {w : Who} {a v ka : Nat} {d : List Nat} (hkey : b.s.needsKey w a v = true)
    (hka : b.s.get Fd.SEC_FUSEADDR1_ADDRHI * 2 ^ 28 + b.s.get Fd.SEC_FUSEADDR0_ADDRLO = ka)
    (hread : ({ b with nth := 0 } : Bus).readKey ka 0 16 = .ok d b1) :
    b.writeW w a v =
      ({ b1 with s := b1.s.dropBus 288, nth := b.nth, ctx := { b1.ctx with key := some (keyWords d) } } : Bus).write w a 15
        (wordOf v) := by
  simp only [Bus.writeW, hkey, if_true, hka, hread, keyWords]

/-- A program command reads its key record, and its write follows with the record's words (R466). -/
theorem directWrite_fusecmd_key {s : State} {m : Fin 32} {v : BitVec 28} {e : Env} (h : Taken s m Rg.SEC_FUSECMD v.toNat)
    (hgo : nbit v.toNat 27 = true) (hop : v.toNat / 2 ^ 20 % 4 = 3) {ka : Nat}
    (hka : ka = s.get Fd.SEC_FUSEADDR1_ADDRHI * 2 ^ 28 + s.get Fd.SEC_FUSEADDR0_ADDRLO)
    (hin : ka % 4 = 0 ∧ sharedBase ≤ ka ∧ ka + 64 ≤ sharedBase + 0x200000)
    (hlock : s.flag Fd.AWL_LOCK_HELD = false) (hbusy : s.flag Fd.SEC_FUSECMD_BUSY = false) (hfence : s.fenced uSec = false) :
    ∃ s', AccessOnly (fun _ => False) s s' ∧ s.directWrite m Rg.SEC_FUSECMD v.toNat e =
      (s'.writeFusecmd v.toNat (some (s.words ka 16))).accessDone m (0xFF00000000 + Rg.SEC_FUSECMD) := by
  obtain ⟨-, -, -, hdom, href⟩ := h
  obtain ⟨h4, hlo, hhi⟩ := hin
  have hkey : (s.busOf e).s.needsKey (masterWho m) (0xFF00000000 + Rg.SEC_FUSECMD) v.toNat = true := by
    have hop' : nbits v.toNat 21 20 = 3 := hop
    have hdom' : (s.busOf e).s.domOn 2 = true := hdom
    have href' : (s.busOf e).s.writeRefused (masterWho m).o Rg.SEC_FUSECMD v.toNat = none := href
    have hbusy' : (s.busOf e).s.flag Fd.SEC_FUSECMD_BUSY = false := hbusy
    have hfence' : (s.busOf e).s.fenced uSec = false := hfence
    unfold State.needsKey
    rw [decode_reg Rg.SEC_FUSECMD (by decide), hgo, hop', hdom', href', hbusy', hfence']
    rfl
  obtain ⟨t, ht, hread⟩ := readKey_shared 16 (s.busOf e) ka 0 h4 hlo (by omega) hlock
  have hs' : AccessOnly (fun _ => False) s (t.dropBus 288) := accessOnly_dropBus ht 288
  refine ⟨t.dropBus 288, hs', ?_⟩
  have hw := writeW_key hkey hka.symm hread
  rw [keyWords_words] at hw
  refine directWrite_of_writeW (hw.trans (write_fusecmd _ m ?_ ?_ v.isLt)) rfl
  · exact (domOn_of_access hs' _).trans hdom
  · exact (writeRefused_fusecmd_of_access hs' _ _).trans href

/-! ## The writes as commands -/

/-- A command that is a direct write, with all that the write leaves. -/
theorem writes_of_directWrite {c : Instr} {s t : State} {m : Fin 32} {k : Nat} {v : RegVal} {e : Env} {P : State → Prop}
    (hx : exec c s = wrote s m k v e) (hm : s.masterFrozen m = false) (hd : s.directWrite m k v.toNat e = t) (hb : t.bus = .done)
    (hp : P t) : Writes c s P := by
  refine ⟨t, ⟨hb, hp⟩, ?_⟩
  rw [hx]
  unfold wrote
  rw [hm, if_neg Bool.false_ne_true, hd]
  split
  · unfold calm
    split
    · exact .inl rfl
    · exact .inr rfl
  · exact .inr rfl

section
variable {m : Fin 32} {s : State} {v : BitVec 28} {e : Env}

/-- The commands that read no key record. -/
theorem fuseCommand_writes {c : Instr} {op : Nat} (hx : exec c s = wrote s m Rg.SEC_FUSECMD v e) (hne : op ≠ 3)
    (h : Taken s m Rg.SEC_FUSECMD v.toNat) (hgo : nbit v.toNat 27 = true) (hop : v.toNat / 2 ^ 20 % 4 = op)
    (hbusy : s.flag Fd.SEC_FUSECMD_BUSY = false) (hfence : s.fenced uSec = false)
    (hok : s.fuseBad op (v.toNat % 2 ^ 6) none = false) :
    Writes c s (fun t =>
      t.flag Fd.SEC_FUSECMD_BUSY = true ∧ t.sec.fuse = some (op, v.toNat % 2 ^ 6, []) ∧
      AccessOnly (fun k => k = Rg.SEC_FUSECMD) s { t with sec := s.sec }) :=
  writes_of_directWrite hx h.1 (directWrite_fusecmd_noKey h (hop.trans_ne hne)) rfl
    (fuseStarts m _ (accessOnly_of_regsOnly (regsOnly_refl _ s)) hgo hop hbusy hfence hok)

theorem fuseProgramSlot_writes {ka : Nat} (hka : ka = s.get Fd.SEC_FUSEADDR1_ADDRHI * 2 ^ 28 + s.get Fd.SEC_FUSEADDR0_ADDRLO)
    (h : Taken s m Rg.SEC_FUSECMD v.toNat) (hgo : nbit v.toNat 27 = true) (hop : v.toNat / 2 ^ 20 % 4 = 3)
    (hin : ka % 4 = 0 ∧ sharedBase ≤ ka ∧ ka + 64 ≤ sharedBase + 0x200000) (hlock : s.flag Fd.AWL_LOCK_HELD = false)
    (hbusy : s.flag Fd.SEC_FUSECMD_BUSY = false) (hfence : s.fenced uSec = false)
    (hok : s.fuseBad 3 (v.toNat % 2 ^ 6) (some (s.words ka 16)) = false) :
    Writes (.fuseProgramSlot m v e) s (fun t =>
      t.flag Fd.SEC_FUSECMD_BUSY = true ∧ t.sec.fuse = some (3, v.toNat % 2 ^ 6, s.words ka 16) ∧
      AccessOnly (fun k => k = Rg.SEC_FUSECMD) s { t with sec := s.sec }) := by
  obtain ⟨s', hs', hd⟩ := directWrite_fusecmd_key (e := e) h hgo hop hka hin hlock hbusy hfence
  exact writes_of_directWrite rfl h.1 hd rfl (fuseStarts m _ hs' hgo hop hbusy hfence hok)

end

/-- Settles O9, one lemma for each of its writes; the domains that need power for the key record's memory play no part. -/
theorem trustAndPowerWritesComplete : Obligations.TrustAndPowerWritesComplete := by
  intro m s v e
  refine ⟨fuseCommand_writes rfl (by decide), fuseCommand_writes rfl (by decide), ?_, pwrDomreqWrite_writes, sysRoleWrite_writes,
    fltAckWrite_writes, faultForce_writes⟩
  intro ka h hgo hop hin _ hlock hbusy hfence hok
  exact fuseProgramSlot_writes rfl h hgo hop hin hlock hbusy hfence hok

end Sys2Proof.Machine
end

section
/-! The supply loop's operations (R62–R71): what each leaves of the loop's hidden state, and that beside it they write only
PWR_PACESTAT and, for a send, PWR_VSET. -/
namespace Sys2Proof.Machine

/-! ## Only the loop and some registers differ -/

/-- Nothing differs but the loop's hidden state and registers for which `p` holds. -/
def LoopOnly (p : Nat → Prop) (s t : State) : Prop := RegsOnly p s { t with pace := s.pace }

section
variable {p : Nat → Prop} {s t : State}

theorem loopOnly_refl (p : Nat → Prop) (s : State) : LoopOnly p s s := regsOnly_refl p s

theorem loopOnly_of_regsOnly (h : RegsOnly p s t) : LoopOnly p s t :=
  ⟨congrArg (fun x : State => { x with pace := s.pace }) h.1, h.2⟩

theorem LoopOnly.modPace (h : LoopOnly p s t) (f : PaceS → PaceS) : LoopOnly p s (t.modPace f) := h

theorem LoopOnly.set (h : LoopOnly p s t) {f : Fd} (x : Nat) (hf : p f.key) : LoopOnly p s (t.set f x) :=
  regsOnly_trans h (regsOnly_set _ f x hf)

theorem LoopOnly.setB (h : LoopOnly p s t) {f : Fd} (b : Bool) (hf : p f.key) : LoopOnly p s (t.setB f b) := h.set _ hf

theorem LoopOnly.plainWrite (h : LoopOnly p s t) {k : Nat} (v : Nat) (hk : p k) : LoopOnly p s (t.plainWrite k v) :=
  regsOnly_trans h (regsOnly_plainWrite _ v hk)

theorem LoopOnly.loopIdle (h : LoopOnly p s t) (ph : LoopPhase) (n : Nat) (hp : p Rg.PWR_PACESTAT) :
    LoopOnly p s (t.loopIdle ph n) :=
  (h.modPace _).set 0 hp

theorem LoopOnly.loopMeasure (h : LoopOnly p s t) (hp : p Rg.PWR_PACESTAT) : LoopOnly p s t.loopMeasure :=
  (h.loopIdle _ _ hp).modPace _

theorem LoopOnly.loopWait (h : LoopOnly p s t) (hp : p Rg.PWR_PACESTAT) : LoopOnly p s t.loopWait :=
  ((h.loopIdle _ _ hp).set 0 hp).modPace _

theorem LoopOnly.loopOff (h : LoopOnly p s t) (hp : p Rg.PWR_PACESTAT) : LoopOnly p s t.loopOff :=
  ((h.loopIdle _ _ hp).set 0 hp).modPace _

theorem LoopOnly.loopStart (h : LoopOnly p s t) (ph : LoopPhase) (code word : Nat) (hp : p Rg.PWR_PACESTAT) :
    LoopOnly p s (t.loopStart ph code word) :=
  (h.modPace _).set 1 hp

theorem LoopOnly.loopBegin (h : LoopOnly p s t) (hp : p Rg.PWR_PACESTAT) : LoopOnly p s t.loopBegin :=
  (h.loopStart _ _ _ hp).modPace _

end

/-! ## A send -/

/-- Nothing differs but the loop's hidden state, the free values drawn and registers for which `p` holds. -/
def SendOnly (p : Nat → Prop) (s t : State) : Prop := RegsOnly p s { t with pace := s.pace, fresh := s.fresh }

section
variable {p : Nat → Prop} {s t : State}

theorem sendOnly_of_loopOnly (h : LoopOnly p s t) : SendOnly p s t :=
  ⟨congrArg (fun x : State => { x with fresh := s.fresh }) h.1, h.2⟩

theorem SendOnly.set (h : SendOnly p s t) {f : Fd} (x : Nat) (hf : p f.key) : SendOnly p s (t.set f x) :=
  regsOnly_trans h (regsOnly_set _ f x hf)

theorem SendOnly.modPace (h : SendOnly p s t) (f : PaceS → PaceS) : SendOnly p s (t.modPace f) := h

theorem SendOnly.draw (h : SendOnly p s t) : SendOnly p s t.draw := h

theorem SendOnly.loopPut (h : SendOnly p s t) (v : Nat) (ph : LoopPhase) (hp : p Rg.PWR_PACESTAT) :
    SendOnly p s (t.loopPut v ph) := by
  unfold State.loopPut State.loopStart
  exact (h.draw.modPace _).set 1 hp

end

/-! ## PWR_PACESTAT and PWR_PACECTL -/

theorem flag_set_same (s : State) {f : Fd} (x : Nat) (hw : f.w = 1) (h : f.lo + f.w ≤ 28) :
    (s.set f x).flag f = (x % 2 != 0) := by
  unfold State.flag
  rw [get_set_same s f x h, hw, pow_one]

theorem flag_set_apart (s : State) (f g : Fd) (x : Nat) (hf : f.lo + f.w ≤ 28) (h : g.lo + g.w ≤ f.lo ∨ f.lo + f.w ≤ g.lo) :
    (s.set f x).flag g = s.flag g := by
  unfold State.flag
  rw [get_set_apart s f g x hf h]

theorem flag_set_key (s : State) (f g : Fd) (x : Nat) (h : g.key ≠ f.key) : (s.set f x).flag g = s.flag g := by
  unfold State.flag
  rw [get_set_key s f g x h]

theorem pace_set (s : State) (f : Fd) (x : Nat) : (s.set f x).pace = s.pace := rfl

theorem pace_plainWrite (s : State) (k v : Nat) : (s.plainWrite k v).pace = s.pace := rfl

theorem fresh_set (s : State) (f : Fd) (x : Nat) : (s.set f x).fresh = s.fresh := rfl

theorem flag_plainWrite_other (s : State) {k : Nat} (v : Nat) {f : Fd} (h : f.key ≠ k) : (s.plainWrite k v).flag f = s.flag f := by
  have hr : (s.plainWrite k v).reg f.key = s.reg f.key := reg_setRegN_other s _ h
  unfold State.flag
  rw [get_of_reg hr]

@[simp] theorem get_modPace (s : State) (f : PaceS → PaceS) (g : Fd) : (s.modPace f).get g = s.get g := rfl
@[simp] theorem flag_modPace (s : State) (f : PaceS → PaceS) (g : Fd) : (s.modPace f).flag g = s.flag g := rfl
@[simp] theorem get_draw (s : State) (g : Fd) : s.draw.get g = s.get g := rfl

theorem busy_loopIdle (s : State) (ph : LoopPhase) (n : Nat) : (s.loopIdle ph n).flag Fd.PWR_PACESTAT_BUSY = false := by
  unfold State.loopIdle
  rw [flag_set_same _ _ rfl (by decide)]
  rfl

theorem busy_loopMeasure (s : State) : s.loopMeasure.flag Fd.PWR_PACESTAT_BUSY = false := by
  unfold State.loopMeasure
  rw [flag_modPace, busy_loopIdle]

theorem emerg_loopWait (s : State) : s.loopWait.flag Fd.PWR_PACESTAT_EMERG = false := by
  unfold State.loopWait
  rw [flag_modPace, flag_set_same _ _ rfl (by decide)]
  rfl

theorem busy_loopWait (s : State) : s.loopWait.flag Fd.PWR_PACESTAT_BUSY = false := by
  unfold State.loopWait
  rw [flag_modPace, flag_set_apart _ _ _ _ (by decide) (by decide), busy_loopIdle]

theorem emerg_loopOff (s : State) : s.loopOff.flag Fd.PWR_PACESTAT_EMERG = false := by
  unfold State.loopOff
  rw [flag_modPace, flag_set_same _ _ rfl (by decide)]
  rfl

theorem busy_loopStart (s : State) (ph : LoopPhase) (code word : Nat) :
    (s.loopStart ph code word).flag Fd.PWR_PACESTAT_BUSY = true := by
  unfold State.loopStart
  rw [flag_set_same _ _ rfl (by decide)]
  rfl

theorem busy_loopBegin (s : State) : s.loopBegin.flag Fd.PWR_PACESTAT_BUSY = true := by
  unfold State.loopBegin
  rw [flag_modPace, busy_loopStart]

theorem phase_loopBegin (s : State) : s.loopBegin.pace.phase = .readMode := rfl

theorem phase_loopOff (s : State) : s.loopOff.pace.phase = .off := rfl

theorem tx_loopOff (s : State) : s.loopOff.pace.tx = none := rfl

theorem phase_loopPut (s : State) (v : Nat) (ph : LoopPhase) : (s.loopPut v ph).pace.phase = ph := rfl

theorem tx_loopBegin (s : State) :
    s.loopBegin.pace.tx.map (fun x => (x.ctl, x.addr, x.code)) =
      some (s.get Fd.PWR_PACECTL_I2CSEL, s.get Fd.PWR_PACECTL_VREGADDR, 0x20) := rfl

theorem tx_loopPut (s : State) (v : Nat) (ph : LoopPhase) :
    (s.loopPut v ph).pace.tx.map (fun x => (x.ctl, x.addr, x.code, x.word)) = some (s.get Fd.PWR_PACECTL_I2CSEL, s.get
      Fd.PWR_PACECTL_VREGADDR, 0x21, voutWord s.pace.expo v (Config.freeValue s.fresh)) := rfl

theorem get_loopPut (s : State) (v : Nat) (ph : LoopPhase) {f : Fd} (hf : f.key ≠ Rg.PWR_PACESTAT) :
    (s.loopPut v ph).get f = s.get f := by
  unfold State.loopPut State.loopStart
  rw [get_set_key _ _ _ _ hf]
  rfl

/-- The loop's other registers keep their values where PWR_PACESTAT alone is written. -/
theorem get_of_pacestat {s t : State} (h : LoopOnly (fun k => k = Rg.PWR_PACESTAT) s t) {f : Fd} (hf : f.key ≠ Rg.PWR_PACESTAT) :
    t.get f = s.get f :=
  get_of_reg (t := { t with pace := s.pace }) (h.2 _ hf)

theorem flag_of_pacestat {s t : State} (h : LoopOnly (fun k => k = Rg.PWR_PACESTAT) s t) {f : Fd} (hf : f.key ≠ Rg.PWR_PACESTAT) :
    t.flag f = s.flag f := by
  unfold State.flag
  rw [get_of_pacestat h hf]

/-! ## Set points -/

theorem clampNat_lt {lo hi n : Nat} (v : Nat) (hlo : lo < n) (hhi : hi < n) : clampNat lo hi v < n := by
  unfold clampNat
  split
  · exact hlo
  · split <;> omega

theorem vUpper_lt (s : State) : s.vUpper < 2 ^ 10 := get_lt s Fd.PWR_VLIMIT_VMAX

theorem vLower_le (s : State) : s.vLower ≤ s.vUpper := Nat.min_le_right _ _

theorem vLower_lt (s : State) : s.vLower < 2 ^ 10 := Nat.lt_of_le_of_lt (vLower_le s) (vUpper_lt s)

theorem mvClamp_lt (v : Nat) : mvClamp v < 2 ^ 10 := clampNat_lt v (by decide) (by decide)

end Sys2Proof.Machine
end

section
/-! Writes of the gauges, the supply loop and the junction sensor (R50, R57, R63, R69, R71, R744). -/
namespace Sys2Proof.Machine

/-! ## The registers and their own writes -/

theorem inArr_index (base : Nat) {n stride i : Nat} (hi : i < n) (hs : 0 < stride) : inArr (base + i * stride) base n stride = true := by
  have hlt : i * stride < n * stride := Nat.mul_lt_mul_of_pos_right hi hs
  simp only [inArr, Nat.le_add_right, Nat.add_lt_add_iff_left, hlt, Nat.add_sub_cancel_left, Nat.mul_mod_left, decide_true,
    beq_self_eq_true, Bool.and_self]

theorem arrIx_index (base i : Nat) {stride : Nat} (hs : 0 < stride) : arrIx (base + i * stride) base stride = i := by
  unfold arrIx
  rw [Nat.add_sub_cancel_left, Nat.mul_div_cancel _ hs]

theorem writeReg_pict (s : State) (o v : Nat) (c : WriteCtx) {k : Nat} (hk : k / 0x10000 = 0x14) :
    s.writeReg o k v c = s.writePict k v := by
  unfold State.writeReg
  rw [hk]
  rfl

theorem writeReg_awl (s : State) (o v : Nat) (c : WriteCtx) {k : Nat} (hk : k / 0x10000 = 0x40) :
    s.writeReg o k v c = s.writeUnits k v := by
  unfold State.writeReg
  rw [hk]
  rfl

theorem writeReg_solePace (s : State) (o v : Nat) (c : WriteCtx) {n : Nat} (hn : n < 16) :
    s.writeReg o (Rg.SL_PACE n) v c = s.writePace n v := by
  have hin : inArr (Rg.SL_PACE n) (Rg.SL_PACE 0) 16 0x1000 = true := inArr_index (Rg.SL_PACE 0) hn (by decide)
  have hix : arrIx (Rg.SL_PACE n) (Rg.SL_PACE 0) 0x1000 = n := arrIx_index (Rg.SL_PACE 0) n (by decide)
  rw [writeReg_pict s o v c (by unfold Rg.SL_PACE; omega)]
  unfold State.writePict
  rw [if_pos hin, hix]

theorem writeReg_corePace (s : State) (o v : Nat) (c : WriteCtx) {n : Nat} (hn : n < 4) :
    s.writeReg o (Rg.AWL_PACE n) v c = s.writePace (16 + n) v := by
  have hring : ¬ (0x380008 ≤ Rg.AWL_PACE n ∧ Rg.AWL_PACE n < 0x380014) := by unfold Rg.AWL_PACE; omega
  have hin : inArr (Rg.AWL_PACE n) (Rg.AWL_PACE 0) 4 4 = true := inArr_index (Rg.AWL_PACE 0) hn (by decide)
  have hix : arrIx (Rg.AWL_PACE n) (Rg.AWL_PACE 0) 4 = n := arrIx_index (Rg.AWL_PACE 0) n (by decide)
  rw [writeReg_awl s o v c (by unfold Rg.AWL_PACE; omega)]
  unfold State.writeUnits
  rw [if_neg hring, if_pos hin, hix]

/-- A write of a gauge's register restores its minimum or does nothing (R50). -/
theorem writeReg_gauge (s : State) (o v : Nat) (c : WriteCtx) (g : Fin 20) : s.writeReg o (gaugeKey g) v c = s.writePace g v := by
  unfold gaugeKey
  split
  · next hg => exact writeReg_solePace s o v c hg
  · next hg =>
    rw [writeReg_corePace s o v c (by omega)]
    congr 1
    omega

theorem writeReg_slack (s : State) (o v : Nat) (c : WriteCtx) (n : Fin 16) (hv : nbit v 27 = true) :
    s.writeReg o (Rg.SL_SLACK n) v c = s.set (Fd.SL_SLACK_MIN n) 0x7FF := by
  have hpace : ¬ inArr (Rg.SL_SLACK n) (Rg.SL_PACE 0) 16 0x1000 = true := by
    have hmod : (Rg.SL_SLACK n - Rg.SL_PACE 0) % 0x1000 = 4 := by unfold Rg.SL_SLACK Rg.SL_PACE; omega
    simp [inArr, hmod]
  have hin : inArr (Rg.SL_SLACK n) (Rg.SL_SLACK 0) 16 0x1000 = true := inArr_index (Rg.SL_SLACK 0) n.isLt (by decide)
  have hix : arrIx (Rg.SL_SLACK n) (Rg.SL_SLACK 0) 0x1000 = n := arrIx_index (Rg.SL_SLACK 0) n (by decide)
  rw [writeReg_pict s o v c (by unfold Rg.SL_SLACK; omega)]
  unfold State.writePict
  rw [if_neg hpace, if_pos hin, if_pos hv, hix]

theorem writeReg_tj (s : State) (o v : Nat) (c : WriteCtx) (hv : nbit v 27 = true) :
    s.writeReg o Rg.PWR_TJ v c = s.set Fd.PWR_TJ_MAX (s.get Fd.PWR_TJ_TJ) := if_pos hv

theorem writeReg_pacectl (s : State) (o v : Nat) (c : WriteCtx) : s.writeReg o Rg.PWR_PACECTL v c = s.writePacectl v := rfl

theorem writeReg_vset (s : State) (o v : Nat) (c : WriteCtx) : s.writeReg o Rg.PWR_VSET v c = s.writeVset v := rfl

theorem not_watchKey_gauge (g : Fin 20) : ¬ watchKey (gaugeKey g) := by
  unfold gaugeKey
  split
  · next hg =>
    intro hw
    have hb := block_of_watchKey hw
    unfold Rg.SL_PACE at hb
    omega
  · next hg =>
    unfold watchKey Rg.DBG_RUN Rg.DBG_HITLO Rg.DBG_HITHI Rg.WPCTL Rg.AWL_STAT Rg.AWL_PACE
    rintro (h | h | h | ⟨i, hi, h⟩ | ⟨n, hn, h⟩) <;> omega

theorem not_watchKey_slack (n : Fin 16) : ¬ watchKey (Rg.SL_SLACK n) := fun hw => by
  have hb := block_of_watchKey hw
  unfold Rg.SL_SLACK at hb
  omega

/-! ## PWR_PACECTL and PWR_VSET -/

theorem pacectl_fields : (specAt Rg.PWR_PACECTL).map RegSpec.fields =
    some [⟨27, 21, .rw, .val 0, .kept, .kept⟩, ⟨20, 19, .rw, .val 0, .kept, .kept⟩, ⟨18, 15, .rw, .val 4, .kept, .kept⟩,
      ⟨14, 8, .rw, .val 8, .kept, .kept⟩, ⟨7, 2, .rw, .val 3, .kept, .kept⟩, ⟨1, 1, .rw, .val 0, .val 0, .kept⟩,
      ⟨0, 0, .rw, .val 0, .val 0, .kept⟩] := by
  decide

theorem pacectl_en_writeByAccess (old v : Nat) : nbit (writeByAccess Rg.PWR_PACECTL old v % 2 ^ 28) 0 = nbit v 0 := by
  rw [writeByAccess_of_fields pacectl_fields]
  simp only [List.foldl, writeField, nbits, nbit]
  congr 1
  omega

/-- A write stores EN where no fence holds it at 0 (R690). -/
theorem en_plainWrite (s : State) (v : Nat) : (s.plainWrite Rg.PWR_PACECTL v).flag Fd.PWR_PACECTL_EN = nbit v 0 := by
  rw [flag_eq_nbit _ rfl]
  exact (congrArg (nbit · 0) (regN_plainWrite_same s Rg.PWR_PACECTL v)).trans (pacectl_en_writeByAccess _ v)

/-- EN goes from 0 to 1 and the loop begins (R63). -/
theorem writePacectl_starts {s : State} {v : Nat} (hv : nbit v 0 = true) (hen : s.flag Fd.PWR_PACECTL_EN = false)
    (hfence : s.fenced uLoop = false) (hbusy : s.pace.busy = false) (hhalt : s.halted = false) :
    s.writePacectl v = (s.plainWrite Rg.PWR_PACECTL v).loopBegin := by
  have hon := en_plainWrite s v
  have hhalt' : (s.plainWrite Rg.PWR_PACECTL v).halted = false := by
    unfold State.halted
    rw [flag_plainWrite_other s v (by decide)]
    exact hhalt
  have hbusy' : (s.plainWrite Rg.PWR_PACECTL v).pace.busy = false := by rw [pace_plainWrite, hbusy]
  unfold State.writePacectl
  simp only [hfence, hen, hon, hv, hhalt', hbusy', Bool.false_eq_true, if_false, if_true, Bool.false_beq, Bool.not_true]

/-- EN goes from 1 to 0 with no transaction in flight, and the loop stops (R71). -/
theorem writePacectl_stops {s : State} {v : Nat} (hv : nbit v 0 = false) (hen : s.flag Fd.PWR_PACECTL_EN = true)
    (hbusy : s.pace.busy = false) : s.writePacectl v = (s.plainWrite Rg.PWR_PACECTL v).loopOff := by
  have hon := en_plainWrite s v
  have hbusy' : (s.plainWrite Rg.PWR_PACECTL v).pace.busy = false := by rw [pace_plainWrite, hbusy]
  have heven : v % 2 = 0 := by
    unfold nbit at hv
    simp only [pow_zero, Nat.div_one, beq_eq_false_iff_ne] at hv
    omega
  have hheld : (if s.fenced uLoop = true then v - v % 2 else v) = v := by rw [heven]; simp
  unfold State.writePacectl
  simp only [hheld, hen, hon, hv, hbusy', Bool.false_eq_true, if_false]
  rfl

/-- With EN 0 a write of PWR_VSET stores its clamped set points and sends one (R69). -/
theorem writeVset_sends {s : State} (v : Nat) (hen : s.flag Fd.PWR_PACECTL_EN = false) (hbusy : s.pace.busy = false)
    (hhalt : s.halted = false) :
    s.writeVset v = ((s.set Fd.PWR_VSET_IDLE (mvClamp (v / 2 ^ 10 % 2 ^ 10))).set Fd.PWR_VSET_VSET
      (clampNat s.vLower s.vUpper (v % 2 ^ 10))).loopPut (clampNat s.vLower s.vUpper (v % 2 ^ 10)) .vsetSend := by
  have hhalt' (x y : Nat) : ((s.set Fd.PWR_VSET_IDLE x).set Fd.PWR_VSET_VSET y).halted = false := by
    unfold State.halted at hhalt ⊢
    rw [flag_set_key _ _ _ _ (by decide), flag_set_key _ _ _ _ (by decide)]
    exact hhalt
  have hbusy' (x y : Nat) : ((s.set Fd.PWR_VSET_IDLE x).set Fd.PWR_VSET_VSET y).pace.busy = false := by
    rw [pace_set, pace_set, hbusy]
  have hidle : nbits v 19 10 = v / 1024 % 1024 := rfl
  have hset : 2 ^ 10 = 1024 := by decide
  unfold State.writeVset
  simp only [hidle, hset, hen, hbusy', hhalt', Bool.false_eq_true, if_false, Bool.or_false]

/-! ## The writes as commands -/

theorem pace_afterWrite (s : State) (m k v : Nat) (e : Env) :
    (s.afterWrite m k v e).pace = (s.writeReg (ownerOfMaster m) k v { beam := e.beam }).pace := by
  rw [afterWrite_eq_withAccess]
  rfl

section
variable {m : Fin 32} {s : State} {v : BitVec 28} {e : Env}

/-- A direct write that puts `x` into one field of its register. -/
theorem fieldWrite_writes {c : Instr} {k x : Nat} {f : Fd} (hx : exec c s = wrote s m k v e) (h : Taken s m k v.toNat)
    (hk : k ≠ Rg.SEC_FUSECMD) (hwatch : ¬ watchKey k) (hkey : f.key = k) (hlo : f.lo + f.w ≤ 28) (hlt : x < 2 ^ f.w)
    (hw : s.writeReg (ownerOfMaster m) k v.toNat { beam := e.beam } = s.set f x) :
    Writes c s (fun t => t.get f = x ∧ AccessOnly (fun j => j = k) s t) := by
  refine writes_of hx h hk ⟨?_, ?_⟩
  · rw [get_afterWrite s m k _ e f (hkey ▸ hwatch), hw, get_set_same s f x hlo, Nat.mod_eq_of_lt hlt]
  · refine accessOnly_afterWrite id (fun _ _ _ _ => rfl) ?_
    rw [hw]
    exact regsOnly_set s f x hkey

theorem paceMinclr_writes (g : Fin 20) (h : Taken s m (gaugeKey g) v.toNat) (hv : nbit v.toNat 27 = true) :
    Writes (.paceMinclr g m v e) s (fun t => t.get (gaugeMin g) = 0x1FFF ∧ AccessOnly (fun k => k = gaugeKey g) s t) := by
  have hne : gaugeKey g ≠ Rg.SEC_FUSECMD := by
    unfold gaugeKey Rg.SL_PACE Rg.AWL_PACE Rg.SEC_FUSECMD
    split <;> omega
  refine fieldWrite_writes rfl h hne (not_watchKey_gauge g) rfl (f := gaugeMin g) (show 14 + 13 ≤ 28 by decide)
    (show 0x1FFF < 2 ^ 13 by decide) ?_
  exact (writeReg_gauge s _ _ _ g).trans (if_pos hv)

theorem slackMinclr_writes (n : Fin 16) (h : Taken s m (Rg.SL_SLACK n) v.toNat) (hv : nbit v.toNat 27 = true) :
    Writes (.slackMinclr n m v e) s (fun t =>
      t.get (Fd.SL_SLACK_MIN n) = 0x7FF ∧ AccessOnly (fun k => k = Rg.SL_SLACK n) s t) := by
  have hne : Rg.SL_SLACK n ≠ Rg.SEC_FUSECMD := by unfold Rg.SL_SLACK Rg.SEC_FUSECMD; omega
  exact fieldWrite_writes rfl h hne (not_watchKey_slack n) (f := Fd.SL_SLACK_MIN n) rfl (show 12 + 12 ≤ 28 by decide)
    (show 0x7FF < 2 ^ 12 by decide) (writeReg_slack s _ _ _ n hv)

theorem tjMaxClear_writes (h : Taken s m Rg.PWR_TJ v.toNat) (hv : nbit v.toNat 27 = true) :
    Writes (.tjMaxClear m v e) s (fun t =>
      t.get Fd.PWR_TJ_MAX = s.get Fd.PWR_TJ_TJ ∧ AccessOnly (fun k => k = Rg.PWR_TJ) s t) :=
  fieldWrite_writes rfl h (by decide) (not_watchKey_of_lt (by decide)) (f := Fd.PWR_TJ_MAX) rfl (by decide)
    (get_lt s Fd.PWR_TJ_TJ) (writeReg_tj s _ _ _ hv)

/-- What a direct write of one of the loop's registers changes beside the loop's hidden state. -/
theorem accessOnly_loop {p : Nat → Prop} {k : Nat} (h : LoopOnly p s (s.writeReg (ownerOfMaster m) k v.toNat { beam := e.beam })) :
    AccessOnly p s { s.afterWrite m k v.toNat e with pace := s.pace } :=
  accessOnly_afterWrite (fun t => { t with pace := s.pace }) (fun _ _ _ _ => rfl) h

theorem loopEnable_writes (h : Taken s m Rg.PWR_PACECTL v.toNat) (hv : nbit v.toNat 0 = true)
    (hen : s.flag Fd.PWR_PACECTL_EN = false) (hfence : s.fenced uLoop = false) (hbusy : s.pace.busy = false)
    (hhalt : s.halted = false) :
    Writes (.loopEnable m v e) s (fun t =>
      t.flag Fd.PWR_PACECTL_EN = true ∧ t.pace.phase = .readMode ∧
      t.pace.tx.map (fun x => (x.ctl, x.addr, x.code)) =
        some (t.get Fd.PWR_PACECTL_I2CSEL, t.get Fd.PWR_PACECTL_VREGADDR, 0x20) ∧
      t.flag Fd.PWR_PACESTAT_BUSY = true ∧
      AccessOnly (fun k => k = Rg.PWR_PACECTL ∨ k = Rg.PWR_PACESTAT) s { t with pace := s.pace }) := by
  have hw : s.writeReg (ownerOfMaster m) Rg.PWR_PACECTL v.toNat { beam := e.beam } =
      (s.plainWrite Rg.PWR_PACECTL v.toNat).loopBegin :=
    (writeReg_pacectl s _ _ _).trans (writePacectl_starts hv hen hfence hbusy hhalt)
  have hctl := (loopOnly_refl (fun k => k = Rg.PWR_PACESTAT) (s.plainWrite Rg.PWR_PACECTL v.toNat)).loopBegin rfl
  refine writes_of rfl h (by decide) ⟨?_, ?_, ?_, ?_, ?_⟩
  · rw [flag_afterWrite_low s m _ _ e (by decide), hw, flag_of_pacestat hctl (by decide), en_plainWrite, hv]
  · rw [pace_afterWrite, hw, phase_loopBegin]
  · rw [pace_afterWrite, get_afterWrite_low s m _ _ e (by decide), get_afterWrite_low s m _ _ e (by decide), hw,
      get_of_pacestat hctl (by decide), get_of_pacestat hctl (by decide)]
    exact tx_loopBegin _
  · rw [flag_afterWrite_low s m _ _ e (by decide), hw, busy_loopBegin]
  · refine accessOnly_loop ?_
    rw [hw]
    exact ((loopOnly_refl _ s).plainWrite _ (.inl rfl)).loopBegin (.inr rfl)

theorem loopDisable_writes (h : Taken s m Rg.PWR_PACECTL v.toNat) (hv : nbit v.toNat 0 = false)
    (hen : s.flag Fd.PWR_PACECTL_EN = true) (hbusy : s.pace.busy = false) :
    Writes (.loopDisable m v e) s (fun t =>
      t.flag Fd.PWR_PACECTL_EN = false ∧ t.pace.phase = .off ∧ t.pace.tx = none ∧ t.flag Fd.PWR_PACESTAT_EMERG = false ∧
      AccessOnly (fun k => k = Rg.PWR_PACECTL ∨ k = Rg.PWR_PACESTAT) s { t with pace := s.pace }) := by
  have hw : s.writeReg (ownerOfMaster m) Rg.PWR_PACECTL v.toNat { beam := e.beam } =
      (s.plainWrite Rg.PWR_PACECTL v.toNat).loopOff :=
    (writeReg_pacectl s _ _ _).trans (writePacectl_stops hv hen hbusy)
  have hctl := (loopOnly_refl (fun k => k = Rg.PWR_PACESTAT) (s.plainWrite Rg.PWR_PACECTL v.toNat)).loopOff rfl
  refine writes_of rfl h (by decide) ⟨?_, ?_, ?_, ?_, ?_⟩
  · rw [flag_afterWrite_low s m _ _ e (by decide), hw, flag_of_pacestat hctl (by decide), en_plainWrite, hv]
  · rw [pace_afterWrite, hw, phase_loopOff]
  · rw [pace_afterWrite, hw, tx_loopOff]
  · rw [flag_afterWrite_low s m _ _ e (by decide), hw, emerg_loopOff]
  · refine accessOnly_loop ?_
    rw [hw]
    exact ((loopOnly_refl _ s).plainWrite _ (.inl rfl)).loopOff (.inr rfl)

theorem vsetWrite_writes (h : Taken s m Rg.PWR_VSET v.toNat) (hen : s.flag Fd.PWR_PACECTL_EN = false)
    (hbusy : s.pace.busy = false) (hhalt : s.halted = false) :
    Writes (.vsetWrite m v e) s (fun t =>
      t.get Fd.PWR_VSET_IDLE = mvClamp (v.toNat / 2 ^ 10 % 2 ^ 10) ∧
      t.get Fd.PWR_VSET_VSET = clampNat s.vLower s.vUpper (v.toNat % 2 ^ 10) ∧
      t.pace.phase = .vsetSend ∧
      t.pace.tx.map (fun x => (x.ctl, x.addr, x.code, x.word)) = some (s.get Fd.PWR_PACECTL_I2CSEL, s.get
        Fd.PWR_PACECTL_VREGADDR, 0x21, voutWord s.pace.expo (clampNat s.vLower s.vUpper (v.toNat % 2 ^ 10)) (Config.freeValue
        s.fresh)) ∧
      AccessOnly (fun k => k = Rg.PWR_VSET ∨ k = Rg.PWR_PACESTAT) s { t with pace := s.pace, fresh := s.fresh }) := by
  have hw : s.writeReg (ownerOfMaster m) Rg.PWR_VSET v.toNat { beam := e.beam } = _ :=
    (writeReg_vset s _ _ _).trans (writeVset_sends v.toNat hen hbusy hhalt)
  have hidle := mvClamp_lt (v.toNat / 2 ^ 10 % 2 ^ 10)
  have hset := clampNat_lt (v.toNat % 2 ^ 10) (vLower_lt s) (vUpper_lt s)
  generalize mvClamp (v.toNat / 2 ^ 10 % 2 ^ 10) = idle at hw hidle ⊢
  generalize clampNat s.vLower s.vUpper (v.toNat % 2 ^ 10) = mv at hw hset ⊢
  refine writes_of rfl h (by decide) ⟨?_, ?_, ?_, ?_, ?_⟩
  · rw [get_afterWrite_low s m _ _ e (by decide), hw, get_loopPut _ _ _ (by decide), get_set_apart _ _ _ _ (by decide) (by decide),
      get_set_same _ _ _ (by decide)]
    exact Nat.mod_eq_of_lt hidle
  · rw [get_afterWrite_low s m _ _ e (by decide), hw, get_loopPut _ _ _ (by decide), get_set_same _ _ _ (by decide)]
    exact Nat.mod_eq_of_lt hset
  · rw [pace_afterWrite, hw, phase_loopPut]
  · rw [pace_afterWrite, hw, tx_loopPut, get_set_key _ _ _ _ (by decide), get_set_key _ _ _ _ (by decide),
      get_set_key _ _ _ _ (by decide), get_set_key _ _ _ _ (by decide), pace_set, pace_set, fresh_set, fresh_set]
  · refine accessOnly_afterWrite (fun t => { t with pace := s.pace, fresh := s.fresh }) (fun _ _ _ _ => rfl) ?_
    rw [hw]
    exact ((sendOnly_of_loopOnly (loopOnly_refl _ s)).set _ (.inl rfl)).set _ (.inl rfl) |>.loopPut _ _ (.inr rfl)

end

/-- Settles O1, one lemma for each of its writes. -/
theorem paceWritesComplete : Obligations.PaceWritesComplete := by
  intro m s v e
  exact ⟨paceMinclr_writes, slackMinclr_writes, loopEnable_writes, loopDisable_writes, vsetWrite_writes, tjMaxClear_writes⟩

end Sys2Proof.Machine
end

section
/-! What a fault report leaves alone beside memory (R690–R692): the supply loop's registers and hidden state, the gauges, and
the registers and hidden state of the lines. A fence of the supply loop is the one that writes one of them, EN (R690). -/
namespace Sys2Proof.Machine

/-- The registers of the supply loop, of the lines (LAST_HDn_SEL, FETCH_SLn_LAT, the Soles' and the heads' blocks) and AWLn_PACE. -/
def heldKey (k : Nat) : Prop :=
  0x30040 ≤ k ∧ k ≤ 0x30050 ∨ 0x100040 ≤ k ∧ k < 0x100080 ∨ 0x110080 ≤ k ∧ k < 0x1100C0 ∨ 0x140000 ≤ k ∧ k < 0x150000 ∨
  0x180000 ≤ k ∧ k < 0x190000 ∨ 0x400180 ≤ k ∧ k < 0x400190

/-- Between the held registers: the fault hub's counters and the lanes, the Last store's other registers, the links, the endpoint
and the cores, and the units above them. -/
theorem free_of_key {f : Fd} {k : Nat} (hf : f.key = k) (hk : 0x30050 < k ∧ k < 0x100040 ∨ 0x190000 ≤ k ∧ k < 0x400180 ∨ 0x400190 ≤ k) :
    ¬ heldKey f.key := by
  unfold heldKey
  omega

/-- The units a fence or its end does something to: their indices are small (R683). -/
def smallUnit (u : Nat) : Prop := u % 1024 < 32 ∧ (u / 1024 = 4 → u % 1024 < 4)

theorem smallUnit_fenceUnits : ∀ u ∈ fenceUnits, smallUnit u := by
  unfold smallUnit
  decide

/-- A fold keeps what its step keeps for the list's entries. -/
theorem keeps_foldl {P : State → Prop} {α : Type} {f : State → α → State} {l : List α} {s : State}
    (hf : ∀ x ∈ l, ∀ a, P a → P (f a x)) (h : P s) : P (l.foldl f s) := by
  induction l generalizing s with
  | nil => exact h
  | cons x l ih => exact ih (fun y hy => hf y (.tail x hy)) (hf x (.head l) s h)

/-- `P` is kept by what a report writes, and does not speak of the rest: the fault hub, interrupts, lanes, sound and receive
state, channels cut off, and which rectangles a fence leaves unchecked. -/
structure ReportClosed (P : State → Prop) : Prop where
  set : ∀ {s : State} {f : Fd} (x : Nat), P s → ¬ heldKey f.key → P (s.set f x)
  loopEn : ∀ {s : State}, P s → P (s.set Fd.PWR_PACECTL_EN 0)
  hub : ∀ {s : State} (h : Hub), P s → (∀ r ∈ s.hub.reacting, r ∈ h.reacting) → P { s with hub := h }
  icu : ∀ {s : State} (x : Icu), P s → P { s with icu := x }
  lanes : ∀ {s : State} (x : LanesS), P s → P { s with lanes := x }
  audio : ∀ {s : State} (x : AudioS), P s → P { s with audio := x }
  cut : ∀ {s : State} (l : List Nat), P s → P { s with fetch := { s.fetch with cut := l } }
  uncheck : ∀ {s : State} (h : Nat), P s → P (s.uncheckRects h)
  prx : ∀ {s : State} (i : Nat), P s → P { s with pict := { s.pict with prx := tabErase s.pict.prx i } }

/-- The lanes of a port. -/
theorem lane_lt {p n : Nat} (hp : p < 32) (hn : n ∈ [4 * p, 4 * p + 1, 4 * p + 2, 4 * p + 3]) : n < 128 := by
  simp only [List.mem_cons, List.not_mem_nil, or_false] at hn
  omega

theorem pict_set (s : State) (f : Fd) (x : Nat) : (s.set f x).pict = s.pict := rfl

namespace ReportClosed

variable {P : State → Prop} (hP : ReportClosed P) {s : State}
include hP

theorem raise (n : Nat) (h : P s) : P (s.raise n) := SteadyClosed.ite h (hP.icu _ h)

/-- A write of a register between the held ones. -/
theorem put {f : Fd} {k : Nat} (x : Nat) (h : P s) (hf : f.key = k)
    (hk : 0x30050 < k ∧ k < 0x100040 ∨ 0x190000 ≤ k ∧ k < 0x400180 ∨ 0x400190 ≤ k) : P (s.set f x) := hP.set x h (free_of_key hf hk)

theorem setPortState {p : Nat} (hp : p < 32) (st : Nat) (h : P s) : P (s.setPortState p st) :=
  SteadyClosed.ite h (hP.raise _ (hP.put _ h (k := 0x70004 + p * 8) rfl (by omega)))

theorem lockLost {n : Nat} (hn : n < 128) (h : P s) : P (s.lockLost n) := by
  have h1 : P (s.set (Fd.EYE_L_STAT_LOCK n) 0) := hP.put _ h (k := 0x70104 + n * 0x10) rfl (by omega)
  have h2 := hP.put (f := Fd.EYE_L_SCAN_BUSY n) 0 h1 (k := 0x7010C + n * 0x10) rfl (by omega)
  exact SteadyClosed.ite (hP.put _ h2 (k := 0x7010C + n * 0x10) rfl (by omega)) h1

theorem setTaps {n : Nat} (hn : n < 128) (t : Nat × Nat × Nat) (h : P s) : P (s.setTaps n t) := by
  have hk : 0x30050 < 0x70104 + n * 0x10 ∧ 0x70104 + n * 0x10 < 0x100040 := by omega
  exact hP.put _ (hP.put _ (hP.put _ h (k := 0x70104 + n * 0x10) rfl (.inl hk)) (k := 0x70104 + n * 0x10) rfl (.inl hk))
    (k := 0x70104 + n * 0x10) rfl (.inl hk)

theorem dpAbandon (p : Nat) (h : P s) : P (s.dpAbandon p) := hP.lanes _ h

theorem laneIdle {n : Nat} (hn : n < 128) (h : P s) :
    P ((((s.lockLost n).set (Fd.EYE_L_STAT_SYNC n) 0).set (Fd.EYE_L_STAT_USE n) 0).setTaps n (0, 0, 0)) := by
  have h1 := hP.put (f := Fd.EYE_L_STAT_SYNC n) 0 (hP.lockLost hn h) (k := 0x70104 + n * 0x10) rfl (by omega)
  exact hP.setTaps hn _ (hP.put (f := Fd.EYE_L_STAT_USE n) 0 h1 (k := 0x70104 + n * 0x10) rfl (by omega))

theorem lanesIdle {p : Nat} (hp : p < 32) (h : P s) : P (s.lanesIdle p) := by
  unfold State.lanesIdle
  exact keeps_foldl (fun n hn _ ha => hP.laneIdle (lane_lt hp hn) ha) h

theorem dpForget {p : Nat} (hp : p < 32) (h : P s) : P (s.dpForget p) := by
  have hkey (f : Fd) (hf : f ∈ [Fd.DP_WP_STAT_TRAINED p, Fd.DP_WP_STAT_RATE p, Fd.DP_WP_STAT_LANES p, Fd.DP_WP_STAT_NOFIT p,
      Fd.DP_WP_STAT_ILRUSE p, Fd.DP_WP_STAT_ILRIDX p]) : f.key = 0x380020 + p * 4 := by
    simp only [List.mem_cons, List.not_mem_nil, or_false] at hf
    obtain rfl | rfl | rfl | rfl | rfl | rfl := hf <;> rfl
  unfold State.dpForget
  exact keeps_foldl (fun f hf _ ha => hP.put 0 ha (hkey f hf) (by omega)) h

theorem pcieGone (h : P s) : P s.pcieGone := by
  have hset {t : State} {f : Fd} (x : Nat) (hf : f.key = Rg.PCIE_STAT) (ht : P t) : P (t.set f x) :=
    hP.put _ ht (k := 0x380004) hf (by omega)
  exact SteadyClosed.ite (hP.lanesIdle (by omega) (hset _ rfl (hset _ rfl (hset _ rfl (hset _ rfl h))))) h

theorem coreFaulted {n : Nat} (hn : n < 4) (h : P s) : P (s.coreFaulted n) := by
  have hlock {t : State} {f : Fd} (hf : f.key = Rg.AWL_LOCK) (ht : P t) : P (t.set f 0) :=
    hP.put _ ht (k := 0x400100) hf (by omega)
  have hstat {t : State} {f : Fd} (x : Nat) (hf : f.key = Rg.AWL_STAT n) (ht : P t) : P (t.set f x) :=
    hP.put _ ht (k := 0x400004 + n * 0x40) hf (by omega)
  exact hP.icu _ (hstat _ rfl (SteadyClosed.ite (hstat _ rfl (hstat _ rfl (hlock rfl (hlock rfl h)))) h))

theorem laceStops (ch st : Nat) (h : P s) : P (s.laceStops ch st) := by
  have hset {t : State} {f : Fd} (x : Nat) (hf : f.key = Rg.LACE_CH_STAT ch) (ht : P t) : P (t.set f x) :=
    hP.put _ ht (k := 0x480008 + ch * 0x10) hf (by omega)
  have h1 := hset (f := Fd.LACE_CH_STAT_ERREV ch) 1 rfl (hset (f := Fd.LACE_CH_STAT_STATE ch) st rfl h)
  exact SteadyClosed.ite (hP.raise _ h1) h1

theorem skiverStops (st : Nat) (h : P s) : P (s.skiverStops st) := by
  have hset {t : State} {f : Fd} (x : Nat) (hf : f.key = Rg.SKIVER_STAT) (ht : P t) : P (t.set f x) :=
    hP.put _ ht (k := 0x490008) hf (by omega)
  have h1 := hset (f := Fd.SKIVER_STAT_ERREV) 1 rfl (hset (f := Fd.SKIVER_STAT_STATE) st rfl h)
  exact SteadyClosed.ite (hP.raise _ h1) h1

theorem soundStops (h : P s) : P s.soundStops := hP.audio _ (hP.audio _ h)

theorem lastCap (h : P s) : P (s.set Fd.LAST_SLOTCAP_CAP 0) := by
  have hk : ¬ heldKey Rg.LAST_SLOTCAP := by
    unfold heldKey Rg.LAST_SLOTCAP
    omega
  exact hP.set 0 h hk

/-- A fence falls on a unit (R690). -/
theorem onFence {u : Nat} (hu : smallUnit u) (h : P s) : P (s.onFence u) := by
  obtain ⟨hlt, hcore⟩ := hu
  unfold State.onFence
  split
  · exact hP.uncheck _ h
  · have h1 := hP.setPortState hlt 3 (hP.dpForget hlt (hP.lanesIdle hlt (hP.dpAbandon (u % 1024) h)))
    exact SteadyClosed.ite h (SteadyClosed.ite (hP.pcieGone h1) h1)
  · next hk => exact SteadyClosed.ite (hP.coreFaulted (hcore hk) h) h
  · exact SteadyClosed.ite (hP.laceStops _ _ h) h
  · exact SteadyClosed.ite (hP.skiverStops _ h) h
  · exact hP.soundStops h
  · exact hP.cut _ h
  · exact hP.loopEn h
  · exact hP.cut _ (hP.lastCap h)
  · exact h

theorem laneUse {n : Nat} (hn : n < 128) (h : P s) : P (s.set (Fd.EYE_L_STAT_USE n) 1) :=
  hP.put _ h (k := 0x70104 + n * 0x10) rfl (by omega)

/-- The four lanes of a port come into use for a lane test (R324). -/
theorem lanesUse {p : Nat} (hp : p < 32) (h : P s) :
    P ([4 * p, 4 * p + 1, 4 * p + 2, 4 * p + 3].foldl (fun a n => a.set (Fd.EYE_L_STAT_USE n) 1) s) :=
  keeps_foldl (fun _ hn _ ha => hP.laneUse (lane_lt hp hn) ha) h

theorem portRate {p : Nat} (hp : p < 32) (x : Nat) (h : P s) : P (s.set (Fd.EYE_WP_STAT_RATE p) x) :=
  hP.put _ h (k := 0x70004 + p * 8) rfl (by omega)

theorem portEnters {p : Nat} (hp : p < 32) (h : P s) : P (s.portEnters p) := by
  unfold State.portEnters
  split
  · exact hP.setPortState hp 1 h
  · exact hP.setPortState hp 1 h
  · exact hP.lanesUse hp (hP.setPortState hp 5 (hP.portRate hp _ h))
  · exact SteadyClosed.ite (hP.setPortState hp 1 (hP.lanes _ h)) (hP.setPortState hp 0 h)
  · exact SteadyClosed.ite (hP.setPortState hp 1 (hP.lanes _ h)) (hP.setPortState hp 0 h)
  · exact hP.setPortState hp 0 h

theorem portReady {p : Nat} (hp : p < 32) (h : P s) : P ((s.set (Fd.EYE_WP_STAT_READY p) 0).setPortState p 2) :=
  hP.setPortState hp 2 (hP.put _ h (k := 0x70004 + p * 8) rfl (by omega))

theorem heaterLatch (i : Nat) (h : P s) : P (s.set (Fd.SHK_HT_S_LATCH i) 0) :=
  hP.put _ h (k := 0x590088 + i * 0x10) rfl (by omega)

theorem prxLifts {i : Nat} (hi : i < 32) (h : P s) :
    P { s.set (Fd.WELT_PRX_STAT_STATE i) 3 with pict := { s.pict with prx := tabErase s.pict.prx i } } := by
  have h1 := hP.prx i (hP.put (f := Fd.WELT_PRX_STAT_STATE i) 3 h (k := 0x30008C + i * 0x10) rfl (by omega))
  rw [pict_set] at h1
  exact h1

/-- A fence lifts from a unit (R692). -/
theorem onLift {u : Nat} (hu : smallUnit u) (h : P s) : P (s.onLift u) := by
  obtain ⟨hlt, -⟩ := hu
  unfold State.onLift
  split
  · exact SteadyClosed.ite h (SteadyClosed.ite (hP.setPortState hlt 0 h) (SteadyClosed.ite (hP.portReady hlt h)
      (hP.portEnters hlt h)))
  · exact SteadyClosed.ite (hP.laceStops _ _ h) h
  · exact SteadyClosed.ite (hP.skiverStops _ h) h
  · exact hP.heaterLatch _ h
  · exact SteadyClosed.ite (hP.prxLifts hlt h) h
  · exact h

/-- Fences fall and lift. -/
theorem withReacting {r : List (Nat × Nat)} (h : P s) (hr : ∀ x ∈ s.hub.reacting, x ∈ r) : P (s.withReacting r) := by
  unfold State.withReacting
  refine keeps_foldl (fun u hu a ha => ?_) (hP.hub _ h hr)
  have hsmall := smallUnit_fenceUnits u hu
  exact SteadyClosed.ite (hP.onFence hsmall ha) (SteadyClosed.ite (hP.onLift hsmall ha) ha)

theorem react (r : FaultRec) (h : P s) : P (s.react r) := by
  have hr := hP.withReacting (r := s.hub.reacting ++ [(r.unit, r.cls)]) h fun x hx => List.mem_append_left _ hx
  exact SteadyClosed.ite h (SteadyClosed.ite (SteadyClosed.ite h hr) (SteadyClosed.ite (hP.hub _ h fun _ hx => hx) h))

theorem lost (c : Nat) (h : P s) : P (s.bump (lostField c) 255) := by
  have hk : ¬ heldKey (lostField c).key := by
    unfold lostField
    split
    iterate 3 exact free_of_key (k := 0x40008) rfl (by omega)
    iterate 2 exact free_of_key (k := 0x4000C) rfl (by omega)
  exact SteadyClosed.ite (hP.set _ h hk) h

theorem logOrLost {hub : Hub} (r : FaultRec) (h : P s) (hr : hub.reacting = s.hub.reacting) :
    P (match s.freeEntry with
      | some e => { s with hub := { hub with log := tabInsert hub.log e r } }
      | none => ({ s with hub := hub } : State).bump (lostField r.cls) 255) := by
  split
  · exact hP.hub _ h fun _ hx => hr ▸ hx
  · exact hP.lost _ (hP.hub _ h fun _ hx => hr ▸ hx)

theorem logRecord (r : FaultRec) (h : P s) : P (s.logRecord r) := hP.logOrLost r h rfl

/-- What a report keeps (R682–R692). -/
theorem reportG (u code base detail : Nat) (forced real : Bool) (h : P s) : P (s.reportG u code base detail forced real) :=
  hP.react _ (hP.logRecord _ h)

theorem report (u code base detail : Nat) (h : P s) : P (s.report u code base detail) := hP.reportG u code base detail false true h

end ReportClosed

end Sys2Proof.Machine
end

section
/-! Gauge windows and the supply loop's events (R48–R52, R62–R70). -/
namespace Sys2Proof.Machine

/-! ## Events as commands -/

section
variable {c : Instr} {s t : State} {P : State → Prop}

theorem answers_event (hx : exec c s = event s t) (he : s.inEpisode = false) (hp : P t) : Answers c s P := by
  refine ⟨t, hp, .inr ?_⟩
  rw [hx]
  unfold event
  rw [he]
  rfl

theorem answers_outlast (hx : exec c s = outlast s t) (he : s.inEpisode = false) (hp : P t) : Answers c s P := by
  refine ⟨t, hp, .inr ?_⟩
  rw [hx]
  unfold outlast
  rw [he]
  rfl

theorem answers_quiet (hx : exec c s = quiet s t) (he : s.inEpisode = false) (hp : P t) : Answers c s P := by
  refine ⟨t, hp, ?_⟩
  rw [hx]
  unfold quiet calm
  rw [he]
  by_cases hh : t.hub.reacting = s.hub.reacting ∧ t.hub.stopping = s.hub.stopping
  · exact .inl (congrArg Host.Outcome.next (if_pos hh))
  · exact .inr (congrArg Host.Outcome.next (if_neg hh))

end

/-! ## What a report keeps -/

/-- The held registers and the loop's hidden state are as in `s`, but that a fence of the loop may clear EN. -/
def HeldAs (s t : State) : Prop :=
  (∀ k, heldKey k → k ≠ Rg.PWR_PACECTL → t.reg k = s.reg k) ∧ t.pace = s.pace ∧
  (s.flag Fd.PWR_PACECTL_EN = false → t.flag Fd.PWR_PACECTL_EN = false)

theorem heldAs_refl (s : State) : HeldAs s s := ⟨fun _ _ _ => rfl, rfl, id⟩

theorem heldKey_pacectl : heldKey Rg.PWR_PACECTL := by
  unfold heldKey Rg.PWR_PACECTL
  omega

theorem reportClosed_heldAs (s : State) : ReportClosed (HeldAs s) where
  set {t f} x ht hf := by
    obtain ⟨hregs, hpace, hen⟩ := ht
    refine ⟨fun k hk hne => ?_, (pace_set _ _ _).trans hpace, fun h => ?_⟩
    · rw [reg_set_key _ _ _ _ fun e : k = f.key => hf (e ▸ hk)]
      exact hregs k hk hne
    · rw [flag_set_key _ _ _ _ fun e : Rg.PWR_PACECTL = f.key => hf (e ▸ heldKey_pacectl)]
      exact hen h
  loopEn {t} ht := by
    obtain ⟨hregs, hpace, -⟩ := ht
    refine ⟨fun k hk hne => ?_, (pace_set _ _ _).trans hpace, fun _ => flag_set_same _ _ rfl (by decide)⟩
    rw [reg_set_key _ _ _ _ hne]
    exact hregs k hk hne
  hub _ ht _ := ht
  icu _ ht := ht
  lanes _ ht := ht
  audio _ ht := ht
  cut _ ht := ht
  uncheck _ ht := ht
  prx _ ht := ht

theorem heldAs_report (s : State) (u code base detail : Nat) : HeldAs s (s.report u code base detail) :=
  (reportClosed_heldAs s).report u code base detail (heldAs_refl s)

theorem HeldAs.get {s t : State} (h : HeldAs s t) {f : Fd} (hf : heldKey f.key) (hne : f.key ≠ Rg.PWR_PACECTL) :
    t.get f = s.get f := get_of_reg (h.1 _ hf hne)

theorem HeldAs.flag {s t : State} (h : HeldAs s t) {f : Fd} (hf : heldKey f.key) (hne : f.key ≠ Rg.PWR_PACECTL) :
    t.flag f = s.flag f := by
  unfold State.flag
  rw [h.get hf hne]

theorem mem_report (s : State) (u code base detail : Nat) : (s.report u code base detail).mem = s.mem :=
  (kept_report s u code base detail (kept_refl s)).1

/-! ## Gauges -/

/-- What a gauge window with pace `v` leaves in its register (R48, R50). -/
def State.gaugeTakes (s : State) (g v : Nat) : State :=
  if v < s.get (gaugeMin g) then (s.set (gaugePace g) v).set (gaugeMin g) v else s.set (gaugePace g) v

/-- A gauge counts a window as slow (R52). -/
abbrev State.slowWindow (s : State) (v : Nat) : Prop :=
  v < 1024 ∧ 720 ≤ s.get Fd.PWR_VSET_VSET ∧ nbit (s.get Fd.PWR_SUPSTAT_WARN) 0 = false ∧ s.tjCool = true

theorem gaugeEnd_slow {s : State} {g v : Nat} (hr : s.gaugeRuns g = true) (hs : s.slowWindow v) :
    s.gaugeEnd g v = (s.gaugeTakes g v).report (gaugeUnit g) 0x08 1 0 := by
  unfold State.gaugeEnd
  rw [hr]
  exact if_pos hs

theorem gaugeEnd_fast {s : State} {g v : Nat} (hr : s.gaugeRuns g = true) (hs : ¬ s.slowWindow v) :
    s.gaugeEnd g v = s.gaugeTakes g v := by
  unfold State.gaugeEnd
  rw [hr]
  exact if_neg hs

theorem regsOnly_gaugeTakes (s : State) (g v : Nat) : RegsOnly (fun k => k = gaugeKey g) s (s.gaugeTakes g v) :=
  regsOnly_ite (regsOnly_trans (regsOnly_set s (gaugePace g) v rfl) (regsOnly_set _ (gaugeMin g) v rfl))
    (regsOnly_set s (gaugePace g) v rfl)

theorem pace_gaugeTakes (s : State) (g v : Nat) : (s.gaugeTakes g v).pace = s.pace := 
  (congrArg State.pace (regsOnly_gaugeTakes s g v).1 :)

theorem get_gaugeTakes (s : State) (g : Nat) {v : Nat} (hv : v < 2 ^ 14) :
    (s.gaugeTakes g v).get (gaugePace g) = v ∧ (s.gaugeTakes g v).get (gaugeMin g) = min v (s.get (gaugeMin g)) := by
  have hpace : (s.set (gaugePace g) v).get (gaugePace g) = v :=
    (get_set_same s (gaugePace g) v (show 0 + 14 ≤ 28 by decide)).trans (Nat.mod_eq_of_lt hv)
  have hmin : s.get (gaugeMin g) < 2 ^ 13 := get_lt s (gaugeMin g)
  unfold State.gaugeTakes
  split
  · next hlt =>
    refine ⟨?_, ?_⟩
    · exact (get_set_apart _ (gaugeMin g) (gaugePace g) v (show 14 + 13 ≤ 28 by decide) (.inl (show 0 + 14 ≤ 14 by decide))).trans hpace
    · rw [get_set_same _ (gaugeMin g) v (show 14 + 13 ≤ 28 by decide), Nat.min_eq_left (Nat.le_of_lt hlt)]
      exact Nat.mod_eq_of_lt (Nat.lt_trans hlt hmin)
  · next hge =>
    refine ⟨hpace, ?_⟩
    rw [get_set_apart s (gaugePace g) (gaugeMin g) v (show 0 + 14 ≤ 28 by decide) (.inr (show 0 + 14 ≤ 14 by decide)),
      Nat.min_eq_right (Nat.le_of_not_lt hge)]

theorem heldKey_gauge (g : Fin 20) : heldKey (gaugeKey g) ∧ gaugeKey g ≠ Rg.PWR_PACECTL := by
  unfold gaugeKey Rg.PWR_PACECTL heldKey Rg.SL_PACE Rg.AWL_PACE
  split <;> omega

theorem paceWindowEnd_answers {s : State} (g : Fin 20) (v : Fin 16384) (he : s.inEpisode = false) (hr : s.gaugeRuns g = true) :
    Answers (.paceWindowEnd g v) s (fun t =>
      t.get (gaugePace g) = v ∧ t.get (gaugeMin g) = min v.val (s.get (gaugeMin g)) ∧
      (s.slowWindow v → Recorded s t (gaugeUnit g) 0x08 1 0) ∧ (¬ s.slowWindow v → t.hub = s.hub) ∧
      t.mem = s.mem ∧ t.pace = s.pace) := by
  obtain ⟨hpace, hmin⟩ := get_gaugeTakes s g v.isLt
  have hregs := regsOnly_gaugeTakes s g v
  obtain ⟨hheld, hne⟩ := heldKey_gauge g
  refine answers_quiet rfl he ?_
  by_cases hs : s.slowWindow v
  · rw [gaugeEnd_slow hr hs]
    have hr := heldAs_report (s.gaugeTakes g v) (gaugeUnit g) 0x08 1 0
    refine ⟨?_, ?_, fun _ _ hx => log_reportG_of_regsOnly hregs _ _ _ _ _ _ hx, fun h => absurd hs h, ?_, ?_⟩
    · exact (hr.get (f := gaugePace g) hheld hne).trans hpace
    · exact (hr.get (f := gaugeMin g) hheld hne).trans hmin
    · exact (mem_report _ _ _ _ _).trans (mem_of_regsOnly hregs)
    · exact hr.2.1.trans (pace_gaugeTakes s g v)
  · rw [gaugeEnd_fast hr hs]
    exact ⟨hpace, hmin, fun h => absurd h hs, fun _ => hub_of_regsOnly hregs, mem_of_regsOnly hregs, pace_gaugeTakes s g v⟩

/-! ## The loop goes on -/

theorem bytesLE_of_mem {s t : State} (hm : t.mem = s.mem) (a n : Nat) : t.bytesLE a n = s.bytesLE a n := by
  induction n generalizing a with
  | zero => rfl
  | succ n ih =>
    unfold State.bytesLE State.byte
    rw [hm, ih]

theorem flag_of_get {s t : State} {f : Fd} (h : t.get f = s.get f) : t.flag f = s.flag f := by
  unfold State.flag
  rw [h]

theorem flag_of_reg {s t : State} {f : Fd} (h : t.reg f.key = s.reg f.key) : t.flag f = s.flag f := flag_of_get (get_of_reg h)

/-- A head's running Last depends on its register and on memory alone. -/
theorem runEntry_congr {s t : State} {h : Nat} (hr : t.reg (Rg.LAST_HD_SEL h) = s.reg (Rg.LAST_HD_SEL h)) (hm : t.mem = s.mem) :
    t.runEntry h = s.runEntry h := by
  have hv : t.curv h = s.curv h := flag_of_reg (f := Fd.LAST_HD_SEL_CURV h) hr
  have hc : t.cur h = s.cur h := get_of_reg (f := Fd.LAST_HD_SEL_CUR h) hr
  have hi (n : Nat) : t.slotImg n = s.slotImg n := funext fun o => bytesLE_of_mem hm _ 4
  unfold State.runEntry
  rw [hv, hc, hi]

theorem runSoles_congr {s t : State} {h : Nat} (hr : t.reg (Rg.LAST_HD_SEL h) = s.reg (Rg.LAST_HD_SEL h)) (hm : t.mem = s.mem) :
    t.runSoles h = s.runSoles h := by
  unfold State.runSoles
  rw [runEntry_congr hr hm]

/-- Which Soles count does not depend on PWR_PACESTAT or the loop's hidden state. -/
theorem anyCounts_of_pacestat {s t : State} (h : LoopOnly (fun k => k = Rg.PWR_PACESTAT) s t) : t.anyCounts = s.anyCounts := by
  have hrest : { ({ t with pace := s.pace } : State) with regs := s.regs } = s := h.1
  have hstate : t.get Fd.PWR_STATE_STATE = s.get Fd.PWR_STATE_STATE := get_of_pacestat h (by decide)
  have hdom (d : Nat) : t.domOn d = s.domOn d := by
    unfold State.domOn
    rw [get_of_pacestat h (by decide)]
  have hreset (u : Nat) : t.unitInReset u = s.unitInReset u := (congrArg (State.unitInReset · u) hrest :)
  have hfenced (u : Nat) : t.fenced u = s.fenced u := (congrArg (State.fenced · u) hrest :)
  have hheads (n : Nat) : t.headS n = s.headS n := (congrArg (State.headS · n) hrest :)
  have hmem : t.mem = s.mem := (congrArg State.mem hrest :)
  have hsoles (n : Nat) : t.runSoles n = s.runSoles n := by
    refine runSoles_congr (h.2 _ ?_) hmem
    unfold Rg.LAST_HD_SEL Rg.PWR_PACESTAT
    omega
  unfold State.anyCounts State.soleCounts
  simp only [hstate, hdom, hreset, hfenced, hheads, hsoles]

theorem periodTicks_of_pacestat {s t : State} (h : LoopOnly (fun k => k = Rg.PWR_PACESTAT) s t) : t.periodTicks = s.periodTicks := by
  unfold State.periodTicks
  rw [get_of_pacestat h (by decide)]

/-- The hidden state with which a measurement period begins (R66). -/
def State.measuring (s : State) (p : PaceS) : PaceS :=
  { p with phase := .measure, tx := none, tries := 0, left := s.periodTicks, worst := 2047, wsole := none, counted := s.anyCounts }

theorem pace_loopIdle (s : State) (ph : LoopPhase) (n : Nat) :
    (s.loopIdle ph n).pace = { s.pace with phase := ph, tries := 0, tx := none, left := n } := rfl

theorem pace_loopMeasure (s : State) : s.loopMeasure.pace = s.measuring s.pace := rfl

theorem pace_loopWait (s : State) :
    s.loopWait.pace = { s.pace with phase := .settling, tries := 0, tx := none, left := s.settleTicks, wait := false } := rfl

theorem measuring_of_pacestat {s t : State} (h : LoopOnly (fun k => k = Rg.PWR_PACESTAT) s t) (p : PaceS) :
    t.measuring p = s.measuring p := by
  unfold State.measuring
  rw [periodTicks_of_pacestat h, anyCounts_of_pacestat h]

theorem flag_loopIdle_other (s : State) (ph : LoopPhase) (n : Nat) {f : Fd} (hf : f.key ≠ Rg.PWR_PACESTAT) :
    (s.loopIdle ph n).flag f = s.flag f := flag_set_key _ _ _ _ hf

theorem get_loopIdle_apart (s : State) (ph : LoopPhase) (n : Nat) {f : Fd}
    (hf : f.lo + f.w ≤ Fd.PWR_PACESTAT_BUSY.lo ∨ Fd.PWR_PACESTAT_BUSY.lo + 1 ≤ f.lo) : (s.loopIdle ph n).get f = s.get f :=
  get_set_apart _ Fd.PWR_PACESTAT_BUSY f 0 (by decide) hf

theorem get_loopMeasure_apart (s : State) {f : Fd}
    (hf : f.lo + f.w ≤ Fd.PWR_PACESTAT_BUSY.lo ∨ Fd.PWR_PACESTAT_BUSY.lo + 1 ≤ f.lo) : s.loopMeasure.get f = s.get f := by
  unfold State.loopMeasure
  rw [get_modPace, get_loopIdle_apart s _ _ hf]

theorem get_loopStart_apart (s : State) (ph : LoopPhase) (code word : Nat) {f : Fd}
    (hf : f.lo + f.w ≤ Fd.PWR_PACESTAT_BUSY.lo ∨ Fd.PWR_PACESTAT_BUSY.lo + 1 ≤ f.lo) :
    (s.loopStart ph code word).get f = s.get f :=
  get_set_apart _ Fd.PWR_PACESTAT_BUSY f 1 (by decide) hf

/-! ## The end of a measurement period -/

theorem unsignedOf_lt (n : Nat) (i : Int) : unsignedOf n i < 2 ^ n := by
  have hpos : (0 : Int) < (2 ^ n : Nat) := by positivity
  have hnn := Int.emod_nonneg i (ne_of_gt hpos)
  have hlt := Int.emod_lt_of_pos i hpos
  unfold unsignedOf
  omega

theorem clampInt_mem {lo hi : Int} (h : lo ≤ hi) (i : Int) : lo ≤ clampInt lo hi i ∧ clampInt lo hi i ≤ hi := by
  unfold clampInt
  split
  · omega
  · split <;> omega

theorem loopChoice_lt (s : State) : s.loopChoice < 2 ^ 10 := by
  have hup := vUpper_lt s
  have hle : (s.vLower : Int) ≤ s.vUpper := Int.ofNat_le.mpr (vLower_le s)
  have hc (i : Int) : (clampInt s.vLower s.vUpper i).toNat < 2 ^ 10 := by
    have := clampInt_mem hle i
    omega
  unfold State.loopChoice
  exact hc _

/-- What a period's end writes of PWR_PACESTAT before it goes on (R66). -/
def State.periodShown (s : State) : State :=
  let s1 := (s.setB Fd.PWR_PACESTAT_NOSRC (!s.pace.counted)).set Fd.PWR_PACESTAT_WORST (unsignedOf 12 s.pace.worst)
  match s.pace.wsole with
  | some n => s1.set Fd.PWR_PACESTAT_WSOLE n
  | none => s1

theorem loopPeriodEnd_due {s : State} (hph : s.pace.phase = .measure) (hl : s.pace.left = 0) (hh : s.halted = false) :
    s.loopPeriodEnd =
      if s.loopChoice = s.get Fd.PWR_VSET_VSET then s.periodShown.loopMeasure else s.periodShown.loopSend s.loopChoice .sending := by
  have hdue : ¬ (s.pace.phase ≠ .measure ∨ s.pace.left ≠ 0 ∨ s.halted = true) := by simp [hph, hl, hh]
  unfold State.loopPeriodEnd State.periodShown
  cases hw : s.pace.wsole <;> simp only [if_neg hdue, hw]

theorem loopOnly_periodShown (s : State) : LoopOnly (fun k => k = Rg.PWR_PACESTAT) s s.periodShown := by
  have h0 : LoopOnly (fun k => k = Rg.PWR_PACESTAT) s (s.setB Fd.PWR_PACESTAT_NOSRC (!s.pace.counted)) :=
    (loopOnly_refl _ s).setB _ rfl
  have h1 : LoopOnly (fun k => k = Rg.PWR_PACESTAT) s
      ((s.setB Fd.PWR_PACESTAT_NOSRC (!s.pace.counted)).set Fd.PWR_PACESTAT_WORST (unsignedOf 12 s.pace.worst)) := h0.set _ rfl
  unfold State.periodShown
  split
  · exact h1.set _ rfl
  · exact h1

theorem pace_periodShown (s : State) : s.periodShown.pace = s.pace := by
  unfold State.periodShown State.setB
  split
  · rw [pace_set, pace_set, pace_set]
  · rw [pace_set, pace_set]

theorem fresh_periodShown (s : State) : s.periodShown.fresh = s.fresh := by
  unfold State.periodShown State.setB
  split
  · rw [fresh_set, fresh_set, fresh_set]
  · rw [fresh_set, fresh_set]

theorem flag_setB_bit (s : State) {f : Fd} (b : Bool) (hw : f.w = 1) (h : f.lo + f.w ≤ 28) : (s.setB f b).flag f = b := by
  unfold State.setB
  rw [flag_set_same s _ hw h]
  cases b <;> rfl

theorem nosrc_periodShown (s : State) : s.periodShown.flag Fd.PWR_PACESTAT_NOSRC = !s.pace.counted := by
  have h1 := flag_setB_bit s (f := Fd.PWR_PACESTAT_NOSRC) (!s.pace.counted) rfl (by decide)
  have h2 := (flag_set_apart (s.setB Fd.PWR_PACESTAT_NOSRC (!s.pace.counted)) Fd.PWR_PACESTAT_WORST Fd.PWR_PACESTAT_NOSRC
    (unsignedOf 12 s.pace.worst) (by decide) (by decide)).trans h1
  unfold State.periodShown
  split
  · exact (flag_set_apart _ Fd.PWR_PACESTAT_WSOLE Fd.PWR_PACESTAT_NOSRC _ (by decide) (by decide)).trans h2
  · exact h2

theorem worst_periodShown (s : State) : s.periodShown.get Fd.PWR_PACESTAT_WORST = unsignedOf 12 s.pace.worst := by
  have h1 := get_set_same (s.setB Fd.PWR_PACESTAT_NOSRC (!s.pace.counted)) Fd.PWR_PACESTAT_WORST (unsignedOf 12 s.pace.worst)
    (by decide)
  have h2 := h1.trans (Nat.mod_eq_of_lt (unsignedOf_lt 12 s.pace.worst))
  unfold State.periodShown
  split
  · exact (get_set_apart _ Fd.PWR_PACESTAT_WSOLE Fd.PWR_PACESTAT_WORST _ (by decide) (by decide)).trans h2
  · exact h2

/-- A send of the loop writes VSET and starts one VOUT_COMMAND (R62, R66). -/
theorem get_loopSend_pacestat (s : State) (v : Nat) (ph : LoopPhase) {f : Fd} (hk : f.key = Rg.PWR_PACESTAT)
    (hf : f.lo + f.w ≤ Fd.PWR_PACESTAT_BUSY.lo ∨ Fd.PWR_PACESTAT_BUSY.lo + 1 ≤ f.lo) : (s.loopSend v ph).get f = s.get f := by
  unfold State.loopSend State.loopPut
  rw [get_loopStart_apart _ _ _ _ hf, get_draw, get_set_key _ _ _ _ (hk ▸ by decide)]

theorem vset_loopSend (s : State) {v : Nat} (ph : LoopPhase) (hv : v < 2 ^ 10) : (s.loopSend v ph).get Fd.PWR_VSET_VSET = v := by
  unfold State.loopSend
  rw [get_loopPut _ _ _ (by decide), get_set_same _ _ _ (by decide)]
  exact Nat.mod_eq_of_lt hv

theorem busy_loopSend (s : State) (v : Nat) (ph : LoopPhase) : (s.loopSend v ph).flag Fd.PWR_PACESTAT_BUSY = true :=
  busy_loopStart _ _ _ _

theorem left_loopPut (s : State) (v : Nat) (ph : LoopPhase) : (s.loopPut v ph).pace.left = attemptTicks := rfl

theorem phase_loopSend (s : State) (v : Nat) (ph : LoopPhase) : (s.loopSend v ph).pace.phase = ph := phase_loopPut _ _ _

theorem left_loopSend (s : State) (v : Nat) (ph : LoopPhase) : (s.loopSend v ph).pace.left = attemptTicks := left_loopPut _ _ _

theorem sendOnly_loopSend {s t : State} (h : LoopOnly (fun k => k = Rg.PWR_PACESTAT ∨ k = Rg.PWR_VSET) s t) (v : Nat) (ph : LoopPhase) :
    SendOnly (fun k => k = Rg.PWR_PACESTAT ∨ k = Rg.PWR_VSET) s (t.loopSend v ph) := by
  have hset : SendOnly (fun k => k = Rg.PWR_PACESTAT ∨ k = Rg.PWR_VSET) s (t.set Fd.PWR_VSET_VSET v) :=
    (sendOnly_of_loopOnly h).set v (.inr rfl)
  exact hset.loopPut v ph (.inl rfl)

theorem tx_loopSend (s : State) (v : Nat) (ph : LoopPhase) :
    (s.loopSend v ph).pace.tx.map (fun x => (x.ctl, x.addr, x.code, x.word)) = some (s.get Fd.PWR_PACECTL_I2CSEL, s.get
      Fd.PWR_PACECTL_VREGADDR, 0x21, voutWord s.pace.expo v (Config.freeValue s.fresh)) := by
  unfold State.loopSend
  rw [tx_loopPut, get_set_key _ _ _ _ (by decide), get_set_key _ _ _ _ (by decide), pace_set, fresh_set]

theorem loopPeriodEnd_answers {s : State} (he : s.inEpisode = false) (hph : s.pace.phase = .measure) (hl : s.pace.left = 0)
    (hh : s.halted = false) :
    Answers .loopPeriodEnd s (fun t =>
      t.get Fd.PWR_VSET_VSET = s.loopChoice ∧
      t.flag Fd.PWR_PACESTAT_NOSRC = !s.pace.counted ∧
      t.get Fd.PWR_PACESTAT_WORST = unsignedOf 12 s.pace.worst ∧
      (s.loopChoice = s.get Fd.PWR_VSET_VSET → t.pace = s.measuring s.pace) ∧
      (s.loopChoice ≠ s.get Fd.PWR_VSET_VSET → t.pace.phase = .sending ∧ t.pace.left = attemptTicks ∧
        t.pace.tx.map (fun x => (x.ctl, x.addr, x.code, x.word)) = some (s.get Fd.PWR_PACECTL_I2CSEL, s.get
          Fd.PWR_PACECTL_VREGADDR, 0x21, voutWord s.pace.expo s.loopChoice (Config.freeValue s.fresh))) ∧
      t.flag Fd.PWR_PACESTAT_BUSY = decide (s.loopChoice ≠ s.get Fd.PWR_VSET_VSET) ∧
      RegsOnly (fun k => k = Rg.PWR_PACESTAT ∨ k = Rg.PWR_VSET) s { t with pace := s.pace, fresh := s.fresh }) := by
  have hshown := loopOnly_periodShown s
  have hwide : LoopOnly (fun k => k = Rg.PWR_PACESTAT ∨ k = Rg.PWR_VSET) s s.periodShown :=
    ⟨hshown.1, fun k hk => hshown.2 k fun e => hk (.inl e)⟩
  refine answers_event rfl he ?_
  rw [loopPeriodEnd_due hph hl hh]
  by_cases hsame : s.loopChoice = s.get Fd.PWR_VSET_VSET
  · rw [if_pos hsame]
    have honly := hshown.loopMeasure rfl
    refine ⟨?_, ?_, ?_, fun _ => ?_, fun h => absurd hsame h, ?_, sendOnly_of_loopOnly (hwide.loopMeasure (.inl rfl))⟩
    · rw [get_of_pacestat honly (by decide), hsame]
    · rw [flag_of_get (get_loopMeasure_apart _ (.inl (by decide))), nosrc_periodShown]
    · rw [get_loopMeasure_apart _ (.inl (by decide)), worst_periodShown]
    · rw [pace_loopMeasure, pace_periodShown, measuring_of_pacestat hshown]
    · rw [busy_loopMeasure, decide_eq_false (not_not_intro hsame)]
  · rw [if_neg hsame]
    refine ⟨?_, ?_, ?_, fun h => absurd h hsame, fun _ => ⟨phase_loopSend _ _ _, left_loopSend _ _ _, ?_⟩, ?_,
      sendOnly_loopSend hwide _ _⟩
    · rw [vset_loopSend _ _ (loopChoice_lt s)]
    · rw [flag_of_get (get_loopSend_pacestat _ _ _ rfl (.inl (by decide))), nosrc_periodShown]
    · rw [get_loopSend_pacestat _ _ _ rfl (.inl (by decide)), worst_periodShown]
    · rw [tx_loopSend, get_of_pacestat hshown (by decide), get_of_pacestat hshown (by decide), pace_periodShown, fresh_periodShown]
    · rw [busy_loopSend, decide_eq_true hsame]

/-! ## The ends of a settle wait and of the hold -/

theorem loopSettleEnd_answers {s : State} (he : s.inEpisode = false) (hph : s.pace.phase = .settling) (hl : s.pace.left = 0)
    (hk : s.pace.known = true) (hg : s.pace.guardDue = false) (hh : s.halted = false) :
    Answers .loopSettleEnd s (fun t =>
      t.pace = s.measuring s.pace ∧ t.flag Fd.PWR_PACESTAT_BUSY = false ∧
      RegsOnly (fun k => k = Rg.PWR_PACESTAT) s { t with pace := s.pace }) := by
  have hend : s.loopSettleEnd = s.loopMeasure := by
    unfold State.loopSettleEnd
    rw [hph, hl, hh, hk, hg]
    rfl
  refine answers_event rfl he ?_
  rw [hend]
  exact ⟨pace_loopMeasure s, busy_loopMeasure s, (loopOnly_refl _ s).loopMeasure rfl⟩

theorem loopHoldEnd_answers {s : State} (he : s.inEpisode = false) (hph : s.pace.phase = .holding) (hl : s.pace.left = 0)
    (hh : s.halted = false) :
    Answers .loopHoldEnd s (fun t =>
      t.pace = { s.pace with phase := .settling, tx := none, tries := 0, left := s.settleTicks, wait := false } ∧
      t.flag Fd.PWR_PACESTAT_EMERG = false ∧ RegsOnly (fun k => k = Rg.PWR_PACESTAT) s { t with pace := s.pace }) := by
  refine answers_event rfl he ?_
  rw [show s.loopHoldEnd = s.loopWait from if_pos ⟨hph, hl, hh⟩]
  exact ⟨pace_loopWait s, emerg_loopWait s, (loopOnly_refl _ s).loopWait rfl⟩

/-! ## The end of a transaction -/

/-- With EN 1 and nothing waiting the loop goes on as it was told. -/
theorem loopAfter_goes {s : State} (go : State → State) (hh : s.halted = false) (ha : s.pace.again = [])
    (hen : s.flag Fd.PWR_PACECTL_EN = true) (hw : s.pace.wait = false) (hk : s.pace.known = true) : s.loopAfter go = go s := by
  unfold State.loopAfter
  rw [hh, ha, hen, hw, hk]
  rfl

/-- With EN 0 and no VSET write waiting the loop is off (R71). -/
theorem loopAfter_stops {s : State} (go : State → State) (ha : s.pace.again = []) (hen : s.flag Fd.PWR_PACECTL_EN = false) :
    s.loopAfter go = s.loopOff := by
  unfold State.loopAfter
  rw [ha, hen]
  split <;> rfl

section
variable {s : State} {x : PmbTx} {mode : Byte}

theorem loopTransaction_acked (htx : s.pace.tx = some x ∧ x.started = true) (n : Nat) : s.loopTransaction true n = s.loopDone n := by
  unfold State.loopTransaction
  rw [htx.1]
  dsimp only
  rw [htx.2]
  rfl

/-- The loop goes on after a first read of VOUT_MODE (R63, R67). -/
def State.loopGoes (s : State) : State := if s.pace.guardDue then s.loopEmerg else s.loopMeasure

/-- The exponent read is taken (R63). -/
def State.tookMode (s : State) (n : Nat) : State := s.modPace (fun p => { p with expo := some n, known := true })

theorem pace_tookMode (s : State) (n : Nat) : (s.tookMode n).pace = { s.pace with expo := some n, known := true } := rfl

theorem loopDone_linear (hph : s.pace.phase = .readMode) (hs : s.pace.stop = false) (hf : s.pace.final = false)
    (hw : s.pace.wait = false) (hg : s.pace.guardDue = false) (ha : s.pace.again = []) (hen : s.flag Fd.PWR_PACECTL_EN = true)
    (hh : s.halted = false) (hm : mode.toNat / 2 ^ 5 = 0) : s.loopDone mode.toNat = (s.tookMode mode.toNat).loopMeasure := by
  have hlin : ¬ mode.toNat / 32 % 8 ≠ 0 := by omega
  have hmod : mode.toNat % 32 = mode.toNat := by omega
  have hgo : s.loopDone mode.toNat = (s.tookMode mode.toNat).loopAfter State.loopGoes := by
    unfold State.loopDone
    simp only [hf, hs, hph, Bool.false_eq_true, if_false, if_neg hlin, hmod]
    rfl
  rw [hgo, loopAfter_goes (s := s.tookMode mode.toNat) _ hh ha hen hw rfl]
  exact if_neg (Bool.eq_false_iff.mp hg)

theorem modeRead_answers (he : s.inEpisode = false) (hph : s.pace.phase = .readMode) (htx : s.pace.tx = some x ∧ x.started = true)
    (hp : s.pace.stop = false ∧ s.pace.final = false ∧ s.pace.wait = false ∧ s.pace.guardDue = false ∧ s.pace.again = [])
    (hen : s.flag Fd.PWR_PACECTL_EN = true) (hh : s.halted = false) (hm : mode.toNat / 2 ^ 5 = 0) :
    Answers (.pmbusTransactionDone true mode) s (fun t =>
      t.pace = s.measuring { s.pace with known := true, expo := some mode.toNat } ∧ t.flag Fd.PWR_PACESTAT_BUSY = false ∧
      RegsOnly (fun k => k = Rg.PWR_PACESTAT) s { t with pace := s.pace }) := by
  obtain ⟨hs, hf, hw, hg, ha⟩ := hp
  have honly : LoopOnly (fun k => k = Rg.PWR_PACESTAT) s (s.tookMode mode.toNat) := (loopOnly_refl _ s).modPace _
  refine answers_outlast rfl he ?_
  rw [loopTransaction_acked htx, loopDone_linear hph hs hf hw hg ha hen hh hm]
  refine ⟨?_, busy_loopMeasure _, honly.loopMeasure rfl⟩
  rw [pace_loopMeasure, measuring_of_pacestat honly, pace_tookMode]

/-- PMBERR is set and EN cleared (R63, R70). -/
def State.loopErr (s : State) : State := (s.set Fd.PWR_PACESTAT_PMBERR 1).set Fd.PWR_PACECTL_EN 0

theorem pmberr_loopErr (s : State) : s.loopErr.flag Fd.PWR_PACESTAT_PMBERR = true := by
  unfold State.loopErr
  rw [flag_set_key _ _ _ _ (by decide), flag_set_same _ _ rfl (by decide)]
  rfl

theorem en_loopErr (s : State) : s.loopErr.flag Fd.PWR_PACECTL_EN = false := by
  unfold State.loopErr
  rw [flag_set_same _ _ rfl (by decide)]
  rfl

theorem pace_loopErr (s : State) : s.loopErr.pace = s.pace := by
  unfold State.loopErr
  rw [pace_set, pace_set]

theorem regsOnly_loopErr (s : State) : RegsOnly (fun k => k = Rg.PWR_PACESTAT ∨ k = Rg.PWR_PACECTL) s s.loopErr := by
  unfold State.loopErr
  exact regsOnly_trans (regsOnly_set s _ 1 (.inl rfl)) (regsOnly_set _ _ 0 (.inr rfl))

/-- A loop that failed is off, where no VSET write waits (R71). -/
theorem loopErr_stops {s : State} (go : State → State) (ha : s.pace.again = []) : s.loopErr.loopAfter go = s.loopErr.loopOff :=
  loopAfter_stops go (by rw [pace_loopErr, ha]) (en_loopErr s)

theorem pmberr_loopOff (s : State) : s.loopOff.flag Fd.PWR_PACESTAT_PMBERR = s.flag Fd.PWR_PACESTAT_PMBERR := by
  unfold State.loopOff
  rw [flag_modPace, flag_set_apart _ _ _ _ (by decide) (by decide)]
  exact flag_of_get (get_loopIdle_apart _ _ _ (.inr (by decide)))

theorem en_loopOff (s : State) : s.loopOff.flag Fd.PWR_PACECTL_EN = s.flag Fd.PWR_PACECTL_EN :=
  flag_of_pacestat ((loopOnly_refl _ s).loopOff rfl) (by decide)

theorem hub_of_loopOnly {p : Nat → Prop} {s t : State} (h : LoopOnly p s t) : t.hub = s.hub :=
  hub_of_regsOnly (t := { t with pace := s.pace }) h

theorem mem_of_loopOnly {p : Nat → Prop} {s t : State} (h : LoopOnly p s t) : t.mem = s.mem :=
  mem_of_regsOnly (t := { t with pace := s.pace }) h

theorem loopDone_nonlinear (hph : s.pace.phase = .readMode) (hs : s.pace.stop = false) (hf : s.pace.final = false)
    (ha : s.pace.again = []) (hm : mode.toNat / 2 ^ 5 ≠ 0) : s.loopDone mode.toNat = s.loopErr.loopOff := by
  have hlt := mode.isLt
  have hlin : mode.toNat / 32 % 8 ≠ 0 := by omega
  rw [← loopErr_stops State.loopWait ha]
  unfold State.loopDone State.loopErr
  simp only [hf, hs, hph, Bool.false_eq_true, if_false, if_pos hlin]

theorem modeRefused_answers (he : s.inEpisode = false) (hph : s.pace.phase = .readMode)
    (htx : s.pace.tx = some x ∧ x.started = true) (hp : s.pace.stop = false ∧ s.pace.final = false ∧ s.pace.again = [])
    (hm : mode.toNat / 2 ^ 5 ≠ 0) :
    Answers (.pmbusTransactionDone true mode) s (fun t =>
      t.flag Fd.PWR_PACESTAT_PMBERR = true ∧ t.flag Fd.PWR_PACECTL_EN = false ∧ t.pace.phase = .off ∧ t.pace.tx = none ∧
      RegsOnly (fun k => k = Rg.PWR_PACESTAT ∨ k = Rg.PWR_PACECTL) s { t with pace := s.pace }) := by
  obtain ⟨hs, hf, ha⟩ := hp
  refine answers_outlast rfl he ?_
  rw [loopTransaction_acked htx, loopDone_nonlinear hph hs hf ha hm]
  refine ⟨?_, ?_, phase_loopOff _, tx_loopOff _, ?_⟩
  · rw [pmberr_loopOff, pmberr_loopErr]
  · rw [en_loopOff, en_loopErr]
  · exact (loopOnly_of_regsOnly (regsOnly_loopErr s)).loopOff (.inl rfl)

theorem loopDone_sending (hph : s.pace.phase = .sending) (hs : s.pace.stop = false) (hf : s.pace.final = false)
    (hw : s.pace.wait = false) (hg : s.pace.guardDue = false) (ha : s.pace.again = []) (hk : s.pace.known = true)
    (hen : s.flag Fd.PWR_PACECTL_EN = true) (hh : s.halted = false) (n : Nat) : s.loopDone n = s.loopWait := by
  unfold State.loopDone
  simp only [hf, hs, hph, Bool.false_eq_true, if_false]
  rw [loopAfter_goes _ hh ha hen hw hk]
  exact if_neg (Bool.eq_false_iff.mp hg)

theorem loopDone_emergency (hph : s.pace.phase = .emergSend) (hs : s.pace.stop = false) (hf : s.pace.final = false)
    (hw : s.pace.wait = false) (ha : s.pace.again = []) (hk : s.pace.known = true) (hen : s.flag Fd.PWR_PACECTL_EN = true)
    (hh : s.halted = false) (n : Nat) : s.loopDone n = s.loopIdle .holding s.holdTicks := by
  unfold State.loopDone
  simp only [hf, hs, hph, Bool.false_eq_true, if_false]
  rw [loopAfter_goes _ hh ha hen hw hk]

theorem sent_answers (he : s.inEpisode = false) (hph : s.pace.phase = .sending ∨ s.pace.phase = .emergSend)
    (htx : s.pace.tx = some x ∧ x.started = true)
    (hp : s.pace.stop = false ∧ s.pace.final = false ∧ s.pace.wait = false ∧ s.pace.again = []) (hk : s.pace.known = true)
    (hg : s.pace.phase = .sending → s.pace.guardDue = false) (hen : s.flag Fd.PWR_PACECTL_EN = true) (hh : s.halted = false) :
    Answers (.pmbusTransactionDone true mode) s (fun t =>
      t.pace = { s.pace with
        phase := if s.pace.phase = .sending then .settling else .holding, tx := none, tries := 0,
        left := if s.pace.phase = .sending then s.settleTicks else s.holdTicks } ∧
      t.flag Fd.PWR_PACESTAT_BUSY = false ∧ RegsOnly (fun k => k = Rg.PWR_PACESTAT) s { t with pace := s.pace }) := by
  obtain ⟨hs, hf, hw, ha⟩ := hp
  refine answers_outlast rfl he ?_
  rw [loopTransaction_acked htx]
  obtain hsend | hemerg := hph
  · rw [loopDone_sending hsend hs hf hw (hg hsend) ha hk hen hh, if_pos hsend, if_pos hsend]
    refine ⟨?_, busy_loopWait s, (loopOnly_refl _ s).loopWait rfl⟩
    rw [pace_loopWait, ← hw]
  · have hne : s.pace.phase ≠ .sending := fun h => by cases h.symm.trans hemerg
    rw [loopDone_emergency hemerg hs hf hw ha hk hen hh, if_neg hne, if_neg hne]
    exact ⟨pace_loopIdle s _ _, busy_loopIdle s _ _, (loopOnly_refl _ s).loopIdle _ _ rfl⟩

/-! ## Retries -/

/-- A failed attempt is tried again (R70). -/
def State.loopRetry (s : State) : State := s.modPace (fun p => { p with tries := p.tries + 1, left := attemptTicks })

theorem loopRetry_holds (s : State) :
    s.loopRetry.pace = { s.pace with tries := s.pace.tries + 1, left := attemptTicks } ∧
    RegsOnly (fun _ => False) s { s.loopRetry with pace := s.pace } :=
  ⟨rfl, regsOnly_refl _ s⟩

theorem nack_answers (he : s.inEpisode = false) (htx : s.pace.tx = some x ∧ x.started = true) (ht : s.pace.tries < 3) :
    Answers (.pmbusTransactionDone false mode) s (fun t =>
      t.pace = { s.pace with tries := s.pace.tries + 1, left := attemptTicks } ∧ RegsOnly (fun _ => False) s { t with pace := s.pace }) := by
  have hnack : s.loopTransaction false mode.toNat = s.loopRetry := by
    unfold State.loopTransaction
    rw [htx.1]
    dsimp only
    rw [htx.2]
    exact if_pos ht
  refine answers_outlast rfl he ?_
  rw [hnack]
  exact loopRetry_holds s

theorem timeoutRetry_answers (he : s.inEpisode = false) (hb : s.pace.busy = true) (hl : s.pace.left = 0) (ht : s.pace.tries < 3) :
    Answers .pmbusTimeout s (fun t =>
      t.pace = { s.pace with tries := s.pace.tries + 1, left := attemptTicks } ∧ RegsOnly (fun _ => False) s { t with pace := s.pace }) := by
  have htimeout : s.loopTimeout = s.loopRetry := by
    unfold State.loopTimeout
    rw [hb, hl]
    exact if_pos ht
  refine answers_outlast rfl he ?_
  rw [htimeout]
  exact loopRetry_holds s

/-- After the third retry the loop reports and is off, whatever the report's class (R70, R690). -/
theorem loopFail_stops (he : s.inEpisode = false) (ha : s.pace.again = []) :
    s.loopFail = (s.loopErr.report uLoop 0x0A 2 0).loopOff := by
  obtain ⟨-, hpace, hen⟩ := heldAs_report s.loopErr uLoop 0x0A 2 0
  have hagain : (s.loopErr.report uLoop 0x0A 2 0).pace.again = [] := by rw [hpace, pace_loopErr, ha]
  rw [← loopAfter_stops State.loopWait hagain (hen (en_loopErr s))]
  unfold State.loopFail State.loopErr
  simp only [he, Bool.false_eq_true, if_false]

theorem timeoutLast_answers (he : s.inEpisode = false) (hb : s.pace.busy = true) (hl : s.pace.left = 0) (ht : 3 ≤ s.pace.tries)
    (ha : s.pace.again = []) :
    Answers .pmbusTimeout s (fun t =>
      t.flag Fd.PWR_PACESTAT_PMBERR = true ∧ t.flag Fd.PWR_PACECTL_EN = false ∧ t.pace.phase = .off ∧ t.pace.tx = none ∧
      Recorded s t uLoop 0x0A 2 0 ∧ t.mem = s.mem) := by
  have htimeout : s.loopTimeout = s.loopFail := by
    unfold State.loopTimeout
    rw [hb, hl]
    exact if_neg (Nat.not_lt.mpr ht)
  have hheld := heldAs_report s.loopErr uLoop 0x0A 2 0
  have hrec : Recorded s (s.loopErr.report uLoop 0x0A 2 0) uLoop 0x0A 2 0 :=
    fun _ hx => log_reportG_of_regsOnly (regsOnly_loopErr s) _ _ _ _ _ _ hx
  have hmem : (s.loopErr.report uLoop 0x0A 2 0).mem = s.mem :=
    (mem_report _ _ _ _ _).trans (mem_of_regsOnly (regsOnly_loopErr s))
  have hkey : heldKey Rg.PWR_PACESTAT := by
    unfold heldKey Rg.PWR_PACESTAT
    omega
  have hoff := (loopOnly_refl (fun k => k = Rg.PWR_PACESTAT) (s.loopErr.report uLoop 0x0A 2 0)).loopOff rfl
  refine answers_outlast rfl he ?_
  rw [htimeout, loopFail_stops he ha]
  refine ⟨?_, ?_, phase_loopOff _, tx_loopOff _, ?_, ?_⟩
  · rw [pmberr_loopOff, hheld.flag hkey (by decide), pmberr_loopErr]
  · rw [en_loopOff, hheld.2.2 (en_loopErr s)]
  · unfold Recorded
    rw [hub_of_loopOnly hoff]
    exact hrec
  · rw [mem_of_loopOnly hoff, hmem]

end

/-- Settles O33, one lemma for each of its events. -/
theorem paceEventsComplete : Obligations.PaceEventsComplete := by
  intro s g v mode
  exact ⟨paceWindowEnd_answers g v, loopPeriodEnd_answers, loopSettleEnd_answers, loopHoldEnd_answers, fun _ => modeRead_answers,
    fun _ => modeRefused_answers, fun _ => sent_answers, fun _ => nack_answers, timeoutRetry_answers, timeoutLast_answers⟩

end Sys2Proof.Machine
end

section
/-! What the lines' operations leave alone (R54–R56, R155–R184): a head's frame, line, lists, beam entries and snapshot, a Sole's
lines and granules, and the registers that say how a line went. One lemma for each operation says that it keeps every property
closed under what it may write. -/
namespace Sys2Proof.Machine

/-! ## What is watched -/

/-- LAST_HDn_SEL, FETCH_SLn_LAT, SLn_SLACK and HDn_CTL. -/
def lineKey (k : Nat) : Prop :=
  0x100040 ≤ k ∧ k < 0x100080 ∨ 0x110080 ≤ k ∧ k < 0x1100C0 ∨ k / 0x10000 = 0x14 ∧ k % 0x1000 = 0x44 ∨
    k / 0x10000 = 0x18 ∧ k % 0x1000 = 0x10

theorem heldKey_of_lineKey {k : Nat} (h : lineKey k) : heldKey k := by
  unfold lineKey at h
  unfold heldKey
  omega

/-- The part of a head's state that its lines turn on. -/
def HeadS.core (v : HeadS) : Nat × Bool × Nat × Bool × List Nat × List BeamEnt × SnapS :=
  (v.frame, v.running, v.line, v.inFrame, v.listWait, v.beam, v.snap)

/-- No frame of the head is being written back. -/
def HeadS.noWb (v : HeadS) : Prop := v.wb = none ∧ v.wbOut = []

/-- The part of a Sole's state that its lines turn on. -/
def SoleS.core (v : SoleS) : Nat × Option Nat × List Nat × List (Nat × Nat) × List Gran := (v.head, v.line, v.next, v.ran, v.got)

/-- `t` has the watched registers, memory, heads and Soles of `s`, and its reacting records. -/
structure Same (s t : State) : Prop where
  reg : ∀ k, lineKey k → t.reg k = s.reg k
  mem : t.mem = s.mem
  heads : t.pict.heads = s.pict.heads
  soles : t.pict.soles = s.pict.soles
  reacting : ∀ r ∈ s.hub.reacting, r ∈ t.hub.reacting

/-- `P` is kept by whatever leaves the watched state alone, and by changes of heads and Soles outside their cores that start no
writeback. -/
structure LineClosed (P : State → Prop) : Prop where
  same : ∀ {s t : State}, P s → Same s t → P t
  head : ∀ {s : State} (h : Nat) {v : HeadS}, P s → v.core = (s.headS h).core → ((s.headS h).noWb → v.noWb) → P (s.setHead h v)
  sole : ∀ {s : State} (n : Nat) {v : SoleS}, P s → v.core = (s.soleS n).core → P (s.setSole n v)

/-! ## Which heads and Soles a line has -/

theorem head_lt_of_imgEntry {w : Img} {h e : Nat} (he : imgEntryOf w h = some e) : h < 16 := by
  unfold imgEntryOf imgEntries at he
  simp only [Option.map_eq_some_iff] at he
  obtain ⟨x, hx, -⟩ := he
  have hmem := List.mem_of_find?_eq_some hx
  have heq := List.find?_some hx
  simp only [List.mem_mapIdx, beq_iff_eq] at hmem heq
  obtain ⟨i, hi, rfl⟩ := hmem
  have hrange : (imgHeads w)[i] ∈ imgHeads w := List.getElem_mem hi
  unfold imgHeads at hrange heq
  dsimp only at heq
  exact heq ▸ List.mem_range.mp (List.mem_filter.mp hrange).1

theorem head_lt_of_runEntry {s : State} {h : Nat} {x : Img × Nat} (hx : s.runEntry h = some x) : h < 16 := by
  unfold State.runEntry at hx
  split at hx
  · simp only [Option.map_eq_some_iff] at hx
    obtain ⟨e, he, -⟩ := hx
    exact head_lt_of_imgEntry he
  · cases hx

theorem sole_lt_of_entSoles {w : Img} {e sl : Nat} (h : sl ∈ entSoleList w e) : sl < 16 := by
  unfold entSoleList at h
  exact List.mem_range.mp (List.mem_filter.mp h).1

theorem sole_lt_of_runSoles {s : State} {h sl : Nat} (hs : sl ∈ s.runSoles h) : sl < 16 := by
  unfold State.runSoles at hs
  split at hs
  · exact sole_lt_of_entSoles hs
  · cases hs

theorem lineCtx_fields {s : State} {h sl y : Nat} {c : LineCtx} (hc : s.lineCtx h sl y = some c) :
    c.sole = sl ∧ c.head = h ∧ c.y = y ∧ h < 16 := by
  unfold State.lineCtx at hc
  split at hc
  · cases hc
  · next hx =>
    cases hc
    exact ⟨rfl, rfl, rfl, head_lt_of_runEntry hx⟩

theorem soleCtx_fields {s : State} {sl : Nat} {c : LineCtx} (hc : s.soleCtx sl = some c) :
    c.sole = sl ∧ c.head = (s.soleS sl).head ∧ (s.soleS sl).line = some c.y ∧ c.head < 16 := by
  unfold State.soleCtx at hc
  split at hc
  · cases hc
  · next y hy =>
    dsimp only at hc
    split at hc
    · cases hc
    · obtain ⟨h1, h2, h3, h4⟩ := lineCtx_fields hc
      exact ⟨h1, h2, h3 ▸ hy, h2 ▸ h4⟩

theorem mem_lineCtxs {s : State} {h y : Nat} {c : LineCtx} (hc : c ∈ s.lineCtxs h y) : c.sole < 16 ∧ c.head = h ∧ h < 16 := by
  unfold State.lineCtxs at hc
  obtain ⟨sl, hsl, hx⟩ := List.mem_filterMap.mp hc
  obtain ⟨h1, h2, -, h4⟩ := lineCtx_fields hx
  exact ⟨h1 ▸ sole_lt_of_runSoles hsl, h2, h4⟩

namespace LineClosed

variable {P : State → Prop} (hP : LineClosed P) {s t : State}
include hP

/-! ## Writes of state -/

theorem rest (h : P s) (hr : t.regs = s.regs) (hm : t.mem = s.mem) (hh : t.pict.heads = s.pict.heads)
    (hs : t.pict.soles = s.pict.soles) (hu : t.hub = s.hub) : P t :=
  hP.same h ⟨fun k _ => reg_of_regs hr k, hm, hh, hs, fun _ hx => by rw [hu]; exact hx⟩

theorem setReg {k : Nat} (v : RegVal) (h : P s) (hk : ¬ lineKey k) : P (s.setReg k v) :=
  hP.same h ⟨fun j hj => reg_setReg_other s k j v fun e => hk (e ▸ hj), rfl, rfl, rfl, fun _ hx => hx⟩

theorem set {f : Fd} (x : Nat) (h : P s) (hf : ¬ lineKey f.key) : P (s.set f x) := hP.setReg _ h hf

/-- A register outside the blocks of the watched ones, or at another place in them. -/
theorem put {f : Fd} {k : Nat} (x : Nat) (h : P s) (hf : f.key = k)
    (hk : k < 0x100040 ∨ 0x100080 ≤ k ∧ k < 0x110080 ∨ 0x1100C0 ≤ k ∧ k < 0x140000 ∨ 0x190000 ≤ k ∨
      0x180000 ≤ k ∧ k % 0x1000 ≠ 0x10) : P (s.set f x) := by
  refine hP.set x h ?_
  rw [hf]
  unfold lineKey
  omega

theorem bump {f : Fd} {k : Nat} (top : Nat) (h : P s) (hf : f.key = k)
    (hk : k < 0x100040 ∨ 0x100080 ≤ k ∧ k < 0x110080 ∨ 0x1100C0 ≤ k ∧ k < 0x140000 ∨ 0x190000 ≤ k ∨
      0x180000 ≤ k ∧ k % 0x1000 ≠ 0x10) : P (s.bump f top) :=
  SteadyClosed.ite (hP.put _ h hf hk) h

theorem raiseTo {f : Fd} {k : Nat} (x : Nat) (h : P s) (hf : f.key = k)
    (hk : k < 0x100040 ∨ 0x100080 ≤ k ∧ k < 0x110080 ∨ 0x1100C0 ≤ k ∧ k < 0x140000 ∨ 0x190000 ≤ k ∨
      0x180000 ≤ k ∧ k % 0x1000 ≠ 0x10) : P (s.raiseTo f x) :=
  SteadyClosed.ite (hP.put _ h hf hk) h

/-- A change of a head outside its core and its writeback. -/
theorem beside (h : Nat) (f : HeadS → HeadS) (hs : P s) (hcore : ∀ v, (f v).core = v.core) (hwb : ∀ v, (f v).wb = v.wb)
    (hout : ∀ v, (f v).wbOut = v.wbOut) : P (s.modHead h f) :=
  hP.head h hs (hcore _) fun ⟨h0, h1⟩ => ⟨(hwb _).trans h0, (hout _).trans h1⟩

theorem modSole (n : Nat) (f : SoleS → SoleS) (h : P s) (hcore : ∀ v, (f v).core = v.core) : P (s.modSole n f) :=
  hP.sole n h (hcore _)

theorem raise (n : Nat) (h : P s) : P (s.raise n) := SteadyClosed.ite h (hP.rest h rfl rfl rfl rfl rfl)

theorem modWelt (f : WeltS → WeltS) (h : P s) : P (s.modWelt f) := hP.rest h rfl rfl rfl rfl rfl

theorem reportClosed : ReportClosed P where
  set x h hf := hP.set x h fun hk => hf (heldKey_of_lineKey hk)
  loopEn h := hP.put (k := 0x30040) 0 h rfl (by omega)
  hub _ h hr := hP.same h ⟨fun _ _ => rfl, rfl, rfl, rfl, hr⟩
  icu _ h := hP.rest h rfl rfl rfl rfl rfl
  lanes _ h := hP.rest h rfl rfl rfl rfl rfl
  audio _ h := hP.rest h rfl rfl rfl rfl rfl
  cut _ h := hP.rest h rfl rfl rfl rfl rfl
  uncheck k h := hP.head k h rfl id
  prx _ h := hP.rest h rfl rfl rfl rfl rfl

theorem report (u code base detail : Nat) (h : P s) : P (s.report u code base detail) :=
  hP.reportClosed.report u code base detail h

/-! ## Counts of a line (R116, R159, R172) -/

theorem mark (h y code : Nat) (hs : P s) : P (s.modHead h (fun v => { v with marks := (y, code) :: v.marks })) :=
  hP.beside h _ hs (fun _ => rfl) (fun _ => rfl) (fun _ => rfl)

theorem oncePerLine (h y code : Nat) {f : State → State} (hs : P s) (hf : ∀ a, P a → P (f a)) : P (s.oncePerLine h y code f) :=
  SteadyClosed.ite hs (hf _ (hP.mark h y code hs))

theorem clipCount {h : Nat} (hh : h < 16) (k : Nat) (hs : P s) : P (s.bump (clipField h k) 127) := by
  have hkey : (clipField h k).key = 0x100080 + h * 4 := by
    unfold clipField
    split <;> rfl
  exact hP.bump 127 hs hkey (by omega)

theorem clip {h : Nat} (hh : h < 16) (y k : Nat) (hs : P s) : P (s.clip h y k) :=
  hP.oncePerLine h y k hs fun _ ha => hP.report _ _ _ _ (hP.clipCount hh k ha)

theorem layerFault (h y lc : Nat) (hs : P s) : P (s.layerFault h y lc) :=
  hP.oncePerLine h y (100 + lc) hs fun _ ha => hP.report _ _ _ _ ha

theorem llFault (h y : Nat) (hs : P s) : P (s.llFault h y) := hP.oncePerLine h y 10 hs fun _ ha => hP.report _ _ _ _ ha

theorem llCount (h y code : Nat) {f : Fd} (hf : f.key = Rg.HD_LLSTAT h) (hs : P s) : P (s.llCount h y code f) :=
  hP.oncePerLine h y code hs fun _ ha => hP.bump (k := 0x180054 + h * 0x1000) 127 ha hf (by omega)

/-! ## Output (R206–R217, R243–R250) -/

theorem goesDark (h y b : Nat) (hs : P s) : P (s.modHead h (fun v => { v with under := (y, b) :: v.under })) :=
  hP.beside h _ hs (fun _ => rfl) (fun _ => rfl) (fun _ => rfl)

theorem dark (h y b : Nat) (hs : P s) : P (s.dark h y b) := by
  unfold State.dark
  split
  · exact SteadyClosed.ite hs (hP.goesDark h y b hs)
  · exact hP.goesDark h y b hs

theorem underrun (h y b : Nat) (hs : P s) : P (s.underrun h y b) := by
  have hcount (a : State) (ha : P a) : P (((a.bump (Fd.HD_STAT_URCNT h) 127).modHead h (fun v => { v with report := { v.report with
      urlines := min 65535 (v.report.urlines + 1) } })).raise (24 + 6 * h + 1)) :=
    hP.raise _ (hP.beside h _ (hP.bump (k := 0x180014 + h * 0x1000) 127 ha rfl (by omega)) (fun _ => rfl) (fun _ => rfl)
      (fun _ => rfl))
  have hdark := hP.dark h y b hs
  unfold State.underrun
  exact SteadyClosed.ite hs (SteadyClosed.ite hdark (hP.oncePerLine h y 20 hdark fun a ha => hP.report _ _ _ _ (hcount a ha)))

theorem haltLine (h y b : Nat) (hs : P s) : P (s.haltLine h y b) := by
  have h1 := hP.oncePerLine h y 21 (f := fun t => t) (hP.dark h y b hs) fun _ ha => ha
  exact SteadyClosed.ite (hP.report _ _ _ _ (hP.beside h _ h1 (fun _ => rfl) (fun _ => rfl) (fun _ => rfl))) h1

theorem setRect (h : Nat) (r : RectRun) (hs : P s) : P (s.setRect h r) :=
  hP.beside h _ hs (fun _ => rfl) (fun _ => rfl) (fun _ => rfl)

/-- A rectangle's comparison fails: its bit of MISMATCH, its count and the interrupt (R249, R250). -/
theorem mismatch (h x i : Nat) (hs : P s) : P (((s.set (Fd.HD_STAT_MISMATCH h) x).modHead h (fun v =>
    { v with misCnt := tabPut 0 v.misCnt i (min 65535 (tabGet 0 v.misCnt i + 1)), misRec := true })).raise (24 + 6 * h + 2)) :=
  hP.raise _ (hP.beside h _ (hP.put (k := 0x180014 + h * 0x1000) _ hs rfl (by omega)) (fun _ => rfl) (fun _ => rfl) (fun _ => rfl))

theorem rectEnd (h : Nat) (r : RectRun) (hs : P s) : P (s.rectEnd h r) := by
  unfold State.rectEnd
  split
  · exact hs
  · next e _ =>
    have h1 : P (s.setRect h { r with compared := true, mismatch := crcEnd r.crc ≠ e }) := hP.setRect h _ hs
    have h2 := hP.mismatch h (Nat.lor ((s.setRect h { r with compared := true, mismatch := crcEnd r.crc ≠ e }).get
      (Fd.HD_STAT_MISMATCH h)) (2 ^ r.index)) r.index h1
    exact SteadyClosed.ite hs (SteadyClosed.ite h1 (SteadyClosed.ite h2 (hP.report _ _ _ _ h2)))

theorem rectsEnd (h y x : Nat) (hs : P s) : P (s.rectsEnd h y x) :=
  SteadyClosed.foldl _ (fun _ r ha => SteadyClosed.ite (hP.rectEnd h _ (hP.setRect h _ ha)) (SteadyClosed.ite (hP.rectEnd h r ha) ha))
    hs

theorem rectLine (h y : Nat) (hs : P s) : P (s.rectLine h y) :=
  hP.rectsEnd h y _ (hP.beside h _ hs (fun _ => rfl) (fun _ => rfl) (fun _ => rfl))

theorem wbEnds (h : Nat) {f : Fd} (hf : f.key = Rg.HD_WBCTL h) (hs : P s) : P (s.wbEnds h f) := by
  have h1 : P (s.set f 1) := hP.put (k := 0x180080 + h * 0x1000) 1 hs hf (by omega)
  exact hP.raise _ (hP.put (f := Fd.HD_WBCTL_BUSY h) (k := 0x180080 + h * 0x1000) _ h1 rfl (by omega))

theorem wbDrop (h : Nat) (hs : P s) : P (s.wbDrop h) := by
  have h1 : P (s.modHead h (fun v => { v with wb := none, wbOut := v.wbOut.take v.wbTail })) := by
    refine hP.head h hs rfl fun ⟨_, hout⟩ => ⟨rfl, ?_⟩
    show (s.headS h).wbOut.take (s.headS h).wbTail = []
    rw [hout, List.take_nil]
  exact SteadyClosed.ite hs (hP.wbEnds h rfl h1)

theorem wbDropTail (h : Nat) (hs : P s) : P (s.wbDropTail h) := by
  have h1 : P (s.modHead h (fun v => { v with wbOut := v.wbOut.drop v.wbTail, wbTail := 0 })) := by
    refine hP.head h hs rfl fun ⟨hwb, hout⟩ => ⟨hwb, ?_⟩
    show (s.headS h).wbOut.drop (s.headS h).wbTail = []
    rw [hout, List.drop_nil]
  exact SteadyClosed.ite hs (hP.wbEnds h rfl h1)

theorem wbOverflow (h : Nat) (hs : P s) : P (s.wbOverflow h) :=
  SteadyClosed.ite hs (hP.report _ _ _ _ (SteadyClosed.ite (hP.wbDrop h hs) (hP.wbDropTail h hs)))

theorem wbLine (h y : Nat) (hs : P s) : P (s.wbLine h y) := by
  have h0 := hP.wbOverflow h hs
  unfold State.wbLine
  dsimp only
  split
  · exact h0
  · next w hw => exact hP.head h h0 rfl fun ⟨hnone, _⟩ => by rw [hw] at hnone; cases hnone

theorem rowOut (h y : Nat) (hs : P s) : P (s.rowOut h y) := by
  unfold State.rowOut
  refine hP.beside h _ (hP.wbLine h y (hP.rectLine h y ?_)) (fun _ => rfl) (fun _ => rfl) (fun _ => rfl)
  split
  · split
    · exact hP.underrun h y _ hs
    · exact hs
  · exact hs

theorem rowsOut (h top : Nat) (hs : P s) : P (s.rowsOut h top) :=
  SteadyClosed.foldl _ (fun _ _ ha => hP.rowOut h _ ha) hs

/-! ## Tacks, faults and remote requests of a line (R91, R116, R159, R265, R298) -/

theorem soleTacks {sl : Nat} (hn : sl < 16) (h : P s) : P (s.soleTacks sl) := by
  have hheld := hP.put (f := Fd.FETCH_SL_STAT_HELD sl) (k := 0x110040 + sl * 4) (min 448 (s.localTacks sl + s.remoteTacks sl)) h rfl
    (by omega)
  exact SteadyClosed.ite h (hP.raiseTo (k := 0x110040 + sl * 4) _ hheld rfl (by omega))

theorem soleIssue {sl : Nat} (hn : sl < 16) (h : P s) : P (s.soleIssue sl) := by
  unfold State.soleIssue
  split
  · exact hP.soleTacks hn h
  · next c hc =>
    obtain ⟨-, -, -, hlt⟩ := soleCtx_fields hc
    refine hP.soleTacks hn (hP.raiseTo (k := 0x1100C0 + sl * 4) _ ?_ rfl (by omega))
    exact SteadyClosed.ite (hP.clip hlt _ 2 h) h

theorem lineFaults {c : LineCtx} (hc : c.head < 16) (h : P s) : P (s.lineFaults c) := by
  refine SteadyClosed.foldl _ (fun a e ha => ?_) h
  split
  · exact SteadyClosed.ite (hP.layerFault _ _ _ ha) ha
  · have hclip : P (a.clip c.head c.y 0) := hP.clip hc _ 0 ha
    refine SteadyClosed.ite ha (SteadyClosed.ite (hP.layerFault _ _ _ ha) (SteadyClosed.ite (hP.layerFault _ _ _ ?_) ?_))
    · exact SteadyClosed.ite hclip ha
    · exact SteadyClosed.ite hclip ha
  · exact ha

theorem lineReady {h : Nat} (y : Nat) (hs : P (s.modHead h (fun v => { v with listWait := v.listWait.filter (fun z => z != y) }))) :
    P (s.lineReady h y) := by
  unfold State.lineReady
  refine keeps_foldl (fun c hc a ha => hP.soleIssue (mem_lineCtxs hc).1 ha) ?_
  refine keeps_foldl (fun c hc a ha => SteadyClosed.ite ha (hP.lineFaults ?_ ha)) ?_
  · obtain ⟨-, hhead, hlt⟩ := mem_lineCtxs hc
    exact hhead ▸ hlt
  · split
    · next hany =>
      obtain ⟨c, hc, -⟩ := List.any_eq_true.mp hany
      exact hP.clip (mem_lineCtxs hc).2.2 y 0 hs
    · exact hs

theorem fcMessage (c : Nat) (first last : Bool) (h : P s) : P (s.fcMessage c first last) := hP.modWelt _ h

theorem weltSend (pkt : WeltPkt) (h : P s) : P (s.weltSend pkt) := by
  have hbound : P (s.fcBoundary pkt) := SteadyClosed.ite (hP.fcMessage _ _ _ h) h
  have hin : P ((s.fcBoundary pkt).modWelt (fun w => { w with inbox := w.inbox ++ [⟨none, pkt, 0⟩] })) := hP.modWelt _ hbound
  unfold State.weltSend
  refine SteadyClosed.ite h (SteadyClosed.ite ?_ ?_)
  · unfold State.weltDeliver
    dsimp only
    split
    · exact hbound
    · refine SteadyClosed.ite hbound ?_
      split
      · exact hin
      · exact hin
      · exact hP.fcMessage _ _ _ hin
      · exact hP.fcMessage _ _ _ hin
  · unfold State.weltForward
    split
    · exact h
    · exact SteadyClosed.ite h (hP.modWelt _ h)

theorem weltFlow (c kind dest dflow : Nat) (first last : Bool) (ws : List Nat) (h : P s) :
    P (s.weltFlow c kind dest dflow first last ws) :=
  hP.fcMessage _ _ _ (hP.weltSend _ (hP.modWelt _ h))

theorem remIssue (who : RemWho) (dev op off count w2 tofs be : Nat) (d : List Nat) (h : P s) :
    P (s.remIssue who dev op off count w2 tofs be d) :=
  SteadyClosed.ite (hP.modWelt _ (hP.modWelt _ h)) (hP.weltFlow _ _ _ _ _ _ _ (hP.modWelt _ h))

theorem issuePlane (sl lc z dev : Nat) (l : List (Nat × Nat × Nat × Nat × Nat)) (room : Nat) (h : P s) :
    P (s.issuePlane sl lc z dev room l) := by
  induction l generalizing s room with
  | nil => exact h
  | cons r t ih =>
    unfold State.issuePlane
    exact SteadyClosed.ite h (ih _ (hP.remIssue _ _ _ _ _ _ _ _ _ h))

theorem remoteRequests (h y : Nat) (hs : P s) : P (s.remoteRequests h y) := by
  unfold State.remoteRequests
  split
  · exact hs
  · refine SteadyClosed.foldl _ (fun a r ha => SteadyClosed.foldl _ (fun b sl hb => ?_) ha) hs
    split
    · exact hb
    · exact SteadyClosed.ite hb (hP.issuePlane _ _ _ _ _ _ hb)

theorem remoteDue {sl : Nat} (hn : sl < 16) (y : Nat) (h : P s) : P (s.remoteDue sl y) :=
  hP.soleTacks hn (SteadyClosed.ite (hP.modWelt _ h) (hP.modSole sl _ (hP.modWelt _ h) fun _ => rfl))

/-! ## Picture receivers (R364) -/

theorem setPrx (k : Nat) (v : PrxS) (h : P s) : P (s.setPrx k v) := hP.rest h rfl rfl rfl rfl rfl

theorem prxStat {f : Fd} (k x : Nat) (hk : k < 4) (hf : f.key = Rg.WELT_PRX_STAT k) (h : P s) : P (s.set f x) :=
  hP.put (k := 0x30008C + k * 0x10) x h hf (by omega)

theorem prxLost {k : Nat} (hk : k < 4) (y : Nat) (h : P s) : P (s.prxLost k y) :=
  SteadyClosed.ite h (hP.report _ _ _ _ (hP.setPrx k _ (hP.prxStat k _ hk rfl (hP.prxStat k _ hk rfl (hP.prxStat k _ hk rfl h)))))

theorem prxCheck (h y ya : Nat) (hs : P s) : P (s.prxCheck h y ya) := by
  refine SteadyClosed.ite hs (keeps_foldl (fun k hk a ha => ?_) hs)
  have hlt := List.mem_range.mp hk
  have hmiss : P (a.bump (Fd.WELT_PRX_STAT_MISSCNT k) 255) := hP.bump (k := 0x30008C + k * 0x10) 255 ha rfl (by omega)
  refine SteadyClosed.ite ha (SteadyClosed.ite (hP.setPrx k _ ha) (SteadyClosed.ite (hP.prxLost hlt _ ?_) ?_))
  · exact hP.setPrx k _ hmiss
  · exact hP.setPrx k _ hmiss

theorem prxForget (h : Nat) (hs : P s) : P (s.prxForget h) :=
  SteadyClosed.foldl _ (fun _ k ha => SteadyClosed.ite (hP.setPrx k _ ha) ha) hs

end LineClosed

end Sys2Proof.Machine
end

section
/-! Heads and Soles after a write of one, and a head's beam-domain entries issued and lost as events (R174). -/
namespace Sys2Proof.Machine

/-! ## Heads and Soles after a write of one -/

theorem headS_setHead_same (s : State) (h : Nat) (v : HeadS) : (s.setHead h v).headS h = v := tabGet_put_same _ _ _ _

theorem headS_setHead_other (s : State) {h k : Nat} (v : HeadS) (hk : k ≠ h) : (s.setHead h v).headS k = s.headS k :=
  tabGet_put_other _ _ _ _ _ hk

theorem soleS_setSole_same (s : State) (n : Nat) (v : SoleS) : (s.setSole n v).soleS n = v := tabGet_put_same _ _ _ _

theorem soleS_setSole_other (s : State) {n k : Nat} (v : SoleS) (hk : k ≠ n) : (s.setSole n v).soleS k = s.soleS k :=
  tabGet_put_other _ _ _ _ _ hk

theorem headS_modHead_same (s : State) (h : Nat) (f : HeadS → HeadS) : (s.modHead h f).headS h = f (s.headS h) :=
  headS_setHead_same _ _ _

theorem soleS_modSole_same (s : State) (n : Nat) (f : SoleS → SoleS) : (s.modSole n f).soleS n = f (s.soleS n) :=
  soleS_setSole_same _ _ _

theorem headS_of_heads {s t : State} (h : t.pict.heads = s.pict.heads) (k : Nat) : t.headS k = s.headS k := by
  unfold State.headS
  rw [h]

theorem soleS_of_soles {s t : State} (h : t.pict.soles = s.pict.soles) (n : Nat) : t.soleS n = s.soleS n := by
  unfold State.soleS
  rw [h]

/-! ## Properties that the lines' operations keep -/

theorem lineClosed_and {P Q : State → Prop} (hP : LineClosed P) (hQ : LineClosed Q) : LineClosed (fun t => P t ∧ Q t) where
  same h hs := ⟨hP.same h.1 hs, hQ.same h.2 hs⟩
  head k _ h hc hw := ⟨hP.head k h.1 hc hw, hQ.head k h.2 hc hw⟩
  sole n _ h hc := ⟨hP.sole n h.1 hc, hQ.sole n h.2 hc⟩

/-- A part of a head that its core fixes. -/
theorem lineClosed_head {α : Type} (h : Nat) (g : HeadS → α) (hg : ∀ v w : HeadS, v.core = w.core → g v = g w) (a : α) :
    LineClosed (fun t => g (t.headS h) = a) where
  same ht hs := (congrArg g (headS_of_heads hs.heads h)).trans ht
  head {t} k w ht hc _ := by
    by_cases hk : h = k
    · subst hk
      rw [headS_setHead_same, hg _ _ hc, ht]
    · rw [headS_setHead_other _ _ hk, ht]
  sole _ _ ht _ := ht

theorem beam_of_core (v w : HeadS) (h : v.core = w.core) : v.beam = w.beam := congrArg (fun c => c.2.2.2.2.2.1) h

theorem lineClosed_beam (h : Nat) (l : List BeamEnt) : LineClosed (fun t => (t.headS h).beam = l) :=
  lineClosed_head h HeadS.beam beam_of_core l

theorem lineClosed_noWb (h : Nat) : LineClosed (fun t => (t.headS h).noWb) where
  same ht hs := (headS_of_heads hs.heads h) ▸ ht
  head {t} k w ht _ hw := by
    by_cases hk : h = k
    · subst hk
      rw [headS_setHead_same]
      exact hw ht
    · rw [headS_setHead_other _ _ hk]
      exact ht
  sole _ _ ht _ := ht

theorem lineClosed_mem (m : List (Nat × BitVec 8)) : LineClosed (fun t => t.mem = m) where
  same ht hs := hs.mem.trans ht
  head _ _ ht _ _ := ht
  sole _ _ ht _ := ht

theorem lineClosed_reg {k : Nat} (hk : lineKey k) (v : RegVal) : LineClosed (fun t => t.reg k = v) where
  same ht hs := (hs.reg k hk).trans ht
  head _ _ ht _ _ := ht
  sole _ _ ht _ := ht

/-! ## Beam-domain entries (R174) -/

/-- Beam-domain entries of lines before `l` leave the head. -/
def State.beamFrom (s : State) (h l : Nat) : State :=
  s.modHead h (fun v => { v with beam := v.beam.filter (fun e => decide (l ≤ e.line)) })

theorem LineClosed.beamExpire {P : State → Prop} (hP : LineClosed P) {s : State} (h l : Nat) (hs : P s) (hb : P (s.beamFrom h l)) :
    P (s.beamExpire h l) :=
  SteadyClosed.ite hs (SteadyClosed.foldl _ (fun _ e ha => hP.llCount h e.line 12 rfl ha) hb)

/-- The entries that are left after those before line `l` are discarded. -/
theorem beam_beamExpire (s : State) (h l : Nat) :
    ((s.beamExpire h l).headS h).beam = (s.headS h).beam.filter (fun e => decide (l ≤ e.line)) := by
  by_cases hold : ((s.headS h).beam.filter (fun e => decide (e.line < l))).isEmpty = true
  · have hall : (s.headS h).beam.filter (fun e => decide (l ≤ e.line)) = (s.headS h).beam := by
      refine List.filter_eq_self.mpr fun e he => decide_eq_true (Nat.le_of_not_lt fun hlt => ?_)
      have hmem : e ∈ (s.headS h).beam.filter (fun e => decide (e.line < l)) := List.mem_filter.mpr ⟨he, decide_eq_true hlt⟩
      rw [List.isEmpty_iff.mp hold] at hmem
      cases hmem
    have hsame : s.beamExpire h l = s := by
      unfold State.beamExpire
      rw [if_pos hold]
    rw [hall, hsame]
  · have hP := lineClosed_beam h ((s.headS h).beam.filter (fun e => decide (l ≤ e.line)))
    have hleft : ((s.beamFrom h l).headS h).beam = (s.headS h).beam.filter (fun e => decide (l ≤ e.line)) :=
      congrArg HeadS.beam (headS_modHead_same s h _)
    have hcounts := SteadyClosed.foldl ((s.headS h).beam.filter (fun e => decide (e.line < l)))
      (fun (a : State) (e : BeamEnt) ha => hP.llCount (s := a) h e.line 12 (f := Fd.HD_LLSTAT_LOST h) rfl ha) hleft
    unfold State.beamExpire
    rw [if_neg hold]
    exact hcounts

/-- Nothing differs but the heads' and Soles' hidden state and registers for which `p` holds. -/
def PictOnly (p : Nat → Prop) (s t : State) : Prop := RegsOnly p s { t with pict := s.pict }

theorem pictOnly_refl (p : Nat → Prop) (s : State) : PictOnly p s s := regsOnly_refl p s

theorem regN_of_reg {s t : State} {k : Nat} (h : t.reg k = s.reg k) : t.regN k = s.regN k := by
  unfold State.regN
  rw [h]

theorem regN_of_pictOnly {p : Nat → Prop} {s t : State} (h : PictOnly p s t) {k : Nat} (hk : ¬ p k) : t.regN k = s.regN k :=
  regN_of_reg (t := { t with pict := s.pict }) (h.2 k hk)

theorem mem_of_pictOnly {p : Nat → Prop} {s t : State} (h : PictOnly p s t) : t.mem = s.mem :=
  mem_of_regsOnly (t := { t with pict := s.pict }) h

theorem PictOnly.modHead {p : Nat → Prop} {s t : State} (h : PictOnly p s t) (k : Nat) (f : HeadS → HeadS) :
    PictOnly p s (t.modHead k f) := h

theorem PictOnly.set {p : Nat → Prop} {s t : State} (h : PictOnly p s t) {f : Fd} (x : Nat) (hf : p f.key) : PictOnly p s (t.set f x) :=
  regsOnly_trans h (regsOnly_set _ f x hf)

theorem PictOnly.llCount {p : Nat → Prop} {s t : State} (h : PictOnly p s t) (k y code : Nat) {f : Fd} (hf : p f.key) :
    PictOnly p s (t.llCount k y code f) :=
  SteadyClosed.ite h (SteadyClosed.ite ((h.modHead k _).set _ hf) (h.modHead k _))

theorem pictOnly_beamExpire (s : State) (h l : Nat) : PictOnly (fun k => k = Rg.HD_LLSTAT h) s (s.beamExpire h l) :=
  SteadyClosed.ite (pictOnly_refl _ s)
    (SteadyClosed.foldl _ (fun _ e ha => PictOnly.llCount ha h e.line 12 rfl) ((pictOnly_refl _ s).modHead h _))

theorem beamEntryLost_answers {s : State} {h : Fin 16} {b : BeamEnt} {rest : List BeamEnt} (he : s.inEpisode = false)
    (hb : (s.headS h).beam = b :: rest) (hl : b.line < (s.headS h).line) :
    Answers (.beamEntryLost h) s (fun t =>
      (t.headS h).beam = (b :: rest).filter (fun x => decide (b.line < x.line)) ∧
      RegsOnly (fun k => k = Rg.HD_LLSTAT h) s { t with pict := s.pict }) := by
  have hlost : s.beamLost h = s.beamExpire h (b.line + 1) := by
    unfold State.beamLost
    rw [hb]
    exact if_pos hl
  refine answers_quiet rfl he ?_
  rw [hlost]
  refine ⟨?_, pictOnly_beamExpire s h _⟩
  rw [beam_beamExpire, hb]
  rfl

namespace LineClosed

variable {P : State → Prop} (hP : LineClosed P) {s : State}
include hP

/-- A write of an active or frame value (R173, R175). -/
theorem setFar {k : Nat} (v : RegVal) (hs : P s) (hk : 0x2000000 ≤ k) : P (s.setReg k v) := by
  refine hP.setReg v hs ?_
  unfold lineKey
  omega

theorem lineWrite (h y p k v : Nat) (hs : P s) : P (s.lineWrite h y p k v) := by
  have hk : 0x2000000 ≤ activeBase + k := by
    unfold activeBase
    omega
  exact hP.setFar _ (hP.beside h _ hs (fun _ => rfl) (fun _ => rfl) (fun _ => rfl)) hk

theorem captureTrig (trig : Nat) (rising : Bool) (hs : P s) : P (s.captureTrig trig rising) := by
  refine SteadyClosed.foldl _ (fun a k ha => SteadyClosed.ite ?_ ha) hs
  exact SteadyClosed.ite (hP.rest ha rfl rfl rfl rfl rfl) (hP.put (k := 0x1080000 + k * 4) 1 ha rfl (by omega))

theorem markEdges (h old : Nat) (hs : P s) : P (s.markEdges h old) :=
  SteadyClosed.foldl _ (fun _ _ ha => SteadyClosed.ite ha (hP.captureTrig _ _ ha)) hs

theorem queueKey (e : KeyEv) (hs : P s) : P (s.queueKey e) := by
  have h1 : P (s.bump Fd.AUD_STAT_KEYDROP 63) := hP.bump (k := 0x500004) 63 hs rfl (by omega)
  refine SteadyClosed.ite hs (SteadyClosed.ite (hP.rest hs rfl rfl rfl rfl rfl) (SteadyClosed.ite (hP.report _ _ _ _ ?_) h1))
  exact hP.rest h1 rfl rfl rfl rfl rfl

theorem beamExec (h y x : Nat) (e : BeamEnt) (hs : P s) : P (s.beamExec h y x e) :=
  SteadyClosed.ite (hP.queueKey _ hs) (hP.markEdges h _ (hP.lineWrite h y x _ _ hs))

end LineClosed

/-- Captures write no active value. -/
theorem reg_captureTrig (s : State) (trig : Nat) (rising : Bool) {j : Nat} (hj : 0x2000000 ≤ j) :
    (s.captureTrig trig rising).reg j = s.reg j := by
  refine keeps_foldl (P := fun a => a.reg j = s.reg j) (fun k hk a ha => ?_) rfl
  have hlt := List.mem_range.mp hk
  refine SteadyClosed.ite (P := fun a => a.reg j = s.reg j) (SteadyClosed.ite (P := fun a => a.reg j = s.reg j) ha ?_) ha
  refine (reg_set_key _ _ _ _ ?_).trans ha
  show j ≠ 0x1080000 + k * 4
  omega

theorem reg_markEdges (s : State) (h old : Nat) {j : Nat} (hj : 0x2000000 ≤ j) : (s.markEdges h old).reg j = s.reg j :=
  SteadyClosed.foldl (P := fun a => a.reg j = s.reg j) _ (fun _ _ ha =>
    SteadyClosed.ite (P := fun a => a.reg j = s.reg j) ha ((reg_captureTrig _ _ _ hj).trans ha)) rfl

theorem regN_lineWrite (s : State) (h y p k v : Nat) :
    (s.lineWrite h y p k v).regN (activeBase + k) = writeByAccess k (s.regN (activeBase + k)) v % 2 ^ 28 :=
  regN_setRegN_same _ _ _

/-- The line in output when the beam is in pixel period `x` (R174): left of HSTART that is the line released last. -/
def State.beamLine (s : State) (h x : Nat) : Nat := if x < s.hStart h then (s.headS h).line else (s.headS h).line - 1

/-- The beam entries before line `l` are discarded, and `left` are those that stay. -/
def State.beamLeft (s : State) (h l : Nat) (left : List BeamEnt) : State :=
  (s.beamExpire h l).modHead h (fun v => { v with beam := left })

theorem beamIssue_due {s : State} {h x : Nat} {b : BeamEnt} {rest : List BeamEnt} (hb : (s.headS h).beam = b :: rest)
    (hh : s.halted = false) (hr : (s.headS h).running = true) (hnow : b.line = s.beamLine h x ∧ b.pos ≤ x) :
    s.beamIssue h x =
      if b.pos < x then ((s.beamLeft h b.line (rest.filter (fun e => decide (b.line ≤ e.line)))).beamExec h b.line x b).llCount h
        b.line 13 (Fd.HD_LLSTAT_LATE h)
      else (s.beamLeft h b.line (rest.filter (fun e => decide (b.line ≤ e.line)))).beamExec h b.line x b := by
  obtain ⟨hline, hpos⟩ := hnow
  have hfirst : decide (b.line ≤ b.line) = true := decide_eq_true (Nat.le_refl _)
  have hkept : ((s.beamExpire h b.line).headS h).beam = b :: rest.filter (fun e => decide (b.line ≤ e.line)) := by
    rw [beam_beamExpire, hb, List.filter_cons, if_pos hfirst]
  have hgo : ¬ (s.halted || !(s.headS h).running) = true := by rw [hh, hr]; decide
  have hready : ¬ (b.line ≠ b.line ∨ x < b.pos) := by omega
  unfold State.beamLine at hline
  unfold State.beamIssue State.beamLeft
  simp only [if_neg hgo, ← hline, hkept, if_neg hready]

/-- The value that an entry writes stands in the register (R173). -/
theorem regN_beamExec {s : State} {h x k : Nat} {b : BeamEnt} (hop : b.op ≠ 3) (hk : (lineKeys h).getD (b.tgt % 4) 0 = k) :
    (s.beamExec h b.line x b).regN (activeBase + k) = writeByAccess k (s.regN (activeBase + k)) b.val % 2 ^ 28 := by
  have hfar : 0x2000000 ≤ activeBase + k := by
    unfold activeBase
    omega
  unfold State.beamExec
  rw [if_neg hop, hk, regN_of_reg (reg_markEdges _ _ _ hfar), regN_lineWrite]

theorem beamEntryIssue_answers {s : State} {h : Fin 16} {x : Fin 16384} {b : BeamEnt} {rest : List BeamEnt} (he : s.inEpisode = false)
    (hb : (s.headS h).beam = b :: rest) (hh : s.halted = false) (hr : (s.headS h).running = true)
    (hnow : b.line = s.beamLine h x ∧ b.pos ≤ x.val) :
    Answers (.beamEntryIssue h x) s (fun t =>
      (t.headS h).beam = rest.filter (fun z => decide (s.beamLine h x ≤ z.line)) ∧
      (b.op ≠ 3 → t.regN (activeBase + (lineKeys h).getD (b.tgt % 4) 0) =
        writeByAccess ((lineKeys h).getD (b.tgt % 4) 0) (s.regN (activeBase + (lineKeys h).getD (b.tgt % 4) 0)) b.val % 2 ^ 28) ∧
      t.mem = s.mem) := by
  refine answers_quiet rfl he ?_
  rw [beamIssue_due hb hh hr hnow, ← hnow.1]
  generalize hleft : rest.filter (fun e => decide (b.line ≤ e.line)) = left
  have honly : PictOnly (fun j => j = Rg.HD_LLSTAT h) s (s.beamLeft h b.line left) := (pictOnly_beamExpire s h b.line).modHead h _
  have hP := lineClosed_and (lineClosed_beam h left) (lineClosed_mem s.mem)
  have hexec := hP.beamExec (s := s.beamLeft h b.line left) h b.line x b
    ⟨congrArg HeadS.beam (headS_modHead_same _ h _), mem_of_pictOnly honly⟩
  have hcount := hP.llCount h b.line 13 (f := Fd.HD_LLSTAT_LATE h) rfl hexec
  obtain ⟨hbeam, hmem⟩ := SteadyClosed.ite (P := fun t => (t.headS h).beam = left ∧ t.mem = s.mem) (c := b.pos < x.val) hcount hexec
  refine ⟨hbeam, fun hop => ?_, hmem⟩
  generalize hk : (lineKeys h).getD (b.tgt % 4) 0 = k
  have hnot : activeBase + k ≠ Rg.HD_LLSTAT h := by
    have := h.isLt
    unfold activeBase Rg.HD_LLSTAT
    omega
  have hdone := regN_beamExec (s := s.beamLeft h b.line left) (h := h) (x := x) hop hk
  rw [regN_of_pictOnly honly hnot] at hdone
  have hlate := (pictOnly_refl (fun j => j = Rg.HD_LLSTAT h) ((s.beamLeft h b.line left).beamExec h b.line x b)).llCount h b.line 13
    (f := Fd.HD_LLSTAT_LATE h) rfl
  split
  · rw [regN_of_pictOnly hlate hnot, hdone]
  · exact hdone

end Sys2Proof.Machine
end

section
/-! A Sole's stitches and the ends of its lines (R55, R56, R116, R267). -/
namespace Sys2Proof.Machine

/-! ## Stitches (R267) -/

/-- A Sole's state but for its line's stitches, blocks and lists. -/
theorem line_of_core (v w : SoleS) (h : v.core = w.core) : v.line = w.line := congrArg (fun c => c.2.1) h
theorem next_of_core (v w : SoleS) (h : v.core = w.core) : v.next = w.next := congrArg (fun c => c.2.2.1) h
theorem ran_of_core (v w : SoleS) (h : v.core = w.core) : v.ran = w.ran := congrArg (fun c => c.2.2.2.1) h
theorem got_of_core (v w : SoleS) (h : v.core = w.core) : v.got = w.got := congrArg (fun c => c.2.2.2.2) h

namespace LineClosed

variable {P : State → Prop} (hP : LineClosed P) {s : State}
include hP

theorem modBlock (sl y b : Nat) (f : LayBlk → LayBlk) (h : P s) : P (s.modBlock sl y b f) := by
  refine hP.modSole sl _ h fun v => ?_
  split <;> rfl

theorem writeBlock (c : LineCtx) (lc b : Nat) (px : List (Nat × PixRes)) (h : P s) : P (s.writeBlock c lc b px) :=
  SteadyClosed.ite (hP.modSole _ _ (hP.modBlock _ _ _ _ h) fun _ => rfl) (hP.modBlock _ _ _ _ h)

/-- A block whose data is there is composed, and its stitch counts. -/
theorem composeBlock {c : LineCtx} (hc : c.head < 16) {lc b : Nat} {px : List (Nat × PixRes)} (remote : Bool)
    (hfree : c.hidden s lc b = true ∨ px.all (fun x => x.2 != .wait) = true) (h : P s) :
    ∃ a, P a ∧ s.composeBlock c lc b remote px = a.countStitch c := by
  by_cases hhid : c.hidden s lc b = true
  · exact ⟨_, hP.modBlock _ _ _ _ h, if_pos hhid⟩
  · have hall := hfree.resolve_left hhid
    have hwait : ¬ px.any (fun e => e.2 == .wait) = true := by
      rw [List.any_eq_true]
      rintro ⟨e, he, hw⟩
      have := List.all_eq_true.mp hall e he
      rw [bne, hw] at this
      cases this
    have hclip : P (if (remote && px.any (fun e => e.2 == .missing)) = true then s.clip c.head c.y 3 else s) :=
      SteadyClosed.ite (hP.clip hc c.y 3 h) h
    exact ⟨_, hP.writeBlock c lc b px hclip, (if_neg hhid).trans (if_neg hwait)⟩

end LineClosed

/-- The stitch that is free to run counts, and then the Sole issues what it may. -/
theorem stitchRun_counts {P Q : State → Prop} (hP : LineClosed P) (hQ : LineClosed Q) {s : State} {sl : Nat} (hn : sl < 16)
    {c : LineCtx} (hcount : ∀ a, P a → Q (a.countStitch c)) (hc : s.soleCtx sl = some c) (hmore : s.ranOf sl c.y < c.total)
    (hfree : stitchFree s c = true) (h : P s) : Q (s.stitchRun sl) := by
  obtain ⟨hsole, -, -, hlt⟩ := soleCtx_fields hc
  have hblock {lc b : Nat} {px : List (Nat × PixRes)} (remote : Bool)
      (hpx : c.hidden s lc b = true ∨ px.all (fun x => x.2 != .wait) = true) : Q ((s.composeBlock c lc b remote px).soleIssue sl) := by
    obtain ⟨a, ha, heq⟩ := hP.composeBlock hlt remote hpx h
    rw [heq]
    exact hQ.soleIssue hn (hcount a ha)
  have hplain : Q ((s.countStitch c).soleIssue sl) := hQ.soleIssue hn (hcount s h)
  unfold State.stitchRun
  unfold stitchFree at hfree
  rw [hsole] at hfree
  rw [hc]
  dsimp only
  rw [if_neg (Nat.not_le.mpr hmore)]
  generalize stitchAt c.entries 0 (s.ranOf sl c.y) = st at hfree ⊢
  match st with
  | none => exact hcount s h
  | some (j, .run lc b n, k) =>
    dsimp only at hfree ⊢
    split
    · exact hplain
    · next hin =>
      refine hblock _ ?_
      simp only [Bool.or_eq_true, Bool.not_eq_true'] at hfree hin
      tauto
  | some (j, .sprites lc sp bl, k) =>
    dsimp only at hfree ⊢
    generalize (c.spanStitches s lc sp bl)[k]? = spot at hfree ⊢
    match spot with
    | some (tag, sn, b) => exact hblock false (Bool.or_eq_true _ _ ▸ hfree)
    | none => exact hplain
  | some (j, .lineList n, k) => exact hplain
  | some (j, .reserved, k) => exact hplain

theorem lineClosed_sole {α : Type} (n : Nat) (g : SoleS → α) (hg : ∀ v w : SoleS, v.core = w.core → g v = g w) (a : α) :
    LineClosed (fun t => g (t.soleS n) = a) where
  same ht hs := (congrArg g (soleS_of_soles hs.soles n)).trans ht
  head _ _ ht _ _ := ht
  sole {t} k w ht hc := by
    by_cases hk : n = k
    · subst hk
      rw [soleS_setSole_same, hg _ _ hc, ht]
    · rw [soleS_setSole_other _ _ hk, ht]

theorem lineClosed_ran (sl y n : Nat) : LineClosed (fun t => t.ranOf sl y = n) :=
  lineClosed_sole sl (fun v => tabGet 0 v.ran y) (fun v w h => congrArg (tabGet 0 · y) (ran_of_core v w h)) n

theorem lineClosed_line (sl : Nat) (l : Option Nat) : LineClosed (fun t => (t.soleS sl).line = l) :=
  lineClosed_sole sl SoleS.line line_of_core l

theorem lineClosed_next (sl : Nat) (l : List Nat) : LineClosed (fun t => (t.soleS sl).next = l) :=
  lineClosed_sole sl SoleS.next next_of_core l

theorem ran_countStitch (s : State) (c : LineCtx) : (s.countStitch c).ranOf c.sole c.y = s.ranOf c.sole c.y + 1 := by
  unfold State.countStitch State.ranOf
  rw [soleS_modSole_same]
  dsimp only
  rw [tabGet_put_same]

theorem line_countStitch (s : State) (c : LineCtx) : ((s.countStitch c).soleS c.sole).line = (s.soleS c.sole).line := by
  unfold State.countStitch
  rw [soleS_modSole_same]

theorem stitchRun_answers {s : State} {sl : Fin 16} {y : Fin 16384} (he : s.inEpisode = false)
    (hl : (s.soleS sl).line = some y.val)
    (hfree : (s.soleCtx sl).any (fun c => decide (s.ranOf sl y < c.total) && stitchFree s c) = true) :
    Answers (.stitchRun sl) s (fun t =>
      t.ranOf sl y = s.ranOf sl y + 1 ∧ (t.soleS sl).line = some y.val ∧ t.mem = s.mem) := by
  obtain ⟨c, hc, hstitch⟩ : ∃ c, s.soleCtx sl = some c ∧ (decide (s.ranOf sl y < c.total) && stitchFree s c) = true := by
    cases hc : s.soleCtx sl with
    | none => rw [hc] at hfree; cases hfree
    | some c => rw [hc] at hfree; exact ⟨c, rfl, hfree⟩
  obtain ⟨hmore, hdata⟩ := Bool.and_eq_true_iff.mp hstitch
  obtain ⟨hsole, -, hline, -⟩ := soleCtx_fields hc
  have hy : c.y = y.val := Option.some_inj.mp (hline.symm.trans hl)
  have hkept (n : Nat) := lineClosed_and (lineClosed_ran sl y n) (lineClosed_and (lineClosed_line sl (some y.val))
    (lineClosed_mem s.mem))
  refine answers_quiet rfl he ?_
  refine stitchRun_counts (hkept (s.ranOf sl y)) (hkept (s.ranOf sl y + 1)) sl.isLt (fun a ha => ?_) hc
    (by rw [hy]; exact of_decide_eq_true hmore) hdata ⟨rfl, hl, rfl⟩
  obtain ⟨hran, hline, hmem⟩ := ha
  have hcount := ran_countStitch a c
  have hstays := line_countStitch a c
  rw [hsole, hy, hran] at hcount
  rw [hsole, hline] at hstays
  exact ⟨hcount, hstays, hmem⟩

/-! ## Line slack (R55–R58) -/

/-- Nothing differs but the loop's hidden state, pending interrupts, free values drawn, and registers other than SLn_SLACK. -/
def SlackOnly (n : Nat) (s t : State) : Prop :=
  RegsOnly (fun k => k ≠ Rg.SL_SLACK n) s { t with pace := s.pace, fresh := s.fresh, icu := s.icu }

section
variable {n : Nat} {s t : State}

theorem slackOnly_refl (n : Nat) (s : State) : SlackOnly n s s := regsOnly_refl _ s

theorem SlackOnly.modPace (h : SlackOnly n s t) (f : PaceS → PaceS) : SlackOnly n s (t.modPace f) := h

theorem SlackOnly.set (h : SlackOnly n s t) {f : Fd} (x : Nat) (hf : f.key ≠ Rg.SL_SLACK n) : SlackOnly n s (t.set f x) :=
  regsOnly_trans h (regsOnly_set _ f x hf)

theorem SlackOnly.raise (h : SlackOnly n s t) (i : Nat) : SlackOnly n s (t.raise i) := SteadyClosed.ite h h

theorem SlackOnly.loopEmerg (h : SlackOnly n s t) : SlackOnly n s t.loopEmerg := by
  have hset : SlackOnly n s (t.set Fd.PWR_VSET_VSET t.vUpper) := h.set _ (by unfold Rg.SL_SLACK; show 0x3004C ≠ _; omega)
  have hput : SlackOnly n s (t.loopSend t.vUpper .emergSend) := by
    unfold State.loopSend State.loopPut State.loopStart
    have hdraw : SlackOnly n s (t.set Fd.PWR_VSET_VSET t.vUpper).draw := hset
    exact (hdraw.modPace _).set 1 (by unfold Rg.SL_SLACK; show 0x30050 ≠ _; omega)
  exact (hput.set 1 (by unfold Rg.SL_SLACK; show 0x30050 ≠ _; omega)).modPace _

theorem SlackOnly.loopGuard (h : SlackOnly n s t) : SlackOnly n s t.loopGuard := by
  have hdue := h.modPace (fun p => { p with guardDue := true })
  refine SteadyClosed.ite h ?_
  split
  · exact h.modPace _
  · exact h.loopEmerg
  · exact SteadyClosed.ite h.loopEmerg hdue
  · exact SteadyClosed.ite hdue h
  · exact hdue
  · exact hdue
  · exact hdue
  · exact h

theorem pict_of_slackOnly (h : SlackOnly n s t) : t.pict = s.pict := (congrArg State.pict h.1 :)

theorem mem_of_slackOnly (h : SlackOnly n s t) : t.mem = s.mem := (congrArg State.mem h.1 :)

theorem hub_of_slackOnly (h : SlackOnly n s t) : t.hub = s.hub := (congrArg State.hub h.1 :)

theorem reg_of_slackOnly (h : SlackOnly n s t) : t.reg (Rg.SL_SLACK n) = s.reg (Rg.SL_SLACK n) := h.2 _ fun hne => hne rfl

end

/-- LAST and MIN of a recorded slack (R57). -/
def State.slackTaken (s : State) (n : Nat) (slack : Int) : State :=
  if slack < signed 12 (s.get (Fd.SL_SLACK_MIN n)) then
    (s.set (Fd.SL_SLACK_LAST n) (unsignedOf 12 slack)).set (Fd.SL_SLACK_MIN n) (unsignedOf 12 slack)
  else s.set (Fd.SL_SLACK_LAST n) (unsignedOf 12 slack)

theorem last_slackTaken (s : State) (n : Nat) (slack : Int) :
    (s.slackTaken n slack).get (Fd.SL_SLACK_LAST n) = unsignedOf 12 slack % 2 ^ 12 := by
  have hlast := get_set_same s (Fd.SL_SLACK_LAST n) (unsignedOf 12 slack) (show 0 + 12 ≤ 28 by decide)
  unfold State.slackTaken
  split
  · exact (get_set_apart _ (Fd.SL_SLACK_MIN n) (Fd.SL_SLACK_LAST n) _ (show 12 + 12 ≤ 28 by decide)
      (.inl (show 0 + 12 ≤ 12 by decide))).trans hlast
  · exact hlast

theorem regsOnly_slackTaken (s : State) (n : Nat) (slack : Int) : RegsOnly (fun k => k = Rg.SL_SLACK n) s (s.slackTaken n slack) := by
  have hlast := regsOnly_set (p := fun k => k = Rg.SL_SLACK n) s (Fd.SL_SLACK_LAST n) (unsignedOf 12 slack) rfl
  exact regsOnly_ite (regsOnly_trans hlast (regsOnly_set _ (Fd.SL_SLACK_MIN n) _ rfl)) hlast

/-- After LAST and MIN a recorded slack counts for the loop and may be a guard event (R58, R66, R67). -/
theorem slackOnly_recordSlack {s : State} (hh : s.halted = false) (n : Nat) (slack : Int) :
    SlackOnly n (s.slackTaken n slack) (s.recordSlack n slack) := by
  have h0 := slackOnly_refl n (s.slackTaken n slack)
  have hkey : (Fd.SL_SLACKCNT_COUNT n).key ≠ Rg.SL_SLACK n := by
    show 0x140048 + n * 0x1000 ≠ 0x140044 + n * 0x1000
    omega
  unfold State.recordSlack
  rw [if_neg (by rw [hh]; exact Bool.false_ne_true)]
  have h1 (c : Prop) [Decidable c] (f : PaceS → PaceS) :
      SlackOnly n (s.slackTaken n slack) (if c then (s.slackTaken n slack).modPace f else s.slackTaken n slack) :=
    SteadyClosed.ite (h0.modPace f) h0
  exact SteadyClosed.ite ((SteadyClosed.ite ((h1 _ _).set _ hkey) (h1 _ _)).raise _).loopGuard (h1 _ _)

theorem last_recordSlack {s : State} (hh : s.halted = false) (n : Nat) (slack : Int) :
    (s.recordSlack n slack).get (Fd.SL_SLACK_LAST n) = unsignedOf 12 slack % 2 ^ 12 :=
  (get_of_reg (f := Fd.SL_SLACK_LAST n) (reg_of_slackOnly (slackOnly_recordSlack hh n slack))).trans (last_slackTaken s n slack)

theorem pict_recordSlack (s : State) (n : Nat) (slack : Int) : (s.recordSlack n slack).pict = s.pict := by
  cases hh : s.halted with
  | true =>
    unfold State.recordSlack
    rw [if_pos hh]
  | false =>
    have htaken : (s.slackTaken n slack).pict = s.pict := (congrArg State.pict (regsOnly_slackTaken s n slack).1 :)
    rw [pict_of_slackOnly (slackOnly_recordSlack hh n slack), htaken]

theorem mem_recordSlack (s : State) (n : Nat) (slack : Int) : (s.recordSlack n slack).mem = s.mem := by
  cases hh : s.halted with
  | true =>
    unfold State.recordSlack
    rw [if_pos hh]
  | false => rw [mem_of_slackOnly (slackOnly_recordSlack hh n slack), mem_of_regsOnly (regsOnly_slackTaken s n slack)]

theorem hub_recordSlack (s : State) (n : Nat) (slack : Int) : (s.recordSlack n slack).hub = s.hub := by
  cases hh : s.halted with
  | true =>
    unfold State.recordSlack
    rw [if_pos hh]
  | false => rw [hub_of_slackOnly (slackOnly_recordSlack hh n slack), hub_of_regsOnly (regsOnly_slackTaken s n slack)]

/-! ## The end of a line (R55, R56) -/

/-- A Sole leaves its line and takes the next one. -/
theorem soleNext_takes {P : State → Prop} (hP : LineClosed P) {s : State} {sl : Nat} (hn : sl < 16) {l : Option Nat} {r : List Nat}
    (hl : (s.soleS sl).next.head? = l) (hr : (s.soleS sl).next.tail = r)
    (h : ∀ v : SoleS, P (s.setSole sl v)) :
    P (s.soleNext sl) ∧ ((s.soleNext sl).soleS sl).line = l ∧ ((s.soleNext sl).soleS sl).next = r := by
  have hQ := lineClosed_and hP (lineClosed_and (lineClosed_line sl l) (lineClosed_next sl r))
  refine hQ.soleIssue hn ⟨h _, ?_, ?_⟩
  · rw [soleS_setSole_same, ← hl]
  · rw [soleS_setSole_same, ← hr]

theorem lineKey_slack (n : Fin 16) : lineKey (Rg.SL_SLACK n) := by
  have := n.isLt
  unfold lineKey Rg.SL_SLACK
  omega

/-- The line's end as a Sole's slack is recorded, or none where there is none to record. -/
theorem soleNext_ends {s : State} (sl : Fin 16) (c : Prop) [Decidable c] (slack : Int) (hh : s.halted = false) :
    (((if c then s.recordSlack sl slack else s).soleNext sl).soleS sl).line = (s.soleS sl).next.head? ∧
    (((if c then s.recordSlack sl slack else s).soleNext sl).soleS sl).next = (s.soleS sl).next.tail ∧
    (c → ((if c then s.recordSlack sl slack else s).soleNext sl).get (Fd.SL_SLACK_LAST sl) = unsignedOf 12 slack % 2 ^ 12) ∧
    ((if c then s.recordSlack sl slack else s).soleNext sl).mem = s.mem := by
  generalize hb : (if c then s.recordSlack sl slack else s) = b
  have hpict : b.pict = s.pict := by
    rw [← hb]
    split
    · exact pict_recordSlack s sl slack
    · rfl
  have hmem : b.mem = s.mem := by
    rw [← hb]
    split
    · exact mem_recordSlack s sl slack
    · rfl
  have hsole : b.soleS sl = s.soleS sl := soleS_of_soles (congrArg PictS.soles hpict) sl
  obtain ⟨⟨hreg, hm⟩, hline, hnext⟩ := soleNext_takes
    (lineClosed_and (lineClosed_reg (lineKey_slack sl) (b.reg (Rg.SL_SLACK sl))) (lineClosed_mem s.mem)) sl.isLt
    (congrArg (fun v : SoleS => v.next.head?) hsole) (congrArg (fun v : SoleS => v.next.tail) hsole) fun _ => ⟨rfl, hmem⟩
  refine ⟨hline, hnext, fun hc => ?_, hm⟩
  rw [get_of_reg (f := Fd.SL_SLACK_LAST sl) hreg, ← hb, if_pos hc, last_recordSlack hh]

theorem lineDone_answers {s : State} {sl : Fin 16} {y : Fin 16384} {d : Int} (he : s.inEpisode = false)
    (hl : (s.soleS sl).line = some y.val) (hh : s.halted = false) (hdone : s.soleTotal sl y ≤ s.ranOf sl y) :
    Answers (.lineDone sl d) s (fun t =>
      (t.soleS sl).line = (s.soleS sl).next.head? ∧ (t.soleS sl).next = (s.soleS sl).next.tail ∧
      (s.soleTotal sl y ≠ 0 → t.get (Fd.SL_SLACK_LAST sl) = unsignedOf 12 (s.slackOf (s.soleS sl).head d) % 2 ^ 12) ∧
      t.mem = s.mem) := by
  have hrun : ¬ (decide (s.ranOf sl y < s.soleTotal sl y) || s.halted) = true := by
    rw [hh, Bool.or_false, decide_eq_true_eq]
    omega
  have hends : s.lineDone sl d =
      (if s.soleTotal sl y ≠ 0 then s.recordSlack sl (s.slackOf (s.soleS sl).head d) else s).soleNext sl := by
    unfold State.lineDone
    simp only [hl, if_neg hrun, ite_not]
  refine answers_quiet rfl he ?_
  rw [hends]
  exact soleNext_ends sl _ _ hh

theorem soleLineAbandon_answers {s : State} {sl : Fin 16} {y : Fin 16384} (he : s.inEpisode = false)
    (hl : (s.soleS sl).line = some y.val) (hh : s.halted = false) (hp : s.pastDue sl = true) :
    Answers (.soleLineAbandon sl) s (fun t =>
      (t.soleS sl).line = (s.soleS sl).next.head? ∧ (t.soleS sl).next = (s.soleS sl).next.tail ∧
      (s.ranOf sl y < s.soleTotal sl y → t.get (Fd.SL_SLACK_LAST sl) = 0x800) ∧ t.mem = s.mem) := by
  have hdue : ¬ ((s.soleS sl).line.isNone || s.halted || !s.pastDue sl) = true := by simp [hl, hh, hp]
  have hends : s.abandonDue sl =
      (if s.ranOf sl y < s.soleTotal sl y then s.recordSlack sl (-2048) else s).soleNext sl := by
    unfold State.abandonDue State.soleAbandon
    rw [if_neg hdue, hl]
  refine answers_quiet rfl he ?_
  rw [hends]
  exact soleNext_ends sl _ (-2048) hh

end Sys2Proof.Machine
end

section
/-! Reads of a Sole (R35, R39, R136, R270, R292): what they leave alone of the lines. -/
namespace Sys2Proof.Machine

/-- A property of the lines that the error counters of the GDDR7 channels leave alone too. -/
structure BusClosed (P : State → Prop) : Prop extends LineClosed P where
  retry : ∀ {s : State} (c x : Nat), P s → P (s.set (Fd.MEM_CH_ERR_RETRY c) x)
  fail : ∀ {s : State} (c x : Nat), P s → P (s.set (Fd.MEM_CH_ERR_FAIL c) x)

theorem busClosed_and {P Q : State → Prop} (hP : BusClosed P) (hQ : BusClosed Q) : BusClosed (fun t => P t ∧ Q t) where
  toLineClosed := lineClosed_and hP.toLineClosed hQ.toLineClosed
  retry c x h := ⟨hP.retry c x h.1, hQ.retry c x h.2⟩
  fail c x h := ⟨hP.fail c x h.1, hQ.fail c x h.2⟩

/-- Whether an access completes or fails, `P` holds of the state it leaves. -/
def BusOut.Keeps (P : State → Prop) : BusOut → Prop
  | .ok _ b => P b.s
  | .err b => P b.s
  | .ref _ b => P b.s
  | .wait _ => True

theorem not_lineKey_of_watchKey {k : Nat} (hk : watchKey k) : ¬ lineKey k := by
  unfold watchKey Rg.DBG_RUN Rg.DBG_HITLO Rg.DBG_HITHI Rg.WPCTL Rg.AWL_STAT at hk
  unfold lineKey
  obtain h | h | h | ⟨i, hi, h⟩ | ⟨n, hn, h⟩ := hk <;> omega

namespace LineClosed

variable {P : State → Prop} (hP : LineClosed P) {s : State}
include hP

theorem wpBus (m a n : Nat) (wr : Bool) (h : P s) : P (s.wpBus m a n wr) := by
  have hw := regsOnly_wpBus s m a n wr
  refine hP.same h ⟨fun k hk => hw.2 k fun hwk => not_lineKey_of_watchKey hwk hk, mem_of_regsOnly hw, ?_, ?_, fun r hr => ?_⟩
  · exact (congrArg (fun x : State => x.pict.heads) hw.1 :)
  · exact (congrArg (fun x : State => x.pict.soles) hw.1 :)
  · rw [hub_of_regsOnly hw]
    exact hr

theorem dropBus (q : Nat) (h : P s) : P (s.dropBus q) := hP.modWelt _ h

theorem captureDecerr (m a : Nat) (wr : Bool) (h : P s) : P (s.captureDecerr m a wr) := by
  have hset {t : State} {f : Fd} (x : Nat) (hf : f.key = 0x10 ∨ f.key = 0x14) (ht : P t) : P (t.set f x) :=
    hP.put (k := f.key) x ht rfl (by omega)
  refine SteadyClosed.ite (hset 1 (.inr rfl) h) (hset 1 (.inr rfl) (hset m (.inr rfl) (hset _ (.inr rfl) (hset a (.inl rfl) ?_))))
  exact hset _ (.inr rfl) h

theorem unmapped (m a : Nat) (wr : Bool) (h : P s) : P (s.unmapped m a wr) := hP.report _ _ _ _ (hP.captureDecerr m a wr h)

theorem eccError (a m : Nat) (ue : Bool) (h : P s) : P (s.eccError a m ue) := by
  have hset {t : State} {f : Fd} (x : Nat) (hf : 0x12000C ≤ f.key ∧ f.key ≤ 0x120014) (ht : P t) : P (t.set f x) :=
    hP.put (k := f.key) x ht rfl (by omega)
  have h1 : P (if ue then s.bump Fd.MEM_ECCSTAT_UECNT 2047 else s.bump Fd.MEM_ECCSTAT_CECNT 2047) := by
    refine SteadyClosed.ite ?_ ?_
    · exact SteadyClosed.ite (hset (f := Fd.MEM_ECCSTAT_UECNT) _ (by decide) h) h
    · exact SteadyClosed.ite (hset (f := Fd.MEM_ECCSTAT_CECNT) _ (by decide) h) h
  unfold State.eccError
  extract_lets s1 capture s2
  have h2 : P s2 := by
    refine SteadyClosed.ite ?_ (hset 1 (by decide) h1)
    exact hset 1 (by decide) (hset _ (by decide) (hset _ (by decide) (hset _ (by decide) (hset _ (by decide) h1))))
  exact SteadyClosed.ite (hP.report _ _ _ _ h2) (hP.report _ _ _ _ h2)

theorem poolHeld {k : Nat} (hk : k < 8) (x : Nat) (h : P s) : P (s.set (Fd.FETCH_POOL_STAT_HELD k) x) :=
  hP.put (k := 0x110020 + k * 4) x h rfl (by omega)

theorem poolTake {k : Nat} (hk : k < 8) (h : P s) : P (s.poolTake k) :=
  hP.raiseTo (k := 0x110020 + k * 4) _ (hP.poolHeld hk _ h) rfl (by omega)

theorem poolServed (k : Nat) (h : P s) : P (s.poolServed k) := SteadyClosed.ite (hP.rest h rfl rfl rfl rfl rfl) h

theorem tackUse (m : Nat) (h : P s) : P (s.tackUse m) := by
  have hclass {k : Nat} (hk : poolClass m = some k) : k < 8 := by
    unfold poolClass at hk
    grind
  unfold State.tackUse
  split
  · next k hk =>
    have hlt := hclass hk
    exact SteadyClosed.ite (hP.poolHeld hlt _ (hP.poolTake hlt (hP.poolServed k h)))
      (hP.poolHeld hlt _ (hP.rest h rfl rfl rfl rfl rfl))
  · exact h

theorem seen {r : BusOut} (m a n : Nat) (wr : Bool) (h : r.Keeps P) : (r.seen m a n wr).Keeps P := by
  cases r with
  | ok d b => exact hP.wpBus m a n wr h
  | err b => exact hP.wpBus m a n wr h
  | ref st b => exact hP.wpBus m a n wr h
  | wait i => exact h

end LineClosed

namespace BusClosed

variable {P : State → Prop} (hP : BusClosed P) {s : State} {b : Bus}
include hP

theorem burst (a m : Nat) (e : BurstEnd) (h : P s) : P (s.burst a m e).1 := by
  have hretry : P (s.bump (Fd.MEM_CH_ERR_RETRY (s.chanOf a)) 0x3FFF) := SteadyClosed.ite (hP.retry _ _ h) h
  unfold State.burst
  cases e with
  | clean => exact h
  | retried => exact hretry
  | failed => exact hP.eccError a m true (SteadyClosed.ite (hP.fail _ _ hretry) hretry)
  | corrected => exact SteadyClosed.ite (hP.eccError a m false h) h
  | uncorrectable =>
    dsimp only
    split
    · exact hP.eccError a m true h
    · exact h

theorem apRead {m : Nat} {turn : Bool} {l : List Nat} {es : List BurstEnd} {t : State} {r : Option (List Nat)}
    (hr : s.apRead m turn l es = some (t, r)) (h : P s) : P t := by
  induction l generalizing s turn es r with
  | nil =>
    unfold State.apRead at hr
    cases hr
    exact h
  | cons o l ih =>
    unfold State.apRead at hr
    split at hr
    · cases hr
      exact h
    · cases hr
    · split at hr
      · cases hr
      · have hb := hP.burst (s.apAddr o / 64 * 64) m (es.headD .clean) (hP.tackUse 0x18 h)
        dsimp only at hr
        split at hr
        · cases hr
          exact hb
        · obtain ⟨x, hx, hxr⟩ := Option.map_eq_some_iff.mp hr
          cases hxr
          exact ih hx hb

theorem serveRead {m op off count w2 tofs : Nat} {es : List BurstEnd} {t : State} {st : Nat} {d : List Nat}
    (hr : s.serveRead m op off count w2 tofs es = some (t, st, d)) (h : P s) : P t := by
  unfold State.serveRead at hr
  dsimp only at hr
  split at hr
  · cases hr
  · next hx =>
    cases hr
    exact hP.apRead hx h
  · next s1 d1 hx =>
    have h1 := hP.apRead hx h
    split at hr
    · cases hr
      exact h1
    · obtain ⟨x, hx2, hxr⟩ := Option.map_eq_some_iff.mp hr
      have h2 := hP.apRead (r := x.2) hx2 h1
      split at hxr
      · cases hxr
        exact h2
      · cases hxr
        exact h2

theorem remoteRead (w : Who) (dev off : Nat) (h : P b.s) : (b.remote w dev 0 off 0 []).Keeps P := by
  unfold Bus.remote
  dsimp only
  split
  · split
    · exact h
    · trivial
  · split
    · rw [if_neg (by decide)]
      split
      · trivial
      · next hx =>
        have ht := hP.serveRead hx h
        split
        · exact ht
        · exact hP.report _ _ _ _ ht
    · split
      · trivial
      · split
        · trivial
        · split
          · trivial
          · exact h
          · exact h

/-- A read by a master that reaches no register. -/
theorem readAt {w : Who} (hw : w.regs = false) (a n : Nat) (h : P b.s) : (b.readAt w a n).Keeps P := by
  have hno : (Bus.unmapped b w.m a false).Keeps P := hP.unmapped w.m a false h
  unfold Bus.readAt
  dsimp only
  split
  · rw [hw]
    exact hno
  · next dev off _ =>
    have hr := hP.remoteRead w dev (off / 64 * 64) h
    split
    · next d b1 hx =>
      rw [hx] at hr
      exact hr
    · exact hr
  · split
    · exact hno
    · trivial
    · split
      · trivial
      · split
        · trivial
        · have hb := hP.burst (a / 64 * 64) w.m (b.ends.headD .clean) (hP.tackUse w.m h)
          split
          · exact hb
          · exact hb
  · split
    · trivial
    · exact h
  · exact hno
  · exact h

theorem read {w : Who} (hw : w.regs = false) (a n : Nat) (h : P b.s) : (b.read w a n).Keeps P :=
  hP.seen _ _ _ _ (hP.readAt hw a n h)

theorem layerRead (n a : Nat) (h : P b.s) : (b.layerRead (soleWho n) a).Keeps P := by
  have hno := hP.seen (r := Bus.unmapped b (soleWho n).m a false) (soleWho n).m a 64 false (hP.unmapped _ a false h)
  unfold Bus.layerRead
  split
  · exact hP.read rfl a 64 h
  · split
    · next b1 hx =>
      rw [hx] at hno
      exact hno
    · exact hno

theorem layerRead_ok {n a : Nat} {d : List Nat} {b1 : Bus} (hr : b.layerRead (soleWho n) a = .ok d b1) (h : P b.s) : P b1.s := by
  have hk := hP.layerRead n a h
  rw [hr] at hk
  exact hk

end BusClosed

end Sys2Proof.Machine
end

section
/-! The sprite snapshot's reads and a granule's answer as events (R155, R156, R267, R297). -/
namespace Sys2Proof.Machine

/-! ## Properties that reads keep -/

theorem busClosed_head {α : Type} (h : Nat) (g : HeadS → α) (hg : ∀ v w : HeadS, v.core = w.core → g v = g w) (a : α) :
    BusClosed (fun t => g (t.headS h) = a) where
  toLineClosed := lineClosed_head h g hg a
  retry _ _ ht := ht
  fail _ _ ht := ht

theorem busClosed_sole {α : Type} (n : Nat) (g : SoleS → α) (hg : ∀ v w : SoleS, v.core = w.core → g v = g w) (a : α) :
    BusClosed (fun t => g (t.soleS n) = a) where
  toLineClosed := lineClosed_sole n g hg a
  retry _ _ ht := ht
  fail _ _ ht := ht

theorem lineKey_lat (n : Fin 16) : lineKey (Rg.FETCH_SL_LAT n) := by
  have := n.isLt
  unfold lineKey Rg.FETCH_SL_LAT
  omega

theorem busClosed_lat (n : Fin 16) (v : RegVal) : BusClosed (fun t => t.reg (Rg.FETCH_SL_LAT n) = v) := by
  have hne (c : Nat) : Rg.FETCH_SL_LAT n ≠ Rg.MEM_CH_ERR c := by
    have := n.isLt
    unfold Rg.FETCH_SL_LAT Rg.MEM_CH_ERR
    omega
  exact
    { toLineClosed := lineClosed_reg (lineKey_lat n) v
      retry := fun c x ht => (reg_set_key _ (Fd.MEM_CH_ERR_RETRY c) x _ (hne c)).trans ht
      fail := fun c x ht => (reg_set_key _ (Fd.MEM_CH_ERR_FAIL c) x _ (hne c)).trans ht }

/-! ## The sprite snapshot (R155) -/

theorem snap_of_core (v w : HeadS) (h : v.core = w.core) : v.snap = w.snap := congrArg (fun c => c.2.2.2.2.2.2) h

theorem busClosed_snap (h : Nat) (v : SnapS) : BusClosed (fun t => (t.headS h).snap = v) := busClosed_head h HeadS.snap snap_of_core v

/-- A snapshot that has taken `n` more granules in the period of line `y`. -/
def SnapS.Took (y n : Nat) (v w : SnapS) : Prop :=
  w.todo = v.todo.drop n ∧ w.range = v.range ∧ w.line = if n = 0 then v.line else some y

theorem SnapS.Took.step {y n : Nat} {u v w : SnapS} (h1 : SnapS.Took y 1 u v) (h2 : SnapS.Took y n v w) : SnapS.Took y (n + 1) u w := by
  obtain ⟨htodo, hrange, hline⟩ := h1
  obtain ⟨htodo', hrange', hline'⟩ := h2
  refine ⟨?_, hrange'.trans hrange, ?_⟩
  · rw [htodo', htodo, List.drop_drop, Nat.add_comm]
  · rw [hline', hline]
    split <;> rfl

theorem took_snapIn (s : State) (h y g : Nat) (d : List Nat) : SnapS.Took y 1 (s.headS h).snap ((s.snapIn h y g d).headS h).snap := by
  unfold State.snapIn
  rw [headS_modHead_same]
  exact ⟨rfl, rfl, rfl⟩

theorem took_snapMiss (s : State) (h y : Nat) : SnapS.Took y 1 (s.headS h).snap ((s.snapMiss h y).headS h).snap := by
  unfold State.snapMiss
  rw [headS_modHead_same]
  exact ⟨rfl, rfl, rfl⟩

theorem LineClosed.snapTack {P : State → Prop} (hP : LineClosed P) {s : State} {sl : Nat} (hn : sl < 16) (h : P s) :
    P (s.snapTack sl) :=
  hP.raiseTo (k := 0x110040 + sl * 4) _ h rfl (by omega)

/-- Each granule that is due is read or counts as not read (R155, R156). -/
theorem took_snapRead {sl h y : Nat} (hn : sl < 16) {l : List Nat} {b : Bus} {u : State}
    (hr : b.snapRead (soleWho sl) h y l = .done u) : SnapS.Took y l.length (b.s.headS h).snap (u.headS h).snap := by
  induction l generalizing b with
  | nil =>
    unfold Bus.snapRead at hr
    cases hr
    exact ⟨rfl, rfl, rfl⟩
  | cons g l ih =>
    have hkeep := (busClosed_snap h (b.s.headS h).snap).layerRead sl g rfl
    have hnext {b1 : Bus} {a : State} (hb : (b1.s.headS h).snap = (b.s.headS h).snap)
        (ha : SnapS.Took y 1 (b1.s.headS h).snap (a.headS h).snap)
        (hx : ({ b1 with s := a.snapTack sl } : Bus).snapRead (soleWho sl) h y l = .done u) :
        SnapS.Took y (l.length + 1) (b.s.headS h).snap (u.headS h).snap := by
      have hrest := ih hx
      rw [(busClosed_snap h (a.headS h).snap).snapTack hn rfl] at hrest
      exact hb ▸ ha.step hrest
    unfold Bus.snapRead at hr
    generalize b.layerRead (soleWho sl) g = out at hr hkeep
    cases out with
    | wait i => cases hr
    | ok d b1 => exact hnext hkeep (took_snapIn b1.s h y g d) hr
    | err b1 => exact hnext hkeep (took_snapMiss b1.s h y) hr
    | ref st b1 => exact hnext hkeep (took_snapMiss b1.s h y) hr

theorem lowSole_lt (s : State) {h : Nat} (hh : h < 16) : s.lowSole h < 16 := by
  unfold State.lowSole
  cases hs : s.runSoles h with
  | nil => exact hh
  | cons sl l => exact sole_lt_of_runSoles (hs ▸ List.mem_cons_self)

theorem spriteSnapshotRead_answers {s u : State} {h : Fin 16} {y : Fin 16384} {e : Env} (he : s.inEpisode = false)
    (hfree : s.fenced (uSole (s.lowSole h)) = false ∧ s.hub.stopping = false) (htacks : s.tacksBound (s.lowSole h) < 448)
    (hdue : s.snapDue h y ≠ []) (hr : (busOf s e).snapRead (soleWho (s.lowSole h)) h y (s.snapDue h y) = .done u) :
    Answers (.spriteSnapshotRead h y e) s (fun t =>
      (t.headS h).snap.line = some y.val ∧ (t.headS h).snap.todo = (s.headS h).snap.todo.drop (s.snapDue h y).length ∧
      (t.headS h).snap.range = (s.headS h).snap.range) := by
  have hgo : ¬ (s.fenced (uSole (s.lowSole h)) || s.hub.stopping || decide (448 ≤ s.tacksBound (s.lowSole h))) = true := by
    rw [hfree.1, hfree.2, decide_eq_false (Nat.not_le.mpr htacks)]
    decide
  have hread : s.snapshotRead h y e = u.dropBus (s.lowSole h) := by
    unfold State.snapshotRead State.busRow Bus.finish
    rw [if_neg hgo]
    dsimp only
    rw [hr]
  obtain ⟨htodo, hrange, hline⟩ := took_snapRead (lowSole_lt s h.isLt) hr
  refine answers_quiet rfl he ?_
  rw [hread]
  refine ⟨?_, htodo, hrange⟩
  exact hline.trans (if_neg fun h0 => hdue (List.length_eq_zero_iff.mp h0))

/-! ## A granule's answer (R267, R297) -/

theorem busClosed_got (sl : Nat) (l : List Gran) : BusClosed (fun t => (t.soleS sl).got = l) := busClosed_sole sl SoleS.got got_of_core l

theorem busClosed_ran (sl y n : Nat) : BusClosed (fun t => t.ranOf sl y = n) :=
  busClosed_sole sl (fun v => tabGet 0 v.ran y) (fun v w h => congrArg (tabGet 0 · y) (ran_of_core v w h)) n

theorem max_latMax (s : State) (sl : Nat) {x : Nat} (hx : x < 2 ^ 8) :
    (s.raiseTo (Fd.FETCH_SL_LAT_MAX sl) x).get (Fd.FETCH_SL_LAT_MAX sl) = max (s.get (Fd.FETCH_SL_LAT_MAX sl)) x := by
  unfold State.raiseTo
  split
  · next hlt =>
    rw [get_set_same s (Fd.FETCH_SL_LAT_MAX sl) x (show 19 + 8 ≤ 28 by decide), Nat.max_eq_right (Nat.le_of_lt hlt)]
    exact Nat.mod_eq_of_lt hx
  · next hge => rw [Nat.max_eq_left (Nat.le_of_not_lt hge)]

/-- OVER lies below MAX in its register. -/
theorem latMax_bump (s : State) (sl top : Nat) :
    (s.bump (Fd.FETCH_SL_LAT_OVER sl) top).get (Fd.FETCH_SL_LAT_MAX sl) = s.get (Fd.FETCH_SL_LAT_MAX sl) := by
  unfold State.bump
  split
  · exact get_set_apart s (Fd.FETCH_SL_LAT_OVER sl) (Fd.FETCH_SL_LAT_MAX sl) _ (show 0 + 19 ≤ 28 by decide)
      (.inr (show 0 + 19 ≤ 19 by decide))
  · rfl

/-- The granule in the buffer and its latency, before the Sole issues what it may. -/
def State.granuleTaken (s : State) (c : LineCtx) (num lat : Nat) (d : Option (List Nat)) : State :=
  let s1 := (s.modSole c.sole (fun v => { v with got := v.got ++ [⟨c.y, num, d⟩] })).raiseTo (Fd.FETCH_SL_LAT_MAX c.sole) (min 255 lat)
  if 48 < lat then s1.bump (Fd.FETCH_SL_LAT_OVER c.sole) 0x7FFFF else s1

theorem granuleIn_eq (s : State) (c : LineCtx) (num lat : Nat) (d : Option (List Nat)) :
    s.granuleIn c num lat d = (s.granuleTaken c num lat d).soleIssue c.sole := rfl

theorem soleS_raiseTo (s : State) (f : Fd) (x n : Nat) : (s.raiseTo f x).soleS n = s.soleS n :=
  SteadyClosed.ite (P := fun t => t.soleS n = s.soleS n) rfl rfl

theorem soleS_bump (s : State) (f : Fd) (top n : Nat) : (s.bump f top).soleS n = s.soleS n :=
  SteadyClosed.ite (P := fun t => t.soleS n = s.soleS n) rfl rfl

theorem soles_granuleTaken (s : State) (c : LineCtx) (num lat : Nat) (d : Option (List Nat)) :
    (s.granuleTaken c num lat d).soleS c.sole = { s.soleS c.sole with got := (s.soleS c.sole).got ++ [⟨c.y, num, d⟩] } := by
  unfold State.granuleTaken
  dsimp only
  split
  · rw [soleS_bump, soleS_raiseTo, soleS_modSole_same]
  · rw [soleS_raiseTo, soleS_modSole_same]

theorem latMax_granuleTaken (s : State) (c : LineCtx) (num lat : Nat) (d : Option (List Nat)) :
    (s.granuleTaken c num lat d).get (Fd.FETCH_SL_LAT_MAX c.sole) = max (s.get (Fd.FETCH_SL_LAT_MAX c.sole)) (min 255 lat) := by
  have hmax := max_latMax (s.modSole c.sole (fun v => { v with got := v.got ++ [⟨c.y, num, d⟩] })) c.sole
    (show min 255 lat < 2 ^ 8 by omega)
  unfold State.granuleTaken
  dsimp only
  split
  · rw [latMax_bump]
    exact hmax
  · exact hmax

/-- The granule that is due belongs to the Sole's line. -/
theorem line_of_granuleDue {s : State} {sl num y a : Nat} (hy : (s.soleS sl).line = some y)
    (hdue : (s.granuleDue sl num).map (fun x => x.2) = some a) :
    ∃ c : LineCtx, s.granuleDue sl num = some (c, a) ∧ c.sole = sl ∧ c.y = y := by
  obtain ⟨⟨c, a'⟩, hx, ha⟩ := Option.map_eq_some_iff.mp hdue
  cases ha
  refine ⟨c, hx, ?_⟩
  unfold State.granuleDue at hx
  split at hx
  · cases hx
  · next c' hc =>
    obtain ⟨hsole, -, hline, -⟩ := soleCtx_fields hc
    rw [hy] at hline
    dsimp only at hx
    split at hx
    · cases hx
    · obtain ⟨_, -, hpair⟩ := Option.map_eq_some_iff.mp hx
      cases hpair
      exact ⟨hsole, (Option.some.inj hline).symm⟩

theorem granuleAnswer_answers {s : State} {sl : Fin 16} {y : Fin 16384} {e : Env} {num : Fin 16384} {lat : Fin 65536} {a : Nat}
    {d : List Nat} {b : Bus} (he : s.inEpisode = false) (hstop : s.hub.stopping = false) (hy : (s.soleS sl).line = some y.val)
    (hdue : (s.granuleDue sl num).map (fun x => x.2) = some a) (hr : (busOf s e).layerRead (soleWho sl) a = .ok d b) :
    Answers (.granuleAnswer sl num lat e) s (fun t =>
      (t.soleS sl).got = (s.soleS sl).got ++ [⟨y, num, some d⟩] ∧
      t.get (Fd.FETCH_SL_LAT_MAX sl) = max (s.get (Fd.FETCH_SL_LAT_MAX sl)) (min 255 lat) ∧ t.ranOf sl y = s.ranOf sl y) := by
  obtain ⟨c, hc, hsole, hline⟩ := line_of_granuleDue hy hdue
  have hans : s.granuleAnswer sl num lat e = (b.s.granuleIn c num lat (some d)).dropBus sl := by
    unfold State.granuleAnswer
    simp only [hc]
    rw [if_neg (by rw [hstop]; decide)]
    unfold State.busRow Bus.finish
    dsimp only
    rw [hr]
  have hreadGot := (busClosed_got sl (s.soleS sl).got).layerRead_ok hr rfl
  have hreadRan := (busClosed_ran sl y (s.ranOf sl y)).layerRead_ok hr rfl
  have hreadLat := (busClosed_lat sl (s.reg (Rg.FETCH_SL_LAT sl))).layerRead_ok hr rfl
  have hsoles := soles_granuleTaken b.s c num lat (some d)
  have hmax := latMax_granuleTaken b.s c num lat (some d)
  rw [hsole] at hsoles hmax
  refine answers_quiet rfl he ?_
  rw [hans, granuleIn_eq, hsole]
  have hkeep {P : State → Prop} (hP : LineClosed P) (h : P (b.s.granuleTaken c num lat (some d))) :
      P (((b.s.granuleTaken c num lat (some d)).soleIssue sl).dropBus sl) := hP.dropBus sl (hP.soleIssue sl.isLt h)
  refine ⟨hkeep (busClosed_got sl _).toLineClosed ?_, ?_, hkeep (busClosed_ran sl y _).toLineClosed ?_⟩
  · rw [hsoles, hline, ← hreadGot]
  · have hreg := hkeep (busClosed_lat sl _).toLineClosed rfl
    rw [get_of_reg (f := Fd.FETCH_SL_LAT_MAX sl) hreg, hmax, get_of_reg (f := Fd.FETCH_SL_LAT_MAX sl) hreadLat]
  · rw [← hreadRan]
    unfold State.ranOf
    rw [hsoles]

end Sys2Proof.Machine
end

section
/-! A line's list (R164–R176): what its granules' entries leave alone, and its arrival as an event. -/
namespace Sys2Proof.Machine

/-- A property of the lines that beam-domain entries and memory leave alone too. -/
structure ListClosed (P : State → Prop) : Prop extends BusClosed P where
  beam : ∀ {s : State} (h : Nat) (f : List BeamEnt → List BeamEnt), P s → P (s.modHead h (fun v => { v with beam := f v.beam }))
  mem : ∀ {s : State} (m : List (Nat × BitVec 8)), P s → P { s with mem := m }

theorem listClosed_and {P Q : State → Prop} (hP : ListClosed P) (hQ : ListClosed Q) : ListClosed (fun t => P t ∧ Q t) where
  toBusClosed := busClosed_and hP.toBusClosed hQ.toBusClosed
  beam h f ht := ⟨hP.beam h f ht.1, hQ.beam h f ht.2⟩
  mem m ht := ⟨hP.mem m ht.1, hQ.mem m ht.2⟩

/-- A part of a head that its core without the beam-domain entries fixes. -/
theorem listClosed_head {α : Type} (h : Nat) (g : HeadS → α) (hg : ∀ v w : HeadS, v.core = w.core → g v = g w)
    (hbeam : ∀ (v : HeadS) (l : List BeamEnt), g { v with beam := l } = g v) (a : α) : ListClosed (fun t => g (t.headS h) = a) where
  toBusClosed := busClosed_head h g hg a
  beam {t} k f ht := by
    by_cases hk : h = k
    · subst hk
      rw [headS_modHead_same, hbeam, ht]
    · unfold State.modHead
      rw [headS_setHead_other _ _ hk, ht]
  mem _ ht := ht

theorem listWait_of_core (v w : HeadS) (h : v.core = w.core) : v.listWait = w.listWait := congrArg (fun c => c.2.2.2.2.1) h

theorem headLine_of_core (v w : HeadS) (h : v.core = w.core) : v.line = w.line := congrArg (fun c => c.2.2.1) h

theorem listClosed_listWait (h : Nat) (l : List Nat) : ListClosed (fun t => (t.headS h).listWait = l) :=
  listClosed_head h HeadS.listWait listWait_of_core (fun _ _ => rfl) l

theorem listClosed_headLine (h n : Nat) : ListClosed (fun t => (t.headS h).line = n) :=
  listClosed_head h HeadS.line headLine_of_core (fun _ _ => rfl) n

namespace ListClosed

variable {P : State → Prop} (hP : ListClosed P) {s : State}
include hP

theorem putLE (a n v : Nat) (hs : P s) : P (s.putLE a n v) := by
  induction n generalizing s a v with
  | zero => exact hs
  | succ n ih => exact ih (a + 1) (v / 256) (hP.mem _ hs)

theorem setWords (a : Nat) (l : List Nat) (hs : P s) : P (s.setWords a l) := by
  induction l generalizing s a with
  | nil => exact hs
  | cons v l ih => exact ih (a + 4) (hP.putLE a 4 v hs)

theorem linePalette (h y p tgt v : Nat) (hs : P s) : P (s.linePalette h y p tgt v) :=
  hP.setWords _ _ (hP.beside h _ hs (fun _ => rfl) (fun _ => rfl) (fun _ => rfl))

theorem toHead (h y p : Nat) (late : Bool) (e : LlEnt) (hs : P s) : P (s.toHead h y p late e) :=
  SteadyClosed.ite (hP.llCount h y 12 rfl hs) (hP.beam h (fun l => l ++ [⟨y, p, e.op, e.tgt, e.val⟩]) hs)

theorem llExec (h y p : Nat) (late : Bool) (e : LlEnt) (hs : P s) : P (s.llExec h y p late e) := by
  unfold State.llExec
  split
  · exact SteadyClosed.ite hs (SteadyClosed.ite (hP.toHead h y p late e hs) (hP.lineWrite h y p _ _ hs))
  · exact hP.beside h _ hs (fun _ => rfl) (fun _ => rfl) (fun _ => rfl)
  · exact hP.linePalette h y p _ _ hs
  · exact hP.toHead h y p late e hs

theorem llEntries (h y : Nat) (late : Bool) (p : Nat) (l : List LlEnt) (hs : P s) : P (s.llEntries h y late p l) := by
  induction l generalizing s p with
  | nil => exact hs
  | cons e l ih =>
    unfold State.llEntries
    exact SteadyClosed.ite (ih _ (hP.llFault h y (hP.llCount h y 11 rfl hs))) (ih _ (hP.llExec h y _ late e hs))

end ListClosed

/-! ## The list's arrival (R169) -/

/-- A list that has arrived leaves the lists its head waits for, and its line starts. -/
theorem ListClosed.listIn {P Q : State → Prop} (hP : ListClosed P) (hQ : LineClosed Q) {s : State} {h : Nat} (hh : h < 16)
    (y writes : Nat) (late short : Bool) (ents : List LlEnt) (err : Bool)
    (hgo : ∀ a, P a → Q (a.modHead h (fun v => { v with listWait := v.listWait.filter (fun z => z != y) }))) (hs : P s) :
    Q (s.listIn h y writes late short ents err) := by
  have hready (a : State) (ha : P a) : Q (a.lineReady h y) := hQ.lineReady y (hgo a ha)
  have hnote : P (s.listNote h y (ents.length / 8 + b2n err)) := hP.modSole _ _ hs fun _ => rfl
  have hran (es : List LlEnt) := hP.llEntries h y late 0 es hnote
  refine SteadyClosed.ite (hready _ (hP.llCount h y 12 rfl hnote)) (hready _ ?_)
  have hcut := hran (llCut (ents.take writes)).1
  exact SteadyClosed.ite hcut (SteadyClosed.ite (hP.clip hh y 2 hcut) (SteadyClosed.ite (hP.clip hh y 1 hcut) hcut))

theorem ListClosed.listRead {P Q : State → Prop} (hP : ListClosed P) (hQ : LineClosed Q) {h sl y writes : Nat} (hh : h < 16)
    (late short : Bool) (hgo : ∀ a, P a → Q (a.modHead h (fun v => { v with listWait := v.listWait.filter (fun z => z != y) })))
    {n a : Nat} {ents : List LlEnt} {b : Bus} {u : State} (hr : b.listRead (soleWho sl) h y writes late short ents a n = .done u)
    (hs : P b.s) : Q u := by
  have hin {t : State} (es : List LlEnt) (err : Bool) (ht : P t) : Q (t.listIn h y writes late short es err) :=
    hP.listIn hQ hh y writes late short es err hgo ht
  induction n generalizing b ents a with
  | zero =>
    unfold Bus.listRead at hr
    cases hr
    exact hin ents false hs
  | succ n ih =>
    have hkeep := hP.read (w := soleWho sl) rfl a 64 hs
    unfold Bus.listRead at hr
    generalize b.read (soleWho sl) a 64 = out at hr hkeep
    cases out with
    | wait i => cases hr
    | ok d b1 =>
      dsimp only at hr
      split at hr
      · cases hr
        exact hin _ false hkeep
      · exact ih hr hkeep
    | err b1 =>
      cases hr
      exact hin _ true hkeep
    | ref st b1 =>
      cases hr
      exact hin _ true hkeep

theorem lineListExecute_answers {s u : State} {h : Fin 16} {y : Fin 16384} {e : Env} {writes tk lb : Nat} {first : Bool}
    {rest : List Nat} (he : s.inEpisode = false) (hh : s.halted = false) (hw : (s.headS h).listWait = y.val :: rest)
    (hlist : s.listOf h y = some (writes, first))
    (hc : (s.lineCtx h (s.lowSole h) y).map (fun x => (x.ltacks, x.lbytes)) = some (tk, lb)) (htk : tk ≠ 0)
    (hr : (busOf s e).listRead (soleWho (s.lowSole h)) h y writes (decide (y.val < s.lineNow h e.beam))
      (decide (lb < ceilDiv (min writes 64) 8)) [] (s.slotAddr h y) (min (ceilDiv (min writes 64) 8) lb) = .done u) :
    Answers (.lineListExecute h e) s (fun t =>
      (t.headS h).listWait = rest.filter (fun z => z != y.val) ∧ (t.headS h).line = (s.headS h).line) := by
  obtain ⟨c, hctx, hpair⟩ := Option.map_eq_some_iff.mp hc
  cases hpair
  have hexec : s.listExecute h e = u.dropBus (s.lowSole h) := by
    have hgo : ¬ (s.halted || s.inEpisode) = true := by rw [hh, he]; decide
    unfold State.listExecute
    rw [hw]
    dsimp only
    rw [if_neg hgo, hlist, hctx]
    dsimp only
    rw [if_neg fun h0 => htk h0.1]
    unfold State.busRow Bus.finish
    dsimp only
    rw [hr]
  have hP := listClosed_and (listClosed_listWait h (y.val :: rest)) (listClosed_headLine h (s.headS h).line)
  have hQ := listClosed_and (listClosed_listWait h (rest.filter (fun z => z != y.val))) (listClosed_headLine h (s.headS h).line)
  refine answers_quiet rfl he ?_
  rw [hexec]
  refine hQ.dropBus _ (hP.listRead hQ.toLineClosed h.isLt _ _ (fun a ha => ?_) hr ⟨hw, rfl⟩)
  obtain ⟨hwait, hline⟩ := ha
  rw [headS_modHead_same]
  refine ⟨?_, hline⟩
  rw [hwait, List.filter_cons_of_neg (by simp)]

end Sys2Proof.Machine
end

section
/-! The release of a line (R54, R91, R155, R169, R364): what a head's writeback leaves alone, the Soles that take the line, and the
release as an event. -/
namespace Sys2Proof.Machine

/-! ## Writes of a head's rows (R146, R213–R217, R292) -/

/-- Whether a row's accesses complete or fail, `P` holds of the state they leave. -/
def RunOut.Keeps (P : State → Prop) : RunOut → Prop
  | .ok _ _ b => P b.s
  | .wait _ => True

theorem LineClosed.wbDone {P : State → Prop} (hP : LineClosed P) {s : State} (h : Nat) (hs : P s) : P (s.wbDone h) := by
  unfold State.wbDone
  split
  · exact hs
  · refine SteadyClosed.ite (hP.wbEnds h rfl ?_) hs
    exact hP.head h hs rfl fun ⟨_, hout⟩ => ⟨rfl, hout⟩

theorem LineClosed.wbWritten {P : State → Prop} (hP : LineClosed P) {s : State} (h n : Nat) (bad : Bool) (hs : P s) :
    P (s.wbWritten h n bad) := by
  have hrows : P (s.modHead h (fun v => { v with wbOut := v.wbOut.drop n, wbTail := (s.headS h).wbTail - n })) := by
    refine hP.head h hs rfl fun ⟨hwb, hout⟩ => ⟨hwb, ?_⟩
    show (s.headS h).wbOut.drop n = []
    rw [hout, List.drop_nil]
  have htail := SteadyClosed.ite (P := P) (c := (s.headS h).wbTail ≠ 0 ∧ (s.headS h).wbTail ≤ n)
    (hP.wbEnds h (f := Fd.HD_WBCTL_DONE h) rfl hrows) hrows
  exact SteadyClosed.ite (hP.wbDone h htail) (SteadyClosed.ite (hP.wbDropTail h htail) (hP.wbDrop h htail))

namespace ListClosed

variable {P : State → Prop} (hP : ListClosed P) {s : State} {b : Bus}
include hP

theorem setWord (a v : Nat) (h : P s) : P (s.setWord a v) := hP.putLE a 4 v h

theorem writeVoice (v w x : Nat) (h : P s) : P (s.writeVoice v w x) := by
  have hword := hP.setWord (voiceAddr v w) x h
  have hset (t : State) (y : VoiceS) (ht : P t) : P (t.setVoice v y) := hP.rest ht rfl rfl rfl rfl rfl
  exact SteadyClosed.ite h (SteadyClosed.ite (hset _ _ hword) (SteadyClosed.ite (hset _ _ hword) hword))

theorem entryWrite (m head a be : Nat) (d : List Nat) (lut : Bool) (h : P s) : P (s.entryWrite m head a be d lut) := by
  have hhold (k v : Nat) : P { s with pict := { s.pict with hold := tabPut 0 s.pict.hold k v } } := hP.rest h rfl rfl rfl rfl rfl
  exact SteadyClosed.ite (hhold _ _) (hP.setWord _ _ (hP.setWord _ _ h))

theorem chipWrite (m a be : Nat) (d : List Nat) (h : P s) : P (s.chipWrite m a be d) := by
  unfold State.chipWrite
  refine SteadyClosed.ite h ?_
  split
  · exact hP.entryWrite m _ a be d false h
  · exact hP.entryWrite m _ a be d true h
  · exact hP.writeVoice _ _ _ h
  · exact hP.setWord _ _ h

theorem chipWrites (m a be : Nat) (d : List Nat) (n : Nat) (h : P s) : P (s.chipWrites m a be d n) := by
  induction n generalizing s a be d with
  | zero => exact h
  | succ n ih => exact ih _ _ _ (hP.chipWrite m _ _ _ h)

theorem putEnabled (a be : Nat) (d : List Nat) (h : P s) : P (s.putEnabled a be d) :=
  SteadyClosed.foldl _ (fun _ _ ht => SteadyClosed.ite (hP.mem _ ht) ht) h

theorem serveWrite {m off be : Nat} {d : List Nat} {trust : Bool} {e : BurstEnd} {t : State} {st : Nat}
    (hr : s.serveWrite m off be d trust e = some (t, st)) (h : P s) : P t := by
  unfold State.serveWrite at hr
  split at hr
  · split at hr <;> cases hr <;> exact h
  · split at hr
    · cases hr
      exact h
    · cases hr
    · have hburst := hP.burst (s.apAddr off / 64 * 64) m e h
      dsimp only at hr
      split at hr
      · cases hr
        exact hP.putEnabled _ _ _ hburst
      · cases hr
        exact hburst

theorem remoteWrite (w : Who) (dev off be : Nat) (d : List Nat) (h : P b.s) : (b.remote w dev 1 off be d).Keeps P := by
  unfold Bus.remote
  dsimp only
  split
  · split
    · exact h
    · trivial
  · split
    · rw [if_pos rfl]
      split
      · trivial
      · next hx =>
        have ht := hP.serveWrite hx h
        split
        · exact ht
        · exact hP.report _ _ _ _ ht
    · split
      · trivial
      · split
        · trivial
        · split
          · trivial
          · exact h
          · exact h

/-- A write by a master that reaches no register. -/
theorem writeAt {w : Who} (hw : w.regs = false) (a be : Nat) (d : List Nat) (h : P b.s) : (b.writeAt w a be d).Keeps P := by
  have hno : (Bus.unmapped b w.m a true).Keeps P := hP.unmapped w.m a true h
  have hchip : (BusOut.ok [] { b with s := b.s.chipWrites w.m a be d (d.length / 4 + 2) }).Keeps P := hP.chipWrites _ _ _ _ _ h
  unfold Bus.writeAt
  dsimp only
  split
  · rw [hw]
    exact hno
  · split
    · exact hno
    · exact hP.remoteWrite w _ _ _ _ h
  · split
    · exact hno
    · trivial
    · split
      · trivial
      · have hburst := hP.burst (a / 64 * 64) w.m (b.ends.headD .clean) h
        split
        · exact hP.putEnabled _ _ _ hburst
        · exact hburst
  · split
    · exact hchip
    · exact hno
  · split
    · trivial
    · exact hchip
  · exact hno
  · exact hno
  · exact hno
  · exact hchip

theorem write {w : Who} (hw : w.regs = false) (a be : Nat) (d : List Nat) (h : P b.s) : (b.write w a be d).Keeps P :=
  hP.seen _ _ _ _ (hP.writeAt hw a be d h)

theorem wbRow {w : Who} (hw : w.regs = false) (a : Nat) (ws : List Nat) (n : Nat) (h : P b.s) : (b.wbRow w a ws n).Keeps P := by
  induction n generalizing b a ws with
  | zero => exact h
  | succ n ih =>
    have hone := hP.write hw (a % 2 ^ 40) (2 ^ (4 * (ws.take 8).length) - 1) ((ws.take 8).flatMap wordOf) h
    unfold Bus.wbRow
    split
    · exact h
    · dsimp only
      generalize b.write w (a % 2 ^ 40) (2 ^ (4 * (ws.take 8).length) - 1) ((ws.take 8).flatMap wordOf) = out at hone ⊢
      cases out with
      | wait i => trivial
      | ok d b1 => exact ih _ _ hone
      | err b1 => exact hone
      | ref st b1 => exact hone

theorem wbRows {w : Who} (hw : w.regs = false) (rows : List (Nat × List Nat)) (h : P b.s) : (b.wbRows w rows).Keeps P := by
  induction rows generalizing b with
  | nil => exact h
  | cons r rows ih =>
    have hone := hP.wbRow hw r.1 r.2 (r.2.length + 1) h
    unfold Bus.wbRows
    generalize b.wbRow w r.1 r.2 (r.2.length + 1) = out at hone ⊢
    match out with
    | .ok l false b1 =>
      have hrest := ih (b := b1) hone
      dsimp only
      generalize b1.wbRows w rows = out2 at hrest ⊢
      cases out2 with
      | ok l f b2 => exact hrest
      | wait i => trivial
    | .ok l true b1 => exact hone
    | .wait i => trivial

theorem meetNeed (n : Need) (h : P s) : P (s.meetNeed n) := by
  cases n with
  | issue i => exact hP.remIssue _ _ _ _ _ _ _ _ _ (SteadyClosed.ite (hP.dropBus _ h) h)
  | tack k => exact hP.rest h rfl rfl rfl rfl rfl

theorem wbDrain (h : Nat) (e : Env) (hs : P s) : P (s.wbDrain h e) := by
  have hrows := hP.wbRows (w := { masterWho 0x19 with q := 304 + h, regs := false }) (b := s.busOf e) rfl (s.headS h).wbOut hs
  unfold State.wbDrain State.busRow Bus.finish
  refine SteadyClosed.ite hs ?_
  dsimp only at hrows ⊢
  generalize Bus.wbRows _ _ _ = out at hrows ⊢
  match out with
  | .ok l f b1 => exact hP.dropBus _ (hP.wbWritten h l.length f hrows)
  | .wait none => exact hs
  | .wait (some n) => exact hP.meetNeed n hs

end ListClosed

/-- Where no row waits there is nothing to write. -/
theorem wbDrain_noWb {s : State} {h : Nat} (e : Env) (hn : (s.headS h).noWb) : s.wbDrain h e = s := by
  obtain ⟨-, hout⟩ := hn
  unfold State.wbDrain
  simp only [hout, List.isEmpty_nil, Bool.true_or, if_true]

end Sys2Proof.Machine
end

section
/-! The release of a line as an event (R54, R56, R91, R155, R169, R364). -/
namespace Sys2Proof.Machine

/-- A property of the lines that nothing of head `h` matters to but its line and its writeback. -/
structure BeginClosed (h : Nat) (P : State → Prop) : Prop extends LineClosed P where
  kept : ∀ {s : State} {f : HeadS → HeadS}, (∀ v, (f v).line = v.line) → (∀ v, (f v).noWb = v.noWb) → P s → P (s.modHead h f)

/-- No register matters to it either, nor do the Soles for which `q` holds. -/
structure ReleaseClosed (h : Nat) (q : Nat → Prop) (P : State → Prop) : Prop extends BeginClosed h P where
  free : ∀ {s t : State}, P s → t.pict = s.pict → t.mem = s.mem → t.hub = s.hub → P t
  take : ∀ {s : State} {n : Nat} (v : SoleS), q n → P s → P (s.setSole n v)

theorem beginClosed_selection (h : Nat) (v : RegVal) (m : List (Nat × BitVec 8)) (hh : h < 16) :
    BeginClosed h (fun t => t.reg (Rg.LAST_HD_SEL h) = v ∧ t.mem = m) where
  toLineClosed := lineClosed_and (lineClosed_reg (by unfold lineKey Rg.LAST_HD_SEL; omega) v) (lineClosed_mem m)
  kept _ _ ht := ht

theorem releaseClosed_line (h n : Nat) : ReleaseClosed h (fun _ => True) (fun t => (t.headS h).line = n) where
  toLineClosed := (listClosed_headLine h n).toLineClosed
  free ht hp _ _ := (congrArg HeadS.line (headS_of_heads (congrArg PictS.heads hp) h)).trans ht
  take _ _ ht := ht
  kept hline _ ht := by rw [headS_modHead_same, hline, ht]

theorem releaseClosed_mem (h : Nat) (m : List (Nat × BitVec 8)) : ReleaseClosed h (fun _ => True) (fun t => t.mem = m) where
  toLineClosed := lineClosed_mem m
  free ht _ hm _ := hm.trans ht
  take _ _ ht := ht
  kept _ _ ht := ht

theorem releaseClosed_noWb (h : Nat) : ReleaseClosed h (fun _ => True) (fun t => (t.headS h).noWb) where
  toLineClosed := lineClosed_noWb h
  free ht hp _ _ := (headS_of_heads (congrArg PictS.heads hp) h) ▸ ht
  take _ _ ht := ht
  kept _ hwb ht := by
    rw [headS_modHead_same, hwb]
    exact ht

/-- Line `n` is released: the line before it is output whole, and each Sole's next line falls due (R54). -/
def State.lineBegun (s : State) (h y n : Nat) : State :=
  ((s.runSoles h).foldl (fun a sl => a.remoteDue sl (n - 1))
    (((s.rowsOut h (n - 1)).modHead h (fun v => { v with line := n, pic := none })).beamExpire h (n - 1))).snapStop h y

namespace BeginClosed

variable {h : Nat} {P : State → Prop} (hP : BeginClosed h P) {s : State}
include hP

theorem snapStop (y : Nat) (hs : P s) : P (s.snapStop h y) :=
  SteadyClosed.ite (hP.kept (fun _ => rfl) (fun _ => rfl) hs) hs

theorem beamExpire (l : Nat) (hs : P s) : P (s.beamExpire h l) :=
  hP.toLineClosed.beamExpire h l hs (hP.kept (fun _ => rfl) (fun _ => rfl) hs)

theorem lineBegun (y n : Nat) (hs : P ((s.rowsOut h (n - 1)).modHead h (fun v => { v with line := n, pic := none }))) :
    P (s.lineBegun h y n) :=
  hP.snapStop y (keeps_foldl (fun _ hsl _ ha => hP.remoteDue (sole_lt_of_runSoles hsl) _ ha) (hP.beamExpire _ hs))

end BeginClosed

/-! ## The Soles take the line -/

/-- A Sole works on line `y` or will, or is fenced (R54, R690). -/
def State.takenBy (y sl : Nat) (s : State) : Prop := s.fenced (uSole sl) = true ∨ (s.soleS sl).line = some y ∨ y ∈ (s.soleS sl).next

theorem fenced_mono {s t : State} {u : Nat} (hr : ∀ r ∈ s.hub.reacting, r ∈ t.hub.reacting) (hu : s.fenced u = true) :
    t.fenced u = true := by
  unfold State.fenced State.grpFenced at hu ⊢
  simp only [Bool.or_eq_true, List.any_eq_true] at hu ⊢
  exact hu.imp (fun ⟨r, hmem, hx⟩ => ⟨r, hr r hmem, hx⟩) (fun ⟨r, hmem, hx⟩ => ⟨r, hr r hmem, hx⟩)

theorem listClosed_takenBy (y sl : Nat) : ListClosed (State.takenBy y sl) where
  same ht hs := by
    unfold State.takenBy at ht ⊢
    rw [soleS_of_soles hs.soles]
    exact ht.imp_left (fenced_mono hs.reacting)
  head _ _ ht _ _ := ht
  sole {t} k w ht hc := by
    by_cases hk : sl = k
    · subst hk
      unfold State.takenBy
      rw [soleS_setSole_same, line_of_core _ _ hc, next_of_core _ _ hc]
      exact ht
    · unfold State.takenBy
      rw [soleS_setSole_other _ _ hk]
      exact ht
  retry _ _ ht := ht
  fail _ _ ht := ht
  beam _ _ ht := ht
  mem _ ht := ht

theorem releaseClosed_takenBy (h y sl : Nat) : ReleaseClosed h (fun n => n ≠ sl) (State.takenBy y sl) where
  toLineClosed := (listClosed_takenBy y sl).toLineClosed
  free ht hp _ hu := by
    unfold State.takenBy at ht ⊢
    rw [soleS_of_soles (congrArg PictS.soles hp)]
    exact ht.imp_left (fenced_mono fun r hr => hu ▸ hr)
  take _ hn ht := by
    unfold State.takenBy
    rw [soleS_setSole_other _ _ (Ne.symm hn)]
    exact ht
  kept _ _ ht := ht

/-- The Sole as it takes line `y`: a line before the one before is abandoned (R56). -/
def State.soleFreed (s : State) (sl y : Nat) : State :=
  match (s.soleS sl).line with
  | some z => if z + 1 = y ∨ z + 2 = y then s else s.soleAbandon sl
  | none => s

/-- The Sole with its head and the line that it starts or will. -/
def State.soleGiven (s : State) (h sl y lo : Nat) : State :=
  if s.fenced (uSole sl) then s.dark h y lo
  else match (s.soleS sl).line with
    | none => s.modSole sl (fun v => { v with line := some y })
    | some _ => s.modSole sl (fun v => { v with next := v.next ++ [y] })

theorem soleTake_eq (s : State) (h sl y : Nat) :
    s.soleTake h sl y = ((s.soleFreed sl y).modSole sl (fun v => { v with head := h })).soleGiven h sl y
      (match (s.soleFreed sl y).lineCtx h sl y with | some c => c.lo | none => 0) := rfl

/-- Every Sole of the head's running Last takes line `y` (R54). -/
def State.solesTake (s : State) (h y : Nat) : State := (s.runSoles h).foldl (fun a sl => a.soleTake h sl y) s

/-- The line asks for its list where that stands first, and starts without it where it does not (R168, R169). -/
def State.listAsked (s : State) (h y : Nat) (first : Bool) : State :=
  if first then s.modHead h (fun v => { v with listWait := v.listWait ++ [y] })
  else ((s.oncePerLine h y 1 (fun t => t.bump (clipField h 1) 127)).llFault h y).lineReady h y

/-- What the Soles' taking of line `y` leads to (R91, R170, R254). -/
def State.lineAsked (s t : State) (h y : Nat) : State :=
  let t1 := (if s.fenced (uHead h) || s.hub.stopping then t.dark h y 0 else t).remoteRequests h y
  match s.listOf h y with
  | some (_, first) => if !s.flag (Fd.HD_LLSEL_CEN h) then t1.lineReady h y else t1.listAsked h y first
  | none => t1.lineReady h y

theorem releaseWork_eq (s : State) (h y : Nat) :
    s.releaseWork h y = if s.activeLine h y then (s.lineAsked (s.solesTake h y) h y).prxCheck h y (y - s.vStart h)
      else (s.lineAsked (s.solesTake h y) h y).prxForget h := rfl

namespace ReleaseClosed

variable {h : Nat} {q : Nat → Prop} {P : State → Prop} (hP : ReleaseClosed h q P) {s : State}
include hP

theorem recordSlack (n : Nat) (slack : Int) (hs : P s) : P (s.recordSlack n slack) :=
  hP.free hs (pict_recordSlack s n slack) (mem_recordSlack s n slack) (hub_recordSlack s n slack)

theorem soleNext {sl : Nat} (hn : sl < 16) (hq : q sl) (hs : P s) : P (s.soleNext sl) := hP.soleIssue hn (hP.take _ hq hs)

theorem soleAbandon {sl : Nat} (hn : sl < 16) (hq : q sl) (hs : P s) : P (s.soleAbandon sl) := by
  unfold State.soleAbandon
  split
  · exact hs
  · exact hP.soleNext hn hq (SteadyClosed.ite (hP.recordSlack _ _ hs) hs)

/-- The Sole's line before the one before is abandoned (R56). -/
theorem soleFreed {sl : Nat} (hn : sl < 16) (hq : q sl) (y : Nat) (hs : P s) : P (s.soleFreed sl y) := by
  unfold State.soleFreed
  split
  · exact SteadyClosed.ite hs (hP.soleAbandon hn hq hs)
  · exact hs

theorem soleTake {sl : Nat} (hn : sl < 16) (hq : q sl) (y : Nat) (hs : P s) : P (s.soleTake h sl y) := by
  have hhead : P ((s.soleFreed sl y).modSole sl (fun v => { v with head := h })) := hP.take _ hq (hP.soleFreed hn hq y hs)
  rw [soleTake_eq]
  unfold State.soleGiven
  refine SteadyClosed.ite (hP.dark h y _ hhead) ?_
  split
  · exact hP.take _ hq hhead
  · exact hP.take _ hq hhead

theorem lineReady (y : Nat) (hs : P s) : P (s.lineReady h y) :=
  hP.toLineClosed.lineReady y (hP.kept (fun _ => rfl) (fun _ => rfl) hs)

theorem listAsked (hh : h < 16) (y : Nat) (first : Bool) (hs : P s) : P (s.listAsked h y first) := by
  refine SteadyClosed.ite (hP.kept (fun _ => rfl) (fun _ => rfl) hs) (hP.lineReady y (hP.llFault h y ?_))
  exact hP.oncePerLine h y 1 hs fun _ ha => hP.clipCount hh 1 ha

theorem lineAsked {t : State} (hh : h < 16) (y : Nat) (s : State) (ht : P t) : P (s.lineAsked t h y) := by
  have hreq := hP.remoteRequests h y (SteadyClosed.ite (P := P) (c := (s.fenced (uHead h) || s.hub.stopping) = true)
    (hP.dark h y 0 ht) ht)
  unfold State.lineAsked
  generalize (if s.fenced (uHead h) || s.hub.stopping then t.dark h y 0 else t).remoteRequests h y = t1 at hreq ⊢
  dsimp only
  split
  · exact SteadyClosed.ite (hP.lineReady y hreq) (hP.listAsked hh y _ hreq)
  · exact hP.lineReady y hreq

theorem releaseRest (hh : h < 16) {y : Nat} (hs : P (s.solesTake h y)) : P (s.releaseWork h y) := by
  have hasked := hP.lineAsked hh (y := y) s hs
  rw [releaseWork_eq]
  exact SteadyClosed.ite (hP.prxCheck _ _ _ hasked) (hP.prxForget _ hasked)

end ReleaseClosed
/-! ## The release as an event -/

theorem runSoles_lineBegun (s : State) {h : Nat} (hh : h < 16) (y n : Nat) : (s.lineBegun h y n).runSoles h = s.runSoles h := by
  have hP := beginClosed_selection h (s.reg (Rg.LAST_HD_SEL h)) s.mem hh
  obtain ⟨hsel, hmem⟩ := hP.lineBegun y n (hP.rowsOut h (n - 1) (s := s) ⟨rfl, rfl⟩)
  exact runSoles_congr hsel hmem

/-- A Sole that takes the line has it or is fenced. -/
theorem takenBy_soleTake (s : State) (h sl y : Nat) : State.takenBy y sl (s.soleTake h sl y) := by
  rw [soleTake_eq]
  generalize (s.soleFreed sl y).modSole sl (fun v => { v with head := h }) = t
  unfold State.soleGiven
  split
  · next hf => exact (listClosed_takenBy y sl).dark h y _ (.inl hf)
  · split
    · refine .inr (.inl ?_)
      rw [soleS_modSole_same]
    · refine .inr (.inr ?_)
      rw [soleS_modSole_same]
      exact List.mem_append_right _ List.mem_cons_self

theorem foldl_reaches {α : Type} {P : State → Prop} {f : State → α → State} {x : α} {l : List α} (hx : x ∈ l)
    (hreach : ∀ a, P (f a x)) (hkeep : ∀ k ∈ l, ∀ a, P a → P (f a k)) (s : State) : P (l.foldl f s) := by
  obtain ⟨l1, l2, rfl⟩ := List.append_of_mem hx
  rw [List.foldl_append, List.foldl_cons]
  exact keeps_foldl (fun k hk a ha => hkeep k (List.mem_append_right _ (List.mem_cons_of_mem _ hk)) a ha) (hreach _)

theorem takenBy_solesTake {s : State} {h sl : Nat} (y : Nat) (hsl : sl ∈ s.runSoles h) : State.takenBy y sl (s.solesTake h y) := by
  refine foldl_reaches hsl (fun a => takenBy_soleTake a h sl y) (fun k hk a ha => ?_) s
  by_cases he : k = sl
  · rw [he]
    exact takenBy_soleTake a h sl y
  · exact (releaseClosed_takenBy h y sl).soleTake (sole_lt_of_runSoles hk) he y ha

/-- What follows the release of a line (R54, R717). -/
def State.lineFollows (s t : State) (h y n : Nat) : State :=
  if s.halted then
    let t1 := if s.activeLine h (n - 1) && (s.headS h).haltAt != some (n - 1) then (t.prxForget h).haltLine h (n - 1) 0
      else t.prxForget h
    if y ≠ 0 && s.listRuns h y then t1.llCount h y 12 (Fd.HD_LLSTAT_LOST h) else t1
  else if y = 0 then (t.prxForget h).remoteRequests h 0
  else if s.curv h then t.releaseWork h y
  else t.prxForget h

theorem lineRelease_due {s : State} {h y n : Nat} (hn : (if y = 0 then s.vTotal h else y) = n) (hr : (s.headS h).running = true)
    (hline : (s.headS h).line < n ∧ n ≤ s.vTotal h) : s.lineRelease h y = s.lineFollows (s.lineBegun h y n) h y n := by
  have hgo : ¬ (!(s.headS h).running || n ≤ (s.headS h).line || s.vTotal h < n) = true := by
    rw [hr, decide_eq_false (Nat.not_le.mpr hline.1), decide_eq_false (Nat.not_lt.mpr hline.2)]
    decide
  unfold State.lineRelease
  dsimp only
  rw [hn, if_neg hgo]
  rfl

theorem ReleaseClosed.lineFollows {h : Nat} {P : State → Prop} (hP : ReleaseClosed h (fun _ => True) P) (hh : h < 16) {t : State}
    (s : State) (y n : Nat) (ht : P t) : P (s.lineFollows t h y n) := by
  have hforget := hP.prxForget h ht
  have hhalt := SteadyClosed.ite (P := P) (c := (s.activeLine h (n - 1) && (s.headS h).haltAt != some (n - 1)) = true)
    (hP.haltLine h (n - 1) 0 hforget) hforget
  have htake : P (t.solesTake h y) := keeps_foldl (fun sl hsl _ ha => hP.soleTake (sole_lt_of_runSoles hsl) trivial y ha) ht
  exact SteadyClosed.ite (SteadyClosed.ite (hP.llCount h y 12 rfl hhalt) hhalt)
    (SteadyClosed.ite (hP.remoteRequests h 0 hforget) (SteadyClosed.ite (hP.releaseRest hh htake) hforget))

theorem ReleaseClosed.lineRelease {h y n : Nat} {P : State → Prop} (hP : ReleaseClosed h (fun _ => True) P) (hh : h < 16) {s : State}
    (hn : (if y = 0 then s.vTotal h else y) = n) (hr : (s.headS h).running = true) (hline : (s.headS h).line < n ∧ n ≤ s.vTotal h)
    (hs : P ((s.rowsOut h (n - 1)).modHead h (fun v => { v with line := n, pic := none }))) : P (s.lineRelease h y) := by
  rw [lineRelease_due hn hr hline]
  exact hP.lineFollows hh s y n (hP.lineBegun y n hs)

theorem takenBy_lineRelease {s : State} {h sl y : Nat} (hh : h < 16) (hr : (s.headS h).running = true)
    (hline : (s.headS h).line < y ∧ y ≤ s.vTotal h) (hhalt : s.halted = false) (hcur : s.curv h = true) (hy : y ≠ 0)
    (hsl : sl ∈ s.runSoles h) : State.takenBy y sl (s.lineRelease h y) := by
  have hwork : s.lineFollows (s.lineBegun h y y) h y y = (s.lineBegun h y y).releaseWork h y := by
    unfold State.lineFollows
    rw [if_neg (by rw [hhalt]; decide), if_neg hy, if_pos hcur]
  rw [lineRelease_due (if_neg hy) hr hline, hwork]
  refine (releaseClosed_takenBy h y sl).releaseRest hh (takenBy_solesTake y ?_)
  rw [runSoles_lineBegun s hh]
  exact hsl

theorem lineRelease_answers {s : State} {h sl : Fin 16} {y : Fin 16384} {e : Env} {n : Nat}
    (hn : (if y.val = 0 then s.vTotal h else y.val) = n) (he : s.inEpisode = false) (hr : (s.headS h).running = true)
    (hline : (s.headS h).line < n ∧ n ≤ s.vTotal h) :
    Answers (.lineRelease h y e) s (fun t =>
      (t.headS h).line = n ∧
      (s.halted = false → s.curv h = true → y.val ≠ 0 → sl.val ∈ s.runSoles h → t.fenced (uSole sl) = false →
        (t.soleS sl).line = some y.val ∨ y.val ∈ (t.soleS sl).next) ∧
      ((s.headS h).wb = none → (s.headS h).wbOut = [] → t.mem = s.mem)) := by
  have hline' := (releaseClosed_line h n).lineRelease h.isLt hn hr hline (congrArg HeadS.line (headS_modHead_same _ h _))
  refine answers_quiet rfl he ⟨(listClosed_headLine h n).wbDrain h e hline', fun hhalt hcur hy hsl hfree => ?_, fun hwb hout => ?_⟩
  · rw [if_neg hy] at hn
    subst hn
    have htaken := (listClosed_takenBy y sl).wbDrain h e (takenBy_lineRelease h.isLt hr hline hhalt hcur hy hsl)
    exact htaken.resolve_left (Bool.eq_false_iff.mp hfree)
  · have hnone := (releaseClosed_noWb h).lineRelease h.isLt hn hr hline (s := s) (by
      rw [headS_modHead_same]
      exact (lineClosed_noWb h).rowsOut h (n - 1) (s := s) ⟨hwb, hout⟩)
    rw [wbDrain_noWb e hnone]
    exact (releaseClosed_mem h s.mem).lineRelease h.isLt hn hr hline ((lineClosed_mem s.mem).rowsOut h (n - 1) rfl)

end Sys2Proof.Machine
end

section
/-! A latch point as an event (R112, R155, R179–R185, R213, R216, R229–R231, R236, R253): of the frame in progress of a head the
latch points of the others change nothing. -/
namespace Sys2Proof.Machine

/-- A head's frame in progress: its number, whether the head runs, its line and whether a frame has begun. -/
def HeadS.frames (v : HeadS) : Nat × Bool × Nat × Bool := (v.frame, v.running, v.line, v.inFrame)

/-- A property of the lines of head `h` that nothing of the heads matters to but its frame in progress, nor anything of a Sole, nor
any register but those at HD_CTL's place in a head's block. -/
structure LatchClosed (h : Nat) (P : State → Prop) : Prop extends LineClosed P where
  near : ∀ {s : State} (k : Nat) {v : HeadS}, P s → (k = h → v.frames = (s.headS k).frames) → P (s.setHead k v)
  soles : ∀ {s : State} (n : Nat) (v : SoleS), P s → P (s.setSole n v)
  reg : ∀ {s : State} {k : Nat} (v : RegVal), P s → (k < 0x180000 ∨ 0x190000 ≤ k ∨ k % 0x1000 ≠ 0x10) → P (s.setReg k v)

/-- Head `h` has the frame in progress `v`, and HDn_CTL the value `r`. -/
def State.latchAt (h : Nat) (v : Nat × Bool × Nat × Bool) (r : RegVal) (s : State) : Prop :=
  (s.headS h).frames = v ∧ s.reg (Rg.HD_CTL h) = r

theorem frames_of_core (v w : HeadS) (h : v.core = w.core) : v.frames = w.frames :=
  congrArg (fun c => (c.1, c.2.1, c.2.2.1, c.2.2.2.1)) h

theorem listClosed_frames (h : Nat) (v : Nat × Bool × Nat × Bool) : ListClosed (fun t => (t.headS h).frames = v) :=
  listClosed_head h HeadS.frames frames_of_core (fun _ _ => rfl) v

theorem latchClosed_latchAt {h : Nat} (hh : h < 16) (v : Nat × Bool × Nat × Bool) (r : RegVal) :
    LatchClosed h (State.latchAt h v r) where
  toLineClosed := lineClosed_and (listClosed_frames h v).toLineClosed (lineClosed_reg (by unfold lineKey Rg.HD_CTL; omega) r)
  near {s} k w ht hw := by
    refine ⟨?_, ht.2⟩
    by_cases hk : h = k
    · subst hk
      rw [headS_setHead_same, hw rfl]
      exact ht.1
    · rw [headS_setHead_other _ _ hk]
      exact ht.1
  soles _ _ ht := ht
  reg {s} k w ht hk := by
    refine ⟨ht.1, (reg_setReg_other s k _ w ?_).trans ht.2⟩
    unfold Rg.HD_CTL
    omega

/-- The head as its frame begins (R183, R255). -/
def State.framed (s : State) (h : Nat) (v : HeadS) : HeadS :=
  { v with
    frame := ((s.headS h).frame + 1) % 2 ^ 56, line := 0, listWait := [], undo := [], beam := [], misRec := false, under := [],
    haltAt := none, rowsDone := 0, inFrame := true, marks := [],
    report := {
      frame := ((s.headS h).frame + 1) % 2 ^ 56, time := s.time.now, curv := s.curv h, slot := s.cur h, halt := s.halted,
      lastId := if s.curv h then tabGet 0 s.last.ident (s.cur h) else 0 } }

/-- The head with the timing that it takes at a latch point, from its running Last or from its registers (R112, R229, R230). -/
def State.latchTimed (s : State) (h : Nat) (changed : Bool) : State :=
  match s.runEntry h with
  | some (w, e) => if changed then s.takeLastTiming h w e else s
  | none => if s.headTimingOk h then s.takeTiming h else s.set (Fd.HD_STAT_CTLERR h) 1

/-- Overrides of the picture receivers of head `h` end with the frame (R364). -/
def State.prxBegin (s : State) (h : Nat) : State :=
  (List.range 4).foldl (fun a k =>
    if a.get (Fd.WELT_PRX_CFG_HEAD k) == h && a.flag (Fd.WELT_PRX_STAT_OVR k) then
      if a.get (Fd.WELT_PRX_STAT_STATE k) = 1 then a.set (Fd.WELT_PRX_STAT_OVR k) 0
      else a.setPrx k { a.prxS k with ovrFrom := 0 }
    else a) s

/-- The rectangles and the snapshot of a frame that begins (R155, R247). -/
def State.frameSets (s t : State) (h : Nat) (changed : Bool) : State :=
  t.modHead h (fun v => { v with rects := t.takeRects h, snap := if s.halted then v.snap else t.takeSnap h changed })

theorem frameBegin_eq (s : State) (h : Nat) (changed : Bool) :
    s.frameBegin h changed =
      (((s.frameSets ((s.clearSoles h).modHead h (s.framed h)) h changed).wbStart h).prxBegin h |>.raise (24 + 6 * h + 5)).captureTrig
        (0x50 + h) true := rfl

namespace LatchClosed

variable {h : Nat} {P : State → Prop} (hP : LatchClosed h P) {s : State}
include hP

theorem setAt {f : Fd} {k : Nat} (x : Nat) (hs : P s) (hf : f.key = k) (hk : k < 0x180000 ∨ 0x190000 ≤ k ∨ k % 0x1000 ≠ 0x10) :
    P (s.set f x) :=
  hP.reg _ hs (hf ▸ hk)

theorem mod (k : Nat) (f : HeadS → HeadS) (hs : P s) (hf : ∀ v, (f v).frames = v.frames) : P (s.modHead k f) :=
  hP.near k hs fun _ => hf _

/-! ## A frame ends (R174, R216, R253) -/

theorem dropLists (k : Nat) (hs : P s) : P (s.dropLists k) :=
  SteadyClosed.foldl _ (fun _ y ha => hP.llCount k y 12 rfl ha) (hP.mod k _ hs fun _ => rfl)

theorem dropBeam (k : Nat) (hs : P s) : P (s.dropBeam k) :=
  SteadyClosed.foldl _ (fun _ e ha => hP.llCount k e.line 12 rfl ha) (hP.mod k _ hs fun _ => rfl)

theorem wbFrameEnd (k : Nat) (hs : P s) : P (s.wbFrameEnd k) := by
  unfold State.wbFrameEnd
  split
  · exact hs
  · exact SteadyClosed.ite (hP.wbDrop k hs) (SteadyClosed.ite (hP.wbDone k hs) (hP.mod k _ hs fun _ => rfl))

theorem frameEnd (k top : Nat) (hs : P s) : P (s.frameEnd k top) :=
  SteadyClosed.ite hs (hP.mod k _ (hP.wbFrameEnd k (hP.dropBeam k (hP.dropLists k (hP.rowsOut k top hs)))) fun _ => rfl)

/-! ## Arms (R182, R184, R185) -/

theorem answer (r : Req) (status : Nat) (body : List Nat) (hs : P s) : P (s.answer r status body) :=
  SteadyClosed.ite (hP.rest hs rfl rfl rfl rfl rfl) hs

theorem setArms (l : List Arm) (hs : P s) : P (s.setArms l) := hP.rest hs rfl rfl rfl rfl rfl

theorem pend (k x : Nat) (hs : P s) : P (s.set (Fd.HD_COMMIT_PEND k) x) := hP.setAt (k := 0x180058 + k * 0x1000) x hs rfl (by omega)

theorem cancelArms (k : Nat) (hs : P s) : P (s.cancelArms k) :=
  SteadyClosed.foldl _ (fun _ a ha => hP.answer _ _ _ (SteadyClosed.foldl a.heads (fun _ j hb => hP.pend j 0 hb) (hP.setArms _ ha))) hs

theorem armApplied (k : Nat) (hs : P s) : P (s.armApplied k) := by
  unfold State.armApplied
  split
  · exact hs
  · exact SteadyClosed.ite (hP.answer _ _ _ (hP.setArms _ hs)) (hP.setArms _ hs)

/-! ## The transfer and the restore (R175, R179, R252) -/

theorem copyKeys (src dst : Nat) (ks : List Nat) (hd : 0x190000 ≤ dst) (hs : P s) : P (s.copyKeys src dst ks) :=
  SteadyClosed.foldl ks (fun _ k ha => hP.reg _ ha (by omega)) hs

theorem setSlot {n : Nat} (hn : n < 8) (st : Nat) (hs : P s) : P (s.setSlot n st) := by
  have h1 := hP.setAt (f := Fd.LAST_SLOTSTAT_STATE) (k := 0x100004) (putBits (s.get Fd.LAST_SLOTSTAT_STATE) (3 * n) 3 st) hs rfl (by omega)
  exact hP.setAt (k := 0x100020 + n * 4) _ h1 rfl (by omega)

theorem refreshSlots (hs : P s) : P s.refreshSlots := by
  refine keeps_foldl (fun n hn a ha => ?_) hs
  have hlt := List.mem_range.mp hn
  exact SteadyClosed.ite (hP.setSlot hlt 4 ha) (SteadyClosed.ite (hP.setSlot hlt 3 ha) ha)

theorem commitExpect (k : Nat) (changed : Bool) (hs : P s) : P (s.commitExpect k changed) := by
  unfold State.commitExpect
  exact hP.mod k _ hs fun _ => rfl

theorem transfer {k : Nat} (hk : k < 16) (hs : P s) : P (s.transfer k).1 := by
  have hfar : 0x190000 ≤ frameBase ∧ 0x190000 ≤ activeBase := by decide
  have hcopy := hP.copyKeys 0 activeBase (((s.shadowLcs k).map lcKeys).flatten ++ lineKeys k ++ settingKeys k) hfar.2
    (hP.copyKeys 0 frameBase (((s.shadowLcs k).map lcKeys).flatten ++ lineKeys k) hfar.1 hs)
  have hsel {t : State} {f : Fd} (x : Nat) (hf : f.key = Rg.LAST_HD_SEL k) (ht : P t) : P (t.set f x) :=
    hP.setAt (k := 0x100040 + k * 4) x ht hf (by omega)
  have hlist {t : State} {f : Fd} (x : Nat) (hf : f.key = Rg.HD_LLSEL k) (ht : P t) : P (t.set f x) :=
    hP.setAt (k := 0x180050 + k * 0x1000) x ht hf (by omega)
  have hslots := hP.refreshSlots (hsel (f := Fd.LAST_HD_SEL_CURV k) (b2n (s.flag (Fd.LAST_HD_SEL_NEXTEN k) &&
    decide (3 ≤ s.slotState (s.get (Fd.LAST_HD_SEL_NEXT k))))) rfl (hsel (f := Fd.LAST_HD_SEL_CUR k) (s.get (Fd.LAST_HD_SEL_NEXT k)) rfl
      (hlist (f := Fd.HD_LLSEL_CEN k) (s.get (Fd.HD_LLSEL_EN k)) rfl (hlist (f := Fd.HD_LLSEL_CBANK k) (s.get (Fd.HD_LLSEL_BANK k)) rfl
        hcopy))))
  have happ (t : State) (f x : Nat) (a : Bool) (ht : P t) : P (((((t.commitExpect k a).set (Fd.HD_COMMIT_APPFRAME k) x).set
      (Fd.HD_COMMIT_PEND k) 0).modHead k (fun v => { v with applied := some f })).raise (24 + 6 * k + 4)) :=
    hP.raise _ (hP.mod k _ (hP.pend k 0 (hP.setAt (k := 0x180058 + k * 0x1000) x (hP.commitExpect k a ht) rfl (by omega)))
      fun _ => rfl)
  exact happ _ _ _ _ hslots

theorem restore (k : Nat) (hs : P s) : P (s.restore k) := hP.copyKeys _ _ _ (show 0x190000 ≤ activeBase by decide) hs

/-! ## Timing (R112, R229, R230, R236, R323) -/

theorem setLock (k st : Nat) (hs : P s) : P (s.setLock k st) :=
  hP.setAt (k := 0x180014 + k * 0x1000) st (SteadyClosed.ite (hP.mod k _ hs fun _ => rfl) hs) rfl (by omega)

theorem evalFits (hs : P s) : P s.evalFits := by
  refine SteadyClosed.foldl _ (fun a p ha => SteadyClosed.ite ?_ ha) hs
  unfold State.evalFit
  split
  · exact hP.setAt (k := 0x380020 + p * 4) _ ha rfl (by omega)
  · exact hP.setAt (k := 0x380020 + p * 4) _ ha rfl (by omega)

theorem takeTiming (k : Nat) (hs : P s) : P (s.takeTiming k) := by
  refine SteadyClosed.foldl _ (fun a j ha => hP.reg _ ha ?_) hs
  unfold activeBase
  omega

theorem takeLastTiming (k : Nat) (w : Img) (e : Nat) (hs : P s) : P (s.takeLastTiming k w e) := by
  refine hP.takeTiming k (hP.setAt (k := 0x18000c + k * 0x1000) _ ?_ rfl (by omega))
  refine hP.reg _ (hP.reg _ (hP.reg _ hs ?_) ?_) ?_
  · unfold Rg.HD_HTIME
    omega
  · unfold Rg.HD_VTIME
    omega
  · unfold Rg.HD_START
    omega

theorem latchTimed (k : Nat) (changed : Bool) (hs : P s) : P (s.latchTimed k changed) := by
  unfold State.latchTimed
  split
  · exact SteadyClosed.ite (hP.takeLastTiming k _ _ hs) hs
  · exact SteadyClosed.ite (hP.takeTiming k hs) (hP.setAt (k := 0x180014 + k * 0x1000) 1 hs rfl (by omega))

theorem latchTiming (k : Nat) (changed : Bool) (hs : P s) : P (s.latchTiming k changed) := by
  have hfits := hP.evalFits (hP.latchTimed k changed hs)
  exact SteadyClosed.ite hfits (hP.setLock k _ (hP.mod k _ hfits fun _ => rfl))

/-! ## A frame begins (R155, R183, R213, R216, R364) -/

theorem clearSoles (k : Nat) (hs : P s) : P (s.clearSoles k) :=
  SteadyClosed.foldl _ (fun _ n ha => SteadyClosed.ite (hP.soles n _ ha) ha) hs

theorem wbStart (k : Nat) (hs : P s) : P (s.wbStart k) := by
  have h1 (w : WbRun) : P ((s.modHead k (fun v => { v with wb := some w })).set (Fd.HD_WBCTL_BUSY k) 1) :=
    hP.setAt (k := 0x180080 + k * 0x1000) 1 (hP.mod k _ hs fun _ => rfl) rfl (by omega)
  exact SteadyClosed.ite hs (SteadyClosed.ite (hP.wbDrop k (h1 _)) (h1 _))

theorem prxBegin (k : Nat) (hs : P s) : P (s.prxBegin k) := by
  refine keeps_foldl (fun j hj a ha => ?_) hs
  exact SteadyClosed.ite (SteadyClosed.ite (hP.prxStat j 0 (List.mem_range.mp hj) rfl ha) (hP.setPrx j _ ha)) ha

/-- What begins with a frame's number and its line 0. -/
theorem frameFollows (k : Nat) (changed : Bool) (hs : P ((s.clearSoles k).modHead k (s.framed k))) : P (s.frameBegin k changed) := by
  rw [frameBegin_eq]
  exact hP.captureTrig _ _ (hP.raise _ (hP.prxBegin k (hP.wbStart k (hP.mod k _ hs fun _ => rfl))))

end LatchClosed
end Sys2Proof.Machine
end

section
/-! A latch point of several heads (R182, R183, R231), and the obligation on the events of the lines. -/
namespace Sys2Proof.Machine

/-- The head as it stops (R231). -/
def HeadS.stopped (v : HeadS) : HeadS :=
  { v with
    running := false, waitRef := false, inFrame := false, rects := [], beam := [], listWait := [], under := [], marks := [], good := 0,
    ivals := [] }

theorem latchOne_stop {s : State} {h : Nat} (hr : s.flag (Fd.HD_CTL_RUN h) = false) :
    s.latchOne h = (((s.cancelArms h).modHead h HeadS.stopped).setLock h 0).evalFits := by
  unfold State.latchOne
  rw [hr]
  rfl

namespace LatchClosed

variable {h : Nat} {P : State → Prop} (hP : LatchClosed h P) {s : State}
include hP

/-- With RUN at 1 the latch point begins a frame (R183). -/
theorem latchOne_run {Q : State → Prop} {k : Nat} (hk : k < 16) (hr : s.flag (Fd.HD_CTL_RUN k) = true)
    (hbegin : ∀ t b, P t → Q (t.frameBegin k b)) (hs : P s) : Q (s.latchOne k) := by
  have hgo (t : State) (b : Bool) (ht : P t) :
      Q ((((t.restore k).markEdges k (s.get (Fd.HD_MARK_MARK k).act)).latchTiming k b).frameBegin k b) :=
    hbegin _ b (hP.latchTiming k b (hP.markEdges k _ (hP.restore k ht)))
  unfold State.latchOne
  rw [if_neg (by rw [hr]; decide)]
  refine SteadyClosed.ite (hbegin _ false (hP.latchTiming k false hs)) ?_
  cases s.pict.arms.any (fun a => a.appliesTo k) with
  | false => exact hgo s false hs
  | true => exact hgo _ _ (hP.armApplied k (hP.transfer hk hs))

/-- The latch point of another head. -/
theorem latchOne_other {k : Nat} (hk : k < 16) (hne : k ≠ h) (hs : P s) : P (s.latchOne k) := by
  have hmod {t : State} (f : HeadS → HeadS) (ht : P t) : P (t.modHead k f) := hP.near k ht fun he => absurd he hne
  cases hr : s.flag (Fd.HD_CTL_RUN k) with
  | false =>
    rw [latchOne_stop hr]
    exact hP.evalFits (hP.setLock k 0 (hmod _ (hP.cancelArms k hs)))
  | true =>
    exact hP.latchOne_run hk hr (fun t b ht => hP.frameFollows k b (hmod _ (hP.clearSoles k ht))) hs

end LatchClosed

/-! ## The head's own latch point -/

/-- The frame in progress after a latch point: the next one from its line 0, or the head stops (R183, R231). -/
def nextFrames (run : Bool) (v : Nat × Bool × Nat × Bool) : Nat × Bool × Nat × Bool :=
  if run then ((v.1 + 1) % 2 ^ 56, v.2.1, 0, true) else (v.1, false, v.2.2.1, false)

theorem latchAt_modHead {s : State} {h : Nat} {v w : Nat × Bool × Nat × Bool} {r : RegVal} {f : HeadS → HeadS}
    (hf : ∀ x : HeadS, x.frames = v → (f x).frames = w) (hs : State.latchAt h v r s) : State.latchAt h w r (s.modHead h f) := by
  refine ⟨?_, hs.2⟩
  rw [headS_modHead_same]
  exact hf _ hs.1

theorem latchAt_latchOne {s : State} {h : Nat} (hh : h < 16) {v : Nat × Bool × Nat × Bool} {r : RegVal} {run : Bool}
    (hrun : s.flag (Fd.HD_CTL_RUN h) = run) (hs : State.latchAt h v r s) : State.latchAt h (nextFrames run v) r (s.latchOne h) := by
  have hP := latchClosed_latchAt hh v r
  have hQ := latchClosed_latchAt hh (nextFrames run v) r
  cases run with
  | false =>
    rw [latchOne_stop hrun]
    refine hQ.evalFits (hQ.setLock h 0 (latchAt_modHead (fun x hx => ?_) (hP.cancelArms h hs)))
    rw [← hx]
    rfl
  | true =>
    refine hP.latchOne_run hh hrun (fun t b ht => ?_) hs
    refine hQ.frameFollows h b (latchAt_modHead (fun x hx => ?_) (hP.clearSoles h ht))
    have hframe : (t.headS h).frame = x.frame := congrArg Prod.fst (ht.1.trans hx.symm)
    unfold State.framed
    rw [← hx, hframe]
    rfl

/-! ## The latch point as an event -/

theorem latchAt_latchMany {s : State} {h : Nat} {mask : List Nat} (top : Nat → Nat) (hmask : ∀ k ∈ mask, k < 16) (hnodup : mask.Nodup)
    (hh : h ∈ mask) {v : Nat × Bool × Nat × Bool} {r : RegVal} {run : Bool} (hrun : s.flag (Fd.HD_CTL_RUN h) = run)
    (hs : State.latchAt h v r s) : State.latchAt h (nextFrames run v) r (s.latchMany mask top) := by
  have hP := latchClosed_latchAt (hmask h hh) v r
  have hQ := latchClosed_latchAt (hmask h hh) (nextFrames run v) r
  obtain ⟨l1, l2, rfl⟩ := List.append_of_mem hh
  obtain ⟨hapart, -⟩ := List.nodup_cons.mp (List.nodup_middle.mp hnodup)
  rw [List.mem_append, not_or] at hapart
  have hends := SteadyClosed.foldl (l1 ++ h :: l2) (fun a k ha => hP.frameEnd k (top k) (s := a) ha) hs
  have hlatched (t : State) (ht : State.latchAt h v r t) :
      State.latchAt h (nextFrames run v) r ((l1 ++ h :: l2).foldl (fun a k => a.latchOne k) t) := by
    have hbefore := keeps_foldl (l := l1) (fun k hk a ha => hP.latchOne_other (s := a)
      (hmask k (List.mem_append_left _ hk)) (fun he => hapart.1 (he ▸ hk)) ha) ht
    have hflag := (flag_of_reg (f := Fd.HD_CTL_RUN h) (hbefore.2.trans hs.2.symm)).trans hrun
    rw [List.foldl_append, List.foldl_cons]
    exact keeps_foldl (fun k hk a ha => hQ.latchOne_other (s := a)
      (hmask k (List.mem_append_right _ (List.mem_cons_of_mem _ hk))) (fun he => hapart.2 (he ▸ hk)) ha)
      (latchAt_latchOne (hmask h hh) hflag hbefore)
  exact hlatched _ (SteadyClosed.ite hends (hP.setArms _ hends))

theorem LineClosed.pwmStart {P : State → Prop} (hP : LineClosed P) {s : State} (hs : P s) : P s.pwmStart := by
  refine SteadyClosed.ite hs (SteadyClosed.foldl _ (fun a n ha => ?_) hs)
  exact hP.put (k := 0x590014) _ (hP.rest ha rfl rfl rfl rfl rfl) rfl (by omega)

theorem latchPoint_answers {s : State} {h : Fin 16} {mask : BitVec 16} {e : Env} (he : s.inEpisode = false)
    (hmask : nbit mask.toNat h = true) (hr : (s.headS h).running = true) :
    Answers (.latchPoint mask e) s (fun t =>
      (s.flag (Fd.HD_CTL_RUN h) = true → (t.headS h).frame = ((s.headS h).frame + 1) % 2 ^ 56 ∧ (t.headS h).line = 0 ∧
        (t.headS h).inFrame = true ∧ (t.headS h).running = true) ∧
      (s.flag (Fd.HD_CTL_RUN h) = false → (t.headS h).running = false ∧ (t.headS h).frame = (s.headS h).frame)) := by
  have hP := listClosed_frames h (nextFrames (s.flag (Fd.HD_CTL_RUN h)) (s.headS h).frames)
  have hlatch : ((s.latchPoint mask.toNat).headS h).frames = nextFrames (s.flag (Fd.HD_CTL_RUN h)) (s.headS h).frames := by
    refine (latchAt_latchMany _ (fun k hk => ?_) ?_ ?_ rfl ⟨rfl, rfl⟩).1
    · exact List.mem_range.mp (List.mem_filter.mp hk).1
    · exact List.nodup_range.filter _
    · exact List.mem_filter.mpr ⟨List.mem_range.mpr h.isLt, by rw [hmask, hr]; rfl⟩
  have hdrain := SteadyClosed.foldl ((List.range 16).filter (nbit mask.toNat)) (fun a k ha => hP.wbDrain (s := a) k e ha) hlatch
  have hdone := SteadyClosed.ite (P := fun t => (t.headS h).frames = _) (c := s.pwmSynced mask.toNat = true) (hP.pwmStart hdrain) hdrain
  refine answers_event rfl he ⟨fun hrun => ?_, fun hrun => ?_⟩
  · rw [hrun] at hdone
    simp only [nextFrames, HeadS.frames, if_true, Prod.mk.injEq] at hdone
    obtain ⟨hframe, hrunning, hline, hin⟩ := hdone
    exact ⟨hframe, hline, hin, hrunning.trans hr⟩
  · rw [hrun] at hdone
    simp only [nextFrames, HeadS.frames, Bool.false_eq_true, if_false, Prod.mk.injEq] at hdone
    obtain ⟨hframe, hrunning, -, -⟩ := hdone
    exact ⟨hrunning, hframe⟩

/-- Settles O34, one lemma for each of its events. -/
theorem linesComplete : Obligations.LinesComplete := by
  unfold Obligations.LinesComplete
  intro s h sl y e
  exact ⟨fun _ => latchPoint_answers, fun _ => spriteSnapshotRead_answers, fun he hr hl => lineRelease_answers rfl he hr hl,
    fun _ _ _ _ _ _ => lineListExecute_answers, fun _ _ _ => beamEntryIssue_answers, fun _ _ => beamEntryLost_answers,
    fun _ _ _ _ _ => granuleAnswer_answers, stitchRun_answers, fun _ => lineDone_answers, soleLineAbandon_answers⟩

end Sys2Proof.Machine
end

section
/-! Writes of LAST_HDn_SEL, FETCH_POOLk and SYS_EYCFG, taken and refused (R111, R271, R676). -/
namespace Sys2Proof.Machine

/-! ## The registers and their own writes -/

theorem writeReg_fetch (s : State) (o v : Nat) (c : WriteCtx) {k : Nat} (hk : k / 0x10000 = 0x10 ∨ k / 0x10000 = 0x11) :
    s.writeReg o k v c = s.writeFetch k v := by
  unfold State.writeReg
  rcases hk with hk | hk
  · rw [hk]
    rfl
  · rw [hk]
    rfl

theorem writeReg_sel (s : State) (o v : Nat) (c : WriteCtx) (h : Fin 16) :
    s.writeReg o (Rg.LAST_HD_SEL h) v c = s.writeSel h v := by
  have hctl : Rg.LAST_HD_SEL h ≠ Rg.LAST_CTL := by unfold Rg.LAST_HD_SEL Rg.LAST_CTL; omega
  have hin : inArr (Rg.LAST_HD_SEL h) (Rg.LAST_HD_SEL 0) 16 4 = true := inArr_index (Rg.LAST_HD_SEL 0) h.isLt (by decide)
  have hix : arrIx (Rg.LAST_HD_SEL h) (Rg.LAST_HD_SEL 0) 4 = h := arrIx_index (Rg.LAST_HD_SEL 0) h (by decide)
  rw [writeReg_fetch s o v c (.inl (by unfold Rg.LAST_HD_SEL; omega))]
  unfold State.writeFetch
  rw [if_neg hctl, if_pos hin, hix]

theorem writeReg_pool (s : State) (o v : Nat) (c : WriteCtx) (k : Fin 8) :
    s.writeReg o (Rg.FETCH_POOL k) v c = s.writePool k v := by
  have hctl : Rg.FETCH_POOL k ≠ Rg.LAST_CTL := by unfold Rg.FETCH_POOL Rg.LAST_CTL; omega
  have hsel : inArr (Rg.FETCH_POOL k) (Rg.LAST_HD_SEL 0) 16 4 = false :=
    inArr_eq_false (by unfold Rg.FETCH_POOL Rg.LAST_HD_SEL; omega)
  have hin : inArr (Rg.FETCH_POOL k) (Rg.FETCH_POOL 0) 8 4 = true := inArr_index (Rg.FETCH_POOL 0) k.isLt (by decide)
  have hix : arrIx (Rg.FETCH_POOL k) (Rg.FETCH_POOL 0) 4 = k := arrIx_index (Rg.FETCH_POOL 0) k (by decide)
  rw [writeReg_fetch s o v c (.inr (by unfold Rg.FETCH_POOL; omega))]
  unfold State.writeFetch
  rw [if_neg hctl, if_neg (by rw [hsel]; exact Bool.false_ne_true), if_pos hin, hix]

theorem writeReg_eycfg (s : State) (o v : Nat) (c : WriteCtx) : s.writeReg o Rg.SYS_EYCFG v c = s.writeEycfg o (s.eyIx o) v := rfl

theorem not_watchKey_sel (h : Fin 16) : ¬ watchKey (Rg.LAST_HD_SEL h) := fun hw => by
  have hb := block_of_watchKey hw
  unfold Rg.LAST_HD_SEL at hb
  omega

theorem not_watchKey_poolStat (k : Fin 8) : ¬ watchKey (Rg.FETCH_POOL_STAT k) := fun hw => by
  have hb := block_of_watchKey hw
  unfold Rg.FETCH_POOL_STAT at hb
  omega

theorem ownerOfMaster_le (m : Nat) : ownerOfMaster m ≤ 7 := by
  unfold ownerOfMaster
  split
  · omega
  · split
    · decide
    · split <;> decide

theorem not_watchKey_eyidx (m : Nat) : ¬ watchKey (Rg.EYIDX_C (ownerOfMaster m)) := fun hw => by
  have hb := block_of_watchKey hw
  have ho := ownerOfMaster_le m
  unfold Rg.EYIDX_C at hb
  omega

section
variable {m : Fin 32} {s : State} {v : BitVec 28} {e : Env}

/-- A direct write whose register's own write leaves `w`, which differs from `s` in registers only: what follows from the registers
of `w` that no watchpoint touches, and from what an access may change. -/
theorem regsWrite_writes {c : Instr} {k : Nat} {w : State} {p : Nat → Prop} {P : State → Prop} (hx : exec c s = wrote s m k v e)
    (h : Taken s m k v.toNat) (hk : k ≠ Rg.SEC_FUSECMD)
    (hw : s.writeReg (ownerOfMaster m) k v.toNat { beam := e.beam } = w) (hr : RegsOnly p s w)
    (hP : ∀ t, (∀ j, ¬ watchKey j → t.reg j = w.reg j) → AccessOnly p s t → P t) : Writes c s P := by
  refine writes_of hx h hk (hP _ (fun j hj => ?_) ?_)
  · rw [reg_afterWrite s m k _ e j hj, hw]
  · refine accessOnly_afterWrite id (fun _ _ _ _ => rfl) ?_
    rw [hw]
    exact hr

end

/-! ## LAST_HDn_SEL (R111) -/

/-- The state with ERR cleared where a write of LAST_HDn_SEL clears it. -/
def State.selCleared (s : State) (h v : Nat) : State := if nbit v 27 then s.set (Fd.LAST_HD_SEL_ERR h) 0 else s

theorem writeSel_refused {s : State} {h v : Nat} (hbad : s.selBad h v = true) :
    s.writeSel h v = (s.selCleared h v).set (Fd.LAST_HD_SEL_ERR h) 1 := if_pos hbad

theorem writeSel_accepted {s : State} {h v : Nat} (hok : s.selBad h v = false) :
    s.writeSel h v = ((s.selCleared h v).set (Fd.LAST_HD_SEL_NEXTEN h) (v / 8)).set (Fd.LAST_HD_SEL_NEXT h) v :=
  if_neg (by rw [hok]; exact Bool.false_ne_true)

theorem regsOnly_selCleared (s : State) (h v : Nat) : RegsOnly (fun k => k = Rg.LAST_HD_SEL h) s (s.selCleared h v) :=
  regsOnly_ite (regsOnly_set s _ 0 rfl) (regsOnly_refl _ s)

/-- A selection that is refused changes only ERR. -/
theorem get_writeSel_refused {s : State} {h v : Nat} {f : Fd} (hbad : s.selBad h v = true) (hf : f.lo + f.w ≤ 27) :
    (s.writeSel h v).get f = s.get f := by
  rw [writeSel_refused hbad, get_set_apart _ _ _ _ (show 27 + 1 ≤ 28 by decide) (.inl hf)]
  unfold State.selCleared
  split
  · exact get_set_apart _ _ _ _ (show 27 + 1 ≤ 28 by decide) (.inl hf)
  · rfl

theorem selBad_of_broken {s : State} {h v : Nat} (hen : nbit v 3 = true)
    (hslot : s.slotState (v % 8) < 3 ∨ nbit (hdHeads (s.slotImg (v % 8))) h = false) : s.selBad h v = true := by
  unfold State.selBad
  rw [hen, Bool.true_and, Bool.or_eq_true]
  rcases hslot with hlow | hno
  · exact .inl (decide_eq_true hlow)
  · exact .inr (by rw [hno]; rfl)

section
variable {m : Fin 32} {s : State} {v : BitVec 28} {e : Env} {h : Fin 16}

theorem lastHdSelWrite_refused (ht : Taken s m (Rg.LAST_HD_SEL h) v.toNat) (hbad : s.selBad h v.toNat = true) :
    Writes (.lastHdSelWrite h m v e) s (fun t =>
      t.flag (Fd.LAST_HD_SEL_ERR h) = true ∧ t.get (Fd.LAST_HD_SEL_NEXT h) = s.get (Fd.LAST_HD_SEL_NEXT h) ∧
      t.get (Fd.LAST_HD_SEL_NEXTEN h) = s.get (Fd.LAST_HD_SEL_NEXTEN h) ∧
      t.get (Fd.LAST_HD_SEL_CUR h) = s.get (Fd.LAST_HD_SEL_CUR h) ∧ t.get (Fd.LAST_HD_SEL_CURV h) = s.get (Fd.LAST_HD_SEL_CURV h) ∧
      AccessOnly (fun k => k = Rg.LAST_HD_SEL h) s t) := by
  have hne : Rg.LAST_HD_SEL h ≠ Rg.SEC_FUSECMD := by unfold Rg.LAST_HD_SEL Rg.SEC_FUSECMD; omega
  have hr : RegsOnly (fun k => k = Rg.LAST_HD_SEL h) s (s.writeSel h v.toNat) := by
    rw [writeSel_refused hbad]
    exact regsOnly_trans (regsOnly_selCleared s h _) (regsOnly_set _ _ 1 rfl)
  refine regsWrite_writes rfl ht hne (writeReg_sel s _ _ _ h) hr fun t hreg ha => ?_
  have hsel := hreg _ (not_watchKey_sel h)
  have hget (f : Fd) (hkey : f.key = Rg.LAST_HD_SEL h) (hf : f.lo + f.w ≤ 27) : t.get f = s.get f :=
    (get_of_reg (by rw [hkey]; exact hsel)).trans (get_writeSel_refused hbad hf)
  refine ⟨?_, hget _ rfl (show 0 + 3 ≤ 27 by decide), hget _ rfl (show 3 + 1 ≤ 27 by decide), hget _ rfl (show 24 + 3 ≤ 27 by decide),
    hget _ rfl (show 23 + 1 ≤ 27 by decide), ha⟩
  rw [flag_of_reg (f := Fd.LAST_HD_SEL_ERR h) hsel, writeSel_refused hbad]
  exact flag_set_same _ 1 rfl (show 27 + 1 ≤ 28 by decide)

theorem lastHdSelWrite_writes (ht : Taken s m (Rg.LAST_HD_SEL h) v.toNat) (hok : s.selBad h v.toNat = false) :
    Writes (.lastHdSelWrite h m v e) s (fun t =>
      t.get (Fd.LAST_HD_SEL_NEXTEN h) = v.toNat / 8 % 2 ∧ t.get (Fd.LAST_HD_SEL_NEXT h) = v.toNat % 8 ∧
      AccessOnly (fun k => k = Rg.LAST_HD_SEL h) s t) := by
  have hne : Rg.LAST_HD_SEL h ≠ Rg.SEC_FUSECMD := by unfold Rg.LAST_HD_SEL Rg.SEC_FUSECMD; omega
  have hr : RegsOnly (fun k => k = Rg.LAST_HD_SEL h) s (s.writeSel h v.toNat) := by
    rw [writeSel_accepted hok]
    exact regsOnly_trans (regsOnly_trans (regsOnly_selCleared s h _) (regsOnly_set _ _ _ rfl)) (regsOnly_set _ _ _ rfl)
  refine regsWrite_writes rfl ht hne (writeReg_sel s _ _ _ h) hr fun t hreg ha => ?_
  have hsel := hreg _ (not_watchKey_sel h)
  refine ⟨?_, ?_, ha⟩
  · rw [get_of_reg (f := Fd.LAST_HD_SEL_NEXTEN h) hsel, writeSel_accepted hok,
      get_set_apart _ _ _ _ (show 0 + 3 ≤ 28 by decide) (.inr (show 0 + 3 ≤ 3 by decide)),
      get_set_same _ _ _ (show 3 + 1 ≤ 28 by decide)]
    rfl
  · rw [get_of_reg (f := Fd.LAST_HD_SEL_NEXT h) hsel, writeSel_accepted hok, get_set_same _ _ _ (show 0 + 3 ≤ 28 by decide)]
    rfl

end

/-! ## FETCH_POOLk (R271) -/

section
variable {m : Fin 32} {s : State} {v : BitVec 28} {e : Env} {k : Fin 8}

theorem poolBad_iff (s : State) (k v : Nat) : s.poolBad k v = true ↔
    v / 2 ^ 11 % 2 ^ 11 < v % 2 ^ 11 ∨ 1024 < v / 2 ^ 11 % 2 ^ 11 ∨
      1024 < v % 2 ^ 11 + (((List.range 8).filter (fun j => j != k)).map s.poolRsv).sum := by
  have hlim : nbits v 21 11 = v / 2 ^ 11 % 2 ^ 11 := rfl
  have hrsv : nbits v 10 0 = v % 2 ^ 11 := by unfold nbits; rw [pow_zero, Nat.div_one]
  unfold State.poolBad
  simp only [hlim, hrsv, Bool.or_eq_true, decide_eq_true_eq, or_assoc]

theorem ne_fusecmd_pool (k : Fin 8) : Rg.FETCH_POOL k ≠ Rg.SEC_FUSECMD := by
  unfold Rg.FETCH_POOL Rg.SEC_FUSECMD
  omega

theorem fetchPoolWrite_refused (ht : Taken s m (Rg.FETCH_POOL k) v.toNat) (hbad : s.poolBad k v.toNat = true) :
    Writes (.fetchPoolWrite k m v e) s (fun t =>
      t.flag (Fd.FETCH_POOL_STAT_ERR k) = true ∧ t.get (Fd.FETCH_POOL_STAT_PEAK k) = s.get (Fd.FETCH_POOL_STAT_PEAK k) ∧
      t.poolHeld k = s.poolHeld k ∧ AccessOnly (fun j => j = Rg.FETCH_POOL_STAT k) s t) := by
  have hw : s.writePool k v.toNat = s.set (Fd.FETCH_POOL_STAT_ERR k) 1 := if_pos hbad
  have hr : RegsOnly (fun j => j = Rg.FETCH_POOL_STAT k) s (s.set (Fd.FETCH_POOL_STAT_ERR k) 1) := regsOnly_set s _ 1 rfl
  have herr : (Fd.FETCH_POOL_STAT_ERR k).lo + (Fd.FETCH_POOL_STAT_ERR k).w ≤ 28 := show 27 + 1 ≤ 28 by decide
  refine regsWrite_writes rfl ht (ne_fusecmd_pool k) ((writeReg_pool s _ _ _ k).trans hw) hr fun t hreg ha => ?_
  have hstat := hreg _ (not_watchKey_poolStat k)
  refine ⟨?_, ?_, ?_, ha⟩
  · exact (flag_of_reg hstat).trans (flag_set_same s 1 rfl herr)
  · exact (get_of_reg hstat).trans (get_set_apart s _ _ _ herr (.inl (show 11 + 11 ≤ 27 by decide)))
  · exact (get_of_reg hstat).trans (get_set_apart s _ _ _ herr (.inl (show 0 + 11 ≤ 27 by decide)))

/-- A legal write takes no tack back, and a class at its limit takes none. -/
theorem fetchPoolWrite_keepsHeld (ht : Taken s m (Rg.FETCH_POOL k) v.toNat) (hok : s.poolBad k v.toNat = false) :
    Writes (.fetchPoolWrite k m v e) s (fun t =>
      t.poolHeld k = s.poolHeld k ∧ (t.poolLimit k ≤ t.poolHeld k → t.poolMay k = false) ∧
      AccessOnly (fun j => j = Rg.FETCH_POOL k) s t) := by
  have hw : s.writePool k v.toNat = s.plainWrite (Rg.FETCH_POOL k) v.toNat := if_neg (by rw [hok]; exact Bool.false_ne_true)
  have hr : RegsOnly (fun j => j = Rg.FETCH_POOL k) s (s.plainWrite (Rg.FETCH_POOL k) v.toNat) := regsOnly_plainWrite s _ rfl
  refine regsWrite_writes rfl ht (ne_fusecmd_pool k) ((writeReg_pool s _ _ _ k).trans hw) hr
    fun t hreg ha => ⟨?_, fun hfull => ?_, ha⟩
  · have hapart : Rg.FETCH_POOL_STAT k ≠ Rg.FETCH_POOL k := by unfold Rg.FETCH_POOL_STAT Rg.FETCH_POOL; omega
    exact (get_of_reg (hreg _ (not_watchKey_poolStat k))).trans (get_of_reg (reg_setRegN_other s _ hapart))
  · unfold State.poolMay
    rw [decide_eq_false (Nat.not_lt.mpr hfull)]
    rfl

end

/-! ## SYS_EYCFG (R676) -/

theorem writeEycfg_refused {s : State} {o n v : Nat} (hbad : funcOk n (nbits v 27 25) = false ∨ 6 ≤ nbits v 15 13) :
    s.writeEycfg o n v = s.setRegN (Rg.EYIDX_C o) (s.regN (Rg.EYIDX_C o) ||| 2 ^ 27) := by
  refine if_pos ?_
  rw [Bool.or_eq_true]
  rcases hbad with hfunc | hmode
  · exact .inl (by rw [hfunc]; rfl)
  · exact .inr (decide_eq_true hmode)

/-- The copy of SYS_EYIDX with ERR set has the same INDEX. -/
theorem eyidx_setErr (s : State) (o : Nat) :
    (s.setRegN (Rg.EYIDX_C o) (s.regN (Rg.EYIDX_C o) ||| 2 ^ 27)).flag (Fd.EYIDX_C_ERR o) = true ∧
    (s.setRegN (Rg.EYIDX_C o) (s.regN (Rg.EYIDX_C o) ||| 2 ^ 27)).eyIx o = s.eyIx o := by
  have hlt : s.regN (Rg.EYIDX_C o) ||| 2 ^ 27 < 2 ^ 28 := Nat.or_lt_two_pow (regN_lt s _) (by decide)
  have hreg := regN_setRegN_same s (Rg.EYIDX_C o) (s.regN (Rg.EYIDX_C o) ||| 2 ^ 27)
  rw [Nat.mod_eq_of_lt hlt] at hreg
  constructor
  · rw [flag_eq_nbit _ rfl]
    refine (congrArg (nbit · 27) hreg).trans ?_
    rw [nbit_eq_testBit, Nat.testBit_or, Nat.testBit_two_pow_self, Bool.or_true]
  · unfold State.eyIx
    rw [get_eq_regN, get_eq_regN]
    refine (congrArg (fun x => x / 2 ^ 0 % 2 ^ 7) hreg).trans ?_
    have hor : (s.regN (Rg.EYIDX_C o) ||| 2 ^ 27) % 2 ^ 7 = s.regN (Rg.EYIDX_C o) % 2 ^ 7 := by
      rw [Nat.or_mod_two_pow]
      exact Nat.or_zero _
    exact (congrArg (· % 2 ^ 7) (Nat.div_one _)).trans (hor.trans (congrArg (· % 2 ^ 7) (Nat.div_one _).symm))

theorem eyeletConfigWrite_refused {m : Fin 32} {s : State} {v : BitVec 28} {e : Env} (ht : Taken s m Rg.SYS_EYCFG v.toNat)
    (hbad : funcOk (s.eyIx (ownerOfMaster m)) (v.toNat / 2 ^ 25) = false ∨ 6 ≤ v.toNat / 2 ^ 13 % 2 ^ 3) :
    Writes (.eyeletConfigWrite m v e) s (fun t =>
      t.flag (Fd.EYIDX_C_ERR (ownerOfMaster m)) = true ∧ t.eyIx (ownerOfMaster m) = s.eyIx (ownerOfMaster m) ∧
      AccessOnly (fun k => k = Rg.EYIDX_C (ownerOfMaster m)) s t) := by
  have hfunc : nbits v.toNat 27 25 = v.toNat / 2 ^ 25 := Nat.mod_eq_of_lt (by have := v.isLt; omega)
  have hw : s.writeReg (ownerOfMaster m) Rg.SYS_EYCFG v.toNat { beam := e.beam } = _ :=
    (writeReg_eycfg s _ _ _).trans (writeEycfg_refused (hbad.imp_left fun hf => hfunc ▸ hf))
  obtain ⟨herr, hix⟩ := eyidx_setErr s (ownerOfMaster m)
  have hr := regsOnly_setRegN (p := fun k => k = Rg.EYIDX_C (ownerOfMaster m)) s
    (s.regN (Rg.EYIDX_C (ownerOfMaster m)) ||| 2 ^ 27) rfl
  refine regsWrite_writes rfl ht (by decide) hw hr fun t hreg ha => ?_
  have hcopy := hreg _ (not_watchKey_eyidx m)
  exact ⟨(flag_of_reg hcopy).trans herr, (get_of_reg hcopy).trans hix, ha⟩

/-- Settles O56, one lemma for each of its writes. -/
theorem refusedRegisterWrites : Obligations.RefusedRegisterWrites := by
  unfold Obligations.RefusedRegisterWrites
  intro s m v e
  refine ⟨fun h ht hen hslot => lastHdSelWrite_refused ht (selBad_of_broken hen hslot),
    fun k ht hbad => fetchPoolWrite_refused ht ((poolBad_iff s k _).mpr hbad), fun k ht hlegal => ?_, eyeletConfigWrite_refused⟩
  refine fetchPoolWrite_keepsHeld ht (Bool.eq_false_iff.mpr fun hbad => ?_)
  obtain ⟨hle, hlim, hsum⟩ := hlegal
  rcases (poolBad_iff s k _).mp hbad with h | h | h <;> omega

end Sys2Proof.Machine
end

section
/-! Starting and stopping a head by its registers (R112, R227, R230, R231, R262): RUN, the wait for a reference and the underrun
count. -/
namespace Sys2Proof.Machine

/-! ## The registers and their own writes -/

theorem writeReg_pict18 (s : State) (o v : Nat) (c : WriteCtx) {k : Nat} (hk : k / 0x10000 = 0x18) :
    s.writeReg o k v c = s.writePict k v := by
  unfold State.writeReg
  rw [hk]
  rfl

theorem writeReg_hdCtl (s : State) (o v : Nat) (c : WriteCtx) (h : Fin 16) :
    s.writeReg o (Rg.HD_CTL h) v c = s.writeHdCtl h v := by
  have hpace : inArr (Rg.HD_CTL h) (Rg.SL_PACE 0) 16 0x1000 = false := inArr_eq_false (by unfold Rg.HD_CTL Rg.SL_PACE; omega)
  have hslack : inArr (Rg.HD_CTL h) (Rg.SL_SLACK 0) 16 0x1000 = false := inArr_eq_false (by unfold Rg.HD_CTL Rg.SL_SLACK; omega)
  have hin : inArr (Rg.HD_CTL h) (Rg.HD_CTL 0) 16 0x1000 = true := inArr_index (Rg.HD_CTL 0) h.isLt (by decide)
  have hix : arrIx (Rg.HD_CTL h) (Rg.HD_CTL 0) 0x1000 = h := arrIx_index (Rg.HD_CTL 0) h (by decide)
  rw [writeReg_pict18 s o v c (by unfold Rg.HD_CTL; omega)]
  unfold State.writePict
  rw [hpace, hslack, if_neg Bool.false_ne_true, if_neg Bool.false_ne_true, if_pos hin, hix]

theorem writeReg_hdStat (s : State) (o v : Nat) (c : WriteCtx) (h : Fin 16) :
    s.writeReg o (Rg.HD_STAT h) v c = s.writeHdStat h v := by
  have hpace : inArr (Rg.HD_STAT h) (Rg.SL_PACE 0) 16 0x1000 = false := inArr_eq_false (by unfold Rg.HD_STAT Rg.SL_PACE; omega)
  have hslack : inArr (Rg.HD_STAT h) (Rg.SL_SLACK 0) 16 0x1000 = false := inArr_eq_false (by unfold Rg.HD_STAT Rg.SL_SLACK; omega)
  have hctl : inArr (Rg.HD_STAT h) (Rg.HD_CTL 0) 16 0x1000 = false := by
    have hmod : (Rg.HD_STAT h - Rg.HD_CTL 0) % 0x1000 = 4 := by unfold Rg.HD_STAT Rg.HD_CTL; omega
    simp [inArr, hmod]
  have hin : inArr (Rg.HD_STAT h) (Rg.HD_STAT 0) 16 0x1000 = true := inArr_index (Rg.HD_STAT 0) h.isLt (by decide)
  have hix : arrIx (Rg.HD_STAT h) (Rg.HD_STAT 0) 0x1000 = h := arrIx_index (Rg.HD_STAT 0) h (by decide)
  rw [writeReg_pict18 s o v c (by unfold Rg.HD_STAT; omega)]
  unfold State.writePict
  rw [hpace, hslack, hctl, if_neg Bool.false_ne_true, if_neg Bool.false_ne_true, if_neg Bool.false_ne_true, if_pos hin, hix]

theorem not_watchKey_head {k : Nat} (hk : k / 0x10000 = 0x18) : ¬ watchKey k := fun hw => by
  have hb := block_of_watchKey hw
  omega

theorem hdCtl_block (h : Fin 16) : Rg.HD_CTL h / 0x10000 = 0x18 := by unfold Rg.HD_CTL; omega

theorem hdStat_block (h : Fin 16) : Rg.HD_STAT h / 0x10000 = 0x18 := by unfold Rg.HD_STAT; omega

theorem ne_fusecmd_head {k : Nat} (hk : k / 0x10000 = 0x18) : k ≠ Rg.SEC_FUSECMD := by
  rintro rfl
  exact absurd hk (by decide)

theorem hdCtl_fields (h : Fin 16) : (specAt (Rg.HD_CTL h)).map RegSpec.fields =
    some [⟨27, 18, .rw, .val 0x60, .val 0x60, .kept⟩, ⟨17, 17, .rw, .val 0, .val 0, .kept⟩, ⟨16, 16, .rw, .val 0, .val 0, .kept⟩,
      ⟨15, 15, .rw, .val 0, .val 0, .kept⟩, ⟨14, 13, .rw, .val 0, .val 0, .kept⟩, ⟨12, 11, .rw, .val 0, .val 0, .kept⟩,
      ⟨10, 10, .rw, .val 0, .val 0, .kept⟩, ⟨9, 8, .rw, .val 0, .val 0, .kept⟩, ⟨7, 5, .rw, .val 0, .val 0, .kept⟩,
      ⟨4, 4, .rw, .val 1, .val 1, .kept⟩, ⟨3, 2, .rw, .val 1, .val 1, .kept⟩] := by
  revert h
  decide

/-- Bits 15:13 of a sum of fields, of which those above add multiples of 2^16 and those below less than 2^13. -/
theorem bits15To13_of_fields (a b c d e : Nat) {low : Nat} (hd : d < 2) (he : e < 4) (hlow : low < 8192) :
    (a * 262144 + (b * 131072 + (c * 65536 + (d * 32768 + (e * 8192 + low))))) % 268435456 / 8192 % 8 = d * 4 + e := by
  omega

/-- RUN and SRC of HDn_CTL take the write (R261). -/
theorem hdCtl_writeByAccess (h : Fin 16) (old v : Nat) :
    writeByAccess (Rg.HD_CTL h) old v % 2 ^ 28 / 2 ^ 13 % 2 ^ 3 = v / 2 ^ 13 % 2 ^ 3 := by
  rw [writeByAccess_of_fields (hdCtl_fields h)]
  simp only [List.foldl, writeField, nbits, Nat.reduceAdd, Nat.reduceSub, Nat.reducePow, Nat.zero_add, Nat.add_assoc]
  rw [bits15To13_of_fields _ _ _ _ _ (Nat.mod_lt _ (by decide)) (Nat.mod_lt _ (by decide)) (by omega)]
  omega

theorem regN_plainWrite_hdCtl (s : State) (h : Fin 16) (v : Nat) :
    (s.plainWrite (Rg.HD_CTL h) v).regN (Rg.HD_CTL h) / 2 ^ 13 % 2 ^ 3 = v / 2 ^ 13 % 2 ^ 3 := by
  rw [regN_plainWrite_same, hdCtl_writeByAccess]

theorem run_plainWrite (s : State) (h : Fin 16) (v : Nat) :
    (s.plainWrite (Rg.HD_CTL h) v).flag (Fd.HD_CTL_RUN h) = nbit v 15 := by
  have hreg := regN_plainWrite_hdCtl s h v
  rw [flag_eq_nbit _ rfl]
  refine congrArg (· == 1) (?_ : (s.plainWrite (Rg.HD_CTL h) v).regN (Rg.HD_CTL h) / 2 ^ 15 % 2 = v / 2 ^ 15 % 2)
  omega

theorem src_plainWrite (s : State) (h : Fin 16) (v : Nat) :
    (s.plainWrite (Rg.HD_CTL h) v).get (Fd.HD_CTL_SRC h) = v / 2 ^ 13 % 4 := by
  have hreg := regN_plainWrite_hdCtl s h v
  rw [get_eq_regN]
  change (s.plainWrite (Rg.HD_CTL h) v).regN (Rg.HD_CTL h) / 2 ^ 13 % 2 ^ 2 = _
  omega

/-- The timing registers stand beside HDn_CTL. -/
theorem headTimingOk_plainWrite (s : State) (h : Fin 16) (v : Nat) :
    (s.plainWrite (Rg.HD_CTL h) v).headTimingOk h = s.headTimingOk h := by
  unfold State.headTimingOk
  rw [regN_plainWrite_other s v (by unfold Rg.HD_HTIME Rg.HD_CTL; omega), regN_plainWrite_other s v (by unfold Rg.HD_VTIME Rg.HD_CTL; omega),
    regN_plainWrite_other s v (by unfold Rg.HD_START Rg.HD_CTL; omega), regN_plainWrite_other s v (by unfold Rg.HD_PCLK Rg.HD_CTL; omega)]

/-! ## What starts and stops leave alone -/

/-- The head as it starts (R231). -/
def HeadS.begun (v : HeadS) : HeadS := { v with running := true, waitRef := false, inFrame := false, good := 0, ivals := [] }

/-- The first latch point of a head that starts. -/
def State.firstLatch (s : State) (h : Nat) : State := (s.modHead h HeadS.begun).latchMany [h] (fun _ => 0)

theorem headStart_eq (s : State) (h : Nat) :
    s.headStart h = if ((s.firstLatch h).headS h).running = true then
      (s.firstLatch h).setLock h (if (s.firstLatch h).hasRef h then 1 else 0) else s.firstLatch h := rfl

/-- HDn_CTL has the value `r`, and memory is `m`. -/
def State.ctlMem (h : Nat) (r : RegVal) (m : List (Nat × BitVec 8)) (s : State) : Prop := s.reg (Rg.HD_CTL h) = r ∧ s.mem = m

/-- No change of a head matters to it: 16 is no head's number. -/
theorem latchClosed_ctlMem {h : Nat} (hh : h < 16) (r : RegVal) (m : List (Nat × BitVec 8)) : LatchClosed 16 (State.ctlMem h r m) where
  toLineClosed := lineClosed_and (lineClosed_reg (by unfold lineKey Rg.HD_CTL; omega) r) (lineClosed_mem m)
  near _ _ ht _ := ht
  soles _ _ ht := ht
  reg {s} k w ht hk := ⟨(reg_setReg_other s k _ w (by unfold Rg.HD_CTL; omega)).trans ht.1, ht.2⟩

namespace LatchClosed

variable {g : Nat} {P : State → Prop} (hP : LatchClosed g P) {s : State}
include hP

theorem latchMany_others {mask : List Nat} (top : Nat → Nat) (hmask : ∀ k ∈ mask, k < 16) (hg : g ∉ mask) (hs : P s) :
    P (s.latchMany mask top) := by
  have hends := SteadyClosed.foldl mask (fun a k ha => hP.frameEnd k (top k) (s := a) ha) hs
  exact keeps_foldl (fun k hk a ha => hP.latchOne_other (s := a) (hmask k hk) (fun he => hg (he ▸ hk)) ha)
    (SteadyClosed.ite hends (hP.setArms _ hends))

theorem modHead_other {k : Nat} (hk : k ≠ g) (f : HeadS → HeadS) (hs : P s) : P (s.modHead k f) :=
  hP.near k hs fun he => absurd he hk

theorem headStart_other {k : Nat} (hk : k < 16) (hne : k ≠ g) (hs : P s) : P (s.headStart k) := by
  have hlatched : P (s.firstLatch k) :=
    hP.latchMany_others (fun _ => 0) (by simpa using hk) (by simpa using hne.symm) (hP.modHead_other hne HeadS.begun hs)
  rw [headStart_eq]
  exact SteadyClosed.ite (hP.setLock k _ hlatched) hlatched

theorem headStopNow_other {k : Nat} (hne : k ≠ g) (hs : P s) : P (s.headStopNow k) :=
  hP.setLock k 0 (hP.modHead_other hne _ (hP.cancelArms k hs))

theorem headGo_other {k : Nat} (hk : k < 16) (hne : k ≠ g) (hs : P s) : P (s.headGo k) := by
  have htake := hP.takeTiming k hs
  exact SteadyClosed.ite (hP.setLock k 1 (hP.modHead_other hne _ htake)) (hP.headStart_other hk hne htake)

end LatchClosed

theorem ctlMem_self (s : State) (h : Nat) : State.ctlMem h (s.reg (Rg.HD_CTL h)) s.mem s := ⟨rfl, rfl⟩

/-! ## Starting and stopping a head (R231) -/

theorem headS_set (s : State) (f : Fd) (x h : Nat) : (s.set f x).headS h = s.headS h := rfl

theorem waitRef_setLock (s : State) (h st : Nat) : ((s.setLock h st).headS h).waitRef = (s.headS h).waitRef := by
  unfold State.setLock
  rw [headS_set]
  split
  · rw [headS_modHead_same]
  · rfl

theorem lock_setLock (s : State) {h st : Nat} (hst : st < 4) : (s.setLock h st).get (Fd.HD_STAT_LOCK h) = st :=
  (get_set_same _ _ _ (show 26 + 2 ≤ 28 by decide)).trans (Nat.mod_eq_of_lt hst)

/-- A head that starts runs: its start is a latch point with RUN at 1. -/
theorem running_headStart {s : State} {h : Nat} (hh : h < 16) (hrun : s.flag (Fd.HD_CTL_RUN h) = true) :
    ((s.headStart h).headS h).running = true := by
  have hv : ((s.modHead h HeadS.begun).headS h).frames = (s.headS h).begun.frames := by rw [headS_modHead_same]
  have hstart : State.latchAt h (nextFrames true (s.headS h).begun.frames) (s.reg (Rg.HD_CTL h)) (s.firstLatch h) :=
    latchAt_latchMany (fun _ => 0) (by simpa using hh) (List.nodup_singleton h) (List.mem_singleton_self h) hrun ⟨hv, rfl⟩
  have hend : State.latchAt h (nextFrames true (s.headS h).begun.frames) (s.reg (Rg.HD_CTL h)) (s.headStart h) := by
    rw [headStart_eq]
    exact SteadyClosed.ite ((latchClosed_latchAt hh _ _).setLock h _ hstart) hstart
  exact congrArg (fun x : Nat × Bool × Nat × Bool => x.2.1) hend.1

theorem flag_takeTiming (s : State) {h : Nat} (hh : h < 16) : (s.takeTiming h).flag (Fd.HD_CTL_RUN h) = s.flag (Fd.HD_CTL_RUN h) :=
  flag_of_reg ((latchClosed_ctlMem hh _ _).takeTiming h (ctlMem_self s h)).1

/-- RUN reaches a stopped head: it waits for its reference where it has one, and runs where it has none. -/
theorem headGo_starts {s : State} {h : Nat} (hh : h < 16) (hrun : s.flag (Fd.HD_CTL_RUN h) = true) :
    if s.get (Fd.HD_CTL_SRC h) = 1 ∨ s.get (Fd.HD_CTL_SRC h) = 2 then
      ((s.headGo h).headS h).waitRef = true ∧ (s.headGo h).get (Fd.HD_STAT_LOCK h) = 1
    else ((s.headGo h).headS h).running = true := by
  unfold State.headGo
  split
  · next hsrc =>
    rw [if_pos hsrc]
    refine ⟨(waitRef_setLock _ h 1).trans ?_, lock_setLock _ (by decide)⟩
    rw [headS_modHead_same]
  · next hsrc =>
    rw [if_neg hsrc]
    exact running_headStart hh ((flag_takeTiming s hh).trans hrun)

theorem headStopNow_stops (s : State) (h : Nat) :
    ((s.headStopNow h).headS h).waitRef = false ∧ (s.headStopNow h).get (Fd.HD_STAT_LOCK h) = 0 := by
  refine ⟨(waitRef_setLock _ h 0).trans ?_, lock_setLock _ (by decide)⟩
  rw [headS_modHead_same]

theorem writeHdCtl_run {s : State} {h : Fin 16} {v : Nat} (hok : s.ctlBad h v = false) (hv : nbit v 15 = true)
    (htime : s.headTimingOk h = true) (hrun : (s.headS h).running = false) (hwait : (s.headS h).waitRef = false)
    (hreset : s.unitInReset (uHead h) = false) : s.writeHdCtl h v = (s.plainWrite (Rg.HD_CTL h) v).headGo h := by
  have hreset' : (s.plainWrite (Rg.HD_CTL h) v).unitInReset (uHead h) = false := hreset
  unfold State.writeHdCtl
  simp only [hok, hv, hrun, hwait, hreset', (headTimingOk_plainWrite s h v).trans htime, Bool.false_eq_true, if_false, if_true,
    Bool.or_self, Bool.not_true]

theorem writeHdCtl_stop {s : State} {h : Fin 16} {v : Nat} (hok : s.ctlBad h v = false) (hv : nbit v 15 = false) :
    s.writeHdCtl h v =
      if (s.headS h).waitRef = true then (s.plainWrite (Rg.HD_CTL h) v).headStopNow h else s.plainWrite (Rg.HD_CTL h) v := by
  unfold State.writeHdCtl
  simp only [hok, hv, Bool.false_eq_true, if_false]

/-! ## The writes as commands -/

theorem headS_afterWrite (s : State) (m k v : Nat) (e : Env) (h : Nat) :
    (s.afterWrite m k v e).headS h = (s.writeReg (ownerOfMaster m) k v { beam := e.beam }).headS h := by
  rw [afterWrite_eq_withAccess]
  rfl

section
variable {m : Fin 32} {s : State} {v : BitVec 28} {e : Env} {h : Fin 16}

/-- A write of HDn_CTL, by what its own write leaves. -/
theorem hdCtl_writes {c : Instr} {w : State} {P : State → Prop} (hx : exec c s = wrote s m (Rg.HD_CTL h) v e)
    (ht : Taken s m (Rg.HD_CTL h) v.toNat) (hw : s.writeHdCtl h v.toNat = w)
    (hP : ∀ t, t.flag (Fd.HD_CTL_RUN h) = w.flag (Fd.HD_CTL_RUN h) → t.get (Fd.HD_STAT_LOCK h) = w.get (Fd.HD_STAT_LOCK h) →
      t.headS h = w.headS h → t.mem = w.mem → P t) : Writes c s P := by
  have hw' : s.writeReg (ownerOfMaster m) (Rg.HD_CTL h) v.toNat { beam := e.beam } = w := (writeReg_hdCtl s _ _ _ h).trans hw
  refine writes_of hx ht (ne_fusecmd_head (hdCtl_block h)) (hP _ ?_ ?_ ?_ ?_)
  · refine flag_of_get ((get_afterWrite s m _ _ e (Fd.HD_CTL_RUN h) (not_watchKey_head (hdCtl_block h))).trans ?_)
    rw [hw']
  · rw [get_afterWrite s m _ _ e (Fd.HD_STAT_LOCK h) (not_watchKey_head (hdStat_block h)), hw']
  · rw [headS_afterWrite, hw']
  · rw [mem_afterWrite, hw']

theorem headRun_writes (ht : Taken s m (Rg.HD_CTL h) v.toNat) (hok : s.ctlBad h v.toNat = false) (hv : nbit v.toNat 15 = true)
    (htime : s.headTimingOk h = true) (hrun : (s.headS h).running = false) (hwait : (s.headS h).waitRef = false)
    (hreset : s.unitInReset (uHead h) = false) :
    Writes (.headRun h m v e) s (fun t =>
      t.flag (Fd.HD_CTL_RUN h) = true ∧
      (if v.toNat / 2 ^ 13 % 4 = 1 ∨ v.toNat / 2 ^ 13 % 4 = 2 then (t.headS h).waitRef = true ∧ t.get (Fd.HD_STAT_LOCK h) = 1
        else (t.headS h).running = true) ∧
      t.mem = s.mem) := by
  refine hdCtl_writes rfl ht (writeHdCtl_run hok hv htime hrun hwait hreset) fun t hflag hlock hhead hmem => ?_
  have hon := (run_plainWrite s h v.toNat).trans hv
  obtain ⟨hreg, hkept⟩ := (latchClosed_ctlMem h.isLt _ _).headGo_other h.isLt (Nat.ne_of_lt h.isLt)
    (ctlMem_self (s.plainWrite (Rg.HD_CTL h) v.toNat) h)
  have hgo := headGo_starts h.isLt hon
  rw [src_plainWrite] at hgo
  rw [hhead, hlock]
  exact ⟨hflag.trans ((flag_of_reg (f := Fd.HD_CTL_RUN h) hreg).trans hon), hgo, hmem.trans hkept⟩

theorem headStop_writes (ht : Taken s m (Rg.HD_CTL h) v.toNat) (hok : s.ctlBad h v.toNat = false) (hv : nbit v.toNat 15 = false) :
    Writes (.headStop h m v e) s (fun t =>
      t.flag (Fd.HD_CTL_RUN h) = false ∧
      ((s.headS h).waitRef = true → (t.headS h).waitRef = false ∧ t.get (Fd.HD_STAT_LOCK h) = 0) ∧
      ((s.headS h).waitRef = false → t.headS h = s.headS h) ∧ t.mem = s.mem) := by
  refine hdCtl_writes rfl ht (writeHdCtl_stop hok hv) fun t hflag hlock hhead hmem => ?_
  have hoff := (run_plainWrite s h v.toNat).trans hv
  rw [hhead, hlock, hflag, hmem]
  split
  · next hwait =>
    obtain ⟨hreg, hkept⟩ := (latchClosed_ctlMem h.isLt _ _).headStopNow_other (Nat.ne_of_lt h.isLt)
      (ctlMem_self (s.plainWrite (Rg.HD_CTL h) v.toNat) h)
    exact ⟨(flag_of_reg (f := Fd.HD_CTL_RUN h) hreg).trans hoff, fun _ => headStopNow_stops _ h,
      fun hno => absurd (hwait.symm.trans hno) (by decide), hkept⟩
  · next hwait => exact ⟨hoff, fun hyes => absurd hyes hwait, fun _ => rfl, rfl⟩

theorem underrunCountClear_writes (ht : Taken s m (Rg.HD_STAT h) v.toNat) (hv : nbit v.toNat 24 = true) :
    Writes (.underrunCountClear h m v e) s (fun t =>
      t.get (Fd.HD_STAT_URCNT h) = 0 ∧ AccessOnly (fun k => k = Rg.HD_STAT h) s t) := by
  have hw : s.writeHdStat h v.toNat = (s.plainWrite (Rg.HD_STAT h) v.toNat).set (Fd.HD_STAT_URCNT h) 0 := if_pos hv
  have hr : RegsOnly (fun k => k = Rg.HD_STAT h) s ((s.plainWrite (Rg.HD_STAT h) v.toNat).set (Fd.HD_STAT_URCNT h) 0) :=
    regsOnly_trans (regsOnly_plainWrite s _ rfl) (regsOnly_set _ _ 0 rfl)
  refine regsWrite_writes rfl ht (ne_fusecmd_head (hdStat_block h)) ((writeReg_hdStat s _ _ _ h).trans hw) hr fun t hreg ha => ⟨?_, ha⟩
  exact (get_of_reg (f := Fd.HD_STAT_URCNT h) (hreg _ (not_watchKey_head (hdStat_block h)))).trans
    (get_set_same _ _ 0 (show 16 + 7 ≤ 28 by decide))

end

/-- Settles O6, one lemma for each of its writes. -/
theorem headWritesComplete : Obligations.HeadWritesComplete := by
  unfold Obligations.HeadWritesComplete
  intro h m s v e
  exact ⟨lastHdSelWrite_writes, headRun_writes, headStop_writes, underrunCountClear_writes⟩

end Sys2Proof.Machine
end

section
/-! A packet that Tongue takes and that makes no access of its own: what its opcode's rule leaves, with its first reply (R382, R387,
R395, R398). -/
namespace Sys2Proof.Machine

/-! ## The serial host port leaves the reset state alone -/

theorem rst_serialWord (s : State) (w : Nat) : (s.serialWord w).rst = s.rst := by
  unfold State.serialWord
  split
  · rfl
  · split
    · exact set_rst _ _ _
    · rfl

theorem rst_serialSwap (k : Nat) : ∀ (s : State) (n : Nat) (acc : List Nat), (s.serialSwap k n acc).rst = s.rst := by
  induction k with
  | zero => exact fun _ _ _ => rfl
  | succ k ih =>
    intro s n acc
    unfold State.serialSwap
    split
    · rfl
    · exact ih _ _ _

theorem rst_serialArrive (s : State) (src : Src) (op : Nat) (p : Packet) : (s.serialArrive src op p).rst = s.rst := by
  have hwords (ws : List Nat) : (ws.foldl State.serialWord s).rst = s.rst :=
    SteadyClosed.foldl (P := fun t : State => t.rst = s.rst) ws (fun a w ha => (rst_serialWord a w).trans ha) rfl
  have hclock (ws : List Nat) : (s.serialClock ws).rst = s.rst :=
    SteadyClosed.ite (P := fun t : State => t.rst = s.rst) ((rst_serialSwap _ _ _ _).trans (hwords ws)) rfl
  exact SteadyClosed.ite (P := fun t : State => t.rst = s.rst) (hclock _) rfl

/-- Tongue takes no packet in a reset episode (R750). -/
theorem inEpisode_of_heard {s : State} {src : Src} {op : Nat} {p : Packet} {e : Env} {b : Bus} (h : Heard s src op p e b) :
    s.inEpisode = false := by
  obtain ⟨-, hfree, -⟩ := h
  have hup : (s.serialArrive src op p).tongueUp = true := by
    unfold State.tongueFree at hfree
    simp only [Bool.and_eq_true] at hfree
    exact hfree.1.1.1
  have hout : (s.serialArrive src op p).inEpisode = false := by
    unfold State.tongueUp at hup
    simp only [Bool.and_eq_true, Bool.not_eq_true'] at hup
    exact hup.1.1.1
  unfold State.inEpisode at hout ⊢
  rwa [rst_serialArrive] at hout

/-! ## Replies (R382, R398) -/

/-- A reply touches nothing but Tongue's own state. -/
theorem answer_eq (w : State) (r : Req) (status : Nat) (body : List Nat) :
    w.answer r status body = { w with tongue := (w.answer r status body).tongue } := by
  unfold State.answer State.putReply
  split <;> rfl

theorem ringGen_answer (w : State) (r : Req) (status : Nat) (body : List Nat) :
    (w.answer r status body).tongue.ringGen = w.tongue.ringGen := by
  unfold State.answer State.putReply
  split <;> rfl

theorem replies_answer (w : State) (r : Req) (status : Nat) (body : List Nat) :
    (w.answer r status body).tongue.replies = w.tongue.replies ++
      (if w.srcEnabled r.src = true ∧ w.genOf r.src = r.gen then [⟨r.src, w.replyWords r status body, r.origin, false⟩] else []) := by
  by_cases hon : w.srcEnabled r.src = true ∧ w.genOf r.src = r.gen
  · have hput : w.answer r status body = _ := if_pos (by simpa using hon)
    rw [hput, if_pos hon]
  · have hput : w.answer r status body = w := if_neg (by simpa using hon)
    rw [hput, if_neg hon, List.append_nil]

/-- A request gets one more reply where the state it is answered in has Tongue's state unchanged. -/
theorem repliedTo_answer {s w : State} (hw : w.tongue = s.tongue) (r : Req) (status : Nat) (body : List Nat) (x : WeltS) :
    RepliedTo s { w.answer r status body with welt := x } r status body := by
  have hreplies := replies_answer w r status body
  have hgen := ringGen_answer w r status body
  rw [hw] at hreplies
  rw [answer_eq]
  generalize (w.answer r status body).tongue = g at hreplies hgen ⊢
  have hsess : ({ w with tongue := g, welt := x } : State).genOf r.src = w.genOf r.src :=
    congrArg (fun l => tabGet 0 l (srcKey r.src)) hgen
  change g.replies = _ ++ if _ ∧ ({ w with tongue := g, welt := x } : State).genOf r.src = r.gen then _ else []
  rw [hsess]
  exact hreplies

/-- The packet's only reply becomes its first one. -/
theorem replies_markFirst {w : State} {src : Src} {l : List Reply} {c : Prop} [Decidable c] {ws : List Nat} {origin : Nat}
    (hw : w.tongue.replies = l ++ if c then [⟨src, ws, origin, false⟩] else []) :
    (w.markFirst src l.length).tongue.replies = l ++ if c then [⟨src, ws, origin, true⟩] else [] := by
  unfold State.markFirst
  by_cases hc : c
  · rw [if_pos hc] at hw ⊢
    rw [hw, List.drop_left, List.take_left]
    simp
  · rw [if_neg hc] at hw ⊢
    rw [hw, List.append_nil, List.drop_length]
    exact hw.trans (List.append_nil l)

theorem markFirst_eq (w : State) (src : Src) (n : Nat) : w.markFirst src n = { w with tongue := (w.markFirst src n).tongue } := by
  unfold State.markFirst
  split
  · rfl
  · split <;> rfl

/-! ## The packet itself -/

/-- The state in which Tongue runs a packet that it has taken from `src`. -/
def State.runs (s : State) (src : Src) (op : Nat) (p : Packet) : State :=
  (s.dropBus 297).setRunning (some { req := s.reqOf src p, op := op, pkt := p })

/-- The state after the packet, whose rule left `w`. -/
def State.ranPacket (w : State) (src : Src) (n : Nat) : State := ((w.setRunning none).markFirst src n).dropBus 0x16

section
variable {s : State} {src : Src} {op : Nat} {p : Packet} {e : Env} {b : Bus} {f : State → Req → Nat → State}

/-- Once its accesses are done, the answers a requester held are dropped. -/
theorem finish_of_done {b : Bus} {q : Nat} {body : Bus → Fin'} {t : State} (h : body b = .done t) : b.finish q body = t.dropBus q := by
  unfold Bus.finish
  rw [h]

theorem runPacket_of_done {b : Bus} {x : Running} {body : Bus → Req → Nat → Fin'} {t : State}
    (h : b.tongue x.req x.op x.pkt body = .done t) : b.runPacket x body = t.ranPacket x.req.src b.s.tongue.replies.length := by
  unfold Bus.runPacket
  exact finish_of_done (by rw [h])

/-- The packet passes the checks of R387 and its rule acts. -/
theorem tongue_here {b : Bus} {r : Req} {body : Bus → Req → Nat → Fin'} (hhere : b.s.isHere p = true)
    (hboot : b.s.bootBars r.src op p true = false) (hop : opKnown op = true) (hlen : lenOk op p = true)
    (hsel : (op == 0x21 || op == 0x38) = false) : b.tongue r op p body = body b r (b.s.ownerOfSrc r.src) := by
  unfold Bus.tongue
  simp only [hhere, hboot, hop, hlen, hsel, Bool.false_eq_true, if_false, Bool.not_true, Bool.false_and]

theorem tongueRow_heard (h : Heard s src op p e b) (hop : opKnown op = true) (hlen : lenOk op p = true)
    (hsel : (op == 0x21 || op == 0x38) = false) :
    s.tongueRow src op p e true (plainBody f) =
      (f (b.s.runs src op p) (b.s.reqOf src p) (b.s.ownerOfSrc src)).ranPacket src b.s.tongue.replies.length := by
  obtain ⟨hidle, hfree, hroom, hthere, htake, hhere, hboot⟩ := h
  have hrun : ({ b with s := b.s.runs src op p } : Bus).tongue (b.s.reqOf src p) op p (plainBody f) =
      .done (f (b.s.runs src op p) (b.s.reqOf src p) (b.s.ownerOfSrc src)) := tongue_here hhere hboot hop hlen hsel
  unfold State.tongueRow
  rw [hidle]
  simp only [Option.filter_none, hfree, hroom, hthere, htake, Bool.not_true, Bool.false_and, Bool.or_self, Bool.false_eq_true,
    if_false]
  exact runPacket_of_done hrun

/-- What is left of a packet whose rule answers it at once: its first reply, and nothing else of Tongue and Welt is said. -/
theorem ranPacket_answer {w : State} {status : Nat} {body : List Nat} (hw : w.tongue = (b.s.runs src op p).tongue) :
    let t := (w.answer (b.s.reqOf src p) status body).ranPacket src b.s.tongue.replies.length
    Replied b.s t src p status body ∧ t = { w with tongue := t.tongue, welt := t.welt } := by
  have hgen : w.genOf src = b.s.genOf src := by
    unfold State.genOf
    rw [hw]
    rfl
  have hold : w.tongue.replies = b.s.tongue.replies := by
    rw [hw]
    rfl
  have hreplies := replies_answer w (b.s.reqOf src p) status body
  rw [hold] at hreplies
  simp only [show (b.s.reqOf src p).src = src from rfl, show (b.s.reqOf src p).gen = b.s.genOf src from rfl, hgen, and_true] at hreplies
  have hfirst := replies_markFirst (w := (w.answer (b.s.reqOf src p) status body).setRunning none) (src := src) hreplies
  have heq : (w.answer (b.s.reqOf src p) status body).ranPacket src b.s.tongue.replies.length =
      { w with tongue := ((w.answer (b.s.reqOf src p) status body).ranPacket src b.s.tongue.replies.length).tongue,
               welt := ((w.answer (b.s.reqOf src p) status body).ranPacket src b.s.tongue.replies.length).welt } := by
    unfold State.ranPacket
    rw [markFirst_eq, answer_eq]
    rfl
  refine ⟨?_, heq⟩
  rw [heq]
  exact hfirst

/-- A packet's command, from what its rule does where Tongue runs it: `w` is the state it answers in. -/
theorem packet_answers {c : Instr} {form : Bool} {w : State} {status : Nat} {body : List Nat} {P : State → Prop}
    (hx : exec c s = event s (s.tongueRow src op p e form (plainBody f))) (h : Heard s src op p e b) (hform : form = true)
    (hop : opKnown op = true) (hlen : lenOk op p = true) (hsel : (op == 0x21 || op == 0x38) = false)
    (hf : f (b.s.runs src op p) (b.s.reqOf src p) (b.s.ownerOfSrc src) = w.answer (b.s.reqOf src p) status body)
    (hw : w.tongue = (b.s.runs src op p).tongue)
    (hP : ∀ g x, Replied b.s { w with tongue := g, welt := x } src p status body → P { w with tongue := g, welt := x }) :
    Answers c s P := by
  subst hform
  refine answers_event hx (inEpisode_of_heard h) ?_
  rw [tongueRow_heard h hop hlen hsel, hf]
  obtain ⟨hreplied, heq⟩ := ranPacket_answer (status := status) (body := body) hw
  rw [heq]
  rw [heq] at hreplied
  exact hP _ _ hreplied

end
end Sys2Proof.Machine
end

section
/-! Words staged in a slot of the Last store, and a slot's state (R79, R97, R98). -/
namespace Sys2Proof.Machine

/-! ## Runs of words in memory -/

theorem putLE_eq (n : Nat) : ∀ (s : State) (a v : Nat), s.putLE a n v = { s with mem := (s.putLE a n v).mem } := by
  induction n with
  | zero => exact fun _ _ _ => rfl
  | succ n ih => exact fun s a v => ih (s.setByte a (v % 256)) (a + 1) (v / 256)

/-- A store of words changes only memory. -/
theorem setWords_eq (l : List Nat) : ∀ (s : State) (a : Nat), s.setWords a l = { s with mem := (s.setWords a l).mem } := by
  induction l with
  | nil => exact fun _ _ => rfl
  | cons v l ih =>
    intro s a
    have hword : s.setWord a v = { s with mem := (s.setWord a v).mem } := putLE_eq 4 s a v
    have hrest := ih (s.setWord a v) (a + 4)
    rw [State.setWords, hrest]
    exact congrArg (fun t : State => { t with mem := ((s.setWord a v).setWords (a + 4) l).mem }) hword

theorem byte_setWords_other (l : List Nat) {x : Nat} : ∀ (s : State) (a : Nat), x < a ∨ a + 4 * l.length ≤ x →
    (s.setWords a l).byte x = s.byte x := by
  induction l with
  | nil => exact fun _ _ _ => rfl
  | cons v l ih =>
    intro s a hx
    rw [List.length_cons] at hx
    rw [State.setWords, ih _ _ (by omega), byte_setWord_other _ _ _ _ (by omega)]

theorem bytesLE_of_bytes {s t : State} (n : Nat) : ∀ a, (∀ x, a ≤ x → x < a + n → t.byte x = s.byte x) →
    t.bytesLE a n = s.bytesLE a n := by
  induction n with
  | zero => exact fun _ _ => rfl
  | succ n ih =>
    intro a h
    rw [State.bytesLE, State.bytesLE, h a (by omega) (by omega), ih (a + 1) fun x hlo hhi => h x (by omega) (by omega)]

/-- Stored words read back. -/
theorem words_setWords (l : List Nat) (hl : ∀ v ∈ l, v < 2 ^ 32) : ∀ (s : State) (a : Nat), (s.setWords a l).words a l.length = l := by
  induction l with
  | nil => exact fun _ _ => rfl
  | cons v l ih =>
    intro s a
    have hword : ((s.setWord a v).setWords (a + 4) l).word a = v :=
      (bytesLE_of_bytes 4 a fun x _ hx => byte_setWords_other l _ _ (.inl hx)).trans
        ((word_setWord_same s a v).trans (Nat.mod_eq_of_lt (hl v List.mem_cons_self)))
    rw [List.length_cons, State.words, State.setWords, hword, ih (fun x hx => hl x (List.mem_cons_of_mem _ hx))]

theorem words_of_mem {s t : State} (hm : t.mem = s.mem) (n : Nat) : ∀ a, t.words a n = s.words a n := by
  induction n with
  | zero => exact fun _ => rfl
  | succ n ih =>
    intro a
    have hword : t.word a = s.word a := bytesLE_of_mem hm a 4
    rw [State.words, State.words, hword, ih]

theorem byte_of_mem {s t : State} (hm : t.mem = s.mem) (x : Nat) : t.byte x = s.byte x := by
  unfold State.byte
  rw [hm]

/-! ## Staging (R97, R98) -/

section
variable (s : State) (slot off : Nat) (ws : List Nat)

theorem mem_stageWords : (s.stageWords slot off ws).mem = (s.setWords (slotBase slot + off) ws).mem := by
  cases ws with
  | nil => rfl
  | cons v l => rfl

/-- Staged words change memory and the staged length. -/
theorem stageWords_eq : s.stageWords slot off ws =
    { s with mem := (s.stageWords slot off ws).mem, last := { s.last with staged := (s.stageWords slot off ws).last.staged } } := by
  have hwords := setWords_eq ws s (slotBase slot + off)
  unfold State.stageWords
  split
  · rfl
  · rw [hwords]

theorem staged_stageWords (hne : ws ≠ []) :
    tabGet 0 (s.stageWords slot off ws).last.staged slot = max (tabGet 0 s.last.staged slot) (off + 4 * ws.length) := by
  have hempty : ¬ ws.isEmpty = true := by simpa using hne
  have hlast : (s.setWords (slotBase slot + off) ws).last = s.last := by rw [setWords_eq]
  unfold State.stageWords
  rw [if_neg hempty]
  dsimp only
  rw [tabGet_put_same, hlast]

theorem words_stageWords (hws : ∀ v ∈ ws, v < 2 ^ 32) : (s.stageWords slot off ws).words (slotBase slot + off) ws.length = ws :=
  (words_of_mem (mem_stageWords s slot off ws) _ _).trans (words_setWords ws hws s _)

/-- Staged words stay in their slot. -/
theorem byte_stageWords (hfit : off + 4 * ws.length ≤ 0x100000) {x : Nat} (hx : x < slotBase slot ∨ slotBase slot + 0x100000 ≤ x) :
    (s.stageWords slot off ws).byte x = s.byte x :=
  (byte_of_mem (mem_stageWords s slot off ws) x).trans (byte_setWords_other ws s _ (by omega))

end

/-! ## A slot's state (R79, R121, R127) -/

theorem slotState_of_reg {s t : State} (h : t.reg Rg.LAST_SLOTSTAT = s.reg Rg.LAST_SLOTSTAT) (n : Nat) : t.slotState n = s.slotState n := by
  unfold State.slotState
  rw [get_of_reg h]

theorem slotState_setSlot (s : State) {n st : Nat} (hn : n < 8) (hst : st < 8) : (s.setSlot n st).slotState n = st := by
  have hkey : Rg.LAST_SLOTSTAT ≠ (Fd.LAST_SLOT_ID_NAME n).key := by
    change Rg.LAST_SLOTSTAT ≠ Rg.LAST_SLOT_ID n
    unfold Rg.LAST_SLOTSTAT Rg.LAST_SLOT_ID
    omega
  have hlt : putBits (s.get Fd.LAST_SLOTSTAT_STATE) (3 * n) 3 st < 2 ^ 24 := putBits_lt (get_lt s _) (by omega)
  have hpow : 8 ^ n = 2 ^ (3 * n) := by rw [pow_mul, show 2 ^ 3 = 8 from rfl]
  refine (slotState_of_reg (reg_set_key _ (Fd.LAST_SLOT_ID_NAME n) _ _ hkey) n).trans ?_
  unfold State.slotState
  rw [get_set_same _ _ _ (by decide), show Fd.LAST_SLOTSTAT_STATE.w = 24 from rfl, Nat.mod_eq_of_lt hlt, hpow]
  exact (putBits_field _ _ 3 _).trans (Nat.mod_eq_of_lt hst)

theorem regsOnly_setSlot (s : State) (n st : Nat) :
    RegsOnly (fun k => k = Rg.LAST_SLOTSTAT ∨ k = Rg.LAST_SLOT_ID n) s (s.setSlot n st) :=
  regsOnly_trans (regsOnly_set s Fd.LAST_SLOTSTAT_STATE _ (.inl rfl)) (regsOnly_set _ (Fd.LAST_SLOT_ID_NAME n) _ (.inr rfl))

/-! ## OPEN (R97) -/

section
variable (s : State) {slot : Nat}

theorem slotState_openSlot (hslot : slot < 8) : (s.openSlot slot).slotState slot = 1 := slotState_setSlot _ hslot (by decide)

theorem staged_openSlot (slot : Nat) : tabGet 0 (s.openSlot slot).last.staged slot = 0 := by
  have herase : (s.openSlot slot).last.staged = tabErase s.last.staged slot := rfl
  unfold tabGet
  rw [herase, tabFind_erase_same]
  rfl

theorem byte_openSlot {x : Nat} (hx : x < slotBase slot ∨ slotBase slot + 0x100000 ≤ x) : (s.openSlot slot).byte x = s.byte x :=
  byte_loseMem_out s _ _ x hx

/-- The slot that a LAST_STAGE writes: opened first where OPEN asks it. -/
def State.stageOpen (s : State) (opn : Bool) (slot : Nat) : State := if opn then s.openSlot slot else s

theorem slotState_stageOpen {opn : Bool} (hslot : slot < 8) (h : s.slotState slot = 1 ∨ opn = true) :
    (s.stageOpen opn slot).slotState slot = 1 := by
  cases opn with
  | false => exact h.resolve_right Bool.false_ne_true
  | true => exact slotState_openSlot s hslot

theorem staged_stageOpen (opn : Bool) (slot : Nat) :
    tabGet 0 (s.stageOpen opn slot).last.staged slot = if opn then 0 else tabGet 0 s.last.staged slot := by
  cases opn with
  | false => rfl
  | true => exact staged_openSlot s slot

theorem byte_stageOpen (opn : Bool) {x : Nat} (hx : x < slotBase slot ∨ slotBase slot + 0x100000 ≤ x) :
    (s.stageOpen opn slot).byte x = s.byte x := by
  cases opn with
  | false => rfl
  | true => exact byte_openSlot s hx

theorem tongue_stageOpen (opn : Bool) (slot : Nat) : (s.stageOpen opn slot).tongue = s.tongue := by
  cases opn with
  | false => rfl
  | true => rfl

theorem copies_stageOpen (opn : Bool) (slot : Nat) : (s.stageOpen opn slot).last.copies = s.last.copies := by
  cases opn with
  | false => rfl
  | true => rfl

end
end Sys2Proof.Machine
end

section
/-! LAST_STAGE, its copies, RELEASE and LAST_ADMIT (R97–R102): what each rule does where it refuses nothing, and as commands. -/
namespace Sys2Proof.Machine

/-! ## LAST_STAGE (R97–R99) -/

theorem nbits_zero (v hi : Nat) : nbits v hi 0 = v % 2 ^ (hi + 1) := by
  unfold nbits
  rw [pow_zero, Nat.div_one, Nat.sub_zero]

section
variable {a : State} {r : Req} {o : Nat} {p : Packet}

/-- LAST_STAGE without MEM stores its words. -/
theorem lastStage_words (hmem : nbit (p.w 2) 26 = false) (hown : a.mayWrite o 9 = true)
    (hfit : p.w 3 % 2 ^ 20 + 4 * (p.len - 4) ≤ 1048576) (halign : p.w 3 % 2 ^ 20 % 4 = 0) (hdom : a.domOn 6 = true)
    (hslot : a.slotState (p.w 2 % 8) < 2) (hcopy : a.copying (p.w 2 % 8) = false)
    (hopen : a.slotState (p.w 2 % 8) = 1 ∨ nbit (p.w 2) 27 = true) :
    a.lastStage r o p = ((a.stageOpen (nbit (p.w 2) 27) (p.w 2 % 8)).stageWords (p.w 2 % 8) (p.w 3 % 2 ^ 20)
      ((p.body.drop 2).map BitVec.toNat)).answer r 0 [] := by
  have hoff : nbits (p.w 3) 19 0 = p.w 3 % 2 ^ 20 := nbits_zero _ 19
  have hrange : ¬ 1048576 < p.w 3 % 2 ^ 20 + 4 * (p.len - 4) := Nat.not_lt.mpr hfit
  have hlow : ¬ 2 ≤ a.slotState (p.w 2 % 8) := Nat.not_le.mpr hslot
  have hstaging : ¬ (a.slotState (p.w 2 % 8) = 0 ∧ (!nbit (p.w 2) 27) = true) := by
    rintro ⟨hz, hno⟩
    rcases hopen with h1 | hopn
    · omega
    · rw [hopn] at hno
      exact Bool.false_ne_true hno
  unfold State.lastStage
  simp only [hoff, hmem, hown, hrange, halign, hdom, hlow, hcopy, hstaging, Bool.false_eq_true, if_false, Bool.not_true,
    false_and, or_self, not_true, ne_eq]
  rfl

/-- LAST_STAGE with MEM is accepted and starts a copy. -/
theorem lastStage_copy (hmem : nbit (p.w 2) 26 = true) (hown : a.mayWrite o 9 = true)
    (hfit : p.w 3 % 2 ^ 20 + p.w 6 % 2 ^ 21 ≤ 1048576) (hsize : p.w 6 % 2 ^ 21 ≠ 0 ∧ p.w 6 % 2 ^ 21 % 4 = 0)
    (halign : p.w 3 % 2 ^ 20 % 4 = 0) (hdom : a.domOn 6 = true) (hslot : a.slotState (p.w 2 % 8) < 2)
    (hcopy : a.copying (p.w 2 % 8) = false) (hopen : a.slotState (p.w 2 % 8) = 1 ∨ nbit (p.w 2) 27 = true) :
    a.lastStage r o p = ({ a.stageOpen (nbit (p.w 2) 27) (p.w 2 % 8) with
      last := { (a.stageOpen (nbit (p.w 2) 27) (p.w 2 % 8)).last with
        copies := (a.stageOpen (nbit (p.w 2) 27) (p.w 2 % 8)).last.copies ++
          [⟨p.w 2 % 8, p.w 3 % 2 ^ 20, p.w 5 % 2 ^ 12 * 2 ^ 28 + p.w 4 % 2 ^ 28, p.w 6 % 2 ^ 21, r⟩] } } : State).answer r 1 [] := by
  have hoff : nbits (p.w 3) 19 0 = p.w 3 % 2 ^ 20 := nbits_zero _ 19
  have hlen : nbits (p.w 6) 20 0 = p.w 6 % 2 ^ 21 := nbits_zero _ 20
  have hhi : nbits (p.w 5) 11 0 = p.w 5 % 2 ^ 12 := nbits_zero _ 11
  have hlo : nbits (p.w 4) 27 0 = p.w 4 % 2 ^ 28 := nbits_zero _ 27
  have hrange : ¬ 1048576 < p.w 3 % 2 ^ 20 + p.w 6 % 2 ^ 21 := Nat.not_lt.mpr hfit
  have hlow : ¬ 2 ≤ a.slotState (p.w 2 % 8) := Nat.not_le.mpr hslot
  have hstaging : ¬ (a.slotState (p.w 2 % 8) = 0 ∧ (!nbit (p.w 2) 27) = true) := by
    rintro ⟨hz, hno⟩
    rcases hopen with h1 | hopn
    · omega
    · rw [hopn] at hno
      exact Bool.false_ne_true hno
  unfold State.lastStage
  simp only [hoff, hlen, hhi, hlo, hmem, hown, hrange, hsize, halign, hdom, hlow, hcopy, hstaging, Bool.false_eq_true, if_false,
    if_true, Bool.not_true, and_false, or_self, not_true, ne_eq]
  rfl

end

section
variable {s : State} {src : Src} {p : Packet} {e : Env} {b : Bus}

theorem body_length {p : Packet} (h : 5 ≤ p.len) : ((p.body.drop 2).map BitVec.toNat).length = p.len - 4 := by
  unfold Packet.len at h ⊢
  rw [List.length_map, List.length_drop]
  omega

theorem lastStage_answers (h : Heard s src 0x10 p e b) (hmem : nbit (p.w 2) 26 = false) (hlen : 5 ≤ p.len ∧ p.len ≤ 4095)
    (hown : b.s.mayWrite (b.s.ownerOfSrc src) 9 = true) (hfit : p.w 3 % 2 ^ 20 + 4 * (p.len - 4) ≤ 1048576)
    (halign : p.w 3 % 2 ^ 20 % 4 = 0) (hdom : b.s.domOn 6 = true)
    (hslot : b.s.slotState (p.w 2 % 8) < 2 ∧ b.s.copying (p.w 2 % 8) = false)
    (hopen : b.s.slotState (p.w 2 % 8) = 1 ∨ nbit (p.w 2) 27 = true) :
    Answers (.lastStage src p e) s (fun t =>
      Replied b.s t src p 0 [] ∧
      t.words (slotBase (p.w 2 % 8) + p.w 3 % 2 ^ 20) (p.len - 4) = (p.body.drop 2).map BitVec.toNat ∧
      t.slotState (p.w 2 % 8) = 1 ∧
      tabGet 0 t.last.staged (p.w 2 % 8) =
        max (if nbit (p.w 2) 27 then 0 else tabGet 0 b.s.last.staged (p.w 2 % 8)) (p.w 3 % 2 ^ 20 + 4 * (p.len - 4)) ∧
      (∀ x, x < slotBase (p.w 2 % 8) ∨ slotBase (p.w 2 % 8) + 0x100000 ≤ x → t.byte x = b.s.byte x)) := by
  have hlt : p.w 2 % 8 < 8 := Nat.mod_lt _ (by decide)
  have hok : lenOk 0x10 p = true := by
    change lastStageLen p = true
    unfold lastStageLen
    rw [hmem, if_neg Bool.false_ne_true, decide_eq_true hlen.1, decide_eq_true hlen.2]
    rfl
  have hcount := body_length hlen.1
  have hwords : ∀ v ∈ (p.body.drop 2).map BitVec.toNat, v < 2 ^ 32 := by
    intro v hv
    obtain ⟨x, -, rfl⟩ := List.mem_map.mp hv
    exact x.isLt
  have hne : (p.body.drop 2).map BitVec.toNat ≠ [] := fun hnil => by
    rw [hnil, List.length_nil] at hcount
    omega
  have hrule := lastStage_words (a := b.s.runs src 0x10 p) (r := b.s.reqOf src p) hmem hown hfit halign hdom hslot.1 hslot.2 hopen
  generalize (p.body.drop 2).map BitVec.toNat = ws at hcount hwords hne hrule ⊢
  generalize p.w 3 % 2 ^ 20 = off at hfit hrule ⊢
  rw [← hcount] at hfit ⊢
  have hstate := slotState_stageOpen (b.s.runs src 0x10 p) hlt hopen
  have hstaged := staged_stageOpen (b.s.runs src 0x10 p) (nbit (p.w 2) 27) (p.w 2 % 8)
  have hbytes (x : Nat) := byte_stageOpen (b.s.runs src 0x10 p) (slot := p.w 2 % 8) (nbit (p.w 2) 27) (x := x)
  have htongue := tongue_stageOpen (b.s.runs src 0x10 p) (nbit (p.w 2) 27) (p.w 2 % 8)
  generalize (b.s.runs src 0x10 p).stageOpen (nbit (p.w 2) 27) (p.w 2 % 8) = a at hrule hstate hstaged hbytes htongue
  have heq := stageWords_eq a (p.w 2 % 8) off ws
  have htongue' : (a.stageWords (p.w 2 % 8) off ws).tongue = a.tongue := by rw [heq]
  have hstate' : (a.stageWords (p.w 2 % 8) off ws).slotState (p.w 2 % 8) = a.slotState (p.w 2 % 8) := by
    rw [heq]
    rfl
  refine packet_answers rfl h (by rw [hmem]; rfl) (by decide) hok (by decide) hrule (htongue'.trans htongue)
    fun g x hreplied => ⟨hreplied, ?_, ?_, ?_, fun y hy => ?_⟩
  · refine Eq.trans (words_of_mem (s := a.stageWords (p.w 2 % 8) off ws) ?_ _ _) ?_
    · rfl
    · exact words_stageWords a _ off ws hwords
  · exact hstate'.trans hstate
  · refine (staged_stageWords a _ off ws hne).trans ?_
    rw [hstaged]
    rfl
  · exact (byte_stageWords a _ off ws hfit hy).trans (hbytes y hy)

theorem lastStageCopy_answers (h : Heard s src 0x10 p e b) (hmem : nbit (p.w 2) 26 = true) (hlen : p.len = 7)
    (hown : b.s.mayWrite (b.s.ownerOfSrc src) 9 = true) (hfit : p.w 3 % 2 ^ 20 + p.w 6 % 2 ^ 21 ≤ 1048576)
    (hsize : p.w 6 % 2 ^ 21 ≠ 0 ∧ p.w 6 % 2 ^ 21 % 4 = 0) (halign : p.w 3 % 2 ^ 20 % 4 = 0) (hdom : b.s.domOn 6 = true)
    (hslot : b.s.slotState (p.w 2 % 8) < 2 ∧ b.s.copying (p.w 2 % 8) = false)
    (hopen : b.s.slotState (p.w 2 % 8) = 1 ∨ nbit (p.w 2) 27 = true) :
    Answers (.lastStageCopy src p e) s (fun t =>
      Replied b.s t src p 1 [] ∧ t.slotState (p.w 2 % 8) = 1 ∧
      t.last.copies = b.s.last.copies ++
        [⟨p.w 2 % 8, p.w 3 % 2 ^ 20, p.w 5 % 2 ^ 12 * 2 ^ 28 + p.w 4 % 2 ^ 28, p.w 6 % 2 ^ 21, b.s.reqOf src p⟩]) := by
  have hlt : p.w 2 % 8 < 8 := Nat.mod_lt _ (by decide)
  have hok : lenOk 0x10 p = true := by
    change lastStageLen p = true
    unfold lastStageLen
    rw [hmem, if_pos rfl, hlen]
    rfl
  have hrule := lastStage_copy (a := b.s.runs src 0x10 p) (r := b.s.reqOf src p) hmem hown hfit hsize halign hdom hslot.1 hslot.2 hopen
  have hstate := slotState_stageOpen (b.s.runs src 0x10 p) hlt hopen
  have hcopies := copies_stageOpen (b.s.runs src 0x10 p) (nbit (p.w 2) 27) (p.w 2 % 8)
  refine packet_answers rfl h hmem (by decide) hok (by decide) hrule (tongue_stageOpen _ _ _)
    fun g x hreplied => ⟨hreplied, hstate, ?_⟩
  exact congrArg (· ++ _) hcopies

end

/-! ## The end of a copy (R98) -/

/-- Tongue reads one word of shared memory that no locked sequence holds. -/
theorem readW_shared (b : Bus) (w : Who) {a : Nat} (h4 : a % 4 = 0) (h : sharedBase ≤ a ∧ a < sharedBase + 0x200000)
    (hlock : b.s.flag Fd.AWL_LOCK_HELD = false) :
    b.readW w a = .ok (wordOf (b.s.word a)) { b with s := b.s.wpBus w.m a 4 false } := by
  have hwait : b.s.sharedWaits w.m = false := by
    unfold State.sharedWaits
    rw [hlock, Bool.false_and]
  have hread : b.readAt w a 4 = .ok (wordOf (b.s.word a)) b := by
    unfold Bus.readAt
    rw [decode_shared h]
    dsimp only
    rw [hwait, chipBytes_word b.s h4 h]
    rfl
  unfold Bus.readW Bus.read
  rw [hread]
  rfl

theorem lock_of_regsOnly {s t : State} (h : RegsOnly watchKey s t) : t.flag Fd.AWL_LOCK_HELD = s.flag Fd.AWL_LOCK_HELD :=
  flag_of_reg (h.2 _ not_watchKey_awlLock)

/-- A run of words in shared memory: its words, with what the watchpoints saw. -/
theorem readRun_shared (w : Who) (stop : Bool) (n : Nat) : ∀ (b : Bus) (a : Nat), a % 4 = 0 → sharedBase ≤ a →
    a + 4 * n ≤ sharedBase + 0x200000 → b.s.flag Fd.AWL_LOCK_HELD = false →
    ∃ t, RegsOnly watchKey b.s t ∧ b.readRun w stop a n = .ok (b.s.words a n) false { b with s := t } := by
  induction n with
  | zero => exact fun b a _ _ _ _ => ⟨b.s, regsOnly_refl _ _, rfl⟩
  | succ n ih =>
    intro b a h4 hlo hhi hlock
    have hsee := regsOnly_wpBus b.s w.m a 4 false
    obtain ⟨t, ht, hrest⟩ := ih { b with s := b.s.wpBus w.m a 4 false } (a + 4) (by omega) (by omega) (by omega)
      ((lock_of_regsOnly hsee).trans hlock)
    refine ⟨t, regsOnly_trans hsee ht, ?_⟩
    rw [Bus.readRun, readW_shared b w h4 (by omega) hlock]
    dsimp only
    rw [hrest]
    dsimp only
    have hword : leNat (wordOf (b.s.word a)) = b.s.word a := leNat_wordOf (bytesLE_lt b.s a 4)
    rw [words_of_regsOnly hsee, hword]
    rfl

/-- The state after a copy whose words are `ws`. -/
def State.copied (t : State) (c : StageCopy) (slot : Nat) (ws : List Nat) : State :=
  { t.stageWords c.slot c.off ws with
    last := { (t.stageWords c.slot c.off ws).last with
      copies := (t.stageWords c.slot c.off ws).last.copies.filter (fun d => d.slot != slot) } }

theorem copyDone_shared {s : State} {slot : Nat} {e : Env} {c : StageCopy} (he : s.inEpisode = false) (hh : s.halted = false)
    (hc : s.last.copies.find? (fun x => x.slot == slot) = some c) (hin : sharedBase ≤ c.src ∧ c.src + c.count ≤ sharedBase + 0x200000)
    (h4 : c.src % 4 = 0) (hlock : s.flag Fd.AWL_LOCK_HELD = false) :
    ∃ t, RegsOnly watchKey s t ∧
      s.copyDone slot e = ((t.copied c slot (s.words c.src (c.count / 4))).answer c.req 0 []).dropBus (289 + slot) := by
  obtain ⟨t, ht, hrun⟩ := readRun_shared { masterWho 0x16 with q := 289 + slot } true (c.count / 4) (s.busOf e) c.src h4 hin.1
    (by omega) hlock
  refine ⟨t, ht, ?_⟩
  unfold State.copyDone
  simp only [hc, he, hh, Bool.or_self, Bool.false_eq_true, if_false]
  refine finish_of_done ?_
  rw [hrun]
  rfl

theorem lastStageCopyDone_answers {s : State} {e : Env} {j : Fin 8} {c : StageCopy} (he : s.inEpisode = false) (hh : s.halted = false)
    (hc : s.last.copies.find? (fun x => x.slot == j.val) = some c) (hfit : c.off + c.count ≤ 1048576)
    (hin : sharedBase ≤ c.src ∧ c.src + c.count ≤ sharedBase + 0x200000) (h4 : c.src % 4 = 0)
    (hlock : s.flag Fd.AWL_LOCK_HELD = false) :
    Answers (.lastStageCopyDone j e) s (fun t =>
      RepliedTo s t c.req 0 [] ∧ t.words (slotBase j + c.off) (c.count / 4) = s.words c.src (c.count / 4) ∧
      t.last.copies = s.last.copies.filter (fun d => d.slot != j.val) ∧
      (∀ x, x < slotBase j ∨ slotBase j + 0x100000 ≤ x → t.byte x = s.byte x)) := by
  have hslot : c.slot = j := by simpa using List.find?_some hc
  obtain ⟨u, hu, hdone⟩ := copyDone_shared (e := e) he hh hc hin h4 hlock
  have hws := words_lt s c.src (c.count / 4)
  have hlen := words_length s c.src (c.count / 4)
  generalize s.words c.src (c.count / 4) = ws at hdone hws hlen ⊢
  have hlast : u.last = s.last := (congrArg State.last hu.1 :)
  have htongue : u.tongue = s.tongue := (congrArg State.tongue hu.1 :)
  have heq := stageWords_eq u c.slot c.off ws
  have hcopied : (u.copied c j ws).tongue = s.tongue ∧ (u.copied c j ws).mem = (u.stageWords c.slot c.off ws).mem ∧
      (u.copied c j ws).last.copies = s.last.copies.filter (fun d => d.slot != j.val) := by
    refine ⟨?_, rfl, ?_⟩
    · refine Eq.trans ?_ htongue
      exact (congrArg State.tongue heq :)
    · rw [← hlast]
      exact (congrArg (fun t : State => t.last.copies.filter (fun d => d.slot != j.val)) heq :)
  generalize u.copied c j ws = w at hdone hcopied
  obtain ⟨hwt, hwm, hwc⟩ := hcopied
  have hanswer := answer_eq w c.req 0 []
  refine answers_event rfl he ?_
  rw [hdone]
  refine ⟨repliedTo_answer hwt c.req 0 [] _, ?_, ?_, fun x hx => ?_⟩
  · rw [hanswer]
    refine Eq.trans (words_of_mem (s := u.stageWords c.slot c.off ws) ?_ _ _) ?_
    · exact hwm
    · rw [← hlen, ← hslot]
      exact words_stageWords u c.slot c.off ws hws
  · rw [hanswer]
    exact hwc
  · rw [hanswer]
    refine (byte_of_mem (s := u.stageWords c.slot c.off ws) hwm x).trans ?_
    rw [byte_stageWords u c.slot c.off ws (by omega) (hslot ▸ hx)]
    exact byte_of_mem (mem_of_regsOnly hu) x

end Sys2Proof.Machine
end

section
/-! RELEASE, LAST_ADMIT and the end of its checks (R100–R102), and with them the obligation about the Last store. -/
namespace Sys2Proof.Machine

/-! ## RELEASE and LAST_ADMIT -/

section
variable {a : State} {r : Req} {o : Nat} {p : Packet}

/-- RELEASE empties an ADMITTED slot that no head selects. -/
theorem lastRelease_admitted (hown : a.mayWrite o 9 = true) (hdom : a.domOn 6 = true) (hbusy : a.flag Fd.SYS_ROLE_BUSY = false)
    (hslot : a.slotState (p.w 2 % 8) = 3)
    (hnext : ∀ h : Fin 16, a.flag (Fd.LAST_HD_SEL_NEXTEN h) = true → a.get (Fd.LAST_HD_SEL_NEXT h) ≠ p.w 2 % 8) :
    a.lastRelease r o p = (a.setSlot (p.w 2 % 8) 0).answer r 0 [] := by
  have hfree : (List.range 16).any
      (fun h => a.flag (Fd.LAST_HD_SEL_NEXTEN h) && a.get (Fd.LAST_HD_SEL_NEXT h) == p.w 2 % 8) = false := by
    rw [List.any_eq_false]
    intro h hh hand
    obtain ⟨hen, hsel⟩ := (Bool.and_eq_true _ _).mp hand
    exact hnext ⟨h, List.mem_range.mp hh⟩ hen (beq_iff_eq.mp hsel)
  unfold State.lastRelease
  simp [hown, hdom, hbusy, hslot, hfree]

/-- LAST_ADMIT begins the checks of a STAGING slot. -/
theorem lastAdmit_staging (hown : a.mayWrite o 9 = true) (hdom : a.domOn 6 = true) (hbusy : a.flag Fd.SYS_ROLE_BUSY = false)
    (hidle : ∀ n : Fin 8, a.slotState n ≠ 2) (hcopy : a.copying (p.w 2 % 8) = false) (hslot : a.slotState (p.w 2 % 8) = 1)
    (hsoles : a.imageSolesDown (p.w 2 % 8) = false) (hsec : a.fenced uSec = false) :
    a.lastAdmit r o p = ({ a.setSlot (p.w 2 % 8) 2 with
      last := { a.last with admitting := some ⟨p.w 2 % 8, r, a.regN Rg.LAST_REMCFG⟩ } }.joinPath .last).answer r 1 [] := by
  have hnone : (List.range 8).any (fun n => a.slotState n == 2) = false := by
    rw [List.any_eq_false]
    exact fun n hn hst => hidle ⟨n, List.mem_range.mp hn⟩ (beq_iff_eq.mp hst)
  unfold State.lastAdmit
  simp only [hown, hdom, hnone, hcopy, hbusy, hslot, hsoles, hsec, Bool.not_true, Bool.or_self, Bool.false_eq_true, if_false, ne_eq,
    not_true_eq_false]
  rfl

end

section
variable {s : State} {src : Src} {p : Packet} {e : Env} {b : Bus}

theorem lenOk_lastAdmit (hlen : p.len = 3) : lenOk 0x11 p = true := beq_iff_eq.mpr hlen

theorem lastRelease_answers (h : Heard s src 0x11 p e b) (hlen : p.len = 3) (hform : nbit (p.w 2) 27 = true)
    (hown : b.s.mayWrite (b.s.ownerOfSrc src) 9 = true) (hdom : b.s.domOn 6 = true) (hbusy : b.s.flag Fd.SYS_ROLE_BUSY = false)
    (hslot : b.s.slotState (p.w 2 % 8) = 3)
    (hnext : ∀ h : Fin 16, b.s.flag (Fd.LAST_HD_SEL_NEXTEN h) = true → b.s.get (Fd.LAST_HD_SEL_NEXT h) ≠ p.w 2 % 8) :
    Answers (.lastRelease src p e) s (fun t =>
      Replied b.s t src p 0 [] ∧ t.slotState (p.w 2 % 8) = 0 ∧
      RegsOnly (fun k => k = Rg.LAST_SLOTSTAT ∨ k = Rg.LAST_SLOT_ID (p.w 2 % 8)) b.s
        { t with tongue := b.s.tongue, welt := b.s.welt }) := by
  have hrule := lastRelease_admitted (a := b.s.runs src 0x11 p) (r := b.s.reqOf src p) hown hdom hbusy hslot hnext
  have hregs := regsOnly_setSlot (b.s.runs src 0x11 p) (p.w 2 % 8) 0
  have hstate := slotState_setSlot (b.s.runs src 0x11 p) (n := p.w 2 % 8) (st := 0) (Nat.mod_lt _ (by decide)) (by decide)
  refine packet_answers rfl h hform (by decide) (lenOk_lastAdmit hlen) (by decide) hrule rfl
    fun g x hreplied => ⟨hreplied, hstate, ?_, hregs.2⟩
  exact congrArg (fun t : State => { t with tongue := b.s.tongue, welt := b.s.welt }) hregs.1

theorem lastAdmit_answers (h : Heard s src 0x11 p e b) (hlen : p.len = 3) (hform : nbit (p.w 2) 27 = false)
    (hown : b.s.mayWrite (b.s.ownerOfSrc src) 9 = true) (hdom : b.s.domOn 6 = true) (hbusy : b.s.flag Fd.SYS_ROLE_BUSY = false)
    (hidle : ∀ n : Fin 8, b.s.slotState n ≠ 2) (hcopy : b.s.copying (p.w 2 % 8) = false) (hslot : b.s.slotState (p.w 2 % 8) = 1)
    (hsoles : b.s.imageSolesDown (p.w 2 % 8) = false) (hsec : b.s.fenced uSec = false) :
    Answers (.lastAdmit src p e) s (fun t =>
      Replied b.s t src p 1 [] ∧ t.slotState (p.w 2 % 8) = 2 ∧
      t.last.admitting = some ⟨p.w 2 % 8, b.s.reqOf src p, b.s.regN Rg.LAST_REMCFG⟩ ∧
      RegsOnly (fun k => k = Rg.LAST_SLOTSTAT ∨ k = Rg.LAST_SLOT_ID (p.w 2 % 8)) b.s
        { t with tongue := b.s.tongue, welt := b.s.welt, last := b.s.last, sec := b.s.sec }) := by
  have hrule := lastAdmit_staging (a := b.s.runs src 0x11 p) (r := b.s.reqOf src p) hown hdom hbusy hidle hcopy hslot hsoles hsec
  have hregs := regsOnly_setSlot (b.s.runs src 0x11 p) (p.w 2 % 8) 2
  have hstate := slotState_setSlot (b.s.runs src 0x11 p) (n := p.w 2 % 8) (st := 2) (Nat.mod_lt _ (by decide)) (by decide)
  refine packet_answers rfl h (by rw [hform]; rfl) (by decide) (lenOk_lastAdmit hlen) (by decide) hrule rfl
    fun g x hreplied => ⟨hreplied, hstate, rfl, ?_, hregs.2⟩
  exact congrArg (fun t : State => { t with tongue := b.s.tongue, welt := b.s.welt, last := b.s.last, sec := b.s.sec }) hregs.1

end

/-! ## The end of the checks (R101, R102) -/

/-- The state an admission gives its slot. -/
def admitState (f : Option AdmitFail) : Nat := if f = none then 3 else 1

/-- The registers and the slot's state after an admission. -/
def State.checked (s : State) (slot : Nat) (f : Option AdmitFail) : State :=
  ({ s with last := { s.last with admitting := none } }.admitRegs slot f).setSlot slot (admitState f)

/-- An admitted slot keeps the identity of its image. -/
def State.noteIdent (s : State) (slot ident : Nat) : Option AdmitFail → State
  | none => { s with last := { s.last with ident := tabInsert s.last.ident slot ident } }
  | some _ => s

/-- The state an admission leaves, before its completion. -/
def State.admitted (s : State) (slot : Nat) (f : Option AdmitFail) : State :=
  (s.checked slot f).noteIdent slot (imgIdentity (s.slotImg slot)) f

theorem admitWith_eq (s : State) (slot : Nat) (r : Req) (f : Option AdmitFail) :
    s.admitWith slot r f = (s.admitted slot f).admitReply r f := by
  cases f with
  | none => rfl
  | some f => rfl

section
variable (s : State) (slot : Nat) (f : Option AdmitFail)

theorem regsOnly_admitRegs : RegsOnly (fun _ => True) s (s.admitRegs slot f) := by
  unfold State.admitRegs
  exact regsOnly_trans (regsOnly_trans (regsOnly_trans (regsOnly_setRegN _ _ trivial) (regsOnly_setRegN _ _ trivial))
    (regsOnly_setRegN _ _ trivial)) (regsOnly_setRegN _ _ trivial)

theorem checked_eq : s.checked slot f =
    { s with regs := (s.checked slot f).regs, last := { s.last with admitting := none } } := by
  have hregs := (regsOnly_admitRegs { s with last := { s.last with admitting := none } } slot f).1
  unfold State.checked
  generalize State.admitRegs _ slot f = t at hregs ⊢
  exact congrArg (fun u : State => { u with regs := (t.setSlot slot (admitState f)).regs }) hregs

theorem slotState_checked (hslot : slot < 8) : (s.checked slot f).slotState slot = admitState f := by
  have hst : admitState f < 8 := by
    unfold admitState
    split <;> decide
  unfold State.checked
  exact slotState_setSlot _ hslot hst

theorem noteIdent_eq (ident : Nat) : s.noteIdent slot ident f =
    { s with last := { s.last with ident := (s.noteIdent slot ident f).last.ident } } := by
  cases f with
  | none => rfl
  | some f => rfl

theorem slotState_noteIdent (ident n : Nat) : (s.noteIdent slot ident f).slotState n = s.slotState n := by
  rw [noteIdent_eq]
  rfl

/-- Beside registers, the end of the checks changes who is under admission and the identities of the slots. -/
theorem admitted_eq : s.admitted slot f = { s with
    regs := (s.admitted slot f).regs, last := { s.last with admitting := none, ident := (s.admitted slot f).last.ident } } := by
  have heq := checked_eq s slot f
  unfold State.admitted
  generalize s.checked slot f = t at heq ⊢
  rw [noteIdent_eq, heq]

theorem slotState_admitted (hslot : slot < 8) : (s.admitted slot f).slotState slot = admitState f :=
  (slotState_noteIdent _ _ _ _ _).trans (slotState_checked s slot f hslot)

theorem ident_admitted (hf : f = none) : tabFind (s.admitted slot f).last.ident slot = some (imgIdentity (s.slotImg slot)) := by
  subst hf
  exact tabFind_insert_same _ _ _

end

theorem lastAdmitDone_answers {s : State} {j : Fin 8} {r : Req} {rc : Nat} {f : Option AdmitFail}
    (hf : (s.setRegN Rg.LAST_REMCFG rc).admitFail j = f) (he : s.inEpisode = false)
    (hadmitting : s.last.admitting = some ⟨j.val, r, rc⟩) (hpath : s.hasPath .last = true) :
    Answers .lastAdmitDone s (fun t =>
      t.slotState j = (if f = none then 3 else 1) ∧ t.last.admitting = none ∧
      (f = none → tabFind t.last.ident j = some (imgIdentity (s.slotImg j))) ∧
      RepliedTo s t r ((f.map (fun g => g.status)).getD 0) [t.regN Rg.LAST_ADMITSTAT, t.regN Rg.LAST_ADMITVAL] ∧
      t.mem = s.mem) := by
  have hend : s.admitEnd = (s.admitted j f).admitReply r f := by
    unfold State.admitEnd
    rw [hadmitting]
    dsimp only
    rw [if_pos hpath, hf, admitWith_eq]
  have hstate := slotState_admitted s j f j.isLt
  have hident := ident_admitted s j f
  have heq := admitted_eq s j f
  have hnone : (s.admitted j f).last.admitting = none := by rw [heq]
  have hmem : (s.admitted j f).mem = s.mem := by rw [heq]
  have htongue : (s.admitted j f).tongue = s.tongue := by rw [heq]
  clear heq
  generalize s.admitted j f = w at hend hstate hnone hident hmem htongue
  have hreply := repliedTo_answer htongue r ((f.map (fun g => g.status)).getD 0) [w.regN Rg.LAST_ADMITSTAT, w.regN Rg.LAST_ADMITVAL] w.welt
  have hanswer := answer_eq w r ((f.map (fun g => g.status)).getD 0) [w.regN Rg.LAST_ADMITSTAT, w.regN Rg.LAST_ADMITVAL]
  refine answers_event rfl he ?_
  rw [hend, State.admitReply]
  rw [hanswer] at hreply ⊢
  exact ⟨hstate, hnone, hident, hreply, hmem⟩

/-- Settles O25, one lemma for each of its commands. -/
theorem lastStoreCompletes : Obligations.LastStoreCompletes := by
  unfold Obligations.LastStoreCompletes
  intro src p e s b
  refine ⟨?_, ?_, ?_, ?_, ?_, ?_⟩
  · exact fun h hmem hlen hown hfit halign hdom hslot hopen _ => lastStage_answers h hmem hlen hown hfit halign hdom hslot hopen
  · exact lastStageCopy_answers
  · exact fun j c he hh hc hfit _ hin h4 hlock => lastStageCopyDone_answers he hh hc hfit hin h4 hlock
  · exact lastRelease_answers
  · exact lastAdmit_answers
  · exact fun j r rc he hadmitting hpath => lastAdmitDone_answers rfl he hadmitting hpath

end Sys2Proof.Machine
end

section
/-! Whole writes of palette, LUT and voice words (R145, R146, R196, R197, R574): what each array stores, and the writes as commands. -/
namespace Sys2Proof.Machine

/-! ## Addresses -/

theorem decode_palette (h : Fin 16) (i : Fin 32768) : decodeAddr (palAddr h 0 0 + 4 * i) = .palette h (4 * i) := by
  have ha : palAddr h 0 0 + 4 * i = 0x7FF0000000 + (h * 0x20000 + 4 * i) := by unfold palAddr; omega
  unfold decodeAddr
  rw [ha, if_neg (by omega), if_neg (by omega), if_pos (by omega), Nat.add_sub_cancel_left]
  congr <;> omega

theorem decode_lut (h : Fin 16) (i : Fin 81920) : decodeAddr (preLutAddr h 0 0 + 4 * i) = .lut h (4 * i) := by
  have ha : preLutAddr h 0 0 + 4 * i = 0x7FF1000000 + (h * 0x80000 + 4 * i) := by unfold preLutAddr; omega
  unfold decodeAddr
  rw [ha, if_neg (by omega), if_neg (by omega), if_neg (by omega), if_pos (by omega), Nat.add_sub_cancel_left]
  congr <;> omega

theorem voiceAddr_eq (u i : Nat) : voiceAddr u i = 0x7FF3000000 + 64 * u + 4 * i := by
  unfold voiceAddr
  omega

theorem decode_voice (u : Fin 256) (i : Fin 16) : decodeAddr (voiceAddr u i) = .voice u i := by
  unfold decodeAddr
  rw [voiceAddr_eq]
  rw [if_neg (by omega), if_neg (by omega), if_neg (by omega), if_neg (by omega), if_pos (by omega)]
  congr <;> omega

/-- The arrays of this section: those whose words any master may write. -/
def Place.isArray : Place → Bool
  | .palette _ _ | .lut _ _ | .voice _ _ => true
  | _ => false

/-! ## A whole word on its way to an array -/

/-- A whole word leaves nothing of the old one. -/
theorem mergeWord_wordOf (old : Nat) {v : Nat} (hv : v < 2 ^ 32) : mergeWord old 15 (wordOf v) = v :=
  merge_word v hv

section
variable {m a v : Nat}

/-- All enabled bytes of an aligned word lie in that word: the words that follow are left alone. -/
theorem chipWrites_aligned (s : State) (h4 : a % 4 = 0) :
    s.chipWrites m a 15 (wordOf v) ((wordOf v).length / 4 + 2) = s.chipWrite m a 15 (wordOf v) := by
  have hlen : (wordOf v).length = 4 := rfl
  have hrest : ∀ (t : State) (b : Nat), t.chipWrites m b 0 [] 2 = t := fun t b => by
    simp [State.chipWrites, State.chipWrite]
  rw [hlen, State.chipWrites, h4]
  exact hrest _ _

theorem writeAt_array (b : Bus) (w : Who) (ha : (decodeAddr a).isArray = true) (h4 : a % 4 = 0) :
    b.writeAt w a 15 (wordOf v) = .ok [] { b with s := b.s.chipWrite w.m a 15 (wordOf v) } := by
  rw [← chipWrites_aligned b.s h4]
  unfold Bus.writeAt
  cases hd : decodeAddr a with
  | palette | lut | voice => rfl
  | _ => exact absurd ha (by rw [hd]; exact Bool.false_ne_true)

/-- A write of a whole word that nothing holds back: the array's own write, and what follows every access. -/
theorem arrayWrite_eq {s : State} (e : Env) (hm : s.masterFrozen m = false) (ha : (decodeAddr a).isArray = true)
    (h4 : a % 4 = 0) : s.arrayWrite m a v e = (s.chipWrite m a 15 (wordOf v)).accessDone m a := by
  unfold State.arrayWrite
  rw [hm, if_neg Bool.false_ne_true]
  refine finish_of_done ?_
  dsimp only
  rw [Bus.write, writeAt_array _ _ ha h4]
  rfl

end

/-! ## What follows an access leaves the arrays alone -/

theorem mem_accessDone (w : State) (m a : Nat) : (w.accessDone m a).mem = w.mem :=
  (congrArg State.mem (accessOnly_accessDone w m a).1 :)

theorem pict_accessDone (w : State) (m a : Nat) : (w.accessDone m a).pict = w.pict :=
  (congrArg State.pict (accessOnly_accessDone w m a).1 :)

/-- What only an access changed still is so, seen through a `g` that forgets some part of the state and leaves alone what an
access may change. -/
theorem accessOnly_forget {p : Nat → Prop} {s t : State} (h : AccessOnly p s t) (g : State → State)
    (hg : ∀ x r b q, g (x.withAccess r b q) = (g x).withAccess r b q) : AccessOnly p (g s) (g t) := by
  have hgt : g t = (g s).withAccess t.regs t.bus t.welt.reqs := by rw [← hg, ← accessOnly_eq h]
  have hgs : (g s).regs = s.regs := (congrArg State.regs (hg s s.regs s.bus s.welt.reqs) :)
  refine ⟨?_, fun k hk => ?_⟩
  · rw [hgt]
    rfl
  · calc (g t).reg k = t.reg k := reg_of_regs (congrArg State.regs hgt) k
      _ = s.reg k := h.2 k hk
      _ = (g s).reg k := (reg_of_regs hgs k).symm

/-- What an access of an array leaves, but for what `g` forgets, against a state that differs from the array's own write only there. -/
theorem accessOnly_arrayDone {s w : State} (m a : Nat) (g : State → State)
    (hg : ∀ x r b q, g (x.withAccess r b q) = (g x).withAccess r b q) (hw : g w = s) :
    AccessOnly (fun _ => False) s (g (w.accessDone m a)) :=
  hw ▸ accessOnly_forget (accessOnly_accessDone w m a) g hg

theorem inEpisode_of_not_frozen {s : State} {m : Nat} (hm : s.masterFrozen m = false) : s.inEpisode = false := by
  unfold State.masterFrozen at hm
  exact (Bool.or_eq_false_iff.mp (Bool.or_eq_false_iff.mp hm).1).1

/-- An array write as a command: `P` has to hold of the array's own write once the access is done. -/
theorem array_writes {c : Instr} {s : State} {m : Fin 32} {a : Nat} {v : Word} {e : Env} {P : State → Prop}
    (hx : exec c s = quiet s (s.arrayWrite m a v.toNat e)) (hm : s.masterFrozen m = false)
    (ha : (decodeAddr a).isArray = true) (h4 : a % 4 = 0)
    (hP : P ((s.chipWrite m a 15 (wordOf v.toNat)).accessDone m a)) : Writes c s P := by
  rw [arrayWrite_eq e hm ha h4] at hx
  exact answers_quiet hx (inEpisode_of_not_frozen hm) ⟨rfl, hP⟩

/-! ## Entries of palettes and LUTs -/

/-- The width of word 1 of an entry of a LUT or a palette (R145, R196). -/
def entryBits (lut : Bool) : Nat := if lut then 14 else 28

section
variable (s : State) (m h : Nat) {a v : Nat} (lut : Bool)

/-- Word 0 goes to the master's holding register. -/
theorem entryWrite_word0 (ha : a / 4 % 2 = 0) (hv : v < 2 ^ 32) : s.entryWrite m h a 15 (wordOf v) lut =
    { s with pict := { s.pict with hold := tabPut 0 s.pict.hold (holdKey m h lut) (v % 2 ^ 28) } } := by
  unfold State.entryWrite
  rw [if_pos ha, mergeWord_wordOf _ hv]

/-- Word 1 is stored with the word that the holding register holds. -/
theorem entryWrite_word1 (ha : a / 4 % 2 = 1) (hv : v < 2 ^ 32) : s.entryWrite m h a 15 (wordOf v) lut =
    (s.setWord (a - 4) (tabGet 0 s.pict.hold (holdKey m h lut))).setWord a (v % 2 ^ entryBits lut) := by
  unfold State.entryWrite
  rw [if_neg (by omega), mergeWord_wordOf _ hv]
  cases lut <;> rfl

end

theorem setWord_eq (s : State) (a v : Nat) : s.setWord a v = { s with mem := (s.setWord a v).mem } := putLE_eq 4 s a v

theorem word_of_mem {s t : State} (hm : t.mem = s.mem) (a : Nat) : t.word a = s.word a := bytesLE_of_mem hm a 4

/-- The lower of two words stored one above the other reads back. -/
theorem word_setWord_below (s : State) {a : Nat} (x y : Nat) (ha : 4 ≤ a) : ((s.setWord (a - 4) x).setWord a y).word (a - 4) = x % 2 ^ 32 :=
  (bytesLE_of_bytes 4 (a - 4) fun z _ hz => byte_setWord_other _ _ _ z (by omega)).trans (word_setWord_same s (a - 4) x)

/-- What a write of `v` as the word at `a`, the `i`-th of an array of entries, leaves: word 0 goes to the holding register `q`,
word 1 of `bits` bits is stored with it (R145, R146, R196, R197). -/
def EntryWritten (s : State) (q bits a i v : Nat) (t : State) : Prop :=
  (i % 2 = 0 → t.mem = s.mem ∧ tabGet 0 t.pict.hold q = v % 2 ^ 28) ∧
  (i % 2 = 1 → t.word (a - 4) = tabGet 0 s.pict.hold q % 2 ^ 32 ∧ t.word a = v % 2 ^ bits) ∧
  (∀ x, x < a - 4 ∨ a + 4 ≤ x → t.byte x = s.byte x) ∧
  AccessOnly (fun _ => False) s { t with mem := s.mem, pict := s.pict }

/-- The write and what follows the access: the words of an entry alternate, so `i`'s parity says which of them `a` names. -/
theorem entryWritten_accessDone (s : State) (m h : Nat) {a i v : Nat} (lut : Bool) (hi : a = 8 * (a / 8) + 4 * (i % 2)) (hv : v < 2 ^ 32) :
    EntryWritten s (holdKey m h lut) (entryBits lut) a i v ((s.entryWrite m h a 15 (wordOf v) lut).accessDone m a) := by
  have hmem := fun w : State => mem_accessDone w m a
  rcases Nat.mod_two_eq_zero_or_one i with h0 | h1
  · rw [entryWrite_word0 s m h lut (by omega) hv]
    refine ⟨fun _ => ⟨hmem _, ?_⟩, fun h1 => absurd h1 (by omega), fun x _ => byte_of_mem (hmem _) x, ?_⟩
    · rw [pict_accessDone]
      exact tabGet_put_same 0 _ _ _
    · exact accessOnly_arrayDone m a (fun x => { x with mem := s.mem, pict := s.pict }) (fun _ _ _ _ => rfl) rfl
  · rw [entryWrite_word1 s m h lut (by omega) hv]
    refine ⟨fun h0 => absurd h1 (by omega), fun _ => ⟨?_, ?_⟩, fun x hx => ?_, ?_⟩
    · exact (word_of_mem (hmem _) _).trans (word_setWord_below s _ _ (by omega))
    · have hfit : v % 2 ^ entryBits lut < 2 ^ 32 := (Nat.mod_le _ _).trans_lt hv
      exact (word_of_mem (hmem _) _).trans ((word_setWord_same _ _ _).trans (Nat.mod_eq_of_lt hfit))
    · rw [byte_of_mem (hmem _), byte_setWord_other _ _ _ _ (by omega), byte_setWord_other _ _ _ _ (by omega)]
    · refine accessOnly_arrayDone m a (fun x => { x with mem := s.mem, pict := s.pict }) (fun _ _ _ _ => rfl) ?_
      rw [setWord_eq _ a, setWord_eq s]

section
variable {m : Fin 32} {s : State} {v : Word} {e : Env}

theorem paletteWrite_writes (h : Fin 16) (i : Fin 32768) (hm : s.masterFrozen m = false) :
    Writes (.paletteWrite h i m v e) s (EntryWritten s (holdKey m h false) 28 (palAddr h 0 0 + 4 * i) i v.toNat) := by
  have hi : palAddr h 0 0 + 4 * i = 8 * ((palAddr h 0 0 + 4 * i) / 8) + 4 * (i % 2) := by unfold palAddr; omega
  have hd := decode_palette h i
  refine array_writes rfl hm (by rw [hd]; rfl) (by omega) ?_
  unfold State.chipWrite
  rw [hd]
  exact entryWritten_accessDone s m h false hi v.isLt

theorem lutWrite_writes (h : Fin 16) (i : Fin 81920) (hm : s.masterFrozen m = false) :
    Writes (.lutWrite h i m v e) s (EntryWritten s (holdKey m h true) 14 (preLutAddr h 0 0 + 4 * i) i v.toNat) := by
  have hi : preLutAddr h 0 0 + 4 * i = 8 * ((preLutAddr h 0 0 + 4 * i) / 8) + 4 * (i % 2) := by unfold preLutAddr; omega
  have hd := decode_lut h i
  refine array_writes rfl hm (by rw [hd]; rfl) (by omega) ?_
  unfold State.chipWrite
  rw [hd]
  exact entryWritten_accessDone s m h true hi v.isLt

end

/-! ## Voice entries (R574) -/

section
variable (s : State) (u : Nat) {w : Nat} (x : Nat)

theorem writeVoice_readOnly (hw : 14 ≤ w) : s.writeVoice u w x = s := if_pos hw

/-- A voice's word is stored; beside memory, only the audio block's running state may follow it. -/
theorem writeVoice_eq (hw : w < 14) : s.writeVoice u w x =
    { s with mem := (s.setWord (voiceAddr u w) x).mem, audio := (s.writeVoice u w x).audio } := by
  have hset := setWord_eq s (voiceAddr u w) x
  unfold State.writeVoice
  rw [if_neg (by omega)]
  generalize s.setWord (voiceAddr u w) x = s1 at hset ⊢
  rw [hset]
  dsimp only
  split
  · rfl
  · split <;> rfl

theorem mem_writeVoice (hw : w < 14) : (s.writeVoice u w x).mem = (s.setWord (voiceAddr u w) x).mem :=
  (congrArg State.mem (writeVoice_eq s u x hw) :)

end

theorem voiceTableWrite_writes {m : Fin 32} {s : State} {v : Word} {e : Env} (u : Fin 256) (i : Fin 16) (hm : s.masterFrozen m = false) :
    Writes (.voiceTableWrite u i m v e) s (fun t =>
      (i.val < 14 → t.word (voiceAddr u i) = v.toNat) ∧
      (14 ≤ i.val → t.mem = s.mem) ∧
      (∀ x, x < voiceAddr u i ∨ voiceAddr u i + 4 ≤ x → t.byte x = s.byte x) ∧
      AccessOnly (fun _ => False) s { t with mem := s.mem, audio := s.audio }) := by
  have hd := decode_voice u i
  refine array_writes (a := voiceAddr u i) (v := v) (e := e) (by rw [voiceAddr_eq]; rfl) hm (by rw [hd]; rfl) (by unfold voiceAddr; omega) ?_
  have hwrite : s.chipWrite m (voiceAddr u i) 15 (wordOf v.toNat) = s.writeVoice u i v.toNat := by
    unfold State.chipWrite
    rw [hd, if_neg (by decide)]
    dsimp only
    rw [mergeWord_wordOf _ v.isLt]
  have hdone := mem_accessDone (s.writeVoice u i v.toNat) m (voiceAddr u i)
  rw [hwrite]
  rcases Nat.lt_or_ge i 14 with hlt | hge
  · have hmem := hdone.trans (mem_writeVoice s u v.toNat hlt)
    refine ⟨fun _ => ?_, fun hge => absurd hlt (by omega), fun x hx => ?_, ?_⟩
    · exact (word_of_mem hmem _).trans ((word_setWord_same _ _ _).trans (Nat.mod_eq_of_lt v.isLt))
    · exact (byte_of_mem hmem x).trans (byte_setWord_other _ _ _ _ hx)
    · refine accessOnly_arrayDone m _ (fun x => { x with mem := s.mem, audio := s.audio }) (fun _ _ _ _ => rfl) ?_
      rw [writeVoice_eq s u _ hlt]
  · rw [writeVoice_readOnly s u _ hge] at hdone ⊢
    refine ⟨fun hlt => absurd hlt (by omega), fun _ => hdone, fun x _ => byte_of_mem hdone x, ?_⟩
    exact accessOnly_arrayDone m _ (fun x => { x with mem := s.mem, audio := s.audio }) (fun _ _ _ _ => rfl) rfl

/-- Settles O13, one lemma for each of the three commands. -/
theorem arrayWritesComplete : Obligations.ArrayWritesComplete := by
  unfold Obligations.ArrayWritesComplete
  intro m s v e
  refine ⟨paletteWrite_writes, lutWrite_writes, fun u i hm => ?_⟩
  have hvoice := voiceTableWrite_writes (v := v) (e := e) u i hm
  rw [voiceAddr_eq] at hvoice
  exact hvoice

end Sys2Proof.Machine
end

section
/-! Commit, expectation and report commands (R180, R181, R188, R251, R254, R256): what each rule does where it refuses nothing, the
end of a signature, and with them the obligation about these commands. -/
namespace Sys2Proof.Machine

/-! ## COMMIT_ARM (R180, R181) -/

/-- The state in which COMMIT_ARM of the heads `hs`, eligible as `el` says, is answered. -/
def State.armed (s : State) (r : Req) (hs : List Nat) (el : List (Nat × Nat)) : State :=
  let s1 := hs.foldl (fun t h => t.set (Fd.HD_COMMIT_PEND h) 1) (s.armHeads el)
  s1.setArms (s1.pict.arms ++ [⟨r, hs, el, [], none, []⟩])

/-- Entering an arm writes registers only. -/
theorem regsOnly_armHeads (s : State) (el : List (Nat × Nat)) : RegsOnly (fun _ => True) s (s.armHeads el) :=
  regsOnly_foldl fun _ _ _ => regsOnly_ite (regsOnly_set _ _ _ trivial) (regsOnly_refl _ _)

theorem regsOnly_pendAll (s : State) (hs : List Nat) :
    RegsOnly (fun _ => True) s (hs.foldl (fun t h => t.set (Fd.HD_COMMIT_PEND h) 1) s) :=
  regsOnly_foldl fun _ _ _ => regsOnly_set _ _ _ trivial

theorem pend_set_pend (s : State) (h : Nat) : (s.set (Fd.HD_COMMIT_PEND h) 1).flag (Fd.HD_COMMIT_PEND h) = true :=
  flag_set_same s 1 rfl (by change 24 + 1 ≤ 28; decide)

theorem pend_key_ne {h k : Nat} (hk : h ≠ k) : (Fd.HD_COMMIT_PEND h).key ≠ (Fd.HD_COMMIT_PEND k).key := by
  change 0x180058 + h * 0x1000 ≠ 0x180058 + k * 0x1000
  omega

theorem pend_set_keeps (s : State) (h k : Nat) (hs : s.flag (Fd.HD_COMMIT_PEND h) = true) :
    (s.set (Fd.HD_COMMIT_PEND k) 1).flag (Fd.HD_COMMIT_PEND h) = true := by
  by_cases hk : h = k
  · rw [hk]
    exact pend_set_pend s k
  · rw [flag_set_key s _ _ 1 (pend_key_ne hk)]
    exact hs

/-- Every head of the list is left with PEND. -/
theorem pend_pendAll (s : State) {hs : List Nat} {h : Nat} (hh : h ∈ hs) :
    (hs.foldl (fun t k => t.set (Fd.HD_COMMIT_PEND k) 1) s).flag (Fd.HD_COMMIT_PEND h) = true := by
  refine foldl_reaches (P := fun t : State => t.flag (Fd.HD_COMMIT_PEND h) = true) hh ?_ ?_ s
  · intro a
    exact pend_set_pend a h
  · intro k _ a ha
    exact pend_set_keeps a h k ha

section
variable (s : State) (r : Req) (hs : List Nat) (el : List (Nat × Nat))

theorem armed_eq : s.armed r hs el = { s with
    regs := (s.armed r hs el).regs, pict := { s.pict with arms := s.pict.arms ++ [⟨r, hs, el, [], none, []⟩] } } := by
  have hregs := (regsOnly_trans (regsOnly_armHeads s el) (regsOnly_pendAll _ hs)).1
  unfold State.armed
  generalize List.foldl _ (s.armHeads el) hs = t at hregs ⊢
  exact congrArg (fun u : State => { u with
    regs := t.regs, pict := { u.pict with arms := u.pict.arms ++ [(⟨r, hs, el, [], none, []⟩ : Arm)] } }) hregs

theorem pend_armed {x : Nat} (hx : x ∈ hs) : (s.armed r hs el).flag (Fd.HD_COMMIT_PEND x) = true := pend_pendAll (s.armHeads el) hx

end

/-- COMMIT_ARM holds the arm where its sender may write every head named, and all of them run, are up and have no arm pending. -/
theorem commitArm_armed {a : State} {r : Req} {o : Nat} {p : Packet} {hs : List Nat} (beam : List (Nat × Nat))
    (hhs : (List.range 16).filter (nbit (p.w 2)) = hs) (hne : hs ≠ []) (hown : ∀ x ∈ hs, a.mayWrite o (20 + x) = true)
    (hready : ∀ x ∈ hs, (a.headS x).running = true ∧ a.headDown x = false ∧ a.flag (Fd.HD_COMMIT_PEND x) = false) :
    a.commitArm r o p beam = (a.armed r hs (a.eligAt hs beam)).answer r 1 [] := by
  have howned : hs.any (fun h => !a.mayWrite o (20 + h)) = false :=
    List.any_eq_false.mpr fun x hx => by simp [hown x hx]
  have hruns : hs.any (fun h => !(a.headS h).running) = false :=
    List.any_eq_false.mpr fun x hx => by simp [(hready x hx).1]
  have hup : hs.any a.headDown = false :=
    List.any_eq_false.mpr fun x hx => by simp [(hready x hx).2.1]
  have hfree : hs.any (fun h => a.flag (Fd.HD_COMMIT_PEND h)) = false :=
    List.any_eq_false.mpr fun x hx => by simp [(hready x hx).2.2]
  have hnonempty : hs.isEmpty = false := List.isEmpty_eq_false_iff.mpr hne
  unfold State.commitArm
  simp only [hhs, howned, hruns, hup, hfree, hnonempty, Bool.or_self, Bool.false_eq_true, if_false]
  rfl

section
variable {s : State} {src : Src} {p : Packet} {e : Env} {b : Bus}

theorem commitArm_answers {hs : List Nat} (hhs : (List.range 16).filter (nbit (p.w 2)) = hs) (h : Heard s src 0x12 p e b)
    (hlen : p.len = 3) (hne : hs ≠ []) (hown : ∀ x, x ∈ hs → b.s.mayWrite (b.s.ownerOfSrc src) (20 + x) = true)
    (hready : ∀ x, x ∈ hs → (b.s.headS x).running = true ∧ b.s.headDown x = false ∧ b.s.flag (Fd.HD_COMMIT_PEND x) = false) :
    Answers (.commitArm src p e) s (fun t =>
      Replied b.s t src p 1 [] ∧ (∀ x, x ∈ hs → t.flag (Fd.HD_COMMIT_PEND x) = true) ∧
      t.pict.arms = b.s.pict.arms ++ [⟨b.s.reqOf src p, hs, b.s.eligAt hs e.beam, [], none, []⟩] ∧ t.mem = b.s.mem) := by
  have hrule := commitArm_armed (a := b.s.runs src 0x12 p) (r := b.s.reqOf src p) e.beam hhs hne hown hready
  have helig : (b.s.runs src 0x12 p).eligAt hs e.beam = b.s.eligAt hs e.beam := rfl
  rw [helig] at hrule
  generalize b.s.eligAt hs e.beam = el at hrule ⊢
  have heq := armed_eq (b.s.runs src 0x12 p) (b.s.reqOf src p) hs el
  exact packet_answers rfl h rfl (by decide) (beq_iff_eq.mpr hlen) (by decide) hrule (congrArg State.tongue heq :)
    fun g x hreplied => ⟨hreplied, fun x => pend_armed (b.s.runs src 0x12 p) (b.s.reqOf src p) hs el,
      (congrArg (fun t : State => t.pict.arms) heq :), (congrArg State.mem heq :)⟩

/-- Beside Tongue and Welt, nothing changes where Tongue begins to run a packet. -/
theorem regsOnly_runs (s : State) (src : Src) (op : Nat) (p : Packet) :
    RegsOnly (fun _ => False) s { s.runs src op p with tongue := s.tongue, welt := s.welt } := ⟨rfl, fun _ _ => rfl⟩

/-! ## COMMIT_QUERY (R188) -/

/-- The body of COMMIT_QUERY's reply. -/
def State.queryBody (s : State) (h : Nat) : List Nat :=
  match (s.headS h).applied with
  | some f => [f % 2 ^ 28, f / 2 ^ 28 % 2 ^ 28, s.get (Fd.HD_COMMIT_PEND h)]
  | none => [0, 0, s.get (Fd.HD_COMMIT_PEND h) + 2]

theorem queryBody_some {a : State} {k f : Nat} (hf : (a.headS k).applied = some f) :
    a.queryBody k = [f % 2 ^ 28, f / 2 ^ 28 % 2 ^ 28, a.get (Fd.HD_COMMIT_PEND k)] := by
  unfold State.queryBody
  rw [hf]

theorem queryBody_none {a : State} {k : Nat} (hf : (a.headS k).applied = none) :
    a.queryBody k = [0, 0, a.get (Fd.HD_COMMIT_PEND k) + 2] := by
  unfold State.queryBody
  rw [hf]

theorem commitQuery_eq (a : State) (r : Req) (p : Packet) : a.commitQuery r p = a.answer r 0 (a.queryBody (p.w 2 % 16)) := by
  unfold State.commitQuery State.queryBody
  dsimp only
  cases (a.headS (p.w 2 % 16)).applied with
  | none => rfl
  | some f => rfl

theorem commitQuery_answers (h : Heard s src 0x13 p e b) (hlen : p.len = 3) :
    Answers (.commitQuery src p e) s (fun t =>
      (∀ f, (b.s.headS (p.w 2 % 16)).applied = some f →
        Replied b.s t src p 0 [f % 2 ^ 28, f / 2 ^ 28 % 2 ^ 28, b.s.get (Fd.HD_COMMIT_PEND (p.w 2 % 16))]) ∧
      ((b.s.headS (p.w 2 % 16)).applied = none → Replied b.s t src p 0 [0, 0, b.s.get (Fd.HD_COMMIT_PEND (p.w 2 % 16)) + 2]) ∧
      RegsOnly (fun _ => False) b.s { t with tongue := b.s.tongue, welt := b.s.welt }) := by
  have hrule := commitQuery_eq (b.s.runs src 0x13 p) (b.s.reqOf src p) p
  refine packet_answers rfl h rfl (by decide) (beq_iff_eq.mpr hlen) (by decide) hrule rfl
    fun g x hreplied => ⟨fun f hf => ?_, fun hf => ?_, regsOnly_runs b.s src 0x13 p⟩
  · exact queryBody_some (a := b.s.runs src 0x13 p) hf ▸ hreplied
  · exact queryBody_none (a := b.s.runs src 0x13 p) hf ▸ hreplied

/-! ## CRC_EXPECT (R251) -/

/-- Head `h` with the shadow expectation of rectangle `i`. -/
def State.expects (s : State) (h i : Nat) (x : Option Nat) : State :=
  s.modHead h (fun v => { v with expShadow := tabInsert v.expShadow i x })

theorem expShadow_expects (a : State) (k i : Nat) (x : Option Nat) : tabFind ((a.expects k i x).headS k).expShadow i = some x := by
  unfold State.expects
  rw [headS_modHead_same]
  exact tabFind_insert_same _ _ _

/-- CRC_EXPECT stores the value of word 3, or voids the expectation. -/
theorem crcExpect_expects {a : State} {r : Req} {o : Nat} (hown : a.mayWrite o (20 + p.w 2 % 16) = true)
    (hup : a.headDown (p.w 2 % 16) = false) :
    a.crcExpect r o p =
      (a.expects (p.w 2 % 16) (p.w 2 / 2 ^ 4 % 2 ^ 4) (if nbit (p.w 2) 8 then none else some (p.w 3))).answer r 0 [] := by
  unfold State.crcExpect
  simp only [hown, hup, Bool.not_true, Bool.false_eq_true, if_false]
  rfl

/-- Both forms of CRC_EXPECT, from the command `c` of the row that names the packet's form. -/
theorem crcExpect_answers {c : Instr} {form : Bool} {x : Option Nat}
    (hc : exec c s = event s (s.tongueRow src 0x18 p e form (plainBody fun a r o => a.crcExpect r o p))) (hform : form = true)
    (hx : (if nbit (p.w 2) 8 then none else some (p.w 3)) = x) (h : Heard s src 0x18 p e b) (hlen : p.len = 4)
    (hown : b.s.mayWrite (b.s.ownerOfSrc src) (20 + p.w 2 % 16) = true) (hup : b.s.headDown (p.w 2 % 16) = false) :
    Answers c s (fun t =>
      Replied b.s t src p 0 [] ∧ tabFind (t.headS (p.w 2 % 16)).expShadow (p.w 2 / 2 ^ 4 % 2 ^ 4) = some x ∧
      RegsOnly (fun _ => False) b.s { t with tongue := b.s.tongue, welt := b.s.welt, pict := b.s.pict }) := by
  have hrule := crcExpect_expects (a := b.s.runs src 0x18 p) (r := b.s.reqOf src p) hown hup
  rw [hx] at hrule
  exact packet_answers hc h hform (by decide) (beq_iff_eq.mpr hlen) (by decide) hrule rfl
    fun g y hreplied => ⟨hreplied, expShadow_expects (b.s.runs src 0x18 p) _ _ x, regsOnly_runs b.s src 0x18 p⟩

/-! ## PICTURE_REPORT (R254) -/

section
variable {a : State} {r : Req} {rc : ReportRec} (hfence : a.fenced (uHead (p.w 2 % 16)) = false)
  (hdom : a.domOn (solegOf (p.w 2 % 16)) = true) (hfrozen : (a.headS (p.w 2 % 16)).frozen = some rc)
include hfence hdom hfrozen

/-- PICTURE_REPORT without SIGN answers the frozen record. -/
theorem pictureReport_plain (hsign : nbit (p.w 2) 4 = false) :
    a.pictureReport r p = a.answer r 0 (reportBody (p.w 2 % 16) rc [p.w 3, p.w 4, p.w 5, p.w 6]) := by
  unfold State.pictureReport
  simp only [hfence, hdom, hfrozen, hsign, Bool.not_true, Bool.not_false, Bool.or_self, Bool.false_eq_true, if_false, if_true]

/-- PICTURE_REPORT with SIGN hands the frozen record to an idle signing path. -/
theorem pictureReport_signed (hsign : nbit (p.w 2) 4 = true) (hprov : a.flag Fd.SEC_KEYSTAT_IDPROV = true) (hidle : a.sec.sign = none) :
    a.pictureReport r p = a.beginSign r (reportBody (p.w 2 % 16) rc [p.w 3, p.w 4, p.w 5, p.w 6]) := by
  unfold State.pictureReport
  simp only [hfence, hdom, hfrozen, hsign, hprov, hidle, Option.isSome_none, Bool.not_true, Bool.or_self, Bool.false_eq_true, if_false]

end

theorem pictureReport_answers {rc : ReportRec} (h : Heard s src 0x29 p e b) (hlen : p.len = 7) (hsign : nbit (p.w 2) 4 = false)
    (hfence : b.s.fenced (uHead (p.w 2 % 16)) = false) (hdom : b.s.domOn (solegOf (p.w 2 % 16)) = true)
    (hfrozen : (b.s.headS (p.w 2 % 16)).frozen = some rc) :
    Answers (.pictureReport src p e) s (fun t =>
      Replied b.s t src p 0 (reportBody (p.w 2 % 16) rc [p.w 3, p.w 4, p.w 5, p.w 6]) ∧
      RegsOnly (fun _ => False) b.s { t with tongue := b.s.tongue, welt := b.s.welt }) := by
  have hrule := pictureReport_plain (a := b.s.runs src 0x29 p) (r := b.s.reqOf src p) hfence hdom hfrozen hsign
  exact packet_answers rfl h (by rw [hsign]; rfl) (by decide) (beq_iff_eq.mpr hlen) (by decide) hrule rfl
    fun g x hreplied => ⟨hreplied, regsOnly_runs b.s src 0x29 p⟩

theorem pictureReportSigned_answers {rc : ReportRec} (h : Heard s src 0x29 p e b) (hlen : p.len = 7) (hsign : nbit (p.w 2) 4 = true)
    (hfence : b.s.fenced (uHead (p.w 2 % 16)) = false) (hdom : b.s.domOn (solegOf (p.w 2 % 16)) = true)
    (hfrozen : (b.s.headS (p.w 2 % 16)).frozen = some rc) (hprov : b.s.flag Fd.SEC_KEYSTAT_IDPROV = true)
    (hidle : b.s.sec.sign = none) :
    Answers (.pictureReportSigned src p e) s (fun t =>
      Replied b.s t src p 1 [] ∧
      t.sec.sign = some ⟨b.s.reqOf src p, reportBody (p.w 2 % 16) rc [p.w 3, p.w 4, p.w 5, p.w 6]⟩ ∧
      RegsOnly (fun _ => False) b.s { t with tongue := b.s.tongue, welt := b.s.welt, sec := b.s.sec }) := by
  have hrule := pictureReport_signed (a := b.s.runs src 0x29 p) (r := b.s.reqOf src p) hfence hdom hfrozen hsign hprov hidle
  exact packet_answers rfl h hsign (by decide) (beq_iff_eq.mpr hlen) (by decide) hrule rfl
    fun g x hreplied => ⟨hreplied, rfl, regsOnly_runs b.s src 0x29 p⟩

end

/-! ## The end of a signature (R254, R256, R463) -/

/-- The signing path is free and its randomness drawn. -/
def State.signed (s : State) : State := (s.modSec (fun c => { c with sign := none })).draw

theorem signDone_signed {s : State} {j : SignJob} (he : s.inEpisode = false) (hh : s.halted = false) (hj : s.sec.sign = some j)
    (hsec : s.fenced uSec = false) : s.signDone = s.signed.answer j.req 0 (j.body ++ signBlock s.fresh j.body) := by
  unfold State.signDone
  simp only [hj, he, hh, hsec, Bool.or_self, Bool.false_eq_true, if_false]
  rfl

theorem signingDone_answers {s : State} {j : SignJob} (he : s.inEpisode = false) (hh : s.halted = false) (hj : s.sec.sign = some j)
    (hsec : s.fenced uSec = false) :
    Answers .signingDone s (fun t =>
      t.sec.sign = none ∧ RepliedTo s t j.req 0 (j.body ++ signBlock s.fresh j.body) ∧
      RegsOnly (fun _ => False) s { t with tongue := s.tongue, sec := s.sec, fresh := s.fresh }) := by
  refine answers_event rfl he ?_
  rw [signDone_signed he hh hj hsec]
  generalize j.body ++ signBlock s.fresh j.body = body
  have hreply := repliedTo_answer (s := s) (w := s.signed) rfl j.req 0 body s.signed.welt
  rw [answer_eq] at hreply ⊢
  exact ⟨rfl, hreply, regsOnly_refl _ _⟩

/-- Settles O26, one lemma for each of its commands. -/
theorem commitAndReportCommandsComplete : Obligations.CommitAndReportCommandsComplete := by
  unfold Obligations.CommitAndReportCommandsComplete
  intro src p e s b
  refine ⟨commitArm_answers rfl, commitQuery_answers, fun h hlen hbit => ?_, fun h hlen hbit => ?_, fun rc => pictureReport_answers,
    fun rc => pictureReportSigned_answers, fun j => signingDone_answers⟩
  · exact crcExpect_answers rfl (by rw [hbit]; rfl) (by rw [hbit]; rfl) h hlen
  · exact crcExpect_answers rfl hbit (by rw [hbit]; rfl) h hlen

end Sys2Proof.Machine
end

section
/-! Arithmetic of the picture path (R193, R198): a LUT's interpolation and the product of two 14-bit values. -/
namespace Sys2Proof.Machine

theorem clampInt_eq (lo hi x : Int) (h : lo ≤ hi) : clampInt lo hi x = max lo (min hi x) := by
  unfold clampInt
  split
  · omega
  · split <;> omega

/-- Entry `i + 1` as entry `i` interpolates towards it: past the last entry, the line through the last two (R198). -/
def lutNext (l : Nat → Nat) (i : Nat) : Int := if i = 4095 then 2 * (l 4095 : Int) - l 4094 else l (i + 1)

/-- R198, over the entry `v / 4` and the fraction `v % 4`. -/
theorem lutMap_eq (l : Nat → Nat) (v : Nat) :
    (lutMap l v : Int) =
      max 0 (min 16383 ((l (v / 4) : Int) + ((lutNext l (v / 4) - l (v / 4)) * (v % 4 : Nat) + 2) / 4)) := by
  rw [← Int.fdiv_eq_ediv_of_nonneg _ (by decide), ← clampInt_eq _ _ _ (by decide)]
  refine Int.toNat_of_nonneg ?_
  rw [clampInt_eq _ _ _ (by decide)]
  exact Int.le_max_left _ _

theorem lutMap_le (l : Nat → Nat) (v : Nat) : lutMap l v ≤ 16383 := by
  have h := lutMap_eq l v
  omega

/-- The entries of the identity go on in a straight line past the last one. -/
theorem lutNext_identity (i : Nat) : lutNext (fun j => 4 * j) i = 4 * i + 4 := by
  unfold lutNext
  split
  · next hi => simp [hi]
  · push_cast
    ring

theorem lutMap_identity {v : Nat} (hv : v ≤ 16383) : lutMap (fun j => 4 * j) v = v := by
  have h := lutMap_eq (fun j => 4 * j) v
  rw [lutNext_identity] at h
  push_cast at h
  rw [add_sub_cancel_left] at h
  omega

theorem mul14_one (a : Nat) : mul14 a 16383 = a := by
  unfold mul14
  omega

theorem mul14_zero (a : Nat) : mul14 a 0 = 0 := by
  unfold mul14
  omega

theorem mul14_le {a b : Nat} (ha : a ≤ 16383) (hb : b ≤ 16383) : mul14 a b ≤ 16383 := by
  have hab : a * b ≤ 16383 * 16383 := Nat.mul_le_mul ha hb
  unfold mul14
  omega

/-- Settles O60: the interpolation over quotient and remainder by 4, its bounds, and the products. -/
theorem pictureArithmetic : Obligations.PictureArithmetic := by
  unfold Obligations.PictureArithmetic
  refine ⟨fun l v _ => ?_, fun _ _ _ _ => rfl, fun _ => lutMap_identity, lutMap_le, fun a => ⟨mul14_one a, mul14_zero a⟩,
    fun _ _ => mul14_le⟩
  have hquot : v >>> 2 = v / 4 := Nat.shiftRight_eq_div_pow v 2
  have hrest : v &&& 3 = v % 4 := Nat.and_two_pow_sub_one_eq_mod v 2
  rw [hquot, hrest]
  exact lutMap_eq l v

end Sys2Proof.Machine
end

section
/-! What a head's own events leave alone, and the faults that they report (R243, R249, R250, R684): an underrun and a rectangle's
comparison. -/
namespace Sys2Proof.Machine

/-! ## Registers, the picture path and interrupts only -/

/-- Nothing differs but registers, the picture path's state and pending interrupts. -/
def HeadOnly (s t : State) : Prop := { t with regs := s.regs, pict := s.pict, icu := s.icu } = s

theorem headOnly_refl (s : State) : HeadOnly s s := rfl

theorem headOnly_trans {s t u : State} (h : HeadOnly s t) (g : HeadOnly t u) : HeadOnly s u := by
  unfold HeadOnly at h g ⊢
  exact (congrArg (fun x : State => { x with regs := s.regs, pict := s.pict, icu := s.icu }) g).trans h

theorem headOnly_ite {s a b : State} {c : Prop} [Decidable c] (ha : HeadOnly s a) (hb : HeadOnly s b) : HeadOnly s (if c then a else b) :=
  SteadyClosed.ite ha hb

theorem headOnly_modHead (s : State) (h : Nat) (f : HeadS → HeadS) : HeadOnly s (s.modHead h f) := rfl

theorem headOnly_set (s : State) (f : Fd) (x : Nat) : HeadOnly s (s.set f x) := rfl

theorem headOnly_raise (s : State) (n : Nat) : HeadOnly s (s.raise n) := headOnly_ite rfl rfl

theorem headOnly_bump (s : State) (f : Fd) (top : Nat) : HeadOnly s (s.bump f top) := headOnly_ite rfl rfl

theorem hub_of_headOnly {s t : State} (h : HeadOnly s t) : t.hub = s.hub := (congrArg State.hub h :)

theorem mem_of_headOnly {s t : State} (h : HeadOnly s t) : t.mem = s.mem := (congrArg State.mem h :)

/-- A report made after such writes stands in the log as one made before them would (R684). -/
theorem recorded_of_headOnly {s t : State} (h : HeadOnly s t) (u code base detail : Nat) :
    Recorded s (t.report u code base detail) u code base detail := by
  have hfree : t.freeEntry = s.freeEntry := (congrArg State.freeEntry h :)
  have hrec := congrArg (fun r : State => r.recordOf u code base detail false true) h
  exact fun _ hx => (log_reportG t u code base detail false true (hfree.trans hx)).trans (congrArg some hrec)

theorem mem_report_of_headOnly {s t : State} (h : HeadOnly s t) (u code base detail : Nat) :
    (t.report u code base detail).mem = s.mem :=
  (mem_report t u code base detail).trans (mem_of_headOnly h)

/-! ## What a report leaves of a head -/

/-- The head with the rectangles that are not compared yet left unchecked (R690). -/
def HeadS.unchecked (v : HeadS) : HeadS :=
  { v with rects := v.rects.map (fun r => if r.compared then r else { r with expect := none }) }

theorem uncheckRects_eq (s : State) (h : Nat) : s.uncheckRects h = s.modHead h HeadS.unchecked := rfl

/-- A property of one head that unchecked rectangles do not break. -/
theorem reportClosed_head (h : Nat) (p : HeadS → Prop) (hp : ∀ v, p v → p v.unchecked) : ReportClosed (fun t => p (t.headS h)) where
  set _ ht _ := ht
  loopEn ht := ht
  hub _ ht _ := ht
  icu _ ht := ht
  lanes _ ht := ht
  audio _ ht := ht
  cut _ ht := ht
  uncheck {t} k ht := by
    rw [uncheckRects_eq]
    by_cases hk : h = k
    · subst hk
      rw [headS_modHead_same]
      exact hp _ ht
    · unfold State.modHead
      rw [headS_setHead_other _ _ hk]
      exact ht
  prx _ ht := ht

theorem head_report {α : Type} (g : HeadS → α) (hg : ∀ v, g v.unchecked = g v) (s : State) (h u code base detail : Nat) :
    g ((s.report u code base detail).headS h) = g (s.headS h) :=
  (reportClosed_head h (fun v => g v = g (s.headS h)) fun v hv => (hg v).trans hv).report u code base detail rfl

/-- The registers of a head's block, but none of the supply loop's. -/
theorem get_report_head (s : State) {f : Fd} (hf : 0x180000 ≤ f.key ∧ f.key < 0x190000) (u code base detail : Nat) :
    (s.report u code base detail).get f = s.get f :=
  (heldAs_report s u code base detail).get (by unfold heldKey; omega) (by unfold Rg.PWR_PACECTL; omega)

theorem flag_report_head (s : State) {f : Fd} (hf : 0x180000 ≤ f.key ∧ f.key < 0x190000) (u code base detail : Nat) :
    (s.report u code base detail).flag f = s.flag f := flag_of_get (get_report_head s hf u code base detail)

theorem hdStat_bounds (h : Fin 16) : 0x180000 ≤ Rg.HD_STAT h ∧ Rg.HD_STAT h < 0x190000 := by
  unfold Rg.HD_STAT
  omega

theorem hdWbctl_bounds (h : Fin 16) : 0x180000 ≤ Rg.HD_WBCTL h ∧ Rg.HD_WBCTL h < 0x190000 := by
  unfold Rg.HD_WBCTL
  omega

/-! ## Interrupts and heads leave registers alone, and interrupts heads -/

theorem get_raise (s : State) (n : Nat) (f : Fd) : (s.raise n).get f = s.get f :=
  SteadyClosed.ite (P := fun t : State => t.get f = s.get f) rfl rfl

theorem flag_raise (s : State) (n : Nat) (f : Fd) : (s.raise n).flag f = s.flag f := flag_of_get (get_raise s n f)

theorem headS_raise (s : State) (n h : Nat) : (s.raise n).headS h = s.headS h :=
  SteadyClosed.ite (P := fun t : State => t.headS h = s.headS h) rfl rfl

theorem headS_bump (s : State) (f : Fd) (top h : Nat) : (s.bump f top).headS h = s.headS h :=
  SteadyClosed.ite (P := fun t : State => t.headS h = s.headS h) rfl rfl

theorem get_modHead (s : State) (h : Nat) (g : HeadS → HeadS) (f : Fd) : (s.modHead h g).get f = s.get f := rfl

/-! ## Underruns (R243) -/

/-- Line `y` shows background from block `b` on, and its underrun is counted. -/
def State.underrunCounted (s : State) (h y b : Nat) : State :=
  let s1 := (s.modHead h (fun v => { v with under := (y, b) :: v.under })).modHead h (fun v => { v with marks := (y, 20) :: v.marks })
  ((s1.bump (Fd.HD_STAT_URCNT h) 127).modHead h (fun v => { v with report := { v.report with
    urlines := min 65535 (v.report.urlines + 1) } })).raise (24 + 6 * h + 1)

section
variable {s : State} {h y b : Nat}

theorem underrun_first (hdark : s.darkFrom h y = none) (hmark : (s.headS h).marks.contains (y, 20) = false)
    (hcount : s.noUnderrun h y = false) (hfence : s.fenced (uSole (s.blockSole h y b)) = false) :
    s.underrun h y b = (s.underrunCounted h y b).report (uSole (s.blockSole h y b)) 0x10 1 h := by
  have hgo : s.dark h y b = s.modHead h (fun v => { v with under := (y, b) :: v.under }) := by
    unfold State.dark
    rw [hdark]
  have hmark' : ((s.modHead h (fun v => { v with under := (y, b) :: v.under })).headS h).marks.contains (y, 20) = false := by
    rw [headS_modHead_same]
    exact hmark
  unfold State.underrun State.oncePerLine
  simp only [hdark, hcount, hfence, hmark', hgo, Bool.false_eq_true, Bool.or_self, if_false]
  rfl

theorem headOnly_underrunCounted (s : State) (h y b : Nat) : HeadOnly s (s.underrunCounted h y b) := by
  refine headOnly_trans ?_ (headOnly_raise _ _)
  exact headOnly_trans (headOnly_trans (headOnly_trans (headOnly_modHead _ _ _) (headOnly_modHead _ _ _)) (headOnly_bump _ _ _))
    (headOnly_modHead _ _ _)

theorem under_underrunCounted (s : State) (h y b : Nat) :
    ((s.underrunCounted h y b).headS h).under = (y, b) :: (s.headS h).under := by
  unfold State.underrunCounted
  rw [headS_raise, headS_modHead_same, headS_bump, headS_modHead_same, headS_modHead_same]

theorem darkFrom_of_under {t : State} (hu : (t.headS h).under = (y, b) :: (s.headS h).under) (hdark : s.darkFrom h y = none) :
    t.darkFrom h y = some b := by
  unfold State.darkFrom at hdark ⊢
  rw [hu, List.filter_cons_of_pos (by simp), List.map_cons]
  unfold minOf
  rw [hdark]

theorem get_bump_same (s : State) {f : Fd} {top : Nat} (htop : top < 2 ^ f.w) (hf : f.lo + f.w ≤ 28) (hle : s.get f ≤ top) :
    (s.bump f top).get f = min top (s.get f + 1) := by
  unfold State.bump
  split
  · next hlt =>
    rw [get_set_same s f _ hf, Nat.mod_eq_of_lt (Nat.lt_of_le_of_lt hlt htop), Nat.min_eq_right hlt]
  · next hge => rw [Nat.min_eq_left (by omega), Nat.le_antisymm hle (Nat.le_of_not_lt hge)]

theorem urcnt_underrunCounted (s : State) (h y b : Nat) :
    (s.underrunCounted h y b).get (Fd.HD_STAT_URCNT h) = min 127 (s.get (Fd.HD_STAT_URCNT h) + 1) := by
  have hlt : s.get (Fd.HD_STAT_URCNT h) < 2 ^ 7 := get_lt s (Fd.HD_STAT_URCNT h)
  unfold State.underrunCounted
  rw [get_raise, get_modHead, get_bump_same _ (show 127 < 2 ^ 7 by decide) (show 16 + 7 ≤ 28 by decide) (by rw [get_modHead, get_modHead]; omega)]
  rfl

end

theorem headUnderrun_answers {s : State} {h : Fin 16} {b : Fin 512} {y : Nat} (hy : y = (s.headS h).line - 1) (he : s.inEpisode = false)
    (hrun : (s.headS h).running = true ∧ (s.headS h).line ≠ 0) (hline : s.activeLine h y = true ∧ s.noUnderrun h y = false)
    (hmiss : (s.lineCtxs h y).any (fun c => (c.left s).contains b.val) = true)
    (hfirst : s.darkFrom h y = none ∧ (s.headS h).marks.contains (y, 20) = false)
    (hfence : s.fenced (uSole (s.blockSole h y b)) = false) :
    Answers (.headUnderrun h b) s (fun t =>
      t.darkFrom h y = some b.val ∧ t.get (Fd.HD_STAT_URCNT h) = min 127 (s.get (Fd.HD_STAT_URCNT h) + 1) ∧
      Recorded s t (uSole (s.blockSole h y b)) 0x10 1 h ∧ t.mem = s.mem) := by
  obtain ⟨hrunning, hline0⟩ := hrun
  obtain ⟨hactive, hcount⟩ := hline
  obtain ⟨hdark, hmark⟩ := hfirst
  have hcurv : s.curv h = true := by
    unfold State.noUnderrun at hcount
    simp only [Bool.or_eq_false_iff] at hcount
    simpa using hcount.1.1.1.1
  have hevent : s.headUnderrun h b = (s.underrunCounted h y b).report (uSole (s.blockSole h y b)) 0x10 1 h := by
    unfold State.headUnderrun
    simp only [← hy, hrunning, hactive, hcurv, hmiss, beq_eq_false_iff_ne.mpr hline0, Bool.not_true, Bool.or_self, Bool.false_eq_true,
      if_false, if_true]
    exact underrun_first hdark hmark hcount hfence
  have honly := headOnly_underrunCounted s h y b
  refine answers_quiet rfl he ?_
  rw [hevent]
  refine ⟨darkFrom_of_under ?_ hdark, ?_, recorded_of_headOnly honly _ _ _ _, mem_report_of_headOnly honly _ _ _ _⟩
  · exact (head_report HeadS.under (fun _ => rfl) _ _ _ _ _ _).trans (under_underrunCounted s h y b)
  · exact (get_report_head _ (hdStat_bounds h) _ _ _ _).trans (urcnt_underrunCounted s h y b)

/-! ## A rectangle's comparison (R249, R250) -/

/-- The rectangle compared with the value `x`. -/
def RectRun.judged (r : RectRun) (x : Nat) : RectRun := { r with compared := true, mismatch := decide (crcEnd r.crc ≠ x) }

/-- Rectangle `i` of the head mismatches: its bit of MISMATCH, its count and the interrupt. -/
def State.mismatched (s : State) (h i : Nat) : State :=
  ((s.set (Fd.HD_STAT_MISMATCH h) (Nat.lor (s.get (Fd.HD_STAT_MISMATCH h)) (2 ^ i))).modHead h (fun v =>
    { v with misCnt := tabPut 0 v.misCnt i (min 65535 (tabGet 0 v.misCnt i + 1)), misRec := true })).raise (24 + 6 * h + 2)

theorem headOnly_mismatched (s : State) (h i : Nat) : HeadOnly s (s.mismatched h i) :=
  headOnly_trans (t := State.modHead _ h _) (headOnly_trans (headOnly_set _ _ _) (headOnly_modHead _ _ _)) (headOnly_raise _ _)

theorem rects_mismatched (s : State) (h i : Nat) : ((s.mismatched h i).headS h).rects = (s.headS h).rects := by
  unfold State.mismatched
  rw [headS_raise, headS_modHead_same, headS_set]

theorem mismatch_mismatched (s : State) (h : Nat) (i : Fin 16) : nbit ((s.mismatched h i).get (Fd.HD_STAT_MISMATCH h)) i = true := by
  unfold State.mismatched
  rw [get_raise, get_modHead, get_set_same _ _ _ (show 0 + 16 ≤ 28 by decide), nbit_eq_testBit, show (Fd.HD_STAT_MISMATCH h).w = 16 from rfl,
    Nat.testBit_mod_two_pow, decide_eq_true i.isLt, Bool.true_and]
  exact (Nat.testBit_or _ _ _).trans (by rw [Nat.testBit_two_pow_self, Bool.or_true])

section
variable {s a : State} {h : Nat} {r q : RectRun} {x i : Nat}

/-- The comparison, where nothing leaves the rectangle unchecked. -/
theorem rectEnd_eq (hx : r.expect = some x) (hr : r.compared = false) (hhalt : (s.headS h).report.halt = false) (hhalted : s.halted = false)
    (hfence : s.fenced (uHead h) = false) : s.rectEnd h r =
      if crcEnd r.crc = x then s.setRect h (r.judged x)
      else if (s.headS h).misRec then (s.setRect h (r.judged x)).mismatched h r.index
      else ((s.setRect h (r.judged x)).mismatched h r.index).report (uHead h) 0x16 (s.get (Fd.HD_CTL_MISCLS h).act) r.index := by
  obtain ⟨n, x0, y0, width, height, outfmt, expect, crc, rows, compared, mismatch⟩ := r
  subst hx hr
  have hgo : ¬ (false || (s.headS h).report.halt || s.halted || s.fenced (uHead h)) = true := by
    rw [hhalt, hhalted, hfence]
    decide
  unfold State.rectEnd
  dsimp only
  rw [if_neg hgo]
  by_cases hc : crcEnd crc = x
  · rw [if_pos hc, if_pos (by simp [hc])]
    rfl
  · rw [if_neg hc, if_neg (by simp [hc])]
    rfl

theorem headS_setRect (s : State) (h : Nat) (r : RectRun) : (s.setRect h r).headS h =
    { s.headS h with rects := (s.headS h).rects.map (fun q => if q.index = r.index then r else q) } := headS_modHead_same _ _ _

theorem find_setRect (hq : (s.headS h).rects.find? (fun p => p.index == i) = some q) (hi : r.index = i) :
    ((s.setRect h r).headS h).rects.find? (fun p => p.index == i) = some r := by
  subst hi
  have hqi : q.index = r.index := by simpa using List.find?_some hq
  have hsame : ((fun p : RectRun => p.index == r.index) ∘ fun p => if p.index = r.index then r else p) = fun p => p.index == r.index := by
    funext p
    by_cases hp : p.index = r.index <;> simp [hp]
  rw [headS_setRect, List.find?_map, hsame, hq, Option.map_some, if_pos hqi]

/-- A compared rectangle stays so through a report. -/
theorem find_report (hr : r.compared = true) (u code base detail : Nat)
    (hq : (s.headS h).rects.find? (fun p => p.index == i) = some r) :
    ((s.report u code base detail).headS h).rects.find? (fun p => p.index == i) = some r := by
  refine (reportClosed_head h (fun v => v.rects.find? (fun p => p.index == i) = some r) fun v hv => ?_).report u code base detail hq
  have hsame : ((fun p : RectRun => p.index == i) ∘ fun p => if p.compared then p else { p with expect := none }) = fun p => p.index == i := by
    funext p
    by_cases hp : p.compared = true <;> simp [hp]
  unfold HeadS.unchecked
  rw [List.find?_map, hsame, hv, Option.map_some, if_pos hr]

end

/-- What a comparison leaves, `a` being the state with the rectangle's last row taken. -/
theorem rectEnd_judges {s a : State} {h : Fin 16} {r q : RectRun} {x : Nat} {i : Fin 16} (ha : HeadOnly s a) (hregs : a.regs = s.regs)
    (hmis : (a.headS h).misRec = (s.headS h).misRec) (hq : (a.headS h).rects.find? (fun p => p.index == i.val) = some q)
    (hi : r.index = i) (hx : r.expect = some x) (hr : r.compared = false) (hhalt : (a.headS h).report.halt = false)
    (hhalted : a.halted = false) (hfence : a.fenced (uHead h) = false) :
    ((a.rectEnd h r).headS h).rects.find? (fun p => p.index == i.val) = some (r.judged x) ∧
    (crcEnd r.crc ≠ x → nbit ((a.rectEnd h r).get (Fd.HD_STAT_MISMATCH h)) i = true) ∧
    (crcEnd r.crc ≠ x → (s.headS h).misRec = false →
      Recorded s (a.rectEnd h r) (uHead h) 0x16 (s.get (Fd.HD_CTL_MISCLS h).act) i) ∧
    (crcEnd r.crc = x → (a.rectEnd h r).regs = s.regs ∧ (a.rectEnd h r).hub = s.hub) ∧ (a.rectEnd h r).mem = s.mem := by
  have hfound := find_setRect (r := r.judged x) hq hi
  have hset : HeadOnly s (a.setRect h (r.judged x)) := headOnly_trans ha (headOnly_modHead _ _ _)
  have hfound' := hfound
  rw [← rects_mismatched _ h r.index] at hfound'
  have hset' := headOnly_trans hset (headOnly_mismatched _ h r.index)
  have hbit := mismatch_mismatched (a.setRect h (r.judged x)) h i
  rw [← hi] at hbit
  have hcls : a.get (Fd.HD_CTL_MISCLS h).act = s.get (Fd.HD_CTL_MISCLS h).act := get_of_reg (reg_of_regs hregs _)
  rw [rectEnd_eq hx hr hhalt hhalted hfence, hcls, hmis]
  split
  · next hc =>
    exact ⟨hfound, fun hne => absurd hc hne, fun hne => absurd hc hne, fun _ => ⟨hregs, hub_of_headOnly ha⟩, mem_of_headOnly hset⟩
  · next hc =>
    split
    · next hrec =>
      refine ⟨hfound', fun _ => ?_, fun _ hno => absurd (hrec.symm.trans hno) (by decide), fun h0 => absurd h0 hc, mem_of_headOnly hset'⟩
      exact hi ▸ hbit
    · refine ⟨find_report rfl _ _ _ _ hfound', fun _ => ?_, fun _ _ => ?_, fun h0 => absurd h0 hc, mem_report_of_headOnly hset' _ _ _ _⟩
      · rw [get_report_head _ (hdStat_bounds h)]
        exact hi ▸ hbit
      · exact hi ▸ recorded_of_headOnly hset' _ _ _ _

/-- The last rectangle that ends at a pixel is the one compared there. -/
theorem rectsEnd_singleton {s : State} {h y x : Nat} {r : RectRun} (hend : s.rectsEnding h y x = [r])
    (hrows : r.rows = r.height ∨ r.rows + 1 = r.height) :
    s.rectsEnd h y x = if r.rows = r.height then s.rectEnd h r else (s.setRect h (s.rectRow h y r)).rectEnd h (s.rectRow h y r) := by
  unfold State.rectsEnd
  rw [hend, List.foldl_cons, List.foldl_nil]
  rcases hrows with hall | hlast
  · rw [if_pos hall, if_neg (by omega), if_pos hall]
  · rw [if_pos hlast, if_neg (by omega)]

theorem rectCrcCompare_answers {s : State} {h i : Fin 16} {r r1 : RectRun} {x y : Nat} (hy : y = (s.headS h).line - 1)
    (hr1 : r1 = if r.rows = r.height then r else s.rectRow h y r) (he : s.inEpisode = false)
    (hq : (s.headS h).rects.find? (fun q => q.index == i.val) = some r) (hend : s.rectsEnding h y (r.x0 + r.width) = [r])
    (hrows : r.rows = r.height ∨ r.rows + 1 = r.height) (hr : r.expect = some x ∧ r.compared = false)
    (hfree : (s.headS h).report.halt = false ∧ s.halted = false ∧ s.fenced (uHead h) = false) :
    Answers (.rectCrcCompare h i) s (fun t =>
      (t.headS h).rects.find? (fun q => q.index == i.val) = some { r1 with compared := true, mismatch := decide (crcEnd r1.crc ≠ x) } ∧
      (crcEnd r1.crc ≠ x → nbit (t.get (Fd.HD_STAT_MISMATCH h)) i = true) ∧
      (crcEnd r1.crc ≠ x → (s.headS h).misRec = false → Recorded s t (uHead h) 0x16 (s.get (Fd.HD_CTL_MISCLS h).act) i) ∧
      (crcEnd r1.crc = x → t.regs = s.regs ∧ t.hub = s.hub) ∧ t.mem = s.mem) := by
  obtain ⟨hexpect, hcompared⟩ := hr
  obtain ⟨hhalt, hhalted, hfence⟩ := hfree
  have hi : r.index = i := by simpa using List.find?_some hq
  have hcompare : s.rectCompare h i = s.rectsEnd h y (r.x0 + r.width) := by
    unfold State.rectCompare
    rw [hq, hy]
  refine answers_quiet rfl he ?_
  rw [hcompare, rectsEnd_singleton hend hrows]
  by_cases hall : r.rows = r.height
  · rw [if_pos hall] at hr1 ⊢
    subst hr1
    exact rectEnd_judges (headOnly_refl s) rfl rfl hq hi hexpect hcompared hhalt hhalted hfence
  · rw [if_neg hall] at hr1 ⊢
    subst hr1
    have hset := headS_setRect s h (s.rectRow h y r)
    have hmis : ((s.setRect h (s.rectRow h y r)).headS h).misRec = (s.headS h).misRec := by rw [hset]
    have hhalt' : ((s.setRect h (s.rectRow h y r)).headS h).report.halt = false := by rw [hset]; exact hhalt
    exact rectEnd_judges (headOnly_modHead s h _) rfl hmis (find_setRect hq hi) hi hexpect hcompared hhalt' hhalted hfence

end Sys2Proof.Machine
end

section
/-! Writeback (R213–R217, R292): the drop of a frame whose rows wait, and the end of one whose rows are written. -/
namespace Sys2Proof.Machine

/-! ## How a frame's writeback ends (R216, R217) -/

section
variable (s : State) (h : Nat) (f : Fd)

theorem headOnly_wbEnds : HeadOnly s (s.wbEnds h f) :=
  headOnly_trans (t := State.setB _ _ _) (headOnly_trans (headOnly_set s f 1) (headOnly_set _ _ _)) (headOnly_raise _ _)

theorem headS_wbEnds : (s.wbEnds h f).headS h = s.headS h := by
  unfold State.wbEnds State.setB
  rw [headS_raise, headS_set, headS_set]

theorem busy_wbEnds : (s.wbEnds h f).flag (Fd.HD_WBCTL_BUSY h) = ((s.headS h).wb.isSome || (s.headS h).wbTail != 0) :=
  (flag_raise _ _ _).trans (flag_setB_same _ _ _ rfl (show 18 + 1 ≤ 28 by decide))

variable {f} in
/-- The field that says how it ended, which lies above BUSY. -/
theorem flag_wbEnds (hw : f.w = 1) (hlo : 19 ≤ f.lo ∧ f.lo ≤ 27) : (s.wbEnds h f).flag f = true := by
  have hset : (s.set f 1).flag f = true := flag_set_same s 1 hw (by omega)
  exact (flag_raise _ _ _).trans ((flag_of_get (get_set_apart _ (Fd.HD_WBCTL_BUSY h) f _ (show 18 + 1 ≤ 28 by decide) (.inr hlo.1))).trans hset)

end

/-! ## A frame is dropped (R216) -/

/-- The frame of the older of the waiting lines is abandoned. -/
def State.wbDropOldest (s : State) (h : Nat) : State := if (s.headS h).wbTail = 0 then s.wbDrop h else s.wbDropTail h

theorem headOnly_wbDropOldest (s : State) (h : Nat) : HeadOnly s (s.wbDropOldest h) := by
  have hends (f : HeadS → HeadS) : HeadOnly s ((s.modHead h f).wbEnds h (Fd.HD_WBCTL_DROP h)) :=
    headOnly_trans (headOnly_modHead s h f) (headOnly_wbEnds _ _ _)
  exact headOnly_ite (headOnly_ite rfl (hends _)) (headOnly_ite rfl (hends _))

/-- What the drop leaves of the head `v`. -/
def HeadS.dropOldest (v : HeadS) : HeadS :=
  if v.wbTail = 0 then { v with wb := none, wbOut := v.wbOut.take v.wbTail } else { v with wbOut := v.wbOut.drop v.wbTail, wbTail := 0 }

theorem wbDropOldest_eq {s : State} {h : Nat} (hwait : (s.headS h).wb.isSome = true ∨ (s.headS h).wbTail ≠ 0) :
    s.wbDropOldest h = (s.setHead h (s.headS h).dropOldest).wbEnds h (Fd.HD_WBCTL_DROP h) := by
  unfold State.wbDropOldest State.wbDrop State.wbDropTail State.modHead HeadS.dropOldest
  by_cases htail : (s.headS h).wbTail = 0
  · have hsome : ¬ (s.headS h).wb.isNone = true := by
      rcases hwait with hsome | hne
      · simpa using Option.isSome_iff_ne_none.mp hsome
      · exact absurd htail hne
    rw [if_pos htail, if_neg hsome, if_pos htail]
  · rw [if_neg htail, if_neg htail, if_neg htail]

theorem writebackDrop_answers {s : State} {h : Fin 16} (he : s.inEpisode = false)
    (hrun : (s.headS h).running = true ∧ (s.headS h).line ≠ 0) (hline : s.activeLine h ((s.headS h).line - 1) = true)
    (htwo : 2 ≤ (s.headS h).wbOut.length) (hwait : (s.headS h).wb.isSome = true ∨ (s.headS h).wbTail ≠ 0) :
    Answers (.writebackDrop h) s (fun t =>
      t.flag (Fd.HD_WBCTL_DROP h) = true ∧
      ((s.headS h).wbTail = 0 → (t.headS h).wb = none ∧ (t.headS h).wbOut = [] ∧ t.flag (Fd.HD_WBCTL_BUSY h) = false) ∧
      ((s.headS h).wbTail ≠ 0 → (t.headS h).wb = (s.headS h).wb ∧ (t.headS h).wbTail = 0 ∧
        (t.headS h).wbOut = (s.headS h).wbOut.drop (s.headS h).wbTail ∧ t.flag (Fd.HD_WBCTL_BUSY h) = (s.headS h).wb.isSome) ∧
      Recorded s t (uHead h) 0x17 0 0 ∧ t.mem = s.mem) := by
  obtain ⟨hrunning, hline0⟩ := hrun
  have hevent : s.wbLate h = (s.wbDropOldest h).report (uHead h) 0x17 0 0 := by
    unfold State.wbLate State.wbOverflow
    simp only [hrunning, hline, decide_eq_true (Nat.pos_of_ne_zero hline0), Bool.and_self, if_true, if_neg (Nat.not_lt.mpr htwo)]
    rfl
  have honly := headOnly_wbDropOldest s h
  have hpart {α : Type} (g : HeadS → α) (hg : ∀ v, g v.unchecked = g v) :
      g (((s.wbDropOldest h).report (uHead h) 0x17 0 0).headS h) = g (s.headS h).dropOldest := by
    rw [head_report g hg, wbDropOldest_eq hwait, headS_wbEnds, headS_setHead_same]
  have hbusy : ((s.wbDropOldest h).report (uHead h) 0x17 0 0).flag (Fd.HD_WBCTL_BUSY h) =
      ((s.headS h).dropOldest.wb.isSome || (s.headS h).dropOldest.wbTail != 0) := by
    rw [flag_report_head _ (hdWbctl_bounds h), wbDropOldest_eq hwait, busy_wbEnds, headS_setHead_same]
  have hdrop : ((s.wbDropOldest h).report (uHead h) 0x17 0 0).flag (Fd.HD_WBCTL_DROP h) = true := by
    rw [flag_report_head _ (hdWbctl_bounds h), wbDropOldest_eq hwait]
    exact flag_wbEnds _ _ rfl ⟨show 19 ≤ 19 by decide, show 19 ≤ 27 by decide⟩
  refine answers_quiet rfl he ?_
  rw [hevent]
  refine ⟨hdrop, fun htail => ?_, fun htail => ?_, recorded_of_headOnly honly _ _ _ _, mem_report_of_headOnly honly _ _ _ _⟩
  · rw [hpart HeadS.wb fun _ => rfl, hpart HeadS.wbOut fun _ => rfl, hbusy]
    unfold HeadS.dropOldest
    rw [if_pos htail]
    exact ⟨rfl, by simp [htail], by simp [htail]⟩
  · rw [hpart HeadS.wb fun _ => rfl, hpart HeadS.wbTail fun _ => rfl, hpart HeadS.wbOut fun _ => rfl, hbusy]
    unfold HeadS.dropOldest
    rw [if_neg htail]
    exact ⟨rfl, rfl, rfl, by simp⟩

end Sys2Proof.Machine
end

section
/-! Writes of a head's rows (R213–R217, R292): the writeback's master is never fenced, so what its accesses report leaves every
head and every frame and active register alone; with that, the end of a frame's writeback. -/
namespace Sys2Proof.Machine

/-! ## Heads and active registers -/

/-- `t` has the heads of `s` and its frame and active registers. -/
def OutputSame (s t : State) : Prop := t.pict.heads = s.pict.heads ∧ ∀ k, frameBase ≤ k → t.reg k = s.reg k

theorem outputSame_refl (s : State) : OutputSame s s := ⟨rfl, fun _ _ => rfl⟩

section
variable {s t : State}

theorem outputSame_rest {u : State} (h : OutputSame s t) (hr : u.regs = t.regs) (hh : u.pict.heads = t.pict.heads) : OutputSame s u :=
  ⟨hh.trans h.1, fun k hk => (reg_of_regs hr k).trans (h.2 k hk)⟩

theorem outputSame_regsOnly {p : Nat → Prop} {u : State} (h : OutputSame s t) (hu : RegsOnly p t u) (hp : ∀ k, p k → k < frameBase) :
    OutputSame s u := by
  refine ⟨(congrArg (fun x : State => x.pict.heads) hu.1 :).trans h.1, fun k hk => (hu.2 k fun hpk => ?_).trans (h.2 k hk)⟩
  exact absurd (hp k hpk) (Nat.not_lt.mpr hk)

theorem outputSame_set {f : Fd} (x : Nat) (h : OutputSame s t) (hf : f.key < frameBase) : OutputSame s (t.set f x) :=
  outputSame_regsOnly h (regsOnly_set (p := fun k => k = f.key) t f x rfl) fun _ hk => hk ▸ hf

theorem outputSame_bump {f : Fd} (top : Nat) (h : OutputSame s t) (hf : f.key < frameBase) : OutputSame s (t.bump f top) :=
  SteadyClosed.ite (outputSame_set _ h hf) h

/-! ## Reports that fence no head (R690) -/

theorem lostField_below (c : Nat) : (lostField c).key < frameBase := by
  unfold lostField
  split <;> decide

theorem outputSame_logRecord (r : FaultRec) (h : OutputSame s t) : OutputSame s (t.logRecord r) := by
  have hhub (x : Hub) : OutputSame s { t with hub := x } := outputSame_rest h rfl rfl
  unfold State.logRecord
  dsimp only
  split
  · exact hhub _
  · exact outputSame_bump 255 (hhub _) (lostField_below _)

/-- A C2 record of the memory fences the memory and no other unit. -/
theorem fenced_uMem (t : State) (u : Nat) :
    ({ t with hub := { t.hub with reacting := t.hub.reacting ++ [(uMem, 2)] } } : State).fenced u = (t.fenced u || u == uMem) := by
  have hcover : fenceCovers uMem u = (u == uMem) := by
    unfold fenceCovers
    rw [show (uMem / 1024 == 0x10) = false by decide, Bool.false_and, Bool.or_false]
  unfold State.fenced State.grpFenced
  simp only [List.any_append, List.any_cons, List.any_nil, hcover, Bool.or_false]
  rw [show ((2 : Nat) == 3) = false by decide, Bool.false_and, Bool.false_and, Bool.or_false]
  ac_rfl

theorem outputSame_fenceMem (h : OutputSame s t) : OutputSame s (t.withReacting (t.hub.reacting ++ [(uMem, 2)])) := by
  unfold State.withReacting
  refine keeps_foldl (P := OutputSame s) (fun u _ a ha => ?_) (outputSame_rest h rfl rfl)
  rw [fenced_uMem]
  by_cases hu : u = uMem
  · subst hu
    have hcap : OutputSame s (a.onFence uMem) :=
      outputSame_rest (outputSame_set (f := Fd.LAST_SLOTCAP_CAP) 0 ha (by decide)) rfl rfl
    exact SteadyClosed.ite hcap (SteadyClosed.ite ha ha)
  · rw [beq_eq_false_iff_ne.mpr hu, Bool.or_false]
    cases t.fenced u <;> exact ha

theorem outputSame_report {u code base detail : Nat} (h : OutputSame s t) (hb : base ≤ 1) (hu : u = uMem ∨ fenceable u = false) :
    OutputSame s (t.report u code base detail) := by
  have hcls : (t.recordOf u code base detail false true).cls ≤ 2 := by
    show base + b2n _ ≤ 2
    unfold b2n
    split <;> omega
  have hlog := outputSame_logRecord (t.recordOf u code base detail false true) h
  have hunit : (t.recordOf u code base detail false true).unit = u := rfl
  unfold State.report State.reportG
  dsimp only
  generalize t.recordOf u code base detail false true = r at hcls hlog hunit ⊢
  generalize t.logRecord r = a at hlog ⊢
  unfold State.react
  refine SteadyClosed.ite hlog ?_
  rw [if_neg (show ¬ r.cls = 4 by omega)]
  split
  · split
    · exact hlog
    · next htwo hgo =>
      have hmem : u = uMem := hu.resolve_right fun hno => hgo (by rw [hunit, hno]; rfl)
      rw [hunit, hmem, show r.cls = 2 by omega]
      exact outputSame_fenceMem hlog
  · exact hlog

/-! ## Bus errors and bursts (R35, R39, R288, R292) -/

/-- The writeback's master is never fenced (R690). -/
theorem fenceable_writeback : fenceable (uMaster 0x19) = false := by decide

theorem outputSame_unmapped (a : Nat) (wr : Bool) (h : OutputSame s t) : OutputSame s (t.unmapped 0x19 a wr) := by
  refine outputSame_report (outputSame_regsOnly h (regsOnly_captureDecerr t 0x19 a wr) fun k hk => ?_) (by decide) (.inr fenceable_writeback)
  rcases hk with rfl | rfl <;> decide

theorem outputSame_eccError (a : Nat) (ue : Bool) (h : OutputSame s t) : OutputSame s (t.eccError a 0x19 ue) := by
  have h1 : OutputSame s (if ue then t.bump Fd.MEM_ECCSTAT_UECNT 2047 else t.bump Fd.MEM_ECCSTAT_CECNT 2047) :=
    SteadyClosed.ite (outputSame_bump 2047 h (by decide)) (outputSame_bump 2047 h (by decide))
  have hset {u : State} {f : Fd} (x : Nat) (hf : f.key < frameBase) (hu : OutputSame s u) : OutputSame s (u.set f x) :=
    outputSame_set x hu hf
  unfold State.eccError
  extract_lets s1 capture s2
  have h2 : OutputSame s s2 := by
    refine SteadyClosed.ite ?_ (hset 1 (by decide) h1)
    exact hset 1 (by decide) (hset _ (by decide) (hset _ (by decide) (hset _ (by decide) (hset _ (by decide) h1))))
  exact SteadyClosed.ite (outputSame_report h2 (by decide) (.inr fenceable_writeback)) (outputSame_report h2 (by decide) (.inl rfl))

theorem lt_six_of_nbit {eff c : Nat} (he : eff < 2 ^ 6) (hc : nbit eff c = true) : c < 6 := by
  by_contra hge
  rw [nbit_eq_testBit, Nat.testBit_lt_two_pow (Nat.lt_of_lt_of_le he (Nat.pow_le_pow_right (by decide) (Nat.not_lt.mp hge)))] at hc
  cases hc

/-- An access that GDDR7 takes goes to one of its six channels (R278, R279). -/
theorem chanOf_lt {a : Nat} (hacc : t.gddrAcc a = .ok) : t.chanOf (a / 64 * 64) < 6 := by
  unfold State.chanOf
  by_cases hlin : t.flag Fd.MEM_STAT_MAPLIN = true
  · have hchan : nbit (t.get Fd.MEM_STAT_CHEFF) (t.chanOf a) = true := by
      unfold State.gddrAcc at hacc
      by_contra hno
      rw [Bool.not_eq_true] at hno
      simp [hlin, hno] at hacc
    have hle : a / 64 * 64 / max 1 t.cchBytes ≤ t.chanOf a := by
      unfold State.chanOf
      rw [if_pos hlin]
      exact Nat.div_le_div_right (Nat.div_mul_le_self a 64)
    rw [if_pos hlin]
    exact Nat.lt_of_le_of_lt hle (lt_six_of_nbit (get_lt t Fd.MEM_STAT_CHEFF) hchan)
  · rw [if_neg hlin]
    omega

theorem outputSame_burst {a : Nat} (e : BurstEnd) (hc : t.chanOf a < 6) (h : OutputSame s t) : OutputSame s (t.burst a 0x19 e).1 := by
  have hkey : Rg.MEM_CH_ERR (t.chanOf a) < frameBase := by
    unfold Rg.MEM_CH_ERR frameBase
    omega
  have hretry : OutputSame s (t.bump (Fd.MEM_CH_ERR_RETRY (t.chanOf a)) 0x3FFF) := outputSame_bump _ h hkey
  unfold State.burst
  cases e with
  | clean => exact h
  | retried => exact hretry
  | failed => exact outputSame_eccError a true (outputSame_bump _ hretry hkey)
  | corrected => exact SteadyClosed.ite (outputSame_eccError a false h) h
  | uncorrectable =>
    dsimp only
    split
    · exact outputSame_eccError a true h
    · exact h

/-! ## Words stored -/

theorem outputSame_putEnabled (a be : Nat) (d : List Nat) (h : OutputSame s t) : OutputSame s (t.putEnabled a be d) :=
  SteadyClosed.foldl (P := OutputSame s) _ (fun _ _ hu => SteadyClosed.ite (outputSame_rest hu rfl rfl) hu) h

theorem outputSame_putLE (a n v : Nat) (h : OutputSame s t) : OutputSame s (t.putLE a n v) := by
  induction n generalizing t a v with
  | zero => exact h
  | succ n ih => exact ih (a + 1) (v / 256) (outputSame_rest h rfl rfl)

theorem outputSame_setWord (a v : Nat) (h : OutputSame s t) : OutputSame s (t.setWord a v) := outputSame_putLE a 4 v h

theorem outputSame_writeVoice (v w x : Nat) (h : OutputSame s t) : OutputSame s (t.writeVoice v w x) := by
  have hword : OutputSame s (t.setWord (voiceAddr v w) x) := outputSame_setWord _ x h
  exact SteadyClosed.ite h (SteadyClosed.ite (outputSame_rest hword rfl rfl)
    (SteadyClosed.ite (outputSame_rest hword rfl rfl) hword))

theorem outputSame_entryWrite (m head a be : Nat) (d : List Nat) (lut : Bool) (h : OutputSame s t) :
    OutputSame s (t.entryWrite m head a be d lut) := by
  have hhold (k v : Nat) : OutputSame s { t with pict := { t.pict with hold := tabPut 0 t.pict.hold k v } } := outputSame_rest h rfl rfl
  exact SteadyClosed.ite (hhold _ _) (outputSame_setWord _ _ (outputSame_setWord _ _ h))

theorem outputSame_chipWrite (m a be : Nat) (d : List Nat) (h : OutputSame s t) : OutputSame s (t.chipWrite m a be d) := by
  unfold State.chipWrite
  refine SteadyClosed.ite h ?_
  split
  · exact outputSame_entryWrite m _ a be d false h
  · exact outputSame_entryWrite m _ a be d true h
  · exact outputSame_writeVoice _ _ _ h
  · exact outputSame_setWord _ _ h

theorem outputSame_chipWrites (m a be : Nat) (d : List Nat) (n : Nat) (h : OutputSame s t) : OutputSame s (t.chipWrites m a be d n) := by
  induction n generalizing t a be d with
  | zero => exact h
  | succ n ih => exact ih _ _ _ (outputSame_chipWrite m _ _ _ h)

end

/-! ## Accesses of the writeback's master -/

section
variable {s : State} {b : Bus} {w : Who}

theorem outputSame_serveWrite {t u : State} {off be st : Nat} {d : List Nat} {e : BurstEnd}
    (hr : t.serveWrite 0x19 off be d true e = some (u, st)) (h : OutputSame s t) : OutputSame s u := by
  unfold State.serveWrite at hr
  split at hr
  · split at hr <;> cases hr <;> exact h
  · split at hr
    · cases hr
      exact h
    · cases hr
    · next hacc =>
      have hok : t.gddrAcc (t.apAddr off) = .ok := by
        unfold State.apAcc at hacc
        split at hacc
        · exact hacc
        · cases hacc
      have hburst := outputSame_burst e (chanOf_lt hok) h
      dsimp only at hr
      split at hr
      · cases hr
        exact outputSame_putEnabled _ _ _ hburst
      · cases hr
        exact hburst

/-- A write of the remote window that reaches this device's own aperture (R16, R34). -/
theorem outputSame_remote (hm : w.m = 0x19) (off be : Nat) (d : List Nat) (h : OutputSame s b.s) :
    (b.remote w b.s.devId 1 off be d).Keeps (OutputSame s) := by
  unfold Bus.remote
  dsimp only
  rw [hm, if_pos rfl, if_pos rfl]
  split
  · trivial
  · split
    · trivial
    · next hx =>
      have ht := outputSame_serveWrite hx h
      split
      · exact ht
      · exact outputSame_report ht (by decide) (.inr fenceable_writeback)

theorem outputSame_writeAt (hm : w.m = 0x19) (hw : w.regs = false) (a be : Nat) (d : List Nat) (h : OutputSame s b.s) :
    (b.writeAt w a be d).Keeps (OutputSame s) := by
  have hno : (Bus.unmapped b w.m a true).Keeps (OutputSame s) := hm ▸ outputSame_unmapped a true h
  have hchip : (BusOut.ok [] { b with s := b.s.chipWrites w.m a be d (d.length / 4 + 2) }).Keeps (OutputSame s) :=
    outputSame_chipWrites _ _ _ _ _ h
  unfold Bus.writeAt
  dsimp only
  split
  · rw [hw]
    exact hno
  · next dev off _ =>
    split
    · exact hno
    · next hself =>
      have hdev : dev = b.s.devId := by
        by_contra hne
        exact hself ⟨hne, by rw [hm]; rfl⟩
      rw [hdev]
      exact outputSame_remote hm _ _ _ h
  · split
    · exact hno
    · trivial
    · next hacc =>
      split
      · trivial
      · have hburst := outputSame_burst (b.ends.headD .clean) (chanOf_lt hacc) h
        rw [hm]
        split
        · exact outputSame_putEnabled _ _ _ hburst
        · exact hburst
  · split
    · exact hchip
    · exact hno
  · split
    · trivial
    · exact hchip
  · exact hno
  · exact hno
  · exact hno
  · exact hchip

theorem watchKey_below {k : Nat} (hk : watchKey k) : k < frameBase := by
  unfold watchKey Rg.DBG_RUN Rg.DBG_HITLO Rg.DBG_HITHI Rg.WPCTL Rg.AWL_STAT at hk
  unfold frameBase
  obtain h | h | h | ⟨i, hi, h⟩ | ⟨n, hn, h⟩ := hk <;> omega

theorem outputSame_write (hm : w.m = 0x19) (hw : w.regs = false) (a be : Nat) (d : List Nat) (h : OutputSame s b.s) :
    (b.write w a be d).Keeps (OutputSame s) := by
  have hseen {t : State} (ht : OutputSame s t) : OutputSame s (t.wpBus w.m a d.length true) :=
    outputSame_regsOnly ht (regsOnly_wpBus t w.m a d.length true) fun _ => watchKey_below
  have hone := outputSame_writeAt hm hw a be d h
  unfold Bus.write
  generalize b.writeAt w a be d = out at hone ⊢
  cases out with
  | ok l b1 => exact hseen hone
  | err b1 => exact hseen hone
  | ref st b1 => exact hseen hone
  | wait i => trivial

theorem outputSame_wbRow (hm : w.m = 0x19) (hw : w.regs = false) (a : Nat) (ws : List Nat) (n : Nat) (h : OutputSame s b.s) :
    (b.wbRow w a ws n).Keeps (OutputSame s) := by
  induction n generalizing b a ws with
  | zero => exact h
  | succ n ih =>
    have hone := outputSame_write hm hw (a % 2 ^ 40) (2 ^ (4 * (ws.take 8).length) - 1) ((ws.take 8).flatMap wordOf) h
    unfold Bus.wbRow
    split
    · exact h
    · dsimp only
      generalize b.write w (a % 2 ^ 40) (2 ^ (4 * (ws.take 8).length) - 1) ((ws.take 8).flatMap wordOf) = out at hone ⊢
      cases out with
      | wait i => trivial
      | ok l b1 => exact ih _ _ hone
      | err b1 => exact hone
      | ref st b1 => exact hone

/-- Rows that are all written, one word of the answer for each (R213, R214). -/
theorem outputSame_wbRows {rows : List (Nat × List Nat)} {l : List Nat} {b1 : Bus} (hm : w.m = 0x19) (hw : w.regs = false)
    (hr : b.wbRows w rows = .ok l false b1) (h : OutputSame s b.s) : OutputSame s b1.s ∧ l.length = rows.length := by
  induction rows generalizing b l with
  | nil =>
    unfold Bus.wbRows at hr
    cases hr
    exact ⟨h, rfl⟩
  | cons r rows ih =>
    have hone := outputSame_wbRow hm hw r.1 r.2 (r.2.length + 1) h
    unfold Bus.wbRows at hr
    generalize b.wbRow w r.1 r.2 (r.2.length + 1) = out at hone hr
    match out with
    | .ok l1 false b2 =>
      dsimp only at hr
      cases hrest : b2.wbRows w rows with
      | ok l2 f b3 =>
        rw [hrest] at hr
        cases hr
        obtain ⟨hsame, hlen⟩ := ih hrest hone
        exact ⟨hsame, congrArg (· + 1) hlen⟩
      | wait i =>
        rw [hrest] at hr
        cases hr
    | .ok l1 true b2 => cases hr
    | .wait i => cases hr

end

/-! ## The end of a frame's writeback (R217) -/

/-- The frame's writeback has ended with all its rows written. -/
def State.wbFinished (s : State) (h : Nat) : Prop :=
  (s.headS h).wb = none ∧ (s.headS h).wbOut = [] ∧ s.flag (Fd.HD_WBCTL_DONE h) = true ∧ s.flag (Fd.HD_WBCTL_BUSY h) = false

section
variable {s : State} {h : Nat} {r : WbRun}

theorem wbDone_none (hwb : (s.headS h).wb = none) : s.wbDone h = s := by
  unfold State.wbDone
  rw [hwb]

/-- With its last row written, the frame's writeback ends. -/
theorem wbDone_finishes (hwb : (s.headS h).wb = some r) (hrows : r.rows = s.vActive h) (hout : (s.headS h).wbOut = [])
    (htail : (s.headS h).wbTail = 0) : (s.wbDone h).wbFinished h ∧ (s.wbDone h).mem = s.mem := by
  have hends : s.wbDone h = (s.modHead h (fun v => { v with wb := none })).wbEnds h (Fd.HD_WBCTL_DONE h) := by
    unfold State.wbDone
    rw [hwb]
    exact if_pos ⟨hrows, hout⟩
  rw [hends]
  refine ⟨⟨?_, ?_, flag_wbEnds _ _ rfl ⟨show 19 ≤ 20 by decide, show 20 ≤ 27 by decide⟩, ?_⟩, ?_⟩
  · rw [headS_wbEnds, headS_modHead_same]
  · rw [headS_wbEnds, headS_modHead_same]
    exact hout
  · rw [busy_wbEnds, headS_modHead_same]
    exact bne_eq_false_iff_eq.mpr htail
  · exact mem_of_headOnly (headOnly_trans (headOnly_modHead s h _) (headOnly_wbEnds _ _ _))

theorem wbDrain_empty (e : Env) (hout : (s.headS h).wbOut = []) : s.wbDrain h e = s := by
  unfold State.wbDrain
  rw [hout]
  rfl

/-- The head's waiting rows are all written, and no row of the frame before waits. -/
def HeadS.drained (v : HeadS) : HeadS := { v with wbOut := [], wbTail := 0 }

theorem wbWritten_all {n : Nat} (htail : (s.headS h).wbTail = 0) (hn : (s.headS h).wbOut.length = n) :
    s.wbWritten h n false = (s.modHead h HeadS.drained).wbDone h := by
  have hhead : s.modHead h (fun v => { v with wbOut := v.wbOut.drop n, wbTail := (s.headS h).wbTail - n }) = s.modHead h HeadS.drained := by
    unfold State.modHead HeadS.drained
    simp only [← hn, List.drop_length, htail, Nat.zero_sub]
  unfold State.wbWritten
  dsimp only
  rw [hhead]
  simp only [htail, ne_eq, not_true_eq_false, false_and, if_false, Bool.not_false, if_true]

end

theorem writebackDone_answers {s : State} {h : Fin 16} {e : Env} {r : WbRun} {l : List Nat} {b : Bus} (he : s.inEpisode = false)
    (hfrozen : s.masterFrozen 0x19 = false)
    (hwb : (s.headS h).wb = some r ∧ r.rows = s.vActive h ∧ (s.headS h).wbTail = 0)
    (hr : (busOf s e).wbRows { masterWho 0x19 with q := 304 + h, regs := false } (s.headS h).wbOut = .ok l false b) :
    Answers (.writebackDone h e) s (fun t =>
      (t.headS h).wb = none ∧ (t.headS h).wbOut = [] ∧ t.flag (Fd.HD_WBCTL_DONE h) = true ∧ t.flag (Fd.HD_WBCTL_BUSY h) = false ∧
      t.mem = b.s.mem) := by
  obtain ⟨hwb, hrows, htail⟩ := hwb
  refine answers_quiet (t := (s.wbDrain h e).wbDone h) rfl he ?_
  suffices hdone : ((s.wbDrain h e).wbDone h).wbFinished h ∧ ((s.wbDrain h e).wbDone h).mem = b.s.mem by
    obtain ⟨⟨h1, h2, h3, h4⟩, h5⟩ := hdone
    exact ⟨h1, h2, h3, h4, h5⟩
  by_cases hout : (s.headS h).wbOut = []
  · rw [hout] at hr
    cases hr
    rw [wbDrain_empty e hout]
    exact wbDone_finishes hwb hrows hout htail
  · obtain ⟨⟨hheads, hregs⟩, hlen⟩ := outputSame_wbRows rfl rfl hr (outputSame_refl s)
    have hhead : b.s.headS h = s.headS h := headS_of_heads hheads h
    have hactive : r.rows = (b.s.modHead h HeadS.drained).vActive h :=
      hrows.trans (get_of_reg (f := (Fd.HD_VTIME_VACTIVE h).act) (hregs _ (by unfold Fd.act frameBase activeBase; dsimp only; omega))).symm
    have hdrain : s.wbDrain h e = ((b.s.modHead h HeadS.drained).wbDone h).dropBus (304 + h) := by
      rw [← wbWritten_all (n := l.length) (by rw [hhead, htail]) (by rw [hhead, hlen])]
      unfold State.wbDrain State.busRow Bus.finish
      simp only [hfrozen, List.isEmpty_eq_false_iff.mpr hout, Bool.or_self, Bool.false_eq_true, if_false]
      rw [hr]
    obtain ⟨hfinished, hmem⟩ := wbDone_finishes (s := b.s.modHead h HeadS.drained) (by rw [headS_modHead_same, hhead]; exact hwb) hactive
      (by rw [headS_modHead_same]; rfl) (by rw [headS_modHead_same]; rfl)
    rw [hdrain, wbDone_none (s := State.dropBus _ _) hfinished.1]
    exact ⟨hfinished, hmem⟩

end Sys2Proof.Machine
end

section
/-! Picture packets (R361, R345): the head's next pixels leave as one packet of its context. -/
namespace Sys2Proof.Machine

/-! ## A packet of this device to another (R339, R344, R345) -/

theorem tabGet_insert_same {α : Type} [DecidableEq α] (d : α) (t : List (Nat × α)) (k : Nat) (v : α) : tabGet d (tabInsert t k v) k = v := by
  unfold tabGet
  rw [tabFind_insert_same]
  rfl

theorem get_modWelt (s : State) (g : WeltS → WeltS) (f : Fd) : (s.modWelt g).get f = s.get f := rfl

theorem queue_weltQueue (s : State) (p : Nat) (o : OutP) : tabGet [] (s.weltQueue p o).welt.queue p = tabGet [] s.welt.queue p ++ [o] :=
  tabGet_insert_same _ _ _ _

theorem queue_fcMessage (s : State) (c : Nat) (first last : Bool) : (s.fcMessage c first last).welt.queue = s.welt.queue := by
  unfold State.fcMessage State.modWelt
  cases last <;> cases first <;> rfl

/-- A packet for a device behind an UP port joins that port's queue. -/
theorem weltSend_queues {s : State} {pkt : WeltPkt} (hfence : s.fenced uSwitch = false) (hother : pkt.dest.toNat ≠ s.devId)
    (hvalid : s.flag (Fd.RT_VALID pkt.dest.toNat) = true) (hup : s.weltUp (s.get (Fd.RT_PORT pkt.dest.toNat)) = true)
    (hhop : pkt.hop.toNat < 16) :
    s.weltSend pkt = s.weltQueue (s.get (Fd.RT_PORT pkt.dest.toNat)) ⟨8 + pkt.kind.toNat, pkt, false, 0⟩ := by
  unfold State.weltSend State.weltForward State.weltRoute
  simp only [hfence, hother, hvalid, hup, Bool.and_self, Bool.false_eq_true, if_false, if_true, if_neg (Nat.not_le.mpr hhop)]

theorem queue_weltFlow {s : State} {c kind dest dflow : Nat} {first last : Bool} {ws : List Nat} (hfence : s.fenced uSwitch = false)
    (hdest : dest < 2 ^ 11) (hother : dest ≠ s.devId) (hvalid : s.flag (Fd.RT_VALID dest) = true)
    (hup : s.weltUp (s.get (Fd.RT_PORT dest)) = true) :
    (tabGet [] (s.weltFlow c kind dest dflow first last ws).welt.queue (s.get (Fd.RT_PORT dest))).any (fun x =>
      x.pkt.kind == BitVec.ofNat 4 kind && x.pkt.payload == ws.map (fun v => BitVec.ofNat 32 v)) = true := by
  have hto : (BitVec.ofNat 11 dest).toNat = dest := (BitVec.toNat_ofNat dest 11).trans (Nat.mod_eq_of_lt hdest)
  unfold State.weltFlow
  dsimp only
  rw [queue_fcMessage, weltSend_queues]
  case hfence => exact hfence
  case hother => rw [hto]; exact hother
  case hvalid => rw [hto]; exact hvalid
  case hup => rw [hto]; exact hup
  case hhop => exact show (0 : BitVec 5).toNat < 16 by decide
  rw [hto, get_modWelt, queue_weltQueue, List.any_append]
  refine (Bool.or_eq_true _ _).mpr (.inr ?_)
  simp

/-! ## The next pixels of a line (R361) -/

/-- Line `y` shows background from its first missing block on, where that lies before pixel `x`. -/
def State.darkBefore (s : State) (h y x : Nat) : State :=
  if s.curv h then
    match s.firstMissing h y with
    | some b => if 16 * b < x then s.underrun h y b else s
    | none => s
  else s

/-- The packet of pixels `xa` to `xa + n - 1` of line `y` leaves on context `c`, the line's last one where it `ends`, or is discarded at
the head in a halt. -/
def State.picPacket (s : State) (h y c xa n : Nat) (ends lost : Bool) : State :=
  if lost then s else s.weltFlow c 4 (s.fcPeer c) (s.fcPflow c) (xa == 0) ends (s.picWords h y xa n)

/-- A packet where no other line's message ends with it. -/
theorem pictureSend_eq {s : State} {h n c y xa : Nat} {credit : Bool} (hy : y = (s.headS h).line - 1)
    (hxa : xa = (((s.headS h).pic.filter (fun q => q.1 == y)).map (fun q => q.2.2)).getD 0)
    (hrun : (s.headS h).running = true ∧ (s.headS h).line ≠ 0) (hline : s.activeLine h y = true) (hout : s.get (Fd.HD_CTL_OUT h).act = 1)
    (hn : n ≠ 0 ∧ n < 32 ∧ xa + n ≤ s.hActive h)
    (hctx : (((s.headS h).pic.filter (fun q => q.1 == y)).map (fun q => q.2.1)).or (s.picContext h) = some c)
    (hmid : (s.headS h).pic.all (fun q => q.1 == y || !s.welt.mid.contains q.2.1) = true) :
    s.pictureSend h n credit =
      ((s.darkBefore h y (xa + n)).picPacket h y c xa n (xa + n == s.hActive h)
        (s.halted && !s.flag Fd.DBG_CTL_WELTRUN && !credit)).modHead h
        (fun w => { w with pic := some (y, c, xa + n) }) := by
  obtain ⟨hrunning, hline0⟩ := hrun
  obtain ⟨hn0, hn32, hfit⟩ := hn
  have hgo : ¬ (!(s.headS h).running || (s.headS h).line == 0 || !s.activeLine h y || s.get (Fd.HD_CTL_OUT h).act != 1 || n == 0 ||
      decide (31 < n) || decide (s.hActive h < xa + n)) = true := by
    simp only [hrunning, hline, hout, beq_eq_false_iff_ne.mpr hline0, beq_eq_false_iff_ne.mpr hn0, decide_eq_false (Nat.not_lt.mpr hfit),
      decide_eq_false (show ¬ 31 < n by omega)]
    decide
  unfold State.pictureSend
  dsimp only
  rw [← hy]
  cases hpic : (s.headS h).pic with
  | none =>
    rw [hpic] at hxa hctx
    obtain rfl : xa = 0 := hxa
    replace hctx : s.picContext h = some c := hctx
    dsimp only
    rw [if_neg hgo, hctx]
    rfl
  | some q =>
    obtain ⟨z, k, x⟩ := q
    rw [hpic] at hxa hctx hmid
    by_cases hz : z = y
    · subst hz
      simp only [Option.filter_some, beq_self_eq_true, if_true, Option.map_some, Option.getD_some, Option.some_or, Option.some.injEq] at hxa hctx
      subst hxa hctx
      simp only [if_true]
      rw [if_neg hgo]
      rfl
    · have hzy : (z == y) = false := beq_eq_false_iff_ne.mpr hz
      simp only [Option.filter_some, hzy, Bool.false_eq_true, if_false, Option.map_none, Option.getD_none, Option.none_or] at hxa hctx
      simp only [Option.all_some, hzy, Bool.false_or, Bool.not_eq_true'] at hmid
      subst hxa
      simp only [if_neg hz, hmid, Bool.false_eq_true, if_false]
      rw [if_neg hgo, hctx]
      rfl

theorem LineClosed.picSent {P : State → Prop} (hP : LineClosed P) {s : State} (h y c xa n : Nat) (ends lost : Bool) (hs : P s) :
    P ((s.darkBefore h y (xa + n)).picPacket h y c xa n ends lost) := by
  have hdark : P (s.darkBefore h y (xa + n)) := by
    unfold State.darkBefore
    refine SteadyClosed.ite ?_ hs
    split
    · exact SteadyClosed.ite (hP.underrun h y _ hs) hs
    · exact hs
  exact SteadyClosed.ite hdark (hP.weltFlow c 4 _ _ _ _ _ hdark)

theorem darkBefore_whole {s : State} {h y x : Nat} (hfull : s.curv h = false ∨ s.firstMissing h y = none) : s.darkBefore h y x = s := by
  unfold State.darkBefore
  rcases hfull with hcurv | hnone
  · rw [hcurv]
    rfl
  · rw [hnone]
    exact ite_self s

theorem fcPeer_lt (s : State) (c : Nat) : s.fcPeer c < 2 ^ 11 := Nat.mod_lt _ (by decide)

theorem picturePacketSend_answers {s : State} {h : Fin 16} {n : Fin 32} {c y xa : Nat} {credit : Bool} (hy : y = (s.headS h).line - 1)
    (hxa : xa = (((s.headS h).pic.filter (fun q => q.1 == y)).map (fun q => q.2.2)).getD 0) (he : s.inEpisode = false)
    (hrun : (s.headS h).running = true ∧ (s.headS h).line ≠ 0) (hline : s.activeLine h y = true) (hout : s.get (Fd.HD_CTL_OUT h).act = 1)
    (hn : n.val ≠ 0 ∧ xa + n.val ≤ s.hActive h)
    (hctx : (((s.headS h).pic.filter (fun q => q.1 == y)).map (fun q => q.2.1)).or (s.picContext h) = some c)
    (hmid : (s.headS h).pic.all (fun q => q.1 == y || !s.welt.mid.contains q.2.1) = true) :
    Answers (.picturePacketSend h n credit) s (fun t =>
      (t.headS h).pic = some (y, c, xa + n.val) ∧ (t.headS h).line = (s.headS h).line ∧
      ((s.halted = false ∨ s.flag Fd.DBG_CTL_WELTRUN = true ∨ credit = true) → (s.curv h = false ∨ s.firstMissing h y = none) →
        s.fenced uSwitch = false → s.fcPeer c ≠ s.devId → s.flag (Fd.RT_VALID (s.fcPeer c)) = true →
        s.weltUp (s.get (Fd.RT_PORT (s.fcPeer c))) = true →
        (tabGet [] t.welt.queue (s.get (Fd.RT_PORT (s.fcPeer c)))).any (fun x =>
          x.pkt.kind == 4#4 && x.pkt.payload == (s.picWords h y xa n).map (fun v => BitVec.ofNat 32 v)) = true) ∧
      t.mem = s.mem) := by
  obtain ⟨hn0, hfit⟩ := hn
  have hkept {P : State → Prop} (hP : LineClosed P) (hs : P s) :=
    hP.picSent h y c xa n (xa + n.val == s.hActive h) (s.halted && !s.flag Fd.DBG_CTL_WELTRUN && !credit) hs
  refine answers_quiet rfl he ?_
  rw [pictureSend_eq hy hxa hrun hline hout ⟨hn0, n.isLt, hfit⟩ hctx hmid]
  refine ⟨by rw [headS_modHead_same], ?_, fun hgo hfull hfence hother hvalid hup => ?_, hkept (lineClosed_mem s.mem) rfl⟩
  · rw [headS_modHead_same]
    exact hkept (listClosed_headLine h _).toLineClosed rfl
  · have hlost : ¬ (s.halted && !s.flag Fd.DBG_CTL_WELTRUN && !credit) = true := by
      rcases hgo with hx | hx | hx <;> simp [hx]
    unfold State.picPacket
    rw [darkBefore_whole hfull, if_neg hlost]
    exact queue_weltFlow hfence (fcPeer_lt s c) hother hvalid hup

end Sys2Proof.Machine
end

section
/-! Reference events of a head that runs, and their absence (R233, R234, R236): the moves of its lock. -/
namespace Sys2Proof.Machine

/-! ## The lock (R236) -/

theorem headOnly_setLock (s : State) (h st : Nat) : HeadOnly s (s.setLock h st) := by
  unfold State.setLock
  exact headOnly_trans (headOnly_ite (headOnly_modHead _ _ _) rfl) (headOnly_set _ _ _)

/-- A part of the head that no record of a frame holds. -/
theorem head_setLock {α : Type} (g : HeadS → α) (hg : ∀ v r, g { v with report := r } = g v) (s : State) (h st : Nat) :
    g ((s.setLock h st).headS h) = g (s.headS h) := by
  unfold State.setLock
  rw [headS_set]
  split
  · rw [headS_modHead_same]
    exact hg _ _
  · rfl

/-- The entry to HOLDOVER of a head of which else only the head's own state changed. -/
theorem holdover_lost {s u : State} (h : Fin 16) (hu : HeadOnly s u) :
    (u.holdover h).get (Fd.HD_STAT_LOCK h) = 3 ∧ (u.holdover h).flag (Fd.HD_STAT_LOSS h) = true ∧
    Recorded s (u.holdover h) (uHead h) 0x15 1 0 ∧ (u.holdover h).mem = s.mem := by
  have honly : HeadOnly s (((u.setLock h 3).set (Fd.HD_STAT_LOSS h) 1).raise (24 + 6 * h)) :=
    headOnly_trans (headOnly_trans hu (headOnly_setLock u h 3)) (headOnly_trans (headOnly_set _ _ _) (headOnly_raise _ _))
  unfold State.holdover
  refine ⟨?_, ?_, recorded_of_headOnly honly _ _ _ _, mem_report_of_headOnly honly _ _ _ _⟩
  · rw [get_report_head _ (hdStat_bounds h), get_raise,
      get_set_apart _ (Fd.HD_STAT_LOSS h) (Fd.HD_STAT_LOCK h) 1 (show 25 + 1 ≤ 28 by decide) (.inr (show 25 + 1 ≤ 26 by decide))]
    exact lock_setLock u (by decide)
  · rw [flag_report_head _ (hdStat_bounds h), flag_raise]
    exact flag_set_same _ 1 rfl (show 25 < 28 by decide)

theorem head_holdover {α : Type} (g : HeadS → α) (hg : ∀ v r, g { v with report := r } = g v) (hu : ∀ v, g v.unchecked = g v) (s : State)
    (h : Nat) : g ((s.holdover h).headS h) = g (s.headS h) := by
  unfold State.holdover
  rw [head_report g hu, headS_raise, headS_set]
  exact head_setLock g hg s h 3

/-! ## A reference is absent (R236) -/

theorem referenceAbsent_answers {s : State} {h : Fin 16} (he : s.inEpisode = false)
    (hrun : (s.headS h).running = true ∨ (s.headS h).waitRef = true) (href : s.hasRef h = true)
    (hlock : s.get (Fd.HD_STAT_LOCK h) = 1 ∨ s.get (Fd.HD_STAT_LOCK h) = 2) :
    Answers (.referenceAbsent h) s (fun t =>
      t.get (Fd.HD_STAT_LOCK h) = 3 ∧ t.flag (Fd.HD_STAT_LOSS h) = true ∧ (t.headS h).good = 0 ∧ Recorded s t (uHead h) 0x15 1 0 ∧
      t.mem = s.mem) := by
  have hlost : s.refAbsent h = (s.modHead h (fun v => { v with good := 0 })).holdover h := by
    unfold State.refAbsent
    rw [if_pos (by simpa [href] using And.intro hrun hlock)]
  obtain ⟨hheld, hloss, hrec, hmem⟩ := holdover_lost h (headOnly_modHead s h (fun v => { v with good := 0 }))
  have hgood := head_holdover HeadS.good (fun _ _ => rfl) (fun _ => rfl) (s.modHead h (fun v => { v with good := 0 })) h
  rw [headS_modHead_same] at hgood
  refine answers_event rfl he ?_
  rw [hlost]
  exact ⟨hheld, hloss, hgood, hrec, hmem⟩

/-! ## A reference event (R233, R234) -/

/-- The event is one that the head takes: the edge of its FSYNC pin, or an instant of fabric time. -/
def State.refTaken (s : State) (h : Nat) (rising : Bool) : Prop :=
  s.get (Fd.HD_CTL_SRC h).act = 1 ∧ s.eyeFn (44 + s.get (Fd.HD_CTL_FSEL h).act) 1 = true ∧ rising = !s.flag (Fd.HD_CTL_FEDGE h).act ∨
    s.get (Fd.HD_CTL_SRC h).act = 2 ∧ s.epochDue h = true

theorem refEdge_taken {s : State} {h : Nat} {rising : Bool} {err : Int} {ival : Nat} (htaken : s.refTaken h rising) :
    s.refEdge h rising err ival = s.refEvent h err ival ∧ s.hasRef h = true := by
  unfold State.refEdge State.hasRef
  rcases htaken with ⟨hsrc, hpin, hedge⟩ | ⟨hsrc, hdue⟩
  · rw [hsrc, hedge]
    exact ⟨if_pos (by rw [hpin]; exact beq_self_eq_true _), rfl⟩
  · rw [hsrc]
    exact ⟨if_pos hdue, rfl⟩

/-- The interval joins the latest ones. -/
def State.ivalTaken (s : State) (h ival : Nat) : State := s.modHead h (fun v => { v with ivals := (ival :: (s.headS h).ivals).take 7 })

/-- The head in ACQUIRE, with `good` events of a small phase error one after another. -/
def State.acquires (s : State) (h ival good : Nat) : State := ((s.ivalTaken h ival).modHead h (fun v => { v with good := good })).setLock h 1

/-- A phase error within a bound is within a larger one. -/
theorem errWithin_of_le {s : State} {h : Nat} {r : Int} {a b : Nat} (hab : a ≤ b) (hr : s.errWithin h r a = true) :
    s.errWithin h r b = true := by
  unfold State.errWithin at hr ⊢
  exact decide_eq_true ((of_decide_eq_true hr).trans (Nat.mul_le_mul_right _ hab))

section
variable {s : State} {h : Nat} {err : Int} {ival : Nat} (hwait : (s.headS h).waitRef = false) (hrun : (s.headS h).running = true)
  (href : s.hasRef h = true)
include hwait hrun href

theorem refEvent_free (hlock : s.get (Fd.HD_STAT_LOCK h) = 0) : s.refEvent h err ival = s.ivalTaken h ival := by
  unfold State.refEvent
  simp only [hwait, hrun, href, hlock]
  rfl

theorem refEvent_lost (hlock : s.get (Fd.HD_STAT_LOCK h) = 1 ∨ s.get (Fd.HD_STAT_LOCK h) = 2)
    (hbad : s.outOfRange h ((ival :: (s.headS h).ivals).take 7) = true) : s.refEvent h err ival = (s.ivalTaken h ival).holdover h := by
  unfold State.refEvent
  rcases hlock with hlock | hlock
  all_goals
    simp only [hwait, hrun, href, hlock, hbad]
    rfl

theorem refEvent_locks (hlock : s.get (Fd.HD_STAT_LOCK h) = 1) (hbad : s.outOfRange h ((ival :: (s.headS h).ivals).take 7) = false)
    (hsmall : s.errWithin h (s.phaseErr h err) 20000 = true) (hgood : 7 ≤ (s.headS h).good) :
    s.refEvent h err ival =
      (((s.ivalTaken h ival).modHead h (fun v => { v with good := (s.headS h).good + 1 })).setLock h 2).raise (24 + 6 * h) := by
  have hwithin := errWithin_of_le (show 20000 ≤ 1000000 by decide) hsmall
  have hmore : 8 ≤ (s.headS h).good + 1 := Nat.succ_le_succ hgood
  unfold State.refEvent State.ivalTaken
  simp only [hwait, hrun, href, hlock, hbad, hsmall, hwithin, hmore, Bool.not_true, Bool.and_false, Bool.or_self, Bool.false_eq_true,
    if_false, if_true]

theorem refEvent_locked (hlock : s.get (Fd.HD_STAT_LOCK h) = 2) (hbad : s.outOfRange h ((ival :: (s.headS h).ivals).take 7) = false) :
    s.refEvent h err ival = if s.errWithin h (s.phaseErr h err) 100000 then s.ivalTaken h ival else s.acquires h ival 0 := by
  unfold State.refEvent State.acquires State.ivalTaken
  simp only [hwait, hrun, href, hlock, hbad, Bool.not_true, Bool.or_self, Bool.false_eq_true, if_false]

theorem refEvent_held (hlock : s.get (Fd.HD_STAT_LOCK h) = 3) : s.refEvent h err ival =
    if s.outOfRange h ((ival :: (s.headS h).ivals).take 7) then s.ivalTaken h ival
    else s.acquires h ival (b2n (s.errWithin h (s.phaseErr h err) 20000)) := by
  unfold State.refEvent State.acquires State.ivalTaken
  simp only [hwait, hrun, href, hlock, Bool.not_true, Bool.or_self, Bool.false_eq_true, if_false]

end

theorem running_ivalTaken (s : State) (h ival : Nat) : ((s.ivalTaken h ival).headS h).running = (s.headS h).running := by
  unfold State.ivalTaken
  rw [headS_modHead_same]

theorem running_acquires (s : State) (h ival good : Nat) : ((s.acquires h ival good).headS h).running = (s.headS h).running := by
  unfold State.acquires
  rw [head_setLock HeadS.running (fun _ _ => rfl), headS_modHead_same, running_ivalTaken]

theorem lock_acquires (s : State) (h ival good : Nat) : (s.acquires h ival good).get (Fd.HD_STAT_LOCK h) = 1 := lock_setLock _ (by decide)

theorem mem_acquires (s : State) (h ival good : Nat) : (s.acquires h ival good).mem = s.mem :=
  mem_of_headOnly (headOnly_trans (headOnly_trans (headOnly_modHead s h _) (headOnly_modHead _ h _)) (headOnly_setLock _ h 1))

/-- Out of ACQUIRE no reference event brings a latch point: the head runs on. -/
theorem refEvent_runs {s : State} {h : Fin 16} {err : Int} {ival : Nat} (hwait : (s.headS h).waitRef = false)
    (hrun : (s.headS h).running = true) (href : s.hasRef h = true) (hlock : s.get (Fd.HD_STAT_LOCK h) ≠ 1) :
    ((s.refEvent h err ival).headS h).running = true ∧ (s.refEvent h err ival).mem = s.mem := by
  have htaken : ((s.ivalTaken h ival).headS h).running = true ∧ (s.ivalTaken h ival).mem = s.mem :=
    ⟨(running_ivalTaken s h ival).trans hrun, rfl⟩
  have hacquires (good : Nat) : ((s.acquires h ival good).headS h).running = true ∧ (s.acquires h ival good).mem = s.mem :=
    ⟨(running_acquires s h ival good).trans hrun, mem_acquires s h ival good⟩
  have hlt : s.get (Fd.HD_STAT_LOCK h) < 2 ^ 2 := get_lt s (Fd.HD_STAT_LOCK h)
  obtain h0 | h2 | h3 : s.get (Fd.HD_STAT_LOCK h) = 0 ∨ s.get (Fd.HD_STAT_LOCK h) = 2 ∨ s.get (Fd.HD_STAT_LOCK h) = 3 := by omega
  · rw [refEvent_free hwait hrun href h0]
    exact htaken
  · cases hbad : s.outOfRange h ((ival :: (s.headS h).ivals).take 7) with
    | true =>
      rw [refEvent_lost hwait hrun href (.inr h2) hbad]
      obtain ⟨-, -, -, hmem⟩ := holdover_lost h (headOnly_modHead s h (fun v => { v with ivals := (ival :: (s.headS h).ivals).take 7 }))
      exact ⟨(head_holdover HeadS.running (fun _ _ => rfl) (fun _ => rfl) _ _).trans htaken.1, hmem⟩
    | false =>
      rw [refEvent_locked hwait hrun href h2 hbad]
      split
      · exact htaken
      · exact hacquires 0
  · rw [refEvent_held hwait hrun href h3]
    split
    · exact htaken
    · exact hacquires _

theorem referenceLock_answers {s : State} {h : Fin 16} {err : Int} {ival : Nat} {rising : Bool} (he : s.inEpisode = false)
    (htaken : s.refTaken h rising) (hgo : (s.headS h).waitRef = false ∧ (s.headS h).running = true) :
    Answers (.referenceEvent h rising err ival) s (fun t =>
      ((s.get (Fd.HD_STAT_LOCK h) = 1 ∨ s.get (Fd.HD_STAT_LOCK h) = 2) → s.outOfRange h ((ival :: (s.headS h).ivals).take 7) = true →
        t.get (Fd.HD_STAT_LOCK h) = 3 ∧ t.flag (Fd.HD_STAT_LOSS h) = true ∧ Recorded s t (uHead h) 0x15 1 0) ∧
      (s.get (Fd.HD_STAT_LOCK h) = 1 → s.outOfRange h ((ival :: (s.headS h).ivals).take 7) = false →
        s.errWithin h (s.phaseErr h err) 20000 = true → 7 ≤ (s.headS h).good → t.get (Fd.HD_STAT_LOCK h) = 2) ∧
      (s.get (Fd.HD_STAT_LOCK h) = 2 → s.outOfRange h ((ival :: (s.headS h).ivals).take 7) = false →
        s.errWithin h (s.phaseErr h err) 100000 = false → t.get (Fd.HD_STAT_LOCK h) = 1) ∧
      (s.get (Fd.HD_STAT_LOCK h) = 2 → s.outOfRange h ((ival :: (s.headS h).ivals).take 7) = false →
        s.errWithin h (s.phaseErr h err) 100000 = true → t.regs = s.regs) ∧
      (s.get (Fd.HD_STAT_LOCK h) = 3 → s.outOfRange h ((ival :: (s.headS h).ivals).take 7) = false → t.get (Fd.HD_STAT_LOCK h) = 1) ∧
      (s.get (Fd.HD_STAT_LOCK h) ≠ 1 → (t.headS h).running = true ∧ t.mem = s.mem)) := by
  obtain ⟨hwait, hrun⟩ := hgo
  obtain ⟨hevent, href⟩ := refEdge_taken (err := err) (ival := ival) htaken
  refine answers_event rfl he ?_
  rw [hevent]
  refine ⟨fun hlock hbad => ?_, fun hlock hbad hsmall hgood => ?_, fun hlock hbad herr => ?_, fun hlock hbad herr => ?_,
    fun hlock hbad => ?_, refEvent_runs hwait hrun href⟩
  · rw [refEvent_lost hwait hrun href hlock hbad]
    obtain ⟨hheld, hloss, hrec, -⟩ := holdover_lost h (headOnly_modHead s h (fun v => { v with ivals := (ival :: (s.headS h).ivals).take 7 }))
    exact ⟨hheld, hloss, hrec⟩
  · rw [refEvent_locks hwait hrun href hlock hbad hsmall hgood, get_raise]
    exact lock_setLock _ (by decide)
  · rw [refEvent_locked hwait hrun href hlock hbad, herr]
    exact lock_acquires s h ival 0
  · rw [refEvent_locked hwait hrun href hlock hbad, herr]
    rfl
  · rw [refEvent_held hwait hrun href hlock, hbad]
    exact lock_acquires s h ival _

end Sys2Proof.Machine
end

section
/-! A reference event of a head that waits for one (R231): its start clears what it waits for. -/
namespace Sys2Proof.Machine

/-! ## A head that waits for no reference event -/

/-- Head `h` does not wait for a reference event to start. -/
def State.noWait (h : Nat) (s : State) : Prop := (s.headS h).waitRef = false

section
variable {h : Nat} {s : State}

theorem noWait_modHead (f : HeadS → HeadS) (hf : ∀ v, (f v).waitRef = v.waitRef) (hs : s.noWait h) : (s.modHead h f).noWait h := by
  unfold State.noWait
  rw [headS_modHead_same, hf]
  exact hs

/-- Whatever leaves the heads alone. -/
theorem noWait_of_heads {t : State} (hs : s.noWait h) (ht : t.pict.heads = s.pict.heads) : t.noWait h :=
  (congrArg HeadS.waitRef (headS_of_heads ht h)).trans hs

theorem noWait_set (f : Fd) (x : Nat) (hs : s.noWait h) : (s.set f x).noWait h := noWait_of_heads hs rfl

theorem noWait_setReg (k : Nat) (v : RegVal) (hs : s.noWait h) : (s.setReg k v).noWait h := noWait_of_heads hs rfl

theorem noWait_raise (n : Nat) (hs : s.noWait h) : (s.raise n).noWait h := SteadyClosed.ite hs (noWait_of_heads hs rfl)

theorem noWait_setLock (st : Nat) (hs : s.noWait h) : (s.setLock h st).noWait h := (waitRef_setLock s h st).trans hs

theorem noWait_captureOn (k : Nat) (hs : s.noWait h) : (s.captureOn k).noWait h :=
  SteadyClosed.ite (noWait_of_heads hs rfl) (noWait_set _ 1 hs)

theorem noWait_captureTrig (trig : Nat) (rising : Bool) (hs : s.noWait h) : (s.captureTrig trig rising).noWait h :=
  SteadyClosed.foldl _ (fun _ k ha => SteadyClosed.ite (noWait_captureOn k ha) ha) hs

/-! ## Its timing (R112, R229, R230, R323) -/

theorem noWait_takeTiming (hs : s.noWait h) : (s.takeTiming h).noWait h := SteadyClosed.foldl _ (fun _ _ ha => noWait_setReg _ _ ha) hs

theorem noWait_latchTimed (changed : Bool) (hs : s.noWait h) : (s.latchTimed h changed).noWait h := by
  unfold State.latchTimed
  split
  · refine SteadyClosed.ite (noWait_takeTiming (noWait_set _ _ ?_)) hs
    exact noWait_setReg _ _ (noWait_setReg _ _ (noWait_setReg _ _ hs))
  · exact SteadyClosed.ite (noWait_takeTiming hs) (noWait_set _ 1 hs)

theorem noWait_evalFits (hs : s.noWait h) : s.evalFits.noWait h := by
  refine SteadyClosed.foldl _ (fun a p ha => SteadyClosed.ite ?_ ha) hs
  unfold State.evalFit
  split
  · exact noWait_set _ 0 ha
  · exact noWait_set _ _ ha

theorem noWait_latchTiming (changed : Bool) (hs : s.noWait h) : (s.latchTiming h changed).noWait h := by
  have hfits := noWait_evalFits (noWait_latchTimed changed hs)
  exact SteadyClosed.ite hfits (noWait_setLock _ (noWait_modHead _ (fun _ => rfl) hfits))

/-! ## Its transfer and its frame (R175, R179, R183) -/

theorem noWait_copyKeys (src dst : Nat) (ks : List Nat) (hs : s.noWait h) : (s.copyKeys src dst ks).noWait h :=
  SteadyClosed.foldl _ (fun _ _ ha => noWait_setReg _ _ ha) hs

theorem noWait_refreshSlots (hs : s.noWait h) : s.refreshSlots.noWait h := by
  have hslot (a : State) (n st : Nat) (ha : a.noWait h) : (a.setSlot n st).noWait h := noWait_set _ _ (noWait_set _ _ ha)
  exact SteadyClosed.foldl _ (fun a n ha => SteadyClosed.ite (hslot a n 4 ha) (SteadyClosed.ite (hslot a n 3 ha) ha)) hs

theorem noWait_commitExpect (changed : Bool) (hs : s.noWait h) : (s.commitExpect h changed).noWait h := by
  unfold State.commitExpect
  exact noWait_modHead _ (fun _ => rfl) hs

theorem noWait_transfer (hs : s.noWait h) : (s.transfer h).1.noWait h := by
  have hcopy := noWait_copyKeys 0 activeBase (((s.shadowLcs h).map lcKeys).flatten ++ lineKeys h ++ settingKeys h)
    (noWait_copyKeys 0 frameBase (((s.shadowLcs h).map lcKeys).flatten ++ lineKeys h) hs)
  have happlied (t : State) (f x : Nat) (changed : Bool) (ht : t.noWait h) : (((((t.commitExpect h changed).set
      (Fd.HD_COMMIT_APPFRAME h) x).set (Fd.HD_COMMIT_PEND h) 0).modHead h (fun v => { v with applied := some f })).raise
        (24 + 6 * h + 4)).noWait h :=
    noWait_raise _ (noWait_modHead _ (fun _ => rfl) (noWait_set _ 0 (noWait_set _ x (noWait_commitExpect changed ht))))
  exact happlied _ _ _ _ (noWait_refreshSlots (noWait_set _ _ (noWait_set _ _ (noWait_set _ _ (noWait_set _ _ hcopy)))))

theorem noWait_answer (r : Req) (status : Nat) (body : List Nat) (hs : s.noWait h) : (s.answer r status body).noWait h :=
  SteadyClosed.ite (noWait_of_heads hs rfl) hs

theorem noWait_armApplied (hs : s.noWait h) : (s.armApplied h).noWait h := by
  have hset (l : List Arm) : (s.setArms l).noWait h := noWait_of_heads hs rfl
  unfold State.armApplied
  split
  · exact hs
  · exact SteadyClosed.ite (noWait_answer _ _ _ (hset _)) (hset _)

theorem noWait_wbDrop (hs : s.noWait h) : (s.wbDrop h).noWait h := by
  unfold State.wbDrop State.wbEnds State.setB
  exact SteadyClosed.ite hs (noWait_raise _ (noWait_set _ _ (noWait_set _ 1 (noWait_modHead _ (fun _ => rfl) hs))))

theorem noWait_wbStart (hs : s.noWait h) : (s.wbStart h).noWait h := by
  have hgo (w : WbRun) : ((s.modHead h (fun v => { v with wb := some w })).set (Fd.HD_WBCTL_BUSY h) 1).noWait h :=
    noWait_set _ 1 (noWait_modHead _ (fun _ => rfl) hs)
  exact SteadyClosed.ite hs (SteadyClosed.ite (noWait_wbDrop (hgo _)) (hgo _))

theorem noWait_prxBegin (hs : s.noWait h) : (s.prxBegin h).noWait h := by
  refine SteadyClosed.foldl _ (fun a k ha => SteadyClosed.ite (SteadyClosed.ite (noWait_set _ 0 ha) ?_) ha) hs
  exact noWait_of_heads ha rfl

theorem noWait_clearSoles (hs : s.noWait h) : (s.clearSoles h).noWait h :=
  SteadyClosed.foldl _ (fun _ _ ha => SteadyClosed.ite (noWait_of_heads ha rfl) ha) hs

theorem noWait_frameBegin (changed : Bool) (hs : s.noWait h) : (s.frameBegin h changed).noWait h := by
  rw [frameBegin_eq]
  refine noWait_captureTrig _ _ (noWait_raise _ (noWait_prxBegin (noWait_wbStart ?_)))
  exact noWait_modHead _ (fun _ => rfl) (noWait_modHead _ (fun _ => rfl) (noWait_clearSoles hs))

/-! ## Its start (R231) -/

theorem noWait_latchOne (hrun : s.flag (Fd.HD_CTL_RUN h) = true) (hs : s.noWait h) : (s.latchOne h).noWait h := by
  have hgo (t : State) (b : Bool) (ht : t.noWait h) :
      ((((t.restore h).markEdges h (s.get (Fd.HD_MARK_MARK h).act)).latchTiming h b).frameBegin h b).noWait h := by
    have hedges : ((t.restore h).markEdges h (s.get (Fd.HD_MARK_MARK h).act)).noWait h :=
      SteadyClosed.foldl _ (fun _ _ ha => SteadyClosed.ite ha (noWait_captureTrig _ _ ha)) (noWait_copyKeys _ _ _ ht)
    exact noWait_frameBegin b (noWait_latchTiming b hedges)
  unfold State.latchOne
  rw [if_neg (by rw [hrun]; decide)]
  refine SteadyClosed.ite (noWait_frameBegin false (noWait_latchTiming false hs)) ?_
  cases s.pict.arms.any (fun a => a.appliesTo h) with
  | false => exact hgo s false hs
  | true => exact hgo _ _ (noWait_armApplied (noWait_transfer hs))

theorem noWait_firstLatch (hrun : s.flag (Fd.HD_CTL_RUN h) = true) : (s.firstLatch h).noWait h := by
  have hbegun : (s.modHead h HeadS.begun).headS h = (s.headS h).begun := headS_modHead_same _ _ _
  have hend : (s.modHead h HeadS.begun).frameEnd h 0 = s.modHead h HeadS.begun := by
    unfold State.frameEnd
    exact if_pos (by rw [hbegun]; rfl)
  have hwait : (s.modHead h HeadS.begun).noWait h := congrArg HeadS.waitRef hbegun
  unfold State.firstLatch State.latchMany
  simp only [List.foldl_cons, List.foldl_nil, hend]
  split
  · exact noWait_latchOne hrun hwait
  · exact noWait_latchOne hrun hwait

theorem noWait_headStart (hrun : s.flag (Fd.HD_CTL_RUN h) = true) : (s.headStart h).noWait h := by
  rw [headStart_eq]
  exact SteadyClosed.ite (noWait_setLock _ (noWait_firstLatch hrun)) (noWait_firstLatch hrun)

end

/-- The start is a latch point with RUN at 1: the head begins its next frame at line 0. -/
theorem frames_headStart {s : State} {h : Nat} (hh : h < 16) (hrun : s.flag (Fd.HD_CTL_RUN h) = true) :
    ((s.headStart h).headS h).frames = nextFrames true (s.headS h).begun.frames := by
  have hbegun : ((s.modHead h HeadS.begun).headS h).frames = (s.headS h).begun.frames := by rw [headS_modHead_same]
  have hfirst : State.latchAt h (nextFrames true (s.headS h).begun.frames) (s.reg (Rg.HD_CTL h)) (s.firstLatch h) :=
    latchAt_latchMany (fun _ => 0) (by simpa using hh) (List.nodup_singleton h) (List.mem_singleton_self h) hrun ⟨hbegun, rfl⟩
  rw [headStart_eq]
  exact (SteadyClosed.ite ((latchClosed_latchAt hh _ _).setLock h _ hfirst) hfirst).1

theorem referenceStart_answers {s : State} {h : Fin 16} {err : Int} {ival : Nat} {rising : Bool} (he : s.inEpisode = false)
    (htaken : s.refTaken h rising) (hwait : (s.headS h).waitRef = true) (hrun : s.flag (Fd.HD_CTL_RUN h) = true) :
    Answers (.referenceEvent h rising err ival) s (fun t =>
      (t.headS h).running = true ∧ (t.headS h).waitRef = false ∧ (t.headS h).frame = ((s.headS h).frame + 1) % 2 ^ 56) := by
  have hevent : s.refEdge h rising err ival = s.headStart h := (refEdge_taken htaken).1.trans (if_pos hwait)
  have hframes := frames_headStart h.isLt hrun
  simp only [HeadS.frames, nextFrames, if_true, Prod.mk.injEq] at hframes
  obtain ⟨hframe, hrunning, -, -⟩ := hframes
  refine answers_event rfl he ?_
  rw [hevent]
  exact ⟨hrunning, noWait_headStart hrun, hframe⟩

/-- Settles O35, one lemma for each of its events. -/
theorem outputsComplete : Obligations.OutputsComplete := by
  unfold Obligations.OutputsComplete
  intro s h e
  exact ⟨fun _ => headUnderrun_answers rfl, fun _ _ _ => rectCrcCompare_answers rfl rfl, writebackDrop_answers,
    fun _ _ _ => writebackDone_answers, fun _ _ _ => picturePacketSend_answers rfl rfl, fun _ _ _ => referenceStart_answers,
    fun _ _ _ => referenceLock_answers, referenceAbsent_answers⟩

end Sys2Proof.Machine
end

section
/-! Direct reads of registers and what they leave (R11, R263, R644, R650, R655, R681). A read leaves its register's effect; past
that, the watchpoints see it and the master has its answer. -/
namespace Sys2Proof.Machine

/-! ## A direct read -/

theorem regValue_aon {s : State} {m o k : Nat} (hd : s.domOn (regDomain k) = true)
    (hk : k < 0x10000 ∨ (0x40000 ≤ k ∧ k < 0x70000) ∨ (0x80000 ≤ k ∧ k < 0x90000)) :
    s.regValue m o k = s.aonRead m o k := by
  unfold State.regValue
  rw [hd, if_neg (by decide), if_pos (by simpa [or_assoc] using hk)]

theorem lt_of_regExists {k : Nat} (h : regExists k = true) : k < 0x1000000 := by
  unfold regExists at h
  simp only [Bool.and_eq_true, decide_eq_true_eq] at h
  exact h.1

/-- What a read of a register other than TIME_LO leaves (R712). -/
theorem regRead_left (s : State) (m o : Nat) (side : Bool) {k : Nat} (hk : k ≠ Rg.TIME_LO) :
    (s.regRead m o side k).2 = if side then s.readEffect o k else s := if_neg hk

/-- A word read of a register: its value, its effect, and what the watchpoints see. -/
theorem readW_reg (b : Bus) {w : Who} {k : Nat} (hw : w.regs = true) (he : regExists k = true) :
    b.readW w (0xFF00000000 + k) = .ok (wordOf (b.s.regValue w.m w.o k))
      { b with s := (b.s.regRead w.m w.o w.side k).2.wpBus w.m (0xFF00000000 + k) 4 false } := by
  unfold Bus.readW Bus.read Bus.readAt
  rw [decode_reg k (lt_of_regExists he)]
  dsimp only
  rw [hw, if_neg (by decide), if_pos he]
  rfl

/-- A direct read that reaches its register answers the register's value; what it leaves past the register's own effect is
what every direct access may change. -/
theorem directRead_readable {s : State} {m : Fin 32} {k : Nat} (e : Env) (h : Readable s m k)
    (hv : s.regValue m (ownerOfMaster m) k < 2 ^ 32) :
    (s.directRead m k e).bus = .value (s.regValue m (ownerOfMaster m) k) ∧
    AccessOnly (fun _ => False) (s.regRead m (ownerOfMaster m) (m.val != 0x1C || s.flag Fd.DBG_CTL_SIDEFX) k).2
      (s.directRead m k e) := by
  obtain ⟨-, -, he, -⟩ := h
  set u := (s.regRead m (ownerOfMaster m) (m.val != 0x1C || s.flag Fd.DBG_CTL_SIDEFX) k).2
  have hleft : s.directRead m k e =
      ({ u.wpBus m (0xFF00000000 + k) 4 false with bus := .value (s.regValue m (ownerOfMaster m) k) } : State).dropBus m := by
    have hread := readW_reg (s.busOf e) (w := { masterWho m with side := m.val != 0x1C || s.flag Fd.DBG_CTL_SIDEFX }) rfl he
    rw [← leNat_wordOf hv]
    unfold State.directRead State.busRow Bus.finish
    dsimp only at hread ⊢
    rw [hread]
    rfl
  rw [hleft]
  exact ⟨rfl, accessOnly_dropBus (regsOnly_wpBus u m (0xFF00000000 + k) 4 false) m⟩

section
variable {c : Instr} {s : State} {m : Fin 32} {k v : Nat} {e : Env} {P : State → Prop}

/-- A command that is a direct read, by its register's value and effect. -/
theorem reads_of (hx : exec c s = didRead s m k e) (h : Readable s m k) (hval : s.regValue m (ownerOfMaster m) k = v)
    (hv : v < 2 ^ 28) (hp : ∀ t, AccessOnly (fun _ => False)
      (s.regRead m (ownerOfMaster m) (m.val != 0x1C || s.flag Fd.DBG_CTL_SIDEFX) k).2 t → P t) : Reads c s v P := by
  obtain ⟨hbus, hleft⟩ := directRead_readable e h (by omega)
  refine ⟨s.directRead m k e, ⟨hval ▸ hbus, hp _ hleft⟩, ?_⟩
  rw [hx]
  unfold didRead calm
  rw [h.1, if_neg (by decide)]
  split
  · exact .inl rfl
  · exact .inr rfl

/-- A read with side effects (R712) of a register other than TIME_LO leaves the register's own effect. -/
theorem reads_of_effect (hx : exec c s = didRead s m k e) (h : Readable s m k)
    (hside : m.val = 0x1C → s.flag Fd.DBG_CTL_SIDEFX = true) (hk : k ≠ Rg.TIME_LO)
    (hval : s.regValue m (ownerOfMaster m) k = v) (hv : v < 2 ^ 28)
    (hp : ∀ t, AccessOnly (fun _ => False) (s.readEffect (ownerOfMaster m) k) t → P t) : Reads c s v P := by
  have hon : (m.val != 0x1C || s.flag Fd.DBG_CTL_SIDEFX) = true := by
    rw [Bool.or_eq_true, bne_iff_ne]
    exact (em (m.val = 0x1C)).symm.imp_right hside
  refine reads_of hx h hval hv fun t ht => hp t ?_
  rwa [regRead_left s _ _ _ hk, if_pos hon] at ht

end

section
variable {s u t : State} {p : Nat → Prop}

theorem accessOnly_after (h : RegsOnly p s u) (ht : AccessOnly (fun _ => False) u t) : AccessOnly p s t :=
  accessOnly_trans (accessOnly_of_regsOnly h) (accessOnly_mono (fun _ => False.elim) ht)

theorem time_of_accessOnly (h : AccessOnly p s t) : t.time = s.time := (congrArg State.time (accessOnly_eq h) :)

theorem pers_of_accessOnly (h : AccessOnly p s t) : t.pers = s.pers := (congrArg State.pers (accessOnly_eq h) :)

/-- The time base is forgotten on both sides. -/
theorem accessOnly_withTime (h : AccessOnly p s t) (x : TimeS) : AccessOnly p { s with time := x } { t with time := x } :=
  accessOnly_forget h (fun y => { y with time := x }) fun _ _ _ _ => rfl

/-- The peripherals are forgotten on both sides. -/
theorem accessOnly_withPers (h : AccessOnly p s t) (x : List (Nat × PerS)) :
    AccessOnly p { s with pers := x } { t with pers := x } :=
  accessOnly_forget h (fun y => { y with pers := x }) fun _ _ _ _ => rfl

end

/-! ## The five reads -/

section
variable {m : Fin 32} {s : State} {e : Env}

theorem regsOnly_readEffect_timeLo (s : State) (o : Nat) :
    RegsOnly (fun k => k = Rg.TIME_LO) s (s.readEffect o Rg.TIME_LO) := by
  unfold State.readEffect
  exact regsOnly_ite (regsOnly_refl _ s) (regsOnly_setRegN s _ rfl)

theorem timeLoRead_reads (h : Readable s m Rg.TIME_LO) :
    Reads (.timeLoRead m e) s (s.time.now % 2 ^ 28) (fun t =>
      tabGet 0 t.time.hi m = s.time.now / 2 ^ 28 ∧
      AccessOnly (fun k => k = Rg.TIME_LO) s { t with time := s.time }) := by
  have ⟨_, _, _, hd⟩ := h
  refine reads_of rfl h ((regValue_aon hd (by decide)).trans rfl) (by omega) fun t ht => ?_
  set u := if m.val != 0x1C || s.flag Fd.DBG_CTL_SIDEFX then s.readEffect (ownerOfMaster m) Rg.TIME_LO else s
  have hu : RegsOnly (fun k => k = Rg.TIME_LO) s u := regsOnly_ite (regsOnly_readEffect_timeLo s _) (regsOnly_refl _ s)
  have hlatch : AccessOnly (fun _ => False) (u.latchTime m) t := ht
  have htime : u.time = s.time := time_of_accessOnly (accessOnly_of_regsOnly hu)
  constructor
  · rw [time_of_accessOnly hlatch, ← htime]
    exact tabGet_put_same _ _ _ _
  · have hforget : AccessOnly (fun _ => False) u { t with time := s.time } := htime ▸ accessOnly_withTime hlatch u.time
    exact accessOnly_after hu hforget

theorem regsOnly_claimRead (s : State) (n : Nat) : RegsOnly (fun k => k = Rg.ICU_GONECNT) s (s.claimRead n) := by
  unfold State.claimRead State.bump
  split
  · exact regsOnly_ite (regsOnly_ite (regsOnly_set s _ _ rfl) (regsOnly_refl _ s)) (regsOnly_refl _ s)
  · exact regsOnly_refl _ s

theorem inArr_claim (n : Fin 5) : inArr (Rg.ICU_TGT_CLAIM n) (Rg.ICU_TGT_CLAIM 0) 5 16 = true :=
  inArr_index (Rg.ICU_TGT_CLAIM 0) n.isLt (by decide)

theorem arrIx_claim (n : Fin 5) : arrIx (Rg.ICU_TGT_CLAIM n) (Rg.ICU_TGT_CLAIM 0) 16 = n :=
  arrIx_index (Rg.ICU_TGT_CLAIM 0) n (by decide)

theorem aonRead_claim (s : State) (m o : Nat) (n : Fin 5) : s.aonRead m o (Rg.ICU_TGT_CLAIM n) = s.claimVal n := by
  have hne : ∀ j, j < 0x50104 → (Rg.ICU_TGT_CLAIM n = j) = False := fun j hj => eq_false (by unfold Rg.ICU_TGT_CLAIM; omega)
  have hpend : inArr (Rg.ICU_TGT_CLAIM n) (Rg.ICU_PEND 0) 16 4 = false :=
    inArr_eq_false (by unfold Rg.ICU_TGT_CLAIM Rg.ICU_PEND; omega)
  unfold State.aonRead
  simp (disch := decide) only [hne, hpend, inArr_claim, arrIx_claim, if_true, if_false, Bool.false_eq_true]

theorem regsOnly_readEffect_claim (s : State) (o : Nat) (n : Fin 5) :
    RegsOnly (fun k => k = Rg.ICU_GONECNT) s (s.readEffect o (Rg.ICU_TGT_CLAIM n)) := by
  have hne : Rg.ICU_TGT_CLAIM n ≠ Rg.SYS_PERDATA := by unfold Rg.ICU_TGT_CLAIM Rg.SYS_PERDATA; omega
  unfold State.readEffect
  rw [if_neg hne, if_pos (inArr_claim n), arrIx_claim]
  exact regsOnly_ite (regsOnly_refl _ s) (regsOnly_claimRead s n)

theorem claimRead_reads (n : Fin 5) (h : Readable s m (Rg.ICU_TGT_CLAIM n)) (hv : s.claimVal n < 2 ^ 28) :
    Reads (.claimRead n m e) s (s.claimVal n) (fun t =>
      (∀ x, s.claimed n = some x → s.claimVal n = 2 ^ 27 + x) ∧
      (s.claimed n = none → s.claimVal n = 0) ∧
      AccessOnly (fun k => k = Rg.ICU_GONECNT) s t) := by
  have ⟨_, _, _, hd⟩ := h
  have hval := (regValue_aon hd (by unfold Rg.ICU_TGT_CLAIM; omega)).trans (aonRead_claim s m (ownerOfMaster m) n)
  have hne : Rg.ICU_TGT_CLAIM n ≠ Rg.TIME_LO := by unfold Rg.ICU_TGT_CLAIM Rg.TIME_LO; omega
  refine reads_of rfl h hval hv fun t ht =>
    ⟨fun x hx => by rw [State.claimVal, hx], fun hnone => by rw [State.claimVal, hnone], accessOnly_after ?_ ht⟩
  rw [regRead_left s _ _ _ hne]
  exact regsOnly_ite (regsOnly_readEffect_claim s _ n) (regsOnly_refl _ s)

/-- The oldest capture goes, and its high half is kept for TIME_CAPHI (R655). -/
theorem captureRead_cons {k x : Nat} {rest : List Nat} (hc : tabGet [] s.time.caps k = x :: rest) : s.captureRead k =
    (x % 2 ^ 28, { s with time := { s.time with caps := tabPut [] s.time.caps k rest,
                                                capHi := tabPut 0 s.time.capHi k (x / 2 ^ 28) } }) := by
  unfold State.captureRead
  rw [hc]

theorem captureRead_reads (h : Readable s m Rg.TIME_CAPLO) (hside : m.val = 0x1C → s.flag Fd.DBG_CTL_SIDEFX = true)
    (hcap : tabGet [] s.time.caps (s.capIx (ownerOfMaster m)) ≠ []) :
    Reads (.captureRead m e) s (((tabGet [] s.time.caps (s.capIx (ownerOfMaster m))).headD 0) % 2 ^ 28) (fun t =>
      tabGet [] t.time.caps (s.capIx (ownerOfMaster m)) = (tabGet [] s.time.caps (s.capIx (ownerOfMaster m))).tail ∧
      tabGet 0 t.time.capHi (s.capIx (ownerOfMaster m)) =
        (tabGet [] s.time.caps (s.capIx (ownerOfMaster m))).headD 0 / 2 ^ 28 ∧
      AccessOnly (fun _ => False) s { t with time := s.time }) := by
  have ⟨_, _, _, hd⟩ := h
  obtain ⟨x, rest, hc⟩ := List.exists_cons_of_ne_nil hcap
  have hread := captureRead_cons hc
  rw [hc]
  have hval : s.regValue m (ownerOfMaster m) Rg.TIME_CAPLO = x % 2 ^ 28 :=
    (regValue_aon hd (by decide)).trans (congrArg Prod.fst hread)
  have heff : s.readEffect (ownerOfMaster m) Rg.TIME_CAPLO = (s.captureRead (s.capIx (ownerOfMaster m))).2 := by
    unfold State.readEffect
    rw [hd]
    rfl
  refine reads_of_effect rfl h hside (by decide) hval (by omega) fun t ht => ?_
  rw [heff, hread] at ht
  rw [time_of_accessOnly ht]
  exact ⟨tabGet_put_same _ _ _ _, tabGet_put_same _ _ _ _, accessOnly_withTime ht s.time⟩

theorem inArr_frame (h : Fin 16) : inArr (Rg.HD_FRAME h) (Rg.HD_FRAME 0) 16 0x1000 = true :=
  inArr_index (Rg.HD_FRAME 0) h.isLt (by decide)

theorem arrIx_frame (h : Fin 16) : arrIx (Rg.HD_FRAME h) (Rg.HD_FRAME 0) 0x1000 = h :=
  arrIx_index (Rg.HD_FRAME 0) h (by decide)

theorem regValue_frame {o : Nat} (h : Fin 16) (hd : s.domOn (regDomain (Rg.HD_FRAME h)) = true) :
    s.regValue m o (Rg.HD_FRAME h) = (s.readFrame h).1 := by
  have hlo : 0x180018 ≤ Rg.HD_FRAME h ∧ Rg.HD_FRAME h < 0x190018 := by unfold Rg.HD_FRAME; omega
  have hpace : inArr (Rg.HD_FRAME h) (Rg.SL_PACE 0) 16 0x1000 = false := inArr_eq_false (by unfold Rg.SL_PACE; omega)
  have hcore : inArr (Rg.HD_FRAME h) (Rg.AWL_PACE 0) 4 4 = false := inArr_eq_false (by unfold Rg.AWL_PACE; omega)
  have hown : Rg.HD_FRAME h ≠ Rg.TONGUE_OWNDATA := by unfold Rg.TONGUE_OWNDATA; omega
  have hcap : Rg.HD_FRAME h ≠ Rg.LAST_SLOTCAP := by unfold Rg.LAST_SLOTCAP; omega
  unfold State.regValue
  rw [hd, if_neg (by decide), if_neg (by simp; omega), if_neg hown, if_neg hcap, hpace, hcore, if_neg (by decide),
    if_neg (by decide), if_pos (inArr_frame h), arrIx_frame]

theorem readEffect_frame {o : Nat} (h : Fin 16) (hd : s.domOn (regDomain (Rg.HD_FRAME h)) = true) :
    s.readEffect o (Rg.HD_FRAME h) = (s.readFrame h).2 := by
  have hclaim : inArr (Rg.HD_FRAME h) (Rg.ICU_TGT_CLAIM 0) 5 16 = false :=
    inArr_eq_false (by unfold Rg.HD_FRAME Rg.ICU_TGT_CLAIM; omega)
  have hper : Rg.HD_FRAME h ≠ Rg.SYS_PERDATA := by unfold Rg.HD_FRAME Rg.SYS_PERDATA; omega
  have hcap : Rg.HD_FRAME h ≠ Rg.TIME_CAPLO := by unfold Rg.HD_FRAME Rg.TIME_CAPLO; omega
  unfold State.readEffect
  rw [hd, if_neg (by decide), if_neg hper, hclaim, if_neg (by decide), if_neg hcap, if_pos (inArr_frame h), arrIx_frame]

theorem headFrameRead_reads (h : Fin 16) (hr : Readable s m (Rg.HD_FRAME h))
    (hside : m.val = 0x1C → s.flag Fd.DBG_CTL_SIDEFX = true) :
    Reads (.headFrameRead h m e) s ((s.headS h).frame % 2 ^ 28) (fun t =>
      t.get (Fd.HD_FRAMEHI_FRAMEHI h) = (s.headS h).frame / 2 ^ 28 % 2 ^ 28 ∧
      AccessOnly (fun k => k = Rg.HD_FRAMEHI h) s t) := by
  have ⟨_, _, _, hd⟩ := hr
  have hne : Rg.HD_FRAME h ≠ Rg.TIME_LO := by unfold Rg.HD_FRAME Rg.TIME_LO; omega
  have hwatch : ¬ watchKey (Rg.HD_FRAMEHI h) := fun hk => by
    have hb := block_of_watchKey hk
    unfold Rg.HD_FRAMEHI at hb
    omega
  refine reads_of_effect rfl hr hside hne (regValue_frame h hd) (Nat.mod_lt _ (by decide)) fun t ht => ?_
  rw [readEffect_frame h hd] at ht
  refine ⟨?_, accessOnly_after (regsOnly_set s (Fd.HD_FRAMEHI_FRAMEHI h) _ rfl) ht⟩
  calc t.get (Fd.HD_FRAMEHI_FRAMEHI h)
      = (s.readFrame h).2.get (Fd.HD_FRAMEHI_FRAMEHI h) := get_of_reg (accessOnly_reg ht id hwatch)
    _ = (s.headS h).frame / 2 ^ 28 % 2 ^ 28 := get_set_same s (Fd.HD_FRAMEHI_FRAMEHI h) _ (Nat.le_refl 28)

/-- A selected peripheral's receive FIFO pops (R681). -/
theorem readPer_pops {b : Nat} {rest : List Nat} (hj : s.get Fd.SYS_PERIDX_PER < 6) (hreg : s.get Fd.SYS_PERIDX_REG = 2)
    (hrx : (s.perS (s.get Fd.SYS_PERIDX_PER)).rx = b :: rest) :
    s.readPer = (b % 256, s.modPer (s.get Fd.SYS_PERIDX_PER) (fun x => { x with rx := rest })) := by
  unfold State.readPer
  dsimp only
  rw [if_neg (by omega), if_pos hreg, hrx]

theorem perdataRead_reads {b : Nat} {rest : List Nat} (h : Readable s m Rg.SYS_PERDATA)
    (hside : m.val = 0x1C → s.flag Fd.DBG_CTL_SIDEFX = true) (hj : s.get Fd.SYS_PERIDX_PER < 6)
    (hreg : s.get Fd.SYS_PERIDX_REG = 2) (hrx : (s.perS (s.get Fd.SYS_PERIDX_PER)).rx = b :: rest) :
    Reads (.perdataRead m e) s (b % 256) (fun t =>
      (t.perS (s.get Fd.SYS_PERIDX_PER)).rx = rest ∧ AccessOnly (fun _ => False) s { t with pers := s.pers }) := by
  have ⟨_, _, _, hd⟩ := h
  have hread := readPer_pops hj hreg hrx
  have hval : s.regValue m (ownerOfMaster m) Rg.SYS_PERDATA = b % 256 :=
    (regValue_aon hd (by decide)).trans (congrArg Prod.fst hread)
  have heff : s.readEffect (ownerOfMaster m) Rg.SYS_PERDATA = s.readPer.2 := by
    unfold State.readEffect
    rw [hd]
    rfl
  refine reads_of_effect rfl h hside (by decide) hval (by omega) fun t ht => ?_
  rw [heff, hread] at ht
  refine ⟨?_, accessOnly_withPers ht s.pers⟩
  unfold State.perS
  rw [pers_of_accessOnly ht]
  exact congrArg PerS.rx (tabGet_put_same _ _ _ _)

end

/-- Settles O12, one lemma for each of its reads. -/
theorem readsComplete : Obligations.ReadsComplete := by
  unfold Obligations.ReadsComplete
  intro m s e
  exact ⟨timeLoRead_reads, claimRead_reads, captureRead_reads, headFrameRead_reads, fun _ _ => perdataRead_reads⟩

end Sys2Proof.Machine
end

section
/-! Writes of the pools, the fetch engine's peaks and the memory controller (R271, R282, R289, R290, R295–R298). -/
namespace Sys2Proof.Machine

/-! ## The FETCH and MEM blocks -/

theorem not_watchKey_fetch {k : Nat} (hk : 0x110000 ≤ k ∧ k < 0x130000) : ¬ watchKey k := fun hw => by
  have hb := block_of_watchKey hw
  omega

theorem ne_fusecmd_fetch {k : Nat} (hk : 0x110000 ≤ k ∧ k < 0x130000) : k ≠ Rg.SEC_FUSECMD := by
  unfold Rg.SEC_FUSECMD
  omega

theorem pool_bounds (k : Fin 8) : 0x110000 ≤ Rg.FETCH_POOL k ∧ Rg.FETCH_POOL k < 0x130000 := by
  unfold Rg.FETCH_POOL
  omega

theorem poolStat_bounds (k : Fin 8) : 0x110000 ≤ Rg.FETCH_POOL_STAT k ∧ Rg.FETCH_POOL_STAT k < 0x130000 := by
  unfold Rg.FETCH_POOL_STAT
  omega

theorem slStat_bounds (n : Fin 16) : 0x110000 ≤ Rg.FETCH_SL_STAT n ∧ Rg.FETCH_SL_STAT n < 0x130000 := by
  unfold Rg.FETCH_SL_STAT
  omega

theorem slLat_bounds (n : Fin 16) : 0x110000 ≤ Rg.FETCH_SL_LAT n ∧ Rg.FETCH_SL_LAT n < 0x130000 := by
  unfold Rg.FETCH_SL_LAT
  omega

theorem slLine_bounds (n : Fin 16) : 0x110000 ≤ Rg.FETCH_SL_LINE n ∧ Rg.FETCH_SL_LINE n < 0x130000 := by
  unfold Rg.FETCH_SL_LINE
  omega

theorem ecc_bounds (n : Fin 8) : 0x110000 ≤ Rg.MEM_ECC n ∧ Rg.MEM_ECC n < 0x130000 := by
  unfold Rg.MEM_ECC
  omega

section
variable (s : State) (o v : Nat) (c : WriteCtx)

theorem writeReg_poolStat (k : Fin 8) : s.writeReg o (Rg.FETCH_POOL_STAT k) v c = s.writePoolStat k v := by
  fin_cases k <;> rfl

theorem writeReg_slStat (n : Fin 16) : s.writeReg o (Rg.FETCH_SL_STAT n) v c = s.writeSlStat n v := by
  fin_cases n <;> rfl

theorem writeReg_slLat (n : Fin 16) : s.writeReg o (Rg.FETCH_SL_LAT n) v c = s.writeSlLat n v := by
  fin_cases n <;> rfl

theorem writeReg_slLine (n : Fin 16) : s.writeReg o (Rg.FETCH_SL_LINE n) v c = s.writeSlLine n v := by
  fin_cases n <;> rfl

theorem writeReg_memCtl : s.writeReg o Rg.MEM_CTL v c = s.writeMemCtl v := rfl

theorem writeReg_ecc (n : Fin 8) : s.writeReg o (Rg.MEM_ECC n) v c = s.writeEcc n v := by
  fin_cases n <;> rfl

end

/-! ## What a plain write leaves in FETCH_POOLk, FETCH_POOLkSTAT and MEM_ECCn (R294, R295, R307) -/

theorem pool_fields (k : Fin 8) : ∃ a b c d, (specAt (Rg.FETCH_POOL k)).map RegSpec.fields =
    some [⟨21, 11, .rw, a, b, .kept⟩, ⟨10, 0, .rw, c, d, .kept⟩] := by
  fin_cases k <;> exact ⟨_, _, _, _, rfl⟩

theorem poolStat_fields (k : Fin 8) : (specAt (Rg.FETCH_POOL_STAT k)).map RegSpec.fields =
    some [⟨27, 27, .w1c, .val 0, .val 0, .kept⟩, ⟨26, 26, .wo, .val 0, .val 0, .kept⟩, ⟨21, 11, .ro, .val 0, .val 0, .kept⟩,
      ⟨10, 0, .ro, .val 0, .val 0, .kept⟩] := by
  revert k
  decide

theorem ecc_fields (n : Fin 8) : (specAt (Rg.MEM_ECC n)).map RegSpec.fields =
    some [⟨27, 27, .rw, .val 0, .kept, .kept⟩, ⟨26, 26, .ro, .val 0, .val 0, .kept⟩, ⟨23, 13, .rw, .val 0, .kept, .kept⟩,
      ⟨10, 0, .rw, .val 0, .kept, .kept⟩] := by
  revert n
  decide

theorem pool_writeByAccess (k : Fin 8) (old v : Nat) : writeByAccess (Rg.FETCH_POOL k) old v % 2 ^ 28 = v % 2 ^ 22 := by
  obtain ⟨a, b, c, d, hf⟩ := pool_fields k
  rw [writeByAccess_of_fields hf]
  simp only [List.foldl, writeField, nbits]
  omega

/-- HELD is read-only. -/
theorem poolHeld_writeByAccess (k : Fin 8) (old v : Nat) :
    writeByAccess (Rg.FETCH_POOL_STAT k) old v % 2 ^ 28 % 2 ^ 11 = old % 2 ^ 11 := by
  rw [writeByAccess_of_fields (poolStat_fields k)]
  simp only [List.foldl, writeField, nbits]
  omega

theorem eccEn_writeByAccess (n : Fin 8) (old v : Nat) : nbit (writeByAccess (Rg.MEM_ECC n) old v % 2 ^ 28) 27 = nbit v 27 := by
  rw [writeByAccess_of_fields (ecc_fields n)]
  have h : (0 + v / 2 ^ 27 % 2 ^ 1 * 2 ^ 27 + old / 2 ^ 26 % 2 ^ 1 * 2 ^ 26 + v / 2 ^ 13 % 2 ^ 11 * 2 ^ 13 +
      v / 2 ^ 0 % 2 ^ 11 * 2 ^ 0) % 2 ^ 28 / 2 ^ 27 % 2 = v / 2 ^ 27 % 2 := by omega
  exact congrArg (· == 1) h

theorem poolHeld_plainWrite (s : State) (k : Fin 8) (v : Nat) :
    (s.plainWrite (Rg.FETCH_POOL_STAT k) v).poolHeld k = s.poolHeld k := by
  have hheld (t : State) : t.poolHeld k = t.regN (Rg.FETCH_POOL_STAT k) % 2 ^ 11 := congrArg (· % 2 ^ 11) (Nat.div_one _)
  rw [hheld, hheld, regN_plainWrite_same, poolHeld_writeByAccess]

theorem eccEn_plainWrite (s : State) (n : Fin 8) (v : Nat) : (s.plainWrite (Rg.MEM_ECC n) v).flag (Fd.MEM_ECC_EN n) = nbit v 27 := by
  rw [flag_eq_nbit _ rfl]
  exact (congrArg (nbit · 27) (regN_plainWrite_same s (Rg.MEM_ECC n) v)).trans (eccEn_writeByAccess n _ v)

/-! ## Pools and peaks -/

section
variable {m : Fin 32} {s : State} {v : BitVec 28} {e : Env}

theorem fetchPoolWrite_writes (k : Fin 8) (h : Taken s m (Rg.FETCH_POOL k) v.toNat) (hok : s.poolBad k v.toNat = false) :
    Writes (.fetchPoolWrite k m v e) s (fun t =>
      t.get (Fd.FETCH_POOL_RSV k) = v.toNat % 2 ^ 11 ∧ t.get (Fd.FETCH_POOL_LIMIT k) = v.toNat / 2 ^ 11 % 2 ^ 11 ∧
      AccessOnly (fun j => j = Rg.FETCH_POOL k) s t) := by
  have hw : s.writePool k v.toNat = s.plainWrite (Rg.FETCH_POOL k) v.toNat := if_neg (by rw [hok]; exact Bool.false_ne_true)
  refine plainWrite_writes rfl h (ne_fusecmd_fetch (pool_bounds k)) (not_watchKey_fetch (pool_bounds k))
    ((writeReg_pool s _ _ _ k).trans hw) fun t ht ha => ?_
  rw [pool_writeByAccess] at ht
  have hrsv : t.get (Fd.FETCH_POOL_RSV k) = t.regN (Rg.FETCH_POOL k) / 2 ^ 0 % 2 ^ 11 := rfl
  have hlimit : t.get (Fd.FETCH_POOL_LIMIT k) = t.regN (Rg.FETCH_POOL k) / 2 ^ 11 % 2 ^ 11 := rfl
  exact ⟨by omega, by omega, ha⟩

theorem poolPeakClear_writes (k : Fin 8) (h : Taken s m (Rg.FETCH_POOL_STAT k) v.toNat) (hv : nbit v.toNat 26 = true) :
    Writes (.poolPeakClear k m v e) s (fun t =>
      t.get (Fd.FETCH_POOL_STAT_PEAK k) = s.get (Fd.FETCH_POOL_STAT_HELD k) ∧
      AccessOnly (fun j => j = Rg.FETCH_POOL_STAT k) s t) := by
  have hw : s.writePoolStat k v.toNat =
      (s.plainWrite (Rg.FETCH_POOL_STAT k) v.toNat).set (Fd.FETCH_POOL_STAT_PEAK k) (s.poolHeld k) := by
    rw [← poolHeld_plainWrite s k v.toNat]
    exact if_pos hv
  have hr : RegsOnly (fun j => j = Rg.FETCH_POOL_STAT k) s _ :=
    regsOnly_trans (regsOnly_plainWrite s v.toNat rfl) (regsOnly_set _ (Fd.FETCH_POOL_STAT_PEAK k) (s.poolHeld k) rfl)
  refine regsWrite_writes rfl h (ne_fusecmd_fetch (poolStat_bounds k)) ((writeReg_poolStat s _ _ _ k).trans hw) hr
    fun t hreg ha => ⟨?_, ha⟩
  rw [get_of_reg (f := Fd.FETCH_POOL_STAT_PEAK k) (hreg _ (not_watchKey_fetch (poolStat_bounds k))),
    get_set_same _ _ _ (show 11 + 11 ≤ 28 by decide)]
  exact Nat.mod_eq_of_lt (get_lt s (Fd.FETCH_POOL_STAT_HELD k))

theorem soleTackPeakClear_writes (n : Fin 16) (h : Taken s m (Rg.FETCH_SL_STAT n) v.toNat) (hv : nbit v.toNat 27 = true) :
    Writes (.soleTackPeakClear n m v e) s (fun t =>
      t.get (Fd.FETCH_SL_STAT_PEAK n) = s.get (Fd.FETCH_SL_STAT_HELD n) ∧ AccessOnly (fun j => j = Rg.FETCH_SL_STAT n) s t) :=
  fieldWrite_writes rfl h (ne_fusecmd_fetch (slStat_bounds n)) (not_watchKey_fetch (slStat_bounds n))
    (f := Fd.FETCH_SL_STAT_PEAK n) rfl (show 18 + 9 ≤ 28 by decide) (get_lt s (Fd.FETCH_SL_STAT_HELD n))
    ((writeReg_slStat s _ _ _ n).trans (if_pos hv))

theorem fetchLatencyMaxClear_writes (n : Fin 16) (h : Taken s m (Rg.FETCH_SL_LAT n) v.toNat) (hv : nbit v.toNat 27 = true) :
    Writes (.fetchLatencyMaxClear n m v e) s (fun t =>
      t.get (Fd.FETCH_SL_LAT_MAX n) = 0 ∧ AccessOnly (fun j => j = Rg.FETCH_SL_LAT n) s t) :=
  fieldWrite_writes rfl h (ne_fusecmd_fetch (slLat_bounds n)) (not_watchKey_fetch (slLat_bounds n))
    (f := Fd.FETCH_SL_LAT_MAX n) rfl (show 19 + 8 ≤ 28 by decide) (show 0 < 2 ^ 8 by decide)
    ((writeReg_slLat s _ _ _ n).trans (if_pos hv))

theorem lineGranulePeakClear_writes (n : Fin 16) (h : Taken s m (Rg.FETCH_SL_LINE n) v.toNat) (hv : nbit v.toNat 27 = true) :
    Writes (.lineGranulePeakClear n m v e) s (fun t =>
      t.get (Fd.FETCH_SL_LINE_PEAKG n) = 0 ∧ AccessOnly (fun j => j = Rg.FETCH_SL_LINE n) s t) :=
  fieldWrite_writes rfl h (ne_fusecmd_fetch (slLine_bounds n)) (not_watchKey_fetch (slLine_bounds n))
    (f := Fd.FETCH_SL_LINE_PEAKG n) rfl (show 0 + 20 ≤ 28 by decide) (show 0 < 2 ^ 20 by decide)
    ((writeReg_slLine s _ _ _ n).trans (if_pos hv))

end

/-! ## A full training starts (R282) -/

/-- The effective channels go into training and the others are disabled. -/
def State.channelsBegin (s : State) (eff : Nat) : State :=
  (List.range 6).foldl (fun a c => a.set (Fd.MEM_CH_STAT_STATE c) (if nbit eff c then 1 else 5)) s

/-- The configuration takes effect (R299) and contents are lost. -/
def State.memConfigured (s : State) : State :=
  (((s.set Fd.MEM_STAT_CHEFF s.effChannels).setB Fd.MEM_STAT_MAPLIN s.effLinear).set Fd.MEM_STAT_CAPU s.capacityUnits).loseGddr

theorem startTraining_eq (s : State) : ∃ fetch : FetchS, fetch.training = chanList s.effChannels ∧
    s.startTraining = ({ s.memConfigured.channelsBegin s.effChannels with fetch := fetch } : State).memReadyBit := ⟨_, rfl, rfl⟩

theorem get_withFetch (s : State) (x : FetchS) (f : Fd) : ({ s with fetch := x } : State).get f = s.get f := rfl

theorem get_loseGddr (s : State) (f : Fd) : s.loseGddr.get f = s.get f := rfl

theorem get_memReadyBit_key (s : State) {f : Fd} (hf : f.key ≠ Rg.MEM_STAT) : s.memReadyBit.get f = s.get f :=
  get_set_key s Fd.MEM_STAT_READY f _ hf

theorem get_memReadyBit_apart (s : State) {f : Fd} (hf : f.lo + f.w ≤ 27) : s.memReadyBit.get f = s.get f :=
  get_set_apart s Fd.MEM_STAT_READY f _ (by decide) (.inl hf)

theorem effChannels_lt (s : State) : s.effChannels < 2 ^ 6 :=
  Nat.lt_of_le_of_lt Nat.and_le_left (get_lt s Fd.MEM_CFG_CHEN)

/-- The STATE, RATE and HOT of different channels lie in different registers. -/
theorem chStat_key_ne {c j : Nat} (h : c ≠ j) : Rg.MEM_CH_STAT c ≠ Rg.MEM_CH_STAT j := by
  unfold Rg.MEM_CH_STAT
  omega

theorem chStat_ne_memStat (c : Nat) : Rg.MEM_CH_STAT c ≠ Rg.MEM_STAT := by
  unfold Rg.MEM_CH_STAT Rg.MEM_STAT
  omega

theorem chState_channelsBegin (s : State) (eff : Nat) {c : Nat} (hc : c < 6) :
    (s.channelsBegin eff).get (Fd.MEM_CH_STAT_STATE c) = if nbit eff c then 1 else 5 := by
  have hset (a : State) : (a.set (Fd.MEM_CH_STAT_STATE c) (if nbit eff c then 1 else 5)).get (Fd.MEM_CH_STAT_STATE c) =
      if nbit eff c then 1 else 5 := by
    rw [get_set_same _ _ _ (show 25 + 3 ≤ 28 by decide)]
    exact Nat.mod_eq_of_lt (show (if nbit eff c then 1 else 5) < 8 by split <;> decide)
  refine foldl_reaches (P := fun t => t.get (Fd.MEM_CH_STAT_STATE c) = if nbit eff c then 1 else 5) (List.mem_range.mpr hc) hset
    (fun j _ a ha => ?_) s
  by_cases hj : c = j
  · exact hj ▸ hset a
  · exact (get_set_key a _ _ _ (chStat_key_ne hj)).trans ha

theorem reg_channelsBegin (s : State) (eff : Nat) {k : Nat} (hk : ∀ c : Fin 6, k ≠ Rg.MEM_CH_STAT c) :
    (s.channelsBegin eff).reg k = s.reg k :=
  keeps_foldl (P := fun t => t.reg k = s.reg k)
    (fun c hc a ha => (reg_set_key a _ _ k (hk ⟨c, List.mem_range.mp hc⟩)).trans ha) rfl

theorem chState_startTraining (s : State) {c : Nat} (hc : c < 6) :
    s.startTraining.get (Fd.MEM_CH_STAT_STATE c) = if nbit s.effChannels c then 1 else 5 := by
  obtain ⟨fetch, -, ht⟩ := startTraining_eq s
  rw [ht, get_memReadyBit_key _ (chStat_ne_memStat c), get_withFetch, chState_channelsBegin _ _ hc]

theorem cheff_startTraining (s : State) : s.startTraining.get Fd.MEM_STAT_CHEFF = s.effChannels := by
  obtain ⟨fetch, -, ht⟩ := startTraining_eq s
  have hreg := reg_channelsBegin s.memConfigured s.effChannels (k := Rg.MEM_STAT) fun c => (chStat_ne_memStat c).symm
  rw [ht, get_memReadyBit_apart _ (by decide), get_withFetch, get_of_reg (f := Fd.MEM_STAT_CHEFF) hreg]
  unfold State.memConfigured State.setB
  rw [get_loseGddr, get_set_apart _ _ _ _ (by decide) (by decide), get_set_apart _ _ _ _ (by decide) (by decide),
    get_set_same _ _ _ (by decide)]
  exact Nat.mod_eq_of_lt (effChannels_lt s)

/-- Nothing differs but memory, the controller's hidden state and registers for which `p` holds. -/
def MemOnly (p : Nat → Prop) (s t : State) : Prop := RegsOnly p s { t with mem := s.mem, fetch := s.fetch }

theorem MemOnly.set {p : Nat → Prop} {s t : State} (h : MemOnly p s t) {f : Fd} (x : Nat) (hf : p f.key) : MemOnly p s (t.set f x) :=
  regsOnly_trans h (regsOnly_set _ f x hf)

theorem MemOnly.withFetch {p : Nat → Prop} {s t : State} (h : MemOnly p s t) (x : FetchS) : MemOnly p s { t with fetch := x } := h

theorem MemOnly.loseGddr {p : Nat → Prop} {s t : State} (h : MemOnly p s t) : MemOnly p s t.loseGddr := h

theorem MemOnly.channelsBegin {p : Nat → Prop} {s t : State} (h : MemOnly p s t) (eff : Nat) (hp : ∀ c : Fin 6, p (Rg.MEM_CH_STAT c)) :
    MemOnly p s (t.channelsBegin eff) :=
  keeps_foldl (fun c hc _ ha => ha.set _ (hp ⟨c, List.mem_range.mp hc⟩)) h

/-- A training's start writes MEM_STAT and the channels' STATE. -/
theorem memOnly_startTraining {p : Nat → Prop} (s : State) (hstat : p Rg.MEM_STAT) (hp : ∀ c : Fin 6, p (Rg.MEM_CH_STAT c)) :
    MemOnly p s s.startTraining := by
  have hrefl : MemOnly p s s := regsOnly_refl p s
  have hconf : MemOnly p s s.memConfigured := (((hrefl.set _ hstat).set _ hstat).set _ hstat).loseGddr
  obtain ⟨fetch, -, ht⟩ := startTraining_eq s
  rw [ht]
  exact ((hconf.channelsBegin s.effChannels hp).withFetch fetch).set _ hstat

theorem fetch_afterWrite (s : State) (m k v : Nat) (e : Env) :
    (s.afterWrite m k v e).fetch = (s.writeReg (ownerOfMaster m) k v { beam := e.beam }).fetch := by
  rw [afterWrite_eq_withAccess]
  rfl

section
variable {m : Fin 32} {s : State} {v : BitVec 28} {e : Env}

theorem memTrain_writes (h : Taken s m Rg.MEM_CTL v.toNat) (hv : nbit v.toNat 27 = true) (hon : s.domOn 11 = true) :
    Writes (.memTrain m v e) s (fun t =>
      (∀ c : Fin 6, t.get (Fd.MEM_CH_STAT_STATE c) = (if nbit s.effChannels c then 1 else 5)) ∧
      t.fetch.training = chanList s.effChannels ∧
      t.get Fd.MEM_STAT_CHEFF = s.effChannels ∧
      AccessOnly (fun j => j = Rg.MEM_STAT ∨ ∃ c : Fin 6, j = Rg.MEM_CH_STAT c) s { t with mem := s.mem, fetch := s.fetch }) := by
  have hw : s.writeReg (ownerOfMaster m) Rg.MEM_CTL v.toNat { beam := e.beam } = s.startTraining :=
    (writeReg_memCtl s _ _ _).trans (if_pos (by rw [hv, hon]; rfl))
  refine writes_of rfl h (by decide) ⟨fun c => ?_, ?_, ?_, ?_⟩
  · have hk : 0x110000 ≤ Rg.MEM_CH_STAT c ∧ Rg.MEM_CH_STAT c < 0x130000 := by
      unfold Rg.MEM_CH_STAT
      omega
    rw [get_afterWrite s m _ _ e _ (not_watchKey_fetch hk), hw, chState_startTraining s c.isLt]
  · obtain ⟨fetch, htr, ht⟩ := startTraining_eq s
    rw [fetch_afterWrite, hw, ht]
    exact htr
  · rw [get_afterWrite s m _ _ e _ (not_watchKey_fetch (by decide)), hw, cheff_startTraining]
  · refine accessOnly_afterWrite (fun t => { t with mem := s.mem, fetch := s.fetch }) (fun _ _ _ _ => rfl) ?_
    rw [hw]
    exact memOnly_startTraining s (.inl rfl) fun c => .inr ⟨c, rfl⟩

end

/-! ## An ECC region is enabled (R289, R290) -/

/-- A region is enabled: its registers take the write, its memory is lost to zeros and BUSY holds. -/
def State.eccStarts (s : State) (n v : Nat) : State :=
  ((s.plainWrite (Rg.MEM_ECC n) v).loseMem (nbits v 23 13 * 2 ^ 25) ((nbits v 23 13 + nbits v 10 0) * 2 ^ 25)).set (Fd.MEM_ECC_BUSY n) 1

theorem writeEcc_enables {s : State} {n v : Nat} (hok : s.eccBad n v = false) (hv : nbit v 27 = true)
    (hen : s.flag (Fd.MEM_ECC_EN n) = false) : s.writeEcc n v = (s.eccStarts n v).writeCap := by
  unfold State.writeEcc
  rw [if_neg (by rw [hok]; exact Bool.false_ne_true), if_pos hv, hen]
  rfl

theorem writeCap_eq (s : State) : ∃ cap, s.writeCap = s.set Fd.LAST_SLOTCAP_CAP cap := ⟨_, rfl⟩

theorem get_writeCap (s : State) {f : Fd} (hf : f.key ≠ Rg.LAST_SLOTCAP) : s.writeCap.get f = s.get f :=
  get_set_key s Fd.LAST_SLOTCAP_CAP f _ hf

theorem ecc_ne_slotcap (n : Fin 8) : Rg.MEM_ECC n ≠ Rg.LAST_SLOTCAP := by
  unfold Rg.MEM_ECC Rg.LAST_SLOTCAP
  omega

theorem byte_eccStarts (s : State) (n v a : Nat) : (s.eccStarts n v).writeCap.byte a =
    if v / 2 ^ 13 % 2 ^ 11 * 2 ^ 25 ≤ a ∧ a < (v / 2 ^ 13 % 2 ^ 11 + v % 2 ^ 11) * 2 ^ 25 then 0 else s.byte a := by
  have hsize : nbits v 10 0 = v % 2 ^ 11 := nbits_zero v 10
  have hbase : nbits v 23 13 = v / 2 ^ 13 % 2 ^ 11 := rfl
  rw [← hsize, ← hbase]
  have hmem : (s.eccStarts n v).writeCap.mem = (s.loseMem (nbits v 23 13 * 2 ^ 25) ((nbits v 23 13 + nbits v 10 0) * 2 ^ 25)).mem := rfl
  rw [byte_of_mem hmem]
  split
  · next hin => exact byte_loseMem_in s _ _ a hin
  · next hout => exact byte_loseMem_out s _ _ a (by omega)

theorem flag_loseMem (s : State) (lo hi : Nat) (f : Fd) : (s.loseMem lo hi).flag f = s.flag f := rfl

theorem regsOnly_withMem_loseMem {p : Nat → Prop} {s t : State} (h : RegsOnly p s t) (lo hi : Nat) :
    RegsOnly p s { t.loseMem lo hi with mem := s.mem } :=
  ⟨congrArg (fun x : State => { x with mem := s.mem }) h.1, h.2⟩

theorem regsOnly_withMem_set {p : Nat → Prop} {s t : State} (h : RegsOnly p s { t with mem := s.mem }) {f : Fd} (x : Nat) (hf : p f.key) :
    RegsOnly p s { t.set f x with mem := s.mem } :=
  regsOnly_trans h (regsOnly_set _ f x hf)

theorem regsOnly_eccStarts (s : State) (n v : Nat) : RegsOnly (fun j => j = Rg.MEM_ECC n ∨ j = Rg.LAST_SLOTCAP) s
    { (s.eccStarts n v).writeCap with mem := s.mem } := by
  obtain ⟨cap, hcap⟩ := writeCap_eq (s.eccStarts n v)
  have hwrite : RegsOnly (fun j => j = Rg.MEM_ECC n ∨ j = Rg.LAST_SLOTCAP) s (s.plainWrite (Rg.MEM_ECC n) v) :=
    regsOnly_plainWrite s v (.inl rfl)
  rw [hcap]
  exact regsOnly_withMem_set (regsOnly_withMem_set (regsOnly_withMem_loseMem hwrite _ _) 1 (.inl rfl)) cap (.inr rfl)

theorem memEccWrite_writes {m : Fin 32} {s : State} {v : BitVec 28} {e : Env} (n : Fin 8) (h : Taken s m (Rg.MEM_ECC n) v.toNat)
    (hok : s.eccBad n v.toNat = false) (hv : nbit v.toNat 27 = true) (hen : s.flag (Fd.MEM_ECC_EN n) = false) :
    Writes (.memEccWrite n m v e) s (fun t =>
      t.flag (Fd.MEM_ECC_EN n) = true ∧ t.flag (Fd.MEM_ECC_BUSY n) = true ∧
      (∀ a, t.byte a = (if v.toNat / 2 ^ 13 % 2 ^ 11 * 2 ^ 25 ≤ a ∧ a < (v.toNat / 2 ^ 13 % 2 ^ 11 + v.toNat % 2 ^ 11) * 2 ^
        25 then 0 else s.byte a)) ∧
      AccessOnly (fun j => j = Rg.MEM_ECC n ∨ j = Rg.LAST_SLOTCAP) s { t with mem := s.mem }) := by
  have hw : s.writeReg (ownerOfMaster m) (Rg.MEM_ECC n) v.toNat { beam := e.beam } = (s.eccStarts n v.toNat).writeCap :=
    (writeReg_ecc s _ _ _ n).trans (writeEcc_enables hok hv hen)
  have hflag {f : Fd} (hf : f.key = Rg.MEM_ECC n) :
      (s.afterWrite m (Rg.MEM_ECC n) v.toNat e).flag f = (s.eccStarts n v.toNat).flag f := by
    refine flag_of_get ?_
    rw [get_afterWrite s m _ _ e f (hf ▸ not_watchKey_fetch (ecc_bounds n)), hw, get_writeCap _ (hf ▸ ecc_ne_slotcap n)]
  refine writes_of rfl h (ne_fusecmd_fetch (ecc_bounds n)) ⟨?_, ?_, fun a => ?_, ?_⟩
  · rw [hflag rfl]
    unfold State.eccStarts
    rw [flag_set_apart _ _ (Fd.MEM_ECC_EN n) _ (show 26 + 1 ≤ 28 by decide) (.inr (show 26 + 1 ≤ 27 by decide)), flag_loseMem,
      eccEn_plainWrite, hv]
  · rw [hflag rfl]
    exact flag_set_same _ 1 rfl (show 26 + 1 ≤ 28 by decide)
  · rw [← byte_eccStarts s n, ← hw]
    exact byte_of_mem (mem_afterWrite s m _ _ e) a
  · refine accessOnly_afterWrite (fun t => { t with mem := s.mem }) (fun _ _ _ _ => rfl) ?_
    rw [hw]
    exact regsOnly_eccStarts s n v.toNat

/-- Settles O2, one lemma for each of its writes. -/
theorem memoryWritesComplete : Obligations.MemoryWritesComplete := by
  intro m s v e
  exact ⟨fetchPoolWrite_writes, poolPeakClear_writes, soleTackPeakClear_writes, fetchLatencyMaxClear_writes,
    lineGranulePeakClear_writes, memTrain_writes, memEccWrite_writes⟩

end Sys2Proof.Machine
end

section
/-! What a fault report leaves alone of the memory controller (R282, R690–R692): the registers from the fetch engine's to the
heads', and the training in progress. The fences write registers below those, in the lanes' block, and above them. -/
namespace Sys2Proof.Machine

/-- Below FETCH's registers, or above the heads'. -/
def besideKey (k : Nat) : Bool := decide (k < 0x110000) || decide (0x190000 ≤ k)

/-- `t` has the registers of FETCH, MEM, the Soles and the heads of `s`, and its training in progress. -/
def ControllerAs (s t : State) : Prop := t.fetch.training = s.fetch.training ∧ ∀ k, besideKey k = false → t.reg k = s.reg k

theorem controllerAs_refl (s : State) : ControllerAs s s := ⟨rfl, fun _ _ => rfl⟩

theorem ControllerAs.get {s t : State} (h : ControllerAs s t) {f : Fd} (hf : besideKey f.key = false) : t.get f = s.get f :=
  get_of_reg (h.2 _ hf)

theorem ControllerAs.flag {s t : State} (h : ControllerAs s t) {f : Fd} (hf : besideKey f.key = false) : t.flag f = s.flag f :=
  flag_of_get (h.get hf)

namespace ControllerAs

variable {s t : State}

theorem rest {u : State} (h : ControllerAs s t) (hr : u.regs = t.regs) (hf : u.fetch.training = t.fetch.training) : ControllerAs s u :=
  ⟨hf.trans h.1, fun k hk => (reg_of_regs hr k).trans (h.2 k hk)⟩

theorem withIcu (x : Icu) (h : ControllerAs s t) : ControllerAs s { t with icu := x } := h.rest rfl rfl

theorem withPict (x : PictS) (h : ControllerAs s t) : ControllerAs s { t with pict := x } := h.rest rfl rfl

theorem put {f : Fd} (x : Nat) (h : ControllerAs s t) (hf : besideKey f.key = true) : ControllerAs s (t.set f x) :=
  ⟨h.1, fun k hk => (reg_set_key t f x k fun e => by rw [e, hf] at hk; cases hk).trans (h.2 k hk)⟩

/-- An entry of an array of registers above the heads'. -/
theorem above {f : Fd} {k : Nat} (x : Nat) (h : ControllerAs s t) (hf : f.key = k) (hk : 0x190000 ≤ k) : ControllerAs s (t.set f x) :=
  h.put x (by rw [hf]; exact Bool.or_eq_true_iff.mpr (.inr (decide_eq_true hk)))

/-- An entry of an array of the lanes' registers. -/
theorem below {f : Fd} {k : Nat} (x : Nat) (h : ControllerAs s t) (hf : f.key = k) (hk : k < 0x110000) : ControllerAs s (t.set f x) :=
  h.put x (by rw [hf]; exact Bool.or_eq_true_iff.mpr (.inl (decide_eq_true hk)))

theorem raise (n : Nat) (h : ControllerAs s t) : ControllerAs s (t.raise n) := SteadyClosed.ite h (h.rest rfl rfl)

theorem setPortState {p : Nat} (hp : p < 32) (st : Nat) (h : ControllerAs s t) : ControllerAs s (t.setPortState p st) :=
  SteadyClosed.ite h ((h.below (k := 0x70004 + p * 8) st rfl (by omega)).raise _)

theorem laneStat {f : Fd} {n : Nat} (hn : n < 128) (x : Nat) (h : ControllerAs s t) (hf : f.key = Rg.EYE_L_STAT n) :
    ControllerAs s (t.set f x) :=
  h.below x hf (show 0x70104 + n * 0x10 < 0x110000 by omega)

theorem laneScan {f : Fd} {n : Nat} (hn : n < 128) (x : Nat) (h : ControllerAs s t) (hf : f.key = Rg.EYE_L_SCAN n) :
    ControllerAs s (t.set f x) :=
  h.below x hf (show 0x7010C + n * 0x10 < 0x110000 by omega)

theorem lockLost {n : Nat} (hn : n < 128) (h : ControllerAs s t) : ControllerAs s (t.lockLost n) :=
  have h1 := h.laneStat (f := Fd.EYE_L_STAT_LOCK n) hn 0 rfl
  SteadyClosed.ite ((h1.laneScan (f := Fd.EYE_L_SCAN_BUSY n) hn 0 rfl).laneScan hn _ rfl) h1

theorem setTaps {n : Nat} (hn : n < 128) (x : Nat × Nat × Nat) (h : ControllerAs s t) : ControllerAs s (t.setTaps n x) :=
  ((h.laneStat hn _ rfl).laneStat hn _ rfl).laneStat hn _ rfl

theorem lanesIdle {p : Nat} (hp : p < 32) (h : ControllerAs s t) : ControllerAs s (t.lanesIdle p) := by
  unfold State.lanesIdle
  refine keeps_foldl (fun n hn a ha => ?_) h
  have hlane := lane_lt hp hn
  exact (((ha.lockLost hlane).laneStat hlane 0 rfl).laneStat hlane 0 rfl).setTaps hlane _

theorem dpForget (p : Nat) (h : ControllerAs s t) : ControllerAs s (t.dpForget p) := by
  have hkey : ∀ f ∈ [Fd.DP_WP_STAT_TRAINED p, Fd.DP_WP_STAT_RATE p, Fd.DP_WP_STAT_LANES p, Fd.DP_WP_STAT_NOFIT p,
      Fd.DP_WP_STAT_ILRUSE p, Fd.DP_WP_STAT_ILRIDX p], f.key = 0x380020 + p * 4 := by
    simp [Fd.DP_WP_STAT_TRAINED, Fd.DP_WP_STAT_RATE, Fd.DP_WP_STAT_LANES, Fd.DP_WP_STAT_NOFIT, Fd.DP_WP_STAT_ILRUSE,
      Fd.DP_WP_STAT_ILRIDX, Rg.DP_WP_STAT]
  exact keeps_foldl (fun f hf _ ha => ha.above 0 (hkey f hf) (by omega)) h

theorem pcieGone (h : ControllerAs s t) : ControllerAs s t.pcieGone :=
  SteadyClosed.ite (((((h.put 0 rfl).put 0 rfl).put 0 rfl).put 1 rfl).lanesIdle (by decide)) h

theorem coreFaulted (n : Nat) (h : ControllerAs s t) : ControllerAs s (t.coreFaulted n) := by
  have hstat {u : State} {f : Fd} (x : Nat) (hu : ControllerAs s u) (hf : f.key = Rg.AWL_STAT n) : ControllerAs s (u.set f x) :=
    hu.above (k := 0x400004 + n * 0x40) x hf (by omega)
  have hlock := (h.put (f := Fd.AWL_LOCK_HELD) 0 rfl).put (f := Fd.AWL_LOCK_CORE) 0 rfl
  have hbroken := hstat (f := Fd.AWL_STAT_LOCKBRK n) 1 (hstat (f := Fd.AWL_STAT_LOCKED n) 0 hlock rfl) rfl
  exact (hstat (f := Fd.AWL_STAT_STATE n) 4 (SteadyClosed.ite hbroken h) rfl).withIcu _

theorem laceStops (ch st : Nat) (h : ControllerAs s t) : ControllerAs s (t.laceStops ch st) := by
  have hstat {u : State} {f : Fd} (x : Nat) (hu : ControllerAs s u) (hf : f.key = Rg.LACE_CH_STAT ch) : ControllerAs s (u.set f x) :=
    hu.above (k := 0x480008 + ch * 0x10) x hf (by omega)
  have h1 := hstat (f := Fd.LACE_CH_STAT_ERREV ch) 1 (hstat (f := Fd.LACE_CH_STAT_STATE ch) st h rfl) rfl
  exact SteadyClosed.ite (h1.raise _) h1

theorem skiverStops (st : Nat) (h : ControllerAs s t) : ControllerAs s (t.skiverStops st) :=
  have h1 := (h.put (f := Fd.SKIVER_STAT_STATE) st rfl).put (f := Fd.SKIVER_STAT_ERREV) 1 rfl
  SteadyClosed.ite (h1.raise _) h1

theorem onFence {u : Nat} (hu : u % 1024 < 32) (h : ControllerAs s t) : ControllerAs s (t.onFence u) := by
  have habandon : ControllerAs s (t.dpAbandon (u % 1024)) := h.rest rfl rfl
  have hport := ((habandon.lanesIdle hu).dpForget (u % 1024)).setPortState hu 3
  unfold State.onFence
  split
  · exact h.rest rfl rfl
  · exact SteadyClosed.ite h (SteadyClosed.ite hport.pcieGone hport)
  · exact SteadyClosed.ite (h.coreFaulted _) h
  · exact SteadyClosed.ite (h.laceStops _ _) h
  · exact SteadyClosed.ite (h.skiverStops _) h
  · exact h.rest rfl rfl
  · exact h.rest rfl rfl
  · exact h.put 0 rfl
  · exact (h.put (f := Fd.LAST_SLOTCAP_CAP) 0 rfl).rest rfl rfl
  · exact h

theorem portEnters {p : Nat} (hp : p < 32) (h : ControllerAs s t) : ControllerAs s (t.portEnters p) := by
  have hrate : ControllerAs s (t.set (Fd.EYE_WP_STAT_RATE p) (t.get (Fd.EYE_WP_CFG_RATE p))) :=
    h.below (k := 0x70004 + p * 8) _ rfl (by omega)
  have htrain : ControllerAs s { t with lanes := { t.lanes with dpTrain := setAdd t.lanes.dpTrain p } } := h.rest rfl rfl
  have hidle := h.setPortState hp 0
  unfold State.portEnters
  split
  · exact h.setPortState hp 1
  · exact h.setPortState hp 1
  · exact keeps_foldl (fun n hn _ ha => ha.laneStat (lane_lt hp hn) 1 rfl) (hrate.setPortState hp 5)
  · exact SteadyClosed.ite (htrain.setPortState hp 1) hidle
  · exact SteadyClosed.ite (htrain.setPortState hp 1) hidle
  · exact hidle

theorem onLift {u : Nat} (hu : u % 1024 < 32) (h : ControllerAs s t) : ControllerAs s (t.onLift u) := by
  have hready : ControllerAs s (t.set (Fd.EYE_WP_STAT_READY (u % 1024)) 0) :=
    h.below (k := 0x70004 + u % 1024 * 8) 0 rfl (by omega)
  have hprx : ControllerAs s (t.set (Fd.WELT_PRX_STAT_STATE (u % 1024)) 3) :=
    h.above (k := 0x30008C + u % 1024 * 0x10) 3 rfl (by omega)
  unfold State.onLift
  split
  · exact SteadyClosed.ite h (SteadyClosed.ite (h.setPortState hu 0) (SteadyClosed.ite (hready.setPortState hu 2) (h.portEnters hu)))
  · exact SteadyClosed.ite (h.laceStops _ _) h
  · exact SteadyClosed.ite (h.skiverStops _) h
  · exact h.above (k := 0x590088 + u % 1024 * 0x10) 0 rfl (by omega)
  · exact SteadyClosed.ite (hprx.withPict _) h
  · exact h

theorem withReacting (r : List (Nat × Nat)) (h : ControllerAs s t) : ControllerAs s (t.withReacting r) := by
  unfold State.withReacting
  refine keeps_foldl (fun u hu a ha => ?_) (h.rest rfl rfl)
  obtain ⟨hsmall, -⟩ := smallUnit_fenceUnits u hu
  exact SteadyClosed.ite (ha.onFence hsmall) (SteadyClosed.ite (ha.onLift hsmall) ha)

theorem logRecord (r : FaultRec) (h : ControllerAs s t) : ControllerAs s (t.logRecord r) := by
  have hlost : besideKey (lostField r.cls).key = true := by
    unfold lostField
    split <;> rfl
  have hhub (x : Hub) : ControllerAs s { t with hub := x } := h.rest rfl rfl
  unfold State.logRecord
  dsimp only
  split
  · exact hhub _
  · exact SteadyClosed.ite ((hhub _).put _ hlost) (hhub _)

theorem react (r : FaultRec) (h : ControllerAs s t) : ControllerAs s (t.react r) :=
  SteadyClosed.ite h (SteadyClosed.ite (SteadyClosed.ite h (h.withReacting _)) (SteadyClosed.ite (h.rest rfl rfl) h))

theorem report (u code base detail : Nat) (h : ControllerAs s t) : ControllerAs s (t.report u code base detail) :=
  (h.logRecord _).react _

end ControllerAs

end Sys2Proof.Machine
end

section
/-! Pool grants, the end of a training, temperatures, short retrainings and ECC initialisation (R270, R282, R283, R285, R290). -/
namespace Sys2Proof.Machine

/-! ## A pool tack (R270) -/

theorem poolServed_eq (s : State) (k : Nat) : s.poolServed k = { s with fetch := (s.poolServed k).fetch } := by
  unfold State.poolServed
  split <;> rfl

/-- A class that was served waits no longer. -/
theorem waiting_poolServed (s : State) (k : Nat) : (s.poolServed k).fetch.waiting = s.fetch.waiting.filter (fun j => j != k) := by
  unfold State.poolServed
  split
  · rfl
  · next hout =>
    refine (List.filter_eq_self.mpr fun j hj => bne_iff_ne.mpr fun e => hout ?_).symm
    rw [← e, List.contains_iff_mem]
    exact hj

theorem granted_poolServed (s : State) (k : Nat) : (s.poolServed k).fetch.granted = s.fetch.granted := by
  unfold State.poolServed
  split <;> rfl

theorem fetch_poolTake (s : State) (k : Nat) : (s.poolTake k).fetch = s.fetch := by
  unfold State.poolTake State.raiseTo
  dsimp only
  split <;> rfl

theorem held_poolTake (s : State) (k : Nat) :
    (s.poolTake k).get (Fd.FETCH_POOL_STAT_HELD k) = (s.poolHeld k + 1) % 2 ^ (Fd.FETCH_POOL_STAT_HELD k).w := by
  have hheld := get_set_same s (Fd.FETCH_POOL_STAT_HELD k) (s.poolHeld k + 1) (show 0 + 11 ≤ 28 by decide)
  unfold State.poolTake State.raiseTo
  dsimp only
  split
  · exact (get_set_apart _ (Fd.FETCH_POOL_STAT_PEAK k) _ _ (show 11 + 11 ≤ 28 by decide) (.inl (show 0 + 11 ≤ 11 by decide))).trans hheld
  · exact hheld

theorem regsOnly_poolTake (s : State) (k : Nat) : RegsOnly (fun j => j = Rg.FETCH_POOL_STAT k) s (s.poolTake k) :=
  have h1 := regsOnly_set (p := fun j => j = Rg.FETCH_POOL_STAT k) s (Fd.FETCH_POOL_STAT_HELD k) (s.poolHeld k + 1) rfl
  regsOnly_ite (regsOnly_trans h1 (regsOnly_set _ (Fd.FETCH_POOL_STAT_PEAK k) _ rfl)) h1

theorem regsOnly_withFetch {p : Nat → Prop} {s t : State} {x : FetchS} (h : RegsOnly p { s with fetch := x } t) :
    RegsOnly p s { t with fetch := s.fetch } :=
  ⟨congrArg (fun u : State => { u with fetch := s.fetch }) h.1, h.2⟩

/-- A class takes a tack in its turn, for its next read. -/
def State.tackGranted (s : State) (k : Nat) : State :=
  let s1 := (s.poolServed k).poolTake k
  { s1 with fetch := { s1.fetch with granted := tabMod 0 s1.fetch.granted k (fun n => n + 1) } }

theorem granted_tackGranted (s : State) (k : Nat) :
    tabGet 0 (s.tackGranted k).fetch.granted k = tabGet 0 s.fetch.granted k + 1 := by
  unfold State.tackGranted tabMod
  dsimp only
  rw [tabGet_put_same, fetch_poolTake, granted_poolServed]

theorem poolGrant_granted {s : State} {k : Nat} (he : s.inEpisode = false) (hon : s.domOn 6 = true)
    (hnext : s.poolNext s.fetch.waiting = some k) : s.poolGrant k = s.tackGranted k := by
  unfold State.poolGrant
  exact if_neg (by simp [he, hon, hnext])

theorem poolTackGrant_answers {s : State} {k : Fin 8} (he : s.inEpisode = false) (hon : s.domOn 6 = true)
    (hnext : s.poolNext s.fetch.waiting = some k.val) :
    Answers (.poolTackGrant k) s (fun t =>
      t.get (Fd.FETCH_POOL_STAT_HELD k) = (s.poolHeld k + 1) % 2 ^ (Fd.FETCH_POOL_STAT_HELD k).w ∧
      tabGet 0 t.fetch.granted k = tabGet 0 s.fetch.granted k + 1 ∧
      t.fetch.waiting = s.fetch.waiting.filter (fun j => j != k.val) ∧
      RegsOnly (fun j => j = Rg.FETCH_POOL_STAT k) s { t with fetch := s.fetch }) := by
  have hheld : (s.poolServed k).poolHeld k = s.poolHeld k := by
    rw [poolServed_eq]
    rfl
  have hregs : RegsOnly (fun j => j = Rg.FETCH_POOL_STAT k) { s with fetch := (s.poolServed k).fetch } ((s.poolServed k).poolTake k) := by
    rw [← poolServed_eq]
    exact regsOnly_poolTake _ k
  refine answers_quiet (t := s.tackGranted k) (congrArg (quiet s) (poolGrant_granted he hon hnext)) he ⟨?_, ?_, ?_, ?_⟩
  · rw [← hheld]
    exact held_poolTake _ _
  · exact granted_tackGranted s k
  · rw [← waiting_poolServed, ← fetch_poolTake (s.poolServed k) k]
    rfl
  · exact regsOnly_withFetch (t := (s.poolServed k).poolTake k) hregs

/-! ## The end of a training (R282, R283) -/

/-- Channel `c` of the training that ends in `s`, with its results. -/
def State.channelTrained (s : State) (rate fail : Nat) (eyes : List (Nat × Nat)) (a : State) (c : Nat) : State :=
  let r := s.trainRate rate fail c
  let b := (a.set (Fd.MEM_CH_STAT_STATE c) (if (s.trainBad fail).contains c then 4 else
    if s.get Fd.PWR_STATE_STATE = 2 then 3 else 2)).set (Fd.MEM_CH_STAT_RATE c) r
  let e := (eyes[c]?).getD (0, 0)
  ((b.set (Fd.MEM_CH_TRAIN_RDEYE c) e.1).set (Fd.MEM_CH_TRAIN_WREYE c) e.2).set (Fd.MEM_CH_TRAIN_TRIES c)
    (if s.fetch.full then s.fetch.rate + 1 - r else 1)

def State.channelsTrained (s : State) (rate fail : Nat) (eyes : List (Nat × Nat)) : State :=
  s.fetch.training.foldl (s.channelTrained rate fail eyes) s

/-- A training in which channels failed sets TRAINFAIL (R283). -/
def State.failNoted (s : State) (bad : List Nat) : State := if bad.isEmpty then s else s.set Fd.MEM_STAT_TRAINFAIL 1

/-- A training in which channels failed is reported, under the map that `s` has (R283). -/
def State.failReported (s t : State) (bad : List Nat) : State :=
  if bad.isEmpty then t
  else if s.flag Fd.MEM_STAT_MAPLIN then bad.foldl (fun a c => a.report (uMemCh c) 0x20 2 c) t
  else t.report uMem 0x20 3 (bad.headD 0)

theorem endTraining_eq (s : State) (rate fail : Nat) (eyes : List (Nat × Nat)) : ∃ fetch : FetchS, fetch.training = [] ∧
    s.endTraining rate fail eyes = (s.failReported (({ s.channelsTrained rate fail eyes with fetch := fetch } : State).memReadyBit.failNoted
      (s.trainBad fail)) (s.trainBad fail)).writeCap := ⟨_, rfl, rfl⟩

theorem controllerAs_failReported (s t : State) (bad : List Nat) : ControllerAs t (s.failReported t bad) := by
  have hrefl := controllerAs_refl t
  exact SteadyClosed.ite hrefl (SteadyClosed.ite (keeps_foldl (fun c _ _ ha => ha.report (uMemCh c) 0x20 2 c) hrefl)
    (hrefl.report uMem 0x20 3 _))

theorem mem_failReported (s t : State) (bad : List Nat) : (s.failReported t bad).mem = t.mem := by
  unfold State.failReported
  split
  · rfl
  · split
    · exact keeps_foldl (P := fun u => u.mem = t.mem) (fun c _ a ha => (mem_report a (uMemCh c) 0x20 2 c).trans ha) rfl
    · exact mem_report t uMem 0x20 3 _

theorem get_failNoted (s : State) (bad : List Nat) {f : Fd} (hf : f.key ≠ Rg.MEM_STAT) : (s.failNoted bad).get f = s.get f := by
  unfold State.failNoted
  split
  · rfl
  · exact get_set_key s Fd.MEM_STAT_TRAINFAIL f 1 hf

theorem regsOnly_failNoted (s : State) (bad : List Nat) : RegsOnly (fun k => k = Rg.MEM_STAT) s (s.failNoted bad) :=
  regsOnly_ite (regsOnly_refl _ s) (regsOnly_set s Fd.MEM_STAT_TRAINFAIL 1 rfl)

theorem regsOnly_memReadyBit (s : State) : RegsOnly (fun k => k = Rg.MEM_STAT) s s.memReadyBit :=
  regsOnly_set s Fd.MEM_STAT_READY _ rfl

theorem regsOnly_writeCap (s : State) : RegsOnly (fun k => k = Rg.LAST_SLOTCAP) s s.writeCap := by
  obtain ⟨cap, hcap⟩ := writeCap_eq s
  rw [hcap]
  exact regsOnly_set s Fd.LAST_SLOTCAP_CAP cap rfl

theorem fetch_of_regsOnly {p : Nat → Prop} {s t : State} (h : RegsOnly p s t) : t.fetch = s.fetch := (congrArg State.fetch h.1 :)

theorem besideKey_mem {k : Nat} (hk : 0x110000 ≤ k ∧ k < 0x130000) : besideKey k = false := by
  unfold besideKey
  rw [Bool.or_eq_false_iff, decide_eq_false_iff_not, decide_eq_false_iff_not]
  omega

section
variable (s : State) (rate fail : Nat) (eyes : List (Nat × Nat))

theorem training_endTraining : (s.endTraining rate fail eyes).fetch.training = [] := by
  obtain ⟨fetch, htr, ht⟩ := endTraining_eq s rate fail eyes
  rw [ht, fetch_of_regsOnly (regsOnly_writeCap _), (controllerAs_failReported s _ _).1, fetch_of_regsOnly (regsOnly_failNoted _ _),
    fetch_of_regsOnly (regsOnly_memReadyBit _)]
  exact htr

/-- The reports of a training's end leave the channels' results alone. -/
theorem get_endTraining {c : Nat} (hc : c < 6) {f : Fd} (hf : f.key = Rg.MEM_CH_STAT c) :
    (s.endTraining rate fail eyes).get f = (s.channelsTrained rate fail eyes).get f := by
  obtain ⟨fetch, -, ht⟩ := endTraining_eq s rate fail eyes
  have hbounds : 0x110000 ≤ f.key ∧ f.key < 0x130000 := by
    rw [hf]
    unfold Rg.MEM_CH_STAT
    omega
  have hstat : f.key ≠ Rg.MEM_STAT := hf ▸ chStat_ne_memStat c
  have hcap : f.key ≠ Rg.LAST_SLOTCAP := by
    unfold Rg.LAST_SLOTCAP
    omega
  rw [ht, get_writeCap _ hcap, (controllerAs_failReported s _ _).get (besideKey_mem hbounds), get_failNoted _ _ hstat,
    get_memReadyBit_key _ hstat, get_withFetch]

theorem trainfail_endTraining (hbad : (s.trainBad fail).isEmpty = false) :
    (s.endTraining rate fail eyes).flag Fd.MEM_STAT_TRAINFAIL = true := by
  obtain ⟨fetch, -, ht⟩ := endTraining_eq s rate fail eyes
  rw [ht, flag_of_get (get_writeCap _ (by decide)), (controllerAs_failReported s _ _).flag (by decide)]
  unfold State.failNoted
  rw [if_neg (by rw [hbad]; exact Bool.false_ne_true)]
  exact flag_set_same _ 1 rfl (by decide)

theorem mem_set (s : State) (f : Fd) (x : Nat) : (s.set f x).mem = s.mem := rfl

theorem mem_channelTrained (a : State) (c : Nat) : (s.channelTrained rate fail eyes a c).mem = a.mem := by
  unfold State.channelTrained
  rw [mem_set, mem_set, mem_set, mem_set, mem_set]

theorem mem_channelsTrained : (s.channelsTrained rate fail eyes).mem = s.mem :=
  keeps_foldl (P := fun u => u.mem = s.mem) (fun c _ a ha => (mem_channelTrained s rate fail eyes a c).trans ha) rfl

theorem mem_endTraining : (s.endTraining rate fail eyes).mem = s.mem := by
  obtain ⟨fetch, -, ht⟩ := endTraining_eq s rate fail eyes
  rw [ht, mem_of_regsOnly (regsOnly_writeCap _), mem_failReported, mem_of_regsOnly (regsOnly_failNoted _ _),
    mem_of_regsOnly (regsOnly_memReadyBit _)]
  exact mem_channelsTrained s rate fail eyes

variable {c : Nat}

theorem chStat_ne_chTrain (hc : c < 6) (j : Nat) : Rg.MEM_CH_STAT c ≠ Rg.MEM_CH_TRAIN j := by
  unfold Rg.MEM_CH_STAT Rg.MEM_CH_TRAIN
  omega

/-- Another channel's results stand in other registers. -/
theorem get_channelTrained_other (a : State) (hc : c < 6) {j : Nat} (hj : c ≠ j) {f : Fd} (hf : f.key = Rg.MEM_CH_STAT c) :
    (s.channelTrained rate fail eyes a j).get f = a.get f := by
  have htrain : f.key ≠ Rg.MEM_CH_TRAIN j := hf ▸ chStat_ne_chTrain hc j
  have hstat : f.key ≠ Rg.MEM_CH_STAT j := hf ▸ chStat_key_ne hj
  unfold State.channelTrained
  rw [get_set_key _ _ _ _ htrain, get_set_key _ _ _ _ htrain, get_set_key _ _ _ _ htrain, get_set_key _ _ _ _ hstat,
    get_set_key _ _ _ _ hstat]

theorem state_channelTrained (a : State) (hc : c < 6) : (s.channelTrained rate fail eyes a c).get (Fd.MEM_CH_STAT_STATE c) =
    if (s.trainBad fail).contains c then 4 else if s.get Fd.PWR_STATE_STATE = 2 then 3 else 2 := by
  have htrain := chStat_ne_chTrain hc c
  have hlt : (if (s.trainBad fail).contains c then 4 else if s.get Fd.PWR_STATE_STATE = 2 then 3 else 2) < 2 ^ 3 := by
    split
    · decide
    · split <;> decide
  unfold State.channelTrained
  rw [get_set_key _ _ _ _ htrain, get_set_key _ _ _ _ htrain, get_set_key _ _ _ _ htrain,
    get_set_apart _ (Fd.MEM_CH_STAT_RATE c) (Fd.MEM_CH_STAT_STATE c) _ (show 23 + 2 ≤ 28 by decide) (.inr (show 23 + 2 ≤ 25 by decide)),
    get_set_same _ _ _ (show 25 + 3 ≤ 28 by decide)]
  exact Nat.mod_eq_of_lt hlt

theorem rate_channelTrained (a : State) (hc : c < 6) :
    (s.channelTrained rate fail eyes a c).get (Fd.MEM_CH_STAT_RATE c) = s.trainRate rate fail c % 4 := by
  have htrain := chStat_ne_chTrain hc c
  unfold State.channelTrained
  rw [get_set_key _ _ _ _ htrain, get_set_key _ _ _ _ htrain, get_set_key _ _ _ _ htrain,
    get_set_same _ _ _ (show 23 + 2 ≤ 28 by decide)]
  rfl

/-- A field of a trained channel's MEM_CHcSTAT holds what the channel's own step wrote. -/
theorem get_channelsTrained {f : Fd} {x : Nat} (hc : c < 6) (hmem : c ∈ s.fetch.training) (hf : f.key = Rg.MEM_CH_STAT c)
    (hx : ∀ a, (s.channelTrained rate fail eyes a c).get f = x) : (s.channelsTrained rate fail eyes).get f = x := by
  refine foldl_reaches (P := fun t => t.get f = x) hmem hx (fun j _ a ha => ?_) s
  by_cases hj : c = j
  · exact hj ▸ hx a
  · exact (get_channelTrained_other s rate fail eyes a hc hj hf).trans ha

end

theorem memTrainingDone_answers {s : State} {rate : Fin 4} {fail : BitVec 6} {eyes : List (Byte × Byte)} {c : Fin 6}
    (he : s.inEpisode = false) (hon : s.domOn 11 = true) (hnap : s.get Fd.PWR_STATE_STATE ≠ 2) (hmem : c.val ∈ s.fetch.training)
    (hheld : s.fetch.training.any (fun x => s.unitInReset (uMemCh x)) = false) :
    Answers (.memTrainingDone rate fail eyes) s (fun t =>
      t.fetch.training = [] ∧
      t.chState c = (if c.val ∈ s.trainBad fail.toNat then 4 else 2) ∧
      t.get (Fd.MEM_CH_STAT_RATE c) = s.trainRate rate fail.toNat c % 4 ∧
      (nbit fail.toNat c = true → t.flag Fd.MEM_STAT_TRAINFAIL = true) ∧
      t.mem = s.mem) := by
  have hsome : s.fetch.training.isEmpty = false := List.isEmpty_eq_false_iff_exists_mem.mpr ⟨_, hmem⟩
  have hend (eyes : List (Nat × Nat)) : s.trainingDone rate fail.toNat eyes = s.endTraining rate fail.toNat eyes := by
    unfold State.trainingDone
    exact if_neg (by simp [he, hon, hsome, hheld])
  refine answers_event (congrArg (event s) (hend _)) he ⟨?_, ?_, ?_, fun hfail => ?_, ?_⟩
  · exact training_endTraining s _ _ _
  · refine (get_endTraining s _ _ _ c.isLt rfl).trans ?_
    rw [get_channelsTrained s _ _ _ c.isLt hmem rfl fun a => state_channelTrained s _ _ _ a c.isLt, if_neg hnap]
    simp only [List.contains_iff_mem]
  · refine (get_endTraining s _ _ _ c.isLt rfl).trans ?_
    exact get_channelsTrained s _ _ _ c.isLt hmem rfl fun a => rate_channelTrained s _ _ _ a c.isLt
  · have hbad : c.val ∈ s.trainBad fail.toNat := List.mem_filter.mpr ⟨hmem, by rw [hfail]; rfl⟩
    exact trainfail_endTraining s _ _ _ (List.isEmpty_eq_false_iff_exists_mem.mpr ⟨_, hbad⟩)
  · exact mem_endTraining s _ _ _

/-! ## Temperatures, short retrainings and ECC initialisation (R285, R290) -/

/-- A temperature read writes the HOT of each channel of `l`. -/
def State.hotRead (s : State) (hot : Nat) (l : List Nat) : State := l.foldl (fun a j => a.setB (Fd.MEM_CH_STAT_HOT j) (nbit hot j)) s

theorem hot_setB (a : State) (b : Bool) (c : Nat) : (a.setB (Fd.MEM_CH_STAT_HOT c) b).flag (Fd.MEM_CH_STAT_HOT c) = b :=
  flag_setB_same a _ b rfl (show 22 + 1 ≤ 28 by decide)

theorem hot_setB_other (a : State) (b : Bool) {c j : Nat} (hj : c ≠ j) :
    (a.setB (Fd.MEM_CH_STAT_HOT j) b).flag (Fd.MEM_CH_STAT_HOT c) = a.flag (Fd.MEM_CH_STAT_HOT c) :=
  flag_set_key a (Fd.MEM_CH_STAT_HOT j) (Fd.MEM_CH_STAT_HOT c) (b2n b) (chStat_key_ne hj)

theorem flag_hotRead (s : State) (hot : Nat) {l : List Nat} {c : Nat} (hc : c ∈ l) :
    (s.hotRead hot l).flag (Fd.MEM_CH_STAT_HOT c) = nbit hot c := by
  unfold State.hotRead
  have hself (a : State) : (a.setB (Fd.MEM_CH_STAT_HOT c) (nbit hot c)).flag (Fd.MEM_CH_STAT_HOT c) = nbit hot c := hot_setB a _ c
  refine foldl_reaches (P := fun t => t.flag (Fd.MEM_CH_STAT_HOT c) = nbit hot c) hc ?_ ?_ s
  · exact hself
  · intro j _ a ha
    by_cases hj : c = j
    · subst hj
      exact hself a
    · exact (hot_setB_other a (nbit hot j) hj).trans ha

theorem regsOnly_hotRead (s : State) (hot : Nat) {l : List Nat} {p : Nat → Prop} (hp : ∀ j ∈ l, p (Rg.MEM_CH_STAT j)) :
    RegsOnly p s (s.hotRead hot l) :=
  regsOnly_foldl fun a j hj => regsOnly_set a (Fd.MEM_CH_STAT_HOT j) (b2n (nbit hot j)) (hp j hj)

theorem memTemp_eq {s : State} (hot : Nat) (he : s.inEpisode = false) (hon : s.domOn 11 = true) :
    s.memTemp hot = s.hotRead hot (chanList (s.get Fd.MEM_STAT_CHEFF)) := by
  unfold State.memTemp
  exact if_neg (by simp [he, hon])

theorem memDeviceTempRead_answers {s : State} {hot : BitVec 6} {c : Fin 6} (he : s.inEpisode = false) (hon : s.domOn 11 = true)
    (heff : nbit (s.get Fd.MEM_STAT_CHEFF) c = true) :
    Answers (.memDeviceTempRead hot) s (fun t =>
      t.flag (Fd.MEM_CH_STAT_HOT c) = nbit hot.toNat c ∧
      RegsOnly (fun j => j ∈ (List.range 6).map Rg.MEM_CH_STAT) s t) := by
  have hchan : c.val ∈ chanList (s.get Fd.MEM_STAT_CHEFF) := List.mem_filter.mpr ⟨List.mem_range.mpr c.isLt, heff⟩
  exact answers_quiet (congrArg (quiet s) (memTemp_eq _ he hon)) he ⟨flag_hotRead s _ hchan,
    regsOnly_hotRead s _ fun j hj => List.mem_map_of_mem (List.mem_filter.mp hj).1⟩

theorem memShortRetrain_answers {s : State} {c : Fin 6} {eye : Byte} (he : s.inEpisode = false) (hon : s.domOn 11 = true)
    (hretrain : s.fetch.retrain ≠ 0) (hready : s.chState c = 2) :
    Answers (.memShortRetrain c eye) s (fun t =>
      t.get (Fd.MEM_CH_TRAIN_RDEYE c) = eye.toNat ∧ RegsOnly (fun j => j = Rg.MEM_CH_TRAIN c) s t) := by
  have heye : s.memRetrain c eye.toNat = s.set (Fd.MEM_CH_TRAIN_RDEYE c) eye.toNat := by
    unfold State.memRetrain
    exact if_neg (by simp [he, hon, hretrain, hready])
  refine answers_quiet (congrArg (quiet s) heye) he ⟨?_, regsOnly_set s _ _ rfl⟩
  rw [get_set_same _ _ _ (show 20 + 8 ≤ 28 by decide)]
  exact Nat.mod_eq_of_lt eye.isLt

theorem eccInitDone_answers {s : State} {n : Fin 8} (he : s.inEpisode = false) (hon : s.domOn 11 = true) :
    Answers (.eccInitDone n) s (fun t =>
      t.flag (Fd.MEM_ECC_BUSY n) = false ∧ RegsOnly (fun j => j = Rg.MEM_ECC n) s t) := by
  have hclear : s.eccInit n = s.set (Fd.MEM_ECC_BUSY n) 0 := by
    unfold State.eccInit
    exact if_neg (by simp [he, hon])
  exact answers_quiet (congrArg (quiet s) hclear) he ⟨flag_set_same s 0 rfl (show 26 + 1 ≤ 28 by decide), regsOnly_set s _ _ rfl⟩

/-- Settles O36, one lemma for each of its events. -/
theorem memoryEventsComplete : Obligations.MemoryEventsComplete := by
  intro s k
  exact ⟨poolTackGrant_answers, fun _ _ _ _ => memTrainingDone_answers, fun _ _ => memDeviceTempRead_answers,
    fun _ _ => memShortRetrain_answers, eccInitDone_answers⟩

end Sys2Proof.Machine
end

section
/-! What a fault report of a unit beside the ports leaves alone of the lanes (R690–R692): their hidden state and the registers of
their block. The fences of the other units write registers below that block and above it. -/
namespace Sys2Proof.Machine

/-- The registers of the lanes' block. -/
def laneKey (k : Nat) : Bool := k / 0x10000 == 7

/-- `t` has the lanes' hidden state and the registers of their block of `s`. -/
def LanesAs (s t : State) : Prop := t.lanes = s.lanes ∧ ∀ k, laneKey k = true → t.reg k = s.reg k

theorem lanesAs_refl (s : State) : LanesAs s s := ⟨rfl, fun _ _ => rfl⟩

theorem LanesAs.get {s t : State} (h : LanesAs s t) {f : Fd} (hf : laneKey f.key = true) : t.get f = s.get f :=
  get_of_reg (h.2 _ hf)

/-- No record of unit `u` fences a port: it covers none and is in no port's group (R690). -/
abbrev Portless (u : Nat) : Prop := ∀ p < 8, fenceCovers u (uPort p) = false ∧ fenceGroup u ≠ fenceGroup (uPort p)

theorem portless_uPrx : ∀ k < 4, Portless (uPrx k) := by decide

/-- A further record in reaction fences what it covers or, at class C3, its group. -/
theorem fenced_append (s : State) (r : Nat × Nat) (u : Nat) :
    ({ s with hub := { s.hub with reacting := s.hub.reacting ++ [r] } } : State).fenced u =
      (s.fenced u || (fenceCovers r.1 u || (r.2 == 3 && (fenceGroup r.1).isSome && fenceGroup r.1 == fenceGroup u))) := by
  simp only [State.fenced, State.grpFenced, List.any_append, List.any_cons, List.any_nil, Bool.or_false]
  ac_rfl

theorem fenced_append_port (s : State) {u p : Nat} (c : Nat) (hu : Portless u) (hp : p < 8) :
    ({ s with hub := { s.hub with reacting := s.hub.reacting ++ [(u, c)] } } : State).fenced (uPort p) = s.fenced (uPort p) := by
  obtain ⟨hcover, hgroup⟩ := hu p hp
  rw [fenced_append, hcover, beq_eq_false_iff_ne.mpr hgroup, Bool.and_false, Bool.or_false, Bool.or_false]

/-- A record that is below class C2 calls for no reaction. -/
theorem react_of_low (s : State) {r : FaultRec} (h : r.cls ≤ 1) : s.react r = s := by
  unfold State.react
  split
  · rfl
  · rw [if_neg (by omega), if_neg (by omega)]

/-- Only the ports have the kind 0x03 among the units that a fence does something to. -/
theorem port_of_fenceUnits : ∀ u ∈ fenceUnits, u / 1024 = 3 → ∃ p < 8, u = uPort p := by decide

theorem laneKey_of_ge {k : Nat} (h : 0x80000 ≤ k) : laneKey k = false := by
  unfold laneKey
  rw [beq_eq_false_iff_ne]
  omega

theorem laneKey_above (b i : Nat) : laneKey (b + 0x80000 + i) = false := laneKey_of_ge (by omega)

namespace LanesAs

variable {s t : State}

theorem rest {u : State} (h : LanesAs s t) (hr : u.regs = t.regs) (hl : u.lanes = t.lanes) : LanesAs s u :=
  ⟨hl.trans h.1, fun k hk => (reg_of_regs hr k).trans (h.2 k hk)⟩

theorem putReg {k : Nat} (v : Nat) (h : LanesAs s t) (hk : laneKey k = false) : LanesAs s (t.setRegN k v) :=
  ⟨h.1, fun j hj => (reg_setRegN_other t v fun e => by rw [e, hk] at hj; cases hj).trans (h.2 j hj)⟩

/-- A write of a register of another block. -/
theorem put {f : Fd} {x : Nat} (h : LanesAs s t) (hf : laneKey f.key = false) : LanesAs s (t.set f x) :=
  ⟨h.1, fun k hk => (reg_set_key t f x k fun e => by rw [e, hf] at hk; cases hk).trans (h.2 k hk)⟩

/-- A write of an entry of an array of registers above the lanes'. -/
theorem arr {f : Fd} {x b i : Nat} (h : LanesAs s t) (hf : f.key = b + 0x80000 + i) : LanesAs s (t.set f x) :=
  h.put (hf ▸ laneKey_above b i)

theorem withHub (x : Hub) (h : LanesAs s t) : LanesAs s { t with hub := x } := h.rest rfl rfl

theorem withIcu (x : Icu) (h : LanesAs s t) : LanesAs s { t with icu := x } := h.rest rfl rfl

theorem withPict (x : PictS) (h : LanesAs s t) : LanesAs s { t with pict := x } := h.rest rfl rfl

theorem raise (n : Nat) (h : LanesAs s t) : LanesAs s (t.raise n) := SteadyClosed.ite h (h.withIcu _)

theorem bump {f : Fd} (top : Nat) (h : LanesAs s t) (hf : laneKey f.key = false) : LanesAs s (t.bump f top) :=
  SteadyClosed.ite (h.put hf) h

theorem coreFaulted (n : Nat) (h : LanesAs s t) : LanesAs s (t.coreFaulted n) :=
  have hlock := (h.put (f := Fd.AWL_LOCK_HELD) (x := 0) rfl).put (f := Fd.AWL_LOCK_CORE) (x := 0) rfl
  ((SteadyClosed.ite ((hlock.arr rfl).arr rfl) h).arr rfl).withIcu _

theorem laceStops (ch st : Nat) (h : LanesAs s t) : LanesAs s (t.laceStops ch st) :=
  have h1 := (h.arr (f := Fd.LACE_CH_STAT_STATE ch) (x := st) rfl).arr (f := Fd.LACE_CH_STAT_ERREV ch) (x := 1) rfl
  SteadyClosed.ite (h1.raise _) h1

theorem skiverStops (st : Nat) (h : LanesAs s t) : LanesAs s (t.skiverStops st) :=
  have h1 := (h.put (f := Fd.SKIVER_STAT_STATE) (x := st) rfl).put (f := Fd.SKIVER_STAT_ERREV) (x := 1) rfl
  SteadyClosed.ite (h1.raise _) h1

/-- A fence falls on a unit that is no port. -/
theorem onFence {u : Nat} (hu : u / 1024 ≠ 3) (h : LanesAs s t) : LanesAs s (t.onFence u) := by
  unfold State.onFence
  split
  · exact h.rest rfl rfl
  · next hport => exact absurd hport hu
  · exact SteadyClosed.ite (h.coreFaulted _) h
  · exact SteadyClosed.ite (h.laceStops _ _) h
  · exact SteadyClosed.ite (h.skiverStops _) h
  · exact h.rest rfl rfl
  · exact h.rest rfl rfl
  · exact h.put rfl
  · exact (h.put (f := Fd.LAST_SLOTCAP_CAP) rfl).rest rfl rfl
  · exact h

/-- A fence lifts from a unit that is no port. -/
theorem onLift {u : Nat} (hu : u / 1024 ≠ 3) (h : LanesAs s t) : LanesAs s (t.onLift u) := by
  unfold State.onLift
  split
  · next hport => exact absurd hport hu
  · exact SteadyClosed.ite (h.laceStops _ _) h
  · exact SteadyClosed.ite (h.skiverStops _) h
  · exact h.arr rfl
  · exact SteadyClosed.ite ((h.arr rfl).withPict _) h
  · exact h

/-- A change of the reacting records under which no port's fence falls or lifts. -/
theorem withReacting {r : List (Nat × Nat)} (h : LanesAs s t)
    (hr : ∀ p < 8, ({ t with hub := { t.hub with reacting := r } } : State).fenced (uPort p) = t.fenced (uPort p)) :
    LanesAs s (t.withReacting r) := by
  unfold State.withReacting
  refine keeps_foldl (fun u hu a ha => ?_) (h.withHub _)
  by_cases hport : u / 1024 = 3
  · obtain ⟨p, hp, rfl⟩ := port_of_fenceUnits u hu hport
    rw [hr p hp, Bool.not_and_self, Bool.and_not_self]
    exact ha
  · exact SteadyClosed.ite (ha.onFence hport) (SteadyClosed.ite (ha.onLift hport) ha)

theorem logRecord (r : FaultRec) (h : LanesAs s t) : LanesAs s (t.logRecord r) := by
  have hlost : laneKey (lostField r.cls).key = false := by
    unfold lostField
    split <;> rfl
  unfold State.logRecord
  dsimp only
  split
  · exact h.withHub _
  · exact (h.withHub _).bump _ hlost

theorem react {r : FaultRec} (hu : Portless r.unit) (h : LanesAs s t) : LanesAs s (t.react r) :=
  SteadyClosed.ite h (SteadyClosed.ite (SteadyClosed.ite h (h.withReacting fun _ hp => fenced_append_port t r.cls hu hp))
    (SteadyClosed.ite (h.withHub _) h))

theorem report {u : Nat} (code base detail : Nat) (hu : Portless u) (h : LanesAs s t) : LanesAs s (t.report u code base detail) :=
  (h.logRecord _).react hu

/-- A report of base class C0 escalates to C1 at most. -/
theorem reportMinor (u code detail : Nat) (h : LanesAs s t) : LanesAs s (t.report u code 0 detail) := by
  have hcls : (t.recordOf u code 0 detail false true).cls ≤ 1 := by
    unfold State.recordOf b2n
    dsimp only
    split <;> decide
  unfold State.report State.reportG
  dsimp only
  rw [react_of_low _ hcls]
  exact h.logRecord _

end LanesAs

end Sys2Proof.Machine
end

section
/-! What the reactions after a command leave alone of the lanes: no reaction fences a port or lets one go (R101, R185, R338, R358,
R364, R419, R564, R611, R622–R626, R690). -/
namespace Sys2Proof.Machine

namespace LanesAs

variable {s t : State}

theorem withLast (x : LastS) (h : LanesAs s t) : LanesAs s { t with last := x } := h.rest rfl rfl

/-! ## Replies, admissions and arms (R101, R185, R398) -/

theorem putReply (r : Req) (ws : List Nat) (first : Bool) (h : LanesAs s t) : LanesAs s (t.putReply r ws first) :=
  SteadyClosed.ite (h.rest rfl rfl) h

theorem answer (r : Req) (status : Nat) (body : List Nat) (h : LanesAs s t) : LanesAs s (t.answer r status body) := h.putReply r _ false

theorem slotName (n : Nat) (h : LanesAs s t) : LanesAs s (t.slotName n) := by
  unfold State.slotName
  exact h.arr rfl

theorem setSlot (n st : Nat) (h : LanesAs s t) : LanesAs s (t.setSlot n st) := by
  unfold State.setSlot
  exact (h.put rfl).slotName n

theorem admitRegs (slot : Nat) (f : Option AdmitFail) (h : LanesAs s t) : LanesAs s (t.admitRegs slot f) := by
  unfold State.admitRegs
  exact (((h.putReg _ rfl).putReg _ rfl).putReg _ rfl).putReg _ rfl

theorem admitWith (slot : Nat) (r : Req) (f : Option AdmitFail) (h : LanesAs s t) : LanesAs s (t.admitWith slot r f) := by
  have hidle : LanesAs s { t with last := { t.last with admitting := none } } := h.withLast _
  have hslot (n : Nat) := (hidle.admitRegs slot f).setSlot slot n
  unfold State.admitWith State.admitReply
  dsimp only
  apply LanesAs.answer
  split
  · exact hslot 1
  · exact (hslot 3).withLast _

theorem lastSettle (h : LanesAs s t) : LanesAs s t.lastSettle := by
  unfold State.lastSettle
  split
  · exact SteadyClosed.ite (h.admitWith _ _ _) h
  · exact h

theorem cancelArm (a : Arm) (n : Nat) (h : LanesAs s t) : LanesAs s (t.cancelArm a n) := by
  have harms : LanesAs s (t.setArms (dropOne a t.pict.arms)) := h.withPict _
  exact LanesAs.answer _ _ _ (keeps_foldl (fun k _ _ hb => hb.arr (f := Fd.HD_COMMIT_PEND k) rfl) harms)

theorem armSettle (h : LanesAs s t) : LanesAs s t.armSettle := by
  unfold State.armSettle
  refine keeps_foldl (fun a _ b hb => ?_) h
  split
  · exact SteadyClosed.ite (hb.cancelArm a _) hb
  · exact hb

/-! ## Welt (R337–R350, R358, R364) -/

theorem modWelt (f : WeltS → WeltS) (h : LanesAs s t) : LanesAs s (t.modWelt f) := h.rest rfl rfl

/-- A packet of a port is dropped for a reason whose report is of class C0. -/
theorem weltDrop {reason : Nat} (p : Option Nat) (hr : ¬ (reason = 2 ∨ reason = 5)) (h : LanesAs s t) :
    LanesAs s (t.weltDrop p reason) := by
  cases p with
  | none => exact h
  | some q =>
    have hcount : LanesAs s (t.weltCount q (16 + reason)) :=
      h.bump _ (laneKey_of_ge (show 0x80000 ≤ 0x300104 + q * 0x80 + (16 + reason) * 4 by omega))
    unfold State.weltDrop
    dsimp only
    rw [if_neg hr]
    exact SteadyClosed.ite ((hcount.modWelt _).reportMinor _ _ _) hcount

theorem fcMessage (c : Nat) (first last : Bool) (h : LanesAs s t) : LanesAs s (t.fcMessage c first last) := h.modWelt _

theorem fcBoundary (pkt : WeltPkt) (h : LanesAs s t) : LanesAs s (t.fcBoundary pkt) := SteadyClosed.ite (h.fcMessage _ _ _) h

theorem weltForward (src : Nat) (pkt : WeltPkt) (h : LanesAs s t) : LanesAs s (t.weltForward none src pkt) := by
  unfold State.weltForward
  split
  · exact h
  · exact SteadyClosed.ite h (h.modWelt _)

theorem weltDeliver (pkt : WeltPkt) (stamp : Nat) (h : LanesAs s t) : LanesAs s (t.weltDeliver none pkt stamp) := by
  have hbound := h.fcBoundary pkt
  unfold State.weltDeliver
  dsimp only
  split
  · exact hbound
  · refine SteadyClosed.ite hbound ?_
    split
    · exact hbound.modWelt _
    · exact hbound.modWelt _
    · exact (hbound.modWelt _).fcMessage _ _ _
    · exact (hbound.modWelt _).fcMessage _ _ _

theorem weltSend (pkt : WeltPkt) (h : LanesAs s t) : LanesAs s (t.weltSend pkt) :=
  SteadyClosed.ite h (SteadyClosed.ite (h.weltDeliver pkt 0) (h.weltForward _ pkt))

theorem weltFlow (c kind dest dflow : Nat) (first last : Bool) (ws : List Nat) (h : LanesAs s t) :
    LanesAs s (t.weltFlow c kind dest dflow first last ws) :=
  ((h.modWelt _).weltSend _).fcMessage c first last

theorem weltOn (c : Nat) (ps : List (List Nat)) (h : LanesAs s t) : LanesAs s (t.weltOn c ps) := by
  unfold State.weltOn State.weltMessage
  exact keeps_foldl (fun _ _ _ ha => ha.weltFlow _ _ _ _ _ _ _) h

theorem weltPortLost (p : Nat) (h : LanesAs s t) : LanesAs s (t.weltPortLost p) :=
  LanesAs.modWelt _ (keeps_foldl (fun _ _ _ ha => ha.weltDrop (some p) (by decide)) h)

theorem prxLost {k : Nat} (hk : k < 4) (line : Nat) (h : LanesAs s t) : LanesAs s (t.prxLost k line) := by
  have hlost := ((h.arr (f := Fd.WELT_PRX_STAT_STATE k) (x := 2) rfl).arr (f := Fd.WELT_PRX_STAT_OVR k) (x := 1) rfl).arr
    (f := Fd.WELT_PRX_STAT_LOSTEV k) (x := 1) rfl
  exact SteadyClosed.ite h (LanesAs.report 0x2F 2 0 (portless_uPrx k hk) (hlost.withPict _))

theorem prxPortLost (p : Nat) (h : LanesAs s t) : LanesAs s (t.prxPortLost p) := by
  unfold State.prxPortLost
  exact keeps_foldl (fun k hk _ ha => SteadyClosed.ite (ha.prxLost (List.mem_range.mp hk) _) ha) h

theorem timeHoldover (h : LanesAs s t) : LanesAs s t.timeHoldover := by
  have hlost := ((h.put (f := Fd.WELT_TIMESTAT_STATE) (x := 3) rfl).put (f := Fd.WELT_TIMESTAT_TLOSS) (x := 1) rfl).put
    (f := Fd.WELT_TIMESTAT_HOPS) (x := 31) rfl
  exact SteadyClosed.ite h (LanesAs.report 0x2E 1 0 (by decide) (hlost.modWelt _))

theorem weltSettle (h : LanesAs s t) : LanesAs s t.weltSettle := by
  have hports : LanesAs s ((List.range 8).foldl (fun a p =>
      if a.weltHolds p then a else (if a.weltPortHeld p then a.weltPortLost p else a).prxPortLost p) t) :=
    keeps_foldl (fun p _ _ ha => SteadyClosed.ite ha (LanesAs.prxPortLost p (SteadyClosed.ite (ha.weltPortLost p) ha))) h
  exact SteadyClosed.ite hports.timeHoldover hports

/-! ## Heads, Soles and the supply loop (R71, R690) -/

theorem dark (n y b : Nat) (h : LanesAs s t) : LanesAs s (t.dark n y b) := by
  unfold State.dark
  split
  · exact SteadyClosed.ite h (h.withPict _)
  · exact h.withPict _

theorem headSettle (n : Nat) (h : LanesAs s t) : LanesAs s (t.headSettle n) := SteadyClosed.ite ((h.dark _ _ _).dark _ _ _) h

theorem soleSettle (n : Nat) (h : LanesAs s t) : LanesAs s (t.soleSettle n) := by
  unfold State.soleSettle
  dsimp only
  refine SteadyClosed.ite (LanesAs.withPict _ (keeps_foldl (fun _ _ _ ha => ha.dark _ _ _) ?_)) h
  split
  · exact h.dark _ _ _
  · exact h

theorem modPace (f : PaceS → PaceS) (h : LanesAs s t) : LanesAs s (t.modPace f) := h.rest rfl rfl

theorem loopOff (h : LanesAs s t) : LanesAs s t.loopOff :=
  (((h.modPace _).put (f := Fd.PWR_PACESTAT_BUSY) (x := 0) rfl).put (f := Fd.PWR_PACESTAT_EMERG) (x := 0) rfl).modPace _

theorem loopSettle (h : LanesAs s t) : LanesAs s t.loopSettle := by
  unfold State.loopSettle
  extract_lets s1 s2
  have hstop : LanesAs s s1 := SteadyClosed.ite h (SteadyClosed.ite (h.modPace _) h.loopOff)
  have hstart : LanesAs s s2 := by
    unfold s2
    split
    · exact SteadyClosed.ite (hstop.modPace _) hstop
    · exact hstop
  exact SteadyClosed.ite (hstart.modPace _) hstart

/-! ## Insole and Shank (R611, R622–R626) -/

theorem modPanel (f : PanelS → PanelS) (h : LanesAs s t) : LanesAs s (t.modPanel f) := h.rest rfl rfl

theorem feAbandon (n : Nat) (h : LanesAs s t) : LanesAs s (t.feAbandon n) := by
  have hstep := LanesAs.arr (f := Fd.INS_FE_STAT_STEP n) (x := 0) (h.modPanel fun p =>
    { p with fes := tabPut {} p.fes n { tabGet {} p.fes n with active := false } }) rfl
  exact SteadyClosed.ite h (hstep.bump 255 (show laneKey (Rg.INS_FE_STAT n) = false from laneKey_above 0x50000C _))

theorem feSettle (h : LanesAs s t) : LanesAs s t.feSettle := by
  unfold State.feSettle
  refine SteadyClosed.ite h (keeps_foldl (fun n _ a ha => ?_) h)
  have hnowin (b : Bool) : LanesAs s (a.setB (Fd.INS_FE_STAT_NOWIN n) b) := ha.arr rfl
  exact SteadyClosed.ite ((hnowin _).feAbandon n) (hnowin _)

theorem panelEntry (detail : Nat) (h : LanesAs s t) : LanesAs s (t.panelEntry detail) :=
  LanesAs.report 0x40 1 detail (by decide) (h.raise 220)

theorem shankLimits (h : LanesAs s t) : LanesAs s t.shankLimits := by
  unfold State.shankLimits
  extract_lets g tlim low fail hot sf s1 s2 s3
  have hflags : LanesAs s s2 := ((h.modPanel _).put (f := Fd.SHK_STAT_SENSFAIL) rfl).put (f := Fd.SHK_STAT_OVERT) rfl
  have hhot : LanesAs s s3 := SteadyClosed.ite (hflags.panelEntry 0) hflags
  exact SteadyClosed.ite h (SteadyClosed.ite (hhot.panelEntry 1) hhot)

theorem thermostat (n : Nat) (h : LanesAs s t) : LanesAs s (t.thermostat n) :=
  have hheat (x : Nat) : LanesAs s (t.set (Fd.SHK_HT_S_HEAT n) x) := h.arr rfl
  SteadyClosed.ite (hheat 0) (SteadyClosed.ite (hheat 1) h)

theorem shankSettle (h : LanesAs s t) : LanesAs s t.shankSettle := by
  unfold State.shankSettle
  extract_lets s0 s1
  have hpwm : LanesAs s s0 := SteadyClosed.ite (h.modPanel _) h
  have hclock : LanesAs s s1 := (hpwm.put (f := Fd.SHK_STAT_NOCLK) rfl).shankLimits
  exact SteadyClosed.ite (SteadyClosed.ite h (h.modPanel _))
    (keeps_foldl (fun n _ _ ha => SteadyClosed.ite ((ha.thermostat n).modPanel _) (ha.thermostat n)) hclock)

/-! ## Lace, Skiver and Tongue (R419, R550, R564, R568) -/

theorem laceClear (n : Nat) (h : LanesAs s t) : LanesAs s (t.laceClear n) := h.rest rfl rfl

theorem laceSettle (h : LanesAs s t) : LanesAs s t.laceSettle := by
  unfold State.laceSettle
  exact keeps_foldl (fun x _ _ ha => SteadyClosed.ite ha (ha.laceClear x.1)) h

theorem skiverClear (h : LanesAs s t) : LanesAs s t.skiverClear := h.rest rfl rfl

theorem skHeadstop (h : LanesAs s t) : LanesAs s t.skHeadstop := by
  unfold State.skHeadstop State.skiverEnd
  dsimp only
  rw [if_neg (by decide)]
  exact LanesAs.reportMinor _ _ _ ((LanesAs.skiverClear (h.put rfl)).skiverStops 4)

theorem skiverSettle (h : LanesAs s t) : LanesAs s t.skiverSettle :=
  SteadyClosed.ite (SteadyClosed.ite h.skHeadstop h) (SteadyClosed.ite h h.skiverClear)

theorem sendReplies (h : LanesAs s t) : LanesAs s t.sendReplies := by
  unfold State.sendReplies
  refine keeps_foldl (fun r _ a ha => ?_) h
  have hdrop : LanesAs s (a.dropReply r) := ha.rest rfl rfl
  split
  · exact SteadyClosed.ite (hdrop.weltOn _ _) hdrop
  · exact ha

theorem laneKey_ringKeys {src : Src} {r c p : Nat} (h : ringKeys src = some (r, c, p)) : laneKey p = false := by
  cases src with
  | pcie =>
    cases h
    rfl
  | core n =>
    cases h
    revert n
    decide
  | _ => cases h

theorem tongueSettle (h : LanesAs s t) : LanesAs s t.tongueSettle := by
  unfold State.tongueSettle
  refine SteadyClosed.ite h (keeps_foldl (fun src _ a ha => ?_) h.sendReplies)
  split
  · exact ha
  · next hkeys => exact SteadyClosed.ite ha (ha.putReg _ (laneKey_ringKeys hkeys))

end LanesAs

/-- The reactions after a command leave the lanes' hidden state and the registers of their block alone. -/
theorem lanesAs_settle (s : State) : LanesAs s s.settle := by
  have hunits : LanesAs s ((List.range 16).foldl (fun a n => (a.soleSettle n).headSettle n) s.lastSettle.armSettle.weltSettle) :=
    keeps_foldl (fun n _ _ ha => (ha.soleSettle n).headSettle n) (lanesAs_refl s).lastSettle.armSettle.weltSettle
  exact hunits.loopSettle.feSettle.shankSettle.laceSettle.skiverSettle.tongueSettle

end Sys2Proof.Machine
end

section
/-! A port with an unacknowledged C1 record: the next one escalates and fences it (R688, R690), in the midst of a write of its
configuration (R309) or of a loss of the reference (R317). -/
namespace Sys2Proof.Machine

/-- Whatever a command answers has the lanes of a state of which `P` holds. -/
theorem lanesAs_of_answers {c : Instr} {s u : State} {P : State → Prop} (h : Answers c s P) (hx : exec c s = .next u) :
    ∃ t, P t ∧ LanesAs t u := by
  obtain ⟨t, hp, ht | ht⟩ := h
  · cases hx.symm.trans ht
    exact ⟨u, hp, lanesAs_refl u⟩
  · cases hx.symm.trans ht
    exact ⟨t, hp, lanesAs_settle t⟩

theorem wrote_settled {s : State} {m : Fin 32} {k : Nat} {v : RegVal} {e : Env} (hf : s.masterFrozen m = false) (hk : quietKey k = false) :
    wrote s m k v e = .next (s.directWrite m k v.toNat e).settle := by
  unfold wrote settled
  rw [hf, hk]
  rfl

theorem lanesAs_quiet {s t : State} (he : s.inEpisode = false) : ∃ u, quiet s t = .next u ∧ LanesAs t u := by
  unfold quiet calm
  rw [he]
  exact ⟨_, rfl, SteadyClosed.ite (lanesAs_refl t) (lanesAs_settle t)⟩

/-- Past boot, every power domain on, with an unacknowledged C1 record of port 0. -/
def noticedPort : State :=
  let s := ({ State.reset with rst := {}, hub := { State.reset.hub with unack := [(uPort 0, 2)] } } : State).set Fd.PWR_DOMON_ON 0xFFFFF
  s.set Fd.SEC_BOOT_STATE 5

/-- Port 0 in MODE 2, its PCI Express link up. -/
def linkedPort : State := ((noticedPort.set (Fd.EYE_WP_CFG_MODE 0) 2).set (Fd.EYE_WP_STAT_STATE 0) 2).set Fd.PCIE_STAT_LINKUP 1

/-- The debug bus master puts `linkedPort`'s port into MODE 1. -/
def relinked : State := linkedPort.directWrite (0x1C : Fin 32) (Rg.EYE_WP_CFG (0 : Fin 8)) (0x2000000 : BitVec 28).toNat ⟨[], []⟩

theorem portState_relinked : relinked.portState 0 = 3 := by decide +kernel

/-- Refutes O7: the old mode's link goes down with a C1 record (R320). Where an earlier one of the port is unacknowledged it
escalates and fences the port, which starts over in FAIL and not in TRAINING. -/
theorem not_portWritesComplete : ¬ Obligations.PortWritesComplete := by
  unfold Obligations.PortWritesComplete
  intro h
  obtain ⟨hmode, -, -⟩ := h 0 0x1C linkedPort 0x2000000 ⟨[], []⟩
  have hwrites := hmode (by decide +kernel) (by decide +kernel) (by decide +kernel) (by decide +kernel) (by decide +kernel)
    (by decide +kernel)
  have hx : exec (.portModeWrite 0 0x1C 0x2000000 ⟨[], []⟩) linkedPort = .next relinked.settle :=
    wrote_settled (s := linkedPort) (m := 0x1C) (k := Rg.EYE_WP_CFG (0 : Fin 8)) (v := 0x2000000) (e := ⟨[], []⟩) (by decide +kernel)
      (by decide)
  obtain ⟨t, ⟨-, -, hstate, -, -⟩, hlanes⟩ := lanesAs_of_answers hwrites hx
  have hfail : relinked.settle.portState 0 = 3 := ((lanesAs_settle relinked).get rfl).trans portState_relinked
  have htrain : relinked.settle.portState 0 = 1 := (hlanes.get rfl).trans hstate
  rw [hfail] at htrain
  cases htrain

/-- Port 0 trains in MODE 3, and the device's clock is the reference recovered there. -/
def trainingPort : State :=
  let s := ((noticedPort.set (Fd.EYE_WP_CFG_MODE 0) 3).set (Fd.EYE_WP_STAT_STATE 0) 1).set Fd.RST_STRAP_CLKMODE 2
  { s with lanes := { dpTrain := [0] } }

theorem dpTrain_refLost : trainingPort.refLost.lanes.dpTrain = [] := by decide +kernel

/-- Refutes O37: the reference's loss makes a C1 record of port 0. Where an earlier one is unacknowledged it escalates and fences
the port, whose training is abandoned, so that more than the note of the loss changes in the lanes' state. -/
theorem not_laneEventsComplete : ¬ Obligations.LaneEventsComplete := by
  unfold Obligations.LaneEventsComplete
  intro h
  obtain ⟨-, -, -, -, -, -, hlost, -⟩ := h trainingPort 0 0
  have hanswers := hlost (by decide +kernel) (by decide +kernel)
  obtain ⟨u, hx, hu⟩ := lanesAs_quiet (s := trainingPort) (t := trainingPort.refLost) (by decide +kernel)
  obtain ⟨t, ⟨hlanes, -, -, -⟩, hut⟩ := lanesAs_of_answers hanswers hx
  have hsame : trainingPort.refLost.lanes = { trainingPort.lanes with refLost := true } := by rw [← hu.1, hut.1, hlanes]
  have htrain := dpTrain_refLost
  rw [hsame] at htrain
  cases htrain

end Sys2Proof.Machine
end

section
/-! What the operations of port 0 and its lanes leave alone (R308, R309, R318): all but registers of the lanes' block and pending
interrupts. -/
namespace Sys2Proof.Machine

/-- The registers of the lanes themselves: EYE_LnCFG, EYE_LnSTAT, EYE_LnERR and EYE_LnSCAN. -/
def ofLanesKey (k : Nat) : Prop := 0x70100 ≤ k ∧ k < 0x80000

theorem laneKey_of_ofLanesKey {k : Nat} (hk : ofLanesKey k) : laneKey k = true := by
  obtain ⟨hlo, hhi⟩ := hk
  unfold laneKey
  rw [beq_iff_eq]
  omega

theorem not_ofLanesKey {k : Nat} (hk : laneKey k = false) : ¬ ofLanesKey k := fun h => by
  rw [laneKey_of_ofLanesKey h] at hk
  cases hk

section
variable (s : State) {n : Nat}

theorem ofLanesKey_stat (hn : n < 128) : ofLanesKey (Rg.EYE_L_STAT n) := by
  unfold ofLanesKey Rg.EYE_L_STAT
  omega

theorem ofLanesKey_scan (hn : n < 128) : ofLanesKey (Rg.EYE_L_SCAN n) := by
  unfold ofLanesKey Rg.EYE_L_SCAN
  omega

theorem ofLanesKey_err (hn : n < 128) : ofLanesKey (Rg.EYE_L_ERR n) := by
  unfold ofLanesKey Rg.EYE_L_ERR
  omega

theorem regsOnly_laneStat {f : Fd} (x : Nat) (hf : f.key = Rg.EYE_L_STAT n) (hn : n < 128) : RegsOnly ofLanesKey s (s.set f x) :=
  regsOnly_set s f x (hf ▸ ofLanesKey_stat hn)

theorem regsOnly_laneScan {f : Fd} (x : Nat) (hf : f.key = Rg.EYE_L_SCAN n) (hn : n < 128) : RegsOnly ofLanesKey s (s.set f x) :=
  regsOnly_set s f x (hf ▸ ofLanesKey_scan hn)

theorem regsOnly_lockLost (hn : n < 128) : RegsOnly ofLanesKey s (s.lockLost n) := by
  have hlock := regsOnly_laneStat s (f := Fd.EYE_L_STAT_LOCK n) 0 rfl hn
  exact regsOnly_ite (regsOnly_trans hlock (regsOnly_trans (regsOnly_laneScan _ (f := Fd.EYE_L_SCAN_BUSY n) 0 rfl hn)
    (regsOnly_laneScan _ (f := Fd.EYE_L_SCAN_RESULT n) 255 rfl hn))) hlock

theorem regsOnly_setTaps (taps : Nat × Nat × Nat) (hn : n < 128) : RegsOnly ofLanesKey s (s.setTaps n taps) :=
  regsOnly_trans (regsOnly_laneStat s (f := Fd.EYE_L_STAT_CURPRE n) _ rfl hn)
    (regsOnly_trans (regsOnly_laneStat _ (f := Fd.EYE_L_STAT_CURPOST n) _ rfl hn)
      (regsOnly_laneStat _ (f := Fd.EYE_L_STAT_CURAMP n) _ rfl hn))

theorem regsOnly_lanesIdle {p : Nat} (hp : p < 32) : RegsOnly ofLanesKey s (s.lanesIdle p) := by
  refine regsOnly_foldl fun a n hn => ?_
  have hlane := lane_lt hp hn
  exact regsOnly_trans (regsOnly_lockLost a hlane) (regsOnly_trans (regsOnly_laneStat _ (f := Fd.EYE_L_STAT_SYNC n) 0 rfl hlane)
    (regsOnly_trans (regsOnly_laneStat _ (f := Fd.EYE_L_STAT_USE n) 0 rfl hlane) (regsOnly_setTaps _ _ hlane)))

theorem regsOnly_standardLanes {p lanes : Nat} (rx : Bool) (taps : List (Nat × Nat × Nat)) (hp : p < 32 ∧ lanes ≤ 4) :
    RegsOnly ofLanesKey s (s.standardLanes p lanes rx taps) := by
  refine regsOnly_trans (regsOnly_lanesIdle s hp.1) (regsOnly_foldl fun a i hi => ?_)
  have hlane : 4 * p + i < 128 := by
    have := List.mem_range.mp hi
    omega
  exact regsOnly_trans (regsOnly_laneStat a (f := Fd.EYE_L_STAT_LOCK (4 * p + i)) _ rfl hlane)
    (regsOnly_trans (regsOnly_laneStat _ (f := Fd.EYE_L_STAT_USE (4 * p + i)) 3 rfl hlane) (regsOnly_setTaps _ _ hlane))

/-- Errors that come with a port's traffic are counted in its lanes (R326). -/
theorem regsOnly_trafficErrs {p : Nat} (errs : List Nat) (hp : p < 32) : RegsOnly ofLanesKey s (s.trafficErrs p errs) := by
  refine regsOnly_foldl fun a i hi => ?_
  have hlane : 4 * p + i < 128 := by
    have := List.mem_range.mp hi
    omega
  have hcount := regsOnly_set a (Fd.EYE_L_ERR_ERRCNT (4 * p + i))
    (min 0xFFFFFFF (a.get (Fd.EYE_L_ERR_ERRCNT (4 * p + i)) + errs.getD i 0)) (ofLanesKey_err hlane)
  exact regsOnly_ite (regsOnly_refl _ a) (regsOnly_ite hcount (regsOnly_refl _ a))

end

/-! ## A port's STATE (R639) -/

/-- Beside registers of the lanes' block only pending interrupts differ. -/
def PortOnly (s t : State) : Prop := RegsOnly (fun k => laneKey k = true) s { t with icu := { t.icu with pend := s.icu.pend } }

theorem portOnly_of_regsOnly {s t : State} (h : RegsOnly ofLanesKey s t) : PortOnly s t := by
  obtain ⟨hrest, hregs⟩ := h
  have hpend : t.icu.pend = s.icu.pend := (congrArg (fun x : State => x.icu.pend) hrest :)
  unfold PortOnly
  rw [← hpend]
  exact ⟨hrest, fun k hk => hregs k fun h => hk (laneKey_of_ofLanesKey h)⟩

theorem portOnly_trans {s t u : State} (h : PortOnly s t) (g : PortOnly t u) : PortOnly s u :=
  ⟨(congrArg (fun x : State => { x with regs := s.regs, icu := { x.icu with pend := s.icu.pend } }) g.1).trans h.1,
    fun k hk => (g.2 k hk).trans (h.2 k hk)⟩

theorem PortOnly.reg {s t : State} (h : PortOnly s t) {k : Nat} (hk : laneKey k = false) : t.reg k = s.reg k :=
  h.2 k fun e => Bool.false_ne_true (hk.symm.trans e)

theorem PortOnly.get {s t : State} (h : PortOnly s t) {f : Fd} (hf : laneKey f.key = false) : t.get f = s.get f :=
  get_of_reg (h.reg hf)

theorem PortOnly.flag {s t : State} (h : PortOnly s t) {f : Fd} (hf : laneKey f.key = false) : t.flag f = s.flag f :=
  flag_of_get (h.get hf)

theorem PortOnly.mem {s t : State} (h : PortOnly s t) : t.mem = s.mem := (congrArg State.mem h.1 :)

theorem PortOnly.lanes {s t : State} (h : PortOnly s t) : t.lanes = s.lanes := (congrArg State.lanes h.1 :)

theorem PortOnly.msixPend {s t : State} (h : PortOnly s t) : t.icu.msixPend = s.icu.msixPend :=
  (congrArg (fun x : State => x.icu.msixPend) h.1 :)

theorem PortOnly.headOnly {s t : State} (h : PortOnly s t) : HeadOnly s t :=
  (congrArg (fun x : State => { x with pict := s.pict, icu := s.icu }) h.1 :)

section
variable (s : State) {p : Nat}

theorem laneKey_portStat (hp : p < 32) : laneKey (Rg.EYE_WP_STAT p) = true := by
  unfold laneKey Rg.EYE_WP_STAT
  rw [beq_iff_eq]
  omega

theorem portOnly_raise (n : Nat) : PortOnly s (s.raise n) := by
  unfold State.raise
  split
  · exact ⟨rfl, fun _ _ => rfl⟩
  · exact ⟨rfl, fun _ _ => rfl⟩

theorem portOnly_set {f : Fd} (x : Nat) (hf : laneKey f.key = true) : PortOnly s (s.set f x) :=
  ⟨rfl, fun k hk => reg_set_key s f x k fun e => hk (e ▸ hf)⟩

theorem portOnly_setPortState (st : Nat) (hp : p < 32) : PortOnly s (s.setPortState p st) := by
  unfold State.setPortState
  split
  · exact ⟨rfl, fun _ _ => rfl⟩
  · exact portOnly_trans (portOnly_set s st (laneKey_portStat hp)) (portOnly_raise _ _)

theorem portState_setPortState {st : Nat} (hst : st < 2 ^ 3) : (s.setPortState p st).get (Fd.EYE_WP_STAT_STATE p) = st := by
  unfold State.setPortState
  split
  · next h => exact h
  · rw [get_raise, get_set_same _ _ _ (show 24 + 3 ≤ 28 by decide)]
    exact Nat.mod_eq_of_lt hst

end

end Sys2Proof.Machine
end

section
/-! A report of a port fences that port alone, and leaves a PCI Express link that is down as it is (R690, R691). -/
namespace Sys2Proof.Machine

theorem fenceCovers_uPort (u : Nat) {p : Nat} (hp : p < 8) : fenceCovers (uPort p) u = (u == uPort p) := by
  have hkind : (uPort p / 1024 == 0x10) = false := by
    unfold uPort unitOf
    rw [beq_eq_false_iff_ne]
    omega
  unfold fenceCovers
  rw [hkind, Bool.false_and, Bool.or_false]

section
variable {P : State → Prop} {p : Nat} {t : State}

/-- The fence of a port, at class C2: what a write of the hub and the port's own fence keep. -/
theorem keeps_fencePort (hp : p < 8) (hhub : ∀ a x, P a → P { a with hub := x }) (hfence : ∀ a, P a → P (a.onFence (uPort p)))
    (h : P t) : P (t.withReacting (t.hub.reacting ++ [(uPort p, 2)])) := by
  unfold State.withReacting
  refine keeps_foldl (fun u _ a ha => ?_) (hhub t _ h)
  rw [fenced_append, fenceCovers_uPort u hp, show ((2 : Nat) == 3) = false from rfl, Bool.false_and, Bool.false_and, Bool.or_false]
  by_cases hu : u = uPort p
  · subst hu
    rw [beq_self_eq_true, Bool.or_true, Bool.not_true, Bool.and_false, if_neg Bool.false_ne_true]
    exact SteadyClosed.ite (hfence a ha) ha
  · rw [beq_eq_false_iff_ne.mpr hu, Bool.or_false, Bool.not_and_self, Bool.and_not_self]
    exact ha

/-- A report of base class C0 or C1 of a port: what writes of the hub, of its counters of lost records and the port's own fence keep. -/
theorem keeps_reportPort (hp : p < 8) (hhub : ∀ a x, P a → P { a with hub := x })
    (hlost : ∀ a c, P a → P (a.bump (lostField c) 255)) (hfence : ∀ a, P a → P (a.onFence (uPort p)))
    {base : Nat} (hbase : base ≤ 1) (code detail : Nat) (h : P t) :
    P (t.report (uPort p) code base detail) := by
  have hcls : (t.recordOf (uPort p) code base detail false true).cls ≤ 2 := by
    unfold State.recordOf b2n
    dsimp only
    split <;> omega
  have hunit : (t.recordOf (uPort p) code base detail false true).unit = uPort p := rfl
  unfold State.report State.reportG
  dsimp only
  generalize t.recordOf (uPort p) code base detail false true = r at hcls hunit ⊢
  have hlog : P (t.logRecord r) := by
    unfold State.logRecord
    dsimp only
    split
    · exact hhub _ _ h
    · exact hlost _ _ (hhub _ _ h)
  unfold State.react
  rw [if_neg (show ¬ r.cls = 4 by omega)]
  refine SteadyClosed.ite hlog ?_
  split
  · next hreact =>
    rw [hunit, show r.cls = 2 by omega]
    exact SteadyClosed.ite hlog (keeps_fencePort hp hhub hfence hlog)
  · exact hlog

end

/-! ## The link that is down -/

theorem reg_bump {k : Nat} (s : State) {f : Fd} (top : Nat) (hk : k ≠ f.key) : (s.bump f top).reg k = s.reg k := by
  unfold State.bump
  split
  · exact reg_set_key s f _ k hk
  · rfl

theorem lostField_key (c : Nat) : (lostField c).key < 0x50000 := by
  unfold lostField
  split <;> decide

theorem reg_dpForget (s : State) {k p : Nat} (hk : k ≠ Rg.DP_WP_STAT p) : (s.dpForget p).reg k = s.reg k := by
  unfold State.dpForget
  simp only [List.foldl_cons, List.foldl_nil]
  iterate 6 rw [reg_set_key _ _ _ _ (show k ≠ Rg.DP_WP_STAT p from hk)]

/-- Port 0 with a fence on it, before its link goes (R690). -/
def State.portFails (s : State) : State := (((s.dpAbandon 0).lanesIdle 0).dpForget 0).setPortState 0 3

theorem onFence_uPort0 (s : State) : s.onFence (uPort 0) = if !s.domOn (lanegOf 0) then s else s.portFails.pcieGone := by
  have hkind : uPort 0 / 1024 = 3 := rfl
  have hindex : uPort 0 % 1024 = 0 := rfl
  unfold State.onFence State.portFails
  simp only [hkind, hindex, if_true]

theorem pcieStat_portFails (s : State) : s.portFails.reg Rg.PCIE_STAT = s.reg Rg.PCIE_STAT := by
  have habandon := reg_of_regs (s := s) (t := s.dpAbandon 0) rfl Rg.PCIE_STAT
  have hidle := (portOnly_of_regsOnly (regsOnly_lanesIdle (s.dpAbandon 0) (p := 0) (by decide))).reg (k := Rg.PCIE_STAT) rfl
  have hforget := reg_dpForget ((s.dpAbandon 0).lanesIdle 0) (k := Rg.PCIE_STAT) (p := 0) (by decide)
  have hstate := (portOnly_setPortState (((s.dpAbandon 0).lanesIdle 0).dpForget 0) (p := 0) 3 (by decide)).reg (k := Rg.PCIE_STAT) rfl
  unfold State.portFails
  rw [hstate, hforget, hidle, habandon]

theorem pcieGone_of_down {s : State} (hdown : s.flag Fd.PCIE_STAT_LINKUP = false) : s.pcieGone = s := by
  unfold State.pcieGone
  rw [hdown]
  exact if_neg Bool.false_ne_true

/-- A fence of port 0 finds a link that is down, and leaves PCIE_STAT as it is. -/
theorem pcieStat_onFence {s : State} (hdown : s.flag Fd.PCIE_STAT_LINKUP = false) :
    (s.onFence (uPort 0)).reg Rg.PCIE_STAT = s.reg Rg.PCIE_STAT := by
  have hfails := pcieStat_portFails s
  rw [onFence_uPort0, pcieGone_of_down ((flag_of_get (get_of_reg (f := Fd.PCIE_STAT_LINKUP) hfails)).trans hdown)]
  split
  · rfl
  · exact hfails

theorem pcieStat_report {s : State} {base : Nat} (hdown : s.flag Fd.PCIE_STAT_LINKUP = false) (hbase : base ≤ 1) (code detail : Nat) :
    (s.report (uPort 0) code base detail).reg Rg.PCIE_STAT = s.reg Rg.PCIE_STAT := by
  refine keeps_reportPort (P := fun t => t.reg Rg.PCIE_STAT = s.reg Rg.PCIE_STAT) (by decide) (fun _ _ ha => ha) (fun a c ha => ?_)
    (fun a ha => ?_) hbase code detail rfl
  · have hlow := lostField_key c
    exact (reg_bump a 255 (show 0x380004 ≠ _ by omega)).trans ha
  · exact (pcieStat_onFence ((flag_of_get (get_of_reg (f := Fd.PCIE_STAT_LINKUP) ha)).trans hdown)).trans ha

end Sys2Proof.Machine
end

section
/-! PERST_N and the link of PCI Express (R319, R320): its resets, its training and its loss. -/
namespace Sys2Proof.Machine

/-! ## A unit reset of registers (R12) -/

theorem regN_unitReg_same (s : State) (k : Nat) : (s.unitReg k).regN k = unitNat k (s.regN k) % 2 ^ 28 := regN_setRegN_same s k _

/-- What a unit reset leaves of registers that are not among its own. -/
theorem regN_unitRegs_other {k : Nat} {l : List Nat} (hk : k ∉ l) (s : State) : (l.foldl State.unitReg s).regN k = s.regN k := by
  refine keeps_foldl (P := fun t => t.regN k = s.regN k) (fun j hj a ha => ?_) rfl
  exact (regN_setRegN_other a (unitNat j (a.regN j)) (show k ≠ j from fun e => hk (e ▸ hj))).trans ha

theorem regsOnly_unitRegs (l : List Nat) (s : State) : RegsOnly (fun k => k ∈ l) s (l.foldl State.unitReg s) :=
  regsOnly_foldl fun a _ hk => regsOnly_setRegN a _ hk

/-- PCIE_CTL's fields are all kept by a unit reset (R334). -/
theorem unitNat_pcieCtl_lt {v : Nat} : unitNat Rg.PCIE_CTL v < 2 ^ 28 := by
  have hspec : specAt Rg.PCIE_CTL = some (.mk 0x380000 1 0x10000000 1 4 [.mk 27 16 .rw (.val 0) (.kept) (.kept),
      .mk 12 12 .rw (.val 0) (.kept) (.kept), .mk 11 9 .rw (.val 5) (.kept) (.kept), .mk 8 7 .rw (.val 2) (.kept) (.kept)]) := by
    decide +kernel
  unfold unitNat
  rw [hspec]
  simp only [List.foldl_cons, List.foldl_nil, nbits]
  omega

/-! ## PERST_N (R320) -/

theorem lanes_of_regsOnly {p : Nat → Prop} {s t : State} (h : RegsOnly p s t) : t.lanes = s.lanes := (congrArg State.lanes h.1 :)

theorem icu_of_regsOnly {p : Nat → Prop} {s t : State} (h : RegsOnly p s t) : t.icu = s.icu := (congrArg State.icu h.1 :)

theorem lanes_modEp (s : State) (f : EpS → EpS) : (s.modEp f).lanes = { s.lanes with ep := f s.lanes.ep } := rfl

theorem flag_modEp (s : State) (f : EpS → EpS) (x : Fd) : (s.modEp f).flag x = s.flag x :=
  flag_of_get (get_of_reg (reg_of_regs (modEp_regs s f) _))

theorem regsOnly_modEp {p : Nat → Prop} {s t : State} (f : EpS → EpS) (h : RegsOnly p s t) :
    RegsOnly p s { t.modEp f with lanes := s.lanes } :=
  ⟨congrArg (fun x : State => { x with lanes := s.lanes }) h.1, h.2⟩

/-- The registers that PERST_N resets (R320). -/
def perstKeys : List Nat :=
  [Rg.PCIE_CTL, Rg.PCIE_STAT, Rg.PCIE_MBRING, Rg.PCIE_MBCPTR, Rg.PCIE_MBRPTR, Rg.PCIE_MBCFG, Rg.PCIE_MBPKT, Rg.PCIE_MBRPL]

/-- The endpoint's state and session are cleared (R320). -/
def State.epCleared (s : State) : State := { s.endSession .pcie with icu := { s.icu with msixPend := [] } }.modEp (fun _ => {})

/-- The endpoint in reset: its registers as their Unit column says, and PERST. -/
def State.epReset (s : State) : State := (perstKeys.foldl State.unitReg s.epCleared).set Fd.PCIE_STAT_PERST 1

theorem perst_asserted {s : State} (hon : s.domOn 12 = true) :
    s.perst true = if s.portMode 0 = 2 ∧ s.fenced (uPort 0) = false then (s.epReset.lanesIdle 0).setPortState 0 1 else s.epReset := by
  unfold State.perst State.epReset State.epCleared perstKeys
  simp only [hon, Bool.not_true, Bool.false_eq_true, if_false, if_true]

theorem perst_released {s : State} (hon : s.domOn 12 = true) (hperst : s.flag Fd.PCIE_STAT_PERST = true) :
    s.perst false = (s.set Fd.PCIE_STAT_PERST 0).modEp (fun e => { e with released := some s.time.now }) := by
  unfold State.perst
  simp only [hon, hperst, Bool.not_true, Bool.false_eq_true, if_false, if_true]

theorem regsOnly_epReset (s : State) : RegsOnly (fun k => k ∈ perstKeys) s.epCleared s.epReset :=
  regsOnly_trans (regsOnly_unitRegs perstKeys s.epCleared) (regsOnly_set _ Fd.PCIE_STAT_PERST 1 (by decide))

theorem pcieCtl_epReset (s : State) : s.epReset.regN Rg.PCIE_CTL = unitNat Rg.PCIE_CTL (s.regN Rg.PCIE_CTL) := by
  have hset : s.epReset.regN Rg.PCIE_CTL = (perstKeys.foldl State.unitReg s.epCleared).regN Rg.PCIE_CTL :=
    congrArg BitVec.toNat (reg_set_key _ Fd.PCIE_STAT_PERST 1 _ (by decide))
  have hlater : (perstKeys.foldl State.unitReg s.epCleared).regN Rg.PCIE_CTL = (s.epCleared.unitReg Rg.PCIE_CTL).regN Rg.PCIE_CTL := by
    unfold perstKeys
    rw [List.foldl_cons]
    exact regN_unitRegs_other (by decide) _
  have hctl : s.epCleared.regN Rg.PCIE_CTL = s.regN Rg.PCIE_CTL := congrArg BitVec.toNat (reg_of_regs (s := s) (t := s.epCleared) rfl _)
  rw [hset, hlater, regN_unitReg_same, hctl, Nat.mod_eq_of_lt unitNat_pcieCtl_lt]

theorem perstEvent_of_eyelet {s : State} {asserted : Bool} (hpin : s.eyeFn 14 1 = true) : s.perstEvent asserted = s.perst asserted :=
  if_pos hpin

theorem perstN_asserted_answers {s : State} (he : s.inEpisode = false) (hpin : s.eyeFn 14 1 = true) (hon : s.domOn 12 = true) :
    Answers (.perstN true) s (fun t =>
      t.flag Fd.PCIE_STAT_PERST = true ∧ t.regN Rg.PCIE_CTL = unitNat Rg.PCIE_CTL (s.regN Rg.PCIE_CTL) ∧ t.lanes.ep = {} ∧
      t.icu.msixPend = [] ∧ t.mem = s.mem) := by
  have hport : PortOnly s.epReset (s.perst true) := by
    rw [perst_asserted hon]
    split
    · exact portOnly_trans (portOnly_of_regsOnly (regsOnly_lanesIdle _ (by decide))) (portOnly_setPortState _ 1 (by decide))
    · exact portOnly_of_regsOnly (regsOnly_refl _ _)
  have hreset := regsOnly_epReset s
  refine answers_event (congrArg (event s) (perstEvent_of_eyelet hpin)) he ⟨?_, ?_, ?_, ?_, ?_⟩
  · rw [hport.flag rfl]
    exact flag_set_same _ 1 rfl (by decide)
  · rw [← pcieCtl_epReset s]
    exact congrArg BitVec.toNat (hport.reg rfl)
  · rw [hport.lanes, lanes_of_regsOnly hreset]
    rfl
  · rw [hport.msixPend, icu_of_regsOnly hreset]
    rfl
  · rw [hport.mem, mem_of_regsOnly hreset]
    rfl

theorem perstN_released_answers {s : State} (he : s.inEpisode = false) (hpin : s.eyeFn 14 1 = true) (hon : s.domOn 12 = true)
    (hperst : s.flag Fd.PCIE_STAT_PERST = true) :
    Answers (.perstN false) s (fun t =>
      t.flag Fd.PCIE_STAT_PERST = false ∧ t.lanes = { s.lanes with ep := { s.lanes.ep with released := some s.time.now } } ∧
      RegsOnly (fun k => k = Rg.PCIE_STAT) s { t with lanes := s.lanes }) := by
  have hevent := (perstEvent_of_eyelet (asserted := false) hpin).trans (perst_released hon hperst)
  refine answers_event (congrArg (event s) hevent) he ⟨?_, ?_, regsOnly_modEp _ (regsOnly_set s Fd.PCIE_STAT_PERST 0 rfl)⟩
  · rw [flag_modEp]
    exact flag_set_same s 0 rfl (show 21 + 1 ≤ 28 by decide)
  · rw [lanes_modEp, set_lanes]

/-! ## The link trains (R319) -/

theorem pcieLanes_le (w : Nat) : pcieLanes w ≤ 4 := by
  unfold pcieLanes
  split <;> decide

/-- PCIE_STAT with the link up at a generation and width. -/
def State.pcieTrained (s : State) (gen width : Nat) : State :=
  ((s.set Fd.PCIE_STAT_LINKUP 1).set Fd.PCIE_STAT_GEN gen).set Fd.PCIE_STAT_WIDTH width

theorem pcieStat_pcieTrained (s : State) {gen width : Nat} (hgen : gen < 8) (hwidth : width < 4) :
    (s.pcieTrained gen width).flag Fd.PCIE_STAT_LINKUP = true ∧ (s.pcieTrained gen width).get Fd.PCIE_STAT_GEN = gen ∧
    (s.pcieTrained gen width).get Fd.PCIE_STAT_WIDTH = width := by
  unfold State.pcieTrained
  refine ⟨?_, ?_, ?_⟩
  · rw [flag_set_apart _ Fd.PCIE_STAT_WIDTH Fd.PCIE_STAT_LINKUP _ (by decide) (by decide),
      flag_set_apart _ Fd.PCIE_STAT_GEN Fd.PCIE_STAT_LINKUP _ (by decide) (by decide), flag_set_same _ _ rfl (by decide)]
    rfl
  · rw [get_set_apart _ Fd.PCIE_STAT_WIDTH Fd.PCIE_STAT_GEN _ (by decide) (by decide), get_set_same _ _ _ (by decide)]
    exact Nat.mod_eq_of_lt hgen
  · rw [get_set_same _ _ _ (by decide)]
    exact Nat.mod_eq_of_lt hwidth

theorem pcieLinkUp_answers {s : State} {gen : BitVec 3} {width : BitVec 2} {taps : List (Byte × Byte × Byte)} (he : s.inEpisode = false)
    (hmode : s.isPcie = true) (hperst : s.flag Fd.PCIE_STAT_PERST = false) (hfence : s.fenced (uPort 0) = false)
    (hheld : s.unitInReset (uPort 0) = false) (hgen : 1 ≤ gen.toNat ∧ gen.toNat ≤ s.get Fd.PCIE_CTL_MAXGEN)
    (hwidth : width.toNat ≤ s.get Fd.PCIE_CTL_MAXW) :
    Answers (.pcieLinkUp gen width taps) s (fun t =>
      t.flag Fd.PCIE_STAT_LINKUP = true ∧ t.get Fd.PCIE_STAT_GEN = gen.toNat ∧ t.get Fd.PCIE_STAT_WIDTH = width.toNat ∧
      t.get (Fd.EYE_WP_STAT_STATE 0) = 2 ∧ t.mem = s.mem) := by
  obtain ⟨hlink, hg, hw⟩ := pcieStat_pcieTrained s gen.isLt width.isLt
  have hup (taps : List (Nat × Nat × Nat)) : s.linkUp gen.toNat width.toNat taps =
      ((s.pcieTrained gen.toNat width.toNat).setPortState 0 2).standardLanes 0 (pcieLanes width.toNat) true taps := by
    unfold State.linkUp
    exact if_pos (by simp [hmode, hperst, hfence, hheld, hgen, hwidth])
  have hlanes (taps : List (Nat × Nat × Nat)) := regsOnly_standardLanes ((s.pcieTrained gen.toNat width.toNat).setPortState 0 2)
    (p := 0) (lanes := pcieLanes width.toNat) true taps ⟨by decide, pcieLanes_le _⟩
  have hport (taps : List (Nat × Nat × Nat)) := portOnly_trans (portOnly_setPortState (s.pcieTrained gen.toNat width.toNat) (p := 0) 2
    (by decide)) (portOnly_of_regsOnly (hlanes taps))
  refine answers_event (congrArg (event s) (hup _)) he ⟨?_, ?_, ?_, ?_, ?_⟩
  · exact ((hport _).flag rfl).trans hlink
  · exact ((hport _).get rfl).trans hg
  · exact ((hport _).get rfl).trans hw
  · rw [get_of_reg ((hlanes _).2 _ (by unfold ofLanesKey; decide))]
    exact portState_setPortState _ (by decide)
  · rw [(hport _).mem]
    unfold State.pcieTrained
    rw [mem_set, mem_set, mem_set]

/-! ## The link goes down (R320) -/

/-- PCIE_STAT with the link gone. -/
def State.pcieLost (s : State) : State :=
  (((s.set Fd.PCIE_STAT_LINKUP 0).set Fd.PCIE_STAT_GEN 0).set Fd.PCIE_STAT_WIDTH 0).set Fd.PCIE_STAT_DLDOWN 1

theorem pcieStat_pcieLost (s : State) : s.pcieLost.flag Fd.PCIE_STAT_LINKUP = false ∧ s.pcieLost.get Fd.PCIE_STAT_GEN = 0 ∧
    s.pcieLost.get Fd.PCIE_STAT_WIDTH = 0 ∧ s.pcieLost.flag Fd.PCIE_STAT_DLDOWN = true := by
  unfold State.pcieLost
  refine ⟨?_, ?_, ?_, ?_⟩
  · rw [flag_set_apart _ Fd.PCIE_STAT_DLDOWN Fd.PCIE_STAT_LINKUP _ (by decide) (by decide),
      flag_set_apart _ Fd.PCIE_STAT_WIDTH Fd.PCIE_STAT_LINKUP _ (by decide) (by decide),
      flag_set_apart _ Fd.PCIE_STAT_GEN Fd.PCIE_STAT_LINKUP _ (by decide) (by decide), flag_set_same _ _ rfl (by decide)]
    rfl
  · rw [get_set_apart _ Fd.PCIE_STAT_DLDOWN Fd.PCIE_STAT_GEN _ (by decide) (by decide),
      get_set_apart _ Fd.PCIE_STAT_WIDTH Fd.PCIE_STAT_GEN _ (by decide) (by decide), get_set_same _ _ _ (by decide)]
    rfl
  · rw [get_set_apart _ Fd.PCIE_STAT_DLDOWN Fd.PCIE_STAT_WIDTH _ (by decide) (by decide), get_set_same _ _ _ (by decide)]
    rfl
  · rw [flag_set_same _ _ rfl (by decide)]
    rfl

theorem headOnly_pcieLost (s : State) : HeadOnly s s.pcieLost :=
  headOnly_trans (headOnly_trans (headOnly_trans (headOnly_set s _ _) (headOnly_set _ _ _)) (headOnly_set _ _ _)) (headOnly_set _ _ _)

theorem pcieDown_up {s : State} (hmode : s.isPcie = true) (hup : s.flag Fd.PCIE_STAT_LINKUP = true) :
    s.pcieDown = ((s.setPortState 0 1).pcieLost.lanesIdle 0).report (uPort 0) 0x2B 1 0 := by
  have hup' : (s.setPortState 0 1).flag Fd.PCIE_STAT_LINKUP = true :=
    ((portOnly_setPortState s (p := 0) 1 (by decide)).flag rfl).trans hup
  unfold State.pcieDown State.linkDown State.pcieGone
  simp only [hmode, hup, hup', Bool.and_self, if_true]
  rfl

theorem pcieLinkDown_answers {s : State} (he : s.inEpisode = false) (hmode : s.isPcie = true)
    (hup : s.flag Fd.PCIE_STAT_LINKUP = true) :
    Answers .pcieLinkDown s (fun t =>
      t.flag Fd.PCIE_STAT_LINKUP = false ∧ t.get Fd.PCIE_STAT_GEN = 0 ∧ t.get Fd.PCIE_STAT_WIDTH = 0 ∧
      t.flag Fd.PCIE_STAT_DLDOWN = true ∧ t.mem = s.mem ∧ Recorded s t (uPort 0) 0x2B 1 0) := by
  have hport := (portOnly_setPortState s (p := 0) 1 (by decide)).headOnly
  have hlost := headOnly_pcieLost (s.setPortState 0 1)
  have hlanes := portOnly_of_regsOnly (regsOnly_lanesIdle (s.setPortState 0 1).pcieLost (p := 0) (by decide))
  have honly := headOnly_trans (headOnly_trans hport hlost) hlanes.headOnly
  obtain ⟨hlink, hgen, hwidth, hdown⟩ := pcieStat_pcieLost (s.setPortState 0 1)
  have hstat := (pcieStat_report ((hlanes.flag rfl).trans hlink) (le_refl 1) 0x2B 0).trans (hlanes.reg rfl)
  refine answers_event (congrArg (event s) (pcieDown_up hmode hup)) he ⟨?_, ?_, ?_, ?_, ?_, ?_⟩
  · exact (flag_of_get (get_of_reg (f := Fd.PCIE_STAT_LINKUP) hstat)).trans hlink
  · exact (get_of_reg (f := Fd.PCIE_STAT_GEN) hstat).trans hgen
  · exact (get_of_reg (f := Fd.PCIE_STAT_WIDTH) hstat).trans hwidth
  · exact (flag_of_get (get_of_reg (f := Fd.PCIE_STAT_DLDOWN) hstat)).trans hdown
  · exact mem_report_of_headOnly honly _ _ _ _
  · exact recorded_of_headOnly honly _ _ _ _

end Sys2Proof.Machine
end

section
/-! Inbound accesses of PCI Express to Awl shared memory through the window (R31, R320, R510): the words that are read or written
there, and with them the obligation on the endpoint's events. -/
namespace Sys2Proof.Machine

/-- A range of Awl shared memory: `n` words from a whole word on. -/
abbrev SharedRange (a n : Nat) : Prop := a % 4 = 0 ∧ sharedBase ≤ a ∧ a + 4 * n ≤ sharedBase + 0x200000

theorem sharedRange_tail {a n : Nat} (h : SharedRange a (n + 1)) : SharedRange (a + 4) n := by
  obtain ⟨h4, hlo, hhi⟩ := h
  exact ⟨by omega, by omega, by omega⟩

theorem shared_of_range {a n : Nat} (h : SharedRange a (n + 1)) : sharedBase ≤ a ∧ a < sharedBase + 0x200000 := by
  obtain ⟨-, hlo, hhi⟩ := h
  omega

/-! ## One word -/

theorem sharedWaits_unlocked {s : State} (hlock : s.flag Fd.AWL_LOCK_HELD = false) (m : Nat) : s.sharedWaits m = false := by
  unfold State.sharedWaits
  rw [hlock, Bool.false_and]

theorem chipWrite_shared (s : State) (m : Nat) {a v : Nat} (h : sharedBase ≤ a ∧ a < sharedBase + 0x200000) (hv : v < 2 ^ 32) :
    s.chipWrite m a 15 (wordOf v) = s.setWord a v := by
  unfold State.chipWrite
  rw [if_neg (by decide), decode_shared h]
  dsimp only
  rw [mergeWord_wordOf _ hv]

theorem writeW_shared (b : Bus) {w : Who} (hw : w.regs = false) {a n v : Nat} (h : SharedRange a (n + 1)) (hv : v < 2 ^ 32)
    (hlock : b.s.flag Fd.AWL_LOCK_HELD = false) :
    b.writeW w a v = .ok [] { b with s := (b.s.setWord a v).wpBus w.m a 4 true } := by
  have hkey : b.s.needsKey w a v = false := by
    unfold State.needsKey
    rw [hw]
    rfl
  have hwrite : b.writeAt w a 15 (wordOf v) = .ok [] { b with s := b.s.setWord a v } := by
    unfold Bus.writeAt
    rw [decode_shared (shared_of_range h)]
    dsimp only
    rw [sharedWaits_unlocked hlock, chipWrites_aligned _ h.1, chipWrite_shared _ _ (shared_of_range h) hv]
    rfl
  unfold Bus.writeW
  rw [hkey, if_neg Bool.false_ne_true, Bus.write, hwrite]
  rfl

theorem lock_setWord (s : State) (a v : Nat) : (s.setWord a v).flag Fd.AWL_LOCK_HELD = s.flag Fd.AWL_LOCK_HELD := by
  unfold State.setWord
  rw [putLE_eq]
  rfl

/-! ## The words of a request -/

/-- What a store of words leaves in memory depends on memory alone. -/
theorem mem_putLE_of_mem (n : Nat) : ∀ {s t : State} (a v : Nat), t.mem = s.mem → (t.putLE a n v).mem = (s.putLE a n v).mem := by
  induction n with
  | zero => exact fun _ _ h => h
  | succ n ih =>
    intro s t a v h
    refine ih (a + 1) (v / 256) ?_
    unfold State.setByte
    rw [h]

theorem mem_setWords_of_mem (l : List Nat) : ∀ {s t : State} (a : Nat), t.mem = s.mem →
    (t.setWords a l).mem = (s.setWords a l).mem := by
  induction l with
  | nil => exact fun _ h => h
  | cons v l ih => exact fun a h => ih (a + 4) (mem_putLE_of_mem 4 a v h)

theorem pcieRead_shared {w : Who} {f : Nat → Nat} (n : Nat) : ∀ (b : Bus) (i a : Nat), SharedRange a n →
    (∀ j < n, f (i + j) = a + 4 * j) → b.s.flag Fd.AWL_LOCK_HELD = false →
    ∃ t, RegsOnly watchKey b.s t ∧ b.pcieRead w f i n = .ok (b.s.words a n) false { b with s := t } := by
  induction n with
  | zero => exact fun b _ _ _ _ _ => ⟨b.s, regsOnly_refl _ _, rfl⟩
  | succ n ih =>
    intro b i a hrange hf hlock
    have hsee := regsOnly_wpBus b.s w.m a 4 false
    have hf' : ∀ j < n, f (i + 1 + j) = a + 4 + 4 * j := fun j hj => by
      rw [show i + 1 + j = i + (j + 1) by omega, hf (j + 1) (by omega)]
      omega
    obtain ⟨t, ht, hrest⟩ := ih { b with s := b.s.wpBus w.m a 4 false } (i + 1) (a + 4) (sharedRange_tail hrange) hf'
      ((lock_of_regsOnly hsee).trans hlock)
    refine ⟨t, regsOnly_trans hsee ht, ?_⟩
    rw [Bus.pcieRead, show f i = a from hf 0 (by omega), readW_shared b w hrange.1 (shared_of_range hrange) hlock]
    dsimp only
    rw [hrest]
    dsimp only
    have hword : leNat (wordOf (b.s.word a)) = b.s.word a := leNat_wordOf (bytesLE_lt b.s a 4)
    rw [words_of_regsOnly hsee, hword]
    rfl

theorem pcieWrite_shared {w : Who} (hw : w.regs = false) {f : Nat → Nat} (l : List Nat) (hl : ∀ v ∈ l, v < 2 ^ 32) :
    ∀ (b : Bus) (i a : Nat), SharedRange a l.length → (∀ j < l.length, f (i + j) = a + 4 * j) →
    b.s.flag Fd.AWL_LOCK_HELD = false →
    ∃ t, t.mem = (b.s.setWords a l).mem ∧ b.pcieWrite w f i (l.map (fun v => (15, v))) = .ok [] false { b with s := t } := by
  induction l with
  | nil => exact fun b _ _ _ _ _ => ⟨b.s, rfl, rfl⟩
  | cons v l ih =>
    intro b i a hrange hf hlock
    have hf' : ∀ j < l.length, f (i + 1 + j) = a + 4 + 4 * j := fun j hj => by
      rw [show i + 1 + j = i + (j + 1) by omega, hf (j + 1) (by rw [List.length_cons]; omega)]
      omega
    have hlock' : ((b.s.setWord a v).wpBus w.m a 4 true).flag Fd.AWL_LOCK_HELD = false :=
      (lock_of_regsOnly (regsOnly_wpBus _ _ _ _ _)).trans ((lock_setWord b.s a v).trans hlock)
    obtain ⟨t, ht, hrest⟩ := ih (fun x hx => hl x (List.mem_cons_of_mem _ hx))
      { b with s := (b.s.setWord a v).wpBus w.m a 4 true } (i + 1) (a + 4) (sharedRange_tail hrange) hf' hlock'
    refine ⟨t, ht.trans (mem_setWords_of_mem l _ (mem_of_regsOnly (regsOnly_wpBus _ _ _ _ _))), ?_⟩
    rw [List.map_cons, Bus.pcieWrite, if_pos rfl, show f i = a from hf 0 (by rw [List.length_cons]; omega),
      writeW_shared b hw hrange (hl v List.mem_cons_self) hlock]
    exact hrest

/-! ## The window (R320) -/

/-- Word 0 of a request through the window. -/
def State.windowAddr (s : State) (off : Nat) : Nat := s.get Fd.PCIE_CTL_WINBASE * 2 ^ 28 + off

section
variable {s : State} {off k : Nat}

theorem pcieAddr_window (hoff : off < 2 ^ 28) (h : SharedRange (s.windowAddr off) k) {i : Nat} (hi : i < k) :
    s.pcieAddr true off i = s.windowAddr off + 4 * i := by
  obtain ⟨-, -, hhi⟩ := h
  have hbound : s.windowAddr off + 4 * i < 2 ^ 40 := by
    unfold sharedBase at hhi
    omega
  unfold State.pcieAddr State.windowAddr at *
  rw [if_pos rfl, Nat.mod_eq_of_lt hoff, Nat.mod_eq_of_lt hbound]

theorem pcieUnmapped_shared (s : State) (wr : Bool) {a : Nat} (h : sharedBase ≤ a ∧ a < sharedBase + 0x200000) :
    s.pcieUnmapped true wr a = false := by
  unfold State.pcieUnmapped State.sysUnmapped
  rw [decode_shared h]

theorem pcieUnmapped_window (wr : Bool) (hoff : off < 2 ^ 28) (h : SharedRange (s.windowAddr off) k) :
    (List.range k).find? (fun i => s.pcieUnmapped true wr (s.pcieAddr true off i)) = none := by
  refine List.find?_eq_none.mpr fun i hi => ?_
  have hlt := List.mem_range.mp hi
  have hshared : sharedBase ≤ s.windowAddr off + 4 * i ∧ s.windowAddr off + 4 * i < sharedBase + 0x200000 := by
    obtain ⟨-, hlo, hhi⟩ := h
    omega
  rw [pcieAddr_window hoff h hlt, pcieUnmapped_shared s wr hshared]
  exact Bool.false_ne_true

theorem windowAddr_mod (h4 : off % 4 = 0) : s.windowAddr off % 4 = 0 := by
  unfold State.windowAddr
  omega

end

theorem pcieInbound_read {s : State} {off n : Nat} {data : List (Nat × Nat)} {e : Env} (hup : s.pcieUp = true) (hd0 : s.epD0 = true)
    (h4 : off % 4 = 0) (hoff : off < 2 ^ 28) (h : SharedRange (s.windowAddr off) n) (hlock : s.flag Fd.AWL_LOCK_HELD = false) :
    (s.pcieInbound 1 false off n data e).bus = .values (s.words (s.windowAddr off) n) ∧
    (s.pcieInbound 1 false off n data e).mem = s.mem := by
  obtain ⟨t, ht, hread⟩ := pcieRead_shared (w := pcieWho true) (f := s.pcieAddr true off) n (s.busOf e) 0 _ h
    (fun j hj => by rw [Nat.zero_add]; exact pcieAddr_window hoff h hj) hlock
  have hdone : s.pcieInbound 1 false off n data e = ({ t with bus := .values (s.words (s.windowAddr off) n) } : State).dropBus 0x17 := by
    unfold State.pcieInbound
    simp only [hup, h4, hd0, beq_self_eq_true, bne_self_eq_false, Bool.not_true, Bool.or_self, Bool.false_eq_true, if_false,
      show ¬ (1 : Nat) = 3 by decide, show ¬ (1 : Nat) = 2 by decide, pcieUnmapped_window false hoff h]
    refine finish_of_done ?_
    rw [hread]
    rfl
  have hmem : t.mem = s.mem := mem_of_regsOnly ht
  rw [hdone]
  exact ⟨rfl, hmem⟩

theorem pcieInbound_write {s : State} {off n : Nat} {l : List Nat} {e : Env} (hup : s.pcieUp = true) (hd0 : s.epD0 = true)
    (h4 : off % 4 = 0) (hoff : off < 2 ^ 28) (h : SharedRange (s.windowAddr off) l.length) (hl : ∀ v ∈ l, v < 2 ^ 32)
    (hlock : s.flag Fd.AWL_LOCK_HELD = false) :
    (s.pcieInbound 1 true off n (l.map (fun v => (15, v))) e).bus = .done ∧
    (s.pcieInbound 1 true off n (l.map (fun v => (15, v))) e).mem = (s.setWords (s.windowAddr off) l).mem := by
  obtain ⟨t, ht, hwrite⟩ := pcieWrite_shared (w := pcieWho true) rfl (f := s.pcieAddr true off) l hl (s.busOf e) 0 _ h
    (fun j hj => by rw [Nat.zero_add]; exact pcieAddr_window hoff h hj) hlock
  have hdone : s.pcieInbound 1 true off n (l.map (fun v => (15, v))) e = ({ t with bus := .done } : State).dropBus 0x17 := by
    unfold State.pcieInbound
    simp only [hup, h4, hd0, beq_self_eq_true, bne_self_eq_false, Bool.not_true, Bool.or_self, Bool.false_eq_true, if_false, if_true,
      show ¬ (1 : Nat) = 3 by decide, show ¬ (1 : Nat) = 2 by decide, List.length_map, pcieUnmapped_window true hoff h]
    refine finish_of_done ?_
    rw [hwrite]
  rw [hdone]
  exact ⟨rfl, ht⟩

/-! ## The accesses as commands -/

theorem pcieUp_of_regsOnly {s t : State} (h : RegsOnly ofLanesKey s t) : t.pcieUp = s.pcieUp := by
  have hdom : t.domOn 12 = s.domOn 12 := by
    unfold State.domOn
    rw [get_of_reg (h.2 _ (not_ofLanesKey rfl))]
  have hmode : t.portMode 0 = s.portMode 0 := get_of_reg (h.2 _ (by unfold ofLanesKey; decide))
  have hlink : t.flag Fd.PCIE_STAT_LINKUP = s.flag Fd.PCIE_STAT_LINKUP := flag_of_get (get_of_reg (h.2 _ (not_ofLanesKey rfl)))
  have hperst : t.flag Fd.PCIE_STAT_PERST = s.flag Fd.PCIE_STAT_PERST := flag_of_get (get_of_reg (h.2 _ (not_ofLanesKey rfl)))
  have hepisode : t.inEpisode = s.inEpisode := (congrArg State.inEpisode h.1 :)
  unfold State.pcieUp State.isPcie
  rw [hdom, hmode, hlink, hperst, hepisode, hub_of_regsOnly h]

theorem inEpisode_of_pcieUp {s : State} (hup : s.pcieUp = true) : s.inEpisode = false := by
  unfold State.pcieUp at hup
  simp only [Bool.and_eq_true, Bool.not_eq_true'] at hup
  obtain ⟨⟨-, hepisode⟩, -⟩ := hup
  exact hepisode

section
variable {s : State} {off : BitVec 28} {n : Fin 1025} {data : List (BitVec 4 × Word)} {errs : List Nat} {e : Env}

/-- The errors that come with a request's traffic leave alone all that the request's access looks at. -/
theorem trafficErrs_pcie (hup : s.pcieUp = true) (hd0 : s.epD0 = true) (hlock : s.flag Fd.AWL_LOCK_HELD = false) :
    (s.trafficErrs 0 errs).pcieUp = true ∧ (s.trafficErrs 0 errs).epD0 = true ∧
    (s.trafficErrs 0 errs).flag Fd.AWL_LOCK_HELD = false ∧ (s.trafficErrs 0 errs).windowAddr off.toNat = s.windowAddr off.toNat := by
  have herrs := regsOnly_trafficErrs s (p := 0) errs (by decide)
  refine ⟨(pcieUp_of_regsOnly herrs).trans hup, ?_, ?_, ?_⟩
  · unfold State.epD0
    rw [lanes_of_regsOnly herrs]
    exact hd0
  · exact (flag_of_get (get_of_reg (herrs.2 _ (not_ofLanesKey rfl)))).trans hlock
  · unfold State.windowAddr
    rw [get_of_reg (f := Fd.PCIE_CTL_WINBASE) (herrs.2 _ (not_ofLanesKey rfl))]

theorem pcieInboundRead_answers (hup : s.pcieUp = true) (hd0 : s.epD0 = true) (h : SharedRange (s.windowAddr off.toNat) n)
    (h4 : off.toNat % 4 = 0) (hlock : s.flag Fd.AWL_LOCK_HELD = false) :
    Answers (.pcieInboundAccess 1 false off n data errs e) s (fun t =>
      t.bus = .values (s.words (s.windowAddr off.toNat) n) ∧ t.mem = s.mem) := by
  have herrs := regsOnly_trafficErrs s (p := 0) errs (by decide)
  obtain ⟨hup', hd0', hlock', haddr⟩ := trafficErrs_pcie (errs := errs) (off := off) hup hd0 hlock
  have hread (data : List (Nat × Nat)) := pcieInbound_read (n := n) (data := data) (e := e) hup' hd0' h4 off.isLt
    (by rw [haddr]; exact h) hlock'
  rw [haddr, words_of_regsOnly herrs, mem_of_regsOnly herrs] at hread
  exact answers_event (t := (s.trafficErrs 0 errs).pcieInbound 1 false off.toNat n (data.map fun d => (d.1.toNat, d.2.toNat)) e) rfl
    (inEpisode_of_pcieUp hup) (hread _)

/-- The words of a request whose enables are all set. -/
theorem pcieData_whole {data : List (BitVec 4 × Word)} (h : data.all (fun d => d.1 == 15#4) = true) :
    data.map (fun d => (d.1.toNat, d.2.toNat)) = (data.map (fun d => d.2.toNat)).map (fun v => (15, v)) := by
  rw [List.map_map]
  refine List.map_congr_left fun d hd => ?_
  have hbe : d.1 = 15#4 := beq_iff_eq.mp (List.all_eq_true.mp h d hd)
  rw [hbe]
  rfl

theorem pcieInboundWrite_answers (hup : s.pcieUp = true) (hd0 : s.epD0 = true) (h : SharedRange (s.windowAddr off.toNat) data.length)
    (h4 : off.toNat % 4 = 0) (hlock : s.flag Fd.AWL_LOCK_HELD = false) (hbe : data.all (fun d => d.1 == 15#4) = true) :
    Answers (.pcieInboundAccess 1 true off n data errs e) s (fun t =>
      t.bus = .done ∧ t.words (s.windowAddr off.toNat) data.length = data.map (fun d => d.2.toNat) ∧
      (∀ x, x < s.windowAddr off.toNat ∨ s.windowAddr off.toNat + 4 * data.length ≤ x → t.byte x = s.byte x)) := by
  have herrs := regsOnly_trafficErrs s (p := 0) errs (by decide)
  obtain ⟨hup', hd0', hlock', haddr⟩ := trafficErrs_pcie (errs := errs) (off := off) hup hd0 hlock
  have hlen : (data.map (fun d => d.2.toNat)).length = data.length := List.length_map _
  have hwords : ∀ v ∈ data.map (fun d => d.2.toNat), v < 2 ^ 32 := fun v hv => by
    obtain ⟨d, -, rfl⟩ := List.mem_map.mp hv
    exact d.2.isLt
  obtain ⟨hbus, hmem⟩ := pcieInbound_write (n := n) (e := e) hup' hd0' h4 off.isLt (by rw [haddr, hlen]; exact h) hwords hlock'
  rw [haddr] at hmem
  have hstored := hmem.trans (mem_setWords_of_mem _ _ (mem_of_regsOnly herrs))
  have hexec : exec (.pcieInboundAccess 1 true off n data errs e) s = event s ((s.trafficErrs 0 errs).pcieInbound 1 true off.toNat n
      ((data.map (fun d => d.2.toNat)).map (fun v => (15, v))) e) := by
    rw [← pcieData_whole hbe]
    rfl
  refine answers_event hexec (inEpisode_of_pcieUp hup) ⟨hbus, ?_, fun x hx => ?_⟩
  · rw [words_of_mem hstored, ← hlen]
    exact words_setWords _ hwords s _
  · rw [byte_of_mem hstored]
    exact byte_setWords_other _ s _ (by rw [hlen]; exact hx)

end

/-- Settles O32, one lemma for each of its events. -/
theorem pcieEventsComplete : Obligations.PcieEventsComplete := by
  unfold Obligations.PcieEventsComplete
  intro s gen width taps off n data errs e
  dsimp only
  refine ⟨perstN_asserted_answers, perstN_released_answers, pcieLinkUp_answers, pcieLinkDown_answers, ?_, ?_⟩
  · rintro hup hd0 h4 hin - hlock - -
    exact pcieInboundRead_answers hup hd0 ⟨windowAddr_mod h4, hin⟩ h4 hlock
  · rintro hup hd0 h4 hin - hlock - ⟨-, hbe⟩
    exact pcieInboundWrite_answers hup hd0 ⟨windowAddr_mod h4, hin⟩ h4 hlock hbe

end Sys2Proof.Machine
end

section
/-! The reactions after a command take no packet out of the device (R343, R350, R358, R364): the blocks' own operations do. -/
namespace Sys2Proof.Machine

/-- The packet waits in the device. -/
def Waiting (i : InP) (t : State) : Prop := i ∈ t.welt.inbox

/-- A report takes no packet out. -/
theorem reportClosed_waiting (i : InP) : ReportClosed (Waiting i) where
  set _ h _ := h
  loopEn h := h
  hub _ h _ := h
  icu _ h := h
  lanes _ h := h
  audio _ h := h
  cut _ h := h
  uncheck _ h := h
  prx _ h := h

namespace Waiting

variable {i : InP} {t : State}

theorem of_welt {u : State} (h : Waiting i t) (hu : u.welt = t.welt) : Waiting i u := by
  unfold Waiting
  rw [hu]
  exact h

theorem set (f : Fd) (x : Nat) (h : Waiting i t) : Waiting i (t.set f x) := h.of_welt rfl

theorem bump (f : Fd) (top : Nat) (h : Waiting i t) : Waiting i (t.bump f top) := SteadyClosed.ite (h.set _ _) h

theorem setRegN (k v : Nat) (h : Waiting i t) : Waiting i (t.setRegN k v) := h.of_welt rfl

theorem modPace (f : PaceS → PaceS) (h : Waiting i t) : Waiting i (t.modPace f) := h.of_welt rfl

theorem modPanel (f : PanelS → PanelS) (h : Waiting i t) : Waiting i (t.modPanel f) := h.of_welt rfl

theorem withPict (x : PictS) (h : Waiting i t) : Waiting i { t with pict := x } := h.of_welt rfl

theorem report (u code base detail : Nat) (h : Waiting i t) : Waiting i (t.report u code base detail) :=
  (reportClosed_waiting i).report u code base detail h

/-! ## Replies, admissions and arms (R101, R185, R398) -/

theorem answer (r : Req) (status : Nat) (body : List Nat) (h : Waiting i t) : Waiting i (t.answer r status body) :=
  SteadyClosed.ite (h.of_welt rfl) h

theorem setSlot (n st : Nat) (h : Waiting i t) : Waiting i (t.setSlot n st) := (h.set _ _).set _ _

theorem admitRegs (slot : Nat) (f : Option AdmitFail) (h : Waiting i t) : Waiting i (t.admitRegs slot f) :=
  (((h.setRegN _ _).setRegN _ _).setRegN _ _).setRegN _ _

theorem withLast (x : LastS) (h : Waiting i t) : Waiting i { t with last := x } := h.of_welt rfl

theorem admitWith (slot : Nat) (r : Req) (f : Option AdmitFail) (h : Waiting i t) : Waiting i (t.admitWith slot r f) := by
  have hslot (n : Nat) := ((h.withLast { t.last with admitting := none }).admitRegs slot f).setSlot slot n
  unfold State.admitWith State.admitReply
  dsimp only
  apply Waiting.answer
  split
  · exact hslot 1
  · exact (hslot 3).withLast _

theorem lastSettle (h : Waiting i t) : Waiting i t.lastSettle := by
  unfold State.lastSettle
  split
  · exact SteadyClosed.ite (h.admitWith _ _ _) h
  · exact h

theorem cancelArm (a : Arm) (n : Nat) (h : Waiting i t) : Waiting i (t.cancelArm a n) :=
  have hpend := SteadyClosed.foldl (P := Waiting i) (s := t.setArms (dropOne a t.pict.arms)) a.heads
    (f := fun b k => b.set (Fd.HD_COMMIT_PEND k) 0) (fun _ _ hb => hb.set _ _) (h.withPict _)
  Waiting.answer _ _ _ hpend

theorem armSettle (h : Waiting i t) : Waiting i t.armSettle := by
  unfold State.armSettle
  refine SteadyClosed.foldl _ (fun b a hb => ?_) h
  split
  · exact SteadyClosed.ite (hb.cancelArm a _) hb
  · exact hb

/-! ## Welt (R337–R350, R358, R364) -/

/-- A change of another part of Welt's hidden state. -/
theorem modWelt {f : WeltS → WeltS} (h : Waiting i t) (hf : (f t.welt).inbox = t.welt.inbox) : Waiting i (t.modWelt f) := by
  unfold Waiting State.modWelt
  dsimp only
  rw [hf]
  exact h

theorem weltDrop (p : Option Nat) (reason : Nat) (h : Waiting i t) : Waiting i (t.weltDrop p reason) := by
  cases p with
  | none => exact h
  | some q =>
    have hcount : Waiting i (t.weltCount q (16 + reason)) := h.bump _ _
    exact SteadyClosed.ite (Waiting.report _ _ _ _ (hcount.modWelt rfl)) hcount

theorem fcMessage (c : Nat) (first last : Bool) (h : Waiting i t) : Waiting i (t.fcMessage c first last) := by
  refine h.modWelt ?_
  split
  · rfl
  · split <;> rfl

theorem fcBoundary (pkt : WeltPkt) (h : Waiting i t) : Waiting i (t.fcBoundary pkt) := SteadyClosed.ite (h.fcMessage _ _ _) h

theorem weltForward (arr : Option Nat) (src : Nat) (pkt : WeltPkt) (h : Waiting i t) : Waiting i (t.weltForward arr src pkt) := by
  unfold State.weltForward
  split
  · exact h.weltDrop arr 0
  · exact SteadyClosed.ite (h.weltDrop arr 1) (h.modWelt rfl)

/-- A packet that is delivered joins those that wait. -/
theorem weltDeliver (arr : Option Nat) (pkt : WeltPkt) (stamp : Nat) (h : Waiting i t) : Waiting i (t.weltDeliver arr pkt stamp) := by
  have hbound := h.fcBoundary pkt
  have hjoin : Waiting i ((t.fcBoundary pkt).modWelt fun w => { w with inbox := w.inbox ++ [⟨arr, pkt, stamp⟩] }) :=
    List.mem_append_left _ hbound
  unfold State.weltDeliver
  dsimp only
  split
  · exact hbound.weltDrop _ _
  · refine SteadyClosed.ite (hbound.weltDrop _ _) ?_
    split
    · exact hjoin
    · exact hjoin
    · exact hjoin.fcMessage _ _ _
    · exact hjoin.fcMessage _ _ _

theorem weltSend (pkt : WeltPkt) (h : Waiting i t) : Waiting i (t.weltSend pkt) :=
  SteadyClosed.ite h (SteadyClosed.ite (h.weltDeliver none pkt 0) (h.weltForward none _ pkt))

theorem weltFlow (c kind dest dflow : Nat) (first last : Bool) (ws : List Nat) (h : Waiting i t) :
    Waiting i (t.weltFlow c kind dest dflow first last ws) :=
  ((h.modWelt rfl).weltSend _).fcMessage c first last

theorem weltOn (c : Nat) (ps : List (List Nat)) (h : Waiting i t) : Waiting i (t.weltOn c ps) := by
  unfold State.weltOn State.weltMessage
  exact SteadyClosed.foldl _ (fun _ _ ha => ha.weltFlow _ _ _ _ _ _ _) h

theorem weltPortLost (p : Nat) (h : Waiting i t) : Waiting i (t.weltPortLost p) := by
  have hdrops : Waiting i ((List.range ((tabGet [] t.welt.queue p).length + (tabGet [] t.welt.resend p).length)).foldl
      (fun a _ => a.weltDrop (some p) 6) t) := SteadyClosed.foldl _ (fun _ _ ha => ha.weltDrop _ _) h
  exact hdrops.modWelt rfl

theorem prxLost (k line : Nat) (h : Waiting i t) : Waiting i (t.prxLost k line) :=
  SteadyClosed.ite h (Waiting.report _ _ _ _ ((((h.set _ _).set _ _).set _ _).withPict _))

theorem prxPortLost (p : Nat) (h : Waiting i t) : Waiting i (t.prxPortLost p) := by
  unfold State.prxPortLost
  exact SteadyClosed.foldl _ (fun a k ha => SteadyClosed.ite (ha.prxLost k _) ha) h

theorem timeHoldover (h : Waiting i t) : Waiting i t.timeHoldover := 
  SteadyClosed.ite h (Waiting.report _ _ _ _ (Waiting.modWelt (((h.set _ _).set _ _).set _ _) rfl))

theorem weltSettle (h : Waiting i t) : Waiting i t.weltSettle := by
  have hports : Waiting i ((List.range 8).foldl (fun a p =>
      if a.weltHolds p then a else (if a.weltPortHeld p then a.weltPortLost p else a).prxPortLost p) t) :=
    SteadyClosed.foldl _ (fun _ p ha => SteadyClosed.ite ha (Waiting.prxPortLost p (SteadyClosed.ite (ha.weltPortLost p) ha))) h
  exact SteadyClosed.ite hports.timeHoldover hports

/-! ## Heads, Soles and the supply loop (R71, R690) -/

theorem dark (n y b : Nat) (h : Waiting i t) : Waiting i (t.dark n y b) := by
  unfold State.dark
  split
  · exact SteadyClosed.ite h (h.withPict _)
  · exact h.withPict _

theorem headSettle (n : Nat) (h : Waiting i t) : Waiting i (t.headSettle n) := SteadyClosed.ite ((h.dark _ _ _).dark _ _ _) h

theorem soleSettle (n : Nat) (h : Waiting i t) : Waiting i (t.soleSettle n) := by
  have hdark : Waiting i (match (t.soleS n).line with
      | some y => t.dark (t.soleS n).head y (match t.lineCtx (t.soleS n).head n y with | some c => c.lo | none => 0)
      | none => t) := by
    split
    · exact h.dark _ _ _
    · exact h
  have hnext := SteadyClosed.foldl (P := Waiting i) (t.soleS n).next (fun a y (ha : Waiting i a) =>
    ha.dark (t.soleS n).head y (match t.lineCtx (t.soleS n).head n y with | some c => c.lo | none => 0)) hdark
  exact SteadyClosed.ite (hnext.withPict _) h

theorem loopSettle (h : Waiting i t) : Waiting i t.loopSettle := by
  unfold State.loopSettle
  extract_lets s1 s2
  have hoff : Waiting i t.loopOff := ((((h.modPace _).set _ _).set _ _).modPace _)
  have hstop : Waiting i s1 := SteadyClosed.ite h (SteadyClosed.ite (h.modPace _) hoff)
  have hstart : Waiting i s2 := by
    unfold s2
    split
    · exact SteadyClosed.ite (hstop.modPace _) hstop
    · exact hstop
  exact SteadyClosed.ite (hstart.modPace _) hstart

/-! ## Insole and Shank (R611, R622–R626) -/

theorem feAbandon (n : Nat) (h : Waiting i t) : Waiting i (t.feAbandon n) :=
  SteadyClosed.ite h (((h.modPanel _).set _ _).bump _ _)

theorem feSettle (h : Waiting i t) : Waiting i t.feSettle := by
  unfold State.feSettle
  refine SteadyClosed.ite h (SteadyClosed.foldl _ (fun a n ha => ?_) h)
  exact SteadyClosed.ite ((ha.set _ _).feAbandon n) (ha.set _ _)

theorem panelEntry (detail : Nat) (h : Waiting i t) : Waiting i (t.panelEntry detail) :=
  Waiting.report _ _ _ _ ((reportClosed_waiting i).raise 220 h)

theorem shankLimits (h : Waiting i t) : Waiting i t.shankLimits := by
  unfold State.shankLimits
  extract_lets g tlim low fail hot sf s1 s2 s3
  have hflags : Waiting i s2 := ((h.modPanel _).set _ _).set _ _
  have hhot : Waiting i s3 := SteadyClosed.ite (hflags.panelEntry 0) hflags
  exact SteadyClosed.ite h (SteadyClosed.ite (hhot.panelEntry 1) hhot)

theorem thermostat (n : Nat) (h : Waiting i t) : Waiting i (t.thermostat n) :=
  SteadyClosed.ite (h.set _ _) (SteadyClosed.ite (h.set _ _) h)

theorem shankSettle (h : Waiting i t) : Waiting i t.shankSettle := by
  unfold State.shankSettle
  extract_lets s0 s1
  have hpwm : Waiting i s0 := SteadyClosed.ite (h.modPanel _) h
  have hclock : Waiting i s1 := (hpwm.set _ _).shankLimits
  exact SteadyClosed.ite (SteadyClosed.ite h (h.modPanel _))
    (SteadyClosed.foldl _ (fun _ n ha => SteadyClosed.ite ((ha.thermostat n).modPanel _) (ha.thermostat n)) hclock)

/-! ## Lace, Skiver and Tongue (R419, R550, R564, R568) -/

theorem laceClear (n : Nat) (h : Waiting i t) : Waiting i (t.laceClear n) :=
  Waiting.modWelt (t := t.setLace n {}) (h.of_welt rfl) rfl

theorem skiverClear (h : Waiting i t) : Waiting i t.skiverClear := Waiting.modWelt (t := t.setSkiver {}) (h.of_welt rfl) rfl

theorem laceSettle (h : Waiting i t) : Waiting i t.laceSettle := by
  unfold State.laceSettle
  exact SteadyClosed.foldl _ (fun _ _ ha => SteadyClosed.ite ha (ha.laceClear _)) h

theorem skHeadstop (h : Waiting i t) : Waiting i t.skHeadstop := by
  unfold State.skHeadstop State.skiverEnd
  dsimp only
  rw [if_neg (by decide)]
  exact Waiting.report _ _ _ _ ((reportClosed_waiting i).skiverStops 4 (h.set _ _).skiverClear)

theorem skiverSettle (h : Waiting i t) : Waiting i t.skiverSettle :=
  SteadyClosed.ite (SteadyClosed.ite h.skHeadstop h) (SteadyClosed.ite h h.skiverClear)

theorem sendReplies (h : Waiting i t) : Waiting i t.sendReplies := by
  unfold State.sendReplies
  refine SteadyClosed.foldl _ (fun a r ha => ?_) h
  have hdrop : Waiting i (a.dropReply r) := ha.of_welt rfl
  split
  · exact SteadyClosed.ite (hdrop.weltOn _ _) hdrop
  · exact ha

theorem tongueSettle (h : Waiting i t) : Waiting i t.tongueSettle := by
  unfold State.tongueSettle
  refine SteadyClosed.ite h (SteadyClosed.foldl _ (fun a src ha => ?_) h.sendReplies)
  split
  · exact ha
  · exact SteadyClosed.ite ha (ha.setRegN _ _)

/-- The reactions after a command take no packet out of the device. -/
theorem settle (h : Waiting i t) : Waiting i t.settle := by
  have hunits : Waiting i ((List.range 16).foldl (fun a n => (a.soleSettle n).headSettle n) t.lastSettle.armSettle.weltSettle) :=
    SteadyClosed.foldl _ (fun _ n ha => (ha.soleSettle n).headSettle n) h.lastSettle.armSettle.weltSettle
  exact hunits.loopSettle.feSettle.shankSettle.laceSettle.skiverSettle.tongueSettle

end Waiting

/-- A packet that waits where a command's answer ends waited in a state of which `P` holds, if none waits after the command. -/
theorem waiting_of_answers {c : Instr} {s u : State} {P : State → Prop} (h : Answers c s P) (hx : exec c s = .next u) :
    ∃ t, P t ∧ ∀ i, Waiting i t → Waiting i u := by
  obtain ⟨t, hp, ht | ht⟩ := h
  · cases hx.symm.trans ht
    exact ⟨u, hp, fun _ => id⟩
  · cases hx.symm.trans ht
    exact ⟨t, hp, fun _ => Waiting.settle⟩

/-! ## A report ring in the register window (R619, R616) -/

/-- A sense report of device 77 whose words 24 to 31, which make the ring's fourth beat, say EN and a wrong KEY. -/
def senseReport : WeltPkt :=
  ⟨6, 0, 9, 70, 77, true, true, 0, 32, 0x53480003#32 :: 0#32 :: List.replicate 30 0x8000001#32⟩

/-- Port 2 brought it. -/
def sensePacket : InP := ⟨some 2, senseReport, 0⟩

/-- A packet that waits beside it: a TIME packet. -/
def timePacket : InP := ⟨some 2, ⟨1, 0, 0, 1, 77, true, true, 0, 4, [0, 0, 0, 0]⟩, 0⟩

/-- Past boot, every power domain on, both packets waiting; the ring of sense receiver 1 starts at the register 0x60000, and the
fourth beat of a report's slot 0 begins with TIME_WD_CTL 4 (0x60060). -/
def sensingRing : State :=
  let s := ((({ State.reset with rst := {} } : State).set Fd.PWR_DOMON_ON 0xFFFFF).set Fd.SEC_BOOT_STATE 5).set (Fd.FC1_BIND 70) 1
  let r := s.setRegN (Rg.INS_SRX_BASE 1) 0xFF00060
  { r with welt := { r.welt with inbox := [sensePacket, timePacket] } }

/-- What the receiver leaves of it. -/
def sensed : State := sensingRing.senseIn ⟨[], []⟩

/-- Word 24 makes watchdog 4 expire (R650), and its reset, of warm reach, empties Welt (R424). -/
theorem inbox_sensed : sensed.welt.inbox = [] := by decide +kernel

theorem exec_sensed : exec (.sensePacketReceive ⟨[], []⟩) sensingRing = .next sensed := by
  have hepisode : sensingRing.inEpisode = false := by decide +kernel
  have hhub : sensed.hub.reacting = sensingRing.hub.reacting ∧ sensed.hub.stopping = sensingRing.hub.stopping := by decide +kernel
  show quiet sensingRing sensed = .next sensed
  unfold quiet calm
  rw [hepisode, if_pos hhub]
  rfl

/-- A run of accesses does not wait. -/
def RunOut.done : RunOut → Bool
  | .ok _ _ _ => true
  | .wait _ => false

theorem ok_of_done {r : RunOut} (h : r.done = true) : ∃ ws f b, r = .ok ws f b := by
  cases r with
  | ok ws f b => exact ⟨ws, f, b, rfl⟩
  | wait i => cases h

/-- The run of the report's beats. -/
def ringRun : RunOut :=
  let u := { sensingRing with welt := { sensingRing.welt with inbox := dropOne sensePacket sensingRing.welt.inbox } }
  (busOf u ⟨[], []⟩).ringReport (sensingRing.get (Fd.INS_SRX_BASE_ADDR (sensingRing.fcBind sensePacket.pkt.dflow.toNat % 2)) * 4096)
    (sensePacket.pkt.payload.map fun w => w.toNat) 0 4

/-- Refutes O40: a report's ring may lie in the register window, where a beat of it can make watchdog 4 expire. The reset that
follows takes the packets that wait, and not the report alone. -/
theorem not_weltReceiversComplete : ¬ Obligations.WeltReceiversComplete := by
  unfold Obligations.WeltReceiversComplete
  intro h
  obtain ⟨-, -, -, hreport⟩ := h sensingRing sensePacket ⟨[], []⟩
  obtain ⟨ws, f, b, hring⟩ := ok_of_done (r := ringRun) (by decide +kernel)
  have hanswers := hreport b ws f (by decide +kernel) (by decide +kernel) (by decide +kernel) (by decide +kernel) hring
  obtain ⟨t, ⟨-, hinbox, -⟩, hkept⟩ := waiting_of_answers hanswers exec_sensed
  have hleft : dropOne sensePacket sensingRing.welt.inbox = [timePacket] := by decide +kernel
  have hwaits : Waiting timePacket sensed := hkept timePacket (by rw [Waiting, hinbox, hleft]; exact .head _)
  rw [Waiting, inbox_sensed] at hwaits
  cases hwaits

end Sys2Proof.Machine
end

section
/-! What a fault report leaves alone of the fabric and of the debug port (R682–R692): Welt's hidden state, the registers of the
Welt block below the picture receivers', the registers of the debug block, and the step of a debugger. -/
namespace Sys2Proof.Machine

/-- The registers of the debug block, and those of the Welt block below WELT_PRXn_STAT. -/
def fabricKey (k : Nat) : Prop := 0x80000 ≤ k ∧ k < 0x90000 ∨ 0x300000 ≤ k ∧ k < 0x300080

/-- Those registers of `t`, its Welt hidden state and the debugger's step are as in `s`. -/
def FabricAs (s t : State) : Prop := t.welt = s.welt ∧ t.dbg.step = s.dbg.step ∧ ∀ k, fabricKey k → t.reg k = s.reg k

theorem fabricAs_refl (s : State) : FabricAs s s := ⟨rfl, rfl, fun _ _ => rfl⟩

theorem free_of_fabric {k : Nat} (hk : k < 0x80000 ∨ 0x90000 ≤ k ∧ k < 0x300000 ∨ 0x300080 ≤ k) : ¬ fabricKey k := by
  unfold fabricKey
  omega

namespace FabricAs

variable {s t : State}

theorem welt (h : FabricAs s t) : t.welt = s.welt := h.1

theorem step (h : FabricAs s t) : t.dbg.step = s.dbg.step := h.2.1

theorem get (h : FabricAs s t) {f : Fd} (hf : fabricKey f.key) : t.get f = s.get f := get_of_reg (h.2.2 _ hf)

theorem flag (h : FabricAs s t) {f : Fd} (hf : fabricKey f.key) : t.flag f = s.flag f := flag_of_reg (h.2.2 _ hf)

theorem trans {u : State} (h : FabricAs s t) (hu : FabricAs t u) : FabricAs s u :=
  ⟨hu.1.trans h.1, hu.2.1.trans h.2.1, fun k hk => (hu.2.2 k hk).trans (h.2.2 k hk)⟩

theorem rest {u : State} (h : FabricAs s t) (hr : u.regs = t.regs) (hw : u.welt = t.welt) (hd : u.dbg.step = t.dbg.step) : FabricAs s u :=
  h.trans ⟨hw, hd, fun k _ => reg_of_regs hr k⟩

theorem set {f : Fd} (x : Nat) (h : FabricAs s t) (hf : ¬ fabricKey f.key) : FabricAs s (t.set f x) :=
  ⟨h.1, h.2.1, fun k hk => (reg_set_key t f x k fun e => hf (e ▸ hk)).trans (h.2.2 k hk)⟩

/-- A write of a register between the kept ones. -/
theorem put {f : Fd} {k : Nat} (x : Nat) (h : FabricAs s t) (hf : f.key = k)
    (hk : k < 0x80000 ∨ 0x90000 ≤ k ∧ k < 0x300000 ∨ 0x300080 ≤ k) : FabricAs s (t.set f x) :=
  h.set x (hf ▸ free_of_fabric hk)

/-- A write of an entry of an array of registers above the kept ones. -/
theorem arr {f : Fd} {x b i : Nat} (h : FabricAs s t) (hf : f.key = b + 0x300080 + i) : FabricAs s (t.set f x) :=
  h.put x hf (by omega)

theorem withHub (x : Hub) (h : FabricAs s t) : FabricAs s { t with hub := x } := h.rest rfl rfl rfl
theorem withIcu (x : Icu) (h : FabricAs s t) : FabricAs s { t with icu := x } := h.rest rfl rfl rfl
theorem withLanes (x : LanesS) (h : FabricAs s t) : FabricAs s { t with lanes := x } := h.rest rfl rfl rfl
theorem withAudio (x : AudioS) (h : FabricAs s t) : FabricAs s { t with audio := x } := h.rest rfl rfl rfl
theorem withPict (x : PictS) (h : FabricAs s t) : FabricAs s { t with pict := x } := h.rest rfl rfl rfl
theorem withFetch (x : FetchS) (h : FabricAs s t) : FabricAs s { t with fetch := x } := h.rest rfl rfl rfl

theorem raise (n : Nat) (h : FabricAs s t) : FabricAs s (t.raise n) := SteadyClosed.ite h (h.withIcu _)

theorem bump {f : Fd} (top : Nat) (h : FabricAs s t) (hf : ¬ fabricKey f.key) : FabricAs s (t.bump f top) :=
  SteadyClosed.ite (h.set _ hf) h

/-! ## Fences (R690) -/

/-- A register of a port or a lane. -/
theorem eye {f : Fd} {k : Nat} (x : Nat) (h : FabricAs s t) (hf : f.key = k) (hk : k < 0x80000) : FabricAs s (t.set f x) :=
  h.put x hf (.inl hk)

theorem setPortState {p : Nat} (hp : p < 32) (st : Nat) (h : FabricAs s t) : FabricAs s (t.setPortState p st) :=
  SteadyClosed.ite h (FabricAs.raise _ (h.eye (k := 0x70004 + p * 8) _ rfl (by omega)))

theorem lockLost {n : Nat} (hn : n < 128) (h : FabricAs s t) : FabricAs s (t.lockLost n) := by
  have h1 := h.eye (f := Fd.EYE_L_STAT_LOCK n) 0 (k := 0x70104 + n * 0x10) rfl (by omega)
  have h2 := h1.eye (f := Fd.EYE_L_SCAN_BUSY n) 0 (k := 0x7010C + n * 0x10) rfl (by omega)
  exact SteadyClosed.ite (h2.eye _ (k := 0x7010C + n * 0x10) rfl (by omega)) h1

theorem setTaps {n : Nat} (hn : n < 128) (x : Nat × Nat × Nat) (h : FabricAs s t) : FabricAs s (t.setTaps n x) := by
  have hk : 0x70104 + n * 0x10 < 0x80000 := by omega
  exact ((h.eye _ (k := 0x70104 + n * 0x10) rfl hk).eye _ (k := 0x70104 + n * 0x10) rfl hk).eye _ (k := 0x70104 + n * 0x10) rfl hk

theorem laneIdle {n : Nat} (hn : n < 128) (h : FabricAs s t) :
    FabricAs s ((((t.lockLost n).set (Fd.EYE_L_STAT_SYNC n) 0).set (Fd.EYE_L_STAT_USE n) 0).setTaps n (0, 0, 0)) := by
  have hk : 0x70104 + n * 0x10 < 0x80000 := by omega
  exact (((h.lockLost hn).eye 0 (k := 0x70104 + n * 0x10) rfl hk).eye 0 (k := 0x70104 + n * 0x10) rfl hk).setTaps hn _

theorem lanesIdle {p : Nat} (hp : p < 32) (h : FabricAs s t) : FabricAs s (t.lanesIdle p) := by
  unfold State.lanesIdle
  exact keeps_foldl (fun n hn _ ha => ha.laneIdle (lane_lt hp hn)) h

theorem dpForget (p : Nat) (h : FabricAs s t) : FabricAs s (t.dpForget p) := by
  have hkey (f : Fd) (hf : f ∈ [Fd.DP_WP_STAT_TRAINED p, Fd.DP_WP_STAT_RATE p, Fd.DP_WP_STAT_LANES p, Fd.DP_WP_STAT_NOFIT p,
      Fd.DP_WP_STAT_ILRUSE p, Fd.DP_WP_STAT_ILRIDX p]) : f.key = 0x380020 + p * 4 := by
    simp only [List.mem_cons, List.not_mem_nil, or_false] at hf
    obtain rfl | rfl | rfl | rfl | rfl | rfl := hf <;> rfl
  unfold State.dpForget
  exact keeps_foldl (fun f hf _ ha => ha.put 0 (hkey f hf) (by omega)) h

theorem dpAbandon (p : Nat) (h : FabricAs s t) : FabricAs s (t.dpAbandon p) := h.withLanes _

theorem pcieGone (h : FabricAs s t) : FabricAs s t.pcieGone := by
  have hset {u : State} {f : Fd} (x : Nat) (hf : f.key = Rg.PCIE_STAT) (hu : FabricAs s u) : FabricAs s (u.set f x) :=
    hu.put x (k := 0x380004) hf (by omega)
  exact SteadyClosed.ite (FabricAs.lanesIdle (by omega) (hset _ rfl (hset _ rfl (hset _ rfl (hset _ rfl h))))) h

theorem coreFaulted (n : Nat) (h : FabricAs s t) : FabricAs s (t.coreFaulted n) :=
  have hlock := (h.put (f := Fd.AWL_LOCK_HELD) 0 (k := 0x400100) rfl (by omega)).put (f := Fd.AWL_LOCK_CORE) 0 (k := 0x400100) rfl (by omega)
  ((SteadyClosed.ite ((hlock.arr (b := 0xFFF84) rfl).arr (b := 0xFFF84) rfl) h).arr (b := 0xFFF84) rfl).withIcu _

theorem laceStops (ch st : Nat) (h : FabricAs s t) : FabricAs s (t.laceStops ch st) :=
  have h1 := (h.arr (f := Fd.LACE_CH_STAT_STATE ch) (x := st) (b := 0x17FF88) rfl).arr (f := Fd.LACE_CH_STAT_ERREV ch) (x := 1) (b := 0x17FF88) rfl
  SteadyClosed.ite (h1.raise _) h1

theorem skiverStops (st : Nat) (h : FabricAs s t) : FabricAs s (t.skiverStops st) :=
  have h1 := (h.put (f := Fd.SKIVER_STAT_STATE) st (k := 0x490008) rfl (by omega)).put (f := Fd.SKIVER_STAT_ERREV) 1 (k := 0x490008) rfl
    (by omega)
  SteadyClosed.ite (h1.raise _) h1

/-- A fence falls on a unit (R690). -/
theorem onFence {u : Nat} (hu : u % 1024 < 32) (h : FabricAs s t) : FabricAs s (t.onFence u) := by
  unfold State.onFence
  split
  · exact h.withPict _
  · have h1 := FabricAs.setPortState hu 3 ((h.dpAbandon (u % 1024)).lanesIdle hu |>.dpForget (u % 1024))
    exact SteadyClosed.ite h (SteadyClosed.ite h1.pcieGone h1)
  · exact SteadyClosed.ite (h.coreFaulted _) h
  · exact SteadyClosed.ite (h.laceStops _ _) h
  · exact SteadyClosed.ite (h.skiverStops _) h
  · exact (h.withAudio _).withAudio _
  · exact h.withFetch _
  · exact h.put 0 (k := 0x30040) rfl (by omega)
  · exact (h.put 0 (k := 0x100018) rfl (by omega)).withFetch _
  · exact h

/-- Records that join the reacting ones lift no fence. -/
theorem joinReacting (l : List (Nat × Nat)) (h : FabricAs s t) : FabricAs s (t.withReacting (t.hub.reacting ++ l)) := by
  have hkeep (u : Nat) : (t.fenced u && !({ t with hub := { t.hub with reacting := t.hub.reacting ++ l } } : State).fenced u) = false := by
    rw [Bool.and_eq_false_iff, Bool.not_eq_false']
    by_cases hu : t.fenced u = true
    · exact .inr (fenced_mono (s := t) (fun _ hx => List.mem_append_left l hx) hu)
    · exact .inl (Bool.not_eq_true _ ▸ hu)
  unfold State.withReacting
  refine keeps_foldl (fun u hu a ha => ?_) (h.withHub _)
  rw [hkeep]
  exact SteadyClosed.ite (ha.onFence (smallUnit_fenceUnits u hu).1) ha

theorem logRecord (r : FaultRec) (h : FabricAs s t) : FabricAs s (t.logRecord r) := by
  have hlost : ¬ fabricKey (lostField r.cls).key := by
    unfold lostField
    split <;> exact free_of_fabric (by decide)
  unfold State.logRecord
  dsimp only
  split
  · exact h.withHub _
  · exact (h.withHub _).bump _ hlost

theorem react (r : FaultRec) (h : FabricAs s t) : FabricAs s (t.react r) :=
  SteadyClosed.ite h (SteadyClosed.ite (SteadyClosed.ite h (h.joinReacting _)) (SteadyClosed.ite (h.withHub _) h))

theorem report (u code base detail : Nat) (h : FabricAs s t) : FabricAs s (t.report u code base detail) := (h.logRecord _).react _

end FabricAs

end Sys2Proof.Machine
end

section
/-! Fabric time's packets (R356–R358): what a SYNC, a DREQ and a DRESP do, and what their loss does. -/
namespace Sys2Proof.Machine

/-! ## Packets out (R356, R357) -/

theorem timePacket_queue (s : State) (p w0 stamp : Nat) (dest : Option Nat) (q : Nat) :
    (tabGet [] (s.timePacket p w0 stamp dest).welt.queue q).length = (tabGet [] s.welt.queue q).length + (if q = p then 1 else 0) := by
  unfold State.timePacket State.weltQueue State.modWelt
  dsimp only
  have hqueue : (if dest.isNone then s.draw else s).welt.queue = s.welt.queue := by split <;> rfl
  rw [hqueue]
  split
  · next h => rw [h, tabGet_insert_same, List.length_append, List.length_singleton]
  · next h =>
    unfold tabGet
    rw [tabFind_insert_other _ _ _ _ h]
    rfl

/-- A packet of fabric time changes Welt's hidden state, and a free value is drawn for its DEST. -/
theorem regs_timePacket (s : State) (p w0 stamp : Nat) (dest : Option Nat) :
    (s.timePacket p w0 stamp dest).regs = s.regs ∧ (s.timePacket p w0 stamp dest).mem = s.mem := by
  cases dest <;> exact ⟨rfl, rfl⟩

theorem withWelt_modWelt (s : State) (f : WeltS → WeltS) (w : WeltS) : { s.modWelt f with welt := w } = { s with welt := w } := rfl

/-- Where only Welt's hidden state changed. -/
theorem regsOnly_of_weltOnly {s t : State} (h : { t with welt := s.welt } = s) (p : Nat → Prop) :
    RegsOnly p s { t with welt := s.welt } := by
  rw [h]
  exact regsOnly_refl p s

theorem weltOnly_timePacket (s : State) (p w0 stamp d : Nat) (w : WeltS) :
    { s.timePacket p w0 stamp (some d) with welt := w } = { s with welt := w } := by
  unfold State.timePacket State.weltQueue
  rw [withWelt_modWelt, withWelt_modWelt]
  rfl

/-- What a SYNC of every downstream port adds to the queue of one (R356). -/
theorem queue_syncSend {s : State} {p : Nat} (hp : p < 8) (hdown : nbit (s.get Fd.WELT_TIMECTL_DOWNEN) p = true)
    (hup : s.weltUp p = true) (hf : s.fenced uSwitch = false) :
    (tabGet [] s.syncSend.welt.queue p).length = (tabGet [] s.welt.queue p).length + 1 := by
  have hfold (l : List Nat) (hl : l.Nodup) (a : State) :
      (tabGet [] (l.foldl (fun a q => if nbit (s.get Fd.WELT_TIMECTL_DOWNEN) q && s.weltUp q && !s.fenced uSwitch then
        a.timePacket q (s.timeHops * 2 ^ 25) 0 none else a) a).welt.queue p).length =
      (tabGet [] a.welt.queue p).length + (if p ∈ l then 1 else 0) := by
    induction l generalizing a with
    | nil => rfl
    | cons q l ih =>
      obtain ⟨hq, hl⟩ := List.nodup_cons.mp hl
      rw [List.foldl_cons, ih hl]
      by_cases hpq : p = q
      · subst hpq
        rw [hdown, hup, hf]
        simp [timePacket_queue, hq]
      · have hmem : p ∈ q :: l ↔ p ∈ l := by simp [hpq]
        simp only [hmem]
        split <;> simp [timePacket_queue, hpq]
  unfold State.syncSend
  rw [hfold _ List.nodup_range, if_pos (List.mem_range.mpr hp)]

theorem syncSend_answers {s : State} {p : Fin 8} (he : s.inEpisode = false) (hdown : nbit (s.get Fd.WELT_TIMECTL_DOWNEN) p = true)
    (hup : s.weltUp p = true) (hf : s.fenced uSwitch = false) :
    Answers .timeSyncSend s (fun t =>
      (tabGet [] t.welt.queue p).length = (tabGet [] s.welt.queue p).length + 1 ∧ t.regs = s.regs ∧ t.mem = s.mem) := by
  have hregs : s.syncSend.regs = s.regs ∧ s.syncSend.mem = s.mem := by
    unfold State.syncSend
    refine keeps_foldl (P := fun a => a.regs = s.regs ∧ a.mem = s.mem) (fun q _ a ⟨hr, hm⟩ => ?_) ⟨rfl, rfl⟩
    obtain ⟨hr', hm'⟩ := regs_timePacket a q (s.timeHops * 2 ^ 25) 0 none
    split
    · exact ⟨hr'.trans hr, hm'.trans hm⟩
    · exact ⟨hr, hm⟩
  exact answers_quiet rfl he ⟨queue_syncSend p.isLt hdown hup hf, hregs⟩

theorem dreqSend_answers {s : State} (he : s.inEpisode = false) (hfollow : s.timeFollows = true)
    (hup : s.weltUp (s.get Fd.WELT_TIMECTL_UPPORT) = true) (hf : s.fenced uSwitch = false) :
    Answers .timeDreqSend s (fun t =>
      (tabGet [] t.welt.queue (s.get Fd.WELT_TIMECTL_UPPORT)).length =
        (tabGet [] s.welt.queue (s.get Fd.WELT_TIMECTL_UPPORT)).length + 1 ∧ t.regs = s.regs ∧ t.mem = s.mem) := by
  have hsend : s.dreqSend = s.timePacket (s.get Fd.WELT_TIMECTL_UPPORT) (1 * 2 ^ 30) 0 none := by
    unfold State.dreqSend
    simp only [hfollow, hup, hf, Bool.not_false, Bool.and_self, if_true]
  refine answers_quiet rfl he ?_
  rw [hsend]
  exact ⟨(timePacket_queue _ _ _ _ _ _).trans (by rw [if_pos rfl]), regs_timePacket _ _ _ _ _⟩

/-! ## Packets in (R357) -/

/-- The state once a waiting packet is taken. -/
def State.took (s : State) (i : InP) : State := s.modWelt (fun w => { w with inbox := dropOne i w.inbox })

theorem takeIn_eq {s : State} {f : InP → Bool} {i : InP} (h : s.welt.inbox.find? f = some i) : s.takeIn f = some (i, s.took i) := by
  unfold State.takeIn
  rw [h]
  rfl

/-- Fabric time's packets are taken in a halt where WELTRUN lets Welt run (R713). -/
theorem weltRuns {s : State} (h : s.halted = false ∨ s.flag Fd.DBG_CTL_WELTRUN = true) :
    ¬ (s.halted && !s.flag Fd.DBG_CTL_WELTRUN) = true := by
  rcases h with h | h <;> simp [h]

section
variable {s : State} {i : InP} (hrun : s.halted = false ∨ s.flag Fd.DBG_CTL_WELTRUN = true)
include hrun

theorem timeIn_sync (h : s.welt.inbox.find? (fun j => j.pkt.kind == 1#4 && j.pkt.w 0 / 2 ^ 30 == 0) = some i) :
    s.timeIn 0 = (s.took i).syncIn i := by
  unfold State.timeIn
  rw [if_neg (weltRuns hrun), takeIn_eq h]
  rfl

theorem timeIn_dreq (h : s.welt.inbox.find? (fun j => j.pkt.kind == 1#4 && j.pkt.w 0 / 2 ^ 30 == 1) = some i) :
    s.timeIn 1 = (s.took i).dreqIn i := by
  unfold State.timeIn
  rw [if_neg (weltRuns hrun), takeIn_eq h]
  rfl

theorem timeIn_dresp (h : s.welt.inbox.find? (fun j => j.pkt.kind == 1#4 && j.pkt.w 0 / 2 ^ 30 == 2) = some i) :
    s.timeIn 2 = (s.took i).drespIn i := by
  unfold State.timeIn
  rw [if_neg (weltRuns hrun), takeIn_eq h]
  rfl

end

theorem dreqReceive_answers {s : State} {p : Fin 8} {i : InP} (he : s.inEpisode = false)
    (hrun : s.halted = false ∨ s.flag Fd.DBG_CTL_WELTRUN = true)
    (hi : s.welt.inbox.find? (fun j => j.pkt.kind == 1#4 && j.pkt.w 0 / 2 ^ 30 == 1) = some i) (hport : i.port = some p.val)
    (hup : s.weltUp p = true) :
    Answers .timeDreqReceive s (fun t =>
      (tabGet [] t.welt.queue p).length = (tabGet [] s.welt.queue p).length + 1 ∧ t.welt.inbox = dropOne i s.welt.inbox ∧
      RegsOnly (fun _ => False) s { t with welt := s.welt }) := by
  have hin : s.timeIn 1 = (s.took i).timePacket p (2 * 2 ^ 30) i.stamp (some i.pkt.src.toNat) := by
    rw [timeIn_dreq hrun hi]
    unfold State.dreqIn
    rw [hport]
    exact if_pos hup
  refine answers_quiet rfl he ?_
  rw [hin]
  refine ⟨(timePacket_queue _ _ _ _ _ _).trans (by rw [if_pos rfl]; rfl), rfl, regsOnly_of_weltOnly ?_ _⟩
  rw [weltOnly_timePacket]
  rfl

theorem drespReceive_answers {s : State} {x : Nat} {i : InP} (he : s.inEpisode = false)
    (hrun : s.halted = false ∨ s.flag Fd.DBG_CTL_WELTRUN = true) (hfollow : s.timeFollows = true)
    (hi : s.welt.inbox.find? (fun j => j.pkt.kind == 1#4 && j.pkt.w 0 / 2 ^ 30 == 2) = some i)
    (hport : i.port = some (s.get Fd.WELT_TIMECTL_UPPORT)) (ht1 : s.welt.t1 = some x) :
    Answers .timeDrespReceive s (fun t =>
      t.welt.delay = Int.fdiv ((i.stamp : Int) - (x : Int) - (i.pkt.w 3 : Int)) 2 ∧ t.welt.t1 = none ∧
      t.welt.inbox = dropOne i s.welt.inbox ∧ RegsOnly (fun _ => False) s { t with welt := s.welt }) := by
  have hin : s.timeIn 2 = (s.took i).modWelt (fun w => { w with
      t1 := none, delay := Int.fdiv (Int.ofNat i.stamp - Int.ofNat x - Int.ofNat (i.pkt.w 3)) 2 }) := by
    have htook : (s.took i).welt.t1 = some x := ht1
    have hfor : ((s.took i).timeFollows && i.port == some ((s.took i).get Fd.WELT_TIMECTL_UPPORT)) = true := by
      rw [hport]
      exact (Bool.and_eq_true _ _).mpr ⟨hfollow, beq_self_eq_true _⟩
    rw [timeIn_dresp hrun hi]
    unfold State.drespIn
    rw [htook]
    exact if_pos hfor
  refine answers_quiet rfl he ?_
  rw [hin]
  exact ⟨rfl, rfl, rfl, regsOnly_of_weltOnly (by rw [withWelt_modWelt, State.took, withWelt_modWelt]) _⟩

/-! ## A SYNC (R358) -/

/-- Beside registers from the compare channels on, only the time base and pending interrupts differ. -/
def TimeOnly (s t : State) : Prop :=
  { t with regs := s.regs, time := s.time, icu := s.icu } = s ∧ ∀ k, k < 0x1050000 → t.reg k = s.reg k

namespace TimeOnly

variable {s t : State}

theorem put {f : Fd} {x b i : Nat} (h : TimeOnly s t) (hf : f.key = b + 0x1050000 + i) : TimeOnly s (t.set f x) :=
  ⟨h.1, fun k hk => (reg_set_key t f x k (by omega)).trans (h.2 k hk)⟩

theorem withTime (x : TimeS) (h : TimeOnly s t) : TimeOnly s { t with time := x } := h

theorem raise (n : Nat) (h : TimeOnly s t) : TimeOnly s (t.raise n) := SteadyClosed.ite h h

theorem fireCmp (n : Nat) (step : Bool) (h : TimeOnly s t) : TimeOnly s (t.fireCmp n step) := by
  have h1 : TimeOnly s ((t.set (Fd.CMPCTL_FIRED n) 1).raise (240 + n)) := TimeOnly.raise _ (h.put (b := 0) rfl)
  have h2 := SteadyClosed.ite (c := step = true) (h1.put (f := Fd.CMPCTL_STEPF n) (x := 1) (b := 0) rfl) h1
  unfold State.fireCmp
  extract_lets s1 s2 tc x3 s3 x4 s4 p c c1
  have h3 : TimeOnly s s3 := SteadyClosed.ite (TimeOnly.withTime _ h2) h2
  have h4 : TimeOnly s s4 := h3.withTime _
  exact SteadyClosed.ite (TimeOnly.put (TimeOnly.put h4 (b := 0x10000) rfl) (b := 0x20000) rfl) (h4.put (b := 0) rfl)

/-- A step of the time base fires comparators (R651, R653). -/
theorem stepTime (x : Nat) (h : TimeOnly s t) : TimeOnly s (t.stepTime x) := by
  unfold State.stepTime
  exact SteadyClosed.foldl _ (fun _ n ha => SteadyClosed.ite (ha.fireCmp n true) ha) (h.withTime _)

end TimeOnly

/-- The departure that a SYNC states, in 1/65,536 of a tick (R357). -/
def InP.departed (i : InP) : Nat := (i.pkt.w 2 % 2 ^ 28 * 2 ^ 28 + i.pkt.w 1 % 2 ^ 28) * 65536 + i.pkt.w 0 % 65536

/-- The offset that a SYNC gives. -/
def State.syncOffset (s : State) (i : InP) : Int := (i.stamp : Int) - (i.departed : Int) - s.welt.delay

/-- A SYNC counts towards the lock, and what it makes of the count (R358). -/
abbrev State.syncNear (s : State) (i : InP) : Prop := -20480 ≤ s.syncOffset i ∧ s.syncOffset i ≤ 20480

def State.syncGood (s : State) (i : InP) : Nat :=
  if s.get Fd.WELT_TIMESTAT_STATE ≠ 2 ∧ s.syncNear i then (if s.get Fd.WELT_TIMESTAT_STATE = 1 then s.welt.good + 1 else 1) else 0

/-- OFFSET and the count once a SYNC is measured. -/
def State.syncMeasured (s : State) (i : InP) : State :=
  (s.set Fd.WELT_TIMESTAT_OFFSET (unsignedOf 17 (clampInt (-65536) 65535 (offsetNs (s.syncOffset i))))).modWelt
    (fun w => { w with good := s.syncGood i })

/-- The links from the master, one more than the SYNC says (R371). -/
def State.syncHops (s : State) (i : InP) : State := s.set Fd.WELT_TIMESTAT_HOPS (min 31 (nbits (i.pkt.w 0) 29 25 + 1))

/-- The step to fabric time. -/
def State.syncStep (s : State) (off : Int) (now : Nat) : State :=
  (s.stepTime (unsignedOf 56 (Int.fdiv (Int.ofNat (now * 65536) - off) 65536))).set Fd.WELT_TIMESTAT_STEP 1

/-- What a SYNC does with the lock and the time base. -/
def State.syncTaken (s : State) (i : InP) : State :=
  let a := s.syncMeasured i
  if s.get Fd.WELT_TIMESTAT_STATE = 2 then a.slew.syncHops i
  else if 8 ≤ s.syncGood i then (a.slew.set Fd.WELT_TIMESTAT_STATE 2).syncHops i
  else if s.syncOffset i < -4096000 ∨ 4096000 < s.syncOffset i then
    (a.set Fd.WELT_TIMESTAT_STATE 1).syncStep (s.syncOffset i) s.time.now
  else (a.set Fd.WELT_TIMESTAT_STATE 1).slew

theorem syncIn_eq {s : State} {i : InP} (hfollow : s.timeFollows = true) (hport : i.port = some (s.get Fd.WELT_TIMECTL_UPPORT)) :
    s.syncIn i = (s.syncTaken i).modWelt (fun w => { w with syncAt := some (s.syncTaken i).time.now }) := by
  have hmine : (!s.timeFollows || i.port != some (s.get Fd.WELT_TIMECTL_UPPORT)) = false := by
    rw [hfollow, hport]
    exact bne_self_eq_false _
  have hsame : s.syncTaken i = (let a := s.syncMeasured i
      if !decide (s.get Fd.WELT_TIMESTAT_STATE ≠ 2) then a.slew.syncHops i
      else if 8 ≤ s.syncGood i then (a.slew.set Fd.WELT_TIMESTAT_STATE 2).syncHops i
      else if s.syncOffset i < -4096000 ∨ 4096000 < s.syncOffset i then (a.set Fd.WELT_TIMESTAT_STATE 1).syncStep (s.syncOffset i) s.time.now
      else (a.set Fd.WELT_TIMESTAT_STATE 1).slew) := by
    simp only [State.syncTaken, ne_eq, decide_not, Bool.not_not, decide_eq_true_eq]
  rw [hsame]
  unfold State.syncIn
  rw [hmine]
  rfl

/-! ### Its register and the hidden state -/

theorem get_slew (s : State) (f : Fd) : s.slew.get f = s.get f := rfl

/-- A step of the time base keeps Welt's registers and its hidden state, and memory. -/
theorem get_syncStep (s : State) (off : Int) (now : Nat) {f : Fd} (hf : f.key < 0x1050000)
    (hapart : f.lo + f.w ≤ 25 ∨ 26 ≤ f.lo) : (s.syncStep off now).get f = s.get f := by
  unfold State.syncStep
  rw [get_set_apart _ Fd.WELT_TIMESTAT_STEP f _ (by decide) hapart]
  exact get_of_reg ((TimeOnly.stepTime (t := s) _ ⟨rfl, fun _ _ => rfl⟩).2 _ hf)

theorem syncStep_keeps (s : State) (off : Int) (now : Nat) :
    (s.syncStep off now).welt = s.welt ∧ (s.syncStep off now).mem = s.mem := by
  have h (x : Nat) := (TimeOnly.stepTime (s := s) (t := s) x ⟨rfl, fun _ _ => rfl⟩).1
  have hwelt (x : Nat) : (s.stepTime x).welt = s.welt := (congrArg State.welt (h x) :)
  have hmem (x : Nat) : (s.stepTime x).mem = s.mem := (congrArg State.mem (h x) :)
  unfold State.syncStep
  exact ⟨(set_welt _ _ _).trans (hwelt _), (set_mem _ _ _).trans (hmem _)⟩

theorem corr_slew (s : State) : -104 ≤ s.slew.welt.corr ∧ s.slew.welt.corr ≤ 104 := by
  have h : Config.freeValue s.fresh % 209 < 209 := Nat.mod_lt _ (by decide)
  unfold State.slew State.modWelt
  dsimp only
  rw [Int.ofNat_eq_natCast]
  omega

/-- Once a SYNC is measured: OFFSET and the count are its own. -/
structure SyncMeasured (s : State) (i : InP) (a : State) : Prop where
  offset : a.get Fd.WELT_TIMESTAT_OFFSET = unsignedOf 17 (clampInt (-65536) 65535 (offsetNs (s.syncOffset i))) % 2 ^ 17
  state : a.get Fd.WELT_TIMESTAT_STATE = s.get Fd.WELT_TIMESTAT_STATE
  good : a.welt.good = s.syncGood i
  time : a.time = s.time
  mem : a.mem = s.mem

theorem syncMeasured_measured (s : State) (i : InP) : SyncMeasured s i (s.syncMeasured i) where
  offset := (get_modWelt _ _ _).trans (get_set_same s Fd.WELT_TIMESTAT_OFFSET _ (by decide))
  state := (get_modWelt _ _ _).trans (get_set_apart s Fd.WELT_TIMESTAT_OFFSET _ _ (by decide) (by decide))
  good := rfl
  time := (modWelt_time _ _).trans (set_time _ _ _)
  mem := (modWelt_mem _ _).trans (set_mem _ _ _)

theorem welt_modWelt (s : State) (f : WeltS → WeltS) : (s.modWelt f).welt = f s.welt := rfl

theorem slew_good (s : State) : s.slew.welt.good = s.welt.good := by rw [State.slew, welt_modWelt, draw_welt]
theorem slew_time (s : State) : s.slew.time = s.time := (modWelt_time _ _).trans (draw_time s)
theorem slew_mem (s : State) : s.slew.mem = s.mem := (modWelt_mem _ _).trans (draw_mem s)
theorem syncHops_welt (s : State) (i : InP) : (s.syncHops i).welt = s.welt := set_welt _ _ _
theorem syncHops_time (s : State) (i : InP) : (s.syncHops i).time = s.time := set_time _ _ _
theorem syncHops_mem (s : State) (i : InP) : (s.syncHops i).mem = s.mem := set_mem _ _ _

theorem get_syncHops_apart (s : State) (i : InP) {f : Fd} (h : f.lo + f.w ≤ 19 ∨ 24 ≤ f.lo) : (s.syncHops i).get f = s.get f :=
  get_set_apart s Fd.WELT_TIMESTAT_HOPS f _ (by decide) h

theorem get_hops_syncHops (s : State) (i : InP) :
    (s.syncHops i).get Fd.WELT_TIMESTAT_HOPS = min 31 (i.pkt.w 0 / 2 ^ 25 % 2 ^ 5 + 1) :=
  (get_set_same s Fd.WELT_TIMESTAT_HOPS _ (by decide)).trans (Nat.mod_eq_of_lt (by
    show min 31 _ < 2 ^ 5
    omega))

/-- What a SYNC leaves: OFFSET, STATE, HOPS once locked, the count, the time base where it does not step, and memory. -/
structure SyncLeft (s : State) (i : InP) (st : Nat) (t : State) : Prop where
  offset : t.get Fd.WELT_TIMESTAT_OFFSET = unsignedOf 17 (clampInt (-65536) 65535 (offsetNs (s.syncOffset i))) % 2 ^ 17
  state : t.get Fd.WELT_TIMESTAT_STATE = st
  hops : st = 2 → t.get Fd.WELT_TIMESTAT_HOPS = min 31 (i.pkt.w 0 / 2 ^ 25 % 2 ^ 5 + 1)
  good : t.welt.good = s.syncGood i
  slewed : (-4096000 ≤ s.syncOffset i ∧ s.syncOffset i ≤ 4096000) ∨ s.get Fd.WELT_TIMESTAT_STATE = 2 →
    t.time = s.time ∧ -104 ≤ t.welt.corr ∧ t.welt.corr ≤ 104
  mem : t.mem = s.mem

section
variable {s a : State} {i : InP} (h : SyncMeasured s i a)
include h

theorem syncLeft_locked (hst : s.get Fd.WELT_TIMESTAT_STATE = 2) : SyncLeft s i 2 (a.slew.syncHops i) where
  offset := (get_syncHops_apart _ i (.inl (by decide))).trans ((get_slew a _).trans h.offset)
  state := (get_syncHops_apart _ i (.inr (by decide))).trans ((get_slew a _).trans (h.state.trans hst))
  hops _ := get_hops_syncHops _ i
  good := by rw [syncHops_welt, slew_good, h.good]
  slewed _ := by
    rw [syncHops_welt, syncHops_time, slew_time]
    exact ⟨h.time, corr_slew a⟩
  mem := by rw [syncHops_mem, slew_mem, h.mem]

theorem syncLeft_locks : SyncLeft s i 2 ((a.slew.set Fd.WELT_TIMESTAT_STATE 2).syncHops i) where
  offset := (get_syncHops_apart _ i (.inl (by decide))).trans
    ((get_set_apart _ Fd.WELT_TIMESTAT_STATE _ _ (by decide) (by decide)).trans ((get_slew a _).trans h.offset))
  state := (get_syncHops_apart _ i (.inr (by decide))).trans (get_set_same _ Fd.WELT_TIMESTAT_STATE _ (by decide))
  hops _ := get_hops_syncHops _ i
  good := by rw [syncHops_welt, set_welt, slew_good, h.good]
  slewed _ := by
    rw [syncHops_welt, syncHops_time, set_welt, set_time, slew_time]
    exact ⟨h.time, corr_slew a⟩
  mem := by rw [syncHops_mem, set_mem, slew_mem, h.mem]

theorem syncLeft_slews : SyncLeft s i 1 (a.set Fd.WELT_TIMESTAT_STATE 1).slew where
  offset := (get_slew _ _).trans ((get_set_apart a Fd.WELT_TIMESTAT_STATE _ _ (by decide) (by decide)).trans h.offset)
  state := (get_slew _ _).trans (get_set_same a Fd.WELT_TIMESTAT_STATE _ (by decide))
  hops h2 := absurd h2 (by decide)
  good := by rw [slew_good, set_welt, h.good]
  slewed _ := by
    rw [slew_time, set_time]
    exact ⟨h.time, corr_slew _⟩
  mem := by rw [slew_mem, set_mem, h.mem]

theorem syncLeft_steps (hfar : s.syncOffset i < -4096000 ∨ 4096000 < s.syncOffset i) (hst : s.get Fd.WELT_TIMESTAT_STATE ≠ 2) :
    SyncLeft s i 1 ((a.set Fd.WELT_TIMESTAT_STATE 1).syncStep (s.syncOffset i) s.time.now) where
  offset := (get_syncStep _ _ _ (by decide) (.inl (by decide))).trans
    ((get_set_apart a Fd.WELT_TIMESTAT_STATE _ _ (by decide) (by decide)).trans h.offset)
  state := (get_syncStep _ _ _ (by decide) (.inr (by decide))).trans (get_set_same a Fd.WELT_TIMESTAT_STATE _ (by decide))
  hops h2 := absurd h2 (by decide)
  good := by rw [(syncStep_keeps _ _ _).1, set_welt, h.good]
  slewed hnear := by omega
  mem := by rw [(syncStep_keeps _ _ _).2, set_mem, h.mem]

end

/-- The eighth SYNC in a row within the bounds locks (R358). -/
theorem syncGood_locks {s : State} {i : InP} (hst : s.get Fd.WELT_TIMESTAT_STATE ≠ 2) :
    8 ≤ s.syncGood i ↔ s.syncNear i ∧ s.get Fd.WELT_TIMESTAT_STATE = 1 ∧ 7 ≤ s.welt.good := by
  unfold State.syncGood
  by_cases hnear : s.syncNear i
  · rw [if_pos ⟨hst, hnear⟩]
    by_cases h1 : s.get Fd.WELT_TIMESTAT_STATE = 1
    · rw [if_pos h1]
      simp only [h1, true_and]
      omega
    · simp [h1]
  · rw [if_neg fun h => hnear h.2]
    simp [hnear]

theorem syncTaken_left (s : State) (i : InP) :
    SyncLeft s i (if s.get Fd.WELT_TIMESTAT_STATE = 2 ∨ s.syncNear i ∧ s.get Fd.WELT_TIMESTAT_STATE = 1 ∧ 7 ≤ s.welt.good then 2 else 1)
      (s.syncTaken i) := by
  have hmeasured := syncMeasured_measured s i
  by_cases hst : s.get Fd.WELT_TIMESTAT_STATE = 2
  · rw [if_pos (.inl hst)]
    unfold State.syncTaken
    rw [if_pos hst]
    exact syncLeft_locked hmeasured hst
  · by_cases hgood : 8 ≤ s.syncGood i
    · rw [if_pos (.inr ((syncGood_locks hst).mp hgood))]
      unfold State.syncTaken
      rw [if_neg hst, if_pos hgood]
      exact syncLeft_locks hmeasured
    · rw [if_neg fun h => hgood ((syncGood_locks hst).mpr (h.resolve_left hst))]
      unfold State.syncTaken
      rw [if_neg hst, if_neg hgood]
      split
      · next hfar => exact syncLeft_steps hmeasured hfar hst
      · exact syncLeft_slews hmeasured

theorem syncReceive_answers {s : State} {i : InP} (he : s.inEpisode = false)
    (hrun : s.halted = false ∨ s.flag Fd.DBG_CTL_WELTRUN = true) (hfollow : s.timeFollows = true)
    (hi : s.welt.inbox.find? (fun j => j.pkt.kind == 1#4 && j.pkt.w 0 / 2 ^ 30 == 0) = some i)
    (hport : i.port = some (s.get Fd.WELT_TIMECTL_UPPORT)) :
    Answers .timeSyncReceive s (fun t =>
      t.get Fd.WELT_TIMESTAT_OFFSET = unsignedOf 17 (clampInt (-65536) 65535 (Int.fdiv (s.syncOffset i * 16) 65536)) % 2 ^ 17 ∧
      (t.get Fd.WELT_TIMESTAT_STATE =
        (if s.get Fd.WELT_TIMESTAT_STATE = 2 ∨ s.syncNear i ∧ s.get Fd.WELT_TIMESTAT_STATE = 1 ∧ 7 ≤ s.welt.good then 2 else 1)) ∧
      (t.get Fd.WELT_TIMESTAT_STATE = 2 → t.get Fd.WELT_TIMESTAT_HOPS = min 31 (i.pkt.w 0 / 2 ^ 25 % 2 ^ 5 + 1)) ∧
      t.welt.good = s.syncGood i ∧
      (s.get Fd.WELT_TIMESTAT_STATE = 2 ∨ (-4096000 ≤ s.syncOffset i ∧ s.syncOffset i ≤ 4096000) →
        t.time = s.time ∧ -104 ≤ t.welt.corr ∧ t.welt.corr ≤ 104) ∧
      t.welt.syncAt = some t.time.now ∧ t.mem = s.mem) := by
  obtain ⟨hoffset, hstate, hhops, hgood, hslewed, hmem⟩ := syncTaken_left (s.took i) i
  refine answers_quiet rfl he ?_
  rw [timeIn_sync hrun hi, syncIn_eq (s := s.took i) hfollow hport]
  simp only [get_modWelt, modWelt_time, modWelt_mem]
  exact ⟨hoffset, hstate, fun h => hhops (hstate.symm.trans h), hgood, fun h => hslewed h.symm, rfl, hmem⟩

/-! ## No SYNC for four intervals (R358) -/

theorem syncLoss_eq {s : State} {x : Nat} (he : s.inEpisode = false) (hdom : s.domOn 12 = true) (hfollow : s.timeFollows = true)
    (hat : s.welt.syncAt = some x) (hlate : 2 ^ 16 ≤ (s.time.now + 2 ^ 56 - x) % 2 ^ 56) : s.syncLoss = s.timeHoldover := by
  unfold State.syncLoss timeMod
  rw [hat, he, hdom, hfollow]
  simp only [Bool.not_true, Bool.or_self, Bool.false_or, decide_eq_true_eq]
  exact if_neg (Nat.not_lt.mpr hlate)

/-- The registers and the hidden state of a device that enters HOLDOVER, before its record. -/
def State.heldOver (s : State) : State :=
  (((s.set Fd.WELT_TIMESTAT_STATE 3).set Fd.WELT_TIMESTAT_TLOSS 1).set Fd.WELT_TIMESTAT_HOPS 31).modWelt (fun w => { w with good := 0 })

theorem timeHoldover_eq {s : State} (hfollow : s.timeFollows = true)
    (hst : s.get Fd.WELT_TIMESTAT_STATE = 1 ∨ s.get Fd.WELT_TIMESTAT_STATE = 2) : s.timeHoldover = s.heldOver.report uSwitch 0x2E 1 0 := by
  have hslave : s.timeMaster = false := by
    unfold State.timeFollows at hfollow
    simpa using (Bool.and_eq_true_iff.mp hfollow).1
  have hlocked : (s.timeMaster || !(s.get Fd.WELT_TIMESTAT_STATE == 1 || s.get Fd.WELT_TIMESTAT_STATE == 2)) = false := by
    rcases hst with h | h <;> rw [hslave, h] <;> rfl
  unfold State.timeHoldover
  rw [hlocked]
  rfl

theorem get_heldOver (s : State) : s.heldOver.get Fd.WELT_TIMESTAT_STATE = 3 ∧ s.heldOver.get Fd.WELT_TIMESTAT_TLOSS = 1 ∧
    s.heldOver.get Fd.WELT_TIMESTAT_HOPS = 31 := by
  unfold State.heldOver
  refine ⟨(get_modWelt _ _ _).trans ?_, (get_modWelt _ _ _).trans ?_, (get_modWelt _ _ _).trans ?_⟩
  · rw [get_set_apart _ _ Fd.WELT_TIMESTAT_STATE _ (by decide) (by decide), get_set_apart _ _ Fd.WELT_TIMESTAT_STATE _ (by decide) (by decide)]
    exact get_set_same _ _ _ (by decide)
  · rw [get_set_apart _ _ Fd.WELT_TIMESTAT_TLOSS _ (by decide) (by decide)]
    exact get_set_same _ _ _ (by decide)
  · exact get_set_same _ _ _ (by decide)

theorem heldOver_keeps (s : State) : s.heldOver.hub = s.hub ∧ s.heldOver.time = s.time ∧ s.heldOver.mem = s.mem := by
  unfold State.heldOver
  exact ⟨by rw [modWelt_hub, set_hub, set_hub, set_hub], by rw [modWelt_time, set_time, set_time, set_time],
    by rw [modWelt_mem, set_mem, set_mem, set_mem]⟩

/-- A record depends on the fault hub and the time alone. -/
theorem recorded_report {s t : State} (hhub : t.hub = s.hub) (htime : t.time = s.time) (u code base detail : Nat) :
    Recorded s (t.report u code base detail) u code base detail := by
  have hfree : t.freeEntry = s.freeEntry := by
    unfold State.freeEntry
    rw [hhub]
  have hrec : t.recordOf u code base detail false true = s.recordOf u code base detail false true := by
    unfold State.recordOf State.unackOf
    rw [hhub, htime]
  exact fun _ hx => (log_reportG t u code base detail false true (hfree.trans hx)).trans (congrArg some hrec)

theorem syncLoss_answers {s : State} {x : Nat} (he : s.inEpisode = false) (hdom : s.domOn 12 = true) (hfollow : s.timeFollows = true)
    (hlate : s.welt.syncAt = some x ∧ 2 ^ 16 ≤ (s.time.now + 2 ^ 56 - x) % 2 ^ 56)
    (hst : s.get Fd.WELT_TIMESTAT_STATE = 1 ∨ s.get Fd.WELT_TIMESTAT_STATE = 2) :
    Answers .timeSyncLoss s (fun t =>
      t.get Fd.WELT_TIMESTAT_STATE = 3 ∧ t.flag Fd.WELT_TIMESTAT_TLOSS = true ∧ t.get Fd.WELT_TIMESTAT_HOPS = 31 ∧
      t.welt.good = 0 ∧ Recorded s t uSwitch 0x2E 1 0 ∧ t.mem = s.mem) := by
  have hkept := (fabricAs_refl s.heldOver).report uSwitch 0x2E 1 0
  have hkey : fabricKey Rg.WELT_TIMESTAT := by
    unfold fabricKey
    decide
  have hget {f : Fd} (hf : f.key = Rg.WELT_TIMESTAT) := hkept.get (f := f) (hf ▸ hkey)
  obtain ⟨hstate, htloss, hhops⟩ := get_heldOver s
  obtain ⟨hhub, htime, hmem⟩ := heldOver_keeps s
  refine answers_quiet rfl he ?_
  rw [syncLoss_eq he hdom hfollow hlate.1 hlate.2, timeHoldover_eq hfollow hst]
  refine ⟨(hget rfl).trans hstate, ?_, (hget rfl).trans hhops, congrArg WeltS.good hkept.welt, recorded_report hhub htime _ _ _ _,
    (mem_report _ _ _ _ _).trans hmem⟩
  rw [State.flag, hget rfl, htloss]
  rfl

/-- Settles O39, one lemma for each of its events. -/
theorem fabricTimeComplete : Obligations.FabricTimeComplete := by
  intro s p i
  exact ⟨fun he hdown ⟨hup, hf⟩ => syncSend_answers he hdown hup hf, fun he hfollow ⟨hup, hf⟩ => dreqSend_answers he hfollow hup hf,
    dreqReceive_answers, fun _ => drespReceive_answers, syncReceive_answers,
    fun _ => syncLoss_answers⟩

end Sys2Proof.Machine
end

section
/-! What a resume leaves alone (R186, R715): the debug registers and the debugger's step, once the halt's own are cleared. -/
namespace Sys2Proof.Machine

/-- The registers of the debug block and the debugger's step are as in `s`. -/
def DebugAs (s t : State) : Prop := t.dbg.step = s.dbg.step ∧ ∀ k, 0x80000 ≤ k → k < 0x90000 → t.reg k = s.reg k

theorem debugAs_refl (s : State) : DebugAs s s := ⟨rfl, fun _ _ _ => rfl⟩

namespace DebugAs

variable {s t : State}

theorem step (h : DebugAs s t) : t.dbg.step = s.dbg.step := h.1

theorem get (h : DebugAs s t) {f : Fd} (hlo : 0x80000 ≤ f.key) (hhi : f.key < 0x90000) : t.get f = s.get f := get_of_reg (h.2 _ hlo hhi)

theorem rest {u : State} (h : DebugAs s t) (hr : u.regs = t.regs) (hd : u.dbg.step = t.dbg.step) : DebugAs s u :=
  ⟨hd.trans h.1, fun k hlo hhi => (reg_of_regs hr k).trans (h.2 k hlo hhi)⟩

theorem of_fabric {u : State} (h : DebugAs s t) (hu : FabricAs t u) : DebugAs s u :=
  ⟨hu.step.trans h.1, fun k hlo hhi => (hu.2.2 k (.inl ⟨hlo, hhi⟩)).trans (h.2 k hlo hhi)⟩

/-- A write of a register of a block below. -/
theorem low {f : Fd} {x k : Nat} (h : DebugAs s t) (hf : f.key = k) (hk : k < 0x80000) : DebugAs s (t.set f x) :=
  ⟨h.1, fun j hlo hhi => (reg_set_key t f x j (by omega)).trans (h.2 j hlo hhi)⟩

/-- A write of an entry of an array of registers above the block. -/
theorem arr {f : Fd} {x b i : Nat} (h : DebugAs s t) (hf : f.key = b + 0x90000 + i) : DebugAs s (t.set f x) :=
  ⟨h.1, fun j hlo hhi => (reg_set_key t f x j (by omega)).trans (h.2 j hlo hhi)⟩

theorem report (u code base detail : Nat) (h : DebugAs s t) : DebugAs s (t.report u code base detail) :=
  h.of_fabric ((fabricAs_refl t).report u code base detail)

/-! ## Cores (R505–R507, R715) -/

theorem setCore (n : Nat) (c : CoreS) (h : DebugAs s t) : DebugAs s (t.setCore n c) := h.rest rfl rfl

theorem putHalves (l : List Nat) (a : Nat) (h : DebugAs s t) : DebugAs s (t.putHalves a l) := by
  induction l generalizing t a with
  | nil => exact h
  | cons v l ih =>
    refine ih _ ?_
    unfold State.putHalf
    rw [putLE_eq]
    exact h.rest rfl rfl

theorem writeFrame (n vec ret got oper : Nat) (h : DebugAs s t) : DebugAs s (t.writeFrame n vec ret got oper) := by
  unfold State.writeFrame
  extract_lets isp s1
  have h1 : DebugAs s s1 := (h.putHalves _ _).arr rfl
  exact (h1.setCore _ _).arr rfl

theorem setEinfo (n vec got oper epc : Nat) (h : DebugAs s t) : DebugAs s (t.setEinfo n vec got oper epc) :=
  (((h.arr rfl).arr rfl).arr rfl).arr rfl

theorem stopCore (n : Nat) (h : DebugAs s t) : DebugAs s (t.stopCore n) := SteadyClosed.ite (h.arr rfl) h

theorem boundary (n : Nat) (h : DebugAs s t) : DebugAs s (t.boundary n) := by
  have h1 := SteadyClosed.ite (c := t.dbg.step = some n) (h.rest (u := { t with dbg := { t.dbg with stepped := true } }) rfl rfl) h
  exact SteadyClosed.ite (h1.stopCore n) h1

theorem breakLock (n : Nat) (h : DebugAs s t) : DebugAs s (t.breakLock n) := by
  have h1 := SteadyClosed.ite (c := (t.flag Fd.AWL_LOCK_HELD && t.get Fd.AWL_LOCK_CORE == n) = true)
    (DebugAs.arr (f := Fd.AWL_LOCK_CORE) (x := 0) (h.arr (f := Fd.AWL_LOCK_HELD) (x := 0) (i := 0) rfl) (i := 0) rfl) h
  exact ((h1.setCore _ _).arr rfl).arr rfl

theorem frameFailure (n : Nat) (h : DebugAs s t) : DebugAs s (t.frameFailure n) :=
  have h1 := SteadyClosed.ite (c := t.coreLocked n = true) (h.breakLock n) h
  (h1.of_fabric ((fabricAs_refl _).coreFaulted n)).report _ _ _ _

theorem enter (n vec ret got oper epc : Nat) (h : DebugAs s t) : DebugAs s (t.enter n vec ret got oper epc) :=
  SteadyClosed.ite (((h.writeFrame _ _ _ _ _).setEinfo _ _ _ _ _).boundary n) (h.frameFailure n)

theorem resumeCore (n : Nat) (h : DebugAs s t) : DebugAs s (t.resumeCore n) :=
  have h1 : DebugAs s (t.set (Fd.AWL_STAT_STATE n) 2) := h.arr rfl
  SteadyClosed.ite h (SteadyClosed.ite ((h1.setCore _ _).enter _ _ _ _ _ _) h1)

/-! ## Heads and arms (R186, R246) -/

theorem withPict (x : PictS) (h : DebugAs s t) : DebugAs s { t with pict := x } := h.rest rfl rfl

theorem dark (n y b : Nat) (h : DebugAs s t) : DebugAs s (t.dark n y b) := by
  unfold State.dark
  split
  · exact SteadyClosed.ite h (h.withPict _)
  · exact h.withPict _

theorem haltLine (n y b : Nat) (h : DebugAs s t) : DebugAs s (t.haltLine n y b) := by
  have h1 : DebugAs s ((t.dark n y b).oncePerLine n y 21 (fun u => u)) := SteadyClosed.ite (h.dark n y b) ((h.dark n y b).withPict _)
  exact SteadyClosed.ite (DebugAs.report _ _ _ _ (h1.withPict _)) h1

theorem armHeads (el : List (Nat × Nat)) (h : DebugAs s t) : DebugAs s (t.armHeads el) := by
  unfold State.armHeads
  exact SteadyClosed.foldl _ (fun a e ha => SteadyClosed.ite (ha.arr rfl) ha) h

theorem headsResume (beam : List (Nat × Nat)) (h : DebugAs s t) : DebugAs s (t.headsResume beam) := by
  unfold State.headsResume
  extract_lets s1 s2
  have h1 : DebugAs s s1 := SteadyClosed.foldl _ (fun a n ha => SteadyClosed.ite (ha.haltLine _ _ _) ha) h
  have h2 : DebugAs s s2 := SteadyClosed.foldl _ (fun a n ha => ha.withPict _) h1
  exact SteadyClosed.foldl _ (fun a m ha => (ha.armHeads _).withPict _) h2

/-! ## The supply loop and the watchdogs (R72, R657) -/

theorem of_sendOnly {u : State} (h : DebugAs s t) (hu : SendOnly (fun k => k = Rg.PWR_PACESTAT) t u) : DebugAs s u := by
  have hstep : u.dbg.step = t.dbg.step := (congrArg (fun x : State => x.dbg.step) hu.1 :)
  refine ⟨hstep.trans h.1, fun k hlo hhi => (hu.2 k fun e => ?_).trans (h.2 k hlo hhi)⟩
  have hk : Rg.PWR_PACESTAT < 0x80000 := by decide
  omega

end DebugAs

/-- What the loop does once no transaction is in flight writes PWR_PACESTAT alone, where it goes on with a settle wait. -/
theorem sendOnly_loopAfter {s t : State} (h : LoopOnly (fun k => k = Rg.PWR_PACESTAT) s t) :
    SendOnly (fun k => k = Rg.PWR_PACESTAT) s (t.loopAfter State.loopWait) := by
  unfold State.loopAfter
  extract_lets on
  have hidle := sendOnly_of_loopOnly (h.loopIdle .settling 0 rfl)
  have hoff := sendOnly_of_loopOnly (h.loopOff rfl)
  have hwait := sendOnly_of_loopOnly (h.loopWait rfl)
  have hbegin := sendOnly_of_loopOnly (h.loopBegin rfl)
  refine SteadyClosed.ite (SteadyClosed.ite hidle hoff) ?_
  split
  · exact (sendOnly_of_loopOnly (h.modPace _)).loopPut _ _ rfl
  · exact SteadyClosed.ite hoff (SteadyClosed.ite hwait (SteadyClosed.ite hbegin hwait))

namespace DebugAs

variable {s t : State}

theorem loopResume (h : DebugAs s t) : DebugAs s t.loopResume := by
  have h1 := (loopOnly_refl (fun k => k = Rg.PWR_PACESTAT) t).modPace
    (fun p => { p with wait := t.flag Fd.PWR_PACECTL_EN && p.phase != .finalSend })
  exact h.of_sendOnly (SteadyClosed.ite (sendOnly_of_loopOnly h1) (sendOnly_loopAfter h1))

theorem wdThaw (h : DebugAs s t) : DebugAs s t.wdThaw := by
  unfold State.wdThaw
  refine keeps_foldl (fun n hn a ha => SteadyClosed.ite (SteadyClosed.ite ?_ ha) ha) h
  have hlt := List.mem_range.mp hn
  exact ha.low (k := 0x60044 + n * 8) rfl (by omega)

end DebugAs

/-! ## The end of a halt -/

/-- The halt's own registers and the step once they are cleared. -/
def State.haltCleared (s : State) : State :=
  { ((s.set Fd.DBG_RUN_HALTED 0).set Fd.DBG_RUN_HALTREQ 0).set Fd.DBG_RUN_CAUSE 0 with dbg := { s.dbg with step := none, stepped := false } }

theorem debugAs_thaw (s : State) (beam : List (Nat × Nat)) : DebugAs s.haltCleared (s.thaw beam) := by
  have hcores : DebugAs s.haltCleared ((List.range 4).foldl (fun a n => a.resumeCore n) s.haltCleared) :=
    SteadyClosed.foldl _ (fun _ n ha => ha.resumeCore n) (debugAs_refl _)
  exact SteadyClosed.ite (hcores.headsResume beam).loopResume.wdThaw hcores

end Sys2Proof.Machine
end

section
/-! Writes of DBG_RUN and DBG_CTL (R710, R713, R715, R716), and of the epoch (R360). -/
namespace Sys2Proof.Machine

/-! ## Who writes the debug block (R711) -/

/-- The debug port alone writes the debug block. -/
theorem debugger_of_taken {s : State} {m : Fin 32} {k v : Nat} (h : Taken s m k v) (hk : k ∈ [Rg.DBG_RUN, Rg.DBG_CTL]) : m = 0x1C := by
  obtain ⟨-, -, -, -, hr⟩ := h
  have hplain (o : Nat) : s.writeRefused o k v = if o == 7 then none else some 8 := by
    have hawl : ownAwl o k = false := by
      unfold ownAwl Rg.AWL_CFG Rg.AWL_ISP Rg.AWL_ISPLIM
      simp only [List.mem_cons, List.not_mem_nil, or_false] at hk
      rcases hk with rfl | rfl <;> simp [Rg.DBG_RUN, Rg.DBG_CTL] <;> omega
    simp only [List.mem_cons, List.not_mem_nil, or_false] at hk
    unfold State.writeRefused
    rw [hawl]
    rcases hk with rfl | rfl <;> rfl
  rw [hplain] at hr
  have howner : ownerOfMaster m = 7 := by
    by_contra hne
    rw [if_neg (by simpa using hne)] at hr
    cases hr
  clear hr
  revert m
  decide

/-- What follows the debug port's own write: it has its answer, and no bus watchpoint sees the access (R720). -/
def State.portDone (w : State) : State := ({ w with bus := .done } : State).dropBus 0x1C

theorem get_portDone (w : State) (f : Fd) : w.portDone.get f = w.get f := rfl

theorem flag_portDone (w : State) (f : Fd) : w.portDone.flag f = w.flag f := rfl

theorem dbg_portDone (w : State) : w.portDone.dbg = w.dbg := rfl

theorem accessOnly_portDone {p : Nat → Prop} {s w : State} (h : RegsOnly p s w) : AccessOnly p s w.portDone :=
  ⟨congrArg (fun x : State => { x with bus := s.bus, welt := { x.welt with reqs := s.welt.reqs } }) h.1, fun k hk => h.2 k fun hp => hk (.inl hp)⟩

/-- The same where the debugger's own state is set aside. -/
theorem accessOnly_portDone_dbg {p : Nat → Prop} {s w : State} (h : RegsOnly p s { w with dbg := s.dbg }) :
    AccessOnly p s { w.portDone with dbg := s.dbg } :=
  ⟨congrArg (fun x : State => { x with bus := s.bus, welt := { x.welt with reqs := s.welt.reqs } }) h.1, fun k hk => h.2 k fun hp => hk (.inl hp)⟩

/-- A write of the debug block, from what its register's own write leaves. -/
theorem debugWrite_writes {c : Instr} {s w : State} {m : Fin 32} {k : Nat} {v : BitVec 28} {e : Env} {P : State → Prop}
    (hx : exec c s = wrote s m k v e) (h : Taken s m k v.toNat) (hk : k ∈ [Rg.DBG_RUN, Rg.DBG_CTL])
    (hw : s.writeDbg 7 k v.toNat e.beam = w) (hP : P w.portDone) : Writes c s P := by
  obtain rfl := debugger_of_taken h hk
  have hkeys : ∀ j ∈ [Rg.DBG_RUN, Rg.DBG_CTL], j / 0x10000 = 8 ∧ j ≠ Rg.SEC_FUSECMD := by decide
  have hblock := hkeys k hk
  have hreg : s.writeReg 7 k v.toNat { beam := e.beam } = w := by
    unfold State.writeReg
    rw [hblock.1]
    exact hw
  refine writes_of hx h hblock.2 ?_
  have hdone : s.afterWrite ((0x1C : Fin 32) : Nat) k v.toNat e = (s.writeReg 7 k v.toNat { beam := e.beam }).portDone := rfl
  rw [hdone, hreg]
  exact hP

theorem writeDbg_run (s : State) (o v : Nat) (beam : List (Nat × Nat)) : s.writeDbg o Rg.DBG_RUN v beam = s.writeRun v beam := by
  unfold State.writeDbg
  rw [if_neg (by decide), if_pos rfl]

theorem writeDbg_ctl (s : State) (o v : Nat) (beam : List (Nat × Nat)) : s.writeDbg o Rg.DBG_CTL v beam = s.writeDbgCtl v beam := by
  unfold State.writeDbg
  rw [if_pos rfl]

/-! ## DBG_RUN's own write (R722) -/

theorem dbgRun_fields : (specAt Rg.DBG_RUN).map RegSpec.fields =
    some [⟨27, 27, .wo, .val 0, .val 0, .kept⟩, ⟨26, 26, .wo, .val 0, .val 0, .kept⟩, ⟨25, 25, .wo, .val 0, .val 0, .kept⟩,
      ⟨24, 23, .rw, .val 0, .val 0, .kept⟩, ⟨22, 22, .ro, .val 0, .val 0, .kept⟩, ⟨21, 21, .ro, .val 0, .val 0, .kept⟩,
      ⟨20, 20, .w1c, .val 0, .val 0, .kept⟩, ⟨19, 19, .w1c, .val 0, .val 0, .kept⟩, ⟨18, 18, .w1c, .val 0, .val 0, .kept⟩,
      ⟨17, 14, .ro, .val 0, .val 0, .kept⟩, ⟨13, 12, .ro, .val 0, .val 0, .kept⟩, ⟨11, 9, .ro, .val 0, .val 0, .kept⟩,
      ⟨8, 8, .w1c, .val 0, .val 0, .kept⟩] := by
  decide

/-- The fields below HALTED take less than its bit. -/
theorem dbgRun_low {a b c d e f g h : Nat} (ha : a < 2) (hb : b < 2) (hc : c < 2) (hd : d < 16) (he : e < 4) (hf : f < 8) (hg : g < 2)
    (hh : h = a * 2 ^ 20 + b * 2 ^ 19 + c * 2 ^ 18 + d * 2 ^ 14 + e * 2 ^ 12 + f * 2 ^ 9 + g * 2 ^ 8) : h < 2 ^ 21 := by omega

theorem land_bit_lt (x y : Nat) : Nat.land (x % 2 ^ 1) y < 2 := Nat.lt_of_le_of_lt Nat.and_le_left (Nat.mod_lt _ (by decide))

/-- HALTREQ and HALTED are read only. -/
theorem dbgRun_writeByAccess (old v : Nat) : writeByAccess Rg.DBG_RUN old v % 2 ^ 28 / 2 ^ 21 % 4 = old / 2 ^ 21 % 4 := by
  rw [writeByAccess_of_fields dbgRun_fields]
  have hlow := dbgRun_low (land_bit_lt (old / 2 ^ 20) (Nat.xor (v / 2 ^ 20 % 2 ^ 1) (2 ^ 1 - 1)))
    (land_bit_lt (old / 2 ^ 19) (Nat.xor (v / 2 ^ 19 % 2 ^ 1) (2 ^ 1 - 1)))
    (land_bit_lt (old / 2 ^ 18) (Nat.xor (v / 2 ^ 18 % 2 ^ 1) (2 ^ 1 - 1))) (Nat.mod_lt (old / 2 ^ 14) (by decide))
    (Nat.mod_lt (old / 2 ^ 12) (by decide)) (Nat.mod_lt (old / 2 ^ 9) (by decide))
    (land_bit_lt (old / 2 ^ 8) (Nat.xor (v / 2 ^ 8 % 2 ^ 1) (2 ^ 1 - 1))) rfl
  simp only [List.foldl, writeField, nbits, Nat.reduceAdd, Nat.reduceSub, Nat.reducePow, Nat.zero_mul, Nat.zero_add] at hlow ⊢
  omega

theorem flags_plainWrite_run (s : State) (v : Nat) :
    (s.plainWrite Rg.DBG_RUN v).flag Fd.DBG_RUN_HALTREQ = s.flag Fd.DBG_RUN_HALTREQ ∧
      (s.plainWrite Rg.DBG_RUN v).halted = s.halted := by
  have hreg := (congrArg (fun x => x / 2 ^ 21 % 4) (regN_plainWrite_same s Rg.DBG_RUN v)).trans (dbgRun_writeByAccess _ v)
  unfold State.halted
  rw [flag_eq_nbit _ rfl, flag_eq_nbit _ rfl, flag_eq_nbit _ rfl, flag_eq_nbit _ rfl]
  show nbit ((s.plainWrite Rg.DBG_RUN v).regN Rg.DBG_RUN) 22 = nbit (s.regN Rg.DBG_RUN) 22 ∧
    nbit ((s.plainWrite Rg.DBG_RUN v).regN Rg.DBG_RUN) 21 = nbit (s.regN Rg.DBG_RUN) 21
  generalize (s.plainWrite Rg.DBG_RUN v).regN Rg.DBG_RUN = a at *
  generalize s.regN Rg.DBG_RUN = b at *
  unfold nbit
  constructor <;> congr 1 <;> omega

/-! ## HALT (R713) -/

/-- A core stops where its lock bit is 0. -/
def State.stopUnlocked (s : State) (n : Nat) : State := if s.coreLocked n then s else s.stopCore n

/-- A core's register. -/
def isStat (k : Nat) : Prop := ∃ n : Fin 4, k = Rg.AWL_STAT n

theorem regsOnly_stopUnlocked (s : State) (n : Nat) : RegsOnly (fun k => k = Rg.AWL_STAT n) s (s.stopUnlocked n) :=
  regsOnly_ite (regsOnly_refl _ s) (regsOnly_ite (regsOnly_set s (Fd.AWL_STAT_STATE n) 3 rfl) (regsOnly_refl _ s))

theorem coreState_stopUnlocked (s : State) (n : Nat) :
    (s.stopUnlocked n).coreState n = if s.coreState n = 2 ∧ s.coreLocked n = false then 3 else s.coreState n := by
  have hset : (s.set (Fd.AWL_STAT_STATE n) 3).coreState n = 3 := get_set_same s (Fd.AWL_STAT_STATE n) 3 (show 25 + 3 ≤ 28 by decide)
  unfold State.stopUnlocked State.stopCore
  cases hlock : s.coreLocked n with
  | true => simp
  | false => by_cases hrun : s.coreState n = 2 <;> simp [hrun, hset]

theorem coreState_stopOther (s : State) {n j : Nat} (h : n ≠ j) :
    (s.stopUnlocked j).coreState n = s.coreState n ∧ (s.stopUnlocked j).coreLocked n = s.coreLocked n := by
  have hreg := (regsOnly_stopUnlocked s j).2 (Rg.AWL_STAT n) (by
    unfold Rg.AWL_STAT
    omega)
  exact ⟨get_of_reg (f := Fd.AWL_STAT_STATE n) hreg, flag_of_reg (f := Fd.AWL_STAT_LOCKED n) hreg⟩

/-- Each of a list of cores stops. -/
theorem coreState_stops {l : List Nat} (hl : l.Nodup) (s : State) (n : Nat) : (l.foldl State.stopUnlocked s).coreState n =
    if n ∈ l ∧ s.coreState n = 2 ∧ s.coreLocked n = false then 3 else s.coreState n := by
  induction l generalizing s with
  | nil => simp
  | cons j l ih =>
    obtain ⟨hj, hl⟩ := List.nodup_cons.mp hl
    rw [List.foldl_cons, ih hl]
    by_cases hn : n = j
    · subst hn
      simp [hj, coreState_stopUnlocked]
    · obtain ⟨hstate, hlock⟩ := coreState_stopOther s hn
      simp [hn, hstate, hlock]

theorem regsOnly_stops (s : State) : RegsOnly isStat s ((List.range 4).foldl State.stopUnlocked s) := by
  refine keeps_foldl (P := RegsOnly isStat s) (fun n hn a ha => regsOnly_trans ha ?_) (regsOnly_refl _ s)
  obtain ⟨hsame, hregs⟩ := regsOnly_stopUnlocked a n
  exact ⟨hsame, fun k hk => hregs k fun e => hk ⟨⟨n, List.mem_range.mp hn⟩, e⟩⟩

/-- The request of a HALT, before the cores stop. -/
def State.haltAsked (s : State) : State := (s.set Fd.DBG_RUN_HALTREQ 1).set Fd.DBG_RUN_CAUSE 1

theorem haltRequest_eq {s : State} (hh : s.halted = false) (hq : s.flag Fd.DBG_RUN_HALTREQ = false) :
    s.haltRequest 0 = (List.range 4).foldl State.stopUnlocked s.haltAsked := by
  have hcause : Nat.lor 0 (2 ^ 0) = 1 := rfl
  unfold State.haltRequest State.haltAsked
  simp only [hh, hq, Bool.false_eq_true, if_false, hcause]
  rfl

/-- DBG_RUN as a HALT leaves it. -/
theorem run_halt {s : State} (hh : s.halted = false) :
    let t := (List.range 4).foldl State.stopUnlocked s.haltAsked
    t.halted = false ∧ t.flag Fd.DBG_RUN_HALTREQ = true ∧ t.get Fd.DBG_RUN_CAUSE = 1 := by
  have hreg : ((List.range 4).foldl State.stopUnlocked s.haltAsked).reg Rg.DBG_RUN = s.haltAsked.reg Rg.DBG_RUN := by
    refine (regsOnly_stops s.haltAsked).2 _ ?_
    rintro ⟨n, hn⟩
    unfold Rg.DBG_RUN Rg.AWL_STAT at hn
    omega
  refine ⟨(flag_of_reg (f := Fd.DBG_RUN_HALTED) hreg).trans ?_, (flag_of_reg (f := Fd.DBG_RUN_HALTREQ) hreg).trans ?_,
    (get_of_reg (f := Fd.DBG_RUN_CAUSE) hreg).trans (get_set_same _ _ _ (by decide))⟩
  · unfold State.haltAsked
    rw [flag_set_apart _ _ _ _ (by decide) (by decide), flag_set_apart _ _ _ _ (by decide) (by decide)]
    exact hh
  · unfold State.haltAsked
    rw [flag_set_apart _ _ _ _ (by decide) (by decide), flag_set_same _ _ rfl (by decide)]
    rfl

/-- What a HALT leaves of DBG_RUN's write: the error of a STEP that comes with it. -/
def State.stepRefused (s : State) (v : Nat) : State := if nbit v 25 then s.set Fd.DBG_RUN_ERR 1 else s

theorem writeRun_halt {s : State} {v : Nat} (beam : List (Nat × Nat)) (hv : nbit v 27 = true) (hh : s.halted = false)
    (hq : s.flag Fd.DBG_RUN_HALTREQ = false) :
    s.writeRun v beam = ((List.range 4).foldl State.stopUnlocked (s.plainWrite Rg.DBG_RUN v).haltAsked).stepRefused v := by
  obtain ⟨hreq, hhalt⟩ := flags_plainWrite_run s v
  have hstops := haltRequest_eq (hhalt.trans hh) (hreq.trans hq)
  have hhalted : ((List.range 4).foldl State.stopUnlocked (s.plainWrite Rg.DBG_RUN v).haltAsked).halted = false :=
    (run_halt (hhalt.trans hh)).1
  unfold State.writeRun
  simp only [hv, hreq, hq, hstops, hhalted, if_true, Bool.false_eq_true, if_false, Bool.false_and]
  rfl

theorem regsOnly_stepRefused (s : State) (v : Nat) : RegsOnly (fun k => k = Rg.DBG_RUN) s (s.stepRefused v) :=
  regsOnly_ite (regsOnly_set s Fd.DBG_RUN_ERR 1 rfl) (regsOnly_refl _ s)

theorem get_stepRefused (s : State) (v : Nat) {f : Fd} (h : f.lo + f.w ≤ 8 ∨ 9 ≤ f.lo) : (s.stepRefused v).get f = s.get f := by
  unfold State.stepRefused
  split
  · exact get_set_apart s Fd.DBG_RUN_ERR f 1 (by decide) h
  · rfl

theorem halt_regsOnly (s : State) (v : Nat) :
    RegsOnly (fun k => k = Rg.DBG_RUN ∨ isStat k) s
      (((List.range 4).foldl State.stopUnlocked (s.plainWrite Rg.DBG_RUN v).haltAsked).stepRefused v) := by
  have hplain : RegsOnly (fun k => k = Rg.DBG_RUN ∨ isStat k) s (s.plainWrite Rg.DBG_RUN v) := regsOnly_plainWrite s _ (.inl rfl)
  have hasked := regsOnly_trans (regsOnly_trans hplain (regsOnly_set _ Fd.DBG_RUN_HALTREQ 1 (.inl rfl)))
    (regsOnly_set _ Fd.DBG_RUN_CAUSE 1 (.inl rfl))
  have hstops := regsOnly_stops (s.plainWrite Rg.DBG_RUN v).haltAsked
  have hrefused := regsOnly_stepRefused ((List.range 4).foldl State.stopUnlocked (s.plainWrite Rg.DBG_RUN v).haltAsked) v
  exact regsOnly_trans (regsOnly_trans hasked ⟨hstops.1, fun k hk => hstops.2 k fun hs => hk (.inr hs)⟩)
    ⟨hrefused.1, fun k hk => hrefused.2 k fun hr => hk (.inl hr)⟩

/-- A core that a HALT's write finds, as it was. -/
theorem core_haltAsked (s : State) (v n : Nat) :
    (s.plainWrite Rg.DBG_RUN v).haltAsked.coreState n = s.coreState n ∧
      (s.plainWrite Rg.DBG_RUN v).haltAsked.coreLocked n = s.coreLocked n := by
  have hne : Rg.AWL_STAT n ≠ Rg.DBG_RUN := by
    unfold Rg.AWL_STAT Rg.DBG_RUN
    omega
  have hreg : (s.plainWrite Rg.DBG_RUN v).haltAsked.reg (Rg.AWL_STAT n) = s.reg (Rg.AWL_STAT n) :=
    (reg_set_key _ _ _ _ hne).trans ((reg_set_key _ _ _ _ hne).trans (reg_setRegN_other s _ hne))
  exact ⟨get_of_reg (f := Fd.AWL_STAT_STATE n) hreg, flag_of_reg (f := Fd.AWL_STAT_LOCKED n) hreg⟩

theorem coreState_stepRefused (s : State) (v n : Nat) : (s.stepRefused v).coreState n = s.coreState n := by
  refine get_of_reg (f := Fd.AWL_STAT_STATE n) ((regsOnly_stepRefused s v).2 _ fun hn => ?_)
  unfold Rg.DBG_RUN at hn
  change 0x400004 + n * 0x40 = _ at hn
  omega

section
variable {m : Fin 32} {s : State} {v : BitVec 28} {e : Env}

theorem debugHalt_writes (h : Taken s m Rg.DBG_RUN v.toNat) (hv : nbit v.toNat 27 = true) (hh : s.halted = false)
    (hq : s.flag Fd.DBG_RUN_HALTREQ = false) :
    Writes (.debugHalt m v e) s (fun t =>
      t.flag Fd.DBG_RUN_HALTREQ = true ∧ t.get Fd.DBG_RUN_CAUSE = 1 ∧
      (∀ n : Fin 4, t.coreState n = (if s.coreState n = 2 ∧ s.coreLocked n = false then 3 else s.coreState n)) ∧
      (AccessOnly (fun k => k = Rg.DBG_RUN ∨ ∃ n : Fin 4, k = Rg.AWL_STAT n) s t)) := by
  obtain ⟨-, hreq, hcause⟩ := run_halt ((flags_plainWrite_run s v.toNat).2.trans hh)
  refine debugWrite_writes rfl h (by simp) ((writeDbg_run _ _ _ _).trans (writeRun_halt e.beam hv hh hq)) ⟨?_, ?_, fun n => ?_, ?_⟩
  · exact (flag_portDone _ _).trans ((flag_of_get (get_stepRefused _ _ (.inr (by decide)))).trans hreq)
  · exact (get_portDone _ _).trans ((get_stepRefused _ _ (.inr (by decide))).trans hcause)
  · obtain ⟨hstate, hlock⟩ := core_haltAsked s v.toNat n
    have hstop := coreState_stops (List.nodup_range (n := 4)) (s.plainWrite Rg.DBG_RUN v.toNat).haltAsked n
    simp only [List.mem_range, n.isLt, true_and, hstate, hlock] at hstop
    exact (get_portDone _ (Fd.AWL_STAT_STATE n)).trans ((coreState_stepRefused _ _ n).trans hstop)
  · exact accessOnly_portDone (halt_regsOnly s v.toNat)

/-! ## RESUME and STEP (R715, R716) -/

theorem reg_withDbg (x : State) (d : DebugS) (k : Nat) : ({ x with dbg := d } : State).reg k = x.reg k := rfl

theorem regsOnly_withDbg {p : Nat → Prop} {x y : State} (h : RegsOnly p x y) (d : DebugS) :
    RegsOnly p x { ({ y with dbg := d } : State) with dbg := x.dbg } :=
  ⟨congrArg (fun z : State => { z with dbg := x.dbg }) h.1, h.2⟩

theorem haltCleared_flags (s : State) : s.haltCleared.halted = false ∧ s.haltCleared.flag Fd.DBG_RUN_HALTREQ = false := by
  unfold State.halted State.haltCleared
  rw [flag_of_reg (f := Fd.DBG_RUN_HALTED) (reg_withDbg _ _ _), flag_of_reg (f := Fd.DBG_RUN_HALTREQ) (reg_withDbg _ _ _)]
  constructor
  · rw [flag_set_apart _ _ _ _ (by decide) (by decide), flag_set_apart _ _ _ _ (by decide) (by decide), flag_set_same _ _ rfl (by decide)]
    rfl
  · rw [flag_set_apart _ _ _ _ (by decide) (by decide), flag_set_same _ _ rfl (by decide)]
    rfl

/-- The end of a halt. -/
theorem thaw_flags (s : State) (beam : List (Nat × Nat)) :
    (s.thaw beam).halted = false ∧ (s.thaw beam).flag Fd.DBG_RUN_HALTREQ = false ∧ (s.thaw beam).dbg.step = none := by
  have hkept := debugAs_thaw s beam
  obtain ⟨hhalted, hreq⟩ := haltCleared_flags s
  exact ⟨(flag_of_get (hkept.get (f := Fd.DBG_RUN_HALTED) (by decide) (by decide))).trans hhalted,
    (flag_of_get (hkept.get (f := Fd.DBG_RUN_HALTREQ) (by decide) (by decide))).trans hreq, hkept.step.trans rfl⟩

theorem writeRun_resume {x : Nat} (beam : List (Nat × Nat)) (h27 : nbit x 27 = false) (h26 : nbit x 26 = true)
    (h25 : nbit x 25 = false) (hh : s.halted = true) : s.writeRun x beam = (s.plainWrite Rg.DBG_RUN x).thaw beam := by
  have hhalted := (flags_plainWrite_run s x).2.trans hh
  unfold State.writeRun
  simp only [h27, h26, h25, hhalted, Bool.and_self, Bool.false_eq_true, if_false, if_true]

theorem debugResume_writes (h : Taken s m Rg.DBG_RUN v.toNat) (h27 : nbit v.toNat 27 = false) (h26 : nbit v.toNat 26 = true)
    (h25 : nbit v.toNat 25 = false) (hh : s.halted = true) :
    Writes (.debugResume m v e) s (fun t => t.halted = false ∧ t.flag Fd.DBG_RUN_HALTREQ = false ∧ t.dbg.step = none) := by
  obtain ⟨hhalted, hreq, hstep⟩ := thaw_flags (s.plainWrite Rg.DBG_RUN v.toNat) e.beam
  exact debugWrite_writes rfl h (by simp) ((writeDbg_run _ _ _ _).trans (writeRun_resume e.beam h27 h26 h25 hh))
    ⟨(flag_portDone _ _).trans hhalted, (flag_portDone _ _).trans hreq, (congrArg DebugS.step (dbg_portDone _)).trans hstep⟩

theorem writeRun_step {x : Nat} (beam : List (Nat × Nat)) (h26 : nbit x 26 = false) (h25 : nbit x 25 = true) (hh : s.halted = true)
    (hcore : s.coreState (x / 2 ^ 23 % 4) = 3) (hstep : s.dbg.step = none) :
    s.writeRun x beam = { s.plainWrite Rg.DBG_RUN x with dbg := { s.dbg with step := some (x / 2 ^ 23 % 4), stepped := false } } := by
  have hhalted := (flags_plainWrite_run s x).2.trans hh
  have hne : Rg.AWL_STAT (x / 2 ^ 23 % 4) ≠ Rg.DBG_RUN := by
    unfold Rg.AWL_STAT Rg.DBG_RUN
    omega
  have hcore' : (s.plainWrite Rg.DBG_RUN x).coreState (x / 2 ^ 23 % 4) = 3 :=
    (get_of_reg (f := Fd.AWL_STAT_STATE (x / 2 ^ 23 % 4)) (reg_setRegN_other s _ hne)).trans hcore
  have hdbg : (s.plainWrite Rg.DBG_RUN x).dbg = s.dbg := plainWrite_dbg s _ _
  have hrequest : (s.plainWrite Rg.DBG_RUN x).haltRequest 0 = s.plainWrite Rg.DBG_RUN x := if_pos hhalted
  have hbits : nbits x 24 23 = x / 2 ^ 23 % 4 := rfl
  unfold State.writeRun
  simp only [h26, h25, hbits, hrequest, Bool.false_and, Bool.false_eq_true, if_false, ite_self, if_true]
  rw [hhalted, hcore', hdbg, hstep]
  rfl

theorem debugStep_writes (h : Taken s m Rg.DBG_RUN v.toNat) (h26 : nbit v.toNat 26 = false) (h25 : nbit v.toNat 25 = true)
    (hh : s.halted = true) (hcore : s.coreState (v.toNat / 2 ^ 23 % 4) = 3) (hstep : s.dbg.step = none) :
    Writes (.debugStep m v e) s (fun t => t.dbg.step = some (v.toNat / 2 ^ 23 % 4) ∧
      AccessOnly (fun k => k = Rg.DBG_RUN) s { t with dbg := s.dbg }) := by
  have honly : RegsOnly (fun k => k = Rg.DBG_RUN) s (s.plainWrite Rg.DBG_RUN v.toNat) := regsOnly_plainWrite s v.toNat rfl
  exact debugWrite_writes rfl h (by simp) ((writeDbg_run _ _ _ _).trans (writeRun_step e.beam h26 h25 hh hcore hstep))
    ⟨congrArg DebugS.step (dbg_portDone _), accessOnly_portDone_dbg (regsOnly_withDbg honly _)⟩

/-! ## RELOCK (R710) -/

/-- Watchpoints go off. -/
theorem acts_off {l : List Nat} (s : State) {i : Nat} (h : i ∈ l ∨ s.get (Fd.WPCTL_ACT i) = 0) :
    (l.foldl (fun (a : State) (j : Nat) => a.set (Fd.WPCTL_ACT j) 0) s).get (Fd.WPCTL_ACT i) = 0 := by
  induction l generalizing s with
  | nil => exact h.resolve_left List.not_mem_nil
  | cons j l ih =>
    rw [List.foldl_cons]
    refine ih _ ?_
    by_cases hi : i = j
    · subst hi
      exact .inr (get_set_same s (Fd.WPCTL_ACT i) 0 (show 26 + 2 ≤ 28 by decide))
    · refine h.imp (fun hmem => ((List.mem_cons.mp hmem).resolve_left hi)) fun hoff => (get_set_key s (Fd.WPCTL_ACT j) (Fd.WPCTL_ACT i) 0 ?_).trans hoff
      change 0x1110000 + i * 4 ≠ 0x1110000 + j * 4
      omega

/-- The port locked and the halt over, before the watchpoints go off. -/
def State.portLocked (s : State) (beam : List (Nat × Nat)) : State :=
  let a := s.set Fd.DBG_STAT_UNLOCKED 0
  if a.halted || a.flag Fd.DBG_RUN_HALTREQ then a.thaw beam else a

theorem portLocked_flags (s : State) (beam : List (Nat × Nat)) :
    (s.portLocked beam).get Fd.DBG_STAT_UNLOCKED = 0 ∧ (s.portLocked beam).halted = false := by
  have hlocked : (s.set Fd.DBG_STAT_UNLOCKED 0).get Fd.DBG_STAT_UNLOCKED = 0 := get_set_same _ _ _ (by decide)
  unfold State.portLocked
  dsimp only
  split
  · refine ⟨((debugAs_thaw _ beam).get (by decide) (by decide)).trans ?_, (thaw_flags _ beam).1⟩
    have hreg : (s.set Fd.DBG_STAT_UNLOCKED 0).haltCleared.reg Rg.DBG_STAT = (s.set Fd.DBG_STAT_UNLOCKED 0).reg Rg.DBG_STAT :=
      (reg_withDbg _ _ _).trans ((reg_set_key _ _ _ _ (by decide)).trans ((reg_set_key _ _ _ _ (by decide)).trans
        (reg_set_key _ _ _ _ (by decide))))
    exact (get_of_reg (f := Fd.DBG_STAT_UNLOCKED) hreg).trans hlocked
  · next hrun => exact ⟨hlocked, (Bool.or_eq_false_iff.mp (Bool.not_eq_true _ ▸ hrun)).1⟩

theorem debugRelock_writes (h : Taken s m Rg.DBG_CTL v.toNat) (hv : nbit v.toNat 27 = true) :
    Writes (.debugRelock m v e) s (fun t => t.get Fd.DBG_STAT_UNLOCKED = 0 ∧ t.halted = false ∧
      (∀ i : Fin 36, t.get (Fd.WPCTL_ACT i) = 0)) := by
  have hw : s.writeDbgCtl v.toNat e.beam = (List.range 36).foldl (fun (a : State) (i : Nat) => a.set (Fd.WPCTL_ACT i) 0)
      ((s.plainWrite Rg.DBG_CTL v.toNat).portLocked e.beam) := if_pos hv
  obtain ⟨hlocked, hhalted⟩ := portLocked_flags (s.plainWrite Rg.DBG_CTL v.toNat) e.beam
  have hkept : DebugAs ((s.plainWrite Rg.DBG_CTL v.toNat).portLocked e.beam) _ :=
    SteadyClosed.foldl (List.range 36) (f := fun (a : State) (i : Nat) => a.set (Fd.WPCTL_ACT i) 0)
      (fun _ _ ha => ha.arr (b := 0x1080000) rfl) (debugAs_refl _)
  refine debugWrite_writes rfl h (by simp) ((writeDbg_ctl _ _ _ _).trans hw) ⟨?_, ?_, fun i => ?_⟩
  · exact (get_portDone _ _).trans ((hkept.get (by decide) (by decide)).trans hlocked)
  · exact (flag_portDone _ _).trans ((flag_of_get (hkept.get (f := Fd.DBG_RUN_HALTED) (by decide) (by decide))).trans hhalted)
  · exact (get_portDone _ _).trans (acts_off _ (.inl (List.mem_range.mpr i.isLt)))

/-! ## The epoch (R360) -/

theorem writeReg_epochHi (s : State) (o v : Nat) (c : WriteCtx) : s.writeReg o Rg.WELT_EPOCHHI v c = s.writeEpochHi v := by
  unfold State.writeReg
  rw [show Rg.WELT_EPOCHHI / 0x10000 = 0x30 from rfl]
  show s.writeWelt Rg.WELT_EPOCHHI v = _
  unfold State.writeWelt
  rw [if_neg (by decide), if_neg (by decide), if_pos rfl]

/-- The low half that a write of the high half applies (R360). -/
def State.epochLow (s : State) : State :=
  match s.welt.epoch with
  | some l => s.set Fd.WELT_EPOCHLO_EPOCH l
  | none => s

theorem get_epochLow (s : State) :
    s.epochLow.get Fd.WELT_EPOCHLO_EPOCH = s.welt.epoch.getD (s.get Fd.WELT_EPOCHLO_EPOCH) % 2 ^ 28 := by
  unfold State.epochLow
  cases s.welt.epoch with
  | some l => exact get_set_same s Fd.WELT_EPOCHLO_EPOCH l (by decide)
  | none => exact (Nat.mod_eq_of_lt (get_lt s Fd.WELT_EPOCHLO_EPOCH)).symm

theorem regsOnly_epochLow (s : State) : RegsOnly (fun k => k = Rg.WELT_EPOCHHI ∨ k = Rg.WELT_EPOCHLO) s s.epochLow := by
  unfold State.epochLow
  split
  · exact regsOnly_set s Fd.WELT_EPOCHLO_EPOCH _ (.inr rfl)
  · exact regsOnly_refl _ s

/-- Welt's hidden state set aside, a write of the epoch changes its two registers. -/
theorem accessOnly_afterWrite_welt {p : Nat → Prop} {k x : Nat} {w : State} (hw : s.writeReg (ownerOfMaster m) k x { beam := e.beam } = w)
    (h : RegsOnly p s { w with welt := s.welt }) : AccessOnly p s { s.afterWrite m k x e with welt := s.welt } := by
  have hrest := rest_afterWrite s m k x e
  have hreg := reg_afterWrite s m k x e
  rw [hw] at hrest hreg
  generalize s.afterWrite m k x e = t at hrest hreg
  refine ⟨(congrArg (fun y : State => { y with regs := s.regs, bus := s.bus, welt := s.welt }) hrest).trans ?_, fun j hj => ?_⟩
  · exact congrArg (fun y : State => { y with bus := s.bus }) h.1
  · rw [not_or] at hj
    exact (hreg j hj.2).trans (h.2 j hj.1)

theorem welt_afterWrite (k x : Nat) {w : State} (hw : s.writeReg (ownerOfMaster m) k x { beam := e.beam } = w) :
    ∃ q, (s.afterWrite m k x e).welt = { w.welt with reqs := q } := by
  rw [afterWrite_eq_withAccess, hw]
  exact ⟨_, rfl⟩

theorem weltEpochWrite_writes (h : Taken s m Rg.WELT_EPOCHHI v.toNat) :
    Writes (.weltEpochWrite m v e) s (fun t =>
      t.get Fd.WELT_EPOCHHI_EPOCH = v.toNat % 2 ^ Fd.WELT_EPOCHHI_EPOCH.w ∧
      t.get Fd.WELT_EPOCHLO_EPOCH = (s.welt.epoch.getD (s.get Fd.WELT_EPOCHLO_EPOCH)) % 2 ^ 28 ∧
      t.welt.epoch = none ∧
      (AccessOnly (fun k => k = Rg.WELT_EPOCHHI ∨ k = Rg.WELT_EPOCHLO) s { t with welt := s.welt })) := by
  have hw := writeReg_epochHi s (ownerOfMaster m) v.toNat { beam := e.beam }
  have hget (f : Fd) : (s.writeEpochHi v.toNat).get f = (s.epochLow.set Fd.WELT_EPOCHHI_EPOCH v.toNat).get f := get_modWelt _ _ _
  have hfree : ∀ k ∈ [Rg.WELT_EPOCHHI, Rg.WELT_EPOCHLO], ¬ watchKey k := fun k hk hwatch => by
    have hblock := block_of_watchKey hwatch
    simp only [List.mem_cons, List.not_mem_nil, or_false] at hk
    rcases hk with rfl | rfl <;> revert hblock <;> decide
  refine writes_of rfl h (by decide) ⟨?_, ?_, ?_, accessOnly_afterWrite_welt hw ?_⟩
  · rw [get_afterWrite _ _ _ _ _ _ (hfree _ (by simp [Fd.WELT_EPOCHHI_EPOCH])), hw, hget]
    exact get_set_same _ Fd.WELT_EPOCHHI_EPOCH _ (by decide)
  · rw [get_afterWrite _ _ _ _ _ _ (hfree _ (by simp [Fd.WELT_EPOCHLO_EPOCH])), hw, hget]
    exact (get_set_key _ _ _ _ (by decide)).trans (get_epochLow s)
  · obtain ⟨q, hq⟩ := welt_afterWrite (m := m) (s := s) (e := e) _ v.toNat hw
    rw [hq]
    rfl
  · have honly : RegsOnly (fun k => k = Rg.WELT_EPOCHHI ∨ k = Rg.WELT_EPOCHLO) s (s.epochLow.set Fd.WELT_EPOCHHI_EPOCH v.toNat) :=
      regsOnly_trans (regsOnly_epochLow s) (regsOnly_set _ Fd.WELT_EPOCHHI_EPOCH _ (.inl rfl))
    exact ⟨congrArg (fun y : State => { y with welt := s.welt }) honly.1, honly.2⟩

end

/-- Settles O11, one lemma for each of its writes. -/
theorem debugWritesComplete : Obligations.DebugWritesComplete := by
  intro m s v e
  exact ⟨debugHalt_writes, debugResume_writes, debugStep_writes, debugRelock_writes, weltEpochWrite_writes⟩

end Sys2Proof.Machine
end

section
/-! What serving a tile request leaves alone (R270, R288, R292, R350): Welt's hidden state, the registers of the Welt block below
the picture receivers', and the channel of an address. -/
namespace Sys2Proof.Machine

/-! ## Tacks and bursts -/

/-- The remote service's tack: only its pool's register changes (R270). -/
theorem reg_tackUse (t : State) {k : Nat} (hk : k ≠ Rg.FETCH_POOL_STAT 3) : (t.tackUse 0x18).reg k = t.reg k := by
  have hset (a : State) (x : Nat) : (a.set (Fd.FETCH_POOL_STAT_HELD 3) x).reg k = a.reg k := reg_set_key _ _ _ _ hk
  have htake (a : State) : (a.poolTake 3).reg k = a.reg k := by
    unfold State.poolTake State.raiseTo
    dsimp only
    split
    · exact (reg_set_key _ _ _ _ hk).trans (hset _ _)
    · exact hset _ _
  have hserved (a : State) : (a.poolServed 3).reg k = a.reg k := by
    unfold State.poolServed
    split <;> rfl
  unfold State.tackUse State.poolFreeOne
  rw [show poolClass 0x18 = some 3 from rfl]
  dsimp only
  split
  · exact (hset _ _).trans ((htake _).trans (hserved _))
  · exact hset _ _

theorem chanOf_of_regs {s t : State} (h : ∀ k, k ≠ Rg.FETCH_POOL_STAT 3 → t.reg k = s.reg k) (a : Nat) : t.chanOf a = s.chanOf a := by
  have hlin : t.flag Fd.MEM_STAT_MAPLIN = s.flag Fd.MEM_STAT_MAPLIN := flag_of_reg (h _ (by decide))
  have hcapu : t.get Fd.MEM_STAT_CAPU = s.get Fd.MEM_STAT_CAPU := get_of_reg (h _ (by decide))
  have heff : t.get Fd.MEM_STAT_CHEFF = s.get Fd.MEM_STAT_CHEFF := get_of_reg (h _ (by decide))
  unfold State.chanOf State.cchBytes State.installed
  rw [hlin, hcapu, heff]

namespace FabricAs

variable {s t : State}

theorem tackUse (h : FabricAs s t) : FabricAs s (t.tackUse 0x18) := by
  have hset {u : State} {f : Fd} (x : Nat) (hf : f.key = Rg.FETCH_POOL_STAT 3) (hu : FabricAs s u) : FabricAs s (u.set f x) :=
    hu.set x (by rw [hf]; exact free_of_fabric (by decide))
  have hserved (u : State) : (u.poolServed 3).welt = u.welt ∧ (u.poolServed 3).dbg = u.dbg ∧ (u.poolServed 3).regs = u.regs := by
    unfold State.poolServed
    split <;> exact ⟨rfl, rfl, rfl⟩
  have htake {u : State} (hu : FabricAs s u) : FabricAs s (u.poolTake 3) :=
    SteadyClosed.ite (hset _ rfl (hset _ rfl hu)) (hset _ rfl hu)
  unfold State.tackUse State.poolFreeOne
  rw [show poolClass 0x18 = some 3 from rfl]
  dsimp only
  split
  · obtain ⟨hw, hd, hr⟩ := hserved t
    refine hset _ rfl (htake (h.trans ⟨hw, congrArg _ hd, fun k _ => ?_⟩))
    unfold State.reg
    rw [hr]
  · exact hset _ rfl (h.trans ⟨rfl, rfl, fun _ _ => rfl⟩)

theorem eccError (a m : Nat) (ue : Bool) (h : FabricAs s t) : FabricAs s (t.eccError a m ue) := by
  have hset {u : State} {f : Fd} (x : Nat) (hf : 0x12000C ≤ f.key ∧ f.key ≤ 0x120014) (hu : FabricAs s u) : FabricAs s (u.set f x) :=
    hu.set x (free_of_fabric (by omega))
  have h1 : FabricAs s (if ue then t.bump Fd.MEM_ECCSTAT_UECNT 2047 else t.bump Fd.MEM_ECCSTAT_CECNT 2047) :=
    SteadyClosed.ite (h.bump 2047 (free_of_fabric (by decide))) (h.bump 2047 (free_of_fabric (by decide)))
  unfold State.eccError
  extract_lets s1 capture s2
  have h2 : FabricAs s s2 := by
    refine SteadyClosed.ite ?_ (hset 1 (by decide) h1)
    exact hset 1 (by decide) (hset _ (by decide) (hset _ (by decide) (hset _ (by decide) (hset _ (by decide) h1))))
  exact SteadyClosed.ite (h2.report _ _ _ _) (h2.report _ _ _ _)

/-- A burst of one of the six channels (R288, R292). -/
theorem burst {a : Nat} (m : Nat) (e : BurstEnd) (hc : t.chanOf a < 6) (h : FabricAs s t) : FabricAs s (t.burst a m e).1 := by
  have hkey : ¬ fabricKey (Rg.MEM_CH_ERR (t.chanOf a)) := by
    refine free_of_fabric (.inr (.inl ?_))
    unfold Rg.MEM_CH_ERR
    omega
  have hretry : FabricAs s (t.bump (Fd.MEM_CH_ERR_RETRY (t.chanOf a)) 0x3FFF) := h.bump _ hkey
  unfold State.burst
  cases e with
  | clean => exact h
  | retried => exact hretry
  | failed => exact FabricAs.eccError a m true (hretry.bump _ hkey)
  | corrected => exact SteadyClosed.ite (h.eccError a m false) h
  | uncorrectable =>
    dsimp only
    split
    · exact h.eccError a m true
    · exact h

/-! ## Reads of the aperture (R350, R352) -/

theorem apRead {m : Nat} {turn : Bool} {l : List Nat} {es : List BurstEnd} {u : State} {r : Option (List Nat)}
    (hr : t.apRead m turn l es = some (u, r)) (h : FabricAs s t) : FabricAs s u := by
  induction l generalizing t turn es r with
  | nil =>
    unfold State.apRead at hr
    cases hr
    exact h
  | cons o l ih =>
    unfold State.apRead at hr
    split at hr
    · cases hr
      exact h
    · cases hr
    · next hacc =>
      have hok : t.gddrAcc (t.apAddr o) = .ok := by
        unfold State.apAcc at hacc
        split at hacc
        · exact hacc
        · cases hacc
      have hchan : (t.tackUse 0x18).chanOf (t.apAddr o / 64 * 64) < 6 := by
        rw [chanOf_of_regs (s := t) fun _ => reg_tackUse t]
        exact chanOf_lt hok
      have hb := h.tackUse.burst m (es.headD .clean) hchan
      split at hr
      · cases hr
      · dsimp only at hr
        split at hr
        · cases hr
          exact hb
        · obtain ⟨x, hx, hxr⟩ := Option.map_eq_some_iff.mp hr
          cases hxr
          exact ih hx hb

theorem serveRead {m op off count w2 tofs : Nat} {es : List BurstEnd} {u : State} {st : Nat} {d : List Nat}
    (hr : t.serveRead m op off count w2 tofs es = some (u, st, d)) (h : FabricAs s t) : FabricAs s u := by
  unfold State.serveRead at hr
  dsimp only at hr
  split at hr
  · cases hr
  · next hx =>
    cases hr
    exact h.apRead hx
  · next s1 d1 hx =>
    have h1 := h.apRead hx
    split at hr
    · cases hr
      exact h1
    · obtain ⟨x, hx2, hxr⟩ := Option.map_eq_some_iff.mp hr
      have h2 := h1.apRead (r := x.2) hx2
      split at hxr
      · cases hxr
        exact h2
      · cases hxr
        exact h2

end FabricAs

end Sys2Proof.Machine
end

section
/-! A port's link level (R337, R338, R341): replay requests, and the packets that leave. -/
namespace Sys2Proof.Machine

/-! ## A port's counters (R379) -/

theorem weltCount_welt (s : State) (p k : Nat) : (s.weltCount p k).welt = s.welt := by
  unfold State.weltCount State.bump
  split
  · exact set_welt _ _ _
  · rfl

theorem get_weltCount_same (s : State) (p k : Nat) :
    (s.weltCount p k).get (Fd.WELT_WP_CNT_COUNT p k) = min 0xFFFFFFF (s.get (Fd.WELT_WP_CNT_COUNT p k) + 1) := by
  have hlt : s.get (Fd.WELT_WP_CNT_COUNT p k) < 2 ^ 28 := get_lt _ _
  exact get_bump_same s (f := Fd.WELT_WP_CNT_COUNT p k) (show 0xFFFFFFF < 2 ^ 28 by decide) (show 0 + 28 ≤ 28 by decide) (by omega)

theorem reg_weltCount (s : State) {p k j : Nat} (hj : j ≠ Rg.WELT_WP_CNT p k) : (s.weltCount p k).reg j = s.reg j := reg_bump s _ hj

theorem regsOnly_weltCount (s : State) (p k : Nat) :
    RegsOnly (fun j => j = (Fd.WELT_WP_CNT_COUNT p k).key) s (s.weltCount p k) :=
  regsOnly_ite (regsOnly_set s _ _ rfl) (regsOnly_refl _ s)

/-- A change of Welt's hidden state before or after a register's. -/
theorem regsOnly_modWelt {p : Nat → Prop} {s t : State} {f : WeltS → WeltS} (h : RegsOnly p (s.modWelt f) t) :
    RegsOnly p s { t with welt := s.welt } :=
  ⟨(congrArg (fun x : State => { x with welt := s.welt }) h.1 :), h.2⟩

theorem welt_of_regsOnly {p : Nat → Prop} {s t : State} (h : RegsOnly p s t) : t.welt = s.welt := (congrArg State.welt h.1 :)

/-- A port that is UP takes and sends frames, in a halt where WELTRUN lets Welt run (R713). -/
theorem weltOpen {s : State} {p : Nat} (hup : s.weltUp p = true) (hrun : s.halted = false ∨ s.flag Fd.DBG_CTL_WELTRUN = true) :
    (!s.weltUp p || (s.halted && !s.flag Fd.DBG_CTL_WELTRUN)) = false := by
  rw [hup, eq_false_of_ne_true (weltRuns hrun)]
  rfl

/-! ## Replays (R338) -/

theorem weltReplay_answers {s : State} {p : Fin 8} {lseq : BitVec 12} (he : s.inEpisode = false) (hup : s.weltUp p = true)
    (hl : (tabGet [] s.welt.replay p).dropWhile (fun x => x.1 != lseq.toNat) ≠ []) :
    Answers (.weltReplay p lseq) s (fun t =>
      tabGet [] t.welt.resend p = (tabGet [] s.welt.replay p).dropWhile (fun x => x.1 != lseq.toNat) ∧
      t.get (Fd.WELT_WP_CNT_COUNT p 24) = min 0xFFFFFFF (s.get (Fd.WELT_WP_CNT_COUNT p 24) + 1) ∧
      RegsOnly (fun j => j = (Fd.WELT_WP_CNT_COUNT p 24).key) s { t with welt := s.welt }) := by
  have hin : s.weltReplay p lseq.toNat = (s.modWelt (fun w => { w with
      resend := tabInsert w.resend p ((tabGet [] s.welt.replay p).dropWhile (fun x => x.1 != lseq.toNat)) })).weltCount p 24 := by
    unfold State.weltReplay
    exact if_pos ((Bool.and_eq_true _ _).mpr ⟨hup, by simpa using hl⟩)
  refine answers_quiet rfl he ?_
  rw [hin]
  refine ⟨?_, ?_, regsOnly_modWelt (regsOnly_weltCount _ _ _)⟩
  · rw [weltCount_welt, welt_modWelt]
    exact tabGet_insert_same _ _ _ _
  · rw [get_weltCount_same, get_modWelt]

/-! ## Packets out (R337, R341) -/

theorem weltResend_answers {s : State} {p : Fin 8} {frac : BitVec 16} {credit : BitVec 6} {x : Nat × Nat × WeltPkt}
    {rest : List (Nat × Nat × WeltPkt)} (he : s.inEpisode = false) (hup : s.weltUp p = true)
    (hrun : s.halted = false ∨ s.flag Fd.DBG_CTL_WELTRUN = true) (hx : tabGet [] s.welt.resend p = x :: rest) :
    Answers (.weltPacketSend p credit frac) s (fun t =>
      tabGet [] t.welt.resend p = rest ∧ t.welt.queue = s.welt.queue ∧ t.welt.replay = s.welt.replay ∧ t.welt.txSeq = s.welt.txSeq ∧
      RegsOnly (fun _ => False) s { t with welt := s.welt }) := by
  have hin : s.weltEmit p credit.toNat frac.toNat =
      s.weltResend p ((s.time.now * 65536 + frac.toNat % 65536) / 1024 * 1024) x rest := by
    unfold State.weltEmit
    rw [weltOpen hup hrun, hx]
    rfl
  refine answers_quiet rfl he ?_
  rw [hin]
  exact ⟨tabGet_put_same _ _ _ _, rfl, rfl, rfl, regsOnly_of_weltOnly rfl _⟩

/-- Welt's hidden state once port `p` has sent `o` at `t`. -/
def State.weltSent (s : State) (p t : Nat) (o : OutP) : State :=
  let p1 := if o.pkt.kind.toNat = 1 then timeStamp o.pkt t o.stamp else o.pkt
  s.modWelt (fun w => { w with
    queue := tabPut [] w.queue p (dropOne o (tabGet [] w.queue p)),
    served := tabInsert w.served (8 * p + weltClass o.pkt.kind.toNat) o.src,
    txSeq := tabPut 0 w.txSeq p ((tabGet 0 s.welt.txSeq p + 1) % 4096),
    replay := tabInsert w.replay p (((tabGet [] w.replay p ++
      [(tabGet 0 s.welt.txSeq p, o.stamp, { p1 with hop := p1.hop + 1#5 })]).reverse.take 64).reverse),
    t1 := if o.pkt.kind.toNat = 1 ∧ o.pkt.w 0 / 2 ^ 30 = 1 then some t else w.t1 })

/-- The registers of a packet that leaves: ONALT of its destination, and the port's counters. -/
def State.sentRegs (s : State) (p : Nat) (o : OutP) : State :=
  let k := o.pkt.kind.toNat
  let s3 := (if k = 1 then s else s.setB (Fd.RT_ONALT o.pkt.dest.toNat) o.alt).weltCount p k
  if o.alt then s3.weltCount p 27 else s3

theorem weltEmit_next {s : State} {p credit frac : Nat} {o : OutP} (hup : s.weltUp p = true)
    (hrun : s.halted = false ∨ s.flag Fd.DBG_CTL_WELTRUN = true) (hempty : tabGet [] s.welt.resend p = [])
    (hnext : s.weltNext p credit = some o) :
    s.weltEmit p credit frac = (s.weltSent p ((s.time.now * 65536 + frac % 65536) / 1024 * 1024) o).sentRegs p o  := by
  unfold State.weltEmit
  rw [weltOpen hup hrun, if_neg Bool.false_ne_true, hempty, hnext]
  dsimp only
  unfold State.sentRegs State.weltSent
  dsimp only

theorem regsOnly_sentRegs (s : State) (p : Nat) (o : OutP) : RegsOnly (fun _ => True) s (s.sentRegs p o) := by
  have hcount (a : State) (c : Nat) : RegsOnly (fun _ => True) a (a.weltCount p c) :=
    regsOnly_ite (regsOnly_set a _ _ trivial) (regsOnly_refl _ a)
  have hroute : RegsOnly (fun _ => True) s (if o.pkt.kind.toNat = 1 then s else s.setB (Fd.RT_ONALT o.pkt.dest.toNat) o.alt) :=
    regsOnly_ite (regsOnly_refl _ s) (regsOnly_set s _ _ trivial)
  have hsent := regsOnly_trans hroute (hcount _ o.pkt.kind.toNat)
  exact regsOnly_ite (regsOnly_trans hsent (hcount _ 27)) hsent

/-- The counter of the packet's TYPE counts it; another one counts a packet on ALTPORT. -/
theorem get_sentRegs (s : State) {p : Nat} (hp : p < 8) (o : OutP) :
    (s.sentRegs p o).get (Fd.WELT_WP_CNT_COUNT p o.pkt.kind.toNat) =
      min 0xFFFFFFF (s.get (Fd.WELT_WP_CNT_COUNT p o.pkt.kind.toNat) + 1) := by
  have hkind : o.pkt.kind.toNat < 16 := o.pkt.kind.isLt
  have halt : Rg.WELT_WP_CNT p o.pkt.kind.toNat ≠ Rg.WELT_WP_CNT p 27 := by
    unfold Rg.WELT_WP_CNT
    omega
  have hroute : Rg.WELT_WP_CNT p o.pkt.kind.toNat ≠ Rg.RT o.pkt.dest.toNat := by
    unfold Rg.WELT_WP_CNT Rg.RT
    omega
  have hset : (if o.pkt.kind.toNat = 1 then s else s.setB (Fd.RT_ONALT o.pkt.dest.toNat) o.alt).get
      (Fd.WELT_WP_CNT_COUNT p o.pkt.kind.toNat) = s.get (Fd.WELT_WP_CNT_COUNT p o.pkt.kind.toNat) := by
    split
    · rfl
    · exact get_set_key _ _ _ _ hroute
  have hcount := get_weltCount_same (if o.pkt.kind.toNat = 1 then s else s.setB (Fd.RT_ONALT o.pkt.dest.toNat) o.alt) p o.pkt.kind.toNat
  rw [hset] at hcount
  unfold State.sentRegs
  dsimp only
  split
  · exact (get_of_reg (reg_weltCount _ halt)).trans hcount
  · exact hcount

theorem timeStamp_hop (pkt : WeltPkt) (t t2 : Nat) : (timeStamp pkt t t2).hop = pkt.hop := by
  unfold timeStamp
  split <;> rfl

theorem getLast?_kept {α : Type} (l : List α) (x : α) : (((l ++ [x]).reverse.take 64).reverse).getLast? = some x := by
  simp

theorem weltNext_answers {s : State} {p : Fin 8} {frac : BitVec 16} {credit : BitVec 6} {o : OutP} (he : s.inEpisode = false)
    (hup : s.weltUp p = true) (hrun : s.halted = false ∨ s.flag Fd.DBG_CTL_WELTRUN = true) (hempty : tabGet [] s.welt.resend p = [])
    (hnext : s.weltNext p credit.toNat = some o) :
    Answers (.weltPacketSend p credit frac) s (fun t =>
      tabGet [] t.welt.queue p = dropOne o (tabGet [] s.welt.queue p) ∧
      tabGet 0 t.welt.txSeq p = (tabGet 0 s.welt.txSeq p + 1) % 4096 ∧
      (tabGet [] t.welt.replay p).getLast?.map (fun x => (x.1, x.2.2.hop)) = some (tabGet 0 s.welt.txSeq p, o.pkt.hop + 1#5) ∧
      t.get (Fd.WELT_WP_CNT_COUNT p o.pkt.kind.toNat) = min 0xFFFFFFF (s.get (Fd.WELT_WP_CNT_COUNT p o.pkt.kind.toNat) + 1) ∧
      t.mem = s.mem) := by
  have hhop (t : Nat) : (if o.pkt.kind.toNat = 1 then timeStamp o.pkt t o.stamp else o.pkt).hop = o.pkt.hop := by
    split
    · exact timeStamp_hop _ _ _
    · rfl
  refine answers_quiet rfl he ?_
  rw [weltEmit_next hup hrun hempty hnext, welt_of_regsOnly (regsOnly_sentRegs _ p o), State.weltSent, welt_modWelt]
  refine ⟨tabGet_put_same _ _ _ _, tabGet_put_same _ _ _ _, ?_, ?_, ?_⟩
  · rw [tabGet_insert_same, getLast?_kept]
    exact congrArg (fun h => some (tabGet 0 s.welt.txSeq p, h + 1#5)) (hhop _)
  · rw [get_sentRegs _ p.isLt, get_modWelt]
  · rw [mem_of_regsOnly (regsOnly_sentRegs _ p o), modWelt_mem]

end Sys2Proof.Machine
end

section
/-! A frame that arrives (R338 to R347): beside its lanes' error counters, its port's counter and the sequence number that its port
expects next, the state it is judged by is the one before it. -/
namespace Sys2Proof.Machine

/-! ## What a frame changes before it is judged -/

/-- The lanes' error counters and the Welt ports' counters. -/
def frameKey (k : Nat) : Prop := (0x70100 ≤ k ∧ k < 0x70308 ∧ k % 16 = 8) ∨ (0x300104 ≤ k ∧ k < 0x300504)

/-- The state with other registers and other numbers of the frames expected next. -/
def State.heardFrame (s : State) (r : List (Nat × RegVal)) (x : List (Nat × Nat)) : State :=
  { s with regs := r, welt := { s.welt with rxSeq := x } }

/-- The first words of the flow contexts that can be enabled. -/
def fcEntry (e : Nat × RegVal) : Bool := decide (Rg.FC0 2 ≤ e.1) && decide (e.1 < Rg.FC0 2048)

/-- `t` differs from `s` in counters of `frameKey` and in the numbers of the frames expected next. -/
def FrameAs (s t : State) : Prop :=
  ∃ r x, t = s.heardFrame r x ∧ (∀ k, ¬ frameKey k → t.reg k = s.reg k) ∧ r.filter fcEntry = s.regs.filter fcEntry

theorem filter_tabInsert {α : Type} {q : Nat × α → Bool} (t : List (Nat × α)) {k : Nat} (v : α) (hk : ∀ x, q (k, x) = false) :
    (tabInsert t k v).filter q = t.filter q := by
  induction t with
  | nil => simp [tabInsert, hk]
  | cons e t ih =>
    obtain ⟨j, w⟩ := e
    unfold tabInsert
    split
    · rw [List.filter_cons_of_neg (by simp [hk])]
    · split
      · next hj =>
        subst hj
        rw [List.filter_cons_of_neg (by simp [hk]), List.filter_cons_of_neg (by simp [hk])]
      · rw [List.filter_cons, List.filter_cons, ih]

theorem filter_tabErase {α : Type} {q : Nat × α → Bool} (t : List (Nat × α)) {k : Nat} (hk : ∀ x, q (k, x) = false) :
    (tabErase t k).filter q = t.filter q := by
  induction t with
  | nil => rfl
  | cons e t ih =>
    obtain ⟨j, w⟩ := e
    unfold tabErase
    split
    · next hj =>
      subst hj
      rw [List.filter_cons_of_neg (by simp [hk]), ih]
    · rw [List.filter_cons, List.filter_cons, ih]

theorem filter_tabPut {α : Type} [DecidableEq α] {q : Nat × α → Bool} (d : α) (t : List (Nat × α)) {k : Nat} (v : α)
    (hk : ∀ x, q (k, x) = false) : (tabPut d t k v).filter q = t.filter q := by
  unfold tabPut
  split
  · exact filter_tabErase t hk
  · exact filter_tabInsert t v hk

theorem not_fcEntry {k : Nat} (hk : frameKey k) (x : RegVal) : fcEntry (k, x) = false := by
  unfold frameKey at hk
  unfold fcEntry Rg.FC0
  simp only [Bool.and_eq_false_iff, decide_eq_false_iff_not]
  omega

theorem frameAs_refl (s : State) : FrameAs s s := ⟨s.regs, s.welt.rxSeq, rfl, fun _ _ => rfl, rfl⟩

namespace FrameAs

variable {s t : State}

theorem set {f : Fd} (x : Nat) (hf : frameKey f.key) (h : FrameAs s t) : FrameAs s (t.set f x) := by
  obtain ⟨r, y, rfl, hreg, hfc⟩ := h
  refine ⟨((s.heardFrame r y).set f x).regs, y, rfl, fun k hk => ?_, ?_⟩
  · have hne : k ≠ f.key := fun e => hk (e ▸ hf)
    rw [reg_set_key _ f _ _ hne, hreg k hk]
  · exact (filter_tabPut _ _ _ (not_fcEntry hf)).trans hfc

theorem expect (y : List (Nat × Nat)) (h : FrameAs s t) : FrameAs s (t.modWelt (fun w => { w with rxSeq := y })) := by
  obtain ⟨r, x, rfl, hreg, hfc⟩ := h
  exact ⟨r, y, rfl, hreg, hfc⟩

theorem weltCount {p k : Nat} (hp : p < 8) (hk : k < 28) (h : FrameAs s t) : FrameAs s (t.weltCount p k) := by
  have hkey : frameKey (Rg.WELT_WP_CNT p k) := by
    unfold frameKey Rg.WELT_WP_CNT
    omega
  exact SteadyClosed.ite (h.set _ hkey) h

/-- Errors that come with the traffic (R326). -/
theorem trafficErrs {p : Nat} (hp : p < 8) (errs : List Nat) (h : FrameAs s t) : FrameAs s (t.trafficErrs p errs) := by
  refine keeps_foldl (fun i hi a ha => ?_) h
  have hkey : frameKey (Rg.EYE_L_ERR (4 * p + i)) := by
    have := List.mem_range.mp hi
    unfold frameKey Rg.EYE_L_ERR
    omega
  exact SteadyClosed.ite ha (SteadyClosed.ite (ha.set _ hkey) ha)

/-! ## By what a frame is judged -/

theorem reg (h : FrameAs s t) {k : Nat} (hk : ¬ frameKey k) : t.reg k = s.reg k := by
  obtain ⟨_, _, _, hreg, _⟩ := h
  exact hreg k hk

theorem get (h : FrameAs s t) {f : Fd} (hf : ¬ frameKey f.key) : t.get f = s.get f := get_of_reg (h.reg hf)

theorem flag (h : FrameAs s t) {f : Fd} (hf : ¬ frameKey f.key) : t.flag f = s.flag f := flag_of_reg (h.reg hf)

theorem free {k : Nat} (hk : k < 0x70100 ∨ 0x70308 ≤ k ∧ k < 0x300104 ∨ 0x300504 ≤ k) : ¬ frameKey k := by
  unfold frameKey
  omega

theorem fenced (h : FrameAs s t) (u : Nat) : t.fenced u = s.fenced u := by
  obtain ⟨_, _, rfl, _⟩ := h
  rfl

theorem hidden (h : FrameAs s t) : t.welt.mid = s.welt.mid ∧ t.welt.old = s.welt.old ∧ t.welt.inbox = s.welt.inbox ∧
    t.welt.queue = s.welt.queue ∧ t.time = s.time ∧ t.sec = s.sec ∧ t.inEpisode = s.inEpisode := by
  obtain ⟨_, _, rfl, _⟩ := h
  exact ⟨rfl, rfl, rfl, rfl, rfl, rfl, rfl⟩

theorem domOn (h : FrameAs s t) (d : Nat) : t.domOn d = s.domOn d := by
  unfold State.domOn
  rw [h.get (free (.inl (by decide)))]

theorem devId (h : FrameAs s t) : t.devId = s.devId := h.get (free (.inr (.inl (by decide))))

theorem halted (h : FrameAs s t) : t.halted = s.halted := h.flag (free (.inr (.inl (by decide))))

theorem weltUp (h : FrameAs s t) {p : Nat} (hp : p < 8) : t.weltUp p = s.weltUp p := by
  have hcfg : Rg.EYE_WP_CFG p < 0x70100 ∧ Rg.EYE_WP_STAT p < 0x70100 := by
    unfold Rg.EYE_WP_CFG Rg.EYE_WP_STAT
    omega
  unfold State.weltUp State.portMode State.portState
  rw [h.domOn, h.get (f := Fd.EYE_WP_CFG_MODE p) (free (.inl hcfg.1)), h.get (f := Fd.EYE_WP_STAT_STATE p) (free (.inl hcfg.2))]

theorem trusted (h : FrameAs s t) (p : Nat) : t.trusted p = s.trusted p := by
  have htrust : ¬ frameKey Rg.WELT_TRUST := free (.inr (.inl (by decide)))
  unfold State.trusted
  rw [h.get (f := Fd.WELT_TRUST_FUSE) htrust, h.get (f := Fd.WELT_TRUST_DISTRUST) htrust,
    h.get (f := Fd.RST_STRAP_ROLE) (free (.inl (by decide)))]

theorem weltRoute (h : FrameAs s t) (dest : Nat) : t.weltRoute dest = s.weltRoute dest := by
  have hkey : ¬ frameKey (Rg.RT dest) := free (.inr (.inr (by unfold Rg.RT; omega)))
  have hport {f : Fd} (hf : f.w = 3) : s.get f < 8 := by
    have := get_lt s f
    rwa [hf] at this
  unfold State.weltRoute
  rw [h.flag (f := Fd.RT_VALID dest) hkey, h.get (f := Fd.RT_PORT dest) hkey, h.flag (f := Fd.RT_ALTEN dest) hkey,
    h.get (f := Fd.RT_ALTPORT dest) hkey, h.weltUp (hport (f := Fd.RT_PORT dest) rfl), h.weltUp (hport (f := Fd.RT_ALTPORT dest) rfl)]

/-! ## The flow contexts (R348) -/

theorem regN_fc (h : FrameAs s t) (c : Nat) : t.regN (Rg.FC0 c) = s.regN (Rg.FC0 c) ∧ t.regN (Rg.FC1 c) = s.regN (Rg.FC1 c) := by
  have h0 : ¬ frameKey (Rg.FC0 c) := free (.inr (.inr (by unfold Rg.FC0; omega)))
  have h1 : ¬ frameKey (Rg.FC1 c) := free (.inr (.inr (by unfold Rg.FC1; omega)))
  unfold State.regN
  rw [h.reg h0, h.reg h1]
  exact ⟨rfl, rfl⟩

theorem fcWords (h : FrameAs s t) (c : Nat) : t.fcWords c = s.fcWords c := by
  obtain ⟨hfc0, hfc1⟩ := h.regN_fc c
  obtain ⟨_, hold, _⟩ := h.hidden
  unfold State.fcWords
  rw [hold, hfc0, hfc1]

theorem fcFields (h : FrameAs s t) : t.fcEn = s.fcEn ∧ t.fcKind = s.fcKind ∧ t.fcTx = s.fcTx ∧ t.fcPeer = s.fcPeer ∧ t.fcBind = s.fcBind := by
  refine ⟨?_, ?_, ?_, ?_, ?_⟩ <;> funext c
  · rw [State.fcEn, h.fcWords, State.fcEn]
  · rw [State.fcKind, h.fcWords, State.fcKind]
  · rw [State.fcTx, h.fcWords, State.fcTx]
  · rw [State.fcPeer, h.fcWords, State.fcPeer]
  · rw [State.fcBind, h.fcWords, State.fcBind]

theorem fcList (h : FrameAs s t) : t.fcList = s.fcList := by
  obtain ⟨_, hold, _⟩ := h.hidden
  have hwords : (fun c => t.regN (Rg.FC0 c) == 0) = (fun c => s.regN (Rg.FC0 c) == 0) := funext fun c => by rw [(h.regN_fc c).1]
  have hlisted : t.regs.filter fcEntry = s.regs.filter fcEntry := by
    obtain ⟨_, _, rfl, _, hfc⟩ := h
    exact hfc
  unfold State.fcList
  rw [hold, hwords]
  exact congrArg (fun l => List.map (fun e : Nat × RegVal => (e.1 - Rg.FC0 0) / 4) l ++ _) hlisted

theorem prxContext (h : FrameAs s t) (k : Nat) : t.prxContext k = s.prxContext k := by
  obtain ⟨hen, hkind, htx, _, hbind⟩ := h.fcFields
  unfold State.prxContext State.fcOf
  rw [h.fcList, hen, hkind, htx, hbind]

theorem fcFenced (h : FrameAs s t) (c : Nat) : t.fcFenced c = s.fcFenced c := by
  obtain ⟨_, hkind, _, _, hbind⟩ := h.fcFields
  unfold State.fcFenced
  rw [hkind, hbind, h.fenced, h.fenced]

theorem weltRefuse (h : FrameAs s t) (pkt : WeltPkt) : t.weltRefuse pkt = s.weltRefuse pkt := by
  obtain ⟨hmid, _, _, _, _, _, hep⟩ := h.hidden
  obtain ⟨hen, hkind, htx, hpeer, hbind⟩ := h.fcFields
  unfold State.weltRefuse
  dsimp only
  rw [h.fenced, hmid, hen, htx, hkind, hbind, h.prxContext, h.domOn, h.domOn, hep, hpeer, h.fcFenced]

theorem fcMessage (c : Nat) (first last : Bool) (h : FrameAs s t) : FrameAs (s.fcMessage c first last) (t.fcMessage c first last) := by
  obtain ⟨r, x, rfl, hreg, hfc⟩ := h
  refine ⟨r, x, ?_, hreg, hfc⟩
  cases last <;> cases first <;> rfl

theorem fcBoundary (pkt : WeltPkt) (h : FrameAs s t) : FrameAs (s.fcBoundary pkt) (t.fcBoundary pkt) := by
  obtain ⟨hmid, _⟩ := h.hidden
  obtain ⟨_, _, _, hpeer, _⟩ := h.fcFields
  have hfc : t.get (Fd.FC0_PEER pkt.dflow.toNat) = s.get (Fd.FC0_PEER pkt.dflow.toNat) :=
    h.get (free (.inr (.inr (show 0x300504 ≤ Rg.FC0 pkt.dflow.toNat by unfold Rg.FC0; omega))))
  unfold State.fcBoundary
  dsimp only
  rw [hmid, hpeer, hfc]
  split
  · exact h.fcMessage _ _ _
  · exact h

end FrameAs

end Sys2Proof.Machine
end

section
/-! What a frame does (R338, R344 to R347): a bad one is counted, one in sequence goes on by its route or to its block. -/
namespace Sys2Proof.Machine

/-! ## Registers of a frame -/

/-- The counter of a port that counts a frame, and its lanes' error counters. -/
def frameRegs (p : Fin 8) (c : Nat) (j : Nat) : Prop := j = (Fd.WELT_WP_CNT_COUNT p c).key ∨ ∃ i : Fin 4, j = Rg.EYE_L_ERR (4 * p + i)

theorem regsOnly_frameErrs (s : State) (p : Fin 8) (c : Nat) (errs : List Nat) : RegsOnly (frameRegs p c) s (s.trafficErrs p errs) := by
  refine regsOnly_foldl fun a i hi => ?_
  have hlane : frameRegs p c (Rg.EYE_L_ERR (4 * p + i)) := .inr ⟨⟨i, List.mem_range.mp hi⟩, rfl⟩
  exact regsOnly_ite (regsOnly_refl _ a) (regsOnly_ite (regsOnly_set a (Fd.EYE_L_ERR_ERRCNT (4 * p + i)) _ hlane) (regsOnly_refl _ a))

theorem regsOnly_frameCount (s : State) (p : Fin 8) (c : Nat) : RegsOnly (frameRegs p c) s (s.weltCount p c) :=
  regsOnly_ite (regsOnly_set s _ _ (.inl rfl)) (regsOnly_refl _ s)

theorem get_frameErrs (s : State) (p : Fin 8) (errs : List Nat) {c : Nat} (hc : c < 32) :
    (s.trafficErrs p errs).get (Fd.WELT_WP_CNT_COUNT p c) = s.get (Fd.WELT_WP_CNT_COUNT p c) := by
  have hne : ¬ frameRegs p (c + 1) (Rg.WELT_WP_CNT p c) := by
    unfold frameRegs
    rintro (h | ⟨i, h⟩)
    · have : Rg.WELT_WP_CNT p c = Rg.WELT_WP_CNT p (c + 1) := h
      unfold Rg.WELT_WP_CNT at this
      omega
    · unfold Rg.WELT_WP_CNT Rg.EYE_L_ERR at h
      omega
  exact get_of_reg ((regsOnly_frameErrs s p (c + 1) errs).2 _ hne)

/-! ## A bad frame (R338) -/

theorem frameIn_bad {s : State} {p lseq frac : Nat} {pkt : WeltPkt} (hup : s.weltUp p = true)
    (hrun : s.halted = false ∨ s.flag Fd.DBG_CTL_WELTRUN = true) : s.frameIn p false lseq pkt frac = s.weltCount p 25 := by
  unfold State.frameIn
  rw [weltOpen hup hrun]
  rfl

theorem weltRuns_frame {s t : State} (h : FrameAs s t) (hrun : s.halted = false ∨ s.flag Fd.DBG_CTL_WELTRUN = true) :
    t.halted = false ∨ t.flag Fd.DBG_CTL_WELTRUN = true := by
  rw [h.halted, h.flag (f := Fd.DBG_CTL_WELTRUN) (FrameAs.free (.inr (.inl (by decide))))]
  exact hrun

theorem frameBad_answers {s : State} {p : Fin 8} {pkt : WeltPkt} {frac : BitVec 16} {lseq : BitVec 12} {fec : List Nat}
    (he : s.inEpisode = false) (hup : s.weltUp p = true) (hrun : s.halted = false ∨ s.flag Fd.DBG_CTL_WELTRUN = true) :
    Answers (.weltFrameReceive p false lseq pkt frac fec) s (fun t =>
      t.get (Fd.WELT_WP_CNT_COUNT p 25) = min 0xFFFFFFF (s.get (Fd.WELT_WP_CNT_COUNT p 25) + 1) ∧ RegsOnly (frameRegs p 25) s t) := by
  have has : FrameAs s (s.trafficErrs p fec) := (frameAs_refl s).trafficErrs p.isLt fec
  refine answers_event rfl he ?_
  rw [frameIn_bad ((has.weltUp p.isLt).trans hup) (weltRuns_frame has hrun)]
  refine ⟨?_, regsOnly_trans (regsOnly_frameErrs s p 25 fec) (regsOnly_frameCount _ p 25)⟩
  rw [get_weltCount_same, get_frameErrs s p fec (by decide)]

/-! ## A frame in sequence (R338, R346) -/

/-- A frame in sequence is noted and counted by its TYPE. -/
def State.frameTaken (s : State) (p lseq k : Nat) : State :=
  (s.modWelt (fun w => { w with rxSeq := tabPut 0 w.rxSeq p ((lseq + 1) % 4096) })).weltCount p (8 + k)

/-- The sequence number and the form that a frame in sequence has. -/
def State.FrameDue (s : State) (p lseq : Nat) (pkt : WeltPkt) : Prop :=
  lseq = tabGet 0 s.welt.rxSeq p ∧ 1 ≤ pkt.kind.toNat ∧ pkt.kind.toNat ≤ 7 ∧ pkt.len.toNat ≤ 64 ∧ pkt.len.toNat = pkt.payload.length

section
variable {s : State} {p lseq frac : Nat} {pkt : WeltPkt} (hup : s.weltUp p = true)
  (hrun : s.halted = false ∨ s.flag Fd.DBG_CTL_WELTRUN = true) (hdue : s.FrameDue p lseq pkt)
include hup hrun hdue

theorem frameIn_due : s.frameIn p true lseq pkt frac =
    if !(s.frameTaken p lseq pkt.kind.toNat).trusted p && (pkt.kind.toNat == 1 || pkt.kind.toNat == 7) then
      (s.frameTaken p lseq pkt.kind.toNat).weltDrop (some p) 2
    else if pkt.kind.toNat = 1 ∨ pkt.dest.toNat = s.devId then
      ((s.frameTaken p lseq pkt.kind.toNat).bootContexts p pkt).weltDeliver (some p) pkt
        ((s.time.now * 65536 + frac % 65536) / 1024 * 1024)
    else if (s.frameTaken p lseq pkt.kind.toNat).fenced uSwitch then (s.frameTaken p lseq pkt.kind.toNat).weltDrop (some p) 7
    else (s.frameTaken p lseq pkt.kind.toNat).weltForward (some p) p pkt := by
  obtain ⟨hseq, hk1, hk7, hlen, hpay⟩ := hdue
  unfold State.frameIn
  have hform : ¬ (pkt.kind.toNat = 0 ∨ 8 ≤ pkt.kind.toNat ∨ 64 < pkt.len.toNat ∨ pkt.len.toNat ≠ pkt.payload.length) := by omega
  rw [weltOpen hup hrun, if_neg Bool.false_ne_true, Bool.not_true, if_neg Bool.false_ne_true, if_neg (not_not_intro hseq)]
  dsimp only
  rw [if_neg hform, if_pos (show 1 ≤ pkt.kind.toNat ∧ pkt.kind.toNat ≤ 7 from ⟨hk1, hk7⟩)]
  rfl

theorem frameIn_forward {q : Nat} {alt : Bool} (htrust : (s.frameTaken p lseq pkt.kind.toNat).trusted p = true ∨ pkt.kind.toNat ≠ 7)
    (hkind : pkt.kind.toNat ≠ 1) (hdest : pkt.dest.toNat ≠ s.devId)
    (hfence : (s.frameTaken p lseq pkt.kind.toNat).fenced uSwitch = false)
    (hroute : (s.frameTaken p lseq pkt.kind.toNat).weltRoute pkt.dest.toNat = some (q, alt)) (hhop : pkt.hop.toNat < 16) :
    s.frameIn p true lseq pkt frac = (s.frameTaken p lseq pkt.kind.toNat).weltQueue q ⟨p, pkt, alt, 0⟩ := by
  have hok : ¬ (!(s.frameTaken p lseq pkt.kind.toNat).trusted p && (pkt.kind.toNat == 1 || pkt.kind.toNat == 7)) = true := by
    rcases htrust with h | h <;> simp [h, hkind]
  rw [frameIn_due hup hrun hdue, if_neg hok, if_neg (not_or.mpr ⟨hkind, hdest⟩), hfence, if_neg Bool.false_ne_true, State.weltForward,
    hroute]
  exact if_neg (Nat.not_le.mpr hhop)

theorem frameIn_deliver (htrust : (s.frameTaken p lseq pkt.kind.toNat).trusted p = true ∨ pkt.kind.toNat ≠ 7 ∧ pkt.kind.toNat ≠ 1)
    (hdest : pkt.kind.toNat = 1 ∨ pkt.dest.toNat = s.devId)
    (hboot : (s.frameTaken p lseq pkt.kind.toNat).sec.ctxSet = true ∨ pkt.kind.toNat ≠ 7) :
    s.frameIn p true lseq pkt frac =
      (s.frameTaken p lseq pkt.kind.toNat).weltDeliver (some p) pkt ((s.time.now * 65536 + frac % 65536) / 1024 * 1024) := by
  have hok : ¬ (!(s.frameTaken p lseq pkt.kind.toNat).trusted p && (pkt.kind.toNat == 1 || pkt.kind.toNat == 7)) = true := by
    rcases htrust with h | ⟨h7, h1⟩
    · simp [h]
    · simp [h7, h1]
  have hset : (s.frameTaken p lseq pkt.kind.toNat).bootContexts p pkt = s.frameTaken p lseq pkt.kind.toNat := by
    unfold State.bootContexts
    refine if_neg fun ⟨_, h7, _, _, _, hnot⟩ => ?_
    rcases hboot with h | h
    · rw [h] at hnot
      exact Bool.false_ne_true hnot
    · exact h (congrArg BitVec.toNat h7)
  rw [frameIn_due hup hrun hdue, if_neg hok, if_pos hdest, hset]

end

/-! ### A packet delivered (R344, R348) -/

/-- A message's end or start leaves waiting packets and the ports' sequence numbers. -/
theorem fcMessage_keeps (s : State) (c : Nat) (first last : Bool) :
    (s.fcMessage c first last).welt.inbox = s.welt.inbox ∧ (s.fcMessage c first last).welt.rxSeq = s.welt.rxSeq ∧
      ∀ w, { s.fcMessage c first last with welt := w } = { s with welt := w } := by
  cases last <;> cases first <;> exact ⟨rfl, rfl, fun _ => rfl⟩

theorem fcBoundary_keeps (s : State) (pkt : WeltPkt) :
    (s.fcBoundary pkt).welt.inbox = s.welt.inbox ∧ (s.fcBoundary pkt).welt.rxSeq = s.welt.rxSeq ∧
      ∀ w, { s.fcBoundary pkt with welt := w } = { s with welt := w } := by
  unfold State.fcBoundary
  dsimp only
  split
  · exact fcMessage_keeps _ _ _ _
  · exact ⟨rfl, rfl, fun _ => rfl⟩

theorem weltDeliver_keeps {u : State} {arr : Option Nat} {pkt : WeltPkt} {stamp : Nat}
    (haccept : (u.fcBoundary pkt).weltRefuse pkt = none) (hformat : weltFormatOk pkt = true) :
    (u.weltDeliver arr pkt stamp).welt.inbox = u.welt.inbox ++ [⟨arr, pkt, stamp⟩] ∧
      (u.weltDeliver arr pkt stamp).welt.rxSeq = u.welt.rxSeq ∧
      ∀ w, { u.weltDeliver arr pkt stamp with welt := w } = { u with welt := w } := by
  obtain ⟨hinbox, hrx, hrest⟩ := fcBoundary_keeps u pkt
  have hjoined : ((u.fcBoundary pkt).modWelt (fun w => { w with inbox := w.inbox ++ [⟨arr, pkt, stamp⟩] })).welt.inbox =
      u.welt.inbox ++ [⟨arr, pkt, stamp⟩] := by
    rw [welt_modWelt, hinbox]
  unfold State.weltDeliver
  dsimp only
  rw [haccept, hformat]
  dsimp only
  rw [Bool.not_true, if_neg Bool.false_ne_true]
  split
  case h_1 | h_2 => exact ⟨hjoined, hrx, hrest⟩
  all_goals
    obtain ⟨hinbox', hrx', hrest'⟩ := fcMessage_keeps
      ((u.fcBoundary pkt).modWelt (fun w => { w with inbox := w.inbox ++ [⟨arr, pkt, stamp⟩] })) _ pkt.first pkt.last
    exact ⟨hinbox'.trans hjoined, hrx'.trans hrx, fun w => (hrest' w).trans (hrest w)⟩

/-! ### To its port (R345) or its block (R344, R346) -/

section
variable {s : State} {p : Fin 8} {pkt : WeltPkt} {frac : BitVec 16} {lseq : BitVec 12} {fec : List Nat} (he : s.inEpisode = false)
  (hup : s.weltUp p = true) (hrun : s.halted = false ∨ s.flag Fd.DBG_CTL_WELTRUN = true) (hseq : lseq.toNat = tabGet 0 s.welt.rxSeq p)

/-- The state by which a frame in sequence is judged. -/
theorem frameAs_taken (hk : pkt.kind.toNat ≤ 7) : FrameAs s ((s.trafficErrs p fec).frameTaken p lseq.toNat pkt.kind.toNat) :=
  (((frameAs_refl s).trafficErrs p.isLt fec).expect _).weltCount p.isLt (by omega)

theorem welt_taken : ((s.trafficErrs p fec).frameTaken p lseq.toNat pkt.kind.toNat).welt =
    { s.welt with rxSeq := tabPut 0 s.welt.rxSeq p ((lseq.toNat + 1) % 4096) } := by
  rw [State.frameTaken, weltCount_welt, welt_modWelt, welt_of_regsOnly (regsOnly_frameErrs s p 25 fec)]

theorem regsOnly_taken : RegsOnly (frameRegs p (8 + pkt.kind.toNat)) s
    { (s.trafficErrs p fec).frameTaken p lseq.toNat pkt.kind.toNat with welt := s.welt } := by
  have herrs := regsOnly_frameErrs s p (8 + pkt.kind.toNat) fec
  refine regsOnly_trans herrs ?_
  rw [← welt_of_regsOnly herrs]
  exact regsOnly_modWelt (regsOnly_frameCount _ p _)

include he hup hrun hseq

theorem frameForward_answers {q : Nat} {alt : Bool} (hk2 : 2 ≤ pkt.kind.toNat) (hk7 : pkt.kind.toNat ≤ 7) (hlen : pkt.len.toNat ≤ 64)
    (hpay : pkt.len.toNat = pkt.payload.length) (htrust : s.trusted p = true ∨ pkt.kind.toNat ≠ 7) (hdest : pkt.dest.toNat ≠ s.devId)
    (hfence : s.fenced uSwitch = false) (hroute : s.weltRoute pkt.dest.toNat = some (q, alt)) (hhop : pkt.hop.toNat < 16) :
    Answers (.weltFrameReceive p true lseq pkt frac fec) s (fun t =>
      tabGet [] t.welt.queue q = tabGet [] s.welt.queue q ++ [⟨p, pkt, alt, 0⟩] ∧
      tabGet 0 t.welt.rxSeq p = (lseq.toNat + 1) % 4096 ∧
      RegsOnly (frameRegs p (8 + pkt.kind.toNat)) s { t with welt := s.welt }) := by
  have herrs : FrameAs s (s.trafficErrs p fec) := (frameAs_refl s).trafficErrs p.isLt fec
  have htaken : FrameAs s ((s.trafficErrs p fec).frameTaken p lseq.toNat pkt.kind.toNat) := frameAs_taken hk7
  have hwelt := welt_of_regsOnly (regsOnly_frameErrs s p 25 fec)
  have hin : (s.trafficErrs p fec).frameIn p true lseq.toNat pkt frac.toNat =
      ((s.trafficErrs p fec).frameTaken p lseq.toNat pkt.kind.toNat).weltQueue q ⟨p, pkt, alt, 0⟩ := by
    refine frameIn_forward ((herrs.weltUp p.isLt).trans hup) (weltRuns_frame herrs hrun)
      ⟨by rw [hwelt]; exact hseq, by omega, hk7, hlen, hpay⟩ ?_ (by omega) ?_ ((htaken.fenced _).trans hfence)
      ((htaken.weltRoute _).trans hroute) hhop
    · rwa [htaken.trusted]
    · rwa [herrs.devId]
  refine answers_event rfl he ?_
  rw [hin]
  refine ⟨?_, ?_, ?_⟩
  · rw [queue_weltQueue, welt_taken]
  · rw [State.weltQueue, welt_modWelt, welt_taken]
    exact tabGet_put_same _ _ _ _
  · rw [State.weltQueue, withWelt_modWelt]
    exact regsOnly_taken

theorem frameDeliver_answers (hk1 : 1 ≤ pkt.kind.toNat) (hk7 : pkt.kind.toNat ≤ 7) (hlen : pkt.len.toNat ≤ 64)
    (hpay : pkt.len.toNat = pkt.payload.length) (htrust : s.trusted p = true ∨ pkt.kind.toNat ≠ 7 ∧ pkt.kind.toNat ≠ 1)
    (hdest : pkt.kind.toNat = 1 ∨ pkt.dest.toNat = s.devId) (hboot : s.sec.ctxSet = true ∨ pkt.kind.toNat ≠ 7)
    (haccept : (s.fcBoundary pkt).weltRefuse pkt = none) (hformat : weltFormatOk pkt = true) :
    Answers (.weltFrameReceive p true lseq pkt frac fec) s (fun t =>
      t.welt.inbox = s.welt.inbox ++ [⟨some p.val, pkt, (s.time.now * 65536 + frac.toNat) / 1024 * 1024⟩] ∧
      tabGet 0 t.welt.rxSeq p = (lseq.toNat + 1) % 4096 ∧
      RegsOnly (frameRegs p (8 + pkt.kind.toNat)) s { t with welt := s.welt }) := by
  have herrs : FrameAs s (s.trafficErrs p fec) := (frameAs_refl s).trafficErrs p.isLt fec
  have htaken : FrameAs s ((s.trafficErrs p fec).frameTaken p lseq.toNat pkt.kind.toNat) := frameAs_taken hk7
  have hwelt := welt_of_regsOnly (regsOnly_frameErrs s p 25 fec)
  obtain ⟨_, _, _, _, htime, _, _⟩ := herrs.hidden
  obtain ⟨_, _, _, _, _, hsec, _⟩ := htaken.hidden
  have hin : (s.trafficErrs p fec).frameIn p true lseq.toNat pkt frac.toNat =
      ((s.trafficErrs p fec).frameTaken p lseq.toNat pkt.kind.toNat).weltDeliver (some p) pkt
        ((s.time.now * 65536 + frac.toNat) / 1024 * 1024) := by
    have h := frameIn_deliver (lseq := lseq.toNat) (frac := frac.toNat) ((herrs.weltUp p.isLt).trans hup) (weltRuns_frame herrs hrun)
      ⟨by rw [hwelt]; exact hseq, hk1, hk7, hlen, hpay⟩ (by rwa [htaken.trusted]) (by rwa [herrs.devId]) (by rwa [hsec])
    rwa [htime, Nat.mod_eq_of_lt frac.isLt] at h
  obtain ⟨hinbox, hrx, hrest⟩ := weltDeliver_keeps (arr := some p.val) (stamp := (s.time.now * 65536 + frac.toNat) / 1024 * 1024)
    (((htaken.fcBoundary pkt).weltRefuse pkt).trans haccept) hformat
  refine answers_event rfl he ?_
  rw [hin]
  refine ⟨?_, ?_, ?_⟩
  · rw [hinbox, welt_taken]
  · rw [hrx, welt_taken]
    exact tabGet_put_same _ _ _ _
  · rw [hrest]
    exact regsOnly_taken

end

end Sys2Proof.Machine
end

section
/-! Packets of a message on a flow (R349, R352): what they leave of the inbox, the flow's sequence numbers and memory. -/
namespace Sys2Proof.Machine

/-! ## One packet -/

/-- `t` is `s` but for Welt's hidden state, which counts flows alike and, where packets leave for another device, holds the same
waiting packets. -/
def SentAs (away : Prop) (s t : State) : Prop :=
  (∀ w, { t with welt := w } = { s with welt := w }) ∧ t.welt.flowSeq = s.welt.flowSeq ∧ (away → t.welt.inbox = s.welt.inbox)

namespace SentAs

variable {away : Prop} {s t u : State}

theorem refl (away : Prop) (s : State) : SentAs away s s := ⟨fun _ => rfl, rfl, fun _ => rfl⟩

theorem trans (h : SentAs away s t) (g : SentAs away t u) : SentAs away s u :=
  ⟨fun w => (g.1 w).trans (h.1 w), g.2.1.trans h.2.1, fun ha => (g.2.2 ha).trans (h.2.2 ha)⟩

theorem fcMessage (away : Prop) (s : State) (c : Nat) (first last : Bool) : SentAs away s (s.fcMessage c first last) := by
  cases last <;> cases first <;> exact ⟨fun _ => rfl, rfl, fun _ => rfl⟩

theorem fcBoundary (away : Prop) (s : State) (pkt : WeltPkt) : SentAs away s (s.fcBoundary pkt) := by
  unfold State.fcBoundary
  dsimp only
  split
  · exact fcMessage _ _ _ _ _
  · exact refl _ _

theorem weltForward (away : Prop) (s : State) (src : Nat) (pkt : WeltPkt) : SentAs away s (s.weltForward none src pkt) := by
  unfold State.weltForward
  split
  · exact refl _ _
  · split
    · exact refl _ _
    · exact ⟨fun _ => rfl, rfl, fun _ => rfl⟩

/-- A packet of this device that it keeps. -/
theorem weltDeliver (s : State) (pkt : WeltPkt) (stamp : Nat) : SentAs False s (s.weltDeliver none pkt stamp) := by
  have hstart := fcBoundary False s pkt
  have hjoined : SentAs False s ((s.fcBoundary pkt).modWelt (fun w => { w with inbox := w.inbox ++ [⟨none, pkt, stamp⟩] })) :=
    ⟨hstart.1, hstart.2.1, False.elim⟩
  unfold State.weltDeliver
  dsimp only
  split
  · exact hstart
  · split
    · exact hstart
    · split
      case h_1 | h_2 => exact hjoined
      all_goals exact hjoined.trans (fcMessage _ _ _ _ _)

theorem weltSend (s : State) (pkt : WeltPkt) : SentAs (pkt.dest.toNat ≠ s.devId) s (s.weltSend pkt) := by
  unfold State.weltSend
  split
  · exact refl _ _
  · split
    · next hown =>
      obtain ⟨hrest, hflow, _⟩ := weltDeliver s pkt 0
      exact ⟨hrest, hflow, fun h => absurd hown h⟩
    · exact weltForward _ _ _ _

end SentAs

/-- A packet of a flow: its sequence number is the flow's, and the flow's goes up. -/
theorem weltFlow_sent {s : State} (c kind dflow : Nat) {dest : Nat} (first last : Bool) (ws : List Nat) (hdest : dest < 2 ^ 11) :
    SentAs (dest ≠ s.devId)
      (s.modWelt (fun w => { w with flowSeq := tabPut 0 w.flowSeq (c * 2048 + dest) ((tabGet 0 s.welt.flowSeq (c * 2048 + dest) + 1) % 4096) }))
      (s.weltFlow c kind dest dflow first last ws) := by
  have hto : (BitVec.ofNat 11 dest).toNat = dest := (BitVec.toNat_ofNat dest 11).trans (Nat.mod_eq_of_lt hdest)
  unfold State.weltFlow
  dsimp only
  refine SentAs.trans ?_ (SentAs.fcMessage _ _ _ _ _)
  have h := SentAs.weltSend (s.modWelt (fun w => { w with
      flowSeq := tabPut 0 w.flowSeq (c * 2048 + dest) ((tabGet 0 s.welt.flowSeq (c * 2048 + dest) + 1) % 4096) }))
    (WeltPkt.mk (BitVec.ofNat 4 kind) 0 (BitVec.ofNat 11 dest) (BitVec.ofNat 11 dflow) (BitVec.ofNat 11 s.devId) first last
      (BitVec.ofNat 12 (tabGet 0 s.welt.flowSeq (c * 2048 + dest))) (BitVec.ofNat 7 ws.length) (ws.map (fun v => BitVec.ofNat 32 v)))
  rwa [hto] at h

theorem flowSeq_weltFlow {s : State} (c kind dflow : Nat) {dest : Nat} (first last : Bool) (ws : List Nat) (hdest : dest < 2 ^ 11) :
    tabGet 0 (s.weltFlow c kind dest dflow first last ws).welt.flowSeq (c * 2048 + dest) =
      (tabGet 0 s.welt.flowSeq (c * 2048 + dest) + 1) % 4096 := by
  obtain ⟨_, hflow, _⟩ := weltFlow_sent (s := s) c kind dflow first last ws hdest
  rw [hflow, welt_modWelt]
  exact tabGet_put_same _ _ _ _

theorem devId_weltFlow {s : State} (c kind dflow : Nat) {dest : Nat} (first last : Bool) (ws : List Nat) (hdest : dest < 2 ^ 11) :
    (s.weltFlow c kind dest dflow first last ws).devId = s.devId := by
  obtain ⟨hrest, _⟩ := weltFlow_sent (s := s) c kind dflow first last ws hdest
  have hregs : (s.weltFlow c kind dest dflow first last ws).regs = s.regs := (congrArg State.regs (hrest s.welt) :)
  exact get_of_reg (reg_of_regs hregs _)

/-! ## A message -/

section
variable (c kind dflow : Nat) {dest : Nat} (n : Nat) (hdest : dest < 2 ^ 11)
include hdest

theorem flowSeq_packets (x : List Nat × Nat) (l : List (List Nat × Nat)) (s : State) :
    tabGet 0 ((x :: l).foldl (fun a p => a.weltFlow c kind dest dflow (p.2 == 0) (p.2 + 1 == n) p.1) s).welt.flowSeq (c * 2048 + dest) =
      (tabGet 0 s.welt.flowSeq (c * 2048 + dest) + (x :: l).length) % 4096 := by
  induction l generalizing x s with
  | nil => exact flowSeq_weltFlow _ _ _ _ _ _ hdest
  | cons y l ih =>
    rw [List.foldl_cons, ih, flowSeq_weltFlow _ _ _ _ _ _ hdest]
    simp only [List.length_cons]
    omega

theorem inbox_packets (l : List (List Nat × Nat)) (s : State) (haway : dest ≠ s.devId) :
    (l.foldl (fun a p => a.weltFlow c kind dest dflow (p.2 == 0) (p.2 + 1 == n) p.1) s).welt.inbox = s.welt.inbox := by
  induction l generalizing s with
  | nil => rfl
  | cons x l ih =>
    obtain ⟨_, _, hinbox⟩ := weltFlow_sent (s := s) c kind dflow (x.2 == 0) (x.2 + 1 == n) x.1 hdest
    rw [List.foldl_cons, ih _ (by rwa [devId_weltFlow _ _ _ _ _ _ hdest])]
    exact hinbox haway

end

/-- An answer's packets go out on the flow of the device that asked. -/
theorem tileAnswer_keeps (s : State) {dev : Nat} (tag st : Nat) (d : List Nat) (hdev : dev < 2 ^ 11) :
    tabGet 0 (s.tileAnswer dev tag st d).welt.flowSeq dev = (tabGet 0 s.welt.flowSeq dev +
        (answerPackets (st * 2 ^ 30 + tag * 65536 + d.length / 64) (bytesWords d)).length) % 4096 ∧
      (dev ≠ s.devId → (s.tileAnswer dev tag st d).welt.inbox = s.welt.inbox) ∧ (s.tileAnswer dev tag st d).mem = s.mem := by
  unfold State.tileAnswer
  generalize hps : answerPackets (st * 2 ^ 30 + tag * 65536 + d.length / 64) (bytesWords d) = ps
  refine ⟨?_, inbox_packets 0 3 0 ps.length hdev _ s, (kept_weltMessage s 0 3 dev 0 ps (kept_refl s)).1⟩
  cases ps with
  | nil => exact absurd hps (List.cons_ne_nil _ _)
  | cons x l =>
    have h := flowSeq_packets 0 3 0 (x :: l).length hdev (x, 0) (l.zipIdx 1) s
    have hlen : ((x, 0) :: l.zipIdx 1).length = (x :: l).length := congrArg Nat.succ List.length_zipIdx
    rw [Nat.zero_mul, Nat.zero_add, hlen] at h
    unfold State.weltMessage
    rw [List.zipIdx_cons]
    exact h

end Sys2Proof.Machine
end

section
/-! The remote tile service (R350, R352, R355): requests served, and answers that reach the requests of this device. -/
namespace Sys2Proof.Machine

/-! ## Answers to requests of this device (R355) -/

/-- A request once it has an answer. -/
def RemReq.answered (tag st : Nat) (d : List Nat) (q : RemReq) : RemReq := if q.tag = tag then { q with ans := some (st, d) } else q

theorem tag_answered (tag st : Nat) (d : List Nat) (q : RemReq) : (q.answered tag st d).tag = q.tag := by
  unfold RemReq.answered
  split <;> rfl

theorem find?_answered {l : List RemReq} {tag : Nat} {r : RemReq} (st : Nat) (d : List Nat) (h : l.find? (fun q => q.tag == tag) = some r) :
    (l.map (RemReq.answered tag st d)).find? (fun q => q.tag == tag) = some { r with ans := some (st, d) } := by
  have hsame : (fun q : RemReq => q.tag == tag) ∘ RemReq.answered tag st d = fun q => q.tag == tag :=
    funext fun q => congrArg (· == tag) (tag_answered tag st d q)
  have htag : r.tag = tag := by simpa using List.find?_some h
  rw [List.find?_map, hsame, h, Option.map_some, RemReq.answered, if_pos htag]

/-- The state once request `tag` has its answer. -/
def State.reqDone (s : State) (tag st : Nat) (d : List Nat) : State :=
  s.modWelt (fun v => { v with reqs := v.reqs.map (RemReq.answered tag st d) })

theorem reqTag_reqDone {s t : State} {tag : Nat} {r : RemReq} (st : Nat) (d : List Nat) (h : s.reqTag tag = some r)
    (ht : t.welt = (s.reqDone tag st d).welt) : (t.reqTag tag).map (fun x => x.ans) = some (some (st, d)) := by
  have hfound : t.reqTag tag = some { r with ans := some (st, d) } := by
    unfold State.reqTag
    rw [ht]
    exact find?_answered st d h
  rw [hfound]
  rfl

theorem reqTag_tag {s : State} {tag : Nat} {r : RemReq} (h : s.reqTag tag = some r) : r.tag = tag := by
  unfold State.reqTag at h
  simpa using List.find?_some h

/-- A requester other than a Sole keeps its answer; an error is recorded. -/
theorem reqAnswer_bus {s : State} {port : Option Nat} {r : RemReq} {q : Nat} (st : Nat) (d : List Nat) (hwho : r.who = .bus q)
    (hans : r.ans = none) : s.reqAnswer port r st d =
      if st = 0 then s.reqDone r.tag st d else (s.reqDone r.tag st d).report (uMaster (busMaster q)) 0x06 1 st := by
  unfold State.reqAnswer
  rw [hwho, hans]
  rfl

theorem reqAnswer_keeps {s : State} {port : Option Nat} {r : RemReq} {q : Nat} (st : Nat) (d : List Nat) (hwho : r.who = .bus q)
    (hans : r.ans = none) :
    (s.reqAnswer port r st d).welt = (s.reqDone r.tag st d).welt ∧ (s.reqAnswer port r st d).mem = s.mem ∧
      (st ≠ 0 → Recorded s (s.reqAnswer port r st d) (uMaster (busMaster q)) 0x06 1 st) := by
  rw [reqAnswer_bus st d hwho hans]
  split
  · next h0 => exact ⟨rfl, rfl, fun h => absurd h0 h⟩
  · exact ⟨((fabricAs_refl _).report _ _ _ _).welt, mem_report _ _ _ _ _,
      fun _ => recorded_report (modWelt_hub _ _) (modWelt_time _ _) _ _ _ _⟩

/-- A whole answer that waits. -/
theorem tileansReceive_answers {s : State} {i : InP} {r : RemReq} {q : Nat} {ps : List InP} {ws : List Nat}
    (hps : ps = ansPackets ((s.welt.inbox.filter (fun j => j.pkt.kind == 3#4 && j.pkt.src == i.pkt.src)).dropWhile
      (fun j => !j.pkt.first)))
    (hws : ws = (ps.map (fun j => j.pkt.payload.map (fun v => v.toNat))).flatten) (he : s.inEpisode = false) (hh : s.halted = false)
    (hi : s.welt.inbox.find? (fun j => j.pkt.kind == 3#4 && j.pkt.first) = some i) (hwhole : ps.any (fun j => j.pkt.last) = true)
    (hr : s.reqTag (nbits (ws.headD 0) 29 16) = some r) (hdev : r.dev = i.pkt.src.toNat) (hwho : r.who = .bus q)
    (hans : r.ans = none) :
    Answers .tileansReceive s (fun t =>
      (t.reqTag r.tag).map (fun x => x.ans) = some (some (ws.headD 0 / 2 ^ 30, wordBytes ws.tail)) ∧
      (ws.headD 0 / 2 ^ 30 ≠ 0 → Recorded s t (uMaster (busMaster q)) 0x06 1 (ws.headD 0 / 2 ^ 30)) ∧ t.mem = s.mem) := by
  have hin : s.tileAnsIn = (s.modWelt (fun w => { w with inbox := ps.foldl (fun l j => dropOne j l) w.inbox })).reqAnswer i.port r
      (ws.headD 0 / 2 ^ 30) (wordBytes ws.tail) := by
    have hreq : (s.modWelt (fun w => { w with inbox := ps.foldl (fun l j => dropOne j l) w.inbox })).reqTag
        (nbits (ws.headD 0) 29 16) = some r := hr
    unfold State.tileAnsIn
    rw [hi]
    dsimp only
    rw [← hps, ← hws, hh, hwhole, hreq]
    exact if_neg (not_not_intro hdev)
  obtain ⟨hwelt, hmem, hrec⟩ := reqAnswer_keeps (s := s.modWelt (fun w => { w with inbox := ps.foldl (fun l j => dropOne j l) w.inbox }))
    (port := i.port) (ws.headD 0 / 2 ^ 30) (wordBytes ws.tail) hwho hans
  refine answers_event rfl he ?_
  rw [hin]
  refine ⟨?_, fun hst => hrec hst, hmem.trans (modWelt_mem _ _)⟩
  have htag := reqTag_tag hr
  rw [htag] at hwelt ⊢
  exact reqTag_reqDone (s := s.modWelt (fun w => { w with inbox := ps.foldl (fun l j => dropOne j l) w.inbox })) _ _ hr hwelt

theorem remoteTimeout_answers {s : State} {tag : Fin 65536} {r : RemReq} {q : Nat} (he : s.inEpisode = false)
    (hr : s.reqTag tag = some r) (hwho : r.who = .bus q) (hq : q < 256 ∨ 288 ≤ q) (hans : r.ans = none)
    (hlate : 125 * max 1 (s.get Fd.WELT_TSCFG_TIMEOUT) ≤ 2 * ((s.time.now + 2 ^ 56 - r.sent) % 2 ^ 56)) :
    Answers (.remoteTimeout tag) s (fun t =>
      (t.reqTag tag).map (fun x => x.ans) = some (some (3, [])) ∧ Recorded s t (uMaster (busMaster q)) 0x04 1 0 ∧ t.mem = s.mem) := by
  have hin : s.remTimeout tag = (s.reqDone tag 3 []).report (uMaster (busMaster q)) 0x04 1 0 := by
    have hexp : s.remExpired r = true := decide_eq_true hlate
    unfold State.remTimeout
    rw [hr]
    dsimp only
    rw [hwho]
    exact if_pos ⟨hq, hans, hexp⟩
  refine answers_event rfl he ?_
  rw [hin]
  exact ⟨reqTag_reqDone 3 [] hr ((fabricAs_refl _).report _ _ _ _).welt, recorded_report (modWelt_hub _ _) (modWelt_time _ _) _ _ _ _,
    mem_report _ _ _ _ _⟩

end Sys2Proof.Machine
end

section
/-! The remote tile service's reads (R350, R352): a request of another device is answered, one of this device reaches its request. -/
namespace Sys2Proof.Machine

section
variable {s u : State} {i : InP} {es : List BurstEnd} {op st : Nat} {d : List Nat} (hh : s.halted = false) (hop : op ≠ 1)
  (hi : s.welt.inbox.find? (fun x => x.pkt.kind == 2#4 && x.pkt.w 0 / 2 ^ 30 == op) = some i)
include hh hop hi

theorem tileServe_remote {pt : Nat} (hport : i.port = some pt)
    (hr : (s.took i).serveRead 0x18 op (i.pkt.w 1 % 2 ^ 28) (i.pkt.w 2 % 65536) (i.pkt.w 2) (i.pkt.w 3 % 65536) es = some (u, st, d)) :
    s.tileServe op es = u.tileAnswer i.pkt.src.toNat (nbits (i.pkt.w 0) 29 16) st d := by
  unfold State.tileServe
  rw [hh, if_neg Bool.false_ne_true, takeIn_eq hi]
  dsimp only
  rw [hport, Option.isNone_some, Bool.false_and, if_neg Bool.false_ne_true, if_neg Bool.false_ne_true, if_neg hop, hr]
  exact if_neg Bool.false_ne_true

theorem tileServe_own {r : RemReq} (hport : i.port = none) (hreq : s.reqTag (nbits (i.pkt.w 0) 29 16) = some r)
    (hr : (s.took i).serveRead r.master op (i.pkt.w 1 % 2 ^ 28) (i.pkt.w 2 % 65536) (i.pkt.w 2) (i.pkt.w 3 % 65536) es =
      some (u, st, d)) :
    s.tileServe op es = u.reqAnswer none r st d := by
  have htook : (s.took i).reqTag (nbits (i.pkt.w 0) 29 16) = some r := hreq
  unfold State.tileServe
  rw [hh, if_neg Bool.false_ne_true, takeIn_eq hi]
  dsimp only
  rw [hport, htook, Option.isNone_none, Bool.true_and, Option.isNone_some, if_neg Bool.false_ne_true, if_neg hop, if_pos rfl]
  dsimp only
  rw [hr]
  exact if_pos rfl

end

theorem devId_of_fabric {s t : State} (h : FabricAs s t) : t.devId = s.devId := by
  have hkey : fabricKey Rg.WELT_ID := by
    unfold fabricKey
    decide
  exact h.get hkey

section
variable {s u : State} {i : InP} {op st : Nat} {d : List Nat} (es : List BurstEnd)

/-- What a read request of another device leaves. -/
theorem tileServe_remote_keeps {pt : Nat} (hh : s.halted = false) (hop : op ≠ 1)
    (hi : s.welt.inbox.find? (fun x => x.pkt.kind == 2#4 && x.pkt.w 0 / 2 ^ 30 == op) = some i) (hport : i.port = some pt)
    (hr : (s.took i).serveRead 0x18 op (i.pkt.w 1 % 2 ^ 28) (i.pkt.w 2 % 65536) (i.pkt.w 2) (i.pkt.w 3 % 65536) es = some (u, st, d)) :
    tabGet 0 (s.tileServe op es).welt.flowSeq i.pkt.src.toNat = (tabGet 0 s.welt.flowSeq i.pkt.src.toNat +
        (answerPackets (st * 2 ^ 30 + nbits (i.pkt.w 0) 29 16 * 65536 + d.length / 64) (bytesWords d)).length) % 4096 ∧
      (i.pkt.src.toNat ≠ s.devId → (s.tileServe op es).welt.inbox = dropOne i s.welt.inbox) ∧ (s.tileServe op es).mem = u.mem := by
  have hserve : FabricAs (s.took i) u := (fabricAs_refl _).serveRead hr
  have hdev : u.devId = s.devId := (devId_of_fabric hserve).trans (get_modWelt _ _ _)
  have hwelt : u.welt = (s.took i).welt := hserve.welt
  obtain ⟨hflow, hinbox, hmem⟩ := tileAnswer_keeps u (nbits (i.pkt.w 0) 29 16) st d i.pkt.src.isLt
  rw [tileServe_remote hh hop hi hport hr]
  rw [hwelt] at hflow hinbox
  rw [hdev] at hinbox
  exact ⟨hflow, hinbox, hmem⟩

end

section
variable {s u : State} {i : InP} {st : Nat} {d : List Nat} {e : Env}

theorem tilereqRead_own_answers {r : RemReq} {q : Nat} (he : s.inEpisode = false) (hh : s.halted = false)
    (hi : s.welt.inbox.find? (fun x => x.pkt.kind == 2#4 && x.pkt.w 0 / 2 ^ 30 == 0) = some i) (hport : i.port = none)
    (hreq : s.reqTag (nbits (i.pkt.w 0) 29 16) = some r) (hwho : r.who = .bus q) (hans : r.ans = none)
    (hr : (s.took i).serveRead r.master 0 (i.pkt.w 1 % 2 ^ 28) (i.pkt.w 2 % 65536) (i.pkt.w 2) (i.pkt.w 3 % 65536) e.ends =
      some (u, st, d)) :
    Answers (.tilereqRead e) s (fun t =>
      (t.reqTag (nbits (i.pkt.w 0) 29 16)).map (fun x => x.ans) = some (some (st, d)) ∧ t.welt.inbox = dropOne i s.welt.inbox ∧
      t.mem = u.mem) := by
  have hwelt : u.welt = (s.took i).welt := ((fabricAs_refl _).serveRead hr).welt
  have hreq' : u.reqTag (nbits (i.pkt.w 0) 29 16) = some r := by
    unfold State.reqTag
    rw [hwelt]
    exact hreq
  obtain ⟨hdone, hmem, _⟩ := reqAnswer_keeps (s := u) (port := none) st d hwho hans
  rw [reqTag_tag hreq] at hdone
  refine answers_quiet rfl he ?_
  rw [tileServe_own hh (by decide) hi hport hreq hr]
  refine ⟨reqTag_reqDone st d hreq' hdone, ?_, hmem⟩
  rw [hdone, State.reqDone, welt_modWelt, hwelt]
  rfl

end

/-! ## Writes (R350) -/

/-! ### Memory under a burst -/

theorem kept_eccError {s₀ : State} (s : State) (a m : Nat) (ue : Bool) (h : Kept s₀ s) : Kept s₀ (s.eccError a m ue) := by
  have h1 : Kept s₀ (if ue then s.bump Fd.MEM_ECCSTAT_UECNT 2047 else s.bump Fd.MEM_ECCSTAT_CECNT 2047) :=
    kept_ite (kept_bump _ _ _ h) (kept_bump _ _ _ h)
  unfold State.eccError
  extract_lets s1 capture s2
  have h2 : Kept s₀ s2 :=
    kept_ite (kept_set _ _ _ (kept_set _ _ _ (kept_set _ _ _ (kept_set _ _ _ (kept_set _ _ _ h1))))) (kept_set _ _ _ h1)
  exact kept_ite (kept_report _ _ _ _ _ h2) (kept_report _ _ _ _ _ h2)

theorem kept_burst {s₀ : State} (s : State) (a m : Nat) (e : BurstEnd) (h : Kept s₀ s) : Kept s₀ (s.burst a m e).1 := by
  unfold State.burst
  cases e with
  | clean => exact h
  | retried => exact kept_bump _ _ _ h
  | failed => exact kept_eccError _ _ _ _ (kept_bump _ _ _ (kept_bump _ _ _ h))
  | corrected => exact kept_ite (kept_eccError _ _ _ _ h) h
  | uncorrectable =>
    dsimp only
    split
    · exact kept_eccError _ _ _ _ h
    · exact h

/-- Whether a burst's data arrives does not depend on Welt's hidden state. -/
theorem burst_took (s : State) (i : InP) (a m : Nat) (e : BurstEnd) : ((s.took i).burst a m e).2 = (s.burst a m e).2 := by
  have hecc : (s.took i).eccAt a = s.eccAt a := rfl
  unfold State.burst
  dsimp only
  rw [hecc]
  cases e with
  | clean | retried | failed | corrected => rfl
  | uncorrectable =>
    dsimp only
    split <;> rfl

/-! ### Bytes stored under byte enables -/

theorem byte_putEnabled_fold (a be x : Nat) (l : List Nat) : ∀ (n : Nat) (s : State),
    ((l.zipIdx n).foldl (fun t y => if nbit be y.2 then t.setByte (a + y.2) y.1 else t) s).byte x =
      if a + n ≤ x ∧ x < a + n + l.length ∧ nbit be (x - a) = true then l.getD (x - a - n) 0 % 256 else s.byte x := by
  induction l with
  | nil =>
    intro n s
    rw [if_neg fun ⟨h1, h2, _⟩ => absurd (Nat.lt_of_le_of_lt h1 h2) (Nat.lt_irrefl _)]
    rfl
  | cons v l ih =>
    intro n s
    rw [List.zipIdx_cons, List.foldl_cons, ih (n + 1)]
    have hkept (hne : x ≠ a + n) : (if nbit be n = true then s.setByte (a + n) v else s).byte x = s.byte x := by
      split
      · exact byte_setByte_other _ _ _ _ hne
      · rfl
    rcases Nat.lt_trichotomy x (a + n) with hx | hx | hx
    · rw [if_neg fun ⟨h1, _⟩ => by omega, hkept (Nat.ne_of_lt hx), if_neg fun ⟨h1, _⟩ => by omega]
    · subst hx
      have hend : a + n < a + n + (v :: l).length := Nat.lt_add_of_pos_right (Nat.succ_pos _)
      rw [if_neg fun ⟨h1, _⟩ => by omega, Nat.add_sub_cancel_left, Nat.sub_self]
      by_cases hbe : nbit be n = true
      · rw [if_pos hbe, if_pos ⟨Nat.le_refl _, hend, hbe⟩]
        exact byte_setByte_same _ _ _
      · rw [if_neg hbe, if_neg fun ⟨_, _, h⟩ => hbe h]
    · have hnext : x - a - n = x - a - (n + 1) + 1 := by omega
      have hrange : (a + (n + 1) ≤ x ∧ x < a + (n + 1) + l.length ∧ nbit be (x - a) = true) ↔
          (a + n ≤ x ∧ x < a + n + (v :: l).length ∧ nbit be (x - a) = true) := by
        rw [List.length_cons]
        constructor <;> rintro ⟨h1, h2, h3⟩ <;> exact ⟨by omega, by omega, h3⟩
      rw [hkept (Nat.ne_of_gt hx), hnext, List.getD_cons_succ]
      exact if_congr hrange rfl rfl

theorem byte_putEnabled (s : State) (a be : Nat) (d : List Nat) (x : Nat) :
    (s.putEnabled a be d).byte x =
      if a ≤ x ∧ x < a + d.length ∧ nbit be (x - a) = true then d.getD (x - a) 0 % 256 else s.byte x :=
  byte_putEnabled_fold a be x d 0 s

theorem wordBytes_cons (w : Nat) (l : List Nat) :
    wordBytes (w :: l) = w % 256 :: w / 256 % 256 :: w / 65536 % 256 :: w / 16777216 % 256 :: wordBytes l := rfl

theorem wordBytes_length (l : List Nat) : (wordBytes l).length = 4 * l.length := by
  induction l with
  | nil => rfl
  | cons w l ih =>
    rw [wordBytes_cons]
    simp only [List.length_cons, ih]
    omega

theorem wordBytes_getD (l : List Nat) : ∀ j, (wordBytes l).getD j 0 = l.getD (j / 4) 0 / 256 ^ (j % 4) % 256 := by
  induction l with
  | nil =>
    intro j
    simp [wordBytes]
  | cons w l ih =>
    intro j
    rw [wordBytes_cons]
    match j with
    | 0 => simp
    | 1 => simp
    | 2 => simp
    | 3 => simp
    | j + 4 =>
      have hdiv : (j + 4) / 4 = j / 4 + 1 := by omega
      have hmod : (j + 4) % 4 = j % 4 := by omega
      rw [List.getD_cons_succ, List.getD_cons_succ, List.getD_cons_succ, List.getD_cons_succ, hdiv, hmod, List.getD_cons_succ]
      exact ih j

/-! ### A write of another device -/

theorem FabricAs.putEnabled {s t : State} (a be : Nat) (d : List Nat) (h : FabricAs s t) : FabricAs s (t.putEnabled a be d) :=
  SteadyClosed.foldl (P := FabricAs s) _ (fun _ _ hu => SteadyClosed.ite (hu.rest rfl rfl rfl) hu) h

/-- The bytes of a write request's data words. -/
def InP.written (i : InP) : List Nat := wordBytes ((List.range 8).map (fun j => i.pkt.w (3 + j)))

section
variable {s : State} {i : InP} {pt : Nat} {es : List BurstEnd} (hh : s.halted = false)
  (hi : s.welt.inbox.find? (fun x => x.pkt.kind == 2#4 && x.pkt.w 0 / 2 ^ 30 == 1) = some i) (hport : i.port = some pt)
  (htrust : s.trusted pt = true) (hro : s.flag Fd.WELT_APCFG_RO = false) (hacc : s.apAcc (i.pkt.w 1 % 2 ^ 28) = .ok)
  (htook : (s.burst (s.apAddr (i.pkt.w 1 % 2 ^ 28) / 64 * 64) 0x18 (es.headD .clean)).2 = true)

/-- The state once a write request is stored. -/
def State.remWritten (s : State) (i : InP) (es : List BurstEnd) : State :=
  ((s.took i).burst (s.apAddr (i.pkt.w 1 % 2 ^ 28) / 64 * 64) 0x18 (es.headD .clean)).1.putEnabled
    (s.apAddr (i.pkt.w 1 % 2 ^ 28) / 32 * 32) (i.pkt.w 2) i.written

include hro hacc htook in
theorem serveWrite_stored :
    (s.took i).serveWrite 0x18 (i.pkt.w 1 % 2 ^ 28) (i.pkt.w 2) i.written true (es.headD .clean) = some (s.remWritten i es, 0) := by
  have hro' : (s.took i).flag Fd.WELT_APCFG_RO = false := hro
  have hacc' : (s.took i).apAcc (i.pkt.w 1 % 2 ^ 28) = .ok := hacc
  have haddr : (s.took i).apAddr (i.pkt.w 1 % 2 ^ 28) = s.apAddr (i.pkt.w 1 % 2 ^ 28) := rfl
  rw [← burst_took s i] at htook
  unfold State.serveWrite
  rw [hro', hacc', haddr, Bool.not_true, Bool.false_or, if_neg Bool.false_ne_true]
  dsimp only
  rw [htook]
  rfl

include hh hi hport htrust hro hacc htook in
theorem tileServe_write : s.tileServe 1 es = (s.remWritten i es).tileAnswer i.pkt.src.toNat (nbits (i.pkt.w 0) 29 16) 0 [] := by
  have hstored : (s.took i).serveWrite 0x18 (i.pkt.w 1 % 2 ^ 28) (i.pkt.w 2) (wordBytes ((List.range 8).map (fun j => i.pkt.w (3 + j))))
      true (es.headD .clean) = some (s.remWritten i es, 0) := serveWrite_stored hro hacc htook
  unfold State.tileServe
  rw [hh, if_neg Bool.false_ne_true, takeIn_eq hi]
  dsimp only
  rw [hport, Option.isNone_some, Bool.false_and, if_neg Bool.false_ne_true, if_neg Bool.false_ne_true, if_pos rfl]
  dsimp only
  rw [htrust, hstored]
  exact if_neg Bool.false_ne_true

include hacc in
theorem fabricAs_remWritten : FabricAs (s.took i) (s.remWritten i es) := by
  have hok : s.gddrAcc (s.apAddr (i.pkt.w 1 % 2 ^ 28)) = .ok := by
    unfold State.apAcc at hacc
    split at hacc
    · exact hacc
    · cases hacc
  have hchan : (s.took i).chanOf (s.apAddr (i.pkt.w 1 % 2 ^ 28) / 64 * 64) < 6 := chanOf_lt hok
  exact FabricAs.putEnabled _ _ _ ((fabricAs_refl _).burst _ _ hchan)

theorem byte_remWritten (x : Nat) :
    (s.remWritten i es).byte x =
      if s.apAddr (i.pkt.w 1 % 2 ^ 28) / 32 * 32 ≤ x ∧ x < s.apAddr (i.pkt.w 1 % 2 ^ 28) / 32 * 32 + 32 ∧
          nbit (i.pkt.w 2) (x - s.apAddr (i.pkt.w 1 % 2 ^ 28) / 32 * 32) = true then
        i.written.getD (x - s.apAddr (i.pkt.w 1 % 2 ^ 28) / 32 * 32) 0 % 256
      else s.byte x := by
  have hmem : ((s.took i).burst (s.apAddr (i.pkt.w 1 % 2 ^ 28) / 64 * 64) 0x18 (es.headD .clean)).1.mem = s.mem :=
    (kept_burst _ _ _ _ (kept_refl _)).1
  have hlen : i.written.length = 32 := wordBytes_length _
  unfold State.remWritten
  rw [byte_putEnabled, hlen, byte_of_mem hmem]

theorem written_getD (i : InP) {j : Nat} (hj : j < 32) : i.written.getD j 0 = i.pkt.w (3 + j / 4) / 256 ^ (j % 4) % 256 := by
  have hword : ((List.range 8).map (fun j => i.pkt.w (3 + j))).getD (j / 4) 0 = i.pkt.w (3 + j / 4) := by
    have hlt : j / 4 < 8 := by omega
    rw [List.getD_eq_getElem?_getD, List.getElem?_map, List.getElem?_range hlt]
    rfl
  unfold InP.written
  rw [wordBytes_getD, hword]

end

theorem tilereqWrite_answers {s : State} {i : InP} {pt : Nat} {e : Env} (he : s.inEpisode = false) (hh : s.halted = false)
    (hi : s.welt.inbox.find? (fun x => x.pkt.kind == 2#4 && x.pkt.w 0 / 2 ^ 30 == 1) = some i) (hport : i.port = some pt)
    (htrust : s.trusted pt = true) (hro : s.flag Fd.WELT_APCFG_RO = false) (hacc : s.apAcc (i.pkt.w 1 % 2 ^ 28) = .ok)
    (htook : (s.burst (s.apAddr (i.pkt.w 1 % 2 ^ 28) / 64 * 64) 0x18 (e.ends.headD .clean)).2 = true) :
    Answers (.tilereqWrite e) s (fun t =>
      (i.pkt.src.toNat ≠ s.devId → t.welt.inbox = dropOne i s.welt.inbox) ∧
      tabGet 0 t.welt.flowSeq i.pkt.src.toNat = (tabGet 0 s.welt.flowSeq i.pkt.src.toNat + 1) % 4096 ∧
      (∀ j : Fin 32, t.byte (s.apAddr (i.pkt.w 1 % 2 ^ 28) / 32 * 32 + j) =
        (if nbit (i.pkt.w 2) j then i.pkt.w (3 + j / 4) / 256 ^ (j.val % 4) % 256
         else s.byte (s.apAddr (i.pkt.w 1 % 2 ^ 28) / 32 * 32 + j))) ∧
      (∀ x, x < s.apAddr (i.pkt.w 1 % 2 ^ 28) / 32 * 32 ∨ s.apAddr (i.pkt.w 1 % 2 ^ 28) / 32 * 32 + 32 ≤ x → t.byte x = s.byte x)) := by
  have hstored : FabricAs (s.took i) (s.remWritten i e.ends) := fabricAs_remWritten hacc
  have hdev : (s.remWritten i e.ends).devId = s.devId := (devId_of_fabric hstored).trans (get_modWelt _ _ _)
  obtain ⟨hflow, hinbox, hmem⟩ := tileAnswer_keeps (s.remWritten i e.ends) (nbits (i.pkt.w 0) 29 16) 0 [] i.pkt.src.isLt
  rw [hstored.welt] at hflow hinbox
  rw [hdev] at hinbox
  refine answers_quiet rfl he ?_
  rw [tileServe_write hh hi hport htrust hro hacc htook]
  refine ⟨hinbox, hflow, fun j => ?_, fun x hx => ?_⟩
  · rw [byte_of_mem hmem, byte_remWritten, Nat.add_sub_cancel_left, written_getD i j.isLt, Nat.mod_mod]
    refine if_congr ⟨fun ⟨_, _, h⟩ => h, fun h => ⟨Nat.le_add_right _ _, Nat.add_lt_add_left j.isLt _, h⟩⟩ rfl rfl
  · rw [byte_of_mem hmem, byte_remWritten]
    exact if_neg fun ⟨h1, h2, _⟩ => by omega

end Sys2Proof.Machine
end

section
/-! The statement about frames, packets and the remote tile service (R337 to R355). -/
namespace Sys2Proof.Machine

/-- Settles O38, one lemma for each of its events. -/
theorem weltLinksComplete : Obligations.WeltLinksComplete := by
  intro s p pkt frac lseq fec e k
  refine ⟨?_, ?_, ?_, weltReplay_answers, ?_, ?_, ?_, ?_, ?_, ?_, ?_, ?_⟩
  · exact fun he ⟨hup, hrun⟩ => frameBad_answers he hup hrun
  · exact fun q alt he ⟨hup, hrun⟩ hseq ⟨hk2, hk7, hlen, hpay⟩ htrust ⟨hdest, hfence⟩ hroute hhop =>
      frameForward_answers he hup hrun hseq hk2 hk7 hlen hpay htrust hdest hfence hroute hhop
  · exact fun he ⟨hup, hrun⟩ hseq ⟨hk1, hk7, hlen, hpay⟩ htrust hdest hboot ⟨haccept, hformat⟩ =>
      frameDeliver_answers he hup hrun hseq hk1 hk7 hlen hpay htrust hdest hboot haccept hformat
  · exact fun credit o he ⟨hup, hrun⟩ ⟨hempty, hnext⟩ => weltNext_answers he hup hrun hempty hnext
  · exact fun credit x rest he ⟨hup, hrun⟩ hx => weltResend_answers he hup hrun hx
  · exact fun i pt u st d he hh hi hport hr => answers_quiet rfl he (tileServe_remote_keeps e.ends hh (by decide) hi hport hr)
  · exact fun i r q u st d he hh hi hport ⟨hreq, hwho, hans⟩ hr => tilereqRead_own_answers he hh hi hport hreq hwho hans hr
  · exact fun i pt u st d he hh hi hport hr => answers_quiet rfl he (tileServe_remote_keeps e.ends hh (by decide) hi hport hr)
  · exact fun i pt he hh hi ⟨hport, htrust⟩ ⟨hro, hacc⟩ htook => tilereqWrite_answers he hh hi hport htrust hro hacc htook
  · exact fun i r q he hh hi hwhole hr ⟨hdev, hwho, hans⟩ => tileansReceive_answers rfl rfl he hh hi hwhole hr hdev hwho hans
  · exact fun tag r q he hr ⟨hwho, hq, hans⟩ hlate => remoteTimeout_answers he hr hwho hq hans hlate

end Sys2Proof.Machine
end
